-- ==== Sys2Proof/Word.lean ====
section
/-! DEFINITION. The word types of the module (R3, R7, R287): bytes, 32-bit lanes and literal words,
64-bit scalars, 256-byte vectors of 64 lanes. -/

namespace Sys2Proof

/-- A byte of memory. -/
abbrev Byte := BitVec 8

/-- A 32-bit word: a literal, a lane, a constant of the bank (R7). -/
abbrev W32 := BitVec 32

/-- A 64-bit scalar (R7). -/
abbrev W64 := BitVec 64

/-- A predicate, or a lane mask: bit i is lane i (R214). -/
abbrev Mask := BitVec 64

/-- A vector register: 64 lanes of 32 bits, 256 bytes (R7). -/
abbrev Vec := Vector W32 64

/-- The vector with the given lanes. -/
def Vec.ofLanes (f : Nat → W32) : Vec := Vector.ofFn fun i => f i.val

/-- Lane `i` of a vector; lanes beyond 63 do not exist and read as zero. -/
def Vec.lane (v : Vec) (i : Nat) : W32 := if h : i < 64 then v[i] else 0#32

/-- The zero vector. -/
def Vec.zero : Vec := Vector.replicate 64 0#32

/-- `new` in the lanes of `m`, `old` elsewhere (R382). -/
def Vec.merge (m : Mask) (new old : Vec) : Vec :=
  Vec.ofLanes fun i => if m.getLsbD i then new.lane i else old.lane i

/-- The 32-bit bit pattern repeated in all lanes. -/
def Vec.splat (x : W32) : Vec := Vector.replicate 64 x

/-- All 64 lanes. -/
def Mask.all : Mask := BitVec.allOnes 64

/-- The mask whose bit i is `f i`. -/
def Mask.ofFn (f : Nat → Bool) : Mask :=
  (List.range 64).foldl (fun m i => if f i then m ||| (1#64 <<< i) else m) 0#64

/-- The lanes of a mask, ascending. -/
def Mask.lanes (m : Mask) : List Nat := (List.range 64).filter fun i => m.getLsbD i

/-- The signed integer of a 64-bit word (R309, Signed). -/
def W64.signed (x : W64) : Int := x.toInt

/-- Bits [hi:lo] of a word as a number (R3, R6). -/
def bits {w : Nat} (x : BitVec w) (hi lo : Nat) : Nat :=
  (x.toNat >>> lo) % 2 ^ (hi - lo + 1)

/-- Bit `i` of a word as a Boolean. -/
def bit {w : Nat} (x : BitVec w) (i : Nat) : Bool := x.getLsbD i

/-- Round up to an integer: Ceil(a ÷ b) (R309). -/
def ceilDiv (a b : Nat) : Nat := (a + b - 1) / b

end Sys2Proof
end

