-- ==== Sys2Proof/Machine/Map.lean ====
section
/-! DEFINITION. Sparse tables: the one form in which the machine holds everything that is indexed by number
(memory, register files, sequencers, channels). A table is a list of (key, value) pairs with strictly rising keys,
and no pair whose value is what an unlisted key reads as; so equal tables are equal data. -/

namespace Sys2Proof.Machine

/-- A sparse table. -/
abbrev SMap (α : Type) := List (Nat × α)

/-- Memory: a table of bytes. -/
abbrev Mem := List Host.Cell

/-- The value at a key; an unlisted key reads as `d`. -/
def SMap.get {α : Type} (d : α) : SMap α → Nat → α
  | [], _ => d
  | (k, v) :: m, i => if i = k then v else if i < k then d else SMap.get d m i

/-- Whether every key of a rising table lies above `k`. -/
def SMap.startsAbove {α : Type} (k : Nat) : SMap α → Bool
  | [] => true
  | (j, _) :: _ => decide (k < j)

/-- Write the value at a key, in canonical form: writing `d` removes the pair. A list that is no table (its keys do not rise) keeps what
it reads as at every other key. -/
def SMap.set {α : Type} [DecidableEq α] (d : α) : SMap α → Nat → α → SMap α
  | [], i, x => if x = d then [] else [(i, x)]
  | (k, v) :: m, i, x =>
    if i = k then (if x = d ∧ SMap.startsAbove i m = true then m else (i, x) :: m)
    else if i < k then (if x = d then (k, v) :: m else (i, x) :: (k, v) :: m)
    else (k, v) :: SMap.set d m i x

/-- Change the value at a key. -/
def SMap.modify {α : Type} [DecidableEq α] (d : α) (m : SMap α) (i : Nat) (f : α → α) : SMap α :=
  SMap.set d m i (f (SMap.get d m i))

/-- Change every listed value, keeping the canonical form. -/
def SMap.mapVals {α : Type} [DecidableEq α] (d : α) (f : α → α) : SMap α → SMap α
  | [] => []
  | (k, v) :: m => if f v = d ∧ SMap.startsAbove k m = true then SMap.mapVals d f m else (k, f v) :: SMap.mapVals d f m

/-- The canonical form: keys strictly rising from above `lo`, and no value equal to `d`. -/
def SMap.wfFrom {α : Type} [DecidableEq α] (d : α) : Option Nat → SMap α → Bool
  | _, [] => true
  | lo, (k, v) :: m => (match lo with | none => true | some l => decide (l < k)) && decide (v ≠ d) && SMap.wfFrom d (some k) m

/-- The canonical form of a table. -/
def SMap.wf {α : Type} [DecidableEq α] (d : α) (m : SMap α) : Bool := SMap.wfFrom d none m

/-- GBASE, the start of the gauge pool (R45, R68, R481). -/
def gaugeBase : Nat := 0x007F00000000

/-- What a byte of memory that nothing has written reads as. In the gauge pool the manual gives reset contents (R69): SSCALE and
PSCALE of every shard hold 0x3F80_0000, all else zero. Elsewhere it gives no contents at power-up: DESIGN CHOICE 0, log entry 1. -/
def Mem.unwritten (a : Nat) : Byte :=
  if gaugeBase ≤ a ∧ a < gaugeBase + 0x4000000 then
    (match a % 256 with
     | 0x92 => 0x80#8
     | 0x93 => 0x3F#8
     | 0x9A => 0x80#8
     | 0x9B => 0x3F#8
     | _ => 0#8)
  else 0#8

/-- The canonical form of a memory from above `lo`: addresses strictly rising, no byte equal to what an unlisted address reads as. -/
def Mem.wfFrom : Option Nat → Mem → Bool
  | _, [] => true
  | lo, (k, v) :: m =>
    (match lo with | none => true | some l => decide (l < k)) && decide (v ≠ Mem.unwritten k) && Mem.wfFrom (some k) m

/-- The canonical form of a memory. -/
def Memory.wf (m : Mem) : Bool := Mem.wfFrom none m

/-- One byte of memory. -/
def Mem.byte (m : Mem) (a : Nat) : Byte := SMap.get (Mem.unwritten a) m a

/-- Write one byte, in canonical form: writing what an unlisted address reads as removes the entry. -/
def Mem.setByte (m : Mem) (a : Nat) (b : Byte) : Mem := SMap.set (Mem.unwritten a) m a b

/-- `n` bytes from an address up. -/
def Mem.read (m : Mem) (a : Nat) : Nat → List Byte
  | 0 => []
  | n + 1 => m.byte a :: Mem.read m (a + 1) n

/-- Write bytes from an address up. -/
def Mem.write (m : Mem) (a : Nat) : List Byte → Mem
  | [] => m
  | b :: bs => Mem.write (m.setByte a b) (a + 1) bs

/-- The number that bytes make, the first the lowest (R3). -/
def leNat : List Byte → Nat
  | [] => 0
  | b :: bs => b.toNat + 256 * leNat bs

/-- The `n` lowest bytes of a number, the lowest first (R3). -/
def toBytes : Nat → Nat → List Byte
  | 0, _ => []
  | n + 1, x => BitVec.ofNat 8 x :: toBytes n (x / 256)

/-- Remove the first element that satisfies a test; what is found, and the list without it. -/
def takeFirst {α : Type} (p : α → Bool) : List α → Option (α × List α)
  | [] => none
  | x :: xs => if p x then some (x, xs) else (takeFirst p xs).map fun r => (r.1, x :: r.2)

/-- Replace the elements that satisfy a test. -/
def mapWhere {α : Type} (p : α → Bool) (f : α → α) (xs : List α) : List α :=
  xs.map fun x => if p x then f x else x

end Sys2Proof.Machine
end

