-- ==== Sys2Proof/Machine/Float.lean ====
section
/-! DEFINITION. Exact real values, the encodings of the element types, and rounding (R288 to R293, R299 to R309). Every result is
computed exactly, as a fraction of naturals with a sign, and rounded once. -/

namespace Sys2Proof.Machine

/-- An exact value: NaN, an infinity, or ±(num ÷ den), plus an amount below 1 ÷ den when `more` is set (a value that is no
fraction, cut off after num ÷ den: R308). Zero has num = 0 and keeps its sign. -/
inductive XR where
  | nan
  | inf (neg : Bool)
  | num (neg : Bool) (num den : Nat) (more : Bool)
  deriving DecidableEq, Repr

/-- ± m × 2^e. -/
def XR.dyadic (neg : Bool) (m : Nat) (e : Int) : XR :=
  if 0 ≤ e then .num neg (m * 2 ^ e.toNat) 1 false else .num neg m (2 ^ (-e).toNat) false

/-- An integer. -/
def XR.ofInt (x : Int) : XR := .num (decide (x < 0)) x.natAbs 1 false

/-- A zero of either sign. -/
def XR.isZero : XR → Bool
  | .num _ n _ more => n == 0 && !more
  | _ => false

/-- The sign, −0 and −∞ included (R309, Sign). -/
def XR.neg? : XR → Bool
  | .nan => false
  | .inf s => s
  | .num s _ _ _ => s

/-- −x. -/
def XR.negate : XR → XR
  | .nan => .nan
  | .inf s => .inf (!s)
  | .num s n d m => .num (!s) n d m

/-- |x|. -/
def XR.abs : XR → XR
  | .nan => .nan
  | .inf _ => .inf false
  | .num _ n d m => .num false n d m

/-- x × y, with zero times an infinity NaN (R290). -/
def XR.mul : XR → XR → XR
  | .nan, _ => .nan
  | _, .nan => .nan
  | .inf s, .inf t => .inf (s != t)
  | .inf s, .num t n _ _ => if n = 0 then .nan else .inf (s != t)
  | .num s n _ _, .inf t => if n = 0 then .nan else .inf (s != t)
  | .num s n d _, .num t k e _ => .num (s != t) (n * k) (d * e) false

/-- x ÷ y; a non-zero value over zero is an infinity, and zero over zero NaN (R397). -/
def XR.div : XR → XR → XR
  | .nan, _ => .nan
  | _, .nan => .nan
  | .inf _, .inf _ => .nan
  | .inf s, .num t _ _ _ => .inf (s != t)
  | .num s _ _ _, .inf t => .num (s != t) 0 1 false
  | .num s n d _, .num t k e _ =>
    if k = 0 then (if n = 0 then .nan else .inf (s != t)) else .num (s != t) (n * e) (d * k) false

/-- x + y. An exact sum of zero is +0, or −0 when `down` says that RDN is in force; two zeros of one sign keep it (R290). -/
def XR.add (down : Bool) : XR → XR → XR
  | .nan, _ => .nan
  | _, .nan => .nan
  | .inf s, .inf t => if s = t then .inf s else .nan
  | .inf s, .num _ _ _ _ => .inf s
  | .num _ _ _ _, .inf t => .inf t
  | .num s n d _, .num t k e _ =>
    if n = 0 ∧ k = 0 ∧ s = t then .num s 0 1 false
    else
      let x : Int := (if s then -1 else 1) * (n * e : Nat)
      let y : Int := (if t then -1 else 1) * (k * d : Nat)
      if x + y = 0 then .num down 0 1 false else .num (decide (x + y < 0)) (x + y).natAbs (d * e) false

/-- Whether |x| < |y| for finite values. -/
def XR.magLt : XR → XR → Bool
  | .num _ n d _, .num _ k e _ => decide (n * e < k * d)
  | _, _ => false

/-- x < y, false for NaN; the zeros are equal (R342). -/
def XR.lt : XR → XR → Bool
  | .nan, _ => false
  | _, .nan => false
  | .inf s, .inf t => s && !t
  | .inf s, .num _ _ _ _ => s
  | .num _ _ _ _, .inf t => !t
  | .num s n d _, .num t k e _ =>
    decide ((if s then -1 else 1 : Int) * (n * e : Nat) < (if t then -1 else 1 : Int) * (k * d : Nat))

/-- x = y, false for NaN; the zeros are equal (R342). -/
def XR.eq : XR → XR → Bool
  | .nan, _ => false
  | _, .nan => false
  | .inf s, .inf t => s == t
  | .num s n d _, .num t k e _ => n * e == k * d && (s == t || n == 0)
  | _, _ => false

/-- Exponent(x) := Floor(log2 |x|) of num ÷ den > 0, exact (R309). -/
def expOf (n d : Nat) : Int :=
  let k : Int := (Nat.log2 n : Int) - Nat.log2 d
  let ge : Bool := if 0 ≤ k then decide (d * 2 ^ k.toNat ≤ n) else decide (d ≤ n * 2 ^ (-k).toNat)
  if ge then k else k - 1

/-! ### Encodings -/

/-- A floating-point format (R288): exponent and fraction widths, bias, largest finite pattern of a magnitude, whether it has
infinities, and the canonical NaN (0 where it has none, R289). -/
structure FFmt where
  ebits : Nat
  fbits : Nat
  bias : Nat
  maxPat : Nat
  hasInf : Bool
  nan : Nat
  deriving DecidableEq, Repr

/-- F32 (R288). -/
def fF32 : FFmt := ⟨8, 23, 127, 0x7F7FFFFF, true, 0x7FC00000⟩
/-- B16 (R288). -/
def fB16 : FFmt := ⟨8, 7, 127, 0x7F7F, true, 0x7FC0⟩
/-- E4M3 (R288): NaN at 0x7F and 0xFF only. -/
def fE4 : FFmt := ⟨4, 3, 7, 0x7E, false, 0x7F⟩
/-- E5M2 (R288). -/
def fE5 : FFmt := ⟨5, 2, 15, 0x7B, true, 0x7E⟩
/-- E2M1 (R288): neither infinities nor NaN. -/
def fM4 : FFmt := ⟨2, 1, 1, 0x7, false, 0⟩

/-- The floating-point format of a type code (R62). -/
def fmtOf : Nat → Option FFmt
  | 0 => some fF32
  | 1 => some fB16
  | 2 => some fE4
  | 3 => some fE5
  | 4 => some fM4
  | _ => none

/-- Width in bits of an element of a type in a lane (R287, R292): P12 is 12, SW is held joined as 32, Q6 is 6. -/
def laneWidth : Nat → Nat
  | 0 => 32 | 1 => 16 | 2 => 8 | 3 => 8 | 4 => 4 | 5 => 8 | 6 => 6 | 7 => 4
  | 8 => 32 | 9 => 32 | 10 => 16 | 11 => 16 | 12 => 8 | 13 => 8 | 14 => 12 | _ => 32

/-- WIDTH: the stored width of a type in bits (R62). -/
def storedWidth : Nat → Nat
  | 0 => 32 | 1 => 16 | 2 => 8 | 3 => 8 | 4 => 4 | 5 => 8 | 6 => 8 | 7 => 4
  | 8 => 32 | 9 => 32 | 10 => 16 | 11 => 16 | 12 => 8 | 13 => 8 | 14 => 12 | _ => 16

/-- Types held as two's complement: I32, I16, I8, Q8, Q6, Q4 (R287, R293). -/
def isSignedTy (ty : Nat) : Bool := ty == 8 || ty == 10 || ty == 12 || ty == 5 || ty == 6 || ty == 7

/-- The integer types of conversions: I32, N32, I16, N16, I8, N8 and P12 (R394). -/
def isIntTy (ty : Nat) : Bool := 8 ≤ ty && ty ≤ 14

/-- The low w bits of a number as two's complement. -/
def signedOf (w x : Nat) : Int :=
  let y := x % 2 ^ w
  if y < 2 ^ (w - 1) then y else (y : Int) - 2 ^ w

/-- An element's integer value: signed or unsigned as its type (R293, R389). -/
def intOf (ty x : Nat) : Int :=
  if isSignedTy ty then signedOf (laneWidth ty) x else ((x % 2 ^ laneWidth ty : Nat) : Int)

/-- Value(b) of a floating-point encoding (R288). -/
def FFmt.value (f : FFmt) (b : Nat) : XR :=
  let w := f.ebits + f.fbits
  let neg := Nat.testBit b w
  let mag := b % 2 ^ w
  let e := mag / 2 ^ f.fbits
  let m := mag % 2 ^ f.fbits
  if f.hasInf ∧ e = 2 ^ f.ebits - 1 then (if m = 0 then .inf neg else .nan)
  else if f.nan ≠ 0 ∧ ¬ f.hasInf ∧ mag = f.nan then .nan
  else if e = 0 then .dyadic neg m (1 - (f.bias : Int) - f.fbits)
  else .dyadic neg (2 ^ f.fbits + m) ((e : Int) - f.bias - f.fbits)

/-- Value(b, T) (R309): floating-point, integer, pixel, and SW as the joined F32. The Q types read as integers; their block scale is
applied where it is known (R292). -/
def valueOf (ty x : Nat) : XR :=
  match fmtOf ty with
  | some f => f.value x
  | none => if ty = 15 then fF32.value x else .ofInt (intOf ty x)

/-- IsNonFinite(x): NaN or an infinity (R309). -/
def XR.nonFinite : XR → Bool
  | .nan => true
  | .inf _ => true
  | .num _ _ _ _ => false

/-- MaxFinite(T) as a value (R309). -/
def maxFinite (ty : Nat) : XR :=
  match fmtOf ty with
  | some f => f.value f.maxPat
  | none => .ofInt (if isSignedTy ty then 2 ^ (laneWidth ty - 1) - 1 else 2 ^ laneWidth ty - 1)

/-- A lane that holds the low bits of an element, extended as its type says (R287). -/
def holdLane (ty x : Nat) : W32 :=
  if isSignedTy ty then BitVec.ofInt 32 (signedOf (laneWidth ty) x) else BitVec.ofNat 32 (x % 2 ^ laneWidth ty)

/-! ### Rounding -/

/-- Rounding modes (R297). -/
inductive Rnd where
  | rne | rtz | rdn | rup | sr
  deriving DecidableEq, Repr

/-- FMT.RND (R297); 5 to 7 never stand in FMT (R360). -/
def rndOf : Nat → Rnd
  | 0 => .rne
  | 1 => .rtz
  | 2 => .rdn
  | 3 => .rup
  | _ => .sr

/-- What a rounding depends on: the mode, FMT.SAT, and the word that SR compares with (R299, R301). -/
structure RndEnv where
  rnd : Rnd
  sat : Bool
  srWord : W32
  deriving DecidableEq, Repr

/-- Round to nearest even, for the operations that always do (R295, R416). -/
def RndEnv.rne : RndEnv := ⟨.rne, true, 0#32⟩

/-- The integer n + up of R299 for |x| ÷ u = p ÷ q (plus a little, when `more`). -/
def roundNat (env : RndEnv) (neg : Bool) (p q : Nat) (more : Bool) : Nat :=
  let n := p / q
  let r := p % q
  let pos := r != 0 || more
  let up := match env.rnd with
    | .rne => decide (q < 2 * r) || (2 * r == q && more) || (2 * r == q && !more && n % 2 == 1)
    | .rtz => false
    | .rdn => pos && neg
    | .rup => pos && !neg
    | .sr => pos && decide (env.srWord.toNat < r * 2 ^ 32 / q)
  if up then n + 1 else n

/-- A rounded encoding, and whether Flush took it to zero (R300). -/
structure Rounded where
  bits : Nat
  tiny : Bool
  deriving DecidableEq, Repr

/-- A pattern with its sign. -/
def FFmt.signed (f : FFmt) (neg : Bool) (pat : Nat) : Nat := if neg then 2 ^ (f.ebits + f.fbits) + pat else pat

/-- The pattern of an infinity. -/
def FFmt.infPat (f : FFmt) : Nat := (2 ^ f.ebits - 1) * 2 ^ f.fbits

/-- Overflow(x, T, mode, inf) for the floating-point targets (R301). -/
def FFmt.overflow (f : FFmt) (env : RndEnv) (neg fromInf : Bool) : Nat :=
  if f = fM4 then f.signed neg f.maxPat
  else if f = fE4 then (if env.sat then f.signed neg f.maxPat else f.nan)
  else if f = fE5 ∧ env.sat then f.signed neg f.maxPat
  else if fromInf then f.signed neg f.infPat
  else match env.rnd with
    | .rne => f.signed neg f.infPat
    | .sr => f.signed neg f.infPat
    | .rtz => f.signed neg f.maxPat
    | .rdn => if neg then f.signed true f.infPat else f.maxPat
    | .rup => if neg then f.signed true f.maxPat else f.infPat

/-- The pattern of |x| = n ÷ d rounded to a format without flush and without a bound on the exponent. -/
def FFmt.roundPat (f : FFmt) (env : RndEnv) (neg : Bool) (n d : Nat) (more : Bool) : Nat :=
  let emin : Int := 1 - (f.bias : Int)
  let ex := max (expOf n d) emin
  let u : Int := ex - f.fbits
  let k := if 0 ≤ u then roundNat env neg n (d * 2 ^ u.toNat) more else roundNat env neg (n * 2 ^ (-u).toNat) d more
  (ex - emin).toNat * 2 ^ f.fbits + k

/-- Round(x, T, mode) for the floating-point targets (R299); `keep` keeps subnormal F32 and B16 results (R96, R309, AddRne). -/
def FFmt.round (f : FFmt) (env : RndEnv) (keep : Bool) : XR → Rounded
  | .nan => ⟨f.nan, false⟩
  | .inf neg => ⟨f.overflow env neg true, false⟩
  | .num neg n d more =>
    if n = 0 ∧ ¬ more then ⟨f.signed neg 0, false⟩
    else if !keep && f.bias == 127 && (n == 0 || decide (expOf n d < -126)) then ⟨f.signed neg 0, true⟩
    else
      let pat := f.roundPat env neg n d more
      if f.maxPat < pat then ⟨f.overflow env neg false, false⟩ else ⟨f.signed neg pat, false⟩

/-- Round to an integer (R299, u = 1). -/
def roundInt (env : RndEnv) (neg : Bool) (n d : Nat) (more : Bool) : Int :=
  let k : Int := roundNat env neg n d more
  if neg then -k else k

/-- Clamp(x, lo, hi) (R309). -/
def clampInt (x lo hi : Int) : Int := max lo (min x hi)

/-- The least and greatest value of an integer type (R390). -/
def intRange (ty : Nat) : Int × Int :=
  if isSignedTy ty then (-(2 ^ (laneWidth ty - 1)), 2 ^ (laneWidth ty - 1) - 1) else (0, 2 ^ laneWidth ty - 1)

/-- A floating-point value to an integer type (R304, R301): NaN gives 0, an infinity ±MaxFinite or 0 for an unsigned type, and
a finite value is rounded and clamped. -/
def toIntTy (env : RndEnv) (ty : Nat) : XR → Int
  | .nan => 0
  | .inf neg => if neg then (if isSignedTy ty then -(intRange ty).2 else 0) else (intRange ty).2
  | .num neg n d more => clampInt (roundInt env neg n d more) (intRange ty).1 (intRange ty).2

/-- AddRne(a, b) on patterns (R96, R309): one rounding to nearest even with subnormals kept. -/
def FFmt.addRne (f : FFmt) (a b : Nat) : Nat := (f.round .rne true ((f.value a).add false (f.value b))).bits

/-- AbsToF32Up(x) (R72, R309). -/
def absToF32Up : XR → Nat
  | .nan => 0
  | .inf _ => 0x7F800000
  | .num _ n d more =>
    if n = 0 ∧ ¬ more then 0
    else
      let pat := fF32.roundPat ⟨.rup, true, 0#32⟩ false n d more
      if fF32.maxPat < pat then 0x7F800000 else pat

/-! ### Special functions -/

/-- The largest s with s × s ≤ n, by binary digits from 2^k down. -/
def isqrtFrom : Nat → Nat → Nat → Nat
  | 0, _, s => s
  | k + 1, n, s =>
    let t := s + 2 ^ k
    isqrtFrom k n (if t * t ≤ n then t else s)

/-- Floor of the square root. -/
def isqrt (n : Nat) : Nat := isqrtFrom (Nat.log2 n / 2 + 1) n 0

/-- Working precision of the special functions, in bits after the point (log entry 10). -/
def sfBits : Nat := 256

/-- 1 ÷ √(n ÷ d), to `sfBits` bits after the point beyond its size, exact but for what `more` says. -/
def rsqrtMag (n d : Nat) : XR :=
  let k := sfBits + Nat.log2 n
  let q := d * 2 ^ (2 * k) / n
  let s := isqrt q
  .num false s (2 ^ k) (s * s * n != d * 2 ^ (2 * k))

/-- 2^(0.b₁b₂…) in fixed point: the product of the repeated square roots of 2 whose bits are set; `r` is the present root,
`f` the fraction scaled by 2^steps. -/
def exp2Frac : Nat → Nat → Nat → Nat → Nat
  | 0, _, _, acc => acc
  | k + 1, f, r, acc =>
    let r' := isqrt (r * 2 ^ sfBits)
    let acc' := if Nat.testBit f k then acc * r' / 2 ^ sfBits else acc
    exp2Frac k f r' acc'

/-- 2^x for a finite x ≠ 0 with |x| < 2^8 (R308); exact for an integer. -/
def exp2Mag (neg : Bool) (n d : Nat) : XR :=
  let fr := 150
  let x : Int := (if neg then -1 else 1) * (n * 2 ^ fr / d : Nat)
  let i := x / 2 ^ fr
  let f := (x % 2 ^ fr).toNat
  if f = 0 then .dyadic false 1 i
  else
    let m := exp2Frac fr f (2 * 2 ^ sfBits) (2 ^ sfBits)
    let e := i - sfBits
    if 0 ≤ e then .num false (m * 2 ^ e.toNat) 1 true else .num false m (2 ^ (-e).toNat) true

/-- The binary digits of log2(y ÷ 2^sfBits) for 1 ≤ y ÷ 2^sfBits < 2, by repeated squaring. -/
def log2Digits : Nat → Nat → Nat → Nat
  | 0, _, acc => acc
  | k + 1, y, acc =>
    let y2 := y * y / 2 ^ (2 * sfBits)
    if 2 ^ (2 * sfBits + 1) ≤ y2 then log2Digits k (y2 / 2) (2 * acc + 1) else log2Digits k y2 (2 * acc)

/-- log2(n ÷ d) for a positive finite value (R308); exact for a power of two. -/
def log2Mag (n d : Nat) : XR :=
  let e := expOf n d
  let pow : Bool := if 0 ≤ e then n == d * 2 ^ e.toNat else n * 2 ^ (-e).toNat == d
  if pow then .ofInt e
  else
    let digits := 150
    let y := if 0 ≤ e then n * 2 ^ (2 * sfBits) / (d * 2 ^ e.toNat) else n * 2 ^ ((-e).toNat + 2 * sfBits) / d
    let v : Int := e * 2 ^ digits + log2Digits digits y 0
    if 0 ≤ v then .num false v.toNat (2 ^ digits) true else .num true (-v - 1).toNat (2 ^ digits) true

/-- The four special functions (R308). -/
inductive SpecialFn where
  | rcp | rsq | exp2 | log2
  deriving DecidableEq, Repr

/-- The exact value of a special function (R308). -/
def SpecialFn.eval : SpecialFn → XR → XR
  | _, .nan => .nan
  | .rcp, .inf s => .num s 0 1 false
  | .rcp, .num s n d _ => if n = 0 then .inf s else .num s d n false
  | .rsq, .inf s => if s then .nan else .num false 0 1 false
  | .rsq, .num s n d _ => if n = 0 then .inf s else if s then .nan else rsqrtMag n d
  | .exp2, .inf s => if s then .num false 0 1 false else .inf false
  | .exp2, .num s n d _ =>
    if n = 0 then .num false 1 1 false
    else if 2 ^ 8 * d ≤ n then .dyadic false 1 (if s then -256 else 256)
    else exp2Mag s n d
  | .log2, .inf s => if s then .nan else .inf false
  | .log2, .num s n d _ => if n = 0 then .inf true else if s then .nan else log2Mag n d

/-- VrngWord(c, k) (R303). -/
def vrngWord (c k : W32) : W32 :=
  let x := c ^^^ k
  let x := x * 0x2C1B3C6D#32
  let x := x ^^^ (x >>> 15)
  let x := x * 0x297A2D39#32
  x ^^^ (x >>> 12)

/-! ### MX blocks -/

/-- EMAX of an MX element type (R306). -/
def mxEmax (ty : Nat) : Int := if ty = 4 then 2 else 0

/-- MxScale of a block whose largest magnitude is `a` (R306). -/
def mxScale (ty : Nat) : XR → Nat
  | .nan => 0xFF
  | .inf _ => 0xFF
  | .num _ n d _ => if n = 0 then 0 else (clampInt (expOf n d - mxEmax ty + 127) 0 254).toNat

/-- 2^k as a value. -/
def XR.pow2 (k : Int) : XR := .dyadic false 1 k

/-- The value of an MX element under scale s (R291, R292). -/
def mxValue (ty x s : Nat) : XR :=
  if s = 0xFF then .nan
  else if ty = 4 then (fM4.value (x % 16)).mul (.pow2 ((s : Int) - 127))
  else (XR.ofInt (intOf ty x)).mul (.pow2 ((s : Int) - 127 - ((laneWidth ty : Int) - 2)))

/-- Quantise a value to an MX element under scale s (R306). -/
def mxQuant (env : RndEnv) (ty : Nat) (x : XR) (s : Nat) : Nat :=
  if s = 0xFF then 0
  else if ty = 4 then (fM4.round env false (x.mul (.pow2 (127 - (s : Int))))).bits
  else
    let w := laneWidth ty
    let m : Int := 2 ^ (w - 1) - 1
    let r := match x.mul (.pow2 (127 - (s : Int) + (w : Int) - 2)) with
      | .nan => 0
      | .inf neg => if neg then -m else m
      | .num neg n d more => clampInt (roundInt env neg n d more) (-m) m
    (BitVec.ofInt 32 r).toNat

end Sys2Proof.Machine
end

