-- ==== Sys2Proof/Config.lean ====
section
/-! DEFINITION. What belongs to one module or is left open by the manual (R482, R121): constants without a
body, so that nothing can be proved of their values. -/

namespace Sys2Proof.Config

/-- MBRET1 of IDENTIFY: {major, minor, patch} in bits [31:0] (R482); a value of the module. -/
opaque firmwareVersion : BitVec 32

/-- MBRET2 of IDENTIFY: the serial number (R482); a value of the module. -/
opaque serial : W64

/-- The private half of the module's Ed25519 identity key (R121, R482), byte 0 the lowest: it is made inside the module and never leaves it,
so the manual fixes no value. -/
opaque identitySeed : BitVec 256

/-- The fixed hash of PA[47:15] and PA[11:7] that gives the set of a line in its cache die (R42), of which the manual gives no more. -/
opaque llcSet : Nat → Nat

/-- Where a page of a size stands in the shared TLB of a die (R282), of which the manual gives only the number of ways. -/
opaque tlbSet : Nat → Nat → Nat

/-- The link delay of a port, measured at training; no value of the manual (R93). -/
opaque linkDelay : Nat → Nat

/-- Whether the firmware leaves the cofactor out of the signature check, which RFC 8032 allows (R112). -/
opaque cofactorless : Bool

/-- What TRAPARG shows of a literal word that an operation names and its bundle does not have (R347), by its index: the manual states no
value (log entry 72). -/
opaque missingLiteral : Nat → Nat

/-- Bits [31:16] of a lane into which VLD, VLDS or VGTH loads one 16-bit half with SIZE SW (R287, R441): the manual states only the half itself
(log entry 19). -/
opaque swHigh : BitVec 16 → BitVec 16

/-- A free value: what a word holds where the manual says that something is there but not what. The argument is
`State.freeCtr`, read and advanced by the step that draws the value. -/
opaque freeWord : Nat → W64

end Sys2Proof.Config
end

