-- ==== Sys2Proof/Syntax.lean ====
section
/-! DEFINITION. The syntax: one constructor of `Instr` for each row of spec/opcode_table.json, that
is one for each step of the part (95_what_each_step_holds). A hundred rows are events of the
module's own agents and of its surroundings, with the values they bring; the others are the slot
operations (they come first here), whose operand bits [37:0] are held field by field in the layouts of R323 to R326, R419,
R434 and R451. The operand fields stay bits, since a reserved value in one is not refused at
decoding: it raises ILLEGAL_OPERAND, and only when the operation is active (R321). -/

namespace Sys2Proof

/-- The guard of a syllable: a truth table over three predicates (R314). -/
structure Guard where
  tt : BitVec 8
  pa : BitVec 4
  pb : BitVec 4
  pc : BitVec 4
  deriving DecidableEq, Repr

/-- The unconditional guard, TT = 0xFF over p0, p0, p0 (R329). -/
def Guard.always : Guard := ⟨0xFF#8, 0#4, 0#4, 0#4⟩

/-- The two scalar slots (R212). -/
inductive SSlot where
  | s0
  | s1
  deriving DecidableEq, Repr

/-- The two vector slots (R212). -/
inductive VSlot where
  | v0
  | v1
  deriving DecidableEq, Repr

/-- The eight slots, in issue order (R310). -/
inductive Slot where
  | c
  | s0
  | s1
  | v0
  | v1
  | m
  | l
  | e
  deriving DecidableEq, Repr

/-- C layout (R326). -/
structure CForm where
  g : Guard
  j : BitVec 2
  pd : BitVec 4
  pe : BitVec 4
  x : BitVec 8
  imm : BitVec 20
  deriving DecidableEq, Repr

/-- S register form (R325). -/
structure SReg where
  g : Guard
  slot : SSlot
  rd : BitVec 6
  rs1 : BitVec 6
  rs2 : BitVec 6
  q : BitVec 3
  rest : BitVec 17
  deriving DecidableEq, Repr

/-- S immediate form (R325). -/
structure SImm where
  g : Guard
  slot : SSlot
  rd : BitVec 6
  rs1 : BitVec 6
  q : BitVec 3
  rest : BitVec 3
  imm : BitVec 20
  deriving DecidableEq, Repr

/-- V register form (R323). -/
structure VReg where
  g : Guard
  slot : VSlot
  vd : BitVec 9
  vs1 : BitVec 9
  kind : BitVec 2
  op2 : BitVec 9
  ty : BitVec 4
  step : BitVec 2
  var : BitVec 3
  deriving DecidableEq, Repr

/-- V immediate form (R323). -/
structure VImm where
  g : Guard
  slot : VSlot
  vd : BitVec 9
  vs1 : BitVec 9
  imm : BitVec 20
  deriving DecidableEq, Repr

/-- M macro-op form (R326). -/
structure MMac where
  g : Guard
  z : BitVec 5
  ma : BitVec 4
  mb : BitVec 4
  kq : BitVec 7
  format : BitVec 4
  ta : BitVec 1
  tb : BitVec 1
  ovw : BitVec 1
  gauge : BitVec 1
  rest : BitVec 10
  deriving DecidableEq, Repr

/-- MCFG layout (R419). -/
structure MCfg where
  g : Guard
  z : BitVec 5
  ma : BitVec 4
  rest : BitVec 29
  deriving DecidableEq, Repr

/-- MZERO layout (R419). -/
structure MZero where
  g : Guard
  z : BitVec 5
  rest : BitVec 33
  deriving DecidableEq, Repr

/-- MREAD layout (R419). -/
structure MRead where
  g : Guard
  z : BitVec 5
  f : BitVec 3
  rp : BitVec 6
  np : BitVec 6
  rest : BitVec 18
  deriving DecidableEq, Repr

/-- MWRITE layout (R419). -/
structure MWrite where
  g : Guard
  z : BitVec 5
  ma : BitVec 4
  rp : BitVec 6
  np : BitVec 6
  rest : BitVec 17
  deriving DecidableEq, Repr

/-- MJOIN layout (R419). -/
structure MJoin where
  g : Guard
  z : BitVec 5
  partner : BitVec 8
  jn : BitVec 4
  h : BitVec 1
  token : BitVec 3
  rest : BitVec 17
  deriving DecidableEq, Repr

/-- MSTAT layout (R419). -/
structure MStat where
  g : Guard
  z : BitVec 5
  ma : BitVec 4
  clr : BitVec 1
  rest : BitVec 28
  deriving DecidableEq, Repr

/-- L general layout (R324). -/
structure LGen where
  g : Guard
  file : BitVec 2
  reg : BitVec 9
  base : BitVec 5
  ps : BitVec 1
  off : BitVec 14
  size : BitVec 4
  token : BitVec 3
  deriving DecidableEq, Repr

/-- L strided layout (R434). -/
structure LStr where
  g : Guard
  file : BitVec 2
  reg : BitVec 9
  base : BitVec 5
  sd : BitVec 5
  gauge : BitVec 1
  off : BitVec 9
  size : BitVec 4
  token : BitVec 3
  deriving DecidableEq, Repr

/-- L indexed layout (R434). -/
structure LIdx where
  g : Guard
  file : BitVec 2
  reg : BitVec 9
  ix : BitVec 9
  base : BitVec 5
  sh : BitVec 3
  rest : BitVec 3
  size : BitVec 4
  token : BitVec 3
  deriving DecidableEq, Repr

/-- L atomic layout (R434). -/
structure LAtom where
  g : Guard
  file : BitVec 2
  rd : BitVec 6
  rs : BitVec 6
  base : BitVec 5
  ak : BitVec 2
  aop : BitVec 4
  sz : BitVec 2
  ord : BitVec 2
  scope : BitVec 3
  sx : BitVec 1
  rest : BitVec 2
  token : BitVec 3
  deriving DecidableEq, Repr

/-- L vector-atomic layout (R434). -/
structure LVAtom where
  g : Guard
  file : BitVec 2
  reg : BitVec 9
  ix : BitVec 9
  base : BitVec 5
  aop : BitVec 4
  ord : BitVec 2
  scope : BitVec 3
  ret : BitVec 1
  token : BitVec 3
  deriving DecidableEq, Repr

/-- L scope layout (R434): FENCE and SYNC. -/
structure LScope where
  g : Guard
  hi : BitVec 29
  scope : BitVec 3
  mid : BitVec 3
  token : BitVec 3
  deriving DecidableEq, Repr

/-- L barrier layout (R434). -/
structure LBar where
  g : Guard
  file : BitVec 2
  reg : BitVec 9
  base : BitVec 5
  src : BitVec 1
  imm : BitVec 18
  token : BitVec 3
  deriving DecidableEq, Repr

/-- L spill layout (R434). -/
structure LSpill where
  g : Guard
  file : BitVec 2
  reg : BitVec 9
  rest : BitVec 24
  token : BitVec 3
  deriving DecidableEq, Repr

/-- DADD layout (R434): with M = 1 the field DT is the top of `imm`. -/
structure LDadd where
  g : Guard
  dd : BitVec 5
  ds : BitVec 5
  m : BitVec 1
  imm : BitVec 24
  token : BitVec 3
  deriving DecidableEq, Repr

/-- DLI layout (R434). -/
structure LDli where
  g : Guard
  dd : BitVec 5
  q : BitVec 2
  ins : BitVec 1
  rest : BitVec 11
  v : BitVec 16
  token : BitVec 3
  deriving DecidableEq, Repr

/-- DCPY layout (R434). -/
structure LDcpy where
  g : Guard
  ds : BitVec 5
  tfile : BitVec 4
  treg : BitVec 6
  rest : BitVec 20
  token : BitVec 3
  deriving DecidableEq, Repr

/-- L line-range layout (R434). -/
structure LLine where
  g : Guard
  hi : BitVec 11
  base : BitVec 5
  all : BitVec 1
  n : BitVec 18
  token : BitVec 3
  deriving DecidableEq, Repr

/-- E layout (R326). -/
structure EForm where
  g : Guard
  ed : BitVec 5
  es1 : BitVec 5
  es2 : BitVec 5
  q : BitVec 3
  token : BitVec 3
  imm : BitVec 17
  deriving DecidableEq, Repr

/-- One sensor reading, in 1/16 K, and whether it passed its range and rate check (R9, R27). -/
structure Reading where
  ok : Bool
  temp : BitVec 16
  deriving DecidableEq, Repr

/-- What the ECC of an array found in one access (R31). -/
inductive Ecc where
  | clean
  | corrected
  | uncorrectable
  deriving DecidableEq, Repr

/-- What the ECC of an SRAM array finds in the data that an access reads (R30, R31): nothing, an error that it corrects, or one that it
cannot correct, with its physical address. -/
inductive SramEcc where
  | clean
  | corrected
  | bad (pa : Nat)
  deriving DecidableEq, Repr

/-- What the ECC of the SRAM arrays that a bundle reads finds (R30, R31): nothing, an error that it corrects, one that it cannot correct in an
instruction word or in an operand of a slot, by number, with its physical address. -/
inductive IssueEcc where
  | clean
  | corrected
  | word (pa : Nat)
  | operand (slot pa : Nat)
  deriving DecidableEq, Repr

/-- One core cycle that issues (R232): the core, and what the ECC of its arrays finds. -/
structure IssueTurn where
  core : Nat
  ecc : IssueEcc := .clean
  deriving DecidableEq, Repr

/-- What acts on a job control block (R147): a post on its way, or the supervisor that terminates the member on a sequencer (log entry
67). -/
inductive JcbEvent where
  | post (id : Nat)
  | terminate (ctx : Nat)
  deriving DecidableEq, Repr

/-- What evaluates a stage (R144): a turn of its Weir, or a capture of a gang that the supervisor asks for (R271; log entry 67). -/
structure StageCall where
  stage : Nat
  capture : Option Nat := none
  deriving DecidableEq, Repr

/-- A job whose data is uncorrectable, and the physical address of that data (R31, R202). -/
structure EccJob where
  serial : Nat
  pa : Nat
  deriving DecidableEq, Repr

/-- The three kinds of request that a sector of the LLC serves (R43). -/
inductive LlcKind where
  | read
  | writeWhole
  | writePart
  deriving DecidableEq, Repr

/-- Where a register write is addressed (R24, R99, R243): BAR0 of the host link, or the supervisor's
space 0xF, by offset. -/
inductive RegAddr where
  | bar0 (off : Nat)
  | mmio (off : Nat)
  deriving DecidableEq, Repr

/-- Four numbers: a tile coordinate or a tile shape, dimension 0 first (R50). -/
structure Quad4 where
  x0 : Nat
  x1 : Nat
  x2 : Nat
  x3 : Nat
  deriving DecidableEq, Repr

/-- The fields of a parcel header flit (R84). -/
structure FlitHeader where
  tstamp : W64
  user : W32
  tag : W32
  seq : BitVec 16
  len : BitVec 12
  phase : BitVec 4
  slot : BitVec 3
  kind : BitVec 4
  deriving DecidableEq, Repr

/-- The header that every collective carries (R94). -/
structure OxHeader where
  op : Nat
  ty : BitVec 1
  len : Nat
  num : BitVec 16
  deriving DecidableEq, Repr

/-- A message from the upstream neighbour of an Oxbow ring (R94): an abort, a partial sum of one
shard during the reduce phase, or a finished shard during the gather phase, with the sender's
header. -/
inductive OxFlit where
  | abort
  | partialSum (hdr : OxHeader) (shard : Nat) (data : List Byte)
  | finished (hdr : OxHeader) (shard : Nat) (data : List Byte)
  deriving DecidableEq, Repr

/-- The steps of the part, one constructor for each row of spec/opcode_table.json. -/
inductive Instr where
  /-- NOP (R365): No operation. -/
  | nop (f : CForm)
  /-- PREP (R348): Writes a relative branch target into a j register. -/
  | prep (f : CForm)
  /-- PREP_ABSOLUTE (R348): Writes an absolute branch target from two literal words into a j register. -/
  | prepAbsolute (f : CForm)
  /-- BRX (R349): Makes a pending transfer to j[J] after three delay bundles. -/
  | brx (f : CForm)
  /-- BRXL (R349): Makes a pending transfer that also writes the link into j3. -/
  | brxl (f : CForm)
  /-- VOTE (R353): Writes ANY or ALL of a predicate to every lane of pd. -/
  | vote (f : CForm)
  /-- PTT (R353): Writes pd lane by lane from a truth table over three predicates. -/
  | ptt (f : CForm)
  /-- LOOP (R355): Starts a nested hardware loop over the following body bundles. -/
  | loop (f : CForm)
  /-- LSET (R354): Sets the count of a loop level. -/
  | lset (f : CForm)
  /-- LSTR (R354): Links a d register to a loop level with a stride. -/
  | lstr (f : CForm)
  /-- WAITK (R357): Stalls until the named tokens are zero, and raises for an error mark. -/
  | waitk (f : CForm)
  /-- BWAIT (R359): Waits, arriving first with .ARV, until a gang barrier's phase changes. -/
  | bwait (f : CForm)
  /-- BARV (R359): Arrives at a gang barrier. -/
  | barv (f : CForm)
  /-- YIELD (R365): Re-inserts the context as the youngest in the ready set. -/
  | yield (f : CForm)
  /-- SETFMT (R360): Replaces selected FMT fields as a pending value that lands after four counts. -/
  | setfmt (f : CForm)
  /-- SETWIN (R361): Changes the cluster's array window mode once no macro-op is in flight. -/
  | setwin (f : CForm)
  /-- TRAP (R362): Raises SOFTWARE with its immediate in TRAPARG. -/
  | trap (f : CForm)
  /-- RFT (R266): Returns from a trap and replays the snapshot. -/
  | rft (f : CForm)
  /-- DONE (R364): Ends the tile task after its tokens drain and posts to the step JCB. -/
  | done (f : CForm)
  /-- SPIN (R358): Adds n empty issue counts to the context. -/
  | spin (f : CForm)
  /-- ADD (R368): 64-bit wrapping add. -/
  | add (f : SReg)
  /-- ADDI (R368): Adds a sign-extended immediate. -/
  | addi (f : SImm)
  /-- SUB (R368): 64-bit wrapping subtract. -/
  | sub (f : SReg)
  /-- MUL (R368): Low 64 bits of the product. -/
  | mul (f : SReg)
  /-- MULH (R368): High half of the signed product. -/
  | mulh (f : SReg)
  /-- MULHN (R368): High half of the unsigned product. -/
  | mulhn (f : SReg)
  /-- DIV (R369): Signed division truncating towards zero. -/
  | div (f : SReg)
  /-- DIVN (R369): Unsigned division. -/
  | divn (f : SReg)
  /-- REM (R369): Signed remainder. -/
  | rem (f : SReg)
  /-- AND (R370): Bitwise AND. -/
  | and (f : SReg)
  /-- ANDI (R370): AND with a zero-extended immediate. -/
  | andi (f : SImm)
  /-- OR (R370): Bitwise OR. -/
  | or (f : SReg)
  /-- ORI (R370): OR with a zero-extended immediate. -/
  | ori (f : SImm)
  /-- XOR (R370): Bitwise XOR. -/
  | xor (f : SReg)
  /-- XORI (R370): XOR with a zero-extended immediate. -/
  | xori (f : SImm)
  /-- ANDN (R370): rs1 AND NOT rs2. -/
  | andn (f : SReg)
  /-- SHL (R370): Logical shift left. -/
  | shl (f : SReg)
  /-- SHR (R370): Logical shift right. -/
  | shr (f : SReg)
  /-- SAR (R370): Arithmetic shift right. -/
  | sar (f : SReg)
  /-- ROT (R370): Rotate right. -/
  | rot (f : SReg)
  /-- CLZ (R370): Counts leading zero bits. -/
  | clz (f : SReg)
  /-- POPC (R370): Counts set bits. -/
  | popc (f : SReg)
  /-- MIN (R370): Signed minimum. -/
  | min (f : SReg)
  /-- MAX (R370): Signed maximum. -/
  | max (f : SReg)
  /-- MINN (R370): Unsigned minimum. -/
  | minn (f : SReg)
  /-- MAXN (R370): Unsigned maximum. -/
  | maxn (f : SReg)
  /-- SHADD (R371): Shift and add. -/
  | shadd (f : SImm)
  /-- EXT (R371): Extracts a bit field, zero- or sign-extended. -/
  | ext (f : SImm)
  /-- INS (R371): Inserts a bit field into rd. -/
  | ins (f : SImm)
  /-- LI (R372): Loads a sign-extended 20-bit immediate. -/
  | li (f : SImm)
  /-- LIH (R372): Inserts 16 bits at quarter q. -/
  | lih (f : SImm)
  /-- LIL (R372): Loads 16 bits shifted to quarter q. -/
  | lil (f : SImm)
  /-- CMP (R373): Compares two registers into a predicate pair. -/
  | cmp (f : SReg)
  /-- CMPI (R373): Compares with an immediate into a predicate pair. -/
  | cmpi (f : SImm)
  /-- SEL (R374): Selects one of two values by a predicate. -/
  | sel (f : SImm)
  /-- CPY (R375): Copies a scalar into another file's register or vector lane. -/
  | cpy (f : SImm)
  /-- MFS (R376): Reads a special register. -/
  | mfs (f : SImm)
  /-- MTS (R377): Writes a special register. -/
  | mts (f : SImm)
  /-- BRX_S1 (R378): S1 transfer to a target held in a b register. -/
  | brxS1 (f : SReg)
  /-- VADD (R384): Floating add, rounded once. -/
  | vadd (f : VReg)
  /-- VSUB (R384): Floating subtract. -/
  | vsub (f : VReg)
  /-- VMUL (R384): Floating multiply. -/
  | vmul (f : VReg)
  /-- VFMA (R384): Fused a x vd + b. -/
  | vfma (f : VReg)
  /-- VFMS (R384): Fused a x vd - b. -/
  | vfms (f : VReg)
  /-- VMAC (R384): Fused vd + a x b. -/
  | vmac (f : VReg)
  /-- VMIN (R385): Floating minimum. -/
  | vmin (f : VReg)
  /-- VMAX (R385): Floating maximum. -/
  | vmax (f : VReg)
  /-- VABS (R385): Clears the sign bit. -/
  | vabs (f : VReg)
  /-- VNEG (R385): Inverts the sign bit. -/
  | vneg (f : VReg)
  /-- VRCP (R308): Correctly rounded reciprocal. -/
  | vrcp (f : VReg)
  /-- VRSQ (R308): Correctly rounded reciprocal square root. -/
  | vrsq (f : VReg)
  /-- VEXP2 (R308): Correctly rounded 2^x. -/
  | vexp2 (f : VReg)
  /-- VLOG2 (R308): Correctly rounded log2. -/
  | vlog2 (f : VReg)
  /-- VCLASS (R386): Writes a one-hot class mask per lane. -/
  | vclass (f : VReg)
  /-- VCMP (R387): Floating compare into a predicate pair. -/
  | vcmp (f : VReg)
  /-- VADDI (R388): Adds a truncated F32 immediate. -/
  | vaddi (f : VImm)
  /-- VMULI (R388): Multiplies by an immediate. -/
  | vmuli (f : VImm)
  /-- VFMAI (R388): Fused a x vd + immediate. -/
  | vfmai (f : VImm)
  /-- VMACI (R388): Fused vd + a x immediate. -/
  | vmaci (f : VImm)
  /-- VIADD (R389): Wrapping integer add. -/
  | viadd (f : VReg)
  /-- VISUB (R389): Wrapping integer subtract. -/
  | visub (f : VReg)
  /-- VIMUL (R389): Low half of the integer product. -/
  | vimul (f : VReg)
  /-- VIMULH (R389): High half of the integer product. -/
  | vimulh (f : VReg)
  /-- VSHL (R389): Integer shift left. -/
  | vshl (f : VReg)
  /-- VSHR (R389): Logical shift right. -/
  | vshr (f : VReg)
  /-- VSAR (R389): Arithmetic shift right. -/
  | vsar (f : VReg)
  /-- VAND (R389): Bitwise AND. -/
  | vand (f : VReg)
  /-- VOR (R389): Bitwise OR. -/
  | vor (f : VReg)
  /-- VXOR (R389): Bitwise XOR. -/
  | vxor (f : VReg)
  /-- VANDN (R389): a AND NOT b. -/
  | vandn (f : VReg)
  /-- VIMIN (R389): Integer minimum. -/
  | vimin (f : VReg)
  /-- VIMAX (R389): Integer maximum. -/
  | vimax (f : VReg)
  /-- VADDS (R390): Saturating add. -/
  | vadds (f : VReg)
  /-- VSUBS (R390): Saturating subtract. -/
  | vsubs (f : VReg)
  /-- VQMULS (R391): Rounded, saturating, doubling high multiply. -/
  | vqmuls (f : VReg)
  /-- VABSD (R390): Absolute difference. -/
  | vabsd (f : VReg)
  /-- VAVG (R390): Rounded or truncated average. -/
  | vavg (f : VReg)
  /-- VDOT4 (R392): Packed dot product accumulated into vd. -/
  | vdot4 (f : VReg)
  /-- VSAD (R392): Packed sum of absolute differences accumulated into vd. -/
  | vsad (f : VReg)
  /-- VICMP (R393): Integer compare into a predicate pair. -/
  | vicmp (f : VReg)
  /-- VCVT (R394): Converts between element types. -/
  | vcvt (f : VReg)
  /-- VQNT (R395): Quantises under a tensor, scalar or block scale. -/
  | vqnt (f : VReg)
  /-- VDQNT (R397): Dequantises to F32 or B16. -/
  | vdqnt (f : VReg)
  /-- VMXS (R398): Computes MX block scales. -/
  | vmxs (f : VReg)
  /-- VSPLIT (R399): Extracts a split-word half. -/
  | vsplit (f : VReg)
  /-- VJOIN (R399): Joins two halves into an F32. -/
  | vjoin (f : VReg)
  /-- VMOV (R404): Copies operand 2 bit for bit. -/
  | vmov (f : VReg)
  /-- VBCST (R404): Broadcasts one lane to every lane. -/
  | vbcst (f : VReg)
  /-- VIOTA (R404): Writes a base plus the lane index times a stride. -/
  | viota (f : VReg)
  /-- VPERM (R405): Gathers lanes by per-lane indices. -/
  | vperm (f : VReg)
  /-- VSHUF (R406): Zips, unzips, reverses or swaps lanes. -/
  | vshuf (f : VReg)
  /-- VSLIDE (R407): Slides lanes up or down. -/
  | vslide (f : VReg)
  /-- VBEXT (R408): Extracts packed bit fields. -/
  | vbext (f : VReg)
  /-- VLUT (R409): Looks up an eight-entry constant table. -/
  | vlut (f : VReg)
  /-- VLUTLD (R410): Loads an eight-entry constant table from lanes. -/
  | vlutld (f : VReg)
  /-- VUNPK12 (R411): Unpacks twelve-bit pixels. -/
  | vunpk12 (f : VReg)
  /-- VPACK12 (R412): Packs twelve-bit pixels. -/
  | vpack12 (f : VReg)
  /-- VRNG (R413): Counter-based random words. -/
  | vrng (f : VReg)
  /-- VRED (R414): Pairwise-tree reduction over the active lanes. -/
  | vred (f : VReg)
  /-- VSCAN (R415): Inclusive or exclusive scan over the active lanes. -/
  | vscan (f : VReg)
  /-- VCPY (R417): Copies to the other vector file or to a scalar file. -/
  | vcpy (f : VReg)
  /-- MCFG (R423): Configures a tile. -/
  | mcfg (f : MCfg)
  /-- MZERO (R423): Zeroes a tile. -/
  | mzero (f : MZero)
  /-- MMA (R425): Floating matrix multiply-accumulate macro-op. -/
  | mma (f : MMac)
  /-- MMAX (R425): Block-scaled matrix multiply-accumulate macro-op. -/
  | mmax (f : MMac)
  /-- MREAD (R429): Streams tile row pairs into a stream register. -/
  | mread (f : MRead)
  /-- MWRITE (R430): Writes tile rows from the scratchpad. -/
  | mwrite (f : MWrite)
  /-- MJOIN (R432): Supplies half a tile to a partner join. -/
  | mjoin (f : MJoin)
  /-- MSTAT (R431): Writes a tile's status word to the scratchpad. -/
  | mstat (f : MStat)
  /-- LD (R439): Scalar load. -/
  | ld (f : LGen)
  /-- ST (R439): Scalar store. -/
  | st (f : LGen)
  /-- VLD (R441): Contiguous vector load. -/
  | vld (f : LGen)
  /-- VST (R441): Contiguous vector store. -/
  | vst (f : LGen)
  /-- VLDS (R442): Strided vector load. -/
  | vlds (f : LStr)
  /-- VSTS (R442): Strided vector store, optionally counting a gauge. -/
  | vsts (f : LStr)
  /-- VGTH (R443): Indexed gather. -/
  | vgth (f : LIdx)
  /-- VSCT (R443): Indexed scatter. -/
  | vsct (f : LIdx)
  /-- LDJ (R440): Split-word load, high halves then low halves. -/
  | ldj (f : LGen)
  /-- STJ (R440): Split-word store, low halves then high halves. -/
  | stj (f : LGen)
  /-- ATOM (R444): Scalar read-modify-write atomic. -/
  | atom (f : LAtom)
  /-- LD_ACQ (R444): Ordered load form of ATOM. -/
  | ldAcq (f : LAtom)
  /-- ST_REL (R444): Ordered store form of ATOM. -/
  | stRel (f : LAtom)
  /-- VATOM (R445): Vector atomic. -/
  | vatom (f : LVAtom)
  /-- FENCE (R256): Orders later accesses after earlier ones within a scope. -/
  | fence (f : LScope)
  /-- SYNC (R257): Fence whose token clears once the observed writes reach every die of the scope. -/
  | sync (f : LScope)
  /-- TBINIT (R447): Initialises a transaction barrier. -/
  | tbinit (f : LBar)
  /-- TBARV (R447): Arrives at a barrier with expected sectors. -/
  | tbarv (f : LBar)
  /-- TBEXP (R447): Adds expected sectors to a barrier. -/
  | tbexp (f : LBar)
  /-- TBWAIT (R171): Waits for a barrier phase change, or traps on its flags. -/
  | tbwait (f : LBar)
  /-- SPILL (R448): Pushes a register onto the spill stack. -/
  | spill (f : LSpill)
  /-- FILL (R448): Pops the spill stack into a register. -/
  | fill (f : LSpill)
  /-- DADD (R449): Adds to an address register. -/
  | dadd (f : LDadd)
  /-- DLI (R449): Loads or inserts 16 bits into an address register. -/
  | dli (f : LDli)
  /-- DCPY (R449): Copies an address register to a scalar file. -/
  | dcpy (f : LDcpy)
  /-- L1INV (R450): Drops L1 lines. -/
  | l1inv (f : LLine)
  /-- L1WB (R450): Pushes L1 lines towards the LLC. -/
  | l1wb (f : LLine)
  /-- PRF (R450): Prefetches a line into the L1 or the LLC. -/
  | prf (f : LGen)
  /-- SLJOB (R456): Issues a Sluice job card. -/
  | sljob (f : EForm)
  /-- SLSTAT (R457): Reads a job's status word. -/
  | slstat (f : EForm)
  /-- SLKILL (R457): Ends a job as KILLED. -/
  | slkill (f : EForm)
  /-- STBIND (R458): Queries or drops a stream register binding. -/
  | stbind (f : EForm)
  /-- RMOV (R459): Writes a Riffle operand port or queues a trigger. -/
  | rmov (f : EForm)
  /-- RGET (R459): Reads a Riffle port. -/
  | rget (f : EForm)
  /-- EDSTASH (R201): Creates a stash entry and stores its data. -/
  | edstash (f : EForm)
  /-- EDFETCH (R203): Restores a stash, attaching a barrier or stream register. -/
  | edfetch (f : EForm)
  /-- EDFREE (R204): Removes a stash entry. -/
  | edfree (f : EForm)
  /-- EDQRY (R204): Reads a stash entry's state. -/
  | edqry (f : EForm)
  /-- CHSEND (R462): Sends a parcel on a Braid channel. -/
  | chsend (f : EForm)
  /-- CHRECV (R463): Waits to receive a parcel. -/
  | chrecv (f : EForm)
  /-- CHREL (R90): Frees a held parcel and returns credits in order. -/
  | chrel (f : EForm)
  /-- CHWIN (R463): Reads a channel end's window word. -/
  | chwin (f : EForm)
  /-- OXRED (R465): Starts a reduce-scatter or all-reduce collective. -/
  | oxred (f : EForm)
  /-- OXGATH (R465): Starts an all-gather collective. -/
  | oxgath (f : EForm)
  /-- WPOST (R466): Posts to a job control block. -/
  | wpost (f : EForm)
  /-- WRAISE (R466): Raises a block's EXPECTED count. -/
  | wraise (f : EForm)
  /-- WARR (R467): Places an entry in a Weir arrival queue. -/
  | warr (f : EForm)
  /-- SPAWN (R155): Starts a sibling context on a free sequencer of the core. -/
  | spawn (f : EForm)
  /-- GRD (R469): Reads a merged gauge value. -/
  | grd (f : EForm)
  /-- GUPD (R470): Counts elements into a gauge shard. -/
  | gupd (f : EForm)
  /-- GNEW (R70): Allocates a gauge record. -/
  | gnew (f : EForm)
  /-- GSEAL (R471): Seals a gauge record at once. -/
  | gseal (f : EForm)
  /-- GRESCALE (R79): Rescales a gauge record without resetting it. -/
  | grescale (f : EForm)
  /-- RECSET (R65): Checks and writes a tensor record. -/
  | recset (f : EForm)
  /-- LEASE (R47): Creates an LLC lease. -/
  | lease (f : EForm)
  /-- LREL (R48): Releases a lease. -/
  | lrel (f : EForm)
  /-- ELI (R472): Loads or inserts 16 bits into an e register. -/
  | eli (f : EForm)
  /-- ECPY (R472): Copies an e register to another file. -/
  | ecpy (f : EForm)
  /-- TWAIT (R473): Waits until the timebase reaches a value. -/
  | twait (f : EForm)
  /-- THERMAL_SAMPLE (R9): Every 10 us of timebase the thermal sequencer samples all 57 sensors and updates Tj, validity and the readings. -/
  | thermalSample (junction substrate : List Reading)
  /-- COOLANT_OK_CHANGE (R16): The plant's COOLANT_OK input changes level, which sets PLANTLOSS when it goes low and starts or stops the coolant timers. -/
  | coolantOkChange (level : Bool)
  /-- REGISTER_WRITE (R4): A write to a register that has no row of its own updates its writable fields and ignores reserved and read-only bits. -/
  | registerWrite (reg : RegAddr) (size : Nat) (value : W64)
  /-- COHERENCE_PLACEMENT (R252): A write to a global element reaches its home cache die and takes its place in that element's coherence order. -/
  | coherencePlacement (write : Nat)
  /-- REMOTE_WRITE_APPLY (R251): A remote write held until its causal past is applied is applied at the die, advancing that die's vector clock. -/
  | remoteWriteApply (write die : Nat)
  /-- ATOMIC_AT_HOME (R254): An atomic is performed at the element's home, reading and writing at one place in coherence order. -/
  | atomicAtHome (access : Nat) (lanes : List Nat)
  /-- MEMORY_ACCESS_COMPLETE (R437): A load, fill or atomic completes and writes its destination in one action as its token clears, or marks the token with an ECC error. -/
  | memoryAccessComplete (access : Nat) (lanes : List Nat) (ecc : SramEcc)
  /-- HOST_REQUEST_COMPLETION (R100): A PCIe completion returns for a host-window request, including the zero-length read that confirms posted writes for SYNC.SYS. -/
  | hostRequestCompletion (request : Nat)
  /-- GAUGE_SECTOR_UPDATE (R72): A sector's gauge contribution is applied atomically to the writer's shard: maximum, non-finite count and histogram. -/
  | gaugeSectorUpdate (entry : Nat)
  /-- GAUGE_SEAL (R75): At the control point a seal reads and resets the live shards, computes the new scale and writes the sealed fields to all four shards. -/
  | gaugeSeal (request : Nat)
  /-- GAUGE_RESCALE (R75): At the control point a rescale reads the live shards without resetting them and writes new sealed fields and epoch. -/
  | gaugeRescale (request : Nat)
  /-- CONFIG_FLIT_RECEIVE (R82): A channel end receives its peer's configuration flit and, once both are enabled, matches or enters MISCONF. -/
  | configFlitReceive (chan : Nat) (nparc : BitVec 12) (psize : BitVec 4) (state : BitVec 3)
  /-- PARCEL_HEADER_RECEIVE (R84): A parcel header arrives at a receiving end, or is discarded and counted when its end is not in RECV. -/
  | parcelHeaderReceive (chan : Nat) (header : FlitHeader)
  /-- DATA_FLIT_RECEIVE (R83): A data flit of a parcel is written to its sector in slot n mod NPARC of the buffer. -/
  | dataFlitReceive (chan : Nat) (data : List Byte)
  /-- PARCEL_DELIVERY (R89): Once all of a parcel's writes are applied it is delivered to FQ, BQ or the oldest waiting CHRECV in SEQ order, waiting if the queue is full. -/
  | parcelDelivery (chan : Nat)
  /-- CREDIT_FLIT_RECEIVE (R86): Returned credits raise WIN and re-insert the waiting CHSENDs at the head of the channel's queue. -/
  | creditFlitReceive (chan credits : Nat)
  /-- TIMED_SEND_LAUNCH (R91): The timebase reaches a timed send's launch time and the parcel header leaves. -/
  | timedSendLaunch (chan : Nat)
  /-- CHANNEL_ENABLE (R82): A write of STATE 1 or 2 to an IDLE end enables it, translates a receive buffer and sends a configuration flit. -/
  | channelEnable (chan : Nat) (base : W64) (ctl : W32)
  /-- CHANNEL_DISABLE (R82): A write of STATE 0 disables an end, fails its waiting operations, drops held parcels and notifies the peer. -/
  | channelDisable (chan : Nat)
  /-- OXBOW_FLIT_RECEIVE (R94): A replica receives collective flits from upstream, checks the header, adds or places data and forwards the result. -/
  | oxbowFlitReceive (west : Bool) (flit : OxFlit)
  /-- COLLECTIVE_COMPLETE (R98): A collective's writes are applied at die 3 and it clears its token, arrives on a barrier or posts to a JCB. -/
  | collectiveComplete (west : Bool)
  /-- START_WRITE (R116): An 8-byte write of the START register starts a session as the START command does; a narrower write sets BADARG. -/
  | startWrite (size : Nat) (value : W64)
  /-- STAGING_WRITE (R108): A BAR2 write updates the staging area, or is discarded with STAGELOST while an image command runs. -/
  | stagingWrite (offset : Nat) (data : List Byte)
  /-- STAGE_ENABLE (R132): A write of SCTL.ENABLE 1 checks the stage and enables it, or records the failure in ESTAT. -/
  | stageEnable (die stage : Nat) (wsplit : Bool)
  /-- STAGE_DISABLE (R132): A write of SCTL.ENABLE 0 stops new launches and clears STALLED. -/
  | stageDisable (die stage : Nat) (wsplit : Bool)
  /-- QUEUE_ARRIVAL (R140): An entry from WARR, a delivery or a successor event arrives in a stage's arrival queue. -/
  | queueArrival (die entry : Nat)
  /-- STAGE_EVALUATE (R144): On a trigger the Weir resumes captured gangs and walks the policy table, launching or pre-empting for the first ready entry. -/
  | stageEvaluate (die : Nat) (call : StageCall)
  /-- GANG_RESUME (R153): A captured gang resumes on its cores and sequencers with its window mode, cleared latches and LATCHLOST set. -/
  | gangResume (gang : Nat)
  /-- JCB_POST (R147): A post arrives at a job control block and counts DONE, completing it, faulting it or being refused. -/
  | jcbPost (what : JcbEvent)
  /-- SUCCESSOR_EVENT (R146): A completed block's successor fires: an enqueue, a barrier arrival or a release write, waiting for queue room when needed. -/
  | successorEvent (die entry : Nat)
  /-- STEP_RETIRE (R148): A step whose JCB completed retires once its seals are applied, queueing W work, releasing bindings and changing version slots. -/
  | stepRetire (die stage frame : Nat)
  /-- JOIN_HALF_ARRIVAL (R235): A join half arrives in the partner's slot, and when both halves are present each side adds the half it received. -/
  | joinHalfArrival (ctx : Nat)
  /-- JOIN_TIMEOUT (R236): The partner half has not arrived within JOINWAIT ticks, so the side ends the join and raises JOIN_TIMEOUT. -/
  | joinTimeout (ctx : Nat)
  /-- SLUICE_JOB_START (R163): A waiting job starts running once its footprint predecessors are DONE and the timebase has reached LT. -/
  | sluiceJobStart (die serial : Nat)
  /-- SLUICE_UNIT (R158): A job unit is read, transformed and written, with its checksum checked and its sectors landed on the barrier. -/
  | sluiceUnit (die serial unit : Nat) (ecc : SramEcc)
  /-- SLUICE_JOB_DONE (R163): All of a job's writes are applied at its die, so it reaches DONE, clears its token and frees a scheduler place. -/
  | sluiceJobDone (die serial : Nat)
  /-- SLUICE_JOB_FAULT (R165): A translation or permission fault suspends the job and appends a fault-queue entry. -/
  | sluiceJobFault (die serial unit : Nat)
  /-- FQ_RESUME (R286): An FQACT write of RESUME makes the suspended agent translate its access again. -/
  | fqResume (die entry : Nat)
  /-- FQ_ABANDON (R286): An FQACT write of ABANDON ends the suspended operation in its agent's failure state. -/
  | fqAbandon (die entry : Nat)
  /-- STREAM_VECTOR_ARRIVAL (R166): A 256-byte vector from a job, MREAD or restore enters a stream register's buffer when there is room. -/
  | streamVectorArrival (ctx stream : Nat)
  /-- RIFFLE_DECODE (R182): A queued DECODE trigger decodes zero-sector slots into plain blocks. -/
  | riffleDecode (cluster unit : Nat)
  /-- RIFFLE_ENCODE (R189): A queued ENCODE trigger encodes plain blocks into slots or escapes them to the overflow area. -/
  | riffleEncode (cluster unit : Nat)
  /-- RIFFLE_UNPACK12 (R183): A queued UNPACK12 trigger unpacks P12 pixels to N16 values. -/
  | riffleUnpack12 (cluster unit : Nat)
  /-- RIFFLE_CRC (R185): A queued CRC trigger computes CRC-32C over the source from a seed. -/
  | riffleCrc (cluster unit : Nat)
  /-- RIFFLE_EXPAND3 (R184): A queued EXPAND3 trigger expands three-bit indices to BF16 table entries. -/
  | riffleExpand3 (cluster unit : Nat)
  /-- RIFFLE_FILL (R186): A queued FILL trigger writes a 32-bit word repeatedly over the destination. -/
  | riffleFill (cluster unit : Nat)
  /-- RIFFLE_CHUNK_WRITE (R195): A 4 KiB chunk completed in staging is written out and POS advances. -/
  | riffleChunkWrite (cluster unit : Nat)
  /-- RIFFLE_OP_COMPLETE (R181): A Riffle operation's writes are applied, so it reaches DONE or ERROR and clears its token. -/
  | riffleOpComplete (cluster unit : Nat) (ecc : SramEcc)
  /-- RIFFLE_FAULT (R195): A source or destination fault suspends the Riffle operation mid-chunk. -/
  | riffleFault (cluster unit : Nat)
  /-- EDDY_STORE_COMPLETE (R201): A stash store job's data is applied, and its token clears. -/
  | eddyStoreComplete (die serial : Nat)
  /-- EDDY_RESTORE_COMPLETE (R202): All of a restore's writes are applied, so the entry becomes RESTORED and the stored copy is released. -/
  | eddyRestoreComplete (die serial : Nat)
  /-- EDDY_JOB_FAILURE (R202): An Eddy store or restore fails, turning the entry DROPPED with ERR and aborting its footprint successors. -/
  | eddyJobFailure (die : Nat) (job : EccJob)
  /-- BUNDLE_ISSUE (R232): The core issues one bundle from the oldest unstalled ready context, with repeats, sticky re-issue and delay counting. -/
  | bundleIssue (turn : IssueTurn)
  /-- TLB_WALK_COMPLETE (R282): A table walk ends, filling the TLBs or raising PAGE or PERM at the stalled bundle. -/
  | tlbWalkComplete (cluster page : Nat)
  /-- TWAIT_EXPIRY (R473): The timebase reaches a TWAIT's time and the waiting context is re-inserted. -/
  | twaitExpiry (ctx : Nat)
  /-- POWER_LOST (R17): Loss of module power takes any state to OFF. -/
  | powerLost
  /-- BAND_DECISION (R10): A band decision moves the band one step and takes the state transition and sequence that R17 lists; a decision deferred during a running sequence is made when that sequence ends. -/
  | bandDecision
  /-- RATE_GRADIENT_CHECK (R15): Once per second the sequencer computes the rate and the gradient and sets warnings, asserts the pause demand or enters FAULT. -/
  | rateGradientCheck
  /-- COOLANT_LOSS_HOLD (R16): COOLANT_OK has been low for 5 s in COLD_READY, RUN or RETREAT, so the module enters HOLD. -/
  | coolantLossHold
  /-- COOLANT_LOSS_FAULT (R16): COOLANT_OK has been low for 65 s, so the module enters FAULT. -/
  | coolantLossFault
  /-- COOLANT_RESTORED_EXIT (R17): COOLANT_OK has been high for 10 s with CMDHOLD 0 and the band COLD or RETREAT, so HOLD ends. -/
  | coolantRestoredExit
  /-- SWITCH_TICK (R19): At the switch tick the arithmetic clock of all four dies steps between 1.8 GHz and 1.4 GHz, and CLKLOW is updated. -/
  | switchTick
  /-- COLD_REFRESH_EXPIRY (R12): 64 s after entry into COLD, refresh stops and REFRATE becomes 0. -/
  | coldRefreshExpiry
  /-- TIME_FLIT_SEND (R93): Every 1,024 ticks the master sends a time flit on every enabled Braid port. -/
  | timeFlitSend
  /-- IDENTIFY (R106): The mailbox command returns the part code, firmware version, serial number and identity key. -/
  | identify
  /-- ATTEST (R121): The mailbox command writes a signed 256-byte attestation report to host memory. -/
  | attest
  /-- COOL (R17): The COOL command takes its R17 transition: starting cool-down, or leaving a commanded HOLD. -/
  | cool
  /-- WARM (R17): The WARM command ends any session, writes back the LLC where R17 says, powers down and sets warm-up. -/
  | warm
  /-- HOLD (R21): The HOLD command enters HOLD with CMDHOLD set and completes at the end of the hold entry sequence. -/
  | hold
  /-- LOAD_IMAGE (R113): The command verifies a staged image, writes its sections, builds the start-bit store and page tables, and records the digest. -/
  | loadImage
  /-- VERIFY_IMAGE (R112): The command checks a staged image's structure and signature without loading it. -/
  | verifyImage
  /-- START (R118): The START command checks a start-vector table and starts a session with a context on each named core. -/
  | start
  /-- STOP (R119): The STOP command ends the session, discarding contexts and resetting the session state. -/
  | stop
  /-- QUERY (R106): The command returns THSTAT, SESSTAT, ACTSTAT, LATTOL, the log count and the session number. -/
  | query
  /-- SET_LATTOL (R124): The command writes LATTOL, waking the module when needed, and completes when an allowed state is reached. -/
  | setLattol
  /-- RESET_DIE (R106): The command resets a die's cores, caches, TLBs, Weir, job scheduler and TVEC, and keeps memory contents. -/
  | resetDie
  /-- READ_LOG (R107): The command copies log entries to host memory. -/
  | readLog
  /-- ACTIVITY_DECISION (R122): When an idle condition has held for its time, the module enters the deepest activity state that LATTOL allows. -/
  | activityDecision
  /-- WAKE_EVENT (R124): An arrival, host access, command or START write wakes the module from its activity state. -/
  | wakeEvent
  /-- TLBINV_ALL (R284): A TLBINV write with ALL 1 drops every translation entry once the affected walks have ended. -/
  | tlbinvAll
  /-- POWER_APPLIED (R17): Module power is applied and the management self-test passes, taking OFF to WARM_STANDBY. -/
  | powerApplied (junction substrate : List Reading)
  /-- TIMING_SET_SWITCH (R13): At its next all-bank idle point a pseudo-channel adopts the new timing set and refresh rate. -/
  | timingSetSwitch (channel : Nat)
  /-- THEVT_WRITE (R28): A write of 1 clears the corresponding sticky thermal event bits. -/
  | thevtWrite (value : W32)
  /-- DRAM_READ_WRITE (R58): A pseudo-channel serves a read or write request, waking from power-down if needed, and corrects or reports ECC errors. -/
  | dramReadWrite (channel : Nat) (sector : Nat) (write : Bool) (ecc : Ecc)
  /-- REFRESH (R58): A refresh interval falls due and the pseudo-channel refreshes, or postpones up to 8 intervals. -/
  | refresh (channel : Nat) (due : Bool)
  /-- PATROL_SCRUB_ACCESS (R14): Patrol scrub reads, corrects and rewrites a row, and takes priority within 1 s of the row's 64 s deadline. -/
  | patrolScrubAccess (channel : Nat) (sector : Nat) (urgent request : Bool) (ecc : Ecc)
  /-- POWER_DOWN_ENTRY (R57): After 64 idle controller cycles the pseudo-channel enters power-down unless a request arrives in the same cycle. -/
  | powerDownEntry (channel : Nat) (request : Bool)
  /-- SELF_REFRESH_ENTRY (R57): In HOLD, after 1,024 idle cycles the pseudo-channel enters self-refresh unless a request arrives in the same cycle. -/
  | selfRefreshEntry (channel : Nat) (request : Bool)
  /-- LLC_ACCESS (R43): A request reaches its home cache die and is served by sector, with fills, allocation, merges, pinning and eviction. -/
  | llcAccess (sector : Nat) (kind : LlcKind) (ecc : Ecc)
  /-- LEASE_EXPIRY (R48): The timebase reaches LDEAD and an ACTIVE lease becomes EXPIRED, unpinning its lines in place. -/
  | leaseExpiry (lease : Nat)
  /-- HANDLE_REQUEST (R51): A layout unit maps a tensor-handle tile request to sector accesses, padding or discarding out-of-bounds positions. -/
  | handleRequest (die handle : Nat) (coord shape : Quad4) (sup write : Bool) (image : List Byte)
  /-- RECORD_REPLICA_WRITE (R66): A RECSET record is written into a die's replica and the cached copies are invalidated. -/
  | recordReplicaWrite (request die : Nat)
  /-- PORT_DOWN (R81): Retries on a port have failed for 100 us, so the port goes down and its traffic stays queued. -/
  | portDown (port : Nat)
  /-- PORT_UP (R81): A port comes up, resends configuration flits and resumes from the last acknowledged flit. -/
  | portUp (port : Nat)
  /-- TIME_FLIT_RECEIVE (R93): A follower compares a time flit with its count and steps or slews its timebase, updating LOCKED. -/
  | timeFlitReceive (port : Nat) (value : Nat)
  /-- OXBOW_FLAG_WRITE (R97): After a shard is applied at die 3, the all-gather makes a release write of the flag value for that shard. -/
  | oxbowFlagWrite (west : Bool) (shard : Nat)
  /-- STAGE_EVAL_TIMER (R144): A stage not evaluated for 64 timebase ticks is evaluated. -/
  | stageEvalTimer (die stage : Nat)
  /-- LAUNCH_TIME_REACHED (R143): The timebase reaches an entry's LT, which triggers an evaluation. -/
  | launchTimeReached (die stage : Nat)
  /-- SAVE_WRITEOUT_COMPLETE (R275): The background write-out of a captured gang's saved state to its save areas ends. -/
  | saveWriteoutComplete (gang : Nat)
  /-- TLBINV_PAGE (R284): A TLBINV write with ALL 0 drops the entries covering one 64 KiB page. -/
  | tlbinvPage (vpn : BitVec 32)
  deriving DecidableEq, Repr

end Sys2Proof
end

