-- ==== Sys2Proof/WellFormed.lean ====
section
/-! DEFINITION. Well-formed instructions: a slot operation whose slot may hold it (R337), whose layout
variant is the one its row of the table names (PREP and its absolute form, the three forms of ATOM), and whose
constantly zero fields are zero (R321, R346, R419, R434, R451); an event whose indices name parts that the
module has (R8, R37, R38, R60, R82, R207). Reserved VALUES of the other fields are judged by the machine, at
the issue, since they trap only when the operation is active (R321). -/

namespace Sys2Proof

/-- Pseudo-channels of the HBM4E stacks and channels of the LP packages, counted together: 64 for each of 16
stacks (R37), then 16 for each of 8 packages (R38). -/
def numChannels : Nat := 16 * 64 + 8 * 16

/-- The well-formedness check. -/
def Instr.wf : Instr → Bool
  | .powerApplied junction substrate => junction.length == 48 && substrate.length == 9
  | .powerLost => true
  | .thermalSample junction substrate => junction.length == 48 && substrate.length == 9
  | .bandDecision => true
  | .rateGradientCheck => true
  | .coolantOkChange _ => true
  | .coolantLossHold => true
  | .coolantLossFault => true
  | .coolantRestoredExit => true
  | .switchTick => true
  | .timingSetSwitch channel => decide (channel < numChannels)
  | .coldRefreshExpiry => true
  | .thevtWrite _ => true
  | .registerWrite _ size _ => size == 1 || size == 2 || size == 4 || size == 8
  | .dramReadWrite channel sector _ _ => decide (channel < numChannels) && decide (sector < 2 ^ 43)
  | .refresh channel _ => decide (channel < numChannels)
  | .patrolScrubAccess channel sector _ _ _ => decide (channel < numChannels) && decide (sector < 2 ^ 43)
  | .powerDownEntry channel _ => decide (channel < numChannels)
  | .selfRefreshEntry channel _ => decide (channel < numChannels)
  | .llcAccess sector _ _ => decide (sector < 2 ^ 43)
  | .leaseExpiry n => decide (n < 64)
  | .handleRequest die handle _ shape _ _ _ => decide (die < 4) && decide (handle < 2 ^ 20) && decide (0 < shape.x0) && decide (0 < shape.x1) && decide (0 < shape.x2) && decide (0 < shape.x3)
  | .coherencePlacement _ => true
  | .remoteWriteApply _ die => decide (die < 4)
  | .atomicAtHome _ _ => true
  | .memoryAccessComplete _ _ _ => true
  | .hostRequestCompletion _ => true
  | .recordReplicaWrite _ die => decide (die < 4)
  | .gaugeSectorUpdate _ => true
  | .gaugeSeal _ => true
  | .gaugeRescale _ => true
  | .configFlitReceive chan _ _ _ => decide (chan < 1536)
  | .parcelHeaderReceive chan _ => decide (chan < 1536)
  | .dataFlitReceive chan _ => decide (chan < 1536)
  | .parcelDelivery chan => decide (chan < 1536)
  | .creditFlitReceive chan _ => decide (chan < 1536)
  | .timedSendLaunch chan => decide (chan < 1536)
  | .channelEnable chan _ _ => decide (chan < 1536)
  | .channelDisable chan => decide (chan < 1536)
  | .portDown port => decide (port < 9)
  | .portUp port => decide (port < 9)
  | .timeFlitSend => true
  | .timeFlitReceive port _ => decide (port < 6)
  | .oxbowFlitReceive _ _ => true
  | .oxbowFlagWrite _ _ => true
  | .collectiveComplete _ => true
  | .identify => true
  | .attest => true
  | .cool => true
  | .warm => true
  | .hold => true
  | .loadImage => true
  | .verifyImage => true
  | .start => true
  | .startWrite size _ => size == 1 || size == 2 || size == 4 || size == 8
  | .stop => true
  | .query => true
  | .setLattol => true
  | .resetDie => true
  | .readLog => true
  | .stagingWrite offset data => decide (offset + data.length ≤ 2 ^ 32)
  | .activityDecision => true
  | .wakeEvent => true
  | .stageEnable die stage _ => decide (die < 4) && decide (stage < 8)
  | .stageDisable die stage _ => decide (die < 4) && decide (stage < 8)
  | .queueArrival die _ => decide (die < 4)
  | .stageEvaluate die call => decide (die < 4) && decide (call.stage < 8)
  | .stageEvalTimer die stage => decide (die < 4) && decide (stage < 8)
  | .launchTimeReached die stage => decide (die < 4) && decide (stage < 8)
  | .saveWriteoutComplete _ => true
  | .gangResume _ => true
  | .jcbPost _ => true
  | .successorEvent die _ => decide (die < 4)
  | .stepRetire die stage frame => decide (die < 4) && decide (stage < 8) && decide (frame < 64)
  | .joinHalfArrival ctx => decide (ctx < 2304)
  | .joinTimeout ctx => decide (ctx < 2304)
  | .sluiceJobStart die _ => decide (die < 4)
  | .sluiceUnit die _ _ _ => decide (die < 4)
  | .sluiceJobDone die _ => decide (die < 4)
  | .sluiceJobFault die _ _ => decide (die < 4)
  | .fqResume die entry => decide (die < 4) && decide (entry < 64)
  | .fqAbandon die entry => decide (die < 4) && decide (entry < 64)
  | .streamVectorArrival ctx stream => decide (ctx < 2304) && decide (stream < 8)
  | .riffleDecode cluster unit => decide (cluster < 288) && decide (unit < 4)
  | .riffleEncode cluster unit => decide (cluster < 288) && decide (unit < 4)
  | .riffleUnpack12 cluster unit => decide (cluster < 288) && decide (unit < 4)
  | .riffleCrc cluster unit => decide (cluster < 288) && decide (unit < 4)
  | .riffleExpand3 cluster unit => decide (cluster < 288) && decide (unit < 4)
  | .riffleFill cluster unit => decide (cluster < 288) && decide (unit < 4)
  | .riffleChunkWrite cluster unit => decide (cluster < 288) && decide (unit < 4)
  | .riffleOpComplete cluster unit _ => decide (cluster < 288) && decide (unit < 4)
  | .riffleFault cluster unit => decide (cluster < 288) && decide (unit < 4)
  | .eddyStoreComplete die _ => decide (die < 4)
  | .eddyRestoreComplete die _ => decide (die < 4)
  | .eddyJobFailure die _ => decide (die < 4)
  | .bundleIssue turn => decide (turn.core < 576)
  | .tlbWalkComplete cluster _ => decide (cluster < 288)
  | .tlbinvAll => true
  | .tlbinvPage _ => true
  | .twaitExpiry ctx => decide (ctx < 2304)
  | .nop f => f.j == 0#2 && f.pd == 0#4 && f.pe == 0#4 && f.x == 0#8 && f.imm == 0#20
  | .prep f => f.pd == 0#4 && f.pe == 0#4 && f.x == 0#8
  | .prepAbsolute f => f.pd == 0#4 && f.pe == 0#4 && f.x == 1#8
  | .brx f => f.pd == 0#4 && f.pe == 0#4 && f.x == 0#8 && f.imm == 0#20
  | .brxl f => f.pd == 0#4 && f.pe == 0#4 && f.x == 0#8 && f.imm == 0#20
  | .vote f => f.j == 0#2 && f.imm == 0#20
  | .ptt f => f.j == 0#2
  | .loop f => f.j == 0#2 && f.pd == 0#4 && f.pe == 0#4
  | .lset f => f.pd == 0#4 && f.pe == 0#4
  | .lstr f => f.j == 0#2 && f.pd == 0#4 && f.pe == 0#4
  | .waitk f => f.j == 0#2 && f.pd == 0#4 && f.pe == 0#4 && f.imm == 0#20
  | .bwait f => f.j == 0#2 && f.pd == 0#4 && f.pe == 0#4
  | .barv f => f.j == 0#2 && f.pd == 0#4 && f.pe == 0#4 && f.x == 0#8
  | .yield f => f.j == 0#2 && f.pd == 0#4 && f.pe == 0#4 && f.x == 0#8 && f.imm == 0#20
  | .setfmt f => f.j == 0#2 && f.pd == 0#4 && f.pe == 0#4
  | .setwin f => f.j == 0#2 && f.pd == 0#4 && f.pe == 0#4 && f.imm == 0#20
  | .trap f => f.j == 0#2 && f.pd == 0#4 && f.pe == 0#4 && f.x == 0#8
  | .rft f => f.j == 0#2 && f.pd == 0#4 && f.pe == 0#4 && f.x == 0#8 && f.imm == 0#20
  | .done f => f.j == 0#2 && f.pd == 0#4 && f.pe == 0#4 && f.x == 0#8 && f.imm == 0#20
  | .spin f => f.j == 0#2 && f.pd == 0#4 && f.pe == 0#4 && f.x == 0#8
  | .add f => f.rest == 0#17
  | .addi f => f.rest == 0#3
  | .sub f => f.rest == 0#17
  | .mul f => f.rest == 0#17
  | .mulh f => f.rest == 0#17
  | .mulhn f => f.rest == 0#17
  | .div f => f.rest == 0#17
  | .divn f => f.rest == 0#17
  | .rem f => f.rest == 0#17
  | .and f => f.rest == 0#17
  | .andi f => f.rest == 0#3
  | .or f => f.rest == 0#17
  | .ori f => f.rest == 0#3
  | .xor f => f.rest == 0#17
  | .xori f => f.rest == 0#3
  | .andn f => f.rest == 0#17
  | .shl f => f.rest == 0#17
  | .shr f => f.rest == 0#17
  | .sar f => f.rest == 0#17
  | .rot f => f.rest == 0#17
  | .clz f => f.rest == 0#17
  | .popc f => f.rest == 0#17
  | .min f => f.rest == 0#17
  | .max f => f.rest == 0#17
  | .minn f => f.rest == 0#17
  | .maxn f => f.rest == 0#17
  | .shadd f => f.rest == 0#3
  | .ext f => f.rest == 0#3
  | .ins f => f.rest == 0#3
  | .li f => f.rest == 0#3
  | .lih f => f.rest == 0#3
  | .lil f => f.rest == 0#3
  | .cmp f => f.rest == 0#17
  | .cmpi f => f.rest == 0#3
  | .sel f => f.rest == 0#3
  | .cpy f => f.rest == 0#3
  | .mfs f => f.rest == 0#3 && f.slot == .s0
  | .mts f => f.rest == 0#3 && f.slot == .s0
  | .brxS1 f => f.rest == 0#17 && f.slot == .s1
  | .vadd _ => true
  | .vsub _ => true
  | .vmul _ => true
  | .vfma _ => true
  | .vfms _ => true
  | .vmac _ => true
  | .vmin _ => true
  | .vmax _ => true
  | .vabs _ => true
  | .vneg _ => true
  | .vrcp _ => true
  | .vrsq _ => true
  | .vexp2 _ => true
  | .vlog2 _ => true
  | .vclass _ => true
  | .vcmp _ => true
  | .vaddi _ => true
  | .vmuli _ => true
  | .vfmai _ => true
  | .vmaci _ => true
  | .viadd _ => true
  | .visub _ => true
  | .vimul _ => true
  | .vimulh _ => true
  | .vshl _ => true
  | .vshr _ => true
  | .vsar _ => true
  | .vand _ => true
  | .vor _ => true
  | .vxor _ => true
  | .vandn _ => true
  | .vimin _ => true
  | .vimax _ => true
  | .vadds _ => true
  | .vsubs _ => true
  | .vqmuls _ => true
  | .vabsd _ => true
  | .vavg _ => true
  | .vdot4 _ => true
  | .vsad _ => true
  | .vicmp _ => true
  | .vcvt _ => true
  | .vqnt _ => true
  | .vdqnt _ => true
  | .vmxs _ => true
  | .vsplit _ => true
  | .vjoin _ => true
  | .vmov _ => true
  | .vbcst _ => true
  | .viota _ => true
  | .vperm _ => true
  | .vshuf _ => true
  | .vslide _ => true
  | .vbext _ => true
  | .vlut _ => true
  | .vlutld _ => true
  | .vunpk12 _ => true
  | .vpack12 _ => true
  | .vrng _ => true
  | .vred _ => true
  | .vscan _ => true
  | .vcpy _ => true
  | .mcfg f => f.rest == 0#29
  | .mzero f => f.rest == 0#33
  | .mma f => f.rest == 0#10
  | .mmax f => f.rest == 0#10
  | .mread f => f.rest == 0#18
  | .mwrite f => f.rest == 0#17
  | .mjoin f => f.rest == 0#17
  | .mstat f => f.rest == 0#28
  | .ld _ => true
  | .st _ => true
  | .vld _ => true
  | .vst _ => true
  | .vlds _ => true
  | .vsts _ => true
  | .vgth f => f.rest == 0#3
  | .vsct f => f.rest == 0#3
  | .ldj _ => true
  | .stj _ => true
  | .atom f => f.rest == 0#2 && f.ak == 0#2
  | .ldAcq f => f.rest == 0#2 && f.ak == 1#2
  | .stRel f => f.rest == 0#2 && f.ak == 2#2
  | .vatom _ => true
  | .fence f => f.hi == 0#29 && f.mid == 0#3 && f.token == 0#3
  | .sync f => f.hi == 0#29 && f.mid == 0#3
  | .tbinit _ => true
  | .tbarv _ => true
  | .tbexp _ => true
  | .tbwait f => f.token == 0#3
  | .spill f => f.rest == 0#24
  | .fill f => f.rest == 0#24
  | .dadd f => f.token == 0#3
  | .dli f => f.rest == 0#11 && f.token == 0#3
  | .dcpy f => f.rest == 0#20 && f.token == 0#3
  | .l1inv f => f.hi == 0#11
  | .l1wb f => f.hi == 0#11
  | .prf _ => true
  | .sljob _ => true
  | .slstat _ => true
  | .slkill _ => true
  | .stbind _ => true
  | .rmov _ => true
  | .rget _ => true
  | .edstash _ => true
  | .edfetch _ => true
  | .edfree _ => true
  | .edqry _ => true
  | .chsend _ => true
  | .chrecv _ => true
  | .chrel _ => true
  | .chwin _ => true
  | .oxred _ => true
  | .oxgath _ => true
  | .wpost _ => true
  | .wraise _ => true
  | .warr _ => true
  | .spawn _ => true
  | .grd _ => true
  | .gupd _ => true
  | .gnew _ => true
  | .gseal _ => true
  | .grescale _ => true
  | .recset _ => true
  | .lease _ => true
  | .lrel _ => true
  | .eli f => f.token == 0#3
  | .ecpy f => f.token == 0#3
  | .twait f => f.token == 0#3

end Sys2Proof
end

