-- ==== Sys2Proof/Decode.lean ====
section
/-! DEFINITION. Decoding (R310 to R326, R334 to R341, R419, R434, R451): from the words of a bundle to
the operations of its slots, total, with every refusal named; and the encoder of the same tables.
The words are those of memory, little-endian (R3), the first at the lowest address (R310). -/

namespace Sys2Proof

/-- Why a word does not decode. Each is a trap of the machine: ILLEGAL_OP of the header (R312), or of
a slot, for a reserved code or a code barred from the slot (R335). `truncated` is no trap: it says
that the list of words given ends inside the bundle. -/
inductive DecodeError where
  | headerBits (low : BitVec 12)
  | illegalOp (slot : Slot) (op : Nat)
  | truncated
  deriving DecidableEq, Repr

/-- The slot of S0 or S1. -/
def SSlot.slot : SSlot → Slot
  | .s0 => .s0
  | .s1 => .s1

/-- The slot of V0 or V1. -/
def VSlot.slot : VSlot → Slot
  | .v0 => .v0
  | .v1 => .v1

/-- The slots in the order in which a bundle holds them (R310). -/
def Slot.all : List Slot := [.c, .s0, .s1, .v0, .v1, .m, .l, .e]

/-- The number of a slot in TCAUSE.SLOT and TRAPARG[2:0] (R269, R270), which is its place in slot order. -/
def Slot.num : Slot → Nat
  | .c => 0 | .s0 => 1 | .s1 => 2 | .v0 => 3 | .v1 => 4 | .m => 5 | .l => 6 | .e => 7

/-- The header word (R311). -/
structure Header where
  present : BitVec 8
  release : BitVec 4
  repeats : BitVec 6
  lits : BitVec 2
  deriving DecidableEq, Repr

/-- Whether the header says that a slot's syllable is present: bit 31 is C, bit 24 is E. -/
def Header.has (h : Header) (s : Slot) : Bool := h.present.getLsbD (7 - s.num)

/-- Whether the header ends a sticky slot's re-issue (R311): bit 23 V0, 22 V1, 21 M, 20 L. -/
def Header.releases (h : Header) : Slot → Bool
  | .v0 => h.release.getLsbD 3
  | .v1 => h.release.getLsbD 2
  | .m => h.release.getLsbD 1
  | .l => h.release.getLsbD 0
  | _ => false

/-- The header of a word, or its refusal (R311, R312). -/
def decodeHeader (w : W32) : Except DecodeError Header :=
  if w.extractLsb' 0 12 = 0#12 then
    .ok { present := w.extractLsb' 24 8, release := w.extractLsb' 20 4,
          repeats := w.extractLsb' 14 6, lits := w.extractLsb' 12 2 }
  else .error (.headerBits (w.extractLsb' 0 12))

/-- The header word of a header (R311). -/
def encodeHeader (h : Header) : W32 := h.present ++ h.release ++ h.repeats ++ h.lits ++ 0#12

/-- The guard fields of a syllable (R321). -/
def Guard.unpack (w : W64) : Guard :=
  ⟨w.extractLsb' 56 8, w.extractLsb' 52 4, w.extractLsb' 48 4, w.extractLsb' 44 4⟩

/-- Operand bits [37:0] of the layout, field by field. -/
def CForm.pack (f : CForm) : BitVec 38 :=
  f.j ++ f.pd ++ f.pe ++ f.x ++ f.imm

/-- The layout read from a syllable. -/
def CForm.unpack (g : Guard) (w : W64) : CForm where
  g := g
  j := w.extractLsb' 36 2
  pd := w.extractLsb' 32 4
  pe := w.extractLsb' 28 4
  x := w.extractLsb' 20 8
  imm := w.extractLsb' 0 20

/-- Operand bits [37:0] of the layout, field by field. -/
def SReg.pack (f : SReg) : BitVec 38 :=
  f.rd ++ f.rs1 ++ f.rs2 ++ f.q ++ f.rest

/-- The layout read from a syllable. -/
def SReg.unpack (g : Guard) (slot : SSlot) (w : W64) : SReg where
  g := g
  slot := slot
  rd := w.extractLsb' 32 6
  rs1 := w.extractLsb' 26 6
  rs2 := w.extractLsb' 20 6
  q := w.extractLsb' 17 3
  rest := w.extractLsb' 0 17

/-- Operand bits [37:0] of the layout, field by field. -/
def SImm.pack (f : SImm) : BitVec 38 :=
  f.rd ++ f.rs1 ++ f.q ++ f.rest ++ f.imm

/-- The layout read from a syllable. -/
def SImm.unpack (g : Guard) (slot : SSlot) (w : W64) : SImm where
  g := g
  slot := slot
  rd := w.extractLsb' 32 6
  rs1 := w.extractLsb' 26 6
  q := w.extractLsb' 23 3
  rest := w.extractLsb' 20 3
  imm := w.extractLsb' 0 20

/-- Operand bits [37:0] of the layout, field by field. -/
def VReg.pack (f : VReg) : BitVec 38 :=
  f.vd ++ f.vs1 ++ f.kind ++ f.op2 ++ f.ty ++ f.step ++ f.var

/-- The layout read from a syllable. -/
def VReg.unpack (g : Guard) (slot : VSlot) (w : W64) : VReg where
  g := g
  slot := slot
  vd := w.extractLsb' 29 9
  vs1 := w.extractLsb' 20 9
  kind := w.extractLsb' 18 2
  op2 := w.extractLsb' 9 9
  ty := w.extractLsb' 5 4
  step := w.extractLsb' 3 2
  var := w.extractLsb' 0 3

/-- Operand bits [37:0] of the layout, field by field. -/
def VImm.pack (f : VImm) : BitVec 38 :=
  f.vd ++ f.vs1 ++ f.imm

/-- The layout read from a syllable. -/
def VImm.unpack (g : Guard) (slot : VSlot) (w : W64) : VImm where
  g := g
  slot := slot
  vd := w.extractLsb' 29 9
  vs1 := w.extractLsb' 20 9
  imm := w.extractLsb' 0 20

/-- Operand bits [37:0] of the layout, field by field. -/
def MMac.pack (f : MMac) : BitVec 38 :=
  f.z ++ f.ma ++ f.mb ++ f.kq ++ f.format ++ f.ta ++ f.tb ++ f.ovw ++ f.gauge ++ f.rest

/-- The layout read from a syllable. -/
def MMac.unpack (g : Guard) (w : W64) : MMac where
  g := g
  z := w.extractLsb' 33 5
  ma := w.extractLsb' 29 4
  mb := w.extractLsb' 25 4
  kq := w.extractLsb' 18 7
  format := w.extractLsb' 14 4
  ta := w.extractLsb' 13 1
  tb := w.extractLsb' 12 1
  ovw := w.extractLsb' 11 1
  gauge := w.extractLsb' 10 1
  rest := w.extractLsb' 0 10

/-- Operand bits [37:0] of the layout, field by field. -/
def MCfg.pack (f : MCfg) : BitVec 38 :=
  f.z ++ f.ma ++ f.rest

/-- The layout read from a syllable. -/
def MCfg.unpack (g : Guard) (w : W64) : MCfg where
  g := g
  z := w.extractLsb' 33 5
  ma := w.extractLsb' 29 4
  rest := w.extractLsb' 0 29

/-- Operand bits [37:0] of the layout, field by field. -/
def MZero.pack (f : MZero) : BitVec 38 :=
  f.z ++ f.rest

/-- The layout read from a syllable. -/
def MZero.unpack (g : Guard) (w : W64) : MZero where
  g := g
  z := w.extractLsb' 33 5
  rest := w.extractLsb' 0 33

/-- Operand bits [37:0] of the layout, field by field. -/
def MRead.pack (f : MRead) : BitVec 38 :=
  f.z ++ f.f ++ f.rp ++ f.np ++ f.rest

/-- The layout read from a syllable. -/
def MRead.unpack (g : Guard) (w : W64) : MRead where
  g := g
  z := w.extractLsb' 33 5
  f := w.extractLsb' 30 3
  rp := w.extractLsb' 24 6
  np := w.extractLsb' 18 6
  rest := w.extractLsb' 0 18

/-- Operand bits [37:0] of the layout, field by field. -/
def MWrite.pack (f : MWrite) : BitVec 38 :=
  f.z ++ f.ma ++ f.rp ++ f.np ++ f.rest

/-- The layout read from a syllable. -/
def MWrite.unpack (g : Guard) (w : W64) : MWrite where
  g := g
  z := w.extractLsb' 33 5
  ma := w.extractLsb' 29 4
  rp := w.extractLsb' 23 6
  np := w.extractLsb' 17 6
  rest := w.extractLsb' 0 17

/-- Operand bits [37:0] of the layout, field by field. -/
def MJoin.pack (f : MJoin) : BitVec 38 :=
  f.z ++ f.partner ++ f.jn ++ f.h ++ f.token ++ f.rest

/-- The layout read from a syllable. -/
def MJoin.unpack (g : Guard) (w : W64) : MJoin where
  g := g
  z := w.extractLsb' 33 5
  partner := w.extractLsb' 25 8
  jn := w.extractLsb' 21 4
  h := w.extractLsb' 20 1
  token := w.extractLsb' 17 3
  rest := w.extractLsb' 0 17

/-- Operand bits [37:0] of the layout, field by field. -/
def MStat.pack (f : MStat) : BitVec 38 :=
  f.z ++ f.ma ++ f.clr ++ f.rest

/-- The layout read from a syllable. -/
def MStat.unpack (g : Guard) (w : W64) : MStat where
  g := g
  z := w.extractLsb' 33 5
  ma := w.extractLsb' 29 4
  clr := w.extractLsb' 28 1
  rest := w.extractLsb' 0 28

/-- Operand bits [37:0] of the layout, field by field. -/
def LGen.pack (f : LGen) : BitVec 38 :=
  f.file ++ f.reg ++ f.base ++ f.ps ++ f.off ++ f.size ++ f.token

/-- The layout read from a syllable. -/
def LGen.unpack (g : Guard) (w : W64) : LGen where
  g := g
  file := w.extractLsb' 36 2
  reg := w.extractLsb' 27 9
  base := w.extractLsb' 22 5
  ps := w.extractLsb' 21 1
  off := w.extractLsb' 7 14
  size := w.extractLsb' 3 4
  token := w.extractLsb' 0 3

/-- Operand bits [37:0] of the layout, field by field. -/
def LStr.pack (f : LStr) : BitVec 38 :=
  f.file ++ f.reg ++ f.base ++ f.sd ++ f.gauge ++ f.off ++ f.size ++ f.token

/-- The layout read from a syllable. -/
def LStr.unpack (g : Guard) (w : W64) : LStr where
  g := g
  file := w.extractLsb' 36 2
  reg := w.extractLsb' 27 9
  base := w.extractLsb' 22 5
  sd := w.extractLsb' 17 5
  gauge := w.extractLsb' 16 1
  off := w.extractLsb' 7 9
  size := w.extractLsb' 3 4
  token := w.extractLsb' 0 3

/-- Operand bits [37:0] of the layout, field by field. -/
def LIdx.pack (f : LIdx) : BitVec 38 :=
  f.file ++ f.reg ++ f.ix ++ f.base ++ f.sh ++ f.rest ++ f.size ++ f.token

/-- The layout read from a syllable. -/
def LIdx.unpack (g : Guard) (w : W64) : LIdx where
  g := g
  file := w.extractLsb' 36 2
  reg := w.extractLsb' 27 9
  ix := w.extractLsb' 18 9
  base := w.extractLsb' 13 5
  sh := w.extractLsb' 10 3
  rest := w.extractLsb' 7 3
  size := w.extractLsb' 3 4
  token := w.extractLsb' 0 3

/-- Operand bits [37:0] of the layout, field by field. -/
def LAtom.pack (f : LAtom) : BitVec 38 :=
  f.file ++ f.rd ++ f.rs ++ f.base ++ f.ak ++ f.aop ++ f.sz ++ f.ord ++ f.scope ++ f.sx ++ f.rest ++ f.token

/-- The layout read from a syllable. -/
def LAtom.unpack (g : Guard) (w : W64) : LAtom where
  g := g
  file := w.extractLsb' 36 2
  rd := w.extractLsb' 30 6
  rs := w.extractLsb' 24 6
  base := w.extractLsb' 19 5
  ak := w.extractLsb' 17 2
  aop := w.extractLsb' 13 4
  sz := w.extractLsb' 11 2
  ord := w.extractLsb' 9 2
  scope := w.extractLsb' 6 3
  sx := w.extractLsb' 5 1
  rest := w.extractLsb' 3 2
  token := w.extractLsb' 0 3

/-- Operand bits [37:0] of the layout, field by field. -/
def LVAtom.pack (f : LVAtom) : BitVec 38 :=
  f.file ++ f.reg ++ f.ix ++ f.base ++ f.aop ++ f.ord ++ f.scope ++ f.ret ++ f.token

/-- The layout read from a syllable. -/
def LVAtom.unpack (g : Guard) (w : W64) : LVAtom where
  g := g
  file := w.extractLsb' 36 2
  reg := w.extractLsb' 27 9
  ix := w.extractLsb' 18 9
  base := w.extractLsb' 13 5
  aop := w.extractLsb' 9 4
  ord := w.extractLsb' 7 2
  scope := w.extractLsb' 4 3
  ret := w.extractLsb' 3 1
  token := w.extractLsb' 0 3

/-- Operand bits [37:0] of the layout, field by field. -/
def LScope.pack (f : LScope) : BitVec 38 :=
  f.hi ++ f.scope ++ f.mid ++ f.token

/-- The layout read from a syllable. -/
def LScope.unpack (g : Guard) (w : W64) : LScope where
  g := g
  hi := w.extractLsb' 9 29
  scope := w.extractLsb' 6 3
  mid := w.extractLsb' 3 3
  token := w.extractLsb' 0 3

/-- Operand bits [37:0] of the layout, field by field. -/
def LBar.pack (f : LBar) : BitVec 38 :=
  f.file ++ f.reg ++ f.base ++ f.src ++ f.imm ++ f.token

/-- The layout read from a syllable. -/
def LBar.unpack (g : Guard) (w : W64) : LBar where
  g := g
  file := w.extractLsb' 36 2
  reg := w.extractLsb' 27 9
  base := w.extractLsb' 22 5
  src := w.extractLsb' 21 1
  imm := w.extractLsb' 3 18
  token := w.extractLsb' 0 3

/-- Operand bits [37:0] of the layout, field by field. -/
def LSpill.pack (f : LSpill) : BitVec 38 :=
  f.file ++ f.reg ++ f.rest ++ f.token

/-- The layout read from a syllable. -/
def LSpill.unpack (g : Guard) (w : W64) : LSpill where
  g := g
  file := w.extractLsb' 36 2
  reg := w.extractLsb' 27 9
  rest := w.extractLsb' 3 24
  token := w.extractLsb' 0 3

/-- Operand bits [37:0] of the layout, field by field. -/
def LDadd.pack (f : LDadd) : BitVec 38 :=
  f.dd ++ f.ds ++ f.m ++ f.imm ++ f.token

/-- The layout read from a syllable. -/
def LDadd.unpack (g : Guard) (w : W64) : LDadd where
  g := g
  dd := w.extractLsb' 33 5
  ds := w.extractLsb' 28 5
  m := w.extractLsb' 27 1
  imm := w.extractLsb' 3 24
  token := w.extractLsb' 0 3

/-- Operand bits [37:0] of the layout, field by field. -/
def LDli.pack (f : LDli) : BitVec 38 :=
  f.dd ++ f.q ++ f.ins ++ f.rest ++ f.v ++ f.token

/-- The layout read from a syllable. -/
def LDli.unpack (g : Guard) (w : W64) : LDli where
  g := g
  dd := w.extractLsb' 33 5
  q := w.extractLsb' 31 2
  ins := w.extractLsb' 30 1
  rest := w.extractLsb' 19 11
  v := w.extractLsb' 3 16
  token := w.extractLsb' 0 3

/-- Operand bits [37:0] of the layout, field by field. -/
def LDcpy.pack (f : LDcpy) : BitVec 38 :=
  f.ds ++ f.tfile ++ f.treg ++ f.rest ++ f.token

/-- The layout read from a syllable. -/
def LDcpy.unpack (g : Guard) (w : W64) : LDcpy where
  g := g
  ds := w.extractLsb' 33 5
  tfile := w.extractLsb' 29 4
  treg := w.extractLsb' 23 6
  rest := w.extractLsb' 3 20
  token := w.extractLsb' 0 3

/-- Operand bits [37:0] of the layout, field by field. -/
def LLine.pack (f : LLine) : BitVec 38 :=
  f.hi ++ f.base ++ f.all ++ f.n ++ f.token

/-- The layout read from a syllable. -/
def LLine.unpack (g : Guard) (w : W64) : LLine where
  g := g
  hi := w.extractLsb' 27 11
  base := w.extractLsb' 22 5
  all := w.extractLsb' 21 1
  n := w.extractLsb' 3 18
  token := w.extractLsb' 0 3

/-- Operand bits [37:0] of the layout, field by field. -/
def EForm.pack (f : EForm) : BitVec 38 :=
  f.ed ++ f.es1 ++ f.es2 ++ f.q ++ f.token ++ f.imm

/-- The layout read from a syllable. -/
def EForm.unpack (g : Guard) (w : W64) : EForm where
  g := g
  ed := w.extractLsb' 33 5
  es1 := w.extractLsb' 28 5
  es2 := w.extractLsb' 23 5
  q := w.extractLsb' 20 3
  token := w.extractLsb' 17 3
  imm := w.extractLsb' 0 17

/-- The C table (R336): the operation of code `op`, or none where the code is reserved. -/
def decodeC (g : Guard) (op : Nat) (w : W64) : Option Instr :=
  match op with
  | 0x00 => some (.nop (CForm.unpack g w))
  | 0x01 => if w.extractLsb' 20 8 = 1#8 then some (.prepAbsolute (CForm.unpack g w)) else some (.prep (CForm.unpack g w))
  | 0x02 => some (.brx (CForm.unpack g w))
  | 0x03 => some (.brxl (CForm.unpack g w))
  | 0x04 => some (.vote (CForm.unpack g w))
  | 0x05 => some (.ptt (CForm.unpack g w))
  | 0x06 => some (.loop (CForm.unpack g w))
  | 0x07 => some (.lset (CForm.unpack g w))
  | 0x08 => some (.lstr (CForm.unpack g w))
  | 0x09 => some (.waitk (CForm.unpack g w))
  | 0x0A => some (.bwait (CForm.unpack g w))
  | 0x0B => some (.barv (CForm.unpack g w))
  | 0x0C => some (.yield (CForm.unpack g w))
  | 0x0D => some (.setfmt (CForm.unpack g w))
  | 0x0E => some (.setwin (CForm.unpack g w))
  | 0x0F => some (.trap (CForm.unpack g w))
  | 0x10 => some (.rft (CForm.unpack g w))
  | 0x11 => some (.done (CForm.unpack g w))
  | 0x12 => some (.spin (CForm.unpack g w))
  | _ => none

/-- The S table (R337): the operation of code `op`, or none where the code is reserved. -/
def decodeS (slot : SSlot) (g : Guard) (op : Nat) (w : W64) : Option Instr :=
  match op with
  | 0x00 => some (.add (SReg.unpack g slot w))
  | 0x01 => some (.addi (SImm.unpack g slot w))
  | 0x02 => some (.sub (SReg.unpack g slot w))
  | 0x03 => some (.mul (SReg.unpack g slot w))
  | 0x04 => some (.mulh (SReg.unpack g slot w))
  | 0x05 => some (.mulhn (SReg.unpack g slot w))
  | 0x06 => some (.div (SReg.unpack g slot w))
  | 0x07 => some (.divn (SReg.unpack g slot w))
  | 0x08 => some (.rem (SReg.unpack g slot w))
  | 0x09 => some (.and (SReg.unpack g slot w))
  | 0x0A => some (.andi (SImm.unpack g slot w))
  | 0x0B => some (.or (SReg.unpack g slot w))
  | 0x0C => some (.ori (SImm.unpack g slot w))
  | 0x0D => some (.xor (SReg.unpack g slot w))
  | 0x0E => some (.xori (SImm.unpack g slot w))
  | 0x0F => some (.andn (SReg.unpack g slot w))
  | 0x10 => some (.shl (SReg.unpack g slot w))
  | 0x11 => some (.shr (SReg.unpack g slot w))
  | 0x12 => some (.sar (SReg.unpack g slot w))
  | 0x13 => some (.rot (SReg.unpack g slot w))
  | 0x14 => some (.clz (SReg.unpack g slot w))
  | 0x15 => some (.popc (SReg.unpack g slot w))
  | 0x16 => some (.min (SReg.unpack g slot w))
  | 0x17 => some (.max (SReg.unpack g slot w))
  | 0x18 => some (.minn (SReg.unpack g slot w))
  | 0x19 => some (.maxn (SReg.unpack g slot w))
  | 0x1A => some (.shadd (SImm.unpack g slot w))
  | 0x1B => some (.ext (SImm.unpack g slot w))
  | 0x1C => some (.ins (SImm.unpack g slot w))
  | 0x1D => some (.li (SImm.unpack g slot w))
  | 0x1E => some (.lih (SImm.unpack g slot w))
  | 0x1F => some (.lil (SImm.unpack g slot w))
  | 0x20 => some (.cmp (SReg.unpack g slot w))
  | 0x21 => some (.cmpi (SImm.unpack g slot w))
  | 0x22 => some (.sel (SImm.unpack g slot w))
  | 0x23 => some (.cpy (SImm.unpack g slot w))
  | 0x24 => match slot with | .s0 => some (.mfs (SImm.unpack g .s0 w)) | .s1 => none
  | 0x25 => match slot with | .s0 => some (.mts (SImm.unpack g .s0 w)) | .s1 => none
  | 0x26 => match slot with | .s0 => none | .s1 => some (.brxS1 (SReg.unpack g .s1 w))
  | _ => none

/-- The V table (R338): the operation of code `op`, or none where the code is reserved. -/
def decodeV (slot : VSlot) (g : Guard) (op : Nat) (w : W64) : Option Instr :=
  match op with
  | 0x00 => some (.vadd (VReg.unpack g slot w))
  | 0x01 => some (.vsub (VReg.unpack g slot w))
  | 0x02 => some (.vmul (VReg.unpack g slot w))
  | 0x03 => some (.vfma (VReg.unpack g slot w))
  | 0x04 => some (.vfms (VReg.unpack g slot w))
  | 0x05 => some (.vmac (VReg.unpack g slot w))
  | 0x06 => some (.vmin (VReg.unpack g slot w))
  | 0x07 => some (.vmax (VReg.unpack g slot w))
  | 0x08 => some (.vabs (VReg.unpack g slot w))
  | 0x09 => some (.vneg (VReg.unpack g slot w))
  | 0x0A => some (.vrcp (VReg.unpack g slot w))
  | 0x0B => some (.vrsq (VReg.unpack g slot w))
  | 0x0C => some (.vexp2 (VReg.unpack g slot w))
  | 0x0D => some (.vlog2 (VReg.unpack g slot w))
  | 0x0E => some (.vclass (VReg.unpack g slot w))
  | 0x0F => some (.vcmp (VReg.unpack g slot w))
  | 0x10 => some (.vaddi (VImm.unpack g slot w))
  | 0x11 => some (.vmuli (VImm.unpack g slot w))
  | 0x12 => some (.vfmai (VImm.unpack g slot w))
  | 0x13 => some (.vmaci (VImm.unpack g slot w))
  | 0x14 => some (.viadd (VReg.unpack g slot w))
  | 0x15 => some (.visub (VReg.unpack g slot w))
  | 0x16 => some (.vimul (VReg.unpack g slot w))
  | 0x17 => some (.vimulh (VReg.unpack g slot w))
  | 0x18 => some (.vshl (VReg.unpack g slot w))
  | 0x19 => some (.vshr (VReg.unpack g slot w))
  | 0x1A => some (.vsar (VReg.unpack g slot w))
  | 0x1B => some (.vand (VReg.unpack g slot w))
  | 0x1C => some (.vor (VReg.unpack g slot w))
  | 0x1D => some (.vxor (VReg.unpack g slot w))
  | 0x1E => some (.vandn (VReg.unpack g slot w))
  | 0x1F => some (.vimin (VReg.unpack g slot w))
  | 0x20 => some (.vimax (VReg.unpack g slot w))
  | 0x21 => some (.vadds (VReg.unpack g slot w))
  | 0x22 => some (.vsubs (VReg.unpack g slot w))
  | 0x23 => some (.vqmuls (VReg.unpack g slot w))
  | 0x24 => some (.vabsd (VReg.unpack g slot w))
  | 0x25 => some (.vavg (VReg.unpack g slot w))
  | 0x26 => some (.vdot4 (VReg.unpack g slot w))
  | 0x27 => some (.vsad (VReg.unpack g slot w))
  | 0x28 => some (.vicmp (VReg.unpack g slot w))
  | 0x29 => some (.vcvt (VReg.unpack g slot w))
  | 0x2A => some (.vqnt (VReg.unpack g slot w))
  | 0x2B => some (.vdqnt (VReg.unpack g slot w))
  | 0x2C => some (.vmxs (VReg.unpack g slot w))
  | 0x2D => some (.vsplit (VReg.unpack g slot w))
  | 0x2E => some (.vjoin (VReg.unpack g slot w))
  | 0x2F => some (.vmov (VReg.unpack g slot w))
  | 0x30 => some (.vbcst (VReg.unpack g slot w))
  | 0x31 => some (.viota (VReg.unpack g slot w))
  | 0x32 => some (.vperm (VReg.unpack g slot w))
  | 0x33 => some (.vshuf (VReg.unpack g slot w))
  | 0x34 => some (.vslide (VReg.unpack g slot w))
  | 0x35 => some (.vbext (VReg.unpack g slot w))
  | 0x36 => some (.vlut (VReg.unpack g slot w))
  | 0x37 => some (.vlutld (VReg.unpack g slot w))
  | 0x38 => some (.vunpk12 (VReg.unpack g slot w))
  | 0x39 => some (.vpack12 (VReg.unpack g slot w))
  | 0x3A => some (.vrng (VReg.unpack g slot w))
  | 0x3B => some (.vred (VReg.unpack g slot w))
  | 0x3C => some (.vscan (VReg.unpack g slot w))
  | 0x3D => some (.vcpy (VReg.unpack g slot w))
  | _ => none

/-- The M table (R339): the operation of code `op`, or none where the code is reserved. -/
def decodeM (g : Guard) (op : Nat) (w : W64) : Option Instr :=
  match op with
  | 0x00 => some (.mcfg (MCfg.unpack g w))
  | 0x01 => some (.mzero (MZero.unpack g w))
  | 0x02 => some (.mma (MMac.unpack g w))
  | 0x03 => some (.mmax (MMac.unpack g w))
  | 0x04 => some (.mread (MRead.unpack g w))
  | 0x05 => some (.mwrite (MWrite.unpack g w))
  | 0x06 => some (.mjoin (MJoin.unpack g w))
  | 0x07 => some (.mstat (MStat.unpack g w))
  | _ => none

/-- The L table (R340): the operation of code `op`, or none where the code is reserved. -/
def decodeL (g : Guard) (op : Nat) (w : W64) : Option Instr :=
  match op with
  | 0x00 => some (.ld (LGen.unpack g w))
  | 0x01 => some (.st (LGen.unpack g w))
  | 0x02 => some (.vld (LGen.unpack g w))
  | 0x03 => some (.vst (LGen.unpack g w))
  | 0x04 => some (.vlds (LStr.unpack g w))
  | 0x05 => some (.vsts (LStr.unpack g w))
  | 0x06 => some (.vgth (LIdx.unpack g w))
  | 0x07 => some (.vsct (LIdx.unpack g w))
  | 0x08 => some (.ldj (LGen.unpack g w))
  | 0x09 => some (.stj (LGen.unpack g w))
  | 0x0A => if w.extractLsb' 17 2 = 1#2 then some (.ldAcq (LAtom.unpack g w)) else if w.extractLsb' 17 2 = 2#2 then some (.stRel (LAtom.unpack g w)) else some (.atom (LAtom.unpack g w))
  | 0x0B => some (.vatom (LVAtom.unpack g w))
  | 0x0C => some (.fence (LScope.unpack g w))
  | 0x0D => some (.sync (LScope.unpack g w))
  | 0x0E => some (.tbinit (LBar.unpack g w))
  | 0x0F => some (.tbarv (LBar.unpack g w))
  | 0x10 => some (.tbexp (LBar.unpack g w))
  | 0x11 => some (.tbwait (LBar.unpack g w))
  | 0x12 => some (.spill (LSpill.unpack g w))
  | 0x13 => some (.fill (LSpill.unpack g w))
  | 0x14 => some (.dadd (LDadd.unpack g w))
  | 0x15 => some (.dli (LDli.unpack g w))
  | 0x16 => some (.dcpy (LDcpy.unpack g w))
  | 0x17 => some (.l1inv (LLine.unpack g w))
  | 0x18 => some (.l1wb (LLine.unpack g w))
  | 0x19 => some (.prf (LGen.unpack g w))
  | _ => none

/-- The E table (R341): the operation of code `op`, or none where the code is reserved. -/
def decodeE (g : Guard) (op : Nat) (w : W64) : Option Instr :=
  match op with
  | 0x00 => some (.sljob (EForm.unpack g w))
  | 0x01 => some (.slstat (EForm.unpack g w))
  | 0x02 => some (.slkill (EForm.unpack g w))
  | 0x03 => some (.stbind (EForm.unpack g w))
  | 0x04 => some (.rmov (EForm.unpack g w))
  | 0x05 => some (.rget (EForm.unpack g w))
  | 0x06 => some (.edstash (EForm.unpack g w))
  | 0x07 => some (.edfetch (EForm.unpack g w))
  | 0x08 => some (.edfree (EForm.unpack g w))
  | 0x09 => some (.edqry (EForm.unpack g w))
  | 0x0A => some (.chsend (EForm.unpack g w))
  | 0x0B => some (.chrecv (EForm.unpack g w))
  | 0x0C => some (.chrel (EForm.unpack g w))
  | 0x0D => some (.chwin (EForm.unpack g w))
  | 0x0E => some (.oxred (EForm.unpack g w))
  | 0x0F => some (.oxgath (EForm.unpack g w))
  | 0x10 => some (.wpost (EForm.unpack g w))
  | 0x11 => some (.wraise (EForm.unpack g w))
  | 0x12 => some (.warr (EForm.unpack g w))
  | 0x13 => some (.spawn (EForm.unpack g w))
  | 0x14 => some (.grd (EForm.unpack g w))
  | 0x15 => some (.gupd (EForm.unpack g w))
  | 0x16 => some (.gnew (EForm.unpack g w))
  | 0x17 => some (.gseal (EForm.unpack g w))
  | 0x18 => some (.grescale (EForm.unpack g w))
  | 0x19 => some (.recset (EForm.unpack g w))
  | 0x1A => some (.lease (EForm.unpack g w))
  | 0x1B => some (.lrel (EForm.unpack g w))
  | 0x1C => some (.eli (EForm.unpack g w))
  | 0x1D => some (.ecpy (EForm.unpack g w))
  | 0x1E => some (.twait (EForm.unpack g w))
  | _ => none

/-- The slot of a slot operation, its opcode, its guard and its operand bits (R321); none for an event. -/
def Instr.parts : Instr → Option (Slot × Nat × Guard × BitVec 38)
  | .powerApplied _ _ => none
  | .powerLost => none
  | .thermalSample _ _ => none
  | .bandDecision => none
  | .rateGradientCheck => none
  | .coolantOkChange _ => none
  | .coolantLossHold => none
  | .coolantLossFault => none
  | .coolantRestoredExit => none
  | .switchTick => none
  | .timingSetSwitch _ => none
  | .coldRefreshExpiry => none
  | .thevtWrite _ => none
  | .registerWrite _ _ _ => none
  | .dramReadWrite _ _ _ _ => none
  | .refresh _ _ => none
  | .patrolScrubAccess _ _ _ _ _ => none
  | .powerDownEntry _ _ => none
  | .selfRefreshEntry _ _ => none
  | .llcAccess _ _ _ => none
  | .leaseExpiry _ => none
  | .handleRequest _ _ _ _ _ _ _ => none
  | .coherencePlacement _ => none
  | .remoteWriteApply _ _ => none
  | .atomicAtHome _ _ => none
  | .memoryAccessComplete _ _ _ => none
  | .hostRequestCompletion _ => none
  | .recordReplicaWrite _ _ => none
  | .gaugeSectorUpdate _ => none
  | .gaugeSeal _ => none
  | .gaugeRescale _ => none
  | .configFlitReceive _ _ _ _ => none
  | .parcelHeaderReceive _ _ => none
  | .dataFlitReceive _ _ => none
  | .parcelDelivery _ => none
  | .creditFlitReceive _ _ => none
  | .timedSendLaunch _ => none
  | .channelEnable _ _ _ => none
  | .channelDisable _ => none
  | .portDown _ => none
  | .portUp _ => none
  | .timeFlitSend => none
  | .timeFlitReceive _ _ => none
  | .oxbowFlitReceive _ _ => none
  | .oxbowFlagWrite _ _ => none
  | .collectiveComplete _ => none
  | .identify => none
  | .attest => none
  | .cool => none
  | .warm => none
  | .hold => none
  | .loadImage => none
  | .verifyImage => none
  | .start => none
  | .startWrite _ _ => none
  | .stop => none
  | .query => none
  | .setLattol => none
  | .resetDie => none
  | .readLog => none
  | .stagingWrite _ _ => none
  | .activityDecision => none
  | .wakeEvent => none
  | .stageEnable _ _ _ => none
  | .stageDisable _ _ _ => none
  | .queueArrival _ _ => none
  | .stageEvaluate _ _ => none
  | .stageEvalTimer _ _ => none
  | .launchTimeReached _ _ => none
  | .saveWriteoutComplete _ => none
  | .gangResume _ => none
  | .jcbPost _ => none
  | .successorEvent _ _ => none
  | .stepRetire _ _ _ => none
  | .joinHalfArrival _ => none
  | .joinTimeout _ => none
  | .sluiceJobStart _ _ => none
  | .sluiceUnit _ _ _ _ => none
  | .sluiceJobDone _ _ => none
  | .sluiceJobFault _ _ _ => none
  | .fqResume _ _ => none
  | .fqAbandon _ _ => none
  | .streamVectorArrival _ _ => none
  | .riffleDecode _ _ => none
  | .riffleEncode _ _ => none
  | .riffleUnpack12 _ _ => none
  | .riffleCrc _ _ => none
  | .riffleExpand3 _ _ => none
  | .riffleFill _ _ => none
  | .riffleChunkWrite _ _ => none
  | .riffleOpComplete _ _ _ => none
  | .riffleFault _ _ => none
  | .eddyStoreComplete _ _ => none
  | .eddyRestoreComplete _ _ => none
  | .eddyJobFailure _ _ => none
  | .bundleIssue _ => none
  | .tlbWalkComplete _ _ => none
  | .tlbinvAll => none
  | .tlbinvPage _ => none
  | .twaitExpiry _ => none
  | .nop f => some (.c, 0x00, f.g, f.pack)
  | .prep f => some (.c, 0x01, f.g, f.pack)
  | .prepAbsolute f => some (.c, 0x01, f.g, f.pack)
  | .brx f => some (.c, 0x02, f.g, f.pack)
  | .brxl f => some (.c, 0x03, f.g, f.pack)
  | .vote f => some (.c, 0x04, f.g, f.pack)
  | .ptt f => some (.c, 0x05, f.g, f.pack)
  | .loop f => some (.c, 0x06, f.g, f.pack)
  | .lset f => some (.c, 0x07, f.g, f.pack)
  | .lstr f => some (.c, 0x08, f.g, f.pack)
  | .waitk f => some (.c, 0x09, f.g, f.pack)
  | .bwait f => some (.c, 0x0A, f.g, f.pack)
  | .barv f => some (.c, 0x0B, f.g, f.pack)
  | .yield f => some (.c, 0x0C, f.g, f.pack)
  | .setfmt f => some (.c, 0x0D, f.g, f.pack)
  | .setwin f => some (.c, 0x0E, f.g, f.pack)
  | .trap f => some (.c, 0x0F, f.g, f.pack)
  | .rft f => some (.c, 0x10, f.g, f.pack)
  | .done f => some (.c, 0x11, f.g, f.pack)
  | .spin f => some (.c, 0x12, f.g, f.pack)
  | .add f => some ((SSlot.slot f.slot), 0x00, f.g, f.pack)
  | .addi f => some ((SSlot.slot f.slot), 0x01, f.g, f.pack)
  | .sub f => some ((SSlot.slot f.slot), 0x02, f.g, f.pack)
  | .mul f => some ((SSlot.slot f.slot), 0x03, f.g, f.pack)
  | .mulh f => some ((SSlot.slot f.slot), 0x04, f.g, f.pack)
  | .mulhn f => some ((SSlot.slot f.slot), 0x05, f.g, f.pack)
  | .div f => some ((SSlot.slot f.slot), 0x06, f.g, f.pack)
  | .divn f => some ((SSlot.slot f.slot), 0x07, f.g, f.pack)
  | .rem f => some ((SSlot.slot f.slot), 0x08, f.g, f.pack)
  | .and f => some ((SSlot.slot f.slot), 0x09, f.g, f.pack)
  | .andi f => some ((SSlot.slot f.slot), 0x0A, f.g, f.pack)
  | .or f => some ((SSlot.slot f.slot), 0x0B, f.g, f.pack)
  | .ori f => some ((SSlot.slot f.slot), 0x0C, f.g, f.pack)
  | .xor f => some ((SSlot.slot f.slot), 0x0D, f.g, f.pack)
  | .xori f => some ((SSlot.slot f.slot), 0x0E, f.g, f.pack)
  | .andn f => some ((SSlot.slot f.slot), 0x0F, f.g, f.pack)
  | .shl f => some ((SSlot.slot f.slot), 0x10, f.g, f.pack)
  | .shr f => some ((SSlot.slot f.slot), 0x11, f.g, f.pack)
  | .sar f => some ((SSlot.slot f.slot), 0x12, f.g, f.pack)
  | .rot f => some ((SSlot.slot f.slot), 0x13, f.g, f.pack)
  | .clz f => some ((SSlot.slot f.slot), 0x14, f.g, f.pack)
  | .popc f => some ((SSlot.slot f.slot), 0x15, f.g, f.pack)
  | .min f => some ((SSlot.slot f.slot), 0x16, f.g, f.pack)
  | .max f => some ((SSlot.slot f.slot), 0x17, f.g, f.pack)
  | .minn f => some ((SSlot.slot f.slot), 0x18, f.g, f.pack)
  | .maxn f => some ((SSlot.slot f.slot), 0x19, f.g, f.pack)
  | .shadd f => some ((SSlot.slot f.slot), 0x1A, f.g, f.pack)
  | .ext f => some ((SSlot.slot f.slot), 0x1B, f.g, f.pack)
  | .ins f => some ((SSlot.slot f.slot), 0x1C, f.g, f.pack)
  | .li f => some ((SSlot.slot f.slot), 0x1D, f.g, f.pack)
  | .lih f => some ((SSlot.slot f.slot), 0x1E, f.g, f.pack)
  | .lil f => some ((SSlot.slot f.slot), 0x1F, f.g, f.pack)
  | .cmp f => some ((SSlot.slot f.slot), 0x20, f.g, f.pack)
  | .cmpi f => some ((SSlot.slot f.slot), 0x21, f.g, f.pack)
  | .sel f => some ((SSlot.slot f.slot), 0x22, f.g, f.pack)
  | .cpy f => some ((SSlot.slot f.slot), 0x23, f.g, f.pack)
  | .mfs f => some ((SSlot.slot f.slot), 0x24, f.g, f.pack)
  | .mts f => some ((SSlot.slot f.slot), 0x25, f.g, f.pack)
  | .brxS1 f => some ((SSlot.slot f.slot), 0x26, f.g, f.pack)
  | .vadd f => some ((VSlot.slot f.slot), 0x00, f.g, f.pack)
  | .vsub f => some ((VSlot.slot f.slot), 0x01, f.g, f.pack)
  | .vmul f => some ((VSlot.slot f.slot), 0x02, f.g, f.pack)
  | .vfma f => some ((VSlot.slot f.slot), 0x03, f.g, f.pack)
  | .vfms f => some ((VSlot.slot f.slot), 0x04, f.g, f.pack)
  | .vmac f => some ((VSlot.slot f.slot), 0x05, f.g, f.pack)
  | .vmin f => some ((VSlot.slot f.slot), 0x06, f.g, f.pack)
  | .vmax f => some ((VSlot.slot f.slot), 0x07, f.g, f.pack)
  | .vabs f => some ((VSlot.slot f.slot), 0x08, f.g, f.pack)
  | .vneg f => some ((VSlot.slot f.slot), 0x09, f.g, f.pack)
  | .vrcp f => some ((VSlot.slot f.slot), 0x0A, f.g, f.pack)
  | .vrsq f => some ((VSlot.slot f.slot), 0x0B, f.g, f.pack)
  | .vexp2 f => some ((VSlot.slot f.slot), 0x0C, f.g, f.pack)
  | .vlog2 f => some ((VSlot.slot f.slot), 0x0D, f.g, f.pack)
  | .vclass f => some ((VSlot.slot f.slot), 0x0E, f.g, f.pack)
  | .vcmp f => some ((VSlot.slot f.slot), 0x0F, f.g, f.pack)
  | .vaddi f => some ((VSlot.slot f.slot), 0x10, f.g, f.pack)
  | .vmuli f => some ((VSlot.slot f.slot), 0x11, f.g, f.pack)
  | .vfmai f => some ((VSlot.slot f.slot), 0x12, f.g, f.pack)
  | .vmaci f => some ((VSlot.slot f.slot), 0x13, f.g, f.pack)
  | .viadd f => some ((VSlot.slot f.slot), 0x14, f.g, f.pack)
  | .visub f => some ((VSlot.slot f.slot), 0x15, f.g, f.pack)
  | .vimul f => some ((VSlot.slot f.slot), 0x16, f.g, f.pack)
  | .vimulh f => some ((VSlot.slot f.slot), 0x17, f.g, f.pack)
  | .vshl f => some ((VSlot.slot f.slot), 0x18, f.g, f.pack)
  | .vshr f => some ((VSlot.slot f.slot), 0x19, f.g, f.pack)
  | .vsar f => some ((VSlot.slot f.slot), 0x1A, f.g, f.pack)
  | .vand f => some ((VSlot.slot f.slot), 0x1B, f.g, f.pack)
  | .vor f => some ((VSlot.slot f.slot), 0x1C, f.g, f.pack)
  | .vxor f => some ((VSlot.slot f.slot), 0x1D, f.g, f.pack)
  | .vandn f => some ((VSlot.slot f.slot), 0x1E, f.g, f.pack)
  | .vimin f => some ((VSlot.slot f.slot), 0x1F, f.g, f.pack)
  | .vimax f => some ((VSlot.slot f.slot), 0x20, f.g, f.pack)
  | .vadds f => some ((VSlot.slot f.slot), 0x21, f.g, f.pack)
  | .vsubs f => some ((VSlot.slot f.slot), 0x22, f.g, f.pack)
  | .vqmuls f => some ((VSlot.slot f.slot), 0x23, f.g, f.pack)
  | .vabsd f => some ((VSlot.slot f.slot), 0x24, f.g, f.pack)
  | .vavg f => some ((VSlot.slot f.slot), 0x25, f.g, f.pack)
  | .vdot4 f => some ((VSlot.slot f.slot), 0x26, f.g, f.pack)
  | .vsad f => some ((VSlot.slot f.slot), 0x27, f.g, f.pack)
  | .vicmp f => some ((VSlot.slot f.slot), 0x28, f.g, f.pack)
  | .vcvt f => some ((VSlot.slot f.slot), 0x29, f.g, f.pack)
  | .vqnt f => some ((VSlot.slot f.slot), 0x2A, f.g, f.pack)
  | .vdqnt f => some ((VSlot.slot f.slot), 0x2B, f.g, f.pack)
  | .vmxs f => some ((VSlot.slot f.slot), 0x2C, f.g, f.pack)
  | .vsplit f => some ((VSlot.slot f.slot), 0x2D, f.g, f.pack)
  | .vjoin f => some ((VSlot.slot f.slot), 0x2E, f.g, f.pack)
  | .vmov f => some ((VSlot.slot f.slot), 0x2F, f.g, f.pack)
  | .vbcst f => some ((VSlot.slot f.slot), 0x30, f.g, f.pack)
  | .viota f => some ((VSlot.slot f.slot), 0x31, f.g, f.pack)
  | .vperm f => some ((VSlot.slot f.slot), 0x32, f.g, f.pack)
  | .vshuf f => some ((VSlot.slot f.slot), 0x33, f.g, f.pack)
  | .vslide f => some ((VSlot.slot f.slot), 0x34, f.g, f.pack)
  | .vbext f => some ((VSlot.slot f.slot), 0x35, f.g, f.pack)
  | .vlut f => some ((VSlot.slot f.slot), 0x36, f.g, f.pack)
  | .vlutld f => some ((VSlot.slot f.slot), 0x37, f.g, f.pack)
  | .vunpk12 f => some ((VSlot.slot f.slot), 0x38, f.g, f.pack)
  | .vpack12 f => some ((VSlot.slot f.slot), 0x39, f.g, f.pack)
  | .vrng f => some ((VSlot.slot f.slot), 0x3A, f.g, f.pack)
  | .vred f => some ((VSlot.slot f.slot), 0x3B, f.g, f.pack)
  | .vscan f => some ((VSlot.slot f.slot), 0x3C, f.g, f.pack)
  | .vcpy f => some ((VSlot.slot f.slot), 0x3D, f.g, f.pack)
  | .mcfg f => some (.m, 0x00, f.g, f.pack)
  | .mzero f => some (.m, 0x01, f.g, f.pack)
  | .mma f => some (.m, 0x02, f.g, f.pack)
  | .mmax f => some (.m, 0x03, f.g, f.pack)
  | .mread f => some (.m, 0x04, f.g, f.pack)
  | .mwrite f => some (.m, 0x05, f.g, f.pack)
  | .mjoin f => some (.m, 0x06, f.g, f.pack)
  | .mstat f => some (.m, 0x07, f.g, f.pack)
  | .ld f => some (.l, 0x00, f.g, f.pack)
  | .st f => some (.l, 0x01, f.g, f.pack)
  | .vld f => some (.l, 0x02, f.g, f.pack)
  | .vst f => some (.l, 0x03, f.g, f.pack)
  | .vlds f => some (.l, 0x04, f.g, f.pack)
  | .vsts f => some (.l, 0x05, f.g, f.pack)
  | .vgth f => some (.l, 0x06, f.g, f.pack)
  | .vsct f => some (.l, 0x07, f.g, f.pack)
  | .ldj f => some (.l, 0x08, f.g, f.pack)
  | .stj f => some (.l, 0x09, f.g, f.pack)
  | .atom f => some (.l, 0x0A, f.g, f.pack)
  | .ldAcq f => some (.l, 0x0A, f.g, f.pack)
  | .stRel f => some (.l, 0x0A, f.g, f.pack)
  | .vatom f => some (.l, 0x0B, f.g, f.pack)
  | .fence f => some (.l, 0x0C, f.g, f.pack)
  | .sync f => some (.l, 0x0D, f.g, f.pack)
  | .tbinit f => some (.l, 0x0E, f.g, f.pack)
  | .tbarv f => some (.l, 0x0F, f.g, f.pack)
  | .tbexp f => some (.l, 0x10, f.g, f.pack)
  | .tbwait f => some (.l, 0x11, f.g, f.pack)
  | .spill f => some (.l, 0x12, f.g, f.pack)
  | .fill f => some (.l, 0x13, f.g, f.pack)
  | .dadd f => some (.l, 0x14, f.g, f.pack)
  | .dli f => some (.l, 0x15, f.g, f.pack)
  | .dcpy f => some (.l, 0x16, f.g, f.pack)
  | .l1inv f => some (.l, 0x17, f.g, f.pack)
  | .l1wb f => some (.l, 0x18, f.g, f.pack)
  | .prf f => some (.l, 0x19, f.g, f.pack)
  | .sljob f => some (.e, 0x00, f.g, f.pack)
  | .slstat f => some (.e, 0x01, f.g, f.pack)
  | .slkill f => some (.e, 0x02, f.g, f.pack)
  | .stbind f => some (.e, 0x03, f.g, f.pack)
  | .rmov f => some (.e, 0x04, f.g, f.pack)
  | .rget f => some (.e, 0x05, f.g, f.pack)
  | .edstash f => some (.e, 0x06, f.g, f.pack)
  | .edfetch f => some (.e, 0x07, f.g, f.pack)
  | .edfree f => some (.e, 0x08, f.g, f.pack)
  | .edqry f => some (.e, 0x09, f.g, f.pack)
  | .chsend f => some (.e, 0x0A, f.g, f.pack)
  | .chrecv f => some (.e, 0x0B, f.g, f.pack)
  | .chrel f => some (.e, 0x0C, f.g, f.pack)
  | .chwin f => some (.e, 0x0D, f.g, f.pack)
  | .oxred f => some (.e, 0x0E, f.g, f.pack)
  | .oxgath f => some (.e, 0x0F, f.g, f.pack)
  | .wpost f => some (.e, 0x10, f.g, f.pack)
  | .wraise f => some (.e, 0x11, f.g, f.pack)
  | .warr f => some (.e, 0x12, f.g, f.pack)
  | .spawn f => some (.e, 0x13, f.g, f.pack)
  | .grd f => some (.e, 0x14, f.g, f.pack)
  | .gupd f => some (.e, 0x15, f.g, f.pack)
  | .gnew f => some (.e, 0x16, f.g, f.pack)
  | .gseal f => some (.e, 0x17, f.g, f.pack)
  | .grescale f => some (.e, 0x18, f.g, f.pack)
  | .recset f => some (.e, 0x19, f.g, f.pack)
  | .lease f => some (.e, 0x1A, f.g, f.pack)
  | .lrel f => some (.e, 0x1B, f.g, f.pack)
  | .eli f => some (.e, 0x1C, f.g, f.pack)
  | .ecpy f => some (.e, 0x1D, f.g, f.pack)
  | .twait f => some (.e, 0x1E, f.g, f.pack)

/-- The operation of a syllable in a slot, or ILLEGAL_OP with the slot and the code (R335). -/
def decodeSyllable (slot : Slot) (w : W64) : Except DecodeError Instr :=
  let g := Guard.unpack w
  let op := (w.extractLsb' 38 6).toNat
  let r := match slot with
    | .c => decodeC g op w
    | .s0 => decodeS .s0 g op w
    | .s1 => decodeS .s1 g op w
    | .v0 => decodeV .v0 g op w
    | .v1 => decodeV .v1 g op w
    | .m => decodeM g op w
    | .l => decodeL g op w
    | .e => decodeE g op w
  match r with
  | some i => .ok i
  | none => .error (.illegalOp slot op)

/-- The syllable of a slot operation and its slot (R321). -/
def encodeSyllable (i : Instr) : Option (Slot × W64) :=
  match i.parts with
  | some (s, op, g, body) => some (s, g.tt ++ g.pa ++ g.pb ++ g.pc ++ BitVec.ofNat 6 op ++ body)
  | none => none

/-- A bundle as fetched: its header, the syllable of each slot present, and its literal words (R310). -/
structure Bundle where
  hdr : Header
  syls : List (Slot × W64)
  lits : List W32
  deriving DecidableEq, Repr

/-- The length of a bundle in 32-bit words (R310). -/
def Bundle.words (b : Bundle) : Nat := 1 + 2 * b.syls.length + b.lits.length

/-- The number of 32-bit words that a header announces (R310). -/
def Header.words (h : Header) : Nat :=
  1 + 2 * (Slot.all.filter h.has).length + h.lits.toNat

/-- Read the syllables of the given slots, in order, from the words after the header. -/
def takeSyllables : List Slot → List W32 → Option (List (Slot × W64) × List W32)
  | [], ws => some ([], ws)
  | s :: ss, lo :: hi :: ws =>
    match takeSyllables ss ws with
    | some (r, rest) => some ((s, hi ++ lo) :: r, rest)
    | none => none
  | _ :: _, _ => none

/-- The bundle at the head of a list of words, and the words after it. -/
def decodeBundle : List W32 → Except DecodeError (Bundle × List W32)
  | [] => .error .truncated
  | w :: ws =>
    match decodeHeader w with
    | .error e => .error e
    | .ok h =>
      match takeSyllables (Slot.all.filter h.has) ws with
      | none => .error .truncated
      | some (syls, rest) =>
        if h.lits.toNat ≤ rest.length then
          .ok (⟨h, syls, rest.take h.lits.toNat⟩, rest.drop h.lits.toNat)
        else .error .truncated

/-- The header of a bundle that holds the one syllable of a slot. -/
def Header.single (s : Slot) : Header := ⟨1#8 <<< (7 - s.num), 0#4, 0#6, 0#2⟩

/-- The words of a slot operation standing alone in a bundle without literal words; no words for an event. -/
def encode (i : Instr) : List W32 :=
  match encodeSyllable i with
  | some (s, w) => [encodeHeader (Header.single s), w.extractLsb' 0 32, w.extractLsb' 32 32]
  | none => []

/-- The words of a number whose bit 0 is bit 0 of the first word. -/
def wordsOf : Nat → Nat → List W32
  | 0, _ => []
  | k + 1, w => BitVec.ofNat 32 w :: wordsOf k (w / 2 ^ 32)

/-- The longest bundle is 80 bytes, 20 words (R310). -/
def maxBundleWords : Nat := 20

/-- The operation of the one syllable of a one-syllable bundle whose bits are `w`, bit 0 the lowest bit of
its header word; every bit above `nbits` is 0. None where the words are no such bundle or do not decode. -/
def decodeTableWord (nbits w : Nat) : Option Instr :=
  match decodeBundle (wordsOf maxBundleWords (w % 2 ^ nbits)) with
  | .ok (b, _) =>
    match b.syls with
    | [(s, x)] =>
      match decodeSyllable s x with
      | .ok i => some i
      | .error _ => none
    | _ => none
  | .error _ => none

end Sys2Proof
end

