-- ==== Sys2Proof/Machine/State.lean ====
section
/-! DEFINITION. The state of the module: everything the manual gives it, as plain data. Each type cites the rule that
names it; INVENTORY.md lists the fields with their widths and reset values. -/

namespace Sys2Proof.Machine

/-! ### Thermal sequencer, DRAM, cache (files 01 and 02) -/

/-- STATE of THSTAT, and OFF (R17, R25). -/
inductive TState where
  | off | warmStandby | cooldown | coldReady | run | retreat | hold | warmup | fault
  deriving DecidableEq, Repr

/-- The temperature band (R11, R25). -/
inductive Band where
  | cold | retreat | hold | warm
  deriving DecidableEq, Repr

/-- The thermal sequencer: its registers (R24 to R29, R33) and what it keeps between samples (R10, R12, R15, R16, R19). -/
structure Thermal where
  state : TState := .warmStandby
  band : Band := .warm
  refrate : BitVec 3 := 4#3
  tset : BitVec 2 := 2#2
  clklow : Bool := false
  cmdhold : Bool := false
  pause : Bool := false
  fcause : BitVec 8 := 0#8
  tj : BitVec 16 := 0#16
  tjSensor : BitVec 6 := 0#6
  grad : BitVec 16 := 0#16
  mean : BitVec 16 := 0#16
  slope : BitVec 16 := 0#16
  sens : SMap Reading := []
  subs : SMap Reading := []
  evt : BitVec 8 := 0#8
  faults : BitVec 8 := 0#8
  holds : BitVec 8 := 0#8
  cycles : BitVec 16 := 0#16
  dramce : BitVec 16 := 0#16
  sramce : BitVec 16 := 0#16
  ue : BitVec 16 := 0#16
  /-- The two newest values of Tj, newest first, for the two consecutive samples of R10 and R12. -/
  lastTj : List Nat := []
  /-- When the sensors were last sampled (R9), and when the rate was last computed (R15). -/
  sampledAt : Option Nat := none
  ratedAt : Option Nat := none
  /-- When the present band was entered (R10: held for at least 1 ms). -/
  bandSince : Nat := 0
  /-- When COLD was last entered (R12); none once refresh has stopped. -/
  coldSince : Option Nat := none
  /-- The tick at which the clock switches and the frequency it switches to, low or not (R19). -/
  switchAt : Option (Nat × Bool) := none
  /-- The tick at which the memory controllers receive the refresh rate and the timing set of the band (R20). -/
  applyAt : Option Nat := none
  /-- The exact means of the substrate, one a second, newest first, at most 61 (R15), in units of 1/2520 of 1/16 K: 2520 is a multiple
  of every number of valid sensors from 1 to 9. -/
  means : List Nat := []
  /-- Checks since the rate left its limit, up to 11: after the eleventh it has been back for 10 s (R15). -/
  rateOk : Nat := 11
  /-- The gradient still demands the pause (R15). -/
  gradPause : Bool := false
  coolantOk : Bool := true
  /-- When COOLANT_OK took its present level (R16). -/
  coolantSince : Nat := 0
  /-- MODEL: the present low level has already brought the FAULT of R16, which it brings once (log entry 21). -/
  coolantTaken : Bool := false
  /-- The rate setpoint sent to the plant, in K/min; none when cleared (R16, R17). -/
  setpoint : Option Nat := none
  deriving DecidableEq, Repr

/-- A request for a sector that waits at a pseudo-channel (R58). -/
structure DramReq where
  sector : Nat
  write : Bool
  deriving DecidableEq, Repr

/-- One pseudo-channel of DRAM (R13, R57 to R59). -/
structure DramChan where
  tset : BitVec 2 := 2#2
  refrate : BitVec 3 := 4#3
  /-- Refresh intervals postponed, 0 to 8. -/
  postponed : Nat := 0
  powerDown : Bool := false
  selfRefresh : Bool := false
  /-- When the idle count was last zero (R57). -/
  lastReq : Nat := 0
  /-- Requests that wait, oldest first (R58). -/
  queue : List DramReq := []
  /-- The controller cycle in which it last did something (R58): one thing a cycle. -/
  actedAt : Option Nat := none
  deriving DecidableEq, Repr

/-- One line of the memory-side cache: the valid and dirty bits of its four sectors, and whether it is pinned (R42, R48). -/
structure LlcLine where
  valid : BitVec 4 := 0#4
  dirty : BitVec 4 := 0#4
  pinned : Bool := false
  deriving DecidableEq, Repr

/-- STATE of a lease (R48, R49). -/
inductive LeaseState where
  | free | active | expired
  deriving DecidableEq, Repr

/-- One lease (R46 to R49): its table entry, and the physical 4 KiB pages it holds. -/
structure Lease where
  state : LeaseState := .free
  base : W64 := 0#64
  len : W32 := 0#32
  ldead : W64 := 0#64
  /-- Physical page runs: first 4 KiB page and number of pages. -/
  pages : List (Nat × Nat) := []
  deriving DecidableEq, Repr

/-! ### The causal memory (file 10) -/

/-- A vector clock, one counter for each die (R251). -/
structure VClock where
  d0 : Nat := 0
  d1 : Nat := 0
  d2 : Nat := 0
  d3 : Nat := 0
  deriving DecidableEq, Repr

/-- A write to global memory that has not been applied at every die, or is needed to order one that has not (R251, R252). -/
structure GWrite where
  id : Nat
  die : Nat
  clock : VClock
  addr : Nat
  data : List Byte
  /-- Its place in coherence order, once its home has given it one. -/
  place : Option Nat
  /-- The dies at which it has been applied. -/
  applied : List Nat
  /-- Bytes of `data`, by number, that it leaves as they are: an atomic update of parts of a record is one write (R72). -/
  skip : List Nat := []
  deriving DecidableEq, Repr

/-- The memories that hold bytes (R243, R157): global by physical address, and the local ones of a core or a cluster. -/
inductive Loc where
  | global (pa : Nat)
  | spad (core off : Nat)
  | sram (cluster off : Nat)
  | acc (core off : Nat)
  | host (addr : Nat)
  | mmio (off : Nat)
  | spill (core off : Nat)
  deriving DecidableEq, Repr

/-- Read-modify-write operations (R344). -/
inductive AtomKind where
  | swap | cas | add | and | or | xor | min | max | minn | maxn | fadd
  deriving DecidableEq, Repr

/-- One element access (R247): its lane, where it lies, and for a write or an atomic its data; `got` is what a performed read or
atomic returned, `write` the write that a performed atomic made at its home. -/
structure Elem where
  lane : Nat
  loc : Loc
  size : Nat
  data : W64 := 0#64
  /-- Bits of the old value that a store keeps (a byte shared with an inactive element, R441). -/
  keep : Byte := 0#8
  got : Option W64 := none
  write : Option Nat := none
  deriving DecidableEq, Repr

/-- What the elements of a sector contribute to a gauge (R72): the greatest magnitude, the non-finite count, and the counts by bin. -/
structure Contribution where
  mx : Nat := 0
  nf : Nat := 0
  h : SMap Nat := []
  deriving DecidableEq, Repr

/-- A sector's gauge contribution on its way to a shard (R72). -/
structure GaugeUpd where
  die : Nat
  g : Nat
  c : Contribution
  /-- The token that clears with the last update of its operation: context, number, and a number of the operation. -/
  token : Option (Nat × Nat × Nat) := none
  deriving DecidableEq, Repr

/-- The operations on a transaction barrier that write it (R170, R447). -/
inductive BarOp where
  | init | arrive | expect
  deriving DecidableEq, Repr

/-- The destination of a load or an atomic (R437). -/
inductive LoadDest where
  | none
  | scalar (file : Nat) (reg : Nat) (sx : Option Nat)
  | vector (w : Bool) (reg : Nat) (mask : Mask)
  deriving DecidableEq, Repr

/-- How the elements of an access make the destination's value. -/
inductive LoadForm where
  /-- One element, extended as the destination says. -/
  | plain
  /-- Lane values of a type code, one element a lane (R441 to R443). -/
  | lanes (ty : Nat)
  /-- Whole bytes that hold packed sub-byte elements or pixels: byte k of the image is element k (R441). -/
  | packed (ty : Nat)
  /-- High halves, then low halves (R440). -/
  | joined
  deriving DecidableEq, Repr

/-- What a pending access does. -/
inductive AccessKind where
  | load
  | store
  | atomic (op : AtomKind) (expect : W64)
  | bar (op : BarOp) (v : Nat)
  | sync (scope : Nat)
  deriving DecidableEq, Repr

/-- An access issued and not yet performed (R216, R254, R437). -/
structure Access where
  ctx : Nat
  token : Nat
  kind : AccessKind
  form : LoadForm := .plain
  elems : List Elem
  dest : LoadDest := .none
  /-- The accesses that must have been performed before this one (R254, R256, R258). -/
  after : List Nat
  /-- The spaces it accesses, by number 0x0, 0x8, 0x9, 0xF, and 0x10 for the spill carve-out, which has none (R244). -/
  spaces : List Nat
  /-- SYNC: the clock V it took when its earlier accesses had been performed (R257). -/
  clock : Option VClock := none
  /-- SYNC.SYS: the host requests it waits for (R100, R257). -/
  hostReqs : List Nat := []
  /-- Gauge updates that follow the data of a store (R73, R442). -/
  updates : List GaugeUpd := []
  deriving DecidableEq, Repr

/-- An ordering that later accesses of a context must respect (R256, R258): the spaces it orders and the accesses before it. -/
structure FenceRec where
  spaces : List Nat
  ids : List Nat
  deriving DecidableEq, Repr

/-- A posted write on its way to host memory (R100). -/
structure HostReq where
  id : Nat
  die : Nat
  /-- The zero-length read that SYNC.SYS has the host link issue carries no data. -/
  addr : Nat
  data : List Byte
  deriving DecidableEq, Repr

/-! ### Contexts and cores (files 09, 11, 13, 15, 19) -/

/-- A wait token (R216): its count and the error mark with the address it keeps (R264). -/
structure Token where
  count : Nat := 0
  mark : Option Nat := none
  deriving DecidableEq, Repr

/-- What feeds a stream register (R166, R203, R429). -/
inductive Feeder where
  | job (die serial : Nat)
  | mread
  /-- A stash entry: the address of the next vector in its plain data, and the sectors still to come (R203). -/
  | stash (die key : Nat) (addr : W64) (left : Nat)
  deriving DecidableEq, Repr

/-- A stream register (R166): its binding, the buffered vectors (oldest first) and the vectors that its feeder has ready and
that have not entered the buffer. -/
structure Stream where
  bound : Option Feeder := none
  buf : List Vec := []
  /-- For each buffered vector, oldest first, the physical address at which its data is uncorrectable (R31); none behind the end of the
  list. -/
  ecc : List (Option Nat) := []
  /-- The vectors still to come, each with the issue count at whose end it may enter (MREAD, R429). -/
  coming : List (Nat × Vec) := []
  /-- A trap handler runs, and what is coming belongs to the interrupted code: its counts are remaining issue counts (R265, R267). -/
  frozen : Bool := false
  /-- The feeder has delivered its last vector. -/
  ended : Bool := false
  deriving DecidableEq, Repr

/-- Configuration, status and contents of an accumulator tile (R217, R422). -/
structure Tile where
  gidx : BitVec 16 := 0#16
  gv : Bool := false
  zb : BitVec 9 := 0#9
  cols : BitVec 8 := 127#8
  rows : BitVec 8 := 127#8
  sub : Bool := false
  inf : Bool := false
  nan : Bool := false
  i32 : Bool := false
  /-- Element (row, col) at key row × 128 + col. -/
  elems : SMap W32 := []
  deriving DecidableEq, Repr

/-- The destination of an exposed result (R227, R228). -/
inductive Dest where
  | a (n : Nat) | b (n : Nat) | d (n : Nat) | e (n : Nat) | m (n : Nat) | j (n : Nat)
  | latch (slot n : Nat)
  | const (n : Nat)
  | special (num : Nat)
  | pred (n : Nat)
  | vreg (w : Bool) (n : Nat)
  | vlatch (w : Bool) (n : Nat)
  deriving DecidableEq, Repr

/-- One landed element: its place, its bits, and what it does to the tile's status. -/
structure Landed where
  row : Nat
  col : Nat
  val : W32
  tiny : Bool
  nan : Bool
  deriving DecidableEq, Repr

/-- A macro-op in flight (R425, R426), with the bytes of its operand spans, row by row, read at its issue. -/
structure MacroOp where
  z : Nat
  /-- FORMAT, a type code. -/
  fmt : Nat
  k : Nat
  ta : Bool
  tb : Bool
  ovw : Bool
  /-- The gauge record that the landed values are counted into (R427). -/
  gauge : Option Nat
  /-- FMT.SUB in force at issue is ASSIST. -/
  assist : Bool
  aRows : List (List Byte)
  bRows : List (List Byte)
  /-- Scale bytes of MMAX. -/
  sa : List (List Byte)
  sb : List (List Byte)
  /-- The bank groups it reads. -/
  groups : List Nat
  /-- The tile as it stands at the macro-op's start; none behind an earlier macro-op on the tile, whose landed result it starts from. -/
  start : Option Tile
  pc : BitVec 48
  /-- Array cycles of a K-step under the window mode of its issue (R209, R426). -/
  window : Nat
  /-- Where a trap or a capture has stopped it (R272): the next K-step, and the tile accumulated up to it. -/
  next : Nat := 0
  partials : List Landed := []
  deriving DecidableEq, Repr

/-- What an engine does to a transaction barrier (R163, R164, R170, R465). -/
inductive BarAct where
  | land (sectors : Nat)
  | flags (f : Nat)
  | arrive
  deriving DecidableEq, Repr

/-- An engine's action on a barrier that waits until no macro-op reads the barrier's bank group (R168, R225). -/
structure BarWait where
  loc : Loc
  act : BarAct
  /-- The collective whose completion it is (R465). -/
  coll : Option (Nat × Nat × Nat) := none
  deriving DecidableEq, Repr

/-- What lands (R227). A vector result carries the lanes that it writes. -/
inductive Landing where
  | scalar (dest : Dest) (val : W64)
  | vector (dest : Dest) (val : Vec) (mask : Mask)
  | predicate (n : Nat) (val mask : Mask)
  | fmt (val : W64)
  | tileCfg (z : Nat) (cfg : W64)
  | tileZero (z : Nat)
  | tileRows (z : Nat) (row : Nat) (vals : List (List W32))
  /-- The status word of MSTAT, and the number of the first access issued with it or after it (R431). -/
  | tileStat (off : Nat) (word : W64) (z : Nat) (clr : Bool) (first : Nat)
  | macroOp (op : MacroOp)
  /-- A token that clears at a count's end, with the results written in the same action (R437, R453); `id` numbers what has results. -/
  | reply (token id : Nat) (writes : List (Dest × W64))
  deriving DecidableEq, Repr

/-- A result in flight: it lands at the end of issue count `at`. The list of a context is in order of issue and, within one bundle,
of slots, which is the order of R228. -/
structure Flight where
  land : Nat
  what : Landing
  deriving DecidableEq, Repr

/-- A pending transfer (R349). -/
structure Transfer where
  target : BitVec 48
  left : Nat
  link : Bool
  deriving DecidableEq, Repr

/-- A sticky operation: the syllable's operation, its re-issue count and the literal words kept with it (R316). -/
structure Sticky where
  op : Instr
  n : Nat
  lits : List W32
  deriving DecidableEq, Repr

/-- A link of the loop set-up (R354). -/
structure LoopLink where
  d : Nat
  level : Nat
  stride : W64
  deriving DecidableEq, Repr

/-- An active nest (R355): its body, counts and indices (level 0 first) and links. -/
structure Nest where
  start : BitVec 48
  body : Nat
  cnt : List Nat
  idx : List Nat
  links : List LoopLink
  /-- Body bundle that issues next, 0 to body − 1. -/
  pos : Nat
  deriving DecidableEq, Repr

/-- The sticky operations and the loop state, which a trap handler has of its own (R319, R356). -/
structure LoopState where
  v0 : Option Sticky := none
  v1 : Option Sticky := none
  m : Option Sticky := none
  l : Option Sticky := none
  /-- Counts of levels 0 to 5; an unlisted level has count 1. -/
  counts : SMap Nat := []
  links : List LoopLink := []
  nest : Option Nest := none
  /-- Levels and body length of a LOOP whose own bundle has repetitions left (R355). -/
  starting : Option (Nat × Nat) := none
  /-- A count of 0 skips the body: bundles still to be passed over (R355). -/
  skip : Nat := 0
  /-- The bundle, presented and still to issue, whose BWAIT.ARV has made its arrival (R480). -/
  arv : Option (BitVec 48) := none
  /-- The bundle, presented and still to issue, of a TWAIT, and the value that it read at its first presentation (R473). -/
  tw : Option (BitVec 48 × W64) := none
  deriving DecidableEq, Repr

/-- A result that an engine operation writes as its token clears (R437, R453): its number among those of its context, in order of issue, the
registers that it writes, and its token and values once they are known. -/
structure EResult where
  id : Nat
  dests : List Dest
  answer : Option (Nat × List (Dest × W64)) := none
  deriving DecidableEq, Repr

/-- A trap that a context raises at the next bundle it issues or is stalled at (R236, R237, R264). -/
structure DueTrap where
  code : Nat
  arg : W64
  /-- Producing bundle of a matrix SUBNORM_ASSIST. -/
  txpc : Option (BitVec 48) := none
  deriving DecidableEq, Repr

/-- The snapshot latch bank (R220, R265): in-flight results with their remaining issue cycles, the pending transfer, the
interrupted code's loop and sticky state and latches, and the traps that it still has to raise. -/
structure Snapshot where
  flights : List Flight
  br : Option Transfer
  loops : LoopState
  due : List DueTrap
  /-- The latches (R220). -/
  q : SMap W64
  qv : SMap Vec
  qw : SMap Vec
  deriving DecidableEq, Repr

/-- Why a context has left the ready set (R231). -/
inductive WaitWhy where
  | barrier (n : Nat)
  | tbar (loc : Loc)
  | window (chan : Nat)
  | scheduler
  | riffle (cluster unit : Nat)
  | time (t : Nat)
  /-- Its gang has been captured (R271). -/
  | captured
  deriving DecidableEq, Repr

/-- A context's place in issue (R231, R364). -/
inductive RunState where
  | ready
  | waiting (why : WaitWhy)
  /-- DONE has issued; its tokens drain (R364). -/
  | draining
  deriving DecidableEq, Repr

/-- An unfinished join of a context's core (R234 to R238). -/
structure Join where
  z : Nat
  partner : Nat
  jn : Nat
  h : Bool
  token : Nat
  /-- Timebase at which it times out. -/
  deadline : Nat
  /-- The half copied at issue: rows of the half that the partner keeps, with none at inactive positions (R432). -/
  half : List (List (Option W32))
  i32 : Bool
  /-- The partner's half, once it has arrived. -/
  received : Option (List (List (Option W32))) := none
  assist : Bool
  pc : BitVec 48
  deriving DecidableEq, Repr

/-- A context: the whole architectural state of one running tile task (R207, R212, R277). Register files are tables in which an
unlisted register reads zero. -/
structure Ctx where
  pc : BitVec 48 := 0#48
  a : SMap W64 := []
  b : SMap W64 := []
  d : SMap W64 := []
  e : SMap W64 := []
  j : SMap W64 := []
  m : SMap W64 := []
  v : SMap Vec := []
  w : SMap Vec := []
  /-- Latch qn of slot number k at key 8k + n (R219); the vector slots' latches stand in `qv` and `qw`. -/
  q : SMap W64 := []
  qv : SMap Vec := []
  qw : SMap Vec := []
  p : SMap Mask := []
  c : SMap W32 := []
  k : SMap Token := []
  f : SMap Stream := []
  z : SMap Tile := []
  subflag : Bool := false
  brlost : Bool := false
  latchlost : Bool := false
  sup : Bool := false
  fmt : W64 := 0x2120#64
  tcoord : BitVec 48 := 0#48
  tag : W32 := 0#32
  ovfptr : W64 := 0#64
  sptop : BitVec 16 := 0#16
  srseq0 : W32 := 0#32
  srseq1 : W32 := 0#32
  tcause : W64 := 0#64
  traparg : W64 := 0#64
  tpc : W64 := 0#64
  txpc : W64 := 0#64
  /-- Issue count (R227). -/
  count : Nat := 0
  flight : List Flight := []
  br : Option Transfer := none
  loops : LoopState := {}
  /-- Repetitions that the bundle at `pc` issues after the next one, once it has issued or RFT or a resumption has set them (R266, R317); none for a bundle that has not issued. -/
  repLeft : Option Nat := none
  /-- Control arrives at `pc` by a transfer, start, spawn or RFT, so its start bit is checked (R313). -/
  arrived : Bool := false
  spin : Nat := 0
  snap : Option Snapshot := none
  /-- Traps to raise at the next bundle. -/
  due : List DueTrap := []
  run : RunState := .ready
  age : Nat := 0
  gang : Nat := 0
  member : Nat := 0
  /-- The blocks it has posted to since launch (R147). -/
  posts : List Loc := []
  fences : List FenceRec := []
  join : Option Join := none
  /-- The results at clearing that are still to be written, in order of issue (R437, R453), and the number of the next. -/
  results : List EResult := []
  resultNo : Nat := 0
  deriving DecidableEq, Repr

/-- A control core (R207): the partition word in force and its pool. -/
structure Core where
  part : W64 := 0x020C0882#64
  spad : Mem := []
  spill : Mem := []
  /-- The 64 KiB tiles of the accumulator store, by number, that stand at sequencers without a context (R217). -/
  acc : SMap (SMap W32) := []
  deriving DecidableEq, Repr

/-- A translation held by a TLB (R282): the virtual and physical base of its page, its size and its leaf bits. -/
structure TlbEntry where
  va : Nat
  size : Nat
  pa : Nat
  r : Bool
  w : Bool
  x : Bool
  sup : Bool
  deriving DecidableEq, Repr

/-! ### Riffle, Sluice, Eddy (files 07 and 08) -/

/-- STATE of a Riffle operation (R180). -/
inductive RState where
  | idle | queued | running | suspended | done | error
  deriving DecidableEq, Repr

/-- The six operations of a Riffle unit (R175). -/
inductive RKind where
  | decode | encode | unpack12 | crc | expand3 | fill
  deriving DecidableEq, Repr

/-- One Riffle operation, as queued (R177 to R181): the issuing context and its operand set, and its progress. -/
structure ROp where
  ctx : Nat
  sup : Bool
  kind : RKind
  ports : SMap W64
  trig : W64
  token : Nat
  state : RState := .queued
  err : BitVec 8 := 0#8
  pos : Nat := 0
  ovf : Nat := 0
  /-- CRC value, or bytes written (R180). -/
  result : Nat := 0
  /-- The chunk in the staging buffer: the pieces still to be written, each with its address (R195). A CRC that is computed stages
  nothing. -/
  staged : Option (List (W64 × List Byte)) := none
  /-- The output of the staged chunk at DSTA, whose elements are counted once it is written, and the bytes of an element that the chunk
  before left unfinished (R187). -/
  chunk : List Byte := []
  carry : List Byte := []
  /-- Bytes written at DSTA, whose elements have been counted (R72, R187). -/
  out : Nat := 0
  /-- The staged block escapes, so OVFCNT rises once it is written (R191). -/
  escapes : Bool := false
  /-- The record of DSTH as the trigger read it (R66). -/
  image : List Byte := []
  /-- Stores of its context, issued before it and held, that are performed before it starts: a trigger is a release (R181, R259). -/
  after : List Nat := []
  /-- The Sluice job, by die and serial number, whose unit passes through the Riffle unit here (R197). -/
  job : Option (Nat × Nat) := none
  /-- The context's last operation on the unit, which STATUS and RESULT show (R175). -/
  last : Bool := true
  deriving DecidableEq, Repr

/-- A Riffle unit (R174 to R180): its queue (the head is the one that runs), the operand sets and the last status of each context. -/
structure Riffle where
  queue : List ROp := []
  /-- Operand port p of context c at key 8c + p. -/
  ports : SMap W64 := []
  /-- STATUS and RESULT of the last ended operation, by context. -/
  status : SMap W64 := []
  result : SMap W64 := []
  deriving DecidableEq, Repr

/-- A cluster (R207): window mode, cluster SRAM, TLB, Riffle units. -/
structure Cluster where
  winmode : BitVec 3 := 1#3
  sram : Mem := []
  tlb : List TlbEntry := []
  riffle : SMap Riffle := []
  deriving DecidableEq, Repr

/-- STATE of a job (R162). -/
inductive JState where
  | queued | waiting | running | suspended | done | integ | ecc | norecord | killed | aborted | codec
  deriving DecidableEq, Repr

/-- A footprint region (R168): the memory, its first byte and its length, and whether it is written. -/
structure Region where
  space : Nat
  /-- Core or cluster of a local space; 0 for global. -/
  owner : Nat
  base : Nat
  len : Nat
  write : Bool
  deriving DecidableEq, Repr

/-- What a job of the scheduler does (R167, R202). -/
inductive JobKind where
  /-- A Sluice job with its card, 16 words (R156). -/
  | sluice (card : List W64)
  /-- An Eddy store or restore of the entry with this key. -/
  | store (key : Nat)
  | restore (key : Nat)
  deriving DecidableEq, Repr

/-- A job (R162 to R168, R456). -/
structure Job where
  serial : Nat
  place : Nat
  kind : JobKind
  ctx : Nat
  sup : Bool
  /-- The token to clear at its end: context and number. -/
  token : Option Nat
  tag : W32
  state : JState := .waiting
  /-- Units performed, in any order (R159). -/
  units : List Nat := []
  pos : Nat := 0
  ovf : Nat := 0
  fallback : Bool := false
  regions : List Region
  preds : List Nat
  /-- Sectors landed on its barrier. -/
  landed : Nat := 0
  /-- Plain bytes of the checksum block under way (R172), and the blocks that have ended. -/
  plain : List Byte := []
  blocks : Nat := 0
  /-- Bytes of the stream vector under way (R166). -/
  tail : List Byte := []
  /-- The records of its source and destination handle as its handle requests read them, once, when the job started (R66). -/
  srec : List Byte := []
  drec : List Byte := []
  deriving DecidableEq, Repr

/-- STATE of a stash entry (R202, R204). -/
inductive StashState where
  | resident | compressed | spilledFar | spilledLp | dropped | restoring | restored
  deriving DecidableEq, Repr

/-- What waits for the data of a restore (R203). -/
inductive Attach where
  | barrier (loc : Loc)
  | stream (ctx f : Nat)
  deriving DecidableEq, Repr

/-- A stash entry (R198 to R204). Runs are (first unit, units) of 4 KiB within their arena. -/
structure Stash where
  key : Nat
  state : StashState
  err : Bool := false
  cpad : BitVec 2 := 0#2
  /-- Length in sectors. -/
  len : Nat
  src : W64 := 0#64
  rdest : W64 := 0#64
  handle : Nat := 0
  /-- The stashing context, and the privilege that its source and destination are checked with. -/
  ctx : Nat := 0
  sup : Bool := false
  near : Option (Nat × Nat) := none
  far : Option (Nat × Nat) := none
  lp : Option (Nat × Nat) := none
  /-- Near-arena run that a restore with RDEST = 0 fills. -/
  dest : Option (Nat × Nat) := none
  /-- How many blocks of the stored copy escaped (R191). -/
  ovf : Nat := 0
  /-- Sectors that the restore has applied (R203). -/
  done : Nat := 0
  attach : List Attach := []
  /-- Tokens that clear when the restore ends: context and token. -/
  waiters : List (Nat × Nat) := []
  /-- EDFREEs that wait for the writes in flight: context, token and destination (e register n, or 32 + n for a latch). -/
  frees : List (Nat × Nat × Nat) := []
  deriving DecidableEq, Repr

/-- The registers of an Eddy (R199) and its stash table. -/
structure Eddy where
  nbase : BitVec 48 := 0#48
  nlen : W32 := 0#32
  fbase : BitVec 48 := 0#48
  flen : W32 := 0#32
  lpbase : BitVec 48 := 0#48
  lplen : W32 := 0#32
  stashes : List Stash := []
  deriving DecidableEq, Repr

/-! ### The Weir (file 06) -/

/-- An arrival-queue entry (R140). -/
structure QEntry where
  tag : W32
  phase : Nat
  chan : BitVec 16
  /-- Slot of the receive buffer (R89). -/
  slot : Nat := 0
  seq : BitVec 16
  dep : W64
  /-- Cluster whose SRAM holds a DEP block in space 0x9 (R146). -/
  depCluster : Nat
  lt : W64
  deriving DecidableEq, Repr

/-- A WARR on its way to a Weir queue (R141, R467): the issuing context, its token and destination, and its clock, which the release
carries (R259). -/
structure Arrival where
  id : Nat
  stage : Nat
  queue : Nat
  entry : QEntry
  ctx : Nat
  token : Nat
  dest : Nat
  clock : VClock
  /-- Stores of its context, issued before it and held, that are performed before it arrives (R259, R467). -/
  after : List Nat := []
  deriving DecidableEq, Repr

/-- A version slot's STATE (R149). -/
inductive SlotState where
  | free | current | next | old
  deriving DecidableEq, Repr

/-- A version slot (R149). -/
structure VSlotReg where
  state : SlotState := .free
  version : W32 := 0#32
  refs : BitVec 16 := 0#16
  deriving DecidableEq, Repr

/-- A launched, unretired step (R138, R145). -/
structure Step where
  tag : W32
  phase : Nat
  klass : Nat
  slot : Nat
  newslot : Nat
  gangs : List Nat
  /-- Physical address of the step's JCB. -/
  jcb : Nat
  /-- Gauge indices that its chain seals (R148), and those whose seals are not yet applied. -/
  seals : List Nat
  faulted : Bool := false
  /-- Its JCB is COMPLETE and its seals have been requested. -/
  retiring : Bool := false
  sealsLeft : List Nat := []
  deriving DecidableEq, Repr

/-- A stage's Weir registers and objects (R129 to R133, R138 to R149). -/
structure Stage where
  enable : Bool := false
  wsplit : Bool := false
  stalled : Bool := false
  estat : BitVec 4 := 0#4
  clmask0 : W64 := 0#64
  clmask1 : BitVec 8 := 0#8
  tmplbase : BitVec 48 := 0#48
  framebase : BitVec 48 := 0#48
  /-- Physical pages of the two bases, translated once at the enabling write (R132). -/
  tmplPa : Nat := 0
  framePa : Nat := 0
  vslots : SMap VSlotReg := []
  policy : SMap W64 := []
  fq : List QEntry := []
  bq : List QEntry := []
  wq : List QEntry := []
  uq : List QEntry := []
  /-- Step frames held. -/
  frames : SMap (Option Step) := []
  /-- Tag bindings: tag and slot (R149). -/
  bindings : List (W32 × Nat) := []
  /-- Tags whose F has retired and whose B has not launched, oldest first (R150). -/
  horizon : List W32 := []
  lastEval : Nat := 0
  deriving DecidableEq, Repr

/-- A post on its way to a job control block (R147). -/
structure Post where
  id : Nat
  block : Loc
  die : Nat
  /-- The clock of its die when it was made (R147: a post is a release at MOD scope). -/
  clock : VClock
  /-- The token and destination of a WPOST, with its context. -/
  reply : Option (Nat × Nat × Nat) := none
  /-- Accesses of its context, issued before it, that are performed before it sets out (R147). -/
  after : List Nat := []
  /-- The collective whose completion it is, by context, token and destination: its token clears once the block has received the post (R465). -/
  coll : Option (Nat × Nat × Nat) := none
  deriving DecidableEq, Repr

/-- A successor event on its way (R146). -/
structure Succ where
  id : Nat
  block : Loc
  kind : Nat
  arg : W64
  otag : W32
  /-- The clock of the die at which the block completed (R146: the successor fires as a release). -/
  clock : VClock
  suspended : Bool := false
  deriving DecidableEq, Repr

/-- A gang barrier (R359). -/
structure GangBar where
  phase : Bool := false
  arrived : List Nat := []
  /-- Writes that the arrived members issued before they arrived and that are still held: a BARV is a release (R359). -/
  behind : List Nat := []
  /-- Those of the last phase that completed, which a BWAIT acquires (R359). -/
  released : List Nat := []
  deriving DecidableEq, Repr

/-- A gang (R125 to R128, R134). -/
structure Gang where
  id : Nat
  die : Nat
  /-- The step it belongs to: stage and frame; none for a gang of start contexts. -/
  step : Option (Nat × Nat)
  klass : Nat
  /-- Members: context number and member index, those that have not yet executed DONE. -/
  members : List (Nat × Nat)
  ntask : Nat
  joinwait : Nat
  win : BitVec 3
  part : W64
  savebase : W64
  /-- Its template (R134); none for a gang of start contexts. -/
  tmpl : Option Nat := none
  /-- Fetch is frozen and its L-slot operations drain, for a step of this stage that takes its place (R152, R273). -/
  freezing : Option Nat := none
  /-- Cores that its template names. -/
  cores : List Nat
  bars : SMap GangBar := []
  captured : Bool := false
  /-- Captured by HOLD entry, so only hold exit resumes it (R21). -/
  byHold : Bool := false
  /-- Number of the capture that took it: gangs captured together share it. -/
  capturedAt : Nat := 0
  /-- Core images saved at capture: core, scratchpad, spill. -/
  images : List (Nat × Mem × Mem) := []
  /-- Window modes of its clusters at capture (R153). -/
  modes : List (Nat × BitVec 3) := []
  /-- The write-out of its save areas has ended (R275). -/
  written : Bool := false
  deriving DecidableEq, Repr

/-! ### Links (file 04) -/

/-- STATE of a channel end (R82). -/
inductive ChState where
  | idle | send | recv | misconf
  deriving DecidableEq, Repr

/-- A parcel of a receiving end (R83, R90): its header, the physical 4 KiB pages of its slot, the sectors that have arrived, whether it
has been delivered, whether it has been freed, and whether its end has been disabled since its header came (R82). -/
structure Parcel where
  hdr : FlitHeader
  slot : List Nat
  got : Nat := 0
  delivered : Bool := false
  freed : Bool := false
  dropped : Bool := false
  /-- The clock of the port's die when its last sector had been written, which its delivery releases (R89, R259). -/
  clock : VClock := {}
  deriving DecidableEq, Repr

/-- A CHSEND that holds a credit and whose parcel has not left (R85, R91). -/
structure TimedSend where
  seq : BitVec 16
  ctx : Nat
  sup : Bool
  token : Nat
  dest : Nat
  lt : Nat
  late : Bool
  desc : List W64
  /-- The issuer's vector clock, which must be applied at the port's die (R259). -/
  clock : VClock
  /-- The data sectors read so far, and whether the send waits on the fault queue (R285). -/
  read : List (List Byte) := []
  suspended : Bool := false
  /-- The record of its handle, read once, when it issued (R66). -/
  image : List Byte := []
  deriving DecidableEq, Repr

/-- A CHRECV that waits on a channel (R463): `ed` is the number of its first register, beside 64 times that of its result. -/
structure RecvWait where
  ctx : Nat
  token : Nat
  ed : Nat
  deriving DecidableEq, Repr

/-- A channel end (R82 to R91). -/
structure Chan where
  bufbase : BitVec 48 := 0#48
  nparc : BitVec 8 := 0#8
  psize : BitVec 4 := 0#4
  sink : BitVec 2 := 0#2
  stage : BitVec 3 := 0#3
  state : ChState := .idle
  /-- The configuration last received from the peer: NPARC, PSIZE, state. -/
  peer : Option (BitVec 12 × BitVec 4 × BitVec 3) := none
  matched : Bool := false
  credits : Nat := 0
  seq : BitVec 16 := 0#16
  pcount : W64 := 0#64
  /-- Parcels in order of arrival: arriving, held and not yet credited back. -/
  parcels : List Parcel := []
  recvs : List RecvWait := []
  timed : List TimedSend := []
  /-- Contexts that wait on the window, in arrival order, and those re-inserted with a credit set aside for them (R86). -/
  waiters : List Nat := []
  granted : List Nat := []
  /-- Physical 4 KiB pages of the receive buffer, translated at enable (R82). -/
  pages : List Nat := []
  deriving DecidableEq, Repr

/-- What the module sends out of itself (R16, R84, R93, R94, R101). -/
inductive Out where
  | msix (vector : Nat)
  | setpoint (kmin : Option Nat)
  | pause (on : Bool)
  | header (chan : Nat) (hdr : FlitHeader)
  | data (chan : Nat) (sector : List Byte)
  | credit (chan credits : Nat)
  | config (chan : Nat) (nparc : BitVec 12) (psize : BitVec 4) (state : BitVec 3)
  | time (port : Nat) (value : Nat)
  | oxbow (west : Bool) (flit : OxFlit)
  | hostRead (addr : Nat)
  deriving DecidableEq, Repr

/-- A port of the module (R80, R81): Braid 0 to 5, Oxbow 6 and 7, host 8. What is sent through a port that is down stays queued. -/
structure Port where
  up : Bool := true
  errors : Nat := 0
  queue : List Out := []
  deriving DecidableEq, Repr

/-- A collective of the Oxbow (R94 to R98, R464, R465). -/
structure Coll where
  ctx : Nat
  sup : Bool
  token : Nat
  dest : Nat
  /-- 0 reduce-scatter, 1 all-reduce, 2 all-gather. -/
  op : Nat
  desc : List W64
  flagVal : W64
  num : BitVec 16
  clock : VClock
  started : Bool := false
  /-- Shards placed whole (final sums and gathered shards), in order. -/
  placed : List Nat := []
  flagged : List Nat := []
  /-- Of the shard under way, the bytes of this replica that have been read and the sectors that have been written (R285). -/
  mine : List Byte := []
  wrote : Nat := 0
  /-- The clock of die 3 after its last write, which its completion releases (R98, R259). -/
  rel : VClock := {}
  /-- It waits on the fault queue (R285). -/
  suspended : Bool := false
  deriving DecidableEq, Repr

/-- One direction of the Oxbow ring: its collective number and the collectives, running first. After a mismatch found here the flits of
the ended collective are dropped until its abort flit has gone round the ring. -/
structure OxDir where
  num : BitVec 16 := 0#16
  queue : List Coll := []
  absorb : Bool := false
  deriving DecidableEq, Repr

/-! ### Faults of engines, gauges and records -/

/-- An entry of a die's fault queue (R285). -/
structure FqEntry where
  va : W64 := 0#64
  tag : W32 := 0#32
  cause : BitVec 8 := 0#8
  agent : BitVec 4 := 0#4
  source : BitVec 20 := 0#20
  jobref : W64 := 0#64
  pend : Bool := false
  wr : Bool := false
  /-- MODEL: which operation of the agent waits: a Riffle unit, a channel, a ring direction, a successor event. -/
  unit : Nat := 0
  deriving DecidableEq, Repr

/-- A die's fault queue registers (R285), and the faults that wait for a free place. -/
structure FaultQueue where
  head : BitVec 6 := 0#6
  tail : W32 := 0#32
  note : BitVec 48 := 0#48
  entries : SMap FqEntry := []
  waiting : List FqEntry := []
  deriving DecidableEq, Repr

/-- A seal or a rescale on its way to a record's control point (R75). -/
structure SealReq where
  id : Nat
  g : Nat
  rescale : Bool
  /-- The issuing context, token and destination; none for a seal of the Weir. -/
  reply : Option (Nat × Nat × Nat)
  /-- Steps whose retirement waits for this seal: die, stage, frame. -/
  steps : List (Nat × Nat × Nat)
  die : Nat
  /-- The clock of its die when it was requested: a seal covers what its requester has seen (R75, R259). -/
  clock : VClock := {}
  deriving DecidableEq, Repr

/-- A RECSET or GNEW on its way to the four dies (R66, R70). -/
structure RecReq where
  id : Nat
  handle : Nat
  image : List Byte
  done : List Nat
  /-- The writes that it has made so far. -/
  ids : List Nat := []
  reply : Nat × Nat × Nat
  deriving DecidableEq, Repr

/-- Writes that must have been applied at all four dies before something ends (R70, R75, R76): what a token then clears with, and the
steps (die, stage, frame) whose retirement waits for the seal of record `g`. -/
structure WriteWait where
  ids : List Nat
  reply : Option (Nat × Nat × Nat × W64) := none
  steps : List (Nat × Nat × Nat) := []
  g : Nat := 0
  deriving DecidableEq, Repr

/-- A compute die: its view of global memory, its clock, and its engines. -/
structure Die where
  view : Mem := []
  vc : VClock := {}
  tvec : W64 := 0#64
  stages : SMap Stage := []
  arrivals : List Arrival := []
  jobs : List Job := []
  /-- Jobs accepted since session start (R456). -/
  accepted : Nat := 0
  eddy : Eddy := {}
  fq : FaultQueue := {}
  /-- The shared TLB, most recently used first within a set (R282). -/
  tlb : List TlbEntry := []
  deriving DecidableEq, Repr

/-! ### Host and firmware (file 05) -/

/-- SESSTAT.STATE (R115). -/
inductive SessState where
  | none | loaded | running | suspended
  deriving DecidableEq, Repr

/-- A section of the loaded image (R110). -/
structure Section where
  kind : Nat
  perm : BitVec 8
  vaddr : Nat
  paddr : Nat
  size : Nat
  deriving DecidableEq, Repr

/-- The session registers (R115) and the loaded image (R113, R120). -/
structure Session where
  state : SessState := .none
  startstat : BitVec 8 := 0#8
  endcause : BitVec 8 := 0#8
  num : W64 := 0#64
  sections : List Section := []
  digest : BitVec 512 := 0#512
  deriving DecidableEq, Repr

/-- The mailbox (R103, R104). -/
structure Mailbox where
  seq : BitVec 16 := 0#16
  busy : Bool := false
  overrun : Bool := false
  stagelost : Bool := false
  status : BitVec 8 := 0#8
  lattol : W32 := 0xFFFFFFFF#32
  args : SMap W64 := []
  rets : SMap W64 := []
  /-- The running command: opcode, SEQ and the arguments copied at its submission. -/
  running : Option (Nat × BitVec 16 × SMap W64) := none
  /-- A thermal trigger was due when the running command was submitted, so it is served first (R18). -/
  behind : Bool := false
  /-- The running command has taken its transition and completes at the end of its sequence (R106). -/
  begun : Bool := false
  /-- Writes of START that wait their turn, oldest first, each with whether a thermal trigger was due before it (R18), and how many of them came
  before the running command (R104). -/
  starts : List (W64 × Bool) := []
  ahead : Nat := 0
  /-- Writes of START whose turn has come. -/
  granted : Nat := 0
  /-- A command has completed since power-up (R104). -/
  any : Bool := false
  deriving DecidableEq, Repr

/-- A log entry (R107). -/
structure LogEntry where
  time : W64
  kind : BitVec 16
  source : BitVec 16
  code : BitVec 32
  addr : W64
  deriving DecidableEq, Repr

/-- TBCTL (R92). -/
structure TbCtl where
  role : BitVec 2 := 0#2
  upport : BitVec 3 := 0#3
  locked : Bool := false
  /-- The one step forward at entry into follower has been made (R93). -/
  stepped : Bool := false
  /-- Timebase of the last slew, and whether the next tick is repeated (R93). -/
  slewed : Nat := 0
  again : Bool := false
  deriving DecidableEq, Repr

/-- One turn of the schedule: timebase ticks that pass, then a step. -/
structure Turn where
  dt : Nat
  ev : Instr
  deriving DecidableEq, Repr

/-- The whole module. -/
structure State where
  /-- Timebase (R1, R92), in ticks; registers show it modulo 2^64. -/
  time : Nat := 0
  /-- MODEL: which agent moves next, and what the surroundings bring (log entry 3). -/
  agenda : List Turn := []
  /-- MODEL: the sequencer that issues when the schedule is empty, as 4 × core + sequencer. -/
  cur : Nat := 0
  /-- MODEL: the literal words of the bundle that a slot operation stands in. -/
  lits : List W32 := []
  /-- MODEL: draws of free values so far (log entry 2). -/
  freeCtr : Nat := 0
  thermal : Thermal := {}
  dram : SMap DramChan := []
  /-- When each row of DRAM was last scrubbed (R14), by the number of the row; an unlisted row, when the DRAM was powered up. -/
  scrubbed : SMap Nat := []
  dramSince : Nat := 0
  llc : SMap LlcLine := []
  /-- The line of each set of the LLC that was used last, plus 1 (R42: pseudo-LRU). -/
  llcLast : SMap Nat := []
  /-- The translations of the eight layout units, by near stack, most recently used first (R283). -/
  layoutTlb : SMap (List TlbEntry) := []
  /-- Sectors that hold the poison code (R32). -/
  poison : List Nat := []
  leases : SMap Lease := []
  /-- The value of each global byte in coherence order (R252). -/
  home : Mem := []
  writes : List GWrite := []
  nextWrite : Nat := 0
  nextPlace : Nat := 0
  hostMem : Mem := []
  hostReqs : List HostReq := []
  accesses : SMap (Option Access) := []
  nextAccess : Nat := 0
  dies : SMap Die := []
  clusters : SMap Cluster := []
  cores : SMap Core := []
  ctxs : SMap (Option Ctx) := []
  nextAge : Nat := 0
  gangs : List Gang := []
  nextGang : Nat := 0
  chans : SMap Chan := []
  ports : SMap Port := []
  oxEast : OxDir := {}
  oxWest : OxDir := {}
  gaugeQ : List GaugeUpd := []
  seals : List SealReq := []
  recReqs : List RecReq := []
  writeWaits : List WriteWait := []
  barWaits : List BarWait := []
  posts : List Post := []
  succs : List Succ := []
  nextId : Nat := 0
  sess : Session := {}
  mbox : Mailbox := {}
  log : List LogEntry := []
  /-- Entries written since power-up (R107). -/
  logCount : Nat := 0
  tbctl : TbCtl := {}
  /-- Activity state of the module, A0 to A3 (R103, R122). -/
  act : BitVec 2 := 3#2
  /-- Clusters in A1 (R103, R122). -/
  gated : BitVec 9 := 0#9
  /-- When a gang or an eligible step was last found (R122). -/
  idleSince : Nat := 0
  /-- When each cluster last held a ready context or an engine job (R122). -/
  busyAt : SMap Nat := []
  /-- When link traffic last passed (R122). -/
  linkAt : Nat := 0
  /-- When a wake event last came (R124). -/
  wokeAt : Option Nat := none
  out : List Out := []
  /-- The image that the last handle request read (R51). -/
  handleImage : List Byte := []
  /-- The four image keys fused at manufacture, by number; an unprogrammed slot holds zeros (R112, R482; log entry 24). -/
  imageKeys : SMap (BitVec 256) := []
  deriving DecidableEq, Repr

/-- Why the machine stops. -/
inductive Fault where
  /-- Raised by a step whose physical address lies in the hole (R34, R35): no agent ever issues such an access, so the
  schedule named one that the module cannot make. Safe: nothing follows from it. -/
  | hole (pa : Nat)
  deriving DecidableEq, Repr

/-- Why an instruction has no meaning here. -/
inductive Refusal where
  /-- An instruction that the model does not give a meaning to. Safe. -/
  | notModelled (mnemonic : String)
  deriving DecidableEq, Repr

/-- The module right after reset: THSTAT shows WARM_STANDBY (R25), every register at the value of its map, memory with nothing
listed. -/
def State.reset : State := {}

end Sys2Proof.Machine
end

