-- ==== Sys2Proof/Machine/MacroOps.lean ====
section
/-! DEFINITION. What a macro-op computes (R295, R296, R425): its products, its K-steps, and where a trap or a capture stops it (R272). -/

namespace Sys2Proof.Machine

/-- The key of element (row, col) of a tile. -/
def tileKey (row col : Nat) : Nat := row * 128 + col

/-- An element of a tile: inactive positions read as zero (R422). -/
def Tile.elem (t : Tile) (row col : Nat) : W32 :=
  if row ≤ t.rows.toNat ∧ col ≤ t.cols.toNat then SMap.get 0#32 t.elems (tileKey row col) else 0#32

/-- Products of a cell per K-step (R294). -/
def macroRate (fmt : Nat) : Nat := match fmt with | 2 => 2 | 3 => 2 | 4 => 4 | 7 => 4 | _ => 1

/-- Array cycles per K-step: 1 in SOLO, 2 in SPLIT (R209). -/
def windowFactor (mode : Nat) : Nat := if mode = 5 ∨ mode = 6 then 1 else 2

/-- Element `k` of a row of bytes, by stored width (R62, R421). -/
def rowElem (fmt : Nat) (row : List Byte) (k : Nat) : Nat :=
  match storedWidth fmt with
  | 16 => leNat ((row.drop (2 * k)).take 2)
  | 4 => (row.getD (k / 2) 0#8).toNat / 16 ^ (k % 2) % 16
  | _ => (row.getD k 0#8).toNat

/-- A(i, k) (R425). -/
def MacroOp.a (m : MacroOp) (i k : Nat) : Nat :=
  if m.ta then rowElem m.fmt (m.aRows.getD k []) i else rowElem m.fmt (m.aRows.getD i []) k
/-- B(k, j) (R425). -/
def MacroOp.b (m : MacroOp) (k j : Nat) : Nat :=
  if m.tb then rowElem m.fmt (m.bRows.getD j []) k else rowElem m.fmt (m.bRows.getD k []) j
/-- The E8M0 byte of A(i, k). -/
def MacroOp.scaleA (m : MacroOp) (i k : Nat) : Nat := ((m.sa.getD i []).getD (k / 32) 0#8).toNat
/-- The E8M0 byte of B(k, j). -/
def MacroOp.scaleB (m : MacroOp) (k j : Nat) : Nat := ((m.sb.getD (k / 32) []).getD j 0#8).toNat

/-- One product of R295. -/
def MacroOp.product (m : MacroOp) (i j k : Nat) : XR :=
  if m.fmt = 4 then (mxValue 4 (m.a i k) (m.scaleA i k)).mul (mxValue 4 (m.b k j) (m.scaleB k j))
  else (valueOf m.fmt (m.a i k)).mul (valueOf m.fmt (m.b k j))

/-- K-steps of a macro-op (R294, R426). -/
def MacroOp.steps (m : MacroOp) : Nat := ceilDiv m.k (macroRate m.fmt)

/-- R295: the element of an F32 tile after K-steps `lo` to `hi - 1`, with one rounding to nearest even for each, and whether one of them was
flushed (R300). -/
def MacroOp.float (m : MacroOp) (i j lo hi : Nat) (start : Rounded) : Rounded :=
  let r := macroRate m.fmt
  (List.range (hi - lo)).foldl (fun (acc : Rounded) n =>
    let step := lo + n
    let sum := (List.range (min r (m.k - r * step))).foldl (fun s q => s.add false (m.product i j (r * step + q)))
      (.num false 0 1 false)
    let o := fF32.round .rne false ((fF32.value acc.bits).add false sum)
    ⟨o.bits, acc.tiny || o.tiny⟩) start

/-- P × 2^D rounded to the nearest integer, ties to even (R296). -/
def shiftRne (p d : Int) : Int :=
  if 0 ≤ d then p * 2 ^ d.toNat else roundInt .rne (decide (p < 0)) p.natAbs (2 ^ (-d).toNat) false

/-- R296: the element of an I32 tile after K-steps `lo` to `hi - 1`, and whether a block had a scale of 0xFF; a block is 32 values of K. -/
def MacroOp.int (m : MacroOp) (i j zb lo hi : Nat) (start : W32 × Bool) : W32 × Bool :=
  let g0 := macroRate m.fmt * lo / 32
  let g1 := min (macroRate m.fmt * hi) m.k / 32
  (List.range (g1 - g0)).foldl (fun acc n =>
    let g := g0 + n
    let sa := m.scaleA i (32 * g)
    let sb := m.scaleB (32 * g) j
    if sa = 0xFF ∨ sb = 0xFF then (acc.1, true)
    else
      let p := (List.range 32).foldl (fun (t : Int) q => t + intOf m.fmt (m.a i (32 * g + q)) * intOf m.fmt (m.b (32 * g + q) j)) 0
      (acc.1 + BitVec.ofInt 32 (shiftRne p ((sa : Int) + sb - zb)), acc.2)) start

/-- The active positions of a tile, in order. -/
def Tile.active (t : Tile) : List (Nat × Nat) :=
  (List.range (min 128 (t.rows.toNat + 1))).flatMap fun r => (List.range (min 128 (t.cols.toNat + 1))).map fun c => (r, c)

/-- The elements that a macro-op has accumulated before its next K-step: those of the tile as it starts, or of its last stop (R272, R425). -/
def MacroOp.soFar (m : MacroOp) (t : Tile) : List Landed :=
  if m.next = 0 then t.active.map fun rc => ⟨rc.1, rc.2, if m.ovw then 0#32 else t.elem rc.1 rc.2, false, false⟩ else m.partials

/-- The elements accumulated up to K-step `hi`. -/
def MacroOp.upTo (m : MacroOp) (t : Tile) (hi : Nat) : List Landed :=
  (m.soFar t).map fun l =>
    if t.i32 then
      let o := m.int l.row l.col t.zb.toNat m.next hi (l.val, l.nan)
      ⟨l.row, l.col, o.1, false, o.2⟩
    else
      let o := m.float l.row l.col m.next hi ⟨l.val.toNat, l.tiny⟩
      ⟨l.row, l.col, BitVec.ofNat 32 o.bits, o.tiny, false⟩

/-- What a macro-op computes from the tile as it starts (R425). -/
def MacroOp.results (m : MacroOp) (t : Tile) : List Landed := m.upTo t m.steps

/-- A macro-op with `left` issue counts to its landing stops at its next interruptible step, every 32 K-steps from its first (R272). Its last
K-steps take `window` counts each, the 16 counts of its latency beside them come first: DEDUCED (log entry 65). -/
def MacroOp.stop (m : MacroOp) (t : Tile) (left : Nat) : MacroOp :=
  let n := min m.steps (ceilDiv (m.steps - min m.steps (ceilDiv left m.window)) 32 * 32)
  if n ≤ m.next then m else { m with next := n, partials := m.upTo t n }

/-- Every macro-op in flight in a context stops at its next interruptible step (R265, R272). -/
def Ctx.stopMacros (x : Ctx) : Ctx :=
  { x with flight := x.flight.map fun f =>
      match f.what with
      | .macroOp m => { f with what := .macroOp (m.stop (m.start.getD (SMap.get {} x.z m.z)) (f.land + 1 - x.count)) }
      | _ => f }

end Sys2Proof.Machine
end

