-- ==== Sys2Proof/Machine/Ops.lean ====
section
/-! DEFINITION. The named operations that the meanings are built from: the parts of the module by number, memory as each die sees
it, translation, wait tokens, messages and the log, the end of a session, taking a trap and returning from one. -/

namespace Sys2Proof.Machine

/-! ### Parts by number (R117, R207) -/

/-- Sequencers of the module. The context of sequencer c stands at number c; a captured one at c + 2304 × n for some n ≥ 1, so that
its engine operations still find it while another gang runs on its sequencer (R273). -/
def numSeqs : Nat := 2304
/-- The core of a context. -/
def ctxCore (c : Nat) : Nat := c % numSeqs / 4
/-- The sequencer of a context. -/
def ctxSeq (c : Nat) : Nat := c % 4
/-- The cluster of a context, 0 to 287. -/
def ctxCluster (c : Nat) : Nat := c % numSeqs / 8
/-- The die of a context. -/
def ctxDie (c : Nat) : Nat := c % numSeqs / 576
/-- CORE (R242). -/
def coreWord (c : Nat) : W64 :=
  BitVec.ofNat 64 (ctxDie c * 1024 + ctxCluster c % 72 * 8 + ctxCore c % 2 * 4 + ctxSeq c)
/-- The die of a core. -/
def coreDie (k : Nat) : Nat := k / 144
/-- The die of a cluster. -/
def clusterDie (k : Nat) : Nat := k / 72

/-- The context on a sequencer, if one runs there. -/
def State.ctx (s : State) (c : Nat) : Option Ctx := SMap.get none s.ctxs c
/-- Put a context on a sequencer, or free it. -/
def State.setCtx (s : State) (c : Nat) (x : Option Ctx) : State := { s with ctxs := SMap.set none s.ctxs c x }
/-- Change a context that is there. -/
def State.modCtx (s : State) (c : Nat) (f : Ctx → Ctx) : State :=
  match s.ctx c with
  | some x => s.setCtx c (some (f x))
  | none => s
/-- A die. -/
def State.die (s : State) (d : Nat) : Die := SMap.get {} s.dies d
/-- Change a die. -/
def State.modDie (s : State) (d : Nat) (f : Die → Die) : State := { s with dies := SMap.modify {} s.dies d f }
/-- A core. -/
def State.core (s : State) (k : Nat) : Core := SMap.get {} s.cores k
/-- Change a core. -/
def State.modCore (s : State) (k : Nat) (f : Core → Core) : State := { s with cores := SMap.modify {} s.cores k f }
/-- A cluster. -/
def State.cluster (s : State) (k : Nat) : Cluster := SMap.get {} s.clusters k
/-- Change a cluster. -/
def State.modCluster (s : State) (k : Nat) (f : Cluster → Cluster) : State :=
  { s with clusters := SMap.modify {} s.clusters k f }
/-- A stage of a die. -/
def State.stage (s : State) (d n : Nat) : Stage := SMap.get {} (s.die d).stages n
/-- Change a stage of a die. -/
def State.modStage (s : State) (d n : Nat) (f : Stage → Stage) : State :=
  s.modDie d fun x => { x with stages := SMap.modify {} x.stages n f }
/-- A channel end (R82). -/
def State.chan (s : State) (n : Nat) : Chan := SMap.get {} s.chans n
/-- Change a channel end. -/
def State.modChan (s : State) (n : Nat) (f : Chan → Chan) : State := { s with chans := SMap.modify {} s.chans n f }
/-- The gang with an identity. -/
def State.gang (s : State) (g : Nat) : Option Gang := s.gangs.find? fun x => x.id == g
/-- Change the gang with an identity. -/
def State.modGang (s : State) (g : Nat) (f : Gang → Gang) : State :=
  { s with gangs := mapWhere (fun x => x.id == g) f s.gangs }
/-- Change the thermal sequencer. -/
def State.modThermal (s : State) (f : Thermal → Thermal) : State := { s with thermal := f s.thermal }

/-! ### Time and power (R1, R17, R21, R122 to R124) -/

/-- The timebase as programs and registers see it, a 64-bit counter (R1). -/
def State.ticks (s : State) : Nat := s.time % 2 ^ 64
/-- The timebase has reached a 64-bit time. -/
def State.timeReached (s : State) (t : Nat) : Bool := decide (t ≤ s.ticks)
/-- The compute dies are gated and their clock is stopped (R11, R21): no context and no engine starts or goes on. -/
def State.gatedOff (s : State) : Bool := s.thermal.state == .hold
/-- The thermal state leaves the activity state to the tolerance (R123). -/
def State.mayChoose (s : State) : Bool :=
  match s.thermal.state with
  | .coldReady => true | .run => true | .retreat => true | _ => false
/-- The module wakes (R122, R124). -/
def State.wakeUp (s : State) : State := if s.mayChoose then { s with act := 0#2, gated := 0#9, wokeAt := some s.time } else s

/-! ### The partition word (R221) -/

/-- CTX: the number of contexts of a partition word. -/
def partCtx (p : W64) : Nat := match bits p 1 0 with | 0 => 1 | 1 => 2 | _ => 4
/-- VREG: vector registers of each file. -/
def partVreg (p : W64) : Nat := 64 + 32 * bits p 7 4
/-- SCRATCH × 196,608: bytes of scratchpad (R223). -/
def partScratch (p : W64) : Nat := bits p 12 8 * 196608
/-- ACC × 65,536: bytes of accumulator store. -/
def partAcc (p : W64) : Nat := bits p 21 16 * 65536
/-- SPILL × 65,536: bytes of spill carve-out. -/
def partSpill (p : W64) : Nat := bits p 29 24 * 65536
/-- NZ: tiles of each context (R217). -/
def partTiles (p : W64) : Nat := bits p 21 16 / partCtx p
/-- Whether a partition word is valid (R222). -/
def partValid (p : W64) : Bool :=
  (bits p 63 30 == 0) && (bits p 23 22 == 0) && (bits p 15 13 == 0) && (bits p 3 2 == 0) &&
  (bits p 1 0 != 3) && decide (bits p 7 4 ≤ 8) && decide (1 ≤ bits p 12 8) && decide (bits p 12 8 ≤ 16) &&
  decide (12 ≤ bits p 21 16) && decide (bits p 21 16 ≤ 32) && decide (bits p 29 24 ≤ 48) &&
  (bits p 21 16 % partCtx p == 0) &&
  decide (partCtx p * 2 * partVreg p * 256 + partScratch p + partAcc p + partSpill p ≤ 3145728)

/-- The partition word in force for a context. -/
def State.part (s : State) (c : Nat) : W64 := (s.core (ctxCore c)).part

/-! ### Physical memory (R34, R39, R100) -/

/-- Whether two runs of bytes overlap. -/
def runsOverlap (a n b m : Nat) : Bool := decide (a < b + m) && decide (b < a + n)

/-- The first address of the host window. -/
def hostBase : Nat := 0x200000000000
/-- The first address of the hole. -/
def holeBase : Nat := 0x020000000000
/-- Whether a physical address lies in the hole (R34, R35). -/
def isHole (pa : Nat) : Bool := decide (holeBase ≤ pa) && decide (pa < hostBase)
/-- Whether a physical address lies in the host window (R34). -/
def isHost (pa : Nat) : Bool := decide (hostBase ≤ pa)
/-- The compute die bridged to the home cache die of an address (R39). -/
def homeDie (pa : Nat) : Nat := pa / 4096 % 8 / 2

/-- Bytes of global memory as a die sees them now (R253); the host window is host memory, never cached, and a read follows the posted
writes before it (R44, R100). -/
def State.readPhys (s : State) (d pa n : Nat) : List Byte :=
  if isHost pa then Mem.read (s.hostReqs.foldl (fun m r => Mem.write m r.addr r.data) s.hostMem) pa n
  else Mem.read (s.die d).view pa n

/-- VC[k] of a vector clock (R251). -/
def VClock.get (v : VClock) : Nat → Nat
  | 0 => v.d0 | 1 => v.d1 | 2 => v.d2 | _ => v.d3
/-- Set VC[k]. -/
def VClock.set (v : VClock) (k n : Nat) : VClock :=
  match k with
  | 0 => { v with d0 := n } | 1 => { v with d1 := n } | 2 => { v with d2 := n } | _ => { v with d3 := n }
/-- Whether every counter of `v` is at least that of `w`. -/
def VClock.covers (v w : VClock) : Bool :=
  decide (w.d0 ≤ v.d0) && decide (w.d1 ≤ v.d1) && decide (w.d2 ≤ v.d2) && decide (w.d3 ≤ v.d3)

/-- Whether a write covers a byte. -/
def GWrite.hits (w : GWrite) (a : Nat) : Bool :=
  decide (w.addr ≤ a) && decide (a < w.addr + w.data.length) && !w.skip.contains (a - w.addr)

/-- Memory after a write whose bytes `skip` are left as they are. -/
def writeParts (m : Mem) (pa : Nat) (data : List Byte) (skip : List Nat) : Mem :=
  if skip = [] then Mem.write m pa data
  else (data.zipIdx).foldl (fun (m : Mem) b => if skip.contains b.2 then m else m.setByte (pa + b.2) b.1) m
/-- Whether two writes overlap. -/
def GWrite.overlaps (w v : GWrite) : Bool :=
  decide (w.addr < v.addr + v.data.length) && decide (v.addr < w.addr + w.data.length)
/-- Applied at all four dies. -/
def GWrite.everywhere (w : GWrite) : Bool := [0, 1, 2, 3].all fun d => w.applied.contains d

/-- Forget the writes that order nothing any more: placed, applied everywhere, and with no overlapping write before them in coherence
order that is still to be applied somewhere. -/
def State.pruneWrites (s : State) : State :=
  { s with writes := s.writes.filter fun w =>
      !(w.everywhere && w.place.isSome &&
        s.writes.all fun v => v.everywhere && v.place.isSome || !v.overlaps w) }

/-- A write of a die to global memory (R251, LocalWrite): applied at the die now, with no place in coherence order yet (R252). -/
def State.writeGlobal (s : State) (d pa : Nat) (data : List Byte) (skip : List Nat := []) : State :=
  let vc := (s.die d).vc.set d ((s.die d).vc.get d + 1)
  let w : GWrite := ⟨s.nextWrite, d, vc, pa, data, none, [d], skip⟩
  let s := s.modDie d fun x => { x with vc := vc, view := writeParts x.view pa data skip }
  { s with writes := s.writes ++ [w], nextWrite := s.nextWrite + 1 }

/-- A posted write to host memory (R100). -/
def State.postHost (s : State) (d pa : Nat) (data : List Byte) : State :=
  { s with hostReqs := s.hostReqs ++ [⟨s.nextId, d, pa, data⟩], nextId := s.nextId + 1 }

/-- A write of a die to a physical address, device memory or host window. -/
def State.writePhys (s : State) (d pa : Nat) (data : List Byte) : State :=
  if isHost pa then s.postHost d pa data else s.writeGlobal d pa data

/-- Give a write the next place in coherence order (R252): its bytes become the newest of their elements. -/
def State.placeWrite (s : State) (id : Nat) : State :=
  match s.writes.find? fun w => w.id == id with
  | none => s
  | some w =>
    if w.place.isSome then s
    else
      { s with
        home := writeParts s.home w.addr w.data w.skip
        nextPlace := s.nextPlace + 1
        writes := mapWhere (fun v => v.id == id) (fun v => { v with place := some s.nextPlace }) s.writes }

/-- Insert into a rising list without repeats. -/
def insertAsc (n : Nat) : List Nat → List Nat
  | [] => [n]
  | m :: ms => if n < m then n :: m :: ms else if n = m then m :: ms else m :: insertAsc n ms

/-- A byte that a write may not change at a die: another write to it, later in coherence order, has been applied there. -/
def State.newerAt (s : State) (d : Nat) (w : GWrite) (a : Nat) : Bool :=
  s.writes.any fun v => v.id != w.id && v.applied.contains d && v.hits a &&
    (match v.place, w.place with | some m, some n => decide (n < m) | none, some _ => true | _, none => false)

/-- Apply a write at a die (R252). -/
def State.applyAt (s : State) (d : Nat) (w : GWrite) : State :=
  let view := (w.data.zipIdx).foldl (fun (m : Mem) b => if w.skip.contains b.2 || s.newerAt d w (w.addr + b.2) then m else m.setByte (w.addr + b.2) b.1) (s.die d).view
  let s := s.modDie d fun x => { x with view := view }
  { s with writes := mapWhere (fun v => v.id == w.id) (fun v => { v with applied := insertAsc d v.applied }) s.writes }

/-- A write that has its place at its home and has been applied nowhere, an atomic's (R254), is applied at its die as a write of the die. -/
def State.applyPlaced (s : State) (d id : Nat) : State :=
  let vc := (s.die d).vc.set d ((s.die d).vc.get d + 1)
  let s := s.modDie d fun x => { x with vc := vc }
  let s := { s with writes := mapWhere (fun v => v.id == id) (fun v => { v with clock := vc }) s.writes }
  match s.writes.find? fun v => v.id == id with
  | some w => s.applyAt d w
  | none => s

/-- Sectors whose every byte a set of runs writes lose their poison (R32). -/
def State.unpoison (s : State) (runs : List (Loc × Nat)) : State :=
  if s.poison.isEmpty then s
  else
    let hit := fun (a : Nat) => runs.any fun r => match r.1 with | .global pa => decide (pa ≤ a) && decide (a < pa + r.2) | _ => false
    { s with poison := s.poison.filter fun q => !(List.range 32).all fun b => hit (32 * q + b) }

/-- A write by the firmware, or by hardware that keeps copies at every die, outside the causal order: it stands at every die and at
the home at once (log entry 11). -/
def State.writeEverywhere (s : State) (pa : Nat) (data : List Byte) : State :=
  let s := { s with home := Mem.write s.home pa data }
  [0, 1, 2, 3].foldl (fun s d => s.modDie d fun x => { x with view := Mem.write x.view pa data }) s

/-! ### Local memories (R243, R217) -/

/-- The elements of a 64 KiB tile of a core's accumulator store (R217): those of the context on the sequencer that owns it, or what stands there
where the sequencer has none. -/
def State.accTile (s : State) (core t : Nat) : SMap W32 :=
  let nz := partTiles (s.core core).part
  match s.ctx (core * 4 + t / nz) with
  | some x => (SMap.get {} x.z (t % nz)).elems
  | none => SMap.get [] (s.core core).acc t

/-- Change the elements of a tile of a core's accumulator store. -/
def State.modAccTile (s : State) (core t : Nat) (f : SMap W32 → SMap W32) : State :=
  let nz := partTiles (s.core core).part
  let c := core * 4 + t / nz
  match s.ctx c with
  | some x => s.setCtx c (some { x with z := SMap.modify {} x.z (t % nz) fun tl => { tl with elems := f tl.elems } })
  | none => s.modCore core fun k => { k with acc := SMap.modify [] k.acc t f }

/-- One byte of a core's accumulator store (R217). -/
def State.accByte (s : State) (core off : Nat) : Byte :=
  BitVec.ofNat 8 ((SMap.get 0#32 (s.accTile core (off / 65536)) (off % 65536 / 4)).toNat / 256 ^ (off % 4))

/-- Write one byte of a core's accumulator store. -/
def State.setAccByte (s : State) (core off : Nat) (b : Byte) : State :=
  let sh := 8 * (off % 4)
  s.modAccTile core (off / 65536) fun m => SMap.modify 0#32 m (off % 65536 / 4) fun w => (w &&& ~~~(0xFF#32 <<< sh)) ||| (b.zeroExtend 32 <<< sh)

/-- The tiles of a context stay in its core's accumulator store as it leaves its sequencer (R217). -/
def State.storeTiles (s : State) (c : Nat) : State :=
  match s.ctx c with
  | none => s
  | some x =>
    let nz := partTiles (s.part c)
    s.modCore (ctxCore c) fun k =>
      { k with acc := (List.range nz).foldl (fun m z => SMap.set [] m (ctxSeq c * nz + z) (SMap.get {} x.z z).elems) k.acc }

/-- Bytes at a place, as an agent of a die reads them. Registers of space 0xF are not bytes of memory. -/
def State.readLoc (s : State) (d : Nat) (l : Loc) (n : Nat) : List Byte :=
  match l with
  | .global pa => s.readPhys d pa n
  | .spad k off => Mem.read (s.core k).spad off n
  | .sram k off => Mem.read (s.cluster k).sram off n
  | .acc k off => (List.range n).map fun i => s.accByte k (off + i)
  | .host a => Mem.read s.hostMem a n
  | .mmio _ => List.replicate n 0#8
  | .spill k off => Mem.read (s.core k).spill off n

/-- Write bytes at a place, as an agent of a die. -/
def State.writeLoc (s : State) (d : Nat) (l : Loc) (data : List Byte) : State :=
  match l with
  | .global pa => s.writePhys d pa data
  | .spad k off => s.modCore k fun x => { x with spad := Mem.write x.spad off data }
  | .sram k off => s.modCluster k fun x => { x with sram := Mem.write x.sram off data }
  | .acc k off => (data.foldl (fun (p : State × Nat) b => (p.1.setAccByte k p.2 b, p.2 + 1)) (s, off)).1
  | .host a => s.postHost d a data
  | .mmio _ => s
  | .spill k off => s.modCore k fun x => { x with spill := Mem.write x.spill off data }

/-- The place `n` bytes on. -/
def Loc.add (l : Loc) (n : Nat) : Loc :=
  match l with
  | .global pa => .global (pa + n)
  | .spad k off => .spad k (off + n)
  | .sram k off => .sram k (off + n)
  | .acc k off => .acc k (off + n)
  | .host a => .host (a + n)
  | .mmio off => .mmio (off + n)
  | .spill k off => .spill k (off + n)

/-! ### Free values -/

/-- A free value, and the state that has drawn it (log entry 2). -/
def State.draw (s : State) : W64 × State := (Config.freeWord s.freeCtr, { s with freeCtr := s.freeCtr + 1 })

/-! ### Translation (R279 to R282) -/

/-- TTROOT once an image is loaded (R284, R481). -/
def pageTables : Nat := 0x007F18000000

/-- Whether a session image is loaded, running or suspended. -/
def State.hasImage (s : State) : Bool := s.sess.state != .none

/-- TTROOT (R284). -/
def State.ttroot (s : State) : Nat := if s.hasImage then pageTables else 0

/-- The kinds of access (R281). -/
inductive Perm where
  | read | write | atomic | fetch
  deriving DecidableEq, Repr

/-- The result of a translation. -/
inductive Xlat where
  | ok (pa : Nat)
  | page
  | perm
  /-- A table entry on the way lies in a poisoned sector, at this physical address (R31, R32). -/
  | ecc (pa : Nat)
  deriving DecidableEq, Repr

/-- What a table walk finds. -/
inductive Walk where
  | entry (e : TlbEntry)
  | missing
  /-- A table entry that it reads is uncorrectable (R31, R32). -/
  | bad (pa : Nat)
  deriving DecidableEq, Repr

/-- The first poisoned sector that a run of device memory touches (R32). -/
def State.poisoned (s : State) (l : Loc) (n : Nat) : Option Nat :=
  match l with
  | .global pa => s.poison.find? fun q => runsOverlap (32 * q) 32 pa n
  | _ => none

/-- The address of the first poisoned sector that some runs of device memory, by address and length, touch (R31, R32). -/
def State.poisonIn (s : State) (runs : List (Nat × Nat)) : Option Nat :=
  runs.findSome? fun r => (s.poisoned (.global r.1) r.2).map (32 * ·)

/-- Read a table entry, an ordinary read at the walker's die (R282). -/
def State.readEntry (s : State) (d pa : Nat) : W64 := BitVec.ofNat 64 (leNat (s.readPhys d pa 8))

/-- The page sizes of the levels at which a leaf may stand (R279). -/
def levelSize : Nat → Nat
  | 1 => 0x10000
  | 2 => 0x200000
  | _ => 0x40000000

/-- One level of the walk (R279, R280): `lvl` counts down from 4. -/
def State.walkFrom (s : State) (d va : Nat) : Nat → Nat → Walk
  | 0, _ => .missing
  | lvl + 1, table =>
    let level := lvl + 1
    let idx := match level with
      | 4 => va / 0x8000000000 % 512
      | 3 => va / 0x40000000 % 512
      | 2 => va / 0x200000 % 512
      | _ => va / 0x10000 % 32
    if isHole (table + 8 * idx) then .missing
    else match s.poisoned (.global (table + 8 * idx)) 8 with
    | some q => .bad (32 * q)
    | none =>
      let e := s.readEntry d (table + 8 * idx)
      let addr := bits e 47 8 * 256
      if !bit e 0 || bits e 63 48 != 0 || bits e 7 6 != 0 then .missing
      else if bit e 1 then
        let size := levelSize level
        if level = 4 || addr % size != 0 || (decide (holeBase < addr + size) && decide (addr < hostBase)) then .missing
        else .entry ⟨va / size * size, size, addr, bit e 2, bit e 3, bit e 4, bit e 5⟩
      else if level = 1 then .missing
      else if addr % (if level = 2 then 256 else 4096) != 0 then .missing
      else s.walkFrom d va lvl addr

/-- A table walk from TTROOT. -/
def State.walk (s : State) (d va : Nat) : Walk :=
  if s.ttroot = 0 then .missing else s.walkFrom d va 4 s.ttroot

/-- Whether an entry translates an address. -/
def TlbEntry.holds (e : TlbEntry) (va : Nat) : Bool := decide (e.va ≤ va) && decide (va < e.va + e.size)

/-- What the shared TLB of a die, or else one of its walkers, answers to a miss (R282). -/
def State.dieLookup (s : State) (d va : Nat) : Walk :=
  match (s.die d).tlb.find? fun e => e.holds va with
  | some e => .entry e
  | none => s.walk d va

/-- The entry for an address: from the cluster's TLB, from the shared TLB of its die, or from a walk (R282). -/
def State.lookup (s : State) (cl va : Nat) : Walk :=
  match (s.cluster cl).tlb.find? fun e => e.holds va with
  | some e => .entry e
  | none => s.dieLookup (clusterDie cl) va

/-- The checks of R281 on an entry. -/
def TlbEntry.allows (e : TlbEntry) (sup : Bool) : Perm → Bool
  | .read => e.r && (sup || !e.sup)
  | .write => e.w && !e.x && (sup || !e.sup)
  | .atomic => e.r && e.w && !e.x && (sup || !e.sup)
  | .fetch => e.x && (sup || !e.sup)

/-- The answer of an entry to an access. -/
def xlatOf (e : Walk) (sup : Bool) (p : Perm) (va : Nat) : Xlat :=
  match e with
  | .missing => .page
  | .bad pa => .ecc pa
  | .entry e => if e.allows sup p then .ok (e.pa + (va - e.va)) else .perm

/-- Translate for a context or a Riffle unit of a cluster. -/
def State.translate (s : State) (cl : Nat) (sup : Bool) (p : Perm) (va : Nat) : Xlat :=
  xlatOf (s.lookup cl va) sup p va

/-- Translate for an engine of a die, which walks (R282; log entry 12). -/
def State.translateDie (s : State) (d : Nat) (sup : Bool) (p : Perm) (va : Nat) : Xlat :=
  xlatOf (s.walk d va) sup p va

/-- Entries of a cluster TLB, ways of a set of a shared TLB (R282), and entries of a layout unit (R283). -/
def tlbSize : Nat := 512
/-- Ways of a set of a die's shared TLB. -/
def sharedWays : Nat := 16
/-- Entries of a layout unit. -/
def layoutSize : Nat := 4096

/-- The set of a die's shared TLB that may hold a page (R282): 65,536 entries in 16 ways make 4,096 sets. -/
def tlbSet (e : TlbEntry) : Nat := Config.tlbSet (e.va / e.size) e.size % 4096

/-- An entry is used among the entries that compete for its places, most recently used first (R282: pseudo-LRU). Where all `cap` places are
taken the victim is any but the one used last, and a free value says which: the manual says no more of pseudo-LRU (log entry 12). -/
def useEntry (cap r : Nat) (rivals : List TlbEntry) (e : TlbEntry) : List TlbEntry :=
  let rest := rivals.filter fun f => f != e
  e :: (if rest.length < cap then rest else rest.eraseIdx (1 + r % (cap - 1)))

/-- The use of an entry takes the place of another: the next free value is drawn. -/
def State.drawFor (s : State) (cap : Nat) (rivals : List TlbEntry) (e : TlbEntry) : Nat × State :=
  if rivals.contains e ∨ rivals.length < cap then (0, s) else (s.draw.1.toNat, s.draw.2)

/-- An entry is used in the shared TLB of a die (R282). -/
def State.useShared (s : State) (d : Nat) (e : TlbEntry) : State :=
  let rivals := (s.die d).tlb.filter fun f => tlbSet f == tlbSet e
  let r := s.drawFor sharedWays rivals e
  r.2.modDie d fun x => { x with tlb := useEntry sharedWays r.1 rivals e ++ x.tlb.filter fun f => tlbSet f != tlbSet e }

/-- An entry is used in a cluster's TLB (R282). -/
def State.useCluster (s : State) (cl : Nat) (e : TlbEntry) : State :=
  let r := s.drawFor tlbSize (s.cluster cl).tlb e
  r.2.modCluster cl fun x => { x with tlb := useEntry tlbSize r.1 x.tlb e }

/-- The entry for an address is used in a cluster's TLB, which a miss fills through the shared TLB of the die (R282). -/
def State.fillTlb (s : State) (cl va : Nat) : State :=
  match (s.cluster cl).tlb.find? fun e => e.holds va with
  | some e => s.useCluster cl e
  | none =>
    match s.dieLookup (clusterDie cl) va with
    | .entry e => (s.useShared (clusterDie cl) e).useCluster cl e
    | _ => s

/-! ### Layout units (R39, R50, R283) -/

/-- The near stack of a physical address, or of the far stack behind it, or the cache die of an LP address (R36, R39). -/
def stackOf (pa : Nat) : Nat := pa / 4096 % 8

/-- The 2 MiB part of an entry that holds an address, as a layout unit keeps it (R283): one 2 MiB frame, a 64 KiB frame of the 32 that make a
region, or the 2 MiB part of a 1 GiB page. -/
def TlbEntry.region (e : TlbEntry) (va : Nat) : TlbEntry :=
  if e.size ≤ 0x200000 then e
  else { e with va := va / 0x200000 * 0x200000, size := 0x200000, pa := e.pa + (va / 0x200000 * 0x200000 - e.va) }

/-- The entry of a 2 MiB region in which a layout unit keeps a translation. -/
def TlbEntry.place (e : TlbEntry) : Nat := e.va / 0x200000

/-- The translation that a layout unit holds for an address which it serves: every unit receives every request, and a unit serves what lies in
its stack (R50, R283). -/
def State.unitEntry (s : State) (va : Nat) : Option TlbEntry :=
  (List.range 8).findSome? fun n =>
    (SMap.get [] s.layoutTlb n).find? fun e => e.holds va && stackOf (e.pa + (va - e.va)) == n

/-- The entry for an address of a handle request: from the layout unit that serves it, or from a walk at the die of the issuer (R283). -/
def State.layoutLookup (s : State) (d va : Nat) : Walk :=
  match s.unitEntry va with
  | some e => .entry e
  | none => s.walk d va

/-- Translate for a handle request of an issuer's die. -/
def State.translateLayout (s : State) (d : Nat) (sup : Bool) (p : Perm) (va : Nat) : Xlat :=
  xlatOf (s.layoutLookup d va) sup p va

/-- The regions of a list of translations, each once, in their order. -/
def regionsOf (l : List TlbEntry) : List Nat := l.foldl (fun rs e => if rs.contains e.place then rs else rs ++ [e.place]) []

/-- The layout unit that serves an address keeps its translation (R283): 4,096 regions, of which a full unit drops the one used longest ago,
DESIGN CHOICE (log entry 12). -/
def State.fillLayout (s : State) (d va : Nat) : State :=
  match s.layoutLookup d va with
  | .entry e =>
    let n := stackOf (e.pa + (va - e.va))
    let e := e.region va
    let l := e :: (SMap.get [] s.layoutTlb n).filter fun f => f != e
    let keep := (regionsOf l).take layoutSize
    { s with layoutTlb := SMap.set [] s.layoutTlb n (l.filter fun f => keep.contains f.place) }
  | _ => s

/-- Every cluster TLB, shared TLB and layout unit drops the entries that satisfy a test (R284). -/
def State.dropTlb (s : State) (p : TlbEntry → Bool) : State :=
  { s with
    clusters := SMap.mapVals {} (fun (k : Cluster) => { k with tlb := k.tlb.filter fun e => !p e }) s.clusters
    dies := SMap.mapVals {} (fun (d : Die) => { d with tlb := d.tlb.filter fun e => !p e }) s.dies
    layoutTlb := SMap.mapVals [] (fun (l : List TlbEntry) => l.filter fun e => !p e) s.layoutTlb }

/-! ### Start bits (R114, R313) -/

/-- Base of the start-bit store (R481). -/
def startBitBase : Nat := 0x007F14000000

/-- The 64 KiB physical pages that the CODE sections of the image occupy, ascending (R114). -/
def codePages (secs : List Section) : List Nat :=
  secs.foldl (fun ps x =>
    if x.kind = 1 then (List.range (ceilDiv x.size 65536)).foldl (fun ps i => insertAsc (x.paddr / 65536 + i) ps) ps else ps) []

/-- Place of the first element equal to `n`. -/
def indexOf (n : Nat) : List Nat → Option Nat
  | [] => none
  | m :: ms => if m = n then some 0 else (indexOf n ms).map (· + 1)

/-- Where the start bit of the word at a physical address stands: its byte in the start-bit store, and its bit (R114, R313). -/
def State.startPlace (s : State) (pa : Nat) : Option (Nat × Nat) :=
  (indexOf (pa / 65536) (codePages s.sess.sections)).map fun i => (startBitBase + 2048 * i + pa % 65536 / 32, pa % 65536 / 4 % 8)

/-- The poisoned sector in which the start bit of a word lies (R31, R32). -/
def State.startPoison (s : State) (pa : Nat) : Option Nat := (s.startPlace pa).bind fun p => s.poisonIn [(p.1, 1)]

/-- The start bit of the word at a physical address; 0 for a page that the store does not cover (R114), and for one that cannot be read,
DESIGN CHOICE (log entry 76). -/
def State.startBit (s : State) (pa : Nat) : Bool :=
  match s.startPlace pa with
  | none => false
  | some p => (s.poisonIn [(p.1, 1)]).isNone && Nat.testBit (Mem.byte s.home p.1).toNat p.2

/-! ### Messages and the log (R101, R107) -/

/-- Send a message out of the module. -/
def State.send (s : State) (o : Out) : State := { s with out := s.out ++ [o] }
/-- A port. -/
def State.port (s : State) (p : Nat) : Port := SMap.get {} s.ports p
/-- Change a port. -/
def State.modPort (s : State) (p : Nat) (f : Port → Port) : State := { s with ports := SMap.modify {} s.ports p f }
/-- The port of the host link. -/
def hostPort : Nat := 8
/-- Whether some places lie in host memory while the host's port is down: what reads them stays queued there until the port returns (R81). -/
def State.hostQueued (s : State) (ls : List Loc) : Bool :=
  !(s.port hostPort).up && ls.any fun l => match l with | .global pa => isHost pa | _ => false
/-- Send to the host, or keep it queued while the host's port is down (R81). -/
def State.sendHost (s : State) (o : Out) : State :=
  if (s.port hostPort).up then s.send o else s.modPort hostPort fun x => { x with queue := x.queue ++ [o] }
/-- Send an MSI-X message (R101). -/
def State.msix (s : State) (v : Nat) : State := s.sendHost (.msix v)

/-- Set bits of THEVT, with one message for the bits that were clear (R28, R101). -/
def State.setEvt (s : State) (b : Nat) : State :=
  let m : BitVec 8 := 1#8 <<< b
  if bit s.thermal.evt b then s
  else (s.modThermal fun t => { t with evt := t.evt ||| m }).msix 1

/-- A log entry (R107); vector 3 is sent for it (R101). -/
def State.addLog (s : State) (kind source code addr : Nat) : State :=
  let e : LogEntry := ⟨BitVec.ofNat 64 s.time, BitVec.ofNat 16 kind, BitVec.ofNat 16 source, BitVec.ofNat 32 code, BitVec.ofNat 64 addr⟩
  { s with log := (s.log ++ [e]).drop (s.log.length + 1 - 1024), logCount := s.logCount + 1 }.msix 3

/-- SOURCE of a log entry: class, place and die (R107). -/
def logSource (cls place die : Nat) : Nat := cls * 4096 + place * 16 + die

/-- An uncorrectable error is logged with its physical address and source, and counted (R28, R32, R33). -/
def State.logUE (s : State) (source pa : Nat) : State :=
  ((s.addLog 1 source 0x11 pa).modThermal fun t => { t with ue := if t.ue = 0xFFFF#16 then t.ue else t.ue + 1 }).setEvt 7

/-- A corrected error is counted; each multiple of 1,024 sets the event (R28, R31, R33). -/
def State.countCE (s : State) (dram : Bool) : State :=
  let n := if dram then s.thermal.dramce else s.thermal.sramce
  if n = 0xFFFF#16 then s
  else
    let s := s.modThermal fun t => if dram then { t with dramce := n + 1 } else { t with sramce := n + 1 }
    if (n.toNat + 1) % 1024 = 0 then s.setEvt 6 else s

/-- Put an event at the front of the schedule. -/
def State.soon (s : State) (i : Instr) : State := { s with agenda := ⟨0, i⟩ :: s.agenda }

/-! ### Wait tokens (R216, R264) -/

/-- Count of a token. -/
def Ctx.tokCount (x : Ctx) (k : Nat) : Nat := (SMap.get {} x.k k).count
/-- One more operation counts on a token. -/
def Ctx.tokUp (x : Ctx) (k : Nat) : Ctx := { x with k := SMap.modify {} x.k k fun t => { t with count := t.count + 1 } }
/-- One operation completes; the count never goes below zero. -/
def Ctx.tokDown (x : Ctx) (k : Nat) : Ctx := { x with k := SMap.modify {} x.k k fun t => { t with count := t.count - 1 } }
/-- An operation fails on uncorrectable data: the mark keeps the first address (R264). -/
def Ctx.tokMark (x : Ctx) (k pa : Nat) : Ctx :=
  { x with k := SMap.modify {} x.k k fun t => { t with mark := some (t.mark.getD pa) } }
/-- Clear the error mark of a token. -/
def Ctx.tokUnmark (x : Ctx) (k : Nat) : Ctx := { x with k := SMap.modify {} x.k k fun t => { t with mark := none } }

/-- A token clears, with the results written in the same action (R437). -/
def State.replyWith (s : State) (land : State → Dest → W64 → State) (c k : Nat) (ws : List (Dest × W64)) : State :=
  (ws.foldl (fun (s : State) w => land s w.1 w.2) s).modCtx c fun x => x.tokDown k

/-- The destination of an E operation by number: e register n, or latch n − 32 of the slot, beside 64 times the number of its result. -/
def eDestOf (n : Nat) : Dest := if n % 64 < 32 then .e (n % 64) else .latch 7 (n % 64 - 32)

/-- An engine operation of a context will write some registers as its token clears (R453). -/
def State.expect (s : State) (c : Nat) (ds : List Dest) : State :=
  s.modCtx c fun x => { x with results := x.results ++ [(⟨x.resultNo, ds, none⟩ : EResult)], resultNo := x.resultNo + 1 }

/-- The results of a list that may be written now, and those that may not: a result waits for its values, and for the earlier results to its
registers (R437). `held` are the registers that earlier results have still to write. -/
def dueResults (held : List Dest) : List EResult → List (Nat × List (Dest × W64)) × List EResult
  | [] => ([], [])
  | r :: rs =>
    match (if r.dests.any held.contains then none else r.answer) with
    | some a => (a :: (dueResults held rs).1, (dueResults held rs).2)
    | none => ((dueResults (held ++ r.dests) rs).1, r :: (dueResults (held ++ r.dests) rs).2)

/-- The lowest-numbered marked token of a mask, and its address (R357). -/
def Ctx.marked (x : Ctx) (mask : Nat) : Option (Nat × Nat) :=
  (List.range 8).findSome? fun k =>
    if Nat.testBit mask k then (SMap.get {} x.k k).mark.map fun a => (k, a) else none

/-! ### Registers -/

/-- Σ idx × stride of a register that a nest links (R355). -/
def LoopState.offset (l : LoopState) (n : Nat) : W64 :=
  match l.nest with
  | none => 0#64
  | some ns => ns.links.foldl (fun a k => if k.d = n then a + BitVec.ofNat 64 (ns.idx.getD k.level 0) * k.stride else a) 0#64

/-- What linked d registers read above their base: the running nest's offset, and that of the nest which a trap handler's snapshot
holds unchanged (R355, R356). -/
def Ctx.dOffset (x : Ctx) (n : Nat) : W64 :=
  x.loops.offset n + (match x.snap with | some sn => sn.loops.offset n | none => 0#64)

/-- A d register, as every operation reads it (R355). -/
def Ctx.dReg (x : Ctx) (n : Nat) : W64 := SMap.get 0#64 x.d n + x.dOffset n
/-- Write a d register: it reads as the value from now on (R355). -/
def Ctx.setD (x : Ctx) (n : Nat) (v : W64) : Ctx := { x with d := SMap.set 0#64 x.d n (v - x.dOffset n) }

/-- p12 to p15: the loop status of the iteration that is issuing (R215). -/
def LoopState.status (l : LoopState) (n : Nat) : Bool :=
  match l.nest with
  | none => false
  | some ns =>
    let first := fun (k : Nat) => ns.idx.getD k 0 == 0
    let last := fun (k : Nat) => ns.idx.getD k 0 + 1 == ns.cnt.getD k 1
    match n with
    | 12 => first 0
    | 13 => last 0
    | 14 => (List.range ns.cnt.length).all first
    | 15 => (List.range ns.cnt.length).all last
    | _ => false

/-- A predicate (R214, R215). -/
def Ctx.pred (x : Ctx) (n : Nat) : Mask :=
  if n = 0 then Mask.all
  else if n < 12 then SMap.get 0#64 x.p n
  else if x.loops.status n then Mask.all else 0#64

/-- Write the lanes `m` of a predicate; p0 and p12 to p15 ignore writes (R214). -/
def Ctx.setPred (x : Ctx) (n : Nat) (v m : Mask) : Ctx :=
  if 1 ≤ n ∧ n < 12 then { x with p := SMap.modify 0#64 x.p n fun o => (o &&& ~~~m) ||| (v &&& m) } else x

/-- The guard of a syllable, lane by lane (R314). -/
def Ctx.guard (x : Ctx) (g : Guard) : Mask :=
  let a := x.pred g.pa.toNat
  let b := x.pred g.pb.toNat
  let c := x.pred g.pc.toNat
  (List.range 8).foldl (fun m i =>
    if g.tt.getLsbD i then
      m ||| ((if Nat.testBit i 2 then a else ~~~a) &&& (if Nat.testBit i 1 then b else ~~~b) &&& (if Nat.testBit i 0 then c else ~~~c))
    else m) 0#64

/-- STATUS (R241). -/
def Ctx.status (x : Ctx) : W64 :=
  BitVec.ofNat 64 ((if x.subflag then 8 else 0) + (if x.brlost then 4 else 0) + (if x.latchlost then 2 else 0) + (if x.sup then 1 else 0))

/-- TCAUSE.NEST: a trap handler runs (R269). -/
def Ctx.inHandler (x : Ctx) : Bool := bit x.tcause 25

/-- TVEC of a die (R268). -/
def State.tvec (s : State) (d : Nat) : W64 := (s.die d).tvec

/-- MTS to a special register, as it lands (R377). -/
def State.writeSpecial (s : State) (c num : Nat) (v : W64) : State :=
  if 0x100 ≤ num ∧ num < 0x200 then s.modCtx c fun x => { x with c := SMap.set 0#32 x.c (num - 0x100) (v.truncate 32) }
  else match num with
    | 0x000 => s.modCtx c fun x =>
        { x with subflag := x.subflag && !bit v 3, brlost := x.brlost && !bit v 2, latchlost := x.latchlost && !bit v 1 }
    | 0x007 => s.modCtx c fun x => { x with ovfptr := v &&& 0x0000FFFFFFFFFF00#64 }
    | 0x010 => s.modDie (ctxDie c) fun d => { d with tvec := v &&& 0x0000FFFFFFFFF000#64 }
    | 0x011 => s.modCtx c fun x =>
        { x with tcause := (x.tcause &&& ~~~0xFD000000#64) ||| (v &&& 0xFD000000#64) }
    | 0x013 => s.modCtx c fun x => { x with tpc := v &&& 0x0000FFFFFFFFFFFF#64 }
    | _ => s

/-- A 64-bit result lands (R227). -/
def State.landScalar (s : State) (c : Nat) (d : Dest) (v : W64) : State :=
  match d with
  | .a n => s.modCtx c fun x => { x with a := SMap.set 0#64 x.a n v }
  | .b n => s.modCtx c fun x => { x with b := SMap.set 0#64 x.b n v }
  | .d n => s.modCtx c fun x => x.setD n v
  | .e n => s.modCtx c fun x => { x with e := SMap.set 0#64 x.e n v }
  | .m n => s.modCtx c fun x => { x with m := SMap.set 0#64 x.m n v }
  | .j n => s.modCtx c fun x => { x with j := SMap.set 0#64 x.j n v }
  | .latch sl n => s.modCtx c fun x => { x with q := SMap.set 0#64 x.q (8 * sl + n) v }
  | .const n => s.modCtx c fun x => { x with c := SMap.set 0#32 x.c n (v.truncate 32) }
  | .special num => s.writeSpecial c num v
  | .pred n => s.modCtx c fun x => x.setPred n v Mask.all
  | .vreg _ _ => s
  | .vlatch _ _ => s

/-- A token clears now, with its results. -/
def State.reply (s : State) (c k : Nat) (ws : List (Dest × W64)) : State := s.replyWith (fun s d v => s.landScalar c d v) c k ws

/-- The values of result `id` of a context are known: it is written and its token clears, in one action, once no earlier result to its registers
is outstanding (R437, R453). -/
def State.answerResult (s : State) (c id k : Nat) (ws : List (Dest × W64)) : State :=
  match s.ctx c with
  | none => s
  | some x =>
    if x.results.any fun r => r.id == id then
      let r := dueResults [] (mapWhere (fun (r : EResult) => r.id == id) (fun r => { r with answer := some (k, ws) }) x.results)
      r.1.foldl (fun (s : State) a => s.reply c a.1 a.2) (s.modCtx c fun x => { x with results := r.2 })
    else s.reply c k ws

/-- The answer to an engine operation whose destination has a number: its value, as its token clears (R453). -/
def State.replyTo (s : State) (c k d : Nat) (v : W64) : State := s.answerResult c (d / 64) k [(eDestOf d, v)]

/-- The answer to an operation that writes two registers (R463). -/
def State.replyPair (s : State) (c k d : Nat) (v w : W64) : State :=
  s.answerResult c (d / 64) k [(.e (d % 64), v), (.e (d % 64 + 1), w)]

/-- A vector register. -/
def Ctx.vec (x : Ctx) (w : Bool) (n : Nat) : Vec := SMap.get Vec.zero (if w then x.w else x.v) n
/-- A latch of a vector slot. -/
def Ctx.vlatch (x : Ctx) (w : Bool) (n : Nat) : Vec := SMap.get Vec.zero (if w then x.qw else x.qv) n

/-- The lanes `m` of a vector result land (R227, R382). -/
def Ctx.landVector (x : Ctx) (d : Dest) (v : Vec) (m : Mask) : Ctx :=
  match d with
  | .vreg w n =>
    if w then { x with w := SMap.modify Vec.zero x.w n (Vec.merge m v) } else { x with v := SMap.modify Vec.zero x.v n (Vec.merge m v) }
  | .vlatch w n =>
    if w then { x with qw := SMap.modify Vec.zero x.qw n (Vec.merge m v) } else { x with qv := SMap.modify Vec.zero x.qv n (Vec.merge m v) }
  | _ => x

/-- Every latch of every slot cleared, and LATCHLOST set: what a context switch does (R220, R233). -/
def Ctx.clearLatches (x : Ctx) : Ctx := { x with q := [], qv := [], qw := [], latchlost := true }

/-! ### The ready set (R231, R232) -/

/-- A context enters the ready set, as the youngest. -/
def State.insertReady (s : State) (c : Nat) : State :=
  { s.modCtx c fun x => { x with run := .ready, age := s.nextAge } with nextAge := s.nextAge + 1 }

/-- Whether a context's gang has been captured, or its fetch is frozen for that (R271, R273). -/
def State.isCaptured (s : State) (x : Ctx) : Bool :=
  match s.gang x.gang with
  | some g => g.captured || g.freezing.isSome
  | none => false

/-- Re-insert the contexts that wait for a reason (R231). -/
def State.wake (s : State) (p : Ctx → WaitWhy → Bool) : State :=
  s.ctxs.foldl (fun t kv =>
    match kv.2 with
    | some x => (match x.run with | .waiting w => if p x w then t.insertReady kv.1 else t | _ => t)
    | none => t) s

/-! ### Joins (R234, R237) -/

/-- The context of a member of a gang. -/
def Gang.ctxOf (g : Gang) (member : Nat) : Option Nat :=
  (g.members.find? fun m => m.2 == member).map (·.1)

/-- The partner of a context's unfinished join, if its own MJOIN has paired with it (R234). -/
def State.joinPartner (s : State) (c : Nat) : Option Nat :=
  match s.ctx c with
  | none => none
  | some x =>
    match x.join, s.gang x.gang with
    | some j, some g =>
      (match g.ctxOf j.partner with
      | none => none
      | some pc =>
        match s.ctx pc with
        | none => none
        | some y =>
          match y.join with
          | none => none
          | some k => if k.partner = x.member ∧ k.jn = j.jn ∧ k.h ≠ j.h ∧ k.i32 = j.i32 then some pc else none)
    | _, _ => none

/-- TRAPARG of JOIN_TIMEOUT and JOIN_ABORT (R270). -/
def joinArg (j : Join) : W64 := BitVec.ofNat 64 (j.jn % 16 + 256 * j.partner)

/-- A side of a join leaves it: its token clears and its tile is as it was (R236, R237). -/
def Ctx.dropJoin (x : Ctx) : Ctx :=
  match x.join with
  | none => x
  | some j => { x.tokDown j.token with join := none }

/-- A trap of a context aborts its unfinished join on both sides (R237): the other side raises JOIN_ABORT at its next bundle. The
second component is the JOIN_ABORT that the trapping side raises after its own RFT. -/
def State.abortJoin (s : State) (c : Nat) : State × List DueTrap :=
  match s.ctx c with
  | none => (s, [])
  | some x =>
    match x.join with
    | none => (s, [])
    | some j =>
      let s' : State := match s.joinPartner c with
        | none => s
        | some p => s.modCtx p fun y =>
            match y.join with
            | none => y
            | some k => { y.dropJoin with due := y.due ++ [(⟨0x0D, joinArg k, none⟩ : DueTrap)] }
      (s'.modCtx c Ctx.dropJoin, [⟨0x0D, joinArg j, none⟩])

/-! ### Host-window lines of the memory-side cache (R44) -/

/-- A request for a line of the host window is outstanding (R44): a posted write, or an element of an access still to be performed. -/
def State.hostBusy (s : State) (line : Nat) : Bool :=
  (s.hostReqs.any fun r => runsOverlap (128 * line) 128 r.addr r.data.length) ||
  s.accesses.any fun kv => match kv.2 with
    | some a => a.elems.any fun e => e.got.isNone && (match e.loc with | .global pa => runsOverlap (128 * line) 128 pa e.size | _ => false)
    | none => false

/-- The home die drops a host-window line once the last outstanding request to it has completed (R44). -/
def State.dropHostLines (s : State) : State := { s with llc := s.llc.filter fun kv => !isHost (128 * kv.1) || s.hostBusy kv.1 }

/-! ### The end of a session (R119) -/

/-- The gauge record bytes that hold ALLOC, with the bit cleared (R69, R70: records are freed at the end of the session). -/
def freeGauges (m : Mem) : Mem :=
  m.foldl (fun acc kv =>
    if gaugeBase ≤ kv.1 ∧ kv.1 < gaugeBase + 0x4000000 ∧ kv.1 % 256 = 0xA0 then acc.setByte kv.1 (kv.2 &&& 0xFE#8) else acc) m

/-- A line of the gauge pool, which is pinned permanently (R45). -/
def gaugeLine (line : Nat) : Bool := decide (gaugeBase ≤ 128 * line) && decide (128 * line < gaugeBase + 0x4000000)

/-- A write in flight that would set ALLOC again does not. -/
def GWrite.freeGauges (w : GWrite) : GWrite :=
  { w with data := (w.data.zipIdx).map fun b =>
      let a := w.addr + b.2
      if gaugeBase ≤ a ∧ a < gaugeBase + 0x4000000 ∧ a % 256 = 0xA0 then b.1 &&& 0xFE#8 else b.1 }

/-- Set the thermal state (R17, R25): STATECHG. -/
def State.setTherm (s : State) (t : TState) : State :=
  if s.thermal.state = t then s else (s.modThermal fun x => { x with state := t }).setEvt 1

/-- A die at the end of a session: jobs cancelled, stages back to reset, stashes gone, TVEC 0. -/
def Die.endSession (d : Die) : Die :=
  { d with
    view := freeGauges d.view, tvec := 0#64, stages := [], arrivals := [], jobs := []
    eddy := { d.eddy with stashes := [] }
    fq := { d.fq with waiting := [], entries := SMap.mapVals {} (fun e => { e with pend := false }) d.fq.entries } }

/-- The atomics that are placed and not yet applied are applied at their dies (R251: every write is), with no context left to wait. -/
def State.applyAtomics (s : State) : State :=
  (s.writes.filter fun w => w.applied.isEmpty).foldl (fun (s : State) w => s.applyPlaced w.die w.id) s

/-- The session ends (R119) with an ENDCAUSE. -/
def State.endSession (s : State) (cause : Nat) : State :=
  let s := s.applyAtomics
  let s := { s with
    home := freeGauges s.home
    writes := s.writes.map GWrite.freeGauges
    ctxs := [], gangs := [], accesses := []
    clusters := SMap.mapVals {} (fun k => { k with riffle := [] }) s.clusters
    dies := [0, 1, 2, 3].foldl (fun m d => SMap.modify {} m d Die.endSession) s.dies
    chans := SMap.mapVals {} (fun k => { k with recvs := [], timed := [], waiters := [], granted := [] }) s.chans
    oxEast := { s.oxEast with queue := [] }, oxWest := { s.oxWest with queue := [] }
    leases := [], llc := s.llc.foldl (fun (m : SMap LlcLine) (kv : Nat × LlcLine) => if gaugeLine kv.1 then m else SMap.set {} m kv.1 { kv.2 with pinned := false }) s.llc
    gaugeQ := [], seals := [], recReqs := [], writeWaits := [], barWaits := [], posts := [], succs := []
    sess := { s.sess with state := .loaded, endcause := BitVec.ofNat 8 cause } }
  let s := match s.thermal.state with
    | .run => s.setTherm .coldReady
    | .retreat => s.setTherm .coldReady
    | _ => s
  s.dropHostLines.msix 2

/-! ### The triggers of an evaluation (R144) -/

/-- A captured gang belongs to a step of a stage. -/
def State.holdsCaptured (s : State) (d n : Nat) : Bool :=
  s.gangs.any fun g => g.captured && g.die == d && (match g.step with | some (k, _) => k == n | none => false)

/-- A trigger of R144: the Weir evaluates the stage next, where it is enabled or has a captured gang. -/
def State.evalSoon (s : State) (d n : Nat) : State :=
  if (s.stage d n).enable || s.holdsCaptured d n then s.soon (.stageEvaluate d { stage := n }) else s

/-- A trigger for every stage of a die. -/
def State.weirSoon (s : State) (d : Nat) : State := [7, 6, 5, 4, 3, 2, 1, 0].foldl (fun s n => s.evalSoon d n) s

/-- A trigger for every stage of the module. -/
def State.weirsSoon (s : State) : State := [3, 2, 1, 0].foldl State.weirSoon s

/-- A stage that holds no queued and no launched step. -/
def Stage.quiet (g : Stage) : Bool :=
  g.fq.isEmpty && g.bq.isEmpty && g.wq.isEmpty && g.uq.isEmpty && g.frames.all fun kv => kv.2.isNone

/-- The session ends NORMAL (R119) once every context has executed DONE, no Weir holds a step and no engine has work. -/
def State.checkEnd (s : State) : State :=
  let engines := s.clusters.all fun kv => kv.2.riffle.all fun r => r.2.queue.isEmpty
  let dies := s.dies.all fun kv =>
    kv.2.arrivals.isEmpty && (kv.2.stages.all fun g => g.2.quiet) && kv.2.jobs.all fun j =>
      match j.state with | .queued => false | .waiting => false | .running => false | .suspended => false | _ => true
  if s.sess.state = .running ∧ s.ctxs.isEmpty ∧ engines ∧ dies ∧ s.chans.all (fun kv => kv.2.timed.isEmpty) ∧
      s.oxEast.queue.isEmpty ∧ s.oxWest.queue.isEmpty ∧ s.posts.isEmpty ∧ s.succs.isEmpty then s.endSession 1
  else s

/-! ### Taking a trap and returning from one (R262 to R267) -/

/-- A trap that a bundle raises: its code and argument, the slot that it belongs to (none for a join or fetch trap), the token whose
error mark trap entry clears, and the producing bundle of a matrix SUBNORM_ASSIST. -/
structure TrapReq where
  code : Nat
  arg : W64
  slot : Option Nat := none
  mark : Option Nat := none
  txpc : Option (BitVec 48) := none
  deriving DecidableEq, Repr

/-- TCAUSE at trap entry (R265, R269). -/
def trapCause (t : TrapReq) (repLeft : Nat) (psup : Bool) : W64 :=
  BitVec.ofNat 64 (repLeft % 64 * 2 ^ 26 + 2 ^ 25 + (if psup then 2 ^ 24 else 0) +
    (match t.slot with | none => 2 ^ 19 | some n => n % 8 * 2 ^ 16) + t.code % 256)

/-- The address of a trap's vector. -/
def State.trapVector (s : State) (c code : Nat) : Nat := (s.tvec (ctxDie c)).toNat + 64 * code

/-- Whether a trap can be delivered (R267): not inside a handler, with a vector base, to a word with a start bit. -/
def State.deliverable (s : State) (c : Nat) (x : Ctx) (code : Nat) : Bool :=
  !x.inHandler && s.tvec (ctxDie c) != 0#64 &&
  (match s.translate (ctxCluster c) true .fetch (s.trapVector c code) with
   | .ok pa => s.startBit pa
   | _ => false)

/-- A trap that cannot be delivered ends the session (R267). -/
def State.undeliverable (s : State) (c code : Nat) : State :=
  (s.addLog 3 (logSource 1 (ctxCluster c % 72) (ctxDie c)) code 0).endSession 4

/-- The clearing of a token is no result of the pipeline: a trap does not hold it back. -/
def Landing.isReply : Landing → Bool
  | .reply _ _ _ => true
  | _ => false

/-- The row pairs of an MREAD in flight are frozen while a handler runs, each with its remaining issue counts (R265, R267, R429). -/
def Stream.freeze (count : Nat) (t : Stream) : Stream :=
  if t.coming.isEmpty then t else { t with frozen := true, coming := t.coming.map fun p => (p.1 + 1 - count, p.2) }

/-- They go on arriving at the counts at which they would have arrived without the trap (R266). -/
def Stream.thaw (count : Nat) (t : Stream) : Stream :=
  if t.frozen then { t with frozen := false, coming := t.coming.map fun p => (p.1 + count - 1, p.2) } else t

/-- The context as trap entry leaves it (R265). `tpc` is the bundle that RFT resumes. -/
def Ctx.enterTrap (x : Ctx) (t : TrapReq) (tpc : BitVec 48) (repLeft : Nat) (due : List DueTrap) (vector : Nat) : Ctx :=
  let x := (match t.mark with
    | some k => x.tokUnmark k
    | none => x).stopMacros
  { x with
    snap := some
      { flights := (x.flight.filter fun f => !f.what.isReply).map fun f => { f with land := f.land - x.count + 1 }
        br := x.br, loops := x.loops, due := due, q := x.q, qv := x.qv, qw := x.qw }
    flight := x.flight.filter fun f => f.what.isReply
    f := SMap.mapVals {} (Stream.freeze x.count) x.f
    br := none, loops := {}, due := []
    tpc := tpc.zeroExtend 64
    tcause := trapCause t repLeft x.sup
    traparg := t.arg
    txpc := (t.txpc.getD tpc).zeroExtend 64
    sup := true
    pc := BitVec.ofNat 48 vector
    repLeft := none
    arrived := false }

/-- TakeTrap (R265): a context takes a trap at `tpc`, or the session ends where the trap cannot be delivered (R267). `keep` are the
traps that stay due. -/
def State.takeTrap (s : State) (c : Nat) (t : TrapReq) (tpc : BitVec 48) (repLeft : Nat) (keep : List DueTrap) : State :=
  match s.ctx c with
  | none => s
  | some x =>
    if s.deliverable c x t.code then
      let r := s.abortJoin c
      r.1.modCtx c fun x => x.enterTrap t tpc repLeft (keep ++ r.2) (s.trapVector c t.code)
    else s.undeliverable c t.code

/-- RFT (R266), once every result of the handler has landed: the interrupted code goes on at TPC, its results at the offsets at
which they would have landed, its latches as they stood (R220). -/
def Ctx.returnFromTrap (x : Ctx) : Ctx :=
  let x := { x with
    sup := bit x.tcause 24
    tcause := x.tcause &&& ~~~0x2000000#64
    pc := x.tpc.truncate 48
    repLeft := some (bits x.tcause 31 26)
    arrived := true
    flight := []
    f := SMap.mapVals {} (Stream.thaw x.count) x.f
    br := none }
  match x.snap with
  | none => { x with loops := {} }
  | some sn =>
    { x with
      flight := sn.flights.map fun f => { f with land := x.count + f.land - 1 }
      br := sn.br, loops := sn.loops, due := sn.due ++ x.due, q := sn.q, qv := sn.qv, qw := sn.qw, snap := none }

end Sys2Proof.Machine
end

