-- ==== Sys2Proof/Machine/Operands.lean ====
section
/-! DEFINITION. What an operation of a slot sees when its bundle issues, what it may answer, and every operand form: scalar fields and
latches (R325, R366), vector fields, constants and literals (R322, R323), stream registers (R166), engine registers (R451). -/

namespace Sys2Proof.Machine

/-- What one issue of one operation sees: the state before the bundle, its context, the bundle, its slot, its opcode, its guard and its
re-issue count (R315, R318). -/
structure Env where
  s : State
  c : Nat
  x : Ctx
  pc : BitVec 48
  /-- The address after the last word of the bundle. -/
  next : BitVec 48
  lits : List W32
  /-- REPEAT of the header. -/
  repeats : Nat
  slot : Slot
  op : Nat
  g : Mask
  n : Nat
  /-- The C slot of the bundle transfers with a true guard (R351). -/
  cTransfer : Bool
  /-- Stream registers from which V0 of the bundle takes a vector (R166). -/
  taken : List Nat

/-- What an operation answers: an effect with the token that it counts on, a trap, a stall, or a wait with what is done as the
context leaves the ready set (R231, R262). A stall that only the context's own matrix pipeline ends names the issue count at whose end
it does (R420, R429; log entry 15). -/
inductive SlotOut where
  | act (tok : Option Nat) (f : State → State)
  | trap (t : TrapReq)
  | stall (upto : Option Nat := Option.none)
  | wait (why : WaitWhy) (f : State → State)

/-- No effect at all (R314). -/
def SlotOut.none : SlotOut := .act Option.none id

/-- Lane 0 of the guard. -/
def Env.g0 (e : Env) : Bool := e.g.getLsbD 0

/-- A trap of this slot. -/
def Env.trap (e : Env) (code : Nat) (arg : W64) : SlotOut := .trap { code := code, arg := arg, slot := some e.slot.num }

/-- ILLEGAL_OPERAND with a field and its value (R270). -/
def Env.illegal (e : Env) (field value : Nat) : SlotOut :=
  e.trap 0x02 (BitVec.ofNat 64 (e.slot.num + 16 * field + 65536 * (value % 512)))

/-- ILLEGAL_OP of this slot (R270). -/
def Env.illegalOp (e : Env) : SlotOut := e.trap 0x01 (BitVec.ofNat 64 (e.slot.num + 65536 * e.op))

/-- PRIV, with the special register number if there is one (R270). -/
def Env.priv (e : Env) (num : Nat) : SlotOut :=
  e.trap 0x10 (BitVec.ofNat 64 (e.slot.num + 65536 * e.op + 2 ^ 32 * num))

/-- A field check: whether the field is bad, its number and its value. -/
structure Check where
  bad : Bool
  field : Nat
  value : Nat

/-- The bad check with the lowest field number (log entry 13). -/
def firstBad : List Check → Option Check
  | [] => none
  | c :: cs =>
    match firstBad cs with
    | some d => if c.bad && decide (c.field ≤ d.field) then some c else some d
    | none => if c.bad then some c else none

/-- An operation that takes its effect consumes what stands in some runs of device memory: where a sector of them is poisoned its bundle raises
ECC_UNCORRECTABLE, the last of its traps (R31, R32, R263). -/
def Env.clean (e : Env) (runs : List (Nat × Nat)) (k : SlotOut) : SlotOut :=
  match k, e.s.poisonIn runs with
  | .act _ _, some pa => e.trap 0x11 (BitVec.ofNat 64 pa)
  | o, _ => o

/-- With no bad field the operation goes on. -/
def Env.checked (e : Env) (cs : List Check) (k : SlotOut) : SlotOut :=
  match firstBad cs with
  | some c => e.illegal c.field c.value
  | none => k

/-- An operation whose guard is lane 0 (R314): nothing where it is false. -/
def Env.guarded (e : Env) (cs : List Check) (k : SlotOut) : SlotOut := if e.g0 then e.checked cs k else .none

/-- A supervisor operation: PRIV at user level, before every other check (R263). -/
def Env.guardedSup (e : Env) (cs : List Check) (k : SlotOut) : SlotOut :=
  if e.g0 then (if e.x.sup then e.checked cs k else e.priv 0) else .none

/-- A result that lands at the end of count `t + lat − 1` (R227). -/
def State.addFlight (s : State) (c lat : Nat) (w : Landing) : State :=
  s.modCtx c fun x => { x with flight := x.flight ++ [⟨x.count + lat - 1, w⟩] }

/-- An operation whose only effect is one exposed result. -/
def Env.result (e : Env) (lat : Nat) (w : Landing) : SlotOut := .act Option.none fun s => s.addFlight e.c lat w

/-! ### Scalar slots (R325, R366) -/

/-- A register of a scalar slot's own file. -/
def Ctx.sfile (x : Ctx) (sl : SSlot) (n : Nat) : W64 :=
  match sl with | .s0 => SMap.get 0#64 x.a n | .s1 => SMap.get 0#64 x.b n

/-- A latch of a slot (R219). -/
def Ctx.latch (x : Ctx) (slot n : Nat) : W64 := SMap.get 0#64 x.q (8 * slot + n)

/-- A source of a scalar slot: a latch where Q marks it. -/
def Env.sread (e : Env) (sl : SSlot) (lat : Bool) (n : BitVec 6) : W64 :=
  if lat then e.x.latch sl.slot.num (n.toNat % 8) else e.x.sfile sl n.toNat

/-- The destination of a scalar slot. -/
def sdest (sl : SSlot) (lat : Bool) (n : BitVec 6) : Dest :=
  if lat then .latch sl.slot.num (n.toNat % 8) else (match sl with | .s0 => .a n.toNat | .s1 => .b n.toNat)

/-- A field that names a latch must have its high three bits zero (R325). -/
def latchBad (lat : Bool) (n : BitVec 6) : Bool := lat && decide (8 ≤ n.toNat)

/-- The field checks of the register form: which of rd, rs1 and rs2 the operation uses (R366, R367). -/
def sregChecks (f : SReg) (rd rs1 rs2 : Bool) : List Check :=
  [ ⟨if rd then latchBad (f.q.getLsbD 2) f.rd else f.rd != 0#6, 0, f.rd.toNat⟩,
    ⟨if rs1 then latchBad (f.q.getLsbD 1) f.rs1 else f.rs1 != 0#6, 1, f.rs1.toNat⟩,
    ⟨if rs2 then latchBad (f.q.getLsbD 0) f.rs2 else f.rs2 != 0#6, 2, f.rs2.toNat⟩,
    ⟨(!rd && f.q.getLsbD 2) || (!rs1 && f.q.getLsbD 1) || (!rs2 && f.q.getLsbD 0), 3, f.q.toNat⟩,
    ⟨f.rest != 0#17, 6, f.rest.toNat⟩ ]

/-- The field checks of the immediate form; bit 0 of Q is ignored (R325). -/
def simmChecks (f : SImm) (rd rs1 : Bool) : List Check :=
  [ ⟨if rd then latchBad (f.q.getLsbD 2) f.rd else f.rd != 0#6, 0, f.rd.toNat⟩,
    ⟨if rs1 then latchBad (f.q.getLsbD 1) f.rs1 else f.rs1 != 0#6, 1, f.rs1.toNat⟩,
    ⟨(!rd && f.q.getLsbD 2) || (!rs1 && f.q.getLsbD 1), 3, f.q.toNat⟩,
    ⟨f.rest != 0#3, 6, f.rest.toNat⟩ ]

/-- rs1 of the register form. -/
def Env.rs1 (e : Env) (f : SReg) : W64 := e.sread f.slot (f.q.getLsbD 1) f.rs1
/-- rs2 of the register form. -/
def Env.rs2 (e : Env) (f : SReg) : W64 := e.sread f.slot (f.q.getLsbD 0) f.rs2
/-- rs1 of the immediate form. -/
def Env.irs1 (e : Env) (f : SImm) : W64 := e.sread f.slot (f.q.getLsbD 1) f.rs1
/-- rd of the immediate form, read as a source (INS, LIH). -/
def Env.ird (e : Env) (f : SImm) : W64 := e.sread f.slot (f.q.getLsbD 2) f.rd
/-- The destination of the register form. -/
def sregDest (f : SReg) : Dest := sdest f.slot (f.q.getLsbD 2) f.rd
/-- The destination of the immediate form. -/
def simmDest (f : SImm) : Dest := sdest f.slot (f.q.getLsbD 2) f.rd

/-! ### Vector slots (R322, R323, R380 to R383) -/

/-- V1, whose file is w. -/
def isW : VSlot → Bool
  | .v0 => false
  | .v1 => true

/-- VREG of the context's core. -/
def Env.vreg (e : Env) : Nat := partVreg (e.s.part e.c)

/-- A stepped register index (R318): fields 0 to 319 step, every other value stands. -/
def vStep (n step : Nat) (v : BitVec 9) : Nat := if v.toNat < 320 then v.toNat + n * step else v.toNat

/-- A vector source field that R322 reserves, or a register at or above VREG (R213, R318). -/
def Env.vsrcBad (e : Env) (step : Nat) (v : BitVec 9) : Bool :=
  if v.toNat < 320 then decide (e.vreg ≤ vStep e.n step v) else decide (336 < v.toNat)

/-- A vector destination field that R322 reserves, or a register at or above VREG. -/
def Env.vdestBad (e : Env) (step : Nat) (v : BitVec 9) : Bool :=
  if v.toNat < 320 then decide (e.vreg ≤ vStep e.n step v) else decide (327 < v.toNat)

/-- The stream register that a source field names. -/
def streamOf (v : BitVec 9) : Option Nat := if 328 ≤ v.toNat ∧ v.toNat ≤ 335 then some (v.toNat - 328) else none

/-- A vector source: register, latch, stream vector, zero (R322). -/
def Env.vsrc (e : Env) (w : Bool) (step : Nat) (v : BitVec 9) : Vec :=
  if v.toNat < 320 then e.x.vec w (vStep e.n step v)
  else if v.toNat < 328 then e.x.vlatch w (v.toNat - 320)
  else match streamOf v with
    | some k => (SMap.get {} e.x.f k).buf.getD (if e.taken.contains k then 1 else 0) Vec.zero
    | none => Vec.zero

/-- A vector destination: register or latch. -/
def vdest (w : Bool) (n step : Nat) (v : BitVec 9) : Dest :=
  if v.toNat < 320 then .vreg w (vStep n step v) else .vlatch w (v.toNat - 320)

/-- Operand 2 of the register form (R323). -/
def Env.op2 (e : Env) (f : VReg) : Vec :=
  match f.kind.toNat with
  | 0 => e.vsrc (isW f.slot) f.step.toNat f.op2
  | 1 => Vec.splat (SMap.get 0#32 e.x.c f.op2.toNat)
  | _ => Vec.splat (e.lits.getD f.op2.toNat 0#32)

/-- How an instruction uses its operand 2. -/
inductive Op2Use where
  /-- Any kind. -/
  | any
  /-- It must be the zero operand (kind 0, value 336). -/
  | zero
  /-- Kind 0: a vector. -/
  | vec
  /-- Kind 1, a table of eight constants. -/
  | table
  /-- It holds no operand; the instruction checks it itself. -/
  | own
  deriving DecidableEq, Repr

/-- How an instruction uses its vd. -/
inductive VdUse where
  | vec
  /-- A predicate pair in [2:0] (R383). -/
  | pair
  /-- It must be zero. -/
  | zero
  | own
  deriving DecidableEq, Repr

/-- The form of a vector instruction (R379 to R383, R401). -/
structure VForm where
  vd : VdUse := .vec
  /-- vs1 is a source; else it must be 336. -/
  vs1 : Bool := true
  op2 : Op2Use := .any
  types : List Nat
  variants : List Nat := [0]
  deriving DecidableEq, Repr

/-- The field checks of the register form, in the order of their numbers (R380). -/
def Env.vchecks (e : Env) (f : VReg) (m : VForm) : List Check :=
  let st := f.step.toNat
  let k := f.kind.toNat
  [ ⟨match m.vd with
      | .vec => e.vdestBad st f.vd
      | .pair => decide (5 < f.vd.toNat)
      | .zero => f.vd != 0#9
      | .own => false, 0, if m.vd = .vec then vStep e.n st f.vd else f.vd.toNat⟩,
    ⟨if m.vs1 then e.vsrcBad st f.vs1 else f.vs1 != 336#9, 1, vStep e.n st f.vs1⟩,
    ⟨match m.op2 with
      | .any => k == 3
      | .table => k != 1
      | .own => false
      | _ => k != 0, 2, k⟩,
    ⟨match m.op2 with
      | .any => (match k with
          | 0 => e.vsrcBad st f.op2
          | 1 => decide (256 ≤ f.op2.toNat)
          | _ => decide (4 ≤ f.op2.toNat) || decide (e.lits.length ≤ f.op2.toNat))
      | .zero => f.op2 != 336#9
      | .vec => e.vsrcBad st f.op2
      | .table => decide (256 ≤ f.op2.toNat) || f.op2.toNat % 8 != 0
      | .own => false, 3, if k = 0 then vStep e.n st f.op2 else f.op2.toNat⟩,
    ⟨!m.types.contains f.ty.toNat, 4, f.ty.toNat⟩,
    ⟨!m.variants.contains f.var.toNat, 6, f.var.toNat⟩ ]

/-- The stream registers that a vector instruction of this form reads, each once (R166). -/
def vStreams (f : VReg) (m : VForm) : List Nat :=
  let a := if m.vs1 then (streamOf f.vs1).toList else []
  let b := match m.op2 with
    | .any => if f.kind = 0#2 then (streamOf f.op2).toList else []
    | .vec => (streamOf f.op2).toList
    | _ => []
  if a = b then a else a ++ b

/-- A vector leaves a stream register; a register drained of its last vector is unbound (R166). -/
def Stream.pop (t : Stream) : Stream :=
  let buf := t.buf.drop 1
  if buf.isEmpty && t.ended && t.coming.isEmpty then { t with buf := [], ecc := [], bound := none, ended := false }
  else { t with buf := buf, ecc := t.ecc.drop 1 }

/-- An effect, after which the vectors that the instruction reads leave their stream registers (R166). -/
def Env.pops (e : Env) (ks : List Nat) (f : State → State) (s : State) : State :=
  (f s).modCtx e.c fun x => { x with f := ks.foldl (fun m n => SMap.modify {} m n Stream.pop) x.f }

/-- What the stream registers of an instruction answer (R166): ILLEGAL_OPERAND for one that is neither bound nor holds a vector, a
stall for one that has no vector for it yet, and ECC_UNCORRECTABLE for a vector whose data is uncorrectable (R31), which stays. `field` says which
field names a stream register (R380). -/
def Env.streamsThen (e : Env) (ks : List Nat) (field : Nat → Nat) (k : SlotOut) : SlotOut :=
  let need := fun (n : Nat) => if e.taken.contains n then 2 else 1
  let st := fun (n : Nat) => SMap.get {} e.x.f n
  match ks.find? fun n => (st n).bound.isNone && decide ((st n).buf.length < need n) with
  | some n => e.illegal (field n) (328 + n)
  | Option.none =>
  match ks.find? fun n => decide ((st n).buf.length < need n) with
  | some n => .stall (if (st n).bound = some .mread then (st n).coming.head?.map (·.1) else Option.none)
  | Option.none =>
    match k, ks.findSome? fun n => (st n).ecc.getD (need n - 1) Option.none with
    | .act _ _, some pa => e.trap 0x11 (BitVec.ofNat 64 pa)
    | .act t f, Option.none => .act t (e.pops ks f)
    | o, _ => o

/-- A vector instruction of the register form with an active lane: its checks, then its streams, then its effect. Nothing at all
happens with no active lane (R314, R402). -/
def Env.vguarded (e : Env) (f : VReg) (m : VForm) (more : List Check) (k : SlotOut) : SlotOut :=
  if e.g = 0#64 then .none
  else e.checked (e.vchecks f m ++ more)
    (e.streamsThen (vStreams f m) (fun n => if m.vs1 && streamOf f.vs1 == some n then 1 else 3) k)

/-- The lanes of the operands of a vector instruction: vs1, operand 2 and the old vd (R382). -/
structure VArgs where
  a : Vec
  b : Vec
  c : Vec

/-- The operands of the register form. -/
def Env.vargs (e : Env) (f : VReg) : VArgs :=
  { a := e.vsrc (isW f.slot) f.step.toNat f.vs1, b := e.op2 f
    c := e.vsrc (isW f.slot) f.step.toNat f.vd }

/-- The destination of the register form. -/
def Env.vdst (e : Env) (f : VReg) : Dest := vdest (isW f.slot) e.n f.step.toNat f.vd

/-- A vector result in the active lanes (R382). -/
def Env.vresult (e : Env) (f : VReg) (lat : Nat) (v : Vec) : SlotOut := e.result lat (.vector (e.vdst f) v e.g)

/-! ### Engine slot (R326, R451) -/

/-- A source of the E slot: a latch where Q marks it. -/
def Ctx.eSource (x : Ctx) (lat : Bool) (n : BitVec 5) : W64 :=
  if lat then x.latch 7 (n.toNat % 8) else SMap.get 0#64 x.e n.toNat
/-- A source of the E slot. -/
def Env.eread (e : Env) (lat : Bool) (n : BitVec 5) : W64 := e.x.eSource lat n
/-- es1. -/
def Env.es1 (e : Env) (f : EForm) : W64 := e.eread (f.q.getLsbD 1) f.es1
/-- es2. -/
def Env.es2 (e : Env) (f : EForm) : W64 := e.eread (f.q.getLsbD 0) f.es2
/-- e[n], by number. -/
def Ctx.eReg (x : Ctx) (n : Nat) : W64 := SMap.get 0#64 x.e n
/-- The destination of an E operation. -/
def eDest (f : EForm) : Dest := if f.q.getLsbD 2 then .latch 7 (f.ed.toNat % 8) else .e f.ed.toNat

end Sys2Proof.Machine
end

