-- ==== Sys2Proof/Machine/Flags.lean ====
section
/-! DEFINITION. The flag and format computations: the fields of FMT (R297), stochastic-rounding words (R302), the flush of tiny results
and STATUS.SUBFLAG (R300), condition codes (R342), and predicate pairs (R373, R387). -/

namespace Sys2Proof.Machine

/-- FMT.RND. -/
def fmtRnd (f : W64) : Nat := bits f 2 0
/-- FMT.SUB is ASSIST. -/
def fmtAssist (f : W64) : Bool := bit f 4
/-- FMT.SAT. -/
def fmtSat (f : W64) : Bool := bit f 5
/-- FMT.GMODE bit 8: gauge updates on. -/
def fmtGauge (f : W64) : Bool := bit f 8
/-- FMT.GMODE bit 9: TRAP. -/
def fmtTrap (f : W64) : Bool := bit f 9
/-- FMT.QFMT. -/
def fmtQfmt (f : W64) : Nat := bits f 15 12
/-- FMT.SRKEY. -/
def fmtSrkey (f : W64) : W32 := f.extractLsb' 32 32
/-- The values that QFMT may hold (R297). -/
def qfmtValid (n : Nat) : Bool := [2, 3, 4, 5, 6, 7, 10, 12].contains n

/-- SrWord() of a lane (R302). -/
def Ctx.srWord (x : Ctx) (w : Bool) (lane : Nat) : W32 :=
  let key := if w then fmtSrkey x.fmt ^^^ 0x80000000#32 else fmtSrkey x.fmt
  let seq := if w then x.srseq1 else x.srseq0
  vrngWord ((seq <<< 6) ||| BitVec.ofNat 32 (lane % 64)) key

/-- The rounding environment of a lane of a vector slot (R299). -/
def Ctx.rndEnv (x : Ctx) (w : Bool) (lane : Nat) : RndEnv := ⟨rndOf (fmtRnd x.fmt), fmtSat x.fmt, x.srWord w lane⟩

/-- The rounding environment of VRCP, VRSQ, VEXP2 and VLOG2, which round as RNE under SR (R308). -/
def Ctx.rndEnvSpecial (x : Ctx) : RndEnv :=
  let r := rndOf (fmtRnd x.fmt)
  ⟨if r = .sr then .rne else r, fmtSat x.fmt, 0#32⟩

/-- SRSEQ of a slot rises by one where the operation rounds under SR (R302). -/
def Ctx.advanceSr (x : Ctx) (w : Bool) : Ctx :=
  if rndOf (fmtRnd x.fmt) = .sr then
    (if w then { x with srseq1 := x.srseq1 + 1 } else { x with srseq0 := x.srseq0 + 1 })
  else x

/-- STATUS.SUBFLAG := 1 where a result was flushed (R300). -/
def Ctx.flagSub (x : Ctx) (tiny : Bool) : Ctx := if tiny then { x with subflag := true } else x

/-- The lanes of a rounded vector result: the lane values, and the mask of the lanes that Flush took. -/
structure RVec where
  val : Vec
  tiny : Mask

/-- Lane results computed once: each lane's bits, and whether it was flushed. -/
def RVec.of (g : Mask) (f : Nat → Rounded) (hold : Nat → W32) : RVec :=
  let l := (List.range 64).map fun i => if g.getLsbD i then f i else ⟨0, false⟩
  { val := Vec.ofLanes fun i => hold (l.getD i ⟨0, false⟩).bits
    tiny := Mask.ofFn fun i => (l.getD i ⟨0, false⟩).tiny }

/-- A rounded vector result (R299, R300, R382): SUBNORM_ASSIST with the lanes where FMT.SUB asks for it; else the result lands, SUBFLAG
is set where a lane was flushed, and SRSEQ rises where the operation draws words. -/
def Env.rounded (e : Env) (f : VSlot) (dst : Dest) (lat : Nat) (sr : Bool) (r : RVec) : SlotOut :=
  if fmtAssist e.x.fmt && r.tiny != 0#64 then e.trap 0x0A r.tiny
  else .act Option.none fun s =>
    (s.addFlight e.c lat (.vector dst r.val e.g)).modCtx e.c fun x =>
      (if sr then x.advanceSr (isW f) else x).flagSub (r.tiny != 0#64)

/-- The integer conditions of R342 on w-bit values; none for the reserved code 7. -/
def condInt (w cc x y : Nat) : Bool :=
  match cc with
  | 0 => x % 2 ^ w == y % 2 ^ w
  | 1 => x % 2 ^ w != y % 2 ^ w
  | 2 => decide (signedOf w x < signedOf w y)
  | 3 => decide (signedOf w y ≤ signedOf w x)
  | 4 => decide (x % 2 ^ w < y % 2 ^ w)
  | 5 => decide (y % 2 ^ w ≤ x % 2 ^ w)
  | 6 => (x &&& y) % 2 ^ w != 0
  | _ => false

/-- The floating-point conditions of R342. -/
def condFp (cc : Nat) (x y : XR) : Bool :=
  let nan := x == .nan || y == .nan
  match cc with
  | 0 => x.eq y
  | 1 => !x.eq y
  | 2 => x.lt y
  | 3 => x.lt y || x.eq y
  | 4 => y.lt x
  | 5 => y.lt x || x.eq y
  | 6 => nan
  | _ => !nan

/-- A predicate pair lands at the end of the issue (latency 1): the condition in the first, its complement in the second, in the lanes
`m` (R373, R387). -/
def Env.predPair (e : Env) (pair : Nat) (v m : Mask) : SlotOut :=
  .act Option.none fun s =>
    (s.addFlight e.c 1 (.predicate (2 * pair + 1) v m)).addFlight e.c 1 (.predicate (2 * pair + 2) (~~~v) m)

end Sys2Proof.Machine
end

