-- ==== Sys2Proof/Machine/Records.lean ====
section
/-! DEFINITION. Tensor records and gauge records as they lie in memory (file 03): their fields, the shard of each die, what a sector
contributes, the merge of four shards. -/

namespace Sys2Proof.Machine

/-! ### Tensor records (R60, R61) -/

/-- A tensor record (R61): its eight 64-bit words, lowest address first. -/
structure TRec where
  w0 : W64 := 0#64
  w1 : W64 := 0#64
  w2 : W64 := 0#64
  w3 : W64 := 0#64
  w4 : W64 := 0#64
  w5 : W64 := 0#64
  w6 : W64 := 0#64
  w7 : W64 := 0#64
  deriving DecidableEq, Repr

namespace TRec

/-- VALID. -/
def valid (r : TRec) : Bool := bit r.w0 63
/-- BASE. -/
def base (r : TRec) : Nat := bits r.w0 47 0
/-- E0 to E3. -/
def ext (r : TRec) : Nat → Nat
  | 0 => bits r.w1 31 0 | 1 => bits r.w1 63 32 | 2 => bits r.w2 31 0 | _ => bits r.w2 63 32
/-- TYPE. -/
def ty (r : TRec) : Nat := bits r.w3 3 0
/-- WIDTH. -/
def width (r : TRec) : Nat := bits r.w3 9 4
/-- LAYOUT: 0 ROWMAJOR, 1 TILE128, 2 MXBLK. -/
def layout (r : TRec) : Nat := bits r.w3 11 10
/-- SMODE: 0 none, 1 per-tensor, 2 MX. -/
def smode (r : TRec) : Nat := bits r.w3 13 12
/-- MXDIM. -/
def mxdim (r : TRec) : Nat := bits r.w3 15 14
/-- GMODE: 0 NONE, 1 UPDATE, 2 SAT, 3 TRAP. -/
def gmode (r : TRec) : Nat := bits r.w3 17 16
/-- TRANSP. -/
def transp (r : TRec) : Bool := bit r.w3 18
/-- NEAR. -/
def near (r : TRec) : Bool := bit r.w3 20
/-- FAR. -/
def far (r : TRec) : Bool := bit r.w3 21
/-- LP. -/
def lp (r : TRec) : Bool := bit r.w3 22
/-- SPLIT. -/
def split (r : TRec) : Bool := bit r.w3 23
/-- CODEC. -/
def codec (r : TRec) : Nat := bits r.w3 25 24
/-- CPAD. -/
def cpad (r : TRec) : Nat := bits r.w3 27 26
/-- GIDX. -/
def gidx (r : TRec) : Nat := bits r.w3 43 28
/-- PAD. -/
def pad (r : TRec) : Nat := bits r.w4 31 0
/-- SCBASE. -/
def scbase (r : TRec) : Nat := bits r.w5 47 0
/-- LPBASE. -/
def lpbase (r : TRec) : Nat := bits r.w6 47 0
/-- The words in order. -/
def words (r : TRec) : List W64 := [r.w0, r.w1, r.w2, r.w3, r.w4, r.w5, r.w6, r.w7]
/-- Reserved fields are zero, and LAYOUT, SMODE and CODEC hold no reserved value (R61). -/
def reservedOk (r : TRec) : Bool :=
  bits r.w0 62 48 == 0 && bits r.w3 63 44 == 0 && !bit r.w3 19 && bits r.w4 63 32 == 0 && bits r.w5 63 48 == 0 &&
  bits r.w6 63 48 == 0 && r.w7 == 0#64 && r.layout != 3 && r.smode != 3 && decide (r.codec ≤ 1)

end TRec

/-- The 64-bit word at the head of a list of bytes. -/
def wordOf (bs : List Byte) : W64 := BitVec.ofNat 64 (leNat (bs.take 8))

/-- A record from its 64 bytes. -/
def recOf (bs : List Byte) : TRec :=
  let w := fun (i : Nat) => wordOf (bs.drop (8 * i))
  ⟨w 0, w 1, w 2, w 3, w 4, w 5, w 6, w 7⟩

/-- The entry of a handle in a die's replica (R60). -/
def recAddr (d h : Nat) : Nat := 0x007F04000000 + 0x04000000 * d + 64 * h

/-- The 64 bytes of a handle's record in the replica of a die. -/
def State.recordBytes (s : State) (d h : Nat) : List Byte := s.readPhys d (recAddr d (h % 2 ^ 20)) 64

/-- The record of a handle as a die's engines read it (R60, R66). -/
def State.record (s : State) (d h : Nat) : TRec := recOf (s.readPhys d (recAddr d (h % 2 ^ 20)) 64)

/-! ### Gauge records (R68, R69) -/

/-- Address of shard d of record g (R68). -/
def shardAddr (d g : Nat) : Nat :=
  gaugeBase + g / 32 % 2048 * 32768 + (2 * d + g / 16 % 2) * 4096 + g % 16 * 256

/-- Min(a + b, 2^32 − 1) (R309). -/
def satAdd32 (a b : Nat) : Nat := min (a + b) (2 ^ 32 - 1)

/-- The part of global memory that a place names. -/
def Loc.runs (l : Loc) (n : Nat) : List (Nat × Nat) := match l with | .global pa => [(pa, n)] | _ => []

/-- A 32-bit field of a shard as it is applied at a die. -/
def State.gaugeField (s : State) (reader d g off : Nat) : Nat := leNat (s.readPhys reader (shardAddr d g + off) 4)

/-- SSCALE of the reader's own shard (R77). -/
def State.sscale (s : State) (d g : Nat) : Nat := s.gaugeField d d g 0x90
/-- PSCALE of the reader's own shard (R397). -/
def State.pscale (s : State) (d g : Nat) : Nat := s.gaugeField d d g 0x98

/-- A write that a die makes at the home of its bytes, in one action: it takes its place at once (R72, R254). The bytes of `skip` stay. Whole
sectors lose their poison (R32). -/
def State.writeHome (s : State) (d pa : Nat) (data : List Byte) (skip : List Nat := []) : State :=
  ((s.writeGlobal d pa data skip).placeWrite s.nextWrite).unpoison (if skip = [] then [(.global pa, data.length)] else [])

/-- A 32-bit field of a shard at its home. -/
def State.gaugeHome (s : State) (d g off : Nat) : Nat := leNat (Mem.read s.home (shardAddr d g + off) 4)

/-- A gauge path that finds uncorrectable data of a record logs it (R32). -/
def State.gaugeUE (s : State) (pa : Nat) : State := s.logUE (logSource 10 (pa / 4096 % 8) (homeDie pa)) pa

/-- The live non-finite count of a die's shard rises, in one atomic update (R78, R396). Where it cannot be read the update is lost and the error
logged, DESIGN CHOICE (log entry 76). -/
def State.addNonfinite (s : State) (d g n : Nat) : State :=
  match s.poisonIn [(shardAddr d g + 0x84, 4)] with
  | some pa => s.gaugeUE pa
  | none => s.writeHome d (shardAddr d g + 0x84) (toBytes 4 (satAdd32 (s.gaugeHome d g 0x84) n))

/-- One more element of a sector (R72); a zero is counted nowhere. -/
def Contribution.count (c : Contribution) (x : XR) : Contribution :=
  match x with
  | .num _ n d _ =>
    if n = 0 then c
    else { c with mx := max c.mx (absToF32Up x), h := SMap.modify 0 c.h (clampInt (expOf n d) (-16) 15 + 16).toNat (· + 1) }
  | _ => { c with nf := c.nf + 1 }

/-- The contribution of the elements of a sector. -/
def contribution (xs : List XR) : Contribution := xs.foldl Contribution.count {}

/-- Bytes 0x88 to 0x9F of a shard, its sealed fields, which an update leaves as they are. -/
def sealedBytes : List Nat := (List.range 24).map fun i => 0x88 + i

/-- What an update of a shard reads: its live fields and its flags. -/
def sectorReads (d g : Nat) : List (Nat × Nat) := [(shardAddr d g, 0x88), (shardAddr d g + 0xA0, 4)]

/-- The bytes from `off` on of the four shards of a record. -/
def shardReads (g off n : Nat) : List (Nat × Nat) := (List.range 4).map fun d => (shardAddr d g + off, n)

/-- A sector's contribution on a die's shard, as one atomic action (R72): the live fields, and SATHIST where a bin saturates. One that meets
uncorrectable data is lost, and the error logged, DESIGN CHOICE (log entry 76). -/
def State.gaugeSector (s : State) (d g : Nat) (c : Contribution) : State :=
  match s.poisonIn (sectorReads d g) with
  | some pa => s.gaugeUE pa
  | none =>
  let at' := s.gaugeHome d g
  let bins := (List.range 32).map fun b => (at' (4 * b), SMap.get 0 c.h b)
  let sat := bins.any fun p => decide (2 ^ 32 - 1 < p.1 + p.2)
  let live := (bins.flatMap fun p => toBytes 4 (satAdd32 p.1 p.2)) ++ toBytes 4 (max (at' 0x80) c.mx) ++
    toBytes 4 (satAdd32 (at' 0x84) c.nf)
  if sat then s.writeHome d (shardAddr d g) (live ++ List.replicate 24 0#8 ++ [BitVec.ofNat 8 (at' 0xA0 ||| 2)]) sealedBytes
  else s.writeHome d (shardAddr d g) live

/-- The live fields of a shard: LMAX, LNONF and the bins, and SATHIST. -/
structure Live where
  mx : Nat
  nf : Nat
  h : List Nat
  deriving DecidableEq, Repr

/-- The live fields read through `field d off`. -/
def liveOf (field : Nat → Nat) : Live := ⟨field 0x80, field 0x84, (List.range 32).map fun b => field (4 * b)⟩

/-- Merge(g) over the four shards (R74). -/
def mergeLive (ls : List Live) : Live :=
  { mx := ls.foldl (fun a l => max a l.mx) 0
    nf := ls.foldl (fun a l => satAdd32 a l.nf) 0
    h := (List.range 32).map fun b => ls.foldl (fun a l => satAdd32 a (l.h.getD b 0)) 0 }

/-- Elements that the layout of a record gives places to, pads of edge tiles included (R51, R64). -/
def TRec.slots (r : TRec) : Nat :=
  if r.layout = 1 then ceilDiv (r.ext 0) 128 * ceilDiv (r.ext 1) 128 * 16384 * (r.ext 2 * r.ext 3)
  else r.ext 0 * r.ext 1 * (r.ext 2 * r.ext 3)

/-- Bytes from BASE that the tensor covers; those of the high halves for SW. -/
def TRec.footprint (r : TRec) : Nat := ceilDiv (r.slots * r.width) 8

/-- Where ALLOC of a record stands in a die's own shard. -/
def allocRead (d g : Nat) : List (Nat × Nat) := [(shardAddr d g + 0xA0, 4)]

/-- ALLOC of a record (R69, R70), as a die sees its own shard. One that cannot be read is not taken for clear: who consumes the record reports the
error (R31; log entry 76). -/
def State.gaugeAlloc (s : State) (d g : Nat) : Bool := (s.poisonIn (allocRead d g)).isSome || Nat.testBit (s.gaugeField d d g 0xA0) 0

end Sys2Proof.Machine
end

