-- ==== Sys2Proof/Machine/Scalar.lean ====
section
/-! DEFINITION. The scalar-slot operations (file 16): what each computes, lane 0 of its guard deciding whether it acts (R367). -/

namespace Sys2Proof.Machine

/-- A register-form operation of rs1 and rs2 with one result (R366, R367). -/
def sBinary (lat : Nat) (op : W64 → W64 → W64) (f : SReg) (e : Env) : SlotOut :=
  e.guarded (sregChecks f true true true) (e.result lat (.scalar (sregDest f) (op (e.rs1 f) (e.rs2 f))))

/-- A register-form operation of rs1 alone. -/
def sUnary (op : W64 → W64) (f : SReg) (e : Env) : SlotOut :=
  e.guarded (sregChecks f true true false) (e.result 1 (.scalar (sregDest f) (op (e.rs1 f))))

/-- An immediate-form operation of rs1 and the immediate. -/
def sImmediate (op : W64 → BitVec 20 → W64) (f : SImm) (e : Env) : SlotOut :=
  e.guarded (simmChecks f true true) (e.result 1 (.scalar (simmDest f) (op (e.irs1 f) f.imm)))

/-! ### Results (R368 to R372) -/

/-- MULH: bits [127:64] of the signed product (R368). -/
def mulHigh (a b : W64) : W64 := BitVec.ofInt 64 ((a.toInt * b.toInt) / 2 ^ 64)
/-- MULHN: bits [127:64] of the unsigned product (R368). -/
def mulHighN (a b : W64) : W64 := BitVec.ofNat 64 (a.toNat * b.toNat / 2 ^ 64)
/-- DIV (R369). -/
def divSigned (a b : W64) : W64 :=
  if b = 0#64 then BitVec.allOnes 64 else BitVec.ofInt 64 (Int.tdiv a.toInt b.toInt)
/-- DIVN (R369). -/
def divUnsigned (a b : W64) : W64 :=
  if b = 0#64 then BitVec.allOnes 64 else BitVec.ofNat 64 (a.toNat / b.toNat)
/-- REM (R369). -/
def remSigned (a b : W64) : W64 :=
  if b = 0#64 then a else BitVec.ofInt 64 (Int.tmod a.toInt b.toInt)
/-- The shift count, rs2[5:0] (R370). -/
def shiftOf (b : W64) : Nat := bits b 5 0
/-- ROT: rotate right (R370). -/
def rotRight (a b : W64) : W64 := a.rotateRight (shiftOf b)
/-- CLZ (R370). -/
def countLeading (a : W64) : W64 := if a = 0#64 then 64#64 else BitVec.ofNat 64 (63 - Nat.log2 a.toNat)
/-- POPC (R370). -/
def popCount (a : W64) : W64 := BitVec.ofNat 64 ((List.range 64).countP fun i => a.getLsbD i)

/-- ADD (R368). -/
def evalAdd : SReg → Env → SlotOut := sBinary 1 fun a b => a + b
/-- SUB (R368). -/
def evalSub : SReg → Env → SlotOut := sBinary 1 fun a b => a - b
/-- ADDI (R368). -/
def evalAddi : SImm → Env → SlotOut := sImmediate fun a i => a + i.signExtend 64
/-- MUL (R368). -/
def evalMul : SReg → Env → SlotOut := sBinary 3 fun a b => a * b
/-- MULH (R368). -/
def evalMulh : SReg → Env → SlotOut := sBinary 3 mulHigh
/-- MULHN (R368). -/
def evalMulhn : SReg → Env → SlotOut := sBinary 3 mulHighN
/-- DIV (R369). -/
def evalDiv : SReg → Env → SlotOut := sBinary 24 divSigned
/-- DIVN (R369). -/
def evalDivn : SReg → Env → SlotOut := sBinary 24 divUnsigned
/-- REM (R369). -/
def evalRem : SReg → Env → SlotOut := sBinary 24 remSigned
/-- AND (R370). -/
def evalAnd : SReg → Env → SlotOut := sBinary 1 fun a b => a &&& b
/-- ANDI (R370). -/
def evalAndi : SImm → Env → SlotOut := sImmediate fun a i => a &&& i.zeroExtend 64
/-- OR (R370). -/
def evalOr : SReg → Env → SlotOut := sBinary 1 fun a b => a ||| b
/-- ORI (R370). -/
def evalOri : SImm → Env → SlotOut := sImmediate fun a i => a ||| i.zeroExtend 64
/-- XOR (R370). -/
def evalXor : SReg → Env → SlotOut := sBinary 1 fun a b => a ^^^ b
/-- XORI (R370). -/
def evalXori : SImm → Env → SlotOut := sImmediate fun a i => a ^^^ i.zeroExtend 64
/-- ANDN (R370). -/
def evalAndn : SReg → Env → SlotOut := sBinary 1 fun a b => a &&& ~~~b
/-- SHL (R370). -/
def evalShl : SReg → Env → SlotOut := sBinary 1 fun a b => a <<< shiftOf b
/-- SHR (R370). -/
def evalShr : SReg → Env → SlotOut := sBinary 1 fun a b => a >>> shiftOf b
/-- SAR (R370). -/
def evalSar : SReg → Env → SlotOut := sBinary 1 fun a b => a.sshiftRight (shiftOf b)
/-- ROT (R370). -/
def evalRot : SReg → Env → SlotOut := sBinary 1 rotRight
/-- CLZ (R370). -/
def evalClz : SReg → Env → SlotOut := sUnary countLeading
/-- POPC (R370). -/
def evalPopc : SReg → Env → SlotOut := sUnary popCount
/-- MIN (R370). -/
def evalMin : SReg → Env → SlotOut := sBinary 1 fun a b => if b.toInt < a.toInt then b else a
/-- MAX (R370). -/
def evalMax : SReg → Env → SlotOut := sBinary 1 fun a b => if a.toInt < b.toInt then b else a
/-- MINN (R370). -/
def evalMinn : SReg → Env → SlotOut := sBinary 1 fun a b => if b.toNat < a.toNat then b else a
/-- MAXN (R370). -/
def evalMaxn : SReg → Env → SlotOut := sBinary 1 fun a b => if a.toNat < b.toNat then b else a

/-- rs2 of SHADD and SEL: IMM[5:0], a latch where IMM[6] says so (R366). -/
def Env.immRs2 (e : Env) (f : SImm) : W64 := e.sread f.slot (f.imm.getLsbD 6) (f.imm.extractLsb' 0 6)
/-- The check of that field: with IMM[6] set, IMM[5:3] must be zero. -/
def immRs2Bad (f : SImm) : Bool := latchBad (f.imm.getLsbD 6) (f.imm.extractLsb' 0 6)

/-- SHADD (R371). -/
def evalShadd (f : SImm) (e : Env) : SlotOut :=
  e.guarded
    (simmChecks f true true ++ [⟨immRs2Bad f, 2, bits f.imm 5 0⟩, ⟨bits f.imm 19 13 != 0, 4, f.imm.toNat⟩])
    (e.result 1 (.scalar (simmDest f) ((e.irs1 f <<< bits f.imm 12 7) + e.immRs2 f)))

/-- The low w bits of a word. -/
def lowBits (w : Nat) (a : W64) : W64 := BitVec.ofNat 64 (a.toNat % 2 ^ w)

/-- EXT: a bit field, zero- or sign-extended (R371). -/
def extractField (a : W64) (lo w : Nat) (sx : Bool) : W64 :=
  if sx then BitVec.ofInt 64 (signedOf w (a >>> lo).toNat) else lowBits w (a >>> lo)

/-- EXT (R371). -/
def evalExt (f : SImm) (e : Env) : SlotOut :=
  let lo := bits f.imm 5 0
  let w := bits f.imm 11 6 + 1
  e.guarded
    (simmChecks f true true ++ [⟨bits f.imm 19 13 != 0 || decide (64 < lo + w), 4, f.imm.toNat⟩])
    (e.result 1 (.scalar (simmDest f) (extractField (e.irs1 f) lo w (f.imm.getLsbD 12))))

/-- INS: the low w bits of `a` at `lo` of `old` (R371). -/
def insertField (old a : W64) (lo w : Nat) : W64 :=
  let m := lowBits w (BitVec.allOnes 64) <<< lo
  (old &&& ~~~m) ||| ((a <<< lo) &&& m)

/-- INS (R371). -/
def evalIns (f : SImm) (e : Env) : SlotOut :=
  let lo := bits f.imm 5 0
  let w := bits f.imm 11 6 + 1
  e.guarded
    (simmChecks f true true ++ [⟨bits f.imm 19 12 != 0 || decide (64 < lo + w), 4, f.imm.toNat⟩])
    (e.result 1 (.scalar (simmDest f) (insertField (e.ird f) (e.irs1 f) lo w)))

/-- LI (R372). -/
def evalLi (f : SImm) (e : Env) : SlotOut :=
  e.guarded (simmChecks f true false) (e.result 1 (.scalar (simmDest f) (f.imm.signExtend 64)))

/-- LIH: v at quarter q of rd (R372). -/
def evalLih (f : SImm) (e : Env) : SlotOut :=
  e.guarded (simmChecks f true false ++ [⟨bits f.imm 19 18 != 0, 4, f.imm.toNat⟩])
    (e.result 1 (.scalar (simmDest f)
      (insertField (e.ird f) (BitVec.ofNat 64 (bits f.imm 15 0)) (16 * bits f.imm 17 16) 16)))

/-- LIL: v shifted to quarter q (R372). -/
def evalLil (f : SImm) (e : Env) : SlotOut :=
  e.guarded (simmChecks f true false ++ [⟨bits f.imm 19 18 != 0, 4, f.imm.toNat⟩])
    (e.result 1 (.scalar (simmDest f) (BitVec.ofNat 64 (bits f.imm 15 0) <<< (16 * bits f.imm 17 16))))

/-! ### Compares and selection (R373, R374) -/

/-- A condition in every lane. -/
def allLanes (b : Bool) : Mask := if b then Mask.all else 0#64

/-- The condition and predicate pair in rd (R373): codes 0 to 6, pairs 0 to 5. -/
def cmpBad (rd : BitVec 6) : Bool := decide (7 ≤ bits rd 5 3) || decide (6 ≤ bits rd 2 0)

/-- CMP (R373). -/
def evalCmp (f : SReg) (e : Env) : SlotOut :=
  e.guarded
    (⟨cmpBad f.rd, 0, f.rd.toNat⟩ ::
      [ ⟨latchBad (f.q.getLsbD 1) f.rs1, 1, f.rs1.toNat⟩, ⟨latchBad (f.q.getLsbD 0) f.rs2, 2, f.rs2.toNat⟩,
        ⟨f.q.getLsbD 2, 3, f.q.toNat⟩, ⟨f.rest != 0#17, 6, f.rest.toNat⟩ ])
    (e.predPair (bits f.rd 2 0) (allLanes (condInt 64 (bits f.rd 5 3) (e.rs1 f).toNat (e.rs2 f).toNat)) Mask.all)

/-- CMPI (R373): the immediate is sign-extended for every condition. -/
def evalCmpi (f : SImm) (e : Env) : SlotOut :=
  e.guarded
    (⟨cmpBad f.rd, 0, f.rd.toNat⟩ ::
      [ ⟨latchBad (f.q.getLsbD 1) f.rs1, 1, f.rs1.toNat⟩, ⟨f.q.getLsbD 2, 3, f.q.toNat⟩, ⟨f.rest != 0#3, 6, f.rest.toNat⟩ ])
    (e.predPair (bits f.rd 2 0)
      (allLanes (condInt 64 (bits f.rd 5 3) (e.irs1 f).toNat (f.imm.signExtend 64).toNat)) Mask.all)

/-- SEL (R374). -/
def evalSel (f : SImm) (e : Env) : SlotOut :=
  e.guarded
    (simmChecks f true true ++ [⟨immRs2Bad f, 2, bits f.imm 5 0⟩, ⟨bits f.imm 19 11 != 0, 4, f.imm.toNat⟩])
    (e.result 1 (.scalar (simmDest f)
      (if (e.x.pred (bits f.imm 10 7)).getLsbD 0 then e.irs1 f else e.immRs2 f)))

/-! ### Copies and special registers (R375 to R377) -/

/-- Registers of a scalar file, by the file codes of R375. -/
def fileSize : Nat → Nat
  | 0 => 64 | 1 => 64 | 2 => 32 | 3 => 32 | 4 => 16 | 5 => 4 | _ => 0

/-- A scalar register, by the file codes of R375. -/
def fileDest (file n : Nat) : Dest :=
  match file with
  | 0 => .a n | 1 => .b n | 2 => .d n | 3 => .e n | 4 => .m n | _ => .j n

/-- CPY (R375). -/
def evalCpy (f : SImm) (e : Env) : SlotOut :=
  let file := bits f.imm 19 16
  let lane := bits f.imm 15 10
  let bc := f.imm.getLsbD 9
  let r := bits f.imm 8 0
  let scalar := decide (file ≤ 5)
  let bad := if scalar then lane != 0 || bc || decide (fileSize file ≤ r)
    else decide (7 < file) || decide (e.vreg ≤ r) || (bc && lane != 0)
  e.guarded (simmChecks f false true ++ [⟨bad, 4, f.imm.toNat⟩])
    (if scalar then e.result 2 (.scalar (fileDest file r) (e.irs1 f))
     else e.result 2 (.vector (.vreg (file == 7) r) (Vec.splat ((e.irs1 f).truncate 32))
       (if bc then Mask.all else 1#64 <<< lane)))

/-- Special registers that are listed (R240, R268). -/
def specialListed (n : Nat) : Bool :=
  decide (n ≤ 0x009) || (decide (0x010 ≤ n) && decide (n ≤ 0x014)) || (decide (0x100 ≤ n) && decide (n ≤ 0x1FF))

/-- Special registers that MTS may write (R240, R377). -/
def specialWritable (n : Nat) : Bool :=
  n == 0x000 || n == 0x007 || n == 0x010 || n == 0x011 || n == 0x013 || (decide (0x100 ≤ n) && decide (n ≤ 0x1FF))

/-- The supervisor registers (R240): the whole range 0x010 to 0x01F. -/
def specialSup (n : Nat) : Bool := decide (0x010 ≤ n) && decide (n ≤ 0x01F)

/-- The value of a special register (R240, R376). -/
def Env.readSpecial (e : Env) (n : Nat) : W64 :=
  if 0x100 ≤ n then (SMap.get 0#32 e.x.c (n - 0x100)).zeroExtend 64
  else match n with
    | 0x000 => e.x.status
    | 0x001 => e.x.fmt
    | 0x002 => e.x.tcoord.zeroExtend 64
    | 0x003 => e.x.tag.zeroExtend 64
    | 0x004 => e.s.part e.c
    | 0x005 => coreWord e.c
    | 0x006 => (e.s.cluster (ctxCluster e.c)).winmode.zeroExtend 64
    | 0x007 => e.x.ovfptr
    | 0x008 => e.x.sptop.zeroExtend 64
    | 0x009 => BitVec.ofNat 64 e.s.time
    | 0x010 => e.s.tvec (ctxDie e.c)
    | 0x011 => e.x.tcause
    | 0x012 => e.x.traparg
    | 0x013 => e.x.tpc
    | _ => e.x.txpc

/-- A user-level access to a supervisor register is PRIV before any other check (R263, R376). -/
def Env.specialGuarded (e : Env) (f : SImm) (cs : List Check) (k : SlotOut) : SlotOut :=
  if e.g0 then
    (if specialSup (bits f.imm 11 0) && !e.x.sup then e.priv (bits f.imm 11 0) else e.checked cs k)
  else .none

/-- MFS (R376). -/
def evalMfs (f : SImm) (e : Env) : SlotOut :=
  let n := bits f.imm 11 0
  e.specialGuarded f (simmChecks f true false ++ [⟨bits f.imm 19 12 != 0 || !specialListed n, 4, f.imm.toNat⟩])
    (e.result 2 (.scalar (simmDest f) (e.readSpecial n)))

/-- MTS (R377). -/
def evalMts (f : SImm) (e : Env) : SlotOut :=
  let n := bits f.imm 11 0
  e.specialGuarded f
    (simmChecks f false true ++ [⟨bits f.imm 19 12 != 0 || !specialListed n || !specialWritable n, 4, f.imm.toNat⟩])
    (e.result 2 (.scalar (.special n) (e.irs1 f)))

/-! ### BRX in S1 (R378) -/

/-- A pending transfer replaces any earlier one (R349, R351). -/
def Ctx.setTransfer (x : Ctx) (target : BitVec 48) (link : Bool) : Ctx :=
  { x with br := some ⟨target, 4, link⟩ }

/-- BRX in S1 (R378): ILLEGAL_OP where the bundle repeats (R335, R351); discarded, with BRLOST, where the C slot transfers too. -/
def evalBrxS1 (f : SReg) (e : Env) : SlotOut :=
  if e.repeats ≠ 0 then e.illegalOp
  else
    let t := e.rs1 f
    e.guarded (sregChecks f false true false)
      (.act none fun s => s.modCtx e.c fun x =>
        if e.cTransfer then { x with brlost := true } else x.setTransfer (t.truncate 48) false)

end Sys2Proof.Machine
end

