-- ==== Sys2Proof/Machine/VectorArith.lean ====
section
/-! DEFINITION. The vector arithmetic operations (file 17): floating point, immediates, integers, compares and conversions. -/

namespace Sys2Proof.Machine

/-- The element of a type in a lane (R287). -/
def elemOf (ty : Nat) (x : W32) : Nat := x.toNat % 2 ^ laneWidth ty

/-- The value of a lane read as a type. -/
def laneValue (ty : Nat) (x : W32) : XR := valueOf ty (elemOf ty x)

/-- An integer result modulo 2^w, held as its type says (R287, R389). -/
def holdInt (ty : Nat) (r : Int) : W32 := holdLane ty (r % 2 ^ laneWidth ty).toNat

/-- Round to a floating-point type in a lane (R299), or to an integer type (R304). -/
def roundTo (env : RndEnv) (ty : Nat) (x : XR) : Rounded :=
  match fmtOf ty with
  | some f => f.round env false x
  | none => ⟨(toIntTy env ty x % 2 ^ laneWidth ty).toNat, false⟩

/-! ### Floating point (R384 to R388) -/

/-- An arithmetic operation: the exact value of a, b, c under "RDN is in force", rounded once (R384). -/
def vArith (op : Bool → XR → XR → XR → XR) (f : VReg) (e : Env) : SlotOut :=
  let ty := f.ty.toNat
  let v := e.vargs f
  let down := decide (fmtRnd e.x.fmt = 2)
  let val := laneValue ty
  e.vguarded f { types := [0, 1] } []
    (e.rounded f.slot (e.vdst f) 4 true
      (RVec.of e.g (fun i => roundTo (e.x.rndEnv (isW f.slot) i) ty (op down (val (v.a.lane i)) (val (v.b.lane i)) (val (v.c.lane i))))
        (holdLane ty)))

/-- VADD (R384). -/
def evalVadd : VReg → Env → SlotOut := vArith fun d a b _ => a.add d b
/-- VSUB (R384). -/
def evalVsub : VReg → Env → SlotOut := vArith fun d a b _ => a.add d b.negate
/-- VMUL (R384). -/
def evalVmul : VReg → Env → SlotOut := vArith fun _ a b _ => a.mul b
/-- VFMA (R384): vd is the multiplicand. -/
def evalVfma : VReg → Env → SlotOut := vArith fun d a b c => (a.mul c).add d b
/-- VFMS (R384). -/
def evalVfms : VReg → Env → SlotOut := vArith fun d a b c => (a.mul c).add d b.negate
/-- VMAC (R384). -/
def evalVmac : VReg → Env → SlotOut := vArith fun d a b c => c.add d (a.mul b)

/-- Lane results that are never rounded, in the active lanes. -/
def Env.vplain (e : Env) (f : VReg) (lat : Nat) (r : Nat → W32) : SlotOut :=
  e.vresult f lat (Vec.ofLanes fun i => if e.g.getLsbD i then r i else 0#32)

/-- The canonical NaN of a type (R289). -/
def nanOf (ty : Nat) : Nat := match fmtOf ty with | some f => f.nan | none => 0

/-- A result that copies an operand: a NaN becomes canonical (R289, R394). -/
def canonical (ty x : Nat) : Nat := if (fmtOf ty).isSome && valueOf ty x == .nan then nanOf ty else x

/-- The sign bit of a floating-point type's encoding. -/
def signBit (ty : Nat) : Nat := 2 ^ (laneWidth ty - 1)

/-- VMIN and VMAX (R385): the zero of the smaller sign is the smaller; a NaN yields to a number. -/
def pickFp (larger : Bool) (ty a b : Nat) : Nat :=
  let x := valueOf ty a
  let y := valueOf ty b
  match x, y with
  | .nan, .nan => nanOf ty
  | .nan, _ => b
  | _, .nan => a
  | _, _ =>
    let aSmall := x.lt y || (x.eq y && (x.neg? || !y.neg?))
    if aSmall != larger then a else b

/-- VMIN or VMAX (R385). -/
def vPick (larger : Bool) (f : VReg) (e : Env) : SlotOut :=
  let ty := f.ty.toNat
  let v := e.vargs f
  e.vguarded f { types := [0, 1] } []
    (e.vplain f 4 fun i => holdLane ty (pickFp larger ty (elemOf ty (v.a.lane i)) (elemOf ty (v.b.lane i))))

/-- VMIN (R385). -/
def evalVmin : VReg → Env → SlotOut := vPick false
/-- VMAX (R385). -/
def evalVmax : VReg → Env → SlotOut := vPick true

/-- VABS or VNEG (R385): the sign bit; a NaN becomes canonical. -/
def vSign (op : Nat → Nat → Nat) (f : VReg) (e : Env) : SlotOut :=
  let ty := f.ty.toNat
  let v := e.vargs f
  e.vguarded f { op2 := .zero, types := [0, 1] } []
    (e.vplain f 4 fun i =>
      let a := elemOf ty (v.a.lane i)
      holdLane ty (if valueOf ty a = .nan then nanOf ty else op (signBit ty) a))

/-- VABS (R385). -/
def evalVabs : VReg → Env → SlotOut := vSign fun sb a => a % sb
/-- VNEG (R385). -/
def evalVneg : VReg → Env → SlotOut := vSign fun sb a => a ^^^ sb

/-- VRCP, VRSQ, VEXP2, VLOG2 (R308, R386). -/
def vSpecial (fn : SpecialFn) (f : VReg) (e : Env) : SlotOut :=
  let v := e.vargs f
  e.vguarded f { op2 := .zero, types := [0] } []
    (e.rounded f.slot (e.vdst f) 12 false
      (RVec.of e.g (fun i => fF32.round e.x.rndEnvSpecial false (fn.eval (laneValue 0 (v.a.lane i)))) (holdLane 0)))

/-- VRCP (R308). -/
def evalVrcp : VReg → Env → SlotOut := vSpecial .rcp
/-- VRSQ (R308). -/
def evalVrsq : VReg → Env → SlotOut := vSpecial .rsq
/-- VEXP2 (R308). -/
def evalVexp2 : VReg → Env → SlotOut := vSpecial .exp2
/-- VLOG2 (R308). -/
def evalVlog2 : VReg → Env → SlotOut := vSpecial .log2

/-- The class of an encoding, as a bit number (R386). -/
def classOf (ty a : Nat) : Nat :=
  match fmtOf ty with
  | none => 8
  | some f =>
    let sub := a % 2 ^ (f.ebits + f.fbits) < 2 ^ f.fbits
    match f.value a with
    | .nan => 8
    | .inf neg => if neg then 0 else 7
    | .num neg n _ _ => if n = 0 then (if neg then 3 else 4) else if sub then (if neg then 2 else 5) else (if neg then 1 else 6)

/-- VCLASS (R386). -/
def evalVclass (f : VReg) (e : Env) : SlotOut :=
  let ty := f.ty.toNat
  let v := e.vargs f
  e.vguarded f { op2 := .zero, types := [0, 1, 2, 3, 4] } []
    (e.vplain f 4 fun i => 1#32 <<< classOf ty (elemOf ty (v.a.lane i)))

/-- A compare into a predicate pair, in the active lanes (R387, R393). -/
def vCompare (m : VForm) (cond : Nat → Nat → Nat → Bool) (f : VReg) (e : Env) : SlotOut :=
  let ty := f.ty.toNat
  let v := e.vargs f
  e.vguarded f m []
    (e.predPair f.vd.toNat
      (Mask.ofFn fun i => e.g.getLsbD i && cond ty (elemOf ty (v.a.lane i)) (elemOf ty (v.b.lane i))) e.g)

/-- VCMP (R387). -/
def evalVcmp (f : VReg) (e : Env) : SlotOut :=
  vCompare { vd := .pair, types := [0, 1, 2, 3], variants := [0, 1, 2, 3, 4, 5, 6, 7] }
    (fun ty a b => condFp f.var.toNat (valueOf ty a) (valueOf ty b)) f e

/-- The checks of the immediate form: only vd and vs1 can be bad (R388). -/
def Env.vimmChecks (e : Env) (f : VImm) : List Check :=
  [⟨e.vdestBad 0 f.vd, 0, f.vd.toNat⟩, ⟨e.vsrcBad 0 f.vs1, 1, f.vs1.toNat⟩]

/-- An immediate-form operation (R388). -/
def vImmediate (op : Bool → XR → XR → XR → XR) (f : VImm) (e : Env) : SlotOut :=
  let a := e.vsrc (isW f.slot) 0 f.vs1
  let c := e.vsrc (isW f.slot) 0 f.vd
  let m := laneValue 0 (f.imm ++ 0#12)
  let down := decide (fmtRnd e.x.fmt = 2)
  if e.g = 0#64 then .none
  else e.checked (e.vimmChecks f)
    (e.streamsThen (streamOf f.vs1).toList (fun _ => 1)
      (e.rounded f.slot (vdest (isW f.slot) e.n 0 f.vd) 4 true
        (RVec.of e.g (fun i => fF32.round (e.x.rndEnv (isW f.slot) i) false
          (op down (laneValue 0 (a.lane i)) m (laneValue 0 (c.lane i)))) (holdLane 0))))

/-- VADDI (R388). -/
def evalVaddi : VImm → Env → SlotOut := vImmediate fun d a m _ => a.add d m
/-- VMULI (R388). -/
def evalVmuli : VImm → Env → SlotOut := vImmediate fun _ a m _ => a.mul m
/-- VFMAI (R388). -/
def evalVfmai : VImm → Env → SlotOut := vImmediate fun d a m c => (a.mul c).add d m
/-- VMACI (R388). -/
def evalVmaci : VImm → Env → SlotOut := vImmediate fun d a m c => c.add d (a.mul m)

/-! ### Integers (R389 to R393) -/

/-- I32, N32, I16, N16, I8, N8 (R381). -/
def tyInt : List Nat := [8, 9, 10, 11, 12, 13]
/-- The same, and P12. -/
def tyIntP : List Nat := tyInt ++ [14]

/-- An integer operation on the elements of two lanes (R389). -/
def vInteger (types variants : List Nat) (op : Nat → Int → Int → W32) (f : VReg) (e : Env) : SlotOut :=
  let ty := f.ty.toNat
  let v := e.vargs f
  let val := fun (x : W32) => intOf ty (elemOf ty x)
  e.vguarded f { types := types, variants := variants } []
    (e.vplain f 2 fun i => op ty (val (v.a.lane i)) (val (v.b.lane i)))

/-- A wrapping operation. -/
def vWrap (op : Nat → Int → Int → Int) : VReg → Env → SlotOut := vInteger tyInt [0] fun ty a b => holdInt ty (op (laneWidth ty) a b)

/-- A bitwise operation on the elements. -/
def vBits (op : Nat → Nat → Nat → Nat) : VReg → Env → SlotOut :=
  vInteger tyInt [0] fun ty a b =>
    let w := laneWidth ty
    holdLane ty (op w (a % 2 ^ w).toNat (b % 2 ^ w).toNat)

/-- A clamping operation (R390). -/
def vClamp (types : List Nat) (op : Nat → Int → Int → Int) : VReg → Env → SlotOut :=
  vInteger types [0] fun ty a b => holdInt ty (clampInt (op (laneWidth ty) a b) (intRange ty).1 (intRange ty).2)

/-- VIADD (R389). -/
def evalViadd : VReg → Env → SlotOut := vWrap fun _ a b => a + b
/-- VISUB (R389). -/
def evalVisub : VReg → Env → SlotOut := vWrap fun _ a b => a - b
/-- VIMUL (R389). -/
def evalVimul : VReg → Env → SlotOut := vWrap fun _ a b => a * b
/-- VIMULH (R389). -/
def evalVimulh : VReg → Env → SlotOut := vWrap fun w a b => a * b / 2 ^ w
/-- VSHL (R389). -/
def evalVshl : VReg → Env → SlotOut := vBits fun w a b => a * 2 ^ (b % w)
/-- VSHR (R389). -/
def evalVshr : VReg → Env → SlotOut := vBits fun w a b => a / 2 ^ (b % w)
/-- VSAR (R389). -/
def evalVsar : VReg → Env → SlotOut := vBits fun w a b => (signedOf w a / 2 ^ (b % w) % 2 ^ w).toNat
/-- VAND (R389). -/
def evalVand : VReg → Env → SlotOut := vBits fun _ a b => a &&& b
/-- VOR (R389). -/
def evalVor : VReg → Env → SlotOut := vBits fun _ a b => a ||| b
/-- VXOR (R389). -/
def evalVxor : VReg → Env → SlotOut := vBits fun _ a b => a ^^^ b
/-- VANDN (R389). -/
def evalVandn : VReg → Env → SlotOut := vBits fun w a b => a &&& (b ^^^ (2 ^ w - 1))
/-- VIMIN (R389). -/
def evalVimin : VReg → Env → SlotOut := vInteger tyIntP [0] fun ty a b => holdInt ty (min a b)
/-- VIMAX (R389). -/
def evalVimax : VReg → Env → SlotOut := vInteger tyIntP [0] fun ty a b => holdInt ty (max a b)
/-- VADDS (R390). -/
def evalVadds : VReg → Env → SlotOut := vClamp tyIntP fun _ a b => a + b
/-- VSUBS (R390). -/
def evalVsubs : VReg → Env → SlotOut := vClamp tyIntP fun _ a b => a - b
/-- VQMULS (R391). -/
def evalVqmuls : VReg → Env → SlotOut := vClamp [8, 10, 12] fun w a b => (a * b + 2 ^ (w - 2)) / 2 ^ (w - 1)
/-- VABSD (R390): held unsigned. -/
def evalVabsd : VReg → Env → SlotOut := vInteger tyIntP [0] fun _ a b => BitVec.ofNat 32 (a - b).natAbs
/-- VAVG (R390): variant 1 truncates. -/
def evalVavg (f : VReg) (e : Env) : SlotOut :=
  vInteger tyIntP [0, 1] (fun ty a b => holdInt ty ((a + b + (if f.var = 1#3 then 0 else 1)) / 2)) f e

/-- Piece j of a packed lane (R392). -/
def piece (w : Nat) (signed : Bool) (x : W32) (j : Nat) : Int :=
  let p := x.toNat / 2 ^ (w * j) % 2 ^ w
  if signed then signedOf w p else p

/-- VDOT4 of one lane (R392). -/
def dot4 (ty : Nat) (sat uns : Bool) (a b c : W32) : W32 :=
  let w := laneWidth ty
  let sg := isSignedTy ty
  let s := (List.range (32 / w)).foldl (fun (t : Int) j => t + piece w sg a j * piece w (sg && !uns) b j) 0
  let acc : Int := (if sg then c.toInt else c.toNat) + s
  if sat then (if sg then BitVec.ofInt 32 (clampInt acc (-(2 ^ 31)) (2 ^ 31 - 1)) else BitVec.ofInt 32 (clampInt acc 0 (2 ^ 32 - 1)))
  else BitVec.ofInt 32 acc

/-- VDOT4 (R392): latency 4. -/
def evalVdot4 (f : VReg) (e : Env) : SlotOut :=
  let ty := f.ty.toNat
  let v := e.vargs f
  e.vguarded f { types := [10, 11, 12, 13], variants := [0, 1, 2, 3] } [⟨f.var.getLsbD 1 && !isSignedTy ty, 6, f.var.toNat⟩]
    (e.vplain f 4 fun i => dot4 ty (f.var.getLsbD 0) (f.var.getLsbD 1) (v.a.lane i) (v.b.lane i) (v.c.lane i))

/-- VSAD of one lane (R392). -/
def sad (ty : Nat) (a b c : W32) : W32 :=
  let w := laneWidth ty
  BitVec.ofNat 32 ((List.range (32 / w)).foldl (fun t j => t + (piece w false a j - piece w false b j).natAbs) c.toNat)

/-- VSAD (R392). -/
def evalVsad (f : VReg) (e : Env) : SlotOut :=
  let ty := f.ty.toNat
  let v := e.vargs f
  e.vguarded f { types := [11, 13] } [] (e.vplain f 2 fun i => sad ty (v.a.lane i) (v.b.lane i) (v.c.lane i))

/-- VICMP (R393). -/
def evalVicmp (f : VReg) (e : Env) : SlotOut :=
  vCompare { vd := .pair, types := tyInt, variants := [0, 1, 2, 3, 4, 5, 6] }
    (fun ty a b => condInt (laneWidth ty) f.var.toNat a b) f e

/-! ### Conversions (R394 to R399) -/

/-- A signed or unsigned integer type, or P12 as N16, whose width a conversion compares (R305, R394). -/
def cvtWidth (ty : Nat) : Nat := if ty = 14 then 16 else laneWidth ty

/-- An integer to another integer type (R305, R394). Where the widths agree and FMT.SAT is 1, the manual states no result for a value
that the target cannot hold: the free word (log entry 14). -/
def cvtInt (sat : Bool) (src dst x : Nat) (free : W32) : W32 :=
  let v := intOf src x
  let lo := (intRange dst).1
  let hi := (intRange dst).2
  if dst = 14 then (if sat then holdInt dst (clampInt v lo hi) else holdInt dst v)
  else if cvtWidth src < cvtWidth dst then holdInt dst v
  else if cvtWidth dst < cvtWidth src then (if sat then holdInt dst (clampInt v lo hi) else holdInt dst v)
  else if !sat || (decide (lo ≤ v) && decide (v ≤ hi)) then holdInt dst v
  else holdLane dst free.toNat

/-- Types that VCVT takes (R381). -/
def tyCvt : List Nat := [0, 1, 2, 3, 4, 8, 9, 10, 11, 12, 13, 14]

/-- The free word of a lane of this slot's operation (log entry 2): each slot and lane has its own draw. -/
def Env.freeLane (e : Env) (i : Nat) : W32 := (Config.freeWord (e.s.freeCtr + 64 * e.slot.num + i)).truncate 32

/-- The draws of one bundle are past. -/
def State.spendFree (s : State) : State := { s with freeCtr := s.freeCtr + 512 }

/-- VCVT (R394). B16 to F32 is exact: a value below the normal numbers stays as it is, whatever FMT.SUB holds, DEDUCED (log entry 83): R300 flushes
what is rounded. -/
def evalVcvt (f : VReg) (e : Env) : SlotOut :=
  let dst := f.ty.toNat
  let src := f.op2.toNat
  let v := e.vargs f
  let float := (fmtOf src).isSome || (fmtOf dst).isSome
  e.vguarded f { op2 := .own, types := tyCvt } [⟨f.kind != 0#2, 2, f.kind.toNat⟩, ⟨!tyCvt.contains src, 3, src⟩]
    (if src = dst then
       e.vplain f 3 fun i => holdLane dst (canonical dst (elemOf src (v.a.lane i)))
     else if src = 1 ∧ dst = 0 then
       e.vplain f 3 fun i => holdLane dst (canonical dst (elemOf src (v.a.lane i) * 65536))
     else if float then
       e.rounded f.slot (e.vdst f) 3 true
         (RVec.of e.g (fun i => roundTo (e.x.rndEnv (isW f.slot) i) dst (laneValue src (v.a.lane i))) (holdLane dst))
     else
       match e.vplain f 3 fun i => cvtInt (fmtSat e.x.fmt) src dst (elemOf src (v.a.lane i)) (e.freeLane i) with
       | .act t k => .act t fun s => (k s).spendFree
       | o => o)

/-- Targets of the tensor and scalar forms (R395). -/
def tyQuant : List Nat := [2, 3, 4, 10, 12]
/-- Targets of the block form. -/
def tyMx : List Nat := [4, 5, 6, 7]

/-- The handle word of a tensor form: bits [31:20] must be zero, and the record valid with SMODE 1 (R395). -/
def Env.tensorChecks (e : Env) (f : VReg) (tensor : Bool) : List Check :=
  let w := (e.op2 f).lane 0
  let r := e.s.record (ctxDie e.c) (bits w 19 0)
  [⟨tensor && bits w 31 20 != 0, 3, f.op2.toNat⟩,
   ⟨tensor && bits w 31 20 == 0 && !(r.valid && r.smode == 1), 7, bits w 19 0⟩]

/-- What a tensor form reads: the record of the handle, and the scales of the die's own shard (R396). -/
def tensorReads (d h g : Nat) : List (Nat × Nat) := [(recAddr d h, 64), (shardAddr d g + 0x90, 12)]

/-- The overflow test of one lane (R78, R395). -/
def quantOvf (ty : Nat) (x s : XR) : Bool :=
  x.nonFinite || (x.mul s).nonFinite || (maxFinite ty).lt (x.mul s).abs

/-- What an overflowing lane yields under SAT (R78). -/
def quantSat (ty : Nat) (x : XR) : Nat :=
  if x = .nan then nanOf ty
  else match fmtOf ty with
    | some f => f.signed x.neg? f.maxPat
    | none => (((if x.neg? then -1 else 1) * (intRange ty).2) % 2 ^ laneWidth ty).toNat

/-- VQNT (R395, R396). -/
def evalVqnt (f : VReg) (e : Env) : SlotOut :=
  let byFmt := f.var.getLsbD 0
  let block := f.var.getLsbD 2
  let ty := if byFmt then fmtQfmt e.x.fmt else f.ty.toNat
  let src := if f.var.getLsbD 1 then 1 else 0
  let tensor := f.kind == 1#2 || f.kind == 2#2
  let v := e.vargs f
  let d := ctxDie e.c
  let w := isW f.slot
  let h := bits (v.b.lane 0) 19 0
  let r := e.s.record d h
  let x := fun (i : Nat) => laneValue src (v.a.lane i)
  let fixed := fF32.value (e.s.sscale d r.gidx)
  let scale := fun (i : Nat) => if tensor then fixed else laneValue 0 (v.b.lane i)
  let ovf := Mask.ofFn fun i => e.g.getLsbD i && quantOvf ty (x i) (scale i)
  let trap := if tensor && decide (2 ≤ r.gmode) then r.gmode == 3 else fmtTrap e.x.fmt
  e.vguarded f { types := List.range 16, variants := List.range 8 }
    ([⟨block && f.kind != 0#2, 2, f.kind.toNat⟩,
      ⟨(byFmt && f.ty != 0#4) || !(if block then tyMx else tyQuant).contains ty, 4, f.ty.toNat⟩] ++
      e.tensorChecks f (tensor && !block))
    (e.clean (if tensor && !block then tensorReads d h r.gidx else []) <| if block then
       e.rounded f.slot (e.vdst f) 3 true
         (RVec.of e.g (fun i => ⟨mxQuant (e.x.rndEnv w i) ty (x i) (bits (v.b.lane i) 7 0), false⟩) (holdLane ty))
     else if trap && ovf != 0#64 then e.trap 0x09 ovf
     else
       match e.rounded f.slot (e.vdst f) 3 true
         (RVec.of e.g (fun i => if ovf.getLsbD i then ⟨quantSat ty (x i), false⟩
            else roundTo (e.x.rndEnv w i) ty ((x i).mul (scale i))) (holdLane ty)) with
       | .act t k => .act t fun s =>
           if tensor && ovf != 0#64 then (k s).addNonfinite d r.gidx (Mask.lanes ovf).length else k s
       | o => o)

/-- VDQNT (R397). -/
def evalVdqnt (f : VReg) (e : Env) : SlotOut :=
  let prev := f.var.getLsbD 0
  let block := f.var.getLsbD 2
  let ty := f.ty.toNat
  let dst := if f.var.getLsbD 1 then 1 else 0
  let tensor := f.kind == 1#2 || f.kind == 2#2
  let v := e.vargs f
  let d := ctxDie e.c
  let r := e.s.record d (bits (v.b.lane 0) 19 0)
  let fixed := fF32.value (if prev then e.s.pscale d r.gidx else e.s.sscale d r.gidx)
  let scale := fun (i : Nat) => if tensor then fixed else laneValue 0 (v.b.lane i)
  e.vguarded f { types := if block then tyMx else tyQuant, variants := List.range 8 }
    ([⟨block && f.kind != 0#2, 2, f.kind.toNat⟩, ⟨prev && !(tensor && !block), 6, f.var.toNat⟩] ++
      e.tensorChecks f (tensor && !block))
    (e.clean (if tensor && !block then tensorReads d (bits (v.b.lane 0) 19 0) r.gidx else []) <| e.rounded f.slot (e.vdst f) 3 true
      (RVec.of e.g (fun i =>
          let q := elemOf ty (v.a.lane i)
          roundTo (e.x.rndEnv (isW f.slot) i) dst
            (if block then mxValue ty q (bits (v.b.lane i) 7 0) else (valueOf ty q).div (scale i)))
        (holdLane dst)))

/-- The largest magnitude of a list of values; NaN where one is not finite (R398). -/
def maxMagnitude (xs : List XR) : XR :=
  xs.foldl (fun a x => if a == .nan || x.nonFinite then .nan else if a.lt x.abs then x.abs else a) (.num false 0 1 false)

/-- VMXS (R398). -/
def evalVmxs (f : VReg) (e : Env) : SlotOut :=
  let ty := f.ty.toNat
  let src := if f.var.getLsbD 1 then 1 else 0
  let v := e.vargs f
  let block := fun (b : Nat) =>
    let ls := (Mask.lanes e.g).filter fun i => i / 32 == b
    BitVec.ofNat 32 (mxScale ty (maxMagnitude (ls.map fun i => laneValue src (v.a.lane i))))
  let b0 := block 0
  let b1 := block 1
  e.vguarded f { op2 := .zero, types := tyMx, variants := [0, 2] } [] (e.vplain f 3 fun i => if i < 32 then b0 else b1)

/-- VSPLIT (R399). -/
def evalVsplit (f : VReg) (e : Env) : SlotOut :=
  let v := e.vargs f
  e.vguarded f { op2 := .zero, types := [15], variants := [0, 1] } []
    (e.vplain f 3 fun i =>
      BitVec.ofNat 32 (if f.var = 1#3 then bits (v.a.lane i) 15 0 else bits (v.a.lane i) 31 16))

/-- VJOIN (R399). -/
def evalVjoin (f : VReg) (e : Env) : SlotOut :=
  let v := e.vargs f
  e.vguarded f { types := [15] } []
    (e.vplain f 3 fun i => (v.a.lane i).extractLsb' 0 16 ++ (v.b.lane i).extractLsb' 0 16)

end Sys2Proof.Machine
end

