-- ==== Sys2Proof/Machine/Matrix.lean ====
section
/-! DEFINITION. The matrix-slot operations (file 19): descriptors, bank groups, busy tiles, and what each operation answers. What a
macro-op computes when it lands stands in Machine/Landing.lean. -/

namespace Sys2Proof.Machine

/-! ### Descriptors and spans (R421, R424) -/

/-- A byte offset of the scratchpad as an address of space 0x8; one below zero wraps. -/
def spadAddr (o : Int) : W64 := 0x8000000000000000#64 + BitVec.ofInt 64 (o % 2 ^ 60)

/-- Where row 0 starts: OFFSET + 32 × n × STEP (R421). -/
def descBase (m : W64) (n : Nat) : Int := (bits m 21 0 : Int) + 32 * n * signedOf 16 (bits m 63 48)
/-- PITCH. -/
def descPitch (m : W64) : Nat := bits m 31 22

/-- Contents that a descriptor may not hold (R421); MSTAT does not check PITCH (R431). -/
def descBad (m : W64) (pitch : Bool) : Bool := bits m 47 32 != 0 || (pitch && descPitch m == 0)

/-- A span: its rows, each `width` bytes, 32 × PITCH apart. -/
structure Span where
  lo : Int
  pitch : Nat
  rows : Nat
  width : Nat
  deriving DecidableEq, Repr

/-- The first byte after the last row. -/
def Span.hi (p : Span) : Int := p.lo + 32 * (p.rows - 1 : Nat) * p.pitch + p.width

/-- A quarter of the scratchpad (R224). -/
def groupSize (part : W64) : Nat := bits part 12 8 * 49152

/-- Whether a span lies in the scratchpad (R223). -/
def Span.inside (p : Span) (part : W64) : Bool := decide (0 ≤ p.lo) && decide (p.hi ≤ partScratch part)

/-- The bank group of a span's first byte. -/
def Span.group (p : Span) (part : W64) : Nat := (p.lo / groupSize part).toNat

/-- Whether a span that lies inside spans two groups. -/
def Span.crosses (p : Span) (part : W64) : Bool := p.inside part && p.lo / groupSize part != (p.hi - 1) / groupSize part

/-- The rows of a span, as they stand in the scratchpad. -/
def Span.read (p : Span) (m : Mem) : List (List Byte) :=
  (List.range p.rows).map fun i => Mem.read m (p.lo.toNat + 32 * i * p.pitch) p.width

/-! ### Busy tiles and groups (R225, R239, R420) -/

/-- The macro-ops of a list of flights that name a tile, with their landing counts. -/
def macrosOn (fs : List Flight) (z : Nat) : List Nat :=
  fs.filterMap fun f => match f.what with | .macroOp m => if m.z = z then some f.land else none | _ => none

/-- The landing count of the last macro-op in flight on a tile. -/
def Ctx.busyUpto (x : Ctx) (z : Nat) : Option Nat :=
  match macrosOn x.flight z with
  | [] => none
  | n :: ns => some (ns.foldl max n)

/-- A trap has frozen a macro-op on a tile (R267). -/
def Ctx.frozenTile (x : Ctx) (z : Nat) : Bool :=
  match x.snap with
  | some sn => macrosOn sn.flights z != []
  | none => false

/-- The bank groups that macro-ops of a context read, frozen ones among them. -/
def Ctx.groupsRead (x : Ctx) : List Nat :=
  let of := fun (fs : List Flight) => fs.flatMap fun f => match f.what with | .macroOp m => m.groups | _ => []
  of x.flight ++ (match x.snap with | some sn => of sn.flights | none => [])

/-- The bank groups that macro-ops of a core read (R225). -/
def State.groupsRead (s : State) (core : Nat) : List Nat :=
  (List.range 4).flatMap fun i => match s.ctx (4 * core + i) with | some x => x.groupsRead | none => []

/-- An unfinished join holds a tile (R239). -/
def Ctx.joinHolds (x : Ctx) (z : Nat) : Bool :=
  match x.join with
  | some j => j.z == z
  | none => false

/-! ### The order of checks (R263, R420) -/

/-- A matrix operation with its guard true: operand checks, then WINDOW_FAULT (R211), then what follows. -/
def Env.mguarded (e : Env) (z : BitVec 5) (cs : List Check) (k : SlotOut) : SlotOut :=
  let mode := (e.s.cluster (ctxCluster e.c)).winmode.toNat
  e.guarded (⟨decide (partTiles (e.s.part e.c) ≤ z.toNat) || e.x.frozenTile z.toNat, 0, z.toNat⟩ :: cs)
    (if (mode = 5 ∧ ctxCore e.c % 2 = 1) ∨ (mode = 6 ∧ ctxCore e.c % 2 = 0) then e.trap 0x12 (BitVec.ofNat 64 mode) else k)

/-- A tile in an unfinished join stalls every operation that names it (R239); a busy tile stalls those that write or join it (R420). -/
def Env.mready (e : Env) (z : BitVec 5) (busy : Bool) (k : SlotOut) : SlotOut :=
  if e.x.joinHolds z.toNat then .stall
  else match (if busy then e.x.busyUpto z.toNat else none) with
    | some n => .stall (some n)
    | none => k

/-- ALIGN for the first address that is not aligned (R263). -/
def Env.aligned (e : Env) (n : Nat) (os : List Int) (k : SlotOut) : SlotOut :=
  match os.find? fun (o : Int) => o % (n : Int) != 0 with
  | some o => e.trap 0x04 (spadAddr o)
  | none => k

/-- PERM for the first span that reaches past the scratchpad (R223). -/
def Env.insideAll (e : Env) (ps : List Span) (k : SlotOut) : SlotOut :=
  match ps.find? fun p => !p.inside (e.s.part e.c) with
  | some p => e.trap 0x06 (spadAddr p.lo)
  | none => k

/-- BANKGROUP for an offset, if there is one (R225). -/
def Env.bankgroup (e : Env) (o : Option Int) (k : SlotOut) : SlotOut :=
  match o with
  | some x => e.trap 0x07 (BitVec.ofInt 64 x)
  | none => k

/-- The first offset of a span that lies outside the group of its first byte. -/
def Span.crossing (p : Span) (part : W64) : Option Int :=
  if p.crosses part then some ((p.lo / groupSize part + 1) * groupSize part) else none

/-- The offset for which a span of MWRITE or MSTAT raises BANKGROUP (R430, R431). -/
def Env.spanOffence (e : Env) (p : Span) : Option Int :=
  let part := e.s.part e.c
  match p.crossing part with
  | some o => some o
  | none => if p.inside part && (e.s.groupsRead (ctxCore e.c)).contains (p.group part) then some p.lo else none

/-- An m register (R212). -/
def Ctx.mReg (x : Ctx) (n : Nat) : W64 := SMap.get 0#64 x.m n

/-! ### MCFG, MZERO (R422, R423) -/

/-- A word that MCFG may not take (R422). ROWS and COLS may hold any value: above 127 every position of the tile is active. -/
def tileCfgBad (w : W64) : Bool :=
  (bits w 3 0 != 0 && bits w 3 0 != 8) || bits w 11 4 != 0 || bits w 34 28 != 0 || bits w 46 44 != 0 || decide (508 < bits w 43 35)

/-- MCFG (R423). -/
def evalMcfg (f : MCfg) (e : Env) : SlotOut :=
  let w := e.x.mReg f.ma.toNat
  e.mguarded f.z [⟨f.rest != 0#29, 6, f.rest.toNat⟩, ⟨tileCfgBad w, 7, f.ma.toNat⟩]
    (e.mready f.z true (e.result 2 (.tileCfg f.z.toNat w)))

/-- MZERO (R423). -/
def evalMzero (f : MZero) (e : Env) : SlotOut :=
  e.mguarded f.z [⟨f.rest != 0#33, 6, f.rest.toNat⟩] (e.mready f.z true (e.result 2 (.tileZero f.z.toNat)))

/-! ### MMA and MMAX (R424 to R428) -/

/-- Bytes of a row of n elements (R62, R421): Q6 one to a byte, sub-byte types two. -/
def rowBytes (fmt n : Nat) : Nat := (storedWidth fmt * n + 7) / 8

/-- The group checks of R424, in the order of the spans A, B, and then the scale spans. -/
def macroOffence (part : W64) (ps : List Span) : Option Int :=
  match ps.findSome? fun p => p.crossing part with
  | some o => some o
  | none =>
    match ps with
    | a :: b :: rest =>
      if a.inside part && b.inside part && a.group part == b.group part then some b.lo
      else
        match rest with
        | sa :: sb :: _ =>
          if sa.inside part && a.inside part && sa.group part != a.group part then some sa.lo
          else if sb.inside part && b.inside part && sb.group part != b.group part then some sb.lo
          else none
        | _ => none
    | _ => none

/-- MMA and MMAX (R424 to R427). -/
def evalMacro (f : MMac) (mx : Bool) (e : Env) : SlotOut :=
  let fmt := f.format.toNat
  let i32 := fmt == 5 || fmt == 6 || fmt == 7
  let a := f.ma.toNat
  let b := f.mb.toNat
  let ta := f.ta == 1#1
  let tb := f.tb == 1#1
  let k := if f.kq = 0#7 then 4096 else 32 * f.kq.toNat
  let tile := SMap.get {} e.x.z f.z.toNat
  let regs := if mx then [a, b, a + 1, b + 1] else [a, b]
  let part := e.s.part e.c
  let mk := fun (r rows width : Nat) => (⟨descBase (e.x.mReg r) e.n, descPitch (e.x.mReg r), rows, width⟩ : Span)
  let pa := if ta then mk a k (rowBytes fmt 128) else mk a 128 (rowBytes fmt k)
  let pb := if tb then mk b 128 (rowBytes fmt k) else mk b k (rowBytes fmt 128)
  let ps := if mx then [pa, pb, mk (a + 1) 128 (k / 32), mk (b + 1) (k / 32) 128] else [pa, pb]
  let flags := 8 * f.ta.toNat + 4 * f.tb.toNat + 2 * f.ovw.toNat + f.gauge.toNat
  let g := f.gauge == 1#1
  let pad := (e.s.core (ctxCore e.c)).spad
  let w := windowFactor (e.s.cluster (ctxCluster e.c)).winmode.toNat
  let steps := w * ceilDiv k (macroRate fmt)
  let own := e.x.count + 16 + steps - 1
  let prev := e.x.busyUpto f.z.toNat
  let land := match prev with | some n => max own (n + steps) | none => own
  let op : MacroOp :=
    { z := f.z.toNat, fmt := fmt, k := k, ta := ta, tb := tb, ovw := f.ovw == 1#1
      gauge := if g && fmtGauge e.x.fmt then some tile.gidx.toNat else none
      assist := fmtAssist e.x.fmt
      aRows := pa.read pad, bRows := pb.read pad
      sa := if mx then (mk (a + 1) 128 (k / 32)).read pad else []
      sb := if mx then (mk (b + 1) (k / 32) 128).read pad else []
      groups := [pa.group part, pb.group part]
      start := if prev.isSome then none else some tile, pc := e.pc, window := w }
  e.mguarded f.z
    ([ ⟨(if mx then [4, 5, 6, 7] else [1, 2, 3]).contains fmt && tile.i32 != i32, 0, f.z.toNat⟩,
       ⟨mx && a % 2 == 1, 1, a⟩, ⟨mx && b % 2 == 1, 2, b⟩,
       ⟨!(if mx then [4, 5, 6, 7] else [1, 2, 3]).contains fmt, 4, fmt⟩,
       ⟨g && !tile.gv, 5, flags⟩,
       ⟨f.rest != 0#10, 6, f.rest.toNat⟩ ] ++
      regs.map fun r => ⟨descBad (e.x.mReg r) true, 7, r⟩)
    (e.aligned 32 (ps.map Span.lo)
      (if mx && (ta || tb) then e.trap 0x08 0#64
       else e.bankgroup (macroOffence part ps)
         (e.insideAll ps
           (e.mready f.z false
             (.act none fun s => s.modCtx e.c fun x => { x with flight := x.flight ++ [⟨land, .macroOp op⟩] })))))

/-- MMA (R425). -/
def evalMma (f : MMac) (e : Env) : SlotOut := evalMacro f false e
/-- MMAX (R425). -/
def evalMmax (f : MMac) (e : Env) : SlotOut := evalMacro f true e

/-! ### MREAD, MWRITE, MSTAT (R429 to R431) -/

/-- The four vectors of a row pair, in their order of delivery (R429). -/
def Tile.pairVectors (t : Tile) (p : Nat) : List Vec :=
  [(2 * p, 0), (2 * p, 64), (2 * p + 1, 0), (2 * p + 1, 64)].map fun rc => Vec.ofLanes fun i => t.elem rc.1 (rc.2 + i)

/-- MREAD (R429): pair j may enter the buffer at the end of count t + 6(j + 1) − 1. -/
def evalMread (f : MRead) (e : Env) : SlotOut :=
  let rp := f.rp.toNat
  let np := f.np.toNat
  let st := SMap.get {} e.x.f f.f.toNat
  let tile := SMap.get {} e.x.z f.z.toNat
  let coming := (List.range (np + 1)).flatMap fun j =>
    (tile.pairVectors (rp + j)).map fun v => (e.x.count + 6 * (j + 1) - 1, v)
  e.mguarded f.z
    [ ⟨decide (64 < rp + np + 1), 6, np⟩, ⟨st.bound.isSome || !st.buf.isEmpty, 6, f.f.toNat⟩, ⟨f.rest != 0#18, 6, f.rest.toNat⟩ ]
    (e.mready f.z false
      (.act none fun s => s.modCtx e.c fun x =>
        { x with f := SMap.set {} x.f f.f.toNat { bound := some .mread, buf := [], coming := coming, ended := true } }))

/-- MWRITE (R430): the scratchpad is read at issue. -/
def evalMwrite (f : MWrite) (e : Env) : SlotOut :=
  let rp := f.rp.toNat
  let np := f.np.toNat
  let m := e.x.mReg f.ma.toNat
  let p : Span := ⟨descBase m e.n, descPitch m, 2 * (np + 1), 512⟩
  let vals := (p.read (e.s.core (ctxCore e.c)).spad).map fun bs =>
    (List.range 128).map fun i => BitVec.ofNat 32 (leNat ((bs.drop (4 * i)).take 4))
  e.mguarded f.z
    [ ⟨decide (64 < rp + np + 1), 6, np⟩, ⟨f.rest != 0#17, 6, f.rest.toNat⟩, ⟨descBad m true, 7, f.ma.toNat⟩ ]
    (e.aligned 32 [p.lo]
      (e.bankgroup (e.spanOffence p)
        (e.insideAll [p] (e.mready f.z true (e.result 4 (.tileRows f.z.toNat (2 * rp) vals))))))

/-- The status word of a tile (R422). -/
def Tile.word (t : Tile) (busy : Bool) : W64 :=
  BitVec.ofNat 64 (t.gidx.toNat * 2 ^ 48 + (if t.gv then 2 ^ 47 else 0) + t.zb.toNat * 2 ^ 35 + t.cols.toNat * 2 ^ 20 +
    t.rows.toNat * 2 ^ 12 + (if busy then 2048 else 0) + (if t.sub then 1024 else 0) + (if t.inf then 512 else 0) +
    (if t.nan then 256 else 0) + (if t.i32 then 8 else 0))

/-- MSTAT (R431): eight-byte alignment in place of the 32 of R421, and no check of PITCH. -/
def evalMstat (f : MStat) (e : Env) : SlotOut :=
  let m := e.x.mReg f.ma.toNat
  let p : Span := ⟨descBase m e.n, 0, 1, 8⟩
  let z := f.z.toNat
  let tile := SMap.get {} e.x.z z
  e.mguarded f.z [⟨f.rest != 0#28, 6, f.rest.toNat⟩, ⟨descBad m false, 7, f.ma.toNat⟩]
    (e.aligned 8 [p.lo]
      (e.bankgroup (e.spanOffence p)
        (e.insideAll [p]
          (e.mready f.z false (e.result 2 (.tileStat p.lo.toNat (tile.word (e.x.busyUpto z).isSome) z (f.clr == 1#1) e.s.nextAccess))))))

/-! ### MJOIN (R234, R432) -/

/-- Rows of half `hi` of a tile: 0 to 63, or 64 to 127; inactive positions are not sent. -/
def Tile.halfRows (t : Tile) (hi : Bool) : List (List (Option W32)) :=
  (List.range 64).map fun r =>
    let row := (if hi then 64 else 0) + r
    (List.range 128).map fun c =>
      if row ≤ t.rows.toNat ∧ c ≤ t.cols.toNat then some (t.elem row c) else none

/-- MJOIN (R432): the half that the partner keeps is copied at issue. -/
def evalMjoin (f : MJoin) (e : Env) : SlotOut :=
  let h := f.h == 1#1
  let p := f.partner.toNat
  let gang := e.s.gang e.x.gang
  let pctx := gang.bind fun g => g.ctxOf p
  let partnerBad := p == e.x.member ||
    (match pctx with
      | some c => ctxCluster c == ctxCluster e.c
      | none => match gang with | some g => decide (g.ntask ≤ p) | none => true)
  let tile := SMap.get {} e.x.z f.z.toNat
  let j : Join :=
    { z := f.z.toNat, partner := p, jn := f.jn.toNat, h := h, token := f.token.toNat
      deadline := e.s.time + (match gang with | some g => g.joinwait | none => 0)
      half := tile.halfRows (!h), i32 := tile.i32, assist := fmtAssist e.x.fmt, pc := e.pc }
  e.mguarded f.z [⟨partnerBad, 6, p⟩, ⟨f.rest != 0#17, 6, f.rest.toNat⟩]
    (if (List.range 4).any fun i => match e.s.ctx (4 * ctxCore e.c + i) with | some x => x.join.isSome | none => false then .stall
     else e.mready f.z true
       (.act (some f.token.toNat) fun s => s.modCtx e.c fun x => { x with join := some j }))

end Sys2Proof.Machine
end

