-- ==== Sys2Proof/Machine/Barrier.lean ====
section
/-! DEFINITION. Transaction barriers (R170, R171): the 128-bit word as it lies in local memory, and the atomic actions on it. -/

namespace Sys2Proof.Machine

/-- A transaction barrier (R170): the fields of its word, and its reserved bits. -/
structure TBar where
  phase : Nat
  flags : Nat
  pend : Nat
  init : Nat
  sect : Nat
  rsv : Nat
  deriving DecidableEq, Repr

/-- A barrier from its 16 bytes. -/
def tbarOf (bs : List Byte) : TBar :=
  let n := leNat (bs.take 16)
  { phase := n % 16, flags := n / 2 ^ 4 % 16, pend := n / 2 ^ 8 % 2 ^ 24, init := n / 2 ^ 32 % 2 ^ 24
    sect := n / 2 ^ 64 % 2 ^ 32, rsv := n / 2 ^ 56 % 2 ^ 8 + 2 ^ 8 * (n / 2 ^ 96 % 2 ^ 32) }

/-- The 16 bytes of a barrier. -/
def TBar.bytes (b : TBar) : List Byte :=
  toBytes 16 (b.phase + 2 ^ 4 * b.flags + 2 ^ 8 * b.pend + 2 ^ 32 * b.init + 2 ^ 56 * (b.rsv % 2 ^ 8) + 2 ^ 64 * b.sect +
    2 ^ 96 * (b.rsv / 2 ^ 8))

/-- Check() (R170). -/
def TBar.check (b : TBar) : TBar :=
  if b.pend = 0 ∧ b.sect = 0 ∧ b.flags % 8 = 0 then { b with phase := (b.phase + 1) % 16, pend := b.init } else b

/-- Arrive(n) (R170). -/
def TBar.arrive (b : TBar) (n : Nat) : TBar :=
  ({ b with
      sect := (b.sect + n) % 2 ^ 32
      flags := if b.pend = 0 then b.flags ||| 1 else b.flags
      pend := b.pend - 1 } : TBar).check

/-- Expect(n) (R170). -/
def TBar.expect (b : TBar) (n : Nat) : TBar := ({ b with sect := (b.sect + n) % 2 ^ 32 } : TBar).check

/-- Land(s) (R170). -/
def TBar.land (b : TBar) (n : Nat) : TBar := ({ b with sect := (b.sect + (2 ^ 32 - n % 2 ^ 32)) % 2 ^ 32 } : TBar).check

/-- TBINIT writes the whole word (R170, R447). -/
def TBar.initial (v : Nat) : TBar := { phase := 0, flags := 0, pend := v % 2 ^ 24, init := v % 2 ^ 24, sect := 0, rsv := 0 }

/-- Set flags: ERR 1, INTEG 2, ABORT 4. -/
def TBar.setFlags (b : TBar) (f : Nat) : TBar := { b with flags := b.flags ||| f }

/-- The barrier at a place of local memory. -/
def State.tbar (s : State) (l : Loc) : TBar := tbarOf (s.readLoc 0 l 16)

/-- One atomic action on a barrier (R170): a phase change, and the setting of a flag, re-insert its waiters (R171). -/
def State.tbarDo (s : State) (l : Loc) (f : TBar → TBar) : State :=
  let old := s.tbar l
  let new := f old
  let s := s.writeLoc 0 l new.bytes
  if new.phase ≠ old.phase ∨ (new.flags % 8 ≠ old.flags % 8 ∧ new.flags % 8 ≠ 0) then s.wake fun _ w => w == .tbar l else s

/-- What an engine's action does to a barrier: Land(s), the setting of flags, Arrive(0). -/
def TBar.act (b : TBar) : BarAct → TBar
  | .land n => b.land n
  | .flags f => b.setFlags f
  | .arrive => b.arrive 0

/-- The barrier operations of the L slot that write (R447); TBINIT re-inserts no waiter. -/
def State.tbarOp (s : State) (l : Loc) (op : BarOp) (v : Nat) : State :=
  match op with
  | .init => s.writeLoc 0 l (TBar.initial v).bytes
  | .arrive => s.tbarDo l fun b => b.arrive v
  | .expect => s.tbarDo l fun b => b.expect v

end Sys2Proof.Machine
end

