-- ==== Sys2Proof/Machine/Llc.lean ====
section
/-! DEFINITION. Device coordinates (R36 to R39), the requests that wait at the pseudo-channels (R58), and the memory-side cache (R42 to R45,
R48): which sectors it holds, which lines are pinned, and what a request to it asks of the DRAM. What a byte of memory holds is kept once,
in the causal memory (file 10). -/

namespace Sys2Proof.Machine

/-! ### Device coordinates (R36 to R39) -/

/-- The offset of an address in its HBM stack, SO (R36). -/
def stackOffset (pa : Nat) : Nat := pa / 2 ^ 15 % 2 ^ 24 * 4096 + pa % 4096
/-- The offset of an address in its LP package, PO (R36). -/
def packageOffset (pa : Nat) : Nat := pa / 2 ^ 15 % 2 ^ 25 * 4096 + pa % 4096
/-- An address of near or far HBM. -/
def isHbm (pa : Nat) : Bool := decide (pa < 0x010000000000)

/-- The pseudo-channel of an address of device memory: 64 for each stack, then 16 for each package (R37, R38). -/
def channelOf (pa : Nat) : Nat :=
  let dev := pa / 4096 % 8
  if isHbm pa then (dev + (if pa < 0x008000000000 then 0 else 8)) * 64 + stackOffset pa / 2 ^ 11 % 64
  else 1024 + dev * 16 + packageOffset pa / 2 ^ 11 % 16

/-- The bank of an address (R37, R38). -/
def bankOf (pa : Nat) : Nat :=
  if isHbm pa then Nat.xor (stackOffset pa / 2 ^ 17 % 16) (stackOffset pa / 2 ^ 21 % 16)
  else Nat.xor (packageOffset pa / 2 ^ 15 % 16) (packageOffset pa / 2 ^ 19 % 16)

/-- The row of an address within its bank (R37, R38). -/
def rowOf (pa : Nat) : Nat := if isHbm pa then stackOffset pa / 2 ^ 21 % 2 ^ 15 else packageOffset pa / 2 ^ 19 % 2 ^ 18

/-- The subarray of an HBM row (R37). -/
def subarrayOf (pa : Nat) : Nat := rowOf pa / 512

/-- The column byte of an address (R37, R38). -/
def columnOf (pa : Nat) : Nat := pa % 2048

/-- Rows of a bank: 32,768 of an HBM stack, and of an LP package as many as bits PO[36:19] number. -/
def bankRows (channel : Nat) : Nat := if channel < 1024 then 32768 else 262144

/-- The number of a row among all rows of the module: channel, bank, row. -/
def rowKey (pa : Nat) : Nat := (channelOf pa * 16 + bankOf pa) * 262144 + rowOf pa

/-- The channel of a row by its number. -/
def rowChannel (key : Nat) : Nat := key / 262144 / 16

/-- Its stack or package, as a log entry names it (R107). -/
def channelPlace (n : Nat) : Nat := if n < 1024 then n / 64 else 16 + (n - 1024) / 16
/-- The compute die that it is attached to (R39). -/
def channelDie (n : Nat) : Nat := channelPlace n % 8 / 2
/-- SOURCE of its log entries. -/
def channelSource (n : Nat) : Nat := logSource 9 (channelPlace n) (channelDie n)

/-! ### Pseudo-channels (R57, R58) -/

/-- A controller. -/
def State.dramChan (s : State) (n : Nat) : DramChan := SMap.get {} s.dram n
/-- Change a controller. -/
def State.modDram (s : State) (n : Nat) (f : DramChan → DramChan) : State := { s with dram := SMap.modify {} s.dram n f }

/-- A request wakes the channel, and the idle count starts again (R57). -/
def State.wakeDram (s : State) (n : Nat) : State :=
  s.modDram n fun x => { x with powerDown := false, selfRefresh := false, lastReq := s.time }

/-- A request for a sector arrives at its pseudo-channel (R58). -/
def State.dramRequest (s : State) (sector : Nat) (write : Bool) : State :=
  let n := channelOf (32 * sector)
  (s.wakeDram n).modDram n fun x => { x with queue := x.queue ++ [⟨sector, write⟩] }

/-! ### The memory-side cache (R42 to R45, R48) -/

/-- The cache die of a line (R39). -/
def lineHome (line : Nat) : Nat := line / 32 % 8

/-- The set of a line, among those of all cache dies (R42): the fixed hash of PA[47:15] and PA[11:7], 1,048,576 sets for each die. -/
def lineSet (line : Nat) : Nat := lineHome line * 1048576 + Config.llcSet (line / 256 * 32 + line % 32) % 1048576

/-- Whether a physical 4 KiB page lies in one of some runs of pages. -/
def inPages (ps : List (Nat × Nat)) (q : Nat) : Bool := ps.any fun r => decide (r.1 ≤ q) && decide (q < r.1 + r.2)

/-- The leases that are ACTIVE. -/
def State.activeLeases (s : State) : List Lease := (s.leases.map (·.2)).filter fun l => l.state == .active

/-- An active lease holds the page of a line (R48). -/
def State.leasedLine (s : State) (line : Nat) : Bool := s.activeLeases.any fun l => inPages l.pages (line / 32)

/-- A line whose page an active lease holds, or of the gauge pool, is pinned (R45, R48). -/
def State.pinsLine (s : State) (line : Nat) : Bool := s.leasedLine line || gaugeLine line

/-- A line of the cache. -/
def State.line (s : State) (n : Nat) : LlcLine := SMap.get {} s.llc n

/-- The dirty sectors of a line, by number. -/
def LlcLine.dirtySectors (l : LlcLine) (line : Nat) : List Nat := (List.range 4).filterMap fun k => if l.dirty.getLsbD k then some (4 * line + k) else none

/-- The dirty sectors of a line go to DRAM (R43). -/
def State.writeBack (s : State) (line : Nat) : State :=
  ((s.line line).dirtySectors line).foldl (fun (s : State) q => s.dramRequest q true) s

/-- A line leaves its set, and its dirty sectors are written back (R43). -/
def State.evictLine (s : State) (line : Nat) : State := { s.writeBack line with llc := SMap.set {} s.llc line {} }

/-- The lines of a set. -/
def State.setLines (s : State) (set : Nat) : SMap LlcLine := s.llc.filter fun kv => lineSet kv.1 == set

/-- The ways of a full set that replacement may take (R42): an unpinned line, and not the one used last while there is another. Pseudo-LRU
says no more (log entry 71). -/
def State.victimLines (s : State) (set : Nat) : List Nat :=
  let free := ((s.setLines set).filter fun kv => !kv.2.pinned).map (·.1)
  let old := free.filter fun n => n + 1 != SMap.get 0 s.llcLast set
  if old.isEmpty then free else old

/-- Room for a line in its set (R42): the line is there, or one of the 16 ways is free, or a victim leaves, which of several is a free value.
None where every way is pinned. -/
def State.makeRoom (s : State) (line : Nat) : Option State :=
  let ls := s.setLines (lineSet line)
  if s.llc.length < 16 ∨ ls.length < 16 ∨ (ls.any fun kv => kv.1 == line) then some s
  else
    let r := s.draw
    let vs := s.victimLines (lineSet line)
    (vs[r.1.toNat % vs.length]?).map fun v => r.2.evictLine v

/-- A sector of a line after a request (R43, R44): a read fills it, a write makes it dirty; a host-window line is written through. -/
def LlcLine.served (l : LlcLine) (k : Nat) (kind : LlcKind) (host pin : Bool) : LlcLine :=
  let b : BitVec 4 := 1#4 <<< k
  { valid := l.valid ||| b, dirty := (if host || kind == .read then l.dirty else l.dirty ||| b), pinned := l.pinned || pin }

/-- A request for a sector at its home cache die (R43): a read that misses, or a write of part of a sector that is not valid, reads the sector
from DRAM; a write of a whole sector does not. A line that finds every way of its set pinned is not allocated, and the request goes to
DRAM (log entry 71). A host-window line is held only while a request to it is outstanding (R44). -/
def State.llcServe (s : State) (sector : Nat) (kind : LlcKind) : State :=
  let line := sector / 4
  let host := isHost (32 * sector)
  if host && !s.hostBusy line then s
  else match s.makeRoom line with
    | none => if host then s else s.dramRequest sector (kind != .read)
    | some s =>
      let s := if host || kind == .writeWhole || (s.line line).valid.getLsbD (sector % 4) then s else s.dramRequest sector false
      { s with
        llc := SMap.modify {} s.llc line fun l => l.served (sector % 4) kind host (s.pinsLine line)
        llcLast := SMap.set 0 s.llcLast (lineSet line) (line + 1) }

/-- The request that a run of bytes makes of a sector that it touches. -/
def runKind (pa n sector : Nat) (write : Bool) : LlcKind :=
  if !write then .read else if pa ≤ 32 * sector ∧ 32 * sector + 32 ≤ pa + n then .writeWhole else .writePart

/-- A context's access, or a write of a Sluice job, allocates the lines of an active lease pinned (R48, R157). -/
def State.touchLease (s : State) (l : Loc) (n : Nat) (write : Bool) : State :=
  match l with
  | .global pa =>
    if s.leases.isEmpty ∨ n = 0 then s
    else (List.range ((pa + n - 1) / 32 - pa / 32 + 1)).foldl (fun (s : State) i =>
      let q := pa / 32 + i
      if s.leasedLine (q / 4) then s.llcServe q (runKind pa n q write) else s) s
  | _ => s

end Sys2Proof.Machine
end

