-- ==== Sys2Proof/Machine/Pending.lean ====
section
/-! DEFINITION. Accesses between their issue and their completion (R254 to R258, R437): what each waits for, how a store is performed,
how a destination is written. -/

namespace Sys2Proof.Machine

/-! ### Order (R254, R256, R258) -/

/-- The number that stands for the spill carve-out, which SPILL and FILL alone reach (R226, R244). -/
def carveSpace : Nat := 0x10

/-- Every space, the spill carve-out among them. -/
def allSpaces : List Nat := [0x0, 0x8, 0x9, 0xF, carveSpace]

/-- The spaces that a scope orders (R255); on a global element CTX and CLU act as DIE (R258). -/
def scopeSpaces (scope : Nat) (onGlobal : Bool) : List Nat :=
  if onGlobal && decide (scope < 2) then allSpaces
  else match scope with
  | 0 => [0x8]
  | 1 => [0x8, 0x9]
  | _ => allSpaces

/-- The accesses of a context that have been issued and not performed. -/
def State.pending (s : State) (c : Nat) : List (Nat × Access) :=
  s.accesses.filterMap fun kv => match kv.2 with
    | some a => if a.ctx = c then some (kv.1, a) else none
    | none => none

/-- Whether two places overlap. -/
def Loc.overlaps (l : Loc) (n : Nat) (k : Loc) (m : Nat) : Bool :=
  match l, k with
  | .global a, .global b => runsOverlap a n b m
  | .spad c a, .spad d b => c == d && runsOverlap a n b m
  | .sram c a, .sram d b => c == d && runsOverlap a n b m
  | .acc c a, .acc d b => c == d && runsOverlap a n b m
  | .host a, .host b => runsOverlap a n b m
  | .mmio a, .mmio b => runsOverlap a n b m
  | .spill c a, .spill d b => c == d && runsOverlap a n b m
  | _, _ => false

/-- Whether two accesses name a common byte. -/
def Access.overlaps (a b : Access) : Bool :=
  a.elems.any fun e => b.elems.any fun f => e.loc.overlaps e.size f.loc f.size

/-- Stores and the operations that write a barrier. -/
def Access.writes (a : Access) : Bool :=
  match a.kind with
  | .store => true
  | .bar _ _ => true
  | _ => false

/-- Atomics. -/
def Access.isAtomic (a : Access) : Bool :=
  match a.kind with
  | .atomic _ _ => true
  | _ => false

/-- Plain and ordered stores. -/
def Access.isStore (a : Access) : Bool :=
  match a.kind with
  | .store => true
  | _ => false

/-- Whether two accesses share a space. -/
def sharesSpace (a b : List Nat) : Bool := a.any fun x => b.contains x

/-- Whether an access must be performed after an earlier one of its context (R245, R254, R257, R258): `rel` are the spaces in which it
is a release. -/
def Access.follows (a : Access) (rel : List Nat) (b : Access) : Bool :=
  (match a.kind with
   | .load => b.isStore || (b.writes || b.isAtomic) && a.overlaps b
   | .store => b.isStore
   | .bar _ _ => b.writes || (b.isAtomic && a.overlaps b)
   | .atomic _ _ => (b.writes || b.isAtomic) && a.overlaps b
   | .sync _ => true)
  || sharesSpace rel b.spaces || a.spaces.contains 0xF

/-- The accesses of a context that write and have not been performed: stores that a fence or an acquire holds, and atomics. -/
def State.heldWrites (s : State) (c : Nat) : List Nat := ((s.pending c).filter fun p => p.2.writes || p.2.isAtomic).map (·.1)

/-- The earlier accesses that a new one waits for. -/
def State.depsOf (s : State) (c : Nat) (a : Access) (rel : List Nat) : List Nat :=
  let ps := s.pending c
  let direct := (ps.filter fun p => a.follows rel p.2).map (·.1)
  let fences := match s.ctx c with | some x => x.fences | none => []
  let held := fences.flatMap fun f => if sharesSpace f.spaces a.spaces then f.ids else []
  (ps.map (·.1)).filter fun i => direct.contains i || held.contains i

/-- Whether the accesses that an access waits for have been performed. -/
def State.depsDone (s : State) (a : Access) : Bool := a.after.all fun i => (SMap.get none s.accesses i).isNone

/-- A fence of a context over accesses that are still pending (R256, R258). -/
def State.addFence (s : State) (c : Nat) (spaces ids : List Nat) : State :=
  let live := fun (i : Nat) => (SMap.get none s.accesses i).isSome
  s.modCtx c fun x =>
    { x with fences := (x.fences.filter fun f => f.ids.any live) ++ [(⟨spaces, ids⟩ : FenceRec)] }

/-- A context makes its later accesses after writes that another has issued and which a fence, an acquire or a home still holds (R254): they
stand behind an access of its own, which names no element, as behind a FENCE. So a context that has been started follows its spawner (R468),
and a member that passes a gang barrier those that arrived at it (R359). -/
def State.behindWrites (s : State) (t : Nat) (ids : List Nat) : State :=
  if ids.isEmpty then s
  else
    let a : Access := { ctx := t, token := 8, kind := .load, elems := [], after := ids, spaces := [] }
    (({ s with nextAccess := s.nextAccess + 1, accesses := SMap.set none s.accesses s.nextAccess (some a) } : State).addFence t allSpaces
      [s.nextAccess])

/-! ### Performing stores -/

/-- The writes of a die to some bytes that have no place yet take their places, in the order in which they were made (R252). -/
def State.settle (s : State) (d pa n : Nat) : State :=
  ((s.writes.filter fun w => w.die == d && w.place.isNone && runsOverlap w.addr w.data.length pa n).map (·.id)).foldl State.placeWrite s

/-- An element reaches the memory-side cache (R48): its line is allocated pinned where a lease holds it. -/
def State.touchElem (s : State) (write : Bool) (e : Elem) : State := s.touchLease e.loc e.size write

/-- One element of a store is applied (R254): a byte shared with an inactive element is merged atomically at its home (R441), and a
register of space 0xF is written by the next step (R245). -/
def State.storeElem (s : State) (d : Nat) (e : Elem) : State :=
  match e.loc with
  | .mmio off => s.soon (.registerWrite (.mmio off) e.size e.data)
  | .global pa =>
    if e.keep = 0#8 then s.writePhys d pa (toBytes e.size e.data.toNat)
    else if isHost pa then
      s.writePhys d pa ((s.readPhys d pa 1).map fun o => (o &&& e.keep) ||| (e.data.truncate 8 &&& ~~~e.keep))
    else
      let s := s.settle d pa 1
      s.writeHome d pa [(Mem.byte s.home pa &&& e.keep) ||| (e.data.truncate 8 &&& ~~~e.keep)]
  | l =>
    if e.keep = 0#8 then s.writeLoc d l (toBytes e.size e.data.toNat)
    else s.writeLoc d l ((s.readLoc d l 1).map fun o => (o &&& e.keep) ||| (e.data.truncate 8 &&& ~~~e.keep))

/-- An access is over: its token falls (R216). -/
def State.dropAccess (s : State) (id : Nat) (a : Access) : State :=
  { s with accesses := SMap.set none s.accesses id none }.modCtx a.ctx fun x => x.tokDown a.token

/-- A store or a barrier operation is performed whole at its die (R254); gauge updates follow its data (R73). -/
def State.performStore (s : State) (id : Nat) : State :=
  match SMap.get none s.accesses id with
  | none => s
  | some a =>
    let d := ctxDie a.ctx
    let s := match a.kind with
      | .bar op v => (a : Access).elems.foldl (fun (s : State) (e : Elem) => s.tbarOp e.loc op v) s
      | _ => a.elems.foldl (fun (s : State) (e : Elem) => (s.storeElem d e).touchElem true e) s
    ({ s with gaugeQ := s.gaugeQ ++ a.updates }.unpoison ((a.elems.filter fun (e : Elem) => e.keep == 0#8).map fun (e : Elem) => (e.loc, e.size))).dropAccess id a

/-- What a new access acquires: the spaces of its later accesses that wait for it (R245, R257, R258). -/
def State.acquire (s : State) (c id : Nat) (spaces : List Nat) : State := if spaces.isEmpty then s else s.addFence c spaces [id]

/-- An access issues: it waits for earlier accesses as R254 to R258 say; a store that waits for none is performed at once. -/
def State.issueAccess (s : State) (a : Access) (rel acq : List Nat) : State :=
  let id := s.nextAccess
  let after := s.depsOf a.ctx a rel
  let s := { s with nextAccess := id + 1, accesses := SMap.set none s.accesses id (some { a with after := after }) }
  let s := s.acquire a.ctx id (if a.spaces.contains 0xF then allSpaces else acq)
  if a.writes && after.isEmpty then s.performStore id else s

/-! ### Destinations (R287, R437, R440, R441) -/

/-- The bytes that an access has read, as one number, element k at byte k (packed images). -/
def packedImage (es : List Elem) : Nat := es.foldl (fun n e => n + (e.got.getD 0#64).toNat * 256 ^ e.lane) 0

/-- A loaded element as its lane holds it (R287). The manual states the low 16 bits of a lane that a load with SIZE SW writes and no more: the
others are open, a constant of the configuration (log entry 19). -/
def loadedLane (ty : Nat) (v : W64) : W32 :=
  if ty = 15 then Config.swHigh (v.truncate 16) ++ v.truncate 16 else holdLane ty v.toNat

/-- The lane values of a vector destination. -/
def Access.laneValues (a : Access) : Vec :=
  let got := fun (i : Nat) => a.elems.find? fun e => e.lane == i
  match a.form with
  | .packed ty =>
    let n := packedImage a.elems
    Vec.ofLanes fun i => holdLane ty (n / 2 ^ (storedWidth ty * i) % 2 ^ storedWidth ty)
  | .joined =>
    let k := a.elems.length / 2
    let hi := a.elems.take k
    let lo := a.elems.drop k
    let half := fun (es : List Elem) (i : Nat) => match es.find? fun e => e.lane == i with | some e => (e.got.getD 0#64).toNat | none => 0
    Vec.ofLanes fun i => BitVec.ofNat 32 (half hi i * 65536 + half lo i)
  | .lanes ty => Vec.ofLanes fun i => match got i with | some e => loadedLane ty (e.got.getD 0#64) | none => 0#32
  | .plain => Vec.ofLanes fun i => match got i with | some e => (e.got.getD 0#64).truncate 32 | none => 0#32

/-- The value of a scalar destination, extended from bit `sx` if there is one. -/
def Access.scalarValue (a : Access) (sx : Option Nat) : W64 :=
  match a.form with
  | .joined => BitVec.ofNat 64 (a.elems.foldl (fun n e => n * 65536 + (e.got.getD 0#64).toNat) 0)
  | _ =>
    let v := (a.elems.head?.bind (·.got)).getD 0#64
    match sx with
    | none => v
    | some w => BitVec.ofInt 64 (signedOf w v.toNat)

/-- The destination is written in one action (R437). -/
def State.writeDest (s : State) (a : Access) : State :=
  match a.dest with
  | .none => s
  | .scalar file reg sx => s.landScalar a.ctx (if file = 0 then .a reg else .b reg) (a.scalarValue sx)
  | .vector w reg mask => s.modCtx a.ctx fun x => x.landVector (.vreg w reg) a.laneValues mask

end Sys2Proof.Machine
end

