-- ==== Sys2Proof/Machine/EngineMem.lean ====
section
/-! DEFINITION. How engines reach memory (R157, R247, R259, R260, R282, R283): runs of bytes in any space, translated as a whole before
anything is read or written; uncorrectable data; the fault queue of a die (R285). -/

namespace Sys2Proof.Machine

/-- An engine at work for a context: its die, the core and cluster that local spaces name, and the privilege that it checks with. -/
structure Agent where
  die : Nat
  core : Nat
  cluster : Nat
  sup : Bool
  /-- A Riffle unit translates through its cluster's TLB (R282). -/
  viaTlb : Bool := false
  /-- A handle request translates in the layout units (R283). -/
  layout : Bool := false
  deriving DecidableEq, Repr

/-- The agent that works for a context on an engine of its die. -/
def Agent.ofCtx (c : Nat) (sup : Bool) : Agent := { die := ctxDie c, core := ctxCore c, cluster := ctxCluster c, sup := sup }

/-- What stops an engine access: a fault with its cause and address, and whether a layout unit met it (R285), uncorrectable data at a
physical address (R31), or a read of host memory that stays queued while the host's port is down (R81). -/
inductive EngStop where
  | fault (cause : Nat) (va : W64) (wr layout : Bool)
  | ecc (pa : Nat)
  | held
  deriving DecidableEq, Repr

/-- Cut a run of bytes at 64 KiB boundaries; `fuel` exceeds the number of pieces. -/
def pageRuns : Nat → Nat → Nat → List (Nat × Nat)
  | 0, _, _ => []
  | fuel + 1, a, n => if n = 0 then [] else
    let k := min n (65536 - a % 65536)
    (a, k) :: pageRuns fuel (a + k) (n - k)

/-- One run within a page, resolved. -/
def State.engRun (s : State) (g : Agent) (p : Perm) (a n : Nat) : Except EngStop Loc :=
  let off := a % 2 ^ 60
  let wr := p != .read
  match a / 2 ^ 60 with
  | 0x0 =>
    if 2 ^ 48 ≤ off then .error (.fault 0x05 (BitVec.ofNat 64 a) wr g.layout)
    else
      match (if g.layout then s.translateLayout g.die g.sup p off else if g.viaTlb then s.translate g.cluster g.sup p off else s.translateDie g.die g.sup p off) with
      | .ok pa => .ok (.global pa)
      | .page => .error (.fault 0x05 (BitVec.ofNat 64 a) wr g.layout)
      | .perm => .error (.fault 0x06 (BitVec.ofNat 64 a) wr g.layout)
      | .ecc pa => .error (.ecc pa)
  | 0x8 => if partScratch (s.core g.core).part < off + n then .error (.fault 0x06 (BitVec.ofNat 64 a) wr g.layout) else .ok (.spad g.core off)
  | 0x9 => if 0x400000 < off + n then .error (.fault 0x06 (BitVec.ofNat 64 a) wr g.layout) else .ok (.sram g.cluster off)
  | 0xA => if partAcc (s.core g.core).part < off + n then .error (.fault 0x06 (BitVec.ofNat 64 a) wr g.layout) else .ok (.acc g.core off)
  | _ => .error (.fault 0x06 (BitVec.ofNat 64 a) wr g.layout)

/-- A run of bytes, resolved piece by piece; the lowest faulting address decides. -/
def State.engRuns (s : State) (g : Agent) (p : Perm) : List (Nat × Nat) → Except EngStop (List (Loc × Nat))
  | [] => .ok []
  | (a, n) :: rs =>
    match s.engRun g p a n with
    | .error e => .error e
    | .ok l =>
      match s.engRuns g p rs with
      | .error e => .error e
      | .ok ls => .ok ((l, n) :: ls)

/-- The pieces of a run of `n` bytes. -/
def runsOf (a : W64) (n : Nat) : List (Nat × Nat) := pageRuns (n / 65536 + 2) a.toNat n

/-- Bytes read by an engine. -/
def State.engRead (s : State) (g : Agent) (a : W64) (n : Nat) : Except EngStop (List Byte) :=
  match s.engRuns g .read (runsOf a n) with
  | .error e => .error e
  | .ok ls =>
    if s.hostQueued (ls.map (·.1)) then .error .held
    else match ls.findSome? fun r => s.poisoned r.1 r.2 with
    | some q => .error (.ecc (32 * q))
    | none => .ok (ls.flatMap fun r => s.readLoc g.die r.1 r.2)

/-- The place of a byte, as a number, for alignment. -/
def Loc.offset : Loc → Nat
  | .global pa => pa
  | .spad _ o => o
  | .sram _ o => o
  | .acc _ o => o
  | .host a => a
  | .mmio o => o
  | .spill _ o => o

/-- The elements of an engine's write (R247): each 8-byte-aligned piece, and each byte of a shorter piece; `fuel` exceeds their number. -/
def State.writePieces (s : State) (d : Nat) : Nat → Loc → List Byte → State
  | 0, _, _ => s
  | fuel + 1, l, bs =>
    match bs with
    | [] => s
    | b :: rest =>
      if l.offset % 8 = 0 ∧ 8 ≤ bs.length then (s.writeLoc d l (bs.take 8)).writePieces d fuel (l.add 8) (bs.drop 8)
      else (s.writeLoc d l [b]).writePieces d fuel (l.add 1) rest

/-- The lines that some runs of an engine touch and a lease holds are allocated pinned (R48, R157). -/
def State.touchRuns (s : State) (write : Bool) (ls : List (Loc × Nat)) : State := ls.foldl (fun (s : State) r => s.touchLease r.1 r.2 write) s

/-- Bytes written by an engine; nothing is written where the run does not translate. -/
def State.engWrite (s : State) (g : Agent) (a : W64) (bs : List Byte) : Except EngStop State :=
  match s.engRuns g .write (runsOf a bs.length) with
  | .error e => .error e
  | .ok ls =>
    .ok ((ls.foldl (fun (p : State × List Byte) r =>
      (p.1.writePieces g.die (r.2 + 1) r.1 (p.2.take r.2), p.2.drop r.2)) (s, bs)).1.unpoison ls |>.touchRuns true ls)

/-- Whether an engine access must wait: it touches a scratchpad bank group that a macro-op reads, or an accumulator tile that a macro-op
or an unfinished join holds (R168, R225, R239). -/
def State.engWaits (s : State) (g : Agent) (a : W64) (n : Nat) : Bool :=
  let off := bits a 59 0
  let part := (s.core g.core).part
  match bits a 63 60 with
  | 0x8 =>
    let gs := s.groupsRead g.core
    let q := groupSize part
    (List.range 4).any fun i => gs.contains i && runsOverlap (i * q) q off n
  | 0xA =>
    let nz := partTiles part
    (List.range (partTiles part * partCtx part)).any fun t =>
      runsOverlap (t * 65536) 65536 off n &&
      (match s.ctx (4 * g.core + t / nz) with
       | some x => (x.busyUpto (t % nz)).isSome || x.frozenTile (t % nz) || x.joinHolds (t % nz)
       | none => false)
  | _ => false

/-! ### Barriers as engines reach them (R168, R170, R225) -/

/-- A macro-op reads the bank group of a barrier. -/
def State.barBusy (s : State) (l : Loc) : Bool :=
  match l with
  | .spad k off => (s.groupsRead k).contains (off / groupSize (s.core k).part)
  | _ => false

/-- The token of a collective whose barrier or block has received its completion clears, with status OK (R465). -/
def State.collReplies (s : State) (r : Option (Nat × Nat × Nat)) : State :=
  match r with
  | some (c, k, d) => s.replyTo c k d 0#64
  | none => s

/-- An engine acts on a barrier; while a macro-op reads its bank group the action waits (R168, R225). -/
def State.engBar (s : State) (l : Loc) (a : BarAct) (coll : Option (Nat × Nat × Nat) := none) : State :=
  if s.barBusy l || s.barWaits.any (fun w => w.loc == l) then { s with barWaits := s.barWaits ++ [⟨l, a, coll⟩] }
  else (s.tbarDo l fun b => b.act a).collReplies coll

/-- The actions that wait for a bank group which no macro-op reads any more are made, in their order. -/
def State.engBars (s : State) : State :=
  if s.barWaits.isEmpty then s
  else
    let go := s.barWaits.filter fun w => !s.barBusy w.loc
    go.foldl (fun (s : State) w => (s.tbarDo w.loc fun b => b.act w.act).collReplies w.coll) { s with barWaits := s.barWaits.filter fun w => s.barBusy w.loc }

/-! ### The fault queue (R285) -/

/-- Whether the next place of a die's fault queue is free (R285): one of its 64 places whose entry nothing has still to act on (log
entry 74). -/
def FaultQueue.room (q : FaultQueue) : Bool := !(SMap.get {} q.entries (q.tail.toNat % 64)).pend

/-- The queue without the entries of an operation that has ended. -/
def FaultQueue.without (q : FaultQueue) (p : FqEntry → Bool) : FaultQueue :=
  { q with waiting := q.waiting.filter fun e => !p e
           entries := SMap.mapVals {} (fun (e : FqEntry) => { e with pend := e.pend && !p e }) q.entries }

/-- Append an entry, and write FQTAIL to FQNOTE (R285). -/
def State.fqAppend (s : State) (d : Nat) (e : FqEntry) : State :=
  let q := (s.die d).fq
  let tail := q.tail + 1
  let s := s.modDie d fun x =>
    { x with fq := { q with tail := tail, entries := SMap.set {} q.entries (q.tail.toNat % 64) { e with pend := true } } }
  if q.note = 0#48 then s
  else match s.translateDie d true .write q.note.toNat with
    | .ok pa => s.writePhys d pa (toBytes 8 tail.toNat)
    | _ => s

/-- A fault for the queue: appended at once, or kept until a place is free. -/
def State.fqPush (s : State) (d : Nat) (e : FqEntry) : State :=
  if (s.die d).fq.room && (s.die d).fq.waiting.isEmpty then s.fqAppend d e
  else s.modDie d fun x => { x with fq := { x.fq with waiting := x.fq.waiting ++ [e] } }

/-- Waiting faults enter the queue as places free; `n` bounds how many. -/
def State.fqDrain (s : State) (d : Nat) : Nat → State
  | 0 => s
  | n + 1 =>
    match (s.die d).fq.waiting with
    | [] => s
    | e :: rest =>
      if (s.die d).fq.room then
        ((s.modDie d fun x => { x with fq := { x.fq with waiting := rest } }).fqAppend d e).fqDrain d n
      else s

/-! ### CRC-32C (R172, R185) -/

/-- One step over a byte, without the initial and final complement. -/
def crcStep (c : W32) (b : Byte) : W32 :=
  (List.range 8).foldl (fun (c : W32) _ => if c.getLsbD 0 then (c >>> 1) ^^^ 0x82F63B78#32 else c >>> 1) (c ^^^ b.zeroExtend 32)

/-- CRC-32C of bytes. -/
def crc32c (bs : List Byte) : W32 := ~~~(bs.foldl crcStep 0xFFFFFFFF#32)

/-! ### Runs of numbers -/

/-- A signed field of a word. -/
def sbits {w : Nat} (x : BitVec w) (hi lo : Nat) : Int := signedOf (hi - lo + 1) (bits x hi lo)

end Sys2Proof.Machine
end

