-- ==== Sys2Proof/Machine/VectorData.lean ====
section
/-! DEFINITION. The vector data-movement and generator operations (file 18). -/

namespace Sys2Proof.Machine

/-- The form of an operation on whole 32-bit lanes. -/
def laneForm (variants : List Nat) : VForm := { types := [9], variants := variants }

/-! ### Moves and generators (R404) -/

/-- VMOV (R404): a bit copy. -/
def evalVmov (f : VReg) (e : Env) : SlotOut :=
  let ty := f.ty.toNat
  let v := e.vargs f
  e.vguarded f { vs1 := false, types := List.range 16 } [] (e.vplain f 2 fun i => holdLane ty (elemOf ty (v.b.lane i)))

/-- VBCST (R404). -/
def evalVbcst (f : VReg) (e : Env) : SlotOut :=
  let v := e.vargs f
  let x := v.a.lane (bits (v.b.lane 0) 5 0)
  e.vguarded f (laneForm [0]) [] (e.vplain f 2 fun _ => x)

/-- VIOTA (R404). -/
def evalViota (f : VReg) (e : Env) : SlotOut :=
  let ty := f.ty.toNat
  let v := e.vargs f
  e.vguarded f { vs1 := false, types := tyInt, variants := List.range 8 } []
    (e.vplain f 2 fun i => holdLane ty (elemOf ty (v.b.lane i) + i * 2 ^ f.var.toNat))

/-! ### Permutations (R405 to R407) -/

/-- VPERM (R405). -/
def evalVperm (f : VReg) (e : Env) : SlotOut :=
  let v := e.vargs f
  e.vguarded f (laneForm [0, 1]) []
    (e.vplain f 3 fun i =>
      let x := v.b.lane i
      if f.var = 1#3 ∧ bits x 31 6 ≠ 0 then 0#32 else v.a.lane (bits x 5 0))

/-- The lane that VSHUF writes (R406). -/
def shuffle (mode i : Nat) (a b : Vec) : W32 :=
  match mode with
  | 0 => if i % 2 = 0 then a.lane (i / 2) else b.lane ((i - 1) / 2)
  | 1 => if i % 2 = 0 then a.lane (32 + i / 2) else b.lane (32 + (i - 1) / 2)
  | 2 => if i < 32 then a.lane (2 * i) else b.lane (2 * i - 64)
  | 3 => if i < 32 then a.lane (2 * i + 1) else b.lane (2 * i - 63)
  | 4 => a.lane (63 - i)
  | _ => a.lane (i ^^^ 32)

/-- VSHUF (R406): REV and SWAP have no second source. -/
def evalVshuf (f : VReg) (e : Env) : SlotOut :=
  let v := e.vargs f
  e.vguarded f { op2 := if f.var.toNat = 4 ∨ f.var.toNat = 5 then .zero else .any, types := [9], variants := List.range 6 } []
    (e.vplain f 3 fun i => shuffle f.var.toNat i v.a v.b)

/-- VSLIDE (R407): `.UP` is bit 0, `.F` bit 1. -/
def evalVslide (f : VReg) (e : Env) : SlotOut :=
  let v := e.vargs f
  let s := bits (v.b.lane 0) 5 0
  let fill := fun (j : Nat) => if f.var.getLsbD 1 then v.c.lane j else 0#32
  e.vguarded f (laneForm [0, 1, 2, 3]) []
    (e.vplain f 3 fun i =>
      if f.var.getLsbD 0 then (if s ≤ i then v.a.lane (i - s) else fill (64 + i - s))
      else (if i + s < 64 then v.a.lane (i + s) else fill (i + s - 64)))

/-! ### Bit fields and tables (R408 to R410) -/

/-- A vector as one number, lane 0 lowest: its 2,048 bits (R408) and its 256 bytes (R411). -/
def vecNat (v : Vec) : Nat := (List.range 64).foldr (fun i n => (v.lane i).toNat + 2 ^ 32 * n) 0

/-- The vector of a number. -/
def vecOfNat (n : Nat) : Vec := Vec.ofLanes fun i => BitVec.ofNat 32 (n / 2 ^ (32 * i))

/-- The widths that VARIANT selects in VBEXT (R401). -/
def vbextWidth (var : Nat) : Nat := [1, 2, 3, 4, 6, 8, 12, 16].getD var 16

/-- VBEXT (R408). -/
def evalVbext (f : VReg) (e : Env) : SlotOut :=
  let v := e.vargs f
  let wd := vbextWidth f.var.toNat
  let str := vecNat v.a
  e.vguarded f { types := [8, 9], variants := List.range 8 } []
    (e.vplain f 2 fun i =>
      let x := str / 2 ^ (bits (v.b.lane i) 10 0 + i * wd) % 2 ^ wd
      if f.ty = 8#4 then BitVec.ofInt 32 (signedOf wd x) else BitVec.ofNat 32 x)

/-- VLUT (R409). -/
def evalVlut (f : VReg) (e : Env) : SlotOut :=
  let ty := f.ty.toNat
  let v := e.vargs f
  e.vguarded f { op2 := .table, types := [0, 1, 2, 3, 4] ++ tyInt } []
    (e.vplain f 2 fun i =>
      holdLane ty (elemOf ty (SMap.get 0#32 e.x.c (f.op2.toNat + bits (v.a.lane i) 2 0))))

/-- VLUTLD (R410): one constant for each active lane of the first eight. -/
def evalVlutld (f : VReg) (e : Env) : SlotOut :=
  let v := e.vargs f
  e.vguarded f { vd := .zero, op2 := .table, types := [9] } []
    (.act none fun s =>
      (List.range 8).foldl (fun s j =>
        if e.g.getLsbD j then s.addFlight e.c 2 (.scalar (.const (f.op2.toNat + j)) ((v.a.lane j).zeroExtend 64)) else s) s)

/-! ### Pixels (R411, R412) -/

/-- Twelve-bit pixel `i` of 96 bytes taken as one number (R183, R411): two pixels in three bytes. -/
def pixelOf (n i : Nat) : Nat := n / 2 ^ (12 * i) % 4096

/-- VUNPK12 (R411): `.HI` is bit 0, `.LJ` bit 1. -/
def evalVunpk12 (f : VReg) (e : Env) : SlotOut :=
  let v := e.vargs f
  let n := vecNat v.a / 2 ^ (if f.var.getLsbD 0 then 768 else 0)
  e.vguarded f { op2 := .zero, types := [11], variants := [0, 1, 2, 3] } []
    (e.vplain f 2 fun i => BitVec.ofNat 32 (if f.var.getLsbD 1 then pixelOf n i * 16 else pixelOf n i))

/-- VPACK12 (R412): the bits of the active pixels replace those of the old vd; every other bit is the old vd's. -/
def evalVpack12 (f : VReg) (e : Env) : SlotOut :=
  let v := e.vargs f
  let base := if f.var.getLsbD 0 then 768 else 0
  let old := vecNat v.c
  let part := fun (val : Nat → Nat) => (List.range 64).foldl (fun n i =>
    if e.g.getLsbD i then n + val i * 2 ^ (base + 12 * i) else n) 0
  let keep := part fun i => old / 2 ^ (base + 12 * i) % 4096
  let new := part fun i => if f.var.getLsbD 1 then bits (v.a.lane i) 15 4 else bits (v.a.lane i) 11 0
  e.vguarded f { op2 := .zero, types := [11], variants := [0, 1, 2, 3] } []
    (e.result 2 (.vector (e.vdst f) (vecOfNat (old - keep + new)) Mask.all))

/-! ### Random words (R413) -/

/-- VRNG (R413). -/
def evalVrng (f : VReg) (e : Env) : SlotOut :=
  let v := e.vargs f
  let unit := f.var = 1#3
  e.vguarded f { types := [if unit then 0 else 9], variants := [0, 1] } []
    (e.vplain f 5 fun i =>
      let x := vrngWord (v.a.lane i) (v.b.lane i)
      if unit then BitVec.ofNat 32 (fF32.round .rne true (.dyadic false (x >>> 8).toNat (-24))).bits else x)

/-! ### Reductions and scans (R414 to R416) -/

/-- Op of R414 on two encodings: mode 0 SUM, 1 MAX, 2 MIN. Floating sums round to nearest even, and tiny ones are flushed (R416). -/
def redOp (ty mode x y : Nat) : Rounded :=
  match fmtOf ty with
  | some f =>
    if mode = 0 then f.round .rne false ((f.value x).add false (f.value y)) else ⟨pickFp (mode == 1) ty x y, false⟩
  | none =>
    if mode = 0 then ⟨(x + y) % 2 ^ laneWidth ty, false⟩
    else
      let less := decide (intOf ty x < intOf ty y)
      ⟨if less = (mode == 1) then y else x, false⟩

/-- One level of the pairwise tree (R414), and whether an intermediate value was tiny. -/
def treeLevel (ty mode : Nat) : List (Option Nat) → List (Option Nat) × Bool
  | a :: b :: rest =>
    let r := treeLevel ty mode rest
    match a, b with
    | some x, some y =>
      let o := redOp ty mode x y
      (some o.bits :: r.1, o.tiny || r.2)
    | some x, none => (some x :: r.1, r.2)
    | none, y => (y :: r.1, r.2)
  | xs => (xs, false)

/-- The six levels of the tree. -/
def treeReduce (ty mode : Nat) : Nat → List (Option Nat) → List (Option Nat) × Bool
  | 0, xs => (xs, false)
  | k + 1, xs =>
    let r := treeLevel ty mode xs
    let q := treeReduce ty mode k r.1
    (q.1, r.2 || q.2)

/-- A result whose intermediate values follow R300 (R416). -/
def Env.reduced (e : Env) (f : VReg) (lat : Nat) (v : Vec) (tiny : Mask) : SlotOut :=
  if fmtAssist e.x.fmt && tiny != 0#64 then e.trap 0x0A tiny
  else .act none fun s =>
    (s.addFlight e.c lat (.vector (e.vdst f) v e.g)).modCtx e.c fun x => x.flagSub (tiny != 0#64)

/-- VRED (R414). -/
def evalVred (f : VReg) (e : Env) : SlotOut :=
  let ty := f.ty.toNat
  let amax := f.var = 3#3
  let v := e.vargs f
  let lanes := (List.range 64).map fun i =>
    if e.g.getLsbD i then
      let a := elemOf ty (v.a.lane i)
      some (if amax then a % signBit ty else a)
    else none
  let r := treeReduce ty (if amax then 1 else f.var.toNat) 6 lanes
  let res := holdLane ty (canonical ty ((r.1.headD none).getD 0))
  e.vguarded f { op2 := .zero, types := if amax then [0, 1] else [0, 1] ++ tyInt, variants := [0, 1, 2, 3] } []
    (e.reduced f 6 (Vec.splat res) (if r.2 then e.g else 0#64))

/-- Identity of a scan (R415). -/
def scanIdentity (ty mode : Nat) : Nat :=
  if mode = 0 then 0
  else match fmtOf ty with
    | some f => f.signed (mode == 1) f.infPat
    | none => ((if mode = 1 then (intRange ty).1 else (intRange ty).2) % 2 ^ laneWidth ty).toNat

/-- A scan in progress: the carry and whether it came out tiny, the results so far, and the lanes whose written value or contribution is
tiny (R415, R416). -/
structure ScanAcc where
  carry : Option Nat
  fresh : Bool
  out : SMap W32
  tiny : Mask

/-- One active lane of a scan (R415). -/
def ScanAcc.step (ty mode : Nat) (ex : Bool) (xs : Nat → Nat) (a : ScanAcc) (i : Nat) : ScanAcc :=
  let x := xs i
  let r : Rounded := match a.carry with
    | none => ⟨canonical ty x, false⟩
    | some c => redOp ty mode c x
  { carry := some r.bits
    fresh := r.tiny
    out := a.out ++ [(i, holdLane ty (if ex then a.carry.getD (scanIdentity ty mode) else r.bits))]
    tiny := if r.tiny || (ex && a.fresh) then a.tiny ||| (1#64 <<< i) else a.tiny }

/-- VSCAN (R415). -/
def evalVscan (f : VReg) (e : Env) : SlotOut :=
  let ty := f.ty.toNat
  let mode := bits f.var 2 1
  let v := e.vargs f
  let carry := if f.kind = 0#2 ∧ f.op2 = 336#9 then none else some (canonical ty (elemOf ty (v.b.lane 63)))
  let r := (Mask.lanes e.g).foldl (ScanAcc.step ty mode (f.var.getLsbD 0) fun i => elemOf ty (v.a.lane i))
    ⟨carry, false, [], 0#64⟩
  e.vguarded f { types := [0, 1] ++ tyInt, variants := List.range 6 } []
    (e.reduced f 8 (Vec.ofLanes fun i => SMap.get 0#32 r.out i) r.tiny)

/-! ### Copies between files (R417) -/

/-- The checks of VCPY (R417): WHOLE, EXTRACT or INSERT by the mode. -/
def Env.vcpyChecks (e : Env) (f : VReg) : List Check :=
  let mode := f.var.toNat
  let file := bits f.op2 8 6
  let lane := bits f.op2 5 0
  let r := vStep e.n f.step.toNat f.vd
  let top := if mode = 1 then (if file < 2 then 64 else 32) else e.vreg
  [ ⟨decide (320 ≤ f.vd.toNat) || decide (top ≤ r), 0, r⟩,
    ⟨f.kind != 0#2, 2, f.kind.toNat⟩,
    ⟨(if mode = 1 then decide (3 < file) else file != 4) || (mode == 0 && lane != 0), 3, f.op2.toNat⟩ ]

/-- VCPY (R417): EXTRACT and INSERT have the guard bit of their lane; with it false they write and raise nothing (R418), and a stream register
gives its vector if any lane is active (R166, R403). -/
def evalVcpy (f : VReg) (e : Env) : SlotOut :=
  let mode := f.var.toNat
  let file := bits f.op2 8 6
  let lane := bits f.op2 5 0
  let r := vStep e.n f.step.toNat f.vd
  let v := e.vargs f
  let ty := f.ty.toNat
  let other := Dest.vreg (!isW f.slot) r
  let m : VForm := { vd := .own, op2 := .own, types := if mode = 1 then [0, 1] ++ tyInt else [9], variants := [0, 1, 2] }
  if (mode = 1 ∨ mode = 2) ∧ !e.g.getLsbD lane then
    match e.vguarded f m (e.vcpyChecks f) (.act none id) with
    | .trap t => if t.code = 0x11 then .act none (e.pops (vStreams f m) id) else .none
    | o => o
  else
    e.vguarded f m (e.vcpyChecks f)
      (match mode with
       | 0 => e.result 2 (.vector other v.a e.g)
       | 1 =>
         let x := elemOf ty (v.a.lane lane)
         e.result 2 (.scalar (fileDest file r)
           (if isSignedTy ty then BitVec.ofInt 64 (intOf ty x) else BitVec.ofNat 64 x))
       | _ => e.result 2 (.vector other (Vec.splat (v.a.lane 0)) (1#64 <<< lane)))

end Sys2Proof.Machine
end

