-- ==== Sys2Proof/Machine/Jobs.lean ====
section
/-! DEFINITION. The job scheduler of a die (R162 to R168): its jobs, how one ends, and what that brings to the jobs ordered after it. -/

namespace Sys2Proof.Machine

/-- An end state (R162). -/
def JState.ended : JState → Bool
  | .queued => false
  | .waiting => false
  | .running => false
  | .suspended => false
  | _ => true

/-- STATE as SLSTAT reads it (R162). -/
def JState.code : JState → Nat
  | .queued => 0 | .waiting => 1 | .running => 2 | .suspended => 3 | .done => 4 | .integ => 5 | .ecc => 6 | .norecord => 7
  | .killed => 8 | .aborted => 9 | .codec => 10

/-- A job of a die. -/
def State.job (s : State) (d serial : Nat) : Option Job := (s.die d).jobs.find? fun j => j.serial == serial

/-- Change a job of a die. -/
def State.modJob (s : State) (d serial : Nat) (f : Job → Job) : State :=
  s.modDie d fun x => { x with jobs := mapWhere (fun j => j.serial == serial) f x.jobs }

/-- The status word (R162). -/
def Job.word (j : Job) : W64 :=
  BitVec.ofNat 64 (min j.pos (2 ^ 32 - 1) * 2 ^ 32 + j.ovf % 65536 * 65536 + (if j.fallback then 32768 else 0) + j.state.code)

/-- JOBREF (R456). -/
def jobRef (d serial place : Nat) : W64 := BitVec.ofNat 64 (d * 2 ^ 42 + serial % 2 ^ 32 * 2 ^ 10 + place)

/-- Jobs that have not ended. -/
def Die.live (d : Die) : List Job := d.jobs.filter fun j => !j.state.ended

/-- Jobs that hold a place of the scheduler (R167). -/
def Die.held (d : Die) : List Job := d.live.filter fun j => j.state != .queued

/-- Whether two regions overlap and one of them is written (R168). -/
def Region.conflicts (a b : Region) : Bool :=
  a.space == b.space && a.owner == b.owner && (a.write || b.write) && runsOverlap a.base a.len b.base b.len

/-- The jobs that a new job is ordered after (R168). -/
def Die.orderedBefore (d : Die) (rs : List Region) : List Nat :=
  (d.live.filter fun j => j.regions.any fun a => rs.any fun b => a.conflicts b).map (·.serial)

/-- The lowest free place (R456). -/
def Die.freePlace (d : Die) : Option Nat :=
  if d.held.length < 1024 then (List.range 1024).find? fun p => !d.held.any fun j => j.place == p else none

/-- A job is accepted; the status words of jobs more than 4,096 acceptances old are kept no longer (R457). -/
def State.acceptJob (s : State) (d : Nat) (j : Job) : State :=
  s.modDie d fun x =>
    { x with
      accepted := x.accepted + 1
      jobs := (x.jobs.filter fun k => !k.state.ended || decide (x.accepted < k.serial + 4096)) ++
        [{ j with serial := x.accepted, preds := x.orderedBefore j.regions }] }

/-- The barrier of a Sluice job (R156): its place. -/
def Job.barrier (j : Job) : Option Loc :=
  match j.kind with
  | .sluice card =>
    let w := card.getD 4 0#64
    if bit w 59 then
      let off := bits w 57 40 * 16
      some (if bit w 58 then .sram (ctxCluster j.ctx) off else .spad (ctxCore j.ctx) off)
    else none
  | _ => none

/-- The flags that an end state sets on a barrier (R164, R173): ERR 1, INTEG 2, ABORT 4. -/
def JState.flags : JState → Nat
  | .done => 0
  | .integ => 3
  | .aborted => 4
  | _ => 1

/-- The context that has waited longest among those of a die that wait for a reason leaves its wait (R167, R177). -/
def State.wakeOldest (s : State) (p : Nat → WaitWhy → Bool) : State :=
  let best := s.ctxs.foldl (fun (b : Option (Nat × Nat)) kv =>
    match kv.2 with
    | some x =>
      (match x.run with
      | .waiting w => if p kv.1 w then (match b with | some (a, _) => if x.age < a then some (x.age, kv.1) else b | none => some (x.age, kv.1)) else b
      | _ => b)
    | none => b) none
  match best with
  | some (_, c) => s.insertReady c
  | none => s

/-! ### Riffle units (R174 to R181, R197) -/

/-- A unit of a cluster. -/
def State.riffle (s : State) (cl u : Nat) : Riffle := SMap.get {} (s.cluster cl).riffle u
/-- Change a unit of a cluster. -/
def State.modRiffle (s : State) (cl u : Nat) (f : Riffle → Riffle) : State :=
  s.modCluster cl fun x => { x with riffle := SMap.modify {} x.riffle u f }

/-- The unit of a cluster that a unit of a codec job passes through (R197): the fewest queued operations, then the lowest number. -/
def State.leastRiffle (s : State) (cl : Nat) : Nat :=
  [1, 2, 3].foldl (fun b u => if (s.riffle cl u).queue.length < (s.riffle cl b).queue.length then u else b) 0

/-- The Riffle unit of a cluster in which a unit of a job has its place, and whether it stands at the head. -/
def State.passOf (s : State) (cl d serial : Nat) : Option (Nat × Bool) :=
  [0, 1, 2, 3].findSome? fun u =>
    let q := (s.riffle cl u).queue
    if q.any fun o => o.job == some (d, serial) then some (u, (q.head?.bind (·.job)) == some (d, serial)) else none

/-- A job's place in a Riffle unit goes, and a context that waits for room there is re-inserted (R177, R197). -/
def State.dropPass (s : State) (cl d serial : Nat) : State :=
  match s.passOf cl d serial with
  | none => s
  | some (u, _) =>
    (s.modRiffle cl u fun r => { r with queue := r.queue.filter fun o => o.job != some (d, serial) }).wakeOldest fun _ w => w == .riffle cl u

/-! ### Stash entries (R202 to R204) -/

/-- TAG of a key. -/
def keyTag (k : Nat) : Nat := k / 2 ^ 32
/-- STAGE of a key. -/
def keyStage (k : Nat) : Nat := k / 2 ^ 29 % 8

/-- A stash entry of a die's Eddy. -/
def State.stash (s : State) (d key : Nat) : Option Stash := (s.die d).eddy.stashes.find? fun e => e.key == key

/-- Change a stash entry. -/
def State.modStash (s : State) (d key : Nat) (f : Stash → Stash) : State :=
  s.modDie d fun x => { x with eddy := { x.eddy with stashes := mapWhere (fun e => e.key == key) f x.eddy.stashes } }

/-- The writes of an entry in flight (BUSY, R204). -/
def State.stashBusy (s : State) (d key : Nat) : Bool :=
  (s.die d).live.any fun j => j.kind == .store key || j.kind == .restore key

/-- Address of a unit of an arena (R199). -/
def arenaAddr (base : BitVec 48) (r : Nat × Nat) : Nat := base.toNat + 4096 * r.1

/-- The physical lines of a run of the near arena, page by page. -/
def State.arenaRunLines (s : State) (d : Nat) (r : Nat × Nat) : List Nat :=
  (List.range r.2).flatMap fun i =>
    match s.translateDie d true .read (arenaAddr (s.die d).eddy.nbase r + 4096 * i) with
    | .ok pa => (List.range 32).map fun k => pa / 128 + k
    | _ => []

/-- Lines of a cache die that are pinned for an Eddy's near arena: neither a lease nor the gauge pool pins them (R47, R199). -/
def State.arenaLines (s : State) (cache : Nat) : Nat :=
  (s.llc.filter fun kv => kv.2.pinned && lineHome kv.1 == cache && !s.pinsLine kv.1).length

/-- Bytes that the active leases pin on each cache die (R47). -/
def State.leaseBytes (s : State) : Nat := (s.activeLeases.map fun l => l.len.toNat * 4096).foldl (· + ·) 0 / 8

/-- The pinned lines of a cache die stay within the limit of R47 with so many bytes of leases. -/
def State.pinRoom (s : State) (cache leases : Nat) : Bool := decide (leases + 128 * s.arenaLines cache ≤ 1536 * 0x100000)

/-- A line of the near arena is pinned as it is written, within the limit of R47; a line beyond it stays ordinary (R199). -/
def State.pinArena (s : State) (line : Nat) : State :=
  let s := (List.range 4).foldl (fun (s : State) k => s.llcServe (4 * line + k) .writeWhole) s
  if SMap.get {} s.llc line == {} ∨ !s.pinRoom (lineHome line) (s.leaseBytes + 128) then s
  else { s with llc := SMap.modify {} s.llc line fun l => { l with pinned := true } }

/-- Data written to a run of the near arena: its lines are pinned (R199). -/
def State.pinRun (s : State) (d : Nat) (r : Nat × Nat) : State := (s.arenaRunLines d r).foldl State.pinArena s

/-- The lines of a run of the near arena that goes become ordinary lines. -/
def State.unpinRun (s : State) (d : Nat) (r : Nat × Nat) : State :=
  (s.arenaRunLines d r).foldl (fun (s : State) n =>
    if (SMap.get {} s.llc n).pinned && !s.pinsLine n then { s with llc := SMap.modify {} s.llc n fun l => { l with pinned := false } } else s) s

/-- The runs of the near arena that an entry holds go (R199). -/
def State.unpinStash (s : State) (d : Nat) (e : Stash) : State := (e.near.toList ++ e.dest.toList).foldl (fun (s : State) r => s.unpinRun d r) s

/-- An entry without writes in flight goes where an EDFREE waits for it (R204). -/
def State.stashFree (s : State) (d key : Nat) : State :=
  match s.stash d key with
  | none => s
  | some e =>
    if e.frees.isEmpty || s.stashBusy d key then s
    else e.frees.foldl (fun (s : State) w => s.replyTo w.1 w.2.1 w.2.2 0#64)
      (((s.unpinStash d e).modDie d fun x => { x with eddy := { x.eddy with stashes := x.eddy.stashes.filter fun e => e.key != key } }).evalSoon d
        (keyStage key))

/-- Sectors of a stash entry's plain data that a feed may read (R203): those that the restore has applied, all of them once it has ended. -/
def State.feedSectors (s : State) (d key : Nat) : Option Nat :=
  match s.stash d key with
  | some e => if e.state = .restoring then some e.done else none
  | none => none

/-- The next vector of a stash entry, if its bytes are restored (R203): the vector, the physical address of uncorrectable data in it (R31), and
how many of its sectors there are. -/
def State.feedVector (s : State) (c d key : Nat) (a : W64) (left : Nat) : Option (Vec × Option Nat) :=
  let g := Agent.ofCtx c true
  let n := min 256 (32 * left)
  let total := match s.stash d key with | some e => e.len | none => left
  let there := match s.feedSectors d key with | some k => decide (total - left + min 8 left ≤ k) | none => true
  if left = 0 ∨ !there then none
  else match s.engRead g a n with
    | .ok bs => some (vecOfNat (leNat bs), none)
    | .error (.ecc pa) => (match ({ s with poison := [] }).engRead g a n with
        | .ok bs => some (vecOfNat (leNat bs), some pa)
        | .error _ => none)
    | .error _ => none

/-- The vectors that a feed has still to take of the first `n` of a stash entry. -/
def State.feedLeft (s : State) (c d key n : Nat) (a : W64) (left : Nat) : List (Nat × Vec) :=
  let total := match s.stash d key with | some e => e.len | none => left
  (List.range (n - (total - left) / 8)).filterMap fun i =>
    (s.feedVector c d key (a + BitVec.ofNat 64 (256 * i)) (left - 8 * i)).map fun v => (0, v.1)

/-- The streams that a failed restore would have fed end as a drain does, behind the whole vectors that it has restored (R203). -/
def State.endFeed (s : State) (c d key f : Nat) : State :=
  s.modCtx c fun x =>
    let t := SMap.get {} x.f f
    match t.bound, s.stash d key with
    | some (.stash d' k a left), some e =>
      if d' = d ∧ k = key then
        let vs := s.feedLeft c d key (e.done / 8) a left
        let u : Stream := if t.buf.isEmpty ∧ vs.isEmpty then {} else { t with bound := some (.stash d k 0#64 0), coming := vs, ended := true }
        { x with f := SMap.set {} x.f f u }
      else x
    | _, _ => x

/-- A store or restore fails (R202, R203): the entry is DROPPED with ERR, its stored copy is released, what is attached to it learns of it,
and its tokens clear. Where a restore of the entry stands behind a store that fails, what waits for the restore learns of it from its own end. -/
def State.dropStash (s : State) (d key flags : Nat) : State :=
  match s.stash d key with
  | none => s
  | some e =>
    let behind := (s.die d).live.any fun j => j.kind == .restore key
    let attach := if behind then [] else e.attach
    let waiters := if behind then [] else e.waiters
    let s := attach.foldl (fun (s : State) a => match a with
      | .barrier l => s.engBar l (.flags flags)
      | .stream c f => s.endFeed c d key f) s
    let s := (s.unpinStash d e).modStash d key fun e =>
      { e with
        state := .dropped, err := true, near := none, far := none, lp := none, dest := none, done := 0
        attach := if behind then e.attach else [], waiters := if behind then e.waiters else [] }
    let s := s.evalSoon d (keyStage key)
    (waiters.foldl (fun (s : State) w => s.modCtx w.1 fun x => x.tokDown w.2) s).stashFree d key

/-- A place of the scheduler may have become free (R167): the oldest job without one takes it, or else the context that has waited longest for one
is re-inserted. -/
def State.placeFreed (s : State) (d : Nat) : State :=
  let s := match (s.die d).jobs.find? fun j => j.state == .queued, (s.die d).freePlace with
    | some j, some p => s.modJob d j.serial fun k => { k with state := .waiting, place := p }
    | _, _ => s
  if (s.die d).freePlace.isSome then s.wakeOldest fun c w => ctxDie c == d && w == .scheduler else s

/-- One job reaches an end state: its token clears, its barrier takes the flags, and a place frees (R162, R164, R167). -/
def State.endOne (s : State) (d : Nat) (j : Job) (st : JState) : State :=
  let s := s.modJob d j.serial fun k => { k with state := st }
  let s := match j.token with
    | some t => s.modCtx j.ctx fun x => x.tokDown t
    | none => s
  let s := match j.barrier with
    | some l => if st.flags = 0 then s else s.engBar l (.flags st.flags)
    | none => s
  let s := match j.kind with
    | .sluice _ => s.dropPass (ctxCluster j.ctx) d j.serial
    | .store key => if st = JState.done then s.stashFree d key else s.dropStash d key st.flags
    | .restore key => if st = JState.done then s.stashFree d key else s.dropStash d key st.flags
  s.placeFreed d

/-- The jobs ordered after a failed one are cancelled, and those after them (R164); `fuel` exceeds the number of jobs. -/
def State.abortAfter (s : State) (d : Nat) : Nat → List Nat → State
  | 0, _ => s
  | fuel + 1, failed =>
    match (s.die d).live.find? fun j => j.preds.any failed.contains with
    | none => s
    | some j => (s.endOne d j .aborted).abortAfter d fuel (j.serial :: failed)

/-- A job ends (R162 to R164). -/
def State.endJob (s : State) (d serial : Nat) (st : JState) : State :=
  match s.job d serial with
  | none => s
  | some j =>
    if j.state.ended then s
    else
      let s := s.endOne d j st
      if st = .done then s else s.abortAfter d (s.die d).jobs.length [serial]

/-- The jobs before a job are all DONE (R163). -/
def State.predsDone (s : State) (d : Nat) (j : Job) : Bool :=
  j.preds.all fun n => match s.job d n with | some k => k.state == .done | none => true

/-- A job waits on an entry of the fault queue. -/
def State.jobFaulted (s : State) (d : Nat) (j : Job) : Bool :=
  let r := jobRef d j.serial j.place
  let hit := fun (e : FqEntry) => e.pend && e.jobref == r && (e.agent == 1#4 || e.agent == 3#4 || e.agent == 4#4)
  ((s.die d).fq.entries.any fun kv => hit kv.2) || (s.die d).fq.waiting.any fun e => hit { e with pend := true }

end Sys2Proof.Machine
end

