-- ==== Sys2Proof/Machine/Gauge.lean ====
section
/-! DEFINITION. Gauge records (R68 to R79, R469 to R471): allocation, sector updates, seals and rescales, and the merge that GRD reads;
and the writing of tensor records (R65, R66). -/

namespace Sys2Proof.Machine

/-! ### Writes that must reach every die -/

/-- A write has been applied at all four dies. -/
def State.reached (s : State) (id : Nat) : Bool := s.writes.all fun w => w.id != id || w.everywhere

/-- The step of a frame has one seal less to wait for (R148). -/
def State.sealApplied (s : State) (d n f g : Nat) : State :=
  s.modStage d n fun st =>
    match SMap.get none st.frames f with
    | some x => { st with frames := SMap.set none st.frames f (some { x with sealsLeft := x.sealsLeft.filter (· != g) }) }
    | none => st

/-- What waits for writes that have now been applied everywhere ends (R70, R75, R76). -/
def State.settleWaits (s : State) : State :=
  let ready := fun (w : WriteWait) => w.ids.all s.reached
  let s' : State := { s with writeWaits := s.writeWaits.filter fun w => !ready w }
  (s.writeWaits.filter ready).foldl (fun (t : State) w =>
    let t := match w.reply with
      | some (c, k, d, v) => t.replyTo c k d v
      | none => t
    w.steps.foldl (fun (t : State) f => t.sealApplied f.1 f.2.1 f.2.2 w.g) t) s'

/-- Several writes that a die makes at their homes. -/
def State.writeHomes (s : State) (d : Nat) : List (Nat × List Byte) → State
  | [] => s
  | (pa, bs) :: ws => (s.writeHome d pa bs).writeHomes d ws

/-- Writes of a die, and what ends once they have been applied at all four dies. -/
def State.writeAndWait (s : State) (d : Nat) (ws : List (Nat × List Byte)) (w : WriteWait) : State :=
  let ids := (List.range ws.length).map (s.nextWrite + ·)
  let s := s.writeHomes d ws
  ({ s with writeWaits := s.writeWaits ++ [{ w with ids := ids }] }).settleWaits

/-! ### GNEW (R69, R70) -/

/-- ALLOC at the home of a record; one that cannot be read keeps its record out of the search, DESIGN CHOICE (log entry 76). -/
def State.gaugeUsed (s : State) (g : Nat) : Bool := (s.poisonIn (allocRead 0 g)).isSome || Nat.testBit (s.gaugeHome 0 g 0xA0) 0

/-- The ALLOC fields that the search for a free record up to `g` could not read are logged (R32). -/
def State.logAllocs (s : State) (g : Nat) : State :=
  s.poison.foldl (fun (s : State) q =>
    let off := 32 * q - gaugeBase
    if gaugeLine (q / 4) && off % 256 == 0xA0 && decide (off % 32768 / 256 < 32) && decide (off / 32768 * 32 + off % 32768 / 256 < g) then
      s.gaugeUE (32 * q)
    else s) s

/-- The lowest free index from `g` up; `fuel` bounds the search. -/
def State.freeGauge (s : State) : Nat → Nat → Option Nat
  | 0, _ => none
  | fuel + 1, g => if s.gaugeUsed g then s.freeGauge fuel (g + 1) else some g

/-- The target types of R70. -/
def gaugeTargets : List Nat := [0, 1, 2, 3, 4, 10, 12]

/-- The bytes of a shard at allocation (R69, R70). -/
def freshShard (target headroom : Nat) : List Byte :=
  List.replicate 0x90 0#8 ++ toBytes 4 0x3F800000 ++ toBytes 4 0 ++ toBytes 4 0x3F800000 ++ toBytes 4 (headroom * 16 + target) ++ toBytes 4 1 ++
    List.replicate 0x5C 0#8

/-- GNEW (R70): the state, the result {index, status}, and whether its token clears at once. The headroom is all of the operand above the
target, so a bit set above its field makes it exceed 7: DESIGN CHOICE, which the rule leaves open (log entry 66). -/
def State.gnew (s : State) (c token dest : Nat) (w : W64) : State × W64 × Bool :=
  let target := bits w 3 0
  let headroom := bits w 63 4
  if !gaugeTargets.contains target || decide (7 < headroom) then (s, 2#64, true)
  else match s.freeGauge 65536 0 with
  | none => (s.logAllocs 65536, 1#64, true)
  | some g =>
    ((s.logAllocs g).writeAndWait (ctxDie c) ((List.range 4).map fun d => (shardAddr d g, freshShard target headroom))
      { ids := [], reply := some (c, token, dest, BitVec.ofNat 64 (g * 65536)) }, 0#64, false)

/-! ### Sector updates (R72, R73) -/

/-- GAUGE_SECTOR_UPDATE (R72): one contribution on its way is applied at its shard; the last one of an operation clears its token. One that meets
uncorrectable data marks the token, as it does for a load, DESIGN CHOICE (log entry 76). -/
def State.applyGauge (s : State) (n : Nat) : State :=
  match s.gaugeQ[n]? with
  | none => s
  | some u =>
    let s : State := { s with gaugeQ := s.gaugeQ.eraseIdx n }
    let s := match u.token, s.poisonIn (sectorReads u.die u.g) with
      | some (c, k, _), some pa => s.modCtx c fun x => x.tokMark k pa
      | _, _ => s
    let s := s.gaugeSector u.die u.g u.c
    match u.token with
    | some (c, k, i) =>
      if s.gaugeQ.any fun v => (match v.token with | some (_, _, j) => j == i | none => false) then s
      else s.modCtx c fun x => x.tokDown k
    | none => s

/-! ### Seals and rescales (R75, R76, R79) -/

/-- SSCALE after a seal (R75), as FP32 bits. -/
def sealScale (target headroom mx old : Nat) : Nat :=
  if target ≤ 1 then 0x3F800000
  else if mx = 0 then old
  else
    let e : Int := if mx = 0x7F800000 then -126 else
      (match (maxFinite target).div (fF32.value mx) with
       | .num _ n d _ => clampInt (expOf n d - headroom) (-126) 127
       | _ => -126)
    (e + 127).toNat * 2 ^ 23

/-- The live fields of the four shards at their homes. -/
def State.liveHome (s : State) (g : Nat) : List Live := (List.range 4).map fun d => liveOf fun off => s.gaugeHome d g off

/-- EPOCH at the home of a record. -/
def State.epochHome (s : State) (g : Nat) : Nat := s.gaugeHome 0 g 0x94

/-- The writes of a seal or a rescale (R75): the sealed fields of every shard, and for a seal the live fields reset. `deferred` says that
it is a seal of the Weir, which ends the deferral (R76); any other leaves DEFER as it stands. -/
def State.sealWrites (s : State) (g : Nat) (rescale deferred : Bool) : List (Nat × List Byte) :=
  let m := mergeLive (s.liveHome g)
  let at' := fun (off : Nat) => s.gaugeHome 0 g off
  let target := at' 0x9C % 16
  let headroom := at' 0x9C / 16 % 8
  let old := at' 0x90
  (List.range 4).flatMap fun d =>
    let sat := if rescale then s.gaugeHome d g 0xA0 / 2 % 2 * 2 else 0
    let flags := at' 0xA0 % 2 + sat + (if m.nf = 0 then 0 else 4) + 8 + (if deferred then 0 else at' 0xA0 / 16 % 2 * 16)
    let sealed := toBytes 4 m.mx ++ toBytes 4 m.nf ++ toBytes 4 (sealScale target headroom m.mx old) ++
      toBytes 4 ((at' 0x94 + 1) % 2 ^ 32) ++ toBytes 4 old ++ toBytes 4 (at' 0x9C) ++ toBytes 4 flags ++ toBytes 4 0 ++ toBytes 8 s.time ++
      ((List.range 8).flatMap fun i => toBytes 4 (m.h.getD (8 * d + i) 0))
    let live := if rescale then [] else [(shardAddr d g, List.replicate 0x88 0#8)]
    live ++ [(shardAddr d g + 0x88, sealed)]

/-- The seal of a record that a step waits for is under way. -/
def State.sealRequested (s : State) (step : Nat × Nat × Nat) (g : Nat) : Bool :=
  (s.seals.any fun r => r.g == g && r.steps.contains step) || s.writeWaits.any fun w => w.g == g && w.steps.contains step

/-- The retirements of a die that wait for a seal of a record which nobody has asked for yet (R76): one seal is made for all of them. -/
def State.deferredSteps (s : State) (d g : Nat) : List (Nat × Nat × Nat) :=
  (s.die d).stages.flatMap fun st => st.2.frames.filterMap fun fr =>
    match fr.2 with
    | some t => if t.retiring && t.sealsLeft.contains g && !s.sealRequested (d, st.1, fr.1) g then some (d, st.1, fr.1) else none
    | none => none

/-- A seal of a record is deferred on some die (R69, R76). -/
def State.deferring (s : State) (g : Nat) : Bool := (List.range 4).any fun d => !(s.deferredSteps d g).isEmpty

/-- GAUGE_SEAL and GAUGE_RESCALE (R75): a request is served at the record's control point, whose writes compute die 0 makes, once what its
requester has seen is applied there (R259). A seal of the Weir ends the deferral where no seal of the record is deferred any more (R76). One that
meets uncorrectable data changes nothing: the error is logged, a token clears with the mark and without a result, and the retirements go on,
DESIGN CHOICE (log entry 76). -/
def State.serveSeal (s : State) (id : Nat) (rescale : Bool) : State :=
  match s.seals.find? fun r => r.id == id with
  | none => s
  | some r =>
    if r.rescale ≠ rescale ∨ !(s.die 0).vc.covers r.clock then s
    else
      let ends := r.reply.isNone && !s.deferring r.g
      let s : State := { s with seals := s.seals.filter fun q => q.id != id }
      match s.poisonIn (shardReads r.g 0 0xC8) with
      | some pa =>
        let s := s.gaugeUE pa
        let s := r.steps.foldl (fun (s : State) f => s.sealApplied f.1 f.2.1 f.2.2 r.g) s
        (match r.reply with
        | some (c, k, d) => (s.modCtx c fun x => x.tokMark k pa).answerResult c (d / 64) k []
        | none => s)
      | none =>
        let epoch := (s.epochHome r.g + 1) % 2 ^ 32
        s.writeAndWait 0 (s.sealWrites r.g rescale ends)
          { ids := [], reply := r.reply.map fun q => (q.1, q.2.1, q.2.2, BitVec.ofNat 64 (epoch * 2 ^ 32)), steps := r.steps, g := r.g }

/-- GSEAL and GRESCALE (R471): the result and whether the token clears at once. -/
def State.requestSeal (s : State) (c token dest g : Nat) (rescale : Bool) : State × W64 × Bool :=
  if !s.gaugeAlloc (ctxDie c) g then (s, BitVec.ofNat 64 (s.gaugeField (ctxDie c) (ctxDie c) g 0x94 * 2 ^ 32 + 1), true)
  else
    ({ s with
        seals := s.seals ++ [{ id := s.nextId, g := g, rescale := rescale, reply := some (c, token, dest), steps := [], die := ctxDie c
                               clock := (s.die (ctxDie c)).vc }]
        nextId := s.nextId + 1 }, 0#64, false)

/-! ### GRD (R74, R469) -/

/-- The merged live fields as they are applied at a die (R74). -/
def State.liveAt (s : State) (d g : Nat) : Live := mergeLive ((List.range 4).map fun q => liveOf fun off => s.gaugeField d q g off)

/-- Selectors of GRD (R469). -/
def grdValid (sel : Nat) : Bool := decide (sel ≤ 4) || (decide (0x20 ≤ sel) && decide (sel ≤ 0x5F))

/-- What GRD reads for a selector: ALLOC, then the fields of the reader's own shard, or of all four (R74, R469). -/
def grdReads (d g sel : Nat) : List (Nat × Nat) :=
  allocRead d g ++ match sel with
  | 0x00 => shardReads g 0x80 8
  | 0x01 => [(shardAddr d g + 0x90, 8)]
  | 0x02 => [(shardAddr d g + 0x88, 8)]
  | 0x03 => (shardAddr d g + 0x98, 8) :: shardReads g 0xA0 4
  | 0x04 => [(shardAddr d g + 0xA8, 8)]
  | _ => if sel < 0x40 then shardReads g (4 * (sel - 0x20)) 4 else [(shardAddr ((sel - 0x40) / 8) g + 0xB0 + 4 * (sel % 8), 4)]

/-- The value that GRD returns (R469). -/
def State.grd (s : State) (d g sel : Nat) : W64 :=
  let own := fun (off : Nat) => s.gaugeField d d g off
  let pair := fun (hi lo : Nat) => BitVec.ofNat 64 (hi * 2 ^ 32 + lo)
  if !s.gaugeAlloc d g then 0#64
  else match sel with
  | 0x00 => let m := s.liveAt d g; pair m.nf m.mx
  | 0x01 => pair (own 0x94) (own 0x90)
  | 0x02 => pair (own 0x8C) (own 0x88)
  | 0x03 =>
    let f := own 0xA0
    let sat := (List.range 4).any fun q => Nat.testBit (s.gaugeField d q g 0xA0) 1
    let flags := f % 2 + (if sat then 2 else 0) + f / 4 % 8 * 4
    pair (own 0x98) (flags * 2 ^ 11 + own 0x9C / 16 % 8 * 2 ^ 8 + own 0x9C % 16)
  | 0x04 => BitVec.ofNat 64 (own 0xA8 + 2 ^ 32 * own 0xAC)
  | _ =>
    if sel < 0x40 then BitVec.ofNat 64 ((s.liveAt d g).h.getD (sel - 0x20) 0)
    else
      let b := sel - 0x40
      BitVec.ofNat 64 (s.gaugeField d (b / 8) g (0xB0 + 4 * (b % 8)))

/-! ### RECSET (R65, R66) -/

/-- WIDTH of each type (R62). -/
def typeWidth (ty : Nat) : Nat := match ty with | 0 => 32 | 1 => 16 | 4 => 4 | 7 => 4 | 8 => 32 | 9 => 32 | 10 => 16 | 11 => 16 | 14 => 12 | 15 => 16 | _ => 8

/-- The alignment of BASE (R65). -/
def TRec.baseAlign (r : TRec) : Nat :=
  if r.layout = 1 ∨ r.codec = 1 then 4096 else if r.layout = 2 then 32 else if r.width % 8 = 0 then r.width / 8 else 1

/-- The status of RECSET (R65). -/
def State.recStatus (s : State) (d h : Nat) (r : TRec) : Nat :=
  let t := r.ty
  if h = 0 then 1
  else if !r.valid then 0
  else if !r.reservedOk then 2
  else if r.width ≠ typeWidth t ∨ 2 ^ r.width ≤ r.pad ∨ r.split ≠ (t == 15) then 3
  else if (List.range 4).any (fun k => r.ext k == 0) ∨ 2 ^ 48 < r.base + r.footprint then 4
  else if r.base % r.baseAlign ≠ 0 ∨ r.scbase % 32 ≠ 0 ∨ r.lpbase % 2 ≠ 0 then 5
  else if (r.layout = 1 ∧ ! [8, 16, 32].contains r.width) ∨ (r.layout = 2 ∧ r.smode ≠ 2) ∨ (r.smode = 2 ∧ r.layout ≠ 2) ∨
      (r.layout = 2 ∧ ! [4, 5, 6, 7].contains t) then 6
  else if r.smode = 1 ∧ (r.gmode = 0 ∨ ! [2, 3, 4, 10, 12].contains t) then 7
  else if r.gmode ≠ 0 ∧ !s.gaugeAlloc d r.gidx then 8
  else if [r.near, r.far, r.lp].count true ≠ 1 ∨ (r.split ∧ r.lp) then 9
  else if r.codec = 1 ∧ (r.layout = 2 ∨ r.split) then 10
  else if r.transp ∧ (r.width < 8 ∨ t = 14 ∨ r.smode = 2) then 11
  else 0

/-- A RECSET with status 0 is on its way to the four replicas (R66). -/
def State.requestRecord (s : State) (c token dest h : Nat) (image : List Byte) : State :=
  { s with
    recReqs := s.recReqs ++ [{ id := s.nextId, handle := h, image := image, done := [], reply := (c, token, dest) }]
    nextId := s.nextId + 1 }

/-- RECORD_REPLICA_WRITE (R66): the record is written into the replica of one die, a write of the issuer's die (R250); the token clears once the
four writes are applied at all four dies. -/
def State.writeReplica (s : State) (id d : Nat) : State :=
  match s.recReqs.find? fun r => r.id == id with
  | none => s
  | some r =>
    if 4 ≤ d ∨ r.done.contains d then s
    else
      let ids := s.nextWrite :: r.ids
      let s := s.writeHome (ctxDie r.reply.1) (recAddr d r.handle) r.image
      let done := d :: r.done
      if done.length < 4 then { s with recReqs := mapWhere (fun q => q.id == id) (fun q => { q with done := done, ids := ids }) s.recReqs }
      else
        ({ s with
            recReqs := s.recReqs.filter fun q => q.id != id
            writeWaits := s.writeWaits ++ [{ ids := ids, reply := some (r.reply.1, r.reply.2.1, r.reply.2.2, 0#64) }] } : State).settleWaits

/-- GAUGE_SECTOR_UPDATE (R72). -/
def execGaugeSectorUpdate (entry : Nat) (s : State) : Host.Outcome State Fault Refusal := .next (s.applyGauge entry)
/-- GAUGE_SEAL (R75). -/
def execGaugeSeal (request : Nat) (s : State) : Host.Outcome State Fault Refusal := .next (s.serveSeal request false)
/-- GAUGE_RESCALE (R75). -/
def execGaugeRescale (request : Nat) (s : State) : Host.Outcome State Fault Refusal := .next (s.serveSeal request true)
/-- RECORD_REPLICA_WRITE (R66). -/
def execRecordReplicaWrite (request die : Nat) (s : State) : Host.Outcome State Fault Refusal := .next (s.writeReplica request die)

end Sys2Proof.Machine
end

