-- ==== Sys2Proof/Machine/Codec.lean ====
section
/-! DEFINITION. The zero-sector codec (R188 to R192): the one encoding of a 4 KiB block, and the decoding of a slot. -/

namespace Sys2Proof.Machine

/-- The sectors of a plain block, 32 bytes each. -/
def sectorsOf (bs : List Byte) : List (List Byte) := (List.range 128).map fun i => (bs.drop (32 * i)).take 32

/-- The code of a sector after `prev`, the first that applies in the order 0, 3, 2, 1 (R189). -/
def sectorCode (prev : Option (List Byte)) (sec : List Byte) : Nat :=
  if sec.all fun b => b == 0#8 then 0
  else if prev = some sec then 3
  else if (List.range 8).all fun i => (sec.drop (4 * i)).take 4 == sec.take 4 then 2
  else 1

/-- The codes of the sectors of a block. -/
def sectorCodes : Option (List Byte) → List (List Byte) → List Nat
  | _, [] => []
  | p, s :: ss => sectorCode p s :: sectorCodes (some s) ss

/-- Zero bytes up to a length. -/
def padTo (n : Nat) (bs : List Byte) : List Byte := bs ++ List.replicate (n - bs.length) 0#8

/-- Compressed length of a header's codes (R189). -/
def compressedLen (codes : List Nat) : Nat :=
  32 + 32 * ceilDiv (32 * codes.count 1 + 4 * codes.count 2) 32

/-- The compressed form of a block (R188, R189). -/
def encodeBlock (plain : List Byte) : List Byte :=
  let secs := sectorsOf plain
  let codes := sectorCodes none secs
  let header := toBytes 32 (codes.foldr (fun c n => c + 4 * n) 0)
  let payload := (codes.zip secs).flatMap fun p => if p.1 = 1 then p.2 else if p.1 = 2 then p.2.take 4 else []
  padTo (compressedLen codes) (header ++ payload)

/-- What a slot holds (R191, R192). -/
inductive SlotRead where
  | plain (bs : List Byte)
  | escape (k : Nat)
  | bad
  deriving DecidableEq, Repr

/-- The sectors that the codes and the payload make. -/
def decodeSectors : List Nat → List Byte → List Byte → List Byte
  | [], _, _ => []
  | c :: cs, prev, pay =>
    match c with
    | 0 => let s := List.replicate 32 0#8
           s ++ decodeSectors cs s pay
    | 1 => let s := pay.take 32
           s ++ decodeSectors cs s (pay.drop 32)
    | 2 => let s := (List.replicate 8 (pay.take 4)).flatten
           s ++ decodeSectors cs s (pay.drop 4)
    | _ => prev ++ decodeSectors cs prev pay

/-- Decode a slot of `size` bytes (R188, R192). -/
def decodeSlot (size : Nat) (slot : List Byte) : SlotRead :=
  let h := leNat (slot.take 32)
  let codes := (List.range 128).map fun i => h / 4 ^ i % 4
  if slot.head? = some 0xFF#8 then
    (if ((slot.drop 1).take 3).all fun b => b == 0#8 then .escape (leNat ((slot.drop 4).take 4)) else .bad)
  else if codes.head? = some 3 ∨ size < compressedLen codes then .bad
  else .plain (decodeSectors codes [] (slot.drop 32))

/-- The slot of an escaped block (R191). -/
def escapeSlot (size k : Nat) : List Byte := padTo size (0xFF#8 :: 0#8 :: 0#8 :: 0#8 :: toBytes 4 k)

/-- A slot read by a Riffle unit (R193): its first 128 bytes as one request, then what the header calls for, never the padding. Poison
counts in the sectors that the slot uses (R31). -/
def State.readSlot (s : State) (g : Agent) (a : W64) (size : Nat) : Except EngStop SlotRead :=
  match ({ s with poison := [] }).engRead g a 128 with
  | .error e => .error e
  | .ok head =>
    let h := leNat (head.take 32)
    let codes := (List.range 128).map fun i => h / 4 ^ i % 4
    let n := if head.head? = some 0xFF#8 ∨ codes.head? = some 3 ∨ size < compressedLen codes then 32 else compressedLen codes
    match s.engRead g a n with
    | .error e => .error e
    | .ok bs => .ok (decodeSlot size bs)

/-- Bytes of a slot: 1,024 × (CPAD + 1) (R178). -/
def slotBytes (cpad : Nat) : Nat := 1024 * (cpad + 1)

end Sys2Proof.Machine
end

