-- ==== Sys2Proof/Machine/Layout.lean ====
section
/-! DEFINITION. The layout unit (R50 to R52, R56, R64): the tile image of a handle request, its elements in memory, and the gauge counts
of what a handle write stores (R71, R72). -/

namespace Sys2Proof.Machine

/-- A handle request (R50): record, coordinate, shape, and whether the image is read transposed (R158). -/
structure Tile4 where
  r : TRec
  coord : Quad4
  shape : Quad4
  transp : Bool := false
  deriving DecidableEq, Repr

/-- Width in bits of an element of a tile image (R50): SW travels joined. -/
def TRec.imageWidth (r : TRec) : Nat := if r.ty = 15 then 32 else r.width

/-- Elements of the image. -/
def Tile4.count (t : Tile4) : Nat := t.shape.x0 * t.shape.x1 * t.shape.x2 * t.shape.x3

/-- Bytes of the image. -/
def Tile4.bytes (t : Tile4) : Nat := ceilDiv (t.count * t.r.imageWidth) 8

/-- The coordinates at which a tile starts (R51). -/
def tileStart (coord shape : Quad4) : Quad4 := ⟨coord.x0 * shape.x0, coord.x1 * shape.x1, coord.x2 * shape.x2, coord.x3 * shape.x3⟩

/-- The coordinates of image element k in the tensor: i0 innermost; with TRANSP dimensions 0 and 1 change places. -/
def Tile4.element (t : Tile4) (k : Nat) : Quad4 :=
  let s0 := if t.transp then t.shape.x1 else t.shape.x0
  let s1 := if t.transp then t.shape.x0 else t.shape.x1
  let i0 := k % s0
  let i1 := k / s0 % s1
  let i2 := k / (s0 * s1) % t.shape.x2
  let i3 := k / (s0 * s1 * t.shape.x2)
  let j0 := if t.transp then i1 else i0
  let j1 := if t.transp then i0 else i1
  ⟨t.coord.x0 * t.shape.x0 + j0, t.coord.x1 * t.shape.x1 + j1, t.coord.x2 * t.shape.x2 + i2, t.coord.x3 * t.shape.x3 + i3⟩

/-- Within the extents (R51). -/
def TRec.inBounds (r : TRec) (x : Quad4) : Bool :=
  decide (x.x0 < r.ext 0) && decide (x.x1 < r.ext 1) && decide (x.x2 < r.ext 2) && decide (x.x3 < r.ext 3)

/-- The offset of an element in bits from BASE (R51); MXBLK is row-major (R64). -/
def TRec.bitOff (r : TRec) (x : Quad4) : Nat :=
  if r.layout = 1 then
    let t0 := ceilDiv (r.ext 0) 128
    let t1 := ceilDiv (r.ext 1) 128
    let t := ((x.x3 * r.ext 2 + x.x2) * t1 + x.x1 / 128) * t0 + x.x0 / 128
    (t * 16384 + (x.x1 % 128) * 128 + x.x0 % 128) * r.width
  else (((x.x3 * r.ext 2 + x.x2) * r.ext 1 + x.x1) * r.ext 0 + x.x0) * r.width

/-- The die whose replica maps a handle request made at a die. A layout unit reads the replica of the die that it is attached to (R39, R60), and a
request reads the record once (R66): where units of several dies serve a tile, one replica maps all of it, that of the unit which serves the tile's
first element, found through the requester's own replica; a tile wholly out of bounds, or one whose first element has no translation, is mapped
by the requester's. DESIGN CHOICE (log entry 77). -/
def State.layoutDie (s : State) (d h : Nat) (coord shape : Quad4) : Nat :=
  let r := recOf (s.recordBytes d h)
  let va := r.base + r.bitOff (tileStart coord shape) / 8
  if !r.valid || !r.inBounds (tileStart coord shape) then d
  else match s.layoutLookup d va with
  | .entry e => homeDie (e.pa + (va - e.va))
  | _ => d

/-- The record that a handle request made at a die reads, once and whole (R60, R66). -/
def State.layoutBytes (s : State) (d h : Nat) (coord shape : Quad4) : List Byte := s.recordBytes (s.layoutDie d h coord shape) h

/-- Where it reads it. -/
def State.layoutReads (s : State) (d h : Nat) (coord shape : Quad4) : List (Nat × Nat) := [(recAddr (s.layoutDie d h coord shape) (h % 2 ^ 20), 64)]

/-- Coordinate k of four. -/
def Quad4.get (q : Quad4) : Nat → Nat
  | 0 => q.x0 | 1 => q.x1 | 2 => q.x2 | _ => q.x3

/-- The address of an element's E8M0 scale (R64). -/
def TRec.scaleAddr (r : TRec) (x : Quad4) : Nat :=
  let c := fun (k : Nat) => if k = r.mxdim then Quad4.get x k / 32 else Quad4.get x k
  let e := fun (k : Nat) => if k = r.mxdim then ceilDiv (r.ext k) 32 else r.ext k
  r.scbase + (((c 3 * e 2 + c 2) * e 1 + c 1) * e 0 + c 0)

/-- What a position out of bounds reads as (R52). -/
def TRec.padElem (r : TRec) : Nat := if r.ty = 15 then r.pad % 65536 * 65536 else r.pad % 2 ^ r.width

/-- The runs of bytes that hold an element: address, bit offset within the first byte. SW has two, high half first. -/
def TRec.runs (r : TRec) (x : Quad4) : List (W64 × Nat) :=
  let o := r.bitOff x
  if r.split then [(BitVec.ofNat 64 (r.base + o / 8), 0), (BitVec.ofNat 64 (r.lpbase + o / 8), 0)]
  else [(BitVec.ofNat 64 (r.base + o / 8), o % 8)]

/-- The bits of a run: `w` bits from bit `sh` of the first byte. -/
def State.readBits (s : State) (g : Agent) (a : W64) (sh w : Nat) : Except EngStop Nat :=
  match s.engRead g a (ceilDiv (sh + w) 8) with
  | .error e => .error e
  | .ok bs => .ok (leNat bs / 2 ^ sh % 2 ^ w)

/-- Element k of the image, read (R51, R52, R56). -/
def State.readElem (s : State) (g : Agent) (t : Tile4) (k : Nat) : Except EngStop Nat :=
  let x := t.element k
  if !t.r.inBounds x then .ok t.r.padElem
  else (t.r.runs x).foldl (fun (acc : Except EngStop Nat) r =>
    match acc with
    | .error e => .error e
    | .ok n =>
      match s.readBits g r.1 r.2 t.r.width with
      | .error e => .error e
      | .ok v => .ok (n * 2 ^ t.r.width + v)) (.ok 0)

/-- Bytes [o, o + n) of the image, read. -/
def State.readImage (s : State) (g : Agent) (t : Tile4) (o n : Nat) : Except EngStop (List Byte) :=
  let g := { g with layout := true }
  let w := t.r.imageWidth
  let k0 := 8 * o / w
  let k1 := ceilDiv (8 * (o + n)) w
  let vals := (List.range (k1 - k0)).foldl (fun (acc : Except EngStop Nat) i =>
    match acc with
    | .error e => .error e
    | .ok m =>
      match s.readElem g t (k0 + i) with
      | .error e => .error e
      | .ok v => .ok (m + v * 2 ^ (w * i))) (.ok 0)
  match vals with
  | .error e => .error e
  | .ok m => .ok (toBytes n (m / 2 ^ (8 * o - w * k0)))

/-- An element of a write to an image: its coordinates, its bits, and which of them are written. -/
structure ImgWrite where
  x : Quad4
  val : Nat
  mask : Nat
  deriving DecidableEq, Repr

/-- The addresses of the elements in bounds whose bytes lie in [o, o + n) of the image, one for each 4 KiB page. -/
def Tile4.pages (t : Tile4) (o n : Nat) : List Nat :=
  let w := t.r.imageWidth
  let k0 := 8 * o / w
  let xs := ((List.range (ceilDiv (8 * (o + n)) w - k0)).map fun i => t.element (k0 + i)).filter t.r.inBounds
  (xs.flatMap t.r.runs).foldl (fun (ps : List Nat) r => if ps.any fun p => p / 4096 == r.1.toNat / 4096 then ps else ps ++ [r.1.toNat]) []

/-- The in-bounds elements that bytes [o, o + n) of the image write, without the bytes of `skip`. -/
def Tile4.writes (t : Tile4) (o : Nat) (bs : List Byte) (skip : Nat → Bool) : List ImgWrite :=
  let w := t.r.imageWidth
  let n := bs.length
  let k0 := 8 * o / w
  let k1 := ceilDiv (8 * (o + n)) w
  let sh := 8 * o - w * k0
  let m := leNat bs * 2 ^ sh
  let full := leNat ((List.range n).map fun i => if skip i then 0#8 else 0xFF#8) * 2 ^ sh
  ((List.range (k1 - k0)).map fun i => (⟨t.element (k0 + i), m / 2 ^ (w * i) % 2 ^ w, full / 2 ^ (w * i) % 2 ^ w⟩ : ImgWrite)).filter
    fun e => t.r.inBounds e.x && e.mask != 0

/-- The runs of an element that are written, each with its address, the bit offset in its first byte, and its bits and mask; the low
half of SW first (R51, R261). -/
def TRec.writeRuns (r : TRec) (e : ImgWrite) : List (W64 × Nat × Nat × Nat) :=
  let w := r.width
  match r.runs e.x with
  | [hi, lo] => [(lo.1, lo.2, e.val % 2 ^ w, e.mask % 2 ^ w), (hi.1, hi.2, e.val / 2 ^ w, e.mask / 2 ^ w)]
  | rs => rs.map fun q => (q.1, q.2, e.val, e.mask)

/-- The places of an element's bytes, resolved for writing. -/
def State.resolveRuns (s : State) (g : Agent) (p : Perm) (w : Nat) : List (W64 × Nat × Nat × Nat) → Except EngStop (List (List (Loc × Nat) × Nat × Nat × Nat))
  | [] => .ok []
  | (a, sh, v, m) :: rs =>
    match s.engRuns g p (runsOf a (ceilDiv (sh + w) 8)) with
    | .error e => .error e
    | .ok ls =>
      match s.resolveRuns g p w rs with
      | .error e => .error e
      | .ok more => .ok ((ls, sh, v, m) :: more)

/-- One element stored: whole, or byte by byte with what is not written kept (R247, R441). -/
def State.storeBits (s : State) (d w : Nat) (ls : List (Loc × Nat)) (sh v m : Nat) : State :=
  match ls with
  | [(l, _)] =>
    if w % 8 = 0 ∧ sh = 0 ∧ m = 2 ^ w - 1 then s.storeElem d { lane := 0, loc := l, size := w / 8, data := BitVec.ofNat 64 v }
    else
      (List.range (ceilDiv (sh + w) 8)).foldl (fun (s : State) i =>
        s.storeElem d { lane := 0, loc := l.add i, size := 1, data := BitVec.ofNat 64 (v * 2 ^ sh / 256 ^ i % 256)
                        keep := ~~~(BitVec.ofNat 8 (m * 2 ^ sh / 256 ^ i)) }) s
  | _ =>
    let places := ls.flatMap fun r => (List.range r.2).map fun i => r.1.add i
    (places.zipIdx).foldl (fun (s : State) p =>
      s.storeElem d { lane := 0, loc := p.1, size := 1, data := BitVec.ofNat 64 (v * 2 ^ sh / 256 ^ p.2 % 256)
                      keep := ~~~(BitVec.ofNat 8 (m * 2 ^ sh / 256 ^ p.2)) }) s

/-- The value that a stored element counts as (R72). Where the scale byte of an MX element cannot be read, and where the element has no place in
the tensor, the manual states no value: the model counts the element unscaled, DESIGN CHOICE (log entry 61). -/
def State.countedValue (s : State) (g : Agent) (r : TRec) (e : ImgWrite) : XR :=
  if r.smode = 2 then
    match s.engRead g (BitVec.ofNat 64 (r.scaleAddr e.x)) 1 with
    | .ok bs => mxValue r.ty e.val (leNat bs)
    | .error _ => valueOf r.ty e.val
  else valueOf r.ty e.val

/-- An element as it is stored once its written bits are in place. -/
def State.storedWhole (s : State) (g : Agent) (r : TRec) (e : ImgWrite) : ImgWrite :=
  let w := if r.ty = 15 then 32 else r.width
  if e.mask = 2 ^ w - 1 then e
  else match (s.resolveRuns g .write r.width (r.writeRuns e)) with
  | .ok rs =>
    { e with val := rs.reverse.foldl (fun n q =>
        n * 2 ^ r.width + leNat (q.1.flatMap fun l => s.readLoc g.die l.1 l.2) / 2 ^ q.2.1 % 2 ^ r.width) 0 }
  | .error _ => e

/-- The gauge updates of a handle write (R71, R72): one for each 32-byte sector, by the sector of an element's first byte. -/
def State.imageUpdates (s : State) (g : Agent) (r : TRec) (ws : List ImgWrite) : List GaugeUpd :=
  if r.gmode = 0 then []
  else
    let sector := fun (e : ImgWrite) => (r.base + r.bitOff e.x / 8) / 32
    let secs := ws.foldl (fun (l : List Nat) e => if l.contains (sector e) then l else l ++ [sector e]) []
    secs.map fun q => { die := g.die, g := r.gidx, c := contribution ((ws.filter fun e => sector e == q).map fun e => s.countedValue g r (s.storedWhole g r e)) }

/-- Bytes [o, o + n) of the image, written, without the bytes of `skip` (R51, R52, R159); the gauge record is counted after them (R73). -/
def State.writeImage (s : State) (g : Agent) (t : Tile4) (o : Nat) (bs : List Byte) (skip : Nat → Bool) : Except EngStop State :=
  let g := { g with layout := true }
  let ws := t.writes o bs skip
  match s.resolveRuns g .write t.r.width (ws.flatMap t.r.writeRuns) with
  | .error e => .error e
  | .ok rs =>
    let s := (rs.foldl (fun (s : State) r => s.storeBits g.die t.r.width r.1 r.2.1 r.2.2.1 r.2.2.2) s).unpoison
      ((rs.filter fun r => r.2.2.2 == 2 ^ t.r.width - 1).flatMap fun r => r.1)
    let s := s.touchRuns true (rs.flatMap fun r => r.1)
    .ok { s with gaugeQ := s.gaugeQ ++ s.imageUpdates g t.r ws }

end Sys2Proof.Machine
end

