-- ==== Sys2Proof/Machine/Riffle.lean ====
section
/-! DEFINITION. The Riffle units (R174 to R196): their ports, queues and chunks, and the elements that they count by handle. -/

namespace Sys2Proof.Machine

/-! ### Elements placed by a record (R71, R72, R187, R483) -/

/-- The first byte of an element's record data that byte `off` of the stored tensor belongs to, and the element's coordinates: those of
element number k of the layout (R51, R64). None for a position outside the extents or behind the tensor. -/
def TRec.placeElem (r : TRec) (k : Nat) : Option Quad4 :=
  let x : Quad4 :=
    if r.layout = 1 then
      let t0 := ceilDiv (r.ext 0) 128
      let t1 := ceilDiv (r.ext 1) 128
      let t := k / 16384
      ⟨t % t0 * 128 + k % 128, t / t0 % t1 * 128 + k / 128 % 128, t / (t0 * t1) % r.ext 2, t / (t0 * t1 * r.ext 2)⟩
    else ⟨k % r.ext 0, k / r.ext 0 % r.ext 1, k / (r.ext 0 * r.ext 1) % r.ext 2, k / (r.ext 0 * r.ext 1 * r.ext 2)⟩
  if r.inBounds x then some x else none

/-- The value that stored bits count at: the high half of SW alone as B16, an MX element under its scale (R72). -/
def State.storedValue (s : State) (g : Agent) (r : TRec) (x : Option Quad4) (v : Nat) : XR :=
  match x with
  | some q => s.countedValue g (if r.ty = 15 then { r with w3 := (r.w3 &&& ~~~15#64) ||| 1#64 } else r) ⟨q, v, 0⟩
  | none => valueOf (if r.ty = 15 then 1 else r.ty) v

/-- What an element counts at whose first bit is written at bit `b` of memory (R71, R72, R187), bit 0 of byte a being bit 8a: nothing among the low
halves of SW, at a pad or outside the extents; an element of the stream that lies at none of the tensor's has its value in the stored type. -/
def State.placedValue (s : State) (g : Agent) (r : TRec) (b v : Nat) : Option XR :=
  let off := b - 8 * r.base
  if r.split ∧ 8 * r.lpbase ≤ b ∧ b < 8 * (r.lpbase + r.footprint) then none
  else if 8 * r.base ≤ b ∧ b < 8 * (r.base + r.footprint) ∧ off % r.width = 0 then
    (r.placeElem (off / r.width)).map fun x => s.storedValue g r (some x) v
  else some (s.storedValue g r none v)

/-- Elements of `w` bits at stream positions, those whose first bit lies at or after bit `lo` of `bs`: bit position and value. -/
def streamElems (w lo : Nat) (bs : List Byte) : List (Nat × Nat) :=
  let m := leNat bs
  (List.range ((8 * bs.length - lo) / w)).map fun i => (lo + w * i, m / 2 ^ (lo + w * i) % 2 ^ w)

/-- Gauge updates of counted elements: one for each 32-byte sector, by the sector of the first byte (R72). -/
def sectorUpdates (die g : Nat) (es : List (Nat × XR)) : List GaugeUpd :=
  let secs := es.foldl (fun (l : List Nat) e => if l.contains (e.1 / 32) then l else l ++ [e.1 / 32]) []
  secs.map fun q => { die := die, g := g, c := contribution ((es.filter fun e => e.1 / 32 == q).map (·.2)) }

/-! ### Operations (R175 to R181) -/

/-- Change the operation at the head of a unit's queue. -/
def State.modHead (s : State) (cl u : Nat) (f : ROp → ROp) : State :=
  s.modRiffle cl u fun r => { r with queue := match r.queue with | [] => [] | o :: os => f o :: os }

/-- The value of an operand port in an operation's set. -/
def ROp.port (o : ROp) (p : Nat) : W64 := SMap.get 0#64 o.ports p
/-- COUNT of the trigger word (R178). -/
def ROp.count (o : ROp) : Nat := bits o.trig 31 0
/-- TBV. -/
def ROp.tbv (o : ROp) : Bool := bit o.trig 32
/-- S: bytes of a slot. -/
def ROp.slot (o : ROp) : Nat := slotBytes (bits o.trig 34 33)
/-- LJ. -/
def ROp.lj (o : ROp) : Bool := bit o.trig 35

/-- The operation of a trigger port (R175). -/
def rkindOf : Nat → Option RKind
  | 0x10 => some .decode | 0x11 => some .encode | 0x12 => some .unpack12 | 0x13 => some .crc | 0x14 => some .expand3 | 0x15 => some .fill
  | _ => none

/-- Bytes read from SRCA (R178). -/
def ROp.srcBytes (o : ROp) : Nat :=
  match o.kind with
  | .decode => o.slot * o.count
  | .encode => 4096 * o.count
  | .unpack12 => ceilDiv (3 * o.count) 2
  | .crc => o.count
  | .expand3 => ceilDiv (3 * o.count) 8
  | .fill => 0

/-- Bytes written to DSTA (R178). -/
def ROp.dstBytes (o : ROp) : Nat :=
  match o.kind with
  | .decode => 4096 * o.count
  | .encode => o.slot * o.count
  | .unpack12 => 2 * o.count
  | .crc => 0
  | .expand3 => 2 * o.count
  | .fill => o.count

/-- Chunks of the output (R195). -/
def ROp.chunks (o : ROp) : Nat :=
  match o.kind with
  | .decode => o.count
  | .encode => o.count
  | .crc => 0
  | _ => ceilDiv o.dstBytes 4096

/-- STATE by number (R180). -/
def RState.code : RState → Nat
  | .idle => 0 | .queued => 1 | .running => 2 | .suspended => 3 | .done => 4 | .error => 5

/-- The STATUS word of an operation (R180). -/
def ROp.status (o : ROp) : W64 :=
  BitVec.ofNat 64 (o.pos % 2 ^ 32 * 2 ^ 32 + o.ovf % 65536 * 65536 + o.err.toNat * 256 + o.state.code)

/-- The operation works for its context through the cluster's TLB (R282). -/
def ROp.agent (o : ROp) : Agent := { Agent.ofCtx o.ctx o.sup with viaTlb := true }

/-- The place of a local address (R175). -/
def Agent.local (g : Agent) (a : W64) : Loc := if bits a 63 60 = 8 then .spad g.core (bits a 59 0) else .sram g.cluster (bits a 59 0)

/-- Whether an address lies in one of the given spaces. -/
def inSpaces (a : W64) (l : List Nat) : Bool := l.contains (bits a 63 60)

/-- Whether a region in a local space passes its end. -/
def State.pastEnd (s : State) (g : Agent) (a : W64) (n : Nat) : Bool :=
  match bits a 63 60 with
  | 0x8 => decide (partScratch (s.core g.core).part < bits a 59 0 + n)
  | 0x9 => decide (0x400000 < bits a 59 0 + n)
  | _ => false

/-- The operation uses SRCA. -/
def ROp.reads (o : ROp) : Bool := o.kind != .fill
/-- The operation uses DSTA. -/
def ROp.writes (o : ROp) : Bool := o.kind != .crc
/-- The operation uses AUXA. -/
def ROp.codes (o : ROp) : Bool := o.kind == .decode || o.kind == .encode

/-- The record of DSTH, which the trigger reads (R66). -/
def ROp.handleReads (o : ROp) (d : Nat) : List (Nat × Nat) := if bits (o.port 7) 19 0 = 0 then [] else [(recAddr d (bits (o.port 7) 19 0), 64)]

/-- ALIGN at the trigger (R179): the first misaligned address. -/
def ROp.misaligned (o : ROp) : Option W64 :=
  let off := fun (a : W64) (n : Nat) => a.toNat % n != 0
  if o.codes && off (o.port 0) 32 then some (o.port 0)
  else if o.codes && off (o.port 1) 32 then some (o.port 1)
  else if o.codes && off (o.port 2) 4096 then some (o.port 2)
  else if (o.kind == .unpack12 || o.kind == .expand3) && off (o.port 1) 2 then some (o.port 1)
  else if o.kind == .fill && off (o.port 1) 4 then some (o.port 1)
  else if o.tbv && off (o.port 6) 16 then some (o.port 6)
  else none

/-- The code with which a trigger ends at once (R179); 0 where it is queued. -/
def State.riffleCheck (s : State) (o : ROp) : Nat :=
  let g := o.agent
  let h := bits (o.port 7) 19 0
  let r := s.record g.die h
  if bits o.trig 63 36 != 0 || (o.lj && o.kind != .unpack12) || o.count == 0 ||
      decide (0x4000000 < (if o.kind = .crc then o.srcBytes else o.dstBytes)) || (o.kind == .fill && o.count % 4 != 0) ||
      (o.tbv && o.kind == .crc) || (h != 0 && (o.kind == .encode || o.kind == .crc)) then 1
  else if (o.reads && !inSpaces (o.port 0) [0x0, 0x8, 0x9]) || (o.writes && !inSpaces (o.port 1) [0x0, 0x8, 0x9]) ||
      (o.codes && !inSpaces (o.port 2) [0x0, 0x9]) || (o.tbv && !inSpaces (o.port 6) [0x8, 0x9]) then 2
  else if (o.reads && s.pastEnd g (o.port 0) o.srcBytes) || (o.writes && s.pastEnd g (o.port 1) o.dstBytes) ||
      (o.codes && s.pastEnd g (o.port 2) 4096) || (o.tbv && s.pastEnd g (o.port 6) 16) then 3
  else if h != 0 && r.width != 16 && (o.kind == .unpack12 || o.kind == .expand3) then 6
  else if h != 0 && !r.valid then 8
  else 0

/-- STATUS and RESULT of an operation that its context's ports show from now on. -/
def Riffle.keep (r : Riffle) (o : ROp) : Riffle :=
  if o.last then
    { r with status := SMap.set 0#64 r.status o.ctx o.status, result := SMap.set 0#64 r.result o.ctx (BitVec.ofNat 64 o.result) }
  else r

/-- A context's earlier operations are no longer its last one. -/
def Riffle.supersede (r : Riffle) (c : Nat) : Riffle := { r with queue := mapWhere (fun o => o.ctx == c) (fun o => { o with last := false }) r.queue }

/-- The barrier at TBAR of an operation is one (R179): its space and its range are right. -/
def State.barThere (s : State) (o : ROp) : Bool :=
  o.tbv && inSpaces (o.port 6) [0x8, 0x9] && !s.pastEnd o.agent (o.port 6) 16

/-- A trigger reaches the queue with the record that it read, or ends at once with a code, which its barrier learns of (R66, R177, R179, R181).
The second component says whether it was queued. -/
def State.trigger (s : State) (cl u : Nat) (o : ROp) : State × Bool :=
  let e := s.riffleCheck o
  if e = 0 then
    let h := bits (o.port 7) 19 0
    let o := { o with image := if h = 0 then [] else s.recordBytes (clusterDie cl) h }
    (s.modRiffle cl u fun r => let r := r.supersede o.ctx; { r with queue := r.queue ++ [o] }, true)
  else
    let t := s.modRiffle cl u fun r => (r.supersede o.ctx).keep { o with state := .error, err := BitVec.ofNat 8 e }
    (if s.barThere o then t.engBar (o.agent.local (o.port 6)) (.flags 1) else t, false)

/-- The value of a port as RGET reads it (R175, R180). -/
def Riffle.portValue (r : Riffle) (c p : Nat) : W64 :=
  if p < 8 then SMap.get 0#64 r.ports (8 * c + p)
  else match r.queue.find? fun o => o.ctx == c && o.last with
  | some o => if p = 0x20 then o.status else BitVec.ofNat 64 o.result
  | none => if p = 0x20 then SMap.get 0#64 r.status c else SMap.get 0#64 r.result c

/-- The head of a queue ends (R181): its status is kept, its barrier marked after an error, its token clears, and a context that waits for
room is re-inserted. -/
def State.riffleEnd (s : State) (cl u : Nat) (o : ROp) (st : RState) (err : Nat) : State :=
  let o := { o with state := st, err := BitVec.ofNat 8 err }
  let s := s.modRiffle cl u fun r => ({ r with queue := r.queue.drop 1 } : Riffle).keep o
  let s := if o.tbv && st == .error then s.engBar (o.agent.local (o.port 6)) (.flags 1) else s
  let s := s.modCtx o.ctx fun x => x.tokDown o.token
  s.wakeOldest fun _ w => w == .riffle cl u

/-! ### Chunks (R182 to R187, R195, R196) -/

/-- What a chunk meets. -/
inductive ChunkEnd where
  | stop (e : EngStop)
  | codec
  deriving DecidableEq, Repr

/-- A read for a chunk. -/
def State.chunkRead (s : State) (g : Agent) (a : W64) (n : Nat) : Except ChunkEnd (List Byte) :=
  match s.engRead g a n with
  | .ok bs => .ok bs
  | .error e => .error (.stop e)

/-- Twelve-bit pixels as N16 values (R183). -/
def unpackPixels (lj : Bool) (n : Nat) (bs : List Byte) : List Byte :=
  let m := leNat bs
  (List.range n).flatMap fun i => toBytes 2 (m / 2 ^ (12 * i) % 4096 * (if lj then 16 else 1))

/-- Three-bit indices as table entries (R184). -/
def expandIndices (table : Nat) (n : Nat) (bs : List Byte) : List Byte :=
  let m := leNat bs
  (List.range n).flatMap fun i => toBytes 2 (table / 65536 ^ (m / 8 ^ i % 8) % 65536)

/-- The pieces that chunk `pos` writes: address and bytes (R182 to R186). -/
def State.chunk (s : State) (o : ROp) : Except ChunkEnd (List (W64 × List Byte)) :=
  let g := o.agent
  let b := o.pos
  let at' := fun (p n : Nat) => o.port p + BitVec.ofNat 64 n
  let n := min 2048 (o.count - 2048 * b)
  match o.kind with
  | .decode =>
    (match s.readSlot g (at' 0 (o.slot * b)) o.slot with
    | .error e => .error (.stop e)
    | .ok .bad => .error .codec
    | .ok (.plain bs) => .ok [(at' 1 (4096 * b), bs)]
    | .ok (.escape k) => (s.chunkRead g (at' 2 (4096 * k)) 4096).map fun bs => [(at' 1 (4096 * b), bs)])
  | .encode =>
    (s.chunkRead g (at' 0 (4096 * b)) 4096).map fun bs =>
      let e := encodeBlock bs
      if e.length ≤ o.slot then [(at' 1 (o.slot * b), padTo o.slot e)]
      else [(at' 2 (4096 * o.ovf), bs), (at' 1 (o.slot * b), escapeSlot o.slot o.ovf)]
  | .unpack12 =>
    (s.chunkRead g (at' 0 (3072 * b)) (ceilDiv (3 * n) 2)).map fun bs => [(at' 1 (4096 * b), unpackPixels o.lj n bs)]
  | .expand3 =>
    (s.chunkRead g (at' 0 (768 * b)) (ceilDiv (3 * n) 8)).map fun bs =>
      [(at' 1 (4096 * b), expandIndices ((o.port 4).toNat + 2 ^ 64 * (o.port 5).toNat) n bs)]
  | .fill =>
    let w := toBytes 4 (o.port 3).toNat
    .ok [(at' 1 (4096 * b), (List.replicate (min 4096 (o.count - 4096 * b) / 4) w).flatten)]
  | .crc => .ok []

/-- The operation of a unit that may start or go on: the head of its queue, unless it is suspended, or is the unit of a Sluice job; none while
the dies are gated (R11, R174, R197). -/
def State.riffleHead (s : State) (cl u : Nat) : Option ROp :=
  match (s.riffle cl u).queue with
  | o :: _ => if (o.state = .queued ∨ o.state = .running) ∧ o.job.isNone ∧ !s.gatedOff then some o else none
  | [] => none

/-- A fault of a unit goes to the fault queue (R195, R285). -/
def State.riffleSuspend (s : State) (cl u : Nat) (o : ROp) (cause : Nat) (va : W64) (wr : Bool) : State :=
  (s.modHead cl u fun o => { o with state := .suspended }).fqPush (clusterDie cl)
    { va := va, tag := match s.ctx o.ctx with | some x => x.tag | none => 0#32, cause := BitVec.ofNat 8 cause, agent := 2#4
      source := BitVec.ofNat 20 (cl % 72), wr := wr, unit := u }

/-- An engine access of a chunk stopped. -/
def State.riffleStopped (s : State) (cl u : Nat) (o : ROp) (e : ChunkEnd) : State :=
  match e with
  | .codec => s.riffleEnd cl u o .error 4
  | .stop (.ecc pa) => (s.logUE (logSource 3 (cl % 72) (clusterDie cl)) pa).riffleEnd cl u o .error 5
  | .stop .held => s
  | .stop (.fault cause va wr _) => s.riffleSuspend cl u o cause va wr

/-- What holds back the next chunk: a busy bank group that its source touches (R181), or a store of the issuer, made before the trigger and still
held, which the release of the trigger comes after (R181, R259). -/
def State.chunkWaits (s : State) (o : ROp) : Bool :=
  let g := o.agent
  let n := match o.kind with | .decode => o.slot | .encode => 4096 | .unpack12 => 3072 | .expand3 => 768 | .crc => o.count | .fill => 0
  let step := match o.kind with | .crc => 0 | _ => n
  (o.after.any fun i => (SMap.get none s.accesses i).isSome) || (o.reads && s.engWaits g (o.port 0 + BitVec.ofNat 64 (step * o.pos)) n)

/-- A trigger's next chunk is read and completed in the staging buffer (R182 to R186, R195); a CRC reads the whole source (R185). -/
def State.riffleRun (s : State) (cl u : Nat) (k : RKind) : State :=
  match s.riffleHead cl u with
  | none => s
  | some o =>
    if o.kind ≠ k ∨ o.staged.isSome ∨ (o.chunks ≤ o.pos ∧ k ≠ .crc) ∨ s.chunkWaits o then s
    else
      let o := { o with state := .running }
      if k = .crc then
        (match s.chunkRead o.agent (o.port 0) o.count with
        | .error e => s.riffleStopped cl u o e
        | .ok bs => s.modHead cl u fun _ =>
            { o with staged := some [], result := (~~~(bs.foldl crcStep (~~~((o.port 3).truncate 32)))).toNat })
      else
        match s.chunk o with
        | .error e => s.riffleStopped cl u o e
        | .ok ps => s.modHead cl u fun _ =>
            { o with staged := some ps, chunk := (match ps.getLast? with | some p => p.2 | none => []), escapes := k == .encode && ps.length == 2 }

/-- The elements that bytes written behind the first `o.out` of the output count into the gauge record of DSTH, and the bytes of an element
that they leave unfinished (R187): the bytes follow those of `o.carry`. -/
def State.chunkCounts (s : State) (o : ROp) (bs : List Byte) : List GaugeUpd × List Byte :=
  let g := o.agent
  let r := recOf o.image
  if o.image = [] ∨ r.gmode = 0 ∨ r.width = 0 then ([], [])
  else
    let w := r.width
    let first := 8 * o.out / w
    let start := o.out - o.carry.length
    let all := o.carry ++ bs
    let es := streamElems w (w * first - 8 * start) all
    let ended := w * (first + es.length)
    let base := (o.port 1).toNat
    let vals := es.filterMap fun e => (s.placedValue g r (8 * (base + start) + e.1) e.2).map fun v => (base + start + e.1 / 8, v)
    (sectorUpdates g.die r.gidx vals, all.drop (ended / 8 - start))

/-- Some bytes of the chunk have been written at DSTA: their elements are counted (R72, R187). -/
def State.countChunk (s : State) (o : ROp) (n : Nat) : State × ROp :=
  let r := s.chunkCounts o (o.chunk.take n)
  ({ s with gaugeQ := s.gaugeQ ++ r.1 }, { o with chunk := o.chunk.drop n, carry := r.2, out := o.out + n })

/-- Sectors land on the operation's barrier as bytes are written (R181). -/
def State.riffleLand (s : State) (o : ROp) (before after : Nat) : State :=
  if o.tbv && decide (before < after) then s.engBar (o.agent.local (o.port 6)) (.land (after - before)) else s

/-- Write the staged pieces in order until one does not translate; `fuel` exceeds their number. The state, the bytes written, and what is
left with the fault. -/
def State.writeStaged (s : State) (g : Agent) : List (W64 × List Byte) → State × Nat × Option (List (W64 × List Byte) × EngStop)
  | [] => (s, 0, none)
  | (a, bs) :: ps =>
    match s.engWrite g a bs with
    | .error e => (s, 0, some ((a, bs) :: ps, e))
    | .ok s =>
      let r := s.writeStaged g ps
      (r.1, bs.length + r.2.1, r.2.2)

/-- Cut a piece at page boundaries, so that each part is written or faults as a whole. -/
def cutPiece (a : W64) (bs : List Byte) : List (W64 × List Byte) :=
  ((runsOf a bs.length).foldl (fun (p : List (W64 × List Byte) × List Byte) r =>
    (p.1 ++ [(BitVec.ofNat 64 r.1, p.2.take r.2)], p.2.drop r.2)) ([], bs)).1

/-- RIFFLE_CHUNK_WRITE (R195): the staged chunk is written, its elements are counted and its sectors land, and POS advances. -/
def State.riffleWrite (s : State) (cl u : Nat) : State :=
  match s.riffleHead cl u with
  | none => s
  | some o =>
    match o.staged with
    | none => s
    | some ps =>
      if o.kind = .crc ∨ ps.any (fun p => s.engWaits o.agent p.1 p.2.length) then s
      else
        let r := s.writeStaged o.agent (ps.flatMap fun p => cutPiece p.1 p.2)
        let result := o.result + r.2.1
        let p := r.1.countChunk o (if o.kind = .encode then 0 else r.2.1)
        match r.2.2 with
        | some (left, e) =>
          let o := { p.2 with staged := some left, result := result }
          let t := (p.1.modHead cl u fun _ => o).riffleLand o ((o.result - r.2.1) / 32) (result / 32)
          t.riffleStopped cl u o (.stop e)
        | none =>
          let t := p.1.modHead cl u fun _ =>
            { p.2 with staged := none, chunk := [], pos := o.pos + 1, result := result, ovf := if o.escapes then o.ovf + 1 else o.ovf, escapes := false }
          t.riffleLand o (o.result / 32) (ceilDiv result 32)

/-- RIFFLE_OP_COMPLETE (R181): every chunk is written, or uncorrectable data ends the operation (R196). -/
def State.riffleComplete (s : State) (cl u : Nat) (ecc : SramEcc) : State :=
  match s.riffleHead cl u with
  | none => s
  | some o =>
    match ecc with
    | .bad pa =>
      if o.reads ∧ o.staged = none ∧ (o.pos < o.chunks ∨ o.kind = .crc) then (s.riffleStopped cl u o (.stop (.ecc pa))).checkEnd else s
    | _ =>
      let landed : Bool := !o.tbv || !s.barWaits.any fun w => w.loc == o.agent.local (o.port 6)
      let s := if ecc = .corrected ∧ o.reads then s.countCE false else s
      if ((o.kind ≠ .crc ∧ o.staged = none ∧ o.chunks ≤ o.pos) ∨ (o.kind = .crc ∧ o.staged = some [])) ∧ landed then
        (s.riffleEnd cl u o .done 0).checkEnd
      else s

/-- RIFFLE_FAULT (R195, R196): the next access of the head does not translate. -/
def State.riffleFault (s : State) (cl u : Nat) : State :=
  match s.riffleHead cl u with
  | none => s
  | some o =>
    match o.staged with
    | some ps =>
      (match (s.writeStaged o.agent (ps.flatMap fun p => cutPiece p.1 p.2)).2.2 with
       | some (_, .fault _ _ _ _) => s.riffleWrite cl u
       | _ => s)
    | none =>
      let stop := if o.kind = .crc then (match s.chunkRead o.agent (o.port 0) o.count with | .error e => some e | .ok _ => none)
        else match s.chunk o with | .error e => some e | .ok _ => none
      match stop with
      | some (.stop (.fault cause va wr _)) => if s.chunkWaits o then s else s.riffleSuspend cl u o cause va wr
      | _ => s

/-- RIFFLE_DECODE (R182). -/
def execRiffleDecode (cluster unit : Nat) (s : State) : Host.Outcome State Fault Refusal := .next (s.riffleRun cluster unit .decode)
/-- RIFFLE_ENCODE (R189). -/
def execRiffleEncode (cluster unit : Nat) (s : State) : Host.Outcome State Fault Refusal := .next (s.riffleRun cluster unit .encode)
/-- RIFFLE_UNPACK12 (R183). -/
def execRiffleUnpack12 (cluster unit : Nat) (s : State) : Host.Outcome State Fault Refusal := .next (s.riffleRun cluster unit .unpack12)
/-- RIFFLE_CRC (R185). -/
def execRiffleCrc (cluster unit : Nat) (s : State) : Host.Outcome State Fault Refusal := .next (s.riffleRun cluster unit .crc)
/-- RIFFLE_EXPAND3 (R184). -/
def execRiffleExpand3 (cluster unit : Nat) (s : State) : Host.Outcome State Fault Refusal := .next (s.riffleRun cluster unit .expand3)
/-- RIFFLE_FILL (R186). -/
def execRiffleFill (cluster unit : Nat) (s : State) : Host.Outcome State Fault Refusal := .next (s.riffleRun cluster unit .fill)
/-- RIFFLE_CHUNK_WRITE (R195). -/
def execRiffleChunkWrite (cluster unit : Nat) (s : State) : Host.Outcome State Fault Refusal := .next (s.riffleWrite cluster unit)
/-- RIFFLE_OP_COMPLETE (R181). -/
def execRiffleOpComplete (cluster unit : Nat) (ecc : SramEcc) (s : State) : Host.Outcome State Fault Refusal :=
  .next (s.riffleComplete cluster unit ecc)
/-- RIFFLE_FAULT (R195). -/
def execRiffleFault (cluster unit : Nat) (s : State) : Host.Outcome State Fault Refusal := .next (s.riffleFault cluster unit)

end Sys2Proof.Machine
end

