-- ==== Sys2Proof/Machine/Sluice.lean ====
section
/-! DEFINITION. The Sluice (R156 to R166, R172, R173): the job card, its checks at issue, and the units of a job. -/

namespace Sys2Proof.Machine

/-! ### The job card (R156) -/

/-- A word of a card. -/
def cardWord (c : List W64) (i : Nat) : W64 := c.getD i 0#64
/-- OP: 0 COPY, 1 FILL. -/
def cardOp (c : List W64) : Nat := bits (cardWord c 0) 31 30
/-- SRCK. -/
def cardSrck (c : List W64) : Nat := bits (cardWord c 0) 29 29
/-- DSTK. -/
def cardDstk (c : List W64) : Nat := bits (cardWord c 0) 28 27
/-- TRANSP. -/
def cardTransp (c : List W64) : Bool := bit (cardWord c 0) 26
/-- INARRAY. -/
def cardInarray (c : List W64) : Bool := bit (cardWord c 0) 25
/-- CKMODE: 0 none, 1 GEN, 2 CHECK. -/
def cardCkmode (c : List W64) : Nat := bits (cardWord c 0) 24 23
/-- CODEC: 0 none, 1 ENCODE, 2 DECODE. -/
def cardCodec (c : List W64) : Nat := bits (cardWord c 0) 22 21
/-- Bytes of a block of the declared padded size. -/
def cardSlot (c : List W64) : Nat := slotBytes (bits (cardWord c 0) 20 19)
/-- STREAM. -/
def cardStream (c : List W64) : Nat := bits (cardWord c 0) 18 16
/-- UNIT + 1. -/
def cardUnit (c : List W64) : Nat := bits (cardWord c 0) 11 0 + 1
/-- SHANDLE and DHANDLE. -/
def cardHandle (c : List W64) (dst : Bool) : Nat := if dst then bits (cardWord c 3) 43 24 else bits (cardWord c 3) 63 44
/-- The tile shape. -/
def cardShape (c : List W64) : Quad4 :=
  let w := cardWord c 3
  ⟨bits w 23 16 + 1, bits w 15 8 + 1, bits w 7 4 + 1, bits w 3 0 + 1⟩
/-- A tile coordinate word. -/
def coordOf (w : W64) : Quad4 := ⟨bits w 15 0, bits w 31 16, bits w 47 32, bits w 63 48⟩
/-- AUX × 256. -/
def cardAux (c : List W64) : Nat := bits (cardWord c 4) 39 0 * 256
/-- LT. -/
def cardLt (c : List W64) : Nat := (cardWord c 5).toNat
/-- CNT of a level. -/
def cardCnt (c : List W64) (k : Nat) : Nat := bits (cardWord c (6 + k)) 63 52
/-- SSTR and DSTR of a level, in bytes. -/
def cardStride (c : List W64) (dst : Bool) (k : Nat) : Int :=
  if dst then sbits (cardWord c (6 + k)) 25 0 else sbits (cardWord c (6 + k)) 51 26
/-- Units of the nest. -/
def cardUnits (c : List W64) : Nat := (List.range 6).foldl (fun n k => n * (cardCnt c k + 1)) 1
/-- UnitSectorBytes (R162). -/
def cardSectorBytes (c : List W64) : Nat := if cardCodec c = 1 then cardSlot c else cardUnit c
/-- The offset of unit u at an endpoint: i0 innermost (R158). -/
def cardOffset (c : List W64) (dst : Bool) (u : Nat) : Int :=
  ((List.range 6).foldl (fun (p : Int × Nat) k =>
    (p.1 + (p.2 % (cardCnt c k + 1) : Nat) * cardStride c dst k, p.2 / (cardCnt c k + 1))) (0, u)).1
/-- Checksum blocks of the job, 0 with CKMODE = 0 (R172). -/
def cardNck (c : List W64) : Nat := if cardCkmode c = 0 then 0 else ceilDiv (cardUnits c * cardUnit c) 4096
/-- Where the overflow area starts (R172). -/
def cardOverflow (c : List W64) : Nat := cardAux c + ceilDiv (4 * cardNck c) 4096 * 4096
/-- The tile of a handle endpoint with a record. -/
def cardTile (r : TRec) (c : List W64) (dst : Bool) : Tile4 :=
  { r := r, coord := coordOf (cardWord c (if dst then 2 else 1)), shape := cardShape c
    transp := !dst && cardTransp c }

/-- The footprint regions of a card (R168). -/
def cardRegions (ctx : Nat) (c : List W64) : List Region :=
  (List.range 4).filterMap fun n =>
    let w := cardWord c (12 + n)
    if bit w 63 then
      let sp := bits w 43 40
      some { space := sp, owner := if sp = 9 then ctxCluster ctx else if sp = 0 ∨ sp = 0xF then 0 else ctxCore ctx
             base := bits w 39 0 * 256, len := (bits w 61 44 + 1) * 256, write := bit w 62 }
    else none

/-! ### Checks at issue (R160, R161) -/

/-- A of R160: the largest power of two that divides UNIT + 1, at most 32. -/
def cardAlign (c : List W64) : Nat := (List.range 6).foldl (fun a k => if cardUnit c % 2 ^ k = 0 then 2 ^ k else a) 1

/-- The element granule of a handle endpoint in bytes (R160). -/
def TRec.granule (r : TRec) : Nat := if r.ty = 15 then 4 else if r.ty = 14 then 3 else if r.width % 8 = 0 then r.width / 8 else 1

/-- The ALIGN cases of R160; a record that is not valid gives no granule. -/
def State.cardMisaligned (s : State) (d : Nat) (c : List W64) : Bool :=
  let a := cardAlign c
  let granuleBad := fun (dst : Bool) => let r := s.record d (cardHandle c dst); r.valid && r.granule != 0 && cardUnit c % r.granule != 0
  (cardSrck c == 0 && cardOp c == 0 && (cardWord c 1).toNat % a != 0) ||
  (cardDstk c == 0 && (cardWord c 2).toNat % a != 0) ||
  ((List.range 6).any fun k => decide (0 < cardCnt c k) && (cardStride c false k % (a : Int) != 0 || cardStride c true k % (a : Int) != 0)) ||
  (cardSrck c == 1 && granuleBad false) || (cardDstk c == 1 && granuleBad true)

/-- CARD of R161. -/
def cardBad (c : List W64) : Bool :=
  let w := cardWord c 0
  let localSpace := fun (a : W64) => [0x0, 0x8, 0x9, 0xA].contains (bits a 63 60)
  bits w 15 12 != 0 || bits (cardWord c 4) 63 60 != 0 || decide (2 ≤ cardOp c) || cardDstk c == 3 || cardCkmode c == 3 || cardCodec c == 3 ||
  (cardOp c == 1 && cardSrck c == 1) ||
  (cardDstk c == 2 && (bit (cardWord c 4) 59 || cardWord c 2 != 0#64)) ||
  (cardTransp c && cardSrck c != 1) ||
  (cardInarray c && (cardSrck c == 1 || cardDstk c != 0 || cardTransp c || cardCodec c != 0 || cardCkmode c != 0)) ||
  (cardCodec c != 0 && (cardUnit c != 4096 || cardSrck c == 1 || cardDstk c == 1)) ||
  (cardOp c == 0 && cardSrck c == 0 && !localSpace (cardWord c 1)) || (cardDstk c == 0 && !localSpace (cardWord c 2)) ||
  ((List.range 4).any fun n => bit (cardWord c (12 + n)) 63 && !([0x0, 0x8, 0x9, 0xA, 0xF].contains (bits (cardWord c (12 + n)) 43 40)))

/-- The least offset and the end of the offsets that an endpoint reaches. -/
def cardSpan (c : List W64) (dst : Bool) (n : Nat) : Int × Int :=
  (List.range 6).foldl (fun (p : Int × Int) k =>
    let d := (cardCnt c k : Int) * cardStride c dst k
    (p.1 + min 0 d, p.2 + max 0 d)) (0, n)

/-- Bytes of a local space; none for global memory. -/
def State.spaceBytes (s : State) (ctx : Nat) : Nat → Option Nat
  | 0x8 => some (partScratch (s.part ctx))
  | 0x9 => some 0x400000
  | 0xA => some (partAcc (s.part ctx))
  | _ => none

/-- RANGE of R161. -/
def State.cardRange (s : State) (ctx : Nat) (c : List W64) : Bool :=
  let d := ctxDie ctx
  let handleBad := fun (dst : Bool) =>
    let t := cardTile (s.record d (cardHandle c dst)) c dst
    let p := cardSpan c dst (cardUnit c)
    t.r.valid && (decide (65536 < t.bytes) || decide (p.1 < 0) || decide ((t.bytes : Int) < p.2))
  let localBad := fun (dst : Bool) (n : Nat) =>
    let a := cardWord c (if dst then 2 else 1)
    match s.spaceBytes ctx (bits a 63 60) with
    | none => false
    | some size =>
      let p := cardSpan c dst n
      let o : Int := bits a 59 0
      decide (o + p.1 < 0) || decide ((size : Int) < o + p.2)
  let w := cardWord c 4
  (if cardSrck c = 1 then handleBad false
   else cardOp c == 0 && localBad false (if cardCodec c = 2 then cardSlot c else cardUnit c)) ||
  (if cardDstk c = 1 then handleBad true
   else cardDstk c == 0 && localBad true (cardSectorBytes c)) ||
  (bit w 59 && decide ((if bit w 58 then 0x400000 else partScratch (s.part ctx)) < bits w 57 40 * 16 + 16))

/-- The status with which a card is refused (R161); 0 where the job is queued. -/
def State.cardStatus (s : State) (ctx : Nat) (c : List W64) : Nat :=
  if cardBad c then 16
  else if s.cardRange ctx c then 17
  else if cardDstk c = 2 then
    (match s.ctx ctx with
     | some x => let t := SMap.get {} x.f (cardStream c); if t.bound.isSome || !t.buf.isEmpty then 18 else 0
     | none => 18)
  else 0

/-- A card that passes its checks becomes a job, and binds its stream register (R156, R166 to R169). -/
def State.issueCard (s : State) (ctx : Nat) (sup : Bool) (token place : Nat) (c : List W64) : State :=
  let d := ctxDie ctx
  let serial := (s.die d).accepted
  let s := s.acceptJob d
    { serial := 0, place := place, kind := .sluice c, ctx := ctx, sup := sup, token := some token
      tag := (cardWord c 0).extractLsb' 32 32, regions := cardRegions ctx c, preds := [] }
  if cardDstk c = 2 then
    s.modCtx ctx fun x => { x with f := SMap.set {} x.f (cardStream c) { bound := some (.job d serial), buf := [], coming := [], ended := false } }
  else s

/-! ### Units (R158, R159, R162 to R165, R172, R173) -/

/-- The units of a job are performed in nest order: those of R159, those that feed a stream, a checksum or a codec, and those of a row
initialisation, whose row copies follow the first row of their group (R54). -/
def Job.inOrder (j : Job) (c : List W64) : Bool :=
  cardDstk c == 2 || cardCkmode c != 0 || cardCodec c != 0 || (cardInarray c && cardOp c == 1) ||
  (j.regions.any fun a => !a.write && j.regions.any fun b => b.write && a.conflicts b)

/-- A unit has been performed. -/
def Job.performed (j : Job) (u : Nat) : Bool := decide (u < j.pos) || j.units.contains u

/-- POS moves past the units performed; `fuel` exceeds their number. -/
def Job.advance : Nat → Job → Job
  | 0, j => j
  | fuel + 1, j => if j.units.contains j.pos then Job.advance fuel { j with pos := j.pos + 1, units := j.units.filter (· != j.pos) } else j

/-- What a unit meets. -/
inductive UnitEnd where
  | ok (s : State)
  | stop (e : EngStop)
  | norecord
  | codec
  | integ (s : State) (j : Job)

/-- Whether a job copies rows within the arrays (R53): it asked for it and met the conditions. -/
def Job.inArray (j : Job) (c : List W64) : Bool := cardInarray c && !j.fallback

/-- The addresses of the 2 KiB rows of a unit at an endpoint, in order (R53). -/
def cardRows (c : List W64) (dst : Bool) (u : Nat) : List W64 :=
  (List.range (cardUnit c / 2048)).map fun i => cardWord c (if dst then 2 else 1) + BitVec.ofInt 64 (cardOffset c dst u + (2048 * i : Nat))

/-- The physical address of a row at an endpoint of a job, if it is a whole row of HBM (R53). A row that has no translation, or no permission, when
the job starts meets the condition as little as one outside HBM: the job then runs as an ordinary one and is suspended by R165 where its unit
faults, DESIGN CHOICE (log entry 81). -/
def State.rowPa (s : State) (g : Agent) (dst : Bool) (a : W64) : Option Nat :=
  match s.engRun g (if dst then .write else .read) a.toNat 2048 with
  | .ok (.global pa) => if isHbm pa ∧ pa % 2048 = 0 then some pa else none
  | _ => none

/-- The stack, pseudo-channel, bank and subarray of an HBM row (R36, R37, R53). -/
def rowGroup (pa : Nat) : List Nat := [pa / 2 ^ 39, pa / 4096 % 8, channelOf pa, bankOf pa, subarrayOf pa]

/-- The first row of the destination region, in nest order, that lies in the group of a row (R54). -/
def State.firstRow (s : State) (g : Agent) (c : List W64) (pa : Nat) : Option W64 :=
  (List.range (cardUnits c)).findSome? fun u => (cardRows c true u).find? fun a =>
    match s.rowPa g true a with | some q => rowGroup q == rowGroup pa | none => false

/-- Poison travels with a row copied within the arrays, whose on-die ECC bits move with the data (R54). -/
def State.copyPoison (s : State) (a b : Nat) : State :=
  if s.poison.isEmpty then s
  else { s with poison := (List.range 64).foldl (fun ps i => if s.poison.contains (a / 32 + i) then insertAsc (b / 32 + i) ps else ps) s.poison }

/-- A row copied within the arrays from one address to another (R54). -/
def State.copyRow (s : State) (g : Agent) (src dst : W64) : Except EngStop State :=
  match ({ s with poison := [] }).engRead g src 2048 with
  | .error e => .error e
  | .ok bs =>
    match s.engWrite g dst bs with
    | .error e => .error e
    | .ok t => .ok (match s.rowPa g false src, s.rowPa g true dst with | some a, some b => t.copyPoison a b | _, _ => t)

/-- Row initialisation of one row (R54): the first row of its group is written with the job's fill word, and every other row is copied from
that one. The source translates as a destination of the job. -/
def State.initRow (s : State) (g : Agent) (c : List W64) (fill : List Byte) (a : W64) : Except EngStop State :=
  match (s.rowPa g true a).bind (s.firstRow g c) with
  | none => s.engWrite g a fill
  | some f =>
    if f = a then s.engWrite g a fill
    else match s.engRun g .write f.toNat 2048 with
      | .error e => .error e
      | .ok l =>
        match s.engWrite g a (s.readLoc g.die l 2048) with
        | .error e => .error e
        | .ok t => .ok (match s.rowPa g true f, s.rowPa g true a with | some p, some q => t.copyPoison p q | _, _ => t)

/-- The plain bytes that a unit reads (R158). -/
def State.unitSource (s : State) (g : Agent) (j : Job) (c : List W64) (u : Nat) : Except UnitEnd (List Byte) :=
  let n := cardUnit c
  let a := cardWord c 1 + BitVec.ofInt 64 (cardOffset c false u)
  let read := fun (a : W64) (n : Nat) => match s.engRead g a n with
    | .ok bs => (Except.ok bs : Except UnitEnd (List Byte))
    | .error e => .error (.stop e)
  if cardOp c = 1 then
    let w := toBytes 4 (cardWord c 1).toNat
    .ok ((List.range n).map fun i => w.getD (i % 4) 0#8)
  else if cardSrck c = 1 then
    let t := cardTile (recOf j.srec) c false
    if !t.r.valid then .error .norecord
    else match s.readImage g t (cardOffset c false u).toNat n with
      | .ok bs => .ok bs
      | .error e => .error (.stop e)
  else if cardCodec c = 2 then
    match s.readSlot g a (cardSlot c) with
    | .error e => .error (.stop e)
    | .ok (.plain bs) => .ok bs
    | .ok .bad => .error .codec
    | .ok (.escape k) => read (BitVec.ofNat 64 (cardOverflow c + 4096 * k)) 4096
  else read a n

/-- One element of a unit (R247), written without its bytes of `skip`: in global memory it is one write. -/
def State.writePart (s : State) (d : Nat) (l : Loc) (bs : List Byte) (skip : List Nat) : State :=
  if skip.length = bs.length then s
  else match l with
  | .global pa =>
    if isHost pa then bs.zipIdx.foldl (fun (s : State) b => if skip.contains b.2 then s else s.postHost d (pa + b.2) [b.1]) s
    else s.writeGlobal d pa bs skip
  | _ => bs.zipIdx.foldl (fun (s : State) b => if skip.contains b.2 then s else s.writeLoc d (l.add b.2) [b.1]) s

/-- The elements of a run, each 8-byte-aligned piece and each byte of a shorter piece, without the bytes that a test covers; `i` is the place of
the first byte, and `fuel` exceeds their number. -/
def State.writeAround (s : State) (d : Nat) (covered : Nat → Bool) : Nat → Nat → Loc → List Byte → State
  | 0, _, _, _ => s
  | fuel + 1, i, l, bs =>
    if bs.isEmpty then s
    else
      let k := if l.offset % 8 = 0 ∧ 8 ≤ bs.length then 8 else 1
      (s.writePart d l (bs.take k) ((List.range k).filter fun n => covered (i + n))).writeAround d covered fuel (i + k) (l.add k) (bs.drop k)

/-- Bytes written at an address, without those that a later unit of the job has written already (R159, R247). -/
def State.writeUncovered (s : State) (g : Agent) (a : W64) (covered : Nat → Bool) (bs : List Byte) : Except EngStop State :=
  if (List.range bs.length).any covered then
    match s.engRuns g .write (runsOf a bs.length) with
    | .error e => .error e
    | .ok ls =>
      let t := (ls.foldl (fun (p : State × Nat) r => (p.1.writeAround g.die covered (r.2 + 1) p.2 r.1 ((bs.drop p.2).take r.2), p.2 + r.2)) (s, 0)).1
      let kept := ((ls.flatMap fun r => (List.range r.2).map fun i => r.1.add i).zipIdx.filter fun p => !covered p.2).map fun p => (p.1, 1)
      .ok ((t.unpoison kept).touchRuns true ls)
  else s.engWrite g a bs

/-- Stream vectors made by bytes that follow a tail; a last one is completed with zero bytes (R166). -/
def cutVectors : Nat → List Byte → List Vec × List Byte
  | 0, bs => ([], bs)
  | fuel + 1, bs =>
    if bs.length < 256 then ([], bs)
    else let r := cutVectors fuel (bs.drop 256); (vecOfNat (leNat (bs.take 256)) :: r.1, r.2)

/-- The vectors of a job become ready to enter its stream register; a register that it feeds no longer drops them (R166, R458). -/
def State.feedStream (s : State) (d : Nat) (j : Job) (f : Nat) (vs : List Vec) (last : Bool) : State :=
  s.modCtx j.ctx fun x =>
    let t := SMap.get {} x.f f
    if t.bound = some (.job d j.serial) then
      { x with f := SMap.set {} x.f f { t with coming := t.coming ++ vs.map fun v => (0, v), ended := last } }
    else x

/-- A unit as it is written (R158, R189 to R191): encoded where CODEC says so, a block that escapes standing in the overflow area. The state,
the bytes and the overflow blocks so far. -/
def State.unitEncoded (s : State) (g : Agent) (j : Job) (c : List W64) (bs : List Byte) : Except EngStop (State × List Byte × Nat) :=
  if cardCodec c = 1 then
    let e := encodeBlock bs
    if e.length ≤ cardSlot c then .ok (s, padTo (cardSlot c) e, j.ovf)
    else (s.engWrite g (BitVec.ofNat 64 (cardOverflow c + 4096 * j.ovf)) bs).map fun s => (s, escapeSlot (cardSlot c) j.ovf, j.ovf + 1)
  else .ok (s, bs, j.ovf)

/-- The bytes of a unit that a later unit of the job has written already (R159). -/
def Job.covered (j : Job) (c : List W64) (u i : Nat) : Bool :=
  (j.units.filter fun v => u < v).any fun v =>
    let p := cardOffset c true v
    decide (p ≤ cardOffset c true u + i) && decide (cardOffset c true u + i < p + cardUnit c)

/-- What a unit writes (R158): the state, the overflow blocks so far and the tail of a stream. -/
def State.unitDest (s : State) (g : Agent) (j : Job) (c : List W64) (u : Nat) (bs : List Byte) : Except UnitEnd (State × Nat × List Byte) :=
  match s.unitEncoded g j c bs with
  | .error e => .error (.stop e)
  | .ok (s, bs, ovf) =>
    let o := cardOffset c true u
    let a := cardWord c 2 + BitVec.ofInt 64 o
    let fin := fun (r : Except EngStop State) => match r with
      | .ok s => (Except.ok (s, ovf, j.tail) : Except UnitEnd (State × Nat × List Byte))
      | .error e => .error (.stop e)
    if cardDstk c = 2 then
      let last := u + 1 == cardUnits c
      let r := cutVectors 32 (j.tail ++ bs)
      let vs := if last && !r.2.isEmpty then r.1 ++ [vecOfNat (leNat r.2)] else r.1
      .ok (s.feedStream g.die j (cardStream c) vs last, ovf, if last then [] else r.2)
    else if cardDstk c = 1 then
      let t := cardTile (recOf j.drec) c true
      if !t.r.valid then .error .norecord else fin (s.writeImage g t o.toNat bs (j.covered c u))
    else if j.inArray c then
      fin (if cardOp c = 1 then (cardRows c true u).foldl (fun (acc : Except EngStop State) r => acc.bind fun s => s.initRow g c (bs.take 2048) r) (.ok s)
        else (((cardRows c false u).zip (cardRows c true u)).zipIdx.filter fun r => !j.covered c u (2048 * r.2)).foldl
          (fun (acc : Except EngStop State) r => acc.bind fun s => s.copyRow g r.1.1 r.1.2) (.ok s))
    else fin (s.writeUncovered g a (j.covered c u) bs)

/-- The checksum blocks that have ended by now: each is written, or compared (R172, R173). The job comes back with its plain bytes and
its count of blocks; `fuel` exceeds the number of blocks. -/
def State.checkBlocks (s : State) (g : Agent) (c : List W64) (last : Bool) : Nat → Job → Except UnitEnd (State × Job)
  | 0, j => .ok (s, j)
  | fuel + 1, j =>
    if j.plain.length < 4096 ∧ ¬ (last ∧ !j.plain.isEmpty) then .ok (s, j)
    else
      let v := toBytes 4 (crc32c (j.plain.take 4096)).toNat
      let a := BitVec.ofNat 64 (cardAux c + 4 * j.blocks)
      let next := { j with plain := j.plain.drop 4096, blocks := j.blocks + 1 }
      if cardCkmode c = 1 then
        match s.engWrite g a v with
        | .error e => .error (.stop e)
        | .ok s => s.checkBlocks g c last fuel next
      else
        match s.engRead g a 4 with
        | .error e => .error (.stop e)
        | .ok w => if w = v then s.checkBlocks g c last fuel next else .error (.integ s j)

/-- Sectors land on the job's barrier up to a number in all (R163, R170). -/
def State.landTo (s : State) (d : Nat) (j : Job) (n : Nat) : State :=
  match j.barrier with
  | none => s
  | some l =>
    if n ≤ j.landed then s
    else (s.engBar l (.land (n - j.landed))).modJob d j.serial fun k => { k with landed := n }

/-- Sectors of a job that may have landed after `units` units of a prefix or in all, and `blocks` checked blocks (R162, R172). -/
def landable (c : List W64) (units blocks : Nat) : Nat :=
  let total := ceilDiv (cardUnits c * cardSectorBytes c) 32
  let done := if cardCkmode c = 2 then (if blocks = cardNck c then cardUnits c * cardSectorBytes c
      else if cardCodec c = 1 then blocks * cardSectorBytes c else blocks * 4096) else units * cardSectorBytes c
  if cardUnits c * cardSectorBytes c ≤ done then total else done / 32

/-- The layout units keep the translations that a unit of a handle endpoint used (R283). -/
def State.touchTiles (s : State) (g : Agent) (j : Job) (c : List W64) (u : Nat) : State :=
  let touch := fun (s : State) (dst : Bool) (im : List Byte) =>
    (cardTile (recOf im) c dst).pages (cardOffset c dst u).toNat (cardUnit c) |>.foldl (fun (s : State) va => s.fillLayout g.die va) s
  let s := if cardSrck c = 1 then touch s false j.srec else s
  if cardDstk c = 1 then touch s true j.drec else s

/-- The bytes that a unit moves; rows copied within the arrays pass no engine. -/
def State.unitBytes (s : State) (g : Agent) (j : Job) (c : List W64) (u : Nat) : Except UnitEnd (List Byte) :=
  if j.inArray c && cardOp c == 0 then .ok [] else s.unitSource g j c u

/-- One unit performed (R158): read, transformed and written, its checksum blocks checked, its sectors landed. -/
def State.performUnit (s : State) (d : Nat) (j : Job) (c : List W64) (u : Nat) : UnitEnd :=
  let g := Agent.ofCtx j.ctx j.sup
  match s.unitBytes g j c u with
  | .error e => e
  | .ok bs =>
    match s.unitDest g j c u bs with
    | .error e => e
    | .ok (s1, ovf, tail) =>
      let s1 := s1.touchTiles g j c u
      let last := u + 1 == cardUnits c
      let j1 := { j with ovf := ovf, tail := tail, plain := if cardCkmode c = 0 then [] else j.plain ++ bs }
      match s1.checkBlocks g c last (ceilDiv (j1.plain.length) 4096 + 1) j1 with
      | .error e => e
      | .ok (s2, j2) =>
        let j3 := Job.advance (j2.units.length + 2) { j2 with units := u :: j2.units }
        let s3 := s2.modJob d j.serial fun _ => j3
        .ok (s3.landTo d j3 (landable c (j3.pos + j3.units.length) j3.blocks))

/-- The endpoint runs of a unit, for the waits of R168. -/
def State.unitWaits (s : State) (g : Agent) (c : List W64) (u : Nat) : Bool :=
  let src := cardWord c 1 + BitVec.ofInt 64 (cardOffset c false u)
  let dst := cardWord c 2 + BitVec.ofInt 64 (cardOffset c true u)
  (cardOp c == 0 && cardSrck c == 0 && s.engWaits g src (if cardCodec c = 2 then cardSlot c else cardUnit c)) ||
  (cardDstk c == 0 && s.engWaits g dst (cardSectorBytes c))

/-- The Riffle unit through which a unit of a codec job passes (R197): it takes its place in the queue of the unit with the fewest operations, if
there is room (R177), and may go on once it stands at the head of that queue. -/
def State.enterPass (s : State) (d : Nat) (j : Job) (c : List W64) : State × Bool :=
  let cl := ctxCluster j.ctx
  if cardCodec c = 0 then (s, true)
  else match s.passOf cl d j.serial with
  | some (_, head) => (s, head)
  | none =>
    let u := s.leastRiffle cl
    let n := (s.riffle cl u).queue.length
    if 8 ≤ n then (s, false)
    else
      let o : ROp := { ctx := j.ctx, sup := j.sup, kind := if cardCodec c = 1 then .encode else .decode, ports := [], trig := 0#64, token := 0
                       state := .running, job := some (d, j.serial), last := false }
      (s.modRiffle cl u fun r => { r with queue := r.queue ++ [o] }, n == 0)

/-- The next unit may be read: the vectors of the earlier ones have entered the stream's buffer (R166). -/
def State.streamReady (s : State) (d : Nat) (j : Job) (c : List W64) : Bool :=
  cardDstk c != 2 ||
    (match s.ctx j.ctx with
     | some x => let t := SMap.get {} x.f (cardStream c); t.bound != some (.job d j.serial) || t.coming.isEmpty
     | none => true)

/-- A job is suspended by a fault, which goes to the fault queue (R165, R285). -/
def State.suspendJob (s : State) (d : Nat) (j : Job) (cause : Nat) (va : W64) (wr layout : Bool) : State :=
  ((s.modJob d j.serial fun k => { k with state := .suspended, units := [] }).dropPass (ctxCluster j.ctx) d j.serial).fqPush d
    { va := va, tag := j.tag, cause := BitVec.ofNat 8 cause, agent := if layout then 4#4 else 1#4
      source := BitVec.ofNat 20 (ctxCluster j.ctx % 72), jobref := jobRef d j.serial j.place, wr := wr }

/-- A unit stopped (R31, R67, R164, R165, R173). -/
def State.unitStopped (s : State) (d : Nat) (j : Job) (c : List W64) (u : Nat) : UnitEnd → State
  | .ok t => t
  | .norecord => s.endJob d j.serial .norecord
  | .codec => (s.modJob d j.serial fun k => { k with pos := u }).endJob d j.serial .codec
  | .integ t k =>
    ((t.landTo d k (landable c 0 k.blocks)).modJob d j.serial fun m => { m with pos := k.blocks, ovf := k.ovf }).endJob d j.serial .integ
  | .stop (.ecc pa) => (s.logUE (logSource 2 0 d) pa).endJob d j.serial .ecc
  | .stop .held => s
  | .stop (.fault cause va wr layout) => s.suspendJob d j cause va wr layout

/-- What the ECC of the arrays finds in the data that a unit reads decides first (R31). -/
def State.unitEcc (s : State) (d : Nat) (j : Job) (c : List W64) (u : Nat) (ecc : SramEcc) : State :=
  match ecc with
  | .bad pa => if cardOp c = 0 then s.unitStopped d j c u (.stop (.ecc pa)) else s
  | .corrected => let s := s.countCE false; s.unitStopped d j c u (s.performUnit d j c u)
  | .clean => s.unitStopped d j c u (s.performUnit d j c u)

/-- A unit of a Sluice job may be performed. -/
def State.unitReady (s : State) (d : Nat) (j : Job) (c : List W64) (u : Nat) : Bool :=
  j.state == .running && !s.gatedOff && decide (u < cardUnits c) && !j.performed u && (!j.inOrder c || u == j.pos) && s.streamReady d j c &&
    !s.unitWaits (Agent.ofCtx j.ctx j.sup) c u

/-- SLUICE_UNIT of a Sluice job (R158, R197). -/
def State.cardUnitRun (s : State) (d : Nat) (j : Job) (c : List W64) (u : Nat) (ecc : SramEcc) : State :=
  let p := s.enterPass d j c
  if p.2 then
    (let t := p.1.unitEcc d j c u ecc
     if cardCodec c = 0 then t else t.dropPass (ctxCluster j.ctx) d j.serial).checkEnd
  else p.1

/-! ### Start and end (R53, R55, R163) -/

/-- A unit's rows qualify for an in-array operation (R53): whole 2 KiB rows of HBM, and for a copy each pair of rows within one subarray. The
manual does not say whether the length and the alignment are those of the whole region or of each unit: the model tests each unit, DESIGN
CHOICE (log entry 60). -/
def State.rowsQualify (s : State) (g : Agent) (c : List W64) (u : Nat) : Bool :=
  cardUnit c % 2048 == 0 && ((cardRows c false u).zip (cardRows c true u)).all fun r =>
    match s.rowPa g true r.2 with
    | none => false
    | some b =>
      cardOp c == 1 ||
      (match s.rowPa g false r.1 with
       | none => false
       | some a => rowGroup a == rowGroup b && rowOf a != rowOf b)

/-- The lines of the cache that lie in a row. -/
def State.rowLines (s : State) (pa : Nat) : List Nat := (s.llc.filter fun kv => runsOverlap (128 * kv.1) 128 pa 2048).map (·.1)

/-- The dirty sectors of a source row are written back (R55). -/
def State.cleanRow (s : State) (pa : Nat) : State :=
  (s.rowLines pa).foldl (fun (s : State) n =>
    let t := s.writeBack n
    { t with llc := SMap.modify {} t.llc n fun l => { l with dirty := 0#4 } }) s

/-- The lines of a destination row are invalid, pinned ones too (R55). -/
def State.dropRow (s : State) (pa : Nat) : State := { s with llc := (s.rowLines pa).foldl (fun m n => SMap.set {} m n {}) s.llc }

/-- What the Sluice does to the cache before an in-array job (R55): it cleans every source row, then invalidates every destination row, so that a row
which is both has its dirty sectors written back. -/
def State.flushRows (s : State) (g : Agent) (c : List W64) (us : List Nat) : State :=
  let each := fun (dst : Bool) (f : State → Nat → State) (s : State) =>
    (us.flatMap (cardRows c dst)).foldl (fun (s : State) a => match s.rowPa g dst a with | some pa => f s pa | none => s) s
  each true State.dropRow (if cardOp c = 0 then each false State.cleanRow s else s)

/-- Where a job's handle requests read their records (R60, R66). -/
def State.jobReads (s : State) (d : Nat) (c : List W64) : List (Nat × Nat) :=
  let r := fun (dst : Bool) => s.layoutReads d (cardHandle c dst) (cardTile {} c dst).coord (cardTile {} c dst).shape
  (if cardSrck c = 1 then r false else []) ++ if cardDstk c = 1 then r true else []

/-- SLUICE_JOB_START (R53, R66, R163): a waiting job whose predecessors are DONE, at or after its launch time, runs; its handle requests read
their records, and one that is uncorrectable ends the job (R31). No job starts while the dies are gated (R11). -/
def State.sluiceStart (s : State) (d serial : Nat) : State :=
  match s.job d serial with
  | none => s
  | some j =>
    if j.state ≠ .waiting ∨ !s.predsDone d j ∨ s.gatedOff then s
    else match j.kind with
    | .sluice c =>
      if s.timeReached (cardLt c) then
        let g := Agent.ofCtx j.ctx j.sup
        let us := if cardInarray c then List.range (cardUnits c) else []
        let ok := us.all (s.rowsQualify g c)
        let s := if cardInarray c && ok then s.flushRows g c us else s
        let image := fun (dst : Bool) => s.layoutBytes d (cardHandle c dst) (cardTile {} c dst).coord (cardTile {} c dst).shape
        match s.poisonIn (s.jobReads d c) with
        | some pa => (s.logUE (logSource 2 0 d) pa).endJob d serial .ecc
        | none => s.modJob d serial fun k =>
          { k with
            state := .running, fallback := cardInarray c && !ok
            srec := if cardSrck c = 1 then image false else []
            drec := if cardDstk c = 1 then image true else [] }
      else s
    | .restore key =>
      let h := match s.stash d key with | some e => if e.rdest = 0#64 then 0 else e.handle | none => 0
      match s.poisonIn (if h = 0 then [] else [(recAddr d h, 64)]) with
      | some pa => (s.logUE (logSource 4 0 d) pa).endJob d serial .ecc
      | none => s.modJob d serial fun k => { k with state := .running, drec := if h = 0 then [] else s.recordBytes d h }
    | .store _ => s.modJob d serial fun k => { k with state := .running }

/-- SLUICE_JOB_DONE (R163): every unit is performed, its sectors have landed on the barrier, and the last vector of a stream is in its buffer. -/
def State.sluiceDone (s : State) (d serial : Nat) : State :=
  match s.job d serial with
  | none => s
  | some j =>
    match j.kind with
    | .sluice c =>
      let landed : Bool := match j.barrier with | some l => !s.barWaits.any fun w => w.loc == l | none => true
      if j.state = .running ∧ !s.gatedOff ∧ cardUnits c ≤ j.pos ∧ s.streamReady d j c ∧ landed then (s.endJob d serial .done).checkEnd else s
    | _ => s

/-- SLUICE_JOB_FAULT (R165): an access of the unit does not translate. -/
def State.sluiceFault (s : State) (d serial u : Nat) : State :=
  match s.job d serial with
  | none => s
  | some j =>
    match j.kind with
    | .sluice c =>
      if j.state = .running ∧ !s.gatedOff ∧ u < cardUnits c ∧ ¬ j.performed u ∧ (j.inOrder c → u = j.pos) then
        (match s.performUnit d j c u with
         | .stop (.fault cause va wr layout) => s.unitStopped d j c u (.stop (.fault cause va wr layout))
         | _ => s)
      else s
    | _ => s

/-- A vector enters a buffer, behind those that are there. -/
def Stream.push (t : Stream) (v : Vec) (ecc : Option Nat) : Stream :=
  { t with buf := t.buf ++ [v], ecc := if ecc.isSome then t.ecc ++ List.replicate (t.buf.length - t.ecc.length) none ++ [ecc] else t.ecc }

/-- STREAM_VECTOR_ARRIVAL (R166, R203): the next vector that a job has ready, or the next one of a stash entry whose data is restored, enters a
buffer that has room for it. -/
def State.vectorArrival (s : State) (c f : Nat) : State :=
  match s.ctx c with
  | none => s
  | some x =>
    let t := SMap.get {} x.f f
    if 8 ≤ t.buf.length ∨ s.gatedOff then s
    else
      match t.bound, t.coming with
      | some .mread, _ => s
      | _, (_, v) :: rest => s.modCtx c fun x => { x with f := SMap.set {} x.f f { t.push v none with coming := rest } }
      | some (.stash d key a left), [] =>
        (match s.feedVector c d key a left with
         | none => s
         | some (v, ecc) => s.modCtx c fun x =>
             { x with f := SMap.set {} x.f f { t.push v ecc with bound := some (.stash d key (a + 256#64) (left - 8)), ended := decide (left ≤ 8) } })
      | _, [] => s

/-- SLUICE_JOB_START (R163). -/
def execSluiceJobStart (die serial : Nat) (s : State) : Host.Outcome State Fault Refusal := .next (s.sluiceStart die serial)
/-- SLUICE_JOB_DONE (R163). -/
def execSluiceJobDone (die serial : Nat) (s : State) : Host.Outcome State Fault Refusal := .next (s.sluiceDone die serial)
/-- SLUICE_JOB_FAULT (R165). -/
def execSluiceJobFault (die serial unit : Nat) (s : State) : Host.Outcome State Fault Refusal := .next (s.sluiceFault die serial unit)
/-- STREAM_VECTOR_ARRIVAL (R166). -/
def execStreamVectorArrival (ctx stream : Nat) (s : State) : Host.Outcome State Fault Refusal := .next (s.vectorArrival ctx stream)

end Sys2Proof.Machine
end

