-- ==== Sys2Proof/Machine/Eddy.lean ====
section
/-! DEFINITION. The Eddy (R198 to R204, R460, R483): stash entries, the arenas, stores and restores. -/

namespace Sys2Proof.Machine

/-! ### Entries (R198 to R200) -/

/-- STATE as EDQRY returns it (R204). -/
def StashState.code : StashState → Nat
  | .resident => 1 | .compressed => 2 | .spilledFar => 3 | .spilledLp => 4 | .dropped => 5 | .restoring => 6 | .restored => 7

/-- A key word: TAG, STAGE and SIDX (R460). -/
def keyOf (w : W64) : Nat := (w &&& 0xFFFFFFFFFC000000#64).toNat
/-- Bytes of the plain data. -/
def Stash.bytes (e : Stash) : Nat := 32 * e.len
/-- Blocks of the plain data, the last one perhaps partial. -/
def Stash.blocks (e : Stash) : Nat := ceilDiv e.bytes 4096

/-- The near-arena runs given out (R199). -/
def Eddy.nearUsed (e : Eddy) : List (Nat × Nat) := e.stashes.flatMap fun k => k.near.toList ++ k.dest.toList
/-- The far-arena runs given out. -/
def Eddy.farUsed (e : Eddy) : List (Nat × Nat) := e.stashes.flatMap fun k => k.far.toList
/-- The LP-arena runs given out. -/
def Eddy.lpUsed (e : Eddy) : List (Nat × Nat) := e.stashes.flatMap fun k => k.lp.toList

/-- The lowest free run of `n` units in an arena of `len` units (R199). -/
def freeRun (len : Nat) (used : List (Nat × Nat)) (n : Nat) : Option (Nat × Nat) :=
  let fits := fun (u : Nat) => decide (u + n ≤ len) && used.all fun r => !runsOverlap u n r.1 r.2
  match ((0 :: used.map fun r => r.1 + r.2).filter fits).min? with
  | some u => some (u, n)
  | none => none

/-- PLAIN of an entry (R204): the address of its plain data when RESIDENT or RESTORED. -/
def Eddy.plain (ed : Eddy) (e : Stash) : Nat :=
  let near := match e.dest with
    | some r => arenaAddr ed.nbase r
    | none => (match e.near with | some r => arenaAddr ed.nbase r | none => 0)
  match e.state with
  | .resident => near
  | .restored => if e.rdest ≠ 0#64 then e.rdest.toNat else near
  | _ => 0

/-- The word of EDQRY (R204). -/
def State.eddyWord (s : State) (d key : Nat) : W64 :=
  match s.stash d key with
  | none => 0#64
  | some e => BitVec.ofNat 64 (e.state.code * 2 ^ 60 + (if e.err then 2 ^ 59 else 0) + (if s.stashBusy d key then 2 ^ 58 else 0) +
      e.cpad.toNat * 2 ^ 56 + (s.die d).eddy.plain e % 2 ^ 48)

/-! ### EDSTASH (R200, R201) -/

/-- The modes of a stash descriptor. -/
def modeState : Nat → StashState
  | 0 => .resident | 1 => .compressed | 2 => .spilledFar | 3 => .spilledLp | _ => .dropped

/-- The entry that a descriptor asks for, with its runs; none where an arena lacks room (R199, R201). -/
def Eddy.place (ed : Eddy) (c : Nat) (sup : Bool) (w : List W64) : Option Stash :=
  let w0 := w.getD 0 0#64
  let mode := bits w0 25 23
  let e : Stash :=
    { key := keyOf w0, state := modeState mode, cpad := BitVec.ofNat 2 (bits w0 22 21), len := bits (w.getD 3 0#64) 20 0 + 1
      src := BitVec.ofNat 64 (bits (w.getD 1 0#64) 47 0), rdest := BitVec.ofNat 64 (bits (w.getD 2 0#64) 47 0)
      handle := bits w0 19 0, ctx := c, sup := sup }
  let near := fun (n : Nat) => freeRun ed.nlen.toNat ed.nearUsed n
  let far := fun (n : Nat) => freeRun ed.flen.toNat ed.farUsed n
  match mode with
  | 0 => (near e.blocks).map fun r => { e with near := some r }
  | 1 =>
    (match near (ceilDiv (e.blocks * slotBytes e.cpad.toNat) 4096), far e.blocks with
     | some r, some q => some { e with near := some r, far := some q }
     | _, _ => none)
  | 2 => (far e.blocks).map fun r => { e with far := some r }
  | 3 => (freeRun ed.lplen.toNat ed.lpUsed e.blocks).map fun r => { e with lp := some r }
  | _ => some e

/-- Misalignment of a stash descriptor's contents (R201). -/
def stashMisaligned (w : List W64) : Option W64 :=
  if bits (w.getD 1 0#64) 4 0 != 0 then some (w.getD 1 0#64)
  else if bits (w.getD 2 0#64) 4 0 != 0 then some (w.getD 2 0#64)
  else none

/-- The status of EDSTASH (R201), and the entry that it makes. -/
def State.stashStatus (s : State) (c : Nat) (sup : Bool) (w : List W64) : Nat × Option Stash :=
  let d := ctxDie c
  let w0 := w.getD 0 0#64
  let mode := bits w0 25 23
  let ed := (s.die d).eddy
  let old := s.stash d (keyOf w0)
  if bits (w.getD 3 0#64) 63 21 != 0 || bits (w.getD 2 0#64) 63 48 != 0 || bits (w.getD 1 0#64) 63 48 != 0 || bit w0 20 ||
      decide (4 < mode) || !(s.stage d (bits w0 31 29)).enable ||
      (bits w0 19 0 != 0 && !(s.record d (bits w0 19 0)).valid) then (1, none)
  else match old with
  | some e => if e.state ≠ .dropped then (2, none) else if mode ≠ 0 then (3, none) else if 4096 ≤ ed.stashes.length then (4, none) else
      (match ({ ed with stashes := ed.stashes.filter fun k => k.key != e.key }).place c sup w with
       | some n => (0, some n)
       | none => (5, none))
  | none => if 4096 ≤ ed.stashes.length then (4, none) else
      (match ed.place c sup w with
       | some n => (0, some n)
       | none => (5, none))

/-- A run of an arena as a footprint region. -/
def arenaRegion (base : BitVec 48) (r : Option (Nat × Nat)) (write : Bool) : List Region :=
  match r with
  | some q => [⟨0, 0, arenaAddr base q, 4096 * q.2, write⟩]
  | none => []

/-- The stored copy of an entry as footprint regions (R201). -/
def Eddy.storedRegions (ed : Eddy) (e : Stash) (write : Bool) : List Region :=
  arenaRegion ed.nbase e.near write ++ arenaRegion ed.fbase e.far write ++ arenaRegion ed.lpbase e.lp write

/-- The job of an Eddy copy. Its EDSTASH or EDFETCH does not wait (R231, R341): where the scheduler is full the job is QUEUED until a place frees
(R162, R167). -/
def eddyJob (kind : JobKind) (e : Stash) (c : Nat) (token : Option Nat) (place : Option Nat) (rs : List Region) : Job :=
  { serial := 0, place := place.getD 0, kind := kind, ctx := c, sup := e.sup, token := token, tag := BitVec.ofNat 32 (keyTag e.key)
    state := if place.isSome then .waiting else .queued, regions := rs, preds := [] }

/-- An accepted EDSTASH (R201): the entry takes its stored state at once, and the copy becomes a job; DROP copies nothing. -/
def State.edstash (s : State) (c token : Nat) (place : Option Nat) (e : Stash) : State :=
  let d := ctxDie c
  let s := (s.modDie d fun x => { x with eddy := { x.eddy with stashes := (x.eddy.stashes.filter fun k => k.key != e.key) ++ [e] } }).evalSoon d
    (keyStage e.key)
  if e.state = .dropped then s
  else s.acceptJob d (eddyJob (.store e.key) e c (some token) place
    (⟨0, 0, e.src.toNat, e.bytes, false⟩ :: (s.die d).eddy.storedRegions e true))

/-! ### EDFETCH (R203, R460) -/

/-- The address at which the plain data of an entry stands, or will stand once it is restored (R203, R204). -/
def Eddy.target (ed : Eddy) (e : Stash) : Nat :=
  if e.state = .resident ∨ e.rdest = 0#64 then (match e.dest with
    | some r => arenaAddr ed.nbase r
    | none => (match e.near with | some r => arenaAddr ed.nbase r | none => 0))
  else e.rdest.toNat

/-- An attachment is made (R203): a barrier receives Land for every sector already in place, and a stream register is bound and fed from the
plain data. -/
def State.attachTo (s : State) (d : Nat) (e : Stash) (a : Attach) : State :=
  match a with
  | .barrier l =>
    let n := if e.state = .restored then e.len else e.done
    if n = 0 then s else s.engBar l (.land n)
  | .stream c f => s.modCtx c fun x =>
      { x with f := SMap.set {} x.f f { bound := some (.stash d e.key (BitVec.ofNat 64 ((s.die d).eddy.target e)) e.len) } }

/-- The restore that an entry needs: none where no copy starts; with RDEST = 0 it takes a near-arena run. -/
def State.restoreStart (s : State) (d : Nat) (e : Stash) : Option (Option Stash) :=
  match e.state with
  | .resident => if e.rdest = 0#64 then none else some (some { e with state := .restoring })
  | .restoring => none
  | .restored => none
  | .dropped => none
  | _ =>
    if e.rdest ≠ 0#64 then some (some { e with state := .restoring })
    else
      let ed := (s.die d).eddy
      some ((freeRun ed.nlen.toNat ed.nearUsed e.blocks).map fun r => { e with state := .restoring, dest := some r })

/-- The status of EDFETCH (R203). -/
def State.fetchStatus (s : State) (d key : Nat) (a : Option Attach) : Nat :=
  match s.stash d key with
  | none => 1
  | some e =>
    if e.state = .dropped then 2
    else if s.restoreStart d e = some none then 5
    else
      let bound := match a with
        | some (.stream c f) => (match s.ctx c with | some x => let t := SMap.get {} x.f f; t.bound.isSome || !t.buf.isEmpty | none => true)
        | _ => false
      if bound || (a.isSome && e.state == .restoring && decide (4 ≤ e.attach.length)) then 6 else 0

/-- An attachment of a running restore, which further sectors land on (R203). -/
def State.attachRestore (s : State) (d key : Nat) (a : Option Attach) : State :=
  match a, s.stash d key with
  | some a, some e => (s.attachTo d e a).modStash d key fun e => { e with attach := e.attach ++ [a] }
  | _, _ => s

/-- EDFETCH with status 0 (R203): `waiter` is the token that clears when the restore ends; the result says whether it stays counted. -/
def State.edfetch (s : State) (d key c : Nat) (place : Option Nat) (a : Option Attach) (waiter : Option (Nat × Nat)) : State × Bool :=
  match s.stash d key with
  | none => (s, false)
  | some e =>
    match s.restoreStart d e with
    | some (some n) =>
      let s := (s.modStash d key fun _ => { n with attach := [], done := 0, waiters := waiter.toList }).evalSoon d (keyStage key)
      let dst : Region := if n.rdest ≠ 0#64 then ⟨0, 0, n.rdest.toNat, n.bytes, true⟩
        else (match n.dest with | some r => ⟨0, 0, arenaAddr (s.die d).eddy.nbase r, 4096 * r.2, true⟩ | none => ⟨0, 0, 0, 0, true⟩)
      ((s.acceptJob d (eddyJob (.restore key) n c none place ((s.die d).eddy.storedRegions n false ++ [dst]))).attachRestore d key a, true)
    | _ =>
      if e.state = .restoring then ((s.attachRestore d key a).modStash d key fun e => { e with waiters := e.waiters ++ waiter.toList }, true)
      else
        let s := (s.modStash d key fun e => { e with state := .restored }).evalSoon d (keyStage key)
        (match a with | some a => s.attachTo d { e with state := .restored } a | none => s, false)

/-! ### Copies (R201 to R203, R483) -/

/-- The blocks of an entry, each of 4 KiB, the last filled with zeros (R201). -/
def blocksOf (n : Nat) (bs : List Byte) : List (List Byte) := (List.range n).map fun i => padTo 4096 ((bs.drop (4096 * i)).take 4096)

/-- The data of a store is written (R201): the state, and the blocks that escaped. -/
def State.storeCopy (s : State) (d : Nat) (e : Stash) : Except EngStop (State × Nat) :=
  let ed := (s.die d).eddy
  let g : Agent := { Agent.ofCtx e.ctx true with die := d }
  match s.engRead { g with sup := e.sup } e.src e.bytes with
  | .error x => .error x
  | .ok bs =>
    match e.state, e.near, e.far, e.lp with
    | _, some n, some f, _ =>
      let size := slotBytes e.cpad.toNat
      ((blocksOf e.blocks bs).zipIdx).foldl (fun (acc : Except EngStop (State × Nat)) b =>
        match acc with
        | .error x => .error x
        | .ok (s, k) =>
          let enc := encodeBlock b.1
          let slot := BitVec.ofNat 64 (arenaAddr ed.nbase n + size * b.2)
          if enc.length ≤ size then (s.engWrite g slot (padTo size enc)).map fun s => (s, k)
          else
            match s.engWrite g (BitVec.ofNat 64 (arenaAddr ed.fbase f + 4096 * k)) b.1 with
            | .error x => .error x
            | .ok s => (s.engWrite g slot (escapeSlot size k)).map fun s => (s, k + 1)) (.ok (s, 0))
    | _, some n, none, _ => (s.engWrite g (BitVec.ofNat 64 (arenaAddr ed.nbase n)) bs).map fun s => (s, 0)
    | _, none, some f, _ => (s.engWrite g (BitVec.ofNat 64 (arenaAddr ed.fbase f)) bs).map fun s => (s, 0)
    | _, none, none, some l => (s.engWrite g (BitVec.ofNat 64 (arenaAddr ed.lpbase l)) bs).map fun s => (s, 0)
    | _, none, none, none => .ok (s, 0)

/-- What ends a copy early. -/
inductive CopyEnd where
  | stop (e : EngStop)
  | codec
  deriving DecidableEq, Repr

/-- Block `i` of the plain data of a stored copy (R202, R203). -/
def State.storedBlock (s : State) (d : Nat) (e : Stash) (i : Nat) : Except CopyEnd (List Byte) :=
  let ed := (s.die d).eddy
  let g : Agent := { Agent.ofCtx e.ctx true with die := d }
  let n := min 4096 (e.bytes - 4096 * i)
  let read := fun (a n : Nat) => match s.engRead g (BitVec.ofNat 64 a) n with
    | .ok bs => (Except.ok bs : Except CopyEnd (List Byte))
    | .error x => .error (.stop x)
  match e.near, e.far, e.lp with
  | some r, some f, _ =>
    let size := slotBytes e.cpad.toNat
    (match s.readSlot g (BitVec.ofNat 64 (arenaAddr ed.nbase r + size * i)) size with
     | .error x => .error (.stop x)
     | .ok .bad => .error .codec
     | .ok (.plain bs) => .ok (bs.take n)
     | .ok (.escape k) => (read (arenaAddr ed.fbase f + 4096 * k) 4096).map fun bs => bs.take n)
  | some r, none, _ => read (arenaAddr ed.nbase r + 4096 * i) n
  | none, some f, _ => read (arenaAddr ed.fbase f + 4096 * i) n
  | none, none, some l => read (arenaAddr ed.lpbase l + 4096 * i) n
  | none, none, none => .ok []

/-- A byte at a virtual address as a die reads it, whatever its page permits; none where no page is mapped. -/
def State.peek (s : State) (d a : Nat) : Option Byte :=
  match s.walk d a with
  | .entry e => (s.readPhys d (e.pa + (a - e.va)) 1).head?
  | _ => none

/-- The bits of an element that a restore counts (R483): its bytes in the restored data, and those beside it as they stand. A byte that no page
holds is a free value. -/
def State.restoredBits (s : State) (d : Nat) (rdest : Nat) (bs : List Byte) (a sh w : Nat) : Nat :=
  leNat ((List.range (ceilDiv (sh + w) 8)).map fun i =>
    let b := a + i
    if rdest ≤ b ∧ b < rdest + bs.length then bs.getD (b - rdest) 0#8 else (s.peek d b).getD (s.draw.1.truncate 8)) / 2 ^ sh % 2 ^ w

/-- The elements of a record whose first bytes lie in the restored bytes `bs` from address `a` on, counted as they then stand (R483). Those
that begin in the last bytes of a block are counted with the block that brings the rest of them: `all` is what is known behind it. -/
def State.restoreCounts (s : State) (g : Agent) (r : TRec) (a n : Nat) (all : List Byte) : List GaugeUpd :=
  let lo := a - r.base
  let hi := a + n - r.base
  let w := r.width
  if r.gmode = 0 ∨ !r.valid ∨ w = 0 ∨ hi = 0 then []
  else
    let k0 := ceilDiv (8 * lo) w
    let k1 := ceilDiv (8 * hi) w
    sectorUpdates g.die r.gidx ((List.range (k1 - k0)).filterMap fun i =>
      let k := k0 + i
      (r.placeElem k).map fun x =>
        (r.base + k * w / 8, s.storedValue g r (some x) (s.restoredBits g.die a all (r.base + k * w / 8) (k * w % 8) w)))

/-- Bytes of the block behind block `i`, as far as they can be read now: an element that begins in block i may end there. -/
def State.nextBytes (s : State) (d : Nat) (e : Stash) (i : Nat) : List Byte :=
  if i + 1 < e.blocks then (match s.storedBlock d e (i + 1) with | .ok bs => bs.take 4 | .error _ => []) else []

/-- Sectors of a block land on the barriers attached to a restore as they are applied (R203). -/
def State.restoreLand (s : State) (d key n : Nat) : State :=
  match s.stash d key with
  | none => s
  | some e =>
    (e.attach.foldl (fun (s : State) a => match a with | .barrier l => s.engBar l (.land n) | .stream _ _ => s) s).modStash d key
      fun e => { e with done := e.done + n }

/-- One block of a restore is written (R202, R203, R483), and its elements are counted with the record that the job read. -/
def State.restoreBlock (s : State) (d : Nat) (e : Stash) (image : List Byte) (i : Nat) : Except CopyEnd State :=
  match s.storedBlock d e i with
  | .error x => .error x
  | .ok bs =>
    let g : Agent := { Agent.ofCtx e.ctx true with die := d }
    let n := ceilDiv bs.length 32
    if e.rdest ≠ 0#64 then
      let g := { g with sup := e.sup }
      let a := e.rdest.toNat + 4096 * i
      (match s.engWrite g (BitVec.ofNat 64 a) bs with
      | .error x => .error (.stop x)
      | .ok t =>
        let us := if image = [] then [] else t.restoreCounts g (recOf image) a bs.length (bs ++ s.nextBytes d e i)
        .ok (({ t with gaugeQ := t.gaugeQ ++ us, freeCtr := t.freeCtr + 1 } : State).restoreLand d e.key n))
    else
      match e.dest with
      | none => .ok (s.restoreLand d e.key n)
      | some r =>
        match s.engWrite g (BitVec.ofNat 64 (arenaAddr (s.die d).eddy.nbase r + 4096 * i)) bs with
        | .error x => .error (.stop x)
        | .ok t => .ok ((t.pinRun d (r.1 + i, 1)).restoreLand d e.key n)

/-- A copy met a fault, uncorrectable data or a bad slot (R199, R202). -/
def State.copyStopped (s : State) (d : Nat) (j : Job) (e : CopyEnd) : State :=
  match e with
  | .codec => s.endJob d j.serial .codec
  | .stop (.ecc pa) => (s.logUE (logSource 4 0 d) pa).endJob d j.serial .ecc
  | .stop .held => s
  | .stop (.fault cause va wr _) =>
    (s.modJob d j.serial fun k => { k with state := .suspended }).fqPush d
      { va := va, tag := j.tag, cause := BitVec.ofNat 8 cause, agent := 3#4, source := BitVec.ofNat 20 (ctxCluster j.ctx % 72)
        jobref := jobRef d j.serial j.place, wr := wr }

/-- The near-arena runs that a store has filled are pinned (R199). -/
def State.pinStash (s : State) (d : Nat) (e : Stash) : State :=
  if (e.state = .resident ∨ e.state = .compressed ∨ e.state = .restored) then e.near.toList.foldl (fun (s : State) r => s.pinRun d r) s else s

/-- EDDY_STORE_COMPLETE (R201): the data of a running store is applied, and its token clears. -/
def State.eddyStored (s : State) (d serial : Nat) : State :=
  match s.job d serial with
  | none => s
  | some j =>
    match j.kind with
    | .store key =>
      if j.state ≠ .running ∨ s.gatedOff then s
      else match s.stash d key with
      | none => s
      | some e =>
        match s.storeCopy d e with
        | .error x => s.copyStopped d j (.stop x)
        | .ok (s, k) => (((s.pinStash d e).modStash d key fun e => { e with ovf := k }).endJob d serial .done).checkEnd
    | _ => s

/-- The next block of a restore (R203); a copy that stops is suspended or fails (R199, R202). The second component says whether it was written. -/
def State.restoreNext (s : State) (d : Nat) (j : Job) (e : Stash) : State × Bool :=
  let i := ceilDiv e.done 128
  match s.restoreBlock d e j.drec i with
  | .error x => (s.copyStopped d j x, false)
  | .ok t => (t.modJob d j.serial fun k => { k with pos := i + 1 }, true)

/-- The blocks of a restore that are still to be written; `fuel` exceeds their number. -/
def State.restoreRest (s : State) (d : Nat) (j : Job) (key : Nat) : Nat → State × Bool
  | 0 => (s, true)
  | fuel + 1 =>
    match s.stash d key with
    | none => (s, false)
    | some e =>
      if e.len ≤ e.done then (s, true)
      else
        let r := s.restoreNext d j e
        if r.2 then r.1.restoreRest d j key fuel else r

/-- EDDY_RESTORE_COMPLETE (R202): every write of a running restore is applied; the entry is RESTORED, its stored copy is released and its tokens
clear. -/
def State.eddyRestored (s : State) (d serial : Nat) : State :=
  match s.job d serial with
  | none => s
  | some j =>
    match j.kind with
    | .restore key =>
      if j.state ≠ .running ∨ s.gatedOff then s
      else match s.stash d key with
      | none => s
      | some e =>
        let r := s.restoreRest d j key (e.blocks + 1)
        if !r.2 then r.1.checkEnd
        else
          let s := e.near.toList.foldl (fun (s : State) r => s.unpinRun d r) r.1
          let s := s.modStash d key fun e => { e with state := .restored, near := none, far := none, lp := none, attach := [], waiters := [] }
          let s := (s.evalSoon d (keyStage key)).modJob d serial fun k => { k with state := .done }
          let s := e.waiters.foldl (fun (s : State) w => s.modCtx w.1 fun x => x.tokDown w.2) s
          ((s.stashFree d key).placeFreed d).checkEnd
    | _ => s

/-- SLUICE_UNIT (R158, R203): one unit of a job of the scheduler, a unit of a Sluice job's nest or the next block of a restore. `ecc` is what the
ECC of the arrays finds in the data that a Sluice job reads (R31). -/
def State.sluiceUnit (s : State) (d serial u : Nat) (ecc : SramEcc) : State :=
  match s.job d serial with
  | none => s
  | some j =>
    match j.kind with
    | .sluice c => if s.unitReady d j c u then s.cardUnitRun d j c u ecc else s
    | .restore key =>
      (match s.stash d key with
       | some e => if j.state = .running ∧ !s.gatedOff ∧ e.done < e.len ∧ u = ceilDiv e.done 128 then (s.restoreNext d j e).1.checkEnd else s
       | none => s)
    | .store _ => s

/-- EDDY_JOB_FAILURE (R202): uncorrectable data at a physical address ends a running store or restore. -/
def State.eddyFailed (s : State) (d serial pa : Nat) : State :=
  match s.job d serial with
  | none => s
  | some j =>
    match j.kind with
    | .sluice _ => s
    | _ => if j.state = .running ∧ !s.gatedOff then (s.copyStopped d j (.stop (.ecc pa))).checkEnd else s

/-- EDFREE of an entry that is held (R204): its token clears when the entry is gone. -/
def State.edfree (s : State) (d key c token dest : Nat) : State :=
  (s.modStash d key fun e => { e with frees := e.frees ++ [(c, token, dest)] }).stashFree d key

/-- EDDY_STORE_COMPLETE (R201). -/
def execEddyStoreComplete (die serial : Nat) (s : State) : Host.Outcome State Fault Refusal := .next (s.eddyStored die serial)
/-- EDDY_RESTORE_COMPLETE (R202). -/
def execEddyRestoreComplete (die serial : Nat) (s : State) : Host.Outcome State Fault Refusal := .next (s.eddyRestored die serial)
/-- EDDY_JOB_FAILURE (R202). -/
def execEddyJobFailure (die : Nat) (job : EccJob) (s : State) : Host.Outcome State Fault Refusal := .next (s.eddyFailed die job.serial job.pa)
/-- SLUICE_UNIT (R158, R203). -/
def execSluiceUnit (die serial unit : Nat) (ecc : SramEcc) (s : State) : Host.Outcome State Fault Refusal :=
  .next (s.sluiceUnit die serial unit ecc)

end Sys2Proof.Machine
end

