-- ==== Sys2Proof/Machine/Control.lean ====
section
/-! DEFINITION. The control-slot operations (file 15): what each answers when its bundle issues. What a bundle does after its slots have
issued (transfers, loops, SPIN, DONE, RFT, YIELD) stands in Machine/Issue.lean. -/

namespace Sys2Proof.Machine

/-- The field checks of the C layout (R346, R347): which of J, PD, PE are used, and whether X and IMM hold values out of range. -/
def cChecks (f : CForm) (j pd pe xBad immBad : Bool) : List Check :=
  [ ⟨!j && f.j != 0#2, 0, f.j.toNat⟩, ⟨!pd && f.pd != 0#4, 1, f.pd.toNat⟩, ⟨!pe && f.pe != 0#4, 2, f.pe.toNat⟩,
    ⟨xBad, 3, f.x.toNat⟩, ⟨immBad, 4, f.imm.toNat⟩ ]

/-- The checks of an operation that uses no field at all. -/
def cNone (f : CForm) : List Check := cChecks f false false false (f.x != 0#8) (f.imm != 0#20)

/-- A j register (R212). -/
def Ctx.jReg (x : Ctx) (n : BitVec 2) : W64 := SMap.get 0#64 x.j n.toNat

/-- NOP (R365). -/
def evalNop (f : CForm) (e : Env) : SlotOut := e.guarded (cNone f) .none

/-! ### Targets and transfers (R348 to R352) -/

/-- PREP, relative (R348). Other values of X than 0 and 1 are out of range. -/
def evalPrep (f : CForm) (e : Env) : SlotOut :=
  e.guarded (cChecks f true false false (f.x != 0#8) false)
    (e.result 1 (.scalar (.j f.j.toNat) (e.pc.zeroExtend 64 + 4#64 * f.imm.signExtend 64)))

/-- A literal word that an operation names and its bundle does not have (R347): field 6, with a value that the manual does not state. -/
def Env.noLiteral (e : Env) (i : Nat) : Check := ⟨decide (e.lits.length ≤ i), 6, Config.missingLiteral i⟩

/-- PREP, absolute (R348). -/
def evalPrepAbsolute (f : CForm) (e : Env) : SlotOut :=
  let i := bits f.imm 1 0
  let hi := e.lits.getD (i + 1) 0#32
  e.guarded
    (cChecks f true false false (f.x != 1#8) (bits f.imm 19 2 != 0) ++
      [e.noLiteral (i + 1), ⟨bits hi 31 16 != 0, 6, hi.toNat⟩])
    (e.result 1 (.scalar (.j f.j.toNat) ((hi.extractLsb' 0 16).zeroExtend 32 ++ e.lits.getD i 0#32)))

/-- BRX and BRXL (R349): ILLEGAL_OP in a repeated bundle whatever the guard (R351). -/
def Env.branch (e : Env) (f : CForm) (link : Bool) : SlotOut :=
  if e.repeats ≠ 0 then e.illegalOp
  else
    let t := (e.x.jReg f.j).truncate 48
    e.guarded (cChecks f true false false (f.x != 0#8) (f.imm != 0#20))
      (.act none fun s => s.modCtx e.c fun x => x.setTransfer t link)

/-- BRX (R349). -/
def evalBrx (f : CForm) (e : Env) : SlotOut := e.branch f false
/-- BRXL (R349). -/
def evalBrxl (f : CForm) (e : Env) : SlotOut := e.branch f true

/-! ### Predicates for control (R353) -/

/-- VOTE (R353). -/
def evalVote (f : CForm) (e : Env) : SlotOut :=
  let p := e.x.pred f.pe.toNat
  e.guarded (cChecks f false true true (decide (1 < f.x.toNat)) (f.imm != 0#20))
    (e.result 1 (.predicate f.pd.toNat (allLanes (if f.x = 0#8 then p != 0#64 else p == Mask.all)) Mask.all))

/-- PTT (R353). -/
def evalPtt (f : CForm) (e : Env) : SlotOut :=
  e.guarded (cChecks f false true true false (bits f.imm 19 8 != 0))
    (e.result 1 (.predicate f.pd.toNat
      (e.x.guard ⟨f.x, f.pe, f.imm.extractLsb' 0 4, f.imm.extractLsb' 4 4⟩) Mask.all))

/-! ### Loops (R354, R355) -/

/-- LOOP (R355): the nest starts after the last repetition of its own bundle. -/
def evalLoop (f : CForm) (e : Env) : SlotOut :=
  let lv := f.x.toNat
  let body := f.imm.toNat
  e.guarded (cChecks f false false false (lv == 0 || decide (6 < lv)) (body == 0 || decide (4095 < body)))
    (.act none fun s => s.modCtx e.c fun x => { x with loops := { x.loops with starting := some (lv, body) } })

/-- LSET (R354). -/
def evalLset (f : CForm) (e : Env) : SlotOut :=
  let k := bits f.x 2 0
  let byReg := bit f.x 3
  let n := if byReg then (bits (e.x.jReg f.j) 19 0) else f.imm.toNat
  e.guarded
    (cChecks f byReg false false (decide (5 < k) || bits f.x 7 4 != 0) (if byReg then f.imm != 0#20 else f.imm == 0#20))
    (.act none fun s => s.modCtx e.c fun x => { x with loops := { x.loops with counts := SMap.set 1 x.loops.counts k n } })

/-- Set the link of a register and a level; stride 0 removes it (R354). -/
def setLink (ls : List LoopLink) (d k : Nat) (stride : W64) : List LoopLink :=
  let rest := ls.filter fun l => !(l.d == d && l.level == k)
  if stride = 0#64 then rest else rest ++ [⟨d, k, stride⟩]

/-- LSTR (R354): a ninth link is reported as field 3. -/
def evalLstr (f : CForm) (e : Env) : SlotOut :=
  let k := bits f.x 2 0
  let ls := setLink e.x.loops.links (bits f.x 7 3) k (f.imm.signExtend 64)
  e.guarded (cChecks f false false false (decide (5 < k) || decide (8 < ls.length)) false)
    (.act none fun s => s.modCtx e.c fun x => { x with loops := { x.loops with links := ls } })

/-! ### Waiting and delay (R357, R358) -/

/-- WAITK (R357). -/
def evalWaitk (f : CForm) (e : Env) : SlotOut :=
  e.guarded (cChecks f false false false false (f.imm != 0#20))
    (if (List.range 8).any fun k => f.x.getLsbD k && e.x.tokCount k != 0 then .stall
     else match e.x.marked f.x.toNat with
       | some (k, a) => .trap { code := 0x11, arg := BitVec.ofNat 64 a, slot := some 0, mark := some k }
       | none => .none)

/-- SPIN (R358). -/
def evalSpin (f : CForm) (e : Env) : SlotOut :=
  e.guarded (cChecks f false false false (f.x != 0#8) false)
    (.act none fun s => s.modCtx e.c fun x => { x with spin := x.spin + f.imm.toNat })

/-! ### Gang barriers (R127, R359) -/

/-- A barrier of a gang whose every member is arrived changes phase, and its waiters are re-inserted (R359). What the arrivals release stays
with the barrier for those that pass it. -/
def State.checkBar (s : State) (g b : Nat) : State :=
  match s.gang g with
  | none => s
  | some gg =>
    let bar := SMap.get {} gg.bars b
    if gg.members.all fun m => bar.arrived.contains m.2 then
      (s.modGang g fun x => { x with bars := SMap.set {} x.bars b { phase := !bar.phase, arrived := [], behind := [], released := bar.behind } }).wake
        fun x w => x.gang == g && w == .barrier b
    else s

/-- The check of a gang's barriers at an event that may let one complete. -/
def State.checkBars (s : State) (g : Nat) : State := (List.range 32).foldl (fun (s : State) b => s.checkBar g b) s

/-- BARV (R359): the member on sequencer `c` arrives, once in a phase, and releases the writes that it has issued. -/
def State.barArrive (s : State) (c g member b : Nat) : State :=
  match s.gang g with
  | none => s
  | some gg =>
    if (SMap.get {} gg.bars b).arrived.contains member then s
    else
      (s.modGang g fun x =>
        { x with bars := SMap.modify {} x.bars b fun r =>
            { r with arrived := insertAsc member r.arrived, behind := r.behind ++ s.heldWrites c } }).checkBar g b

/-- Whether a member is arrived at a barrier. -/
def State.barArrived (s : State) (g member b : Nat) : Bool :=
  match s.gang g with
  | none => false
  | some gg => (SMap.get {} gg.bars b).arrived.contains member

/-- The member on sequencer `c` passes a barrier: it acquires what the arrivals of the last phase released (R359). Writes that have been
performed are applied at the die that the gang runs on, and hold nothing. -/
def State.barPass (s : State) (c g b : Nat) : State :=
  match s.gang g with
  | none => s
  | some gg => s.behindWrites c ((SMap.get {} gg.bars b).released.filter fun i =>
      match SMap.get none s.accesses i with
      | some a => a.ctx != c
      | none => false)

/-- BARV (R359). -/
def evalBarv (f : CForm) (e : Env) : SlotOut :=
  e.guarded (cChecks f false false false (f.x != 0#8) (decide (31 < f.imm.toNat)))
    (.act none fun s => s.barArrive e.c e.x.gang e.x.member f.imm.toNat)

/-- The checks of BWAIT. -/
def bwaitChecks (f : CForm) : List Check := cChecks f false false false (decide (1 < f.x.toNat)) (decide (31 < f.imm.toNat))

/-- BWAIT (R359). The arrival of its .ARV form has been made as the bundle was presented (R480). -/
def evalBwait (f : CForm) (e : Env) : SlotOut :=
  let b := f.imm.toNat
  e.guarded (bwaitChecks f)
    (if e.s.barArrived e.x.gang e.x.member b then .wait (.barrier b) id
     else .act none fun s => s.barPass e.c e.x.gang b)

/-- YIELD (R365): the context leaves the ready set and enters it at once, after its bundle has issued. -/
def evalYield (f : CForm) (e : Env) : SlotOut := e.guarded (cNone f) .none

/-! ### Format and windows (R298, R360, R361, R210) -/

/-- The bits of IMM that hold the field of a bit of X (R360). -/
def fmtField : Nat → BitVec 20
  | 0 => 0x7#20 | 1 => 0x8#20 | 2 => 0x10#20 | 3 => 0x60#20 | 4 => 0x780#20 | _ => 0x1800#20

/-- The IMM bits that X does not select (R360). -/
def fmtUnselected (x : BitVec 8) : BitVec 20 :=
  (List.range 6).foldl (fun m k => if x.getLsbD k then m else m ||| fmtField k) 0xFE000#20

/-- FMT with the selected fields replaced (R360). -/
def fmtReplace (old : W64) (x : BitVec 8) (imm : BitVec 20) (key : W32) : W64 :=
  let put := fun (o : W64) (b : Nat) (m : W64) (v : Nat) => if x.getLsbD b then (o &&& ~~~m) ||| BitVec.ofNat 64 v else o
  put (put (put (put (put (put old 0 0x7#64 (bits imm 2 0)) 1 0x10#64 (bits imm 3 3 * 16)) 2 0x20#64 (bits imm 4 4 * 32))
    3 0x300#64 (bits imm 6 5 * 256)) 4 0xF000#64 (bits imm 10 7 * 4096)) 5 0xFFFFFFFF00000000#64 (key.toNat * 2 ^ 32)

/-- A pending value of FMT is replaced by a newer one (R298). -/
def Ctx.dropFmt (x : Ctx) : Ctx :=
  { x with flight := x.flight.filter fun f => match f.what with | .fmt _ => false | _ => true }

/-- SETFMT (R298, R360). -/
def evalSetfmt (f : CForm) (e : Env) : SlotOut :=
  let i := bits f.imm 12 11
  let bad := (f.imm &&& fmtUnselected f.x) != 0#20
    || (f.x.getLsbD 0 && decide (4 < bits f.imm 2 0))
    || (f.x.getLsbD 4 && !qfmtValid (bits f.imm 10 7))
  e.guarded (cChecks f false false false (bits f.x 7 6 != 0) bad ++ if f.x.getLsbD 5 then [e.noLiteral i] else [])
    (.act none fun s =>
      (s.modCtx e.c Ctx.dropFmt).addFlight e.c 4 (.fmt (fmtReplace e.x.fmt f.x f.imm (e.lits.getD i 0#32))))

/-- The landing counts of the macro-ops of a list of flights. -/
def macroLands (fs : List Flight) : List Nat := fs.filterMap fun f => match f.what with | .macroOp _ => some f.land | _ => none

/-- A trap has frozen a macro-op of a context. -/
def Ctx.macroFrozen (x : Ctx) : Bool := match x.snap with | some sn => !(macroLands sn.flights).isEmpty | none => false

/-- A macro-op is in flight in a context, the ones that a trap has frozen among them (R210). -/
def Ctx.macroBusy (x : Ctx) : Bool := !(macroLands x.flight).isEmpty || x.macroFrozen

/-- SETWIN (R210, R361). While macro-ops of its own context alone are in flight, the stall lasts until the last of them lands. -/
def evalSetwin (f : CForm) (e : Env) : SlotOut :=
  let cl := ctxCluster e.c
  e.guardedSup (cChecks f false false false (f.x == 0#8 || decide (6 < f.x.toNat)) (f.imm != 0#20))
    (if (e.x.macroFrozen || (List.range 8).any fun i => 8 * cl + i != e.c &&
          match e.s.ctx (8 * cl + i) with | some x => x.macroBusy | none => false) then .stall
     else if !(macroLands e.x.flight).isEmpty then .stall (some ((macroLands e.x.flight).foldl max 0))
     else .act none fun s => s.modCluster cl fun k => { k with winmode := f.x.truncate 3 })

/-! ### Traps and the end of a task (R362 to R364) -/

/-- TRAP (R362). -/
def evalTrap (f : CForm) (e : Env) : SlotOut :=
  e.guarded (cChecks f false false false (f.x != 0#8) false) (e.trap 0x13 (f.imm.zeroExtend 64))

/-- RFT (R363): PRIV at user level, ILLEGAL_OP outside a handler. Its return follows the issue of its bundle. -/
def evalRft (f : CForm) (e : Env) : SlotOut :=
  if e.g0 then
    (if !e.x.sup then e.priv 0
     else if !e.x.inHandler then e.illegalOp
     else e.checked (cNone f) .none)
  else .none

/-- DONE (R364): no later bundle of the context issues. -/
def evalDone (f : CForm) (e : Env) : SlotOut :=
  e.guarded (cNone f) (.act none fun s => s.modCtx e.c fun x => { x with run := .draining })

end Sys2Proof.Machine
end

