-- ==== Sys2Proof/Machine/Landing.lean ====
section
/-! DEFINITION. What happens when a result lands (R227), macro-ops (R295, R296, R425 to R427) and joins (R235) among them; and what a
context does as it leaves the ready set (R233). -/

namespace Sys2Proof.Machine

/-! ### Macro-ops -/

/-- An element that lands sets the tile's status from its value (R422, R425). -/
def Tile.put (t : Tile) (l : Landed) : Tile :=
  let v := fF32.value l.val.toNat
  { t with
    elems := SMap.set 0#32 t.elems (tileKey l.row l.col) l.val
    sub := t.sub || l.tiny
    inf := t.inf || (!t.i32 && (match v with | .inf _ => true | _ => false))
    nan := t.nan || l.nan || (!t.i32 && v == .nan) }

/-- The row pairs that hold a flushed result (R270). -/
def tinyPairs (ls : List Landed) : Mask := Mask.ofFn fun p => ls.any fun l => l.tiny && l.row / 2 == p

/-- Landed elements stand in the tile; a flushed one sets SUBFLAG and, under ASSIST, makes SUBNORM_ASSIST due (R264, R300). -/
def Ctx.landElems (x : Ctx) (z : Nat) (ls : List Landed) (assist : Bool) (pc : BitVec 48) : Ctx :=
  let tiny := ls.any fun l => l.tiny
  let x := { x with z := SMap.modify {} x.z z fun t => ls.foldl Tile.put t }
  if tiny then
    { x with
      subflag := true
      due := if assist then x.due ++ [⟨0x0A, tinyPairs ls, some pc⟩] else x.due }
  else x

/-- The landed values are counted into a gauge record, by sectors of eight columns (R427). -/
def State.countLanded (s : State) (d g : Nat) (i32 : Bool) (ls : List Landed) : State :=
  (List.range 128).foldl (fun s r =>
    (List.range 16).foldl (fun s q =>
      let sec := ls.filter fun l => l.row == r && l.col / 8 == q
      if sec.isEmpty then s
      else s.gaugeSector d g (contribution (sec.map fun l => if i32 then .ofInt l.val.toInt else fF32.value l.val.toNat))) s) s

/-- A macro-op lands (R425 to R427). -/
def State.landMacro (s : State) (c : Nat) (m : MacroOp) : State :=
  match s.ctx c with
  | none => s
  | some x =>
    let t := m.start.getD (SMap.get {} x.z m.z)
    let ls := m.results t
    let s := s.modCtx c fun x => x.landElems m.z ls m.assist m.pc
    match m.gauge with
    | none => s
    | some g => s.countLanded (ctxDie c) g t.i32 ls

/-! ### The other landings -/

/-- A tile takes a configuration (R423). -/
def Tile.configure (t : Tile) (w : W64) : Tile :=
  let i32 := bits w 3 0 == 8
  let rows := BitVec.ofNat 8 (bits w 19 12)
  let cols := BitVec.ofNat 8 (bits w 27 20)
  let t' := { t with gidx := BitVec.ofNat 16 (bits w 63 48), gv := bit w 47, zb := BitVec.ofNat 9 (bits w 43 35), cols := cols, rows := rows, i32 := i32 }
  if i32 = t.i32 ∧ rows = t.rows ∧ cols = t.cols then t' else { t' with elems := [], sub := false, inf := false, nan := false }

/-- Rows from the scratchpad stand in a tile, positions outside ROWS and COLS discarded (R430). -/
def Tile.writeRows (t : Tile) (row : Nat) (vals : List (List W32)) : Tile :=
  { t with elems := (vals.zipIdx).foldl (fun m rv =>
      (rv.1.zipIdx).foldl (fun m cv =>
        if row + rv.2 ≤ t.rows.toNat ∧ cv.2 ≤ t.cols.toNat then SMap.set 0#32 m (tileKey (row + rv.2) cv.2) cv.1 else m) m) t.elems }

/-- Change a tile of a context. -/
def Ctx.modTile (x : Ctx) (z : Nat) (f : Tile → Tile) : Ctx := { x with z := SMap.modify {} x.z z f }

/-- MSTAT is about to write the 8 bytes at a scratchpad offset: loads of them by the contexts of the core, issued with it or in the count after
it, have read the old bytes (R431). -/
def State.readBefore (s : State) (core off first : Nat) : State :=
  { s with accesses := s.accesses.map fun kv =>
      (kv.1, kv.2.map fun (a : Access) =>
        if first ≤ kv.1 ∧ ctxCore a.ctx = core ∧ a.kind = .load then
          { a with elems := a.elems.map fun e =>
              match e.loc with
              | .spad _ o =>
                if e.got.isNone && runsOverlap o e.size off 8 then { e with got := some (BitVec.ofNat 64 (leNat (Mem.read (s.core core).spad o e.size))) }
                else e
              | _ => e }
        else a) }

/-- A result lands (R227, R228). -/
def State.land (s : State) (c : Nat) (w : Landing) : State :=
  match w with
  | .scalar d v => s.landScalar c d v
  | .vector d v m => s.modCtx c fun x => x.landVector d v m
  | .predicate n v m => s.modCtx c fun x => x.setPred n v m
  | .fmt v => s.modCtx c fun x => { x with fmt := v, srseq0 := 0#32, srseq1 := 0#32 }
  | .tileCfg z v => s.modCtx c fun x => x.modTile z fun t => t.configure v
  | .tileZero z => s.modCtx c fun x => x.modTile z fun t => { t with elems := [], sub := false, inf := false, nan := false }
  | .tileRows z r vs => s.modCtx c fun x => x.modTile z fun t => t.writeRows r vs
  | .tileStat off v z clr first =>
    let s := (s.readBefore (ctxCore c) off first).modCore (ctxCore c) fun k => { k with spad := Mem.write k.spad off (toBytes 8 v.toNat) }
    if clr then s.modCtx c fun x => x.modTile z fun t => { t with sub := false, inf := false, nan := false } else s
  | .macroOp m => s.landMacro c m
  | .reply k id ws => if ws.isEmpty then s.reply c k ws else s.answerResult c id k ws

/-- Insert a flight before the first that lands no earlier. -/
def insertFlight (f : Flight) : List Flight → List Flight
  | [] => [f]
  | g :: gs => if f.land ≤ g.land then f :: g :: gs else g :: insertFlight f gs

/-- Flights in landing order, those of one count in order of issue (R228). -/
def landingOrder : List Flight → List Flight
  | [] => []
  | f :: fs => insertFlight f (landingOrder fs)

/-- Land the flights that satisfy a test, in the order of R228. -/
def State.landWhere (s : State) (c : Nat) (p : Flight → Bool) : State :=
  match s.ctx c with
  | none => s
  | some x =>
    let s := s.modCtx c fun x => { x with flight := x.flight.filter fun f => !p f }
    (landingOrder (x.flight.filter p)).foldl (fun s f => s.land c f.what) s

/-- Row pairs that MREAD delivers by the end of a count enter the buffer where it has four free places (R429). -/
def Stream.deliver (count : Nat) (t : Stream) : Stream :=
  if t.frozen then t else match t.coming with
  | (n, a) :: (_, b) :: (_, c) :: (_, d) :: rest =>
    if n ≤ count ∧ t.buf.length ≤ 4 then { t with buf := t.buf ++ [a, b, c, d], coming := rest } else t
  | _ => t

/-- Every row pair that is due enters: with eight places at most two can. -/
def Stream.deliverAll (count : Nat) (t : Stream) : Stream := (t.deliver count).deliver count

/-- What the end of an issue count brings: its landings, and the row pairs of MREAD. -/
def State.endCount (s : State) (c n : Nat) : State :=
  let s := (s.landWhere c fun f => decide (f.land ≤ n)).engBars
  s.modCtx c fun x => { x with f := SMap.mapVals {} (Stream.deliverAll n) x.f }

/-- Whether a flight belongs to the matrix pipeline. -/
def Flight.isMatrix (f : Flight) : Bool :=
  match f.what with
  | .macroOp _ => true
  | _ => false

/-- A stall that only the matrix pipeline of the context ends passes issue counts up to `upto` for it alone: macro-ops land and row pairs
arrive at their counts, and every other exposed result keeps its distance (R229, R420, R429; log entry 15). -/
def State.passCounts (s : State) (c upto : Nat) : State :=
  match s.ctx c with
  | none => s
  | some x =>
    let k := upto + 1 - x.count
    let s := s.modCtx c fun x =>
      { x with count := x.count + k, flight := x.flight.map fun f => if f.isMatrix then f else { f with land := f.land + k } }
    let s := (s.landWhere c fun f => f.isMatrix && decide (f.land ≤ upto)).engBars
    s.modCtx c fun x => { x with f := SMap.mapVals {} (Stream.deliverAll upto) x.f }

/-- Every row pair of an MREAD in flight has arrived, but for those that the buffer has no places for (R233, R266, R429). -/
def Stream.settle (t : Stream) : Stream :=
  if t.frozen || t.coming.isEmpty then t else ({ t with coming := t.coming.map fun p => (0, p.2) } : Stream).deliverAll 0

/-- Every exposed result of a context lands, in landing order, in counts of no context (R233, R266). -/
def State.landAll (s : State) (c : Nat) : State :=
  ((s.landWhere c fun _ => true).modCtx c fun x => { x with f := SMap.mapVals {} Stream.settle x.f }).engBars

/-- A context leaves the ready set: every exposed result lands, and the latches are cleared (R220, R233). -/
def State.leaveReady (s : State) (c : Nat) : State := (s.landAll c).modCtx c Ctx.clearLatches

/-! ### Joins (R235) -/

/-- The rows that a side keeps, with the received half added (R235). -/
def Tile.joined (t : Tile) (j : Join) (rows : List (List (Option W32))) : List Landed :=
  let base := if j.h then 64 else 0
  t.active.filterMap fun rc =>
    if rc.1 / 64 * 64 = base then
      match (rows.getD (rc.1 - base) []).getD rc.2 none with
      | none => none
      | some v =>
        let own := t.elem rc.1 rc.2
        if t.i32 then some ⟨rc.1, rc.2, own + v, false, false⟩
        else
          let o := fF32.round .rne false ((fF32.value own.toNat).add false (fF32.value v.toNat))
          some ⟨rc.1, rc.2, BitVec.ofNat 32 o.bits, o.tiny, false⟩
    else none

/-- A side whose received half has arrived adds it, and its token clears (R235). -/
def Ctx.finishJoin (x : Ctx) : Ctx :=
  match x.join with
  | none => x
  | some j =>
    match j.received with
    | none => x
    | some rows => { (x.landElems j.z ((SMap.get {} x.z j.z).joined j rows) j.assist j.pc).tokDown j.token with join := none }

/-- JOIN_HALF_ARRIVAL (R235, R236): the partner's half arrives before the side's time is out; when both sides hold a half, each adds the one it
received. -/
def State.joinArrival (s : State) (c : Nat) : State :=
  match s.ctx c, s.joinPartner c with
  | some x, some p =>
    match x.join, s.ctx p with
    | some j, some y =>
      match j.received, y.join with
      | none, some k =>
        if j.deadline ≤ s.time ∨ s.isCaptured x then s else
        let s := s.modCtx c fun x => { x with join := some { j with received := some k.half } }
        if k.received.isSome then (s.modCtx c Ctx.finishJoin).modCtx p Ctx.finishJoin else s
      | _, _ => s
    | _, _ => s
  | _, _ => s

/-- JOIN_TIMEOUT (R236): a side whose partner's half has not come by its deadline ends the join; the partner waits for a new pairing. -/
def State.joinTimeout (s : State) (c : Nat) : State :=
  match s.ctx c with
  | none => s
  | some x =>
    match x.join with
    | none => s
    | some j =>
      if j.received = none ∧ j.deadline ≤ s.time ∧ s.isCaptured x = false then
        let s := match s.joinPartner c with
          | none => s
          | some p => s.modCtx p fun y => { y with join := y.join.map fun (k : Join) => { k with received := none } }
        s.modCtx c fun x => { x.dropJoin with due := x.due ++ [(⟨0x0C, joinArg j, none⟩ : DueTrap)] }
      else s

/-- JOIN_HALF_ARRIVAL (R235). -/
def execJoinHalfArrival (ctx : Nat) (s : State) : Host.Outcome State Fault Refusal := .next (s.joinArrival ctx)
/-- JOIN_TIMEOUT (R236). -/
def execJoinTimeout (ctx : Nat) (s : State) : Host.Outcome State Fault Refusal := .next (s.joinTimeout ctx)

end Sys2Proof.Machine
end

