-- ==== Sys2Proof/Machine/Links.lean ====
section
/-! DEFINITION. The networks (R80 to R98, R461 to R465): ports, tensor channels, parcels and credits, the timebase across modules, and
the collectives of the Oxbow ring. -/

namespace Sys2Proof.Machine

/-! ### Ports (R80, R81, R93) -/

/-- The die of a Braid or Oxbow port (R80). -/
def portDie (p : Nat) : Nat := if p < 6 then p / 2 else if p < 8 then 3 else 0
/-- The port of a channel (R82). -/
def chanPort (n : Nat) : Nat := n / 256
/-- The die of a channel's port. -/
def chanDie (n : Nat) : Nat := portDie (chanPort n)

/-- One more error of a port (R84, R89). -/
def State.portError (s : State) (p : Nat) : State := s.modPort p fun x => { x with errors := x.errors + 1 }

/-- Link traffic passes now (R122). -/
def State.linkNow (s : State) : State := { s with linkAt := s.time }

/-- A flit leaves through a port, or stays queued while the port is down (R81). -/
def State.sendPort (s : State) (p : Nat) (o : Out) : State :=
  if (s.port p).up then s.linkNow.send o else s.modPort p fun x => { x with queue := x.queue ++ [o] }

/-- STATE of a channel end by number (R82). -/
def ChState.code : ChState → Nat
  | .idle => 0 | .send => 1 | .recv => 2 | .misconf => 3

/-- The configuration flit of an end (R84). -/
def Chan.config (c : Chan) (n : Nat) : Out := .config n (c.nparc.zeroExtend 12) c.psize (BitVec.ofNat 3 c.state.code)

/-- PORT_DOWN (R81): the retries of a port have failed; the message and the log entry say so (R101, R107). -/
def State.portGoesDown (s : State) (p : Nat) : State :=
  if 8 < p ∨ !(s.port p).up then s
  else
    let cls := if p < 6 then 6 else if p < 8 then 7 else 11
    ((s.modPort p fun x => { x with up := false }).msix 4).addLog 4 (logSource cls p (portDie p)) p 0

/-- A header leaves now (R84). -/
def Out.stamped (t : Nat) : Out → Out
  | .header c h => .header c { h with tstamp := BitVec.ofNat 64 t }
  | o => o

/-- PORT_UP (R81, R82): the configuration of every enabled end of the port is sent again, and the queued traffic follows; what waits for host memory
is tried again. In HOLD the Braid and
Oxbow ports stay down until the exit (R21). -/
def State.portComesUp (s : State) (p : Nat) : State :=
  if 8 < p ∨ (s.port p).up ∨ (s.gatedOff ∧ p < 8) then s
  else
    let q := (s.port p).queue.map (Out.stamped s.time)
    let s := (s.modPort p fun x => { x with up := true, queue := [] }).msix 4
    let cfg := if p < 6 then s.chans.filterMap fun kv => if chanPort kv.1 = p ∧ kv.2.state ≠ .idle then some (kv.2.config kv.1) else none else []
    let s := if p = hostPort then s.weirsSoon else if !(cfg ++ q).isEmpty then s.linkNow else s
    { s with out := s.out ++ cfg ++ q }

/-- TIME_FLIT_SEND (R93): the master's time on every Braid port that is up, every 1,024 ticks. -/
def State.sendTime (s : State) : State :=
  if s.tbctl.role = 1#2 ∧ s.time % 1024 = 0 then
    (List.range 6).foldl (fun (s : State) p => if (s.port p).up then s.linkNow.send (.time p s.ticks) else s) s
  else s

/-- LOCKED after a correction (R92), with its message (R101). -/
def State.setLocked (s : State) (locked : Bool) : State :=
  let lost := s.tbctl.locked && !locked
  let s := { s with tbctl := { s.tbctl with locked := locked } }
  if lost then s.msix 5 else s

/-- TIME_FLIT_RECEIVE (R93): a follower compares the flit, corrected by the link delay, with its own count. At its entry it steps forward once; where
it enters during a session it makes that step too, and only forward, DESIGN CHOICE (log entry 78): of the two sentences of R93 the model takes the
step at entry before the rule that a session's time never jumps. -/
def State.recvTime (s : State) (p value : Nat) : State :=
  let tb := s.tbctl
  if tb.role ≠ 2#2 ∨ 6 ≤ p ∨ tb.upport.toNat ≠ p ∨ !(s.port p).up then s
  else
    let v := s.time - s.ticks + value + Config.linkDelay p
    let near := decide (v ≤ s.time + 2) && decide (s.time ≤ v + 2)
    let before := s.sess.state == .none || s.sess.state == .loaded
    if !tb.stepped then
      let t := if before then v else max s.time v
      ({ s with time := t, tbctl := { tb with stepped := true, slewed := t } }).setLocked near
    else if s.time < tb.slewed + 1024 ∨ v = s.time then s.setLocked near
    else if s.time < v then ({ s with time := s.time + 1, tbctl := { tb with slewed := s.time } }).setLocked near
    else ({ s with tbctl := { tb with slewed := s.time, again := true } }).setLocked near

/-! ### Channel ends (R82) -/

/-- Contexts that wait on a window are re-inserted, oldest first, each with a credit set aside (R86). -/
def State.grant (s : State) (n : Nat) : Nat → State
  | 0 => s
  | k + 1 =>
    match (s.chan n).waiters with
    | [] => s
    | c :: ws =>
      ((s.modChan n fun x => { x with waiters := ws, granted := x.granted ++ [c] }).insertReady c).grant n k

/-- The window of a channel end has moved from what it was at an end `c` (R82, R144). -/
def State.windowMoves (s : State) (n : Nat) (c : Chan) : State := if c.state = .send ∧ c.credits ≠ 0 then s.weirSoon (chanDie n) else s

/-- The end enters MISCONF (R82), and the window of a sender closes, a trigger of R144. Of the contexts that wait on the window of such a SEND end the rule says nothing: they wait on until the end is
disabled or matches, DESIGN CHOICE (log entry 64). -/
def State.misconf (s : State) (n : Nat) : State :=
  ((s.modChan n fun x => { x with state := .misconf, matched := false, credits := 0 }).msix 4).windowMoves n (s.chan n)

/-- The two ends are checked once each has received the other's configuration (R82, R85). -/
def State.matchEnds (s : State) (n : Nat) : State :=
  let c := s.chan n
  match c.peer with
  | none => s
  | some (np, ps, st) =>
    if c.state ≠ .send ∧ c.state ≠ .recv then s
    else if st = 3#3 then s.misconf n
    else if st ≠ 1#3 ∧ st ≠ 2#3 then
      (s.modChan n fun x => { x with matched := false, credits := 0 }).windowMoves n c
    else if np ≠ c.nparc.zeroExtend 12 ∨ ps ≠ c.psize ∨ st.toNat = c.state.code then s.misconf n
    else if c.matched then s
    else if c.state = .send then
      ((s.modChan n fun x => { x with matched := true, credits := c.nparc.toNat }).grant n c.nparc.toNat).weirSoon (chanDie n)
    else s.modChan n fun x => { x with matched := true }

/-- The physical pages of a receive buffer, translated when its end is enabled (R82). -/
def State.bufferPages (s : State) (d base n : Nat) : Option (List Nat) :=
  (List.range n).foldr (fun i acc =>
    match acc, s.translateDie d true .write (base + 4096 * i) with
    | some ps, .ok pa => some (pa :: ps)
    | _, _ => none) (some [])

/-- CHANNEL_ENABLE (R82): a write of STATE 1 or 2 to an IDLE end, with the field values it carries. BUFBASE is 4 KiB-aligned; of bits 11 to 0
that are not zero the rule says nothing, and the buffer starts at the page that holds BUFBASE, DESIGN CHOICE (log entry 64). An end that was disabled
and is enabled again may match at once on the configuration that its peer sent before, for the peer sends one only when its own end changes:
DESIGN CHOICE (log entry 78). -/
def State.chanEnable (s : State) (n : Nat) (base : W64) (ctl : W32) : State :=
  let st := bits ctl 1 0
  if 1536 ≤ n ∨ (s.chan n).state ≠ .idle ∨ (st ≠ 1 ∧ st ≠ 2) then s
  else
    let old := s.chan n
    let c : Chan := { old with
      bufbase := base.truncate 48, nparc := BitVec.ofNat 8 (bits ctl 23 16), psize := BitVec.ofNat 4 (bits ctl 15 12)
      sink := BitVec.ofNat 2 (bits ctl 11 10), stage := BitVec.ofNat 3 (bits ctl 9 7)
      state := if st = 1 then .send else .recv, matched := false, credits := 0, seq := 0#16, pcount := 0#64, pages := [] }
    let n4 := c.nparc.toNat * (c.psize.toNat + 1)
    let ok := c.nparc != 0#8 && decide (c.nparc.toNat ≤ 64)
    let pages := if st = 2 ∧ ok then s.bufferPages (chanDie n) (c.bufbase.toNat / 4096 * 4096) n4 else some []
    let bad := !ok || (st == 2 && (c.sink == 3#2 || pages.isNone))
    let s := s.modChan n fun _ => { c with pages := pages.getD [] }
    let s := if bad then s.misconf n else s
    (s.sendPort (chanPort n) ((s.chan n).config n)).matchEnds n

/-- CHANNEL_DISABLE (R82, R463): waiting operations fail, held parcels are dropped, and the peer is told. A send that holds a credit and whose
header has not left sends no parcel any more: its token clears with NOCHAN, as that of a send which waits does, DESIGN CHOICE (log entry 64). -/
def State.chanDisable (s : State) (n : Nat) : State :=
  let c := s.chan n
  if 1536 ≤ n ∨ c.state = .idle then s
  else
    let s := s.modChan n fun x =>
      { x with
        state := .idle, matched := false, credits := 0, seq := 0#16, pcount := 0#64, recvs := [], waiters := [], granted := [], timed := []
        parcels := (x.parcels.filter fun p => decide (p.got < p.hdr.len.toNat)).map fun p => { p with dropped := true } }
    let s := c.waiters.foldl (fun (s : State) w => s.insertReady w) s
    let s := c.recvs.foldl (fun (s : State) r => s.replyPair r.ctx r.token r.ed 1#64 0#64) s
    let s := c.timed.foldl (fun (s : State) t =>
      s.replyTo t.ctx t.token t.dest (BitVec.ofNat 64 (t.seq.toNat * 65536 + (if t.late then 256 else 0) + 1))) s
    let s := s.modDie (chanDie n) fun x => { x with fq := x.fq.without fun e => e.agent == 5#4 && e.unit == n }
    (s.windowMoves n c).sendPort (chanPort n) ((s.chan n).config n)

/-- CONFIG_FLIT_RECEIVE (R82, R84). -/
def State.recvConfig (s : State) (n : Nat) (np : BitVec 12) (ps : BitVec 4) (st : BitVec 3) : State :=
  if 1536 ≤ n ∨ !(s.port (chanPort n)).up then s
  else (s.modChan n fun x => { x with peer := some (np, ps, st) }).matchEnds n

/-! ### Receiving (R83, R84, R89, R90) -/

/-- The number of the parcel that carries a sequence number: the first one, from the next that the end expects, which has it (R83). Where NPARC
does not divide 2^16 the slots go on in turn when SEQ wraps, DESIGN CHOICE (log entry 64). -/
def Chan.parcelNo (c : Chan) (seq : BitVec 16) : Nat := c.pcount.toNat + (seq.toNat + 65536 - c.pcount.toNat % 65536) % 65536

/-- A parcel header (R83, R84): parcel number n of an end takes slot n mod NPARC. One that reaches an end which is not in RECV is discarded and
counted, that of a parcel which was on the wire when the end was disabled among them, DESIGN CHOICE (log entry 64). -/
def State.recvHeader (s : State) (n : Nat) (h : FlitHeader) : State :=
  let c := s.chan n
  if 1536 ≤ n ∨ !(s.port (chanPort n)).up then s
  else if c.state ≠ .recv then s.portError (chanPort n)
  else
    let k := c.psize.toNat + 1
    let slot := (c.pages.drop (c.parcelNo h.seq % c.nparc.toNat * k)).take k
    s.modChan n fun x => { x with parcels := x.parcels ++ [{ hdr := h, slot := slot }], seq := h.seq + 1, pcount := x.pcount + 1 }

/-- One more sector of the parcel that is arriving. -/
def arriveSector (vc : VClock) : List Parcel → List Parcel
  | [] => []
  | p :: ps => if p.got < p.hdr.len.toNat then { p with got := p.got + 1, clock := vc } :: ps else p :: arriveSector vc ps

/-- DATA_FLIT_RECEIVE (R83, R84): the next sector of the parcel that is arriving, written by the port's die. -/
def State.recvData (s : State) (n : Nat) (bs : List Byte) : State :=
  if 1536 ≤ n ∨ !(s.port (chanPort n)).up ∨ bs.length ≠ 32 then s
  else
    match (s.chan n).parcels.find? fun p => decide (p.got < p.hdr.len.toNat) with
    | none => s
    | some p =>
      let s := match p.slot[p.got / 128]? with
        | some page =>
          let l := Loc.global (page + p.got % 128 * 32)
          ((s.writePieces (chanDie n) 33 l bs).unpoison [(l, 32)]).touchRuns true [(l, 32)]
        | none => s
      let vc := (s.die (chanDie n)).vc
      s.modChan n fun x => { x with parcels := (arriveSector vc x.parcels).filter fun q => !(q.dropped && decide (q.hdr.len.toNat ≤ q.got)) }

/-- The freed parcels at the head of the held ones. -/
def freedRun : List Parcel → Nat
  | [] => 0
  | p :: ps => if p.freed then 1 + freedRun ps else 0

/-- Credits go back in sequence order (R90); the second component counts them. -/
def State.returnCredits (s : State) (n : Nat) : State × Nat :=
  let k := freedRun (s.chan n).parcels
  if k = 0 then (s, 0)
  else ((s.modChan n fun x => { x with parcels := x.parcels.drop k }).sendPort (chanPort n) (.credit n k), k)

/-- A parcel that has arrived and is not yet credited back (R82). -/
def Parcel.held (p : Parcel) : Bool := decide (p.hdr.len.toNat ≤ p.got) && !p.dropped

/-- WIN (R82): free credits of a sender, parcels held of a receiver. -/
def Chan.win (c : Chan) : Nat :=
  match c.state with
  | .send => c.credits
  | .recv => (c.parcels.filter Parcel.held).length
  | _ => 0

/-- CHREL (R90): none where the parcel is not held. -/
def State.release (s : State) (n : Nat) (seq : BitVec 16) : Option (State × Nat) :=
  if (s.chan n).parcels.any fun p => p.held && !p.freed && p.hdr.seq == seq then
    some ((s.modChan n fun x =>
      { x with parcels := mapWhere (fun p => p.held && !p.freed && p.hdr.seq == seq) (fun p => { p with freed := true }) x.parcels }).returnCredits n)
  else none

/-- Phases that a Weir queue accepts (R140): FQ F and X, BQ B, WQ W, UQ U. -/
def queueAccepts (q phase : Nat) : Bool :=
  match q with
  | 0 => phase == 0 || phase == 5
  | 1 => phase == 1
  | 2 => phase == 2
  | _ => phase == 4

/-- A Weir queue by number (R146). -/
def Stage.queue (g : Stage) : Nat → List QEntry
  | 0 => g.fq | 1 => g.bq | 2 => g.wq | _ => g.uq

/-- Change a Weir queue. -/
def Stage.setQueue (g : Stage) (q : Nat) (l : List QEntry) : Stage :=
  match q with
  | 0 => { g with fq := l } | 1 => { g with bq := l } | 2 => { g with wq := l } | _ => { g with uq := l }

/-- Mark the oldest undelivered parcel of an end. -/
def State.markParcel (s : State) (n : Nat) (freed : Bool) : State :=
  s.modChan n fun x =>
    { x with parcels := match takeFirst (fun p => !p.delivered) x.parcels with
        | some (p, _) => mapWhere (fun q => q == p) (fun q => { q with delivered := true, freed := q.freed || freed }) x.parcels
        | none => x.parcels }

/-- PARCEL_DELIVERY (R89): the oldest undelivered parcel, once it has arrived whole: an arrival, which wakes the module (R122). Where a CHRECV of another die completes, the parcel's writes
are applied at that die first (R259). -/
def State.deliverParcel (s : State) (n : Nat) : State :=
  let c := s.chan n
  match c.parcels.find? fun p => !p.delivered with
  | none => s
  | some p =>
    if c.state ≠ .recv ∨ !p.held then s
    else if c.sink = 0#2 then
      (match c.recvs with
      | [] => s
      | r :: rs =>
        if !(s.die (ctxDie r.ctx)).vc.covers p.clock then s else
        let h := p.hdr
        let w := BitVec.ofNat 64 (h.tag.toNat * 2 ^ 32 + h.seq.toNat * 2 ^ 16 + h.phase.toNat * 2 ^ 12 + h.slot.toNat * 2 ^ 8)
        let v := BitVec.ofNat 64 (h.user.toNat * 2 ^ 32 + h.len.toNat)
        (((s.modChan n fun x => { x with recvs := rs }).markParcel n false).wakeUp).replyPair r.ctx r.token r.ed w v)
    else
      let q := if c.sink = 1#2 then 0 else 1
      let g := s.stage (chanDie n) c.stage.toNat
      if !g.enable || !queueAccepts q p.hdr.phase.toNat then
        ((((s.markParcel n true).portError (chanPort n)).returnCredits n).1).wakeUp
      else if 256 ≤ (g.queue q).length then s
      else
        (((s.markParcel n false).modStage (chanDie n) c.stage.toNat fun g =>
          g.setQueue q (g.queue q ++ [{ tag := p.hdr.tag, phase := p.hdr.phase.toNat, chan := BitVec.ofNat 16 n, slot := p.hdr.slot.toNat
                                        seq := p.hdr.seq, dep := 0#64, depCluster := 0, lt := 0#64 }])).wakeUp).evalSoon (chanDie n) c.stage.toNat

/-! ### Sending (R85 to R88, R91, R461, R462) -/

/-- CREDIT_FLIT_RECEIVE (R84, R86). -/
def State.recvCredits (s : State) (n k : Nat) : State :=
  let c := s.chan n
  if 1536 ≤ n ∨ !(s.port (chanPort n)).up then s
  else if c.state ≠ .send then s.portError (chanPort n)
  else if !c.matched then s
  else ((s.modChan n fun x => { x with credits := min (x.credits + k) x.nparc.toNat }).grant n k).weirSoon (chanDie n)

/-- Contexts with a credit set aside that still run. -/
def State.grantedLive (s : State) (n : Nat) : List Nat := (s.chan n).granted.filter fun c => (s.ctx c).isSome

/-- A context may take a credit of a channel now (R85, R86). -/
def State.windowOpen (s : State) (n c : Nat) : Bool :=
  let g := s.grantedLive n
  decide (0 < (s.chan n).credits) && (g.contains c || decide (g.length < (s.chan n).credits))

/-- A context that was re-inserted with a credit set aside takes none (R87): the credit goes to the next that waits. -/
def State.dropGrant (s : State) (n c : Nat) : State :=
  if (s.grantedLive n).contains c then (s.modChan n fun x => { x with granted := x.granted.filter (· != c) }).grant n 1 else s

/-- A field of a send descriptor's word 0x08. -/
def sendField (w : List W64) (hi lo : Nat) : Nat := bits (w.getD 1 0#64) hi lo
/-- LEN. -/
def sendLen (w : List W64) : Nat := sendField w 11 0
/-- SRCK. -/
def sendSrck (w : List W64) : Bool := bit (w.getD 1 0#64) 19
/-- The tile of a handle source with a record. -/
def sendTile (r : TRec) (w : List W64) : Tile4 :=
  let x := w.getD 0 0#64
  { r := r
    coord := ⟨bits x 15 0, bits x 31 16, bits x 47 32, bits x 63 48⟩
    shape := ⟨sendField w 43 36 + 1, sendField w 35 28 + 1, sendField w 27 24 + 1, sendField w 23 20 + 1⟩ }

/-- The die whose replica holds the record of a send's handle source (R60, R66). -/
def State.sendReplica (s : State) (n : Nat) (w : List W64) : Nat :=
  s.layoutDie (chanDie n) (sendField w 63 44) (sendTile {} w).coord (sendTile {} w).shape

/-- The record of a send's handle source, which its issue reads, once (R66). -/
def State.sendRecord (s : State) (n : Nat) (w : List W64) : List Byte :=
  if sendSrck w then s.recordBytes (s.sendReplica n w) (sendField w 63 44) else []

/-- The status of CHSEND at issue (R462); 0 where it takes or waits for a credit. -/
def State.sendStatus (s : State) (n c : Nat) (w : List W64) : Nat :=
  let ch := s.chan n
  let len := sendLen w
  let src := w.getD 0 0#64
  let t := sendTile (recOf (s.sendRecord n w)) w
  let past := match bits src 63 60 with
    | 0x8 => decide (partScratch (s.part c) < bits src 59 0 + 32 * len)
    | 0x9 => decide (0x400000 < bits src 59 0 + 32 * len)
    | _ => false
  if ch.state ≠ .send then 1
  else if (ch.psize.toNat + 1) * 4096 < 32 * len then 2
  else if len = 0 then 3
  else if 6 ≤ sendField w 15 12 ||
      (if sendSrck w then t.r.valid && (len != ceilDiv t.bytes 32 || decide (65536 < t.bytes))
       else sendField w 43 20 != 0 || sendField w 63 44 != 0 || ! [0x0, 0x8, 0x9].contains (bits src 63 60) || past) then 4
  else if sendSrck w && !t.r.valid then 5
  else 0

/-- The agent of a send: the port's die, for the issuer's local memories. -/
def TimedSend.agent (t : TimedSend) (n : Nat) : Agent := { Agent.ofCtx t.ctx t.sup with die := chanDie n }

/-- One data sector of a send. -/
def State.sendSector (s : State) (n : Nat) (t : TimedSend) (i : Nat) : Except EngStop (List Byte) :=
  if sendSrck t.desc then
    let tile := sendTile (recOf t.image) t.desc
    let k := min 32 (tile.bytes - 32 * i)
    (s.readImage (t.agent n) tile (32 * i) k).map fun bs => bs ++ List.replicate (32 - k) 0#8
  else s.engRead (t.agent n) (t.desc.getD 0 0#64 + BitVec.ofNat 64 (32 * i)) 32

/-- Read the sectors that are left; `fuel` is their number. -/
def State.sendSectors (s : State) (n : Nat) (t : TimedSend) : Nat → List (List Byte) → List (List Byte) × Option EngStop
  | 0, got => (got, none)
  | fuel + 1, got =>
    match s.sendSector n t got.length with
    | .error e => (got, some e)
    | .ok bs => s.sendSectors n t fuel (got ++ [bs])

/-- The parcel at the head of a channel's sends leaves (R84, R88, R462): sectors that were not read are zero. -/
def State.parcelLeaves (s : State) (n : Nat) (t : TimedSend) (got : List (List Byte)) (status : Nat) : State :=
  let len := sendLen t.desc
  let w2 := t.desc.getD 2 0#64
  let h : FlitHeader :=
    { tstamp := BitVec.ofNat 64 s.time, user := w2.extractLsb' 32 32, tag := w2.truncate 32, seq := t.seq, len := BitVec.ofNat 12 len
      phase := BitVec.ofNat 4 (sendField t.desc 15 12), slot := BitVec.ofNat 3 (sendField t.desc 18 16), kind := 1#4 }
  let s := s.modChan n fun x => { x with timed := x.timed.drop 1, pcount := if x.state = .send then x.pcount + 1 else x.pcount }
  let s := s.sendPort (chanPort n) (.header n h)
  let s := (List.range len).foldl (fun (s : State) i => s.sendPort (chanPort n) (.data n (got.getD i (List.replicate 32 0#8)))) s
  s.replyTo t.ctx t.token t.dest (BitVec.ofNat 64 (t.seq.toNat * 65536 + (if t.late then 256 else 0) + status))

/-- The layout units keep the translations that a send's handle source needed (R283). -/
def State.sendFills (s : State) (n : Nat) (t : TimedSend) : State :=
  if sendSrck t.desc then
    ((sendTile (recOf t.image) t.desc).pages 0 (sendTile (recOf t.image) t.desc).bytes).foldl (fun (s : State) va => s.fillLayout (chanDie n) va) s
  else s

/-- The first send of a channel leaves once its launch time and its issuer's clock have come (R85, R88, R91, R259), through an end that has
matched (R82). -/
def State.trySend (s : State) (n : Nat) : State :=
  match (s.chan n).timed with
  | [] => s
  | t :: rest =>
    let g := t.agent n
    if t.suspended || s.gatedOff || (s.chan n).state != .send || !(s.chan n).matched || !s.timeReached t.lt || !(s.die (chanDie n)).vc.covers t.clock ||
        (!sendSrck t.desc && s.engWaits g (t.desc.getD 0 0#64) (32 * sendLen t.desc)) then s
    else
      let r := s.sendSectors n t (sendLen t.desc - t.read.length) t.read
      match r.2 with
      | none => (s.sendFills n t).parcelLeaves n t r.1 0
      | some (.ecc pa) => ((s.logUE (logSource 6 (chanPort n) (chanDie n)) pa).modCtx t.ctx fun x => x.tokMark t.token pa).parcelLeaves n t r.1 6
      | some .held => s
      | some (.fault cause va wr _) =>
        (s.modChan n fun x => { x with timed := { t with read := r.1, suspended := true } :: rest }).fqPush (chanDie n)
          { va := va, tag := (t.desc.getD 2 0#64).truncate 32, cause := BitVec.ofNat 8 cause, agent := 5#4
            source := BitVec.ofNat 20 (chanPort n), wr := wr, unit := n }

/-- A CHSEND takes a credit and its SEQ (R85, R91). -/
def State.takeCredit (s : State) (n c : Nat) (sup : Bool) (token dest : Nat) (w : List W64) : State :=
  let ch := s.chan n
  let lt := (w.getD 3 0#64).toNat
  let t : TimedSend :=
    { seq := ch.seq, ctx := c, sup := sup, token := token, dest := dest, lt := lt, late := decide (lt ≠ 0 ∧ lt < s.ticks), desc := w
      clock := (s.die (ctxDie c)).vc, image := s.sendRecord n w }
  let s := s.modChan n fun x =>
    { x with credits := x.credits - 1, seq := x.seq + 1, timed := x.timed ++ [t], granted := x.granted.filter (· != c) }
  (if ch.timed.isEmpty then s.trySend n else s).weirSoon (chanDie n)

/-! ### Collectives (R94 to R98, R464, R465) -/

/-- A direction of the ring. -/
def State.oxDir (s : State) (west : Bool) : OxDir := if west then s.oxWest else s.oxEast
/-- Change a direction of the ring. -/
def State.modOx (s : State) (west : Bool) (f : OxDir → OxDir) : State :=
  if west then { s with oxWest := f s.oxWest } else { s with oxEast := f s.oxEast }
/-- Change the running collective of a direction. -/
def State.modColl (s : State) (west : Bool) (f : Coll → Coll) : State :=
  s.modOx west fun o => { o with queue := match o.queue with | [] => [] | c :: cs => f c :: cs }

/-- A word of a collective's descriptor. -/
def Coll.w (c : Coll) (i : Nat) : W64 := c.desc.getD i 0#64
/-- BUF. -/
def Coll.buf (c : Coll) : Nat := bits (c.w 0) 47 0
/-- Bytes of a shard. -/
def Coll.shardLen (c : Coll) : Nat := 256 * bits (c.w 1) 23 0
/-- P. -/
def Coll.p (c : Coll) : Nat := bits (c.w 1) 39 32
/-- TYPE: 1 for FP32. -/
def Coll.fp32 (c : Coll) : Bool := bit (c.w 1) 41
/-- POS. -/
def Coll.pos (c : Coll) : Nat := bits (c.w 1) 47 42
/-- DONEK. -/
def Coll.donek (c : Coll) : Nat := bits (c.w 1) 49 48
/-- DONEADDR. -/
def Coll.doneAddr (c : Coll) : Nat := bits (c.w 2) 47 0
/-- DSPACE. -/
def Coll.dspace (c : Coll) : Nat := bits (c.w 2) 63 60
/-- FLAGBASE. -/
def Coll.flagBase (c : Coll) : Nat := bits (c.w 3) 47 0
/-- The header that its flits carry (R94). -/
def Coll.hdr (c : Coll) : OxHeader := ⟨c.op, if c.fp32 then 1#1 else 0#1, bits (c.w 1) 23 0, c.num⟩
/-- The agent of a collective: die 3, for the issuer's local memories. -/
def Coll.agent (c : Coll) : Agent := { Agent.ofCtx c.ctx c.sup with die := 3 }
/-- The place downstream of a replica. -/
def Coll.next (c : Coll) (west : Bool) : Nat := if west then (c.pos + c.p - 1) % c.p else (c.pos + 1) % c.p
/-- The shard whose sum a replica starts (R96): its downstream neighbour's neighbours end with it. -/
def Coll.first (c : Coll) (west : Bool) : Nat := if west then (c.pos + 1) % c.p else (c.pos + c.p - 1) % c.p
/-- The place of a shard. -/
def Coll.shardAddr (c : Coll) (k : Nat) : W64 := BitVec.ofNat 64 (c.buf + c.shardLen * k)

/-- Sums element by element, each rounded once (R96). -/
def addShards (fp32 : Bool) : Nat → List Byte → List Byte → List Byte
  | 0, _, _ => []
  | fuel + 1, a, b =>
    let n := if fp32 then 4 else 2
    if a.length < n then []
    else toBytes n ((if fp32 then fF32 else fB16).addRne (leNat (a.take n)) (leNat (b.take n))) ++ addShards fp32 fuel (a.drop n) (b.drop n)

/-- Sectors of this replica's part of a shard, read from where the reading stands; `fuel` is their number. -/
def State.collRead (s : State) (g : Agent) (a : W64) : Nat → List Byte → List Byte × Option EngStop
  | 0, got => (got, none)
  | fuel + 1, got =>
    match s.engRead g (a + BitVec.ofNat 64 got.length) 32 with
    | .error e => (got, some e)
    | .ok bs => s.collRead g a fuel (got ++ bs)

/-- Sectors of a shard, written from sector `k` on; `fuel` is their number. -/
def State.collWrite (s : State) (g : Agent) (a : W64) (bs : List Byte) : Nat → Nat → State × Nat × Option EngStop
  | 0, k => (s, k, none)
  | fuel + 1, k =>
    match s.engWrite g (a + BitVec.ofNat 64 (32 * k)) ((bs.drop (32 * k)).take 32) with
    | .error e => (s, k, some e)
    | .ok s => s.collWrite g a bs fuel (k + 1)

/-- A collective that ends short clears its token, with its status, once what it has written on die 3 is applied everywhere (R259). -/
def State.oxReply (s : State) (c : Coll) (status : Nat) : State :=
  ({ s with
      writeWaits := s.writeWaits ++ [{ ids := (s.writes.filter fun w => w.die == 3).map (·.id), reply := some (c.ctx, c.token, c.dest, BitVec.ofNat 64 status) }]
  } : State).settleWaits

/-- A collective stopped at a fault or at uncorrectable data (R31, R285), or held at host memory (R81). At uncorrectable data it ends with FAULT and leaves its direction, and
nothing is said to the ring: R94 has an abort for a mismatch alone, DESIGN CHOICE (log entry 78). -/
def State.collStopped (s : State) (west : Bool) (c : Coll) (e : EngStop) : State :=
  match e with
  | .held => s
  | .fault cause va wr _ =>
    let p := if west then 7 else 6
    (s.modColl west fun c => { c with suspended := true }).fqPush 3
      { va := va, tag := match s.ctx c.ctx with | some x => x.tag | none => 0#32, cause := BitVec.ofNat 8 cause, agent := 6#4
        source := BitVec.ofNat 20 p, wr := wr, unit := if west then 1 else 0 }
  | .ecc pa =>
    let s := s.logUE (logSource 7 (if west then 7 else 6) 3) pa
    let s := (s.modCtx c.ctx fun x => x.tokMark c.token pa).oxReply c 4
    s.modOx west fun o => { o with queue := o.queue.drop 1 }

/-- The bytes of this replica's part of a shard, read up to the first sector that stops it, where the collective stays (R285). -/
def State.collShard (s : State) (west : Bool) (c : Coll) (k : Nat) : State × Option (List Byte) :=
  match s.collRead c.agent (c.shardAddr k) ((c.shardLen - c.mine.length) / 32) c.mine with
  | (got, none) => (s.modColl west fun c => { c with mine := got }, some got)
  | (got, some e) => ((s.modColl west fun c => { c with mine := got }).collStopped west c e, none)

/-- A shard is put in place, up to the first sector that stops it, where the collective stays (R285). -/
def State.collPlace (s : State) (west : Bool) (c : Coll) (k : Nat) (bs : List Byte) : State × Bool :=
  match s.collWrite c.agent (c.shardAddr k) bs (c.shardLen / 32 - c.wrote) c.wrote with
  | (s, _, none) => (s.modColl west fun c => { c with wrote := 0, mine := [], rel := (s.die 3).vc }, true)
  | (s, n, some e) => ((s.modColl west fun c => { c with wrote := n }).collStopped west c e, false)

/-- The collective at the head of a direction starts once its issuer's clock is applied at die 3 (R94, R97, R259). -/
def State.oxStart (s : State) (west : Bool) : State :=
  match (s.oxDir west).queue with
  | [] => s
  | c :: _ =>
    if c.started || c.suspended || s.gatedOff || !(s.die 3).vc.covers c.clock then s
    else
      let p := if west then 7 else 6
      let k := if c.op = 2 then c.pos else c.first west
      match s.collShard west c k with
      | (s, none) => s
      | (s, some bs) =>
        let s := s.modColl west fun c =>
          { c with started := true, placed := if c.op = 2 then [c.pos] else [], mine := [], rel := (s.die 3).vc }
        s.sendPort p (.oxbow west (if c.op = 2 then .finished c.hdr k bs else .partialSum c.hdr k bs))

/-- The head of a direction leaves it, and the next collective may start (R94). -/
def State.oxNext (s : State) (west : Bool) : State := (s.modOx west fun o => { o with queue := o.queue.drop 1 }).oxStart west

/-- The head of a direction ends short, with MISMATCH (R94, R465), or with FAULT where its fault is abandoned (R286), of which nothing is said to the
ring either, DESIGN CHOICE (log entry 78). -/
def State.oxEnd (s : State) (west : Bool) (c : Coll) (status : Nat) : State := (s.oxReply c status).oxNext west

/-- A mismatch that this replica found (R94): it ends, and an abort goes round the ring. -/
def State.oxMismatch (s : State) (west : Bool) (c : Coll) : State :=
  ((s.sendPort (if west then 7 else 6) (.oxbow west .abort)).modOx west fun o => { o with absorb := true }).oxEnd west c 3

/-- A collective has all the data that its upstream neighbour sends it: what comes next belongs to a later one (R94). -/
def Coll.full (c : Coll) : Bool := c.started && (if c.op = 0 then c.placed.contains c.pos else c.placed.length == c.p)

/-- OXBOW_FLIT_RECEIVE (R94 to R97): a flit of the upstream neighbour; it stays there while it cannot be taken. -/
def State.recvOx (s : State) (west : Bool) (f : OxFlit) : State :=
  let up := if west then 6 else 7
  let down := if west then 7 else 6
  let o := s.oxDir west
  if !(s.port up).up then s
  else if o.absorb then (match f with | .abort => (s.modOx west fun o => { o with absorb := false }).oxStart west | _ => s)
  else
    let s := s.oxStart west
    match (s.oxDir west).queue with
    | [] => s
    | c :: _ =>
      if c.full then s
      else match f with
      | .abort => (s.sendPort down (.oxbow west .abort)).oxEnd west c 3
      | .partialSum h k bs =>
        if h ≠ c.hdr then s.oxMismatch west c
        else if !c.started || c.suspended || bs.length != c.shardLen || decide (c.p ≤ k) then s
        else
          (match s.collShard west c k with
          | (s, none) => s
          | (s, some mine) =>
            let acc := addShards c.fp32 c.shardLen bs mine
            if k ≠ c.pos then (s.modColl west fun c => { c with mine := [] }).sendPort down (.oxbow west (.partialSum h k acc))
            else
              match s.collPlace west c k acc with
              | (s, false) => s
              | (s, true) =>
                let s := s.modColl west fun c => { c with placed := [k] }
                if c.op = 1 then s.sendPort down (.oxbow west (.finished h k acc)) else s)
      | .finished h k bs =>
        if h ≠ c.hdr then s.oxMismatch west c
        else if !c.started || c.suspended || bs.length != c.shardLen || decide (c.p ≤ k) || c.placed.contains k then s
        else
          match s.collPlace west c k bs with
          | (s, false) => s
          | (s, true) =>
            let s := s.modColl west fun c => { c with placed := c.placed ++ [k] }
            if k = c.next west then s else s.sendPort down (.oxbow west f)

/-- OXBOW_FLAG_WRITE (R97): the flag of a shard that is in place. -/
def State.oxFlag (s : State) (west : Bool) (k : Nat) : State :=
  match (s.oxDir west).queue with
  | [] => s
  | c :: _ =>
    if c.op ≠ 2 ∨ c.flagBase = 0 ∨ !c.placed.contains k ∨ c.flagged.contains k ∨ c.suspended then s
    else match s.engWrite c.agent (BitVec.ofNat 64 (c.flagBase + 8 * k)) (toBytes 8 c.flagVal.toNat) with
    | .error e => s.collStopped west c e
    | .ok s => s.modColl west fun c => { c with flagged := c.flagged ++ [k], rel := (s.die 3).vc }

/-- All of a collective's writes are applied at die 3 (R98). -/
def Coll.complete (c : Coll) : Bool :=
  c.started && !c.suspended &&
  (if c.op = 0 then c.placed.contains c.pos
   else c.placed.length == c.p && (c.op != 2 || c.flagBase == 0 || c.flagged.length == c.p))

/-- COLLECTIVE_COMPLETE (R98, R465): the barrier arrival or the post that its operands name, and, once the barrier or the block has received it,
its token. What it wrote on die 3 is applied at
the issuer's die first, for the wait that sees the token clear or the barrier's phase change is an acquire (R171, R259). -/
def State.oxComplete (s : State) (west : Bool) : State :=
  match (s.oxDir west).queue with
  | [] => s
  | c :: _ =>
    if !c.complete || s.gatedOff || !(s.die (ctxDie c.ctx)).vc.covers c.rel then s
    else
      let g := c.agent
      let at' : W64 := BitVec.ofNat 64 (c.dspace * 2 ^ 60 + c.doneAddr)
      let reply := some (c.ctx, c.token, c.dest)
      if c.donek = 0 then (s.collReplies reply).oxNext west
      else match s.engRun g .write at'.toNat (if c.donek = 1 then 16 else 32) with
      | .error e => s.collStopped west c e
      | .ok l =>
        if c.donek = 1 then (s.engBar l .arrive reply).oxNext west
        else
          ({ s with
              posts := s.posts ++ [({ id := s.nextId, block := l, die := 3, clock := c.rel, coll := reply } : Post)], nextId := s.nextId + 1
          }).oxNext west

/-- A collective that passes its checks joins its direction (R94, R465). -/
def State.oxIssue (s : State) (c : Nat) (sup : Bool) (token dest op : Nat) (w : List W64) (flag : W64) : State :=
  let west := bit (w.getD 1 0#64) 40
  let k : Coll :=
    { ctx := c, sup := sup, token := token, dest := dest, op := op, desc := w, flagVal := flag, num := (s.oxDir west).num
      clock := (s.die (ctxDie c)).vc }
  (s.modOx west fun o => { o with num := o.num + 1, queue := o.queue ++ [k] }).oxStart west

/-- DESC of R465: a reserved field or value. -/
def collBad (op : Nat) (w : List W64) : Bool :=
  let w0 := w.getD 0 0#64
  let w1 := w.getD 1 0#64
  let w2 := w.getD 2 0#64
  let w3 := w.getD 3 0#64
  let p := bits w1 39 32
  let k := bits w1 49 48
  let sp := bits w2 63 60
  bits w0 63 48 != 0 || bits w1 63 50 != 0 || bits w1 31 24 != 0 || bits w2 59 48 != 0 || bits w3 63 48 != 0 ||
  decide (p < 2) || decide (64 < p) || k == 3 || decide (p ≤ bits w1 47 42) || bits w1 23 0 == 0 ||
  (op != 2 && bits w3 47 0 != 0) || (k == 0 && sp != 0) || (k == 1 && sp != 8 && sp != 9) || (k == 2 && sp != 0 && sp != 9)

/-- The misaligned address of a collective descriptor (R465). -/
def collMisaligned (w : List W64) : Option W64 :=
  let f := fun (i n : Nat) => if bits (w.getD i 0#64) 47 0 % n != 0 then some (w.getD i 0#64) else none
  let k := bits (w.getD 1 0#64) 49 48
  (f 0 256).or ((f 3 8).or (if k = 1 then f 2 16 else if k = 2 then f 2 32 else none))

/-! ### Events -/

/-- PORT_DOWN (R81). -/
def execPortDown (port : Nat) (s : State) : Host.Outcome State Fault Refusal := .next (s.portGoesDown port)
/-- PORT_UP (R81). -/
def execPortUp (port : Nat) (s : State) : Host.Outcome State Fault Refusal := .next (s.portComesUp port)
/-- TIME_FLIT_SEND (R93). -/
def execTimeFlitSend (s : State) : Host.Outcome State Fault Refusal := .next s.sendTime
/-- TIME_FLIT_RECEIVE (R93). -/
def execTimeFlitReceive (port value : Nat) (s : State) : Host.Outcome State Fault Refusal := .next (s.linkNow.recvTime port value)
/-- CHANNEL_ENABLE (R82). -/
def execChannelEnable (chan : Nat) (base : W64) (ctl : W32) (s : State) : Host.Outcome State Fault Refusal := .next (s.chanEnable chan base ctl)
/-- CHANNEL_DISABLE (R82). -/
def execChannelDisable (chan : Nat) (s : State) : Host.Outcome State Fault Refusal := .next (s.chanDisable chan)
/-- CONFIG_FLIT_RECEIVE (R82). -/
def execConfigFlitReceive (chan : Nat) (nparc : BitVec 12) (psize : BitVec 4) (state : BitVec 3) (s : State) :
    Host.Outcome State Fault Refusal := .next (s.linkNow.recvConfig chan nparc psize state)
/-- The 256 bits of a flit that is no data flit (R84). -/
def flitBits (chan : Nat) (h : FlitHeader) : BitVec 256 :=
  h.tstamp ++ h.user ++ h.tag ++ h.seq ++ h.len ++ h.phase ++ h.slot ++ 0#81 ++ h.kind ++ BitVec.ofNat 8 (chan % 256)

/-- A flit that is no data flit, by its KIND (R84); one of a reserved KIND is discarded and counted. -/
def State.recvFlit (s : State) (n : Nat) (h : FlitHeader) : State :=
  match h.kind.toNat with
  | 1 => s.recvHeader n h
  | 2 => s.recvCredits n h.len.toNat
  | 3 => s.recvConfig n h.len h.phase h.slot
  | _ => if 1536 ≤ n ∨ !(s.port (chanPort n)).up then s else s.portError (chanPort n)

/-- PARCEL_HEADER_RECEIVE (R84). -/
def execParcelHeaderReceive (chan : Nat) (header : FlitHeader) (s : State) : Host.Outcome State Fault Refusal := .next (s.linkNow.recvFlit chan header)
/-- DATA_FLIT_RECEIVE (R83). -/
def execDataFlitReceive (chan : Nat) (data : List Byte) (s : State) : Host.Outcome State Fault Refusal := .next (s.linkNow.recvData chan data)
/-- PARCEL_DELIVERY (R89). -/
def execParcelDelivery (chan : Nat) (s : State) : Host.Outcome State Fault Refusal := .next (s.deliverParcel chan)
/-- CREDIT_FLIT_RECEIVE (R86). -/
def execCreditFlitReceive (chan credits : Nat) (s : State) : Host.Outcome State Fault Refusal := .next (s.linkNow.recvCredits chan credits)
/-- TIMED_SEND_LAUNCH (R91). -/
def execTimedSendLaunch (chan : Nat) (s : State) : Host.Outcome State Fault Refusal := .next (s.trySend chan)
/-- OXBOW_FLIT_RECEIVE (R94). -/
def execOxbowFlitReceive (west : Bool) (flit : OxFlit) (s : State) : Host.Outcome State Fault Refusal := .next (s.linkNow.recvOx west flit)
/-- OXBOW_FLAG_WRITE (R97). -/
def execOxbowFlagWrite (west : Bool) (shard : Nat) (s : State) : Host.Outcome State Fault Refusal := .next (s.oxFlag west shard)
/-- COLLECTIVE_COMPLETE (R98). -/
def execCollectiveComplete (west : Bool) (s : State) : Host.Outcome State Fault Refusal := .next (s.oxComplete west)

end Sys2Proof.Machine
end

