-- ==== Sys2Proof/Machine/Weir.lean ====
section
/-! DEFINITION. The Weir's objects (file 06): job control blocks, posts, raises and successor events (R146, R147), the enabling of stages
(R129 to R133) and the arrival queues (R140, R141). -/

namespace Sys2Proof.Machine

/-! ### Job control blocks (R146, R147) -/

/-- A job control block (R146). -/
structure Jcb where
  expected : Nat
  done : Nat
  state : Nat
  /-- The reserved bits beside STATE. -/
  rsv : Nat
  suckind : Nat
  value : Nat
  succ : W64
  owner : W64
  deriving DecidableEq, Repr

/-- A block from its 32 bytes. -/
def jcbOf (bs : List Byte) : Jcb :=
  let f := fun (o n : Nat) => leNat ((bs.drop o).take n)
  { expected := f 0 4, done := f 4 4, state := f 8 1 % 4, rsv := f 8 1 / 4, suckind := f 9 1, value := f 12 4, succ := BitVec.ofNat 64 (f 16 8)
    owner := BitVec.ofNat 64 (f 24 8) }

/-- The die bridged to a block's home cache die; a block in cluster SRAM stands at the cluster's own. -/
def Loc.homeDie : Loc → Nat
  | .global pa => Machine.homeDie pa
  | .sram k _ => clusterDie k
  | .spad k _ => coreDie k
  | _ => 0

/-- A block as it stands at its home, where a die's own writes to it that have no place yet come first (R146, R252). -/
def State.blockHome (s : State) (d : Nat) (l : Loc) : Jcb × State :=
  match l with
  | .global pa =>
    let s := s.settle d pa 32
    (jcbOf (Mem.read s.home pa 32), s)
  | _ => (jcbOf (s.readLoc d l 32), s)

/-- Some bytes of a block, written by a die at its home. -/
def State.setBlock (s : State) (d : Nat) (l : Loc) (off : Nat) (bs : List Byte) : State :=
  match l.add off with
  | .global pa => s.writeHome d pa bs
  | k => s.writeLoc d k bs

/-- Whether a die may operate on a block now: every write to it that its home has placed is applied at the die, so that what the operation
leaves carries what came before it (R147, R251). A block in cluster SRAM takes a post once the poster's clock is applied at every die. -/
def State.blockReady (s : State) (d : Nat) (l : Loc) (clock : VClock) : Bool :=
  match l with
  | .global pa => s.writes.all fun w => w.place.isNone || w.applied.contains d || !runsOverlap w.addr w.data.length pa 32
  | _ => [0, 1, 2, 3].all fun k => (s.die k).vc.covers clock

/-- The stage and frame whose step owns a block. -/
def State.stepOfBlock (s : State) (l : Loc) : Option (Nat × Nat × Nat) :=
  match l with
  | .global pa => [0, 1, 2, 3].findSome? fun d => (s.die d).stages.findSome? fun g => g.2.frames.findSome? fun f =>
      match f.2 with
      | some st => if st.jcb = pa then some (d, g.1, f.1) else none
      | none => none
  | _ => none

/-- Change a launched step. -/
def State.modStep (s : State) (d n f : Nat) (h : Step → Step) : State :=
  s.modStage d n fun g => { g with frames := SMap.set none g.frames f ((SMap.get none g.frames f).map h) }

/-- A step faults (R131, R147, R148): its stage launches nothing more. -/
def State.stepFaults (s : State) (l : Loc) : State :=
  match s.stepOfBlock l with
  | some (d, n, f) => (s.modStep d n f fun t => { t with faulted := true }).modStage d n fun g => { g with stalled := true }
  | none => s

/-- What a post answers (R466): 0 OK, 1 CLOSED, 2 FAULTED. -/
def State.applyPost (s : State) (d : Nat) (l : Loc) : State × Nat :=
  let r := s.blockHome d l
  let b := r.1
  let s := r.2
  let n := (b.done + 1) % 2 ^ 32
  if b.state ≠ 0 then (s, 1)
  else if b.done + 1 < b.expected then (s.setBlock d l 4 (toBytes 4 n), 0)
  else if b.done + 1 = b.expected then
    let s := ((s.setBlock d l 4 (toBytes 4 n)).setBlock d l 8 (toBytes 1 (4 * b.rsv + 1))).weirsSoon
    if b.suckind = 0 ∨ 3 < b.suckind then (s, 0)
    else
      ({ s with
          succs := s.succs ++ [{ id := s.nextId, block := l, kind := b.suckind, arg := b.succ, otag := b.owner.extractLsb' 32 32
                                 clock := (s.die d).vc }]
          nextId := s.nextId + 1 }, 0)
  else (((s.setBlock d l 4 (toBytes 4 n)).setBlock d l 8 (toBytes 1 (4 * b.rsv + 2))).stepFaults l, 2)

/-- JCB_POST (R147): a post on its way is made at the block's home. Where the block cannot be read the error is logged, its step faults, and the
post changes nothing; the token of a WPOST clears with the mark, DESIGN CHOICE (log entry 76). -/
def State.jcbPost (s : State) (id : Nat) : State :=
  match s.posts.find? fun p => p.id == id with
  | none => s
  | some p =>
    if p.after.any (fun a => (SMap.get none s.accesses a).isSome) || !s.blockReady p.die p.block (if p.after = [] then p.clock else (s.die p.die).vc) then s
    else
      let s : State := { s with posts := s.posts.filter fun q => q.id != id }
      match s.poisonIn (p.block.runs 32) with
      | some pa =>
        let s := ((s.logUE (logSource 8 0 p.die) pa).stepFaults p.block).collReplies p.coll
        (match p.reply with
        | some (c, k, d) => (s.modCtx c fun x => x.tokMark k pa).answerResult c (d / 64) k []
        | none => s)
      | none =>
        let r := s.applyPost p.die p.block
        let s := r.1.collReplies p.coll
        match p.reply with
        | some (c, k, d) => s.replyTo c k d (BitVec.ofNat 64 r.2)
        | none => s

/-- A post sets out. What its poster wrote before it is visible to what the post completes (R147): where stores of the poster are still held, in
`after`, the post is made after them. -/
def State.sendPost (s : State) (d : Nat) (l : Loc) (reply : Option (Nat × Nat × Nat)) (after : List Nat := []) : State :=
  { s with posts := s.posts ++ [{ id := s.nextId, block := l, die := d, clock := (s.die d).vc, reply := reply, after := after }], nextId := s.nextId + 1 }

/-- What a raise answers (R147, R466): 0 OK, 1 CLOSED, 3 OVERFLOW, or none for JCB_LATE. -/
def State.applyRaise (s : State) (d : Nat) (l : Loc) (posted : Bool) (n : Nat) : State × Option Nat :=
  let r := s.blockHome d l
  let b := r.1
  if b.state = 1 ∨ (b.state = 0 ∧ posted) then (s, none)
  else if b.state ≠ 0 then (s, some 1)
  else if 2 ^ 32 ≤ b.expected + n then (s, some 3)
  else (r.2.setBlock d l 0 (toBytes 4 (b.expected + n)), some 0)

/-! ### Successor events (R140, R141, R146) -/

/-- A successor is dropped with a log entry, whose ADDR is the block's physical address, 0 for a block in cluster SRAM (R107), and with a message where its queue does not take it (R141, R146). -/
def State.dropSucc (s : State) (q : Succ) (d stage cause : Nat) : State :=
  let s := ({ s with succs := s.succs.filter fun r => r.id != q.id } : State).addLog 3 (logSource 8 stage d) (0x200 + cause) (match q.block with | .global pa => pa | _ => 0)
  if cause = 3 then s else s.msix 2

/-- A successor that enqueues (R141, R146). -/
def State.succEnqueue (s : State) (q : Succ) : State :=
  let d := bits q.arg 11 10
  let n := bits q.arg 9 7
  let k := bits q.arg 6 5
  let ph := bits q.arg 3 0
  let g := s.stage d n
  if !queueAccepts k ph then s.dropSucc q d n 1
  else if k = 3 then s.dropSucc q d n 2
  else if !g.enable || decide (256 ≤ (g.queue k).length) || !(s.die d).vc.covers q.clock then s
  else
    ((({ s with succs := s.succs.filter fun r => r.id != q.id } : State).modStage d n fun g =>
      g.setQueue k (g.queue k ++ [{ tag := q.arg.extractLsb' 32 32, phase := ph, chan := 0xFFFF#16, seq := 0#16, dep := 0#64, depCluster := 0
                                    lt := 0#64 }])).wakeUp).evalSoon d n

/-- The place that SUCC names for a barrier (R146); none where it is outside its space. -/
def State.succBarrier (s : State) (a : W64) : Option (Nat × Loc) :=
  let d := bits a 59 58
  let cl := bits a 57 51
  let core := 144 * d + 2 * cl + bits a 50 50
  let off := bits a 21 0
  if 72 ≤ cl ∨ off % 16 ≠ 0 then none
  else match bits a 63 60 with
  | 0x8 => if off + 16 ≤ partScratch (s.core core).part then some (d, .spad core off) else none
  | 0x9 => some (d, .sram (72 * d + cl) off)
  | _ => none

/-- The address of a block as JOBREF holds it. -/
def Loc.word : Loc → W64
  | .global pa => BitVec.ofNat 64 pa
  | .sram _ o => BitVec.ofNat 64 (0x9 * 2 ^ 60 + o)
  | .spad _ o => BitVec.ofNat 64 (0x8 * 2 ^ 60 + o)
  | l => BitVec.ofNat 64 l.offset

/-- SUCCESSOR_EVENT (R146): the successor of a completed block fires as a release. -/
def State.successor (s : State) (die id : Nat) : State :=
  match s.succs.find? fun q => q.id == id with
  | none => s
  | some q =>
    let d := q.block.homeDie
    let gone : State := { s with succs := s.succs.filter fun r => r.id != id }
    if d ≠ die ∨ q.suspended then s
    else match q.kind with
    | 1 => s.succEnqueue q
    | 2 =>
      (match s.succBarrier q.arg with
      | none => s.dropSucc q d 0 3
      | some (bd, l) => if (s.die bd).vc.covers q.clock then gone.engBar l .arrive else s)
    | _ =>
      if !(s.die d).vc.covers q.clock then s
      else
        let stop := fun (cause : Nat) (va : W64) =>
          ({ s with succs := mapWhere (fun r => r.id == id) (fun r => { r with suspended := true }) s.succs }).fqPush d
            { va := va, tag := q.otag, cause := BitVec.ofNat 8 cause, agent := 7#4, jobref := q.block.word, wr := true, unit := id }
        match gone.engWrite { die := d, core := 0, cluster := 0, sup := true } (q.arg &&& 0x0FFFFFFFFFFFFFFF#64) (toBytes 8 1) with
        | .ok t => if 2 ^ 60 ≤ q.arg.toNat then stop 0x06 q.arg else t
        | .error (.fault cause va _ _) => stop cause va
        | .error _ => s

/-! ### Stages (R129 to R133) -/

/-- Clusters of a stage, as numbers within the die, ascending. -/
def Stage.clusters (g : Stage) : List Nat :=
  (List.range 72).filter fun n => if n < 64 then g.clmask0.getLsbD n else g.clmask1.getLsbD (n - 64)

/-- A cluster of the stage belongs to another enabled stage. -/
def State.stageOverlaps (s : State) (d n : Nat) : Bool :=
  (List.range 8).any fun k => k != n && (s.stage d k).enable && (s.stage d n).clusters.any fun c => (s.stage d k).clusters.contains c

/-- A valid policy entry holds PHASE 6 or 7, or a reserved bit (R132, R142). -/
def policyBad (p : W64) : Bool := bit p 63 && (decide (6 ≤ bits p 62 60) || bits p 19 0 != 0)

/-- The physical address of a table base: an unmapped page gives none (R132). -/
def State.mapped (s : State) (d va : Nat) : Option Nat := match s.walk d va with | .entry e => some (e.pa + (va - e.va)) | _ => none

/-- ESTAT of an enabling write (R132). -/
def State.enableStatus (s : State) (d n : Nat) : Nat :=
  let g := s.stage d n
  if s.stageOverlaps d n then 1
  else if g.clusters.isEmpty then 2
  else if g.tmplbase.toNat % 65536 ≠ 0 ∨ g.framebase.toNat % 4096 ≠ 0 then 3
  else if (s.mapped d g.tmplbase.toNat).isNone ∨ (s.mapped d g.framebase.toNat).isNone then 4
  else if g.policy.any fun kv => policyBad kv.2 then 5
  else 0

/-- STAGE_ENABLE (R132): a write of ENABLE := 1 checks the stage and enables it. On a stage that is enabled already it makes no checks and leaves
ESTAT as it is, DESIGN CHOICE (log entry 80). -/
def State.stageEnable (s : State) (d n : Nat) (wsplit : Bool) : State :=
  if 4 ≤ d ∨ 8 ≤ n then s
  else
    let s := s.modStage d n fun g => { g with wsplit := wsplit }
    if (s.stage d n).enable then s
    else
      let e := s.enableStatus d n
      let g := s.stage d n
      s.modStage d n fun x =>
        { x with
          estat := BitVec.ofNat 4 e, enable := e == 0
          tmplPa := if e = 0 then (s.mapped d g.tmplbase.toNat).getD 0 else x.tmplPa
          framePa := if e = 0 then (s.mapped d g.framebase.toNat).getD 0 else x.framePa
          lastEval := s.time }

/-- STAGE_DISABLE (R132): no new launch, STALLED cleared. -/
def State.stageDisable (s : State) (d n : Nat) (wsplit : Bool) : State :=
  if 4 ≤ d ∨ 8 ≤ n then s else s.modStage d n fun g => { g with wsplit := wsplit, enable := false, stalled := false }

/-! ### Arrivals (R140, R141, R467) -/

/-- The status of WARR where its entry arrives (R141, R467). -/
def Stage.arrivalStatus (g : Stage) (q : Nat) (e : QEntry) : Nat :=
  if !g.enable then 3
  else if !queueAccepts q e.phase then 4
  else if q = 3 ∧ e.dep = 0#64 then 2
  else if 256 ≤ (g.queue q).length then 1
  else 0

/-- QUEUE_ARRIVAL (R140): an entry of WARR arrives at the Weir of its die, once the issuer's writes are applied there, those of stores that were
held among them (R259, R467). An arrival that the queue refuses wakes the module too (R122). -/
def State.queueArrive (s : State) (d id : Nat) : State :=
  match (s.die d).arrivals.find? fun a => a.id == id with
  | none => s
  | some a =>
    let from' := if a.after = [] then a.clock else (s.die (ctxDie a.ctx)).vc
    if a.after.any (fun i => (SMap.get none s.accesses i).isSome) || !(s.die d).vc.covers from' then s
    else
      let st := (s.stage d a.stage).arrivalStatus a.queue a.entry
      let s := (s.modDie d fun x => { x with arrivals := x.arrivals.filter fun b => b.id != id }).wakeUp
      let s := if st = 0 then (s.modStage d a.stage fun g => g.setQueue a.queue (g.queue a.queue ++ [a.entry])).evalSoon d a.stage else s
      s.replyTo a.ctx a.token a.dest (BitVec.ofNat 64 st)

/-- SUCCESSOR_EVENT (R146). -/
def execSuccessorEvent (die entry : Nat) (s : State) : Host.Outcome State Fault Refusal := .next (s.successor die entry).checkEnd
/-- STAGE_ENABLE (R132). -/
def execStageEnable (die stage : Nat) (wsplit : Bool) (s : State) : Host.Outcome State Fault Refusal := .next (s.stageEnable die stage wsplit)
/-- STAGE_DISABLE (R132). -/
def execStageDisable (die stage : Nat) (wsplit : Bool) (s : State) : Host.Outcome State Fault Refusal := .next (s.stageDisable die stage wsplit)
/-- QUEUE_ARRIVAL (R140). -/
def execQueueArrival (die entry : Nat) (s : State) : Host.Outcome State Fault Refusal := .next (s.queueArrive die entry)

end Sys2Proof.Machine
end

