-- ==== Sys2Proof/Machine/Capture.lean ====
section
/-! DEFINITION. Gangs (R125 to R128, R152 to R155, R271 to R278): spawning, leaving at DONE, the capture of a gang, its write-out to the
save areas, and its resumption. -/

namespace Sys2Proof.Machine

/-- A gang template (R134). -/
structure Tmpl where
  idx : Nat
  w : List W64
  deriving DecidableEq, Repr

/-- A word of a template. -/
def Tmpl.word (t : Tmpl) (i : Nat) : W64 := t.w.getD i 0#64
/-- ENTRY. -/
def Tmpl.entry (t : Tmpl) : Nat := bits (t.word 0) 47 0
/-- PART. -/
def Tmpl.part (t : Tmpl) : W64 := t.word 1
/-- NTASK. -/
def Tmpl.ntask (t : Tmpl) : Nat := bits (t.word 2) 7 0
/-- CLFIRST. -/
def Tmpl.clfirst (t : Tmpl) : Nat := bits (t.word 2) 15 8
/-- CORES. -/
def Tmpl.cores (t : Tmpl) : Nat := bits (t.word 2) 17 16
/-- DX. -/
def Tmpl.dx (t : Tmpl) : Nat := bits (t.word 2) 31 24
/-- DY. -/
def Tmpl.dy (t : Tmpl) : Nat := bits (t.word 2) 39 32
/-- NEXT. -/
def Tmpl.next (t : Tmpl) : Nat := bits (t.word 2) 49 40
/-- WIN. -/
def Tmpl.win (t : Tmpl) : Nat := bits (t.word 2) 55 52
/-- SAVEBASE. -/
def Tmpl.savebase (t : Tmpl) : W64 := BitVec.ofNat 64 (bits (t.word 4) 47 0)
/-- JOINWAIT. -/
def Tmpl.joinwait (t : Tmpl) : Nat := bits (t.word 3) 31 0
/-- NSEAL. -/
def Tmpl.nseal (t : Tmpl) : Nat := bits (t.word 3) 35 32
/-- SEALLIST. -/
def Tmpl.seallist (t : Tmpl) : Nat := bits (t.word 5) 47 0

/-- A template, as the Weir of a die reads it (R132, R134). -/
def State.tmpl (s : State) (d n idx : Nat) : Tmpl :=
  let bs := s.readPhys d ((s.stage d n).tmplPa + 64 * idx) 64
  ⟨idx, (List.range 8).map fun i => wordOf (bs.drop (8 * i))⟩

/-! ### Members (R126, R127, R155) -/

/-- A member is in its gang no longer (R127): its tiles stay in the accumulator store, its sequencer is free, and the barriers of the gang wait for
it no longer; nor does a member that comes after it count as arrived in its stead. The end of a gang is a trigger of R144. -/
def State.dropMember (s : State) (c : Nat) : State :=
  match s.ctx c with
  | none => s
  | some x =>
    let s := (s.storeTiles c).setCtx c none
    match s.gang x.gang with
    | none => s
    | some g =>
      if g.members.length ≤ 1 then ({ s with gangs := s.gangs.filter fun h => h.id != g.id } : State).weirSoon g.die
      else
        (s.modGang g.id fun g =>
          { g with
            members := g.members.filter fun m => m.1 != c
            bars := SMap.mapVals {} (fun (r : GangBar) => { r with arrived := r.arrived.filter fun m => m != x.member }) g.bars }).checkBars g.id

/-- The launched step of a gang, with its stage. -/
def State.stepOf (s : State) (g : Gang) : Option (Nat × Step) :=
  match g.step with
  | some (n, f) => (SMap.get none (s.stage g.die n).frames f).map fun st => (n, st)
  | none => none

/-- A member leaves its gang at its DONE (R127, R147, R364): it posts to the step's block. -/
def State.leaveGang (s : State) (c : Nat) : State :=
  match s.ctx c with
  | none => s
  | some x =>
    let t := s.dropMember c
    match s.gang x.gang with
    | none => t
    | some g =>
      match s.stepOf g with
      | some (_, st) => t.sendPost g.die (.global st.jcb) none
      | none => t

/-- A sequencer belongs to a captured gang (R153). -/
def State.reserved (s : State) (c : Nat) : Bool := s.gangs.any fun g => g.captured && g.members.any fun m => m.1 % numSeqs == c

/-- A captured gang keeps a sequencer from a new step of a class (R153). -/
def State.reservedFor (s : State) (klass c : Nat) : Bool :=
  s.gangs.any fun g => g.captured && decide (g.klass ≤ klass) && g.members.any fun m => m.1 % numSeqs == c

/-- Place of a number in a list; 0 where it is not there. -/
def placeOf (n : Nat) (l : List Nat) : Nat := (indexOf n l).getD 0

/-- The member index of a context that SPAWN makes (R276): after the placed members, by core and sequencer. -/
def Gang.spawnIndex (g : Gang) (c : Nat) : Nat := g.ntask + 4 * placeOf (ctxCore c) g.cores + ctxSeq c

/-- SPAWN (R155, R468): EXPECTED of the step's block rises, and the new context is a member of the gang. `t` is its sequencer. -/
def State.spawn (s : State) (c t : Nat) (entry : BitVec 48) (es : List W64) : State :=
  match s.ctx c with
  | none => s
  | some x =>
    match s.gang x.gang with
    | none => s
    | some g =>
      let s := match s.stepOf g with
        | some (_, st) => (s.applyRaise g.die (.global st.jcb) false 1).1
        | none => s
      let m := g.spawnIndex t
      let y : Ctx :=
        { pc := entry, e := (es.zipIdx).foldl (fun (r : SMap W64) v => SMap.set 0#64 r v.2 v.1) []
          tcoord := x.tcoord, tag := x.tag, sup := x.sup, fmt := x.fmt, gang := g.id, member := m, arrived := true }
      (((s.setCtx t (some y)).modGang g.id fun g => { g with members := g.members ++ [(t, m)] }).insertReady t).behindWrites t
        (s.heldWrites c)

/-! ### Numbers of contexts -/

/-- The operations that name a context by number follow it to another number. -/
def State.renumber (s : State) (f : Nat → Nat) : State :=
  let tok := fun (r : Nat × Nat × Nat) => (f r.1, r.2)
  { s with
    ctxs := s.ctxs.foldl (fun (m : SMap (Option Ctx)) kv => SMap.set none m (f kv.1) kv.2) []
    accesses := SMap.mapVals none (Option.map fun (a : Access) => { a with ctx := f a.ctx }) s.accesses
    gangs := s.gangs.map fun g => { g with members := g.members.map fun m => (f m.1, m.2) }
    dies := SMap.mapVals {} (fun (d : Die) =>
      { d with
        arrivals := d.arrivals.map fun a => { a with ctx := f a.ctx }
        jobs := d.jobs.map fun j => { j with ctx := f j.ctx }
        eddy := { d.eddy with stashes := d.eddy.stashes.map fun e =>
          { e with
            attach := e.attach.map fun a => match a with | .stream c n => .stream (f c) n | b => b
            waiters := e.waiters.map fun w => (f w.1, w.2), frees := e.frees.map fun w => (f w.1, w.2) } } }) s.dies
    clusters := SMap.mapVals {} (fun (k : Cluster) =>
      { k with riffle := SMap.mapVals {} (fun (r : Riffle) =>
          { r with
            queue := r.queue.map fun o => { o with ctx := f o.ctx }
            ports := r.ports.foldl (fun (m : SMap W64) kv => SMap.set 0#64 m (8 * f (kv.1 / 8) + kv.1 % 8) kv.2) []
            status := r.status.foldl (fun (m : SMap W64) kv => SMap.set 0#64 m (f kv.1) kv.2) []
            result := r.result.foldl (fun (m : SMap W64) kv => SMap.set 0#64 m (f kv.1) kv.2) [] }) k.riffle }) s.clusters
    chans := SMap.mapVals {} (fun (c : Chan) =>
      { c with
        recvs := c.recvs.map fun r => { r with ctx := f r.ctx }
        timed := c.timed.map fun t => { t with ctx := f t.ctx }
        waiters := c.waiters.map f, granted := c.granted.map f }) s.chans
    oxEast := { s.oxEast with queue := s.oxEast.queue.map fun c => { c with ctx := f c.ctx } }
    oxWest := { s.oxWest with queue := s.oxWest.queue.map fun c => { c with ctx := f c.ctx } }
    gaugeQ := s.gaugeQ.map fun u => { u with token := u.token.map tok }
    seals := s.seals.map fun r => { r with reply := r.reply.map tok }
    recReqs := s.recReqs.map fun r => { r with reply := tok r.reply }
    writeWaits := s.writeWaits.map fun w => { w with reply := w.reply.map fun r => (f r.1, r.2) }
    posts := s.posts.map fun p => { p with reply := p.reply.map tok } }

/-! ### Termination by the supervisor (R147) -/

/-- The supervisor terminates a member: its step's block, if it is OPEN, turns FAULTED, and the stage launches nothing more. The member posts
nothing; what it has under way goes on without it, under a number of its own, DESIGN CHOICE (log entry 67). -/
def State.terminate (s : State) (c : Nat) : State :=
  match s.ctx c with
  | none => s
  | some x =>
    let ghost := c % numSeqs + numSeqs * (s.nextGang + 1)
    let t := ({ (s.renumber fun b => if b = c then ghost else b) with nextGang := s.nextGang + 1 } : State).dropMember ghost
    match (s.gang x.gang).bind fun g => (s.stepOf g).map fun p => (g.die, p.1, p.2.jcb) with
    | none => t
    | some (d, n, jcb) =>
      let r := t.blockHome d (.global jcb)
      if r.1.state ≠ 0 then t
      else
        (((r.2.setBlock d (.global jcb) 8 (toBytes 1 (4 * r.1.rsv + 2))).stepFaults (.global jcb)).addLog 3 (logSource 8 n d) 0x140 jcb).msix 2

/-! ### Capture (R152, R238, R271 to R274) -/

/-- A member at capture (R238, R271, R272): it will issue again the bundle that it has not issued; its macro-ops in flight stop; of a join with
one half present that half is dropped, and the time that its partner has left is kept. -/
def Ctx.captured (x : Ctx) (now : Nat) : Ctx :=
  let x := x.stopMacros
  { x with
    run := if x.run = .draining then .draining else .waiting .captured
    join := x.join.map fun j => { j with received := none, deadline := j.deadline - now } }

/-- A member at resumption (R220, R238, R278). -/
def Ctx.resumed (x : Ctx) (now : Nat) : Ctx :=
  { x.clearLatches with join := x.join.map fun j => { j with deadline := j.deadline + now } }

/-- The operand sets of a context's Riffle units read zero after a capture (R176). -/
def State.dropPorts (s : State) (c : Nat) : State :=
  s.modCluster (ctxCluster c) fun k =>
    { k with riffle := SMap.mapVals {} (fun (r : Riffle) => { r with ports := r.ports.filter fun kv => kv.1 / 8 != c }) k.riffle }

/-- A gang is captured (R271): every member at once. Its contexts leave their sequencers, and what works for them follows them; `keep`
says that the pools of its cores are saved for a gang that takes its place. -/
def State.captureGang (s : State) (id stamp : Nat) (hold : Bool) : State :=
  match s.gang id with
  | none => s
  | some g =>
    if g.captured then s
    else
      let cs := g.members.map (·.1)
      let s := cs.foldl (fun (s : State) c => ((s.modCtx c fun x => x.captured s.time).storeTiles c).dropPorts c) s
      let s : State := { s with chans := SMap.mapVals {} (fun (k : Chan) =>
          { k with waiters := k.waiters.filter fun c => !cs.contains c, granted := k.granted.filter fun c => !cs.contains c }) s.chans }
      let images := if hold then [] else g.cores.map fun k => (k, (s.core k).spad, (s.core k).spill)
      let cls := g.cores.map (· / 2)
      let modes := cls.foldl (fun (l : List (Nat × BitVec 3)) k => if l.any fun m => m.1 == k then l else l ++ [(k, (s.cluster k).winmode)]) []
      let s := s.modGang id fun g =>
        { g with captured := true, freezing := none, byHold := hold, capturedAt := stamp, images := images, modes := modes, written := false }
      s.renumber fun c => if cs.contains c then c + numSeqs * (id + 1) else c

/-- Several gangs are captured together (R152). -/
def State.captureAll (s : State) (ids : List Nat) (hold : Bool) : State :=
  ids.foldl (fun (t : State) i => t.captureGang i (s.nextId + 1) hold) { s with nextId := s.nextId + 1 }

/-- A member has accesses of its L slot under way, which capture drains first (R273). -/
def State.draining (s : State) (g : Gang) : Bool := g.members.any fun m => !(s.pending m.1).isEmpty

/-! ### Resumption (R153, R278) -/

/-- The contexts on a core. -/
def State.onCore (s : State) (k : Nat) : List Ctx := (List.range 4).filterMap fun i => s.ctx (4 * k + i)

/-- A core is free for a captured gang (R153): nothing runs there but gangs that were captured together with it. -/
def State.coreFree (s : State) (g : Gang) (k : Nat) : Bool :=
  (s.onCore k).all fun x => match s.gang x.gang with | some h => h.capturedAt == g.capturedAt | none => false

/-- A captured gang may resume (R153). -/
def State.mayResume (s : State) (g : Gang) : Bool :=
  g.captured && !s.draining g && (g.cores.all fun k => s.coreFree g k) && g.members.all fun m => (s.ctx (m.1 % numSeqs)).isNone

/-- What a resumption takes from the template, which the Weir reads again (R134): the partition word, JOINWAIT, SAVEBASE and WIN; a value that no
launch would take leaves the gang as it is, DESIGN CHOICE (log entry 68). -/
def Gang.reread (g : Gang) (t : Tmpl) : Gang :=
  { g with
    part := if partValid t.part then t.part else g.part, joinwait := t.joinwait
    win := if t.win ≤ 6 then BitVec.ofNat 3 t.win else g.win, savebase := t.savebase }

/-- A gang with its template as the Weir of its die reads it now; the gang of a start context has none. -/
def State.rereadGang (s : State) (g : Gang) : Gang :=
  match g.step, g.tmpl with
  | some (n, _), some i => g.reread (s.tmpl g.die n i)
  | _, _ => g

/-- A trigger for the stage of a gang (R144). -/
def State.gangSoon (s : State) (g : Gang) : State :=
  match g.step with
  | some (n, _) => s.evalSoon g.die n
  | none => s

/-- A captured gang resumes on its cores and sequencers (R153, R278): images, partition word and, where its template names one, window modes
first (R208), then its members, whose Riffle operand sets read zero (R176). -/
def State.resumeGang (s : State) (id : Nat) : State :=
  match s.gang id with
  | none => s
  | some g =>
    if !s.mayResume g then s
    else
      let cs := g.members.map fun m => m.1 % numSeqs
      let h := s.rereadGang g
      let s := g.images.foldl (fun (s : State) i =>
        if (s.onCore i.1).isEmpty then s.modCore i.1 fun k => { k with spad := i.2.1, spill := i.2.2 } else s) s
      let s := g.cores.foldl (fun (s : State) k => s.modCore k fun x => { x with part := h.part }) s
      let s := if h.win = 0#3 then s else g.modes.foldl (fun (s : State) m => s.modCluster m.1 fun k => { k with winmode := m.2 }) s
      let s := s.modGang id fun _ => { h with captured := false, byHold := false, images := [], modes := [] }
      let s := s.renumber fun c => if c / numSeqs = id + 1 then c % numSeqs else c
      (cs.foldl (fun (s : State) c =>
        let s := (s.modCtx c fun x => x.resumed s.time).dropPorts c
        match s.ctx c with
        | some x => if x.run = .draining then s else s.insertReady c
        | none => s) s).gangSoon g

/-- The gangs of a stage that were captured by the Weir, oldest capture first. -/
def State.capturedOf (s : State) (d n : Nat) : List Nat :=
  let gs := s.gangs.filter fun g => g.captured && !g.byHold && g.die == d && (match g.step with | some (k, _) => k == n | none => false)
  (gs.mergeSort fun a b => decide (a.capturedAt < b.capturedAt) || (a.capturedAt == b.capturedAt && decide (a.id ≤ b.id))).map (·.id)

/-- ResumeCaptured (R144, R153). -/
def State.resumeCaptured (s : State) (d n : Nat) : State :=
  if s.thermal.state = .hold then s else (s.capturedOf d n).foldl State.resumeGang s

/-! ### The save areas (R275 to R277) -/

/-- SZ (R277). -/
def saveSize (part : W64) : Nat := 2048 + 512 * partVreg part + 65536 * partTiles part + 30720

/-- `n` free bytes. -/
def State.drawBytes (s : State) : Nat → List Byte × State
  | 0 => ([], s)
  | n + 1 =>
    let r := s.draw
    let q := r.2.drawBytes n
    (toBytes 8 r.1.toNat ++ q.1, q.2)

/-- Bytes of a 64-bit word. -/
def w64 (v : W64) : List Byte := toBytes 8 v.toNat
/-- Bytes of a vector. -/
def laneBytes (v : Vec) : List Byte := v.toList.flatMap fun l => toBytes 4 l.toNat
/-- Words of a file of registers. -/
def fileBytes (m : SMap W64) (n : Nat) : List Byte := (List.range n).flatMap fun i => w64 (SMap.get 0#64 m i)

/-- FMT that has not landed yet; FMT itself where there is none. -/
def Ctx.pendingFmt (x : Ctx) : W64 := x.flight.foldl (fun v f => match f.what with | .fmt w => w | _ => v) x.fmt

/-- The bundles that are still in the shadow of a SETFMT (R265, R298). -/
def Ctx.fmtDelay (x : Ctx) : Nat :=
  x.flight.foldl (fun n f => match f.what with | .fmt _ => f.land + 1 - x.count | _ => n) 0

/-- REPLEFT of a context (R271, R277): what is left of the bundle that it issues next, all of its REPEAT where it has not issued it yet. -/
def State.repeatsLeft (s : State) (c : Nat) (x : Ctx) : Nat :=
  match x.repLeft with
  | some n => n
  | none =>
    match s.translate (ctxCluster c) x.sup .fetch x.pc.toNat with
    | .ok pa =>
      (match decodeHeader (BitVec.ofNat 32 (leNat (s.readPhys (ctxDie c) pa 4))) with
       | .ok h => h.repeats.toNat
       | .error _ => 0)
    | _ => 0

/-- A save area from its start to the snapshot bank (R277); `rep` is REPLEFT. -/
def Ctx.saveHead (x : Ctx) (part : W64) (c rep : Nat) : List Byte :=
  let dly := x.fmtDelay
  w64 (x.pc.zeroExtend 64) ++ w64 x.status ++ w64 x.fmt ++ w64 x.pendingFmt ++
  w64 (BitVec.ofNat 64 (dly % 8 + rep % 64 * 2 ^ 8 + x.sptop.toNat * 2 ^ 16 + x.spin % 2 ^ 20 * 2 ^ 32)) ++
  w64 (x.tcoord.zeroExtend 64) ++ w64 (x.tag.zeroExtend 64) ++ w64 x.ovfptr ++
  w64 x.tcause ++ w64 x.traparg ++ w64 x.tpc ++ w64 x.txpc ++ w64 part ++ w64 (coreWord c) ++ List.replicate 16 0#8 ++
  ((List.range 16).flatMap fun i => w64 (x.pred i)) ++
  fileBytes x.a 64 ++ fileBytes x.b 64 ++ ((List.range 32).flatMap fun i => w64 (x.dReg i)) ++ fileBytes x.e 32 ++ fileBytes x.m 16 ++
  fileBytes x.j 4 ++ List.replicate 96 0#8 ++
  ((List.range (partVreg part)).flatMap fun i => laneBytes (x.vec false i)) ++ ((List.range (partVreg part)).flatMap fun i => laneBytes (x.vec true i)) ++
  ((List.range (partTiles part)).flatMap fun z => (List.range 16384).flatMap fun k => toBytes 4 (SMap.get 0#32 (SMap.get {} x.z z).elems k).toNat)

/-- A token as a save area holds it (R277). -/
def Token.word (t : Token) : W64 :=
  BitVec.ofNat 64 (t.count % 256 + (match t.mark with | some a => 256 + a % 2 ^ 48 * 65536 | none => 0))

/-- The buffered vectors of a stream register, eight places (R277). -/
def Stream.vectors (t : Stream) : List Byte := (List.range 8).flatMap fun i => laneBytes (t.buf.getD i Vec.zero)

/-- A save area after the snapshot bank and the sticky and loop state, whose inner form the manual does not give; `bind` are the bytes of the
stream bindings. -/
def Ctx.saveTail (x : Ctx) (bind : List Byte) : List Byte :=
  ((List.range 8).flatMap fun k => w64 (SMap.get {} x.k k).word) ++
  ((List.range 8).flatMap fun f => (bind.drop (16 * f)).take 16 ++ (SMap.get {} x.f f).vectors) ++
  ((List.range 256).flatMap fun i => toBytes 4 (SMap.get 0#32 x.c i).toNat) ++
  ([0, 1, 2, 5, 6, 7].flatMap fun sl => (List.range 8).flatMap fun n => w64 (SMap.get 0#64 x.q (8 * sl + n))) ++
  ((List.range 8).flatMap fun n => laneBytes (SMap.get Vec.zero x.qv n)) ++ ((List.range 8).flatMap fun n => laneBytes (SMap.get Vec.zero x.qw n)) ++
  List.replicate 192 0#8

/-- The save area of a start context (R128, R481): the firmware region has one range for each core, laid out as R276 lays out a gang's; where in the
region it lies is DESIGN CHOICE (log entry 69). -/
def firmwareSave (core : Nat) : Nat := 0x7F30000000 + core * 0x5C0000

/-- Bytes of a gang's save areas are written: those of a step at its SAVEBASE, by its die, and those of a start context in the firmware region,
by the firmware, whose writes are of die 0 (R250, R276). -/
def State.saveWrite (s : State) (g : Gang) (off : Nat) (bs : List Byte) : State :=
  if g.step.isNone then s.writePhys 0 (firmwareSave (g.cores.headD 0) + off) bs
  else
    match s.engWrite { die := g.die, core := 0, cluster := 0, sup := true } (BitVec.ofNat 64 (g.savebase.toNat % 2 ^ 48 + off)) bs with
    | .ok t => t
    | .error _ => s

/-- A member's save area is written (R276, R277): the bytes whose form the manual leaves open are free values (log entry 2). -/
def State.saveMember (s : State) (g : Gang) (off c : Nat) : State :=
  match s.ctx c with
  | none => s
  | some x =>
    let snap := s.drawBytes 1056
    let bind := snap.2.drawBytes 16
    bind.2.saveWrite g off (x.saveHead g.part c (s.repeatsLeft c x) ++ snap.1 ++ x.saveTail bind.1)

/-- Bytes of the first `n` addresses of a pool. -/
def poolBytes (m : Mem) (n : Nat) : List Byte := Mem.read m 0 n

/-- SAVE_WRITEOUT_COMPLETE (R275, R276): the save areas and the core images of a captured gang are written. -/
def State.writeOut (s : State) (id : Nat) : State :=
  match s.gang id with
  | none => s
  | some g =>
    if !g.captured || g.written || s.draining g then s
    else
      let sz := saveSize g.part
      let s := s.modGang id fun g => { g with written := true }
      let s := g.members.foldl (fun (s : State) m => s.saveMember g (m.2 * sz) m.1) s
      (g.cores.zipIdx).foldl (fun (s : State) k =>
        let live := s.core k.1
        let img := match g.images.find? fun i => i.1 == k.1 with
          | some i => (i.2.1, i.2.2)
          | none => (live.spad, live.spill)
        s.saveWrite g ((g.ntask + 4 * g.cores.length) * sz + k.2 * (partScratch g.part + partSpill g.part))
          (poolBytes img.1 (partScratch g.part) ++ poolBytes img.2 (partSpill g.part))) s

/-- GANG_RESUME (R153): HOLD exit alone resumes a gang that HOLD captured (R21). -/
def State.resumeOne (s : State) (id : Nat) : State :=
  match s.gang id with
  | some g => if g.byHold || s.thermal.state == .hold then s else s.resumeGang id
  | none => s

/-- GANG_RESUME (R153). -/
def execGangResume (gang : Nat) (s : State) : Host.Outcome State Fault Refusal := .next (s.resumeOne gang)
/-- JCB_POST (R147): a post on its way, or the supervisor's termination of a member. -/
def execJcbPost (what : JcbEvent) (s : State) : Host.Outcome State Fault Refusal :=
  .next (match what with
    | .post id => s.jcbPost id
    | .terminate ctx => s.terminate ctx).checkEnd

end Sys2Proof.Machine
end

