-- ==== Sys2Proof/Machine/Launch.lean ====
section
/-! DEFINITION. How the Weir launches, pre-empts and retires steps (R134 to R145, R148 to R154): templates, placement, the walk of the
policy table, and retirement. -/

namespace Sys2Proof.Machine

/-! ### Chains (R134, R137) -/

/-- The chain from a template (R134, R137), up to its end or to a template that it holds already; `fuel` exceeds the number of templates. -/
def State.chain (s : State) (d n : Nat) : Nat → List Nat → Nat → List Tmpl
  | 0, _, _ => []
  | fuel + 1, seen, idx =>
    if seen.contains idx then []
    else
      let t := s.tmpl d n idx
      t :: (if t.next = 0x3FF then [] else s.chain d n fuel (idx :: seen) t.next)

/-- A chain returns to a template that it holds already. -/
def chainLoops (ch : List Tmpl) : Bool := match ch.getLast? with | some t => t.next != 0x3FF | none => false

/-- The core of member i of a gang, within the stage's clusters (R135). -/
def Tmpl.coreOf (t : Tmpl) (d : Nat) (cls : List Nat) (i : Nat) : Option Nat :=
  if t.cores = 3 then none
  else if t.cores = 2 then (cls[t.clfirst + i / 2]?).map fun k => 144 * d + 2 * k + i % 2
  else (cls[t.clfirst + i]?).map fun k => 144 * d + 2 * k + t.cores

/-- The cores of a gang's members, in order of members. -/
def Tmpl.memberCores (t : Tmpl) (d : Nat) (cls : List Nat) : List Nat := (List.range t.ntask).filterMap (t.coreOf d cls)

/-- The bytes of a SEALLIST (R134). -/
def State.sealBytes (s : State) (d : Nat) (t : Tmpl) : Except EngStop (List Byte) :=
  s.engRead { die := d, core := 0, cluster := 0, sup := true } (BitVec.ofNat 64 t.seallist) (2 * t.nseal)

/-- The gauge indices of a SEALLIST (R134); none where it cannot be read. -/
def State.sealIndices (s : State) (d : Nat) (t : Tmpl) : Option (List Nat) :=
  if t.nseal = 0 then some []
  else if 8 < t.nseal ∨ t.seallist % 2 ≠ 0 then none
  else match s.sealBytes d t with
  | .ok bs => some ((List.range t.nseal).map fun i => leNat ((bs.drop (2 * i)).take 2))
  | .error _ => none

/-- Whether a template fails the check of a status (R137); one that cannot be read fails the first, DESIGN CHOICE (log entry 76). -/
def State.tmplFails (s : State) (d n : Nat) (t : Tmpl) (status : Nat) : Bool :=
  let cls := (s.stage d n).clusters
  match status with
  | 1 => !partValid t.part || (s.poisonIn [((s.stage d n).tmplPa + 64 * t.idx, 64)]).isSome
  | 2 => t.ntask == 0 || decide (144 < t.ntask) || t.dx == 0 || t.dy == 0 || t.cores == 3 || decide (6 < t.win) ||
      decide ((t.memberCores d cls).length < t.ntask)
  | 3 => (match s.translateDie d false .fetch t.entry with
      | .ok pa => !(s.startBit pa) || t.entry % 4 != 0
      | _ => true)
  | 5 => (match s.sealIndices d t with
      | some gs => gs.any fun g => !s.gaugeAlloc d g
      | none => true)
  | _ => false

/-- The status of a chain (R137), 0 where every check holds; the lowest status counts. -/
def State.chainStatus (s : State) (d n : Nat) (ch : List Tmpl) : Nat :=
  let gangs := ch.take 8
  let fails := fun (st : Nat) => gangs.any fun t => s.tmplFails d n t st
  if fails 1 then 1 else if fails 2 then 2 else if fails 3 then 3 else if 8 < ch.length ∨ chainLoops ch then 4 else if fails 5 then 5 else 0

/-- A SEALLIST of the chain lies in host memory while the host's port is down (R81). -/
def State.chainHeld (s : State) (d : Nat) (ch : List Tmpl) : Bool :=
  ch.any fun t => t.nseal != 0 && (match s.sealBytes d t with | .error .held => true | _ => false)

/-- The uncorrectable data on which a chain fails with a status (R31, R32): a template, a start bit, or a SEALLIST. -/
def State.chainPoison (s : State) (d n : Nat) (ch : List Tmpl) : Nat → Option Nat
  | 1 => s.poisonIn (ch.map fun t => ((s.stage d n).tmplPa + 64 * t.idx, 64))
  | 3 => ch.findSome? fun t => match s.translateDie d false .fetch t.entry with
    | .ok pa => s.startPoison pa
    | .ecc pa => some pa
    | _ => none
  | 5 => ch.findSome? fun t => match s.sealBytes d t with | .error (.ecc pa) => some pa | _ => none
  | _ => none

/-! ### Placement (R135, R136) -/

/-- Gangs of a chain placed so far: the template, its cores and the sequencers of its members. -/
structure Placed where
  t : Tmpl
  seqs : List Nat
  deriving DecidableEq, Repr

/-- Place the members of a gang one by one, each on the lowest free sequencer below CTX (R135). -/
def State.placeMembers (s : State) (klass : Nat) (t : Tmpl) (taken : List Nat) : List Nat → Option (List Nat)
  | [] => some []
  | k :: ks =>
    match ((List.range (partCtx t.part)).map fun i => 4 * k + i).find? fun c =>
        (s.ctx c).isNone && !s.reservedFor klass c && !taken.contains c with
    | none => none
    | some c => (s.placeMembers klass t (c :: taken) ks).map fun l => c :: l

/-- Place the gangs of a chain in order (R136): a core takes a gang when it is idle or runs under the same partition word. -/
def State.placeChain (s : State) (d n klass : Nat) : List Tmpl → List Placed → Option (List Placed)
  | [], done => some done
  | t :: ts, done =>
    let ks := t.memberCores d (s.stage d n).clusters
    let same := ks.all fun k =>
      ((s.onCore k).isEmpty || (s.core k).part == t.part) && done.all fun p => !(p.seqs.any fun c => ctxCore c == k) || p.t.part == t.part
    if !same then none
    else match s.placeMembers klass t (done.flatMap fun p => p.seqs) ks with
    | none => none
    | some cs => s.placeChain d n klass ts (done ++ [⟨t, cs⟩])

/-- The window rule of R136: the other core of every cluster used belongs to no other gang. -/
def State.windowsFree (s : State) (ps : List Placed) : Bool :=
  ps.all fun p => p.t.win == 0 || p.seqs.all fun c =>
    let other := if ctxCore c % 2 = 0 then ctxCore c + 1 else ctxCore c - 1
    (s.onCore other).isEmpty && ps.all fun q => q == p || !(q.seqs.any fun b => ctxCore b == other)

/-- The chain's places, if it is placeable (R136). -/
def State.place (s : State) (d n klass : Nat) (ch : List Tmpl) : Option (List Placed) :=
  match s.placeChain d n klass ch [] with
  | some ps => if s.windowsFree ps then some ps else none
  | none => none

/-! ### Pre-emption (R152, R154) -/

/-- The cores that a chain needs, the other core of a cluster among them where WIN ≠ 0. -/
def State.neededCores (s : State) (d n : Nat) (ch : List Tmpl) : List Nat :=
  ch.flatMap fun t =>
    let ks := t.memberCores d (s.stage d n).clusters
    if t.win = 0 then ks else ks ++ ks.map fun k => if k % 2 = 0 then k + 1 else k - 1

/-- The gangs that a class-0 step captures (R152); none where nothing is captured. -/
def State.victims (s : State) (d n : Nat) (ch : List Tmpl) : Option (List Nat) :=
  let ks := s.neededCores d n ch
  let hit := s.gangs.filter fun g => !g.captured && g.members.any fun m => ks.contains (ctxCore m.1)
  if hit.any fun g => g.klass == 0 || g.step.isNone then none
  else
    let ids := hit.map (·.id)
    let rest := s.gangs.foldl (fun (t : State) g => if ids.contains g.id then g.members.foldl (fun (t : State) m => t.setCtx m.1 none) t else t) s
    if (rest.place d n 0 ch).isSome then some ids else none

/-- The gangs whose fetch is frozen for a stage while their L-slot operations drain (R273). -/
def State.frozenFor (s : State) (d n : Nat) : List Gang := s.gangs.filter fun g => g.die == d && g.freezing == some n

/-- Capture freezes the fetch of its victims at once (R265, R271, R273). -/
def State.freezeAll (s : State) (n : Nat) (ids : List Nat) : State :=
  { s with gangs := mapWhere (fun g => ids.contains g.id) (fun g => { g with freezing := some n }) s.gangs }

/-- A capture that the stage no longer makes lets its victims go on. -/
def State.thaw (s : State) (d n : Nat) : State :=
  { s with gangs := mapWhere (fun g => g.die == d && g.freezing == some n) (fun g => { g with freezing := none }) s.gangs }

/-! ### Version slots (R149) -/

/-- The CURRENT slot; slot 0 where there is none. -/
def Stage.current (g : Stage) : Nat := ((List.range 8).find? fun n => (SMap.get {} g.vslots n).state == .current).getD 0
/-- The lowest FREE slot. -/
def Stage.freeSlot (g : Stage) : Option Nat := (List.range 8).find? fun n => (SMap.get {} g.vslots n).state == .free
/-- The slot bound to a tag. -/
def Stage.bound (g : Stage) (tag : W32) : Option Nat := (g.bindings.find? fun b => b.1 == tag).map (·.2)

/-- A tag is bound to a slot. -/
def Stage.bind (g : Stage) (tag : W32) (slot : Nat) : Stage :=
  { g with
    bindings := g.bindings ++ [(tag, slot)]
    vslots := SMap.modify {} g.vslots slot fun v => { v with refs := v.refs + 1 } }

/-- A tag's binding is released (R149). -/
def Stage.release (g : Stage) (tag : W32) : Stage :=
  match g.bound tag with
  | none => g
  | some slot =>
    { g with
      bindings := g.bindings.filter fun b => b.1 != tag
      vslots := SMap.modify {} g.vslots slot fun v =>
        { v with refs := v.refs - 1, state := if v.state = .old ∧ v.refs = 1#16 then .free else v.state } }

/-- The version-slot change at the retirement of a U step (R149). -/
def Stage.slotChange (g : Stage) (st : Step) : Stage :=
  if st.newslot = st.slot then
    { g with vslots := SMap.modify {} g.vslots st.slot fun v => { v with version := v.version + 1 } }
  else
    let m := SMap.modify {} g.vslots st.slot fun v => { v with state := if v.refs = 0#16 then .free else .old }
    { g with vslots := SMap.modify {} m st.newslot fun v => { v with state := .current } }

/-! ### Candidates (R143) -/

/-- The stashes of a tag on a stage. -/
def State.stashesOf (s : State) (d n : Nat) (tag : W32) : List Stash :=
  (s.die d).eddy.stashes.filter fun e => keyTag e.key == tag.toNat && keyStage e.key == n

/-- The stash entries that a stage holds. -/
def State.stashHeld (s : State) (d n : Nat) : Nat := ((s.die d).eddy.stashes.filter fun e => keyStage e.key == n).length

/-- The launched, unretired steps of a phase. -/
def Stage.inFlight (g : Stage) (ph : Nat) : List Step :=
  g.frames.filterMap fun kv => match kv.2 with | some st => if st.phase = ph then some st else none | none => none

/-- The place in global memory of the block at an entry's DEP, as the Weir of a die finds it. -/
def State.depPlace (s : State) (d : Nat) (e : QEntry) : Option Nat :=
  if bits e.dep 63 60 ≠ 0 then none
  else match s.translateDie d true .read (bits e.dep 59 0) with
    | .ok pa => some pa
    | _ => none

/-- The block at an entry's DEP lies in a poisoned sector (R32). -/
def State.depPoison (s : State) (d : Nat) (e : QEntry) : Option Nat :=
  if e.dep = 0#64 then none else (s.depPlace d e).bind fun pa => s.poisonIn [(pa, 32)]

/-- The block at an entry's DEP, as it is applied at the die of the Weir (R143, R146); none where it cannot be read, so that its candidate is not
ready, DESIGN CHOICE (log entry 76). -/
def State.depBlock (s : State) (d : Nat) (e : QEntry) : Option Jcb :=
  match bits e.dep 63 60 with
  | 0x0 => if (s.depPoison d e).isSome then none else (s.depPlace d e).map fun pa => jcbOf (s.readPhys d pa 32)
  | 0x9 => some (jcbOf (s.readLoc d (.sram e.depCluster (bits e.dep 59 0)) 32))
  | _ => none

/-- Whether a candidate is ready (R143). -/
def State.candidateReady (s : State) (d n : Nat) (p : W64) (e : QEntry) : Bool :=
  let g := s.stage d n
  let dep := e.dep == 0#64 || (match s.depBlock d e with | some b => b.state == 1 | none => false)
  let lt := e.lt == 0#64 || s.timeReached e.lt.toNat
  let stashes := s.stashesOf d n e.tag
  let bound := (g.bound e.tag).isSome
  dep && lt && (match bits p 62 60 with
    | 0 => !bound && decide (g.bindings.length < 256)
    | 5 => !bound && decide (g.bindings.length < 256)
    | 1 => bound && stashes.all fun k => k.state == .resident || k.state == .restored || (bit p 57 && k.state != .dropped)
    | 3 => (stashes.any fun k => k.state == .dropped) && !(g.inFlight 3).any fun st => st.tag == e.tag
    | 2 => bound
    | _ => (g.inFlight 4).isEmpty &&
        (if bit p 56 then g.freeSlot.isSome else (SMap.get {} g.vslots g.current).refs == 0#16))

/-- The queue of a phase, and the phase of its entries (R143): R takes the entries of B. -/
def phaseQueue : Nat → Nat × Nat
  | 0 => (0, 0) | 5 => (0, 5) | 1 => (1, 1) | 3 => (1, 1) | 2 => (2, 2) | _ => (3, 4)

/-- The oldest ready candidate of a policy entry. -/
def State.candidate (s : State) (d n : Nat) (p : W64) : Option QEntry :=
  let q := phaseQueue (bits p 62 60)
  ((s.stage d n).queue q.1).find? fun e => e.phase == q.2 && s.candidateReady d n p e

/-! ### Prefetch (R150) -/

/-- EDFETCH of the Weir for an entry of a stored stash (R150). -/
def State.weirFetch (s : State) (d : Nat) (e : Stash) : State :=
  let stored := match e.state with | .compressed => true | .spilledFar => true | .spilledLp => true | _ => false
  if stored && s.fetchStatus d e.key none == 0 then (s.edfetch d e.key e.ctx (s.die d).freePlace none none).1 else s

/-- The Weir fetches the stash of a tag; one is DROPPED if any of its entries is (R150, R198), and is not fetched. -/
def State.fetchStash (s : State) (d n : Nat) (tag : W32) : State :=
  let es := s.stashesOf d n tag
  if es.any fun e => e.state == .dropped then s else es.foldl (fun (s : State) e => s.weirFetch d e) s

/-- The stashes of the prefetch horizon are fetched (R150). -/
def State.prefetch (s : State) (d n : Nat) : State :=
  (List.range 16).foldl (fun (s : State) i =>
    let p := SMap.get 0#64 (s.stage d n).policy i
    if bit p 63 && bits p 62 60 == 1 && bits p 33 30 != 0 then
      ((s.stage d n).horizon.take (bits p 33 30)).foldl (fun (s : State) tag => s.fetchStash d n tag) s
    else s) s

/-! ### Launch (R138, R139, R145) -/

/-- The bytes of a step frame (R138, R146). -/
def frameBytes (d n phase klass slot newslot expected state : Nat) (clip : Nat) (e : QEntry) : List Byte :=
  toBytes 4 expected ++ toBytes 4 0 ++ toBytes 1 state ++ [0#8, 0#8, 0#8] ++ toBytes 4 0 ++ toBytes 8 0 ++
  toBytes 8 (e.tag.toNat * 2 ^ 32 + phase * 2 ^ 28 + n * 2 ^ 24 + d * 2 ^ 20 + 2 ^ 16) ++
  toBytes 4 e.tag.toNat ++ toBytes 1 (phase + klass * 16) ++ toBytes 1 slot ++ toBytes 1 newslot ++ toBytes 1 n ++
  toBytes 2 e.chan.toNat ++ toBytes 2 e.seq.toNat ++ toBytes 4 clip ++ toBytes 8 e.dep.toNat ++ toBytes 8 e.lt.toNat

/-- The state of a placed member (R139). -/
def memberCtx (t : Tmpl) (frame : W64) (tag : W32) (i slot newslot gang : Nat) : Ctx :=
  let es : List W64 := [t.word 6, frame, tag.zeroExtend 64, BitVec.ofNat 64 i, BitVec.ofNat 64 slot, BitVec.ofNat 64 newslot]
  { pc := BitVec.ofNat 48 t.entry, tag := tag, gang := gang, member := i, arrived := true
    tcoord := BitVec.ofNat 48 (i % t.dx + i / t.dx % t.dy * 2 ^ 16 + i / (t.dx * t.dy) * 2 ^ 32)
    e := (es.zipIdx).foldl (fun (m : SMap W64) v => SMap.set 0#64 m v.2 v.1) [] }

/-- Insert without repeats, rising. -/
def ascending (l : List Nat) : List Nat := l.foldl (fun a n => insertAsc n a) []

/-- One gang of a chain starts (R135, R136, R139). -/
def State.startGang (s : State) (d n f klass slot newslot : Nat) (tag : W32) (p : Placed) : State :=
  let id := s.nextGang
  let t := p.t
  let cores := ascending (p.seqs.map ctxCore)
  let g : Gang :=
    { id := id, die := d, step := some (n, f), klass := klass, members := p.seqs.zipIdx, ntask := t.ntask, joinwait := t.joinwait
      win := BitVec.ofNat 3 t.win, part := t.part, savebase := t.savebase, tmpl := some t.idx, cores := cores }
  let s : State := { s with nextGang := id + 1, gangs := s.gangs ++ [g] }
  let s := cores.foldl (fun (s : State) k =>
    let s := s.modCore k fun x => { x with part := t.part }
    if t.win = 0 then s else s.modCluster (k / 2) fun c => { c with winmode := BitVec.ofNat 3 t.win }) s
  let frame : W64 := (s.stage d n).framebase.zeroExtend 64 + BitVec.ofNat 64 (64 * f)
  p.seqs.zipIdx.foldl (fun (s : State) m =>
    (s.setCtx m.1 (some (memberCtx t frame tag m.2 slot newslot id))).insertReady m.1) s

/-- A candidate leaves its queue. -/
def Stage.take (g : Stage) (q : Nat) (e : QEntry) : Stage :=
  match takeFirst (fun x => x == e) (g.queue q) with
  | some (_, rest) => g.setQueue q rest
  | none => g

/-- Launch (R145): `ps` are the places of the chain, empty where a template check failed with a status. -/
def State.launch (s : State) (d n : Nat) (p : W64) (e : QEntry) (f : Nat) (ch : List Tmpl) (status : Nat) (ps : List Placed) : State :=
  let ph := bits p 62 60
  let klass := bits p 59 58
  let g := s.stage d n
  let clip := if ph = 4 then (match s.depBlock d e with | some b => b.value | none => 0) else 0
  let slot := match ph with
    | 0 => g.current
    | 5 => g.current
    | 4 => g.current
    | _ => (g.bound e.tag).getD g.current
  let newslot := if ph = 4 ∧ bit p 56 then g.freeSlot.getD slot else slot
  let g := if ph = 3 then g else g.take (phaseQueue ph).1 e
  let g := if ph = 0 ∨ ph = 5 then g.bind e.tag slot else g
  let g := if newslot = slot then g else
    let v : W32 := (SMap.get {} g.vslots slot).version + 1
    { g with vslots := SMap.modify {} g.vslots newslot fun x => { x with state := .next, version := v } }
  let g := if ph = 1 then { g with horizon := g.horizon.filter fun t => t != e.tag } else g
  let jcb := g.framePa + 64 * f
  let seals := if status = 0 then ch.flatMap fun t => (s.sealIndices d t).getD [] else []
  let step : Step :=
    { tag := e.tag, phase := ph, klass := klass, slot := slot, newslot := newslot, gangs := (List.range ps.length).map (s.nextGang + ·)
      jcb := jcb, seals := ascending seals, faulted := status != 0 }
  let g := { g with frames := SMap.set none g.frames f (some step), stalled := g.stalled || status != 0 }
  let s := s.modStage d n fun _ => g
  let expected := (ch.map fun t => t.ntask).foldl (· + ·) 0
  let s := s.writeHome d jcb (frameBytes d n ph klass slot newslot expected (if status = 0 then 0 else 2) clip e)
  let s := match s.chainPoison d n ch status with | some pa => s.logUE (logSource 8 n d) pa | none => s
  if status ≠ 0 then (s.addLog 3 (logSource 8 n d) (0x100 + status) jcb).msix 2
  else
    let s := ps.foldl (fun (s : State) q => s.startGang d n f klass slot newslot e.tag q) s
    if ph = 1 ∧ bit p 57 then s.fetchStash d n e.tag else s

/-! ### Evaluation (R144) -/

/-- What one entry of the policy table decides: nothing, so that the next is tried; or the end of the walk, with a launch, with the fetch of its
victims frozen (R273), or with neither. -/
inductive Verdict where
  | next
  | stop
  | launched (s : State)
  | froze (s : State)

/-- The Weir launches the step of a candidate whose chain has its places (R144): the template checks come now (R137). -/
def State.launchPlaced (s : State) (d n : Nat) (p : W64) (e : QEntry) (f : Nat) (ch : List Tmpl) (ps : List Placed) : State :=
  let st := s.chainStatus d n ch
  s.launch d n p e f ch st (if st = 0 then ps else [])

/-- One policy entry (R144). -/
def State.tryPolicy (s : State) (d n : Nat) (p : W64) : Verdict :=
  let g := s.stage d n
  let empty := fun (q : Nat) => (g.queue q).isEmpty
  let ne := bits p 55 52
  let em := bits p 51 48
  if !bit p 63 || ((List.range 4).any fun q => (Nat.testBit ne q && empty q) || (Nat.testBit em q && !empty q)) ||
      (bits p 47 42 != 0 && decide (bits p 47 42 ≤ (g.inFlight (bits p 62 60)).length)) ||
      (bits p 41 34 != 255 && decide (16 * bits p 41 34 < s.stashHeld d n)) then .next
  else match s.candidate d n p with
  | none => .next
  | some e =>
    match (List.range 64).find? fun f => (SMap.get none g.frames f).isNone with
    | none => .stop
    | some f =>
      let ch := s.chain d n 1024 [] (bits p 29 20)
      let klass := bits p 59 58
      if s.chainHeld d ch then .stop
      else match s.place d n klass ch with
      | some ps => .launched (s.launchPlaced d n p e f ch ps)
      | none =>
        if klass ≠ 0 then .stop
        else match s.victims d n ch with
        | none => .stop
        | some ids =>
          if s.gangs.any fun g => ids.contains g.id && s.draining g then .froze (s.freezeAll n ids)
          else
            let s := s.captureAll ids false
            match s.place d n 0 ch with
            | some ps => .launched (s.launchPlaced d n p e f ch ps)
            | none => .stop

/-- The walk of the policy table from entry i up: the state after it, where it changes anything, and whether a launch was made. -/
def State.walkPolicy (s : State) (d n : Nat) : List Nat → Option (State × Bool)
  | [] => none
  | i :: is =>
    match s.tryPolicy d n (SMap.get 0#64 (s.stage d n).policy i) with
    | .next => s.walkPolicy d n is
    | .stop => none
    | .launched t => some (t, true)
    | .froze t => some (t, false)

/-- Evaluation repeats until nothing launches (R144); `fuel` exceeds the number of frames. -/
def State.evalLoop (s : State) (d n : Nat) : Nat → State
  | 0 => s
  | fuel + 1 =>
    let s := (s.resumeCaptured d n).prefetch d n
    if (s.stage d n).stalled then s
    else match s.walkPolicy d n (List.range 16) with
    | none => s
    | some (t, true) => t.evalLoop d n fuel
    | some (t, false) => t

/-- The victims of a stage have drained (R273): they are captured together, and the step that they make room for is launched before any gang is
resumed. -/
def State.captureFrozen (s : State) (d n : Nat) : State :=
  let ids := (s.frozenFor d n).map (·.id)
  if ids.isEmpty then s
  else
    let s := s.captureAll ids false
    if (s.stage d n).stalled then s
    else match s.walkPolicy d n (List.range 16) with
    | some (t, _) => t
    | none => s

/-- The blocks at the DEPs of a stage's entries that its evaluation finds uncorrectable are logged (R32). -/
def State.logDeps (s : State) (d n : Nat) : State :=
  let g := s.stage d n
  ((g.fq ++ g.bq ++ g.wq ++ g.uq).filterMap (s.depPoison d)).foldl (fun (s : State) pa => s.logUE (logSource 8 n d) pa) s

/-- An evaluation of a stage (R144); in HOLD the Weirs rest (R21). While the victims of a capture drain, the launch that it is made for is under
way and nothing else launches. -/
def State.evaluate (s : State) (d n : Nat) : State :=
  if 4 ≤ d ∨ 8 ≤ n ∨ s.thermal.state = .hold ∨ s.sess.state ≠ .running then s
  else if !(s.stage d n).enable then (s.thaw d n).resumeCaptured d n
  else
    (if (s.frozenFor d n).any s.draining then s else ((s.logDeps d n).captureFrozen d n).evalLoop d n 65).modStage d n fun g => { g with lastEval := s.time }

/-- STAGE_EVALUATE (R144), and a capture that the supervisor asks for (R271): the fetch of the gang freezes, and once it has drained it is
captured (R273). A gang of start contexts is not among those that it captures, DESIGN CHOICE (log entry 67). -/
def State.stageEvent (s : State) (d n : Nat) (capture : Option Nat) : State :=
  match capture with
  | none => s.evaluate d n
  | some id =>
    match s.gang id with
    | none => s
    | some g =>
      if g.captured || g.step.isNone || g.die != d then s
      else if s.draining g then s.freezeAll n [id]
      else s.captureAll [id] false

/-- STAGE_EVAL_TIMER (R144): a stage not evaluated for 64 ticks. -/
def State.evalTimer (s : State) (d n : Nat) : State :=
  if s.time < (s.stage d n).lastEval + 64 then s else s.evaluate d n

/-- LAUNCH_TIME_REACHED (R143): an entry's LT has come. -/
def State.ltReached (s : State) (d n : Nat) : State :=
  let g := s.stage d n
  if (g.fq ++ g.bq ++ g.wq ++ g.uq).any fun e => e.lt != 0#64 && s.timeReached e.lt.toNat then s.evaluate d n else s

/-! ### Retirement (R148, R76) -/

/-- A declared record is still awaited by another launched, unretired step of the die, whose seal then serves both (R76). A step that is FAULTED
never retires, and one whose seals are requested already would wait for this one in turn: neither defers a seal, DESIGN CHOICE (log entry
70). -/
def State.sealDeferred (s : State) (d n f g : Nat) : Bool :=
  (s.die d).stages.any fun st => st.2.frames.any fun fr =>
    (st.1 != n || fr.1 != f) && (match fr.2 with | some t => t.seals.contains g && !t.retiring && !t.faulted | none => false)

/-- DEFER is set in a record's flags (R76). -/
def State.setDefer (s : State) (d g : Nat) : State :=
  (List.range 4).foldl (fun (s : State) q => s.writeHome d (shardAddr q g + 0xA0) (toBytes 4 (s.gaugeHome q g 0xA0 ||| 0x10))) s

/-- The seals of a step whose block is COMPLETE are requested (R76, R148): a deferred one comes with the last step that declares its record, and
the retirement counts only once it is applied. -/
def State.requestSeals (s : State) (d n f : Nat) (st : Step) : State :=
  let later := st.seals.filter fun g => s.sealDeferred d n f g
  let wanted := st.seals.filter fun g => !s.sealDeferred d n f g
  let s := later.foldl (fun (s : State) g => s.setDefer d g) s
  let s := s.modStep d n f fun t => { t with retiring := true, sealsLeft := st.seals }
  wanted.foldl (fun (s : State) g =>
    { s with
      seals := s.seals ++ [{ id := s.nextId, g := g, rescale := false, reply := none, steps := s.deferredSteps d g, die := d, clock := (s.die d).vc }]
      nextId := s.nextId + 1 }) s

/-- The B of a tag whose F retires has still to launch (R150): the tag is bound, no B or W of it is launched or queued behind its B, and it does
not stand in the horizon already. -/
def Stage.awaitsB (g : Stage) (tag : W32) : Bool :=
  (g.bound tag).isSome && !g.horizon.contains tag && !((g.inFlight 1 ++ g.inFlight 2).any fun t => t.tag == tag) && !(g.wq.any fun e => e.tag == tag)

/-- A step whose seals are applied retires (R148). What it puts into WQ is an arrival, which wakes the module (R122). -/
def State.finishStep (s : State) (d n f : Nat) (st : Step) : State :=
  let g := s.stage d n
  let toW := st.phase == 1 && g.wsplit
  if toW && decide (256 ≤ g.wq.length) then s
  else
    let g := if toW then
        { g with wq := g.wq ++ [{ tag := st.tag, phase := 2, chan := 0xFFFF#16, seq := 0#16, dep := 0#64, depCluster := 0, lt := 0#64 }] } else g
    let g := if st.phase = 2 ∨ st.phase = 5 ∨ (st.phase = 1 ∧ !g.wsplit) then g.release st.tag else g
    let g := if st.phase = 4 then g.slotChange st else g
    let g := if st.phase = 0 ∧ g.awaitsB st.tag then { g with horizon := g.horizon ++ [st.tag] } else g
    let g := { g with frames := SMap.set none g.frames f none }
    let s := s.modStage d n fun _ => g
    ((if toW then s.wakeUp else s).weirSoon d).checkEnd

/-- STEP_RETIRE (R148): first the seals, then, once they are applied at all four dies, what follows. A step whose block cannot be read faults, DESIGN
CHOICE (log entry 76). -/
def State.retire (s : State) (d n f : Nat) : State :=
  match SMap.get none (s.stage d n).frames f with
  | none => s
  | some st =>
    if st.faulted then s
    else match s.poisonIn [(st.jcb, 32)] with
    | some pa => (s.logUE (logSource 8 n d) pa).stepFaults (.global st.jcb)
    | none =>
    if (jcbOf (s.readPhys d st.jcb 32)).state != 1 then s
    else if st.retiring then (if st.sealsLeft.isEmpty then s.finishStep d n f st else s)
    else
      let s := s.requestSeals d n f st
      match SMap.get none (s.stage d n).frames f with
      | some t => if t.sealsLeft.isEmpty then s.finishStep d n f t else s
      | none => s

/-- STAGE_EVALUATE (R144), or a capture by the supervisor (R271). -/
def execStageEvaluate (die : Nat) (call : StageCall) (s : State) : Host.Outcome State Fault Refusal := .next (s.stageEvent die call.stage call.capture)
/-- STAGE_EVAL_TIMER (R144). -/
def execStageEvalTimer (die stage : Nat) (s : State) : Host.Outcome State Fault Refusal := .next (s.evalTimer die stage)
/-- LAUNCH_TIME_REACHED (R143). -/
def execLaunchTimeReached (die stage : Nat) (s : State) : Host.Outcome State Fault Refusal := .next (s.ltReached die stage)
/-- STEP_RETIRE (R148). -/
def execStepRetire (die stage frame : Nat) (s : State) : Host.Outcome State Fault Refusal := .next (s.retire die stage frame)

end Sys2Proof.Machine
end

