-- ==== Sys2Proof/Machine/Lease.lean ====
section
/-! DEFINITION. LLC leases (R46 to R49, R471). -/

namespace Sys2Proof.Machine

/-- The physical pages of a region (R46); none where a page is not mapped, or where a table entry of its walk is uncorrectable: R47 has no status for
that and R452 no trap, so that LEASE answers PAGE, DESIGN CHOICE (log entry 82). -/
def State.leasePages (s : State) (cl : Nat) : List (Nat × Nat) → Option (List (Nat × Nat))
  | [] => some []
  | (a, n) :: rs =>
    match s.lookup cl a, s.leasePages cl rs with
    | .entry e, some ps => some (((e.pa + (a - e.va)) / 4096, n / 4096) :: ps)
    | _, _ => none

/-- The lowest lease number that is free, which a new lease takes: the manual says only that its number is returned, DESIGN CHOICE (log
entry 62). -/
def State.freeLease (s : State) : Option Nat := (List.range 64).find? fun n => (SMap.get {} s.leases n).state == .free

/-- LEASE (R47): its status, and the pages of the region. -/
def State.leaseStatus (s : State) (c : Nat) (base len : Nat) : Nat × List (Nat × Nat) :=
  if base % 4096 ≠ 0 ∨ len % 4096 ≠ 0 ∨ len = 0 then (1, [])
  else if 0x20000000 < len then (2, [])
  else if 2 ^ 48 < base + len then (3, [])
  else match s.leasePages (ctxCluster c) (runsOf (BitVec.ofNat 64 base) len) with
  | none => (3, [])
  | some ps =>
    let bytes := (s.activeLeases.map fun l => l.len.toNat * 4096).foldl (· + ·) 0 + len
    if ps.any fun r => decide (hostBase ≤ (r.1 + r.2) * 4096) || runsOverlap (r.1 * 4096) (r.2 * 4096) gaugeBase 0x4000000 then (4, [])
    else if s.activeLeases.any fun l => l.pages.any fun r => ps.any fun q => runsOverlap r.1 r.2 q.1 q.2 then (5, [])
    else if s.freeLease.isNone then (6, [])
    else if (List.range 8).any (fun q => !s.pinRoom q (bytes / 8)) then (7, [])
    else (0, ps)

/-- An accepted LEASE (R48). -/
def State.newLease (s : State) (n base len : Nat) (dead : W64) (ps : List (Nat × Nat)) : State :=
  let l : Lease := { state := .active, base := BitVec.ofNat 64 base, len := BitVec.ofNat 32 (len / 4096), ldead := dead, pages := ps }
  { s with leases := SMap.set {} s.leases n l }

/-- The pinned lines of a lease become ordinary lines in place (R48). -/
def State.unpin (s : State) (n : Nat) : State :=
  let ps := (SMap.get {} s.leases n).pages
  { s with llc := s.llc.foldl (fun (m : SMap LlcLine) kv =>
      if kv.2.pinned && inPages ps (kv.1 / 32) then SMap.set {} m kv.1 { kv.2 with pinned := false } else m) s.llc }

/-- Lines that a lease holds pinned (R49). -/
def State.pinnedLines (s : State) (l : Lease) : Nat :=
  if l.state = .active then (s.llc.filter fun kv => kv.2.pinned && inPages l.pages (kv.1 / 32)).length else 0

/-- LREL (R48, R471): 0 OK, 1 FREE. The lines of an EXPIRED lease are ordinary already. A FREE lease reads 0 in LBASE, LLEN and LDEAD, as at
reset: the manual gives only their reset value, DESIGN CHOICE (log entry 62). -/
def State.releaseLease (s : State) (n : Nat) : State × Nat :=
  if (SMap.get {} s.leases n).state = .free then (s, 1)
  else
    let s := if (SMap.get {} s.leases n).state = .active then s.unpin n else s
    ({ s with leases := SMap.set {} s.leases n {} }, 0)

/-- LEASE_EXPIRY (R48). -/
def State.leaseExpires (s : State) (n : Nat) : State :=
  let l := SMap.get {} s.leases n
  if l.state = .active ∧ l.ldead ≠ 0#64 ∧ s.timeReached l.ldead.toNat then
    let s := s.unpin n
    { s with leases := SMap.set {} s.leases n { l with state := .expired } }
  else s

/-- The four 64-bit words of a lease's table entry (R49), by offset. -/
def State.leaseWord (s : State) (n off : Nat) : W64 :=
  let l := SMap.get {} s.leases n
  let code := match l.state with | .free => 0 | .active => 1 | .expired => 2
  match off with
  | 0 => l.base
  | 8 => BitVec.ofNat 64 (l.len.toNat + 2 ^ 32 * (s.pinnedLines l % 2 ^ 24) + 2 ^ 62 * code)
  | 16 => l.ldead
  | _ => 0#64

/-- LEASE_EXPIRY (R48). -/
def execLeaseExpiry (lease : Nat) (s : State) : Host.Outcome State Fault Refusal := .next (s.leaseExpires lease)

end Sys2Proof.Machine
end

