-- ==== Sys2Proof/Machine/Registers.lean ====
section
/-! DEFINITION. The registers: space 0xF as the supervisor reads and writes it (R24, R49, R82, R130 to R133, R142, R149, R199, R243,
R245, R284 to R286), and BAR0 and BAR4 as the host does (R92, R99, R103, R104, R115). -/

namespace Sys2Proof.Machine

/-! ### Thermal and host status words (R25 to R29, R33, R103, R115) -/

/-- STATE of THSTAT; 0 while the module has no power. -/
def TState.code : TState → Nat
  | .off => 0 | .warmStandby => 1 | .cooldown => 2 | .coldReady => 3 | .run => 4 | .retreat => 5 | .hold => 6 | .warmup => 7 | .fault => 8
/-- BAND of THSTAT. -/
def Band.code : Band → Nat
  | .cold => 0 | .retreat => 1 | .hold => 2 | .warm => 3

/-- THSTAT (R25). -/
def Thermal.thstat (t : Thermal) : W32 :=
  BitVec.ofNat 32 (t.fcause.toNat * 2 ^ 16 + (if t.pause then 2 ^ 15 else 0) + (if t.cmdhold then 2 ^ 14 else 0) +
    (if t.clklow then 2 ^ 13 else 0) + t.tset.toNat * 2 ^ 11 + t.refrate.toNat * 2 ^ 8 + t.band.code * 2 ^ 4 + t.state.code)

/-- THSENSn and THSUBSn (R27). -/
def sensorWord (r : Reading) : W32 := BitVec.ofNat 32 ((if r.ok then 2 ^ 16 else 0) + r.temp.toNat)

/-- A thermal register (R24). -/
def Thermal.word (t : Thermal) (off : Nat) : W32 :=
  match off with
  | 0x200 => t.thstat
  | 0x204 => BitVec.ofNat 32 (t.tjSensor.toNat * 2 ^ 16 + t.tj.toNat)
  | 0x208 => BitVec.ofNat 32 (t.grad.toNat * 2 ^ 16 + t.mean.toNat)
  | 0x20C => t.slope.zeroExtend 32
  | 0x210 => t.evt.zeroExtend 32
  | 0x214 => BitVec.ofNat 32 (t.faults.toNat * 2 ^ 24 + t.holds.toNat * 2 ^ 16 + t.cycles.toNat)
  | 0x218 => BitVec.ofNat 32 (t.dramce.toNat * 2 ^ 16 + t.sramce.toNat)
  | 0x21C => t.ue.zeroExtend 32
  | _ =>
    if 0x280 ≤ off ∧ off < 0x340 ∧ off % 4 = 0 then sensorWord (SMap.get ⟨false, 0#16⟩ t.sens ((off - 0x280) / 4))
    else if 0x340 ≤ off ∧ off < 0x364 ∧ off % 4 = 0 then sensorWord (SMap.get ⟨false, 0#16⟩ t.subs ((off - 0x340) / 4))
    else 0#32

/-- A write of THEVT clears the bits that it writes as 1 (R28). -/
def State.clearEvt (s : State) (v : W32) : State := s.modThermal fun t => { t with evt := t.evt &&& ~~~(v.truncate 8) }

/-- STATE of SESSTAT. -/
def SessState.code : SessState → Nat
  | .none => 0 | .loaded => 1 | .running => 2 | .suspended => 3

/-- SESSTAT (R115). -/
def Session.sesstat (x : Session) : W32 :=
  BitVec.ofNat 32 (x.startstat.toNat * 2 ^ 16 + x.endcause.toNat * 2 ^ 8 + x.state.code)

/-- ACTSTAT (R103): 3 while the dies are unpowered. -/
def State.actstat (s : State) : W32 := BitVec.ofNat 32 (s.act.toNat * 2 ^ 16 + s.gated.toNat)

/-- MBDONE (R103). -/
def Mailbox.done (m : Mailbox) : W32 :=
  BitVec.ofNat 32 (m.seq.toNat * 2 ^ 16 + (if m.busy then 2 ^ 15 else 0) + (if m.overrun then 2 ^ 14 else 0) +
    (if m.stagelost then 2 ^ 13 else 0) + m.status.toNat)

/-- TBCTL (R92). -/
def TbCtl.word (t : TbCtl) : W32 := BitVec.ofNat 32 ((if t.locked then 2 ^ 7 else 0) + t.upport.toNat * 2 ^ 4 + t.role.toNat)

/-- A 32-bit register of BAR0 (R24, R92, R99, R103). -/
def State.bar0Word (s : State) (off : Nat) : W32 :=
  if 0x200 ≤ off ∧ off < 0x400 then s.thermal.word off
  else if 0x40 ≤ off ∧ off < 0x80 ∧ off % 4 = 0 then
    (SMap.get 0#64 s.mbox.args ((off - 0x40) / 8)).extractLsb' (8 * (off % 8)) 32
  else if 0x80 ≤ off ∧ off < 0xC0 ∧ off % 4 = 0 then
    (SMap.get 0#64 s.mbox.rets ((off - 0x80) / 8)).extractLsb' (8 * (off % 8)) 32
  else match off with
    | 0x4 => s.mbox.done
    | 0x8 => s.mbox.lattol
    | 0xC => s.actstat
    | 0x400 => s.tbctl.word
    | _ => 0#32

/-- A 64-bit register of BAR4 (R115); START reads 0. -/
def State.bar4Word (s : State) (off : Nat) : W64 :=
  match off with
  | 0x008 => s.sess.sesstat.zeroExtend 64
  | 0x010 => s.sess.num
  | _ => 0#64

/-! ### Reading space 0xF -/

/-- A version slot (R149). -/
def VSlotReg.word (v : VSlotReg) : W64 :=
  BitVec.ofNat 64 ((match v.state with | .free => 0 | .current => 1 | .next => 2 | .old => 3) * 2 ^ 62 + v.version.toNat * 2 ^ 16 + v.refs.toNat)

/-- A register of a stage (R130, R131, R133). -/
def Stage.word (g : Stage) (off : Nat) : W64 :=
  match off with
  | 0x000 => BitVec.ofNat 64 (g.estat.toNat * 2 ^ 12 + (if g.stalled then 4 else 0) + (if g.wsplit then 2 else 0) + (if g.enable then 1 else 0))
  | 0x008 => g.clmask0
  | 0x010 => g.clmask1.zeroExtend 64
  | 0x018 => g.tmplbase.zeroExtend 64
  | 0x020 => g.framebase.zeroExtend 64
  | 0x028 => BitVec.ofNat 64 (g.uq.length * 2 ^ 48 + g.wq.length * 2 ^ 32 + g.bq.length * 2 ^ 16 + g.fq.length)
  | _ =>
    if 0x40 ≤ off ∧ off < 0x80 then (SMap.get {} g.vslots ((off - 0x40) / 8)).word
    else if 0x80 ≤ off ∧ off < 0x100 then SMap.get 0#64 g.policy ((off - 0x80) / 8)
    else 0#64

/-- The control word of a channel end (R82). -/
def Chan.ctl (c : Chan) : W32 :=
  BitVec.ofNat 32 (c.nparc.toNat * 2 ^ 16 + c.psize.toNat * 2 ^ 12 + c.sink.toNat * 2 ^ 10 + c.stage.toNat * 2 ^ 7 + c.state.code)

/-- A 64-bit word of a channel descriptor (R82). -/
def Chan.regWord (c : Chan) (off : Nat) : W64 :=
  match off with
  | 0x00 => c.bufbase.zeroExtend 64
  | 0x08 => BitVec.ofNat 64 ((c.seq.toNat * 2 ^ 16 + c.win % 256 * 2 ^ 8) * 2 ^ 32 + c.ctl.toNat)
  | 0x10 => c.pcount
  | _ => 0#64

/-- A register of an Eddy (R199). -/
def Eddy.word (e : Eddy) (off : Nat) : W64 :=
  match off with
  | 0x00 => e.nbase.zeroExtend 64
  | 0x08 => e.nlen.zeroExtend 64
  | 0x10 => e.fbase.zeroExtend 64
  | 0x18 => e.flen.zeroExtend 64
  | 0x20 => e.lpbase.zeroExtend 64
  | 0x28 => e.lplen.zeroExtend 64
  | 0x30 => BitVec.ofNat 64 e.stashes.length
  | _ => 0#64

/-- A word of a fault queue (R285). -/
def FaultQueue.word (q : FaultQueue) (off : Nat) : W64 :=
  match off with
  | 0x00 => q.head.zeroExtend 64
  | 0x08 => q.tail.zeroExtend 64
  | 0x10 => q.note.zeroExtend 64
  | _ =>
    if 0x100 ≤ off ∧ off < 0x900 then
      let e := SMap.get {} q.entries ((off - 0x100) / 32)
      match off % 32 with
      | 0 => e.va
      | 8 => BitVec.ofNat 64 (e.tag.toNat * 2 ^ 32 + e.cause.toNat * 2 ^ 24 + e.agent.toNat * 2 ^ 20 + e.source.toNat)
      | 16 => e.jobref
      | _ => BitVec.ofNat 64 ((if e.pend then 2 else 0) + (if e.wr then 1 else 0))
    else 0#64

/-- The 64-bit word of space 0xF that holds an 8-aligned offset; an offset that holds no register reads zero (R243). -/
def State.mmioWord (s : State) (off : Nat) : W64 :=
  let o := off % 0x100000
  match off / 0x100000 with
  | 0x2 => s.thermal.word (o + 4) ++ s.thermal.word o
  | 0x3 => if o < 64 * 32 then s.leaseWord (o / 32) (o % 32) else 0#64
  | 0x4 => if o < 1536 * 32 then (s.chan (o / 32)).regWord (o % 32) else 0#64
  | 0x5 => if o < 0x40000 ∧ o % 0x10000 < 0x4000 then (s.stage (o / 0x10000) (o % 0x10000 / 0x800)).word (o % 0x800) else 0#64
  | 0x6 => if o < 0x4000 then (s.die (o / 0x1000)).eddy.word (o % 0x1000) else 0#64
  | 0x7 =>
    if o < 0x4000 then (s.die (o / 0x1000)).fq.word (o % 0x1000)
    else if o = 0x8000 ∨ o = 0x8008 then BitVec.ofNat 64 s.ttroot
    else 0#64
  | _ => 0#64

/-- An aligned read of 4 or 8 bytes of space 0xF (R245). -/
def State.mmioRead (s : State) (off size : Nat) : W64 :=
  let w := s.mmioWord (off / 8 * 8)
  if size = 8 then w else (w >>> (8 * (off % 8))) &&& 0xFFFFFFFF#64

/-! ### Writing -/

/-- A register's new value: the bytes written replace those of the old one. -/
def mergeWrite (old : W64) (off size : Nat) (v : W64) : W64 :=
  if size = 8 then v
  else if off % 8 = 0 then (old &&& 0xFFFFFFFF00000000#64) ||| (v &&& 0xFFFFFFFF#64)
  else (old &&& 0xFFFFFFFF#64) ||| (v <<< 32)

/-- A write reaches the low word of its register. -/
def lowWritten (off : Nat) : Bool := off % 8 == 0

/-- A write to a channel descriptor (R82): fields only while IDLE, a change of STATE at any time. -/
def State.writeChan (s : State) (n off size : Nat) (v : W64) : State :=
  let c := s.chan n
  match off / 8 * 8 with
  | 0x00 =>
    if c.state = .idle then s.modChan n fun x => { x with bufbase := (mergeWrite (c.regWord 0) off size v).truncate 48 } else s
  | 0x08 =>
    if !lowWritten off then s
    else
      let ctl : W32 := v.truncate 32
      let st := bits ctl 1 0
      if c.state = .idle then
        (if st = 1 ∨ st = 2 then s.chanEnable n (c.bufbase.zeroExtend 64) ctl
         else s.modChan n fun x =>
          { x with
            nparc := BitVec.ofNat 8 (bits ctl 23 16), psize := BitVec.ofNat 4 (bits ctl 15 12)
            sink := BitVec.ofNat 2 (bits ctl 11 10), stage := BitVec.ofNat 3 (bits ctl 9 7) })
      else if st = 0 then s.chanDisable n
      else s
  | _ => s

/-- A version slot as the supervisor writes it (R149). -/
def VSlotReg.written (v : VSlotReg) (w : W64) : VSlotReg :=
  { v with
    state := match bits w 63 62 with | 0 => .free | 1 => .current | 2 => .next | _ => .old
    version := BitVec.ofNat 32 (bits w 47 16) }

/-- A write to a stage's registers (R130 to R132, R142, R149). -/
def State.writeStage (s : State) (d n off size : Nat) (v : W64) : State :=
  let g := s.stage d n
  let r := off / 8 * 8
  let w := mergeWrite (g.word r) off size v
  if r = 0x000 then
    (if !lowWritten off then s else if bit v 0 then s.stageEnable d n (bit v 1) else s.stageDisable d n (bit v 1))
  else if g.enable then s
  else (s.modStage d n fun x =>
    match r with
    | 0x008 => { x with clmask0 := w }
    | 0x010 => { x with clmask1 := w.truncate 8 }
    | 0x018 => { x with tmplbase := w.truncate 48 }
    | 0x020 => { x with framebase := w.truncate 48 }
    | _ =>
      if 0x40 ≤ r ∧ r < 0x80 then { x with vslots := SMap.modify {} x.vslots ((r - 0x40) / 8) fun y => y.written w }
      else if 0x80 ≤ r ∧ r < 0x100 then { x with policy := SMap.set 0#64 x.policy ((r - 0x80) / 8) w }
      else x).evalSoon d n

/-- A write to an Eddy's registers (R199): only while no stage of its die is enabled. -/
def State.writeEddy (s : State) (d off size : Nat) (v : W64) : State :=
  let r := off / 8 * 8
  let w := mergeWrite ((s.die d).eddy.word r) off size v
  if (List.range 8).any fun n => (s.stage d n).enable then s
  else s.modDie d fun x =>
    { x with eddy :=
        match r with
        | 0x00 => { x.eddy with nbase := w.truncate 48 }
        | 0x08 => { x.eddy with nlen := w.truncate 32 }
        | 0x10 => { x.eddy with fbase := w.truncate 48 }
        | 0x18 => { x.eddy with flen := w.truncate 32 }
        | 0x20 => { x.eddy with lpbase := w.truncate 48 }
        | 0x28 => { x.eddy with lplen := w.truncate 32 }
        | _ => x.eddy }

/-! ### The fault queue's actions (R285, R286) -/

/-- The job that an entry of the fault queue names. -/
def State.fqJob (s : State) (d : Nat) (e : FqEntry) : Option Job :=
  (s.die d).jobs.find? fun j => jobRef d j.serial j.place == e.jobref && j.state == .suspended

/-- Take a pending entry: its PEND falls, and a waiting fault may enter the queue (R285). -/
def State.fqTake (s : State) (d n : Nat) : Option (FqEntry × State) :=
  let e := SMap.get {} (s.die d).fq.entries n
  if 4 ≤ d ∨ 64 ≤ n ∨ e.pend = false then none
  else some (e, s.modDie d fun x => { x with fq := { x.fq with entries := SMap.set {} x.fq.entries n { e with pend := false } } })

/-- The cluster of a Riffle entry. -/
def fqCluster (d : Nat) (e : FqEntry) : Nat := 72 * d + e.source.toNat

/-- Change the head of a Riffle queue that a fault suspends. -/
def State.modSuspended (s : State) (cl u : Nat) (f : ROp → State) : State :=
  match (s.riffle cl u).queue with
  | o :: _ => if o.state = .suspended then f o else s
  | [] => s

/-- RESUME (R165, R195, R286): the agent makes its access again. -/
def State.fqResume (s : State) (d n : Nat) : State :=
  match s.fqTake d n with
  | none => s
  | some (e, s) =>
    let s := match e.agent.toNat with
      | 2 => s.modSuspended (fqCluster d e) e.unit fun _ => s.modHead (fqCluster d e) e.unit fun o => { o with state := .running }
      | 5 => s.modChan e.unit fun x => { x with timed := match x.timed with | t :: r => { t with suspended := false } :: r | [] => [] }
      | 6 => (s.modColl (e.unit == 1) fun c => { c with suspended := false }).oxStart (e.unit == 1)
      | 7 => { s with succs := mapWhere (fun q => q.id == e.unit) (fun q => { q with suspended := false }) s.succs }
      | _ => match s.fqJob d e with
        | some j => s.modJob d j.serial fun k => { k with state := .running }
        | none => s
    s.fqDrain d 64

/-- ABANDON (R286): the operation ends. -/
def State.fqAbandon (s : State) (d n : Nat) : State :=
  match s.fqTake d n with
  | none => s
  | some (e, s) =>
    let s := match e.agent.toNat with
      | 2 => s.modSuspended (fqCluster d e) e.unit fun o => s.riffleEnd (fqCluster d e) e.unit o .error 7
      | 5 => (match (s.chan e.unit).timed with
        | t :: _ => if t.suspended then s.parcelLeaves e.unit t t.read 6 else s
        | [] => s)
      | 6 => (match (s.oxDir (e.unit == 1)).queue with
        | c :: _ => if c.suspended then s.oxEnd (e.unit == 1) c 4 else s
        | [] => s)
      | 7 => { s with succs := s.succs.filter fun q => q.id != e.unit }
      | _ => match s.fqJob d e with
        | some j => s.endJob d j.serial .killed
        | none => s
    (s.fqDrain d 64).checkEnd

/-- A write to a fault queue's registers (R285). A write of half of FQACT writes 0 in the other half. -/
def State.writeFq (s : State) (d off size : Nat) (v : W64) : State :=
  let r := off / 8 * 8
  let q := (s.die d).fq
  match r with
  | 0x00 =>
    if lowWritten off then (s.modDie d fun x => { x with fq := { x.fq with head := v.truncate 6 } }).fqDrain d 64 else s
  | 0x10 => s.modDie d fun x => { x with fq := { x.fq with note := (mergeWrite (q.word r) off size v).truncate 48 &&& 0xFFFFFFFFFFF8#48 } }
  | 0x18 =>
    let w := mergeWrite 0#64 off size v
    (match bits w 63 62 with
     | 1 => s.fqResume d (bits w 5 0)
     | 2 => s.fqAbandon d (bits w 5 0)
     | _ => s)
  | _ => s

/-! ### TLBINV (R284) -/

/-- TLBINV with ALL. -/
def State.tlbinvAll (s : State) : State := s.dropTlb fun _ => true
/-- TLBINV of a 64 KiB page. -/
def State.tlbinvPage (s : State) (vpn : BitVec 32) : State :=
  s.dropTlb fun e => decide (e.va < (vpn.toNat + 1) * 65536) && decide (vpn.toNat * 65536 < e.va + e.size)

/-- A write of TLBINV; half of it writes 0 in the other half. -/
def State.writeTlbinv (s : State) (off size : Nat) (v : W64) : State :=
  let w := mergeWrite 0#64 off size v
  if bit w 63 then s.tlbinvAll else s.tlbinvPage (BitVec.ofNat 32 (bits w 47 16))

/-! ### The two address spaces of registers -/

/-- A write to space 0xF (R243, R245): 4 or 8 bytes, aligned; an offset that holds no register ignores it. -/
def State.mmioWrite (s : State) (off size : Nat) (v : W64) : State :=
  let o := off % 0x100000
  if (size ≠ 4 ∧ size ≠ 8) ∨ off % size ≠ 0 then s
  else match off / 0x100000 with
  | 0x2 => if o = 0x210 then s.clearEvt (v.truncate 32) else s
  | 0x4 => if o < 1536 * 32 then s.writeChan (o / 32) (o % 32) size v else s
  | 0x5 => if o < 0x40000 ∧ o % 0x10000 < 0x4000 then s.writeStage (o / 0x10000) (o % 0x10000 / 0x800) (o % 0x800) size v else s
  | 0x6 => if o < 0x4000 then s.writeEddy (o / 0x1000) (o % 0x1000) size v else s
  | 0x7 =>
    if o < 0x4000 then s.writeFq (o / 0x1000) (o % 0x1000) size v
    else if o / 8 * 8 = 0x8010 then s.writeTlbinv o size v
    else s
  | _ => s

/-- A sequence of R17 runs: the retreat or the return until its switch tick (R19, R20), or the entry into HOLD until every captured gang
stands in its save areas (R21). -/
def State.sequenceRuns (s : State) : Bool :=
  s.thermal.switchAt.isSome || s.thermal.applyAt.isSome ||
  (s.thermal.state == .hold && s.gangs.any fun g => g.byHold && !g.written)

/-- The boundary above a band (R10): 85 K, 120 K, 200 K, in 1/16 K. -/
def upperBound : Band → Nat
  | .cold => 1360 | .retreat => 1920 | _ => 3200
/-- The boundary below a band. -/
def lowerBound : Band → Nat
  | .retreat => 1360 | .hold => 1920 | _ => 3200
/-- The hysteresis of 3 K. -/
def hysteresis : Nat := 48
/-- The next warmer band. -/
def Band.warmer : Band → Band
  | .cold => .retreat | .retreat => .hold | _ => .warm
/-- The next colder band. -/
def Band.colder : Band → Band
  | .warm => .hold | .hold => .retreat | _ => .cold

/-- The band that the two newest samples ask for (R10). -/
def Thermal.wanted (t : Thermal) (now : Nat) : Option Band :=
  match t.lastTj with
  | x :: y :: _ =>
    if t.band ≠ .warm ∧ upperBound t.band < x ∧ upperBound t.band < y then some t.band.warmer
    else if t.band ≠ .cold ∧ x + hysteresis ≤ lowerBound t.band ∧ y + hysteresis ≤ lowerBound t.band ∧ t.bandSince + 1000000 ≤ now then
      some t.band.colder
    else none
  | _ => none

/-- One second. -/
def second : Nat := 1000000000

/-- COLD_READY, RUN and RETREAT, the states with running dies (R16). -/
def TState.running : TState → Bool
  | .coldReady => true | .run => true | .retreat => true | _ => false
/-- COOLANT_OK has been low for so many seconds. -/
def State.coolantLow (s : State) (n : Nat) : Bool := !s.thermal.coolantOk && decide (s.thermal.coolantSince + n * second ≤ s.time)

/-- The conditions under which a HOLD that no command keeps ends (R16, R17). -/
def State.exitDue (s : State) : Bool :=
  s.thermal.state == .hold && !s.thermal.cmdhold && (s.thermal.band == .cold || s.thermal.band == .retreat) &&
  s.thermal.coolantOk && decide (s.thermal.coolantSince + 10 * second ≤ s.time)

/-- A thermal trigger has arrived that is not served yet (R18): a band decision, COOLANT_OK low for 5 s, or the end of a HOLD. -/
def State.triggerDue (s : State) : Bool :=
  (s.thermal.wanted s.time).isSome || (s.thermal.state.running && s.coolantLow 5) || s.exitDue

/-- The running command waits (R18): for a sequence, for the writes of START and the thermal trigger that came before it, or for the end of
the sequence that it has itself begun. -/
def State.commandWaits (s : State) : Bool :=
  s.sequenceRuns || s.mbox.begun || decide (0 < s.mbox.ahead + s.mbox.granted) || (s.mbox.behind && s.triggerDue)

/-- Writes of START that waited for their turn are the next to be served (R18, R104): those that came before the running command, or all where
none runs, up to one that a thermal trigger still goes before. -/
def State.releaseStarts (s : State) : State :=
  if s.sequenceRuns then s
  else
    let n := if s.mbox.busy then s.mbox.ahead else s.mbox.starts.length
    let go := (s.mbox.starts.take n).takeWhile fun w => !(w.2 && s.triggerDue)
    { s with
      agenda := (go.map fun w => (⟨0, .startWrite 8 w.1⟩ : Turn)) ++ s.agenda
      mbox := { s.mbox with
        starts := s.mbox.starts.drop go.length, ahead := s.mbox.ahead - go.length, granted := s.mbox.granted + go.length } }

/-- A command of the mailbox ends (R104): results, then MBDONE, then vector 0. What waited behind it is served next. -/
def State.complete (s : State) (status : Nat) (rets : List W64) : State :=
  match s.mbox.running with
  | none => s
  | some (_, seq, _) =>
    let put := (rets.zipIdx).foldl (fun (m : SMap W64) r => SMap.set 0#64 m r.2 r.1) s.mbox.rets
    let m : Mailbox := { s.mbox with
      rets := put, seq := seq, busy := false, status := BitVec.ofNat 8 status, running := none, any := true, behind := false, begun := false
      ahead := 0 }
    (({ s with mbox := m } : State).msix 0).releaseStarts

/-- Opcodes of the command set (R106). -/
def commandCode (op : Nat) : Bool := decide (1 ≤ op) && decide (op ≤ 13)

/-- A command with an unknown opcode completes when its turn has come (R104, R105). -/
def State.serveUnknown (s : State) : State :=
  match s.mbox.running with
  | some (op, _, _) => if commandCode op || s.commandWaits then s else s.complete 1 []
  | none => s

/-- A sequence, a write of START or a thermal trigger is over: what waited behind it is served (R18, R104). -/
def State.nextTurn (s : State) : State :=
  ({ s with mbox := { s.mbox with behind := s.mbox.behind && s.triggerDue } } : State).releaseStarts.serveUnknown

/-- A write of MBCMD (R104): refused while a command runs, answered again for the SEQ just completed, else taken up with the arguments as
they stand; an unknown opcode completes in its turn (R105). A command wakes the module (R122). -/
def State.submit (s : State) (v : W32) : State :=
  let seq : BitVec 16 := v.extractLsb' 16 16
  let op := bits v 7 0
  let s := s.wakeUp
  if s.mbox.busy then { s with mbox := { s.mbox with overrun := true } }
  else if s.mbox.any && seq == s.mbox.seq then s.msix 0
  else
    let m : Mailbox := { s.mbox with
      busy := true, overrun := false, stagelost := false, running := some (op, seq, s.mbox.args)
      behind := s.triggerDue, begun := false, ahead := s.mbox.starts.length }
    ({ s with mbox := m } : State).serveUnknown

/-- A write of TBCTL (R92): reserved codes of ROLE and UPPORT are 0 and ignored; entry into follower lets one step be made (R93). -/
def State.writeTbctl (s : State) (v : W32) : State :=
  let role : BitVec 2 := if bits v 1 0 = 3 then 0#2 else BitVec.ofNat 2 (bits v 1 0)
  let up := bits v 6 4
  let t : TbCtl := { s.tbctl with
    role := role, upport := (if up < 6 then BitVec.ofNat 3 up else s.tbctl.upport)
    stepped := (if role = 2#2 ∧ s.tbctl.role ≠ 2#2 then false else s.tbctl.stepped) }
  { s with tbctl := t }

/-- One 32-bit register of BAR0 is written. -/
def State.bar0Put (s : State) (off : Nat) (v : W32) : State :=
  if 0x40 ≤ off ∧ off < 0x80 then
    let a := SMap.modify 0#64 s.mbox.args ((off - 0x40) / 8) fun o => mergeWrite o off 4 (v.zeroExtend 64)
    { s with mbox := { s.mbox with args := a } }
  else match off with
    | 0x0 => s.submit v
    | 0x210 => s.clearEvt v
    | 0x400 => s.writeTbctl v
    | _ => s

/-- A write to BAR0 by the host: 4 or 8 bytes, aligned. -/
def State.bar0Write (s : State) (off size : Nat) (v : W64) : State :=
  if (size ≠ 4 ∧ size ≠ 8) ∨ off % size ≠ 0 then s
  else
    let s := s.bar0Put off (v.truncate 32)
    if size = 8 then s.bar0Put (off + 4) (v.extractLsb' 32 32) else s

/-- REGISTER_WRITE (R4). -/
def execRegisterWrite (reg : RegAddr) (size : Nat) (value : W64) (s : State) : Host.Outcome State Fault Refusal :=
  match reg with
  | .mmio off => .next (s.mmioWrite off size value)
  | .bar0 off => .next (if s.thermal.state = .off then s else s.bar0Write off size value)
/-- THEVT_WRITE (R28). -/
def execThevtWrite (value : W32) (s : State) : Host.Outcome State Fault Refusal := .next (s.clearEvt value)
/-- FQ_RESUME (R286). -/
def execFqResume (die entry : Nat) (s : State) : Host.Outcome State Fault Refusal := .next (s.fqResume die entry)
/-- FQ_ABANDON (R286). -/
def execFqAbandon (die entry : Nat) (s : State) : Host.Outcome State Fault Refusal := .next (s.fqAbandon die entry)
/-- TLBINV_ALL (R284). -/
def execTlbinvAll (s : State) : Host.Outcome State Fault Refusal := .next s.tlbinvAll
/-- TLBINV_PAGE (R284). -/
def execTlbinvPage (vpn : BitVec 32) (s : State) : Host.Outcome State Fault Refusal := .next (s.tlbinvPage vpn)

end Sys2Proof.Machine
end

