-- ==== Sys2Proof/Machine/Access.lean ====
section
/-! DEFINITION. Memory in the background (R248 to R258, R437): writes taking their places and reaching the other dies, atomics at their
homes, the completion of accesses, and host requests. -/

namespace Sys2Proof.Machine

/-! ### Writes between the dies (R251, R252) -/

/-- COHERENCE_PLACEMENT (R252): the writes of one die to one element take their places in the order in which they were made. -/
def State.placement (s : State) (id : Nat) : State :=
  match s.writes.find? fun w => w.id == id with
  | none => s
  | some w =>
    if w.place.isSome ∨ s.writes.any (fun v => v.die == w.die && decide (v.id < id) && v.place.isNone && v.overlaps w) then s
    else (s.placeWrite id).pruneWrites

/-- Whether a remote write may be applied at a die (R251). -/
def GWrite.applicable (w : GWrite) (d : Nat) (vc : VClock) : Bool :=
  d != w.die && w.place.isSome && w.applied.contains w.die && !w.applied.contains d && vc.get w.die + 1 == w.clock.get w.die &&
    [0, 1, 2, 3].all fun k => k == w.die || decide (w.clock.get k ≤ vc.get k)

/-- REMOTE_WRITE_APPLY (R251): what waited for the write goes on (R70, R75, R259). -/
def State.remoteApply (s : State) (id d : Nat) : State :=
  match s.writes.find? fun w => w.id == id with
  | none => s
  | some w =>
    if 4 ≤ d ∨ !w.applicable d (s.die d).vc then s
    else
      let s := (s.applyAt d w).modDie d fun x => { x with vc := x.vc.set w.die (w.clock.get w.die) }
      (((s.settleWaits).oxStart false).oxStart true).pruneWrites

/-! ### Atomics (R254, R344, R444, R445) -/

/-- AtomOp at an access width of `n` bytes: `m` the old value, `r` the operand, `x` the expected value of CAS (R444). -/
def atomOp (k : AtomKind) (n : Nat) (m r x : W64) : W64 :=
  let w := 8 * n
  let cut := fun (v : W64) => BitVec.ofNat 64 (v.toNat % 2 ^ w)
  let sg := fun (v : W64) => signedOf w v.toNat
  match k with
  | .swap => cut r
  | .cas => if cut m = cut x then cut r else cut m
  | .add => cut (m + r)
  | .and => cut (m &&& r)
  | .or => cut (m ||| r)
  | .xor => cut (m ^^^ r)
  | .min => if sg r < sg m then cut r else cut m
  | .max => if sg m < sg r then cut r else cut m
  | .minn => if (cut r).toNat < (cut m).toNat then cut r else cut m
  | .maxn => if (cut m).toNat < (cut r).toNat then cut r else cut m
  | .fadd => BitVec.ofNat 64 (fF32.addRne (cut m).toNat (r.toNat % 2 ^ 32))

/-- One element of an atomic is performed (R254): at its home it reads the newest value and writes it in one place of the coherence order,
and the write has not been applied at any die; an element of host memory is read and written over the host link; a local memory is read
and written at once. -/
def State.atomElem (s : State) (d : Nat) (k : AtomKind) (x : W64) (e : Elem) : State × Elem :=
  match e.loc with
  | .global pa =>
    if isHost pa then
      let old := BitVec.ofNat 64 (leNat (s.readPhys d pa e.size))
      (s.writePhys d pa (toBytes e.size (atomOp k e.size old e.data x).toNat), { e with got := some old })
    else
    let s := s.settle d pa e.size
    let old := BitVec.ofNat 64 (leNat (Mem.read s.home pa e.size))
    let s := s.touchElem true e
    let w : GWrite := ⟨s.nextWrite, d, {}, pa, toBytes e.size (atomOp k e.size old e.data x).toNat, none, [], []⟩
    let s := ({ s with writes := s.writes ++ [w], nextWrite := s.nextWrite + 1 }).placeWrite w.id
    (s, { e with got := some old, write := some w.id })
  | l =>
    let old := BitVec.ofNat 64 (leNat (s.readLoc d l e.size))
    (s.writeLoc d l (toBytes e.size (atomOp k e.size old e.data x).toNat), { e with got := some old })

/-- Perform the chosen elements of an atomic, in order (R445). -/
def State.atomElems (s : State) (d : Nat) (k : AtomKind) (x : W64) (pick : Nat → Bool) : Nat → List Elem → State × List Elem
  | _, [] => (s, [])
  | i, e :: es =>
    let r := if pick i && e.got.isNone then s.atomElem d k x e else (s, e)
    let t := r.1.atomElems d k x pick (i + 1) es
    (t.1, r.2 :: t.2)

/-- An element that has a home cache die (R39, R254): one of global memory. -/
def Elem.atHome (e : Elem) : Bool :=
  match e.loc with
  | .global _ => true
  | _ => false

/-- The elements of an access that a step names, by place in its list; none named means all of them. -/
def picked (lanes : List Nat) (i : Nat) : Bool := lanes.isEmpty || lanes.contains i

/-- An element of the pick waits for an unpicked one before it to the same place (R445). -/
def pickSkips (pick : Nat → Bool) (es : List Elem) : Bool :=
  (es.zipIdx).any fun a => pick a.2 && (es.zipIdx).any fun b => decide (b.2 < a.2) && !pick b.2 && b.1.got.isNone && b.1.loc == a.1.loc

/-- The physical address of the first poisoned sector that an access has still to read (R32). -/
def State.poisonOf (s : State) (a : Access) : Option Nat :=
  a.elems.findSome? fun e => if e.got.isNone then (s.poisoned e.loc e.size).map (32 * ·) else none

/-- Where the data that an access reads is uncorrectable: in an SRAM array on its way, or in a poisoned sector (R31, R32). An operation that
reads nothing it must report meets no such data (R450). -/
def State.badData (s : State) (a : Access) (ecc : SramEcc) : Option Nat :=
  match ecc with
  | .bad pa => if a.elems.isEmpty then none else some pa
  | _ => s.poisonOf a

/-- Whether an access has host memory to read while the host's port is down: its requests stay queued until the port returns (R81). -/
def State.hostCut (s : State) (a : Access) : Bool :=
  s.hostQueued ((a.elems.filter fun e => e.got.isNone).map (·.loc))

/-- An error that the ECC of an SRAM array corrects in data read is counted (R31, R33). -/
def State.countSram (s : State) (ecc : SramEcc) : State := if ecc = .corrected then s.countCE false else s

/-- ATOMIC_AT_HOME (R254): elements of global memory are performed at their homes; those of a local memory are performed as the token
clears. -/
def State.atomicHome (s : State) (id : Nat) (lanes : List Nat) : State :=
  match SMap.get none s.accesses id with
  | none => s
  | some a =>
    match a.kind with
    | .atomic k x =>
      let pick := fun (i : Nat) => picked lanes i && (a.elems[i]?.any Elem.atHome)
      if !s.depsDone a || pickSkips pick a.elems || (s.poisonOf a).isSome || s.hostCut a then s
      else
        let r := s.atomElems (ctxDie a.ctx) k x pick 0 a.elems
        { r.1 with accesses := SMap.set none r.1.accesses id (some { a with elems := r.2 }) }
    | _ => s

/-- The write of an atomic is applied at its die as its token clears (R254). -/
def State.applyAtomic (s : State) (d : Nat) (e : Elem) : State :=
  match e.write with
  | none => s
  | some id => s.applyPlaced d id

/-! ### Completion (R254, R257, R264, R437) -/

/-- Whether two accesses write a common register. -/
def LoadDest.clashes : LoadDest → LoadDest → Bool
  | .scalar f r _, .scalar g q _ => f == g && r == q
  | .vector v r _, .vector w q _ => v == w && r == q
  | _, _ => false

/-- An earlier access of the context still has to write the same register: token writes are applied in issue order (R437). -/
def State.destHeld (s : State) (id : Nat) (a : Access) : Bool :=
  (s.pending a.ctx).any fun p => decide (p.1 < id) && p.2.dest.clashes a.dest

/-- Uncorrectable data (R31, R264): the destination is not written, and the token clears with its error mark. -/
def State.accessFails (s : State) (id : Nat) (a : Access) (pa : Nat) : State :=
  let src := logSource 1 (ctxCluster a.ctx % 72) (ctxDie a.ctx)
  (((s.logUE src pa).modCtx a.ctx fun x => x.tokMark a.token pa).dropAccess id a).dropHostLines

/-- The destination is written and the token clears, in one action (R437). -/
def State.finishAccess (s : State) (id : Nat) (a : Access) : State := ((s.writeDest a).dropAccess id a).pruneWrites

/-- One element read now (R253). -/
def State.readAt (s : State) (d : Nat) (e : Elem) : W64 :=
  match e.loc with
  | .mmio off => s.mmioRead off e.size
  | l => BitVec.ofNat 64 (leNat (s.readLoc d l e.size))

/-- What a lane that names the same element has read already: every lane returns the same value (R248). -/
def sameRead (es : List Elem) (e : Elem) : Option W64 :=
  es.findSome? fun f => if f.loc == e.loc && f.size == e.size then f.got else none

/-- Read the chosen elements of a load (R249, R253). -/
def State.readElems (s : State) (d : Nat) (pick : Nat → Bool) (es : List Elem) : List Elem :=
  (es.zipIdx).map fun e =>
    if pick e.2 && e.1.got.isNone then { e.1 with got := some ((sameRead es e.1).getD (s.readAt d e.1)) } else e.1

/-- Read the chosen elements of an access; the halves of a split-word load read apart (R248, R261). -/
def State.readAccess (s : State) (pick : Nat → Bool) (a : Access) : List Elem :=
  let d := ctxDie a.ctx
  if a.form == .joined then
    let k := a.elems.length / 2
    s.readElems d pick (a.elems.take k) ++ s.readElems d (fun i => pick (i + k)) (a.elems.drop k)
  else s.readElems d pick a.elems

/-- A low half of a split-word load would be read while a high half is still unread (R261, R440): the high halves stand first. -/
def Access.lowFirst (a : Access) (pick : Nat → Bool) : Bool :=
  let k := a.elems.length / 2
  a.form == .joined && ((a.elems.zipIdx).any fun e => decide (e.2 < k) && e.1.got.isNone && !pick e.2) &&
    (a.elems.zipIdx).any fun e => decide (k ≤ e.2) && e.1.got.isNone && pick e.2

/-- The host requests of a die that a SYNC.SYS waits for: a zero-length read behind them (R100). -/
def State.hostSync (s : State) (d : Nat) : State × List Nat :=
  if s.hostReqs.any fun r => r.die == d then
    let r : HostReq := ⟨s.nextId, d, 0, []⟩
    (({ s with hostReqs := s.hostReqs ++ [r], nextId := s.nextId + 1 } : State).sendHost (.hostRead hostBase), [s.nextId])
  else (s, [])

/-- The dies that a scope names (R255). -/
def scopeDies (scope d : Nat) : List Nat := if 3 ≤ scope then [0, 1, 2, 3] else [d]

/-- SYNC takes its clock once every earlier access has been performed (R257). -/
def State.syncStart (s : State) (id scope : Nat) (a : Access) : State × Access :=
  match a.clock with
  | some _ => (s, a)
  | none =>
    let d := ctxDie a.ctx
    let r := if scope = 4 then s.hostSync d else (s, [])
    let a := { a with clock := some (s.die d).vc, hostReqs := r.2 }
    ({ r.1 with accesses := SMap.set none r.1.accesses id (some a) }, a)

/-- Whether what a SYNC waits for has come (R257). -/
def State.syncDone (s : State) (scope : Nat) (a : Access) : Bool :=
  match a.clock with
  | none => false
  | some v => (scopeDies scope (ctxDie a.ctx)).all (fun d => (s.die d).vc.covers v) &&
      a.hostReqs.all fun i => !s.hostReqs.any fun r => r.id == i

/-- The lines of an access that a lease holds are allocated (R48), and a host-window line goes with its last request (R44). -/
def State.touchAccess (s : State) (a : Access) : State :=
  (a.elems.foldl (fun (s : State) (e : Elem) => s.touchElem false e) s).dropHostLines

/-- MEMORY_ACCESS_COMPLETE (R437): some elements of an access, or all of it, are performed; with its last element it completes. -/
def State.completeAccess (s : State) (id : Nat) (lanes : List Nat) (ecc : SramEcc) : State :=
  match SMap.get none s.accesses id with
  | none => s
  | some a =>
    if !s.depsDone a then s
    else match a.kind with
    | .store => s.performStore id
    | .bar _ _ => s.performStore id
    | .sync scope =>
      let r := s.syncStart id scope a
      if r.1.syncDone scope r.2 then r.1.dropAccess id r.2 else r.1
    | .load =>
      (match s.badData a ecc with
       | some pa => s.accessFails id a pa
       | none =>
         if a.lowFirst (picked lanes) || s.hostCut a then s else
         let s := s.countSram ecc
         let a := { a with elems := s.readAccess (picked lanes) a }
         if a.elems.all (fun e => e.got.isSome) ∧ !s.destHeld id a then (s.finishAccess id a).touchAccess a
         else ({ s with accesses := SMap.set none s.accesses id (some a) } : State).dropHostLines)
    | .atomic k x =>
      (match (if a.elems.all fun e => e.got.isNone then s.badData a ecc else none) with
       | some pa => s.accessFails id a pa
       | none =>
         if a.elems.any (fun e => e.atHome && e.got.isNone) || s.destHeld id a then s
         else
           let r := s.atomElems (ctxDie a.ctx) k x (fun _ => true) 0 a.elems
           (r.2.foldl (fun (s : State) e => s.applyAtomic (ctxDie a.ctx) e) (r.1.countSram ecc)).finishAccess id { a with elems := r.2 })

/-- A member whose fetch is frozen has drained (R273): its stage goes on with the capture. -/
def State.drained (s : State) (c : Nat) : State :=
  match s.ctx c with
  | none => s
  | some x =>
    match s.gang x.gang with
    | none => s
    | some g =>
      match g.freezing with
      | some n => if s.draining g then s else s.soon (.stageEvaluate g.die { stage := n })
      | none => s

/-- The context of an access. -/
def State.accessCtx (s : State) (id : Nat) : Nat :=
  match SMap.get none s.accesses id with
  | some a => a.ctx
  | none => 0

/-! ### The host link (R100) -/

/-- HOST_REQUEST_COMPLETION (R100): a completion shows that the host has accepted the request and every earlier posted write of its die.
The home die drops a host-window line with its last outstanding request (R44). While the host's port is down nothing completes (R81). -/
def State.hostDone (s : State) (id : Nat) : State :=
  match s.hostReqs.find? fun r => r.id == id with
  | none => s
  | some q =>
    if !(s.port hostPort).up then s else
    let past := fun (r : HostReq) => r.die == q.die && decide (r.id ≤ id)
    let left := s.hostReqs.filter fun r => !past r
    { s with
      hostMem := (s.hostReqs.filter past).foldl (fun (m : Mem) r => Mem.write m r.addr r.data) s.hostMem
      hostReqs := left : State }.dropHostLines

/-- COHERENCE_PLACEMENT (R252). -/
def execCoherencePlacement (write : Nat) (s : State) : Host.Outcome State Fault Refusal := .next (s.placement write)
/-- REMOTE_WRITE_APPLY (R251). -/
def execRemoteWriteApply (write die : Nat) (s : State) : Host.Outcome State Fault Refusal := .next (s.remoteApply write die)
/-- ATOMIC_AT_HOME (R254). -/
def execAtomicAtHome (access : Nat) (lanes : List Nat) (s : State) : Host.Outcome State Fault Refusal := .next (s.atomicHome access lanes)
/-- MEMORY_ACCESS_COMPLETE (R437). -/
def execMemoryAccessComplete (access : Nat) (lanes : List Nat) (ecc : SramEcc) (s : State) : Host.Outcome State Fault Refusal :=
  .next ((s.completeAccess access lanes ecc).drained (s.accessCtx access))
/-- HOST_REQUEST_COMPLETION (R100). -/
def execHostRequestCompletion (request : Nat) (s : State) : Host.Outcome State Fault Refusal := .next (s.hostDone request)
/-- TLB_WALK_COMPLETE (R282): the entry of a 64 KiB page, by number, fills a cluster's TLB. -/
def execTlbWalkComplete (cluster page : Nat) (s : State) : Host.Outcome State Fault Refusal :=
  .next (if cluster < 288 then s.fillTlb cluster (page * 65536) else s)
/-- TWAIT_EXPIRY (R473): a context whose time has come is re-inserted. -/
def execTwaitExpiry (ctx : Nat) (s : State) : Host.Outcome State Fault Refusal :=
  .next (match s.ctx ctx with
    | some x => (match x.run with | .waiting (.time t) => if s.timeReached t then s.insertReady ctx else s | _ => s)
    | none => s)

end Sys2Proof.Machine
end

