-- ==== Sys2Proof/Machine/Dram.lean ====
section
/-! DEFINITION. The controllers of the pseudo-channels (R13, R14, R31, R32, R57 to R59): requests, refresh, patrol scrub and low-power states;
the requests of the memory-side cache (R43); and the layout units as agents of their own (R50 to R52). -/

namespace Sys2Proof.Machine

/-! ### Pseudo-channels (R57 to R59) -/

/-- The dies and the DRAM have power (R17). -/
def State.powered (s : State) : Bool :=
  match s.thermal.state with
  | .coldReady => true | .run => true | .retreat => true | .hold => true | _ => false

/-- What the ECC of an array found in a read of a sector; a poisoned sector is uncorrectable (R31, R32). -/
def State.foundIn (s : State) (sector : Nat) (ecc : Ecc) : Ecc := if s.poison.contains sector then .uncorrectable else ecc

/-- When a row was last scrubbed; the period of 64 s counts from the power-up of the DRAM where it has not been (R14). -/
def State.scrubbedAt (s : State) (key : Nat) : Nat := max s.dramSince (SMap.get 0 s.scrubbed key)

/-- Fewer than 1 s remain before a row's deadline of 64 s (R14). -/
def State.scrubUrgent (s : State) (key : Nat) : Bool := decide (s.scrubbedAt key + 63000000000 < s.time)

/-- Some row of a channel is within 1 s of its deadline (R14, R58): one that is listed, or one of those that are not. -/
def State.urgentChannel (s : State) (n : Nat) : Bool :=
  let listed := s.scrubbed.filter fun kv => rowChannel kv.1 == n
  decide (s.dramSince + 63000000000 < s.time) && ((listed.any fun kv => s.scrubUrgent kv.1) || decide (listed.length < 16 * bankRows n))

/-- A controller has not yet done the one thing of this cycle (R58). -/
def State.cycleFree (s : State) (n : Nat) : Bool := (s.dramChan n).actedAt != some s.time

/-- A controller uses this cycle. -/
def State.useCycle (s : State) (n : Nat) : State := s.modDram n fun x => { x with actedAt := some s.time }

/-- Take the oldest request for a sector out of a queue, unless an older one waits at its bank (R58). -/
def takeRequest (sector : Nat) (write : Bool) : List DramReq → Option (List DramReq)
  | [] => none
  | r :: rs =>
    if r.sector = sector ∧ r.write = write then some rs
    else if bankOf (32 * r.sector) = bankOf (32 * sector) then none
    else (takeRequest sector write rs).map (r :: ·)

/-- DRAM_READ_WRITE (R58): a request that waits is served, oldest first within its bank, after a refresh that cannot be put off and after an
urgent scrub. No agent issues one to the hole (R35). -/
def State.dramAccess (s : State) (n sector : Nat) (write : Bool) (ecc : Ecc) : Host.Outcome State Fault Refusal :=
  let pa := 32 * sector
  let x := s.dramChan n
  if isHole pa then .fault (.hole pa)
  else if isHost pa || !s.powered || channelOf pa != n || !s.cycleFree n || x.postponed == 8 || s.urgentChannel n then .next s
  else match takeRequest sector write x.queue with
    | none => .next s
    | some q =>
      let s := ((s.wakeDram n).useCycle n).modDram n fun x => { x with queue := q }
      .next (if write then s
        else match s.foundIn sector ecc with
          | .clean => s
          | .corrected => s.countCE true
          | .uncorrectable => s.logUE (channelSource n) pa)

/-- A refresh takes this cycle (R58): one that has been put off eight times comes first; any other gives way to an urgent scrub and to
requests. -/
def State.refreshNow (s : State) (n : Nat) : Bool :=
  s.cycleFree n && ((s.dramChan n).postponed == 8 || ((s.dramChan n).queue.isEmpty && !s.urgentChannel n))

/-- The refresh rate in force at a channel (R59): at an all-bank idle point, where no request waits, a change of REFRATE takes effect. -/
def State.channelRate (s : State) (n : Nat) : BitVec 3 :=
  if (s.dramChan n).queue.isEmpty then s.thermal.refrate else (s.dramChan n).refrate

/-- A channel takes the refresh rate in force there. -/
def State.takeRate (s : State) (n : Nat) : State := s.modDram n fun x => { x with refrate := s.channelRate n }

/-- REFRESH (R12, R57 to R59): an interval falls due (`due`), as none does with the rate off, or one that was put off is made up for at any
rate. A refresh that does not take the cycle is put off, up to eight intervals; in self-refresh the DRAM refreshes itself. -/
def State.refreshDue (s : State) (n : Nat) (due : Bool) : State :=
  let x := s.dramChan n
  if !s.powered || decide (numChannels ≤ n) || x.selfRefresh then s
  else if due && s.channelRate n == 0#3 then s.takeRate n
  else
    let s := s.takeRate n
    if s.refreshNow n then
      (if due then s.useCycle n
       else if x.postponed = 0 then s
       else (s.useCycle n).modDram n fun x => { x with postponed := x.postponed - 1 })
    else if due then s.modDram n fun x => { x with postponed := min 8 (x.postponed + 1) }
    else s

/-- A scrub access to a row takes this cycle (R14, R58): after a refresh that cannot be put off; one that is not urgent, after the urgent ones
and the requests, of which one may arrive in the same cycle (`request`). -/
def State.scrubNow (s : State) (n key : Nat) (request : Bool) : Bool :=
  s.cycleFree n && (s.dramChan n).postponed != 8 && (s.scrubUrgent key || (!request && (s.dramChan n).queue.isEmpty && !s.urgentChannel n))

/-- PATROL_SCRUB_ACCESS (R14, R31, R32, R58): the row of a sector is read, corrected and rewritten; `ecc` is what is found in the sector, and
an uncorrectable one is rewritten with the poison code. An event is enabled only where it is `urgent` exactly if the deadline of its row is
less than 1 s away. -/
def State.scrub (s : State) (n sector : Nat) (urgent request : Bool) (ecc : Ecc) : Host.Outcome State Fault Refusal :=
  let pa := 32 * sector
  if isHole pa then .fault (.hole pa)
  else if isHost pa || !s.powered || channelOf pa != n || s.thermal.band == .warm || urgent != s.scrubUrgent (rowKey pa) ||
    !s.scrubNow n (rowKey pa) request then .next s
  else
    let s := s.useCycle n
    let s : State := { s with scrubbed := SMap.set 0 s.scrubbed (rowKey pa) s.time }
    .next (match s.foundIn sector ecc with
    | .clean => s
    | .corrected => s.countCE true
    | .uncorrectable => { s with poison := insertAsc sector s.poison }.logUE (channelSource n) pa)

/-- A channel has been idle for so many cycles (R57). -/
def State.dramIdle (s : State) (n cycles : Nat) : Bool := (s.dramChan n).queue.isEmpty && decide ((s.dramChan n).lastReq + cycles < s.time)

/-- Entry into a low-power state takes this cycle (R58): nothing else asks for it, not a request that arrives in it either. -/
def State.entryNow (s : State) (n : Nat) (request : Bool) : Bool := !request && s.cycleFree n && (s.dramChan n).postponed == 0 && !s.urgentChannel n

/-- POWER_DOWN_ENTRY (R57, R58), in the bands COLD and RETREAT; a HOLD that a command keeps while the band is one of them counts too, DESIGN
CHOICE (log entry 63). -/
def State.powerDown (s : State) (n : Nat) (request : Bool) : State :=
  if numChannels ≤ n ∨ !s.powered ∨ !(s.thermal.band == .cold || s.thermal.band == .retreat) then s
  else if s.dramIdle n 64 && s.entryNow n request then (s.useCycle n).modDram n fun x => { x with powerDown := true }
  else s

/-- A pseudo-channel is in power-down: it has entered it, or activity state A2 holds every idle one in it, whatever its timer (R57). -/
def State.poweredDown (s : State) (n : Nat) : Bool :=
  (s.dramChan n).powerDown || (s.act == 2#2 && s.mayChoose && (s.dramChan n).queue.isEmpty)

/-- SELF_REFRESH_ENTRY (R57, R58), in the thermal state HOLD. -/
def State.selfRefresh (s : State) (n : Nat) (request : Bool) : State :=
  if numChannels ≤ n ∨ s.thermal.state ≠ .hold then s
  else if s.dramIdle n 1024 && s.entryNow n request then (s.useCycle n).modDram n fun x => { x with powerDown := false, selfRefresh := true }
  else s

/-- TIMING_SET_SWITCH (R13, R59): intervals put off are carried over. -/
def State.switchTiming (s : State) (n : Nat) : State :=
  if numChannels ≤ n ∨ !s.powered then s
  else s.modDram n fun x => { x with tset := s.thermal.tset, refrate := s.thermal.refrate }

/-- What the ECC of an LLC array found in the line that a request meets (R30 to R33): a corrected error is counted, another is logged; its
consumer reports it in an event of its own. -/
def State.llcEcc (s : State) (sector : Nat) (ecc : Ecc) : State :=
  match ecc with
  | .clean => s
  | .corrected => s.countCE false
  | .uncorrectable => s.logUE (logSource 10 (lineHome (sector / 4)) (homeDie (32 * sector))) (32 * sector)

/-- LLC_ACCESS (R30, R43). -/
def State.llcAccess (s : State) (sector : Nat) (kind : LlcKind) (ecc : Ecc) : Host.Outcome State Fault Refusal :=
  if isHole (32 * sector) then .fault (.hole (32 * sector))
  else .next (if s.powered then (s.llcEcc sector ecc).llcServe sector kind else s)

/-! ### Layout units (R50 to R52) -/

/-- The layout units keep the translations that a request needed (R283). -/
def State.fillPages (s : State) (d : Nat) (vas : List Nat) : State := vas.foldl (fun (s : State) va => s.fillLayout d va) s

/-- HANDLE_REQUEST (R51): a tile is read into the image that the requester sees, or an image is written. A request that meets a fault
does nothing here: it waits with its engine (R283, R285). -/
def State.handleRequest (s : State) (die handle : Nat) (coord shape : Quad4) (sup write : Bool) (image : List Byte) : State :=
  let t : Tile4 := { r := recOf (s.layoutBytes die handle coord shape), coord := coord, shape := shape }
  let g : Agent := { die := die, core := 0, cluster := 72 * die, sup := sup }
  if !s.powered || decide (4 ≤ die) then s
  else match s.poisonIn (s.layoutReads die handle coord shape) with
  | some pa => s.logUE (logSource 5 (pa / 4096 % 8) (homeDie pa)) pa
  | none =>
  if !t.r.valid || decide (t.count = 0) || decide (524288 < t.count * t.r.imageWidth) then s
  else if write then
    (if image.length ≠ t.bytes then s
     else match s.writeImage g t 0 image fun _ => false with
      | .ok s => s.fillPages die (t.pages 0 t.bytes)
      | .error _ => s)
  else match s.readImage g t 0 t.bytes with
    | .ok bs => { s with handleImage := bs : State }.fillPages die (t.pages 0 t.bytes)
    | .error (.ecc pa) => s.logUE (logSource 5 (pa / 4096 % 8) (homeDie pa)) pa
    | .error _ => s

/-- DRAM_READ_WRITE (R58). -/
def execDramReadWrite (channel sector : Nat) (write : Bool) (ecc : Ecc) (s : State) : Host.Outcome State Fault Refusal :=
  s.dramAccess channel sector write ecc
/-- REFRESH (R58). -/
def execRefresh (channel : Nat) (due : Bool) (s : State) : Host.Outcome State Fault Refusal := .next (s.refreshDue channel due)
/-- PATROL_SCRUB_ACCESS (R14). -/
def execPatrolScrubAccess (channel sector : Nat) (urgent request : Bool) (ecc : Ecc) (s : State) : Host.Outcome State Fault Refusal :=
  s.scrub channel sector urgent request ecc
/-- POWER_DOWN_ENTRY (R57). -/
def execPowerDownEntry (channel : Nat) (request : Bool) (s : State) : Host.Outcome State Fault Refusal := .next (s.powerDown channel request)
/-- SELF_REFRESH_ENTRY (R57). -/
def execSelfRefreshEntry (channel : Nat) (request : Bool) (s : State) : Host.Outcome State Fault Refusal := .next (s.selfRefresh channel request)
/-- TIMING_SET_SWITCH (R13). -/
def execTimingSetSwitch (channel : Nat) (s : State) : Host.Outcome State Fault Refusal := .next (s.switchTiming channel)
/-- LLC_ACCESS (R43). -/
def execLlcAccess (sector : Nat) (kind : LlcKind) (ecc : Ecc) (s : State) : Host.Outcome State Fault Refusal := s.llcAccess sector kind ecc
/-- HANDLE_REQUEST (R51). -/
def execHandleRequest (die handle : Nat) (coord shape : Quad4) (sup write : Bool) (image : List Byte) (s : State) : Host.Outcome State Fault Refusal :=
  .next (s.handleRequest die handle coord shape sup write image)

end Sys2Proof.Machine
end

