-- ==== Sys2Proof/Machine/Crypto.lean ====
section
/-! DEFINITION. The digest and the signature check of images and reports (R111, R112, R121): SHA-512, which FIPS 180-4 defines, and pure
Ed25519, which RFC 8032 defines; the manual names both by these names (log entry 20). -/

namespace Sys2Proof.Machine.Crypto

/-! ### SHA-512 -/

/-- A 64-bit word of the hash. -/
def word64 (x : Nat) : Nat := x % 2 ^ 64
/-- Rotate right. -/
def rotr (x n : Nat) : Nat := (x >>> n) ||| word64 (x <<< (64 - n))

/-- Round constants: the first 64 bits of the fractional parts of the cube roots of the primes, 0 to 15. -/
def shaK0 : List Nat :=
  [0x428A2F98D728AE22, 0x7137449123EF65CD, 0xB5C0FBCFEC4D3B2F, 0xE9B5DBA58189DBBC,
   0x3956C25BF348B538, 0x59F111F1B605D019, 0x923F82A4AF194F9B, 0xAB1C5ED5DA6D8118,
   0xD807AA98A3030242, 0x12835B0145706FBE, 0x243185BE4EE4B28C, 0x550C7DC3D5FFB4E2,
   0x72BE5D74F27B896F, 0x80DEB1FE3B1696B1, 0x9BDC06A725C71235, 0xC19BF174CF692694]

/-- Round constants: the first 64 bits of the fractional parts of the cube roots of the primes, 16 to 31. -/
def shaK1 : List Nat :=
  [0xE49B69C19EF14AD2, 0xEFBE4786384F25E3, 0x0FC19DC68B8CD5B5, 0x240CA1CC77AC9C65,
   0x2DE92C6F592B0275, 0x4A7484AA6EA6E483, 0x5CB0A9DCBD41FBD4, 0x76F988DA831153B5,
   0x983E5152EE66DFAB, 0xA831C66D2DB43210, 0xB00327C898FB213F, 0xBF597FC7BEEF0EE4,
   0xC6E00BF33DA88FC2, 0xD5A79147930AA725, 0x06CA6351E003826F, 0x142929670A0E6E70]

/-- Round constants: the first 64 bits of the fractional parts of the cube roots of the primes, 32 to 47. -/
def shaK2 : List Nat :=
  [0x27B70A8546D22FFC, 0x2E1B21385C26C926, 0x4D2C6DFC5AC42AED, 0x53380D139D95B3DF,
   0x650A73548BAF63DE, 0x766A0ABB3C77B2A8, 0x81C2C92E47EDAEE6, 0x92722C851482353B,
   0xA2BFE8A14CF10364, 0xA81A664BBC423001, 0xC24B8B70D0F89791, 0xC76C51A30654BE30,
   0xD192E819D6EF5218, 0xD69906245565A910, 0xF40E35855771202A, 0x106AA07032BBD1B8]

/-- Round constants: the first 64 bits of the fractional parts of the cube roots of the primes, 48 to 63. -/
def shaK3 : List Nat :=
  [0x19A4C116B8D2D0C8, 0x1E376C085141AB53, 0x2748774CDF8EEB99, 0x34B0BCB5E19B48A8,
   0x391C0CB3C5C95A63, 0x4ED8AA4AE3418ACB, 0x5B9CCA4F7763E373, 0x682E6FF3D6B2B8A3,
   0x748F82EE5DEFB2FC, 0x78A5636F43172F60, 0x84C87814A1F0AB72, 0x8CC702081A6439EC,
   0x90BEFFFA23631E28, 0xA4506CEBDE82BDE9, 0xBEF9A3F7B2C67915, 0xC67178F2E372532B]

/-- Round constants: the first 64 bits of the fractional parts of the cube roots of the primes, 64 to 79. -/
def shaK4 : List Nat :=
  [0xCA273ECEEA26619C, 0xD186B8C721C0C207, 0xEADA7DD6CDE0EB1E, 0xF57D4F7FEE6ED178,
   0x06F067AA72176FBA, 0x0A637DC5A2C898A6, 0x113F9804BEF90DAE, 0x1B710B35131C471B,
   0x28DB77F523047D84, 0x32CAAB7B40C72493, 0x3C9EBE0A15C9BEBC, 0x431D67C49C100D4C,
   0x4CC5D4BECB3E42B6, 0x597F299CFC657E2A, 0x5FCB6FAB3AD6FAEC, 0x6C44198C4A475817]

/-- The 80 round constants. -/
def shaK : List Nat := shaK0 ++ shaK1 ++ shaK2 ++ shaK3 ++ shaK4

/-- The initial hash: the same bits of the square roots of the first eight primes, 0 to 7. -/
def shaInit : List Nat :=
  [0x6A09E667F3BCC908, 0xBB67AE8584CAA73B, 0x3C6EF372FE94F82B, 0xA54FF53A5F1D36F1,
   0x510E527FADE682D1, 0x9B05688C2B3E6C1F, 0x1F83D9ABFB41BD6B, 0x5BE0CD19137E2179]

/-- The eight working variables. -/
structure Work where
  a : Nat
  b : Nat
  c : Nat
  d : Nat
  e : Nat
  f : Nat
  g : Nat
  h : Nat

/-- The words of a list as variables, and back. -/
def Work.of (l : List Nat) : Work :=
  ⟨l.getD 0 0, l.getD 1 0, l.getD 2 0, l.getD 3 0, l.getD 4 0, l.getD 5 0, l.getD 6 0, l.getD 7 0⟩
/-- The variables as a list. -/
def Work.list (x : Work) : List Nat := [x.a, x.b, x.c, x.d, x.e, x.f, x.g, x.h]

/-- The next word of the message schedule, from the last sixteen, newest first. -/
def shaNext (ws : List Nat) : Nat :=
  let x := ws.getD 14 0
  let y := ws.getD 1 0
  let s0 := (rotr x 1) ^^^ (rotr x 8) ^^^ (x >>> 7)
  let s1 := (rotr y 19) ^^^ (rotr y 61) ^^^ (y >>> 6)
  word64 (ws.getD 15 0 + s0 + ws.getD 6 0 + s1)

/-- The message schedule: `n` more words, newest first. -/
def shaExpand : Nat → List Nat → List Nat
  | 0, ws => ws
  | n + 1, ws => shaExpand n (shaNext ws :: ws)

/-- One round. -/
def shaRound (x : Work) (k w : Nat) : Work :=
  let s1 := (rotr x.e 14) ^^^ (rotr x.e 18) ^^^ (rotr x.e 41)
  let ch := (x.e &&& x.f) ^^^ ((2 ^ 64 - 1 - x.e) &&& x.g)
  let t1 := x.h + s1 + ch + k + w
  let s0 := (rotr x.a 28) ^^^ (rotr x.a 34) ^^^ (rotr x.a 39)
  let maj := (x.a &&& x.b) ^^^ (x.a &&& x.c) ^^^ (x.b &&& x.c)
  ⟨word64 (t1 + s0 + maj), x.a, x.b, x.c, word64 (x.d + t1), x.e, x.f, x.g⟩

/-- The rounds over the constants and the schedule. -/
def shaRounds : List Nat → List Nat → Work → Work
  | k :: ks, w :: ws, x => shaRounds ks ws (shaRound x k w)
  | _, _, x => x

/-- A big-endian number. -/
def beNat : List Byte → Nat
  | bs => bs.foldl (fun n b => n * 256 + b.toNat) 0

/-- One block of 128 bytes. -/
def shaBlock (h : List Nat) (blk : List Byte) : List Nat :=
  let m := (List.range 16).map fun i => beNat ((blk.drop (8 * i)).take 8)
  let ws := (shaExpand 64 m.reverse).reverse
  List.zipWith (fun a b => word64 (a + b)) h (shaRounds shaK ws (Work.of h)).list

/-- The blocks of a padded message; the first argument bounds their number. -/
def shaBlocks : Nat → List Byte → List Nat → List Nat
  | 0, _, h => h
  | n + 1, m, h => shaBlocks n (m.drop 128) (shaBlock h (m.take 128))

/-- A number in `n` bytes, the highest first. -/
def beBytes (n x : Nat) : List Byte := (toBytes n x).reverse

/-- The padded message. -/
def shaPad (m : List Byte) : List Byte :=
  m ++ 0x80#8 :: List.replicate ((239 - m.length % 128) % 128) 0#8 ++ beBytes 16 (8 * m.length)

/-- SHA-512, 64 bytes. -/
def sha512 (m : List Byte) : List Byte :=
  let p := shaPad m
  (shaBlocks (p.length / 128) p shaInit).flatMap fun w => beBytes 8 w

/-! ### Ed25519 -/

/-- The prime of the field. -/
def q : Nat := 2 ^ 255 - 19
/-- The order of the base point. -/
def order : Nat := 2 ^ 252 + 27742317777372353535851937790883648493

/-- `b ^ e` in the field; the first argument bounds the bits of `e`. -/
def power : Nat → Nat → Nat → Nat
  | 0, _, _ => 1
  | n + 1, b, e =>
    let r := power n (b * b % q) (e / 2)
    if e % 2 = 1 then b * r % q else r

/-- The inverse in the field. -/
def inverse (x : Nat) : Nat := power 256 x (q - 2)
/-- The constant d of the curve. -/
def curveD : Nat := (q - 121665) * inverse 121666 % q
/-- A square root of −1. -/
def sqrtM1 : Nat := power 256 2 ((q - 1) / 4)

/-- A point in extended homogeneous coordinates. -/
structure Point where
  x : Nat
  y : Nat
  z : Nat
  t : Nat

/-- The neutral point. -/
def zeroPoint : Point := ⟨0, 1, 1, 0⟩

/-- Addition. -/
def addPoints (p r : Point) (d : Nat) : Point :=
  let a := (p.y + q - p.x) * (r.y + q - r.x) % q
  let b := (p.y + p.x) * (r.y + r.x) % q
  let c := p.t * 2 * d * r.t % q
  let e := p.z * 2 * r.z % q
  let f := (b + q - a) % q
  let g := (e + q - c) % q
  let h := (e + c) % q
  let i := (b + a) % q
  ⟨f * g % q, h * i % q, g * h % q, f * i % q⟩

/-- `n` times a point; the first argument bounds the bits of `n`. -/
def times (d : Nat) : Nat → Nat → Point → Point
  | 0, _, _ => zeroPoint
  | k + 1, n, p =>
    let r := times d k (n / 2) (addPoints p p d)
    if n % 2 = 1 then addPoints p r d else r

/-- Equality of points. -/
def samePoint (p r : Point) : Bool := (p.x * r.z) % q == (r.x * p.z) % q && (p.y * r.z) % q == (r.y * p.z) % q

/-- The x coordinate of a point from its y coordinate and its sign bit. -/
def recoverX (d y sign : Nat) : Option Nat :=
  if q ≤ y then none
  else
    let x2 := (y * y + q - 1) * inverse (d * y * y + 1) % q
    if x2 = 0 then (if sign = 1 then none else some 0)
    else
      let x := power 256 x2 ((q + 3) / 8)
      let x := if x * x % q = x2 then x else x * sqrtM1 % q
      if x * x % q ≠ x2 then none
      else some (if x % 2 = sign then x else q - x)

/-- The point that 32 bytes encode. -/
def decodePoint (d : Nat) (bs : List Byte) : Option Point :=
  let n := leNat bs
  let y := n % 2 ^ 255
  (recoverX d y (n / 2 ^ 255)).map fun x => ⟨x, y, 1, x * y % q⟩

/-- The base point. -/
def basePoint (d : Nat) : Point :=
  let y := 4 * inverse 5 % q
  let x := (recoverX d y 0).getD 0
  ⟨x, y, 1, x * y % q⟩

/-- The 32 bytes that encode a point. -/
def encodePoint (p : Point) : List Byte :=
  let zi := inverse p.z
  toBytes 32 (p.y * zi % q + p.x * zi % q % 2 * 2 ^ 255)

/-- The scalar of a private key: the low half of its hash, with the bits set and cleared that RFC 8032 names. -/
def secretScalar (seed : List Byte) : Nat := leNat ((sha512 seed).take 32) % 2 ^ 254 / 8 * 8 + 2 ^ 254

/-- The public half of a private key. -/
def publicKey (seed : List Byte) : List Byte := encodePoint (times curveD 256 (secretScalar seed) (basePoint curveD))

/-- The pure Ed25519 signature of a message under a private key (RFC 8032). -/
def sign (seed msg : List Byte) : List Byte :=
  let d := curveD
  let a := secretScalar seed
  let key := encodePoint (times d 256 a (basePoint d))
  let r := leNat (sha512 ((sha512 seed).drop 32 ++ msg)) % order
  let rr := encodePoint (times d 256 r (basePoint d))
  let k := leNat (sha512 (rr ++ key ++ msg)) % order
  rr ++ toBytes 32 ((r + k * a) % order)

/-- Whether a signature of 64 bytes verifies as pure Ed25519 (R112). RFC 8032 lets a verifier leave the cofactor out; which of the two the
firmware does is a constant of `Config` (log entry 20). -/
def verify (key msg sig : List Byte) : Bool :=
  let d := curveD
  let s := leNat (sig.drop 32)
  match decodePoint d key, decodePoint d (sig.take 32) with
  | some a, some r =>
    if order ≤ s then false
    else
      let k := leNat (sha512 (sig.take 32 ++ key ++ msg)) % order
      let l := times d 256 s (basePoint d)
      let m := addPoints r (times d 256 k a) d
      if Config.cofactorless then samePoint l m else samePoint (times d 4 8 l) (times d 4 8 m)
  | _, _ => false

end Sys2Proof.Machine.Crypto
end

