-- ==== Sys2Proof/Machine/Image.lean ====
section
/-! DEFINITION. The Usosh image (R108 to R114, R120, R485): the staging area, the checks, the sections and start bits that a load writes,
and the session's page tables (R279, R280, R284, R481). -/

namespace Sys2Proof.Machine

/-! ### The staging area (R108) -/

/-- The staging area, the top 4 GiB of the LP tier. -/
def stagingBase : Nat := 0x01FF00000000
/-- Bytes of the staging area. -/
def stagingSize : Nat := 0x100000000

/-- STAGING_WRITE (R108): applied at any time, as a write of die 0 (R250), but discarded while an image command runs. It needs the memory
behind a die, so it wakes the module (R122). -/
def State.stage2 (s : State) (off : Nat) (data : List Byte) : State :=
  if stagingSize < off + data.length then s
  else match s.mbox.running with
    | some (6, _) => { s with mbox := { s.mbox with stagelost := true } }
    | some (7, _) => { s with mbox := { s.mbox with stagelost := true } }
    | _ => (s.wakeUp.writeGlobal 0 (stagingBase + off) data).unpoison [(.global (stagingBase + off), data.length)]

/-! ### The parts of an image (R109 to R111) -/

/-- An entry of the section table (R110). -/
structure ImgSect where
  kind : Nat
  perm : Nat
  link : Nat
  rsv : Nat
  vaddr : Nat
  paddr : Nat
  foff : Nat
  size : Nat
  deriving DecidableEq, Repr

/-- A field of an image. -/
def imgField (img : List Byte) (o n : Nat) : Nat := leNat ((img.drop o).take n)

/-- Entry i of the section table. -/
def imgSect (img : List Byte) (i : Nat) : ImgSect :=
  let f := fun (o n : Nat) => imgField img (0x40 + 32 * i + o) n
  ⟨f 0 1, f 1 1, f 2 2, f 4 4, f 8 8, f 0x10 8, f 0x18 4, f 0x1C 4⟩

/-- NSECT. -/
def imgCount (img : List Byte) : Nat := imgField img 6 2
/-- The section table. -/
def imgSects (img : List Byte) : List ImgSect := (List.range (imgCount img)).map (imgSect img)
/-- The file bytes of a section. -/
def imgBytes (img : List Byte) (x : ImgSect) : List Byte := (img.drop x.foff).take x.size

/-- Bytes of a STARTBITS section (R110). -/
def startBytes (size : Nat) : Nat := ceilDiv size 32

/-- The numbers of the STARTBITS sections that name a section. -/
def linksTo (xs : List ImgSect) (i : Nat) : List ImgSect := xs.filter fun x => x.kind == 2 && x.link == i

/-- Two ranges meet. -/
def rangesMeet (a n b m : Nat) : Bool := decide (0 < n) && decide (0 < m) && decide (a < b + m) && decide (b < a + n)

/-- What R109, R110 and R112 ask of one section. -/
def sectOk (limit : Nat) (xs : List ImgSect) (i : Nat) (x : ImgSect) : Bool :=
  decide (1 ≤ x.kind) && decide (x.kind ≤ 4) && decide (x.perm < 16) && x.rsv == 0 && x.foff % 32 == 0 &&
  (if x.kind = 4 then x.foff == 0 else decide (x.foff + x.size ≤ limit)) &&
  (if x.kind = 2 then
    x.vaddr == 0 && x.paddr == 0 && x.perm == 0 &&
    (match (xs.drop x.link).head? with | some c => c.kind == 1 && x.size == startBytes c.size | none => false)
  else
    x.link == 0 && x.vaddr % 65536 == 0 && x.paddr % 65536 == 0 && decide (x.vaddr + x.size ≤ 2 ^ 48) &&
    decide (x.paddr + x.size ≤ stagingBase) && !rangesMeet x.paddr x.size gaugeBase 0x100000000 &&
    !rangesMeet x.vaddr x.size gaugeBase 0x100000000) &&
  (if x.kind = 1 then x.size % 4 == 0 && (linksTo xs i).length == 1 else true)

/-- No two sections of a list meet, in their virtual or their physical ranges. -/
def noneMeet : List ImgSect → Bool
  | [] => true
  | x :: xs => (xs.all fun y => !rangesMeet x.vaddr x.size y.vaddr y.size && !rangesMeet x.paddr x.size y.paddr y.size) && noneMeet xs

/-- A section of the table as the session keeps it. -/
def ImgSect.keep (x : ImgSect) : Section := ⟨x.kind, BitVec.ofNat 8 x.perm, x.vaddr, x.paddr, x.size⟩

/-- The structure of an image (R112, step 4). -/
def structureOk (img : List Byte) : Bool :=
  let xs := imgSects img
  let mapped := xs.filter fun x => x.kind != 2
  ((img.drop 0x18).take 40).all (fun b => b == 0#8) && decide (1 ≤ imgCount img) && decide (imgCount img ≤ 64) &&
  (xs.zipIdx.all fun x => sectOk (img.length - 128) xs x.2 x.1) && noneMeet mapped &&
  decide ((codePages (mapped.map ImgSect.keep)).length ≤ 32768)

/-- PUBKEY is one of the fused keys, of which an unprogrammed one accepts nothing (R112, R482). -/
def keyAccepted (keys : SMap (BitVec 256)) (key : List Byte) : Bool :=
  !(key.all fun b => b == 0#8) && [0, 1, 2, 3].any fun n => key == toBytes 32 (SMap.get 0#256 keys n).toNat

/-- The digest D of an image (R111). -/
def imgDigest (img : List Byte) : List Byte := Crypto.sha512 (img.take (img.length - 128))

/-- The signature of an image (R112, step 3). -/
def signatureOk (keys : SMap (BitVec 256)) (img : List Byte) : Bool :=
  let block := img.drop (img.length - 128)
  let key := block.take 32
  keyAccepted keys key && Crypto.verify key (imgDigest img) ((block.drop 32).take 64)

/-- The image that a command names, as the firmware reads it at die 0 (R250, R253). -/
def State.staged (s : State) (off len : Nat) : List Byte := Mem.read (s.die 0).view (stagingBase + off) len

/-- The checks of R112 in order: the status of the first that fails, or 0. -/
def State.imageStatus (s : State) (off len : Nat) : Nat :=
  if off % 4096 ≠ 0 ∨ len % 32 ≠ 0 ∨ stagingSize < off + len then 2
  else
    let head := s.staged off 64
    let length := imgField head 8 8
    if length < 64 + 32 * imgCount head + 128 then 2
    else if imgField head 0 4 ≠ 0x48575355 ∨ imgField head 4 2 ≠ 1 ∨ length ≠ len then 6
    else
      let img := s.staged off len
      if !signatureOk s.imageKeys img then 5
      else if !structureOk img then 6
      else 0

/-! ### The session's page tables (R113, R279 to R281, R284) -/

/-- Tables under construction: the next free address, the tables by level and the region they cover, and the entries. -/
structure Tables where
  next : Nat := pageTables + 4096
  made : List ((Nat × Nat) × Nat) := [((4, 0), pageTables)]
  entries : List (Nat × Nat) := []
  deriving DecidableEq, Repr

/-- Bytes that one entry of a level covers. -/
def entrySpan : Nat → Nat
  | 4 => 0x8000000000
  | 3 => 0x40000000
  | 2 => 0x200000
  | _ => 0x10000

/-- Bytes of a table of a level. -/
def tableBytes (lvl : Nat) : Nat := if lvl = 1 then 256 else 4096

/-- Address of the entry of an address in a table. -/
def entryAddr (lvl table va : Nat) : Nat := table + 8 * (va / entrySpan lvl % (if lvl = 1 then 32 else 512))

/-- The table of a level for an address, made with those above it where it is missing. The first argument counts the levels below 4. -/
def Tables.find (t : Tables) (va : Nat) : Nat → Tables × Nat
  | 0 => (t, pageTables)
  | n + 1 =>
    let lvl := 3 - n
    let key := (lvl, va / entrySpan (lvl + 1))
    match t.made.find? fun m => m.1 == key with
    | some m => (t, m.2)
    | none =>
      let up := t.find va n
      let a := ceilDiv up.1.next (tableBytes lvl) * tableBytes lvl
      ({ next := a + tableBytes lvl, made := up.1.made ++ [(key, a)]
         entries := up.1.entries ++ [(entryAddr (lvl + 1) up.2 va, a + 1)] }, a)

/-- A leaf of a level: V, LEAF, and R, W, X and SUP in the order of PERM (R110, R280). -/
def Tables.leaf (t : Tables) (lvl va pa perm : Nat) : Tables :=
  let r := t.find va (4 - lvl)
  { r.1 with entries := r.1.entries ++ [(entryAddr lvl r.2 va, pa + perm % 16 * 4 + 3)] }

/-- `n` leaves of a level, one after the other. -/
def Tables.leaves (t : Tables) (lvl va pa perm n : Nat) : Tables :=
  (List.range n).foldl (fun (u : Tables) i => u.leaf lvl (va + i * entrySpan lvl) (pa + i * entrySpan lvl) perm) t

/-- The tables of an image (R113): its sections in 64 KiB pages, and the firmware's mappings of the gauge pool and of the page tables for
the supervisor (R481), in 2 MiB pages. -/
def imageTables (xs : List ImgSect) : Tables :=
  let t := xs.foldl (fun (t : Tables) x => if x.kind = 2 then t else t.leaves 1 x.vaddr x.paddr x.perm (ceilDiv x.size 65536)) {}
  (t.leaves 2 gaugeBase gaugeBase 9 32).leaves 2 pageTables pageTables 11 192

/-! ### Loading (R113, R114) -/

/-- One piece of what a load writes. -/
inductive Chunk where
  | put (pa : Nat) (data : List Byte)
  | zero (pa len : Nat)
  deriving DecidableEq, Repr

/-- Clear a range that reads zero where nothing is written. -/
def Mem.clear (m : Mem) (a n : Nat) : Mem := m.filter fun c => !(decide (a ≤ c.1) && decide (c.1 < a + n))

/-- Every write in flight takes its place and reaches every die (R251, R252), in the order in which they were made. -/
def State.drainWrites (s : State) : State :=
  if s.writes.isEmpty then s
  else
    let s := (s.writes.map (·.id)).foldl State.placeWrite s
    let v : VClock := ⟨(s.die 0).vc.d0, (s.die 1).vc.d1, (s.die 2).vc.d2, (s.die 3).vc.d3⟩
    let s := [0, 1, 2, 3].foldl (fun (s : State) d => s.modDie d fun x => { x with view := s.home, vc := v }) s
    { s with writes := [] }

/-- The firmware makes a write of die 0 (R250): every write before it has been applied everywhere, and it takes its place and is applied at
every die in the same action (log entry 11). -/
def State.firmwareTurn (s : State) : State :=
  let s := s.drainWrites
  let n := (s.die 0).vc.d0 + 1
  [0, 1, 2, 3].foldl (fun (s : State) d => s.modDie d fun x => { x with vc := { x.vc with d0 := n } }) s

/-- A range of device memory is cleared at its home and at every die. -/
def State.zeroEverywhere (s : State) (pa n : Nat) : State :=
  let s : State := { s with home := Mem.clear s.home pa n }
  [0, 1, 2, 3].foldl (fun (s : State) d => s.modDie d fun x => { x with view := Mem.clear x.view pa n }) s

/-- The sectors that a range covers whole lose their poison (R32). -/
def State.unpoisonRange (s : State) (pa n : Nat) : State :=
  { s with poison := s.poison.filter fun q => !(decide (pa ≤ 32 * q) && decide (32 * q + 32 ≤ pa + n)) }

/-- Perform a piece. -/
def State.putChunk (s : State) (c : Chunk) : State :=
  match c with
  | .put pa bs => (s.firmwareTurn.writeEverywhere pa bs).unpoisonRange pa bs.length
  | .zero pa n => (s.firmwareTurn.zeroEverywhere pa n).unpoisonRange pa n

/-- The start bit of word k of a STARTBITS section. -/
def startBitOf (bytes : List Byte) (k : Nat) : Bool := (bytes.getD (k / 8) 0#8).toNat.testBit (k % 8)

/-- The start bits of one code page, 2 KiB (R114). -/
def pageBits (img : List Byte) (xs : List ImgSect) (page : Nat) : List Byte :=
  match (xs.zipIdx).find? fun x => x.1.kind == 1 && decide (x.1.paddr / 65536 ≤ page) && decide (page * 65536 < x.1.paddr + x.1.size) with
  | none => []
  | some (c, i) =>
    match linksTo xs i with
    | [] => []
    | b :: _ =>
      let bytes := imgBytes img b
      let first := (page * 65536 - c.paddr) / 4
      (List.range 2048).map fun j => BitVec.ofNat 8 ((List.range 8).foldl (fun v k =>
        let w := first + 8 * j + k
        if w < c.size / 4 ∧ startBitOf bytes w then v + 2 ^ k else v) 0)

/-- Everything that a load writes, in the order of R113. -/
def loadChunks (img : List Byte) : List Chunk :=
  let xs := imgSects img
  let t := imageTables xs
  (xs.filterMap fun x =>
    if x.kind = 2 then none else if x.kind = 4 then some (.zero x.paddr x.size) else some (.put x.paddr (imgBytes img x))) ++
  .zero startBitBase 0x4000000 ::
  ((codePages ((xs.filter fun x => x.kind != 2).map ImgSect.keep)).zipIdx.map fun p => .put (startBitBase + 2048 * p.2) (pageBits img xs p.1)) ++
  .zero pageTables (t.next - pageTables) ::
  t.entries.map fun e => .put e.1 (toBytes 8 e.2)

/-- LOAD_IMAGE after its checks (R113). The translations of an earlier image go with it. -/
def State.loadImage (s : State) (off len : Nat) : State :=
  let img := s.staged off len
  let s := ((loadChunks img).foldl State.putChunk s).dropTlb fun _ => true
  { s with
    sess := { s.sess with
      state := .loaded, digest := BitVec.ofNat 512 (leNat (imgDigest img))
      sections := ((imgSects img).filter fun x => x.kind != 2).map ImgSect.keep } }

/-- A chunk cut short after some bytes. -/
def Chunk.cut (c : Chunk) (n : Nat) : Chunk :=
  match c with
  | .put pa bs => .put pa (bs.take n)
  | .zero pa len => .zero pa (min n len)

/-- A LOAD_IMAGE that a thermal trigger stops (R113, R120): how much of it had been written is a free value, and nothing of an image that the
checks refuse; no image is loaded, and the digest reads zero. -/
def State.stopLoad (s : State) (off len : Nat) : State :=
  if s.imageStatus off len ≠ 0 then { s with sess := { s.sess with state := .none, digest := 0#512, sections := [] } }
  else
    let cs := loadChunks (s.staged off len)
    let r := s.draw
    let q := r.2.draw
    let n := r.1.toNat % (cs.length + 1)
    let s := (cs.take n).foldl State.putChunk q.2
    let s := match (cs.drop n).head? with
      | some c => s.putChunk (c.cut q.1.toNat)
      | none => s
    { s with sess := { s.sess with state := .none, digest := 0#512, sections := [] } }

/-! ### The start of a session (R117, R118) -/

/-- Bytes of a readable loaded section at a virtual address. -/
def State.sectionBytes (s : State) (va n : Nat) : Option (List Byte) :=
  match s.sess.sections.find? fun x => bit x.perm 0 && decide (x.vaddr ≤ va) && decide (va + n ≤ x.vaddr + x.size) with
  | some x => some (Mem.read (s.die 0).view (x.paddr + (va - x.vaddr)) n)
  | none => none

/-- An entry of a start-vector table: CORE, ENTRY, ARG and its reserved bits. -/
structure StartVec where
  core : Nat
  rsv : Nat
  entry : Nat
  arg : Nat
  deriving DecidableEq, Repr

/-- The entries of a table. -/
def startVecs (bs : List Byte) (n : Nat) : List StartVec :=
  (List.range n).map fun i =>
    let w := imgField bs (16 + 16 * i) 8
    ⟨w / 2 ^ 54, w / 2 ^ 48 % 64, w % 2 ^ 48, imgField bs (24 + 16 * i) 8⟩

/-- No core is named twice. -/
def coresDiffer : List StartVec → Bool
  | [] => true
  | v :: vs => (vs.all fun u => u.core != v.core) && coresDiffer vs

/-- An entry lies in an execute section, at a word with a start bit (R118, step 4). -/
def State.entryOk (s : State) (e : Nat) : Bool :=
  e % 4 == 0 &&
  match s.sess.sections.find? fun x => bit x.perm 2 && decide (x.vaddr ≤ e) && decide (e + 4 ≤ x.vaddr + x.size) with
  | some x => s.startBit (x.paddr + (e - x.vaddr))
  | none => false

/-- The checks of R118: the status of the first that fails, or 0, with the table. A header whose reserved bytes are not zero (R117) is
BADARG too (log entry 23). -/
def State.startChecks (s : State) (svt : Nat) : Nat × List StartVec :=
  if s.thermal.state ≠ .coldReady ∨ s.sess.state = .running ∨ s.sess.state = .suspended then (3, [])
  else if s.sess.state ≠ .loaded then (7, [])
  else if svt % 64 ≠ 0 then (2, [])
  else match s.sectionBytes svt 16 with
    | none => (2, [])
    | some head =>
      let n := imgField head 0 4
      if n = 0 ∨ 576 < n ∨ imgField head 4 12 ≠ 0 then (2, [])
      else match s.sectionBytes svt (16 + 16 * n) with
        | none => (2, [])
        | some bs =>
          let vs := startVecs bs n
          if !(vs.all fun v => v.rsv == 0 && decide (v.core ≤ 575)) || !coresDiffer vs then (2, [])
          else if !(vs.all fun v => s.entryOk v.entry) then (8, [])
          else (0, vs)

/-- The partition word of a started context (R118). -/
def defaultPart : W64 := 0x020C0882#64

/-- One start context, a gang of one (R118, R128). -/
def State.startVec (s : State) (v : StartVec) : State :=
  let c := 4 * v.core
  let g : Gang :=
    { id := s.nextGang, die := coreDie v.core, step := none, klass := 0, members := [(c, 0)], ntask := 1, joinwait := 0, win := 0#3
      part := defaultPart, savebase := 0#64, cores := [v.core] }
  let x : Ctx :=
    { pc := BitVec.ofNat 48 v.entry, sup := true, arrived := true, gang := s.nextGang
      e := SMap.set 0#64 [] 0 (BitVec.ofNat 64 v.arg) }
  let s : State := { s with gangs := s.gangs ++ [g], nextGang := s.nextGang + 1 }
  ((s.modCore v.core fun k => { k with part := defaultPart }).setCtx c (some x)).insertReady c

/-- A die at the start of a session: jobs are counted from 0 (R456), the fault queue is empty (R285), and slot 0 of every stage is CURRENT
at VERSION 0 (R149). -/
def Die.beginSession (d : Die) : Die :=
  let g : Stage := { vslots := [(0, { state := .current })] }
  { d with
    accepted := 0, jobs := [], fq := { d.fq with head := 0#6, tail := 0#32 }
    stages := (List.range 8).map fun n => (n, g) }

/-- A session starts (R118): everything in one step. -/
def State.beginSession (s : State) (vs : List StartVec) : State :=
  let s : State := { s with
    sess := { s.sess with state := .running, num := s.sess.num + 1, startstat := 0#8 }
    dies := [0, 1, 2, 3].foldl (fun (m : SMap Die) d => SMap.modify {} m d Die.beginSession) s.dies
    act := 0#2, gated := 0#9, idleSince := s.time }
  let s := (s.setTherm (if s.thermal.band = .retreat then .retreat else .run)).msix 2
  vs.foldl State.startVec s

/-- START, by register or command (R116, R118): the status, which STARTSTAT shows. -/
def State.start (s : State) (svt : Nat) : Nat × State :=
  match s.startChecks svt with
  | (0, vs) => (0, s.beginSession vs)
  | (st, _) => (st, { s with sess := { s.sess with startstat := BitVec.ofNat 8 st } })

end Sys2Proof.Machine
end

