-- ==== Sys2Proof/Machine/Thermal.lean ====
section
/-! DEFINITION. The thermal sequencer (R9 to R29): samples, band decisions, rate and gradient, the coolant interface, the state machine with
its sequences, and power. -/

namespace Sys2Proof.Machine

/-! ### Figures, in 1/16 K and in timebase ticks -/

/-- The states in which the dies have power (R17). -/
def TState.powered : TState → Bool
  | .coldReady => true | .run => true | .retreat => true | .hold => true | _ => false
/-- The states from which FAULT is entered (R17). -/
def TState.faultable : TState → Bool
  | .cooldown => true | .coldReady => true | .run => true | .retreat => true | .hold => true | .warmup => true | _ => false

/-! ### Refresh, timing set and clock (R11 to R13, R19) -/

/-- Step points passed by a reading in the RETREAT band: 90 K, 95 K, 100 K (R12). -/
def stepsAbove (t : Nat) : Nat := (if 1440 < t then 1 else 0) + (if 1520 < t then 1 else 0) + (if 1600 < t then 1 else 0)

/-- REFRATE of the RETREAT band after a sample (R12): up at once, down after two samples 3 K or more below a point. -/
def retreatRate (old : Nat) (newest before : Nat) : Nat :=
  let up := max (old - 1) (stepsAbove newest)
  let down := max (stepsAbove (newest + hysteresis)) (stepsAbove (before + hysteresis))
  1 + min up down

/-- The refresh rate of a band on entry or on hold exit (R12). -/
def Thermal.entryRate (t : Thermal) (b : Band) (now : Nat) : Nat :=
  match b with
  | .cold => (match t.coldSince with
    | some c => if now ≤ c + 64 * second then 1 else 0
    | none => 0)
  | .retreat => 1 + stepsAbove t.tj.toNat
  | _ => 4

/-- The timing set of a band (R13). -/
def tsetOf : Band → BitVec 2
  | .cold => 0#2 | .retreat => 1#2 | _ => 2#2

/-- The switch tick of a decision (R19): the first multiple of 1,000 at least 500 ticks later. -/
def switchTick (t : Nat) : Nat := ceilDiv (t + 500) 1000 * 1000

/-! ### Messages to the plant (R15, R16) -/

/-- The setpoint in K/min, or none. -/
def State.setpoint (s : State) (v : Option Nat) : State := (s.modThermal fun t => { t with setpoint := v }).send (.setpoint v)

/-- The pause demand. -/
def State.setPause (s : State) (on : Bool) : State :=
  if s.thermal.pause = on then s else (s.modThermal fun t => { t with pause := on }).send (.pause on)

/-! ### Power of the dies (R17) -/

/-- The dies and the DRAM as they are without power: what they held is lost, and they show their reset values when they have power
again. What the management controller holds stays. -/
def State.dropDies (s : State) : State :=
  { s with
    dram := [], llc := [], poison := [], leases := [], home := [], writes := [], accesses := []
    dies := [], clusters := [], cores := [], ctxs := [], gangs := []
    chans := [], ports := s.ports.filter fun kv => kv.1 == 8, oxEast := {}, oxWest := {}
    gaugeQ := [], seals := [], recReqs := [], writeWaits := [], posts := [], succs := []
    hostReqs := [], scrubbed := [], llcLast := [], busyAt := [], layoutTlb := [], barWaits := []
    act := 3#2, gated := 0#9
    thermal := { s.thermal with refrate := 4#3, tset := 2#2, clklow := false, switchAt := none, applyAt := none, cmdhold := false } }

/-- ENDCAUSE of a suspended session that WARM ends: the manual gives it no code, so it is a free value among those of R115. -/
def State.freeCause (s : State) : Nat × State :=
  let r := s.draw
  (r.1.toNat % 4 + 1, r.2)

/-- A session exists. -/
def State.hasSession (s : State) : Bool := s.sess.state == .running || s.sess.state == .suspended

/-! ### FAULT (R17, R18) -/

/-- LOAD_IMAGE is permitted (R106): COLD_READY and no session. -/
def State.mayLoad (s : State) : Bool := s.thermal.state == .coldReady && !s.hasSession

/-- A trigger pre-empts the running command, which completes with THERMAL (R18): a FAULT trigger any command, a trigger into HOLD a START,
which STARTSTAT shows (R115), or a LOAD_IMAGE, which leaves no image where it was permitted (R113, R120). -/
def State.preemptCommand (s : State) (all : Bool) : State :=
  match s.mbox.running with
  | some (6, _, args) =>
    (if s.mayLoad then s.stopLoad (SMap.get 0#64 args 0).toNat (SMap.get 0#64 args 1).toNat else s).complete 4 []
  | some (8, _, _) => ({ s with sess := { s.sess with startstat := 4#8 } } : State).complete 4 []
  | some _ => if all then s.complete 4 [] else s
  | none => s

/-- The transition into FAULT (R17): dies and DRAM lose power at once, the session ends THERMAL, FCAUSE is recorded, the entry is counted and
logged (R29, R107). `sensor` is the place that the log entry names. -/
def State.toFault (s : State) (cause sensor : Nat) : State :=
  if !s.thermal.state.faultable then s
  else
    let s := s.setTherm .fault
    let s := s.modThermal fun t => { t with fcause := BitVec.ofNat 8 cause, faults := if t.faults = 0xFF#8 then t.faults else t.faults + 1 }
    let s := s.addLog 2 (logSource 12 sensor 0) cause 0
    let s := if s.hasSession then s.endSession 3 else s
    s.dropDies.nextTurn

/-- A trigger into FAULT that comes after the running command pre-empts it (R18). -/
def State.enterFault (s : State) (cause sensor : Nat) : State :=
  (if s.thermal.state.faultable then s.preemptCommand true else s).toFault cause sensor

/-! ### HOLD (R17, R21) -/

/-- Running jobs of a die are suspended at their positions, as a fault suspends them: they restart at unit POS (R21, R165). -/
def Die.suspendJobs (d : Die) : Die :=
  { d with jobs := mapWhere (fun j => j.state == .running) (fun j => { j with state := .suspended, units := [] }) d.jobs }

/-- The running operation of a Riffle unit is suspended (R21, R196). -/
def Riffle.suspend (r : Riffle) : Riffle :=
  match r.queue with
  | o :: os => if o.state = .running then { r with queue := { o with state := .suspended } :: os } else r
  | [] => r

/-- Every Riffle unit of a cluster. -/
def Cluster.mapRiffle (k : Cluster) (f : Riffle → Riffle) : Cluster := { k with riffle := SMap.mapVals {} f k.riffle }

/-- The transition into HOLD (R17, R21); `cmd` says that the command is the trigger. -/
def State.toHold (s : State) (cmd : Bool) : State :=
  let s := s.setTherm .hold
  let s := s.captureAll ((s.gangs.filter fun g => !g.captured).map (·.id)) true
  let s : State := { s with
    sess := { s.sess with state := if s.sess.state = .running then .suspended else s.sess.state }
    dies := SMap.mapVals {} Die.suspendJobs s.dies
    clusters := SMap.mapVals {} (fun (k : Cluster) => k.mapRiffle Riffle.suspend) s.clusters }
  let s := (List.range 8).foldl State.portGoesDown s
  let t : Thermal := { s.thermal with
    cmdhold := cmd, holds := (if s.thermal.holds = 0xFF#8 then s.thermal.holds else s.thermal.holds + 1)
    refrate := 4#3, tset := 2#2, clklow := false, switchAt := none, applyAt := none }
  ({ s with thermal := t, act := 3#2, gated := 0#9 } : State).nextTurn

/-- HOLD entry (R17, R21). A trigger that comes after the running command pre-empts a START or a LOAD_IMAGE; a command that came after the trigger
is served after it (R18). -/
def State.enterHold (s : State) (cmd : Bool) : State := (if s.mbox.behind then s else s.preemptCommand false).toHold cmd

/-- A Riffle unit's operation waits for an entry of the fault queue. -/
def State.riffleFaulted (s : State) (cl u : Nat) : Bool :=
  let q := (s.die (clusterDie cl)).fq
  let mine := fun (e : FqEntry) => e.agent == 2#4 && e.source.toNat == cl % 72 && e.unit == u
  (q.entries.any fun e => e.2.pend && mine e.2) || q.waiting.any mine

/-- The suspended jobs of a die go on where no fault holds them (R21, step 4). -/
def State.resumeJobs (s : State) (d : Nat) : State :=
  s.modDie d fun x => { x with jobs := mapWhere (fun j => j.state == .suspended && !s.jobFaulted d j) (fun j => { j with state := .running }) x.jobs }

/-- The suspended Riffle operations of a cluster go on where no fault holds them. -/
def State.resumeRiffle (s : State) (cl : Nat) : State :=
  [0, 1, 2, 3].foldl (fun (s : State) u =>
    match (s.riffle cl u).queue with
    | o :: _ => if o.state = .suspended ∧ !s.riffleFaulted cl u then s.modHead cl u fun o => { o with state := .running } else s
    | [] => s) s

/-- HOLD exit (R17, R21), in the order of its five steps. -/
def State.exitHold (s : State) : State :=
  let suspended := s.sess.state == .suspended
  let b := s.thermal.band
  let s := s.setTherm (if suspended then (if b = .cold then .run else .retreat) else .coldReady)
  let t : Thermal := { s.thermal with
    cmdhold := false, refrate := BitVec.ofNat 3 (s.thermal.entryRate b s.time), tset := tsetOf b, clklow := b == .retreat }
  let s : State := { s with
    thermal := t, act := (if suspended then 0#2 else 3#2), idleSince := s.time
    sess := { s.sess with state := if suspended then .running else s.sess.state } }
  let s := (List.range 8).foldl State.portComesUp s
  let s := [0, 1, 2, 3].foldl State.resumeJobs s
  let s := (s.clusters.map (·.1)).foldl State.resumeRiffle s
  let held := (s.gangs.filter fun g => g.byHold).map (·.id)
  let s : State := { s with gangs := mapWhere (fun g => g.byHold) (fun g => { g with byHold := false }) s.gangs }
  let s := held.foldl State.resumeGang s
  [0, 1, 2, 3].foldl (fun (s : State) d => (List.range 8).foldl (fun (s : State) n => s.resumeCaptured d n) s) s

/-- A HOLD ends now (R16, R17): its entry sequence has ended, and no command that came before the trigger runs (R18). -/
def State.holdOver (s : State) : Bool := s.exitDue && !s.sequenceRuns && (s.mbox.running.isNone || s.mbox.behind)

/-! ### Samples (R9, R10, R12, R17, R27) -/

/-- A new reading of a sensor: an invalid one keeps the last valid value (R27). -/
def nextReading (old new : Reading) : Reading := if new.ok then new else ⟨false, old.temp⟩

/-- The readings after a sample. -/
def sampleAll (old : SMap Reading) (new : List Reading) : SMap Reading :=
  new.zipIdx.foldl (fun (m : SMap Reading) r => SMap.modify ⟨false, 0#16⟩ m r.2 fun o => nextReading o r.1) old

/-- A sensor became invalid. -/
def newlyBad (old : SMap Reading) (new : List Reading) : Bool :=
  new.zipIdx.any fun r => (SMap.get ⟨false, 0#16⟩ old r.2).ok && !r.1.ok

/-- The valid values of a list of readings. -/
def validTemps (l : List Reading) : List Nat := l.filterMap fun r => if r.ok then some r.temp.toNat else none

/-- The warmest valid reading and its sensor (R10, R26); of several equal ones the lowest, DESIGN CHOICE (log entry 75). -/
def warmest (l : List Reading) : Option (Nat × Nat) :=
  l.zipIdx.foldl (fun (b : Option (Nat × Nat)) r =>
    if !r.1.ok then b
    else match b with
      | none => some (r.1.temp.toNat, r.2)
      | some (t, i) => if t < r.1.temp.toNat then some (r.1.temp.toNat, r.2) else some (t, i)) none

/-- The junction sensors of each of the twelve dies (R9). -/
def sensorGroups : List (List Nat) :=
  ((List.range 4).map fun d => (List.range 8).map fun i => 8 * d + i) ++ (List.range 8).map fun c => [32 + 2 * c, 33 + 2 * c]

/-- The lowest invalid sensor of a die with two or more invalid ones (R17). -/
def badDie (l : List Reading) : Option Nat :=
  sensorGroups.findSome? fun g =>
    match g.filter fun i => !(l.getD i ⟨false, 0#16⟩).ok with
    | i :: _ :: _ => some i
    | _ => none

/-- A quotient in a whole number of units; which way an inexact one is rounded is a free value (log entry 2). -/
def State.rounded (s : State) (num : Int) (den : Nat) : Int × State :=
  if num % (den : Int) = 0 then (num / den, s)
  else
    let r := s.draw
    (num / den + (r.1.toNat % 2 : Nat), r.2)

/-- The mean of the valid substrate readings; free where none is valid. -/
def State.meanOf (s : State) (l : List Nat) : Nat × State :=
  if l.isEmpty then (let r := s.draw; (r.1.toNat % 65536, r.2))
  else
    let r := s.rounded (l.foldl (· + ·) 0 : Nat) l.length
    (r.1.toNat, r.2)

/-- Tj and its sensor; free where no junction sensor is valid. -/
def State.tjOf (s : State) (l : List Reading) : (Nat × Nat) × State :=
  match warmest l with
  | some p => (p, s)
  | none =>
    let r := s.draw
    ((r.1.toNat % 65536, r.1.toNat / 65536 % 48), r.2)

/-- What a sample leaves in the registers (R9, R26, R27). -/
def State.takeReadings (s : State) (junction substrate : List Reading) : State :=
  let j := s.tjOf junction
  let m := j.2.meanOf (validTemps substrate)
  m.2.modThermal fun t =>
    { t with
      sens := sampleAll t.sens junction, subs := sampleAll t.subs substrate
      tj := BitVec.ofNat 16 j.1.1, tjSensor := BitVec.ofNat 6 j.1.2, mean := BitVec.ofNat 16 m.1
      lastTj := (j.1.1 :: t.lastTj).take 2, sampledAt := some s.time }

/-- The refresh rate after a sample in the RETREAT band (R12), once the memory controllers have received the band's rate (R20). -/
def State.stepRefresh (s : State) : State :=
  match s.thermal.lastTj with
  | x :: y :: _ =>
    if s.thermal.band = .retreat ∧ s.thermal.state.running ∧ s.thermal.applyAt = none then
      s.modThermal fun t => { t with refrate := BitVec.ofNat 3 (retreatRate t.refrate.toNat x y) }
    else s
  | _ => s

/-- A periodic action made at a time is not due again yet. -/
def tooSoon (last : Option Nat) (period now : Nat) : Bool :=
  match last with
  | some t => decide (now < t + period)
  | none => false

/-- THERMAL_SAMPLE (R9): the 57 readings, every 10 µs, in every state except OFF. -/
def State.thermalSample (s : State) (junction substrate : List Reading) : State :=
  if s.thermal.state = .off ∨ junction.length ≠ 48 ∨ substrate.length ≠ 9 ∨ tooSoon s.thermal.sampledAt 10000 s.time then s
  else
    let bad := newlyBad s.thermal.sens junction || newlyBad s.thermal.subs substrate
    let s := (s.takeReadings junction substrate).stepRefresh
    let s := if bad then s.setEvt 5 else s
    let subs := validTemps substrate
    let s := if s.thermal.state = .warmup ∧ subs ≠ [] ∧ 4480 * subs.length ≤ subs.foldl (· + ·) 0 then (s.setTherm .warmStandby).setpoint none else s
    match badDie junction with
    | some i => s.enterFault 5 i
    | none => s.nextTurn

/-! ### Band decisions (R10, R11, R17 to R20) -/

/-- The band changes: BANDCHG, and the next decision is made from later samples. -/
def State.moveBand (s : State) (b : Band) : State :=
  (s.modThermal fun t =>
    { t with
      band := b, bandSince := s.time, lastTj := t.lastTj.take 1
      coldSince := if b = .cold then some s.time else t.coldSince }).setEvt 0

/-- The sequence of a new band while the dies run (R19, R20): the clock changes at the switch tick, and 200 ticks after the decision the
memory controllers receive the refresh rate and the timing set. -/
def State.applyBand (s : State) : State :=
  s.modThermal fun t => { t with applyAt := some (s.time + 200), switchAt := some (switchTick s.time, t.band == .retreat) }

/-- Refresh rate and timing set of the band reach the memory controllers when their tick has come (R20). -/
def State.applyDue (s : State) : State :=
  match s.thermal.applyAt with
  | some t =>
    if t ≤ s.time then
      s.modThermal fun x => { x with refrate := BitVec.ofNat 3 (x.entryRate x.band s.time), tset := tsetOf x.band, applyAt := none }
    else s
  | none => s

/-- COLD_READY entry (R17): dies and DRAM have power, DRAM is trained with set N and then told set C, the LLC is invalid, state A3. -/
def State.enterColdReady (s : State) : State :=
  let s := { s.dropDies.setTherm .coldReady with dramSince := s.time }
  s.modThermal fun t => { t with refrate := 1#3, tset := 0#2, cycles := if t.cycles = 0xFFFF#16 then t.cycles else t.cycles + 1 }

/-- The band has reached WARM with the dies powered (R17); a command that came after the trigger is served after it (R18). -/
def State.warmFault (s : State) : State :=
  if s.mbox.behind then s.toFault 1 s.thermal.tjSensor.toNat else s.enterFault 1 s.thermal.tjSensor.toNat

/-- What a band decision brings, by the state (R17). -/
def State.bandAction (s : State) : State :=
  let b := s.thermal.band
  match s.thermal.state with
  | .cooldown => if b = .cold then s.enterColdReady else s
  | .hold => if b = .warm then s.warmFault else if s.holdOver then s.exitHold else s
  | .coldReady => if b = .warm then s.warmFault else if b = .hold then s.enterHold false else s.applyBand
  | .run =>
    if b = .warm then s.warmFault else if b = .hold then s.enterHold false
    else if b = .retreat then (s.setTherm .retreat).applyBand else s.applyBand
  | .retreat =>
    if b = .warm then s.warmFault else if b = .hold then s.enterHold false
    else if b = .cold then (s.setTherm .run).applyBand else s.applyBand
  | _ => s

/-- A decision for a band is made now (R18): one that leads into FAULT at once; any other waits for a running sequence and for a command
that came before it, unless it leads into HOLD and the command is a START or a LOAD_IMAGE. -/
def State.decisionServed (s : State) (b : Band) : Bool :=
  (b == .warm && s.thermal.state.powered) ||
  (!s.sequenceRuns &&
    match s.mbox.running with
    | none => true
    | some (op, _, _) => s.mbox.behind || (b == .hold && s.thermal.state.running && (op == 6 || op == 8)))

/-- BAND_DECISION (R10, R18): one step. A cool-down that finds the band already COLD ends with the decision too (log entry 50). -/
def State.bandDecision (s : State) : State :=
  if s.thermal.state = .off then s
  else match s.thermal.wanted s.time with
  | none =>
    if s.thermal.state = .cooldown ∧ s.thermal.band = .cold ∧ s.mbox.running = none then s.enterColdReady else s
  | some b =>
    if s.decisionServed b then
      ((s.moveBand b).bandAction).nextTurn
    else s

/-- SWITCH_TICK (R19). The sequence ends, and what waited for it is served (R18, R104). -/
def State.switchClock (s : State) : State :=
  match s.thermal.switchAt with
  | some (t, low) =>
    if t ≤ s.time then (s.modThermal fun x => { x with clklow := low, switchAt := none }).nextTurn else s
  | none => s

/-- COLD_REFRESH_EXPIRY (R12): more than 64 s after the last entry into COLD. -/
def State.coldExpiry (s : State) : State :=
  match s.thermal.coldSince with
  | some t =>
    if s.thermal.band = .cold ∧ s.thermal.state.running ∧ t + 64 * second < s.time then s.modThermal fun x => { x with refrate := 0#3, coldSince := none } else s
  | none => s

/-! ### Rate and gradient (R15) -/

/-- Sums of a least-squares fit: the newest point stands at 0, the one before at −1, in seconds. -/
structure Fit where
  n : Nat := 0
  sx : Int := 0
  sy : Int := 0
  sxx : Int := 0
  sxy : Int := 0

/-- The sums over points, newest first. -/
def fitOf (ys : List Nat) : Fit :=
  ys.zipIdx.foldl (fun (f : Fit) p =>
    let x : Int := -(p.2 : Int)
    let y : Int := (p.1 : Int)
    { n := f.n + 1, sx := f.sx + x, sy := f.sy + y, sxx := f.sxx + x * x, sxy := f.sxy + x * y }) {}

/-- The slope per minute as numerator and denominator, which is 1 or more; 0 for fewer than two points. -/
def slopeOf (ys : List Nat) : Int × Nat :=
  let f := fitOf ys
  let den := (f.n : Int) * f.sxx - f.sx * f.sx
  if den ≤ 0 then (0, 1) else (60 * ((f.n : Int) * f.sxy - f.sx * f.sy), den.toNat)

/-- The largest minus the smallest of some readings. -/
def spread (l : List Nat) : Nat := l.foldl max 0 - l.foldl min 65535

/-- The exact mean of the valid substrate readings in units of 1/2520 of 1/16 K (R15); that of the MEAN register, which is free, where no
sensor is valid. -/
def Thermal.exactMean (t : Thermal) : Nat :=
  let l := validTemps (t.subs.map (·.2))
  if l.isEmpty then t.mean.toNat * 2520 else l.foldl (· + ·) 0 * (2520 / l.length)

/-- The means of the last 60 s with the present one. -/
def Thermal.nextMeans (t : Thermal) : List Nat := (t.exactMean :: t.means).take 61

/-- The rate of a check compared with a limit in K/min, exactly: -1 below it, 0 at it, 1 above it. The slope of the means is in 1/2520 of
1/16 K per minute. -/
def rateAgainst (ms : List Nat) (limit : Int) : Int :=
  let p := slopeOf ms
  let q : Int := limit * 40320 * (p.2 : Int)
  if p.1 < q then -1 else if p.1 = q then 0 else 1

/-- GRAD and SLOPE of a check; the gradient is free where no substrate sensor is valid. A slope that is no 16-bit number of 1/16 K per
minute shows as the nearest one that is: the spec gives the field and not its value there, DESIGN CHOICE (log entry 22). -/
def State.measure (s : State) : State :=
  let l := validTemps (s.thermal.subs.map (·.2))
  let g : Nat × State := if l.isEmpty then (let r := s.draw; (r.1.toNat % 65536, r.2)) else (spread l, s)
  let ms := s.thermal.nextMeans
  let p := slopeOf ms
  let q := g.2.rounded p.1 (2520 * p.2)
  q.2.modThermal fun t =>
    { t with
      grad := BitVec.ofNat 16 g.1, means := ms, ratedAt := some s.time
      slope := BitVec.ofInt 16 (max (-32768) (min 32767 q.1)) }

/-- RATE_GRADIENT_CHECK (R15), once a second; the limits are held against the fitted rate itself, which THRATE shows rounded.
Where the rate and the gradient are both past their hard limits, FCAUSE names the rate, DESIGN CHOICE (log entry 75). -/
def State.rateCheck (s : State) : State :=
  if s.thermal.state = .off ∨ s.thermal.sampledAt.isNone ∨ tooSoon s.thermal.ratedAt second s.time then s
  else
    let s := s.measure
    let ms := s.thermal.means
    let g := s.thermal.grad.toNat
    let fast := rateAgainst ms (-4) == -1 || rateAgainst ms 3 == 1
    let s := if fast then s.setEvt 2 else s
    let s := if 240 < g then s.setEvt 3 else s
    let s := s.modThermal fun t =>
      { t with
        rateOk := if fast then 0 else min 11 (t.rateOk + 1)
        gradPause := decide (240 < g) || (t.gradPause && decide (192 < g)) }
    let s := s.setPause (decide (s.thermal.rateOk < 11) || s.thermal.gradPause)
    if rateAgainst ms (-5) = -1 ∨ rateAgainst ms 4 = 1 then s.enterFault 2 48
    else if 320 < g then s.enterFault 3 48
    else s

/-! ### Coolant (R16) -/

/-- COOLANT_OK_CHANGE. -/
def State.coolantChange (s : State) (level : Bool) : State :=
  if s.thermal.state = .off ∨ s.thermal.coolantOk = level then s
  else
    let s := s.modThermal fun t => { t with coolantOk := level, coolantSince := s.time, coolantTaken := false }
    (if level then s else s.setEvt 4).nextTurn

/-- A trigger into HOLD is served now (R18): it waits for a running sequence and a running command, but pre-empts a START or a
LOAD_IMAGE. -/
def State.holdServed (s : State) : Bool :=
  !s.sequenceRuns &&
  match s.mbox.running with
  | none => true
  | some (op, _, _) => s.mbox.behind || op == 6 || op == 8

/-- COOLANT_LOSS_HOLD. -/
def State.coolantHold (s : State) : State :=
  if s.thermal.state.running ∧ s.coolantLow 5 ∧ s.holdServed then s.enterHold false else s
/-- COOLANT_LOSS_FAULT. -/
def State.coolantFault (s : State) : State :=
  if s.coolantLow 65 ∧ !s.thermal.coolantTaken ∧ s.thermal.state.faultable then
    (s.enterFault 4 48).modThermal fun t => { t with coolantTaken := true }
  else s
/-- COOLANT_RESTORED_EXIT. -/
def State.coolantExit (s : State) : State := if s.holdOver then s.exitHold.nextTurn else s

/-! ### Module power (R17, R29) -/

/-- POWER_LOST: all is lost but THCOUNT, which is non-volatile, and the fused keys. Host memory is not the module's. -/
def State.losePower (s : State) : State :=
  { time := s.time, agenda := s.agenda, cur := s.cur, lits := s.lits, freeCtr := s.freeCtr, hostMem := s.hostMem, out := s.out
    imageKeys := s.imageKeys
    thermal := { state := .off, faults := s.thermal.faults, holds := s.thermal.holds, cycles := s.thermal.cycles
                 coolantOk := s.thermal.coolantOk, coolantSince := s.thermal.coolantSince } }

/-- POWER_APPLIED: the registers stand at their reset values, THSTAT.BAND at WARM among them (R25), the timebase counts from 0 (R1), and the
sensors are read; the band then moves by decisions (R10). -/
def State.applyPower (s : State) (junction substrate : List Reading) : State :=
  if s.thermal.state ≠ .off ∨ junction.length ≠ 48 ∨ substrate.length ≠ 9 then s
  else
    let t : Thermal := { faults := s.thermal.faults, holds := s.thermal.holds, cycles := s.thermal.cycles, coolantOk := s.thermal.coolantOk }
    let s : State := { s.losePower with time := 0, thermal := t }
    s.takeReadings junction substrate

/-- THERMAL_SAMPLE (R9). -/
def execThermalSample (junction substrate : List Reading) (s : State) : Host.Outcome State Fault Refusal := .next (s.thermalSample junction substrate)
/-- COOLANT_OK_CHANGE (R16). -/
def execCoolantOkChange (level : Bool) (s : State) : Host.Outcome State Fault Refusal := .next (s.coolantChange level)
/-- POWER_LOST (R17). -/
def execPowerLost (s : State) : Host.Outcome State Fault Refusal := .next s.losePower
/-- POWER_APPLIED (R17). -/
def execPowerApplied (junction substrate : List Reading) (s : State) : Host.Outcome State Fault Refusal := .next (s.applyPower junction substrate)
/-- BAND_DECISION (R10). -/
def execBandDecision (s : State) : Host.Outcome State Fault Refusal := .next s.bandDecision
/-- RATE_GRADIENT_CHECK (R15). -/
def execRateGradientCheck (s : State) : Host.Outcome State Fault Refusal := .next s.rateCheck
/-- COOLANT_LOSS_HOLD (R16). -/
def execCoolantLossHold (s : State) : Host.Outcome State Fault Refusal := .next s.coolantHold
/-- COOLANT_LOSS_FAULT (R16). -/
def execCoolantLossFault (s : State) : Host.Outcome State Fault Refusal := .next s.coolantFault
/-- COOLANT_RESTORED_EXIT (R17). -/
def execCoolantRestoredExit (s : State) : Host.Outcome State Fault Refusal := .next s.coolantExit
/-- SWITCH_TICK (R19). -/
def execSwitchTick (s : State) : Host.Outcome State Fault Refusal := .next s.switchClock
/-- COLD_REFRESH_EXPIRY (R12). -/
def execColdRefreshExpiry (s : State) : Host.Outcome State Fault Refusal := .next s.coldExpiry

end Sys2Proof.Machine
end

