-- ==== Sys2Proof/Machine/Firmware.lean ====
section
/-! DEFINITION. The firmware commands (R102 to R107, R112, R113, R118, R119, R121, R482) and the activity states (R122 to R124). A command
runs from its submission (`State.submit`) to its event here, which has its whole effect and completes it. -/

namespace Sys2Proof.Machine

/-- The arguments of the running command, where its opcode is `op` and it is its turn. -/
def State.command (s : State) (op : Nat) : Option (Nat → W64) :=
  match s.mbox.running with
  | some (o, _, args) => if o = op ∧ !s.commandWaits then some (fun n => SMap.get 0#64 args n) else none
  | none => none

/-- A command without a check of its state. -/
def State.serve (s : State) (op : Nat) (f : (Nat → W64) → State) : State :=
  match s.command op with
  | some a => f a
  | none => s

/-! ### What registers report -/

/-- The private identity key, in bytes (R482). -/
def identitySeed : List Byte := toBytes 32 Config.identitySeed.toNat
/-- The identity public key, in bytes (R482). -/
def identityKey : List Byte := Crypto.publicKey identitySeed

/-- IDENTIFY (R106, R482). -/
def State.identify (s : State) : State :=
  s.serve 1 fun _ => s.complete 0 ([0x7740#64, Config.firmwareVersion.zeroExtend 64, Config.serial] ++
    (List.range 4).map fun i => BitVec.ofNat 64 (leNat ((identityKey.drop (8 * i)).take 8)))

/-- QUERY (R106). -/
def State.query (s : State) : State :=
  s.serve 10 fun _ => s.complete 0
    [s.thermal.thstat.zeroExtend 64, s.sess.sesstat.zeroExtend 64, s.actstat.zeroExtend 64, s.mbox.lattol.zeroExtend 64,
     BitVec.ofNat 64 s.logCount, s.sess.num]

/-! ### Thermal commands (R17, R106) -/

/-- A thermal command completes with the new state. -/
def State.completeState (s : State) : State := s.complete 0 [BitVec.ofNat 64 s.thermal.state.code]

/-- COOL. -/
def State.cool (s : State) : State :=
  s.serve 3 fun _ =>
    match s.thermal.state with
    | .warmStandby => ((s.setTherm .cooldown).setpoint (some 4)).completeState
    | .hold =>
      if s.thermal.cmdhold ∧ s.thermal.coolantOk ∧ (s.thermal.band = .cold ∨ s.thermal.band = .retreat) then s.exitHold.completeState
      else s.complete 3 []
    | _ => s.complete 3 []

/-- WARM: the suspended session of a HOLD ends. The dirty lines that R17 has written back go to memory that then loses its contents. -/
def State.warm (s : State) : State :=
  s.serve 4 fun _ =>
    match s.thermal.state with
    | .cooldown => ((s.setTherm .warmup).setpoint (some 3)).completeState
    | .fault => ((s.setTherm .warmup).setpoint (some 3)).completeState
    | .coldReady => ((s.dropDies.setTherm .warmup).setpoint (some 3)).completeState
    | .hold =>
      let s := if s.hasSession then (let r := s.freeCause; r.2.endSession r.1) else s
      ((s.dropDies.setTherm .warmup).setpoint (some 3)).completeState
    | _ => s.complete 3 []

/-- HOLD: it completes at the end of the entry sequence (R106), at once where no context has to reach a save area. -/
def State.holdCommand (s : State) : State :=
  s.serve 5 fun _ =>
    if s.thermal.state = .run ∨ s.thermal.state = .retreat then
      let s := s.enterHold true
      if s.sequenceRuns then { s with mbox := { s.mbox with begun := true } } else s.completeState
    else s.complete 3 []

/-- SAVE_WRITEOUT_COMPLETE (R275): a HOLD command completes once the last context stands in its save area (R106), and the writes of START that
waited for the entry are served (R18, R104). -/
def State.writeOutDone (s : State) (gang : Nat) : State :=
  let s := s.writeOut gang
  if s.sequenceRuns ∨ s.thermal.state ≠ .hold then s
  else if s.mbox.begun then s.completeState
  else s.nextTurn

/-- STOP (R17, R119). In HOLD without a suspended session it answers OK and changes nothing, DESIGN CHOICE (log entry 79): R17 lists the
transition and R119 a session that ends, and no status is stated for this case. -/
def State.stop (s : State) : State :=
  s.serve 9 fun _ =>
    if s.thermal.state = .run ∨ s.thermal.state = .retreat ∨ s.thermal.state = .hold then
      (if s.hasSession then s.endSession 2 else s).complete 0 []
    else s.complete 3 []

/-! ### Images and sessions (R106, R112, R113, R116, R118) -/

/-- A digest in MBRET0 to MBRET7, byte 0 lowest. -/
def digestWords (d : List Byte) : List W64 := (List.range 8).map fun i => BitVec.ofNat 64 (leNat ((d.drop (8 * i)).take 8))

/-- LOAD_IMAGE. -/
def State.loadCommand (s : State) : State :=
  s.serve 6 fun a =>
    if s.thermal.state ≠ .coldReady ∨ s.hasSession then s.complete 3 []
    else
      let off := (a 0).toNat
      let len := (a 1).toNat
      match s.imageStatus off len with
      | 0 => (s.loadImage off len).complete 0 (digestWords (imgDigest (s.staged off len)))
      | st => s.complete st []

/-- VERIFY_IMAGE. -/
def State.verifyCommand (s : State) : State :=
  s.serve 7 fun a =>
    let off := (a 0).toNat
    let len := (a 1).toNat
    match s.imageStatus off len with
    | 0 => s.complete 0 (digestWords (imgDigest (s.staged off len)))
    | st => s.complete st []

/-- START. -/
def State.startCommand (s : State) : State :=
  s.serve 8 fun a =>
    match s.start (a 0).toNat with
    | (0, t) => t.complete 0 [t.sess.num]
    | (st, t) => t.complete st []

/-- START_WRITE (R116): a narrower write sets BADARG. A write of START wakes the module (R122), and it waits for a running sequence and for
the command, the write or the thermal trigger that came before it (R18, R104). -/
def State.startRegister (s : State) (size : Nat) (v : W64) : State :=
  if s.thermal.state = .off then s
  else if size ≠ 8 then { s with sess := { s.sess with startstat := 2#8 } }
  else
    let s := s.wakeUp
    if 0 < s.mbox.granted then (({ s with mbox := { s.mbox with granted := s.mbox.granted - 1 } } : State).start v.toNat).2.serveUnknown
    else if s.sequenceRuns || s.mbox.busy || s.triggerDue || !s.mbox.starts.isEmpty then
      { s with mbox := { s.mbox with starts := s.mbox.starts ++ [(v, s.triggerDue)] } }
    else (s.start v.toNat).2

/-! ### Attestation and the log (R107, R121) -/

/-- Bytes that the firmware writes to host memory. -/
def State.writeHost (s : State) (addr : Nat) (bs : List Byte) : State := { s with hostMem := Mem.write s.hostMem (hostBase + addr) bs }

/-- Whether PCIe fails an access of a command to host memory (R105): always while the host link is down; else the host says so, a free
value (log entry 39). -/
def State.tryHost (s : State) : Bool × State := if (s.port 8).up then (s.draw.1.getLsbD 0, s.draw.2) else (true, s)
/-- The next access to host memory fails. -/
def State.dmaFails (s : State) : Bool := s.tryHost.1

/-- The signed part of a report (R121). -/
def State.reportBody (s : State) (a : Nat → W64) : List Byte :=
  toBytes 4 1 ++ toBytes 4 Config.firmwareVersion.toNat ++ toBytes 8 Config.serial.toNat ++
  (toBytes 8 (a 0).toNat ++ toBytes 8 (a 1).toNat ++ toBytes 8 (a 2).toNat ++ toBytes 8 (a 3).toNat) ++
  toBytes 64 s.sess.digest.toNat ++ toBytes 4 (s.thermal.word 0x214).toNat ++ toBytes 4 s.thermal.thstat.toNat ++
  toBytes 8 s.ticks ++ toBytes 4 s.sess.sesstat.toNat ++ toBytes 8 s.sess.num.toNat ++ List.replicate 52 0#8

/-- The report with its signature, which the identity key makes of SHA-512 of the signed part. -/
def State.report (s : State) (a : Nat → W64) : List Byte :=
  let body := s.reportBody a
  body ++ Crypto.sign identitySeed (Crypto.sha512 body)

/-- ATTEST. -/
def State.attest (s : State) : State :=
  s.serve 2 fun a =>
    if (a 4).toNat % 256 ≠ 0 then s.complete 2 []
    else if s.dmaFails then s.tryHost.2.complete 9 []
    else (s.tryHost.2.writeHost (a 4).toNat (s.report a)).complete 0 []

/-- The 32 bytes of a log entry (R107). -/
def LogEntry.bytes (e : LogEntry) : List Byte :=
  toBytes 8 e.time.toNat ++ toBytes 2 e.kind.toNat ++ toBytes 2 e.source.toNat ++ toBytes 4 e.code.toNat ++ toBytes 8 e.addr.toNat ++
  List.replicate 8 0#8

/-- READ_LOG. A first index beyond the newest entry is answered OK with no entries and with that index in MBRET1, DESIGN CHOICE (log entry 79):
R107 clamps an index that is too old and says nothing of one that is too new. -/
def State.readLog (s : State) : State :=
  s.serve 13 fun a =>
    let count := (a 1).toNat
    if count = 0 ∨ 256 < count ∨ (a 2).toNat % 32 ≠ 0 then s.complete 2 []
    else if s.dmaFails then s.tryHost.2.complete 9 []
    else
      let oldest := s.logCount - s.log.length
      let first := max (a 0).toNat oldest
      let es := (s.log.drop (first - oldest)).take count
      (s.tryHost.2.writeHost (a 2).toNat (es.flatMap LogEntry.bytes)).complete 0 [BitVec.ofNat 64 es.length, BitVec.ofNat 64 first]

/-! ### RESET_DIE (R106, R268) -/

/-- Whether a core or a cluster belongs to a die. -/
def dropDie {α : Type} (per d : Nat) (m : SMap α) : SMap α := m.filter fun kv => kv.1 / per != d

/-- The cores, pools, caches, TLBs, Weir, job scheduler and TVEC of a die are reset; memory, records, gauges and the LLC stay. -/
def State.resetDie (s : State) (d : Nat) : State :=
  let s : State := { s with
    cores := dropDie 144 d s.cores
    clusters := SMap.mapVals {} (fun (k : Cluster) => k)
      (s.clusters.map fun kv => if kv.1 / 72 = d then (kv.1, { kv.2 with tlb := [] }) else kv) }
  s.modDie d fun x => { x with stages := [], arrivals := [], jobs := [], accepted := 0, tvec := 0#64, tlb := [] }

/-- RESET_DIE. -/
def State.resetCommand (s : State) : State :=
  s.serve 12 fun a =>
    if s.thermal.state ≠ .coldReady ∨ s.hasSession then s.complete 3 []
    else if 3 < (a 0).toNat then s.complete 2 []
    else (s.resetDie (a 0).toNat).complete 0 []

/-! ### Activity states (R122 to R124) -/

/-- Exit latency in µs. -/
def exitLatency : BitVec 2 → Nat
  | 0#2 => 0 | 1#2 => 2 | 2#2 => 40 | _ => 2000

/-- WAKE_EVENT (R122, R124): an arrival, a host access, a command or a START write. -/
def State.wakeEvent (s : State) : State := s.wakeUp

/-- SET_LATTOL (R124): a tolerance below the exit latency of the present state wakes the module. In HOLD, where R123 holds the module in A3 whatever
its tolerance, it completes at once all the same, DESIGN CHOICE (log entry 79). -/
def State.setLattol (s : State) : State :=
  s.serve 11 fun a =>
    if 2 ^ 32 ≤ (a 0).toNat then s.complete 2 []
    else
      let s : State := { s with mbox := { s.mbox with lattol := (a 0).truncate 32 } }
      (if (a 0).toNat < exitLatency s.act then s.wakeUp else s).complete 0 []

/-- Clusters with a ready context or an engine job (R122). -/
def State.busyClusters (s : State) : List Nat :=
  (s.ctxs.filterMap fun kv => match kv.2 with
    | some x => if x.run = .ready ∧ kv.1 < numSeqs then some (ctxCluster kv.1) else none
    | none => none) ++
  (s.clusters.filterMap fun kv => if kv.2.riffle.any fun r => !r.2.queue.isEmpty then some kv.1 else none) ++
  s.dies.flatMap fun kv => kv.2.live.map fun j => ctxCluster j.ctx

/-- A cluster has been idle for 1 µs. -/
def State.clusterIdle (s : State) (busy : List Nat) (k : Nat) : Bool :=
  !busy.contains k && decide (SMap.get 0 s.busyAt k + 1000 ≤ s.time)

/-- A gang exists, or a step is eligible on some die (R122). -/
def State.workExists (s : State) : Bool :=
  !s.gangs.isEmpty || (List.range 4).any fun d => (List.range 8).any fun n =>
    let g := s.stage d n
    g.enable && (List.range 16).any fun i =>
      let p := SMap.get 0#64 g.policy i
      bit p 63 && (s.candidate d n p).isSome

/-- What is busy now is busy until a time (R122): the clusters, and the module where a gang exists or a step is eligible. -/
def State.noteBusy (s : State) (t : Nat) : State :=
  if !s.mayChoose then s
  else
    { s with
      busyAt := s.busyClusters.foldl (fun (m : SMap Nat) k => SMap.set 0 m k t) s.busyAt
      idleSince := if s.workExists then t else s.idleSince }

/-- Ticks pass (R1): a repeated tick counts once (R93). What is busy stays so until they have passed (R122), and a band's refresh rate and
timing set reach the memory controllers on their tick (R20). -/
def State.tick (s : State) (dt : Nat) : State :=
  if dt = 0 then s
  else
    let t := s.time + dt - (if s.tbctl.again then 1 else 0)
    ({ s.noteBusy t with time := t, tbctl := { s.tbctl with again := false } } : State).applyDue

/-- ACTIVITY_DECISION (R122): the deepest state whose condition holds and whose exit latency the tolerance allows. A wake event of the same
tick wins (R124). -/
def State.decideActivity (s : State) : State :=
  if !s.mayChoose ∨ s.wokeAt = some s.time then s
  else
    let busy := s.busyClusters
    let s := s.noteBusy s.time
    let idle := ((List.range 288).filter fun k => s.clusterIdle busy k).length
    let tol := s.mbox.lattol.toNat
    let a2 := idle == 288 && (s.dies.all fun kv => kv.2.live.isEmpty) && decide (s.linkAt + 100000 ≤ s.time)
    let a3 := !s.hasSession || decide (s.idleSince + 10000000 ≤ s.time)
    if a3 ∧ 2000 ≤ tol then { s with act := 3#2, gated := 0#9 }
    else if a2 ∧ 40 ≤ tol then { s with act := 2#2, gated := 288#9 }
    else if 0 < idle ∧ 2 ≤ tol then { s with act := 1#2, gated := BitVec.ofNat 9 idle }
    else { s with act := 0#2, gated := 0#9 }

/-- IDENTIFY (R106). -/
def execIdentify (s : State) : Host.Outcome State Fault Refusal := .next s.identify
/-- ATTEST (R121). -/
def execAttest (s : State) : Host.Outcome State Fault Refusal := .next s.attest
/-- COOL (R17). -/
def execCool (s : State) : Host.Outcome State Fault Refusal := .next s.cool
/-- WARM (R17). -/
def execWarm (s : State) : Host.Outcome State Fault Refusal := .next s.warm
/-- HOLD (R21). -/
def execHold (s : State) : Host.Outcome State Fault Refusal := .next s.holdCommand
/-- LOAD_IMAGE (R113). -/
def execLoadImage (s : State) : Host.Outcome State Fault Refusal := .next s.loadCommand
/-- VERIFY_IMAGE (R112). -/
def execVerifyImage (s : State) : Host.Outcome State Fault Refusal := .next s.verifyCommand
/-- START (R118). -/
def execStart (s : State) : Host.Outcome State Fault Refusal := .next s.startCommand
/-- START_WRITE (R116). -/
def execStartWrite (size : Nat) (value : W64) (s : State) : Host.Outcome State Fault Refusal := .next (s.startRegister size value)
/-- STAGING_WRITE (R108). -/
def execStagingWrite (offset : Nat) (data : List Byte) (s : State) : Host.Outcome State Fault Refusal := .next (s.stage2 offset data)
/-- SAVE_WRITEOUT_COMPLETE (R275). -/
def execSaveWriteoutComplete (gang : Nat) (s : State) : Host.Outcome State Fault Refusal := .next (s.writeOutDone gang)
/-- STOP (R119). -/
def execStop (s : State) : Host.Outcome State Fault Refusal := .next s.stop
/-- QUERY (R106). -/
def execQuery (s : State) : Host.Outcome State Fault Refusal := .next s.query
/-- SET_LATTOL (R124). -/
def execSetLattol (s : State) : Host.Outcome State Fault Refusal := .next s.setLattol
/-- RESET_DIE (R106). -/
def execResetDie (s : State) : Host.Outcome State Fault Refusal := .next s.resetCommand
/-- READ_LOG (R107). -/
def execReadLog (s : State) : Host.Outcome State Fault Refusal := .next s.readLog
/-- ACTIVITY_DECISION (R122). -/
def execActivityDecision (s : State) : Host.Outcome State Fault Refusal := .next s.decideActivity
/-- WAKE_EVENT (R124). -/
def execWakeEvent (s : State) : Host.Outcome State Fault Refusal := .next s.wakeEvent

end Sys2Proof.Machine
end

