-- ==== Sys2Proof/Machine/LoadStore.lean ====
section
/-! DEFINITION. The load/store-slot operations (file 20): addresses, the checks of every lane, and the access that each operation
issues. -/

namespace Sys2Proof.Machine

/-! ### Addresses and their checks (R223, R225, R243, R264, R435, R436) -/

/-- Why an access cannot be made: PRIV, or a trap code with its argument. -/
inductive LTrap where
  | priv
  | other (code : Nat) (arg : W64)
  deriving DecidableEq, Repr

/-- One element that an operation asks for: its lane, its address and its size. -/
structure Req where
  lane : Nat
  addr : W64
  size : Nat
  deriving DecidableEq, Repr

/-- What an operation may ask of an address. -/
structure Ask where
  perm : Perm
  /-- A form that space 0xF accepts (R436). -/
  mmio : Bool := false
  /-- Only spaces 0x8 and 0x9 (R447). -/
  onlyLocal : Bool := false
  /-- ATOM with AK = 0, which the host window and space 0xF refuse (R444). -/
  rmw : Bool := false

/-- Whether a scratchpad run touches a bank group that a macro-op reads (R225). -/
def Env.groupBusy (e : Env) (off n : Nat) : Bool :=
  let q := groupSize (e.s.part e.c)
  let gs := e.s.groupsRead (ctxCore e.c)
  gs.contains (off / q) || gs.contains ((off + n - 1) / q)

/-- One element resolved (R243, R435, R436). -/
def Env.resolve (e : Env) (k : Ask) (r : Req) : Except LTrap Loc :=
  let off := bits r.addr 59 0
  let align := decide (r.addr.toNat % r.size ≠ 0)
  let no := fun (code : Nat) => (Except.error (.other code r.addr) : Except LTrap Loc)
  match bits r.addr 63 60 with
  | 0x0 =>
    if align then no 0x04
    else if 2 ^ 48 ≤ off then no 0x05
    else if k.onlyLocal then no 0x06
    else match e.s.translate (ctxCluster e.c) e.x.sup k.perm off with
      | .page => no 0x05
      | .perm => no 0x06
      | .ecc pa => .error (.other 0x11 (BitVec.ofNat 64 pa))
      | .ok pa => if k.rmw && isHost pa then no 0x06 else .ok (.global pa)
  | 0x8 =>
    if align then no 0x04
    else if e.groupBusy off r.size then .error (.other 0x07 (BitVec.ofNat 64 off))
    else if partScratch (e.s.part e.c) < off + r.size then no 0x06
    else .ok (.spad (ctxCore e.c) off)
  | 0x9 =>
    if align then no 0x04
    else if 0x400000 < off + r.size then no 0x06
    else .ok (.sram (ctxCluster e.c) off)
  | 0xF =>
    if !e.x.sup then .error .priv
    else if align then no 0x04
    else if k.rmw then no 0x06
    else if k.mmio && (r.size == 4 || r.size == 8) then .ok (.mmio off)
    else no 0x04
  | _ => if align then no 0x04 else no 0x06

/-- Every element resolved, or the trap of the first that fails. -/
def Env.resolveAll (e : Env) (k : Ask) : List Req → Except LTrap (List (Req × Loc))
  | [] => .ok []
  | r :: rs =>
    match e.resolve k r with
    | .error t => .error t
    | .ok l =>
      match e.resolveAll k rs with
      | .error t => .error t
      | .ok ls => .ok ((r, l) :: ls)

/-- The order of the traps of one lane (R263): ALIGN, BANKGROUP, PAGE, PERM, then ECC_UNCORRECTABLE. -/
def LTrap.rank : LTrap → Nat
  | .priv => 0
  | .other 0x04 _ => 1
  | .other 0x07 _ => 2
  | .other 0x05 _ => 3
  | .other 0x06 _ => 4
  | .other _ _ => 5

/-- A trap comes before another of its lane: by the order of R263, and of two of one kind the lower faulting address (R435). -/
def LTrap.before : LTrap → LTrap → Bool
  | .other c a, .other d b => decide (LTrap.rank (.other c a) < LTrap.rank (.other d b)) || (c == d && decide (a.toNat < b.toNat))
  | t, u => decide (t.rank < u.rank)

/-- The elements that cannot be accessed, by lane, with their traps. -/
def Env.failures (e : Env) (k : Ask) (rs : List Req) : List (Nat × LTrap) :=
  rs.filterMap fun r => match e.resolve k r with | .error t => some (r.lane, t) | .ok _ => none

/-- The trap of an operation whose elements stand in order of lanes (R263, R435): that of the lowest lane that fails, and there the first. -/
def lowestTrap : List (Nat × LTrap) → Option LTrap
  | [] => none
  | f :: fs => some ((fs.filter fun g => g.1 == f.1).foldl (fun t g => if g.2.before t then g.2 else t) f.2)

/-- The misses of the TLB that the addresses of an operation take (R264, R282). -/
def State.fillAll (s : State) (cl : Nat) (rs : List Req) : State :=
  rs.foldl (fun s r => if bits r.addr 63 60 = 0 then s.fillTlb cl (bits r.addr 47 0) else s) s

/-- An operation of the L slot with an active lane (R263): PRIV, then its operand checks, then the traps of its addresses, then `go`
with the resolved elements. -/
def Env.laccess (e : Env) (k : Ask) (rs : List Req) (cs : List Check) (go : List (Req × Loc) → SlotOut) : SlotOut :=
  match e.resolveAll k rs with
  | .error t =>
    (match (lowestTrap (e.failures k rs)).getD t with
     | .priv => e.priv 0
     | .other code arg => e.checked cs (e.trap code arg))
  | .ok ls =>
    e.checked cs
      (match go ls with
       | .act t f => .act t fun s => f (s.fillAll (ctxCluster e.c) rs)
       | o => o)

/-- The space number of an address. -/
def spaceOf (a : W64) : Nat := bits a 63 60

/-- A d register. -/
def Env.d (e : Env) (n : BitVec 5) : W64 := e.x.dReg n.toNat

/-! ### The general layout (R324, R438) -/

/-- Bytes of an element of a vector type as R324 counts them: 1 for sub-byte types and P12. -/
def elemBytes (ty : Nat) : Nat := if storedWidth ty % 8 = 0 then storedWidth ty / 8 else 1

/-- Bytes of 64 elements of a type. -/
def vecBytes (ty : Nat) : Nat := 8 * storedWidth ty

/-- The address of a general form: `es` the unit of OFF, `scale` the access scale (R324, R438). -/
def Env.genAddr (e : Env) (f : LGen) (base : W64) (es scale : Nat) : W64 :=
  if f.ps = 1#1 then base else base + BitVec.ofInt 64 (f.off.toInt * es + (e.n * scale : Nat))

/-- The step of a post-step form (R324), which lands at the end of the issue. -/
def Env.postStep (e : Env) (f : LGen) (es : Nat) (n : Nat) (s : State) : State :=
  if f.ps = 1#1 then s.addFlight e.c 1 (.scalar (.d n) (e.x.dReg n + BitVec.ofInt 64 (f.off.toInt * es))) else s

/-- Checks of FILE and REG: scalar files 0 and 1 hold 64 registers, vector files 2 and 3 VREG. -/
def Env.fileChecks (e : Env) (scalarOk vectorOk : Bool) (file : BitVec 2) (reg : BitVec 9) : List Check :=
  let v := decide (2 ≤ file.toNat)
  [⟨if v then !vectorOk else !scalarOk, 0, file.toNat⟩, ⟨decide ((if v then e.vreg else 64) ≤ reg.toNat), 0, reg.toNat⟩]

/-- The spaces of an access by its first address. -/
def spacesOf (rs : List Req) : List Nat := match rs with | [] => [] | r :: _ => [spaceOf r.addr]

/-- The spaces of an access whose lanes may name several. -/
def spacesOfAll (rs : List Req) : List Nat := allSpaces.filter fun p => rs.any fun r => spaceOf r.addr == p

/-! ### Scalar accesses (R439, R440) -/

/-- Bytes of a scalar size code. -/
def sizeOf2 (n : Nat) : Nat := 2 ^ (n % 4)

/-- LD (R439). -/
def evalLd (f : LGen) (e : Env) : SlotOut :=
  let z := sizeOf2 (bits f.size 1 0)
  let r : Req := ⟨0, e.genAddr f (e.d f.base) z z, z⟩
  if e.g0 then
    e.laccess { perm := .read, mmio := true } [r]
      (e.fileChecks true false f.file f.reg ++ [⟨bit f.size 3 || (bit f.size 2 && z == 8), 3, f.size.toNat⟩])
      fun ls => .act (some f.token.toNat) fun s =>
        (e.postStep f z f.base.toNat s).issueAccess
          { ctx := e.c, token := f.token.toNat, kind := .load, after := [], spaces := spacesOf [r]
            elems := ls.map fun p => { lane := 0, loc := p.2, size := z }
            dest := .scalar f.file.toNat f.reg.toNat (if bit f.size 2 then some (8 * z) else none) } [] []
  else .none

/-- ST (R439). -/
def evalSt (f : LGen) (e : Env) : SlotOut :=
  let z := sizeOf2 (bits f.size 1 0)
  let r : Req := ⟨0, e.genAddr f (e.d f.base) z z, z⟩
  let v := e.x.sfile (if f.file = 0#2 then .s0 else .s1) f.reg.toNat
  if e.g0 then
    e.laccess { perm := .write, mmio := true } [r]
      (e.fileChecks true false f.file f.reg ++ [⟨bit f.size 3 || bit f.size 2, 3, f.size.toNat⟩])
      fun ls => .act (some f.token.toNat) fun s =>
        (e.postStep f z f.base.toNat s).issueAccess
          { ctx := e.c, token := f.token.toNat, kind := .store, after := [], spaces := spacesOf [r]
            elems := ls.map fun p => { lane := 0, loc := p.2, size := z, data := v } } [] []
  else .none

/-- The halves of a split-word operation (R440): the addresses of the high halves, then those of the low halves. -/
def Env.halves (e : Env) (f : LGen) : List Req × List Req :=
  let vec := decide (2 ≤ f.file.toNat)
  let scale := if vec then 128 else 2
  let hi := e.genAddr f (e.d f.base) 2 scale
  let lo := e.genAddr f (e.x.dReg (f.base.toNat + 1)) 2 scale
  let lanes := if vec then e.g.lanes else [0]
  (lanes.map fun i => ⟨i, hi + BitVec.ofNat 64 (2 * i), 2⟩, lanes.map fun i => ⟨i, lo + BitVec.ofNat 64 (2 * i), 2⟩)

/-- The lanes of two lists in order of lanes, the high half of each before its low half. -/
def zipReqs : List Req → List Req → List Req
  | a :: as, b :: bs => a :: b :: zipReqs as bs
  | _, _ => []

/-- What stands at the even and at the odd places of a list, as `zipReqs` laid it out. -/
def unzipReqs {α : Type} : List α → List α × List α
  | a :: b :: rest => (a :: (unzipReqs rest).1, b :: (unzipReqs rest).2)
  | [a] => ([a], [])
  | [] => ([], [])

/-- A split-word operation (R440): its guard, its checks, and the places of its high and low halves. With BASE = 31, which is reserved,
there is no low half. -/
def Env.split (e : Env) (f : LGen) (p : Perm) (go : List (Req × Loc) → List (Req × Loc) → SlotOut) : SlotOut :=
  let h := e.halves f
  let vec := decide (2 ≤ f.file.toNat)
  if (if vec then e.g != 0#64 else e.g0) then
    e.laccess { perm := p } (if f.base = 31#5 then h.1 else zipReqs h.1 h.2)
      (e.fileChecks true true f.file f.reg ++ [⟨f.base == 31#5, 1, f.base.toNat⟩, ⟨f.size != 15#4, 3, f.size.toNat⟩])
      fun ls => go (unzipReqs ls).1 (unzipReqs ls).2
  else .none

/-- The two post-steps of a split-word operation. -/
def Env.splitStep (e : Env) (f : LGen) (s : State) : State :=
  e.postStep f 2 (f.base.toNat + 1) (e.postStep f 2 f.base.toNat s)

/-- LDJ (R440): high halves first (R261). -/
def evalLdj (f : LGen) (e : Env) : SlotOut :=
  e.split f .read fun hi lo => .act (some f.token.toNat) fun s =>
    (e.splitStep f s).issueAccess
      { ctx := e.c, token := f.token.toNat, kind := .load, form := .joined, after := []
        spaces := spacesOfAll ((hi ++ lo).map (·.1))
        elems := (hi ++ lo).map fun p => { lane := p.1.lane, loc := p.2, size := 2 }
        dest := if 2 ≤ f.file.toNat then .vector (f.file == 3#2) f.reg.toNat e.g else .scalar f.file.toNat f.reg.toNat none } [] []

/-- STJ (R440): low halves first (R261). -/
def evalStj (f : LGen) (e : Env) : SlotOut :=
  let vec := decide (2 ≤ f.file.toNat)
  let val := fun (i : Nat) =>
    if vec then ((e.x.vec (f.file == 3#2) f.reg.toNat).lane i).zeroExtend 64
    else e.x.sfile (if f.file = 0#2 then .s0 else .s1) f.reg.toNat
  e.split f .write fun hi lo => .act (some f.token.toNat) fun s =>
    (e.splitStep f s).issueAccess
      { ctx := e.c, token := f.token.toNat, kind := .store, after := [], spaces := spacesOfAll ((hi ++ lo).map (·.1))
        elems := (lo.map fun p => { lane := p.1.lane, loc := p.2, size := 2, data := val p.1.lane }) ++
          (hi.map fun p => { lane := p.1.lane, loc := p.2, size := 2, data := val p.1.lane >>> 16 }) } [] []

/-! ### Vector accesses (R441 to R443) -/

/-- Bits of byte k of a packed image that belong to active elements. -/
def activeBits (g : Mask) (w k : Nat) : Byte :=
  (List.range 8).foldl (fun (m : Byte) b => if g.getLsbD ((8 * k + b) / w) then m ||| (1#8 <<< b) else m) 0#8

/-- The elements of a packed access (R247, R441): whole elements, or each byte of sub-byte types and P12 that holds an active one. -/
def packedReqs (ty : Nat) (g : Mask) (a : W64) : List Req :=
  let w := storedWidth ty
  if w % 8 = 0 then g.lanes.map fun i => ⟨i, a + BitVec.ofNat 64 (i * (w / 8)), w / 8⟩
  else ((List.range (8 * w)).filter fun k => activeBits g w k != 0#8).map fun k => ⟨k, a + BitVec.ofNat 64 k, 1⟩

/-- The stored bits of a lane (R62, R287): Q6 is sign-extended in its byte. -/
def storedElem (ty : Nat) (x : W32) : Nat := (holdLane ty x.toNat).toNat % 2 ^ storedWidth ty

/-- The packed image of a vector. -/
def imageOf (ty : Nat) (v : Vec) : Nat := (List.range 64).foldl (fun n i => n + storedElem ty (v.lane i) * 2 ^ (storedWidth ty * i)) 0

/-- A 64-lane operation: nothing without an active lane (R314). -/
def Env.lanesActive (e : Env) (k : SlotOut) : SlotOut := if e.g = 0#64 then .none else k

/-- Checks of a vector operation's FILE, REG and type. -/
def Env.vmemChecks (e : Env) (file : BitVec 2) (reg : BitVec 9) (size : BitVec 4) (bytesOnly : Bool) : List Check :=
  e.fileChecks false true file reg ++
    [⟨bytesOnly && storedWidth size.toNat % 8 != 0, 3, size.toNat⟩]

/-- VLD (R441). -/
def evalVld (f : LGen) (e : Env) : SlotOut :=
  let ty := f.size.toNat
  let rs := packedReqs ty e.g (e.genAddr f (e.d f.base) (elemBytes ty) (vecBytes ty))
  e.lanesActive (e.laccess { perm := .read } rs (e.vmemChecks f.file f.reg f.size false)
    fun ls => .act (some f.token.toNat) fun s =>
      (e.postStep f (elemBytes ty) f.base.toNat s).issueAccess
        { ctx := e.c, token := f.token.toNat, kind := .load, after := [], spaces := spacesOfAll rs
          form := if storedWidth ty % 8 = 0 then .lanes ty else .packed ty
          elems := ls.map fun p => { lane := p.1.lane, loc := p.2, size := p.1.size }
          dest := .vector (f.file == 3#2) f.reg.toNat e.g } [] [])

/-- VST (R441). -/
def evalVst (f : LGen) (e : Env) : SlotOut :=
  let ty := f.size.toNat
  let w := storedWidth ty
  let rs := packedReqs ty e.g (e.genAddr f (e.d f.base) (elemBytes ty) (vecBytes ty))
  let v := e.x.vec (f.file == 3#2) f.reg.toNat
  let image := imageOf ty v
  e.lanesActive (e.laccess { perm := .write } rs (e.vmemChecks f.file f.reg f.size false)
    fun ls => .act (some f.token.toNat) fun s =>
      (e.postStep f (elemBytes ty) f.base.toNat s).issueAccess
        { ctx := e.c, token := f.token.toNat, kind := .store, after := [], spaces := spacesOfAll rs
          elems := ls.map fun p =>
            if w % 8 = 0 then { lane := p.1.lane, loc := p.2, size := p.1.size, data := BitVec.ofNat 64 (storedElem ty (v.lane p.1.lane)) }
            else { lane := p.1.lane, loc := p.2, size := 1, data := BitVec.ofNat 64 (image / 256 ^ p.1.lane % 256)
                   keep := ~~~activeBits e.g w p.1.lane } } [] [])

/-- The elements of a strided access (R438, R442): the stride is d[SD][31:0], signed. -/
def Env.strideReqs (e : Env) (f : LStr) : List Req :=
  let es := elemBytes f.size.toNat
  let st : Int := ((e.d f.sd).extractLsb' 0 32).toInt
  let a := e.d f.base + BitVec.ofInt 64 (f.off.toInt * es + (e.n : Int) * 64 * st)
  e.g.lanes.map fun i => ⟨i, a + BitVec.ofInt 64 ((i : Int) * st), es⟩

/-- VLDS (R442). -/
def evalVlds (f : LStr) (e : Env) : SlotOut :=
  let rs := e.strideReqs f
  e.lanesActive (e.laccess { perm := .read } rs (e.vmemChecks f.file f.reg f.size true ++ [⟨f.gauge != 0#1, 6, f.gauge.toNat⟩])
    fun ls => .act (some f.token.toNat) fun s =>
      s.issueAccess
        { ctx := e.c, token := f.token.toNat, kind := .load, form := .lanes f.size.toNat, after := [], spaces := spacesOfAll rs
          elems := ls.map fun p => { lane := p.1.lane, loc := p.2, size := p.1.size }
          dest := .vector (f.file == 3#2) f.reg.toNat e.g } [] [])

/-- The gauge updates of counted lanes (R72, R442): one for each 32-byte sector, in order of the first lane that it holds. -/
def laneUpdates (d g ty : Nat) (v : Vec) (rs : List Req) : List GaugeUpd :=
  let sector := fun (r : Req) => r.addr.toNat / 32
  let secs := rs.foldl (fun (l : List Nat) r => if l.contains (sector r) then l else l ++ [sector r]) []
  secs.map fun q =>
    { die := d, g := g, c := contribution ((rs.filter fun r => sector r == q).map fun r => laneValue ty (v.lane r.lane)) }

/-- VSTS (R442). -/
def evalVsts (f : LStr) (e : Env) : SlotOut :=
  let ty := f.size.toNat
  let rs := e.strideReqs f
  let v := e.x.vec (f.file == 3#2) f.reg.toNat
  let g := bits (e.d f.sd) 63 48
  let die := ctxDie e.c
  let count := f.gauge == 1#1
  e.lanesActive (e.laccess { perm := .write } rs
    (e.vmemChecks f.file f.reg f.size true ++ [⟨count && !e.s.gaugeAlloc die g, 7, f.sd.toNat⟩])
    fun ls => e.clean (if count then allocRead die g else []) (.act (some f.token.toNat) fun s =>
      s.issueAccess
        { ctx := e.c, token := f.token.toNat, kind := .store, after := [], spaces := spacesOfAll rs
          elems := ls.map fun p => { lane := p.1.lane, loc := p.2, size := p.1.size, data := BitVec.ofNat 64 (storedElem ty (v.lane p.1.lane)) }
          updates := if count && fmtGauge e.x.fmt then laneUpdates die g ty v rs else [] } [] []))

/-- The elements of an indexed access (R443, R445). -/
def Env.indexReqs (e : Env) (file : BitVec 2) (ix : BitVec 9) (base : BitVec 5) (sh size : Nat) : List Req :=
  let v := e.x.vec (file == 3#2) ix.toNat
  e.g.lanes.map fun i => ⟨i, e.d base + ((v.lane i).signExtend 64 <<< sh), size⟩

/-- Checks of an indexed operation (R443). -/
def Env.indexChecks (e : Env) (f : LIdx) : List Check :=
  e.vmemChecks f.file f.reg f.size true ++ [⟨decide (e.vreg ≤ f.ix.toNat), 5, f.ix.toNat⟩, ⟨f.rest != 0#3, 6, f.rest.toNat⟩]

/-- VGTH (R443). -/
def evalVgth (f : LIdx) (e : Env) : SlotOut :=
  let rs := e.indexReqs f.file f.ix f.base f.sh.toNat (elemBytes f.size.toNat)
  e.lanesActive (e.laccess { perm := .read } rs (e.indexChecks f)
    fun ls => .act (some f.token.toNat) fun s =>
      s.issueAccess
        { ctx := e.c, token := f.token.toNat, kind := .load, form := .lanes f.size.toNat, after := [], spaces := spacesOfAll rs
          elems := ls.map fun p => { lane := p.1.lane, loc := p.2, size := p.1.size }
          dest := .vector (f.file == 3#2) f.reg.toNat e.g } [] [])

/-- VSCT (R443): lanes in ascending order, so that the highest one to an element stays (R248). -/
def evalVsct (f : LIdx) (e : Env) : SlotOut :=
  let ty := f.size.toNat
  let rs := e.indexReqs f.file f.ix f.base f.sh.toNat (elemBytes ty)
  let v := e.x.vec (f.file == 3#2) f.reg.toNat
  e.lanesActive (e.laccess { perm := .write } rs (e.indexChecks f)
    fun ls => .act (some f.token.toNat) fun s =>
      s.issueAccess
        { ctx := e.c, token := f.token.toNat, kind := .store, after := [], spaces := spacesOfAll rs
          elems := ls.map fun p => { lane := p.1.lane, loc := p.2, size := p.1.size, data := BitVec.ofNat 64 (storedElem ty (v.lane p.1.lane)) } } [] [])

/-! ### Atomics and ordered accesses (R444, R445) -/

/-- The operation of an AOP code (R344); codes 11 to 15 are reserved. -/
def atomKind : Nat → AtomKind
  | 0 => .swap | 1 => .cas | 2 => .add | 3 => .and | 4 => .or | 5 => .xor | 6 => .min | 7 => .max | 8 => .minn | 9 => .maxn | _ => .fadd

/-- The spaces in which an ordered access is a release: ORD REL or AR. -/
def relSpaces (ord scope : Nat) (onGlobal : Bool) : List Nat := if 2 ≤ ord then scopeSpaces scope onGlobal else []
/-- The spaces in which an ordered access is an acquire: ORD ACQ or AR. -/
def acqSpaces (ord scope : Nat) (onGlobal : Bool) : List Nat := if ord % 2 = 1 then scopeSpaces scope onGlobal else []

/-- The checks that the three kinds of ATOM share (R434, R444). -/
def Env.atomChecks (e : Env) (f : LAtom) : List Check :=
  e.fileChecks true false f.file (f.rd.zeroExtend 9) ++
    [ ⟨f.ak == 3#2, 6, f.ak.toNat⟩, ⟨decide (10 < f.aop.toNat) || (f.ak != 0#2 && f.aop != 0#4), 6, f.aop.toNat⟩,
      ⟨decide (4 < f.scope.toNat), 6, f.scope.toNat⟩, ⟨f.sx == 1#1 && f.sz == 3#2, 6, f.sx.toNat⟩, ⟨f.rest != 0#2, 6, f.rest.toNat⟩ ]

/-- The element of an ATOM. -/
def Env.atomReq (e : Env) (f : LAtom) : Req := ⟨0, e.d f.base, sizeOf2 f.sz.toNat⟩

/-- The extension of an ATOM's result. -/
def atomSx (f : LAtom) : Option Nat := if f.sx = 1#1 then some (8 * sizeOf2 f.sz.toNat) else none

/-- A register of an ATOM's file. -/
def Env.atomReg (e : Env) (f : LAtom) (n : BitVec 6) : W64 := e.x.sfile (if f.file = 0#2 then .s0 else .s1) n.toNat

/-- ATOM with AK = 0 (R444); AK = 3 is reserved. -/
def evalAtom (f : LAtom) (e : Env) : SlotOut :=
  let r := e.atomReq f
  let glob := spaceOf r.addr == 0
  if e.g0 then
    e.laccess { perm := .atomic, rmw := true } [r]
      (e.atomChecks f ++ [⟨f.ak == 0#2 && (decide (f.sz.toNat < 2) || (f.aop == 10#4 && f.sz != 2#2)), 3, f.sz.toNat⟩])
      fun ls => .act (some f.token.toNat) fun s =>
        s.issueAccess
          { ctx := e.c, token := f.token.toNat, kind := .atomic (atomKind f.aop.toNat) (e.atomReg f f.rd), after := [], spaces := spacesOf [r]
            elems := ls.map fun p => { lane := 0, loc := p.2, size := r.size, data := e.atomReg f f.rs }
            dest := .scalar f.file.toNat f.rd.toNat (atomSx f) }
          (relSpaces f.ord.toNat f.scope.toNat glob) (acqSpaces f.ord.toNat f.scope.toNat glob)
  else .none

/-- LD with an order, ATOM with AK = 1 (R444). -/
def evalLdAcq (f : LAtom) (e : Env) : SlotOut :=
  let r := e.atomReq f
  if e.g0 then
    e.laccess { perm := .read, mmio := true } [r]
      (e.atomChecks f ++ [⟨decide (2 ≤ f.ord.toNat), 6, f.ord.toNat⟩, ⟨f.rs != 0#6, 6, f.rs.toNat⟩])
      fun ls => .act (some f.token.toNat) fun s =>
        s.issueAccess
          { ctx := e.c, token := f.token.toNat, kind := .load, after := [], spaces := spacesOf [r]
            elems := ls.map fun p => { lane := 0, loc := p.2, size := r.size }
            dest := .scalar f.file.toNat f.rd.toNat (atomSx f) }
          [] (acqSpaces f.ord.toNat f.scope.toNat (spaceOf r.addr == 0))
  else .none

/-- ST with an order, ATOM with AK = 2 (R444). -/
def evalStRel (f : LAtom) (e : Env) : SlotOut :=
  let r := e.atomReq f
  if e.g0 then
    e.laccess { perm := .write, mmio := true } [r]
      (e.atomChecks f ++ [⟨f.ord.toNat % 2 == 1, 6, f.ord.toNat⟩, ⟨f.rd != 0#6, 6, f.rd.toNat⟩])
      fun ls => .act (some f.token.toNat) fun s =>
        s.issueAccess
          { ctx := e.c, token := f.token.toNat, kind := .store, after := [], spaces := spacesOf [r]
            elems := ls.map fun p => { lane := 0, loc := p.2, size := r.size, data := e.atomReg f f.rs } }
          (relSpaces f.ord.toNat f.scope.toNat (spaceOf r.addr == 0)) []
  else .none

/-- VATOM (R445). An element of the host window is performed at its home as any other (R39, R254). -/
def evalVatom (f : LVAtom) (e : Env) : SlotOut :=
  let rs := e.indexReqs f.file f.ix f.base 2 4
  let v := e.x.vec (f.file == 3#2) f.reg.toNat
  let glob := rs.any fun r => spaceOf r.addr == 0
  e.lanesActive (e.laccess { perm := .atomic } rs
    (e.fileChecks false true f.file f.reg ++
      [ ⟨decide (e.vreg ≤ f.ix.toNat), 5, f.ix.toNat⟩, ⟨f.aop == 1#4 || decide (10 < f.aop.toNat), 6, f.aop.toNat⟩,
        ⟨decide (4 < f.scope.toNat), 6, f.scope.toNat⟩ ])
    fun ls => .act (some f.token.toNat) fun s =>
      s.issueAccess
        { ctx := e.c, token := f.token.toNat, kind := .atomic (atomKind f.aop.toNat) 0#64, after := [], spaces := spacesOfAll rs
          elems := ls.map fun p => { lane := p.1.lane, loc := p.2, size := 4, data := (v.lane p.1.lane).zeroExtend 64 }
          dest := if f.ret = 1#1 then .vector (f.file == 3#2) f.reg.toNat e.g else .none }
        (relSpaces f.ord.toNat f.scope.toNat glob) (acqSpaces f.ord.toNat f.scope.toNat glob))

/-! ### Fences and SYNC (R256, R257, R446) -/

/-- Checks of the scope layout. -/
def scopeChecks (f : LScope) : List Check :=
  [⟨f.hi != 0#29, 6, f.hi.toNat⟩, ⟨decide (4 < f.scope.toNat), 6, f.scope.toNat⟩, ⟨f.mid != 0#3, 6, f.mid.toNat⟩]

/-- FENCE (R256). -/
def evalFence (f : LScope) (e : Env) : SlotOut :=
  let sp := scopeSpaces f.scope.toNat false
  e.guarded (⟨f.token != 0#3, 4, f.token.toNat⟩ :: scopeChecks f)
    (.act none fun s =>
      let ids := ((s.pending e.c).filter fun p => sharesSpace sp p.2.spaces).map (·.1)
      if ids.isEmpty then s else s.addFence e.c sp ids)

/-- SYNC (R257). -/
def evalSync (f : LScope) (e : Env) : SlotOut :=
  e.guarded (scopeChecks f)
    (.act (some f.token.toNat) fun s =>
      s.issueAccess { ctx := e.c, token := f.token.toNat, kind := .sync f.scope.toNat, elems := [], after := [], spaces := [] } [] allSpaces)

/-! ### Transaction barriers (R447) -/

/-- The operand value v of a barrier operation. -/
def Env.barValue (e : Env) (f : LBar) : Nat :=
  if f.src = 0#1 then f.imm.toNat else (e.x.sfile (if f.file = 0#2 then .s0 else .s1) f.reg.toNat).toNat

/-- Checks of the barrier layout: v lies in lo to hi. -/
def Env.barChecks (e : Env) (f : LBar) (lo hi : Nat) : List Check :=
  let v := e.barValue f
  let bad := decide (v < lo) || decide (hi < v)
  (if f.src = 0#1 then [⟨f.file != 0#2, 0, f.file.toNat⟩, ⟨f.reg != 0#9, 0, f.reg.toNat⟩]
   else e.fileChecks true false f.file f.reg) ++
    [⟨if f.src = 0#1 then bad else f.imm != 0#18, 2, f.imm.toNat⟩, ⟨f.src == 1#1 && bad, 7, f.reg.toNat⟩]

/-- The barrier at d[BASE]. -/
def Env.barReq (e : Env) (f : LBar) : Req := ⟨0, e.d f.base, 16⟩

/-- A barrier operation that writes; `rel` are the spaces in which it is a release. -/
def Env.barWrite (e : Env) (f : LBar) (op : BarOp) (lo hi : Nat) (rel : List Nat) : SlotOut :=
  let r := e.barReq f
  if e.g0 then
    e.laccess { perm := .atomic, onlyLocal := true } [r] (e.barChecks f lo hi)
      fun ls => .act (some f.token.toNat) fun s =>
        s.issueAccess
          { ctx := e.c, token := f.token.toNat, kind := .bar op (e.barValue f), after := [], spaces := spacesOf [r]
            elems := ls.map fun p => { lane := 0, loc := p.2, size := 16 } } rel []
  else .none

/-- TBINIT (R447). -/
def evalTbinit (f : LBar) (e : Env) : SlotOut := e.barWrite f .init 1 (2 ^ 24 - 1) []
/-- TBARV (R447): a release at CLU scope. -/
def evalTbarv (f : LBar) (e : Env) : SlotOut := e.barWrite f .arrive 0 (2 ^ 32 - 1) (scopeSpaces 1 false)
/-- TBEXP (R447). -/
def evalTbexp (f : LBar) (e : Env) : SlotOut := e.barWrite f .expect 0 (2 ^ 32 - 1) []

/-- TBWAIT (R171, R447): it looks at the barrier as it stands, and no held access of the context stalls it (R254). -/
def evalTbwait (f : LBar) (e : Env) : SlotOut :=
  let r := e.barReq f
  if e.g0 then
    e.laccess { perm := .read, onlyLocal := true } [r] (e.barChecks f 0 15 ++ [⟨f.token != 0#3, 4, f.token.toNat⟩])
      fun ls =>
        match ls with
        | [] => .none
        | (_, l) :: _ =>
          let b := e.s.tbar l
          if b.phase ≠ e.barValue f then .none
          else if b.flags % 8 ≠ 0 then e.trap 0x0E (r.addr ||| BitVec.ofNat 64 b.flags)
          else .wait (.tbar l) id
  else .none

/-! ### The spill stack (R226, R448) -/

/-- Bytes of a context's spill carve-out. -/
def Env.carve (e : Env) : Nat := partSpill (e.s.part e.c) / partCtx (e.s.part e.c)

/-- The pieces of a spilled register: offset within the slot and bytes. -/
def spillPieces (file : BitVec 2) : List (Nat × Nat × Nat) :=
  if 2 ≤ file.toNat then (List.range 64).map fun i => (i, 4 * i, 4) else [(0, 0, 8)]

/-- Checks of SPILL and FILL. -/
def Env.spillChecks (e : Env) (f : LSpill) (bad : Bool) : List Check :=
  e.fileChecks true true f.file f.reg ++ [⟨f.rest != 0#24, 6, f.rest.toNat⟩, ⟨bad, 6, e.x.sptop.toNat⟩]

/-- The data of a spilled piece. -/
def Env.spillData (e : Env) (f : LSpill) (i : Nat) : W64 :=
  if 2 ≤ f.file.toNat then ((e.x.vec (f.file == 3#2) f.reg.toNat).lane i).zeroExtend 64
  else e.x.sfile (if f.file = 0#2 then .s0 else .s1) f.reg.toNat

/-- The destination of a FILL. -/
def fillDest (f : LSpill) : LoadDest :=
  if 2 ≤ f.file.toNat then .vector (f.file == 3#2) f.reg.toNat Mask.all else .scalar f.file.toNat f.reg.toNat none

/-- The place of a slot's first byte in the carve-out. -/
def Env.carveLoc (e : Env) (slot : Nat) : Loc := .spill (ctxCore e.c) (ctxSeq e.c * e.carve + 256 * slot)

/-- Bits 47 to 8 of OVFPTR (R240): what is added to it or subtracted from it stays in its field. -/
def ovfField (v : W64) : W64 := v &&& 0x0000FFFFFFFFFF00#64

/-- SPILL (R448). -/
def evalSpill (f : LSpill) (e : Env) : SlotOut :=
  let n := e.x.sptop.toNat
  let past := decide (e.carve < 256 * (n + 1))
  let ps := spillPieces f.file
  let rs : List Req := if past then ps.map fun p => ⟨p.1, e.x.ovfptr + BitVec.ofNat 64 p.2.1, p.2.2⟩ else []
  if e.g0 then
    e.laccess { perm := .write } rs (e.spillChecks f (n == 65535 || (past && e.x.ovfptr == 0#64)))
      fun ls =>
        let locs := if past then ls.map fun q => (q.1.lane, q.2, q.1.size) else ps.map fun p => (p.1, (e.carveLoc n).add p.2.1, p.2.2)
        .act (some f.token.toNat) fun s =>
          (s.modCtx e.c fun x =>
            { x with sptop := x.sptop + 1, ovfptr := if past then ovfField (x.ovfptr + 256#64) else x.ovfptr }).issueAccess
            { ctx := e.c, token := f.token.toNat, kind := .store, after := [], spaces := [if past then 0 else carveSpace]
              elems := locs.map fun q => { lane := q.1, loc := q.2.1, size := q.2.2, data := e.spillData f q.1 } } [] []
  else .none

/-- FILL (R448). -/
def evalFill (f : LSpill) (e : Env) : SlotOut :=
  let n := e.x.sptop.toNat - 1
  let past := decide (e.carve < 256 * (n + 1))
  let base := ovfField (e.x.ovfptr - 256#64)
  let ps := spillPieces f.file
  let rs : List Req := if past then ps.map fun p => ⟨p.1, base + BitVec.ofNat 64 p.2.1, p.2.2⟩ else []
  if e.g0 then
    e.laccess { perm := .read } rs (e.spillChecks f (e.x.sptop == 0#16))
      fun ls =>
        let locs := if past then ls.map fun q => (q.1.lane, q.2, q.1.size) else ps.map fun p => (p.1, (e.carveLoc n).add p.2.1, p.2.2)
        .act (some f.token.toNat) fun s =>
          (s.modCtx e.c fun x =>
            { x with sptop := x.sptop - 1, ovfptr := if past then base else x.ovfptr }).issueAccess
            { ctx := e.c, token := f.token.toNat, kind := .load, after := [], spaces := [if past then 0 else carveSpace]
              form := if 2 ≤ f.file.toNat then .lanes 9 else .plain
              elems := locs.map fun q => { lane := q.1, loc := q.2.1, size := q.2.2 }
              dest := fillDest f } [] []
  else .none

/-! ### Address registers (R449) -/

/-- DADD (R449). -/
def evalDadd (f : LDadd) (e : Env) : SlotOut :=
  let v := if f.m = 0#1 then f.imm.signExtend 64 else e.d (f.imm.extractLsb' 19 5)
  e.guarded [⟨f.token != 0#3, 4, f.token.toNat⟩, ⟨f.m == 1#1 && bits f.imm 18 0 != 0, 6, bits f.imm 18 0⟩]
    (e.result 1 (.scalar (.d f.dd.toNat) (e.d f.ds + v)))

/-- DLI (R449). -/
def evalDli (f : LDli) (e : Env) : SlotOut :=
  let sh := 16 * f.q.toNat
  let v := f.v.zeroExtend 64 <<< sh
  e.guarded [⟨f.token != 0#3, 4, f.token.toNat⟩, ⟨f.rest != 0#11, 6, f.rest.toNat⟩]
    (e.result 1 (.scalar (.d f.dd.toNat) (if f.ins = 1#1 then (e.d f.dd &&& ~~~(0xFFFF#64 <<< sh)) ||| v else v)))

/-- DCPY (R449). -/
def evalDcpy (f : LDcpy) (e : Env) : SlotOut :=
  let t := f.tfile.toNat
  e.guarded
    [ ⟨f.token != 0#3, 4, f.token.toNat⟩, ⟨decide (5 < t), 5, t⟩, ⟨decide (t ≤ 5) && decide (fileSize t ≤ f.treg.toNat), 6, f.treg.toNat⟩,
      ⟨f.rest != 0#20, 6, f.rest.toNat⟩ ]
    (e.result 2 (.scalar (fileDest t f.treg.toNat) (e.d f.ds)))

/-! ### L1 maintenance and prefetch (R450) -/

/-- A token operation that changes timing only: it completes by MEMORY_ACCESS_COMPLETE. -/
def Env.timingOnly (e : Env) (token : BitVec 3) (f : State → State) : SlotOut :=
  .act (some token.toNat) fun s =>
    (f s).issueAccess { ctx := e.c, token := token.toNat, kind := .load, elems := [], after := [], spaces := [] } [] []

/-- L1INV and L1WB (R450). -/
def Env.lineRange (e : Env) (f : LLine) : SlotOut :=
  e.guarded [⟨f.hi != 0#11, 6, f.hi.toNat⟩, ⟨f.all == 0#1 && spaceOf (e.d f.base) != 0, 7, f.base.toNat⟩] (e.timingOnly f.token id)

/-- L1INV (R450). -/
def evalL1inv (f : LLine) (e : Env) : SlotOut := e.lineRange f
/-- L1WB (R450). -/
def evalL1wb (f : LLine) (e : Env) : SlotOut := e.lineRange f

/-- PRF (R450). -/
def evalPrf (f : LGen) (e : Env) : SlotOut :=
  e.guarded [⟨f.file != 0#2, 0, f.file.toNat⟩, ⟨f.reg != 0#9, 0, f.reg.toNat⟩, ⟨decide (2 ≤ f.size.toNat), 3, f.size.toNat⟩]
    (e.timingOnly f.token (e.postStep f 1 f.base.toNat))

end Sys2Proof.Machine
end

