-- ==== Sys2Proof/Machine/Engine.lean ====
section
/-! DEFINITION. The engine-slot operations (file 21): the forms of R451, the checks of R452, the moments of R453, and what each operation
asks of its engine. -/

namespace Sys2Proof.Machine

/-! ### Forms and checks (R451 to R453) -/

/-- Which fields an operation uses. -/
structure EUse where
  ed : Bool := true
  es1 : Bool := true
  es2 : Bool := false
  /-- ed names a pair of registers, or es2 does. -/
  edPair : Bool := false
  es2Pair : Bool := false
  token : Bool := true
  deriving DecidableEq, Repr

/-- A register field with its Q bit. -/
def eFieldBad (used pair q : Bool) (v : BitVec 5) : Bool :=
  if !used then v != 0#5 else if pair then v.getLsbD 0 || v == 31#5 else q && decide (8 ≤ v.toNat)

/-- The checks of the fields of R451; `immBad` says whether IMM holds a reserved value. -/
def eChecks (f : EForm) (u : EUse) (immBad : Bool) : List Check :=
  let q := fun (i : Nat) => f.q.getLsbD i
  [ ⟨eFieldBad u.ed u.edPair (q 2) f.ed, 0, f.ed.toNat⟩,
    ⟨eFieldBad u.es1 false (q 1) f.es1, 1, f.es1.toNat⟩,
    ⟨eFieldBad u.es2 u.es2Pair (q 0) f.es2, 2, f.es2.toNat⟩,
    ⟨((!u.ed || u.edPair) && q 2) || (!u.es1 && q 1) || ((!u.es2 || u.es2Pair) && q 0), 3, f.q.toNat⟩,
    ⟨!u.token && f.token != 0#3, 4, f.token.toNat⟩,
    ⟨immBad, 5, f.imm.toNat⟩ ]

/-- The number of a destination: e register n, or 32 + n for a latch. -/
def eDestNum (f : EForm) : Nat := if f.q.getLsbD 2 then 32 + f.ed.toNat % 8 else f.ed.toNat

/-- The number by which an engine keeps a destination, beside 64 times that of the result which the operation will write there (R453). -/
def Env.destNum (e : Env) (f : EForm) : Nat := eDestNum f + 64 * e.x.resultNo

/-- An operation that counts on its token (R216). -/
def Env.counted (_ : Env) (f : EForm) (k : State → State) : SlotOut := .act (some f.token.toNat) k

/-- An operation that counts on its token and writes registers as the token clears (R437, R453). -/
def Env.awaitsAll (e : Env) (f : EForm) (ds : List Dest) (k : State → State) : SlotOut := e.counted f fun s => k (s.expect e.c ds)

/-- An operation that counts on its token and writes ed as the token clears. -/
def Env.awaits (e : Env) (f : EForm) (k : State → State) : SlotOut := e.awaitsAll f [eDest f] k

/-- The token clears at the end of count t + 1, with these results (R453). -/
def Env.atOnce (e : Env) (f : EForm) (ws : List (Dest × W64)) (s : State) : State :=
  s.addFlight e.c 2 (.reply f.token.toNat e.x.resultNo ws)

/-- A result at clearing, for an operation that clears its token at once. -/
def Env.answer (e : Env) (f : EForm) (v : W64) (s : State) : State := e.atOnce f [(eDest f, v)] s

/-- A stall on macro-ops that read the bank groups which some bytes of the scratchpad touch (R225). Where those are all of the context itself, it
ends at the last of their landings (log entry 15). -/
def Env.groupStall (e : Env) (rs : List Req) : SlotOut :=
  let q := groupSize (e.s.part e.c)
  let hit := fun (g : Nat) => rs.any fun r => bits r.addr 59 0 / q == g || (bits r.addr 59 0 + r.size - 1) / q == g
  let own := e.x.flight.filterMap fun fl => match fl.what with | .macroOp m => if m.groups.any hit then some fl.land else none | _ => none
  let others := (List.range 4).any fun i =>
    let c := 4 * ctxCore e.c + i
    c != e.c && (match e.s.ctx c with | some y => y.groupsRead.any hit | none => false)
  .stall (if others || own.isEmpty then none else some (own.foldl max 0))

/-- An address in space 0xF at user level is PRIV before every operand check (R243, R263). -/
def Env.guardedAt (e : Env) (a : W64) (cs : List Check) (k : SlotOut) : SlotOut :=
  if e.g0 && bits a 63 60 == 0xF && !e.x.sup then e.priv 0 else e.guarded cs k

/-- An address outside the spaces of its operation: PERM in the reserved spaces and in space 0xA, as for any load (R243, R454), and ALIGN in a
space that exists, DEDUCED (log entry 37). -/
def Env.wrongSpace (e : Env) (a : W64) : SlotOut := e.trap (if [0x0, 0x8, 0x9, 0xF].contains (bits a 63 60) then 0x04 else 0x06) a

/-- A status word. -/
def statusWord (n : Nat) : W64 := BitVec.ofNat 64 n

/-- The load by which an operation reads its operand (R454). -/
def Env.probe (e : Env) (ls : List (Req × Loc)) : Access :=
  { ctx := e.c, token := 0, kind := .load, elems := ls.map fun p => { lane := 0, loc := p.2, size := p.1.size }, after := []
    spaces := spacesOf (ls.map (·.1)) }

/-- Bytes that an operation reads at issue as a load of the context (R454): ALIGN where the address is misaligned, the trap of an address outside
its spaces, PAGE and PERM, and a stall while a macro-op reads the bank group, or while an access that a load is performed after is held (R254,
log entry 27). The issue is a release of what is applied at the die (R259), and waits for nothing else. -/
def Env.operand (e : Env) (a : W64) (n align : Nat) (spaces : List Nat) (k : List Byte → SlotOut) : SlotOut :=
  if a.toNat % align != 0 then e.trap 0x04 a
  else if !spaces.contains (bits a 63 60) then e.wrongSpace a
  else
    let rs := (List.range (n / align)).map fun i => (⟨0, a + BitVec.ofNat 64 (align * i), align⟩ : Req)
    match e.resolveAll { perm := .read } rs with
    | .error .priv => e.priv 0
    | .error (.other code arg) => if code = 0x07 then e.groupStall rs else e.trap code arg
    | .ok ls =>
      if !(e.s.depsOf e.c (e.probe ls) []).isEmpty || e.s.hostQueued (ls.map (·.2)) then .stall
      else match ls.findSome? fun r => e.s.poisoned r.2 r.1.size with
      | some q => e.trap 0x11 (BitVec.ofNat 64 (32 * q))
      | none =>
        match k (ls.flatMap fun r => e.s.readLoc (ctxDie e.c) r.2 r.1.size) with
        | .act t f => .act t fun s => f (s.fillAll (ctxCluster e.c) rs)
        | o => o

/-- The 64-bit words of some bytes. -/
def wordsOf (bs : List Byte) (n : Nat) : List W64 := (List.range n).map fun i => wordOf (bs.drop (8 * i))

/-- A descriptor in space 0x8 or 0x9 (R454). -/
def Env.descriptor (e : Env) (a : W64) (n : Nat) (k : List W64 → SlotOut) : SlotOut :=
  e.operand a (8 * n) 32 [0x8, 0x9] fun bs => k (wordsOf bs n)

/-- The place of an object that an operation names, in some spaces, else ALIGN (R460, R466). -/
def Env.object (e : Env) (a : W64) (n : Nat) (spaces : List Nat) (k : Loc → SlotOut) : SlotOut :=
  if !spaces.contains (bits a 63 60) || a.toNat % n != 0 then e.trap 0x04 a
  else match e.resolve { perm := .write } ⟨0, a, n⟩ with
    | .error .priv => e.priv 0
    | .error (.other code arg) => if code = 0x07 then e.groupStall [⟨0, a, n⟩] else e.trap code arg
    | .ok l => k l

/-! ### Sluice (R456 to R458) -/

/-- LAYOUT of SLJOB (R67, R160): a transpose that the source record does not allow. -/
def State.cardLayout (s : State) (d : Nat) (w : List W64) : Bool :=
  let r := s.record d (cardHandle w false)
  cardTransp w && cardSrck w == 1 && r.valid && (!r.transp || r.smode == 2)

/-- The records that the checks of a card read (R160, R161). -/
def cardReads (d : Nat) (w : List W64) : List (Nat × Nat) :=
  (if cardSrck w = 1 then [(recAddr d (cardHandle w false), 64)] else []) ++ if cardDstk w = 1 then [(recAddr d (cardHandle w true), 64)] else []

/-- SLJOB (R456): a card in another space than 0x8 and 0x9 is ALIGN. -/
def evalSljob (f : EForm) (e : Env) : SlotOut :=
  let a := e.es1 f
  let d := ctxDie e.c
  e.guarded (eChecks f {} (f.imm != 0#17))
    (if ! [0x8, 0x9].contains (bits a 63 60) then e.trap 0x04 a else e.operand a 128 32 [0x8, 0x9] fun bs =>
      let w := wordsOf bs 16
      e.clean (cardReads d w) <| if e.s.cardMisaligned d w then e.trap 0x04 a
      else if e.s.cardLayout d w then e.trap 0x08 (BitVec.ofNat 64 (cardHandle w false))
      else
        let st := e.s.cardStatus e.c w
        if st ≠ 0 then e.awaits f (e.answer f (BitVec.ofNat 64 (st * 2 ^ 56)))
        else match (e.s.die d).freePlace with
        | none => .wait .scheduler id
        | some pl => e.counted f fun s =>
            let ref := jobRef d (s.die d).accepted pl
            (s.issueCard e.c e.x.sup f.token.toNat pl w).addFlight e.c 2 (.scalar (eDest f) ref))

/-- The job that a JOBREF names, if it is kept (R457). -/
def State.jobOf (s : State) (d : Nat) (ref : W64) : Option Job :=
  (s.die d).jobs.find? fun j => jobRef d j.serial j.place == ref

/-- The status word of a JOBREF (R457). -/
def State.jobWord (s : State) (d : Nat) (ref : W64) : W64 :=
  match s.jobOf d ref with
  | some j => j.word
  | none => 0xFF#64

/-- A JOBREF of another die (R457). -/
def Env.foreignJob (e : Env) (ref : W64) : Bool := bits ref 63 56 == 0 && bits ref 43 42 != ctxDie e.c

/-- SLSTAT (R457). -/
def evalSlstat (f : EForm) (e : Env) : SlotOut :=
  let ref := e.es1 f
  e.guarded (eChecks f {} (f.imm != 0#17) ++ [⟨e.foreignJob ref, 7, f.es1.toNat⟩])
    (e.awaits f fun s => e.answer f (s.jobWord (ctxDie e.c) ref) s)

/-- SLKILL (R457). -/
def evalSlkill (f : EForm) (e : Env) : SlotOut :=
  let ref := e.es1 f
  let d := ctxDie e.c
  e.guarded (eChecks f {} (f.imm != 0#17) ++ [⟨e.foreignJob ref, 7, f.es1.toNat⟩])
    (e.awaits f fun s =>
      let s' := match s.jobOf d ref with
        | some j => s.endJob d j.serial .killed
        | none => s
      e.answer f (s.jobWord d ref) s')

/-- STBIND (R458). -/
def evalStbind (f : EForm) (e : Env) : SlotOut :=
  let n := bits f.imm 2 0
  e.guarded (eChecks f { es1 := false } (bits f.imm 16 4 != 0))
    (e.awaits f fun s =>
      let t : Stream := match s.ctx e.c with | some x => SMap.get {} x.f n | none => ({} : Stream)
      if f.imm.getLsbD 3 then
        (s.modCtx e.c fun x => { x with f := SMap.set {} x.f n {} }) |> e.answer f (BitVec.ofNat 64 t.buf.length)
      else e.answer f (BitVec.ofNat 64 (t.buf.length * 256 + (if t.bound.isSome then 1 else 0))) s)

/-! ### Riffle (R175 to R181, R459) -/

/-- RMOV (R459): a trigger whose queue is full waits. -/
def evalRmov (f : EForm) (e : Env) : SlotOut :=
  let u := bits f.imm 9 8
  let p := bits f.imm 7 0
  let cl := ctxCluster e.c
  let v := e.es1 f
  let r := e.s.riffle cl u
  e.guarded (eChecks f { ed := false } (bits f.imm 16 10 != 0 || !(decide (p < 8) || (rkindOf p).isSome)))
    (match rkindOf p with
     | none => e.counted f fun s =>
         (s.modRiffle cl u fun r => { r with ports := SMap.set 0#64 r.ports (8 * e.c + p) v }) |> e.atOnce f []
     | some k =>
       let ports := (List.range 8).foldl (fun (m : SMap W64) q => SMap.set 0#64 m q (SMap.get 0#64 r.ports (8 * e.c + q))) []
       let o : ROp := { ctx := e.c, sup := e.x.sup, kind := k, ports := ports, trig := v, token := f.token.toNat, after := e.s.heldWrites e.c }
       match o.misaligned with
       | some a => e.trap 0x04 a
       | none =>
         e.clean (o.handleReads (ctxDie e.c)) <| if e.s.riffleCheck o ≠ 0 then e.counted f fun s => (s.trigger cl u o).1 |> e.atOnce f []
         else if 8 ≤ r.queue.length then .wait (.riffle cl u) id
         else e.counted f fun s => (s.trigger cl u o).1)

/-- RGET (R459). -/
def evalRget (f : EForm) (e : Env) : SlotOut :=
  let u := bits f.imm 9 8
  let p := bits f.imm 7 0
  e.guarded (eChecks f { es1 := false } (bits f.imm 16 10 != 0 || !(decide (p < 8) || p == 0x20 || p == 0x21)))
    (e.awaits f fun s => e.answer f ((s.riffle (ctxCluster e.c) u).portValue e.c p) s)

/-! ### Eddy (R460) -/

/-- EDSTASH (R201, R460). -/
def evalEdstash (f : EForm) (e : Env) : SlotOut :=
  e.guardedAt (e.es1 f) (eChecks f {} (f.imm != 0#17))
    (e.descriptor (e.es1 f) 4 fun w =>
      match stashMisaligned w with
      | some a => e.trap 0x04 a
      | none =>
        e.clean (if bits (w.getD 0 0#64) 19 0 = 0 then [] else [(recAddr (ctxDie e.c) (bits (w.getD 0 0#64) 19 0), 64)]) <| match e.s.stashStatus e.c e.x.sup w with
        | (_, some n) =>
          if n.state = .dropped then e.awaits f fun s => s.edstash e.c f.token.toNat none n |> e.answer f 0#64
          else e.counted f fun s =>
            (s.edstash e.c f.token.toNat (s.die (ctxDie e.c)).freePlace n).addFlight e.c 2 (.scalar (eDest f) 0#64)
        | (st, none) => e.awaits f (e.answer f (statusWord st)))

/-- A key word whose other bits are not zero (R460). -/
def keyBad (w : W64) : Bool := bits w 25 0 != 0

/-- EDFETCH (R203, R460), once its attachment is known. -/
def Env.fetch (e : Env) (f : EForm) (a : Option Attach) : SlotOut :=
  let d := ctxDie e.c
  let key := keyOf (e.es1 f)
  let st := e.s.fetchStatus d key a
  if st ≠ 0 then e.awaits f (e.answer f (statusWord st))
  else
    e.counted f fun s =>
      let r := s.edfetch d key e.c (s.die d).freePlace a (some (e.c, f.token.toNat))
      if r.2 then r.1.addFlight e.c 2 (.scalar (eDest f) 0#64) else e.answer f 0#64 (r.1.expect e.c [eDest f])

/-- EDFETCH (R203, R460). -/
def evalEdfetch (f : EForm) (e : Env) : SlotOut :=
  let kind := bits f.imm 1 0
  let n := bits f.imm 4 2
  e.guarded (eChecks f { es2 := kind == 1 } (kind == 3 || bits f.imm 16 5 != 0 || (kind != 2 && n != 0)) ++
      [⟨keyBad (e.es1 f), 7, f.es1.toNat⟩])
    (match kind with
     | 1 => e.object (e.es2 f) 16 [0x8, 0x9] fun l => e.fetch f (some (.barrier l))
     | 2 => e.fetch f (some (.stream e.c n))
     | _ => e.fetch f none)

/-- EDFREE (R204). -/
def evalEdfree (f : EForm) (e : Env) : SlotOut :=
  let key := keyOf (e.es1 f)
  let d := ctxDie e.c
  e.guarded (eChecks f {} (f.imm != 0#17) ++ [⟨keyBad (e.es1 f), 7, f.es1.toNat⟩])
    (if (e.s.stash d key).isNone then e.awaits f (e.answer f 1#64)
     else e.awaits f fun s => s.edfree d key e.c f.token.toNat (e.destNum f))

/-- EDQRY (R204). -/
def evalEdqry (f : EForm) (e : Env) : SlotOut :=
  e.guarded (eChecks f {} (f.imm != 0#17) ++ [⟨keyBad (e.es1 f), 7, f.es1.toNat⟩])
    (e.awaits f fun s => e.answer f (s.eddyWord (ctxDie e.c) (keyOf (e.es1 f))) s)

/-! ### Braid (R461 to R463) -/

/-- IMM holds a channel of the module. -/
def chanBad (f : EForm) : Bool := decide (1536 ≤ f.imm.toNat)

/-- CHSEND (R462): with no credit the context waits on the channel (R86). -/
def evalChsend (f : EForm) (e : Env) : SlotOut :=
  let n := f.imm.toNat
  e.guardedAt (e.es1 f) (eChecks f {} (chanBad f))
    (e.descriptor (e.es1 f) 4 fun w =>
      e.clean (if sendSrck w then [(recAddr (e.s.sendReplica n w) (sendField w 63 44), 64)] else []) <|
      if !sendSrck w && bits (w.getD 0 0#64) 4 0 != 0 then e.trap 0x04 (w.getD 0 0#64)
      else
        let st := e.s.sendStatus n e.c w
        if st ≠ 0 then e.awaits f fun s => e.answer f (statusWord st) (s.dropGrant n e.c)
        else if e.s.windowOpen n e.c then e.awaits f fun s => s.takeCredit n e.c e.x.sup f.token.toNat (e.destNum f) w
        else .wait (.window n) fun s => s.modChan n fun x => { x with waiters := x.waiters ++ [e.c] })

/-- CHRECV (R89, R463). -/
def evalChrecv (f : EForm) (e : Env) : SlotOut :=
  let n := f.imm.toNat
  let ed := f.ed.toNat
  let k := e.s.chan n
  let both : List Dest := [.e ed, .e (ed + 1)]
  let fail := fun (st : Nat) => e.awaitsAll f both (e.atOnce f [(.e ed, statusWord st), (.e (ed + 1), 0#64)])
  e.guarded (eChecks f { es1 := false, edPair := true } (chanBad f))
    (if k.state ≠ .recv ∨ k.sink ≠ 0#2 then fail 1
     else if 64 ≤ k.recvs.length then fail 2
     else e.awaitsAll f both fun s => s.modChan n fun x => { x with recvs := x.recvs ++ [⟨e.c, f.token.toNat, e.destNum f⟩] })

/-- CHREL (R90, R463). -/
def evalChrel (f : EForm) (e : Env) : SlotOut :=
  let n := f.imm.toNat
  let seq := (e.es1 f).extractLsb' 0 16
  e.guarded (eChecks f {} (chanBad f))
    (if (e.s.chan n).state ≠ .recv then e.awaits f (e.answer f 1#64)
     else e.awaits f fun s => match s.release n seq with
       | some r => e.answer f (BitVec.ofNat 64 (r.2 * 256)) r.1
       | none => e.answer f 6#64 s)

/-- The window word (R463). -/
def Chan.word (k : Chan) : W64 :=
  BitVec.ofNat 64 (k.pcount.toNat % 2 ^ 32 * 2 ^ 32 + k.seq.toNat * 65536 + k.win % 256 * 256 + k.state.code)

/-- CHWIN (R463). -/
def evalChwin (f : EForm) (e : Env) : SlotOut :=
  e.guarded (eChecks f { es1 := false } (chanBad f)) (e.awaits f fun s => e.answer f (s.chan f.imm.toNat).word s)

/-! ### Oxbow (R464, R465) -/

/-- A collective (R465). -/
def Env.collective (e : Env) (f : EForm) (op : Nat) (flag : W64) : SlotOut :=
  e.descriptor (e.es1 f) 4 fun w =>
    match collMisaligned w with
    | some a => e.trap 0x04 a
    | none =>
      if collBad op w then e.awaits f (e.answer f 1#64)
      else e.awaits f fun s => s.oxIssue e.c e.x.sup f.token.toNat (e.destNum f) op w flag

/-- OXRED (R465). -/
def evalOxred (f : EForm) (e : Env) : SlotOut :=
  e.guardedAt (e.es1 f) (eChecks f {} (bits f.imm 16 1 != 0)) (e.collective f (bits f.imm 0 0) 0#64)
/-- OXGATH (R465). -/
def evalOxgath (f : EForm) (e : Env) : SlotOut :=
  e.guardedAt (e.es1 f) (eChecks f { es2 := true } (f.imm != 0#17)) (e.collective f 2 (e.es2 f))

/-! ### Weir (R147, R155, R466 to R468) -/

/-- The place of a block, where it has one (R466). -/
def Env.blockAt (e : Env) (a : W64) : Option Loc :=
  match e.resolve { perm := .write } ⟨0, a, 32⟩ with
  | .ok l => some l
  | .error _ => none

/-- A fifth distinct block (R147). -/
def Env.fifthBlock (e : Env) (a : W64) : Bool :=
  decide (4 ≤ e.x.posts.length) && (match e.blockAt a with | some l => !e.x.posts.contains l | none => true)

/-- WPOST (R466). -/
def evalWpost (f : EForm) (e : Env) : SlotOut :=
  let a := e.es1 f
  e.guarded (eChecks f {} (f.imm != 0#17) ++ [⟨e.fifthBlock a, 7, f.es1.toNat⟩])
    (e.object a 32 [0x0, 0x9] fun l => e.awaits f fun s =>
      (s.sendPost (ctxDie e.c) l (some (e.c, f.token.toNat, e.destNum f)) (s.heldWrites e.c)).modCtx e.c fun x =>
        if x.posts.contains l then x else { x with posts := x.posts ++ [l] })

/-- WRAISE (R466): it stalls until the block's home has decided. -/
def evalWraise (f : EForm) (e : Env) : SlotOut :=
  let a := e.es1 f
  let n := bits (e.es2 f) 31 0
  let d := ctxDie e.c
  e.guarded (eChecks f { es2 := true } (f.imm != 0#17))
    (e.object a 32 [0x0, 0x9] fun l =>
      if !e.s.blockReady d l (e.s.die d).vc then .stall
      else e.clean (l.runs 32) <| match (e.s.applyRaise d l (e.x.posts.contains l) n).2 with
        | none => e.trap 0x0F a
        | some st => e.awaits f fun s => e.answer f (statusWord st) (s.applyRaise d l false n).1)

/-- WARR (R467). -/
def evalWarr (f : EForm) (e : Env) : SlotOut :=
  let w := e.es1 f
  let dep := e.es2 f
  let lt := e.x.eReg (f.es2.toNat + 1)
  let d := bits w 11 10
  e.guarded (eChecks f { es2 := true, es2Pair := true } (f.imm != 0#17) ++ [⟨bits w 31 12 != 0 || bit w 4, 7, f.es1.toNat⟩])
    (if bits dep 4 0 ≠ 0 then e.trap 0x04 dep
     else e.awaits f fun s =>
       let entry : QEntry :=
         { tag := w.extractLsb' 32 32, phase := bits w 3 0, chan := 0xFFFF#16, seq := 0#16, dep := dep, depCluster := ctxCluster e.c, lt := lt }
       let a : Arrival :=
         { id := s.nextId, stage := bits w 9 7, queue := bits w 6 5, entry := entry, ctx := e.c, token := f.token.toNat, dest := e.destNum f
           clock := (s.die (ctxDie e.c)).vc, after := s.heldWrites e.c }
       ({ s with nextId := s.nextId + 1 } : State).modDie d fun x => { x with arrivals := x.arrivals ++ [a] })

/-- SPAWN (R155, R468). -/
def evalSpawn (f : EForm) (e : Env) : SlotOut :=
  let q := bits f.imm 1 0
  let t := ctxCore e.c * 4 + q
  let n := f.es2.toNat
  e.guarded (eChecks f { ed := false, es2 := true } (bits f.imm 16 2 != 0 || decide (partCtx (e.s.part e.c) ≤ q)) ++
      [⟨decide (24 < n), 2, n⟩, ⟨f.q.getLsbD 0, 3, f.q.toNat⟩])
    (if (e.s.ctx t).isSome || e.s.reserved t then e.trap 0x0B (BitVec.ofNat 64 q)
     else e.counted f fun s =>
       (s.spawn e.c t ((e.es1 f).truncate 48) ((List.range 8).map fun i => e.x.eReg (n + i))).reply e.c f.token.toNat [])

/-! ### Gauges, records and leases (R469 to R471) -/

/-- GRD (R469). -/
def evalGrd (f : EForm) (e : Env) : SlotOut :=
  e.guarded (eChecks f {} (!grdValid f.imm.toNat))
    (e.clean (grdReads (ctxDie e.c) (bits (e.es1 f) 15 0) f.imm.toNat)
      (e.awaits f fun s => e.answer f (s.grd (ctxDie e.c) (bits (e.es1 f) 15 0) f.imm.toNat) s))

/-- GUPD (R470): one contribution for each 32 bytes of source. -/
def evalGupd (f : EForm) (e : Env) : SlotOut :=
  let ty := bits f.imm 3 0
  let n := bits f.imm 9 4 + 1
  let g := bits (e.es1 f) 15 0
  let z := elemBytes ty
  let d := ctxDie e.c
  e.guardedAt (e.es2 f) (eChecks f { ed := false, es2 := true } (bits f.imm 16 10 != 0 || [4, 5, 6, 7, 14, 15].contains ty) ++
      [⟨!e.s.gaugeAlloc d g, 7, f.es1.toNat⟩])
    (e.operand (e.es2 f) (n * z) z [0x0, 0x8, 0x9] fun bs => e.clean (allocRead d g) <| e.counted f fun s =>
      let val := fun (i : Nat) => valueOf ty (leNat ((bs.drop (i * z)).take z))
      let per := 32 / z
      let us := (List.range (ceilDiv n per)).map fun b =>
        ({ die := d, g := g, c := contribution ((List.range (min per (n - per * b))).map fun i => val (per * b + i))
           token := some (e.c, f.token.toNat, s.nextId) } : GaugeUpd)
      { s with gaugeQ := s.gaugeQ ++ us, nextId := s.nextId + 1 })

/-- A supervisor operation of the E slot (R452). -/
def Env.eSup (e : Env) (cs : List Check) (k : SlotOut) : SlotOut := e.guardedSup cs k

/-- GNEW (R70). -/
def evalGnew (f : EForm) (e : Env) : SlotOut :=
  e.eSup (eChecks f {} (f.imm != 0#17)) (e.awaits f fun s =>
    match s.gnew e.c f.token.toNat (e.destNum f) (e.es1 f) with
    | (s, v, true) => e.answer f v s
    | (s, _, false) => s)

/-- GSEAL and GRESCALE (R75 to R79, R471). -/
def Env.seal (e : Env) (f : EForm) (rescale : Bool) : SlotOut :=
  e.clean (allocRead (ctxDie e.c) (bits (e.es1 f) 15 0)) <| e.awaits f fun s =>
    match s.requestSeal e.c f.token.toNat (e.destNum f) (bits (e.es1 f) 15 0) rescale with
    | (s, v, true) => e.answer f v s
    | (s, _, false) => s

/-- GSEAL (R76, R471). -/
def evalGseal (f : EForm) (e : Env) : SlotOut := e.eSup (eChecks f {} (f.imm != 0#17)) (e.seal f false)
/-- GRESCALE (R79, R471). -/
def evalGrescale (f : EForm) (e : Env) : SlotOut := e.guarded (eChecks f {} (f.imm != 0#17)) (e.seal f true)

/-- RECSET (R65, R66, R471). -/
def evalRecset (f : EForm) (e : Env) : SlotOut :=
  let h := bits (e.es1 f) 19 0
  e.eSup (eChecks f { es2 := true } (f.imm != 0#17))
    (e.operand (e.es2 f) 64 8 [0x0, 0x8, 0x9] fun bs =>
      let st := e.s.recStatus (ctxDie e.c) h (recOf bs)
      e.clean (if (recOf bs).valid && (recOf bs).gmode != 0 then allocRead (ctxDie e.c) (recOf bs).gidx else []) <|
      if st ≠ 0 then e.awaits f (e.answer f (statusWord st))
      else e.awaits f fun s => s.requestRecord e.c f.token.toNat (e.destNum f) h bs)

/-- LEASE (R46, R47, R471). -/
def evalLease (f : EForm) (e : Env) : SlotOut :=
  let base := (e.es1 f).toNat
  let len := (e.es2 f).toNat
  e.guarded (eChecks f { es2 := true, es2Pair := true } (f.imm != 0#17))
    (e.awaits f fun s =>
      let r := s.leaseStatus e.c base len
      let n := s.freeLease.getD 0
      if r.1 ≠ 0 then e.answer f (statusWord r.1) s
      else s.newLease n base len (e.x.eReg (f.es2.toNat + 1)) r.2 |> e.answer f (BitVec.ofNat 64 (n * 256)))

/-- LREL (R48, R471). -/
def evalLrel (f : EForm) (e : Env) : SlotOut :=
  let v := e.es1 f
  e.guarded (eChecks f {} (f.imm != 0#17) ++ [⟨bits v 63 6 != 0, 7, f.es1.toNat⟩])
    (e.awaits f fun s =>
      let r := s.releaseLease (bits v 5 0)
      e.answer f (statusWord r.2) r.1)

/-! ### Register operations and time (R472, R473) -/

/-- ELI (R472). -/
def evalEli (f : EForm) (e : Env) : SlotOut :=
  let q := f.es2.toNat % 4
  let v : W64 := (f.imm.extractLsb' 0 16).zeroExtend 64 <<< (16 * q)
  let old := e.eread (f.q.getLsbD 2) f.ed
  e.guarded (eChecks f { es1 := false, es2 := true, token := false } false ++
      [⟨decide (4 ≤ f.es2.toNat), 2, f.es2.toNat⟩, ⟨f.q.getLsbD 0, 3, f.q.toNat⟩])
    (e.result 1 (.scalar (eDest f) (if f.imm.getLsbD 16 then (old &&& ~~~(0xFFFF#64 <<< (16 * q))) ||| v else v)))

/-- ECPY (R472). -/
def evalEcpy (f : EForm) (e : Env) : SlotOut :=
  let file := bits f.imm 16 13
  let lane := bits f.imm 12 7
  let bc := f.imm.getLsbD 6
  let r := bits f.imm 3 0 * 32 + f.ed.toNat
  let scalar := decide (file ≤ 5)
  let bad := bits f.imm 5 4 != 0 || (if scalar then lane != 0 || bc || decide (fileSize file ≤ r)
    else decide (7 < file) || decide (e.vreg ≤ r) || (bc && lane != 0))
  e.guarded (eChecks f { token := false } bad ++ [⟨f.q.getLsbD 2, 3, f.q.toNat⟩])
    (if scalar then e.result 2 (.scalar (fileDest file r) (e.es1 f))
     else e.result 2 (.vector (.vreg (file == 7) r) (Vec.splat ((e.es1 f).truncate 32)) (if bc then Mask.all else 1#64 <<< lane)))

/-- The checks of TWAIT (R451). -/
def twaitChecks (f : EForm) : List Check := eChecks f { ed := false, token := false } (f.imm != 0#17)

/-- TWAIT (R473): the value is the one read at the bundle's first presentation. -/
def evalTwait (f : EForm) (e : Env) : SlotOut :=
  let v := match e.x.loops.tw with
    | some (pc, v) => if pc = e.pc then v else e.es1 f
    | none => e.es1 f
  e.guarded (twaitChecks f) (if e.s.timeReached v.toNat then .none else .wait (.time v.toNat) id)

end Sys2Proof.Machine
end

