-- ==== Sys2Proof/Machine/Slots.lean ====
section
/-! DEFINITION. The answer of every slot operation to one issue. -/

namespace Sys2Proof.Machine

/-- What an operation answers when its slot issues (files 15 to 21); an event is no operation of a slot. -/
def evalInstr (i : Instr) (e : Env) : SlotOut :=
  match i with
  | .nop f => evalNop f e
  | .prep f => evalPrep f e
  | .prepAbsolute f => evalPrepAbsolute f e
  | .brx f => evalBrx f e
  | .brxl f => evalBrxl f e
  | .vote f => evalVote f e
  | .ptt f => evalPtt f e
  | .loop f => evalLoop f e
  | .lset f => evalLset f e
  | .lstr f => evalLstr f e
  | .waitk f => evalWaitk f e
  | .bwait f => evalBwait f e
  | .barv f => evalBarv f e
  | .yield f => evalYield f e
  | .setfmt f => evalSetfmt f e
  | .setwin f => evalSetwin f e
  | .trap f => evalTrap f e
  | .rft f => evalRft f e
  | .done f => evalDone f e
  | .spin f => evalSpin f e
  | .add f => evalAdd f e
  | .addi f => evalAddi f e
  | .sub f => evalSub f e
  | .mul f => evalMul f e
  | .mulh f => evalMulh f e
  | .mulhn f => evalMulhn f e
  | .div f => evalDiv f e
  | .divn f => evalDivn f e
  | .rem f => evalRem f e
  | .and f => evalAnd f e
  | .andi f => evalAndi f e
  | .or f => evalOr f e
  | .ori f => evalOri f e
  | .xor f => evalXor f e
  | .xori f => evalXori f e
  | .andn f => evalAndn f e
  | .shl f => evalShl f e
  | .shr f => evalShr f e
  | .sar f => evalSar f e
  | .rot f => evalRot f e
  | .clz f => evalClz f e
  | .popc f => evalPopc f e
  | .min f => evalMin f e
  | .max f => evalMax f e
  | .minn f => evalMinn f e
  | .maxn f => evalMaxn f e
  | .shadd f => evalShadd f e
  | .ext f => evalExt f e
  | .ins f => evalIns f e
  | .li f => evalLi f e
  | .lih f => evalLih f e
  | .lil f => evalLil f e
  | .cmp f => evalCmp f e
  | .cmpi f => evalCmpi f e
  | .sel f => evalSel f e
  | .cpy f => evalCpy f e
  | .mfs f => evalMfs f e
  | .mts f => evalMts f e
  | .brxS1 f => evalBrxS1 f e
  | .vadd f => evalVadd f e
  | .vsub f => evalVsub f e
  | .vmul f => evalVmul f e
  | .vfma f => evalVfma f e
  | .vfms f => evalVfms f e
  | .vmac f => evalVmac f e
  | .vmin f => evalVmin f e
  | .vmax f => evalVmax f e
  | .vabs f => evalVabs f e
  | .vneg f => evalVneg f e
  | .vrcp f => evalVrcp f e
  | .vrsq f => evalVrsq f e
  | .vexp2 f => evalVexp2 f e
  | .vlog2 f => evalVlog2 f e
  | .vclass f => evalVclass f e
  | .vcmp f => evalVcmp f e
  | .vaddi f => evalVaddi f e
  | .vmuli f => evalVmuli f e
  | .vfmai f => evalVfmai f e
  | .vmaci f => evalVmaci f e
  | .viadd f => evalViadd f e
  | .visub f => evalVisub f e
  | .vimul f => evalVimul f e
  | .vimulh f => evalVimulh f e
  | .vshl f => evalVshl f e
  | .vshr f => evalVshr f e
  | .vsar f => evalVsar f e
  | .vand f => evalVand f e
  | .vor f => evalVor f e
  | .vxor f => evalVxor f e
  | .vandn f => evalVandn f e
  | .vimin f => evalVimin f e
  | .vimax f => evalVimax f e
  | .vadds f => evalVadds f e
  | .vsubs f => evalVsubs f e
  | .vqmuls f => evalVqmuls f e
  | .vabsd f => evalVabsd f e
  | .vavg f => evalVavg f e
  | .vdot4 f => evalVdot4 f e
  | .vsad f => evalVsad f e
  | .vicmp f => evalVicmp f e
  | .vcvt f => evalVcvt f e
  | .vqnt f => evalVqnt f e
  | .vdqnt f => evalVdqnt f e
  | .vmxs f => evalVmxs f e
  | .vsplit f => evalVsplit f e
  | .vjoin f => evalVjoin f e
  | .vmov f => evalVmov f e
  | .vbcst f => evalVbcst f e
  | .viota f => evalViota f e
  | .vperm f => evalVperm f e
  | .vshuf f => evalVshuf f e
  | .vslide f => evalVslide f e
  | .vbext f => evalVbext f e
  | .vlut f => evalVlut f e
  | .vlutld f => evalVlutld f e
  | .vunpk12 f => evalVunpk12 f e
  | .vpack12 f => evalVpack12 f e
  | .vrng f => evalVrng f e
  | .vred f => evalVred f e
  | .vscan f => evalVscan f e
  | .vcpy f => evalVcpy f e
  | .mcfg f => evalMcfg f e
  | .mzero f => evalMzero f e
  | .mma f => evalMma f e
  | .mmax f => evalMmax f e
  | .mread f => evalMread f e
  | .mwrite f => evalMwrite f e
  | .mjoin f => evalMjoin f e
  | .mstat f => evalMstat f e
  | .ld f => evalLd f e
  | .st f => evalSt f e
  | .vld f => evalVld f e
  | .vst f => evalVst f e
  | .vlds f => evalVlds f e
  | .vsts f => evalVsts f e
  | .vgth f => evalVgth f e
  | .vsct f => evalVsct f e
  | .ldj f => evalLdj f e
  | .stj f => evalStj f e
  | .atom f => evalAtom f e
  | .ldAcq f => evalLdAcq f e
  | .stRel f => evalStRel f e
  | .vatom f => evalVatom f e
  | .fence f => evalFence f e
  | .sync f => evalSync f e
  | .tbinit f => evalTbinit f e
  | .tbarv f => evalTbarv f e
  | .tbexp f => evalTbexp f e
  | .tbwait f => evalTbwait f e
  | .spill f => evalSpill f e
  | .fill f => evalFill f e
  | .dadd f => evalDadd f e
  | .dli f => evalDli f e
  | .dcpy f => evalDcpy f e
  | .l1inv f => evalL1inv f e
  | .l1wb f => evalL1wb f e
  | .prf f => evalPrf f e
  | .sljob f => evalSljob f e
  | .slstat f => evalSlstat f e
  | .slkill f => evalSlkill f e
  | .stbind f => evalStbind f e
  | .rmov f => evalRmov f e
  | .rget f => evalRget f e
  | .edstash f => evalEdstash f e
  | .edfetch f => evalEdfetch f e
  | .edfree f => evalEdfree f e
  | .edqry f => evalEdqry f e
  | .chsend f => evalChsend f e
  | .chrecv f => evalChrecv f e
  | .chrel f => evalChrel f e
  | .chwin f => evalChwin f e
  | .oxred f => evalOxred f e
  | .oxgath f => evalOxgath f e
  | .wpost f => evalWpost f e
  | .wraise f => evalWraise f e
  | .warr f => evalWarr f e
  | .spawn f => evalSpawn f e
  | .grd f => evalGrd f e
  | .gupd f => evalGupd f e
  | .gnew f => evalGnew f e
  | .gseal f => evalGseal f e
  | .grescale f => evalGrescale f e
  | .recset f => evalRecset f e
  | .lease f => evalLease f e
  | .lrel f => evalLrel f e
  | .eli f => evalEli f e
  | .ecpy f => evalEcpy f e
  | .twait f => evalTwait f e
  | .thermalSample _ _ => .none
  | .coolantOkChange _ => .none
  | .registerWrite _ _ _ => .none
  | .coherencePlacement _ => .none
  | .remoteWriteApply _ _ => .none
  | .atomicAtHome _ _ => .none
  | .memoryAccessComplete _ _ _ => .none
  | .hostRequestCompletion _ => .none
  | .gaugeSectorUpdate _ => .none
  | .gaugeSeal _ => .none
  | .gaugeRescale _ => .none
  | .configFlitReceive _ _ _ _ => .none
  | .parcelHeaderReceive _ _ => .none
  | .dataFlitReceive _ _ => .none
  | .parcelDelivery _ => .none
  | .creditFlitReceive _ _ => .none
  | .timedSendLaunch _ => .none
  | .channelEnable _ _ _ => .none
  | .channelDisable _ => .none
  | .oxbowFlitReceive _ _ => .none
  | .collectiveComplete _ => .none
  | .startWrite _ _ => .none
  | .stagingWrite _ _ => .none
  | .stageEnable _ _ _ => .none
  | .stageDisable _ _ _ => .none
  | .queueArrival _ _ => .none
  | .stageEvaluate _ _ => .none
  | .gangResume _ => .none
  | .jcbPost _ => .none
  | .successorEvent _ _ => .none
  | .stepRetire _ _ _ => .none
  | .joinHalfArrival _ => .none
  | .joinTimeout _ => .none
  | .sluiceJobStart _ _ => .none
  | .sluiceUnit _ _ _ _ => .none
  | .sluiceJobDone _ _ => .none
  | .sluiceJobFault _ _ _ => .none
  | .fqResume _ _ => .none
  | .fqAbandon _ _ => .none
  | .streamVectorArrival _ _ => .none
  | .riffleDecode _ _ => .none
  | .riffleEncode _ _ => .none
  | .riffleUnpack12 _ _ => .none
  | .riffleCrc _ _ => .none
  | .riffleExpand3 _ _ => .none
  | .riffleFill _ _ => .none
  | .riffleChunkWrite _ _ => .none
  | .riffleOpComplete _ _ _ => .none
  | .riffleFault _ _ => .none
  | .eddyStoreComplete _ _ => .none
  | .eddyRestoreComplete _ _ => .none
  | .eddyJobFailure _ _ => .none
  | .bundleIssue _ => .none
  | .tlbWalkComplete _ _ => .none
  | .twaitExpiry _ => .none
  | .powerLost => .none
  | .bandDecision => .none
  | .rateGradientCheck => .none
  | .coolantLossHold => .none
  | .coolantLossFault => .none
  | .coolantRestoredExit => .none
  | .switchTick => .none
  | .coldRefreshExpiry => .none
  | .timeFlitSend => .none
  | .identify => .none
  | .attest => .none
  | .cool => .none
  | .warm => .none
  | .hold => .none
  | .loadImage => .none
  | .verifyImage => .none
  | .start => .none
  | .stop => .none
  | .query => .none
  | .setLattol => .none
  | .resetDie => .none
  | .readLog => .none
  | .activityDecision => .none
  | .wakeEvent => .none
  | .tlbinvAll => .none
  | .powerApplied _ _ => .none
  | .timingSetSwitch _ => .none
  | .thevtWrite _ => .none
  | .dramReadWrite _ _ _ _ => .none
  | .refresh _ _ => .none
  | .patrolScrubAccess _ _ _ _ _ => .none
  | .powerDownEntry _ _ => .none
  | .selfRefreshEntry _ _ => .none
  | .llcAccess _ _ _ => .none
  | .leaseExpiry _ => .none
  | .handleRequest _ _ _ _ _ _ _ => .none
  | .recordReplicaWrite _ _ => .none
  | .portDown _ => .none
  | .portUp _ => .none
  | .timeFlitReceive _ _ => .none
  | .oxbowFlagWrite _ _ => .none
  | .stageEvalTimer _ _ => .none
  | .launchTimeReached _ _ => .none
  | .saveWriteoutComplete _ => .none
  | .tlbinvPage _ => .none

end Sys2Proof.Machine
end

