-- ==== Sys2Proof/Machine/Issue.lean ====
section
/-! DEFINITION. Bundle issue (R213 to R216, R227 to R233, R262 to R266, R310 to R320, R349 to R357): fetch, the presentation of a bundle
by a context, what its slots do together, and what follows an issue. -/

namespace Sys2Proof.Machine

/-! ### Fetch (R310 to R313, R264) -/

/-- A bundle as a context presents it: its header, its length in words, its literals, and for each slot present its opcode and its
operation; none for a code that is reserved there (R335). -/
structure Shown where
  hdr : Header
  words : Nat
  lits : List W32
  ops : List (Slot × Nat × Option Instr)
  deriving DecidableEq, Repr

/-- A trap that belongs to no slot (R269). -/
def blkTrap (code : Nat) (arg : W64) : TrapReq := { code := code, arg := arg }

/-- One instruction word; PAGE or PERM with its address (R264), or ECC_UNCORRECTABLE with the physical address (R31, R32). -/
def State.fetchWord (s : State) (c : Nat) (sup : Bool) (va : BitVec 48) : Except TrapReq W32 :=
  match s.translate (ctxCluster c) sup .fetch va.toNat with
  | .ok pa =>
    (match s.poisoned (.global pa) 4 with
     | some q => .error (blkTrap 0x11 (BitVec.ofNat 64 (32 * q)))
     | none => .ok (BitVec.ofNat 32 (leNat (s.readPhys (ctxDie c) pa 4))))
  | .ecc pa => .error (blkTrap 0x11 (BitVec.ofNat 64 pa))
  | .page => .error (blkTrap 0x05 (va.zeroExtend 64))
  | .perm => .error (blkTrap 0x06 (va.zeroExtend 64))

/-- Consecutive instruction words. -/
def State.fetchWords (s : State) (c : Nat) (sup : Bool) : Nat → BitVec 48 → Except TrapReq (List W32)
  | 0, _ => .ok []
  | n + 1, va =>
    match s.fetchWord c sup va with
    | .error t => .error t
    | .ok w =>
      match s.fetchWords c sup n (va + 4#48) with
      | .error t => .error t
      | .ok ws => .ok (w :: ws)

/-- The operations of the syllables of a bundle. -/
def shownOps (syls : List (Slot × W64)) : List (Slot × Nat × Option Instr) :=
  syls.map fun x => (x.1, (x.2.extractLsb' 38 6).toNat,
    match decodeSyllable x.1 x.2 with | .ok i => some i | .error _ => none)

/-- Fetch the bundle at an address: PAGE, PERM, or ILLEGAL_OP of the header with TRAPARG bit 8 set (R312). -/
def State.fetch (s : State) (c : Nat) (sup : Bool) (pc : BitVec 48) : Except TrapReq Shown :=
  match s.fetchWord c sup pc with
  | .error t => .error t
  | .ok w =>
    match decodeHeader w with
    | .error _ => .error (blkTrap 0x01 0x100#64)
    | .ok h =>
      match s.fetchWords c sup (h.words - 1) (pc + 4#48) with
      | .error t => .error t
      | .ok ws =>
        match decodeBundle (w :: ws) with
        | .error _ => .error (blkTrap 0x01 0x100#64)
        | .ok (b, _) => .ok { hdr := b.hdr, words := b.words, lits := b.lits, ops := shownOps b.syls }

/-- Whether control may arrive at an address (R264, R313, R350): aligned, and the start bit of its word set. An address with no
translation is found by the fetch that follows. -/
def State.startOk (s : State) (c : Nat) (va : BitVec 48) : Bool :=
  va.toNat % 4 == 0 &&
  (match s.lookup (ctxCluster c) va.toNat with
   | .entry e => s.startBit (e.pa + (va.toNat - e.va))
   | _ => true)

/-- The poisoned sector of the start bit on which an arrival depends (R31, R32). -/
def State.startStruck (s : State) (c : Nat) (va : BitVec 48) : Option Nat :=
  match s.lookup (ctxCluster c) va.toNat with
  | .entry e => if va.toNat % 4 = 0 then s.startPoison (e.pa + (va.toNat - e.va)) else none
  | _ => none

/-- The trap of an arrival at an address where control may not arrive: BADTARGET (R264), or ECC_UNCORRECTABLE where the start bit cannot be
read (R31). -/
def State.arrivalTrap (s : State) (c : Nat) (va : BitVec 48) : Nat × W64 :=
  match s.startStruck c va with
  | some pa => (0x11, BitVec.ofNat 64 pa)
  | none => (0x03, va.zeroExtend 64)

/-! ### The slots of a bundle (R315 to R318) -/

/-- Slots that hold sticky operations (R316). -/
def slotSticky : Slot → Bool
  | .v0 => true | .v1 => true | .m => true | .l => true | _ => false

/-- The sticky operation of a slot. -/
def LoopState.held (l : LoopState) : Slot → Option Sticky
  | .v0 => l.v0 | .v1 => l.v1 | .m => l.m | .l => l.l | _ => none

/-- Put a sticky operation into a slot, or end it. -/
def LoopState.setHeld (l : LoopState) (sl : Slot) (k : Option Sticky) : LoopState :=
  match sl with
  | .v0 => { l with v0 := k } | .v1 => { l with v1 := k } | .m => { l with m := k } | .l => { l with l := k } | _ => l

/-- One operation of an issue: its slot, its opcode, the operation (none for a reserved code), its re-issue count and its literals. -/
structure SlotOp where
  slot : Slot
  op : Nat
  instr : Option Instr
  n : Nat
  lits : List W32
  deriving DecidableEq, Repr

/-- What a slot issues in repetition `k` of a bundle (R316, R317). -/
def slotOpOf (l : LoopState) (b : Shown) (k : Nat) (sl : Slot) : Option SlotOp :=
  match b.ops.find? fun o => o.1 == sl with
  | some o => some ⟨sl, o.2.1, o.2.2, if slotSticky sl then k else 0, b.lits⟩
  | none =>
    match l.held sl with
    | some h => some ⟨sl, match h.op.parts with | some p => p.2.1 | none => 0, some h.op, h.n + 1, h.lits⟩
    | none => none

/-- The operations of one issue, in slot order. -/
def slotOps (l : LoopState) (b : Shown) (k : Nat) : List SlotOp := Slot.all.filterMap (slotOpOf l b k)

/-- The guard of an operation (R314). -/
def Ctx.guardOf (x : Ctx) (o : SlotOp) : Mask :=
  match o.instr with
  | some i => (match i.parts with | some p => x.guard p.2.2.1 | none => 0#64)
  | none => 0#64

/-- Whether the C slot transfers (R351). -/
def Ctx.cTransfers (x : Ctx) (os : List SlotOp) : Bool :=
  os.any fun o =>
    match o.instr with
    | some (.brx _) => (x.guardOf o).getLsbD 0
    | some (.brxl _) => (x.guardOf o).getLsbD 0
    | _ => false

/-- The environment of an operation of the bundle at `pc`. -/
def envOf (s : State) (c : Nat) (x : Ctx) (b : Shown) (os : List SlotOp) (taken : List Nat) (o : SlotOp) : Env :=
  { s := s, c := c, x := x, pc := x.pc, next := x.pc + BitVec.ofNat 48 (4 * b.words), lits := o.lits, repeats := b.hdr.repeats.toNat
    slot := o.slot, op := o.op, g := x.guardOf o, n := o.n, cTransfer := x.cTransfers os, taken := taken }

/-- What one operation answers; a reserved code is ILLEGAL_OP whatever its guard (R335). -/
def answerOf (e : Env) (o : SlotOp) : SlotOut :=
  match o.instr with
  | some i => evalInstr i e
  | none => e.illegalOp

/-- The stream registers from which an answer takes a vector. -/
def State.takenBy (s : State) (c : Nat) (o : SlotOut) : List Nat :=
  match o with
  | .act _ f =>
    (match s.ctx c, (f s).ctx c with
     | some x, some y => (List.range 8).filter fun k =>
         decide ((SMap.get {} y.f k).buf.length < (SMap.get {} x.f k).buf.length)
     | _, _ => [])
  | _ => []

/-- The answers of a bundle's operations, in slot order: V1 sees what V0 takes from the stream registers (R166). -/
def State.answers (s : State) (c : Nat) (x : Ctx) (b : Shown) (os : List SlotOp) : List (SlotOp × SlotOut) :=
  let v0 : List Nat := match os.find? fun o => o.slot == Slot.v0 with
    | some o => s.takenBy c (answerOf (envOf s c x b os [] o) o)
    | none => []
  os.map fun o => (o, answerOf (envOf s c x b os (if o.slot = .v1 then v0 else []) o) o)

/-- A stall among the answers: one that nothing of the context itself ends first, then the longest of its own (R231; log entry 15). -/
def stallOf (as : List (SlotOp × SlotOut)) : Option (Option Nat) :=
  as.foldl (fun (r : Option (Option Nat)) a =>
    match a.2, r with
    | .stall none, _ => some none
    | .stall (some _), some none => some none
    | .stall (some n), some (some m) => some (some (max n m))
    | .stall (some n), none => some (some n)
    | _, _ => r) none

/-- The first wait among the answers. -/
def waitOf (as : List (SlotOp × SlotOut)) : Option (WaitWhy × (State → State)) :=
  as.findSome? fun a => match a.2 with | .wait w f => some (w, f) | _ => none

/-- A due SUBNORM_ASSIST of the matrix pipeline, as a trap of slot M (R264). -/
def subnormDue (x : Ctx) : Option TrapReq :=
  (x.due.find? fun d => d.code == 0x0A).map fun d => { code := 0x0A, arg := d.arg, slot := some 5, txpc := d.txpc }

/-- The first trap in slot order (R263); a due SUBNORM_ASSIST is the last of slot M. -/
def trapOf (as : List (SlotOp × SlotOut)) (due : Option TrapReq) : Option TrapReq :=
  let own := fun (p : Nat → Bool) => as.findSome? fun a => match a.2 with | .trap t => if p a.1.slot.num then some t else none | _ => none
  match own fun n => decide (n ≤ 5) with
  | some t => some t
  | none => match due with
    | some t => some t
    | none => own fun n => decide (5 < n)

/-- Tokens on which the answers count, one for each operation. -/
def tokensOf (as : List (SlotOp × SlotOut)) : List Nat :=
  as.filterMap fun a => match a.2 with | .act t _ => t | _ => none

/-- A token whose count would pass 255 stalls the bundle (R216, R231). -/
def Ctx.tokensFull (x : Ctx) (ks : List Nat) : Bool :=
  ks.any fun k => decide (255 < x.tokCount k + ks.count k)

/-- The effects of a bundle, in slot order; each token is counted up first (R216). -/
def State.applyAnswers (s : State) (c : Nat) (as : List (SlotOp × SlotOut)) : State :=
  as.foldl (fun (s : State) a =>
    match a.2 with
    | .act t f => f (match t with | some k => s.modCtx c fun x => x.tokUp k | none => s)
    | _ => s) s

/-- The sticky operations after an issue (R316): what issued stays with its count, whatever its guard (R318). -/
def LoopState.issued (l : LoopState) (os : List SlotOp) : LoopState :=
  os.foldl (fun (l : LoopState) o =>
    match o.instr with
    | some i => l.setHeld o.slot (some ⟨i, o.n, o.lits⟩)
    | none => l) { l with arv := none, tw := none }

/-- RELEASE (R317): bit 3 is V0, bit 0 is L. -/
def LoopState.release (l : LoopState) (r : BitVec 4) : LoopState :=
  { l with
    v0 := if r.getLsbD 3 then none else l.v0, v1 := if r.getLsbD 2 then none else l.v1
    m := if r.getLsbD 1 then none else l.m, l := if r.getLsbD 0 then none else l.l }

/-! ### Loops (R354 to R356) -/

/-- The nest of a LOOP of `lv` levels whose body of `body` bundles starts at `start`. -/
def LoopState.nestOf (l : LoopState) (lv body : Nat) (start : BitVec 48) : Nest :=
  { start := start, body := body, cnt := (List.range lv).map fun k => SMap.get 1 l.counts k
    idx := List.replicate lv 0, links := l.links.filter fun k => decide (k.level < lv), pos := 0 }

/-- One step of the odometer, level 0 fastest; none when every level has wrapped (R355). -/
def odometer : List Nat → List Nat → Option (List Nat)
  | i :: is, n :: ns => if i + 1 < n then some ((i + 1) :: is) else (odometer is ns).map fun r => 0 :: r
  | _, _ => none

/-- After the last repetition of a bundle that took no transfer (R355): the loop state, and the address of the next bundle. -/
def LoopState.advance (l : LoopState) (next : BitVec 48) : LoopState × BitVec 48 :=
  match l.starting with
  | some (lv, body) =>
    let n := l.nestOf lv body next
    if n.cnt.contains 0 then ({ l with starting := none, nest := none, skip := body }, next)
    else ({ l with starting := none, nest := some n }, next)
  | none =>
    match l.nest with
    | none => (l, next)
    | some n =>
      if n.pos + 1 < n.body then ({ l with nest := some { n with pos := n.pos + 1 } }, next)
      else match odometer n.idx n.cnt with
        | some is => ({ l with nest := some { n with pos := 0, idx := is } }, n.start)
        | none => ({ l with nest := none }, next)

/-- The body bundle of a nest that stands at an address: RFT to TPC (R266, R356). -/
def State.bodyPos (s : State) (c : Nat) (sup : Bool) (tpc : BitVec 48) : Nat → Nat → BitVec 48 → Option Nat
  | 0, _, _ => none
  | fuel + 1, pos, va =>
    if va = tpc then some pos
    else match s.fetch c sup va with
      | .ok b => s.bodyPos c sup tpc fuel (pos + 1) (va + BitVec.ofNat 48 (4 * b.words))
      | .error _ => none

/-- A running nest goes on from the bundle that the program counter names; it stands as it is where the body holds no such bundle. -/
def State.syncNest (s : State) (c : Nat) : State :=
  match s.ctx c with
  | none => s
  | some x =>
    match x.loops.nest with
    | none => s
    | some n =>
      match s.bodyPos c x.sup x.pc n.body 0 n.start with
      | none => s
      | some p => s.modCtx c fun x => { x with loops := { x.loops with nest := some { n with pos := p } } }

/-! ### After an issue -/

/-- Whether an operation of a slot acted with a true guard. -/
def Ctx.acts (x : Ctx) (os : List SlotOp) (p : Instr → Bool) : Bool :=
  os.any fun o => match o.instr with | some i => p i && (x.guardOf o).getLsbD 0 | none => false

/-- One delay bundle of a pending transfer has issued (R349, R350). -/
def Ctx.countDelay (x : Ctx) : Ctx := { x with br := x.br.map fun t => { t with left := t.left - 1 } }

/-- The transfer that is due: its last delay bundle has issued. -/
def Ctx.transferDue (x : Ctx) : Option Transfer := x.br.bind fun t => if t.left = 0 then some t else none

/-- Control goes on after an issue that took no transfer: the next repetition, the next body bundle, or the bundle after (R317, R355). -/
def Ctx.goOn (x : Ctx) (b : Shown) (left : Nat) (next : BitVec 48) : Ctx :=
  if 0 < left then { x with repLeft := some (left - 1) }
  else
    let r := (x.loops.release b.hdr.release).advance next
    { x with repLeft := none, loops := r.1, pc := r.2 }

/-- A transfer is taken (R349): the rest of the REPEAT is not issued, and a running nest ends. -/
def Ctx.goTo (x : Ctx) (b : Shown) (t : Transfer) : Ctx :=
  { x with
    pc := t.target, br := none, repLeft := none
    loops := { x.loops.release b.hdr.release with nest := none, starting := none, skip := 0 } }

/-- The count of an issue ends (R227). -/
def State.closeCount (s : State) (c n : Nat) : State := (s.endCount c n).modCtx c fun x => { x with count := n + 1 }

/-- What follows an issue that neither ends the task nor returns from a trap: the delay of a pending transfer, the landings of the
count, and where control goes (R227, R264, R349, R352, R355). `n` is its issue count. -/
def State.afterIssue (s : State) (c n left : Nat) (b : Shown) (next : BitVec 48) : State :=
  let s := s.modCtx c Ctx.countDelay
  match (s.ctx c).bind Ctx.transferDue with
  | none => (s.closeCount c n).modCtx c fun x => x.goOn b left next
  | some t =>
    if s.startOk c t.target then
      let s : State := if t.link then s.modCtx c fun x => { x with j := SMap.set 0#64 x.j 3 (next.zeroExtend 64) } else s
      (s.closeCount c n).modCtx c fun x => x.goTo b t
    else
      let r := s.arrivalTrap c t.target
      (s.closeCount c n).modCtx c fun x =>
        { x.goOn b left next with br := none, due := x.due ++ [(⟨r.1, r.2, none⟩ : DueTrap)] }

/-- RFT (R266, R363): the results of the handler land, and the interrupted code goes on. -/
def State.returnTrap (s : State) (c n : Nat) : State :=
  let s := (s.closeCount c n).landAll c
  (s.modCtx c Ctx.returnFromTrap).syncNest c

/-- Everything that an issued bundle does (R216, R262, R316, R349, R363 to R365). -/
def State.issue (s : State) (c : Nat) (x : Ctx) (b : Shown) (left : Nat) (os : List SlotOp) (as : List (SlotOp × SlotOut)) : State :=
  let next := x.pc + BitVec.ofNat 48 (4 * b.words)
  let s := s.applyAnswers c as
  let s := s.modCtx c fun y => { y with loops := y.loops.issued os }
  if x.acts os fun i => match i with | .done _ => true | _ => false then
    (s.closeCount c x.count).modCtx c fun y => { y with repLeft := some left }
  else if x.acts os fun i => match i with | .rft _ => true | _ => false then s.returnTrap c x.count
  else
    let s := s.afterIssue c x.count left b next
    if x.acts os fun i => match i with | .yield _ => true | _ => false then (s.leaveReady c).insertReady c else s

/-! ### Presentation (R231, R262 to R264) -/

/-- What the presentation of a bundle came to. -/
inductive Presented where
  /-- The context stalls: the core may issue from another. -/
  | stalled (s : State)
  /-- Its bundle issued, trapped or waits. -/
  | done (s : State)

/-- The state after a presentation. -/
def Presented.state : Presented → State
  | .stalled s => s
  | .done s => s

/-- A trap of the bundle at the program counter; the due trap with its code is no longer due. An uncorrectable error that the bundle itself
meets, which no token has kept, is logged (R32). -/
def State.raise (s : State) (c : Nat) (x : Ctx) (left : Nat) (t : TrapReq) (due : Bool) : State :=
  let found := t.code == 0x11 && t.mark.isNone
  let rest := match takeFirst (fun d => d.code == t.code) x.due with
    | some r => r.2
    | none => x.due
  (if found then s.logUE (logSource 1 (ctxCluster c % 72) (ctxDie c)) t.arg.toNat else s).takeTrap c t x.pc left
    (if due then rest else x.due)

/-- What a bundle does as it is first presented, whatever then keeps it from issuing: the arrival of a BWAIT.ARV (R480), and the reading of the
value of a TWAIT (R473). What another bundle left, which has not issued and is not presented any more, is forgotten. -/
def State.firstShown (s : State) (c : Nat) (x : Ctx) (os : List SlotOp) : State :=
  let here := fun {α : Type} (v : Option α) (pc : α → BitVec 48) => v.filter fun p => pc p == x.pc
  let s : State :=
    if (here x.loops.arv id == x.loops.arv) && (here x.loops.tw Prod.fst == x.loops.tw) then s
    else s.modCtx c fun y => { y with loops := { y.loops with arv := here x.loops.arv id, tw := here x.loops.tw Prod.fst } }
  os.foldl (fun (s : State) o =>
    let on := fun (cs : List Check) => (x.guardOf o).getLsbD 0 && (firstBad cs).isNone
    match o.instr with
    | some (.bwait f) =>
      if f.x = 1#8 && on (bwaitChecks f) && here x.loops.arv id == none then
        (s.barArrive c x.gang x.member f.imm.toNat).modCtx c fun y => { y with loops := { y.loops with arv := some x.pc } }
      else s
    | some (.twait f) =>
      if on (twaitChecks f) && here x.loops.tw Prod.fst == none then
        s.modCtx c fun y => { y with loops := { y.loops with tw := some (x.pc, x.eSource (f.q.getLsbD 1) f.es1) } }
      else s
    | _ => s) s

/-- What the SRAM arrays on the way of a bundle hold for it (R30, R31): a slot's operation that would have its effect reads uncorrectable data. -/
def struck (ecc : IssueEcc) (as : List (SlotOp × SlotOut)) : List (SlotOp × SlotOut) :=
  match ecc with
  | .operand n pa => as.map fun a =>
      match a.2 with
      | .act _ _ => if a.1.slot.num = n then (a.1, .trap { code := 0x11, arg := BitVec.ofNat 64 pa, slot := some n }) else a
      | _ => a
  | _ => as

/-- A fetch from an instruction cache whose word cannot be corrected (R30, R31). -/
def fetchStruck (ecc : IssueEcc) (f : Except TrapReq Shown) : Except TrapReq Shown :=
  match ecc, f with
  | .word pa, .ok _ => .error (blkTrap 0x11 (BitVec.ofNat 64 pa))
  | _, f => f

/-- A context shows its bundle to the core: traps that are due, fetch traps, then its slots (R263). `reps` is REPEAT of the header, as far as
it can be read (R265). -/
def State.present (s : State) (c : Nat) (x : Ctx) (f : Except TrapReq Shown) (reps : Nat) (ecc : IssueEcc := .clean) : Presented :=
  let left := x.repLeft.getD reps
  let dueOf := fun (code : Nat) => x.due.find? fun d => d.code == code
  let due := [0x0C, 0x0D, 0x03, 0x11].findSome? dueOf
  match due with
  | some d => .done (s.raise c x left (blkTrap d.code d.arg) true)
  | none =>
    if x.arrived && !s.startOk c x.pc then
      .done (s.raise c x 0 (blkTrap (s.arrivalTrap c x.pc).1 (s.arrivalTrap c x.pc).2) false)
    else match fetchStruck ecc f with
      | .error t => .done (s.raise c x left t false)
      | .ok b =>
        let os := slotOps x.loops b (reps - left)
        let u := s.firstShown c x os
        let y := (u.ctx c).getD x
        let as := struck ecc (u.answers c y b os)
        match stallOf as with
        | some none => .stalled (u.landWhere c fun g => g.what.isReply && decide (g.land ≤ x.count))
        | some (some n) => .stalled (u.passCounts c n)
        | none =>
          match waitOf as with
          | some (w, g) => .done (g ((u.leaveReady c).modCtx c fun y => { y with run := .waiting w }))
          | none =>
            match trapOf as (subnormDue x) with
            | some t => .done (s.raise c x left t (t.code == 0x0A && decide (t.txpc ≠ none)))
            | none =>
              if x.tokensFull (tokensOf as) then .stalled (u.landWhere c fun g => g.what.isReply && decide (g.land ≤ x.count))
              else .done ((u.modCtx c fun y => { y with arrived := false }).issue c y b left os as)

/-- One issue count passes with no bundle: SPIN (R358). -/
def State.spinOnce (s : State) (c : Nat) (x : Ctx) : State :=
  (s.closeCount c x.count).modCtx c fun y => { y with spin := y.spin - 1 }

/-- REPEAT of the header at an address, where the word can be read (R265, R311); 0 where it cannot. -/
def State.headerRepeats (s : State) (c : Nat) (sup : Bool) (pc : BitVec 48) : Nat :=
  match s.fetchWord c sup pc with
  | .ok w => (w.extractLsb' 14 6).toNat
  | .error _ => 0

/-- A bundle of a body with a count of 0 is passed over (R355). -/
def State.skipOne (s : State) (c : Nat) (x : Ctx) : State :=
  match s.fetch c x.sup x.pc with
  | .ok b => s.modCtx c fun y =>
      { y with pc := y.pc + BitVec.ofNat 48 (4 * b.words), loops := { y.loops with skip := y.loops.skip - 1 } }
  | .error t => s.raise c x (s.headerRepeats c x.sup x.pc) t false

/-- A bundle lies in host memory while the host's port is down: its fetch stays queued (R81). -/
def State.fetchHeld (s : State) (c : Nat) (sup : Bool) (pc : BitVec 48) (f : Except TrapReq Shown) : Bool :=
  s.hostQueued ((List.range (match f with | .ok b => b.words | .error _ => 1)).filterMap fun i =>
    match s.translate (ctxCluster c) sup .fetch (pc + BitVec.ofNat 48 (4 * i)).toNat with
    | .ok pa => some (.global pa)
    | _ => none)

/-- A context that is ready takes its turn. -/
def State.turn (s : State) (c : Nat) (x : Ctx) (ecc : IssueEcc) : Presented :=
  if 0 < x.spin then .done (s.spinOnce c x)
  else if s.fetchHeld c x.sup x.pc (s.fetch c x.sup x.pc) then .stalled s
  else if 0 < x.loops.skip then .done (s.skipOne c x)
  else s.present c x (s.fetch c x.sup x.pc) (s.headerRepeats c x.sup x.pc) ecc

/-! ### The core (R232, R364) -/

/-- The end of a task whose tokens have drained (R364): an error mark raises ECC_UNCORRECTABLE at its DONE; else the context leaves its
gang. -/
def State.finishDone (s : State) (c : Nat) : State :=
  match s.ctx c with
  | none => s
  | some x =>
    if x.run = .draining ∧ s.isCaptured x = false ∧ (List.range 8).all (fun k => x.tokCount k == 0) then
      let s := s.landAll c
      match x.marked 0xFF with
      | some (k, a) =>
        (s.modCtx c fun y => { y with run := .ready }).takeTrap c
          { code := 0x11, arg := BitVec.ofNat 64 a, slot := some 0, mark := some k } x.pc (x.repLeft.getD 0) x.due
      | none => (s.leaveGang c).checkEnd
    else s

/-- Whether a context stands in the ready set of its core (R231, R271). -/
def State.inReady (s : State) (x : Ctx) : Bool := decide (x.run = .ready) && !s.isCaptured x

/-- Insert a context by its turn: one whose SPIN runs comes first, then the older. -/
def insertTurn (a : Nat × Ctx) : List (Nat × Ctx) → List (Nat × Ctx)
  | [] => [a]
  | b :: l =>
    let before := if 0 < a.2.spin && b.2.spin == 0 then true else if a.2.spin == 0 && 0 < b.2.spin then false else decide (a.2.age < b.2.age)
    if before then a :: b :: l else b :: insertTurn a l

/-- The ready contexts of a core: first one whose SPIN runs, then by age, the oldest first (R232, R358). -/
def State.readyOrder (s : State) (core : Nat) : List (Nat × Ctx) :=
  let rs : List (Nat × Ctx) := (List.range 4).filterMap fun q =>
    match s.ctx (4 * core + q) with
    | some x => if s.inReady x then some (4 * core + q, x) else none
    | none => none
  rs.foldl (fun l a => insertTurn a l) []

/-- The first context that does not stall takes its turn (R232). -/
def State.issueFirst (ecc : IssueEcc) : List (Nat × Ctx) → State → State
  | [], s => s
  | (c, x) :: rest, s =>
    match s.turn c x ecc with
    | .done s' => s'
    | .stalled s' => State.issueFirst ecc rest s'

/-- One core cycle that issues (R232), and what the ECC of the SRAM arrays that its bundle reads finds (R30, R31): an error that is corrected
is counted (R33). -/
def State.coreCycle (s : State) (core : Nat) (ecc : IssueEcc) : State :=
  let s := (List.range 4).foldl (fun (s : State) q => s.finishDone (4 * core + q)) s
  State.issueFirst ecc (s.readyOrder core) (if ecc = .corrected then s.countCE false else s)

/-- BUNDLE_ISSUE (R232). -/
def execBundleIssue (turn : IssueTurn) (s : State) : Host.Outcome State Fault Refusal := .next (s.coreCycle turn.core turn.ecc)

/-- A bundle that holds the one syllable of an operation, with the literal words of the state. -/
def shownAlone (s : State) (i : Instr) : Shown :=
  match i.parts with
  | some p =>
    { hdr := { Header.single p.1 with lits := BitVec.ofNat 2 s.lits.length }, words := 3 + s.lits.length, lits := s.lits
      ops := [(p.1, p.2.1, some i)] }
  | none => { hdr := ⟨0#8, 0#4, 0#6, 0#2⟩, words := 1, lits := [], ops := [] }

/-- The sequencer `cur` presents a bundle that holds one operation; nothing happens where no context stands ready there. -/
def State.issueAlone (s : State) (i : Instr) : State :=
  match s.ctx s.cur with
  | some x => if s.inReady x then (s.present s.cur x (.ok (shownAlone s i)) 0).state else s
  | none => s

end Sys2Proof.Machine
end

