-- ==== Sys2Proof/Machine/SlotOps.lean ====
section
/-! DEFINITION. The slot operations, each standing alone in a bundle that the sequencer `cur` issues: what it does is what its `eval`
function answers, with the rest of a bundle's issue around it (Machine/Issue.lean). -/

namespace Sys2Proof.Machine

/-- NOP (R365). -/
def execNop (f : CForm) (s : State) : Host.Outcome State Fault Refusal := .next (s.issueAlone (.nop f))
/-- PREP (R348). -/
def execPrep (f : CForm) (s : State) : Host.Outcome State Fault Refusal := .next (s.issueAlone (.prep f))
/-- PREP_ABSOLUTE (R348). -/
def execPrepAbsolute (f : CForm) (s : State) : Host.Outcome State Fault Refusal := .next (s.issueAlone (.prepAbsolute f))
/-- BRX (R349). -/
def execBrx (f : CForm) (s : State) : Host.Outcome State Fault Refusal := .next (s.issueAlone (.brx f))
/-- BRXL (R349). -/
def execBrxl (f : CForm) (s : State) : Host.Outcome State Fault Refusal := .next (s.issueAlone (.brxl f))
/-- VOTE (R353). -/
def execVote (f : CForm) (s : State) : Host.Outcome State Fault Refusal := .next (s.issueAlone (.vote f))
/-- PTT (R353). -/
def execPtt (f : CForm) (s : State) : Host.Outcome State Fault Refusal := .next (s.issueAlone (.ptt f))
/-- LOOP (R355). -/
def execLoop (f : CForm) (s : State) : Host.Outcome State Fault Refusal := .next (s.issueAlone (.loop f))
/-- LSET (R354). -/
def execLset (f : CForm) (s : State) : Host.Outcome State Fault Refusal := .next (s.issueAlone (.lset f))
/-- LSTR (R354). -/
def execLstr (f : CForm) (s : State) : Host.Outcome State Fault Refusal := .next (s.issueAlone (.lstr f))
/-- WAITK (R357). -/
def execWaitk (f : CForm) (s : State) : Host.Outcome State Fault Refusal := .next (s.issueAlone (.waitk f))
/-- BWAIT (R359). -/
def execBwait (f : CForm) (s : State) : Host.Outcome State Fault Refusal := .next (s.issueAlone (.bwait f))
/-- BARV (R359). -/
def execBarv (f : CForm) (s : State) : Host.Outcome State Fault Refusal := .next (s.issueAlone (.barv f))
/-- YIELD (R365). -/
def execYield (f : CForm) (s : State) : Host.Outcome State Fault Refusal := .next (s.issueAlone (.yield f))
/-- SETFMT (R360). -/
def execSetfmt (f : CForm) (s : State) : Host.Outcome State Fault Refusal := .next (s.issueAlone (.setfmt f))
/-- SETWIN (R361). -/
def execSetwin (f : CForm) (s : State) : Host.Outcome State Fault Refusal := .next (s.issueAlone (.setwin f))
/-- TRAP (R362). -/
def execTrap (f : CForm) (s : State) : Host.Outcome State Fault Refusal := .next (s.issueAlone (.trap f))
/-- RFT (R266). -/
def execRft (f : CForm) (s : State) : Host.Outcome State Fault Refusal := .next (s.issueAlone (.rft f))
/-- DONE (R364). -/
def execDone (f : CForm) (s : State) : Host.Outcome State Fault Refusal := .next (s.issueAlone (.done f))
/-- SPIN (R358). -/
def execSpin (f : CForm) (s : State) : Host.Outcome State Fault Refusal := .next (s.issueAlone (.spin f))
/-- ADD (R368). -/
def execAdd (f : SReg) (s : State) : Host.Outcome State Fault Refusal := .next (s.issueAlone (.add f))
/-- ADDI (R368). -/
def execAddi (f : SImm) (s : State) : Host.Outcome State Fault Refusal := .next (s.issueAlone (.addi f))
/-- SUB (R368). -/
def execSub (f : SReg) (s : State) : Host.Outcome State Fault Refusal := .next (s.issueAlone (.sub f))
/-- MUL (R368). -/
def execMul (f : SReg) (s : State) : Host.Outcome State Fault Refusal := .next (s.issueAlone (.mul f))
/-- MULH (R368). -/
def execMulh (f : SReg) (s : State) : Host.Outcome State Fault Refusal := .next (s.issueAlone (.mulh f))
/-- MULHN (R368). -/
def execMulhn (f : SReg) (s : State) : Host.Outcome State Fault Refusal := .next (s.issueAlone (.mulhn f))
/-- DIV (R369). -/
def execDiv (f : SReg) (s : State) : Host.Outcome State Fault Refusal := .next (s.issueAlone (.div f))
/-- DIVN (R369). -/
def execDivn (f : SReg) (s : State) : Host.Outcome State Fault Refusal := .next (s.issueAlone (.divn f))
/-- REM (R369). -/
def execRem (f : SReg) (s : State) : Host.Outcome State Fault Refusal := .next (s.issueAlone (.rem f))
/-- AND (R370). -/
def execAnd (f : SReg) (s : State) : Host.Outcome State Fault Refusal := .next (s.issueAlone (.and f))
/-- ANDI (R370). -/
def execAndi (f : SImm) (s : State) : Host.Outcome State Fault Refusal := .next (s.issueAlone (.andi f))
/-- OR (R370). -/
def execOr (f : SReg) (s : State) : Host.Outcome State Fault Refusal := .next (s.issueAlone (.or f))
/-- ORI (R370). -/
def execOri (f : SImm) (s : State) : Host.Outcome State Fault Refusal := .next (s.issueAlone (.ori f))
/-- XOR (R370). -/
def execXor (f : SReg) (s : State) : Host.Outcome State Fault Refusal := .next (s.issueAlone (.xor f))
/-- XORI (R370). -/
def execXori (f : SImm) (s : State) : Host.Outcome State Fault Refusal := .next (s.issueAlone (.xori f))
/-- ANDN (R370). -/
def execAndn (f : SReg) (s : State) : Host.Outcome State Fault Refusal := .next (s.issueAlone (.andn f))
/-- SHL (R370). -/
def execShl (f : SReg) (s : State) : Host.Outcome State Fault Refusal := .next (s.issueAlone (.shl f))
/-- SHR (R370). -/
def execShr (f : SReg) (s : State) : Host.Outcome State Fault Refusal := .next (s.issueAlone (.shr f))
/-- SAR (R370). -/
def execSar (f : SReg) (s : State) : Host.Outcome State Fault Refusal := .next (s.issueAlone (.sar f))
/-- ROT (R370). -/
def execRot (f : SReg) (s : State) : Host.Outcome State Fault Refusal := .next (s.issueAlone (.rot f))
/-- CLZ (R370). -/
def execClz (f : SReg) (s : State) : Host.Outcome State Fault Refusal := .next (s.issueAlone (.clz f))
/-- POPC (R370). -/
def execPopc (f : SReg) (s : State) : Host.Outcome State Fault Refusal := .next (s.issueAlone (.popc f))
/-- MIN (R370). -/
def execMin (f : SReg) (s : State) : Host.Outcome State Fault Refusal := .next (s.issueAlone (.min f))
/-- MAX (R370). -/
def execMax (f : SReg) (s : State) : Host.Outcome State Fault Refusal := .next (s.issueAlone (.max f))
/-- MINN (R370). -/
def execMinn (f : SReg) (s : State) : Host.Outcome State Fault Refusal := .next (s.issueAlone (.minn f))
/-- MAXN (R370). -/
def execMaxn (f : SReg) (s : State) : Host.Outcome State Fault Refusal := .next (s.issueAlone (.maxn f))
/-- SHADD (R371). -/
def execShadd (f : SImm) (s : State) : Host.Outcome State Fault Refusal := .next (s.issueAlone (.shadd f))
/-- EXT (R371). -/
def execExt (f : SImm) (s : State) : Host.Outcome State Fault Refusal := .next (s.issueAlone (.ext f))
/-- INS (R371). -/
def execIns (f : SImm) (s : State) : Host.Outcome State Fault Refusal := .next (s.issueAlone (.ins f))
/-- LI (R372). -/
def execLi (f : SImm) (s : State) : Host.Outcome State Fault Refusal := .next (s.issueAlone (.li f))
/-- LIH (R372). -/
def execLih (f : SImm) (s : State) : Host.Outcome State Fault Refusal := .next (s.issueAlone (.lih f))
/-- LIL (R372). -/
def execLil (f : SImm) (s : State) : Host.Outcome State Fault Refusal := .next (s.issueAlone (.lil f))
/-- CMP (R373). -/
def execCmp (f : SReg) (s : State) : Host.Outcome State Fault Refusal := .next (s.issueAlone (.cmp f))
/-- CMPI (R373). -/
def execCmpi (f : SImm) (s : State) : Host.Outcome State Fault Refusal := .next (s.issueAlone (.cmpi f))
/-- SEL (R374). -/
def execSel (f : SImm) (s : State) : Host.Outcome State Fault Refusal := .next (s.issueAlone (.sel f))
/-- CPY (R375). -/
def execCpy (f : SImm) (s : State) : Host.Outcome State Fault Refusal := .next (s.issueAlone (.cpy f))
/-- MFS (R376). -/
def execMfs (f : SImm) (s : State) : Host.Outcome State Fault Refusal := .next (s.issueAlone (.mfs f))
/-- MTS (R377). -/
def execMts (f : SImm) (s : State) : Host.Outcome State Fault Refusal := .next (s.issueAlone (.mts f))
/-- BRX_S1 (R378). -/
def execBrxS1 (f : SReg) (s : State) : Host.Outcome State Fault Refusal := .next (s.issueAlone (.brxS1 f))
/-- VADD (R384). -/
def execVadd (f : VReg) (s : State) : Host.Outcome State Fault Refusal := .next (s.issueAlone (.vadd f))
/-- VSUB (R384). -/
def execVsub (f : VReg) (s : State) : Host.Outcome State Fault Refusal := .next (s.issueAlone (.vsub f))
/-- VMUL (R384). -/
def execVmul (f : VReg) (s : State) : Host.Outcome State Fault Refusal := .next (s.issueAlone (.vmul f))
/-- VFMA (R384). -/
def execVfma (f : VReg) (s : State) : Host.Outcome State Fault Refusal := .next (s.issueAlone (.vfma f))
/-- VFMS (R384). -/
def execVfms (f : VReg) (s : State) : Host.Outcome State Fault Refusal := .next (s.issueAlone (.vfms f))
/-- VMAC (R384). -/
def execVmac (f : VReg) (s : State) : Host.Outcome State Fault Refusal := .next (s.issueAlone (.vmac f))
/-- VMIN (R385). -/
def execVmin (f : VReg) (s : State) : Host.Outcome State Fault Refusal := .next (s.issueAlone (.vmin f))
/-- VMAX (R385). -/
def execVmax (f : VReg) (s : State) : Host.Outcome State Fault Refusal := .next (s.issueAlone (.vmax f))
/-- VABS (R385). -/
def execVabs (f : VReg) (s : State) : Host.Outcome State Fault Refusal := .next (s.issueAlone (.vabs f))
/-- VNEG (R385). -/
def execVneg (f : VReg) (s : State) : Host.Outcome State Fault Refusal := .next (s.issueAlone (.vneg f))
/-- VRCP (R308). -/
def execVrcp (f : VReg) (s : State) : Host.Outcome State Fault Refusal := .next (s.issueAlone (.vrcp f))
/-- VRSQ (R308). -/
def execVrsq (f : VReg) (s : State) : Host.Outcome State Fault Refusal := .next (s.issueAlone (.vrsq f))
/-- VEXP2 (R308). -/
def execVexp2 (f : VReg) (s : State) : Host.Outcome State Fault Refusal := .next (s.issueAlone (.vexp2 f))
/-- VLOG2 (R308). -/
def execVlog2 (f : VReg) (s : State) : Host.Outcome State Fault Refusal := .next (s.issueAlone (.vlog2 f))
/-- VCLASS (R386). -/
def execVclass (f : VReg) (s : State) : Host.Outcome State Fault Refusal := .next (s.issueAlone (.vclass f))
/-- VCMP (R387). -/
def execVcmp (f : VReg) (s : State) : Host.Outcome State Fault Refusal := .next (s.issueAlone (.vcmp f))
/-- VADDI (R388). -/
def execVaddi (f : VImm) (s : State) : Host.Outcome State Fault Refusal := .next (s.issueAlone (.vaddi f))
/-- VMULI (R388). -/
def execVmuli (f : VImm) (s : State) : Host.Outcome State Fault Refusal := .next (s.issueAlone (.vmuli f))
/-- VFMAI (R388). -/
def execVfmai (f : VImm) (s : State) : Host.Outcome State Fault Refusal := .next (s.issueAlone (.vfmai f))
/-- VMACI (R388). -/
def execVmaci (f : VImm) (s : State) : Host.Outcome State Fault Refusal := .next (s.issueAlone (.vmaci f))
/-- VIADD (R389). -/
def execViadd (f : VReg) (s : State) : Host.Outcome State Fault Refusal := .next (s.issueAlone (.viadd f))
/-- VISUB (R389). -/
def execVisub (f : VReg) (s : State) : Host.Outcome State Fault Refusal := .next (s.issueAlone (.visub f))
/-- VIMUL (R389). -/
def execVimul (f : VReg) (s : State) : Host.Outcome State Fault Refusal := .next (s.issueAlone (.vimul f))
/-- VIMULH (R389). -/
def execVimulh (f : VReg) (s : State) : Host.Outcome State Fault Refusal := .next (s.issueAlone (.vimulh f))
/-- VSHL (R389). -/
def execVshl (f : VReg) (s : State) : Host.Outcome State Fault Refusal := .next (s.issueAlone (.vshl f))
/-- VSHR (R389). -/
def execVshr (f : VReg) (s : State) : Host.Outcome State Fault Refusal := .next (s.issueAlone (.vshr f))
/-- VSAR (R389). -/
def execVsar (f : VReg) (s : State) : Host.Outcome State Fault Refusal := .next (s.issueAlone (.vsar f))
/-- VAND (R389). -/
def execVand (f : VReg) (s : State) : Host.Outcome State Fault Refusal := .next (s.issueAlone (.vand f))
/-- VOR (R389). -/
def execVor (f : VReg) (s : State) : Host.Outcome State Fault Refusal := .next (s.issueAlone (.vor f))
/-- VXOR (R389). -/
def execVxor (f : VReg) (s : State) : Host.Outcome State Fault Refusal := .next (s.issueAlone (.vxor f))
/-- VANDN (R389). -/
def execVandn (f : VReg) (s : State) : Host.Outcome State Fault Refusal := .next (s.issueAlone (.vandn f))
/-- VIMIN (R389). -/
def execVimin (f : VReg) (s : State) : Host.Outcome State Fault Refusal := .next (s.issueAlone (.vimin f))
/-- VIMAX (R389). -/
def execVimax (f : VReg) (s : State) : Host.Outcome State Fault Refusal := .next (s.issueAlone (.vimax f))
/-- VADDS (R390). -/
def execVadds (f : VReg) (s : State) : Host.Outcome State Fault Refusal := .next (s.issueAlone (.vadds f))
/-- VSUBS (R390). -/
def execVsubs (f : VReg) (s : State) : Host.Outcome State Fault Refusal := .next (s.issueAlone (.vsubs f))
/-- VQMULS (R391). -/
def execVqmuls (f : VReg) (s : State) : Host.Outcome State Fault Refusal := .next (s.issueAlone (.vqmuls f))
/-- VABSD (R390). -/
def execVabsd (f : VReg) (s : State) : Host.Outcome State Fault Refusal := .next (s.issueAlone (.vabsd f))
/-- VAVG (R390). -/
def execVavg (f : VReg) (s : State) : Host.Outcome State Fault Refusal := .next (s.issueAlone (.vavg f))
/-- VDOT4 (R392). -/
def execVdot4 (f : VReg) (s : State) : Host.Outcome State Fault Refusal := .next (s.issueAlone (.vdot4 f))
/-- VSAD (R392). -/
def execVsad (f : VReg) (s : State) : Host.Outcome State Fault Refusal := .next (s.issueAlone (.vsad f))
/-- VICMP (R393). -/
def execVicmp (f : VReg) (s : State) : Host.Outcome State Fault Refusal := .next (s.issueAlone (.vicmp f))
/-- VCVT (R394). -/
def execVcvt (f : VReg) (s : State) : Host.Outcome State Fault Refusal := .next (s.issueAlone (.vcvt f))
/-- VQNT (R395). -/
def execVqnt (f : VReg) (s : State) : Host.Outcome State Fault Refusal := .next (s.issueAlone (.vqnt f))
/-- VDQNT (R397). -/
def execVdqnt (f : VReg) (s : State) : Host.Outcome State Fault Refusal := .next (s.issueAlone (.vdqnt f))
/-- VMXS (R398). -/
def execVmxs (f : VReg) (s : State) : Host.Outcome State Fault Refusal := .next (s.issueAlone (.vmxs f))
/-- VSPLIT (R399). -/
def execVsplit (f : VReg) (s : State) : Host.Outcome State Fault Refusal := .next (s.issueAlone (.vsplit f))
/-- VJOIN (R399). -/
def execVjoin (f : VReg) (s : State) : Host.Outcome State Fault Refusal := .next (s.issueAlone (.vjoin f))
/-- VMOV (R404). -/
def execVmov (f : VReg) (s : State) : Host.Outcome State Fault Refusal := .next (s.issueAlone (.vmov f))
/-- VBCST (R404). -/
def execVbcst (f : VReg) (s : State) : Host.Outcome State Fault Refusal := .next (s.issueAlone (.vbcst f))
/-- VIOTA (R404). -/
def execViota (f : VReg) (s : State) : Host.Outcome State Fault Refusal := .next (s.issueAlone (.viota f))
/-- VPERM (R405). -/
def execVperm (f : VReg) (s : State) : Host.Outcome State Fault Refusal := .next (s.issueAlone (.vperm f))
/-- VSHUF (R406). -/
def execVshuf (f : VReg) (s : State) : Host.Outcome State Fault Refusal := .next (s.issueAlone (.vshuf f))
/-- VSLIDE (R407). -/
def execVslide (f : VReg) (s : State) : Host.Outcome State Fault Refusal := .next (s.issueAlone (.vslide f))
/-- VBEXT (R408). -/
def execVbext (f : VReg) (s : State) : Host.Outcome State Fault Refusal := .next (s.issueAlone (.vbext f))
/-- VLUT (R409). -/
def execVlut (f : VReg) (s : State) : Host.Outcome State Fault Refusal := .next (s.issueAlone (.vlut f))
/-- VLUTLD (R410). -/
def execVlutld (f : VReg) (s : State) : Host.Outcome State Fault Refusal := .next (s.issueAlone (.vlutld f))
/-- VUNPK12 (R411). -/
def execVunpk12 (f : VReg) (s : State) : Host.Outcome State Fault Refusal := .next (s.issueAlone (.vunpk12 f))
/-- VPACK12 (R412). -/
def execVpack12 (f : VReg) (s : State) : Host.Outcome State Fault Refusal := .next (s.issueAlone (.vpack12 f))
/-- VRNG (R413). -/
def execVrng (f : VReg) (s : State) : Host.Outcome State Fault Refusal := .next (s.issueAlone (.vrng f))
/-- VRED (R414). -/
def execVred (f : VReg) (s : State) : Host.Outcome State Fault Refusal := .next (s.issueAlone (.vred f))
/-- VSCAN (R415). -/
def execVscan (f : VReg) (s : State) : Host.Outcome State Fault Refusal := .next (s.issueAlone (.vscan f))
/-- VCPY (R417). -/
def execVcpy (f : VReg) (s : State) : Host.Outcome State Fault Refusal := .next (s.issueAlone (.vcpy f))
/-- MCFG (R423). -/
def execMcfg (f : MCfg) (s : State) : Host.Outcome State Fault Refusal := .next (s.issueAlone (.mcfg f))
/-- MZERO (R423). -/
def execMzero (f : MZero) (s : State) : Host.Outcome State Fault Refusal := .next (s.issueAlone (.mzero f))
/-- MMA (R425). -/
def execMma (f : MMac) (s : State) : Host.Outcome State Fault Refusal := .next (s.issueAlone (.mma f))
/-- MMAX (R425). -/
def execMmax (f : MMac) (s : State) : Host.Outcome State Fault Refusal := .next (s.issueAlone (.mmax f))
/-- MREAD (R429). -/
def execMread (f : MRead) (s : State) : Host.Outcome State Fault Refusal := .next (s.issueAlone (.mread f))
/-- MWRITE (R430). -/
def execMwrite (f : MWrite) (s : State) : Host.Outcome State Fault Refusal := .next (s.issueAlone (.mwrite f))
/-- MJOIN (R432). -/
def execMjoin (f : MJoin) (s : State) : Host.Outcome State Fault Refusal := .next (s.issueAlone (.mjoin f))
/-- MSTAT (R431). -/
def execMstat (f : MStat) (s : State) : Host.Outcome State Fault Refusal := .next (s.issueAlone (.mstat f))
/-- LD (R439). -/
def execLd (f : LGen) (s : State) : Host.Outcome State Fault Refusal := .next (s.issueAlone (.ld f))
/-- ST (R439). -/
def execSt (f : LGen) (s : State) : Host.Outcome State Fault Refusal := .next (s.issueAlone (.st f))
/-- VLD (R441). -/
def execVld (f : LGen) (s : State) : Host.Outcome State Fault Refusal := .next (s.issueAlone (.vld f))
/-- VST (R441). -/
def execVst (f : LGen) (s : State) : Host.Outcome State Fault Refusal := .next (s.issueAlone (.vst f))
/-- VLDS (R442). -/
def execVlds (f : LStr) (s : State) : Host.Outcome State Fault Refusal := .next (s.issueAlone (.vlds f))
/-- VSTS (R442). -/
def execVsts (f : LStr) (s : State) : Host.Outcome State Fault Refusal := .next (s.issueAlone (.vsts f))
/-- VGTH (R443). -/
def execVgth (f : LIdx) (s : State) : Host.Outcome State Fault Refusal := .next (s.issueAlone (.vgth f))
/-- VSCT (R443). -/
def execVsct (f : LIdx) (s : State) : Host.Outcome State Fault Refusal := .next (s.issueAlone (.vsct f))
/-- LDJ (R440). -/
def execLdj (f : LGen) (s : State) : Host.Outcome State Fault Refusal := .next (s.issueAlone (.ldj f))
/-- STJ (R440). -/
def execStj (f : LGen) (s : State) : Host.Outcome State Fault Refusal := .next (s.issueAlone (.stj f))
/-- ATOM (R444). -/
def execAtom (f : LAtom) (s : State) : Host.Outcome State Fault Refusal := .next (s.issueAlone (.atom f))
/-- LD_ACQ (R444). -/
def execLdAcq (f : LAtom) (s : State) : Host.Outcome State Fault Refusal := .next (s.issueAlone (.ldAcq f))
/-- ST_REL (R444). -/
def execStRel (f : LAtom) (s : State) : Host.Outcome State Fault Refusal := .next (s.issueAlone (.stRel f))
/-- VATOM (R445). -/
def execVatom (f : LVAtom) (s : State) : Host.Outcome State Fault Refusal := .next (s.issueAlone (.vatom f))
/-- FENCE (R256). -/
def execFence (f : LScope) (s : State) : Host.Outcome State Fault Refusal := .next (s.issueAlone (.fence f))
/-- SYNC (R257). -/
def execSync (f : LScope) (s : State) : Host.Outcome State Fault Refusal := .next (s.issueAlone (.sync f))
/-- TBINIT (R447). -/
def execTbinit (f : LBar) (s : State) : Host.Outcome State Fault Refusal := .next (s.issueAlone (.tbinit f))
/-- TBARV (R447). -/
def execTbarv (f : LBar) (s : State) : Host.Outcome State Fault Refusal := .next (s.issueAlone (.tbarv f))
/-- TBEXP (R447). -/
def execTbexp (f : LBar) (s : State) : Host.Outcome State Fault Refusal := .next (s.issueAlone (.tbexp f))
/-- TBWAIT (R171). -/
def execTbwait (f : LBar) (s : State) : Host.Outcome State Fault Refusal := .next (s.issueAlone (.tbwait f))
/-- SPILL (R448). -/
def execSpill (f : LSpill) (s : State) : Host.Outcome State Fault Refusal := .next (s.issueAlone (.spill f))
/-- FILL (R448). -/
def execFill (f : LSpill) (s : State) : Host.Outcome State Fault Refusal := .next (s.issueAlone (.fill f))
/-- DADD (R449). -/
def execDadd (f : LDadd) (s : State) : Host.Outcome State Fault Refusal := .next (s.issueAlone (.dadd f))
/-- DLI (R449). -/
def execDli (f : LDli) (s : State) : Host.Outcome State Fault Refusal := .next (s.issueAlone (.dli f))
/-- DCPY (R449). -/
def execDcpy (f : LDcpy) (s : State) : Host.Outcome State Fault Refusal := .next (s.issueAlone (.dcpy f))
/-- L1INV (R450). -/
def execL1inv (f : LLine) (s : State) : Host.Outcome State Fault Refusal := .next (s.issueAlone (.l1inv f))
/-- L1WB (R450). -/
def execL1wb (f : LLine) (s : State) : Host.Outcome State Fault Refusal := .next (s.issueAlone (.l1wb f))
/-- PRF (R450). -/
def execPrf (f : LGen) (s : State) : Host.Outcome State Fault Refusal := .next (s.issueAlone (.prf f))
/-- SLJOB (R456). -/
def execSljob (f : EForm) (s : State) : Host.Outcome State Fault Refusal := .next (s.issueAlone (.sljob f))
/-- SLSTAT (R457). -/
def execSlstat (f : EForm) (s : State) : Host.Outcome State Fault Refusal := .next (s.issueAlone (.slstat f))
/-- SLKILL (R457). -/
def execSlkill (f : EForm) (s : State) : Host.Outcome State Fault Refusal := .next (s.issueAlone (.slkill f))
/-- STBIND (R458). -/
def execStbind (f : EForm) (s : State) : Host.Outcome State Fault Refusal := .next (s.issueAlone (.stbind f))
/-- RMOV (R459). -/
def execRmov (f : EForm) (s : State) : Host.Outcome State Fault Refusal := .next (s.issueAlone (.rmov f))
/-- RGET (R459). -/
def execRget (f : EForm) (s : State) : Host.Outcome State Fault Refusal := .next (s.issueAlone (.rget f))
/-- EDSTASH (R201). -/
def execEdstash (f : EForm) (s : State) : Host.Outcome State Fault Refusal := .next (s.issueAlone (.edstash f))
/-- EDFETCH (R203). -/
def execEdfetch (f : EForm) (s : State) : Host.Outcome State Fault Refusal := .next (s.issueAlone (.edfetch f))
/-- EDFREE (R204). -/
def execEdfree (f : EForm) (s : State) : Host.Outcome State Fault Refusal := .next (s.issueAlone (.edfree f))
/-- EDQRY (R204). -/
def execEdqry (f : EForm) (s : State) : Host.Outcome State Fault Refusal := .next (s.issueAlone (.edqry f))
/-- CHSEND (R462). -/
def execChsend (f : EForm) (s : State) : Host.Outcome State Fault Refusal := .next (s.issueAlone (.chsend f))
/-- CHRECV (R463). -/
def execChrecv (f : EForm) (s : State) : Host.Outcome State Fault Refusal := .next (s.issueAlone (.chrecv f))
/-- CHREL (R90). -/
def execChrel (f : EForm) (s : State) : Host.Outcome State Fault Refusal := .next (s.issueAlone (.chrel f))
/-- CHWIN (R463). -/
def execChwin (f : EForm) (s : State) : Host.Outcome State Fault Refusal := .next (s.issueAlone (.chwin f))
/-- OXRED (R465). -/
def execOxred (f : EForm) (s : State) : Host.Outcome State Fault Refusal := .next (s.issueAlone (.oxred f))
/-- OXGATH (R465). -/
def execOxgath (f : EForm) (s : State) : Host.Outcome State Fault Refusal := .next (s.issueAlone (.oxgath f))
/-- WPOST (R466). -/
def execWpost (f : EForm) (s : State) : Host.Outcome State Fault Refusal := .next (s.issueAlone (.wpost f))
/-- WRAISE (R466). -/
def execWraise (f : EForm) (s : State) : Host.Outcome State Fault Refusal := .next (s.issueAlone (.wraise f))
/-- WARR (R467). -/
def execWarr (f : EForm) (s : State) : Host.Outcome State Fault Refusal := .next (s.issueAlone (.warr f))
/-- SPAWN (R155). -/
def execSpawn (f : EForm) (s : State) : Host.Outcome State Fault Refusal := .next (s.issueAlone (.spawn f))
/-- GRD (R469). -/
def execGrd (f : EForm) (s : State) : Host.Outcome State Fault Refusal := .next (s.issueAlone (.grd f))
/-- GUPD (R470). -/
def execGupd (f : EForm) (s : State) : Host.Outcome State Fault Refusal := .next (s.issueAlone (.gupd f))
/-- GNEW (R70). -/
def execGnew (f : EForm) (s : State) : Host.Outcome State Fault Refusal := .next (s.issueAlone (.gnew f))
/-- GSEAL (R471). -/
def execGseal (f : EForm) (s : State) : Host.Outcome State Fault Refusal := .next (s.issueAlone (.gseal f))
/-- GRESCALE (R79). -/
def execGrescale (f : EForm) (s : State) : Host.Outcome State Fault Refusal := .next (s.issueAlone (.grescale f))
/-- RECSET (R65). -/
def execRecset (f : EForm) (s : State) : Host.Outcome State Fault Refusal := .next (s.issueAlone (.recset f))
/-- LEASE (R47). -/
def execLease (f : EForm) (s : State) : Host.Outcome State Fault Refusal := .next (s.issueAlone (.lease f))
/-- LREL (R48). -/
def execLrel (f : EForm) (s : State) : Host.Outcome State Fault Refusal := .next (s.issueAlone (.lrel f))
/-- ELI (R472). -/
def execEli (f : EForm) (s : State) : Host.Outcome State Fault Refusal := .next (s.issueAlone (.eli f))
/-- ECPY (R472). -/
def execEcpy (f : EForm) (s : State) : Host.Outcome State Fault Refusal := .next (s.issueAlone (.ecpy f))
/-- TWAIT (R473). -/
def execTwait (f : EForm) (s : State) : Host.Outcome State Fault Refusal := .next (s.issueAlone (.twait f))

end Sys2Proof.Machine
end

