-- ==== Sys2Proof/Machine/Dispatch.lean ====
section
/-! DEFINITION. The dispatch: one arm for each constructor of `Instr`. -/

namespace Sys2Proof.Machine

/-- The effect of an instruction or an event on the machine. -/
def exec (i : Instr) (s : State) : Host.Outcome State Fault Refusal :=
  match i with
  | .nop f => Sys2Proof.Machine.execNop f s
  | .prep f => Sys2Proof.Machine.execPrep f s
  | .prepAbsolute f => Sys2Proof.Machine.execPrepAbsolute f s
  | .brx f => Sys2Proof.Machine.execBrx f s
  | .brxl f => Sys2Proof.Machine.execBrxl f s
  | .vote f => Sys2Proof.Machine.execVote f s
  | .ptt f => Sys2Proof.Machine.execPtt f s
  | .loop f => Sys2Proof.Machine.execLoop f s
  | .lset f => Sys2Proof.Machine.execLset f s
  | .lstr f => Sys2Proof.Machine.execLstr f s
  | .waitk f => Sys2Proof.Machine.execWaitk f s
  | .bwait f => Sys2Proof.Machine.execBwait f s
  | .barv f => Sys2Proof.Machine.execBarv f s
  | .yield f => Sys2Proof.Machine.execYield f s
  | .setfmt f => Sys2Proof.Machine.execSetfmt f s
  | .setwin f => Sys2Proof.Machine.execSetwin f s
  | .trap f => Sys2Proof.Machine.execTrap f s
  | .rft f => Sys2Proof.Machine.execRft f s
  | .done f => Sys2Proof.Machine.execDone f s
  | .spin f => Sys2Proof.Machine.execSpin f s
  | .add f => Sys2Proof.Machine.execAdd f s
  | .addi f => Sys2Proof.Machine.execAddi f s
  | .sub f => Sys2Proof.Machine.execSub f s
  | .mul f => Sys2Proof.Machine.execMul f s
  | .mulh f => Sys2Proof.Machine.execMulh f s
  | .mulhn f => Sys2Proof.Machine.execMulhn f s
  | .div f => Sys2Proof.Machine.execDiv f s
  | .divn f => Sys2Proof.Machine.execDivn f s
  | .rem f => Sys2Proof.Machine.execRem f s
  | .and f => Sys2Proof.Machine.execAnd f s
  | .andi f => Sys2Proof.Machine.execAndi f s
  | .or f => Sys2Proof.Machine.execOr f s
  | .ori f => Sys2Proof.Machine.execOri f s
  | .xor f => Sys2Proof.Machine.execXor f s
  | .xori f => Sys2Proof.Machine.execXori f s
  | .andn f => Sys2Proof.Machine.execAndn f s
  | .shl f => Sys2Proof.Machine.execShl f s
  | .shr f => Sys2Proof.Machine.execShr f s
  | .sar f => Sys2Proof.Machine.execSar f s
  | .rot f => Sys2Proof.Machine.execRot f s
  | .clz f => Sys2Proof.Machine.execClz f s
  | .popc f => Sys2Proof.Machine.execPopc f s
  | .min f => Sys2Proof.Machine.execMin f s
  | .max f => Sys2Proof.Machine.execMax f s
  | .minn f => Sys2Proof.Machine.execMinn f s
  | .maxn f => Sys2Proof.Machine.execMaxn f s
  | .shadd f => Sys2Proof.Machine.execShadd f s
  | .ext f => Sys2Proof.Machine.execExt f s
  | .ins f => Sys2Proof.Machine.execIns f s
  | .li f => Sys2Proof.Machine.execLi f s
  | .lih f => Sys2Proof.Machine.execLih f s
  | .lil f => Sys2Proof.Machine.execLil f s
  | .cmp f => Sys2Proof.Machine.execCmp f s
  | .cmpi f => Sys2Proof.Machine.execCmpi f s
  | .sel f => Sys2Proof.Machine.execSel f s
  | .cpy f => Sys2Proof.Machine.execCpy f s
  | .mfs f => Sys2Proof.Machine.execMfs f s
  | .mts f => Sys2Proof.Machine.execMts f s
  | .brxS1 f => Sys2Proof.Machine.execBrxS1 f s
  | .vadd f => Sys2Proof.Machine.execVadd f s
  | .vsub f => Sys2Proof.Machine.execVsub f s
  | .vmul f => Sys2Proof.Machine.execVmul f s
  | .vfma f => Sys2Proof.Machine.execVfma f s
  | .vfms f => Sys2Proof.Machine.execVfms f s
  | .vmac f => Sys2Proof.Machine.execVmac f s
  | .vmin f => Sys2Proof.Machine.execVmin f s
  | .vmax f => Sys2Proof.Machine.execVmax f s
  | .vabs f => Sys2Proof.Machine.execVabs f s
  | .vneg f => Sys2Proof.Machine.execVneg f s
  | .vrcp f => Sys2Proof.Machine.execVrcp f s
  | .vrsq f => Sys2Proof.Machine.execVrsq f s
  | .vexp2 f => Sys2Proof.Machine.execVexp2 f s
  | .vlog2 f => Sys2Proof.Machine.execVlog2 f s
  | .vclass f => Sys2Proof.Machine.execVclass f s
  | .vcmp f => Sys2Proof.Machine.execVcmp f s
  | .vaddi f => Sys2Proof.Machine.execVaddi f s
  | .vmuli f => Sys2Proof.Machine.execVmuli f s
  | .vfmai f => Sys2Proof.Machine.execVfmai f s
  | .vmaci f => Sys2Proof.Machine.execVmaci f s
  | .viadd f => Sys2Proof.Machine.execViadd f s
  | .visub f => Sys2Proof.Machine.execVisub f s
  | .vimul f => Sys2Proof.Machine.execVimul f s
  | .vimulh f => Sys2Proof.Machine.execVimulh f s
  | .vshl f => Sys2Proof.Machine.execVshl f s
  | .vshr f => Sys2Proof.Machine.execVshr f s
  | .vsar f => Sys2Proof.Machine.execVsar f s
  | .vand f => Sys2Proof.Machine.execVand f s
  | .vor f => Sys2Proof.Machine.execVor f s
  | .vxor f => Sys2Proof.Machine.execVxor f s
  | .vandn f => Sys2Proof.Machine.execVandn f s
  | .vimin f => Sys2Proof.Machine.execVimin f s
  | .vimax f => Sys2Proof.Machine.execVimax f s
  | .vadds f => Sys2Proof.Machine.execVadds f s
  | .vsubs f => Sys2Proof.Machine.execVsubs f s
  | .vqmuls f => Sys2Proof.Machine.execVqmuls f s
  | .vabsd f => Sys2Proof.Machine.execVabsd f s
  | .vavg f => Sys2Proof.Machine.execVavg f s
  | .vdot4 f => Sys2Proof.Machine.execVdot4 f s
  | .vsad f => Sys2Proof.Machine.execVsad f s
  | .vicmp f => Sys2Proof.Machine.execVicmp f s
  | .vcvt f => Sys2Proof.Machine.execVcvt f s
  | .vqnt f => Sys2Proof.Machine.execVqnt f s
  | .vdqnt f => Sys2Proof.Machine.execVdqnt f s
  | .vmxs f => Sys2Proof.Machine.execVmxs f s
  | .vsplit f => Sys2Proof.Machine.execVsplit f s
  | .vjoin f => Sys2Proof.Machine.execVjoin f s
  | .vmov f => Sys2Proof.Machine.execVmov f s
  | .vbcst f => Sys2Proof.Machine.execVbcst f s
  | .viota f => Sys2Proof.Machine.execViota f s
  | .vperm f => Sys2Proof.Machine.execVperm f s
  | .vshuf f => Sys2Proof.Machine.execVshuf f s
  | .vslide f => Sys2Proof.Machine.execVslide f s
  | .vbext f => Sys2Proof.Machine.execVbext f s
  | .vlut f => Sys2Proof.Machine.execVlut f s
  | .vlutld f => Sys2Proof.Machine.execVlutld f s
  | .vunpk12 f => Sys2Proof.Machine.execVunpk12 f s
  | .vpack12 f => Sys2Proof.Machine.execVpack12 f s
  | .vrng f => Sys2Proof.Machine.execVrng f s
  | .vred f => Sys2Proof.Machine.execVred f s
  | .vscan f => Sys2Proof.Machine.execVscan f s
  | .vcpy f => Sys2Proof.Machine.execVcpy f s
  | .mcfg f => Sys2Proof.Machine.execMcfg f s
  | .mzero f => Sys2Proof.Machine.execMzero f s
  | .mma f => Sys2Proof.Machine.execMma f s
  | .mmax f => Sys2Proof.Machine.execMmax f s
  | .mread f => Sys2Proof.Machine.execMread f s
  | .mwrite f => Sys2Proof.Machine.execMwrite f s
  | .mjoin f => Sys2Proof.Machine.execMjoin f s
  | .mstat f => Sys2Proof.Machine.execMstat f s
  | .ld f => Sys2Proof.Machine.execLd f s
  | .st f => Sys2Proof.Machine.execSt f s
  | .vld f => Sys2Proof.Machine.execVld f s
  | .vst f => Sys2Proof.Machine.execVst f s
  | .vlds f => Sys2Proof.Machine.execVlds f s
  | .vsts f => Sys2Proof.Machine.execVsts f s
  | .vgth f => Sys2Proof.Machine.execVgth f s
  | .vsct f => Sys2Proof.Machine.execVsct f s
  | .ldj f => Sys2Proof.Machine.execLdj f s
  | .stj f => Sys2Proof.Machine.execStj f s
  | .atom f => Sys2Proof.Machine.execAtom f s
  | .ldAcq f => Sys2Proof.Machine.execLdAcq f s
  | .stRel f => Sys2Proof.Machine.execStRel f s
  | .vatom f => Sys2Proof.Machine.execVatom f s
  | .fence f => Sys2Proof.Machine.execFence f s
  | .sync f => Sys2Proof.Machine.execSync f s
  | .tbinit f => Sys2Proof.Machine.execTbinit f s
  | .tbarv f => Sys2Proof.Machine.execTbarv f s
  | .tbexp f => Sys2Proof.Machine.execTbexp f s
  | .tbwait f => Sys2Proof.Machine.execTbwait f s
  | .spill f => Sys2Proof.Machine.execSpill f s
  | .fill f => Sys2Proof.Machine.execFill f s
  | .dadd f => Sys2Proof.Machine.execDadd f s
  | .dli f => Sys2Proof.Machine.execDli f s
  | .dcpy f => Sys2Proof.Machine.execDcpy f s
  | .l1inv f => Sys2Proof.Machine.execL1inv f s
  | .l1wb f => Sys2Proof.Machine.execL1wb f s
  | .prf f => Sys2Proof.Machine.execPrf f s
  | .sljob f => Sys2Proof.Machine.execSljob f s
  | .slstat f => Sys2Proof.Machine.execSlstat f s
  | .slkill f => Sys2Proof.Machine.execSlkill f s
  | .stbind f => Sys2Proof.Machine.execStbind f s
  | .rmov f => Sys2Proof.Machine.execRmov f s
  | .rget f => Sys2Proof.Machine.execRget f s
  | .edstash f => Sys2Proof.Machine.execEdstash f s
  | .edfetch f => Sys2Proof.Machine.execEdfetch f s
  | .edfree f => Sys2Proof.Machine.execEdfree f s
  | .edqry f => Sys2Proof.Machine.execEdqry f s
  | .chsend f => Sys2Proof.Machine.execChsend f s
  | .chrecv f => Sys2Proof.Machine.execChrecv f s
  | .chrel f => Sys2Proof.Machine.execChrel f s
  | .chwin f => Sys2Proof.Machine.execChwin f s
  | .oxred f => Sys2Proof.Machine.execOxred f s
  | .oxgath f => Sys2Proof.Machine.execOxgath f s
  | .wpost f => Sys2Proof.Machine.execWpost f s
  | .wraise f => Sys2Proof.Machine.execWraise f s
  | .warr f => Sys2Proof.Machine.execWarr f s
  | .spawn f => Sys2Proof.Machine.execSpawn f s
  | .grd f => Sys2Proof.Machine.execGrd f s
  | .gupd f => Sys2Proof.Machine.execGupd f s
  | .gnew f => Sys2Proof.Machine.execGnew f s
  | .gseal f => Sys2Proof.Machine.execGseal f s
  | .grescale f => Sys2Proof.Machine.execGrescale f s
  | .recset f => Sys2Proof.Machine.execRecset f s
  | .lease f => Sys2Proof.Machine.execLease f s
  | .lrel f => Sys2Proof.Machine.execLrel f s
  | .eli f => Sys2Proof.Machine.execEli f s
  | .ecpy f => Sys2Proof.Machine.execEcpy f s
  | .twait f => Sys2Proof.Machine.execTwait f s
  | .thermalSample junction substrate => Sys2Proof.Machine.execThermalSample junction substrate s
  | .coolantOkChange level => Sys2Proof.Machine.execCoolantOkChange level s
  | .registerWrite reg size value => Sys2Proof.Machine.execRegisterWrite reg size value s
  | .coherencePlacement write => Sys2Proof.Machine.execCoherencePlacement write s
  | .remoteWriteApply write die => Sys2Proof.Machine.execRemoteWriteApply write die s
  | .atomicAtHome access lanes => Sys2Proof.Machine.execAtomicAtHome access lanes s
  | .memoryAccessComplete access lanes ecc => Sys2Proof.Machine.execMemoryAccessComplete access lanes ecc s
  | .hostRequestCompletion request => Sys2Proof.Machine.execHostRequestCompletion request s
  | .gaugeSectorUpdate entry => Sys2Proof.Machine.execGaugeSectorUpdate entry s
  | .gaugeSeal request => Sys2Proof.Machine.execGaugeSeal request s
  | .gaugeRescale request => Sys2Proof.Machine.execGaugeRescale request s
  | .configFlitReceive chan nparc psize state => Sys2Proof.Machine.execConfigFlitReceive chan nparc psize state s
  | .parcelHeaderReceive chan header => Sys2Proof.Machine.execParcelHeaderReceive chan header s
  | .dataFlitReceive chan data => Sys2Proof.Machine.execDataFlitReceive chan data s
  | .parcelDelivery chan => Sys2Proof.Machine.execParcelDelivery chan s
  | .creditFlitReceive chan credits => Sys2Proof.Machine.execCreditFlitReceive chan credits s
  | .timedSendLaunch chan => Sys2Proof.Machine.execTimedSendLaunch chan s
  | .channelEnable chan base ctl => Sys2Proof.Machine.execChannelEnable chan base ctl s
  | .channelDisable chan => Sys2Proof.Machine.execChannelDisable chan s
  | .oxbowFlitReceive west flit => Sys2Proof.Machine.execOxbowFlitReceive west flit s
  | .collectiveComplete west => Sys2Proof.Machine.execCollectiveComplete west s
  | .startWrite size value => Sys2Proof.Machine.execStartWrite size value s
  | .stagingWrite offset data => Sys2Proof.Machine.execStagingWrite offset data s
  | .stageEnable die stage wsplit => Sys2Proof.Machine.execStageEnable die stage wsplit s
  | .stageDisable die stage wsplit => Sys2Proof.Machine.execStageDisable die stage wsplit s
  | .queueArrival die entry => Sys2Proof.Machine.execQueueArrival die entry s
  | .stageEvaluate die call => Sys2Proof.Machine.execStageEvaluate die call s
  | .gangResume gang => Sys2Proof.Machine.execGangResume gang s
  | .jcbPost what => Sys2Proof.Machine.execJcbPost what s
  | .successorEvent die entry => Sys2Proof.Machine.execSuccessorEvent die entry s
  | .stepRetire die stage frame => Sys2Proof.Machine.execStepRetire die stage frame s
  | .joinHalfArrival ctx => Sys2Proof.Machine.execJoinHalfArrival ctx s
  | .joinTimeout ctx => Sys2Proof.Machine.execJoinTimeout ctx s
  | .sluiceJobStart die serial => Sys2Proof.Machine.execSluiceJobStart die serial s
  | .sluiceUnit die serial unit ecc => Sys2Proof.Machine.execSluiceUnit die serial unit ecc s
  | .sluiceJobDone die serial => Sys2Proof.Machine.execSluiceJobDone die serial s
  | .sluiceJobFault die serial unit => Sys2Proof.Machine.execSluiceJobFault die serial unit s
  | .fqResume die entry => Sys2Proof.Machine.execFqResume die entry s
  | .fqAbandon die entry => Sys2Proof.Machine.execFqAbandon die entry s
  | .streamVectorArrival ctx stream => Sys2Proof.Machine.execStreamVectorArrival ctx stream s
  | .riffleDecode cluster unit => Sys2Proof.Machine.execRiffleDecode cluster unit s
  | .riffleEncode cluster unit => Sys2Proof.Machine.execRiffleEncode cluster unit s
  | .riffleUnpack12 cluster unit => Sys2Proof.Machine.execRiffleUnpack12 cluster unit s
  | .riffleCrc cluster unit => Sys2Proof.Machine.execRiffleCrc cluster unit s
  | .riffleExpand3 cluster unit => Sys2Proof.Machine.execRiffleExpand3 cluster unit s
  | .riffleFill cluster unit => Sys2Proof.Machine.execRiffleFill cluster unit s
  | .riffleChunkWrite cluster unit => Sys2Proof.Machine.execRiffleChunkWrite cluster unit s
  | .riffleOpComplete cluster unit ecc => Sys2Proof.Machine.execRiffleOpComplete cluster unit ecc s
  | .riffleFault cluster unit => Sys2Proof.Machine.execRiffleFault cluster unit s
  | .eddyStoreComplete die serial => Sys2Proof.Machine.execEddyStoreComplete die serial s
  | .eddyRestoreComplete die serial => Sys2Proof.Machine.execEddyRestoreComplete die serial s
  | .eddyJobFailure die job => Sys2Proof.Machine.execEddyJobFailure die job s
  | .bundleIssue core => Sys2Proof.Machine.execBundleIssue core s
  | .tlbWalkComplete cluster page => Sys2Proof.Machine.execTlbWalkComplete cluster page s
  | .twaitExpiry ctx => Sys2Proof.Machine.execTwaitExpiry ctx s
  | .powerLost => Sys2Proof.Machine.execPowerLost s
  | .bandDecision => Sys2Proof.Machine.execBandDecision s
  | .rateGradientCheck => Sys2Proof.Machine.execRateGradientCheck s
  | .coolantLossHold => Sys2Proof.Machine.execCoolantLossHold s
  | .coolantLossFault => Sys2Proof.Machine.execCoolantLossFault s
  | .coolantRestoredExit => Sys2Proof.Machine.execCoolantRestoredExit s
  | .switchTick => Sys2Proof.Machine.execSwitchTick s
  | .coldRefreshExpiry => Sys2Proof.Machine.execColdRefreshExpiry s
  | .timeFlitSend => Sys2Proof.Machine.execTimeFlitSend s
  | .identify => Sys2Proof.Machine.execIdentify s
  | .attest => Sys2Proof.Machine.execAttest s
  | .cool => Sys2Proof.Machine.execCool s
  | .warm => Sys2Proof.Machine.execWarm s
  | .hold => Sys2Proof.Machine.execHold s
  | .loadImage => Sys2Proof.Machine.execLoadImage s
  | .verifyImage => Sys2Proof.Machine.execVerifyImage s
  | .start => Sys2Proof.Machine.execStart s
  | .stop => Sys2Proof.Machine.execStop s
  | .query => Sys2Proof.Machine.execQuery s
  | .setLattol => Sys2Proof.Machine.execSetLattol s
  | .resetDie => Sys2Proof.Machine.execResetDie s
  | .readLog => Sys2Proof.Machine.execReadLog s
  | .activityDecision => Sys2Proof.Machine.execActivityDecision s
  | .wakeEvent => Sys2Proof.Machine.execWakeEvent s
  | .tlbinvAll => Sys2Proof.Machine.execTlbinvAll s
  | .powerApplied junction substrate => Sys2Proof.Machine.execPowerApplied junction substrate s
  | .timingSetSwitch channel => Sys2Proof.Machine.execTimingSetSwitch channel s
  | .thevtWrite value => Sys2Proof.Machine.execThevtWrite value s
  | .dramReadWrite channel sector write ecc => Sys2Proof.Machine.execDramReadWrite channel sector write ecc s
  | .refresh channel due => Sys2Proof.Machine.execRefresh channel due s
  | .patrolScrubAccess channel sector urgent request ecc => Sys2Proof.Machine.execPatrolScrubAccess channel sector urgent request ecc s
  | .powerDownEntry channel request => Sys2Proof.Machine.execPowerDownEntry channel request s
  | .selfRefreshEntry channel request => Sys2Proof.Machine.execSelfRefreshEntry channel request s
  | .llcAccess sector kind ecc => Sys2Proof.Machine.execLlcAccess sector kind ecc s
  | .leaseExpiry lease => Sys2Proof.Machine.execLeaseExpiry lease s
  | .handleRequest die handle coord shape sup write image => Sys2Proof.Machine.execHandleRequest die handle coord shape sup write image s
  | .recordReplicaWrite request die => Sys2Proof.Machine.execRecordReplicaWrite request die s
  | .portDown port => Sys2Proof.Machine.execPortDown port s
  | .portUp port => Sys2Proof.Machine.execPortUp port s
  | .timeFlitReceive port value => Sys2Proof.Machine.execTimeFlitReceive port value s
  | .oxbowFlagWrite west shard => Sys2Proof.Machine.execOxbowFlagWrite west shard s
  | .stageEvalTimer die stage => Sys2Proof.Machine.execStageEvalTimer die stage s
  | .launchTimeReached die stage => Sys2Proof.Machine.execLaunchTimeReached die stage s
  | .saveWriteoutComplete gang => Sys2Proof.Machine.execSaveWriteoutComplete gang s
  | .tlbinvPage vpn => Sys2Proof.Machine.execTlbinvPage vpn s

end Sys2Proof.Machine
end

