-- ==== Sys2Proof/Machine/Step.lean ====
section
/-! DEFINITION. One step of the module: the next turn of the schedule, or, where the schedule is empty, one tick and one issue of the core
of the sequencer `cur`. -/

namespace Sys2Proof.Machine

/-- One step. A turn lets its ticks pass and then takes its event; log entry 3 says what the schedule stands for. -/
def step (s : State) : Host.Outcome State Fault Refusal :=
  match s.agenda with
  | [] => exec (.bundleIssue { core := s.cur / 4 }) (s.tick 1)
  | t :: ts => exec t.ev (State.tick { s with agenda := ts } t.dt)

/-- The page of code that `withFetchWord` maps: virtual and physical base. -/
def fetchBase : Nat := 0x10000

/-- Its translation, for the supervisor to execute. -/
def fetchEntry : TlbEntry := { va := fetchBase, size := 0x10000, pa := fetchBase, r := true, w := false, x := true, sup := true }

/-- The words of a one-syllable bundle, and zeros after them, stored where the next step fetches: the schedule is empty, the context of
sequencer 0 of core 0 stands ready alone on its core, and its program counter names a mapped page that holds the words. This is what a
load and a START bring about (log entry 4). -/
def State.withFetchWord (s : State) (nbits w : Nat) : State :=
  let bytes := (Sys2Proof.wordsOf maxBundleWords (w % 2 ^ nbits)).flatMap fun x => toBytes 4 x.toNat
  let x : Ctx := (s.ctx 0).getD { sup := true }
  let x : Ctx := { x with
    pc := BitVec.ofNat 48 fetchBase, sup := true, run := .ready, arrived := false, repLeft := none, spin := 0, br := none, loops := {}, due := [] }
  let s : State := { s with agenda := [], cur := 0, lits := [], ctxs := s.ctxs.filter fun kv => decide (4 ≤ kv.1) }
  let s := (s.setCtx 0 (some x)).writeEverywhere fetchBase bytes
  s.modCluster 0 fun k => { k with tlb := fetchEntry :: k.tlb }

end Sys2Proof.Machine
end

