-- ==== Sys2Proof/Safety.lean ====
section
/-! DEFINITION. The terms that claims are stated in: the canonical form of the memories, a context whose bundle issues, what an operation
that stands alone in its bundle does, and what a step of one context leaves alone. -/

namespace Sys2Proof.Machine

/-- Every memory of a core or a cluster stands in the canonical form. -/
def Core.memWf (k : Core) : Bool := Memory.wf k.spad && Memory.wf k.spill

/-- The memories that the state keeps, the images of captured gangs among them, are in the canonical form. -/
def State.memWf (s : State) : Bool :=
  Memory.wf s.home && Memory.wf s.hostMem && (s.dies.all fun d => Memory.wf d.2.view) && (s.cores.all fun k => Core.memWf k.2) &&
  (s.clusters.all fun k => Memory.wf k.2.sram) && s.gangs.all fun g => g.images.all fun i => Memory.wf i.2.1 && Memory.wf i.2.2

/-- A step came to a next state. -/
def isNext (o : Host.Outcome State Fault Refusal) : Bool :=
  match o with
  | .next _ => true
  | _ => false

/-! ### One operation alone in its bundle -/

/-- The context of the sequencer `cur` stands ready and presents its bundle as an ordinary one (R231, R263, R316): no trap is due, no
transfer, start or RFT has just brought control here, no repetition is left, no slot holds a sticky operation, and every token can count
one more. -/
def State.Presents (s : State) (x : Ctx) : Prop :=
  s.ctx s.cur = some x ∧ s.inReady x = true ∧ x.due = [] ∧ x.arrived = false ∧ x.repLeft = none ∧
  x.loops.v0 = none ∧ x.loops.v1 = none ∧ x.loops.m = none ∧ x.loops.l = none ∧ ∀ k, x.tokCount k < 255

/-- It presents the bundle for the first time: no arrival of a BWAIT.ARV and no value of a TWAIT is kept (R473, R480). -/
def State.Issues (s : State) (x : Ctx) : Prop := s.Presents x ∧ x.loops.arv = none ∧ x.loops.tw = none

/-- The operation acts as its bundle is first presented (R473, R480): BWAIT.ARV and TWAIT. -/
def showsFirst : Instr → Bool
  | .bwait f => f.x == 1#8
  | .twait _ => true
  | _ => false

/-- The operation as its slot issues it. -/
def State.opAlone (s : State) (i : Instr) (sl : Slot) (op : Nat) : SlotOp := ⟨sl, op, some i, 0, s.lits⟩

/-- The slot of an operation, its opcode and its guard; the values for an event mean nothing. -/
def Instr.slotPart (i : Instr) : Slot × Nat × Guard :=
  match i.parts with
  | some p => (p.1, p.2.1, p.2.2.1)
  | none => (.c, 0, ⟨0#8, 0#4, 0#4, 0#4⟩)

/-- What an operation that stands alone in the bundle of the context sees (R315): the bundle is one header, one syllable of two words, and
the literals. -/
def State.envAlone (s : State) (x : Ctx) (i : Instr) : Env :=
  { s := s, c := s.cur, x := x, pc := x.pc, next := x.pc + BitVec.ofNat 48 (4 * (3 + s.lits.length)), lits := s.lits, repeats := 0
    slot := (Instr.slotPart i).1, op := (Instr.slotPart i).2.1, g := x.guard (Instr.slotPart i).2.2, n := 0
    cTransfer := x.cTransfers [s.opAlone i (Instr.slotPart i).1 (Instr.slotPart i).2.1], taken := [] }

/-- The state after the bundle has issued with an effect and the token that it counts on (R216, R227, R349). -/
def State.issued (s : State) (x : Ctx) (i : Instr) (tok : Option Nat) (f : State → State) : State :=
  (s.modCtx s.cur fun y => { y with arrived := false }).issue s.cur x (shownAlone s i) 0
    [s.opAlone i (Instr.slotPart i).1 (Instr.slotPart i).2.1]
    [(s.opAlone i (Instr.slotPart i).1 (Instr.slotPart i).2.1, .act tok f)]

/-- The instruction completes: its bundle issues, the effect is `f`, and the issue counts up the token `tok`. -/
def State.Completes (s : State) (x : Ctx) (i : Instr) (tok : Option Nat) (f : State → State) : Prop :=
  exec i s = .next (s.issued x i tok f)

/-- The instruction completes and its effect is one result of a latency (R227). -/
def State.Yields (s : State) (x : Ctx) (i : Instr) (lat : Nat) (w : Landing) : Prop :=
  s.Completes x i none fun t => t.addFlight s.cur lat w

/-- The instruction traps: the bundle has no effect, and the trap stands at its address (R262, R265). -/
def State.Traps (s : State) (x : Ctx) (i : Instr) (t : TrapReq) : Prop :=
  exec i s = .next (s.takeTrap s.cur t x.pc 0 [])

/-- Lane 0 of a guard is true (R314). -/
def Ctx.Guarded (x : Ctx) (g : Guard) : Prop := (x.guard g).getLsbD 0 = true

/-- No field of an operation is bad (R263). -/
def NoBad (cs : List Check) : Prop := firstBad cs = none

/-! ### Operands as claims name them -/

/-- rs1 of the register form: a latch of the slot where Q marks it, else a register of the slot's file (R325). -/
def Ctx.rs1 (x : Ctx) (f : SReg) : W64 :=
  if f.q.getLsbD 1 then x.latch f.slot.slot.num (f.rs1.toNat % 8) else x.sfile f.slot f.rs1.toNat
/-- rs2 of the register form. -/
def Ctx.rs2 (x : Ctx) (f : SReg) : W64 :=
  if f.q.getLsbD 0 then x.latch f.slot.slot.num (f.rs2.toNat % 8) else x.sfile f.slot f.rs2.toNat
/-- rs1 of the immediate form. -/
def Ctx.irs1 (x : Ctx) (f : SImm) : W64 :=
  if f.q.getLsbD 1 then x.latch f.slot.slot.num (f.rs1.toNat % 8) else x.sfile f.slot f.rs1.toNat
/-- rd of the immediate form as a source. -/
def Ctx.ird (x : Ctx) (f : SImm) : W64 :=
  if f.q.getLsbD 2 then x.latch f.slot.slot.num (f.rd.toNat % 8) else x.sfile f.slot f.rd.toNat
/-- rs2 of SHADD and SEL, which IMM[6:0] names (R366). -/
def Ctx.immRs2 (x : Ctx) (f : SImm) : W64 :=
  if f.imm.getLsbD 6 then x.latch f.slot.slot.num (f.imm.toNat % 64 % 8) else x.sfile f.slot (f.imm.toNat % 64)
/-- es1 of an engine operation (R451). -/
def Ctx.es1 (x : Ctx) (f : EForm) : W64 := if f.q.getLsbD 1 then x.latch 7 (f.es1.toNat % 8) else x.eReg f.es1.toNat
/-- es2 of an engine operation. -/
def Ctx.es2 (x : Ctx) (f : EForm) : W64 := if f.q.getLsbD 0 then x.latch 7 (f.es2.toNat % 8) else x.eReg f.es2.toNat

/-! ### Vector and matrix operations as claims name them -/

/-- The vectors that the stream registers of an operation give leave their buffers (R166). -/
def Ctx.popStreams (x : Ctx) (ks : List Nat) : Ctx := { x with f := ks.foldl (fun m n => SMap.modify {} m n Stream.pop) x.f }

/-- A stream register gives a vector (R31, R166): its buffer holds one, and its data is correct. -/
abbrev Stream.Ready (t : Stream) : Prop := t.buf ≠ [] ∧ t.ecc.getD 0 none = none

/-- A vector operation of the register form may act (R314, R380, R166): a lane is active, no field is bad, and each stream register that
it reads gives a vector. -/
def State.VReady (s : State) (x : Ctx) (i : Instr) (f : VReg) (m : VForm) (more : List Check) : Prop :=
  x.guard f.g ≠ 0#64 ∧ NoBad ((s.envAlone x i).vchecks f m ++ more) ∧ ∀ k ∈ vStreams f m, Stream.Ready (SMap.get {} x.f k)

/-- It completes with an effect, and its stream vectors leave their buffers. -/
def State.VCompletes (s : State) (x : Ctx) (i : Instr) (ks : List Nat) (g : State → State) : Prop :=
  s.Completes x i none fun t => (g t).modCtx s.cur fun y => y.popStreams ks

/-- The destination of a vector operation, unstepped. -/
def VReg.dest (f : VReg) : Dest := vdest (isW f.slot) 0 f.step.toNat f.vd

/-- It completes with one vector result of a latency: `r n` in each active lane n (R382). -/
def State.VYields (s : State) (x : Ctx) (i : Instr) (f : VReg) (m : VForm) (lat : Nat) (r : Nat → W32) : Prop :=
  ∃ v : Vec, s.VCompletes x i (vStreams f m) (fun t => t.addFlight s.cur lat (.vector (VReg.dest f) v (x.guard f.g))) ∧
    ∀ n, n < 64 → (x.guard f.g).getLsbD n = true → v.lane n = r n

/-- Some active lane's result was flushed (R300). -/
def Ctx.Flushes (x : Ctx) (g : Guard) (r : Nat → Rounded) : Prop :=
  ∃ n, n < 64 ∧ (x.guard g).getLsbD n = true ∧ (r n).tiny = true

/-- It completes with one rounded vector result (R299, R300, R302): STATUS.SUBFLAG is set where an active lane was flushed, and SRSEQ rises
where the operation draws words and rounds stochastically. -/
def State.VRounds (s : State) (x : Ctx) (i : Instr) (f : VReg) (m : VForm) (lat : Nat) (sr : Bool) (hold : Nat → W32) (r : Nat → Rounded) : Prop :=
  ∃ (v : Vec) (tiny : Bool), (tiny = true ↔ x.Flushes f.g r) ∧
    s.VCompletes x i (vStreams f m)
      (fun t => (t.addFlight s.cur lat (.vector (VReg.dest f) v (x.guard f.g))).modCtx s.cur fun y =>
        (if sr then y.advanceSr (isW f.slot) else y).flagSub tiny) ∧
    ∀ n, n < 64 → (x.guard f.g).getLsbD n = true → v.lane n = hold (r n).bits

/-- The tile that a matrix operation names may be used (R211, R217, R239, R267): it exists, no trap has frozen a macro-op on it, the window
mode gives the core its array, and no unfinished join holds it. -/
def State.MReady (s : State) (x : Ctx) (z : BitVec 5) : Prop :=
  z.toNat < partTiles (s.part s.cur) ∧ x.frozenTile z.toNat = false ∧ x.joinHolds z.toNat = false ∧
  ¬ ((s.cluster (ctxCluster s.cur)).winmode = 5#3 ∧ ctxCore s.cur % 2 = 1) ∧
  ¬ ((s.cluster (ctxCluster s.cur)).winmode = 6#3 ∧ ctxCore s.cur % 2 = 0)

/-- An element of the half of a tile that a side keeps, once the partner's half `rows` is added (R235): at an active position that the half
holds, the sum, which wraps in an i32 tile and is rounded once in an FP32 tile; elsewhere what it was. -/
def Tile.sumElem (t : Tile) (h : Bool) (rows : List (List (Option W32))) (row col : Nat) : W32 :=
  match (rows.getD (row - if h then 64 else 0) []).getD col none with
  | some v =>
    if row ≤ t.rows.toNat ∧ col ≤ t.cols.toNat then
      (if t.i32 then t.elem row col + v
       else BitVec.ofNat 32 (fF32.round .rne false ((fF32.value (t.elem row col).toNat).add false (fF32.value v.toNat))).bits)
    else t.elem row col
  | none => t.elem row col

/-- A side of a join has added the half `rows` to the rows that it keeps: the other half, and every other tile, is as it was, and its token has
fallen (R235). -/
def Ctx.JoinEnds (x y : Ctx) (j : Join) (rows : List (List (Option W32))) : Prop :=
  y.join = none ∧ y.tokCount j.token = x.tokCount j.token - 1 ∧ (∀ z, z ≠ j.z → SMap.get {} y.z z = SMap.get {} x.z z) ∧
  ∀ row col, row < 128 → col < 128 →
    (SMap.get {} y.z j.z).elem row col =
      if row / 64 = (if j.h then 1 else 0) then (SMap.get {} x.z j.z).sumElem j.h rows row col else (SMap.get {} x.z j.z).elem row col

/-! ### Engine operations as claims name them -/

/-- The bytes `bs` of an operand of an engine operation can be read at its issue (R454): the address is aligned and in a space that the
operation takes, every piece translates, no earlier access of the context that a load follows is pending, no sector is poisoned, and host memory can be
read. -/
def State.Operand (s : State) (x : Ctx) (i : Instr) (a : W64) (n align : Nat) (spaces : List Nat) (rs : List Req) (bs : List Byte) : Prop :=
  spaces.contains (a.toNat / 2 ^ 60) = true ∧ a.toNat % align = 0 ∧
  rs = (List.range (n / align)).map (fun k => ⟨0, a + BitVec.ofNat 64 (align * k), align⟩) ∧
  ∃ ls, (s.envAlone x i).resolveAll { perm := .read } rs = .ok ls ∧ s.depsOf s.cur ((s.envAlone x i).probe ls) [] = [] ∧
    (∀ r ∈ ls, s.poisoned r.2 r.1.size = none) ∧ s.hostQueued (ls.map (·.2)) = false ∧
    bs = ls.flatMap fun r => s.readLoc (ctxDie s.cur) r.2 r.1.size

/-- The number by which an engine keeps the destination of an operation, beside 64 times that of its result (R453). -/
def Ctx.destOf (x : Ctx) (f : EForm) : Nat := eDestNum f + 64 * x.resultNo

/-- The context waits for one engine result alone, that of the operation with destination number `n`, in the registers `ds` (R437, R453). -/
def Ctx.AwaitsOnly (x : Ctx) (n : Nat) (ds : List Dest) : Prop := x.results = [{ id := n / 64, dests := ds }]

/-- What an operation that writes ed as its token clears does at its issue (R437, R453): `pre` is what comes with the reading of its operands, then
the context notes the destination, and `g` is the rest. -/
def State.Expects (s : State) (x : Ctx) (i : Instr) (f : EForm) (pre g : State → State) : Prop :=
  s.Completes x i (some f.token.toNat) fun t => g ((pre t).expect s.cur [eDest f])

/-- An operation counts on its token, and the token clears two counts on with these results in ed (R453). -/
def State.Answers (s : State) (x : Ctx) (i : Instr) (f : EForm) (pre g : State → State) (v : State → W64) : Prop :=
  s.Expects x i f pre fun t => (g t).addFlight s.cur 2 (.reply f.token.toNat x.resultNo [(eDest f, v t)])

/-- An operation counts on its token, and the token clears two counts on without a result (R453). -/
def State.Clears (s : State) (x : Ctx) (i : Instr) (f : EForm) (g : State → State) : Prop :=
  s.Completes x i (some f.token.toNat) fun t => (g t).addFlight s.cur 2 (.reply f.token.toNat x.resultNo [])

/-! ### Engines and commands as claims name them -/

/-- A die's fault queue holds a new pending fault at an address, with its cause (R285). -/
def State.QueuedFault (s t : State) (d cause : Nat) (va : W64) : Prop :=
  SMap.get {} (t.die d).fq.entries ((s.die d).fq.tail.toNat % 64) =
      { SMap.get {} (t.die d).fq.entries ((s.die d).fq.tail.toNat % 64) with va := va, cause := BitVec.ofNat 8 cause, pend := true } ∧
    (t.die d).fq.tail = (s.die d).fq.tail + 1

/-- The running command of the mailbox has completed with a status (R104): its SEQ is shown, and the message of vector 0 is sent. -/
def State.Completed (t : State) (seq : BitVec 16) (status : Nat) : Prop :=
  t.mbox.running = none ∧ t.mbox.busy = false ∧ t.mbox.seq = seq ∧ t.mbox.status = BitVec.ofNat 8 status ∧ t.mbox.any = true ∧
  (if (t.port hostPort).up then Out.msix 0 ∈ t.out else Out.msix 0 ∈ (t.port hostPort).queue)

/-! ### Results that land -/

/-- A result that stands in one register, latch, constant or predicate, or in FMT. -/
def Landing.isRegister : Landing → Bool
  | .scalar (.special _) _ => false
  | .scalar (.pred _) _ => false
  | .scalar (.vreg _ _) _ => false
  | .scalar (.vlatch _ _) _ => false
  | .scalar _ _ => true
  | .vector (.vreg _ _) _ _ => true
  | .vector (.vlatch _ _) _ _ => true
  | .predicate _ _ _ => true
  | .fmt _ => true
  | _ => false

/-- The lanes `m` of the vector `old` have become those of `v`. -/
def Vec.Took (old new v : Vec) (m : Mask) : Prop := ∀ l, l < 64 → new.lane l = if m.getLsbD l then v.lane l else old.lane l

/-- From `x` to `y` a result has come to stand in its register (R214, R227, R302, R382), and nothing else has changed. -/
def Ctx.Gets (x y : Ctx) (w : Landing) : Prop :=
  match w with
  | .scalar (.a n) v => y = { x with a := y.a } ∧ ∀ k, SMap.get 0#64 y.a k = if k = n then v else SMap.get 0#64 x.a k
  | .scalar (.b n) v => y = { x with b := y.b } ∧ ∀ k, SMap.get 0#64 y.b k = if k = n then v else SMap.get 0#64 x.b k
  | .scalar (.d n) v => y = { x with d := y.d } ∧ ∀ k, y.dReg k = if k = n then v else x.dReg k
  | .scalar (.e n) v => y = { x with e := y.e } ∧ ∀ k, SMap.get 0#64 y.e k = if k = n then v else SMap.get 0#64 x.e k
  | .scalar (.m n) v => y = { x with m := y.m } ∧ ∀ k, SMap.get 0#64 y.m k = if k = n then v else SMap.get 0#64 x.m k
  | .scalar (.j n) v => y = { x with j := y.j } ∧ ∀ k, SMap.get 0#64 y.j k = if k = n then v else SMap.get 0#64 x.j k
  | .scalar (.latch sl n) v => y = { x with q := y.q } ∧ ∀ k, SMap.get 0#64 y.q k = if k = 8 * sl + n then v else SMap.get 0#64 x.q k
  | .scalar (.const n) v => y = { x with c := y.c } ∧ ∀ k, SMap.get 0#32 y.c k = if k = n then v.truncate 32 else SMap.get 0#32 x.c k
  | .vector (.vreg q n) v m => y = (if q then { x with w := y.w } else { x with v := y.v }) ∧ Vec.Took (x.vec q n) (y.vec q n) v m ∧
      ∀ k, k ≠ n → y.vec q k = x.vec q k
  | .vector (.vlatch q n) v m => y = (if q then { x with qw := y.qw } else { x with qv := y.qv }) ∧ Vec.Took (x.vlatch q n) (y.vlatch q n) v m ∧
      ∀ k, k ≠ n → y.vlatch q k = x.vlatch q k
  | .predicate n v m => y = { x with p := y.p } ∧
      ∀ k, y.pred k = if k = n ∧ 1 ≤ k ∧ k ≤ 11 then (x.pred k &&& ~~~m) ||| (v &&& m) else x.pred k
  | .fmt v => y = { x with fmt := v, srseq0 := 0#32, srseq1 := 0#32 }
  | _ => True

/-! ### Frames -/

/-- Two states that differ in one context only. -/
def State.OnlyCtx (s t : State) (c : Nat) : Prop :=
  t = { s with ctxs := t.ctxs } ∧ ∀ d, d ≠ c → t.ctx d = s.ctx d

/-- Nothing of the context's own is to happen with the issue but its own bundle: no result is due at this count, no row pairs of MREAD
arrive, and no transfer or loop is under way. -/
def Ctx.Calm (x : Ctx) : Prop :=
  (∀ f ∈ x.flight, x.count < f.land) ∧ (∀ k, Stream.deliver x.count (SMap.get {} x.f k) = SMap.get {} x.f k) ∧
  x.br = none ∧ x.loops.nest = none ∧ x.loops.starting = none ∧ x.loops.arv = none

end Sys2Proof.Machine
end

