-- ==== Sys2Proof/Certificates/Slice0/Obligations.lean ====
section
/-! DEFINITION. The statements for the provers. Each names the rules of the manual that it formalises; what is stated of an operation is
stated of it standing alone in its bundle, on either slot that may hold it, with every register, latch or literal that its form names. -/

open Sys2Proof Sys2Proof.Machine

/-! ### Scalar slots (file 16) -/

/-- R368: ADD, SUB, MUL, MULH and MULHN complete with their result, of latency 1 or 3, on every operand. R368: ADDI completes with its sum of latency
1. R369: DIV, DIVN and REM complete with their result of latency 24; division by zero gives all ones, and the remainder its dividend. -/
def Obligations.ScalarArithmeticResults : Prop :=
  (∀ (s : State) (x : Ctx) (f : SReg), s.Issues x → x.Guarded f.g → NoBad (sregChecks f true true true) →
     ∀ a b : W64, a = x.rs1 f → b = x.rs2 f →
       s.Yields x (.add f) 1 (.scalar (sregDest f) (BitVec.ofNat 64 (a.toNat + b.toNat))) ∧
       s.Yields x (.sub f) 1 (.scalar (sregDest f) (BitVec.ofInt 64 (a.toInt - b.toInt))) ∧
       s.Yields x (.mul f) 3 (.scalar (sregDest f) (BitVec.ofInt 64 (a.toInt * b.toInt))) ∧
       s.Yields x (.mulh f) 3 (.scalar (sregDest f) (BitVec.ofInt 64 (a.toInt * b.toInt / 2 ^ 64))) ∧
       s.Yields x (.mulhn f) 3 (.scalar (sregDest f) (BitVec.ofNat 64 (a.toNat * b.toNat / 2 ^ 64)))) ∧
  (∀ (s : State) (x : Ctx) (f : SImm), s.Issues x → x.Guarded f.g → NoBad (simmChecks f true true) →
     s.Yields x (.addi f) 1 (.scalar (simmDest f) (BitVec.ofInt 64 ((x.irs1 f).toNat + f.imm.toInt)))) ∧
  (∀ (s : State) (x : Ctx) (f : SReg), s.Issues x → x.Guarded f.g → NoBad (sregChecks f true true true) →
     ∀ a b : W64, a = x.rs1 f → b = x.rs2 f →
       (b = 0#64 →
         s.Yields x (.div f) 24 (.scalar (sregDest f) (BitVec.allOnes 64)) ∧
         s.Yields x (.divn f) 24 (.scalar (sregDest f) (BitVec.allOnes 64)) ∧
         s.Yields x (.rem f) 24 (.scalar (sregDest f) a)) ∧
       (b ≠ 0#64 →
         s.Yields x (.div f) 24 (.scalar (sregDest f) (BitVec.ofInt 64 (Int.tdiv a.toInt b.toInt))) ∧
         s.Yields x (.divn f) 24 (.scalar (sregDest f) (BitVec.ofNat 64 (a.toNat / b.toNat))) ∧
         s.Yields x (.rem f) 24 (.scalar (sregDest f) (a - BitVec.ofInt 64 (Int.tdiv a.toInt b.toInt) * b))))

/-- R370: the logic operations, shifts, counts and extremes complete with their result of latency 1. R370: ANDI, ORI and XORI complete with their
result of latency 1. R370: CLZ and POPC complete with their result of latency 1: above the counted leading zeros stands a set bit, or all 64 are zero.
-/
def Obligations.ScalarLogicResults : Prop :=
  (∀ (s : State) (x : Ctx) (f : SReg), s.Issues x → x.Guarded f.g → NoBad (sregChecks f true true true) →
     ∀ a b : W64, a = x.rs1 f → b = x.rs2 f →
       s.Yields x (.and f) 1 (.scalar (sregDest f) (a &&& b)) ∧
       s.Yields x (.or f) 1 (.scalar (sregDest f) (a ||| b)) ∧
       s.Yields x (.xor f) 1 (.scalar (sregDest f) (a ^^^ b)) ∧
       s.Yields x (.andn f) 1 (.scalar (sregDest f) (a &&& ~~~b)) ∧
       s.Yields x (.shl f) 1 (.scalar (sregDest f) (a <<< (b.toNat % 64))) ∧
       s.Yields x (.shr f) 1 (.scalar (sregDest f) (a >>> (b.toNat % 64))) ∧
       s.Yields x (.sar f) 1 (.scalar (sregDest f) (a.sshiftRight (b.toNat % 64))) ∧
       s.Yields x (.rot f) 1 (.scalar (sregDest f) (a.rotateRight (b.toNat % 64))) ∧
       s.Yields x (.min f) 1 (.scalar (sregDest f) (if a.slt b then a else b)) ∧
       s.Yields x (.max f) 1 (.scalar (sregDest f) (if a.slt b then b else a)) ∧
       s.Yields x (.minn f) 1 (.scalar (sregDest f) (if a.ult b then a else b)) ∧
       s.Yields x (.maxn f) 1 (.scalar (sregDest f) (if a.ult b then b else a))) ∧
  (∀ (s : State) (x : Ctx) (f : SImm), s.Issues x → x.Guarded f.g → NoBad (simmChecks f true true) →
     ∀ a : W64, a = x.irs1 f →
       s.Yields x (.andi f) 1 (.scalar (simmDest f) (a &&& BitVec.ofNat 64 f.imm.toNat)) ∧
       s.Yields x (.ori f) 1 (.scalar (simmDest f) (a ||| BitVec.ofNat 64 f.imm.toNat)) ∧
       s.Yields x (.xori f) 1 (.scalar (simmDest f) (a ^^^ BitVec.ofNat 64 f.imm.toNat))) ∧
  (∀ (s : State) (x : Ctx) (f : SReg), s.Issues x → x.Guarded f.g → NoBad (sregChecks f true true false) →
     ∀ a : W64, a = x.rs1 f →
       (∃ n : Nat, n ≤ 64 ∧ s.Yields x (.clz f) 1 (.scalar (sregDest f) (BitVec.ofNat 64 n)) ∧
         (∀ i, 64 - n ≤ i → a.getLsbD i = false) ∧ (n < 64 → a.getLsbD (63 - n) = true)) ∧
       s.Yields x (.popc f) 1
         (.scalar (sregDest f) (BitVec.ofNat 64 ((List.range 64).countP fun i => a.getLsbD i))))

/-- R371: EXT and INS of a field that passes bit 63 are ILLEGAL_OPERAND. R372: LI completes with its constant of latency 1. R371, R372: SHADD, EXT,
INS, LIH and LIL complete with their result of latency 1, given bit by bit for the field operations. -/
def Obligations.ScalarFieldResults : Prop :=
  (∀ (s : State) (x : Ctx) (f : SImm), s.Issues x → x.Guarded f.g →
     (NoBad (simmChecks f true true) → 64 < f.imm.toNat % 64 + (f.imm.toNat / 64 % 64 + 1) →
       (∃ a, s.Traps x (.ext f) { code := 0x02, arg := a, slot := some (if f.slot = .s0 then 1 else 2) }) ∧
       (∃ a, s.Traps x (.ins f) { code := 0x02, arg := a, slot := some (if f.slot = .s0 then 1 else 2) })) ∧
     (NoBad (simmChecks f true false) → s.Yields x (.li f) 1 (.scalar (simmDest f) (BitVec.ofInt 64 f.imm.toInt)))) ∧
  (∀ (s : State) (x : Ctx) (f : SImm), s.Issues x → x.Guarded f.g →
     ∀ (a old : W64), a = x.irs1 f → old = x.ird f →
     ∀ (lo w q : Nat), lo = f.imm.toNat % 64 → w = f.imm.toNat / 64 % 64 + 1 → q = f.imm.toNat / 65536 % 4 →
       (NoBad (simmChecks f true true) → immRs2Bad f = false → f.imm.toNat / 8192 = 0 →
         s.Yields x (.shadd f) 1
           (.scalar (simmDest f) ((a <<< (f.imm.toNat / 128 % 64)) + x.immRs2 f))) ∧
       (NoBad (simmChecks f true true) → f.imm.toNat / 8192 = 0 → lo + w ≤ 64 →
         ∃ r : W64, s.Yields x (.ext f) 1 (.scalar (simmDest f) r) ∧
           ∀ i, i < 64 → r.getLsbD i =
             if i < w then a.getLsbD (lo + i) else (f.imm.getLsbD 12 && a.getLsbD (lo + w - 1))) ∧
       (NoBad (simmChecks f true true) → f.imm.toNat / 4096 = 0 → lo + w ≤ 64 →
         ∃ r : W64, s.Yields x (.ins f) 1 (.scalar (simmDest f) r) ∧
           ∀ i, i < 64 → r.getLsbD i = if lo ≤ i ∧ i < lo + w then a.getLsbD (i - lo) else old.getLsbD i) ∧
       (NoBad (simmChecks f true false) → f.imm.toNat / 262144 = 0 →
         s.Yields x (.lil f) 1 (.scalar (simmDest f) (BitVec.ofNat 64 (f.imm.toNat % 65536) <<< (16 * q))) ∧
         ∃ r : W64, s.Yields x (.lih f) 1 (.scalar (simmDest f) r) ∧
           ∀ i, i < 64 → r.getLsbD i =
             if 16 * q ≤ i ∧ i < 16 * q + 16 then Nat.testBit (f.imm.toNat % 65536) (i - 16 * q) else old.getLsbD i))

/-- R342, R373, R374: CMP, CMPI and SEL complete: the predicate pair takes the condition and its complement in all lanes, and SEL the source that lane
0 of its predicate names. -/
def Obligations.ScalarCompareResults : Prop :=
  ∀ (s : State) (x : Ctx), s.Issues x →
    ∀ (holds : Nat → W64 → W64 → Bool),
      (∀ a b : W64, holds 0 a b = decide (a = b) ∧ holds 1 a b = decide (a ≠ b) ∧ holds 2 a b = a.slt b ∧ holds 3 a b = b.sle a ∧
        holds 4 a b = a.ult b ∧ holds 5 a b = b.ule a ∧ holds 6 a b = decide (a &&& b ≠ 0#64)) →
    (∀ (f : SReg) (cc n : Nat) (m : Mask), x.Guarded f.g → f.rd.toNat = 8 * cc + n → cc < 7 → n < 6 →
      latchBad (f.q.getLsbD 1) f.rs1 = false → latchBad (f.q.getLsbD 0) f.rs2 = false → f.q.getLsbD 2 = false → f.rest = 0#17 →
      m = (if holds cc (x.rs1 f) (x.rs2 f) then BitVec.allOnes 64 else 0#64) →
      s.Completes x (.cmp f) none fun t =>
        (t.addFlight s.cur 1 (.predicate (2 * n + 1) m Mask.all)).addFlight s.cur 1 (.predicate (2 * n + 2) (~~~m) Mask.all)) ∧
    (∀ (f : SImm) (cc n : Nat) (m : Mask), x.Guarded f.g → f.rd.toNat = 8 * cc + n → cc < 7 → n < 6 →
      latchBad (f.q.getLsbD 1) f.rs1 = false → f.q.getLsbD 2 = false → f.rest = 0#3 →
      m = (if holds cc (x.irs1 f) (f.imm.signExtend 64) then BitVec.allOnes 64 else 0#64) →
      s.Completes x (.cmpi f) none fun t =>
        (t.addFlight s.cur 1 (.predicate (2 * n + 1) m Mask.all)).addFlight s.cur 1 (.predicate (2 * n + 2) (~~~m) Mask.all)) ∧
    (∀ f : SImm, x.Guarded f.g → NoBad (simmChecks f true true) → immRs2Bad f = false → f.imm.toNat / 2048 = 0 →
      s.Yields x (.sel f) 1 (.scalar (simmDest f)
        (if (x.pred (f.imm.toNat / 128 % 16)).getLsbD 0 then x.irs1 f else x.immRs2 f)))

/-- R375 to R377: CPY, MFS and MTS complete with a result of latency 2. A read of a special register gives the value that the register has at the
issue. R349, R378: BRX, BRXL and BRX in S1 complete by making a pending transfer of three more bundles, which replaces an earlier one. -/
def Obligations.CopiesAndTransfers : Prop :=
  (∀ (s : State) (x : Ctx) (f : SImm) (n : Nat), s.Issues x → x.Guarded f.g → n = f.imm.toNat % 4096 →
     (NoBad (simmChecks f false true) → ∀ a : W64, a = x.irs1 f →
       (∀ file r, f.imm.toNat = 65536 * file + r → file < 6 → r < [64, 64, 32, 32, 16, 4].getD file 0 →
         s.Yields x (.cpy f) 2 (.scalar ([Dest.a r, .b r, .d r, .e r, .m r, .j r].getD file (.a r)) a)) ∧
       (∀ file r lane, f.imm.toNat = 65536 * file + 1024 * lane + r → 6 ≤ file → file < 8 → lane < 64 → r < 512 → r < partVreg (s.part s.cur) →
         s.Yields x (.cpy f) 2 (.vector (.vreg (file == 7) r) (Vec.splat (a.truncate 32)) (1#64 <<< lane))) ∧
       (∀ file r, f.imm.toNat = 65536 * file + 512 + r → 6 ≤ file → file < 8 → r < 512 → r < partVreg (s.part s.cur) →
         s.Yields x (.cpy f) 2 (.vector (.vreg (file == 7) r) (Vec.splat (a.truncate 32)) Mask.all))) ∧
     (NoBad (simmChecks f true false) → f.imm.toNat < 4096 → (specialSup n = true → x.sup = true) → ∀ v : W64,
       (n = 0x000 ∧ v = x.status ∨ n = 0x001 ∧ v = x.fmt ∨ n = 0x002 ∧ v = x.tcoord.zeroExtend 64 ∨ n = 0x003 ∧ v = x.tag.zeroExtend 64 ∨
         n = 0x004 ∧ v = s.part s.cur ∨ n = 0x005 ∧ v = coreWord s.cur ∨
         n = 0x006 ∧ v = (s.cluster (ctxCluster s.cur)).winmode.zeroExtend 64 ∨ n = 0x007 ∧ v = x.ovfptr ∨
         n = 0x008 ∧ v = x.sptop.zeroExtend 64 ∨ n = 0x009 ∧ v = BitVec.ofNat 64 s.time ∨ n = 0x010 ∧ v = s.tvec (ctxDie s.cur) ∨
         n = 0x011 ∧ v = x.tcause ∨ n = 0x012 ∧ v = x.traparg ∨ n = 0x013 ∧ v = x.tpc ∨ n = 0x014 ∧ v = x.txpc ∨
         0x100 ≤ n ∧ n < 0x200 ∧ v = (SMap.get 0#32 x.c (n - 0x100)).zeroExtend 64) →
       s.Yields x (.mfs f) 2 (.scalar (simmDest f) v)) ∧
     (NoBad (simmChecks f false true) → f.imm.toNat < 4096 → (specialSup n = true → x.sup = true) →
       (n = 0x000 ∨ n = 0x007 ∨ n = 0x010 ∨ n = 0x011 ∨ n = 0x013 ∨ 0x100 ≤ n ∧ n < 0x200) →
       s.Yields x (.mts f) 2 (.scalar (.special n) (x.irs1 f)))) ∧
  (∀ (s : State) (x : Ctx), s.Issues x →
     (∀ f : CForm, x.Guarded f.g → f.pd = 0#4 → f.pe = 0#4 → f.x = 0#8 → f.imm = 0#20 →
       s.Completes x (.brx f) none (fun t => t.modCtx s.cur fun y => { y with br := some ⟨(x.jReg f.j).truncate 48, 4, false⟩ }) ∧
       s.Completes x (.brxl f) none (fun t => t.modCtx s.cur fun y => { y with br := some ⟨(x.jReg f.j).truncate 48, 4, true⟩ })) ∧
     (∀ f : SReg, x.Guarded f.g → NoBad (sregChecks f false true false) →
       s.Completes x (.brxS1 f) none (fun t => t.modCtx s.cur fun y =>
         { y with br := some ⟨(x.rs1 f).truncate 48, 4, false⟩ })))

/-! ### Control slot (file 15) -/

/-- R348, R353: PREP, VOTE and PTT complete with a result of latency 1. R354, R355: LOOP, LSET and LSTR complete by setting up the loop of the
context; a stride of 0 removes a link, and a ninth link is no case of completion. -/
def Obligations.ControlResults : Prop :=
  (∀ (s : State) (x : Ctx) (f : CForm), s.Issues x → x.Guarded f.g →
     (f.pd = 0#4 → f.pe = 0#4 → f.x = 0#8 →
       s.Yields x (.prep f) 1 (.scalar (.j f.j.toNat) (x.pc.zeroExtend 64 + BitVec.ofInt 64 (4 * f.imm.toInt)))) ∧
     (f.pd = 0#4 → f.pe = 0#4 → f.x = 1#8 → ∀ i : Nat, f.imm.toNat = i → i < 4 → i + 1 < s.lits.length →
       ∀ lo hi : W32, lo = s.lits.getD i 0#32 → hi = s.lits.getD (i + 1) 0#32 → hi.toNat < 65536 →
       s.Yields x (.prepAbsolute f) 1 (.scalar (.j f.j.toNat) (BitVec.ofNat 64 (hi.toNat * 2 ^ 32 + lo.toNat)))) ∧
     (f.j = 0#2 → f.imm = 0#20 → f.x = 0#8 →
       s.Yields x (.vote f) 1 (.predicate f.pd.toNat (if x.pred f.pe.toNat = 0#64 then 0#64 else BitVec.allOnes 64) Mask.all)) ∧
     (f.j = 0#2 → f.imm = 0#20 → f.x = 1#8 →
       s.Yields x (.vote f) 1
         (.predicate f.pd.toNat (if x.pred f.pe.toNat = BitVec.allOnes 64 then BitVec.allOnes 64 else 0#64) Mask.all)) ∧
     (f.j = 0#2 → f.imm.toNat < 256 →
       ∃ v : Mask, s.Yields x (.ptt f) 1 (.predicate f.pd.toNat v Mask.all) ∧
         ∀ i, i < 64 → v.getLsbD i = f.x.getLsbD
           ((if (x.pred f.pe.toNat).getLsbD i then 4 else 0) + (if (x.pred (f.imm.toNat % 16)).getLsbD i then 2 else 0) +
             (if (x.pred (f.imm.toNat / 16)).getLsbD i then 1 else 0)))) ∧
  (∀ (s : State) (x : Ctx) (f : CForm), s.Issues x → x.Guarded f.g → f.pd = 0#4 → f.pe = 0#4 →
     (f.j = 0#2 → 1 ≤ f.x.toNat → f.x.toNat ≤ 6 → 1 ≤ f.imm.toNat → f.imm.toNat ≤ 4095 →
       s.Completes x (.loop f) none fun t => t.modCtx s.cur fun y =>
         { y with loops := { y.loops with starting := some (f.x.toNat, f.imm.toNat) } }) ∧
     (f.j = 0#2 → f.x.toNat ≤ 5 → f.imm ≠ 0#20 →
       s.Completes x (.lset f) none fun t => t.modCtx s.cur fun y =>
         { y with loops := { y.loops with counts := SMap.set 1 y.loops.counts f.x.toNat f.imm.toNat } }) ∧
     (∀ k : Nat, f.x.toNat = 8 + k → k ≤ 5 → f.imm = 0#20 →
       s.Completes x (.lset f) none fun t => t.modCtx s.cur fun y =>
         { y with loops := { y.loops with counts := SMap.set 1 y.loops.counts k ((x.jReg f.j).toNat % 2 ^ 20) } }) ∧
     (∀ (d k : Nat) (ls : List LoopLink), f.j = 0#2 → f.x.toNat = 8 * d + k → k ≤ 5 → ls = setLink x.loops.links d k (f.imm.signExtend 64) →
       ls.length ≤ 8 →
       (s.Completes x (.lstr f) none fun t => t.modCtx s.cur fun y => { y with loops := { y.loops with links := ls } }) ∧
       (f.imm = 0#20 → ∀ l ∈ ls, ¬ (l.d = d ∧ l.level = k)) ∧
       (f.imm ≠ 0#20 → (⟨d, k, f.imm.signExtend 64⟩ : LoopLink) ∈ ls)))

/-- R357 to R359, R365: NOP, YIELD, WAITK, SPIN, BARV and BWAIT complete. WAITK asks that each named token has count 0 and no error mark; BWAIT
completes when its member is not arrived, and its .ARV form makes the arrival first, as the bundle is presented (R480). What a barrier releases, and
what a BWAIT that passes acquires, is the reading of log entry 73 (DEDUCED). R359, R233: a BWAIT whose member is arrived leaves the ready set, and
waits for the barrier; its .ARV form waits once it has arrived, and does not arrive again when it is presented again (R480). -/
def Obligations.ControlCompletes : Prop :=
  (∀ (s : State) (x : Ctx) (f : CForm), s.Issues x → x.Guarded f.g → f.j = 0#2 → f.pd = 0#4 → f.pe = 0#4 →
     (f.x = 0#8 → f.imm = 0#20 → s.Completes x (.nop f) none id ∧ s.Completes x (.yield f) none id) ∧
     (f.imm = 0#20 → (∀ k, k < 8 → f.x.getLsbD k = true → SMap.get {} x.k k = {}) → s.Completes x (.waitk f) none id) ∧
     (f.x = 0#8 → s.Completes x (.spin f) none fun t => t.modCtx s.cur fun y => { y with spin := y.spin + f.imm.toNat }) ∧
     (f.x = 0#8 → f.imm.toNat < 32 → s.Completes x (.barv f) none fun t => t.barArrive s.cur x.gang x.member f.imm.toNat) ∧
     (f.x = 0#8 → f.imm.toNat < 32 → s.barArrived x.gang x.member f.imm.toNat = false →
       s.Completes x (.bwait f) none fun t => t.barPass s.cur x.gang f.imm.toNat) ∧
     (f.x = 1#8 → f.imm.toNat < 32 → ∀ u y,
       u = (s.barArrive s.cur x.gang x.member f.imm.toNat).modCtx s.cur (fun y => { y with loops := { y.loops with arv := some x.pc } }) →
       u.ctx s.cur = some y → u.barArrived y.gang y.member f.imm.toNat = false →
       exec (.bwait f) s = .next (u.issued y (.bwait f) none fun t => t.barPass s.cur y.gang f.imm.toNat))) ∧
  (∀ (s : State) (x : Ctx) (f : CForm), s.Presents x → x.Guarded f.g → f.j = 0#2 → f.pd = 0#4 → f.pe = 0#4 → f.imm.toNat < 32 → x.loops.tw = none →
     (f.x = 0#8 → x.loops.arv = none → s.barArrived x.gang x.member f.imm.toNat = true →
       ∃ t y, exec (.bwait f) s = .next t ∧ t.ctx s.cur = some y ∧ y.run = .waiting (.barrier f.imm.toNat) ∧
         y.q = [] ∧ y.qv = [] ∧ y.qw = [] ∧ y.latchlost = true ∧ y.pc = x.pc) ∧
     (f.x = 1#8 → x.loops.arv = none → ∀ u y,
       u = (s.barArrive s.cur x.gang x.member f.imm.toNat).modCtx s.cur (fun y => { y with loops := { y.loops with arv := some x.pc } }) →
       u.ctx s.cur = some y → u.barArrived y.gang y.member f.imm.toNat = true →
       exec (.bwait f) s = .next ((u.leaveReady s.cur).modCtx s.cur fun y => { y with run := .waiting (.barrier f.imm.toNat) })) ∧
     (f.x = 1#8 → x.loops.arv = some x.pc →
       (s.barArrived x.gang x.member f.imm.toNat = false →
         s.Completes x (.bwait f) none fun t => t.barPass s.cur x.gang f.imm.toNat) ∧
       (s.barArrived x.gang x.member f.imm.toNat = true →
         exec (.bwait f) s = .next ((s.leaveReady s.cur).modCtx s.cur fun y => { y with run := .waiting (.barrier f.imm.toNat) }))))

/-- R298, R360: SETFMT completes with the new format pending for four counts: each selected field takes its value, and every other field keeps the one
in force. R210, R361: SETWIN at supervisor level changes the window mode of the cluster when no macro-op is in flight. -/
def Obligations.FormatAndWindow : Prop :=
  ∀ (s : State) (x : Ctx) (f : CForm), s.Issues x → x.Guarded f.g → f.j = 0#2 → f.pd = 0#4 → f.pe = 0#4 →
    (f.x.toNat < 64 → (f.imm &&& fmtUnselected f.x) = 0#20 → (f.x.getLsbD 0 = true → f.imm.toNat % 8 ≤ 4) →
      (f.x.getLsbD 4 = true → qfmtValid (f.imm.toNat / 128 % 16) = true) →
      (f.x.getLsbD 5 = true → f.imm.toNat / 2048 % 4 < s.lits.length) →
      ∃ v : W64, (s.Completes x (.setfmt f) none fun t => (t.modCtx s.cur Ctx.dropFmt).addFlight s.cur 4 (.fmt v)) ∧
        v.toNat % 8 = (if f.x.getLsbD 0 then f.imm.toNat % 8 else x.fmt.toNat % 8) ∧
        v.toNat / 16 % 2 = (if f.x.getLsbD 1 then f.imm.toNat / 8 % 2 else x.fmt.toNat / 16 % 2) ∧
        v.toNat / 32 % 2 = (if f.x.getLsbD 2 then f.imm.toNat / 16 % 2 else x.fmt.toNat / 32 % 2) ∧
        v.toNat / 256 % 4 = (if f.x.getLsbD 3 then f.imm.toNat / 32 % 4 else x.fmt.toNat / 256 % 4) ∧
        v.toNat / 4096 % 16 = (if f.x.getLsbD 4 then f.imm.toNat / 128 % 16 else x.fmt.toNat / 4096 % 16) ∧
        v.toNat / 2 ^ 32 = (if f.x.getLsbD 5 then (s.lits.getD (f.imm.toNat / 2048 % 4) 0#32).toNat else x.fmt.toNat / 2 ^ 32)) ∧
    (x.sup = true → 1 ≤ f.x.toNat → f.x.toNat ≤ 6 → f.imm = 0#20 →
      (∀ i, i < 8 → ∀ y, s.ctx (8 * ctxCluster s.cur + i) = some y → y.macroBusy = false) →
      s.Completes x (.setwin f) none fun t => t.modCluster (ctxCluster s.cur) fun k => { k with winmode := f.x.truncate 3 })

/-- R362: TRAP takes SOFTWARE with its immediate, which is the whole of its effect; R364: DONE completes by stopping the issue of its context. R266,
R363: RFT of a supervisor inside a handler returns to TPC with the saved privilege and repetitions, and NEST is clear. That a due trap is kept with
the snapshot and is due again after RFT is the reading of log entry 7 (DEDUCED). -/
def Obligations.TrapAndReturn : Prop :=
  ∀ (s : State) (x : Ctx) (f : CForm), s.Issues x → x.Guarded f.g → f.j = 0#2 → f.pd = 0#4 → f.pe = 0#4 → f.x = 0#8 →
    s.Traps x (.trap f) { code := 0x13, arg := f.imm.zeroExtend 64, slot := some 0 } ∧
    (f.imm = 0#20 → s.Completes x (.done f) none fun t => t.modCtx s.cur fun y => { y with run := .draining }) ∧
    (f.imm = 0#20 → x.sup = true → x.tcause.getLsbD 25 = true → x.flight = [] → ∀ sn : Snapshot, x.snap = some sn → sn.loops.nest = none →
      ∃ t y, exec (.rft f) s = .next t ∧ t.ctx s.cur = some y ∧ y.pc = x.tpc.truncate 48 ∧ y.sup = x.tcause.getLsbD 24 ∧
        y.tcause = x.tcause &&& ~~~0x2000000#64 ∧ y.repLeft = some (x.tcause.toNat / 2 ^ 26 % 64) ∧ y.arrived = true ∧
        y.count = x.count + 1 ∧ y.flight = sn.flights.map (fun g => { g with land := x.count + g.land }) ∧ y.br = sn.br ∧
        y.loops = sn.loops ∧ y.q = sn.q ∧ y.qv = sn.qv ∧ y.qw = sn.qw ∧ y.due = sn.due ∧ y.snap = none)

/-! ### Vector slots (files 17, 18) -/

/-- R299, R384: the arithmetic operations of the register form complete with the exact value rounded once, of latency 4, in every active lane, on F32
and on BF16. R388: the immediate forms complete in the same way, on F32, with IMM as the upper 20 bits of the second operand. -/
def Obligations.VectorFloatResults : Prop :=
  (∀ (s : State) (x : Ctx) (f : VReg) (i : Instr) (op : Bool → XR → XR → XR → XR), s.Issues x →
     (i, op) ∈ [(Instr.vadd f, fun d a b _ => a.add d b), (.vsub f, fun d a b _ => a.add d b.negate), (.vmul f, fun _ a b _ => a.mul b),
       (.vfma f, fun d a b c => (a.mul c).add d b), (.vfms f, fun d a b c => (a.mul c).add d b.negate),
       (.vmac f, fun d a b c => c.add d (a.mul b))] →
     s.VReady x i f { types := [0, 1] } [] →
     ∀ (v : VArgs) (r : Nat → Rounded), v = (s.envAlone x i).vargs f →
       (∀ n, r n = roundTo (x.rndEnv (isW f.slot) n) f.ty.toNat
         (op (decide (x.fmt.toNat % 8 = 2)) (laneValue f.ty.toNat (v.a.lane n)) (laneValue f.ty.toNat (v.b.lane n))
           (laneValue f.ty.toNat (v.c.lane n)))) →
       (fmtAssist x.fmt = false ∨ ¬ x.Flushes f.g r) →
       s.VRounds x i f { types := [0, 1] } 4 true (holdLane f.ty.toNat) r) ∧
  (∀ (s : State) (x : Ctx) (f : VImm) (i : Instr) (op : Bool → XR → XR → XR → XR), s.Issues x →
     (i, op) ∈ [(Instr.vaddi f, fun d a m _ => a.add d m), (.vmuli f, fun _ a m _ => a.mul m), (.vfmai f, fun d a m c => (a.mul c).add d m),
       (.vmaci f, fun d a m c => c.add d (a.mul m))] →
     x.guard f.g ≠ 0#64 → NoBad ((s.envAlone x i).vimmChecks f) → (∀ k ∈ (streamOf f.vs1).toList, Stream.Ready (SMap.get {} x.f k)) →
     ∀ (a c : Vec) (r : Nat → Rounded), a = (s.envAlone x i).vsrc (isW f.slot) 0 f.vs1 → c = (s.envAlone x i).vsrc (isW f.slot) 0 f.vd →
       (∀ n, r n = fF32.round (x.rndEnv (isW f.slot) n) false
         (op (decide (x.fmt.toNat % 8 = 2)) (laneValue 0 (a.lane n)) (laneValue 0 (BitVec.ofNat 32 (4096 * f.imm.toNat))) (laneValue 0 (c.lane n)))) →
       (fmtAssist x.fmt = false ∨ ¬ x.Flushes f.g r) →
       ∃ (v : Vec) (tiny : Bool), (tiny = true ↔ x.Flushes f.g r) ∧
         s.VCompletes x i (streamOf f.vs1).toList
           (fun t => (t.addFlight s.cur 4 (.vector (vdest (isW f.slot) 0 0 f.vd) v (x.guard f.g))).modCtx s.cur fun y =>
             (y.advanceSr (isW f.slot)).flagSub tiny) ∧
         ∀ n, n < 64 → (x.guard f.g).getLsbD n = true → v.lane n = holdLane 0 (r n).bits)

/-- R385, R386, R308: VMIN, VMAX, VABS, VNEG and VCLASS complete with their result of latency 4, and the special functions with the rounded value of
theirs, of latency 12. The 256-bit working precision of the special functions is the model's choice (log entry 10, DESIGN CHOICE). R342, R387, R393:
VCMP and VICMP complete: in the active lanes the predicate pair takes the condition and its complement. -/
def Obligations.VectorSelectionAndCompares : Prop :=
  (∀ (s : State) (x : Ctx) (f : VReg) (ty : Nat), s.Issues x → ty = f.ty.toNat →
     (∀ (i : Instr) (larger : Bool), (i, larger) ∈ [(Instr.vmin f, false), (.vmax f, true)] → s.VReady x i f { types := [0, 1] } [] →
       ∀ v : VArgs, v = (s.envAlone x i).vargs f → s.VYields x i f { types := [0, 1] } 4 fun n =>
         holdLane ty (pickFp larger ty ((v.a.lane n).toNat % 2 ^ laneWidth ty) ((v.b.lane n).toNat % 2 ^ laneWidth ty))) ∧
     (s.VReady x (.vabs f) f { op2 := .zero, types := [0, 1] } [] → ∀ v : VArgs, v = (s.envAlone x (.vabs f)).vargs f →
       s.VYields x (.vabs f) f { op2 := .zero, types := [0, 1] } 4 fun n =>
         let a := (v.a.lane n).toNat % 2 ^ laneWidth ty
         holdLane ty (if valueOf ty a = .nan then nanOf ty else a % 2 ^ (laneWidth ty - 1))) ∧
     (s.VReady x (.vneg f) f { op2 := .zero, types := [0, 1] } [] → ∀ v : VArgs, v = (s.envAlone x (.vneg f)).vargs f →
       s.VYields x (.vneg f) f { op2 := .zero, types := [0, 1] } 4 fun n =>
         let a := (v.a.lane n).toNat % 2 ^ laneWidth ty
         holdLane ty (if valueOf ty a = .nan then nanOf ty else a ^^^ 2 ^ (laneWidth ty - 1))) ∧
     (s.VReady x (.vclass f) f { op2 := .zero, types := [0, 1, 2, 3, 4] } [] → ∀ v : VArgs, v = (s.envAlone x (.vclass f)).vargs f →
       s.VYields x (.vclass f) f { op2 := .zero, types := [0, 1, 2, 3, 4] } 4 fun n =>
         BitVec.ofNat 32 (2 ^ classOf ty ((v.a.lane n).toNat % 2 ^ laneWidth ty))) ∧
     (∀ (i : Instr) (fn : SpecialFn), (i, fn) ∈ [(Instr.vrcp f, SpecialFn.rcp), (.vrsq f, .rsq), (.vexp2 f, .exp2), (.vlog2 f, .log2)] →
       s.VReady x i f { op2 := .zero, types := [0] } [] → ∀ (v : VArgs) (r : Nat → Rounded), v = (s.envAlone x i).vargs f →
         (∀ n, r n = fF32.round x.rndEnvSpecial false (fn.eval (laneValue 0 (v.a.lane n)))) →
         (fmtAssist x.fmt = false ∨ ¬ x.Flushes f.g r) →
         s.VRounds x i f { op2 := .zero, types := [0] } 12 false (holdLane 0) r)) ∧
  (∀ (s : State) (x : Ctx) (f : VReg) (i : Instr) (m : VForm) (cond : Nat → Nat → Bool), s.Issues x →
     (i, m, cond) ∈
       [(Instr.vcmp f, ({ vd := .pair, types := [0, 1, 2, 3], variants := [0, 1, 2, 3, 4, 5, 6, 7] } : VForm),
           fun a b => condFp f.var.toNat (valueOf f.ty.toNat a) (valueOf f.ty.toNat b)),
        (.vicmp f, { vd := .pair, types := tyInt, variants := [0, 1, 2, 3, 4, 5, 6] }, condInt (laneWidth f.ty.toNat) f.var.toNat)] →
     s.VReady x i f m [] → ∀ v : VArgs, v = (s.envAlone x i).vargs f →
       ∃ c : Mask, (s.VCompletes x i (vStreams f m) fun t =>
           (t.addFlight s.cur 1 (.predicate (2 * f.vd.toNat + 1) c (x.guard f.g))).addFlight s.cur 1
             (.predicate (2 * f.vd.toNat + 2) (~~~c) (x.guard f.g))) ∧
         ∀ n, n < 64 → (x.guard f.g).getLsbD n = true →
           c.getLsbD n = cond ((v.a.lane n).toNat % 2 ^ laneWidth f.ty.toNat) ((v.b.lane n).toNat % 2 ^ laneWidth f.ty.toNat))

/-- R389: the wrapping and bitwise integer operations complete with their result of latency 2 on the six integer types. R389 to R392: extremes,
clamping sums, rounded products, distances and averages complete with their result of latency 2; VDOT4 has latency 4. -/
def Obligations.VectorIntegerResults : Prop :=
  (∀ (s : State) (x : Ctx) (f : VReg) (ty w : Nat), s.Issues x → ty = f.ty.toNat → w = laneWidth ty →
     (∀ (i : Instr) (op : Int → Int → Int),
       (i, op) ∈ [(Instr.viadd f, fun a b => a + b), (.visub f, fun a b => a - b), (.vimul f, fun a b => a * b),
         (.vimulh f, fun a b => a * b / 2 ^ w)] →
       s.VReady x i f { types := tyInt } [] → ∀ v : VArgs, v = (s.envAlone x i).vargs f → s.VYields x i f { types := tyInt } 2 fun n =>
         holdLane ty (op (intOf ty ((v.a.lane n).toNat % 2 ^ w)) (intOf ty ((v.b.lane n).toNat % 2 ^ w)) % 2 ^ w).toNat) ∧
     (∀ (i : Instr) (op : Nat → Nat → Nat),
       (i, op) ∈ [(Instr.vshl f, fun a b => a * 2 ^ (b % w)), (.vshr f, fun a b => a / 2 ^ (b % w)),
         (.vsar f, fun a b => (signedOf w a / 2 ^ (b % w) % 2 ^ w).toNat), (.vand f, fun a b => a &&& b), (.vor f, fun a b => a ||| b),
         (.vxor f, fun a b => a ^^^ b), (.vandn f, fun a b => a &&& (2 ^ w - 1 - b))] →
       s.VReady x i f { types := tyInt } [] → ∀ v : VArgs, v = (s.envAlone x i).vargs f → s.VYields x i f { types := tyInt } 2 fun n =>
         holdLane ty (op ((v.a.lane n).toNat % 2 ^ w) ((v.b.lane n).toNat % 2 ^ w) % 2 ^ w))) ∧
  (∀ (s : State) (x : Ctx) (f : VReg) (ty w : Nat) (lo hi : Int), s.Issues x → ty = f.ty.toNat → w = laneWidth ty → (lo, hi) = intRange ty →
     ∀ val : W32 → Int, (∀ y, val y = intOf ty (y.toNat % 2 ^ w)) →
     (∀ (i : Instr) (types variants : List Nat) (r : Int → Int → Int),
       (i, types, variants, r) ∈
         [(Instr.vimin f, tyIntP, [0], fun a b => min a b), (.vimax f, tyIntP, [0], fun a b => max a b),
          (.vadds f, tyIntP, [0], fun a b => max lo (min hi (a + b))), (.vsubs f, tyIntP, [0], fun a b => max lo (min hi (a - b))),
          (.vqmuls f, [8, 10, 12], [0], fun a b => max lo (min hi ((a * b + 2 ^ (w - 2)) / 2 ^ (w - 1)))),
          (.vavg f, tyIntP, [0, 1], fun a b => (a + b + (if f.var = 1#3 then 0 else 1)) / 2)] →
       s.VReady x i f { types := types, variants := variants } [] → ∀ v : VArgs, v = (s.envAlone x i).vargs f →
         s.VYields x i f { types := types, variants := variants } 2 fun n => holdLane ty (r (val (v.a.lane n)) (val (v.b.lane n)) % 2 ^ w).toNat) ∧
     (s.VReady x (.vabsd f) f { types := tyIntP } [] → ∀ v : VArgs, v = (s.envAlone x (.vabsd f)).vargs f →
       s.VYields x (.vabsd f) f { types := tyIntP } 2 fun n => BitVec.ofNat 32 (val (v.a.lane n) - val (v.b.lane n)).natAbs) ∧
     (s.VReady x (.vsad f) f { types := [11, 13] } [] → ∀ v : VArgs, v = (s.envAlone x (.vsad f)).vargs f →
       s.VYields x (.vsad f) f { types := [11, 13] } 2 fun n => sad ty (v.a.lane n) (v.b.lane n) (v.c.lane n)) ∧
     (s.VReady x (.vdot4 f) f { types := [10, 11, 12, 13], variants := [0, 1, 2, 3] } [⟨f.var.getLsbD 1 && !isSignedTy ty, 6, f.var.toNat⟩] →
       ∀ v : VArgs, v = (s.envAlone x (.vdot4 f)).vargs f →
       s.VYields x (.vdot4 f) f { types := [10, 11, 12, 13], variants := [0, 1, 2, 3] } 4 fun n =>
         dot4 ty (f.var.getLsbD 0) (f.var.getLsbD 1) (v.a.lane n) (v.b.lane n) (v.c.lane n)))

/-- R394, R397 to R399: VCVT, VDQNT, VMXS, VSPLIT and VJOIN complete with their result of latency 3. Where an integer conversion between equal widths
under SAT meets a value that the target cannot hold, the lane is open (log entry 14) and nothing is stated of it. B16 to F32 is exact, subnormal
values too (log entry 83). -/
def Obligations.VectorConversions : Prop :=
  ∀ (s : State) (x : Ctx) (f : VReg) (ty src : Nat), s.Issues x → ty = f.ty.toNat →
    (src = f.op2.toNat → ∀ m : VForm, m = { op2 := .own, types := tyCvt } →
      s.VReady x (.vcvt f) f m [⟨f.kind != 0#2, 2, f.kind.toNat⟩, ⟨!tyCvt.contains src, 3, src⟩] →
      ∀ v : VArgs, v = (s.envAlone x (.vcvt f)).vargs f → ∀ a : Nat → Nat, (∀ n, a n = (v.a.lane n).toNat % 2 ^ laneWidth src) →
      (src = ty → s.VYields x (.vcvt f) f m 3 fun n =>
        holdLane ty (if (fmtOf src).isSome = true ∧ valueOf src (a n) = .nan then nanOf ty else a n)) ∧
      (src = 1 → ty = 0 → s.VYields x (.vcvt f) f m 3 fun n =>
        holdLane 0 (if valueOf 0 (a n * 65536) = .nan then nanOf 0 else a n * 65536)) ∧
      (src ≠ ty → ¬ (src = 1 ∧ ty = 0) → (fmtOf src).isSome || (fmtOf ty).isSome → ∀ r : Nat → Rounded,
        (∀ n, r n = roundTo (x.rndEnv (isW f.slot) n) ty (valueOf src (a n))) → (fmtAssist x.fmt = false ∨ ¬ x.Flushes f.g r) →
        s.VRounds x (.vcvt f) f m 3 true (holdLane ty) r) ∧
      (src ≠ ty → (fmtOf src).isNone → (fmtOf ty).isNone →
        ∃ u : Vec, (s.VCompletes x (.vcvt f) (vStreams f m) fun t =>
            (t.addFlight s.cur 3 (.vector (VReg.dest f) u (x.guard f.g))).spendFree) ∧
          ∀ n, n < 64 → (x.guard f.g).getLsbD n = true →
            (fmtSat x.fmt = false ∨ ty ≠ 14 ∧ cvtWidth src < cvtWidth ty ∨
                (intRange ty).1 ≤ intOf src (a n) ∧ intOf src (a n) ≤ (intRange ty).2 →
              u.lane n = holdInt ty (intOf src (a n))) ∧
            (fmtSat x.fmt = true → ty = 14 ∨ cvtWidth ty < cvtWidth src →
              u.lane n = holdInt ty (clampInt (intOf src (a n)) (intRange ty).1 (intRange ty).2)))) ∧
    (∀ (block : Bool) (m : VForm) (more : List Check) (prev tensor : Bool), block = f.var.getLsbD 2 → prev = f.var.getLsbD 0 →
      tensor = (f.kind == 1#2 || f.kind == 2#2) → m = { types := if block then tyMx else tyQuant, variants := List.range 8 } →
      more = [⟨block && f.kind != 0#2, 2, f.kind.toNat⟩, ⟨prev && !(tensor && !block), 6, f.var.toNat⟩] ++
        (s.envAlone x (.vdqnt f)).tensorChecks f (tensor && !block) →
      s.VReady x (.vdqnt f) f m more → ∀ v : VArgs, v = (s.envAlone x (.vdqnt f)).vargs f →
      ∀ (rec : TRec) (scale : Nat → XR) (r : Nat → Rounded), rec = s.record (ctxDie s.cur) ((v.b.lane 0).toNat % 2 ^ 20) →
      (tensor = true → block = false → s.poisonIn (tensorReads (ctxDie s.cur) ((v.b.lane 0).toNat % 2 ^ 20) rec.gidx) = none) →
      (∀ n, scale n = if tensor then fF32.value (if prev then s.pscale (ctxDie s.cur) rec.gidx else s.sscale (ctxDie s.cur) rec.gidx)
        else fF32.value (v.b.lane n).toNat) →
      (∀ n, r n = roundTo (x.rndEnv (isW f.slot) n) (if f.var.getLsbD 1 then 1 else 0)
        (if block then mxValue ty ((v.a.lane n).toNat % 2 ^ laneWidth ty) ((v.b.lane n).toNat % 256)
         else (valueOf ty ((v.a.lane n).toNat % 2 ^ laneWidth ty)).div (scale n))) →
      (fmtAssist x.fmt = false ∨ ¬ x.Flushes f.g r) →
      s.VRounds x (.vdqnt f) f m 3 true (holdLane (if f.var.getLsbD 1 then 1 else 0)) r) ∧
    (s.VReady x (.vmxs f) f { op2 := .zero, types := tyMx, variants := [0, 2] } [] → ∀ v : VArgs, v = (s.envAlone x (.vmxs f)).vargs f →
      s.VYields x (.vmxs f) f { op2 := .zero, types := tyMx, variants := [0, 2] } 3 fun n =>
        BitVec.ofNat 32 (mxScale ty (maxMagnitude
          (((Mask.lanes (x.guard f.g)).filter fun i => i / 32 == n / 32).map fun i =>
            laneValue (if f.var.getLsbD 1 then 1 else 0) (v.a.lane i))))) ∧
    (s.VReady x (.vsplit f) f { op2 := .zero, types := [15], variants := [0, 1] } [] → ∀ v : VArgs, v = (s.envAlone x (.vsplit f)).vargs f →
      s.VYields x (.vsplit f) f { op2 := .zero, types := [15], variants := [0, 1] } 3 fun n =>
        BitVec.ofNat 32 (if f.var = 1#3 then (v.a.lane n).toNat % 65536 else (v.a.lane n).toNat / 65536)) ∧
    (s.VReady x (.vjoin f) f { types := [15] } [] → ∀ v : VArgs, v = (s.envAlone x (.vjoin f)).vargs f →
      s.VYields x (.vjoin f) f { types := [15] } 3 fun n =>
        BitVec.ofNat 32 ((v.a.lane n).toNat % 65536 * 65536 + (v.b.lane n).toNat % 65536))

/-- R78, R395, R396: VQNT completes in its block, scalar and tensor forms with a result of latency 3; lanes that overflow yield the saturated value,
where that does not trap, and a tensor form adds their number to the non-finite count of the record. -/
def Obligations.VectorQuantize : Prop :=
  ∀ (s : State) (x : Ctx) (f : VReg) (block tensor : Bool) (ty : Nat) (m : VForm) (v : VArgs) (rec : TRec) (val scale : Nat → XR)
    (r : Nat → Rounded), s.Issues x → block = f.var.getLsbD 2 → tensor = (f.kind == 1#2 || f.kind == 2#2) →
    ty = (if f.var.getLsbD 0 then fmtQfmt x.fmt else f.ty.toNat) → m = { types := List.range 16, variants := List.range 8 } →
    v = (s.envAlone x (.vqnt f)).vargs f → rec = s.record (ctxDie s.cur) ((v.b.lane 0).toNat % 2 ^ 20) →
    (tensor = true → block = false → s.poisonIn (tensorReads (ctxDie s.cur) ((v.b.lane 0).toNat % 2 ^ 20) rec.gidx) = none) →
    (∀ n, val n = laneValue (if f.var.getLsbD 1 then 1 else 0) (v.a.lane n)) →
    (∀ n, scale n = if tensor then fF32.value (s.sscale (ctxDie s.cur) rec.gidx) else fF32.value (v.b.lane n).toNat) →
    s.VReady x (.vqnt f) f m
      ([⟨block && f.kind != 0#2, 2, f.kind.toNat⟩,
        ⟨(f.var.getLsbD 0 && f.ty != 0#4) || !(if block then tyMx else tyQuant).contains ty, 4, f.ty.toNat⟩] ++
        (s.envAlone x (.vqnt f)).tensorChecks f (tensor && !block)) →
    (block = true →
      (∀ n, r n = ⟨mxQuant (x.rndEnv (isW f.slot) n) ty (val n) ((v.b.lane n).toNat % 256), false⟩) →
      s.VRounds x (.vqnt f) f m 3 true (holdLane ty) r) ∧
    (block = false → ∀ lanes : List Nat,
      lanes = (List.range 64).filter (fun n => (x.guard f.g).getLsbD n && quantOvf ty (val n) (scale n)) →
      (∀ n, r n = if quantOvf ty (val n) (scale n) then ⟨quantSat ty (val n), false⟩
        else roundTo (x.rndEnv (isW f.slot) n) ty ((val n).mul (scale n))) →
      (fmtAssist x.fmt = false ∨ ¬ x.Flushes f.g r) →
      (lanes = [] ∨ tensor = false ∧ fmtTrap x.fmt = false → s.VRounds x (.vqnt f) f m 3 true (holdLane ty) r) ∧
      (lanes ≠ [] → tensor = true → (if 2 ≤ rec.gmode then rec.gmode ≠ 3 else fmtTrap x.fmt = false) →
        ∃ (u : Vec) (tiny : Bool), (tiny = true ↔ x.Flushes f.g r) ∧ (s.VCompletes x (.vqnt f) (vStreams f m) fun t =>
            ((t.addFlight s.cur 3 (.vector (VReg.dest f) u (x.guard f.g))).modCtx s.cur fun y =>
              (y.advanceSr (isW f.slot)).flagSub tiny).addNonfinite (ctxDie s.cur) rec.gidx lanes.length) ∧
          ∀ n, n < 64 → (x.guard f.g).getLsbD n = true → u.lane n = holdLane ty (r n).bits))

/-- R404 to R413: moves, generators, permutations, bit fields, tables, pixels and random words complete with the lane that each rule gives. R414 to
R418: VRED, VSCAN and VCPY complete: the reduction in every active lane, the scan lane by lane from the lowest, and the copy into the other file, a
lane of it, or a scalar register, which writes nothing where its lane is inactive. -/
def Obligations.VectorMovesAndReductions : Prop :=
  (∀ (s : State) (x : Ctx) (f : VReg) (ty w : Nat), s.Issues x → ty = f.ty.toNat → w = laneWidth ty → ∀ v : VArgs, v = (s.envAlone x (.vmov f)).vargs f →
     ∀ (k : Nat), k = (v.b.lane 0).toNat % 64 →
     (s.VReady x (.vmov f) f { vs1 := false, types := List.range 16 } [] →
       s.VYields x (.vmov f) f { vs1 := false, types := List.range 16 } 2 fun n => holdLane ty ((v.b.lane n).toNat % 2 ^ w)) ∧
     (s.VReady x (.vbcst f) f (laneForm [0]) [] → s.VYields x (.vbcst f) f (laneForm [0]) 2 fun _ => v.a.lane k) ∧
     (s.VReady x (.viota f) f { vs1 := false, types := tyInt, variants := List.range 8 } [] →
       s.VYields x (.viota f) f { vs1 := false, types := tyInt, variants := List.range 8 } 2 fun n =>
         holdLane ty ((v.b.lane n).toNat % 2 ^ w + n * 2 ^ f.var.toNat)) ∧
     (s.VReady x (.vperm f) f (laneForm [0, 1]) [] → s.VYields x (.vperm f) f (laneForm [0, 1]) 3 fun n =>
       if f.var = 1#3 ∧ 64 ≤ (v.b.lane n).toNat then 0#32 else v.a.lane ((v.b.lane n).toNat % 64)) ∧
     (∀ m : VForm, m = { op2 := if f.var.toNat = 4 ∨ f.var.toNat = 5 then .zero else .any, types := [9], variants := List.range 6 } →
       s.VReady x (.vshuf f) f m [] → s.VYields x (.vshuf f) f m 3 fun n =>
         [if n % 2 = 0 then v.a.lane (n / 2) else v.b.lane (n / 2), if n % 2 = 0 then v.a.lane (32 + n / 2) else v.b.lane (32 + n / 2),
          if n < 32 then v.a.lane (2 * n) else v.b.lane (2 * (n - 32)), if n < 32 then v.a.lane (2 * n + 1) else v.b.lane (2 * (n - 32) + 1),
          v.a.lane (63 - n), v.a.lane ((n + 32) % 64)].getD f.var.toNat 0#32) ∧
     (s.VReady x (.vslide f) f (laneForm [0, 1, 2, 3]) [] → s.VYields x (.vslide f) f (laneForm [0, 1, 2, 3]) 3 fun n =>
       if f.var.getLsbD 0 then
         (if k ≤ n then v.a.lane (n - k) else if f.var.getLsbD 1 then v.c.lane (64 + n - k) else 0#32)
       else (if n + k < 64 then v.a.lane (n + k) else if f.var.getLsbD 1 then v.c.lane (n + k - 64) else 0#32)) ∧
     (s.VReady x (.vbext f) f { types := [8, 9], variants := List.range 8 } [] →
       ∀ wd : Nat, wd = [1, 2, 3, 4, 6, 8, 12, 16].getD f.var.toNat 0 →
       s.VYields x (.vbext f) f { types := [8, 9], variants := List.range 8 } 2 fun n =>
         let y := vecNat v.a / 2 ^ ((v.b.lane n).toNat % 2048 + n * wd) % 2 ^ wd
         if ty = 8 then BitVec.ofInt 32 (signedOf wd y) else BitVec.ofNat 32 y) ∧
     (s.VReady x (.vlut f) f { op2 := .table, types := [0, 1, 2, 3, 4] ++ tyInt } [] →
       s.VYields x (.vlut f) f { op2 := .table, types := [0, 1, 2, 3, 4] ++ tyInt } 2 fun n =>
         holdLane ty ((SMap.get 0#32 x.c (f.op2.toNat + (v.a.lane n).toNat % 8)).toNat % 2 ^ w)) ∧
     (s.VReady x (.vlutld f) f { vd := .zero, op2 := .table, types := [9] } [] →
       s.VCompletes x (.vlutld f) (vStreams f { vd := .zero, op2 := .table, types := [9] }) fun t =>
         ((List.range 8).filter fun j => (x.guard f.g).getLsbD j).foldl
           (fun t j => t.addFlight s.cur 2 (.scalar (.const (f.op2.toNat + j)) ((v.a.lane j).zeroExtend 64))) t) ∧
     (s.VReady x (.vunpk12 f) f { op2 := .zero, types := [11], variants := [0, 1, 2, 3] } [] →
       s.VYields x (.vunpk12 f) f { op2 := .zero, types := [11], variants := [0, 1, 2, 3] } 2 fun n =>
         let y := vecNat v.a / 2 ^ ((if f.var.getLsbD 0 then 768 else 0) + 12 * n) % 4096
         BitVec.ofNat 32 (if f.var.getLsbD 1 then y * 16 else y)) ∧
     (s.VReady x (.vpack12 f) f { op2 := .zero, types := [11], variants := [0, 1, 2, 3] } [] →
       ∀ (base : Nat) (act : List Nat) (old keep new : Nat), base = (if f.var.getLsbD 0 then 768 else 0) →
         act = (List.range 64).filter (fun n => (x.guard f.g).getLsbD n) → old = vecNat v.c →
         keep = act.foldl (fun t n => t + old / 2 ^ (base + 12 * n) % 4096 * 2 ^ (base + 12 * n)) 0 →
         new = act.foldl (fun t n =>
           t + (if f.var.getLsbD 1 then (v.a.lane n).toNat / 16 % 4096 else (v.a.lane n).toNat % 4096) * 2 ^ (base + 12 * n)) 0 →
         s.VCompletes x (.vpack12 f) (vStreams f { op2 := .zero, types := [11], variants := [0, 1, 2, 3] }) fun t =>
           t.addFlight s.cur 2 (.vector (VReg.dest f) (vecOfNat (old - keep + new)) Mask.all)) ∧
     (s.VReady x (.vrng f) f { types := [if f.var = 1#3 then 0 else 9], variants := [0, 1] } [] →
       s.VYields x (.vrng f) f { types := [if f.var = 1#3 then 0 else 9], variants := [0, 1] } 5 fun n =>
         let y := vrngWord (v.a.lane n) (v.b.lane n)
         if f.var = 1#3 then BitVec.ofNat 32 (fF32.round .rne true (.dyadic false (y.toNat / 256) (-24))).bits else y)) ∧
  (∀ (s : State) (x : Ctx) (f : VReg) (ty : Nat), s.Issues x → ty = f.ty.toNat → fmtAssist x.fmt = false →
     (∀ (m : VForm) (v : VArgs) (t : List (Option Nat) × Bool) (mode : Nat),
       m = { op2 := .zero, types := if f.var = 3#3 then [0, 1] else [0, 1] ++ tyInt, variants := [0, 1, 2, 3] } →
       s.VReady x (.vred f) f m [] → v = (s.envAlone x (.vred f)).vargs f → mode = (if f.var = 3#3 then 1 else f.var.toNat) →
       t = treeReduce ty mode 6 ((List.range 64).map fun n =>
         if (x.guard f.g).getLsbD n then
           some (if f.var = 3#3 then (v.a.lane n).toNat % 2 ^ laneWidth ty % 2 ^ (laneWidth ty - 1) else (v.a.lane n).toNat % 2 ^ laneWidth ty)
         else none) →
       s.VCompletes x (.vred f) (vStreams f m) fun u =>
         (u.addFlight s.cur 6 (.vector (VReg.dest f) (Vec.splat (holdLane ty (canonical ty ((t.1.headD none).getD 0)))) (x.guard f.g))).modCtx s.cur fun y =>
           y.flagSub t.2) ∧
     (∀ (m : VForm) (v : VArgs) (a : ScanAcc), m = { types := [0, 1] ++ tyInt, variants := List.range 6 } →
       s.VReady x (.vscan f) f m [] → v = (s.envAlone x (.vscan f)).vargs f →
       a = (Mask.lanes (x.guard f.g)).foldl
         (ScanAcc.step ty (f.var.toNat / 2) (f.var.getLsbD 0) fun n => (v.a.lane n).toNat % 2 ^ laneWidth ty)
         ⟨if f.kind = 0#2 ∧ f.op2 = 336#9 then none else some (canonical ty ((v.b.lane 63).toNat % 2 ^ laneWidth ty)), false, [], 0#64⟩ →
       s.VCompletes x (.vscan f) (vStreams f m) fun u =>
         (u.addFlight s.cur 8 (.vector (VReg.dest f) (Vec.ofLanes fun n => SMap.get 0#32 a.out n) (x.guard f.g))).modCtx s.cur fun y =>
           y.flagSub (a.tiny != 0#64)) ∧
     (∀ (m : VForm) (v : VArgs) (r lane file : Nat),
       m = { vd := .own, op2 := .own, types := if f.var.toNat = 1 then [0, 1] ++ tyInt else [9], variants := [0, 1, 2] } →
       s.VReady x (.vcpy f) f m ((s.envAlone x (.vcpy f)).vcpyChecks f) → v = (s.envAlone x (.vcpy f)).vargs f →
       r = f.vd.toNat → lane = f.op2.toNat % 64 → file = f.op2.toNat / 64 →
       (f.var = 0#3 → s.VCompletes x (.vcpy f) (vStreams f m) fun t =>
         t.addFlight s.cur 2 (.vector (.vreg (!isW f.slot) r) v.a (x.guard f.g))) ∧
       (f.var = 1#3 → (x.guard f.g).getLsbD lane = true → s.VCompletes x (.vcpy f) (vStreams f m) fun t =>
         t.addFlight s.cur 2 (.scalar ([Dest.a r, .b r, .d r, .e r].getD file (.a r))
           (if isSignedTy ty then BitVec.ofInt 64 (intOf ty ((v.a.lane lane).toNat % 2 ^ laneWidth ty))
            else BitVec.ofNat 64 ((v.a.lane lane).toNat % 2 ^ laneWidth ty)))) ∧
       (f.var = 2#3 → (x.guard f.g).getLsbD lane = true → s.VCompletes x (.vcpy f) (vStreams f m) fun t =>
         t.addFlight s.cur 2 (.vector (.vreg (!isW f.slot) r) (Vec.splat (v.a.lane 0)) (1#64 <<< lane))) ∧
       (f.var ≠ 0#3 → (x.guard f.g).getLsbD lane = false → s.VCompletes x (.vcpy f) (vStreams f m) id)))

/-! ### Matrix slot (file 19) -/

/-- R422, R423, R429 to R431: MCFG, MZERO, MREAD, MWRITE and MSTAT complete on a tile with no macro-op in flight (MREAD and MSTAT on any): the tile
takes its configuration or is cleared after two counts, row pairs come from it at six counts each, rows go to it from the scratchpad, and its status
word goes to the scratchpad. -/
def Obligations.MatrixTileOps : Prop :=
  ∀ (s : State) (x : Ctx), s.Issues x →
    (∀ (f : MCfg) (w : W64), x.Guarded f.g → s.MReady x f.z → x.busyUpto f.z.toNat = none → f.rest = 0#29 → w = x.mReg f.ma.toNat →
      tileCfgBad w = false → s.Yields x (.mcfg f) 2 (.tileCfg f.z.toNat w)) ∧
    (∀ f : MZero, x.Guarded f.g → s.MReady x f.z → x.busyUpto f.z.toNat = none → f.rest = 0#33 →
      s.Yields x (.mzero f) 2 (.tileZero f.z.toNat)) ∧
    (∀ (f : MRead) (tile : Tile), x.Guarded f.g → s.MReady x f.z → f.rest = 0#18 → f.rp.toNat + f.np.toNat + 1 ≤ 64 →
      (SMap.get {} x.f f.f.toNat).bound = none → (SMap.get {} x.f f.f.toNat).buf = [] → tile = SMap.get {} x.z f.z.toNat →
      s.Completes x (.mread f) none fun t => t.modCtx s.cur fun y =>
        { y with f := (SMap.set {} y.f f.f.toNat
          { bound := some .mread, buf := [], ended := true
            coming := ((List.range (f.np.toNat + 1)).flatMap fun j =>
              (tile.pairVectors (f.rp.toNat + j)).map fun v => (x.count + 6 * (j + 1) - 1, v)) }) }) ∧
    (∀ (f : MWrite) (m : W64) (p : Span), x.Guarded f.g → s.MReady x f.z → x.busyUpto f.z.toNat = none → f.rest = 0#17 →
      f.rp.toNat + f.np.toNat + 1 ≤ 64 → m = x.mReg f.ma.toNat → descBad m true = false →
      p = ⟨descBase m 0, descPitch m, 2 * (f.np.toNat + 1), 512⟩ → p.lo % 32 = 0 → (s.envAlone x (.mwrite f)).spanOffence p = none →
      p.inside (s.part s.cur) = true →
      s.Yields x (.mwrite f) 4 (.tileRows f.z.toNat (2 * f.rp.toNat) ((List.range p.rows).map fun i => (List.range 128).map fun j =>
        BitVec.ofNat 32 (leNat (((Mem.read (s.core (ctxCore s.cur)).spad (p.lo.toNat + 32 * i * p.pitch) 512).drop (4 * j)).take 4))))) ∧
    (∀ (f : MStat) (m : W64) (p : Span) (tile : Tile), x.Guarded f.g → s.MReady x f.z → f.rest = 0#28 → m = x.mReg f.ma.toNat →
      descBad m false = false → p = ⟨descBase m 0, 0, 1, 8⟩ → p.lo % 8 = 0 → (s.envAlone x (.mstat f)).spanOffence p = none →
      p.inside (s.part s.cur) = true → tile = SMap.get {} x.z f.z.toNat →
      s.Yields x (.mstat f) 2
        (.tileStat p.lo.toNat (tile.word (x.busyUpto f.z.toNat).isSome) f.z.toNat (f.clr == 1#1) s.nextAccess))

/-- R209, R294, R424, R425: MMA and MMAX complete with a macro-op in flight that holds its operand bytes as they stand in the scratchpad, row by row,
and lands after the fill latency and its K-steps; behind an earlier macro-op on the tile, no sooner than one set of K-steps after it. That the operand
bytes and the tile are those that stand at the issue is the reading of log entry 17 (DEDUCED). R234, R432: MJOIN completes with the half that the
partner keeps copied, on a core with no join under way; inactive positions are not sent. -/
def Obligations.MacroOpsAndJoinsIssue : Prop :=
  (∀ (s : State) (x : Ctx) (f : MMac) (mx : Bool) (i : Instr), (mx, i) ∈ [(false, Instr.mma f), (true, .mmax f)] → s.Issues x →
     x.Guarded f.g → s.MReady x f.z → f.rest = 0#10 →
     ∀ (part : W64) (a b k fmt : Nat) (ta tb : Bool) (tile : Tile) (pa pb sa sb : Span), part = s.part s.cur → a = f.ma.toNat → b = f.mb.toNat →
       k = (if f.kq = 0#7 then 4096 else 32 * f.kq.toNat) → fmt = f.format.toNat → ta = (f.ta == 1#1) → tb = (f.tb == 1#1) →
       tile = SMap.get {} x.z f.z.toNat →
       tile.i32 = (fmt == 5 || fmt == 6 || fmt == 7) → fmt ∈ (if mx then [4, 5, 6, 7] else [1, 2, 3]) → (mx = true → a % 2 = 0 ∧ b % 2 = 0) →
       (mx = true → ta = false ∧ tb = false) → (f.gauge = 1#1 → tile.gv = true) →
       (∀ r ∈ (if mx then [a, b, a + 1, b + 1] else [a, b]), descBad (x.mReg r) true = false ∧ descBase (x.mReg r) 0 % 32 = 0) →
       pa = ⟨descBase (x.mReg a) 0, descPitch (x.mReg a), if ta then k else 128, rowBytes fmt (if ta then 128 else k)⟩ →
       pb = ⟨descBase (x.mReg b) 0, descPitch (x.mReg b), if tb then 128 else k, rowBytes fmt (if tb then k else 128)⟩ →
       sa = ⟨descBase (x.mReg (a + 1)) 0, descPitch (x.mReg (a + 1)), 128, k / 32⟩ →
       sb = ⟨descBase (x.mReg (b + 1)) 0, descPitch (x.mReg (b + 1)), k / 32, 128⟩ →
       macroOffence part (if mx then [pa, pb, sa, sb] else [pa, pb]) = none →
       (∀ p ∈ (if mx then [pa, pb, sa, sb] else [pa, pb]), p.inside part = true) →
       ∃ (land steps : Nat) (op : MacroOp),
         (s.Completes x i none fun t => t.modCtx s.cur fun y => { y with flight := y.flight ++ [⟨land, .macroOp op⟩] }) ∧
         steps = windowFactor (s.cluster (ctxCluster s.cur)).winmode.toNat * ceilDiv k (macroRate fmt) ∧
         (x.busyUpto f.z.toNat = none → land = x.count + 15 + steps ∧ op.start = some tile) ∧
         (∀ n, x.busyUpto f.z.toNat = some n → land = max (x.count + 15 + steps) (n + steps) ∧ op.start = none) ∧
         op.z = f.z.toNat ∧ op.fmt = fmt ∧ op.k = k ∧ op.ta = ta ∧ op.tb = tb ∧ op.ovw = (f.ovw == 1#1) ∧ op.pc = x.pc ∧
         op.window = windowFactor (s.cluster (ctxCluster s.cur)).winmode.toNat ∧ op.next = 0 ∧ op.partials = [] ∧
         op.gauge = (if f.gauge = 1#1 ∧ fmtGauge x.fmt = true then some tile.gidx.toNat else none) ∧ op.assist = fmtAssist x.fmt ∧
         op.aRows = pa.read (s.core (ctxCore s.cur)).spad ∧ op.bRows = pb.read (s.core (ctxCore s.cur)).spad ∧
         (mx = true → op.sa = sa.read (s.core (ctxCore s.cur)).spad ∧ op.sb = sb.read (s.core (ctxCore s.cur)).spad)) ∧
  (∀ (s : State) (x : Ctx) (f : MJoin) (g : Gang) (pc : Nat) (tile : Tile), s.Issues x → x.Guarded f.g → s.MReady x f.z →
     x.busyUpto f.z.toNat = none → f.rest = 0#17 → s.gang x.gang = some g → f.partner.toNat ≠ x.member →
     g.ctxOf f.partner.toNat = some pc → ctxCluster pc ≠ ctxCluster s.cur →
     (∀ i y, i < 4 → s.ctx (4 * ctxCore s.cur + i) = some y → y.join = none) → tile = SMap.get {} x.z f.z.toNat →
     ∃ j : Join, (s.Completes x (.mjoin f) (some f.token.toNat) fun t => t.modCtx s.cur fun y => { y with join := some j }) ∧
       j.z = f.z.toNat ∧ j.partner = f.partner.toNat ∧ j.jn = f.jn.toNat ∧ j.h = (f.h == 1#1) ∧ j.token = f.token.toNat ∧
       j.deadline = s.time + g.joinwait ∧ j.i32 = tile.i32 ∧ j.pc = x.pc ∧ j.received = none ∧
       ∀ r c, r < 64 → c < 128 → ∀ row, row = (if f.h = 1#1 then 0 else 64) + r →
         (j.half.getD r []).getD c none = (if row ≤ tile.rows.toNat ∧ c ≤ tile.cols.toNat then some (tile.elem row c) else none))

/-! ### Load-store slot (file 20) -/

/-- R324, R438 to R441: LD, VLD and LDJ complete with a load in flight on their token: its address, its elements in order, its destination and the
post-step of its base are those of the form. The elements stand where the translation of each puts them. -/
def Obligations.LoadsIssue : Prop :=
  ∀ (s : State) (x : Ctx) (f : LGen) (base : W64), s.Issues x → base = x.dReg f.base.toNat →
    (∀ (z : Nat) (r : Req) (l : Loc), x.Guarded f.g → z = 2 ^ (f.size.toNat % 4) → f.size.toNat < 8 → (f.size.toNat ≠ 7) →
      r = ⟨0, if f.ps = 1#1 then base else base + BitVec.ofInt 64 (f.off.toInt * z), z⟩ →
      NoBad ((s.envAlone x (.ld f)).fileChecks true false f.file f.reg) →
      (s.envAlone x (.ld f)).resolve { perm := .read, mmio := true } r = .ok l →
      s.Completes x (.ld f) (some f.token.toNat) fun t =>
        ((s.envAlone x (.ld f)).postStep f z f.base.toNat (t.fillAll (ctxCluster s.cur) [r])).issueAccess
          { ctx := s.cur, token := f.token.toNat, kind := .load, after := [], spaces := [r.addr.toNat / 2 ^ 60]
            elems := [{ lane := 0, loc := l, size := z }]
            dest := .scalar f.file.toNat f.reg.toNat (if 4 ≤ f.size.toNat then some (8 * z) else none) } [] []) ∧
    (∀ (ty : Nat) (rs : List Req) (ls : List (Req × Loc)), x.guard f.g ≠ 0#64 → ty = f.size.toNat →
      NoBad ((s.envAlone x (.vld f)).vmemChecks f.file f.reg f.size false) →
      rs = packedReqs ty (x.guard f.g) (if f.ps = 1#1 then base else base + BitVec.ofInt 64 (f.off.toInt * elemBytes ty)) →
      (s.envAlone x (.vld f)).resolveAll { perm := .read } rs = .ok ls →
      s.Completes x (.vld f) (some f.token.toNat) fun t =>
        ((s.envAlone x (.vld f)).postStep f (elemBytes ty) f.base.toNat (t.fillAll (ctxCluster s.cur) rs)).issueAccess
          { ctx := s.cur, token := f.token.toNat, kind := .load, after := [], spaces := spacesOfAll rs
            form := if storedWidth ty % 8 = 0 then .lanes ty else .packed ty
            elems := ls.map fun p => { lane := p.1.lane, loc := p.2, size := p.1.size }
            dest := .vector (f.file == 3#2) f.reg.toNat (x.guard f.g) } [] []) ∧
    (∀ (lanes : List Nat) (hi lo : List Req) (his los : List (Req × Loc)) (off : W64),
      (if 2 ≤ f.file.toNat then x.guard f.g ≠ 0#64 else x.Guarded f.g) →
      f.base ≠ 31#5 → f.size = 15#4 → NoBad ((s.envAlone x (.ldj f)).fileChecks true true f.file f.reg) →
      lanes = (if 2 ≤ f.file.toNat then (x.guard f.g).lanes else [0]) →
      off = (if f.ps = 1#1 then 0#64 else BitVec.ofInt 64 (f.off.toInt * 2)) →
      hi = lanes.map (fun n => ⟨n, base + off + BitVec.ofNat 64 (2 * n), 2⟩) →
      lo = lanes.map (fun n => ⟨n, x.dReg (f.base.toNat + 1) + off + BitVec.ofNat 64 (2 * n), 2⟩) →
      (s.envAlone x (.ldj f)).resolveAll { perm := .read } hi = .ok his →
      (s.envAlone x (.ldj f)).resolveAll { perm := .read } lo = .ok los →
      s.Completes x (.ldj f) (some f.token.toNat) fun t =>
        ((s.envAlone x (.ldj f)).splitStep f (t.fillAll (ctxCluster s.cur) (zipReqs hi lo))).issueAccess
          { ctx := s.cur, token := f.token.toNat, kind := .load, form := .joined, after := [], spaces := spacesOfAll (hi ++ lo)
            elems := (his ++ los).map fun p => { lane := p.1.lane, loc := p.2, size := 2 }
            dest := if 2 ≤ f.file.toNat then .vector (f.file == 3#2) f.reg.toNat (x.guard f.g)
              else .scalar f.file.toNat f.reg.toNat none } [] [])

/-- R324, R438 to R441: ST, VST and STJ complete with a store of the register's bytes: whole elements, the packed image of sub-byte types with the
bits of inactive elements kept, or the low halves and then the high halves of words. -/
def Obligations.StoresIssue : Prop :=
  ∀ (s : State) (x : Ctx) (f : LGen) (base : W64), s.Issues x → base = x.dReg f.base.toNat →
    (∀ (z : Nat) (r : Req) (l : Loc), x.Guarded f.g → z = 2 ^ f.size.toNat → f.size.toNat < 4 →
      r = ⟨0, if f.ps = 1#1 then base else base + BitVec.ofInt 64 (f.off.toInt * z), z⟩ →
      NoBad ((s.envAlone x (.st f)).fileChecks true false f.file f.reg) →
      (s.envAlone x (.st f)).resolve { perm := .write, mmio := true } r = .ok l →
      s.Completes x (.st f) (some f.token.toNat) fun t =>
        ((s.envAlone x (.st f)).postStep f z f.base.toNat (t.fillAll (ctxCluster s.cur) [r])).issueAccess
          { ctx := s.cur, token := f.token.toNat, kind := .store, after := [], spaces := [r.addr.toNat / 2 ^ 60]
            elems := [{ lane := 0, loc := l, size := z, data := SMap.get 0#64 (if f.file = 0#2 then x.a else x.b) f.reg.toNat }] } [] []) ∧
    (∀ (ty : Nat) (rs : List Req) (ls : List (Req × Loc)) (v : Vec), x.guard f.g ≠ 0#64 → ty = f.size.toNat →
      NoBad ((s.envAlone x (.vst f)).vmemChecks f.file f.reg f.size false) → v = x.vec (f.file == 3#2) f.reg.toNat →
      rs = packedReqs ty (x.guard f.g) (if f.ps = 1#1 then base else base + BitVec.ofInt 64 (f.off.toInt * elemBytes ty)) →
      (s.envAlone x (.vst f)).resolveAll { perm := .write } rs = .ok ls →
      s.Completes x (.vst f) (some f.token.toNat) fun t =>
        ((s.envAlone x (.vst f)).postStep f (elemBytes ty) f.base.toNat (t.fillAll (ctxCluster s.cur) rs)).issueAccess
          { ctx := s.cur, token := f.token.toNat, kind := .store, after := [], spaces := spacesOfAll rs
            elems := ls.map fun p =>
              if storedWidth ty % 8 = 0 then
                { lane := p.1.lane, loc := p.2, size := p.1.size, data := BitVec.ofNat 64 (storedElem ty (v.lane p.1.lane)) }
              else { lane := p.1.lane, loc := p.2, size := 1, data := BitVec.ofNat 64 (imageOf ty v / 256 ^ p.1.lane % 256)
                     keep := ~~~activeBits (x.guard f.g) (storedWidth ty) p.1.lane } } [] []) ∧
    (∀ (lanes : List Nat) (hi lo : List Req) (his los : List (Req × Loc)) (off : W64) (val : Nat → W64),
      (if 2 ≤ f.file.toNat then x.guard f.g ≠ 0#64 else x.Guarded f.g) →
      f.base ≠ 31#5 → f.size = 15#4 → NoBad ((s.envAlone x (.stj f)).fileChecks true true f.file f.reg) →
      lanes = (if 2 ≤ f.file.toNat then (x.guard f.g).lanes else [0]) →
      off = (if f.ps = 1#1 then 0#64 else BitVec.ofInt 64 (f.off.toInt * 2)) →
      hi = lanes.map (fun n => ⟨n, base + off + BitVec.ofNat 64 (2 * n), 2⟩) →
      lo = lanes.map (fun n => ⟨n, x.dReg (f.base.toNat + 1) + off + BitVec.ofNat 64 (2 * n), 2⟩) →
      (∀ n, val n = if 2 ≤ f.file.toNat then ((x.vec (f.file == 3#2) f.reg.toNat).lane n).zeroExtend 64
        else SMap.get 0#64 (if f.file = 0#2 then x.a else x.b) f.reg.toNat) →
      (s.envAlone x (.stj f)).resolveAll { perm := .write } hi = .ok his →
      (s.envAlone x (.stj f)).resolveAll { perm := .write } lo = .ok los →
      s.Completes x (.stj f) (some f.token.toNat) fun t =>
        ((s.envAlone x (.stj f)).splitStep f (t.fillAll (ctxCluster s.cur) (zipReqs hi lo))).issueAccess
          { ctx := s.cur, token := f.token.toNat, kind := .store, after := [], spaces := spacesOfAll (hi ++ lo)
            elems := los.map (fun p => { lane := p.1.lane, loc := p.2, size := 2, data := val p.1.lane }) ++
              his.map fun p => { lane := p.1.lane, loc := p.2, size := 2, data := val p.1.lane >>> 16 } } [] [])

/-- R243, R252, R254, R439: a store that waits for no earlier access is performed at its issue. It writes the low bytes of its register at the place
of its address: the other bytes of that memory, every other memory, the other contexts and the registers stay, but for the stepped base of the
post-step form. Of the rest of the state a store to a local memory changes nothing but the number of the next access; one to global memory is on its
way to the other dies, or to the host, takes a tick of its die's clock, may fill a translation, and reaches the cache and its DRAM where an active
lease holds its line. Space 0xF, whose registers the next step writes, is left to MMIO's own statements. -/
def Obligations.StoreFrame : Prop :=
  ∀ (s : State) (x : Ctx) (f : LGen) (z : Nat) (base : W64) (r : Req) (l : Loc) (bs : List Byte), s.Issues x → x.Calm → x.Guarded f.g →
    s.pending s.cur = [] → s.barWaits = [] → f.size.toNat < 4 → z = 2 ^ f.size.toNat → base = x.dReg f.base.toNat →
    r = ⟨0, if f.ps = 1#1 then base else base + BitVec.ofInt 64 (f.off.toInt * z), z⟩ →
    NoBad ((s.envAlone x (.st f)).fileChecks true false f.file f.reg) →
    (s.envAlone x (.st f)).resolve { perm := .write, mmio := true } r = .ok l →
    bs = toBytes z (SMap.get 0#64 (if f.file = 0#2 then x.a else x.b) f.reg.toNat).toNat →
    ((∃ pa, l = .global pa) ∨ (∃ k off, l = .spad k off) ∨ ∃ k off, l = .sram k off) →
    ∃ t y vc, exec (.st f) s = .next t ∧ t.ctx s.cur = some y ∧ (∀ c, c ≠ s.cur → t.ctx c = s.ctx c) ∧
      y = { x with pc := x.pc + BitVec.ofNat 48 (4 * (3 + s.lits.length)), count := x.count + 1, f := y.f, loops := y.loops, d := y.d, k := y.k } ∧
      (∀ k, SMap.get {} y.f k = SMap.get {} x.f k) ∧ (∀ k, y.tokCount k = x.tokCount k) ∧
      (∀ k, y.dReg k = if f.ps = 1#1 ∧ k = f.base.toNat then base + BitVec.ofInt 64 (f.off.toInt * z) else x.dReg k) ∧
      vc = (s.die (ctxDie s.cur)).vc.set (ctxDie s.cur) ((s.die (ctxDie s.cur)).vc.get (ctxDie s.cur) + 1) ∧
      t = { s with ctxs := t.ctxs, dies := t.dies, clusters := t.clusters, cores := t.cores, accesses := t.accesses,
                   nextAccess := s.nextAccess + 1, writes := t.writes, nextWrite := t.nextWrite, hostReqs := t.hostReqs, nextId := t.nextId,
                   dram := t.dram, llc := t.llc, llcLast := t.llcLast, freeCtr := t.freeCtr } ∧
      (s.leases = [] → t.dram = s.dram ∧ t.llc = s.llc ∧ t.llcLast = s.llcLast) ∧
      (∀ k, k ≠ s.nextAccess → SMap.get none t.accesses k = SMap.get none s.accesses k) ∧ SMap.get none t.accesses s.nextAccess = none ∧
      (t.writes, t.nextWrite) =
        (match l with
         | .global pa => if isHost pa then (s.writes, s.nextWrite)
             else (s.writes ++ [⟨s.nextWrite, ctxDie s.cur, vc, pa, bs, none, [ctxDie s.cur], []⟩], s.nextWrite + 1)
         | _ => (s.writes, s.nextWrite)) ∧
      (t.hostReqs, t.nextId) =
        (match l with
         | .global pa => if isHost pa then (s.hostReqs ++ [⟨s.nextId, ctxDie s.cur, pa, bs⟩], s.nextId + 1) else (s.hostReqs, s.nextId)
         | _ => (s.hostReqs, s.nextId)) ∧
      (∀ d : Nat, t.die d = { s.die d with view := (t.die d).view, vc := (t.die d).vc, tlb := (t.die d).tlb } ∧
        (t.die d).vc = match l with
          | .global pa => if ¬ isHost pa ∧ d = ctxDie s.cur then vc else (s.die d).vc
          | _ => (s.die d).vc) ∧
      (∀ (d a : Nat), Mem.byte (t.die d).view a =
        match l with
        | .global pa => if ¬ isHost pa ∧ d = ctxDie s.cur ∧ pa ≤ a ∧ a < pa + z then bs.getD (a - pa) 0#8 else Mem.byte (s.die d).view a
        | _ => Mem.byte (s.die d).view a) ∧
      (∀ k : Nat, t.core k = { s.core k with spad := (t.core k).spad }) ∧
      (∀ (k a : Nat), Mem.byte (t.core k).spad a =
        match l with
        | .spad j off => if k = j ∧ off ≤ a ∧ a < off + z then bs.getD (a - off) 0#8 else Mem.byte (s.core k).spad a
        | _ => Mem.byte (s.core k).spad a) ∧
      (∀ k : Nat, t.cluster k = { s.cluster k with sram := (t.cluster k).sram, tlb := (t.cluster k).tlb }) ∧
      (∀ (k a : Nat), Mem.byte (t.cluster k).sram a =
        match l with
        | .sram j off => if k = j ∧ off ≤ a ∧ a < off + z then bs.getD (a - off) 0#8 else Mem.byte (s.cluster k).sram a
        | _ => Mem.byte (s.cluster k).sram a) ∧
      ((∃ k off, l = .spad k off) ∨ (∃ k off, l = .sram k off) → (∀ d, (t.die d).tlb = (s.die d).tlb) ∧ (∀ k, (t.cluster k).tlb = (s.cluster k).tlb) ∧
        t.freeCtr = s.freeCtr ∧ t.llc = s.llc ∧ t.dram = s.dram)

/-- R442, R443: the strided and indexed vector accesses complete with one element for each active lane, at the base and the lane's multiple of the
stride, or at the base and the lane's shifted index; a counted VSTS carries the updates of its gauge. R444, R445: ATOM, LD with an order, ST with an
order and VATOM complete with their access in flight, releasing and acquiring the spaces of their scope as their order says. -/
def Obligations.StridedIndexedAtomicsIssue : Prop :=
  (∀ (s : State) (x : Ctx), s.Issues x →
     (∀ (f : LStr) (st : Int) (rs : List Req) (ls : List (Req × Loc)) (v : Vec), x.guard f.g ≠ 0#64 →
       st = ((x.dReg f.sd.toNat).extractLsb' 0 32).toInt → v = x.vec (f.file == 3#2) f.reg.toNat →
       rs = (x.guard f.g).lanes.map (fun n =>
         ⟨n, x.dReg f.base.toNat + BitVec.ofInt 64 (f.off.toInt * elemBytes f.size.toNat + n * st), elemBytes f.size.toNat⟩) →
       (f.gauge = 0#1 → NoBad ((s.envAlone x (.vlds f)).vmemChecks f.file f.reg f.size true) →
         (s.envAlone x (.vlds f)).resolveAll { perm := .read } rs = .ok ls →
         s.Completes x (.vlds f) (some f.token.toNat) fun t =>
           (t.fillAll (ctxCluster s.cur) rs).issueAccess
             { ctx := s.cur, token := f.token.toNat, kind := .load, form := .lanes f.size.toNat, after := [], spaces := spacesOfAll rs
               elems := ls.map fun p => { lane := p.1.lane, loc := p.2, size := p.1.size }
               dest := .vector (f.file == 3#2) f.reg.toNat (x.guard f.g) } [] []) ∧
       (NoBad ((s.envAlone x (.vsts f)).vmemChecks f.file f.reg f.size true) →
         (f.gauge = 1#1 → s.gaugeAlloc (ctxDie s.cur) ((x.dReg f.sd.toNat).toNat / 2 ^ 48) = true) →
         (s.envAlone x (.vsts f)).resolveAll { perm := .write } rs = .ok ls →
         s.Completes x (.vsts f) (some f.token.toNat) fun t =>
           (t.fillAll (ctxCluster s.cur) rs).issueAccess
             { ctx := s.cur, token := f.token.toNat, kind := .store, after := [], spaces := spacesOfAll rs
               elems := ls.map fun p =>
                 { lane := p.1.lane, loc := p.2, size := p.1.size, data := BitVec.ofNat 64 (storedElem f.size.toNat (v.lane p.1.lane)) }
               updates := if f.gauge = 1#1 ∧ fmtGauge x.fmt = true then
                 laneUpdates (ctxDie s.cur) ((x.dReg f.sd.toNat).toNat / 2 ^ 48) f.size.toNat v rs else [] } [] [])) ∧
     (∀ (f : LIdx) (rs : List Req) (ls : List (Req × Loc)) (v ix : Vec), x.guard f.g ≠ 0#64 → f.rest = 0#3 →
       v = x.vec (f.file == 3#2) f.reg.toNat → ix = x.vec (f.file == 3#2) f.ix.toNat → f.ix.toNat < partVreg (s.part s.cur) →
       rs = (x.guard f.g).lanes.map (fun n =>
         ⟨n, x.dReg f.base.toNat + (ix.lane n).signExtend 64 <<< f.sh.toNat, elemBytes f.size.toNat⟩) →
       (NoBad ((s.envAlone x (.vgth f)).vmemChecks f.file f.reg f.size true) →
         (s.envAlone x (.vgth f)).resolveAll { perm := .read } rs = .ok ls →
         s.Completes x (.vgth f) (some f.token.toNat) fun t =>
           (t.fillAll (ctxCluster s.cur) rs).issueAccess
             { ctx := s.cur, token := f.token.toNat, kind := .load, form := .lanes f.size.toNat, after := [], spaces := spacesOfAll rs
               elems := ls.map fun p => { lane := p.1.lane, loc := p.2, size := p.1.size }
               dest := .vector (f.file == 3#2) f.reg.toNat (x.guard f.g) } [] []) ∧
       (NoBad ((s.envAlone x (.vsct f)).vmemChecks f.file f.reg f.size true) →
         (s.envAlone x (.vsct f)).resolveAll { perm := .write } rs = .ok ls →
         s.Completes x (.vsct f) (some f.token.toNat) fun t =>
           (t.fillAll (ctxCluster s.cur) rs).issueAccess
             { ctx := s.cur, token := f.token.toNat, kind := .store, after := [], spaces := spacesOfAll rs
               elems := ls.map fun p =>
                 { lane := p.1.lane, loc := p.2, size := p.1.size, data := BitVec.ofNat 64 (storedElem f.size.toNat (v.lane p.1.lane)) } }
             [] []))) ∧
  (∀ (s : State) (x : Ctx), s.Issues x →
     (∀ (f : LAtom) (z : Nat) (r : Req) (l : Loc) (reg : BitVec 6 → W64), x.Guarded f.g → f.scope.toNat ≤ 4 → f.rest = 0#2 →
       ¬ (f.sx = 1#1 ∧ f.sz = 3#2) → f.file.toNat < 2 →
       z = 2 ^ f.sz.toNat → r = ⟨0, x.dReg f.base.toNat, z⟩ →
       (∀ n, reg n = SMap.get 0#64 (if f.file = 0#2 then x.a else x.b) n.toNat) →
       (f.ak = 0#2 → f.aop.toNat ≤ 10 → 2 ≤ f.sz.toNat → (f.aop = 10#4 → f.sz = 2#2) →
         (s.envAlone x (.atom f)).resolve { perm := .atomic, rmw := true } r = .ok l →
         s.Completes x (.atom f) (some f.token.toNat) fun t => (t.fillAll (ctxCluster s.cur) [r]).issueAccess
           { ctx := s.cur, token := f.token.toNat, kind := .atomic (atomKind f.aop.toNat) (reg f.rd), after := []
             spaces := [r.addr.toNat / 2 ^ 60], elems := [{ lane := 0, loc := l, size := z, data := reg f.rs }]
             dest := .scalar f.file.toNat f.rd.toNat (if f.sx = 1#1 then some (8 * z) else none) }
           (if 2 ≤ f.ord.toNat then scopeSpaces f.scope.toNat (decide (r.addr.toNat < 2 ^ 60)) else [])
           (if f.ord.toNat % 2 = 1 then scopeSpaces f.scope.toNat (decide (r.addr.toNat < 2 ^ 60)) else [])) ∧
       (f.ak = 1#2 → f.aop = 0#4 → f.ord.toNat < 2 → f.rs = 0#6 →
         (s.envAlone x (.ldAcq f)).resolve { perm := .read, mmio := true } r = .ok l →
         s.Completes x (.ldAcq f) (some f.token.toNat) fun t => (t.fillAll (ctxCluster s.cur) [r]).issueAccess
           { ctx := s.cur, token := f.token.toNat, kind := .load, after := [], spaces := [r.addr.toNat / 2 ^ 60]
             elems := [{ lane := 0, loc := l, size := z }]
             dest := .scalar f.file.toNat f.rd.toNat (if f.sx = 1#1 then some (8 * z) else none) }
           [] (if f.ord = 1#2 then scopeSpaces f.scope.toNat (decide (r.addr.toNat < 2 ^ 60)) else [])) ∧
       (f.ak = 2#2 → f.aop = 0#4 → f.ord.toNat % 2 = 0 → f.rd = 0#6 →
         (s.envAlone x (.stRel f)).resolve { perm := .write, mmio := true } r = .ok l →
         s.Completes x (.stRel f) (some f.token.toNat) fun t => (t.fillAll (ctxCluster s.cur) [r]).issueAccess
           { ctx := s.cur, token := f.token.toNat, kind := .store, after := [], spaces := [r.addr.toNat / 2 ^ 60]
             elems := [{ lane := 0, loc := l, size := z, data := reg f.rs }] }
           (if f.ord = 2#2 then scopeSpaces f.scope.toNat (decide (r.addr.toNat < 2 ^ 60)) else []) [])) ∧
     (∀ (f : LVAtom) (rs : List Req) (ls : List (Req × Loc)) (v ix : Vec) (glob : Bool), x.guard f.g ≠ 0#64 → f.scope.toNat ≤ 4 → f.aop ≠ 1#4 →
       f.aop.toNat ≤ 10 → NoBad ((s.envAlone x (.vatom f)).fileChecks false true f.file f.reg) → f.ix.toNat < partVreg (s.part s.cur) →
       v = x.vec (f.file == 3#2) f.reg.toNat → ix = x.vec (f.file == 3#2) f.ix.toNat →
       rs = (x.guard f.g).lanes.map (fun n => ⟨n, x.dReg f.base.toNat + (ix.lane n).signExtend 64 <<< 2, 4⟩) →
       glob = rs.any (fun r => decide (r.addr.toNat < 2 ^ 60)) →
       (s.envAlone x (.vatom f)).resolveAll { perm := .atomic } rs = .ok ls →
       s.Completes x (.vatom f) (some f.token.toNat) fun t => (t.fillAll (ctxCluster s.cur) rs).issueAccess
         { ctx := s.cur, token := f.token.toNat, kind := .atomic (atomKind f.aop.toNat) 0#64, after := [], spaces := spacesOfAll rs
           elems := ls.map fun p => { lane := p.1.lane, loc := p.2, size := 4, data := (v.lane p.1.lane).zeroExtend 64 }
           dest := if f.ret = 1#1 then .vector (f.file == 3#2) f.reg.toNat (x.guard f.g) else .none }
         (if 2 ≤ f.ord.toNat then scopeSpaces f.scope.toNat glob else []) (if f.ord.toNat % 2 = 1 then scopeSpaces f.scope.toNat glob else [])))

/-- R256, R257, R446: FENCE completes by ordering later accesses of its scope's spaces behind those that are pending, and SYNC with an access on its
token that waits for every earlier one. R450: L1INV, L1WB and PRF complete with an access on their token that names no byte. R171, R447: TBINIT, TBARV
and TBEXP complete with their write of the barrier, and TBWAIT completes once the barrier's phase is no longer the one that it names; where it still
is, the context waits. -/
def Obligations.OrderingCacheAndBarrierOps : Prop :=
  (∀ (s : State) (x : Ctx), s.Issues x →
     (∀ f : LScope, x.Guarded f.g → f.hi = 0#29 → f.mid = 0#3 → f.scope.toNat ≤ 4 →
       (f.token = 0#3 → s.Completes x (.fence f) none fun t =>
         let ids := ((t.pending s.cur).filter fun p => sharesSpace (scopeSpaces f.scope.toNat false) p.2.spaces).map (·.1)
         if ids.isEmpty then t else t.addFence s.cur (scopeSpaces f.scope.toNat false) ids) ∧
       (s.Completes x (.sync f) (some f.token.toNat) fun t => t.issueAccess
         { ctx := s.cur, token := f.token.toNat, kind := .sync f.scope.toNat, elems := [], after := [], spaces := [] } [] allSpaces)) ∧
     (∀ (f : LLine) (i : Instr), i ∈ [Instr.l1inv f, .l1wb f] → x.Guarded f.g → f.hi = 0#11 →
       (f.all = 1#1 ∨ (x.dReg f.base.toNat).toNat < 2 ^ 60) →
       s.Completes x i (some f.token.toNat) fun t => t.issueAccess
         { ctx := s.cur, token := f.token.toNat, kind := .load, elems := [], after := [], spaces := [] } [] []) ∧
     (∀ f : LGen, x.Guarded f.g → f.file = 0#2 → f.reg = 0#9 → f.size.toNat < 2 →
       s.Completes x (.prf f) (some f.token.toNat) fun t => ((s.envAlone x (.prf f)).postStep f 1 f.base.toNat t).issueAccess
         { ctx := s.cur, token := f.token.toNat, kind := .load, elems := [], after := [], spaces := [] } [] [])) ∧
  (∀ (s : State) (x : Ctx) (f : LBar) (r : Req) (l : Loc) (v : Nat), s.Issues x → x.Guarded f.g → r = ⟨0, x.dReg f.base.toNat, 16⟩ →
     v = (if f.src = 0#1 then f.imm.toNat else (SMap.get 0#64 (if f.file = 0#2 then x.a else x.b) f.reg.toNat).toNat) →
     (∀ (i : Instr) (op : BarOp) (lo hi : Nat) (rel : List Nat),
       (i, op, lo, hi, rel) ∈ [(Instr.tbinit f, BarOp.init, 1, 2 ^ 24 - 1, []), (.tbarv f, .arrive, 0, 2 ^ 32 - 1, [8, 9]),
         (.tbexp f, .expect, 0, 2 ^ 32 - 1, [])] →
       (s.envAlone x i).resolve { perm := .atomic, onlyLocal := true } r = .ok l → NoBad ((s.envAlone x i).barChecks f lo hi) →
       s.Completes x i (some f.token.toNat) fun t => (t.fillAll (ctxCluster s.cur) [r]).issueAccess
         { ctx := s.cur, token := f.token.toNat, kind := .bar op v, after := [], spaces := [r.addr.toNat / 2 ^ 60]
           elems := [{ lane := 0, loc := l, size := 16 }] } rel []) ∧
     ((s.envAlone x (.tbwait f)).resolve { perm := .read, onlyLocal := true } r = .ok l →
       NoBad ((s.envAlone x (.tbwait f)).barChecks f 0 15) → f.token = 0#3 →
       ((s.tbar l).phase ≠ v → s.Completes x (.tbwait f) none fun t => t.fillAll (ctxCluster s.cur) [r]) ∧
       ((s.tbar l).phase = v → (s.tbar l).flags % 8 = 0 →
         ∃ t y, exec (.tbwait f) s = .next t ∧ t.ctx s.cur = some y ∧ y.run = .waiting (.tbar l) ∧ y.pc = x.pc)))

/-- R226, R448: SPILL and FILL of a slot inside the carve-out complete: SPTOP moves by one, and the register's bytes go to or come from the slot of
256 bytes. R449: DADD, DLI and DCPY complete with their result. -/
def Obligations.SpillAndAddressOps : Prop :=
  ∀ (s : State) (x : Ctx), s.Issues x →
    (∀ (f : LSpill) (n carve : Nat) (vec : Bool) (ps : List (Nat × Nat × Nat)), x.Guarded f.g → f.rest = 0#24 →
      vec = decide (2 ≤ f.file.toNat) → carve = partSpill (s.part s.cur) / partCtx (s.part s.cur) →
      ps = (if vec then (List.range 64).map fun i => (i, 4 * i, 4) else [(0, 0, 8)]) →
      (n = x.sptop.toNat → 256 * (n + 1) ≤ carve → n < 65535 → NoBad ((s.envAlone x (.spill f)).fileChecks true true f.file f.reg) →
        s.Completes x (.spill f) (some f.token.toNat) fun t =>
          (t.modCtx s.cur fun y => { y with sptop := y.sptop + 1 }).issueAccess
            { ctx := s.cur, token := f.token.toNat, kind := .store, after := [], spaces := [carveSpace]
              elems := ps.map fun p =>
                { lane := p.1, loc := .spill (ctxCore s.cur) (ctxSeq s.cur * carve + 256 * n + p.2.1), size := p.2.2
                  data := (if vec then ((x.vec (f.file == 3#2) f.reg.toNat).lane p.1).zeroExtend 64
                    else SMap.get 0#64 (if f.file = 0#2 then x.a else x.b) f.reg.toNat) } } [] []) ∧
      (x.sptop.toNat = n + 1 → 256 * (n + 1) ≤ carve → NoBad ((s.envAlone x (.fill f)).fileChecks true true f.file f.reg) →
        s.Completes x (.fill f) (some f.token.toNat) fun t =>
          (t.modCtx s.cur fun y => { y with sptop := y.sptop - 1 }).issueAccess
            { ctx := s.cur, token := f.token.toNat, kind := .load, after := [], spaces := [carveSpace]
              form := if vec then .lanes 9 else .plain
              elems := ps.map fun p =>
                { lane := p.1, loc := .spill (ctxCore s.cur) (ctxSeq s.cur * carve + 256 * n + p.2.1), size := p.2.2 }
              dest := if vec then .vector (f.file == 3#2) f.reg.toNat Mask.all else .scalar f.file.toNat f.reg.toNat none } [] [])) ∧
    (∀ f : LDadd, x.Guarded f.g → f.token = 0#3 →
      (f.m = 0#1 → s.Yields x (.dadd f) 1 (.scalar (.d f.dd.toNat) (x.dReg f.ds.toNat + BitVec.ofInt 64 f.imm.toInt))) ∧
      (f.m = 1#1 → f.imm.toNat % 2 ^ 19 = 0 →
        s.Yields x (.dadd f) 1 (.scalar (.d f.dd.toNat) (x.dReg f.ds.toNat + x.dReg (f.imm.toNat / 2 ^ 19))))) ∧
    (∀ f : LDli, x.Guarded f.g → f.token = 0#3 → f.rest = 0#11 →
      (f.ins = 0#1 → s.Yields x (.dli f) 1 (.scalar (.d f.dd.toNat) (f.v.zeroExtend 64 <<< (16 * f.q.toNat)))) ∧
      (f.ins = 1#1 → ∃ v : W64, s.Yields x (.dli f) 1 (.scalar (.d f.dd.toNat) v) ∧
        ∀ i, i < 64 → v.getLsbD i = if 16 * f.q.toNat ≤ i ∧ i < 16 * f.q.toNat + 16 then f.v.getLsbD (i - 16 * f.q.toNat)
          else (x.dReg f.dd.toNat).getLsbD i)) ∧
    (∀ (f : LDcpy) (t r : Nat), x.Guarded f.g → f.token = 0#3 → f.rest = 0#20 → t = f.tfile.toNat → r = f.treg.toNat → t < 6 →
      r < [64, 64, 32, 32, 16, 4].getD t 0 →
      s.Yields x (.dcpy f) 2 (.scalar ([Dest.a r, .b r, .d r, .e r, .m r, .j r].getD t (.a r)) (x.dReg f.ds.toNat)))

/-! ### Engine slot (file 21) -/

/-- R456 to R458: SLJOB, SLSTAT, SLKILL and STBIND complete: an accepted card becomes a job, a card that fails a check answers its status, and the
others answer the word of their job or stream register. That the results of several operations to one register are written in the order of issue is
the reading of log entry 30 (DEDUCED). R175, R179, R459: RMOV to an operand port and RGET complete at once; RMOV to a trigger port puts the operation
with its captured ports into the unit's queue, or answers a failed check at once. -/
def Obligations.SluiceAndRiffleOps : Prop :=
  (∀ (s : State) (x : Ctx) (f : EForm) (d : Nat), s.Issues x → x.Guarded f.g → d = ctxDie s.cur →
     (NoBad (eChecks f {} (f.imm != 0#17)) → ∀ (rs : List Req) (bs : List Byte) (w : List W64), s.Operand x (.sljob f) (x.es1 f) 128 32 [8, 9] rs bs →
       w = (List.range 16).map (fun k => wordOf (bs.drop (8 * k))) → s.poisonIn (cardReads d w) = none → s.cardMisaligned d w = false →
       s.cardLayout d w = false →
       (∀ st : Nat, st = s.cardStatus s.cur w → st ≠ 0 →
         s.Answers x (.sljob f) f (fun t => t.fillAll (ctxCluster s.cur) rs) id fun _ => BitVec.ofNat 64 (st * 2 ^ 56)) ∧
       (∀ pl : Nat, s.cardStatus s.cur w = 0 → (s.die d).freePlace = some pl →
         s.Completes x (.sljob f) (some f.token.toNat) fun t =>
           ((t.fillAll (ctxCluster s.cur) rs).issueCard s.cur x.sup f.token.toNat pl w).addFlight s.cur 2
             (.scalar (eDest f) (jobRef d ((t.fillAll (ctxCluster s.cur) rs).die d).accepted pl)))) ∧
     (NoBad (eChecks f {} (f.imm != 0#17)) → (s.envAlone x (.slstat f)).foreignJob (x.es1 f) = false →
       s.Answers x (.slstat f) f id id (fun t => t.jobWord d (x.es1 f)) ∧
       (s.Answers x (.slkill f) f id
         (fun t => match t.jobOf d (x.es1 f) with | some j => t.endJob d j.serial .killed | none => t)
         fun t => t.jobWord d (x.es1 f))) ∧
     (NoBad (eChecks f { es1 := false } (decide (16 ≤ f.imm.toNat))) → ∀ (k : Nat) (st : Ctx → Stream), k = f.imm.toNat % 8 →
       (∀ y, st y = SMap.get {} y.f k) →
       (f.imm.toNat < 8 → s.Answers x (.stbind f) f id id fun t => match t.ctx s.cur with
         | some y => BitVec.ofNat 64 ((st y).buf.length * 256 + (if (st y).bound.isSome then 1 else 0))
         | none => 0#64) ∧
       (8 ≤ f.imm.toNat → s.Answers x (.stbind f) f id (fun t => t.modCtx s.cur fun y => { y with f := SMap.set {} y.f k {} }) fun t =>
         match t.ctx s.cur with | some y => BitVec.ofNat 64 (st y).buf.length | none => 0#64))) ∧
  (∀ (s : State) (x : Ctx) (f : EForm) (u p : Nat), s.Issues x → x.Guarded f.g → f.imm.toNat = 256 * u + p → p < 256 → u < 4 →
     (NoBad (eChecks f { ed := false } false) →
       (p < 8 → s.Clears x (.rmov f) f fun t =>
         t.modRiffle (ctxCluster s.cur) u fun r => { r with ports := SMap.set 0#64 r.ports (8 * s.cur + p) (x.es1 f) }) ∧
       (∀ (k : RKind) (o : ROp), 8 ≤ p → rkindOf p = some k →
         o = { ctx := s.cur, sup := x.sup, kind := k, trig := x.es1 f, token := f.token.toNat, after := s.heldWrites s.cur
               ports := ((List.range 8).foldl (fun (m : SMap W64) q =>
                 SMap.set 0#64 m q (SMap.get 0#64 (s.riffle (ctxCluster s.cur) u).ports (8 * s.cur + q))) []) } →
         o.misaligned = none → s.poisonIn (o.handleReads (ctxDie s.cur)) = none →
         (s.riffleCheck o ≠ 0 → s.Clears x (.rmov f) f fun t => (t.trigger (ctxCluster s.cur) u o).1) ∧
         (s.riffleCheck o = 0 → (s.riffle (ctxCluster s.cur) u).queue.length < 8 →
           s.Completes x (.rmov f) (some f.token.toNat) fun t => (t.trigger (ctxCluster s.cur) u o).1))) ∧
     (NoBad (eChecks f { es1 := false } false) → (p < 8 ∨ p = 0x20 ∨ p = 0x21) →
       s.Answers x (.rget f) f id id fun t => (t.riffle (ctxCluster s.cur) u).portValue s.cur p))

/-- R201 to R204, R460: EDSTASH, EDFETCH, EDFREE and EDQRY complete: a stash or a fetch that fails a check answers its status, and an accepted one
starts. Results at clearing are written in the order of issue, as log entry 30 reads R437 (DEDUCED). -/
def Obligations.EddyOps : Prop :=
  ∀ (s : State) (x : Ctx) (f : EForm) (d key : Nat), s.Issues x → x.Guarded f.g → d = ctxDie s.cur → key = keyOf (x.es1 f) →
    (NoBad (eChecks f {} (f.imm != 0#17)) → ∀ (rs : List Req) (bs : List Byte) (w : List W64),
      s.Operand x (.edstash f) (x.es1 f) 32 32 [8, 9] rs bs → w = (List.range 4).map (fun k => wordOf (bs.drop (8 * k))) →
      stashMisaligned w = none →
      ((w.getD 0 0#64).toNat % 2 ^ 20 = 0 ∨ s.poisonIn [(recAddr d ((w.getD 0 0#64).toNat % 2 ^ 20), 64)] = none) →
      (∀ st : Nat, s.stashStatus s.cur x.sup w = (st, none) →
        s.Answers x (.edstash f) f (fun t => t.fillAll (ctxCluster s.cur) rs) id fun _ => BitVec.ofNat 64 st) ∧
      (∀ (st : Nat) (n : Stash), s.stashStatus s.cur x.sup w = (st, some n) → n.state ≠ .dropped →
        s.Completes x (.edstash f) (some f.token.toNat) fun t =>
          ((t.fillAll (ctxCluster s.cur) rs).edstash s.cur f.token.toNat ((t.fillAll (ctxCluster s.cur) rs).die d).freePlace n).addFlight s.cur 2
            (.scalar (eDest f) 0#64)) ∧
      (∀ (st : Nat) (n : Stash), s.stashStatus s.cur x.sup w = (st, some n) → n.state = .dropped →
        s.Answers x (.edstash f) f (fun t => t.fillAll (ctxCluster s.cur) rs) (fun t => t.edstash s.cur f.token.toNat none n) fun _ => 0#64)) ∧
    (∀ (kind n : Nat) (l : Loc) (a : Option Attach), kind = f.imm.toNat % 4 → n = f.imm.toNat / 4 →
      NoBad (eChecks f { es2 := kind == 1 } false) → keyBad (x.es1 f) = false →
      (kind = 0 ∧ n = 0 ∧ a = none ∨ kind = 2 ∧ n < 8 ∧ a = some (.stream s.cur n) ∨
        kind = 1 ∧ n = 0 ∧ a = some (.barrier l) ∧ ((x.es2 f).toNat / 2 ^ 60 = 8 ∨ (x.es2 f).toNat / 2 ^ 60 = 9) ∧ (x.es2 f).toNat % 16 = 0 ∧
          (s.envAlone x (.edfetch f)).resolve { perm := .write } ⟨0, x.es2 f, 16⟩ = .ok l) →
      (∀ st : Nat, st = s.fetchStatus d key a → st ≠ 0 → s.Answers x (.edfetch f) f id id fun _ => BitVec.ofNat 64 st) ∧
      (s.fetchStatus d key a = 0 →
        s.Completes x (.edfetch f) (some f.token.toNat) fun t =>
          let r := t.edfetch d key s.cur (t.die d).freePlace a (some (s.cur, f.token.toNat))
          if r.2 then r.1.addFlight s.cur 2 (.scalar (eDest f) 0#64)
          else (r.1.expect s.cur [eDest f]).addFlight s.cur 2 (.reply f.token.toNat x.resultNo [(eDest f, 0#64)]))) ∧
    (f.imm = 0#17 → NoBad (eChecks f {} false) → keyBad (x.es1 f) = false →
      (s.stash d key = none → s.Answers x (.edfree f) f id id fun _ => 1#64) ∧
      (s.stash d key ≠ none → s.Expects x (.edfree f) f id fun t => t.edfree d key s.cur f.token.toNat (x.destOf f)) ∧
      s.Answers x (.edqry f) f id id fun t => t.eddyWord d key)

/-- R86, R89, R90, R461 to R463: CHSEND, CHRECV, CHREL and CHWIN complete: a send with an open window takes a credit, a receive joins the waiters of
its channel, a release frees its parcel, and the window word is read. Results at clearing are written in the order of issue, as log entry 30 reads
R437 (DEDUCED), and the replica that maps a handle source is the model's choice (log entry 77, DESIGN CHOICE). R94, R464, R465: OXRED and OXGATH
complete with a collective of their operation, or with status 1 for a descriptor that holds a reserved value. -/
def Obligations.ChannelAndCollectiveOps : Prop :=
  (∀ (s : State) (x : Ctx) (f : EForm) (n : Nat), s.Issues x → x.Guarded f.g → n = f.imm.toNat → n < 1536 →
     (NoBad (eChecks f {} false) → ∀ (rs : List Req) (bs : List Byte) (w : List W64), s.Operand x (.chsend f) (x.es1 f) 32 32 [8, 9] rs bs →
       w = (List.range 4).map (fun k => wordOf (bs.drop (8 * k))) → (sendSrck w = true ∨ (w.getD 0 0#64).toNat % 32 = 0) →
       (sendSrck w = false ∨ s.poisonIn [(recAddr (s.sendReplica n w) ((w.getD 1 0#64).toNat / 2 ^ 44), 64)] = none) →
       (∀ st : Nat, st = s.sendStatus n s.cur w → st ≠ 0 →
         s.Answers x (.chsend f) f (fun t => t.fillAll (ctxCluster s.cur) rs) (fun t => t.dropGrant n s.cur) fun _ => BitVec.ofNat 64 st) ∧
       (s.sendStatus n s.cur w = 0 → s.windowOpen n s.cur = true →
         s.Expects x (.chsend f) f (fun t => t.fillAll (ctxCluster s.cur) rs) fun t => t.takeCredit n s.cur x.sup f.token.toNat (x.destOf f) w)) ∧
     (NoBad (eChecks f { es1 := false, edPair := true } false) → ∀ both : List Dest, both = [.e f.ed.toNat, .e (f.ed.toNat + 1)] →
       (((s.chan n).state ≠ .recv ∨ (s.chan n).sink ≠ 0#2) →
         s.Completes x (.chrecv f) (some f.token.toNat) fun t => (t.expect s.cur both).addFlight s.cur 2
           (.reply f.token.toNat x.resultNo [(.e f.ed.toNat, 1#64), (.e (f.ed.toNat + 1), 0#64)])) ∧
       ((s.chan n).state = .recv → (s.chan n).sink = 0#2 → (s.chan n).recvs.length < 64 →
         s.Completes x (.chrecv f) (some f.token.toNat) fun t => (t.expect s.cur both).modChan n fun k =>
           { k with recvs := k.recvs ++ [⟨s.cur, f.token.toNat, x.destOf f⟩] })) ∧
     (NoBad (eChecks f {} false) →
       ((s.chan n).state ≠ .recv → s.Answers x (.chrel f) f id id fun _ => 1#64) ∧
       ((s.chan n).state = .recv → s.Expects x (.chrel f) f id fun t =>
         match t.release n ((x.es1 f).truncate 16) with
         | some r => r.1.addFlight s.cur 2 (.reply f.token.toNat x.resultNo [(eDest f, BitVec.ofNat 64 (r.2 * 256))])
         | none => t.addFlight s.cur 2 (.reply f.token.toNat x.resultNo [(eDest f, 6#64)]))) ∧
     (NoBad (eChecks f { es1 := false } false) → s.Answers x (.chwin f) f id id fun t => (t.chan n).word)) ∧
  (∀ (s : State) (x : Ctx) (f : EForm) (i : Instr) (op : Nat) (flag : W64) (rs : List Req) (bs : List Byte) (w : List W64),
     s.Issues x → x.Guarded f.g →
     (i = .oxred f ∧ op = f.imm.toNat ∧ flag = 0#64 ∧ f.imm.toNat < 2 ∧ NoBad (eChecks f {} false) ∨
       i = .oxgath f ∧ op = 2 ∧ flag = x.es2 f ∧ f.imm = 0#17 ∧ NoBad (eChecks f { es2 := true } false)) →
     s.Operand x i (x.es1 f) 32 32 [8, 9] rs bs → w = (List.range 4).map (fun k => wordOf (bs.drop (8 * k))) → collMisaligned w = none →
     (collBad op w = true → s.Answers x i f (fun t => t.fillAll (ctxCluster s.cur) rs) id fun _ => 1#64) ∧
     (collBad op w = false → s.Expects x i f (fun t => t.fillAll (ctxCluster s.cur) rs) fun t => t.oxIssue s.cur x.sup f.token.toNat (x.destOf f) op w flag))

/-- R147, R155, R466 to R468: WPOST, WRAISE, WARR and SPAWN complete: a post is on its way and its block is kept, a raise is applied, an arrival is on
its way to its queue, and a context starts on a free sequencer of the core. Results at clearing are written in the order of issue, as log entry 30
reads R437 (DEDUCED). -/
def Obligations.WeirOps : Prop :=
  ∀ (s : State) (x : Ctx) (f : EForm) (d : Nat), s.Issues x → x.Guarded f.g → d = ctxDie s.cur →
    (∀ l : Loc, (x.es1 f).toNat / 2 ^ 60 = 0 ∨ (x.es1 f).toNat / 2 ^ 60 = 9 → (x.es1 f).toNat % 32 = 0 →
      (s.envAlone x (.wpost f)).resolve { perm := .write } ⟨0, x.es1 f, 32⟩ = .ok l →
      (NoBad (eChecks f {} (f.imm != 0#17)) → (x.posts.length < 4 ∨ l ∈ x.posts) →
        s.Expects x (.wpost f) f id fun t =>
          (t.sendPost d l (some (s.cur, f.token.toNat, x.destOf f)) (t.heldWrites s.cur)).modCtx s.cur fun y =>
            if y.posts.contains l then y else { y with posts := y.posts ++ [l] }) ∧
      (NoBad (eChecks f { es2 := true } (f.imm != 0#17)) → s.blockReady d l (s.die d).vc = true → s.poisonIn (l.runs 32) = none → ∀ st : Nat,
        (s.applyRaise d l (x.posts.contains l) ((x.es2 f).toNat % 2 ^ 32)).2 = some st →
        s.Answers x (.wraise f) f id (fun t => (t.applyRaise d l false ((x.es2 f).toNat % 2 ^ 32)).1) fun _ => BitVec.ofNat 64 st)) ∧
    (NoBad (eChecks f { es2 := true, es2Pair := true } (f.imm != 0#17)) → ∀ w : Nat, w = (x.es1 f).toNat → w / 2 ^ 12 % 2 ^ 20 = 0 →
      w / 16 % 2 = 0 → (x.es2 f).toNat % 32 = 0 →
      ∃ a : State → Arrival, (s.Expects x (.warr f) f id fun t =>
          ({ t with nextId := t.nextId + 1 } : State).modDie (w / 2 ^ 10 % 4) fun y => { y with arrivals := y.arrivals ++ [a t] }) ∧
        ∀ t, (a t).stage = w / 2 ^ 7 % 8 ∧ (a t).queue = w / 2 ^ 5 % 4 ∧ (a t).ctx = s.cur ∧ (a t).token = f.token.toNat ∧
          (a t).dest = x.destOf f ∧ (a t).after = t.heldWrites s.cur ∧ (a t).clock = (t.die d).vc ∧ (a t).entry.tag = BitVec.ofNat 32 (w / 2 ^ 32) ∧
          (a t).entry.phase = w % 16 ∧ (a t).entry.dep = x.es2 f ∧ (a t).entry.lt = x.eReg (f.es2.toNat + 1)) ∧
    (∀ q c : Nat, NoBad (eChecks f { ed := false, es2 := true } false) → f.imm.toNat = q → q < partCtx (s.part s.cur) → f.es2.toNat ≤ 24 →
      f.q.getLsbD 0 = false → c = 4 * ctxCore s.cur + q → s.ctx c = none → s.reserved c = false →
      s.Completes x (.spawn f) (some f.token.toNat) fun t =>
        (t.spawn s.cur c ((x.es1 f).truncate 48) ((List.range 8).map fun i => x.eReg (f.es2.toNat + i))).reply s.cur f.token.toNat [])

/-- R46 to R48, R65 to R79, R469 to R471: the gauge, record and lease operations complete. Results at clearing are written in the order of issue, as
log entry 30 reads R437 (DEDUCED); the number of a lease, the bits above GNEW's headroom, what an ALLOC that cannot be read does, and the answer of
LEASE to an uncorrectable walk are the model's choices (log entries 62, 66, 76 and 82, DESIGN CHOICE). -/
def Obligations.GaugeAndLeaseOps : Prop :=
  ∀ (s : State) (x : Ctx) (f : EForm) (d : Nat), s.Issues x → x.Guarded f.g → d = ctxDie s.cur →
    (NoBad (eChecks f {} false) → grdValid f.imm.toNat = true → s.poisonIn (grdReads d ((x.es1 f).toNat % 65536) f.imm.toNat) = none →
      s.Answers x (.grd f) f id id fun t => t.grd d ((x.es1 f).toNat % 65536) f.imm.toNat) ∧
    (∀ (ty n z : Nat) (rs : List Req) (bs : List Byte), NoBad (eChecks f { ed := false, es2 := true } false) → f.imm.toNat < 1024 →
      ty = f.imm.toNat % 16 → n = f.imm.toNat / 16 + 1 → z = elemBytes ty → ty ∉ [4, 5, 6, 7, 14, 15] →
      s.gaugeAlloc d ((x.es1 f).toNat % 65536) = true → s.poisonIn (allocRead d ((x.es1 f).toNat % 65536)) = none →
      s.Operand x (.gupd f) (x.es2 f) (n * z) z [0, 8, 9] rs bs →
      s.Completes x (.gupd f) (some f.token.toNat) fun t =>
        let t := t.fillAll (ctxCluster s.cur) rs
        { t with
          gaugeQ := t.gaugeQ ++ (List.range (ceilDiv n (32 / z))).map fun b =>
            ({ die := d, g := (x.es1 f).toNat % 65536, token := some (s.cur, f.token.toNat, t.nextId)
               c := contribution ((List.range (min (32 / z) (n - 32 / z * b))).map fun k =>
                 valueOf ty (leNat ((bs.drop ((32 / z * b + k) * z)).take z))) } : GaugeUpd)
          nextId := t.nextId + 1 }) ∧
    (NoBad (eChecks f {} (f.imm != 0#17)) →
      (x.sup = true → s.Expects x (.gnew f) f id fun t =>
        let r := t.gnew s.cur f.token.toNat (x.destOf f) (x.es1 f)
        if r.2.2 then r.1.addFlight s.cur 2 (.reply f.token.toNat x.resultNo [(eDest f, r.2.1)]) else r.1) ∧
      (∀ (i : Instr) (rescale : Bool), (i, rescale) ∈ [(Instr.gseal f, false), (.grescale f, true)] → (rescale = false → x.sup = true) →
        s.poisonIn (allocRead d ((x.es1 f).toNat % 65536)) = none →
        s.Expects x i f id fun t =>
          let r := t.requestSeal s.cur f.token.toNat (x.destOf f) ((x.es1 f).toNat % 65536) rescale
          if r.2.2 then r.1.addFlight s.cur 2 (.reply f.token.toNat x.resultNo [(eDest f, r.2.1)]) else r.1) ∧
      ((x.es1 f).toNat < 64 → s.Expects x (.lrel f) f id fun t =>
        let r := t.releaseLease (x.es1 f).toNat
        r.1.addFlight s.cur 2 (.reply f.token.toNat x.resultNo [(eDest f, BitVec.ofNat 64 r.2)]))) ∧
    (x.sup = true → NoBad (eChecks f { es2 := true } (f.imm != 0#17)) → ∀ (rs : List Req) (bs : List Byte) (h st : Nat),
      s.Operand x (.recset f) (x.es2 f) 64 8 [0, 8, 9] rs bs → h = (x.es1 f).toNat % 2 ^ 20 → st = s.recStatus d h (recOf bs) →
      ((recOf bs).valid = true → (recOf bs).gmode ≠ 0 → s.poisonIn (allocRead d (recOf bs).gidx) = none) →
      (st ≠ 0 → s.Answers x (.recset f) f (fun t => t.fillAll (ctxCluster s.cur) rs) id fun _ => BitVec.ofNat 64 st) ∧
      (st = 0 → s.Expects x (.recset f) f (fun t => t.fillAll (ctxCluster s.cur) rs) fun t => t.requestRecord s.cur f.token.toNat (x.destOf f) h bs)) ∧
    (NoBad (eChecks f { es2 := true, es2Pair := true } (f.imm != 0#17)) →
      s.Expects x (.lease f) f id fun t =>
        let r := t.leaseStatus s.cur (x.es1 f).toNat (x.es2 f).toNat
        let n := t.freeLease.getD 0
        if r.1 ≠ 0 then t.addFlight s.cur 2 (.reply f.token.toNat x.resultNo [(eDest f, BitVec.ofNat 64 r.1)])
        else (t.newLease n (x.es1 f).toNat (x.es2 f).toNat (x.eReg (f.es2.toNat + 1)) r.2).addFlight s.cur 2
          (.reply f.token.toNat x.resultNo [(eDest f, BitVec.ofNat 64 (n * 256))]))

/-- R472, R473: ELI and ECPY complete with their result; TWAIT completes once the timebase has reached the value that its bundle first read, and waits
before: the first presentation reads it, and a later one goes by what was read. -/
def Obligations.EngineRegisterOps : Prop :=
  (∀ (s : State) (x : Ctx) (f : EForm), s.Issues x → x.Guarded f.g →
    (f.es1 = 0#5 → f.es2.toNat < 4 → f.token = 0#3 → f.q.toNat % 4 = 0 → (f.q = 4#3 → f.ed.toNat < 8) → ∀ old : W64,
      old = (if f.q = 4#3 then x.latch 7 f.ed.toNat else x.eReg f.ed.toNat) →
      ∃ v : W64, s.Yields x (.eli f) 1 (.scalar (if f.q = 4#3 then .latch 7 f.ed.toNat else .e f.ed.toNat) v) ∧
        ∀ i, i < 64 → v.getLsbD i =
          if 16 * f.es2.toNat ≤ i ∧ i < 16 * f.es2.toNat + 16 then f.imm.getLsbD (i - 16 * f.es2.toNat)
          else (f.imm.getLsbD 16 && old.getLsbD i)) ∧
    (∀ file r : Nat, NoBad (eChecks f { token := false } false) → f.q.getLsbD 2 = false → file = f.imm.toNat / 8192 →
      r = f.imm.toNat % 16 * 32 + f.ed.toNat →
      (file < 6 → f.imm.toNat % 8192 = f.imm.toNat % 16 → r < [64, 64, 32, 32, 16, 4].getD file 0 →
        s.Yields x (.ecpy f) 2 (.scalar ([Dest.a r, .b r, .d r, .e r, .m r, .j r].getD file (.a r)) (x.es1 f))) ∧
      (∀ lane : Nat, 6 ≤ file → file < 8 → f.imm.toNat % 8192 = 128 * lane + f.imm.toNat % 16 → r < partVreg (s.part s.cur) →
        s.Yields x (.ecpy f) 2 (.vector (.vreg (file == 7) r) (Vec.splat ((x.es1 f).truncate 32)) (1#64 <<< lane))) ∧
      (6 ≤ file → file < 8 → f.imm.toNat % 8192 = 64 + f.imm.toNat % 16 → r < partVreg (s.part s.cur) →
        s.Yields x (.ecpy f) 2 (.vector (.vreg (file == 7) r) (Vec.splat ((x.es1 f).truncate 32)) Mask.all))) ∧
    (NoBad (eChecks f { ed := false, token := false } (f.imm != 0#17)) →
      ∀ u y, u = s.modCtx s.cur (fun y => { y with loops := { y.loops with tw := some (x.pc, x.es1 f) } }) → u.ctx s.cur = some y →
      (s.timeReached (x.es1 f).toNat = true → exec (.twait f) s = .next (u.issued y (.twait f) none id)) ∧
      (s.timeReached (x.es1 f).toNat = false →
        exec (.twait f) s = .next ((u.leaveReady s.cur).modCtx s.cur fun y => { y with run := .waiting (.time (x.es1 f).toNat) })))) ∧
  ∀ (s : State) (x : Ctx) (f : EForm) (v : W64), s.Presents x → x.Guarded f.g → x.loops.arv = none → x.loops.tw = some (x.pc, v) →
    NoBad (eChecks f { ed := false, token := false } (f.imm != 0#17)) →
    (s.timeReached v.toNat = true → s.Completes x (.twait f) none id) ∧
    (s.timeReached v.toNat = false →
      exec (.twait f) s = .next ((s.leaveReady s.cur).modCtx s.cur fun y => { y with run := .waiting (.time v.toNat) }))

/-! ### The module (files 01, 02) -/

/-- R1, R9, R17, R25, R26, R29: losing power leaves THCOUNT and the fused keys; applying it starts the timebase at 0 in WARM_STANDBY with the band of
reset, WARM; a sample records its time, the warmest valid junction reading and its sensor. That the time starts at 0 is the model's choice (log entry
5, DESIGN CHOICE), and what is lost with power is read as log entry 48 says (DEDUCED). Of equal sensors the lowest is named, the model's choice (log
entry 75, DESIGN CHOICE). -/
def Obligations.PowerAndSamples : Prop :=
  ∀ (s : State) (j m : List Reading), j.length = 48 → m.length = 9 →
    (∃ t, exec .powerLost s = .next t ∧ t.thermal.state = .off ∧ t.thermal.faults = s.thermal.faults ∧ t.thermal.holds = s.thermal.holds ∧
      t.thermal.cycles = s.thermal.cycles ∧ t.home = [] ∧ t.dies = [] ∧ t.ctxs = [] ∧ t.mbox = {} ∧ t.hostMem = s.hostMem ∧ t.imageKeys = s.imageKeys) ∧
    (s.thermal.state = .off →
      ∃ t, exec (.powerApplied j m) s = .next t ∧ t.thermal.state = .warmStandby ∧ t.time = 0 ∧ t.thermal.sampledAt = some 0 ∧
        t.thermal.faults = s.thermal.faults ∧ t.thermal.band = .warm ∧
        ∀ tj n, warmest j = some (tj, n) → t.thermal.tj = BitVec.ofNat 16 tj ∧ t.thermal.tjSensor = BitVec.ofNat 6 n) ∧
    (s.thermal.state ≠ .off → tooSoon s.thermal.sampledAt 10000 s.time = false → badDie j = none → ∀ tj n, warmest j = some (tj, n) →
      ∃ t, exec (.thermalSample j m) s = .next t ∧ t.thermal.sampledAt = some s.time ∧ t.thermal.tj = BitVec.ofNat 16 tj ∧
        t.thermal.tjSensor = BitVec.ofNat 6 n ∧ t.thermal.lastTj = (tj :: s.thermal.lastTj).take 2 ∧ t.thermal.band = s.thermal.band)

/-- R10 to R12, R17 to R20: two samples above 85 K take a running module from the COLD band to RETREAT with its state; the refresh rate and the timing
set follow 200 ticks later, and the clock switches at the next multiple of 1,000 ticks at least 500 later; two samples 3 K below it bring the module
back after a millisecond; refresh stops 64 s after the band was entered. That THSTAT shows the old refresh rate and set until the switch is the
reading of log entry 41 (DEDUCED). -/
def Obligations.BandsAndClock : Prop :=
  ∀ s : State,
    (∀ x y : Nat, s.thermal.state = .run → s.thermal.band = .cold → s.sequenceRuns = false → s.mbox.running = none → s.thermal.lastTj = [x, y] →
      1360 < x → 1360 < y →
      ∃ t, exec .bandDecision s = .next t ∧ t.thermal.state = .retreat ∧ t.thermal.band = .retreat ∧ t.thermal.bandSince = s.time ∧
        t.thermal.applyAt = some (s.time + 200) ∧ t.thermal.switchAt = some (switchTick s.time, true) ∧ t.thermal.refrate = s.thermal.refrate) ∧
    (∀ x y : Nat, s.thermal.state = .retreat → s.thermal.band = .retreat → s.sequenceRuns = false → s.mbox.running = none →
      s.thermal.lastTj = [x, y] → x + 48 ≤ 1360 → y + 48 ≤ 1360 → s.thermal.bandSince + 1000000 ≤ s.time →
      ∃ t, exec .bandDecision s = .next t ∧ t.thermal.state = .run ∧ t.thermal.band = .cold ∧ t.thermal.applyAt = some (s.time + 200) ∧
        t.thermal.switchAt = some (switchTick s.time, false) ∧ t.thermal.coldSince = some s.time) ∧
    (∀ n : Nat, s.thermal.applyAt = some n → n ≤ s.time → s.applyDue.thermal.applyAt = none ∧
      (s.thermal.band = .retreat → s.applyDue.thermal.tset = 1#2 ∧
        s.applyDue.thermal.refrate = BitVec.ofNat 3 (1 + stepsAbove s.thermal.tj.toNat)) ∧
      (s.thermal.band = .cold → s.applyDue.thermal.tset = 0#2 ∧
        (s.thermal.coldSince = some (n - 200) → s.time ≤ n - 200 + 64 * second → s.applyDue.thermal.refrate = 1#3))) ∧
    (∀ (n : Nat) (low : Bool), s.thermal.switchAt = some (n, low) → n ≤ s.time →
      ∃ t, exec .switchTick s = .next t ∧ t.thermal = { s.thermal with clklow := low, switchAt := none }) ∧
    (∀ n : Nat, s.thermal.coldSince = some n → s.thermal.band = .cold → s.thermal.state = .run → n + 64 * second < s.time →
      ∃ t, exec .coldRefreshExpiry s = .next t ∧ t.thermal = { s.thermal with refrate := 0#3, coldSince := none }) ∧
    (s.time + 500 ≤ switchTick s.time ∧ switchTick s.time < s.time + 1500 ∧ switchTick s.time % 1000 = 0)

/-- R15, R16: the rate check records its time and the spread of the substrate; the coolant line is taken with its time; a loss of 5 s holds a running
module, a loss of 65 s is FAULT with cause 4 and ends the session, once in a low period (log entry 21), and the return of the coolant for 10 s ends a
HOLD that no command keeps. That the 5 s and the 65 s run from the change of the line is the reading of log entry 43 (DEDUCED). -/
def Obligations.RateAndCoolant : Prop :=
  ∀ s : State,
    (s.thermal.state = .warmStandby → s.thermal.sampledAt ≠ none → tooSoon s.thermal.ratedAt second s.time = false →
      validTemps (s.thermal.subs.map (·.2)) ≠ [] →
      ∃ t, exec .rateGradientCheck s = .next t ∧ t.thermal.ratedAt = some s.time ∧
        t.thermal.grad = BitVec.ofNat 16 (spread (validTemps (s.thermal.subs.map (·.2)))) ∧ t.thermal.state = .warmStandby) ∧
    (∀ level : Bool, s.thermal.state ≠ .off → s.thermal.coolantOk ≠ level →
      ∃ t, exec (.coolantOkChange level) s = .next t ∧ t.thermal.coolantOk = level ∧ t.thermal.coolantSince = s.time ∧
        (level = false → t.thermal.evt.getLsbD 4 = true)) ∧
    (s.thermal.state = .run → s.sequenceRuns = false → s.mbox.running = none → s.thermal.coolantOk = false →
      s.thermal.coolantSince + 5 * second ≤ s.time →
      ∃ t, exec .coolantLossHold s = .next t ∧ t.thermal.state = .hold) ∧
    (s.thermal.state = .hold → s.thermal.coolantOk = false → s.thermal.coolantTaken = false → s.thermal.coolantSince + 65 * second ≤ s.time →
      ∃ t, exec .coolantLossFault s = .next t ∧ t.thermal.state = .fault ∧ t.thermal.fcause = 4#8 ∧ t.ctxs = [] ∧ t.dies = [] ∧
        t.thermal.coolantTaken = true) ∧
    (s.thermal.state = .hold → s.sequenceRuns = false → s.mbox.running = none → s.thermal.cmdhold = false → s.thermal.band = .cold → s.sess.state ≠ .suspended → s.thermal.coolantOk = true →
      s.thermal.coolantSince + 10 * second ≤ s.time →
      ∃ t, exec .coolantRestoredExit s = .next t ∧ t.thermal.state = .coldReady)

/-- R12 to R14, R31, R32, R43, R57, R58: a controller does one thing a cycle: it serves the oldest request of a bank, refreshes, scrubs, saves power
or takes a timing set; the memory-side cache serves a sector, and a read that misses asks the DRAM for it. That a scrub of any sector of a row counts
for the row is the reading of log entry 53 (DEDUCED), and self-refresh by the state HOLD alone the model's choice (log entry 63, DESIGN CHOICE). R50,
R51: a handle request of the supervisor for a tile of a valid record completes with the image that the layout unit reads, by the record's replica of
the die that the layout unit is attached to, which for a tile of several units is that of its first element, the model's choice (log entry 77, DESIGN
CHOICE). -/
def Obligations.MemoryControllersAndHandles : Prop :=
  (∀ (s : State) (n : Nat) (x : DramChan), s.thermal.state = .run → n < numChannels → x = s.dramChan n → x.actedAt ≠ some s.time →
     (∀ sector : Nat, 32 * sector < holeBase → channelOf (32 * sector) = n → sector ∉ s.poison →
       (∀ (write : Bool) (pre post : List DramReq), x.queue = pre ++ ⟨sector, write⟩ :: post →
         (∀ r ∈ pre, bankOf (32 * r.sector) ≠ bankOf (32 * sector)) → x.postponed ≠ 8 → s.urgentChannel n = false →
         ∃ t, exec (.dramReadWrite n sector write .clean) s = .next t ∧ t.thermal = s.thermal ∧
           t.dramChan n = { x with queue := pre ++ post, powerDown := false, selfRefresh := false, lastReq := s.time, actedAt := some s.time }) ∧
       (s.thermal.band ≠ .warm → x.queue = [] → x.postponed ≠ 8 → s.urgentChannel n = false →
         (∃ t, exec (.patrolScrubAccess n sector (s.scrubUrgent (rowKey (32 * sector))) false .corrected) s = .next t ∧ SMap.get 0 t.scrubbed (rowKey (32 * sector)) = s.time ∧
           (s.thermal.dramce ≠ 0xFFFF#16 → t.thermal.dramce = s.thermal.dramce + 1)) ∧
         (∃ t, exec (.patrolScrubAccess n sector (s.scrubUrgent (rowKey (32 * sector))) false .uncorrectable) s = .next t ∧ sector ∈ t.poison ∧ t.thermal.evt.getLsbD 7 = true)) ∧
       (∀ kind : LlcKind, s.makeRoom (sector / 4) ≠ none →
         ∃ t, exec (.llcAccess sector kind .clean) s = .next t ∧ ((t.line (sector / 4)).valid.getLsbD (sector % 4) = true) ∧
           (kind ≠ .read → (t.line (sector / 4)).dirty.getLsbD (sector % 4) = true) ∧ t.home = s.home ∧
           (s.llc.length < 16 → kind ≠ .writeWhole → (s.line (sector / 4)).valid.getLsbD (sector % 4) = false →
             (t.dramChan n).queue = x.queue ++ [⟨sector, false⟩]))) ∧
     (x.selfRefresh = false →
       (x.queue = [] → s.urgentChannel n = false → x.postponed ≠ 0 →
         ∃ t, exec (.refresh n false) s = .next t ∧ (t.dramChan n).postponed = x.postponed - 1) ∧
       (x.refrate ≠ 0#3 → x.queue ≠ [] → x.postponed < 8 → ∃ t, exec (.refresh n true) s = .next t ∧ (t.dramChan n).postponed = x.postponed + 1) ∧
       ((if x.queue = [] then s.thermal.refrate else x.refrate) ≠ 0#3 → x.postponed = 8 →
         ∃ t, exec (.refresh n true) s = .next t ∧ (t.dramChan n).postponed = 8 ∧ (t.dramChan n).actedAt = some s.time) ∧
       (x.queue = [] → s.thermal.refrate = 0#3 →
         ∃ t, exec (.refresh n true) s = .next t ∧ t.dramChan n = { x with refrate := 0#3 })) ∧
     (s.thermal.band = .cold → x.queue = [] → x.lastReq + 64 < s.time → x.postponed = 0 → s.urgentChannel n = false →
       (∃ t, exec (.powerDownEntry n false) s = .next t ∧ (t.dramChan n).powerDown = true) ∧ exec (.powerDownEntry n true) s = .next s) ∧
     (∃ t, exec (.timingSetSwitch n) s = .next t ∧ (t.dramChan n).tset = s.thermal.tset ∧ (t.dramChan n).refrate = s.thermal.refrate) ∧
     (∀ u : State, u.thermal.state = .hold → (u.dramChan n).actedAt ≠ some u.time → (u.dramChan n).queue = [] →
       (u.dramChan n).lastReq + 1024 < u.time → (u.dramChan n).postponed = 0 → u.urgentChannel n = false →
       (∃ t, exec (.selfRefreshEntry n false) u = .next t ∧ (t.dramChan n).selfRefresh = true ∧ (t.dramChan n).powerDown = false) ∧
         exec (.selfRefreshEntry n true) u = .next u)) ∧
  (∀ (s : State) (die handle : Nat) (coord shape : Quad4) (t : Tile4) (bs : List Byte), s.powered = true → die < 4 →
     s.poisonIn (s.layoutReads die handle coord shape) = none →
     t = { r := recOf (s.layoutBytes die handle coord shape), coord := coord, shape := shape } → t.r.valid = true → t.count ≠ 0 →
     t.count * t.r.imageWidth ≤ 524288 →
     s.readImage { die := die, core := 0, cluster := 72 * die, sup := true } t 0 t.bytes = .ok bs →
     ∃ u, exec (.handleRequest die handle coord shape true false []) s = .next u ∧ u.handleImage = bs ∧ u.home = s.home)

/-- R34, R35: no agent issues an access to the hole; a schedule that names one stops the machine by name. The stop itself is the model's reading of
these rules (log entry 56, DEDUCED). -/
def Obligations.HoleStops : Prop :=
  ∀ (s : State) (n sector : Nat) (kind : LlcKind) (write urgent request : Bool) (ecc : Ecc), holeBase ≤ 32 * sector → 32 * sector < hostBase →
    exec (.dramReadWrite n sector write ecc) s = .fault (.hole (32 * sector)) ∧
    exec (.patrolScrubAccess n sector urgent request ecc) s = .fault (.hole (32 * sector)) ∧
    exec (.llcAccess sector kind ecc) s = .fault (.hole (32 * sector))

/-! ### Memory in the background, gauges, records and leases (files 02, 03, 10) -/

/-- R251, R252: a write of a die takes the next place in coherence order, and its bytes are then the newest at their home; a write that the clock of
another die allows is applied there, except where a later one stands already. -/
def Obligations.CoherenceSteps : Prop :=
  ∀ (s : State) (w : GWrite), (s.writes.find? fun v => v.id == w.id) = some w →
    (w.place = none → (∀ v ∈ s.writes, v.die = w.die → v.id < w.id → v.place ≠ none ∨ v.overlaps w = false) →
      ∃ t, exec (.coherencePlacement w.id) s = .next t ∧ t.home = writeParts s.home w.addr w.data w.skip ∧ t.nextPlace = s.nextPlace + 1 ∧
        t.dies = s.dies ∧ t.ctxs = s.ctxs) ∧
    (∀ d : Nat, d < 4 → w.applicable d (s.die d).vc = true → s.writeWaits = [] → s.oxEast.queue = [] → s.oxWest.queue = [] →
      ∃ t, exec (.remoteWriteApply w.id d) s = .next t ∧ (t.die d).vc = (s.die d).vc.set w.die (w.clock.get w.die) ∧ t.home = s.home ∧
        (∀ k b, w.data[k]? = some b → Mem.byte (t.die d).view (w.addr + k) =
          if k ∈ w.skip ∨ s.newerAt d w (w.addr + k) = true then Mem.byte (s.die d).view (w.addr + k) else b) ∧
        ∀ a, a < w.addr ∨ w.addr + w.data.length ≤ a → Mem.byte (t.die d).view a = Mem.byte (s.die d).view a)

/-- R249, R254, R344, R437: a pending load of one element completes with the bytes that stand at its place, in its register, and its token falls; a
pending atomic of one element reads the newest bytes at their home and leaves the result of its operation there; a posted write reaches host memory.
-/
def Obligations.PendingAccessesComplete : Prop :=
  ∀ (s : State) (id : Nat) (a : Access) (e : Elem), SMap.get none s.accesses id = some a → s.depsDone a = true → a.elems = [e] → e.got = none →
    s.poisonOf a = none →
    (∀ (x : Ctx) (reg core off : Nat), a.kind = .load → a.form = .plain → a.dest = .scalar 0 reg none → s.destHeld id a = false →
      e.loc = .spad core off → s.ctx a.ctx = some x →
      ∃ t y, exec (.memoryAccessComplete id [] .clean) s = .next t ∧ t.ctx a.ctx = some y ∧
        SMap.get 0#64 y.a reg = BitVec.ofNat 64 (leNat (Mem.read (s.core core).spad off e.size)) ∧
        y.tokCount a.token = x.tokCount a.token - 1 ∧ SMap.get none t.accesses id = none ∧ t.cores = s.cores) ∧
    (∀ (k : AtomKind) (x old : W64) (pa : Nat), a.kind = .atomic k x → e.loc = .global pa → isHost pa = false → (∀ v ∈ s.writes, v.id < s.nextWrite) →
      (∀ v ∈ s.writes, v.die = ctxDie a.ctx → v.place ≠ none) → old = BitVec.ofNat 64 (leNat (Mem.read s.home pa e.size)) →
      ∃ t, exec (.atomicAtHome id []) s = .next t ∧ t.home = Mem.write s.home pa (toBytes e.size (atomOp k e.size old e.data x).toNat) ∧
        t.nextPlace = s.nextPlace + 1 ∧ t.dies = s.dies ∧
        SMap.get none t.accesses id = some { a with elems := [{ e with got := some old, write := some s.nextWrite }] }) ∧
    (∀ q : HostReq, s.hostReqs = [q] → (s.port hostPort).up = true →
      ∃ t, exec (.hostRequestCompletion q.id) s = .next t ∧ t.hostMem = Mem.write s.hostMem q.addr q.data ∧ t.hostReqs = [])

/-- R48, R282, R473: a walk fills the translation buffers of its die and of its cluster, which are kept as log entry 12 (DEDUCED) reads R282; a
context whose time has come is ready, as the youngest; a lease past its deadline expires, and its lines are pinned no longer. -/
def Obligations.WalksWaitsAndLeases : Prop :=
  ∀ s : State,
    (∀ (cl page : Nat) (e : TlbEntry), cl < 288 → (∀ g ∈ (s.cluster cl).tlb, g.holds (page * 65536) = false) →
      (∀ g ∈ (s.die (clusterDie cl)).tlb, g.holds (page * 65536) = false) → s.walk (clusterDie cl) (page * 65536) = .entry e →
      ∃ t, exec (.tlbWalkComplete cl page) s = .next t ∧ e ∈ (t.cluster cl).tlb ∧ e ∈ (t.die (clusterDie cl)).tlb ∧ t.home = s.home ∧
        t.ctxs = s.ctxs ∧ ((s.cluster cl).tlb.length < 512 → (t.cluster cl).tlb = e :: (s.cluster cl).tlb)) ∧
    (∀ (c n : Nat) (x : Ctx), s.ctx c = some x → x.run = .waiting (.time n) → s.timeReached n = true →
      ∃ t, exec (.twaitExpiry c) s = .next t ∧ s.OnlyCtx { t with nextAge := s.nextAge } c ∧
        t.ctx c = some { x with run := .ready, age := s.nextAge } ∧ t.nextAge = s.nextAge + 1) ∧
    (∀ (n : Nat) (l : Lease), l = SMap.get {} s.leases n → l.state = .active → l.ldead ≠ 0#64 → s.timeReached l.ldead.toNat = true →
      ∃ t, exec (.leaseExpiry n) s = .next t ∧ SMap.get {} t.leases n = { l with state := .expired } ∧
        (∀ k, k ≠ n → SMap.get {} t.leases k = SMap.get {} s.leases k) ∧
        (SMap.wf {} s.llc = true → ∀ k, t.line k = if (s.line k).pinned = true ∧ inPages l.pages (k / 32) = true then { s.line k with pinned := false } else s.line k))

/-- R66, R72, R75, R79: a sector's contribution is merged into the live maximum, the count and the bins of its shard; a seal or a rescale writes the
sealed fields of the four shards at their homes in one action, as log entry 35 (DEDUCED) reads R75, and a seal resets the live ones; a record reaches
the replica of a die, a write of the issuer's die; and a token clears with its result once the writes that it waits for have been applied at all four
dies. Data that is not poisoned is claimed: what uncorrectable data does is log entry 76. -/
def Obligations.GaugeEvents : Prop :=
  ∀ s : State, (∀ w ∈ s.writes, w.id < s.nextWrite) →
    (∀ (n : Nat) (u : GaugeUpd), s.gaugeQ[n]? = some u → s.poisonIn (sectorReads u.die u.g) = none →
      ∃ t, exec (.gaugeSectorUpdate n) s = .next t ∧ t.gaugeQ = s.gaugeQ.eraseIdx n ∧
        t.gaugeHome u.die u.g 0x80 = max (s.gaugeHome u.die u.g 0x80) u.c.mx % 2 ^ 32 ∧
        t.gaugeHome u.die u.g 0x84 = satAdd32 (s.gaugeHome u.die u.g 0x84) u.c.nf ∧
        (∀ b, b < 32 → t.gaugeHome u.die u.g (4 * b) = satAdd32 (s.gaugeHome u.die u.g (4 * b)) (SMap.get 0 u.c.h b)) ∧
        ((∀ b, b < 32 → s.gaugeHome u.die u.g (4 * b) + SMap.get 0 u.c.h b < 2 ^ 32) → t.gaugeHome u.die u.g 0xA0 = s.gaugeHome u.die u.g 0xA0) ∧
        ((∃ b, b < 32 ∧ 2 ^ 32 ≤ s.gaugeHome u.die u.g (4 * b) + SMap.get 0 u.c.h b) →
          t.gaugeHome u.die u.g 0xA0 = s.gaugeHome u.die u.g 0xA0 ||| 2) ∧
        (u.token = none → t.ctxs = s.ctxs) ∧
        ∀ c k i x, u.token = some (c, k, i) → s.ctx c = some x → (∀ v ∈ s.gaugeQ.eraseIdx n, ∀ a b, v.token ≠ some (a, b, i)) →
          ∃ y, t.ctx c = some y ∧ y.tokCount k = x.tokCount k - 1) ∧
    (∀ (r : SealReq) (i : Instr), (s.seals.find? fun q => q.id == r.id) = some r → r.g < 65536 → (s.die 0).vc.covers r.clock = true →
      s.poisonIn (shardReads r.g 0 0xC8) = none →
      (i = .gaugeSeal r.id ∧ r.rescale = false ∨ i = .gaugeRescale r.id ∧ r.rescale = true) → s.writeWaits = [] →
      ∃ t, exec i s = .next t ∧ t.seals = s.seals.filter (fun q => q.id != r.id) ∧
        t.home = (s.sealWrites r.g r.rescale (r.reply.isNone && !s.deferring r.g)).foldl (fun m w => Mem.write m w.1 w.2) s.home ∧
        ∀ d, d < 4 → t.gaugeHome d r.g 0x88 = (mergeLive (s.liveHome r.g)).mx ∧ t.gaugeHome d r.g 0x8C = (mergeLive (s.liveHome r.g)).nf ∧
          t.gaugeHome d r.g 0x94 = (s.epochHome r.g + 1) % 2 ^ 32 ∧ t.gaugeHome d r.g 0x98 = s.gaugeHome 0 r.g 0x90 ∧
          (r.rescale = false → t.gaugeHome d r.g 0x80 = 0 ∧ t.gaugeHome d r.g 0x84 = 0) ∧
          (r.rescale = true → t.gaugeHome d r.g 0x80 = s.gaugeHome d r.g 0x80 ∧ t.gaugeHome d r.g 0x84 = s.gaugeHome d r.g 0x84)) ∧
    (∀ (r : RecReq) (d : Nat), (s.recReqs.find? fun q => q.id == r.id) = some r → d < 4 → d ∉ r.done →
      ∃ t, exec (.recordReplicaWrite r.id d) s = .next t ∧ t.home = Mem.write s.home (recAddr d r.handle) r.image ∧
        Mem.read (t.die (ctxDie r.reply.1)).view (recAddr d r.handle) r.image.length = r.image ∧ t.ctxs = s.ctxs ∧
        (r.done.length < 3 → (t.recReqs.find? fun q => q.id == r.id) = some { r with done := d :: r.done, ids := s.nextWrite :: r.ids }) ∧
        (3 ≤ r.done.length → s.writeWaits = [] → (t.recReqs.find? fun q => q.id == r.id) = none ∧
          t.writeWaits = [{ ids := s.nextWrite :: r.ids, reply := some (r.reply.1, r.reply.2.1, r.reply.2.2, 0#64) }])) ∧
    (∀ (w : WriteWait) (c k n : Nat) (v : W64) (x : Ctx), s.writeWaits = [w] → w.reply = some (c, k, n, v) → w.steps = [] → s.ctx c = some x →
      n % 64 < 32 → x.AwaitsOnly n [.e (n % 64)] →
      (w.ids.all s.reached = false → s.settleWaits = s) ∧
      (w.ids.all s.reached = true → s.settleWaits.writeWaits = [] ∧
        ∃ y, s.settleWaits.ctx c = some y ∧ SMap.get 0#64 y.e (n % 64) = v ∧ y.tokCount k = x.tokCount k - 1))

/-! ### Links (file 04) -/

/-- R80, R81, R92, R93: a port that goes down queues what it sends and reports itself; it comes up with the configuration of its enabled ends and then
the queued traffic; the master sends its time on every Braid port that is up, and a follower steps once and then slews. The delay of the link is a
constant of the model (log entry 58, DESIGN CHOICE), and that a follower which enters during a session steps then too, forward, is its choice (log
entry 78, DESIGN CHOICE). -/
def Obligations.PortsAndTimebase : Prop :=
  ∀ (s : State) (p : Nat),
    (p ≤ 8 → (s.port p).up = true →
      ∃ t, exec (.portDown p) s = .next t ∧ (t.port p).up = false ∧
        (p ≠ hostPort → (t.port p).queue = (s.port p).queue ∧ ((s.port hostPort).up = true → Out.msix 4 ∈ t.out)) ∧
        (p = hostPort → (t.port p).queue = (s.port p).queue ++ [.msix 4, .msix 3]) ∧
        t.logCount = s.logCount + 1 ∧ ∃ e ∈ t.log, e.kind = 4#16 ∧ e.code = BitVec.ofNat 32 p ∧ e.time = BitVec.ofNat 64 s.time) ∧
    (p ≤ 8 → (s.port p).up = false → (p = hostPort ∨ s.thermal.state ≠ .hold ∧ (s.port hostPort).up = true) →
      ∃ t, exec (.portUp p) s = .next t ∧ (t.port p).up = true ∧ (t.port p).queue = [] ∧ t.chans = s.chans ∧
        ∃ cfg, t.out = s.out ++ [.msix 4] ++ cfg ++ (s.port p).queue.map (Out.stamped s.time) ∧
          (∀ n, n < 1536 → chanPort n = p → (s.chan n).state ≠ .idle →
            Out.config n ((s.chan n).nparc.zeroExtend 12) (s.chan n).psize (BitVec.ofNat 3 (s.chan n).state.code) ∈ cfg) ∧
          (SMap.wf {} s.chans = true → ∀ o ∈ cfg, ∃ n, chanPort n = p ∧ (s.chan n).state ≠ .idle ∧
            o = .config n ((s.chan n).nparc.zeroExtend 12) (s.chan n).psize (BitVec.ofNat 3 (s.chan n).state.code))) ∧
    (s.tbctl.role = 1#2 → s.time % 1024 = 0 →
      ∃ t, exec .timeFlitSend s = .next t ∧ t.time = s.time ∧ ∀ q, q < 6 → (s.port q).up = true → Out.time q s.ticks ∈ t.out) ∧
    (∀ v w : Nat, w = s.time - s.ticks + v + Config.linkDelay p → s.tbctl.role = 2#2 → p < 6 → s.tbctl.upport.toNat = p → (s.port p).up = true →
      ∃ t, exec (.timeFlitReceive p v) s = .next t ∧
        (t.tbctl.locked = true ↔ w ≤ s.time + 2 ∧ s.time ≤ w + 2) ∧
        (s.tbctl.stepped = false → t.tbctl.stepped = true ∧
          t.time = if s.sess.state = .none ∨ s.sess.state = .loaded then w else max s.time w) ∧
        (s.tbctl.stepped = true → s.tbctl.slewed + 1024 ≤ s.time →
          (s.time < w → t.time = s.time + 1) ∧ (w < s.time → t.time = s.time ∧ t.tbctl.again = true ∧ (t.tick 1).time = s.time)))

/-- R82 to R85: an end is enabled with the fields of the write, or is MISCONF where NPARC is out of range, and its configuration is sent; a disabled
end is idle and forgets its waits; the peer's configuration gives a matched sender its credits, or makes the end MISCONF. -/
def Obligations.ChannelEnds : Prop :=
  ∀ (s : State) (n : Nat), n < 1536 →
    (∀ (base : W64) (ctl : W32) (np : Nat), np = bits ctl 23 16 → (s.chan n).state = .idle →
      ((bits ctl 1 0 = 1 ∨ bits ctl 1 0 = 2) → (np = 0 ∨ 64 < np) →
        ∃ t, exec (.channelEnable n base ctl) s = .next t ∧ (t.chan n).state = .misconf ∧ (t.chan n).matched = false) ∧
      (bits ctl 1 0 = 1 → 1 ≤ np → np ≤ 64 → (s.chan n).peer = none →
        ∃ t, exec (.channelEnable n base ctl) s = .next t ∧ (t.chan n).state = .send ∧ (t.chan n).matched = false ∧
          (t.chan n).nparc.toNat = np ∧ (t.chan n).psize.toNat = bits ctl 15 12 ∧ (t.chan n).seq = 0#16 ∧ (t.chan n).pcount = 0#64 ∧
          ((s.port (chanPort n)).up = true → Out.config n ((t.chan n).nparc.zeroExtend 12) (t.chan n).psize 1#3 ∈ t.out))) ∧
    ((s.chan n).state ≠ .idle →
      ∃ t, exec (.channelDisable n) s = .next t ∧ (t.chan n).state = .idle ∧ (t.chan n).recvs = [] ∧ (t.chan n).waiters = [] ∧
        (t.chan n).credits = 0 ∧ (t.chan n).bufbase = (s.chan n).bufbase) ∧
    (∀ (np : BitVec 12) (ps : BitVec 4), (s.port (chanPort n)).up = true → (s.chan n).state = .send → (s.chan n).matched = false →
      (s.chan n).waiters = [] →
      ∃ t, exec (.configFlitReceive n np ps 2#3) s = .next t ∧
        (np = (s.chan n).nparc.zeroExtend 12 ∧ ps = (s.chan n).psize →
          (t.chan n).matched = true ∧ (t.chan n).credits = (s.chan n).nparc.toNat) ∧
        (np ≠ (s.chan n).nparc.zeroExtend 12 ∨ ps ≠ (s.chan n).psize → (t.chan n).state = .misconf))

/-- R83 to R91: a header takes the next slot of a receiving end, a data flit the next sector of the parcel that arrives, a whole parcel goes to the
receive that waits or to the queue that its end names; a credit comes back up to NPARC; a send leaves at its time, its header first, with the words of
its descriptor. That the slot follows the count of parcels past a wrap of SEQ is the model's choice (log entry 64, DESIGN CHOICE). -/
def Obligations.ParcelsAndCredits : Prop :=
  ∀ (s : State) (n : Nat), n < 1536 → (s.port (chanPort n)).up = true →
    (∀ (h : FlitHeader) (k : Nat), k = (s.chan n).psize.toNat + 1 →
      (h.kind = 1#4 → (s.chan n).state = .recv →
        ∃ t, exec (.parcelHeaderReceive n h) s = .next t ∧ (t.chan n).seq = h.seq + 1 ∧ (t.chan n).pcount = (s.chan n).pcount + 1 ∧
          (t.chan n).parcels = (s.chan n).parcels ++
            [{ hdr := h, slot := ((s.chan n).pages.drop ((s.chan n).parcelNo h.seq % (s.chan n).nparc.toNat * k)).take k }]) ∧
      ((h.kind = 1#4 ∧ (s.chan n).state ≠ .recv ∨ h.kind ∉ [1#4, 2#4, 3#4]) →
        ∃ t, exec (.parcelHeaderReceive n h) s = .next t ∧ (t.port (chanPort n)).errors = (s.port (chanPort n)).errors + 1 ∧ t.chans = s.chans)) ∧
    (∀ (p : Parcel) (bs : List Byte) (page : Nat), (s.chan n).parcels = [p] → bs.length = 32 → p.got < p.hdr.len.toNat → p.dropped = false →
      p.slot[p.got / 128]? = some page → page % 4096 = 0 → page + 4096 ≤ hostBase →
      ∃ t, exec (.dataFlitReceive n bs) s = .next t ∧ (t.chan n).parcels = [{ p with got := p.got + 1, clock := (t.die (chanDie n)).vc }] ∧
        Mem.read (t.die (chanDie n)).view (page + p.got % 128 * 32) 32 = bs) ∧
    (∀ p : Parcel, (s.chan n).parcels = [p] → (s.chan n).state = .recv → p.held = true → p.delivered = false →
      (∀ (r : RecvWait) (x : Ctx), (s.chan n).sink = 0#2 → (s.chan n).recvs = [r] → s.ctx r.ctx = some x →
        x.AwaitsOnly r.ed [.e (r.ed % 64), .e (r.ed % 64 + 1)] → (s.die (ctxDie r.ctx)).vc.covers p.clock = true →
        ∃ t y, exec (.parcelDelivery n) s = .next t ∧ t.ctx r.ctx = some y ∧ (t.chan n).recvs = [] ∧
          SMap.get 0#64 y.e (r.ed % 64) = BitVec.ofNat 64
            (p.hdr.tag.toNat * 2 ^ 32 + p.hdr.seq.toNat * 2 ^ 16 + p.hdr.phase.toNat * 2 ^ 12 + p.hdr.slot.toNat * 2 ^ 8) ∧
          SMap.get 0#64 y.e (r.ed % 64 + 1) = BitVec.ofNat 64 (p.hdr.user.toNat * 2 ^ 32 + p.hdr.len.toNat) ∧
          y.tokCount r.token = x.tokCount r.token - 1 ∧ y.results = []) ∧
      (∀ (q : Nat) (g : Stage), (s.chan n).sink.toNat = q + 1 → q < 2 → g = s.stage (chanDie n) (s.chan n).stage.toNat → g.enable = true →
        queueAccepts q p.hdr.phase.toNat = true → (g.queue q).length < 256 →
        ∃ t, exec (.parcelDelivery n) s = .next t ∧
          (t.stage (chanDie n) (s.chan n).stage.toNat).queue q = g.queue q ++
            [{ tag := p.hdr.tag, phase := p.hdr.phase.toNat, chan := BitVec.ofNat 16 n, slot := p.hdr.slot.toNat, seq := p.hdr.seq,
               dep := 0#64, depCluster := 0, lt := 0#64 }])) ∧
    (∀ k : Nat, (s.chan n).state = .send → (s.chan n).matched = true → (s.chan n).waiters = [] →
      ∃ t, exec (.creditFlitReceive n k) s = .next t ∧ (t.chan n).credits = min ((s.chan n).credits + k) (s.chan n).nparc.toNat) ∧
    (∀ (a : TimedSend) (got : List (List Byte)), (s.chan n).timed = [a] → a.suspended = false →
      (s.timeReached a.lt = false → exec (.timedSendLaunch n) s = .next s) ∧
      (s.timeReached a.lt = true → s.gatedOff = false → (s.chan n).state = .send → (s.chan n).matched = true →
        (s.die (chanDie n)).vc.covers a.clock = true →
        (sendSrck a.desc = false → s.engWaits (a.agent n) (a.desc.getD 0 0#64) (32 * sendLen a.desc) = false) →
        s.sendSectors n a (sendLen a.desc - a.read.length) a.read = (got, none) →
        ∃ t h, exec (.timedSendLaunch n) s = .next t ∧ (t.chan n).timed = [] ∧ .header n h ∈ t.out ∧ h.tstamp = BitVec.ofNat 64 s.time ∧
          h.seq = a.seq ∧ h.len = BitVec.ofNat 12 (sendLen a.desc) ∧ h.tag = (a.desc.getD 2 0#64).truncate 32 ∧
          ∀ i, i < sendLen a.desc → .data n (got.getD i (List.replicate 32 0#8)) ∈ t.out))

/-- R94 to R98: at the head of a direction of the ring an abort ends the collective with status 3 and goes on round, a partial sum for another replica
goes on with the replica's own elements added, a placed shard has its flag written, and a collective whose writes are all made ends. -/
def Obligations.RingCollectives : Prop :=
  ∀ (s : State) (west : Bool) (c : Coll), (s.oxDir west).queue = [c] → (s.oxDir west).absorb = false → c.started = true →
    (s.port 6).up = true → (s.port 7).up = true →
    (∀ x : Ctx, c.full = false → s.ctx c.ctx = some x → x.AwaitsOnly c.dest [eDestOf c.dest] → s.writeWaits = [] →
      (∀ w ∈ s.writes, w.everywhere = true) →
      ∃ t y, exec (.oxbowFlitReceive west .abort) s = .next t ∧ .oxbow west .abort ∈ t.out ∧ (t.oxDir west).queue = [] ∧
        t.ctx c.ctx = some y ∧ y.tokCount c.token = x.tokCount c.token - 1 ∧ (c.dest % 64 < 32 → SMap.get 0#64 y.e (c.dest % 64) = 3#64)) ∧
    (∀ (k : Nat) (bs mine : List Byte), c.full = false → c.suspended = false → bs.length = c.shardLen → k < c.p → k ≠ c.pos →
      s.linkNow.collRead c.agent (c.shardAddr k) ((c.shardLen - c.mine.length) / 32) c.mine = (mine, none) →
      ∃ t, exec (.oxbowFlitReceive west (.partialSum c.hdr k bs)) s = .next t ∧ t.home = s.home ∧
        .oxbow west (.partialSum c.hdr k (addShards c.fp32 c.shardLen bs mine)) ∈ t.out) ∧
    (∀ (k : Nat) (u : State), c.op = 2 → c.flagBase ≠ 0 → k ∈ c.placed → k ∉ c.flagged → c.suspended = false →
      s.engWrite c.agent (BitVec.ofNat 64 (c.flagBase + 8 * k)) (toBytes 8 c.flagVal.toNat) = .ok u →
      ∃ t, exec (.oxbowFlagWrite west k) s = .next t ∧ t.home = u.home ∧ t.dies = u.dies ∧
        (t.oxDir west).queue = [{ c with flagged := c.flagged ++ [k], rel := (t.die 3).vc }]) ∧
    (∀ x : Ctx, c.complete = true → c.donek = 0 → s.gatedOff = false → (s.die (ctxDie c.ctx)).vc.covers c.rel = true → s.ctx c.ctx = some x →
      x.AwaitsOnly c.dest [eDestOf c.dest] →
      ∃ t y, exec (.collectiveComplete west) s = .next t ∧ (t.oxDir west).queue = [] ∧ t.ctx c.ctx = some y ∧
        y.tokCount c.token = x.tokCount c.token - 1 ∧ (c.dest % 64 < 32 → SMap.get 0#64 y.e (c.dest % 64) = 0#64))

/-! ### Weir (file 06) -/

/-- R130 to R132, R140, R141, R467: an enabling write takes the first status of R132 that applies and enables the stage where none does; a disabling
one clears ENABLE and STALLED; an arrival joins its queue or is refused with the status of R141, in its destination, and its token falls. R146, R147:
a post counts DONE at the block's home, and the one that reaches EXPECTED completes the block and sets its successor out; a successor that enqueues
puts its entry into the queue that it names. -/
def Obligations.StagesArrivalsAndPosts : Prop :=
  (∀ (s : State) (d n : Nat) (g : Stage), d < 4 → n < 8 → g = s.stage d n →
     (∀ w : Bool, g.enable = false →
       ∃ t, exec (.stageEnable d n w) s = .next t ∧ (t.stage d n).wsplit = w ∧ (t.stage d n).fq = g.fq ∧ t.home = s.home ∧
         (if s.stageOverlaps d n = true then (t.stage d n).estat = 1#4 ∧ (t.stage d n).enable = false
          else if g.clusters = [] then (t.stage d n).estat = 2#4 ∧ (t.stage d n).enable = false
          else if g.tmplbase.toNat % 65536 ≠ 0 ∨ g.framebase.toNat % 4096 ≠ 0 then (t.stage d n).estat = 3#4 ∧ (t.stage d n).enable = false
          else if s.mapped d g.tmplbase.toNat = none ∨ s.mapped d g.framebase.toNat = none then
            (t.stage d n).estat = 4#4 ∧ (t.stage d n).enable = false
          else if g.policy.any (fun kv => policyBad kv.2) = true then (t.stage d n).estat = 5#4 ∧ (t.stage d n).enable = false
          else (t.stage d n).estat = 0#4 ∧ (t.stage d n).enable = true ∧ s.mapped d g.tmplbase.toNat = some (t.stage d n).tmplPa ∧
            s.mapped d g.framebase.toNat = some (t.stage d n).framePa)) ∧
     (∀ w : Bool, ∃ t, exec (.stageDisable d n w) s = .next t ∧
       t.stage d n = { g with wsplit := w, enable := false, stalled := false }) ∧
     (∀ (a : Arrival) (x : Ctx) (status : Nat), (s.die d).arrivals = [a] → a.stage = n → a.after = [] → (s.die d).vc.covers a.clock = true →
       s.ctx a.ctx = some x → x.AwaitsOnly a.dest [.e (a.dest % 64)] → a.dest % 64 < 32 → a.queue < 4 →
       status = (if g.enable = false then 3 else if queueAccepts a.queue a.entry.phase = false then 4
         else if a.queue = 3 ∧ a.entry.dep = 0#64 then 2 else if 256 ≤ (g.queue a.queue).length then 1 else 0) →
       ∃ t y, exec (.queueArrival d a.id) s = .next t ∧ (t.die d).arrivals = [] ∧ t.ctx a.ctx = some y ∧
         SMap.get 0#64 y.e (a.dest % 64) = BitVec.ofNat 64 status ∧ y.tokCount a.token = x.tokCount a.token - 1 ∧
         (t.stage d n).queue a.queue = if status = 0 then g.queue a.queue ++ [a.entry] else g.queue a.queue)) ∧
  (∀ s : State, s.sess.state ≠ .running →
     (∀ (p : Post) (pa : Nat) (b : Jcb), s.posts = [p] → p.reply = none → p.after = [] → p.block = .global pa → s.blockReady p.die p.block p.clock = true →
       s.poisonIn (p.block.runs 32) = none →
       (∀ w ∈ s.writes, w.id < s.nextWrite ∧ (w.die = p.die → w.place ≠ none)) → b = jcbOf (Mem.read s.home pa 32) → b.state = 0 →
       (b.done + 1 < b.expected →
         ∃ t, exec (.jcbPost (.post p.id)) s = .next t ∧ t.posts = [] ∧ t.succs = s.succs ∧ t.home = Mem.write s.home (pa + 4) (toBytes 4 (b.done + 1))) ∧
       (b.done + 1 = b.expected → 1 ≤ b.suckind → b.suckind ≤ 3 →
         ∃ t q, exec (.jcbPost (.post p.id)) s = .next t ∧ t.posts = [] ∧ t.succs = s.succs ++ [q] ∧ q.kind = b.suckind ∧ q.arg = b.succ ∧
           q.block = p.block ∧
           t.home = Mem.write (Mem.write s.home (pa + 4) (toBytes 4 (b.done + 1))) (pa + 8) (toBytes 1 (4 * b.rsv + 1)))) ∧
     (∀ (q : Succ) (d n k : Nat) (g : Stage), s.succs = [q] → q.kind = 1 → q.suspended = false → d = bits q.arg 11 10 → n = bits q.arg 9 7 →
       k = bits q.arg 6 5 → g = s.stage d n → queueAccepts k (bits q.arg 3 0) = true → k ≠ 3 → g.enable = true → (g.queue k).length < 256 →
       (s.die d).vc.covers q.clock = true →
       ∃ t, exec (.successorEvent q.block.homeDie q.id) s = .next t ∧ t.succs = [] ∧
         (t.stage d n).queue k = g.queue k ++ [{ tag := q.arg.extractLsb' 32 32, phase := bits q.arg 3 0, chan := 0xFFFF#16, seq := 0#16, dep := 0#64
                                                 depCluster := 0, lt := 0#64 }]))

/-- R76, R138, R143 to R145, R148, R153, R271, R275: an evaluation records its time, and launches an F step as R145 says: the entry leaves its queue
and the frame holds the step and, at its home, the bytes of R138; the timer and a launch time bring an evaluation; a captured gang that may resume
runs again; a gang whose capture the supervisor asks for stops its fetch while its accesses drain; its write-out ends; a step with a complete block
retires, its seals first. When an evaluation takes the capture that the supervisor asked for is the model's choice (log entry 67, DESIGN CHOICE), and
freezing and write-out are read as log entry 36 says (DEDUCED). -/
def Obligations.StepsOfStages : Prop :=
  ∀ (s : State) (d n : Nat) (g : Stage), d < 4 → n < 8 → g = s.stage d n →
    (s.thermal.state = .run → s.sess.state = .running → g.enable = true →
      (∃ t, exec (.stageEvaluate d ⟨n, none⟩) s = .next t ∧ (t.stage d n).lastEval = s.time) ∧
      (g.lastEval + 64 ≤ s.time → ∃ t, exec (.stageEvalTimer d n) s = .next t ∧ exec (.stageEvaluate d ⟨n, none⟩) s = .next t) ∧
      (∀ e ∈ g.fq, e.lt ≠ 0#64 → s.timeReached e.lt.toNat = true →
        ∃ t, exec (.launchTimeReached d n) s = .next t ∧ exec (.stageEvaluate d ⟨n, none⟩) s = .next t) ∧
      (∀ (e : QEntry) (p : W64) (f : Nat) (ch : List Tmpl) (ps : List Placed), s.gangs = [] → g.fq = [e] → g.bq = [] → g.wq = [] → g.uq = [] → g.stalled = false →
        g.horizon = [] → p = SMap.get 0#64 g.policy 0 → bits p 62 60 = 0 → (∀ w ∈ s.writes, w.id < s.nextWrite) →
        ch = s.chain d n 1024 [] (bits p 29 20) →
        s.tryPolicy d n p = .launched (s.launch d n p e f ch 0 ps) →
        ∃ t st, exec (.stageEvaluate d ⟨n, none⟩) s = .next t ∧ (t.stage d n).fq = [] ∧ SMap.get none (t.stage d n).frames f = some st ∧
          st.tag = e.tag ∧ st.phase = 0 ∧ st.klass = bits p 59 58 ∧ st.slot = g.current ∧
          Mem.read t.home (g.framePa + 64 * f) 64 = frameBytes d n 0 (bits p 59 58) g.current g.current ((ch.map fun c => c.ntask).foldl (· + ·) 0) 0 0 e)) ∧
    (∀ (h : Gang) (c i : Nat) (x : Ctx), s.gang h.id = some h → h.byHold = false → s.thermal.state ≠ .hold → h.members = [(c, i)] →
      c / numSeqs = h.id + 1 → s.ctx c = some x → x.run = .waiting .captured → SMap.wf none s.ctxs = true → s.mayResume h = true →
      ∃ t y, exec (.gangResume h.id) s = .next t ∧ t.ctx (c % numSeqs) = some y ∧ y.run = .ready ∧ y.pc = x.pc ∧ y.e = x.e ∧
        ∃ k, t.gang h.id = some k ∧ k.captured = false ∧ k.members = [(c % numSeqs, i)]) ∧
    (∀ h : Gang, s.gang h.id = some h → h.captured = false → h.step.isSome = true → h.die = d → s.draining h = true →
      ∃ t, exec (.stageEvaluate d ⟨n, some h.id⟩) s = .next t ∧ t.gang h.id = some { h with freezing := some n } ∧ t.ctxs = s.ctxs) ∧
    (∀ h : Gang, s.gang h.id = some h → h.captured = true → h.written = false → s.draining h = false → s.thermal.state ≠ .hold →
      ∃ t, exec (.saveWriteoutComplete h.id) s = .next t ∧ t.gang h.id = some { h with written := true } ∧ t.ctxs = s.ctxs) ∧
    (∀ (f : Nat) (st : Step), SMap.get none g.frames f = some st → st.faulted = false → st.retiring = false →
      s.poisonIn [(st.jcb, 32)] = none → (jcbOf (s.readPhys d st.jcb 32)).state = 1 → s.sess.state ≠ .running →
      (st.seals = [] → st.phase = 0 →
        ∃ t, exec (.stepRetire d n f) s = .next t ∧ SMap.get none (t.stage d n).frames f = none ∧
          (t.stage d n).horizon = if g.awaitsB st.tag then g.horizon ++ [st.tag] else g.horizon) ∧
      (∀ r : Nat, st.seals = [r] → s.sealDeferred d n f r = false → s.sealRequested (d, n, f) r = false →
        ∃ t l, exec (.stepRetire d n f) s = .next t ∧ SMap.get none (t.stage d n).frames f = some { st with retiring := true, sealsLeft := [r] } ∧ (d, n, f) ∈ l ∧
          t.seals = s.seals ++ [{ id := s.nextId, g := r, rescale := false, reply := none, steps := l, die := d, clock := (s.die d).vc }]))

/-- R234 to R236: a half that arrives in time stands at its side; with the second each side's kept rows hold their sum with the half that it received,
the other rows of both tiles are as they were, and both tokens fall; a side whose deadline has passed leaves the join with its tile as it was and
JOIN_TIMEOUT due, and its partner then waits for a new half. -/
def Obligations.JoinEvents : Prop :=
  ∀ (s : State) (c : Nat) (x : Ctx) (j : Join), s.ctx c = some x → x.join = some j → j.received = none →
    s.isCaptured x = false →
    (∀ (p : Nat) (y : Ctx) (k : Join), s.time < j.deadline → s.joinPartner c = some p → p ≠ c → s.ctx p = some y → y.join = some k →
      (k.received = none →
        ∃ t, exec (.joinHalfArrival c) s = .next t ∧ t.ctx c = some { x with join := some { j with received := some k.half } } ∧ t.ctx p = some y) ∧
      (k.received ≠ none →
        ∃ t x' y', exec (.joinHalfArrival c) s = .next t ∧ t.ctx c = some x' ∧ t.ctx p = some y' ∧ x.JoinEnds x' j k.half ∧
          y.JoinEnds y' k (k.received.getD []))) ∧
    (j.deadline ≤ s.time → s.joinPartner c = none →
      ∃ t y, exec (.joinTimeout c) s = .next t ∧ t.ctx c = some y ∧ y.join = none ∧ y.tokCount j.token = x.tokCount j.token - 1 ∧ y.z = x.z ∧
        y.due = x.due ++ [⟨0x0C, joinArg j, none⟩]) ∧
    (∀ (p : Nat) (y : Ctx) (k : Join), j.deadline ≤ s.time → s.joinPartner c = some p → p ≠ c → s.ctx p = some y → y.join = some k →
      ∃ t x', exec (.joinTimeout c) s = .next t ∧ t.ctx c = some x' ∧ x'.join = none ∧ x'.z = x.z ∧ x'.due = x.due ++ [⟨0x0C, joinArg j, none⟩] ∧
        t.ctx p = some { y with join := some { k with received := none } })

/-! ### Engines in the background (files 07, 08) -/

/-- R158, R163 to R166, R285: a waiting job starts once its time has come and the jobs before it are DONE, and reads its records; a unit of a COPY or
FILL writes what it read or its pattern at its place; an access that does not translate suspends the job and enters the fault queue; the last unit
performed, the job is DONE and its token falls; a vector that is ready enters a buffer with room. Which replica maps a tile is the model's choice (log
entry 77, DESIGN CHOICE). -/
def Obligations.SluiceJobEvents : Prop :=
  ∀ (s : State) (d : Nat) (j : Job) (c : List W64), s.job d j.serial = some j → j.kind = .sluice c → s.gatedOff = false →
    (j.state = .waiting → s.predsDone d j = true → s.timeReached (cardLt c) = true → cardInarray c = false → ∀ a b : Tile4, a = cardTile {} c false →
      b = cardTile {} c true → s.poisonIn (s.jobReads d c) = none →
      ∃ t, exec (.sluiceJobStart d j.serial) s = .next t ∧ t.home = s.home ∧ t.job d j.serial = some
        { j with
          state := .running, fallback := false, srec := if cardSrck c = 1 then s.layoutBytes d (cardHandle c false) a.coord a.shape else []
          drec := if cardDstk c = 1 then s.layoutBytes d (cardHandle c true) b.coord b.shape else [] }) ∧
    (∀ (x : Ctx) (k : Nat), j.state = .running → cardUnits c ≤ j.pos → s.streamReady d j c = true →
      (∀ l, j.barrier = some l → s.barWaits.any (fun w => w.loc == l) = false) → j.token = some k → s.ctx j.ctx = some x →
      ∃ t y, exec (.sluiceJobDone d j.serial) s = .next t ∧ t.job d j.serial = some { j with state := .done } ∧ t.ctx j.ctx = some y ∧
        y.tokCount k = x.tokCount k - 1) ∧
    (∀ (g : Agent) (u : Nat), g = Agent.ofCtx j.ctx j.sup → u = j.pos → j.state = .running → u < cardUnits c → j.units = [] →
      cardDstk c = 0 → cardCkmode c = 0 → cardCodec c = 0 → cardInarray c = false → j.barrier = none → s.unitWaits g c u = false →
      ∀ src dst : W64, src = cardWord c 1 + BitVec.ofInt 64 (cardOffset c false u) → dst = cardWord c 2 + BitVec.ofInt 64 (cardOffset c true u) →
      (∀ (bs : List Byte) (v : State),
        (cardOp c = 1 ∧ bs = (List.range (cardUnit c)).map (fun i => (toBytes 4 (cardWord c 1).toNat).getD (i % 4) 0#8) ∨
          cardOp c = 0 ∧ cardSrck c = 0 ∧ s.engRead g src (cardUnit c) = .ok bs) →
        s.engWrite g dst bs = .ok v →
        ∃ t, exec (.sluiceUnit d j.serial u .clean) s = .next t ∧ t.home = v.home ∧ t.cores = v.cores ∧ t.clusters = v.clusters ∧
          (∀ k, (t.die k).view = (v.die k).view) ∧ t.job d j.serial = some { j with pos := j.pos + 1, units := [], plain := [] }) ∧
      (∀ (cause : Nat) (va : W64) (lay : Bool), cardOp c = 0 → cardSrck c = 0 → s.engRead g src (cardUnit c) = .error (.fault cause va false lay) →
        (s.die d).fq.room = true → (s.die d).fq.waiting = [] →
        ∃ t, exec (.sluiceJobFault d j.serial u) s = .next t ∧ t.job d j.serial = some { j with state := .suspended, units := [] } ∧
          s.QueuedFault t d cause va)) ∧
    (∀ (x : Ctx) (r : Stream) (f n : Nat) (v : Vec) (rest : List (Nat × Vec)), s.ctx j.ctx = some x → r = SMap.get {} x.f f →
      r.bound = some (.job d j.serial) → r.buf.length < 8 → r.coming = (n, v) :: rest →
      ∃ t y, exec (.streamVectorArrival j.ctx f) s = .next t ∧ t.ctx j.ctx = some y ∧
        SMap.get {} y.f f = { r with buf := r.buf ++ [v], coming := rest })

/-- R181 to R196: the operation at the head of a unit's queue reads its next chunk and makes what it will write; the chunk is written; the operation
ends, its status is kept and its token falls; a chunk that does not translate suspends it. -/
def Obligations.RiffleEvents : Prop :=
  ∀ (s : State) (cl u : Nat) (o : ROp) (rest : List ROp), (s.riffle cl u).queue = o :: rest → o.state = .queued ∨ o.state = .running → o.job = none →
    s.gatedOff = false →
    (o.staged = none → o.pos < o.chunks → s.chunkWaits o = false → ∀ n : Nat, n = min 2048 (o.count - 2048 * o.pos) →
      ∀ (i : Instr) (out : List (W64 × List Byte)),
      (∀ bs : List Byte,
        (o.kind = .decode ∧ i = .riffleDecode cl u ∧ s.readSlot o.agent (o.port 0 + BitVec.ofNat 64 (o.slot * o.pos)) o.slot = .ok (.plain bs) ∧
            out = [(o.port 1 + BitVec.ofNat 64 (4096 * o.pos), bs)] ∨
          o.kind = .encode ∧ i = .riffleEncode cl u ∧ s.engRead o.agent (o.port 0 + BitVec.ofNat 64 (4096 * o.pos)) 4096 = .ok bs ∧
            (encodeBlock bs).length ≤ o.slot ∧ out = [(o.port 1 + BitVec.ofNat 64 (o.slot * o.pos), padTo o.slot (encodeBlock bs))] ∨
          o.kind = .unpack12 ∧ i = .riffleUnpack12 cl u ∧
            s.engRead o.agent (o.port 0 + BitVec.ofNat 64 (3072 * o.pos)) (ceilDiv (3 * n) 2) = .ok bs ∧
            out = [(o.port 1 + BitVec.ofNat 64 (4096 * o.pos), unpackPixels o.lj n bs)] ∨
          o.kind = .expand3 ∧ i = .riffleExpand3 cl u ∧
            s.engRead o.agent (o.port 0 + BitVec.ofNat 64 (768 * o.pos)) (ceilDiv (3 * n) 8) = .ok bs ∧
            out = [(o.port 1 + BitVec.ofNat 64 (4096 * o.pos), expandIndices ((o.port 4).toNat + 2 ^ 64 * (o.port 5).toNat) n bs)] ∨
          o.kind = .fill ∧ i = .riffleFill cl u ∧
            out = [(o.port 1 + BitVec.ofNat 64 (4096 * o.pos),
              (List.replicate (min 4096 (o.count - 4096 * o.pos) / 4) (toBytes 4 (o.port 3).toNat)).flatten)]) →
        ∃ t q, exec i s = .next t ∧ (t.riffle cl u).queue = q :: rest ∧ q.staged = some out ∧ q.state = .running ∧ q.pos = o.pos ∧
          t.home = s.home ∧ t.dies = s.dies ∧ t.cores = s.cores)) ∧
    (∀ bs : List Byte, o.kind = .crc → o.staged = none → s.chunkWaits o = false → s.engRead o.agent (o.port 0) o.count = .ok bs →
      ∃ t q, exec (.riffleCrc cl u) s = .next t ∧ (t.riffle cl u).queue = q :: rest ∧ q.staged = some [] ∧
        q.result = (~~~(bs.foldl crcStep (~~~((o.port 3).truncate 32)))).toNat) ∧
    (∀ (ps : List (W64 × List Byte)) (v : State) (n : Nat), o.staged = some ps → o.kind ≠ .crc → o.tbv = false →
      ps.any (fun p => s.engWaits o.agent p.1 p.2.length) = false → s.writeStaged o.agent (ps.flatMap fun p => cutPiece p.1 p.2) = (v, n, none) →
      ∃ t q, exec (.riffleChunkWrite cl u) s = .next t ∧ t.home = v.home ∧ t.dies = v.dies ∧ t.cores = v.cores ∧
        (t.riffle cl u).queue = q :: rest ∧ q.staged = none ∧ q.pos = o.pos + 1 ∧ q.result = o.result + n) ∧
    (∀ x : Ctx, (o.kind ≠ .crc ∧ o.staged = none ∧ o.chunks ≤ o.pos ∨ o.kind = .crc ∧ o.staged = some []) → o.last = true → s.ctx o.ctx = some x →
      (o.tbv = false ∨ s.barWaits.any (fun w => w.loc == o.agent.local (o.port 6)) = false) →
      ∃ t y, exec (.riffleOpComplete cl u .clean) s = .next t ∧ (t.riffle cl u).queue = rest ∧
        SMap.get 0#64 (t.riffle cl u).status o.ctx = { o with state := .done, err := 0#8 }.status ∧
        SMap.get 0#64 (t.riffle cl u).result o.ctx = BitVec.ofNat 64 o.result ∧
        t.ctx o.ctx = some y ∧ y.tokCount o.token = x.tokCount o.token - 1) ∧
    (∀ (cause : Nat) (va : W64) (wr lay : Bool), o.kind ≠ .crc → o.staged = none → s.chunk o = .error (.stop (.fault cause va wr lay)) →
      s.chunkWaits o = false → (s.die (clusterDie cl)).fq.room = true → (s.die (clusterDie cl)).fq.waiting = [] →
      ∃ t, exec (.riffleFault cl u) s = .next t ∧ (t.riffle cl u).queue = { o with state := .suspended } :: rest ∧
        s.QueuedFault t (clusterDie cl) cause va)

/-- R200 to R204: a running store whose data moves ends DONE; a running restore writes its next block, whose sectors count as restored; with all of
them restored it ends DONE, its entry is RESTORED without a stored copy, and the tokens that wait for it fall; uncorrectable data ends either in ECC
and drops the entry with ERR. That a store moves its data in one action and a restore block by block upwards is the reading of log entry 32 (DEDUCED).
-/
def Obligations.EddyJobEvents : Prop :=
  ∀ (s : State) (d key : Nat) (j : Job) (e : Stash), s.job d j.serial = some j → j.state = .running → s.stash d key = some e → e.frees = [] →
    s.gatedOff = false →
    (∀ (v : State) (n k : Nat) (x : Ctx), j.kind = .store key → s.storeCopy d e = .ok (v, n) → j.token = some k → s.ctx j.ctx = some x →
      ∃ t y, exec (.eddyStoreComplete d j.serial) s = .next t ∧ t.home = v.home ∧ (t.die d).view = (v.die d).view ∧
        t.job d j.serial = some { j with state := .done } ∧ t.stash d key = some { e with ovf := n } ∧ t.ctx j.ctx = some y ∧
        y.tokCount k = x.tokCount k - 1) ∧
    (∀ (bs : List Byte) (v : State) (i : Nat), j.kind = .restore key → e.done < e.len → i = ceilDiv e.done 128 → s.storedBlock d e i = .ok bs →
      e.rdest ≠ 0#64 → j.drec = [] → e.attach = [] →
      s.engWrite { Agent.ofCtx e.ctx e.sup with die := d } (BitVec.ofNat 64 (e.rdest.toNat + 4096 * i)) bs = .ok v →
      ∃ t, exec (.sluiceUnit d j.serial i .clean) s = .next t ∧ t.home = v.home ∧ (t.die d).view = (v.die d).view ∧
        t.job d j.serial = some { j with pos := i + 1 } ∧ t.stash d key = some { e with done := e.done + ceilDiv bs.length 32 }) ∧
    (∀ (c k : Nat) (x : Ctx), j.kind = .restore key → e.len ≤ e.done → e.waiters = [(c, k)] → s.ctx c = some x →
      ∃ t y, exec (.eddyRestoreComplete d j.serial) s = .next t ∧ t.home = s.home ∧ t.job d j.serial = some { j with state := .done } ∧
        t.stash d key = some { e with state := .restored, near := none, far := none, lp := none, attach := [], waiters := [] } ∧
        t.ctx c = some y ∧ y.tokCount k = x.tokCount k - 1) ∧
    (∀ pa : Nat, j.kind = .store key ∨ j.kind = .restore key → e.attach = [] → s.ctxs ≠ [] →
      ∃ t f, exec (.eddyJobFailure d ⟨j.serial, pa⟩) s = .next t ∧ t.job d j.serial = some { j with state := .ecc } ∧ t.stash d key = some f ∧
        f.state = .dropped ∧ f.err = true ∧ f.near = none ∧ f.far = none ∧ f.lp = none)

/-! ### Host and firmware (file 05) -/

/-- R17, R102 to R107, R119, R121 to R124, R482: each command that its checks allow has its effect and completes with status 0 and its results, a HOLD
at the end of its entry; a failed access to host memory gives status 9; in a state that does not allow it, a command completes with status 3. Status 9
of ATTEST and READ_LOG with the host's link down, and the moment of HOLD's completion, are the reading of log entry 39 (DEDUCED). That SET_LATTOL in
HOLD completes at once, and what READ_LOG answers to an index beyond the newest entry, are the model's choices (log entry 79, DESIGN CHOICE). -/
def Obligations.FirmwareCommands : Prop :=
  ∀ (s : State) (op : Nat) (seq : BitVec 16) (args : SMap W64) (a : Nat → W64), s.mbox.running = some (op, seq, args) → s.commandWaits = false →
    (∀ n, a n = SMap.get 0#64 args n) →
    (op = 1 → ∃ t, exec .identify s = .next t ∧ t.Completed seq 0 ∧ SMap.get 0#64 t.mbox.rets 0 = 0x7740#64 ∧
      SMap.get 0#64 t.mbox.rets 1 = Config.firmwareVersion.zeroExtend 64 ∧ SMap.get 0#64 t.mbox.rets 2 = Config.serial) ∧
    (op = 2 → (a 4).toNat % 256 = 0 →
      ∃ t, exec .attest s = .next t ∧
        if s.dmaFails then t.Completed seq 9 ∧ t.hostMem = s.hostMem
        else t.Completed seq 0 ∧ ∃ report : List Byte, report.length = 256 ∧
          t.hostMem = Mem.write s.hostMem (hostBase + (a 4).toNat) report ∧ (report.drop 16).take 32 =
            toBytes 8 (a 0).toNat ++ toBytes 8 (a 1).toNat ++ toBytes 8 (a 2).toNat ++ toBytes 8 (a 3).toNat) ∧
    (op = 2 → (s.port 8).up = false → (a 4).toNat % 256 = 0 → ∃ t, exec .attest s = .next t ∧ t.Completed seq 9 ∧ t.hostMem = s.hostMem) ∧
    (op = 3 → s.thermal.state = .warmStandby →
      ∃ t, exec .cool s = .next t ∧ t.Completed seq 0 ∧ t.thermal.state = .cooldown ∧ t.thermal.setpoint = some 4) ∧
    (op = 4 → s.thermal.state = .cooldown →
      ∃ t, exec .warm s = .next t ∧ t.Completed seq 0 ∧ t.thermal.state = .warmup ∧ t.thermal.setpoint = some 3) ∧
    (op = 5 → s.thermal.state = .run → s.sess.state = .running → s.gangs.Pairwise (fun g h => g.id ≠ h.id) →
      ∃ t, exec .hold s = .next t ∧ t.thermal.state = .hold ∧ t.thermal.cmdhold = true ∧ t.sess.state = .suspended ∧
        t.thermal.refrate = 4#3 ∧ (∀ g ∈ t.gangs, g.captured = true) ∧ (∀ p, p < 8 → (t.port p).up = false) ∧
        (s.gangs = [] → t.Completed seq 0) ∧
        ((∃ g ∈ s.gangs, g.captured = false) → t.mbox.begun = true ∧ t.mbox.running = s.mbox.running)) ∧
    (op = 9 → s.thermal.state = .run → s.sess.state = .running →
      ∃ t, exec .stop s = .next t ∧ t.Completed seq 0 ∧ t.thermal.state = .coldReady ∧ t.sess.state = .loaded ∧ t.sess.endcause = 2#8 ∧
        t.ctxs = []) ∧
    (op = 10 → ∃ t, exec .query s = .next t ∧ t.Completed seq 0 ∧ SMap.get 0#64 t.mbox.rets 0 = s.thermal.thstat.zeroExtend 64 ∧
      SMap.get 0#64 t.mbox.rets 1 = s.sess.sesstat.zeroExtend 64 ∧ SMap.get 0#64 t.mbox.rets 2 = s.actstat.zeroExtend 64 ∧
      SMap.get 0#64 t.mbox.rets 3 = s.mbox.lattol.zeroExtend 64 ∧ SMap.get 0#64 t.mbox.rets 4 = BitVec.ofNat 64 s.logCount ∧
      SMap.get 0#64 t.mbox.rets 5 = s.sess.num) ∧
    (op = 11 → (a 0).toNat < 2 ^ 32 → ∃ t, exec .setLattol s = .next t ∧ t.Completed seq 0 ∧ t.mbox.lattol = (a 0).truncate 32) ∧
    (op = 12 → s.thermal.state = .coldReady → s.hasSession = false → (a 0).toNat ≤ 3 →
      ∃ t, exec .resetDie s = .next t ∧ t.Completed seq 0 ∧ (t.die (a 0).toNat).stages = [] ∧ (t.die (a 0).toNat).jobs = [] ∧
        (t.die (a 0).toNat).tvec = 0#64 ∧ (t.die (a 0).toNat).view = (s.die (a 0).toNat).view ∧ t.home = s.home) ∧
    (op = 13 → 1 ≤ (a 1).toNat → (a 1).toNat ≤ 256 → (a 2).toNat % 32 = 0 →
      ∀ (first : Nat) (es : List LogEntry), first = max (a 0).toNat (s.logCount - s.log.length) →
      es = (s.log.drop (first - (s.logCount - s.log.length))).take (a 1).toNat →
      ∃ t, exec .readLog s = .next t ∧
        if s.dmaFails then t.Completed seq 9 ∧ t.hostMem = s.hostMem
        else t.Completed seq 0 ∧ t.hostMem = Mem.write s.hostMem (hostBase + (a 2).toNat) (es.flatMap LogEntry.bytes) ∧
          SMap.get 0#64 t.mbox.rets 0 = BitVec.ofNat 64 es.length ∧ SMap.get 0#64 t.mbox.rets 1 = BitVec.ofNat 64 first) ∧
    (op = 13 → 1 ≤ (a 1).toNat → (a 1).toNat ≤ 256 → (a 2).toNat % 32 = 0 → (s.port 8).up = false →
      ∃ t, exec .readLog s = .next t ∧ t.Completed seq 9 ∧ t.hostMem = s.hostMem) ∧
    (s.thermal.state = .warmup →
      (op = 3 → ∃ t, exec .cool s = .next t ∧ t.Completed seq 3 ∧ t.thermal = s.thermal) ∧
      (op = 4 → ∃ t, exec .warm s = .next t ∧ t.Completed seq 3 ∧ t.thermal = s.thermal) ∧
      (op = 5 → ∃ t, exec .hold s = .next t ∧ t.Completed seq 3 ∧ t.thermal = s.thermal) ∧
      (op = 9 → ∃ t, exec .stop s = .next t ∧ t.Completed seq 3 ∧ t.thermal = s.thermal))

/-- R108, R112, R113, R116 to R118: data goes to the staging area, but not while an image command runs; an image that passes the checks is loaded, or
verified, with its digest in MBRET0 to MBRET7; a start that passes its checks, by command or register, makes the session run, with one context for
each entry of its table and no other; a write of START behind a command waits for its end. That START has its whole effect in one step, and that a
write of it which waits is kept, is log entry 39 (DEDUCED). -/
def Obligations.ImagesAndSessions : Prop :=
  ∀ s : State,
    (∀ (off : Nat) (data : List Byte), off + data.length ≤ 2 ^ 32 →
      (s.mbox.running = none → ∃ t, exec (.stagingWrite off data) s = .next t ∧ t.readPhys 0 (0x01FF00000000 + off) data.length = data ∧ t.mbox = s.mbox) ∧
      (∀ op seq args, s.mbox.running = some (op, seq, args) → op = 6 ∨ op = 7 →
        ∃ t, exec (.stagingWrite off data) s = .next t ∧ t.home = s.home ∧ t.mbox.stagelost = true)) ∧
    (∀ (op : Nat) (seq : BitVec 16) (args : SMap W64) (off len : Nat), s.mbox.running = some (op, seq, args) → s.commandWaits = false →
      off = (SMap.get 0#64 args 0).toNat → len = (SMap.get 0#64 args 1).toNat →
      (op = 6 → s.thermal.state = .coldReady → s.hasSession = false →
        (s.imageStatus off len = 0 →
          ∃ t, exec .loadImage s = .next t ∧ t.Completed seq 0 ∧ t.sess.state = .loaded ∧
            t.sess.digest = BitVec.ofNat 512 (leNat (imgDigest (s.staged off len))) ∧
            ∀ i, i < 8 → SMap.get 0#64 t.mbox.rets i = BitVec.ofNat 64 (leNat (((imgDigest (s.staged off len)).drop (8 * i)).take 8))) ∧
        (s.imageStatus off len ≠ 0 →
          ∃ t, exec .loadImage s = .next t ∧ t.Completed seq (s.imageStatus off len) ∧ t.sess = s.sess ∧ t.home = s.home)) ∧
      (op = 7 → ∃ t, exec .verifyImage s = .next t ∧ t.Completed seq (s.imageStatus off len) ∧ t.sess = s.sess ∧ t.home = s.home ∧
        (s.imageStatus off len = 0 →
          ∀ i, i < 8 → SMap.get 0#64 t.mbox.rets i = BitVec.ofNat 64 (leNat (((imgDigest (s.staged off len)).drop (8 * i)).take 8))))) ∧
    (∀ (svt : W64) (vs : List StartVec), s.startChecks svt.toNat = (0, vs) → ∀ i : Instr,
      (i = .startWrite 8 svt ∧ (0 < s.mbox.granted ∨ s.mbox.busy = false ∧ s.sequenceRuns = false ∧ s.triggerDue = false ∧ s.mbox.starts = []) ∨
        i = .start ∧ s.commandWaits = false ∧ ∃ seq args, s.mbox.running = some (8, seq, args) ∧ SMap.get 0#64 args 0 = svt) →
      ∃ t, exec i s = .next t ∧ t.sess.state = .running ∧ t.sess.num = s.sess.num + 1 ∧ t.sess.startstat = 0#8 ∧
        t.thermal.state = (if s.thermal.band = .retreat then .retreat else .run) ∧ (∀ c, (∀ v ∈ vs, c ≠ 4 * v.core) → t.ctx c = s.ctx c) ∧
        (∀ v ∈ vs, ∃ y, t.ctx (4 * v.core) = some y ∧ y.pc = BitVec.ofNat 48 v.entry ∧ SMap.get 0#64 y.e 0 = BitVec.ofNat 64 v.arg ∧
          y.sup = true ∧ y.run = .ready) ∧
        ∀ seq args, i = .start → s.mbox.running = some (8, seq, args) → t.Completed seq 0 ∧ SMap.get 0#64 t.mbox.rets 0 = t.sess.num) ∧
    (∀ svt : W64, s.thermal.state ≠ .off →
      (∀ size : Nat, size ≠ 8 → ∃ t, exec (.startWrite size svt) s = .next t ∧ t.sess = { s.sess with startstat := 2#8 }) ∧
      (s.mbox.busy = true → s.mbox.granted = 0 →
        ∃ t, exec (.startWrite 8 svt) s = .next t ∧ t.mbox = { s.mbox with starts := s.mbox.starts ++ [(svt, s.triggerDue)] } ∧ t.sess = s.sess))

/-- R24, R28, R82, R92, R103 to R105, R130 to R132, R142, R199, R243, R245, R284 to R286: writes of registers: those of BAR0 and those of space 0xF,
of a stage, a channel end, an Eddy, a fault queue and TLBINV, of 4 or 8 bytes; a register that nothing writes, and a write of another size or off its
alignment, leave the state as it is; THEVT; the actions on a fault of a Sluice job; the invalidations; the activity states. That BAR0 ignores writes
of other sizes and alignments is the reading of log entry 38 (DEDUCED), and how STAGELOST clears that of log entry 39 (DEDUCED). -/
def Obligations.RegisterEvents : Prop :=
  ∀ s : State,
    (∀ (n : Nat) (v : W64), s.thermal.state ≠ .off →
      (n < 8 → ∃ t, exec (.registerWrite (.bar0 (0x40 + 8 * n)) 8 v) s = .next t ∧ SMap.get 0#64 t.mbox.args n = v ∧ t.home = s.home) ∧
      (s.mbox.busy = false → s.mbox.any = false ∨ (v.extractLsb' 16 16) ≠ s.mbox.seq →
        (1 ≤ bits v 7 0 → bits v 7 0 ≤ 13 →
          ∃ t, exec (.registerWrite (.bar0 0) 4 v) s = .next t ∧ t.mbox.running = some (bits v 7 0, v.extractLsb' 16 16, s.mbox.args) ∧
            t.mbox.busy = true ∧ t.mbox.stagelost = false) ∧
        (bits v 7 0 = 0 ∨ 13 < bits v 7 0 → s.sequenceRuns = false → s.mbox.starts = [] → s.mbox.granted = 0 → s.triggerDue = false → ∃ t, exec (.registerWrite (.bar0 0) 4 v) s = .next t ∧ t.Completed (v.extractLsb' 16 16) 1)) ∧
      (s.mbox.busy = true → ∃ t, exec (.registerWrite (.bar0 0) 4 v) s = .next t ∧ t.mbox = { s.mbox with overrun := true }) ∧
      (bits v 1 0 < 3 → bits v 6 4 < 6 → ∃ t, exec (.registerWrite (.bar0 0x400) 4 v) s = .next t ∧ t.tbctl.role.toNat = bits v 1 0 ∧
        t.tbctl.upport.toNat = bits v 6 4 ∧ t.tbctl.locked = s.tbctl.locked) ∧
      (n % 4 = 0 → n ≠ 0 → n ≠ 0x210 → n ≠ 0x400 → n < 0x40 ∨ 0x80 ≤ n → exec (.registerWrite (.bar0 n) 4 v) s = .next s)) ∧
    (∀ (r : RegAddr) (size n : Nat) (v : W64), r = .bar0 n ∨ r = .mmio n → size ≠ 4 ∧ size ≠ 8 ∨ n % size ≠ 0 →
      exec (.registerWrite r size v) s = .next s) ∧
    (∀ v : W32, ∃ t, exec (.thevtWrite v) s = .next t ∧ exec (.registerWrite (.mmio 0x200210) 4 (v.zeroExtend 64)) s = .next t ∧
      t.thermal = { s.thermal with evt := s.thermal.evt &&& ~~~(v.truncate 8) }) ∧
    (∀ (d n i a : Nat) (v : W64), d < 4 → n < 8 → i < 16 → a = 0x500000 + 0x10000 * d + 0x800 * n →
      ((bit v 0 = true → exec (.registerWrite (.mmio a) 8 v) s = exec (.stageEnable d n (bit v 1)) s) ∧
        (bit v 0 = false → exec (.registerWrite (.mmio a) 8 v) s = exec (.stageDisable d n (bit v 1)) s)) ∧
      ((s.stage d n).enable = false →
        (∃ t, exec (.registerWrite (.mmio (a + 8)) 8 v) s = .next t ∧ t.stage d n = { s.stage d n with clmask0 := v }) ∧
        (∃ t, exec (.registerWrite (.mmio (a + 0x10)) 8 v) s = .next t ∧ t.stage d n = { s.stage d n with clmask1 := v.truncate 8 }) ∧
        (∃ t, exec (.registerWrite (.mmio (a + 0x18)) 8 v) s = .next t ∧ t.stage d n = { s.stage d n with tmplbase := v.truncate 48 }) ∧
        (∃ t, exec (.registerWrite (.mmio (a + 0x20)) 8 v) s = .next t ∧ t.stage d n = { s.stage d n with framebase := v.truncate 48 }) ∧
        ∃ t, exec (.registerWrite (.mmio (a + 0x80 + 8 * i)) 8 v) s = .next t ∧ SMap.get 0#64 (t.stage d n).policy i = v) ∧
      ((s.stage d n).enable = true → exec (.registerWrite (.mmio (a + 8)) 8 v) s = .next s)) ∧
    (∀ (n a : Nat) (v : W64), n < 1536 → a = 0x400000 + 32 * n →
      ((s.chan n).state = .idle →
        (∃ t, exec (.registerWrite (.mmio a) 8 v) s = .next t ∧ t.chan n = { s.chan n with bufbase := v.truncate 48 }) ∧
        (bits v 1 0 = 1 ∨ bits v 1 0 = 2 →
          exec (.registerWrite (.mmio (a + 8)) 8 v) s = exec (.channelEnable n ((s.chan n).bufbase.zeroExtend 64) (v.truncate 32)) s)) ∧
      ((s.chan n).state ≠ .idle → bits v 1 0 = 0 → exec (.registerWrite (.mmio (a + 8)) 8 v) s = exec (.channelDisable n) s)) ∧
    (∀ (d a : Nat) (v : W64), d < 4 → a = 0x600000 + 0x1000 * d → (∀ n, n < 8 → (s.stage d n).enable = false) →
      (∃ t, exec (.registerWrite (.mmio a) 8 v) s = .next t ∧ (t.die d).eddy = { (s.die d).eddy with nbase := v.truncate 48 }) ∧
      ∃ t, exec (.registerWrite (.mmio (a + 8)) 8 v) s = .next t ∧ (t.die d).eddy = { (s.die d).eddy with nlen := v.truncate 32 }) ∧
    (∀ (d a : Nat) (v : W64), d < 4 → a = 0x700000 + 0x1000 * d →
      (bits v 63 62 = 1 → exec (.registerWrite (.mmio (a + 0x18)) 8 v) s = exec (.fqResume d (bits v 5 0)) s) ∧
      (bits v 63 62 = 2 → exec (.registerWrite (.mmio (a + 0x18)) 8 v) s = exec (.fqAbandon d (bits v 5 0)) s) ∧
      ((s.die d).fq.waiting = [] →
        ∃ t, exec (.registerWrite (.mmio a) 8 v) s = .next t ∧ (t.die d).fq = { (s.die d).fq with head := v.truncate 6 })) ∧
    (∀ v : W64, exec (.registerWrite (.mmio 0x708010) 8 v) s =
      (if bit v 63 then exec .tlbinvAll s else exec (.tlbinvPage (BitVec.ofNat 32 (bits v 47 16))) s)) ∧
    (∀ (d n : Nat) (e : FqEntry) (j : Job), d < 4 → n < 64 → e = SMap.get {} (s.die d).fq.entries n → e.pend = true → e.agent = 1#4 →
      (s.die d).fq.waiting = [] → s.fqJob d e = some j → s.job d j.serial = some j →
      (∃ t, exec (.fqResume d n) s = .next t ∧ t.job d j.serial = some { j with state := .running } ∧
        SMap.get {} (t.die d).fq.entries n = { e with pend := false }) ∧
      (s.sess.state ≠ .running →
        ∃ t, exec (.fqAbandon d n) s = .next t ∧ t.job d j.serial = some { j with state := .killed } ∧
          SMap.get {} (t.die d).fq.entries n = { e with pend := false })) ∧
    (∃ t, exec .tlbinvAll s = .next t ∧ (∀ cl, (t.cluster cl).tlb = []) ∧ ∀ d, (t.die d).tlb = []) ∧
    (∀ vpn : BitVec 32, ∃ t, exec (.tlbinvPage vpn) s = .next t ∧
      (∀ cl e, e ∈ (t.cluster cl).tlb ↔ e ∈ (s.cluster cl).tlb ∧ ¬ (e.va < (vpn.toNat + 1) * 65536 ∧ vpn.toNat * 65536 < e.va + e.size)) ∧
      ∀ d e, e ∈ (t.die d).tlb ↔ e ∈ (s.die d).tlb ∧ ¬ (e.va < (vpn.toNat + 1) * 65536 ∧ vpn.toNat * 65536 < e.va + e.size)) ∧
    (s.wokeAt ≠ some s.time → s.thermal.state = .run → s.mbox.lattol.toNat < 2 →
      ∃ t, exec .activityDecision s = .next t ∧ t.act = 0#2 ∧ t.gated = 0#9) ∧
    (s.wokeAt ≠ some s.time → s.thermal.state = .coldReady → s.hasSession = false → 2000 ≤ s.mbox.lattol.toNat →
      ∃ t, exec .activityDecision s = .next t ∧ t.act = 3#2) ∧
    (s.thermal.state = .run → ∃ t, exec .wakeEvent s = .next t ∧ t = { s with act := 0#2, gated := 0#9, wokeAt := some s.time })

/-! ### Results, traps and the whole machine (files 09, 11, 13, 14) -/

/-- R227: an operation that yields one result of latency L, issued at count t, has it land at the end of count t + L − 1. With L of 2 or more the
result is in flight for that count, and until then nothing but the program counter and the count changes; with L = 1 its register, latch, predicate or
vector holds it after the bundle; and a result in flight for count t stands in its own after the bundle of count t, whichever file it is of. Every
other register, every other context and all of memory stay. R214, R353: the predicate that VOTE names holds its result after the bundle; p0 and p12 to
p15 ignore the write, and nothing else of the context changes but the program counter and the count. -/
def Obligations.ResultsLandAndFrame : Prop :=
  (∀ (s : State) (x : Ctx) (i : Instr) (lat : Nat), s.Issues x → s.barWaits = [] → i.parts.isSome = true → (∀ f, i ≠ .done f ∧ i ≠ .rft f ∧ i ≠ .yield f) →
     (∀ w : Landing, x.Calm → 2 ≤ lat → s.Yields x i lat w →
       ∃ t y, exec i s = .next t ∧ s.OnlyCtx t s.cur ∧ t.ctx s.cur = some y ∧
         y = { x with pc := x.pc + BitVec.ofNat 48 (4 * (3 + s.lits.length)), count := x.count + 1, f := y.f, loops := y.loops
                      flight := x.flight ++ [⟨x.count + lat - 1, w⟩] } ∧
         (∀ k, SMap.get {} y.f k = SMap.get {} x.f k) ∧ (slotSticky (Instr.slotPart i).1 = false → y.loops = x.loops)) ∧
     (∀ w : Landing, x.Calm → w.isRegister = true → s.Yields x i 1 w →
       ∃ t y, exec i s = .next t ∧ s.OnlyCtx t s.cur ∧ t.ctx s.cur = some y ∧
         Ctx.Gets { x with pc := x.pc + BitVec.ofNat 48 (4 * (3 + s.lits.length)), count := x.count + 1, f := y.f, loops := y.loops } y w ∧
         (∀ k, SMap.get {} y.f k = SMap.get {} x.f k) ∧ (slotSticky (Instr.slotPart i).1 = false → y.loops = x.loops)) ∧
     (∀ (w : Landing) (g h : List Flight), x.flight = g ++ ⟨x.count, w⟩ :: h → ({ x with flight := g ++ h } : Ctx).Calm → w.isRegister = true →
       s.Completes x i none id →
       ∃ t y, exec i s = .next t ∧ s.OnlyCtx t s.cur ∧ t.ctx s.cur = some y ∧
         Ctx.Gets { x with pc := x.pc + BitVec.ofNat 48 (4 * (3 + s.lits.length)), count := x.count + 1, f := y.f, loops := y.loops, flight := g ++ h } y w ∧
         (∀ k, SMap.get {} y.f k = SMap.get {} x.f k) ∧ (slotSticky (Instr.slotPart i).1 = false → y.loops = x.loops))) ∧
  (∀ (s : State) (x : Ctx) (f : CForm), s.Issues x → x.Calm → s.barWaits = [] → x.Guarded f.g → f.j = 0#2 → f.imm = 0#20 → f.x = 0#8 →
     ∃ t y, exec (.vote f) s = .next t ∧ s.OnlyCtx t s.cur ∧ t.ctx s.cur = some y ∧
       y = { x with pc := x.pc + BitVec.ofNat 48 (4 * (3 + s.lits.length)), count := x.count + 1, f := y.f, loops := y.loops, p := y.p } ∧
       (∀ k, k < 16 → y.pred k =
         if k = f.pd.toNat ∧ 1 ≤ k ∧ k ≤ 11 then (if x.pred f.pe.toNat = 0#64 then 0#64 else BitVec.allOnes 64) else x.pred k) ∧
       x.pred 0 = BitVec.allOnes 64 ∧ y.pred 12 = 0#64)

/-- R265 to R267, R269: a trap that can be delivered leaves every register file, predicate and token as it stands, saves where and why, and goes to
its vector at supervisor level with the results in flight frozen; one that cannot ends the session in FAULT with a log entry. -/
def Obligations.TrapEntry : Prop :=
  ∀ (s : State) (x : Ctx) (i : Instr) (q : TrapReq), s.Issues x → s.Traps x i q → q.code < 256 →
    (∀ pa : Nat, x.tcause.getLsbD 25 = false → s.tvec (ctxDie s.cur) ≠ 0#64 →
      s.translate (ctxCluster s.cur) true .fetch ((s.tvec (ctxDie s.cur)).toNat + 64 * q.code) = .ok pa → s.startBit pa = true →
      q.mark = none → x.join = none →
      ∃ t y, exec i s = .next t ∧ s.OnlyCtx t s.cur ∧ t.ctx s.cur = some y ∧
        y = { x with pc := BitVec.ofNat 48 ((s.tvec (ctxDie s.cur)).toNat + 64 * q.code), sup := true, traparg := q.arg, tpc := x.pc.zeroExtend 64
                     txpc := (q.txpc.getD x.pc).zeroExtend 64, tcause := y.tcause, snap := y.snap, flight := y.flight, f := y.f, br := none, loops := {}
                     due := [], repLeft := none, arrived := false } ∧
        (∀ k, (SMap.get {} y.f k).buf = (SMap.get {} x.f k).buf) ∧
        y.tcause.toNat % 256 = q.code ∧ y.tcause.toNat / 2 ^ 16 % 8 = q.slot.getD 0 % 8 ∧ (y.tcause.getLsbD 19 = true ↔ q.slot = none) ∧
        y.tcause.getLsbD 24 = x.sup ∧ y.tcause.getLsbD 25 = true ∧ y.tcause.toNat / 2 ^ 26 = 0 ∧
        ∃ sn, y.snap = some sn ∧ sn.br = x.br ∧ sn.loops = x.loops ∧ sn.q = x.q ∧ sn.qv = x.qv ∧ sn.qw = x.qw ∧
          sn.flights = (x.stopMacros.flight.filter fun g => !g.what.isReply).map fun g => { g with land := g.land - x.count + 1 }) ∧
    ((x.tcause.getLsbD 25 = true ∨ s.tvec (ctxDie s.cur) = 0#64) →
      ∃ t, exec i s = .next t ∧ t.sess.endcause = 4#8 ∧ t.sess.state = .loaded ∧ t.ctxs = [] ∧ t.logCount = s.logCount + 1 ∧
        ∃ e ∈ t.log, e.kind = 3#16 ∧ e.code = BitVec.ofNat 32 q.code)

/-- R213, R240, R263, R314, R321, R335, R367: a scalar operation whose guard is false has no effect; one whose guard is true and that has a bad field
takes ILLEGAL_OPERAND with its slot, and with the number and value of the bad field of the lowest number, which is the reading of log entry 13
(DEDUCED); an operation of the supervisor takes PRIV at user level. R264, R300: where FMT.SUB is ASSIST and an active lane of an arithmetic operation
is flushed, the operation takes SUBNORM_ASSIST with those lanes and has no other effect. -/
def Obligations.GuardsAndOperandTraps : Prop :=
  (∀ (s : State) (x : Ctx), s.Issues x →
     (∀ (f : SReg) (i : Instr), i ∈ [Instr.add f, .sub f, .mul f, .mulh f, .mulhn f, .div f, .divn f, .rem f, .and f, .or f, .xor f, .andn f, .shl f,
         .shr f, .sar f, .rot f, .min f, .max f, .minn f, .maxn f] →
       (¬ x.Guarded f.g → s.Completes x i none id) ∧
       (∀ c : Check, x.Guarded f.g → firstBad (sregChecks f true true true) = some c →
         s.Traps x i { code := 0x02, arg := BitVec.ofNat 64 ((if f.slot = .s0 then 1 else 2) + 16 * c.field + 65536 * (c.value % 512))
                       slot := some (if f.slot = .s0 then 1 else 2) })) ∧
     (∀ f : CForm, x.Guarded f.g → x.sup = false →
       (∃ a, s.Traps x (.setwin f) { code := 0x10, arg := a, slot := some 0 }) ∧ (∃ a, s.Traps x (.rft f) { code := 0x10, arg := a, slot := some 0 })) ∧
     (∀ f : SImm, x.Guarded f.g → x.sup = false → specialSup (f.imm.toNat % 4096) = true → f.imm.toNat < 4096 → NoBad (simmChecks f true false) →
       ∃ a, s.Traps x (.mfs f) { code := 0x10, arg := a, slot := some (if f.slot = .s0 then 1 else 2) })) ∧
  (∀ (s : State) (x : Ctx) (f : VReg) (v : VArgs) (r : Nat → Rounded), s.Issues x → s.VReady x (.vadd f) f { types := [0, 1] } [] →
     vStreams f { types := [0, 1] } = [] → v = (s.envAlone x (.vadd f)).vargs f →
     (∀ n, r n = roundTo (x.rndEnv (isW f.slot) n) f.ty.toNat
       ((laneValue f.ty.toNat (v.a.lane n)).add (decide (x.fmt.toNat % 8 = 2)) (laneValue f.ty.toNat (v.b.lane n)))) →
     fmtAssist x.fmt = true → x.Flushes f.g r →
     ∃ m : Mask, s.Traps x (.vadd f) { code := 0x0A, arg := m, slot := some (if f.slot = .v0 then 3 else 4) } ∧
       ∀ n, n < 64 → m.getLsbD n = ((x.guard f.g).getLsbD n && (r n).tiny))

/-- R5, R232, R310: where the schedule is empty and the words at the program counter of the one ready context of the core are a bundle of one
operation, whose fetch the host's port does not hold, a step lets one tick pass and executes that operation; a turn of the schedule lets its ticks
pass and executes its event. The schedule, the tick and the turns are the model's choice (log entry 3). -/
def Obligations.StepRunsDecoded : Prop :=
  (∀ (s u : State) (c : Nat) (x : Ctx) (sl : Slot) (i : Instr) (hd lo hi : W32), s.agenda = [] → s.cur = c → u = s.tick 1 →
    u.readyOrder (c / 4) = [(c, x)] → (∀ q y, q < 4 → u.ctx (4 * (c / 4) + q) = some y → y.run ≠ .draining) → x.spin = 0 → x.loops.skip = 0 →
    decodeHeader hd = .ok { Header.single sl with lits := BitVec.ofNat 2 s.lits.length } → s.lits.length < 4 →
    decodeSyllable sl (hi ++ lo) = .ok i → u.fetchHeld c x.sup x.pc (.ok (shownAlone s i)) = false →
    (∀ k w, (hd :: lo :: hi :: s.lits)[k]? = some w → u.fetchWord c x.sup (x.pc + BitVec.ofNat 48 (4 * k)) = .ok w) →
    step s = exec i u ∧ ∃ t, exec (.bundleIssue { core := c / 4 }) u = .next t ∧ exec i u = .next t) ∧
  (∀ (s : State) (t : Turn) (ts : List Turn), s.agenda = t :: ts → step s = exec t.ev (State.tick { s with agenda := ts } t.dt))

/-- R321, R325, R336 to R339: words written out from the encoding tables decode to what they stand for. -/
def Obligations.DecodeWords : Prop :=
  decodeSyllable .s0 0xFF000045140FFFFF#64 = .ok (.addi ⟨⟨0xFF#8, 0#4, 0#4, 0#4⟩, .s0, 5#6, 5#6, 0#3, 0#3, 0xFFFFF#20⟩) ∧
  decodeSyllable .c 0xFF000050000FFFC0#64 = .ok (.prep ⟨⟨0xFF#8, 0#4, 0#4, 0#4⟩, 1#2, 0#4, 0#4, 0#8, 0xFFFC0#20⟩) ∧
  decodeHeader 0x80000000#32 = .ok (Header.single .c) ∧ decodeHeader 0x01000000#32 = .ok (Header.single .e) ∧
  decodeSyllable .c 0xFF0007C000000000#64 = .error (.illegalOp .c 31)

/-- R310, R321: the words of every well-formed slot operation decode to a bundle of its one syllable, with nothing left over, and that syllable to the
operation itself, with every field as it stands. -/
def Obligations.DecodeOfEncode : Prop :=
  ∀ (i : Instr) (rest : List W32), i.wf = true → i.parts.isSome = true →
    ∃ sl w, encodeSyllable i = some (sl, w) ∧ decodeBundle (encode i ++ rest) = .ok (⟨Header.single sl, [(sl, w)], []⟩, rest) ∧
      decodeSyllable sl w = .ok i

/-- R24 to R29, R92, R103, R104, R115, R222: what the registers show after reset, as far as the manual gives their reset values: THSTAT is
WARM_STANDBY in the WARM band with set N and the nominal refresh rate, no event stands, the mailbox is idle, no session exists, every WINMODE is at
its reset value, and so is the FMT of a context as it is made; that THCOUNT and the time are 0 is the model's choice (log entry 5). -/
def Obligations.ResetValues : Prop :=
  State.reset.thermal.thstat = 0x1431#32 ∧ State.reset.thermal.word 0x20C = 0#32 ∧ State.reset.thermal.word 0x210 = 0#32 ∧
  State.reset.thermal.word 0x214 = 0#32 ∧ State.reset.thermal.word 0x218 = 0#32 ∧ State.reset.thermal.word 0x21C = 0#32 ∧
  State.reset.mbox.done = 0#32 ∧ State.reset.sess.sesstat = 0#32 ∧ State.reset.tbctl.word = 0#32 ∧ State.reset.time = 0 ∧
  State.reset.ctxs = [] ∧ (∀ n, (State.reset.cluster n).winmode = 1#3) ∧ (∀ d, State.reset.tvec d = 0#64) ∧
  (∀ n, (State.reset.chan n).state = .idle) ∧
  ({} : Ctx).fmt = 0x2120#64

/-- The memories stand in the canonical form after reset. -/
def Obligations.ResetMemories : Prop :=
 State.reset.memWf = true

/-- Every step keeps the canonical form of every memory: home and host memory, the view of each die, the pools and carve-outs of the cores, the memory
of the clusters, and the images of captured gangs. -/
def Obligations.StepKeepsMemories : Prop :=
  ∀ s t : State, s.memWf = true → step s = .next t → t.memWf = true
end

