-- ==== Sys2Proof/Laws/Decode.lean ====
section
/-! SUPPORT. Fields of concatenated words, and that each operand layout is read back from the bits that it packs. -/

namespace Sys2Proof

/-- A field that lies above the low part of a concatenation. -/
theorem extract_append_hi {m n : Nat} (x : BitVec m) (y : BitVec n) (lo k : Nat) (h : n ≤ lo) :
    (x ++ y).extractLsb' lo k = x.extractLsb' (lo - n) k := by
  apply BitVec.eq_of_getLsbD_eq; intro i hi
  simp [BitVec.getLsbD_append, BitVec.getLsbD_extractLsb', show ¬ (lo + i < n) by omega, show lo + i - n = lo - n + i by omega]

/-- A field that lies in the low part of a concatenation. -/
theorem extract_append_lo {m n : Nat} (x : BitVec m) (y : BitVec n) (lo k : Nat) (h : lo + k ≤ n) :
    (x ++ y).extractLsb' lo k = y.extractLsb' lo k := by
  apply BitVec.eq_of_getLsbD_eq; intro i hi
  simp [BitVec.getLsbD_append, hi, show lo + i < n by omega]

/-- A field that is the whole of a word. -/
theorem extract_whole {n : Nat} (x : BitVec n) : x.extractLsb' 0 n = x := by simp

/-- The opcode of a syllable. -/
theorem syllable_op (tt : BitVec 8) (a b c : BitVec 4) (op : BitVec 6) (body : BitVec 38) :
    (tt ++ a ++ b ++ c ++ op ++ body).extractLsb' 38 6 = op :=
  (extract_append_hi _ _ _ _ (by decide)).trans ((extract_append_lo _ _ _ _ (by decide)).trans (extract_whole op))

/-- The guard of a syllable. -/
theorem syllable_guard (g : Guard) (op : BitVec 6) (body : BitVec 38) :
    Guard.unpack (g.tt ++ g.pa ++ g.pb ++ g.pc ++ op ++ body) = g := by
  obtain ⟨tt, a, b, c⟩ := g
  simp only [Guard.unpack, Guard.mk.injEq]
  refine ⟨?_, ?_, ?_, ?_⟩ <;> refine (extract_append_hi _ _ _ _ (by decide)).trans ((extract_append_hi _ _ _ _ (by decide)).trans ?_)
  · exact (extract_append_hi _ _ _ _ (by decide)).trans ((extract_append_hi _ _ _ _ (by decide)).trans
      ((extract_append_hi _ _ _ _ (by decide)).trans (extract_whole tt)))
  · exact (extract_append_hi _ _ _ _ (by decide)).trans ((extract_append_hi _ _ _ _ (by decide)).trans
      ((extract_append_lo _ _ _ _ (by decide)).trans (extract_whole a)))
  · exact (extract_append_hi _ _ _ _ (by decide)).trans ((extract_append_lo _ _ _ _ (by decide)).trans (extract_whole b))
  · exact (extract_append_lo _ _ _ _ (by decide)).trans (extract_whole c)

/-! ### Each layout -/

/-- CForm is read back from its bits. -/
theorem CForm.unpack_pack (f : CForm) (x : BitVec 26) : CForm.unpack f.g (x ++ f.pack) = f := by
  obtain ⟨x_g, x_j, x_pd, x_pe, x_x, x_imm⟩ := f
  simp only [CForm.unpack, CForm.mk.injEq, true_and]
  refine ⟨?_, ?_, ?_, ?_, ?_⟩ <;> refine (extract_append_lo x _ _ _ (by decide)).trans ?_
  · exact (extract_append_hi _ _ _ _ (by decide)).trans ((extract_append_hi _ _ _ _ (by decide)).trans ((extract_append_hi _ _ _ _
      (by decide)).trans ((extract_append_hi _ _ _ _ (by decide)).trans (extract_whole x_j))))
  · exact (extract_append_hi _ _ _ _ (by decide)).trans ((extract_append_hi _ _ _ _ (by decide)).trans ((extract_append_hi _ _ _ _
      (by decide)).trans ((extract_append_lo _ _ _ _ (by decide)).trans (extract_whole x_pd))))
  · exact (extract_append_hi _ _ _ _ (by decide)).trans ((extract_append_hi _ _ _ _ (by decide)).trans ((extract_append_lo _ _ _ _
      (by decide)).trans (extract_whole x_pe)))
  · exact (extract_append_hi _ _ _ _ (by decide)).trans ((extract_append_lo _ _ _ _ (by decide)).trans (extract_whole x_x))
  · exact (extract_append_lo _ _ _ _ (by decide)).trans (extract_whole x_imm)

/-- SReg is read back from its bits. -/
theorem SReg.unpack_pack (f : SReg) (x : BitVec 26) : SReg.unpack f.g f.slot (x ++ f.pack) = f := by
  obtain ⟨x_g, x_slot, x_rd, x_rs1, x_rs2, x_q, x_rest⟩ := f
  simp only [SReg.unpack, SReg.mk.injEq, true_and]
  refine ⟨?_, ?_, ?_, ?_, ?_⟩ <;> refine (extract_append_lo x _ _ _ (by decide)).trans ?_
  · exact (extract_append_hi _ _ _ _ (by decide)).trans ((extract_append_hi _ _ _ _ (by decide)).trans ((extract_append_hi _ _ _ _
      (by decide)).trans ((extract_append_hi _ _ _ _ (by decide)).trans (extract_whole x_rd))))
  · exact (extract_append_hi _ _ _ _ (by decide)).trans ((extract_append_hi _ _ _ _ (by decide)).trans ((extract_append_hi _ _ _ _
      (by decide)).trans ((extract_append_lo _ _ _ _ (by decide)).trans (extract_whole x_rs1))))
  · exact (extract_append_hi _ _ _ _ (by decide)).trans ((extract_append_hi _ _ _ _ (by decide)).trans ((extract_append_lo _ _ _ _
      (by decide)).trans (extract_whole x_rs2)))
  · exact (extract_append_hi _ _ _ _ (by decide)).trans ((extract_append_lo _ _ _ _ (by decide)).trans (extract_whole x_q))
  · exact (extract_append_lo _ _ _ _ (by decide)).trans (extract_whole x_rest)

/-- SImm is read back from its bits. -/
theorem SImm.unpack_pack (f : SImm) (x : BitVec 26) : SImm.unpack f.g f.slot (x ++ f.pack) = f := by
  obtain ⟨x_g, x_slot, x_rd, x_rs1, x_q, x_rest, x_imm⟩ := f
  simp only [SImm.unpack, SImm.mk.injEq, true_and]
  refine ⟨?_, ?_, ?_, ?_, ?_⟩ <;> refine (extract_append_lo x _ _ _ (by decide)).trans ?_
  · exact (extract_append_hi _ _ _ _ (by decide)).trans ((extract_append_hi _ _ _ _ (by decide)).trans ((extract_append_hi _ _ _ _
      (by decide)).trans ((extract_append_hi _ _ _ _ (by decide)).trans (extract_whole x_rd))))
  · exact (extract_append_hi _ _ _ _ (by decide)).trans ((extract_append_hi _ _ _ _ (by decide)).trans ((extract_append_hi _ _ _ _
      (by decide)).trans ((extract_append_lo _ _ _ _ (by decide)).trans (extract_whole x_rs1))))
  · exact (extract_append_hi _ _ _ _ (by decide)).trans ((extract_append_hi _ _ _ _ (by decide)).trans ((extract_append_lo _ _ _ _
      (by decide)).trans (extract_whole x_q)))
  · exact (extract_append_hi _ _ _ _ (by decide)).trans ((extract_append_lo _ _ _ _ (by decide)).trans (extract_whole x_rest))
  · exact (extract_append_lo _ _ _ _ (by decide)).trans (extract_whole x_imm)

/-- VReg is read back from its bits. -/
theorem VReg.unpack_pack (f : VReg) (x : BitVec 26) : VReg.unpack f.g f.slot (x ++ f.pack) = f := by
  obtain ⟨x_g, x_slot, x_vd, x_vs1, x_kind, x_op2, x_ty, x_step, x_var⟩ := f
  simp only [VReg.unpack, VReg.mk.injEq, true_and]
  refine ⟨?_, ?_, ?_, ?_, ?_, ?_, ?_⟩ <;> refine (extract_append_lo x _ _ _ (by decide)).trans ?_
  · exact (extract_append_hi _ _ _ _ (by decide)).trans ((extract_append_hi _ _ _ _ (by decide)).trans ((extract_append_hi _ _ _ _
      (by decide)).trans ((extract_append_hi _ _ _ _ (by decide)).trans ((extract_append_hi _ _ _ _ (by decide)).trans ((extract_append_hi _ _ _ _
      (by decide)).trans (extract_whole x_vd))))))
  · exact (extract_append_hi _ _ _ _ (by decide)).trans ((extract_append_hi _ _ _ _ (by decide)).trans ((extract_append_hi _ _ _ _
      (by decide)).trans ((extract_append_hi _ _ _ _ (by decide)).trans ((extract_append_hi _ _ _ _ (by decide)).trans ((extract_append_lo _ _ _ _
      (by decide)).trans (extract_whole x_vs1))))))
  · exact (extract_append_hi _ _ _ _ (by decide)).trans ((extract_append_hi _ _ _ _ (by decide)).trans ((extract_append_hi _ _ _ _
      (by decide)).trans ((extract_append_hi _ _ _ _ (by decide)).trans ((extract_append_lo _ _ _ _ (by decide)).trans (extract_whole x_kind)))))
  · exact (extract_append_hi _ _ _ _ (by decide)).trans ((extract_append_hi _ _ _ _ (by decide)).trans ((extract_append_hi _ _ _ _
      (by decide)).trans ((extract_append_lo _ _ _ _ (by decide)).trans (extract_whole x_op2))))
  · exact (extract_append_hi _ _ _ _ (by decide)).trans ((extract_append_hi _ _ _ _ (by decide)).trans ((extract_append_lo _ _ _ _
      (by decide)).trans (extract_whole x_ty)))
  · exact (extract_append_hi _ _ _ _ (by decide)).trans ((extract_append_lo _ _ _ _ (by decide)).trans (extract_whole x_step))
  · exact (extract_append_lo _ _ _ _ (by decide)).trans (extract_whole x_var)

/-- VImm is read back from its bits. -/
theorem VImm.unpack_pack (f : VImm) (x : BitVec 26) : VImm.unpack f.g f.slot (x ++ f.pack) = f := by
  obtain ⟨x_g, x_slot, x_vd, x_vs1, x_imm⟩ := f
  simp only [VImm.unpack, VImm.mk.injEq, true_and]
  refine ⟨?_, ?_, ?_⟩ <;> refine (extract_append_lo x _ _ _ (by decide)).trans ?_
  · exact (extract_append_hi _ _ _ _ (by decide)).trans ((extract_append_hi _ _ _ _ (by decide)).trans (extract_whole x_vd))
  · exact (extract_append_hi _ _ _ _ (by decide)).trans ((extract_append_lo _ _ _ _ (by decide)).trans (extract_whole x_vs1))
  · exact (extract_append_lo _ _ _ _ (by decide)).trans (extract_whole x_imm)

/-- MMac is read back from its bits. -/
theorem MMac.unpack_pack (f : MMac) (x : BitVec 26) : MMac.unpack f.g (x ++ f.pack) = f := by
  obtain ⟨x_g, x_z, x_ma, x_mb, x_kq, x_format, x_ta, x_tb, x_ovw, x_gauge, x_rest⟩ := f
  simp only [MMac.unpack, MMac.mk.injEq, true_and]
  refine ⟨?_, ?_, ?_, ?_, ?_, ?_, ?_, ?_, ?_, ?_⟩ <;> refine (extract_append_lo x _ _ _ (by decide)).trans ?_
  · exact (extract_append_hi _ _ _ _ (by decide)).trans ((extract_append_hi _ _ _ _ (by decide)).trans ((extract_append_hi _ _ _ _
      (by decide)).trans ((extract_append_hi _ _ _ _ (by decide)).trans ((extract_append_hi _ _ _ _ (by decide)).trans ((extract_append_hi _ _ _ _
      (by decide)).trans ((extract_append_hi _ _ _ _ (by decide)).trans ((extract_append_hi _ _ _ _ (by decide)).trans ((extract_append_hi _ _ _ _
      (by decide)).trans (extract_whole x_z)))))))))
  · exact (extract_append_hi _ _ _ _ (by decide)).trans ((extract_append_hi _ _ _ _ (by decide)).trans ((extract_append_hi _ _ _ _
      (by decide)).trans ((extract_append_hi _ _ _ _ (by decide)).trans ((extract_append_hi _ _ _ _ (by decide)).trans ((extract_append_hi _ _ _ _
      (by decide)).trans ((extract_append_hi _ _ _ _ (by decide)).trans ((extract_append_hi _ _ _ _ (by decide)).trans ((extract_append_lo _ _ _ _
      (by decide)).trans (extract_whole x_ma)))))))))
  · exact (extract_append_hi _ _ _ _ (by decide)).trans ((extract_append_hi _ _ _ _ (by decide)).trans ((extract_append_hi _ _ _ _
      (by decide)).trans ((extract_append_hi _ _ _ _ (by decide)).trans ((extract_append_hi _ _ _ _ (by decide)).trans ((extract_append_hi _ _ _ _
      (by decide)).trans ((extract_append_hi _ _ _ _ (by decide)).trans ((extract_append_lo _ _ _ _ (by decide)).trans (extract_whole x_mb))))))))
  · exact (extract_append_hi _ _ _ _ (by decide)).trans ((extract_append_hi _ _ _ _ (by decide)).trans ((extract_append_hi _ _ _ _
      (by decide)).trans ((extract_append_hi _ _ _ _ (by decide)).trans ((extract_append_hi _ _ _ _ (by decide)).trans ((extract_append_hi _ _ _ _
      (by decide)).trans ((extract_append_lo _ _ _ _ (by decide)).trans (extract_whole x_kq)))))))
  · exact (extract_append_hi _ _ _ _ (by decide)).trans ((extract_append_hi _ _ _ _ (by decide)).trans ((extract_append_hi _ _ _ _
      (by decide)).trans ((extract_append_hi _ _ _ _ (by decide)).trans ((extract_append_hi _ _ _ _ (by decide)).trans ((extract_append_lo _ _ _ _
      (by decide)).trans (extract_whole x_format))))))
  · exact (extract_append_hi _ _ _ _ (by decide)).trans ((extract_append_hi _ _ _ _ (by decide)).trans ((extract_append_hi _ _ _ _
      (by decide)).trans ((extract_append_hi _ _ _ _ (by decide)).trans ((extract_append_lo _ _ _ _ (by decide)).trans (extract_whole x_ta)))))
  · exact (extract_append_hi _ _ _ _ (by decide)).trans ((extract_append_hi _ _ _ _ (by decide)).trans ((extract_append_hi _ _ _ _
      (by decide)).trans ((extract_append_lo _ _ _ _ (by decide)).trans (extract_whole x_tb))))
  · exact (extract_append_hi _ _ _ _ (by decide)).trans ((extract_append_hi _ _ _ _ (by decide)).trans ((extract_append_lo _ _ _ _
      (by decide)).trans (extract_whole x_ovw)))
  · exact (extract_append_hi _ _ _ _ (by decide)).trans ((extract_append_lo _ _ _ _ (by decide)).trans (extract_whole x_gauge))
  · exact (extract_append_lo _ _ _ _ (by decide)).trans (extract_whole x_rest)

/-- MCfg is read back from its bits. -/
theorem MCfg.unpack_pack (f : MCfg) (x : BitVec 26) : MCfg.unpack f.g (x ++ f.pack) = f := by
  obtain ⟨x_g, x_z, x_ma, x_rest⟩ := f
  simp only [MCfg.unpack, MCfg.mk.injEq, true_and]
  refine ⟨?_, ?_, ?_⟩ <;> refine (extract_append_lo x _ _ _ (by decide)).trans ?_
  · exact (extract_append_hi _ _ _ _ (by decide)).trans ((extract_append_hi _ _ _ _ (by decide)).trans (extract_whole x_z))
  · exact (extract_append_hi _ _ _ _ (by decide)).trans ((extract_append_lo _ _ _ _ (by decide)).trans (extract_whole x_ma))
  · exact (extract_append_lo _ _ _ _ (by decide)).trans (extract_whole x_rest)

/-- MZero is read back from its bits. -/
theorem MZero.unpack_pack (f : MZero) (x : BitVec 26) : MZero.unpack f.g (x ++ f.pack) = f := by
  obtain ⟨x_g, x_z, x_rest⟩ := f
  simp only [MZero.unpack, MZero.mk.injEq, true_and]
  refine ⟨?_, ?_⟩ <;> refine (extract_append_lo x _ _ _ (by decide)).trans ?_
  · exact (extract_append_hi _ _ _ _ (by decide)).trans (extract_whole x_z)
  · exact (extract_append_lo _ _ _ _ (by decide)).trans (extract_whole x_rest)

/-- MRead is read back from its bits. -/
theorem MRead.unpack_pack (f : MRead) (x : BitVec 26) : MRead.unpack f.g (x ++ f.pack) = f := by
  obtain ⟨x_g, x_z, x_f, x_rp, x_np, x_rest⟩ := f
  simp only [MRead.unpack, MRead.mk.injEq, true_and]
  refine ⟨?_, ?_, ?_, ?_, ?_⟩ <;> refine (extract_append_lo x _ _ _ (by decide)).trans ?_
  · exact (extract_append_hi _ _ _ _ (by decide)).trans ((extract_append_hi _ _ _ _ (by decide)).trans ((extract_append_hi _ _ _ _
      (by decide)).trans ((extract_append_hi _ _ _ _ (by decide)).trans (extract_whole x_z))))
  · exact (extract_append_hi _ _ _ _ (by decide)).trans ((extract_append_hi _ _ _ _ (by decide)).trans ((extract_append_hi _ _ _ _
      (by decide)).trans ((extract_append_lo _ _ _ _ (by decide)).trans (extract_whole x_f))))
  · exact (extract_append_hi _ _ _ _ (by decide)).trans ((extract_append_hi _ _ _ _ (by decide)).trans ((extract_append_lo _ _ _ _
      (by decide)).trans (extract_whole x_rp)))
  · exact (extract_append_hi _ _ _ _ (by decide)).trans ((extract_append_lo _ _ _ _ (by decide)).trans (extract_whole x_np))
  · exact (extract_append_lo _ _ _ _ (by decide)).trans (extract_whole x_rest)

/-- MWrite is read back from its bits. -/
theorem MWrite.unpack_pack (f : MWrite) (x : BitVec 26) : MWrite.unpack f.g (x ++ f.pack) = f := by
  obtain ⟨x_g, x_z, x_ma, x_rp, x_np, x_rest⟩ := f
  simp only [MWrite.unpack, MWrite.mk.injEq, true_and]
  refine ⟨?_, ?_, ?_, ?_, ?_⟩ <;> refine (extract_append_lo x _ _ _ (by decide)).trans ?_
  · exact (extract_append_hi _ _ _ _ (by decide)).trans ((extract_append_hi _ _ _ _ (by decide)).trans ((extract_append_hi _ _ _ _
      (by decide)).trans ((extract_append_hi _ _ _ _ (by decide)).trans (extract_whole x_z))))
  · exact (extract_append_hi _ _ _ _ (by decide)).trans ((extract_append_hi _ _ _ _ (by decide)).trans ((extract_append_hi _ _ _ _
      (by decide)).trans ((extract_append_lo _ _ _ _ (by decide)).trans (extract_whole x_ma))))
  · exact (extract_append_hi _ _ _ _ (by decide)).trans ((extract_append_hi _ _ _ _ (by decide)).trans ((extract_append_lo _ _ _ _
      (by decide)).trans (extract_whole x_rp)))
  · exact (extract_append_hi _ _ _ _ (by decide)).trans ((extract_append_lo _ _ _ _ (by decide)).trans (extract_whole x_np))
  · exact (extract_append_lo _ _ _ _ (by decide)).trans (extract_whole x_rest)

/-- MJoin is read back from its bits. -/
theorem MJoin.unpack_pack (f : MJoin) (x : BitVec 26) : MJoin.unpack f.g (x ++ f.pack) = f := by
  obtain ⟨x_g, x_z, x_partner, x_jn, x_h, x_token, x_rest⟩ := f
  simp only [MJoin.unpack, MJoin.mk.injEq, true_and]
  refine ⟨?_, ?_, ?_, ?_, ?_, ?_⟩ <;> refine (extract_append_lo x _ _ _ (by decide)).trans ?_
  · exact (extract_append_hi _ _ _ _ (by decide)).trans ((extract_append_hi _ _ _ _ (by decide)).trans ((extract_append_hi _ _ _ _
      (by decide)).trans ((extract_append_hi _ _ _ _ (by decide)).trans ((extract_append_hi _ _ _ _ (by decide)).trans (extract_whole x_z)))))
  · exact (extract_append_hi _ _ _ _ (by decide)).trans ((extract_append_hi _ _ _ _ (by decide)).trans ((extract_append_hi _ _ _ _
      (by decide)).trans ((extract_append_hi _ _ _ _ (by decide)).trans ((extract_append_lo _ _ _ _ (by decide)).trans (extract_whole x_partner)))))
  · exact (extract_append_hi _ _ _ _ (by decide)).trans ((extract_append_hi _ _ _ _ (by decide)).trans ((extract_append_hi _ _ _ _
      (by decide)).trans ((extract_append_lo _ _ _ _ (by decide)).trans (extract_whole x_jn))))
  · exact (extract_append_hi _ _ _ _ (by decide)).trans ((extract_append_hi _ _ _ _ (by decide)).trans ((extract_append_lo _ _ _ _
      (by decide)).trans (extract_whole x_h)))
  · exact (extract_append_hi _ _ _ _ (by decide)).trans ((extract_append_lo _ _ _ _ (by decide)).trans (extract_whole x_token))
  · exact (extract_append_lo _ _ _ _ (by decide)).trans (extract_whole x_rest)

/-- MStat is read back from its bits. -/
theorem MStat.unpack_pack (f : MStat) (x : BitVec 26) : MStat.unpack f.g (x ++ f.pack) = f := by
  obtain ⟨x_g, x_z, x_ma, x_clr, x_rest⟩ := f
  simp only [MStat.unpack, MStat.mk.injEq, true_and]
  refine ⟨?_, ?_, ?_, ?_⟩ <;> refine (extract_append_lo x _ _ _ (by decide)).trans ?_
  · exact (extract_append_hi _ _ _ _ (by decide)).trans ((extract_append_hi _ _ _ _ (by decide)).trans ((extract_append_hi _ _ _ _
      (by decide)).trans (extract_whole x_z)))
  · exact (extract_append_hi _ _ _ _ (by decide)).trans ((extract_append_hi _ _ _ _ (by decide)).trans ((extract_append_lo _ _ _ _
      (by decide)).trans (extract_whole x_ma)))
  · exact (extract_append_hi _ _ _ _ (by decide)).trans ((extract_append_lo _ _ _ _ (by decide)).trans (extract_whole x_clr))
  · exact (extract_append_lo _ _ _ _ (by decide)).trans (extract_whole x_rest)

/-- LGen is read back from its bits. -/
theorem LGen.unpack_pack (f : LGen) (x : BitVec 26) : LGen.unpack f.g (x ++ f.pack) = f := by
  obtain ⟨x_g, x_file, x_reg, x_base, x_ps, x_off, x_size, x_token⟩ := f
  simp only [LGen.unpack, LGen.mk.injEq, true_and]
  refine ⟨?_, ?_, ?_, ?_, ?_, ?_, ?_⟩ <;> refine (extract_append_lo x _ _ _ (by decide)).trans ?_
  · exact (extract_append_hi _ _ _ _ (by decide)).trans ((extract_append_hi _ _ _ _ (by decide)).trans ((extract_append_hi _ _ _ _
      (by decide)).trans ((extract_append_hi _ _ _ _ (by decide)).trans ((extract_append_hi _ _ _ _ (by decide)).trans ((extract_append_hi _ _ _ _
      (by decide)).trans (extract_whole x_file))))))
  · exact (extract_append_hi _ _ _ _ (by decide)).trans ((extract_append_hi _ _ _ _ (by decide)).trans ((extract_append_hi _ _ _ _
      (by decide)).trans ((extract_append_hi _ _ _ _ (by decide)).trans ((extract_append_hi _ _ _ _ (by decide)).trans ((extract_append_lo _ _ _ _
      (by decide)).trans (extract_whole x_reg))))))
  · exact (extract_append_hi _ _ _ _ (by decide)).trans ((extract_append_hi _ _ _ _ (by decide)).trans ((extract_append_hi _ _ _ _
      (by decide)).trans ((extract_append_hi _ _ _ _ (by decide)).trans ((extract_append_lo _ _ _ _ (by decide)).trans (extract_whole x_base)))))
  · exact (extract_append_hi _ _ _ _ (by decide)).trans ((extract_append_hi _ _ _ _ (by decide)).trans ((extract_append_hi _ _ _ _
      (by decide)).trans ((extract_append_lo _ _ _ _ (by decide)).trans (extract_whole x_ps))))
  · exact (extract_append_hi _ _ _ _ (by decide)).trans ((extract_append_hi _ _ _ _ (by decide)).trans ((extract_append_lo _ _ _ _
      (by decide)).trans (extract_whole x_off)))
  · exact (extract_append_hi _ _ _ _ (by decide)).trans ((extract_append_lo _ _ _ _ (by decide)).trans (extract_whole x_size))
  · exact (extract_append_lo _ _ _ _ (by decide)).trans (extract_whole x_token)

/-- LStr is read back from its bits. -/
theorem LStr.unpack_pack (f : LStr) (x : BitVec 26) : LStr.unpack f.g (x ++ f.pack) = f := by
  obtain ⟨x_g, x_file, x_reg, x_base, x_sd, x_gauge, x_off, x_size, x_token⟩ := f
  simp only [LStr.unpack, LStr.mk.injEq, true_and]
  refine ⟨?_, ?_, ?_, ?_, ?_, ?_, ?_, ?_⟩ <;> refine (extract_append_lo x _ _ _ (by decide)).trans ?_
  · exact (extract_append_hi _ _ _ _ (by decide)).trans ((extract_append_hi _ _ _ _ (by decide)).trans ((extract_append_hi _ _ _ _
      (by decide)).trans ((extract_append_hi _ _ _ _ (by decide)).trans ((extract_append_hi _ _ _ _ (by decide)).trans ((extract_append_hi _ _ _ _
      (by decide)).trans ((extract_append_hi _ _ _ _ (by decide)).trans (extract_whole x_file)))))))
  · exact (extract_append_hi _ _ _ _ (by decide)).trans ((extract_append_hi _ _ _ _ (by decide)).trans ((extract_append_hi _ _ _ _
      (by decide)).trans ((extract_append_hi _ _ _ _ (by decide)).trans ((extract_append_hi _ _ _ _ (by decide)).trans ((extract_append_hi _ _ _ _
      (by decide)).trans ((extract_append_lo _ _ _ _ (by decide)).trans (extract_whole x_reg)))))))
  · exact (extract_append_hi _ _ _ _ (by decide)).trans ((extract_append_hi _ _ _ _ (by decide)).trans ((extract_append_hi _ _ _ _
      (by decide)).trans ((extract_append_hi _ _ _ _ (by decide)).trans ((extract_append_hi _ _ _ _ (by decide)).trans ((extract_append_lo _ _ _ _
      (by decide)).trans (extract_whole x_base))))))
  · exact (extract_append_hi _ _ _ _ (by decide)).trans ((extract_append_hi _ _ _ _ (by decide)).trans ((extract_append_hi _ _ _ _
      (by decide)).trans ((extract_append_hi _ _ _ _ (by decide)).trans ((extract_append_lo _ _ _ _ (by decide)).trans (extract_whole x_sd)))))
  · exact (extract_append_hi _ _ _ _ (by decide)).trans ((extract_append_hi _ _ _ _ (by decide)).trans ((extract_append_hi _ _ _ _
      (by decide)).trans ((extract_append_lo _ _ _ _ (by decide)).trans (extract_whole x_gauge))))
  · exact (extract_append_hi _ _ _ _ (by decide)).trans ((extract_append_hi _ _ _ _ (by decide)).trans ((extract_append_lo _ _ _ _
      (by decide)).trans (extract_whole x_off)))
  · exact (extract_append_hi _ _ _ _ (by decide)).trans ((extract_append_lo _ _ _ _ (by decide)).trans (extract_whole x_size))
  · exact (extract_append_lo _ _ _ _ (by decide)).trans (extract_whole x_token)

/-- LIdx is read back from its bits. -/
theorem LIdx.unpack_pack (f : LIdx) (x : BitVec 26) : LIdx.unpack f.g (x ++ f.pack) = f := by
  obtain ⟨x_g, x_file, x_reg, x_ix, x_base, x_sh, x_rest, x_size, x_token⟩ := f
  simp only [LIdx.unpack, LIdx.mk.injEq, true_and]
  refine ⟨?_, ?_, ?_, ?_, ?_, ?_, ?_, ?_⟩ <;> refine (extract_append_lo x _ _ _ (by decide)).trans ?_
  · exact (extract_append_hi _ _ _ _ (by decide)).trans ((extract_append_hi _ _ _ _ (by decide)).trans ((extract_append_hi _ _ _ _
      (by decide)).trans ((extract_append_hi _ _ _ _ (by decide)).trans ((extract_append_hi _ _ _ _ (by decide)).trans ((extract_append_hi _ _ _ _
      (by decide)).trans ((extract_append_hi _ _ _ _ (by decide)).trans (extract_whole x_file)))))))
  · exact (extract_append_hi _ _ _ _ (by decide)).trans ((extract_append_hi _ _ _ _ (by decide)).trans ((extract_append_hi _ _ _ _
      (by decide)).trans ((extract_append_hi _ _ _ _ (by decide)).trans ((extract_append_hi _ _ _ _ (by decide)).trans ((extract_append_hi _ _ _ _
      (by decide)).trans ((extract_append_lo _ _ _ _ (by decide)).trans (extract_whole x_reg)))))))
  · exact (extract_append_hi _ _ _ _ (by decide)).trans ((extract_append_hi _ _ _ _ (by decide)).trans ((extract_append_hi _ _ _ _
      (by decide)).trans ((extract_append_hi _ _ _ _ (by decide)).trans ((extract_append_hi _ _ _ _ (by decide)).trans ((extract_append_lo _ _ _ _
      (by decide)).trans (extract_whole x_ix))))))
  · exact (extract_append_hi _ _ _ _ (by decide)).trans ((extract_append_hi _ _ _ _ (by decide)).trans ((extract_append_hi _ _ _ _
      (by decide)).trans ((extract_append_hi _ _ _ _ (by decide)).trans ((extract_append_lo _ _ _ _ (by decide)).trans (extract_whole x_base)))))
  · exact (extract_append_hi _ _ _ _ (by decide)).trans ((extract_append_hi _ _ _ _ (by decide)).trans ((extract_append_hi _ _ _ _
      (by decide)).trans ((extract_append_lo _ _ _ _ (by decide)).trans (extract_whole x_sh))))
  · exact (extract_append_hi _ _ _ _ (by decide)).trans ((extract_append_hi _ _ _ _ (by decide)).trans ((extract_append_lo _ _ _ _
      (by decide)).trans (extract_whole x_rest)))
  · exact (extract_append_hi _ _ _ _ (by decide)).trans ((extract_append_lo _ _ _ _ (by decide)).trans (extract_whole x_size))
  · exact (extract_append_lo _ _ _ _ (by decide)).trans (extract_whole x_token)

/-- LAtom is read back from its bits. -/
theorem LAtom.unpack_pack (f : LAtom) (x : BitVec 26) : LAtom.unpack f.g (x ++ f.pack) = f := by
  obtain ⟨x_g, x_file, x_rd, x_rs, x_base, x_ak, x_aop, x_sz, x_ord, x_scope, x_sx, x_rest, x_token⟩ := f
  simp only [LAtom.unpack, LAtom.mk.injEq, true_and]
  refine ⟨?_, ?_, ?_, ?_, ?_, ?_, ?_, ?_, ?_, ?_, ?_, ?_⟩ <;> refine (extract_append_lo x _ _ _ (by decide)).trans ?_
  · exact (extract_append_hi _ _ _ _ (by decide)).trans ((extract_append_hi _ _ _ _ (by decide)).trans ((extract_append_hi _ _ _ _
      (by decide)).trans ((extract_append_hi _ _ _ _ (by decide)).trans ((extract_append_hi _ _ _ _ (by decide)).trans ((extract_append_hi _ _ _ _
      (by decide)).trans ((extract_append_hi _ _ _ _ (by decide)).trans ((extract_append_hi _ _ _ _ (by decide)).trans ((extract_append_hi _ _ _ _
      (by decide)).trans ((extract_append_hi _ _ _ _ (by decide)).trans ((extract_append_hi _ _ _ _ (by decide)).trans
      (extract_whole x_file)))))))))))
  · exact (extract_append_hi _ _ _ _ (by decide)).trans ((extract_append_hi _ _ _ _ (by decide)).trans ((extract_append_hi _ _ _ _
      (by decide)).trans ((extract_append_hi _ _ _ _ (by decide)).trans ((extract_append_hi _ _ _ _ (by decide)).trans ((extract_append_hi _ _ _ _
      (by decide)).trans ((extract_append_hi _ _ _ _ (by decide)).trans ((extract_append_hi _ _ _ _ (by decide)).trans ((extract_append_hi _ _ _ _
      (by decide)).trans ((extract_append_hi _ _ _ _ (by decide)).trans ((extract_append_lo _ _ _ _ (by decide)).trans (extract_whole x_rd)))))))))))
  · exact (extract_append_hi _ _ _ _ (by decide)).trans ((extract_append_hi _ _ _ _ (by decide)).trans ((extract_append_hi _ _ _ _
      (by decide)).trans ((extract_append_hi _ _ _ _ (by decide)).trans ((extract_append_hi _ _ _ _ (by decide)).trans ((extract_append_hi _ _ _ _
      (by decide)).trans ((extract_append_hi _ _ _ _ (by decide)).trans ((extract_append_hi _ _ _ _ (by decide)).trans ((extract_append_hi _ _ _ _
      (by decide)).trans ((extract_append_lo _ _ _ _ (by decide)).trans (extract_whole x_rs))))))))))
  · exact (extract_append_hi _ _ _ _ (by decide)).trans ((extract_append_hi _ _ _ _ (by decide)).trans ((extract_append_hi _ _ _ _
      (by decide)).trans ((extract_append_hi _ _ _ _ (by decide)).trans ((extract_append_hi _ _ _ _ (by decide)).trans ((extract_append_hi _ _ _ _
      (by decide)).trans ((extract_append_hi _ _ _ _ (by decide)).trans ((extract_append_hi _ _ _ _ (by decide)).trans ((extract_append_lo _ _ _ _
      (by decide)).trans (extract_whole x_base)))))))))
  · exact (extract_append_hi _ _ _ _ (by decide)).trans ((extract_append_hi _ _ _ _ (by decide)).trans ((extract_append_hi _ _ _ _
      (by decide)).trans ((extract_append_hi _ _ _ _ (by decide)).trans ((extract_append_hi _ _ _ _ (by decide)).trans ((extract_append_hi _ _ _ _
      (by decide)).trans ((extract_append_hi _ _ _ _ (by decide)).trans ((extract_append_lo _ _ _ _ (by decide)).trans (extract_whole x_ak))))))))
  · exact (extract_append_hi _ _ _ _ (by decide)).trans ((extract_append_hi _ _ _ _ (by decide)).trans ((extract_append_hi _ _ _ _
      (by decide)).trans ((extract_append_hi _ _ _ _ (by decide)).trans ((extract_append_hi _ _ _ _ (by decide)).trans ((extract_append_hi _ _ _ _
      (by decide)).trans ((extract_append_lo _ _ _ _ (by decide)).trans (extract_whole x_aop)))))))
  · exact (extract_append_hi _ _ _ _ (by decide)).trans ((extract_append_hi _ _ _ _ (by decide)).trans ((extract_append_hi _ _ _ _
      (by decide)).trans ((extract_append_hi _ _ _ _ (by decide)).trans ((extract_append_hi _ _ _ _ (by decide)).trans ((extract_append_lo _ _ _ _
      (by decide)).trans (extract_whole x_sz))))))
  · exact (extract_append_hi _ _ _ _ (by decide)).trans ((extract_append_hi _ _ _ _ (by decide)).trans ((extract_append_hi _ _ _ _
      (by decide)).trans ((extract_append_hi _ _ _ _ (by decide)).trans ((extract_append_lo _ _ _ _ (by decide)).trans (extract_whole x_ord)))))
  · exact (extract_append_hi _ _ _ _ (by decide)).trans ((extract_append_hi _ _ _ _ (by decide)).trans ((extract_append_hi _ _ _ _
      (by decide)).trans ((extract_append_lo _ _ _ _ (by decide)).trans (extract_whole x_scope))))
  · exact (extract_append_hi _ _ _ _ (by decide)).trans ((extract_append_hi _ _ _ _ (by decide)).trans ((extract_append_lo _ _ _ _
      (by decide)).trans (extract_whole x_sx)))
  · exact (extract_append_hi _ _ _ _ (by decide)).trans ((extract_append_lo _ _ _ _ (by decide)).trans (extract_whole x_rest))
  · exact (extract_append_lo _ _ _ _ (by decide)).trans (extract_whole x_token)

/-- LVAtom is read back from its bits. -/
theorem LVAtom.unpack_pack (f : LVAtom) (x : BitVec 26) : LVAtom.unpack f.g (x ++ f.pack) = f := by
  obtain ⟨x_g, x_file, x_reg, x_ix, x_base, x_aop, x_ord, x_scope, x_ret, x_token⟩ := f
  simp only [LVAtom.unpack, LVAtom.mk.injEq, true_and]
  refine ⟨?_, ?_, ?_, ?_, ?_, ?_, ?_, ?_, ?_⟩ <;> refine (extract_append_lo x _ _ _ (by decide)).trans ?_
  · exact (extract_append_hi _ _ _ _ (by decide)).trans ((extract_append_hi _ _ _ _ (by decide)).trans ((extract_append_hi _ _ _ _
      (by decide)).trans ((extract_append_hi _ _ _ _ (by decide)).trans ((extract_append_hi _ _ _ _ (by decide)).trans ((extract_append_hi _ _ _ _
      (by decide)).trans ((extract_append_hi _ _ _ _ (by decide)).trans ((extract_append_hi _ _ _ _ (by decide)).trans (extract_whole x_file))))))))
  · exact (extract_append_hi _ _ _ _ (by decide)).trans ((extract_append_hi _ _ _ _ (by decide)).trans ((extract_append_hi _ _ _ _
      (by decide)).trans ((extract_append_hi _ _ _ _ (by decide)).trans ((extract_append_hi _ _ _ _ (by decide)).trans ((extract_append_hi _ _ _ _
      (by decide)).trans ((extract_append_hi _ _ _ _ (by decide)).trans ((extract_append_lo _ _ _ _ (by decide)).trans (extract_whole x_reg))))))))
  · exact (extract_append_hi _ _ _ _ (by decide)).trans ((extract_append_hi _ _ _ _ (by decide)).trans ((extract_append_hi _ _ _ _
      (by decide)).trans ((extract_append_hi _ _ _ _ (by decide)).trans ((extract_append_hi _ _ _ _ (by decide)).trans ((extract_append_hi _ _ _ _
      (by decide)).trans ((extract_append_lo _ _ _ _ (by decide)).trans (extract_whole x_ix)))))))
  · exact (extract_append_hi _ _ _ _ (by decide)).trans ((extract_append_hi _ _ _ _ (by decide)).trans ((extract_append_hi _ _ _ _
      (by decide)).trans ((extract_append_hi _ _ _ _ (by decide)).trans ((extract_append_hi _ _ _ _ (by decide)).trans ((extract_append_lo _ _ _ _
      (by decide)).trans (extract_whole x_base))))))
  · exact (extract_append_hi _ _ _ _ (by decide)).trans ((extract_append_hi _ _ _ _ (by decide)).trans ((extract_append_hi _ _ _ _
      (by decide)).trans ((extract_append_hi _ _ _ _ (by decide)).trans ((extract_append_lo _ _ _ _ (by decide)).trans (extract_whole x_aop)))))
  · exact (extract_append_hi _ _ _ _ (by decide)).trans ((extract_append_hi _ _ _ _ (by decide)).trans ((extract_append_hi _ _ _ _
      (by decide)).trans ((extract_append_lo _ _ _ _ (by decide)).trans (extract_whole x_ord))))
  · exact (extract_append_hi _ _ _ _ (by decide)).trans ((extract_append_hi _ _ _ _ (by decide)).trans ((extract_append_lo _ _ _ _
      (by decide)).trans (extract_whole x_scope)))
  · exact (extract_append_hi _ _ _ _ (by decide)).trans ((extract_append_lo _ _ _ _ (by decide)).trans (extract_whole x_ret))
  · exact (extract_append_lo _ _ _ _ (by decide)).trans (extract_whole x_token)

/-- LScope is read back from its bits. -/
theorem LScope.unpack_pack (f : LScope) (x : BitVec 26) : LScope.unpack f.g (x ++ f.pack) = f := by
  obtain ⟨x_g, x_hi, x_scope, x_mid, x_token⟩ := f
  simp only [LScope.unpack, LScope.mk.injEq, true_and]
  refine ⟨?_, ?_, ?_, ?_⟩ <;> refine (extract_append_lo x _ _ _ (by decide)).trans ?_
  · exact (extract_append_hi _ _ _ _ (by decide)).trans ((extract_append_hi _ _ _ _ (by decide)).trans ((extract_append_hi _ _ _ _
      (by decide)).trans (extract_whole x_hi)))
  · exact (extract_append_hi _ _ _ _ (by decide)).trans ((extract_append_hi _ _ _ _ (by decide)).trans ((extract_append_lo _ _ _ _
      (by decide)).trans (extract_whole x_scope)))
  · exact (extract_append_hi _ _ _ _ (by decide)).trans ((extract_append_lo _ _ _ _ (by decide)).trans (extract_whole x_mid))
  · exact (extract_append_lo _ _ _ _ (by decide)).trans (extract_whole x_token)

/-- LBar is read back from its bits. -/
theorem LBar.unpack_pack (f : LBar) (x : BitVec 26) : LBar.unpack f.g (x ++ f.pack) = f := by
  obtain ⟨x_g, x_file, x_reg, x_base, x_src, x_imm, x_token⟩ := f
  simp only [LBar.unpack, LBar.mk.injEq, true_and]
  refine ⟨?_, ?_, ?_, ?_, ?_, ?_⟩ <;> refine (extract_append_lo x _ _ _ (by decide)).trans ?_
  · exact (extract_append_hi _ _ _ _ (by decide)).trans ((extract_append_hi _ _ _ _ (by decide)).trans ((extract_append_hi _ _ _ _
      (by decide)).trans ((extract_append_hi _ _ _ _ (by decide)).trans ((extract_append_hi _ _ _ _ (by decide)).trans (extract_whole x_file)))))
  · exact (extract_append_hi _ _ _ _ (by decide)).trans ((extract_append_hi _ _ _ _ (by decide)).trans ((extract_append_hi _ _ _ _
      (by decide)).trans ((extract_append_hi _ _ _ _ (by decide)).trans ((extract_append_lo _ _ _ _ (by decide)).trans (extract_whole x_reg)))))
  · exact (extract_append_hi _ _ _ _ (by decide)).trans ((extract_append_hi _ _ _ _ (by decide)).trans ((extract_append_hi _ _ _ _
      (by decide)).trans ((extract_append_lo _ _ _ _ (by decide)).trans (extract_whole x_base))))
  · exact (extract_append_hi _ _ _ _ (by decide)).trans ((extract_append_hi _ _ _ _ (by decide)).trans ((extract_append_lo _ _ _ _
      (by decide)).trans (extract_whole x_src)))
  · exact (extract_append_hi _ _ _ _ (by decide)).trans ((extract_append_lo _ _ _ _ (by decide)).trans (extract_whole x_imm))
  · exact (extract_append_lo _ _ _ _ (by decide)).trans (extract_whole x_token)

/-- LSpill is read back from its bits. -/
theorem LSpill.unpack_pack (f : LSpill) (x : BitVec 26) : LSpill.unpack f.g (x ++ f.pack) = f := by
  obtain ⟨x_g, x_file, x_reg, x_rest, x_token⟩ := f
  simp only [LSpill.unpack, LSpill.mk.injEq, true_and]
  refine ⟨?_, ?_, ?_, ?_⟩ <;> refine (extract_append_lo x _ _ _ (by decide)).trans ?_
  · exact (extract_append_hi _ _ _ _ (by decide)).trans ((extract_append_hi _ _ _ _ (by decide)).trans ((extract_append_hi _ _ _ _
      (by decide)).trans (extract_whole x_file)))
  · exact (extract_append_hi _ _ _ _ (by decide)).trans ((extract_append_hi _ _ _ _ (by decide)).trans ((extract_append_lo _ _ _ _
      (by decide)).trans (extract_whole x_reg)))
  · exact (extract_append_hi _ _ _ _ (by decide)).trans ((extract_append_lo _ _ _ _ (by decide)).trans (extract_whole x_rest))
  · exact (extract_append_lo _ _ _ _ (by decide)).trans (extract_whole x_token)

/-- LDadd is read back from its bits. -/
theorem LDadd.unpack_pack (f : LDadd) (x : BitVec 26) : LDadd.unpack f.g (x ++ f.pack) = f := by
  obtain ⟨x_g, x_dd, x_ds, x_m, x_imm, x_token⟩ := f
  simp only [LDadd.unpack, LDadd.mk.injEq, true_and]
  refine ⟨?_, ?_, ?_, ?_, ?_⟩ <;> refine (extract_append_lo x _ _ _ (by decide)).trans ?_
  · exact (extract_append_hi _ _ _ _ (by decide)).trans ((extract_append_hi _ _ _ _ (by decide)).trans ((extract_append_hi _ _ _ _
      (by decide)).trans ((extract_append_hi _ _ _ _ (by decide)).trans (extract_whole x_dd))))
  · exact (extract_append_hi _ _ _ _ (by decide)).trans ((extract_append_hi _ _ _ _ (by decide)).trans ((extract_append_hi _ _ _ _
      (by decide)).trans ((extract_append_lo _ _ _ _ (by decide)).trans (extract_whole x_ds))))
  · exact (extract_append_hi _ _ _ _ (by decide)).trans ((extract_append_hi _ _ _ _ (by decide)).trans ((extract_append_lo _ _ _ _
      (by decide)).trans (extract_whole x_m)))
  · exact (extract_append_hi _ _ _ _ (by decide)).trans ((extract_append_lo _ _ _ _ (by decide)).trans (extract_whole x_imm))
  · exact (extract_append_lo _ _ _ _ (by decide)).trans (extract_whole x_token)

/-- LDli is read back from its bits. -/
theorem LDli.unpack_pack (f : LDli) (x : BitVec 26) : LDli.unpack f.g (x ++ f.pack) = f := by
  obtain ⟨x_g, x_dd, x_q, x_ins, x_rest, x_v, x_token⟩ := f
  simp only [LDli.unpack, LDli.mk.injEq, true_and]
  refine ⟨?_, ?_, ?_, ?_, ?_, ?_⟩ <;> refine (extract_append_lo x _ _ _ (by decide)).trans ?_
  · exact (extract_append_hi _ _ _ _ (by decide)).trans ((extract_append_hi _ _ _ _ (by decide)).trans ((extract_append_hi _ _ _ _
      (by decide)).trans ((extract_append_hi _ _ _ _ (by decide)).trans ((extract_append_hi _ _ _ _ (by decide)).trans (extract_whole x_dd)))))
  · exact (extract_append_hi _ _ _ _ (by decide)).trans ((extract_append_hi _ _ _ _ (by decide)).trans ((extract_append_hi _ _ _ _
      (by decide)).trans ((extract_append_hi _ _ _ _ (by decide)).trans ((extract_append_lo _ _ _ _ (by decide)).trans (extract_whole x_q)))))
  · exact (extract_append_hi _ _ _ _ (by decide)).trans ((extract_append_hi _ _ _ _ (by decide)).trans ((extract_append_hi _ _ _ _
      (by decide)).trans ((extract_append_lo _ _ _ _ (by decide)).trans (extract_whole x_ins))))
  · exact (extract_append_hi _ _ _ _ (by decide)).trans ((extract_append_hi _ _ _ _ (by decide)).trans ((extract_append_lo _ _ _ _
      (by decide)).trans (extract_whole x_rest)))
  · exact (extract_append_hi _ _ _ _ (by decide)).trans ((extract_append_lo _ _ _ _ (by decide)).trans (extract_whole x_v))
  · exact (extract_append_lo _ _ _ _ (by decide)).trans (extract_whole x_token)

/-- LDcpy is read back from its bits. -/
theorem LDcpy.unpack_pack (f : LDcpy) (x : BitVec 26) : LDcpy.unpack f.g (x ++ f.pack) = f := by
  obtain ⟨x_g, x_ds, x_tfile, x_treg, x_rest, x_token⟩ := f
  simp only [LDcpy.unpack, LDcpy.mk.injEq, true_and]
  refine ⟨?_, ?_, ?_, ?_, ?_⟩ <;> refine (extract_append_lo x _ _ _ (by decide)).trans ?_
  · exact (extract_append_hi _ _ _ _ (by decide)).trans ((extract_append_hi _ _ _ _ (by decide)).trans ((extract_append_hi _ _ _ _
      (by decide)).trans ((extract_append_hi _ _ _ _ (by decide)).trans (extract_whole x_ds))))
  · exact (extract_append_hi _ _ _ _ (by decide)).trans ((extract_append_hi _ _ _ _ (by decide)).trans ((extract_append_hi _ _ _ _
      (by decide)).trans ((extract_append_lo _ _ _ _ (by decide)).trans (extract_whole x_tfile))))
  · exact (extract_append_hi _ _ _ _ (by decide)).trans ((extract_append_hi _ _ _ _ (by decide)).trans ((extract_append_lo _ _ _ _
      (by decide)).trans (extract_whole x_treg)))
  · exact (extract_append_hi _ _ _ _ (by decide)).trans ((extract_append_lo _ _ _ _ (by decide)).trans (extract_whole x_rest))
  · exact (extract_append_lo _ _ _ _ (by decide)).trans (extract_whole x_token)

/-- LLine is read back from its bits. -/
theorem LLine.unpack_pack (f : LLine) (x : BitVec 26) : LLine.unpack f.g (x ++ f.pack) = f := by
  obtain ⟨x_g, x_hi, x_base, x_all, x_n, x_token⟩ := f
  simp only [LLine.unpack, LLine.mk.injEq, true_and]
  refine ⟨?_, ?_, ?_, ?_, ?_⟩ <;> refine (extract_append_lo x _ _ _ (by decide)).trans ?_
  · exact (extract_append_hi _ _ _ _ (by decide)).trans ((extract_append_hi _ _ _ _ (by decide)).trans ((extract_append_hi _ _ _ _
      (by decide)).trans ((extract_append_hi _ _ _ _ (by decide)).trans (extract_whole x_hi))))
  · exact (extract_append_hi _ _ _ _ (by decide)).trans ((extract_append_hi _ _ _ _ (by decide)).trans ((extract_append_hi _ _ _ _
      (by decide)).trans ((extract_append_lo _ _ _ _ (by decide)).trans (extract_whole x_base))))
  · exact (extract_append_hi _ _ _ _ (by decide)).trans ((extract_append_hi _ _ _ _ (by decide)).trans ((extract_append_lo _ _ _ _
      (by decide)).trans (extract_whole x_all)))
  · exact (extract_append_hi _ _ _ _ (by decide)).trans ((extract_append_lo _ _ _ _ (by decide)).trans (extract_whole x_n))
  · exact (extract_append_lo _ _ _ _ (by decide)).trans (extract_whole x_token)

/-- EForm is read back from its bits. -/
theorem EForm.unpack_pack (f : EForm) (x : BitVec 26) : EForm.unpack f.g (x ++ f.pack) = f := by
  obtain ⟨x_g, x_ed, x_es1, x_es2, x_q, x_token, x_imm⟩ := f
  simp only [EForm.unpack, EForm.mk.injEq, true_and]
  refine ⟨?_, ?_, ?_, ?_, ?_, ?_⟩ <;> refine (extract_append_lo x _ _ _ (by decide)).trans ?_
  · exact (extract_append_hi _ _ _ _ (by decide)).trans ((extract_append_hi _ _ _ _ (by decide)).trans ((extract_append_hi _ _ _ _
      (by decide)).trans ((extract_append_hi _ _ _ _ (by decide)).trans ((extract_append_hi _ _ _ _ (by decide)).trans (extract_whole x_ed)))))
  · exact (extract_append_hi _ _ _ _ (by decide)).trans ((extract_append_hi _ _ _ _ (by decide)).trans ((extract_append_hi _ _ _ _
      (by decide)).trans ((extract_append_hi _ _ _ _ (by decide)).trans ((extract_append_lo _ _ _ _ (by decide)).trans (extract_whole x_es1)))))
  · exact (extract_append_hi _ _ _ _ (by decide)).trans ((extract_append_hi _ _ _ _ (by decide)).trans ((extract_append_hi _ _ _ _
      (by decide)).trans ((extract_append_lo _ _ _ _ (by decide)).trans (extract_whole x_es2))))
  · exact (extract_append_hi _ _ _ _ (by decide)).trans ((extract_append_hi _ _ _ _ (by decide)).trans ((extract_append_lo _ _ _ _
      (by decide)).trans (extract_whole x_q)))
  · exact (extract_append_hi _ _ _ _ (by decide)).trans ((extract_append_lo _ _ _ _ (by decide)).trans (extract_whole x_token))
  · exact (extract_append_lo _ _ _ _ (by decide)).trans (extract_whole x_imm)


end Sys2Proof
end

