-- ==== Sys2Proof/Laws/Map.lean ====
section
/-! SUPPORT. Laws of the sparse tables: read after write, the canonical form and its preservation, and the same for memory. -/

namespace Sys2Proof.Machine

variable {α : Type}

/-! ### Read after write -/

/-- Keys above `k` only: the value at a key not above is the default. -/
theorem SMap.get_of_startsAbove (d : α) (m : SMap α) (k j : Nat) (h : SMap.startsAbove k m = true) (hj : j ≤ k) :
    SMap.get d m j = d := by
  cases m with
  | nil => rfl
  | cons kv m =>
    obtain ⟨a, v⟩ := kv
    simp only [SMap.startsAbove, decide_eq_true_eq] at h
    simp only [SMap.get, if_neg (show ¬ j = a by omega), if_pos (show j < a by omega)]

/-- A table read at the key just written. -/
@[simp] theorem SMap.get_set_self [DecidableEq α] (d : α) (m : SMap α) (i : Nat) (x : α) :
    SMap.get d (SMap.set d m i x) i = x := by
  induction m with
  | nil => by_cases h : x = d <;> simp [SMap.set, SMap.get, h]
  | cons kv m ih =>
    obtain ⟨k, v⟩ := kv
    simp only [SMap.set]
    by_cases hik : i = k
    · subst hik
      by_cases hx : x = d ∧ SMap.startsAbove i m = true
      · simp [hx.1, hx.2, SMap.get_of_startsAbove d m i i hx.2 (Nat.le_refl i)]
      · simp [if_neg hx, SMap.get]
    · by_cases hlt : i < k
      · by_cases hx : x = d <;> simp [hik, hlt, hx, SMap.get]
      · simp [hik, hlt, SMap.get, ih]

/-- A table read elsewhere, as the unlisted value of the other key may be another one. -/
theorem SMap.get_set_ne' [DecidableEq α] (d e : α) (m : SMap α) (i j : Nat) (x : α) (h : j ≠ i) :
    SMap.get e (SMap.set d m i x) j = SMap.get e m j := by
  induction m with
  | nil => by_cases hx : x = d <;> simp [SMap.set, SMap.get, hx, h]
  | cons kv m ih =>
    obtain ⟨k, v⟩ := kv
    simp only [SMap.set]
    by_cases hik : i = k
    · subst hik
      by_cases hx : x = d ∧ SMap.startsAbove i m = true
      · rw [if_pos rfl, if_pos hx]
        by_cases hj : j < i
        · simp [SMap.get, h, hj, SMap.get_of_startsAbove e m i j hx.2 (Nat.le_of_lt hj)]
        · simp [SMap.get, h, hj]
      · simp [if_neg hx, SMap.get, h]
    · by_cases hlt : i < k
      · by_cases hx : x = d
        · simp [hik, hlt, hx]
        · by_cases hj : j < i
          · simp [hik, hlt, hx, SMap.get, h, hj, show ¬ j = k by omega, show j < k by omega]
          · simp [hik, hlt, hx, SMap.get, h, hj]
      · simp [hik, hlt, SMap.get, ih]

/-- A table read at another key. -/
@[simp] theorem SMap.get_set_ne [DecidableEq α] (d : α) (m : SMap α) (i j : Nat) (x : α) (h : j ≠ i) :
    SMap.get d (SMap.set d m i x) j = SMap.get d m j := SMap.get_set_ne' d d m i j x h

/-- A table read after a write. -/
theorem SMap.get_set [DecidableEq α] (d : α) (m : SMap α) (i j : Nat) (x : α) :
    SMap.get d (SMap.set d m i x) j = if j = i then x else SMap.get d m j := by
  by_cases h : j = i
  · subst h; simp
  · simp [h]

/-- A table read after a change. -/
theorem SMap.get_modify [DecidableEq α] (d : α) (m : SMap α) (i j : Nat) (f : α → α) :
    SMap.get d (SMap.modify d m i f) j = if j = i then f (SMap.get d m i) else SMap.get d m j :=
  SMap.get_set d m i j _

/-- A table read after a change, at its key. -/
@[simp] theorem SMap.get_modify_self [DecidableEq α] (d : α) (m : SMap α) (i : Nat) (f : α → α) :
    SMap.get d (SMap.modify d m i f) i = f (SMap.get d m i) := SMap.get_set_self d m i _

/-- A table read after a change, at another key. -/
@[simp] theorem SMap.get_modify_ne [DecidableEq α] (d : α) (m : SMap α) (i j : Nat) (f : α → α) (h : j ≠ i) :
    SMap.get d (SMap.modify d m i f) j = SMap.get d m j := SMap.get_set_ne d m i j _ h

/-- A table read after a change of every value, which leaves the unlisted value as it is. -/
theorem SMap.get_mapVals [DecidableEq α] (d : α) (f : α → α) (hf : f d = d) (m : SMap α) (j : Nat) :
    SMap.get d (SMap.mapVals d f m) j = f (SMap.get d m j) := by
  induction m with
  | nil => simp [SMap.mapVals, SMap.get, hf]
  | cons kv m ih =>
    obtain ⟨k, v⟩ := kv
    simp only [SMap.mapVals]
    by_cases h : f v = d ∧ SMap.startsAbove k m = true
    · rw [if_pos h, ih]
      by_cases hjk : j = k
      · subst hjk; simp [SMap.get, h.1, SMap.get_of_startsAbove d m j j h.2 (Nat.le_refl j), hf]
      · by_cases hlt : j < k
        · simp [SMap.get, hjk, hlt, SMap.get_of_startsAbove d m k j h.2 (Nat.le_of_lt hlt)]
        · simp [SMap.get, hjk, hlt]
    · rw [if_neg h]
      by_cases hjk : j = k
      · simp [SMap.get, hjk]
      · by_cases hlt : j < k <;> simp [SMap.get, hjk, hlt, hf, ih]

/-! ### The canonical form -/

/-- A form whose keys start higher starts lower too. -/
theorem SMap.wfFrom_mono [DecidableEq α] (d : α) (m : SMap α) (k l : Nat) (h : SMap.wfFrom d (some k) m = true) (hl : l ≤ k) :
    SMap.wfFrom d (some l) m = true := by
  cases m with
  | nil => rfl
  | cons kv m =>
    obtain ⟨a, v⟩ := kv
    simp only [SMap.wfFrom, Bool.and_eq_true, decide_eq_true_eq] at h ⊢
    exact ⟨⟨by omega, h.1.2⟩, h.2⟩

/-- A canonical table above `k` starts above it. -/
theorem SMap.startsAbove_of_wfFrom [DecidableEq α] (d : α) (m : SMap α) (k : Nat) (h : SMap.wfFrom d (some k) m = true) :
    SMap.startsAbove k m = true := by
  cases m with
  | nil => rfl
  | cons kv m =>
    obtain ⟨a, v⟩ := kv
    simp only [SMap.wfFrom, Bool.and_eq_true, decide_eq_true_eq] at h
    simp [SMap.startsAbove, h.1.1]

/-- A write keeps the canonical form of a table that starts below its key. -/
theorem SMap.wfFrom_set [DecidableEq α] (d : α) (m : SMap α) (lo : Option Nat) (i : Nat) (x : α)
    (h : SMap.wfFrom d lo m = true) (hi : ∀ l, lo = some l → l < i) : SMap.wfFrom d lo (SMap.set d m i x) = true := by
  induction m generalizing lo with
  | nil =>
    by_cases hx : x = d
    · simp [SMap.set, hx, SMap.wfFrom]
    · cases lo with
      | none => simp [SMap.set, hx, SMap.wfFrom]
      | some l => simp [SMap.set, hx, SMap.wfFrom, hi l rfl]
  | cons kv m ih =>
    obtain ⟨k, v⟩ := kv
    simp only [SMap.wfFrom, Bool.and_eq_true, decide_eq_true_eq] at h
    obtain ⟨⟨hlo, hv⟩, hm⟩ := h
    simp only [SMap.set]
    by_cases hik : i = k
    · subst hik
      have ha := SMap.startsAbove_of_wfFrom d m i hm
      by_cases hx : x = d
      · rw [if_pos rfl, if_pos ⟨hx, ha⟩]
        cases lo with
        | none =>
          cases m with
          | nil => rfl
          | cons kv m => obtain ⟨a, w⟩ := kv; simp only [SMap.wfFrom, Bool.and_eq_true] at hm ⊢; exact ⟨⟨trivial, hm.1.2⟩, hm.2⟩
        | some l => exact SMap.wfFrom_mono d m i l hm (Nat.le_of_lt (hi l rfl))
      · rw [if_pos rfl, if_neg (fun hc => hx hc.1)]
        simp only [SMap.wfFrom, Bool.and_eq_true, decide_eq_true_eq]
        exact ⟨⟨hlo, hx⟩, hm⟩
    · by_cases hlt : i < k
      · rw [if_neg hik, if_pos hlt]
        by_cases hx : x = d
        · rw [if_pos hx]; simp only [SMap.wfFrom, Bool.and_eq_true, decide_eq_true_eq]; exact ⟨⟨hlo, hv⟩, hm⟩
        · rw [if_neg hx]
          simp only [SMap.wfFrom, Bool.and_eq_true, decide_eq_true_eq]
          refine ⟨⟨?_, hx⟩, ⟨hlt, hv⟩, hm⟩
          cases lo with
          | none => rfl
          | some l => simp [hi l rfl]
      · rw [if_neg hik, if_neg hlt]
        simp only [SMap.wfFrom, Bool.and_eq_true, decide_eq_true_eq]
        exact ⟨⟨hlo, hv⟩, ih (some k) hm (fun l hl => by cases hl; omega)⟩

/-- A write keeps the canonical form. -/
theorem SMap.wf_set [DecidableEq α] (d : α) (m : SMap α) (i : Nat) (x : α) (h : SMap.wf d m = true) :
    SMap.wf d (SMap.set d m i x) = true := SMap.wfFrom_set d m none i x h (by simp)

/-- A change keeps the canonical form. -/
theorem SMap.wf_modify [DecidableEq α] (d : α) (m : SMap α) (i : Nat) (f : α → α) (h : SMap.wf d m = true) :
    SMap.wf d (SMap.modify d m i f) = true := SMap.wf_set d m i _ h

/-! ### Memory -/

/-- A memory whose addresses start above `k` starts above it. -/
theorem Mem.startsAbove_of_wfFrom (m : Mem) (k : Nat) (h : Mem.wfFrom (some k) m = true) : SMap.startsAbove k m = true := by
  cases m with
  | nil => rfl
  | cons kv m =>
    obtain ⟨a, v⟩ := kv
    simp only [Mem.wfFrom, Bool.and_eq_true, decide_eq_true_eq] at h
    simp [SMap.startsAbove, h.1.1]

/-- A form that starts higher starts lower too. -/
theorem Mem.wfFrom_mono (m : Mem) (k l : Nat) (h : Mem.wfFrom (some k) m = true) (hl : l ≤ k) : Mem.wfFrom (some l) m = true := by
  cases m with
  | nil => rfl
  | cons kv m =>
    obtain ⟨a, v⟩ := kv
    simp only [Mem.wfFrom, Bool.and_eq_true, decide_eq_true_eq] at h ⊢
    exact ⟨⟨by omega, h.1.2⟩, h.2⟩

/-- A byte written above the start of a memory keeps its form. -/
theorem Mem.wfFrom_setByte (m : Mem) (lo : Option Nat) (i : Nat) (x : Byte)
    (h : Mem.wfFrom lo m = true) (hi : ∀ l, lo = some l → l < i) : Mem.wfFrom lo (Mem.setByte m i x) = true := by
  unfold Mem.setByte
  induction m generalizing lo with
  | nil =>
    by_cases hx : x = Mem.unwritten i
    · simp [SMap.set, hx, Mem.wfFrom]
    · cases lo with
      | none => simp [SMap.set, hx, Mem.wfFrom]
      | some l => simp [SMap.set, hx, Mem.wfFrom, hi l rfl]
  | cons kv m ih =>
    obtain ⟨k, v⟩ := kv
    simp only [Mem.wfFrom, Bool.and_eq_true, decide_eq_true_eq] at h
    obtain ⟨⟨hlo, hv⟩, hm⟩ := h
    simp only [SMap.set]
    by_cases hik : i = k
    · subst hik
      have ha := Mem.startsAbove_of_wfFrom m i hm
      by_cases hx : x = Mem.unwritten i
      · rw [if_pos rfl, if_pos ⟨hx, ha⟩]
        cases lo with
        | none =>
          cases m with
          | nil => rfl
          | cons kv m => obtain ⟨a, w⟩ := kv; simp only [Mem.wfFrom, Bool.and_eq_true] at hm ⊢; exact ⟨⟨trivial, hm.1.2⟩, hm.2⟩
        | some l => exact Mem.wfFrom_mono m i l hm (Nat.le_of_lt (hi l rfl))
      · rw [if_pos rfl, if_neg (fun hc => hx hc.1)]
        simp only [Mem.wfFrom, Bool.and_eq_true, decide_eq_true_eq]
        exact ⟨⟨hlo, hx⟩, hm⟩
    · by_cases hlt : i < k
      · rw [if_neg hik, if_pos hlt]
        by_cases hx : x = Mem.unwritten i
        · rw [if_pos hx]; simp only [Mem.wfFrom, Bool.and_eq_true, decide_eq_true_eq]; exact ⟨⟨hlo, hv⟩, hm⟩
        · rw [if_neg hx]
          simp only [Mem.wfFrom, Bool.and_eq_true, decide_eq_true_eq]
          refine ⟨⟨?_, hx⟩, ⟨hlt, hv⟩, hm⟩
          cases lo with
          | none => rfl
          | some l => simp [hi l rfl]
      · rw [if_neg hik, if_neg hlt]
        simp only [Mem.wfFrom, Bool.and_eq_true, decide_eq_true_eq]
        exact ⟨⟨hlo, hv⟩, ih (some k) hm (fun l hl => by cases hl; omega)⟩

/-- A byte write keeps the canonical form. -/
theorem Memory.wf_setByte (m : Mem) (a : Nat) (b : Byte) (h : Memory.wf m = true) : Memory.wf (Mem.setByte m a b) = true :=
  Mem.wfFrom_setByte m none a b h (by simp)

/-- A write of any length keeps the canonical form. -/
theorem Memory.wf_write (bs : List Byte) (m : Mem) (a : Nat) (h : Memory.wf m = true) : Memory.wf (Mem.write m a bs) = true := by
  induction bs generalizing m a with
  | nil => exact h
  | cons b bs ih => exact ih _ _ (Memory.wf_setByte m a b h)

/-- The byte just written. -/
@[simp] theorem Mem.byte_setByte_self (m : Mem) (a : Nat) (b : Byte) : Mem.byte (Mem.setByte m a b) a = b :=
  SMap.get_set_self _ m a b

/-- A byte elsewhere. -/
@[simp] theorem Mem.byte_setByte_ne (m : Mem) (a c : Nat) (b : Byte) (h : c ≠ a) :
    Mem.byte (Mem.setByte m a b) c = Mem.byte m c := SMap.get_set_ne' _ _ m a c b h

/-- A byte below a write is as it was. -/
theorem Mem.byte_write_below (bs : List Byte) (m : Mem) (a c : Nat) (h : c < a) : Mem.byte (Mem.write m a bs) c = Mem.byte m c := by
  induction bs generalizing m a with
  | nil => rfl
  | cons b bs ih => rw [Mem.write, ih _ _ (by omega), Mem.byte_setByte_ne _ _ _ _ (by omega)]

/-- A byte above a write is as it was. -/
theorem Mem.byte_write_above (bs : List Byte) (m : Mem) (a c : Nat) (h : a + bs.length ≤ c) :
    Mem.byte (Mem.write m a bs) c = Mem.byte m c := by
  induction bs generalizing m a with
  | nil => rfl
  | cons b bs ih =>
    simp only [List.length_cons] at h
    rw [Mem.write, ih _ _ (by omega), Mem.byte_setByte_ne _ _ _ _ (by omega)]

/-- Bytes read back where they were written. -/
theorem Mem.read_write (bs : List Byte) (m : Mem) (a : Nat) : Mem.read (Mem.write m a bs) a bs.length = bs := by
  induction bs generalizing m a with
  | nil => rfl
  | cons b bs ih =>
    simp only [Mem.write, List.length_cons, Mem.read]
    rw [Mem.byte_write_below _ _ _ _ (Nat.lt_succ_self a), Mem.byte_setByte_self, ih]

end Sys2Proof.Machine
end

