-- ==== Sys2Proof/Laws/Issue.lean ====
section
/-! SUPPORT. What the presentation of a bundle of one operation comes to, once for every operation: issue, trap, wait or stall. -/

namespace Sys2Proof.Machine

/-- The operations of a bundle of one syllable. -/
theorem slotOps_alone (s : State) (x : Ctx) (i : Instr) (p : Slot × Nat × Guard × BitVec 38) (hp : i.parts = some p)
    (h0 : x.loops.v0 = none) (h1 : x.loops.v1 = none) (h2 : x.loops.m = none) (h3 : x.loops.l = none) (k : Nat) (hk : k = 0) :
    slotOps x.loops (shownAlone s i) k = [s.opAlone i p.1 p.2.1] := by
  subst hk
  obtain ⟨sl, op, g, r⟩ := p
  cases sl <;>
    simp [slotOps, Slot.all, slotOpOf, shownAlone, hp, LoopState.held, h0, h1, h2, h3, State.opAlone, slotSticky]

/-- The environment of the one operation of a bundle. -/
theorem envOf_alone (s : State) (x : Ctx) (i : Instr) (p : Slot × Nat × Guard × BitVec 38) (hp : i.parts = some p) :
    envOf s s.cur x (shownAlone s i) [s.opAlone i p.1 p.2.1] [] (s.opAlone i p.1 p.2.1) = s.envAlone x i := by
  simp [envOf, State.envAlone, shownAlone, hp, State.opAlone, Instr.slotPart, Ctx.guardOf, Header.single]

/-- The answers of a bundle of one operation. -/
theorem answers_alone (s : State) (x : Ctx) (i : Instr) (p : Slot × Nat × Guard × BitVec 38) (hp : i.parts = some p) :
    s.answers s.cur x (shownAlone s i) [s.opAlone i p.1 p.2.1] = [(s.opAlone i p.1 p.2.1, evalInstr i (s.envAlone x i))] := by
  have h := envOf_alone s x i p hp
  obtain ⟨sl, op, g, r⟩ := p
  cases sl <;> simp [State.answers, State.opAlone, answerOf, show (Slot.v1 == Slot.v0) = false from rfl] at h ⊢ <;> rw [h]

/-- What a ready context presents: everything but its one answer is out of the way. -/
theorem present_shown (s : State) (x : Ctx) (i : Instr) (p : Slot × Nat × Guard × BitVec 38) (hp : i.parts = some p) (h : s.Presents x) :
    s.present s.cur x (.ok (shownAlone s i)) 0 =
      (let os := [s.opAlone i p.1 p.2.1]
       let u := s.firstShown s.cur x os
       let as := u.answers s.cur ((u.ctx s.cur).getD x) (shownAlone s i) os
       match stallOf as with
        | some none => .stalled (u.landWhere s.cur fun g => g.what.isReply && decide (g.land ≤ x.count))
        | some (some n) => .stalled (u.passCounts s.cur n)
        | none =>
          match waitOf as with
          | some (w, g) => .done (g ((u.leaveReady s.cur).modCtx s.cur fun y => { y with run := .waiting w }))
          | none =>
            match trapOf as none with
            | some t => .done (s.raise s.cur x 0 t (t.code == 0x0A && decide (t.txpc ≠ none)))
            | none =>
              if x.tokensFull (tokensOf as) then .stalled (u.landWhere s.cur fun g => g.what.isReply && decide (g.land ≤ x.count))
              else .done ((u.modCtx s.cur fun y => { y with arrived := false }).issue s.cur ((u.ctx s.cur).getD x) (shownAlone s i) 0 os as)) := by
  obtain ⟨-, -, hd, ha, hr, h0, h1, h2, h3, -⟩ := h
  have hos := slotOps_alone s x i p hp h0 h1 h2 h3 0 rfl
  unfold State.present
  (simp only [hd, ha, hr, List.find?_nil, List.findSome?_cons, List.findSome?_nil, Bool.false_and, Option.getD_none, hos, subnormDue, struck,
    fetchStruck, Option.map_none, Nat.sub_self, Bool.false_eq_true, if_false]) <;> rfl

/-- Only a BWAIT.ARV and a TWAIT act as their bundle is first presented (R473, R480). -/
theorem firstShown_alone (s : State) (x : Ctx) (i : Instr) (sl : Slot) (op : Nat) (h : s.Issues x) (hq : showsFirst i = false) :
    s.firstShown s.cur x [s.opAlone i sl op] = s := by
  obtain ⟨-, ha, ht⟩ := h
  unfold State.firstShown
  simp only [ha, ht, Option.filter_none, beq_self_eq_true, Bool.and_self, if_true, List.foldl_cons, List.foldl_nil, State.opAlone]
  cases i <;> first | rfl | simp_all [showsFirst]

/-- What a ready context presents where its operation does not act at its presentation. -/
theorem present_alone (s : State) (x : Ctx) (i : Instr) (p : Slot × Nat × Guard × BitVec 38) (hp : i.parts = some p) (h : s.Issues x)
    (hq : showsFirst i = false) :
    s.present s.cur x (.ok (shownAlone s i)) 0 =
      (let as := [(s.opAlone i p.1 p.2.1, evalInstr i (s.envAlone x i))]
       match stallOf as with
        | some none => .stalled (s.landWhere s.cur fun g => g.what.isReply && decide (g.land ≤ x.count))
        | some (some n) => .stalled (s.passCounts s.cur n)
        | none =>
          match waitOf as with
          | some (w, g) => .done (g ((s.leaveReady s.cur).modCtx s.cur fun y => { y with run := .waiting w }))
          | none =>
            match trapOf as none with
            | some t => .done (s.raise s.cur x 0 t (t.code == 0x0A && decide (t.txpc ≠ none)))
            | none =>
              if x.tokensFull (tokensOf as) then .stalled (s.landWhere s.cur fun g => g.what.isReply && decide (g.land ≤ x.count))
              else .done ((s.modCtx s.cur fun y => { y with arrived := false }).issue s.cur x (shownAlone s i) 0
                [s.opAlone i p.1 p.2.1] as)) := by
  rw [present_shown s x i p hp h.1]
  have hc := h.1.1
  simp only [firstShown_alone s x i p.1 p.2.1 h hq, hc, Option.getD_some, answers_alone s x i p hp]

/-- An operation that answers with an effect completes. -/
theorem issueAlone_act (s : State) (x : Ctx) (i : Instr) (tok : Option Nat) (f : State → State) (hp : i.parts.isSome = true)
    (h : s.Issues x) (hq : showsFirst i = false) (he : evalInstr i (s.envAlone x i) = .act tok f) : s.issueAlone i = s.issued x i tok f := by
  obtain ⟨p, hp⟩ := Option.isSome_iff_exists.mp hp
  have hpr := present_alone s x i p hp h hq
  have hfull : x.tokensFull (tokensOf [(s.opAlone i p.1 p.2.1, SlotOut.act tok f)]) = false := by
    obtain ⟨⟨-, -, -, -, -, -, -, -, -, ht⟩, -⟩ := h
    cases tok with
    | none => simp [Ctx.tokensFull, tokensOf]
    | some k => have := ht k; simp [Ctx.tokensFull, tokensOf]; omega
  obtain ⟨⟨hc, hi, -⟩, -⟩ := h
  have hnt : trapOf [(s.opAlone i p.1 p.2.1, SlotOut.act tok f)] none = none := by simp [trapOf]
  simp only [he, stallOf, waitOf, hnt, hfull, List.foldl, List.findSome?] at hpr
  simp only [State.issueAlone, hc, hi, hpr, if_true, Bool.false_eq_true, if_false, Presented.state, State.issued, Instr.slotPart, hp]

/-- An operation that answers with a trap takes it. -/
theorem issueAlone_trap (s : State) (x : Ctx) (i : Instr) (t : TrapReq) (hp : i.parts.isSome = true) (h : s.Issues x)
    (hq : showsFirst i = false) (ht : t.code ≠ 0x0A ∨ t.txpc = none) (hm : t.code ≠ 0x11 ∨ t.mark.isSome = true)
    (he : evalInstr i (s.envAlone x i) = .trap t) : s.issueAlone i = s.takeTrap s.cur t x.pc 0 [] := by
  obtain ⟨p, hp⟩ := Option.isSome_iff_exists.mp hp
  have hpr := present_alone s x i p hp h hq
  obtain ⟨⟨hc, hi, hd, -⟩, -⟩ := h
  have htr : trapOf [(s.opAlone i p.1 p.2.1, SlotOut.trap t)] none = some t := by
    obtain ⟨sl, op, g, r⟩ := p
    cases sl <;> simp [trapOf, State.opAlone, Slot.num]
  have hdue : (t.code == 0x0A && decide (t.txpc ≠ none)) = false := by
    cases ht with
    | inl h => simp [h]
    | inr h => simp [h]
  have hecc : (t.code == 0x11 && t.mark.isNone) = false := by
    cases hm with
    | inl h => simp [h]
    | inr h => simp [Option.isNone_eq_false_iff.mpr h]
  simp only [he, stallOf, waitOf, htr, hdue, List.foldl, List.findSome?] at hpr
  simp only [State.issueAlone, hc, hi, hpr, if_true, Presented.state, State.raise, Bool.false_eq_true, if_false, hd, hecc]

/-- An operation that answers with a wait leaves the ready set (R231, R233). -/
theorem issueAlone_wait (s : State) (x : Ctx) (i : Instr) (w : WaitWhy) (f : State → State) (hp : i.parts.isSome = true) (h : s.Issues x)
    (hq : showsFirst i = false) (he : evalInstr i (s.envAlone x i) = .wait w f) :
    s.issueAlone i = f ((s.leaveReady s.cur).modCtx s.cur fun y => { y with run := .waiting w }) := by
  obtain ⟨p, hp⟩ := Option.isSome_iff_exists.mp hp
  have hpr := present_alone s x i p hp h hq
  obtain ⟨⟨hc, hi, -⟩, -⟩ := h
  simp only [he, stallOf, waitOf, List.foldl, List.findSome?] at hpr
  simp only [State.issueAlone, hc, hi, hpr, if_true, Presented.state]

end Sys2Proof.Machine
end

