-- ==== Sys2Proof/Laws/Exec.lean ====
section
/-! SUPPORT. The dispatch, said once: a slot operation is issued alone in a bundle, and answers what its own function answers. -/

namespace Sys2Proof.Machine

/-- A slot operation is executed by the issue of its bundle. -/
theorem exec_slot (i : Instr) (s : State) (h : i.parts.isSome = true) : exec i s = .next (s.issueAlone i) := by
  cases i <;> first | rfl | (simp [Instr.parts] at h)

/-- An operation that answers with an effect completes. -/
theorem completes_of_answer {s : State} {x : Ctx} {i : Instr} {tok : Option Nat} {f : State → State} (hp : i.parts.isSome = true)
    (h : s.Issues x) (hq : showsFirst i = false) (he : evalInstr i (s.envAlone x i) = .act tok f) : s.Completes x i tok f := by
  unfold State.Completes; rw [exec_slot i s hp, issueAlone_act s x i tok f hp h hq he]

/-- An operation that answers with a result yields it. -/
theorem yields_of_answer {s : State} {x : Ctx} {i : Instr} {lat : Nat} {w : Landing} (hp : i.parts.isSome = true)
    (h : s.Issues x) (hq : showsFirst i = false) (he : evalInstr i (s.envAlone x i) = (s.envAlone x i).result lat w) : s.Yields x i lat w :=
  completes_of_answer hp h hq he

/-- An operation that answers with a trap takes it. -/
theorem traps_of_answer {s : State} {x : Ctx} {i : Instr} {t : TrapReq} (hp : i.parts.isSome = true) (h : s.Issues x)
    (hq : showsFirst i = false) (ht : t.code ≠ 0x0A ∨ t.txpc = none) (hm : t.code ≠ 0x11 ∨ t.mark.isSome = true) (he : evalInstr i (s.envAlone x i) = .trap t) : s.Traps x i t := by
  unfold State.Traps; rw [exec_slot i s hp, issueAlone_trap s x i t hp h hq ht hm he]

/-! ### What an operation sees -/

@[simp] theorem State.envAlone_s (s : State) (x : Ctx) (i : Instr) : (s.envAlone x i).s = s := rfl
@[simp] theorem State.envAlone_c (s : State) (x : Ctx) (i : Instr) : (s.envAlone x i).c = s.cur := rfl
@[simp] theorem State.envAlone_x (s : State) (x : Ctx) (i : Instr) : (s.envAlone x i).x = x := rfl
@[simp] theorem State.envAlone_pc (s : State) (x : Ctx) (i : Instr) : (s.envAlone x i).pc = x.pc := rfl
@[simp] theorem State.envAlone_lits (s : State) (x : Ctx) (i : Instr) : (s.envAlone x i).lits = s.lits := rfl
@[simp] theorem State.envAlone_repeats (s : State) (x : Ctx) (i : Instr) : (s.envAlone x i).repeats = 0 := rfl
@[simp] theorem State.envAlone_n (s : State) (x : Ctx) (i : Instr) : (s.envAlone x i).n = 0 := rfl
@[simp] theorem State.envAlone_taken (s : State) (x : Ctx) (i : Instr) : (s.envAlone x i).taken = [] := rfl

/-- A guarded operation whose guard is true and whose fields are good does its work. -/
theorem Env.guarded_of (e : Env) (cs : List Check) (k : SlotOut) (hg : e.g.getLsbD 0 = true) (hn : NoBad cs) : e.guarded cs k = k := by
  unfold NoBad at hn; simp [Env.guarded, Env.g0, hg, Env.checked, hn]

/-- A guarded operation with a bad field is illegal. -/
theorem Env.guarded_bad (e : Env) (cs : List Check) (k : SlotOut) (c : Check) (hg : e.g.getLsbD 0 = true) (hn : firstBad cs = some c) :
    e.guarded cs k = e.illegal c.field c.value := by
  simp [Env.guarded, Env.g0, hg, Env.checked, hn]

/-- A supervisor operation at supervisor level. -/
theorem Env.guardedSup_of (e : Env) (cs : List Check) (k : SlotOut) (hg : e.g.getLsbD 0 = true) (hs : e.x.sup = true) (hn : NoBad cs) :
    e.guardedSup cs k = k := by
  unfold NoBad at hn; simp [Env.guardedSup, Env.g0, hg, hs, Env.checked, hn]

/-- A list of checks is good when each is. -/
theorem noBad_iff (cs : List Check) : NoBad cs ↔ ∀ c ∈ cs, c.bad = false := by
  unfold NoBad
  induction cs with
  | nil => simp [firstBad]
  | cons c cs ih =>
    simp only [firstBad, List.mem_cons, forall_eq_or_imp]
    cases h : firstBad cs with
    | none =>
      simp only [h, true_iff] at ih
      cases hb : c.bad <;> simp <;> exact ih
    | some d =>
      simp only [h, reduceCtorEq, false_iff] at ih
      constructor
      · intro hc; dsimp only at hc; split at hc <;> simp at hc
      · intro hc; exact absurd hc.2 ih

/-! ### The answer of each operation -/

@[simp] theorem evalInstr_nop (f : CForm) (e : Env) : evalInstr (.nop f) e = evalNop f e := rfl
@[simp] theorem evalInstr_prep (f : CForm) (e : Env) : evalInstr (.prep f) e = evalPrep f e := rfl
@[simp] theorem evalInstr_prepAbsolute (f : CForm) (e : Env) : evalInstr (.prepAbsolute f) e = evalPrepAbsolute f e := rfl
@[simp] theorem evalInstr_brx (f : CForm) (e : Env) : evalInstr (.brx f) e = evalBrx f e := rfl
@[simp] theorem evalInstr_brxl (f : CForm) (e : Env) : evalInstr (.brxl f) e = evalBrxl f e := rfl
@[simp] theorem evalInstr_vote (f : CForm) (e : Env) : evalInstr (.vote f) e = evalVote f e := rfl
@[simp] theorem evalInstr_ptt (f : CForm) (e : Env) : evalInstr (.ptt f) e = evalPtt f e := rfl
@[simp] theorem evalInstr_loop (f : CForm) (e : Env) : evalInstr (.loop f) e = evalLoop f e := rfl
@[simp] theorem evalInstr_lset (f : CForm) (e : Env) : evalInstr (.lset f) e = evalLset f e := rfl
@[simp] theorem evalInstr_lstr (f : CForm) (e : Env) : evalInstr (.lstr f) e = evalLstr f e := rfl
@[simp] theorem evalInstr_waitk (f : CForm) (e : Env) : evalInstr (.waitk f) e = evalWaitk f e := rfl
@[simp] theorem evalInstr_bwait (f : CForm) (e : Env) : evalInstr (.bwait f) e = evalBwait f e := rfl
@[simp] theorem evalInstr_barv (f : CForm) (e : Env) : evalInstr (.barv f) e = evalBarv f e := rfl
@[simp] theorem evalInstr_yield (f : CForm) (e : Env) : evalInstr (.yield f) e = evalYield f e := rfl
@[simp] theorem evalInstr_setfmt (f : CForm) (e : Env) : evalInstr (.setfmt f) e = evalSetfmt f e := rfl
@[simp] theorem evalInstr_setwin (f : CForm) (e : Env) : evalInstr (.setwin f) e = evalSetwin f e := rfl
@[simp] theorem evalInstr_trap (f : CForm) (e : Env) : evalInstr (.trap f) e = evalTrap f e := rfl
@[simp] theorem evalInstr_rft (f : CForm) (e : Env) : evalInstr (.rft f) e = evalRft f e := rfl
@[simp] theorem evalInstr_done (f : CForm) (e : Env) : evalInstr (.done f) e = evalDone f e := rfl
@[simp] theorem evalInstr_spin (f : CForm) (e : Env) : evalInstr (.spin f) e = evalSpin f e := rfl
@[simp] theorem evalInstr_add (f : SReg) (e : Env) : evalInstr (.add f) e = evalAdd f e := rfl
@[simp] theorem evalInstr_addi (f : SImm) (e : Env) : evalInstr (.addi f) e = evalAddi f e := rfl
@[simp] theorem evalInstr_sub (f : SReg) (e : Env) : evalInstr (.sub f) e = evalSub f e := rfl
@[simp] theorem evalInstr_mul (f : SReg) (e : Env) : evalInstr (.mul f) e = evalMul f e := rfl
@[simp] theorem evalInstr_mulh (f : SReg) (e : Env) : evalInstr (.mulh f) e = evalMulh f e := rfl
@[simp] theorem evalInstr_mulhn (f : SReg) (e : Env) : evalInstr (.mulhn f) e = evalMulhn f e := rfl
@[simp] theorem evalInstr_div (f : SReg) (e : Env) : evalInstr (.div f) e = evalDiv f e := rfl
@[simp] theorem evalInstr_divn (f : SReg) (e : Env) : evalInstr (.divn f) e = evalDivn f e := rfl
@[simp] theorem evalInstr_rem (f : SReg) (e : Env) : evalInstr (.rem f) e = evalRem f e := rfl
@[simp] theorem evalInstr_and (f : SReg) (e : Env) : evalInstr (.and f) e = evalAnd f e := rfl
@[simp] theorem evalInstr_andi (f : SImm) (e : Env) : evalInstr (.andi f) e = evalAndi f e := rfl
@[simp] theorem evalInstr_or (f : SReg) (e : Env) : evalInstr (.or f) e = evalOr f e := rfl
@[simp] theorem evalInstr_ori (f : SImm) (e : Env) : evalInstr (.ori f) e = evalOri f e := rfl
@[simp] theorem evalInstr_xor (f : SReg) (e : Env) : evalInstr (.xor f) e = evalXor f e := rfl
@[simp] theorem evalInstr_xori (f : SImm) (e : Env) : evalInstr (.xori f) e = evalXori f e := rfl
@[simp] theorem evalInstr_andn (f : SReg) (e : Env) : evalInstr (.andn f) e = evalAndn f e := rfl
@[simp] theorem evalInstr_shl (f : SReg) (e : Env) : evalInstr (.shl f) e = evalShl f e := rfl
@[simp] theorem evalInstr_shr (f : SReg) (e : Env) : evalInstr (.shr f) e = evalShr f e := rfl
@[simp] theorem evalInstr_sar (f : SReg) (e : Env) : evalInstr (.sar f) e = evalSar f e := rfl
@[simp] theorem evalInstr_rot (f : SReg) (e : Env) : evalInstr (.rot f) e = evalRot f e := rfl
@[simp] theorem evalInstr_clz (f : SReg) (e : Env) : evalInstr (.clz f) e = evalClz f e := rfl
@[simp] theorem evalInstr_popc (f : SReg) (e : Env) : evalInstr (.popc f) e = evalPopc f e := rfl
@[simp] theorem evalInstr_min (f : SReg) (e : Env) : evalInstr (.min f) e = evalMin f e := rfl
@[simp] theorem evalInstr_max (f : SReg) (e : Env) : evalInstr (.max f) e = evalMax f e := rfl
@[simp] theorem evalInstr_minn (f : SReg) (e : Env) : evalInstr (.minn f) e = evalMinn f e := rfl
@[simp] theorem evalInstr_maxn (f : SReg) (e : Env) : evalInstr (.maxn f) e = evalMaxn f e := rfl
@[simp] theorem evalInstr_shadd (f : SImm) (e : Env) : evalInstr (.shadd f) e = evalShadd f e := rfl
@[simp] theorem evalInstr_ext (f : SImm) (e : Env) : evalInstr (.ext f) e = evalExt f e := rfl
@[simp] theorem evalInstr_ins (f : SImm) (e : Env) : evalInstr (.ins f) e = evalIns f e := rfl
@[simp] theorem evalInstr_li (f : SImm) (e : Env) : evalInstr (.li f) e = evalLi f e := rfl
@[simp] theorem evalInstr_lih (f : SImm) (e : Env) : evalInstr (.lih f) e = evalLih f e := rfl
@[simp] theorem evalInstr_lil (f : SImm) (e : Env) : evalInstr (.lil f) e = evalLil f e := rfl
@[simp] theorem evalInstr_cmp (f : SReg) (e : Env) : evalInstr (.cmp f) e = evalCmp f e := rfl
@[simp] theorem evalInstr_cmpi (f : SImm) (e : Env) : evalInstr (.cmpi f) e = evalCmpi f e := rfl
@[simp] theorem evalInstr_sel (f : SImm) (e : Env) : evalInstr (.sel f) e = evalSel f e := rfl
@[simp] theorem evalInstr_cpy (f : SImm) (e : Env) : evalInstr (.cpy f) e = evalCpy f e := rfl
@[simp] theorem evalInstr_mfs (f : SImm) (e : Env) : evalInstr (.mfs f) e = evalMfs f e := rfl
@[simp] theorem evalInstr_mts (f : SImm) (e : Env) : evalInstr (.mts f) e = evalMts f e := rfl
@[simp] theorem evalInstr_brxS1 (f : SReg) (e : Env) : evalInstr (.brxS1 f) e = evalBrxS1 f e := rfl
@[simp] theorem evalInstr_vadd (f : VReg) (e : Env) : evalInstr (.vadd f) e = evalVadd f e := rfl
@[simp] theorem evalInstr_vsub (f : VReg) (e : Env) : evalInstr (.vsub f) e = evalVsub f e := rfl
@[simp] theorem evalInstr_vmul (f : VReg) (e : Env) : evalInstr (.vmul f) e = evalVmul f e := rfl
@[simp] theorem evalInstr_vfma (f : VReg) (e : Env) : evalInstr (.vfma f) e = evalVfma f e := rfl
@[simp] theorem evalInstr_vfms (f : VReg) (e : Env) : evalInstr (.vfms f) e = evalVfms f e := rfl
@[simp] theorem evalInstr_vmac (f : VReg) (e : Env) : evalInstr (.vmac f) e = evalVmac f e := rfl
@[simp] theorem evalInstr_vmin (f : VReg) (e : Env) : evalInstr (.vmin f) e = evalVmin f e := rfl
@[simp] theorem evalInstr_vmax (f : VReg) (e : Env) : evalInstr (.vmax f) e = evalVmax f e := rfl
@[simp] theorem evalInstr_vabs (f : VReg) (e : Env) : evalInstr (.vabs f) e = evalVabs f e := rfl
@[simp] theorem evalInstr_vneg (f : VReg) (e : Env) : evalInstr (.vneg f) e = evalVneg f e := rfl
@[simp] theorem evalInstr_vrcp (f : VReg) (e : Env) : evalInstr (.vrcp f) e = evalVrcp f e := rfl
@[simp] theorem evalInstr_vrsq (f : VReg) (e : Env) : evalInstr (.vrsq f) e = evalVrsq f e := rfl
@[simp] theorem evalInstr_vexp2 (f : VReg) (e : Env) : evalInstr (.vexp2 f) e = evalVexp2 f e := rfl
@[simp] theorem evalInstr_vlog2 (f : VReg) (e : Env) : evalInstr (.vlog2 f) e = evalVlog2 f e := rfl
@[simp] theorem evalInstr_vclass (f : VReg) (e : Env) : evalInstr (.vclass f) e = evalVclass f e := rfl
@[simp] theorem evalInstr_vcmp (f : VReg) (e : Env) : evalInstr (.vcmp f) e = evalVcmp f e := rfl
@[simp] theorem evalInstr_vaddi (f : VImm) (e : Env) : evalInstr (.vaddi f) e = evalVaddi f e := rfl
@[simp] theorem evalInstr_vmuli (f : VImm) (e : Env) : evalInstr (.vmuli f) e = evalVmuli f e := rfl
@[simp] theorem evalInstr_vfmai (f : VImm) (e : Env) : evalInstr (.vfmai f) e = evalVfmai f e := rfl
@[simp] theorem evalInstr_vmaci (f : VImm) (e : Env) : evalInstr (.vmaci f) e = evalVmaci f e := rfl
@[simp] theorem evalInstr_viadd (f : VReg) (e : Env) : evalInstr (.viadd f) e = evalViadd f e := rfl
@[simp] theorem evalInstr_visub (f : VReg) (e : Env) : evalInstr (.visub f) e = evalVisub f e := rfl
@[simp] theorem evalInstr_vimul (f : VReg) (e : Env) : evalInstr (.vimul f) e = evalVimul f e := rfl
@[simp] theorem evalInstr_vimulh (f : VReg) (e : Env) : evalInstr (.vimulh f) e = evalVimulh f e := rfl
@[simp] theorem evalInstr_vshl (f : VReg) (e : Env) : evalInstr (.vshl f) e = evalVshl f e := rfl
@[simp] theorem evalInstr_vshr (f : VReg) (e : Env) : evalInstr (.vshr f) e = evalVshr f e := rfl
@[simp] theorem evalInstr_vsar (f : VReg) (e : Env) : evalInstr (.vsar f) e = evalVsar f e := rfl
@[simp] theorem evalInstr_vand (f : VReg) (e : Env) : evalInstr (.vand f) e = evalVand f e := rfl
@[simp] theorem evalInstr_vor (f : VReg) (e : Env) : evalInstr (.vor f) e = evalVor f e := rfl
@[simp] theorem evalInstr_vxor (f : VReg) (e : Env) : evalInstr (.vxor f) e = evalVxor f e := rfl
@[simp] theorem evalInstr_vandn (f : VReg) (e : Env) : evalInstr (.vandn f) e = evalVandn f e := rfl
@[simp] theorem evalInstr_vimin (f : VReg) (e : Env) : evalInstr (.vimin f) e = evalVimin f e := rfl
@[simp] theorem evalInstr_vimax (f : VReg) (e : Env) : evalInstr (.vimax f) e = evalVimax f e := rfl
@[simp] theorem evalInstr_vadds (f : VReg) (e : Env) : evalInstr (.vadds f) e = evalVadds f e := rfl
@[simp] theorem evalInstr_vsubs (f : VReg) (e : Env) : evalInstr (.vsubs f) e = evalVsubs f e := rfl
@[simp] theorem evalInstr_vqmuls (f : VReg) (e : Env) : evalInstr (.vqmuls f) e = evalVqmuls f e := rfl
@[simp] theorem evalInstr_vabsd (f : VReg) (e : Env) : evalInstr (.vabsd f) e = evalVabsd f e := rfl
@[simp] theorem evalInstr_vavg (f : VReg) (e : Env) : evalInstr (.vavg f) e = evalVavg f e := rfl
@[simp] theorem evalInstr_vdot4 (f : VReg) (e : Env) : evalInstr (.vdot4 f) e = evalVdot4 f e := rfl
@[simp] theorem evalInstr_vsad (f : VReg) (e : Env) : evalInstr (.vsad f) e = evalVsad f e := rfl
@[simp] theorem evalInstr_vicmp (f : VReg) (e : Env) : evalInstr (.vicmp f) e = evalVicmp f e := rfl
@[simp] theorem evalInstr_vcvt (f : VReg) (e : Env) : evalInstr (.vcvt f) e = evalVcvt f e := rfl
@[simp] theorem evalInstr_vqnt (f : VReg) (e : Env) : evalInstr (.vqnt f) e = evalVqnt f e := rfl
@[simp] theorem evalInstr_vdqnt (f : VReg) (e : Env) : evalInstr (.vdqnt f) e = evalVdqnt f e := rfl
@[simp] theorem evalInstr_vmxs (f : VReg) (e : Env) : evalInstr (.vmxs f) e = evalVmxs f e := rfl
@[simp] theorem evalInstr_vsplit (f : VReg) (e : Env) : evalInstr (.vsplit f) e = evalVsplit f e := rfl
@[simp] theorem evalInstr_vjoin (f : VReg) (e : Env) : evalInstr (.vjoin f) e = evalVjoin f e := rfl
@[simp] theorem evalInstr_vmov (f : VReg) (e : Env) : evalInstr (.vmov f) e = evalVmov f e := rfl
@[simp] theorem evalInstr_vbcst (f : VReg) (e : Env) : evalInstr (.vbcst f) e = evalVbcst f e := rfl
@[simp] theorem evalInstr_viota (f : VReg) (e : Env) : evalInstr (.viota f) e = evalViota f e := rfl
@[simp] theorem evalInstr_vperm (f : VReg) (e : Env) : evalInstr (.vperm f) e = evalVperm f e := rfl
@[simp] theorem evalInstr_vshuf (f : VReg) (e : Env) : evalInstr (.vshuf f) e = evalVshuf f e := rfl
@[simp] theorem evalInstr_vslide (f : VReg) (e : Env) : evalInstr (.vslide f) e = evalVslide f e := rfl
@[simp] theorem evalInstr_vbext (f : VReg) (e : Env) : evalInstr (.vbext f) e = evalVbext f e := rfl
@[simp] theorem evalInstr_vlut (f : VReg) (e : Env) : evalInstr (.vlut f) e = evalVlut f e := rfl
@[simp] theorem evalInstr_vlutld (f : VReg) (e : Env) : evalInstr (.vlutld f) e = evalVlutld f e := rfl
@[simp] theorem evalInstr_vunpk12 (f : VReg) (e : Env) : evalInstr (.vunpk12 f) e = evalVunpk12 f e := rfl
@[simp] theorem evalInstr_vpack12 (f : VReg) (e : Env) : evalInstr (.vpack12 f) e = evalVpack12 f e := rfl
@[simp] theorem evalInstr_vrng (f : VReg) (e : Env) : evalInstr (.vrng f) e = evalVrng f e := rfl
@[simp] theorem evalInstr_vred (f : VReg) (e : Env) : evalInstr (.vred f) e = evalVred f e := rfl
@[simp] theorem evalInstr_vscan (f : VReg) (e : Env) : evalInstr (.vscan f) e = evalVscan f e := rfl
@[simp] theorem evalInstr_vcpy (f : VReg) (e : Env) : evalInstr (.vcpy f) e = evalVcpy f e := rfl
@[simp] theorem evalInstr_mcfg (f : MCfg) (e : Env) : evalInstr (.mcfg f) e = evalMcfg f e := rfl
@[simp] theorem evalInstr_mzero (f : MZero) (e : Env) : evalInstr (.mzero f) e = evalMzero f e := rfl
@[simp] theorem evalInstr_mma (f : MMac) (e : Env) : evalInstr (.mma f) e = evalMma f e := rfl
@[simp] theorem evalInstr_mmax (f : MMac) (e : Env) : evalInstr (.mmax f) e = evalMmax f e := rfl
@[simp] theorem evalInstr_mread (f : MRead) (e : Env) : evalInstr (.mread f) e = evalMread f e := rfl
@[simp] theorem evalInstr_mwrite (f : MWrite) (e : Env) : evalInstr (.mwrite f) e = evalMwrite f e := rfl
@[simp] theorem evalInstr_mjoin (f : MJoin) (e : Env) : evalInstr (.mjoin f) e = evalMjoin f e := rfl
@[simp] theorem evalInstr_mstat (f : MStat) (e : Env) : evalInstr (.mstat f) e = evalMstat f e := rfl
@[simp] theorem evalInstr_ld (f : LGen) (e : Env) : evalInstr (.ld f) e = evalLd f e := rfl
@[simp] theorem evalInstr_st (f : LGen) (e : Env) : evalInstr (.st f) e = evalSt f e := rfl
@[simp] theorem evalInstr_vld (f : LGen) (e : Env) : evalInstr (.vld f) e = evalVld f e := rfl
@[simp] theorem evalInstr_vst (f : LGen) (e : Env) : evalInstr (.vst f) e = evalVst f e := rfl
@[simp] theorem evalInstr_vlds (f : LStr) (e : Env) : evalInstr (.vlds f) e = evalVlds f e := rfl
@[simp] theorem evalInstr_vsts (f : LStr) (e : Env) : evalInstr (.vsts f) e = evalVsts f e := rfl
@[simp] theorem evalInstr_vgth (f : LIdx) (e : Env) : evalInstr (.vgth f) e = evalVgth f e := rfl
@[simp] theorem evalInstr_vsct (f : LIdx) (e : Env) : evalInstr (.vsct f) e = evalVsct f e := rfl
@[simp] theorem evalInstr_ldj (f : LGen) (e : Env) : evalInstr (.ldj f) e = evalLdj f e := rfl
@[simp] theorem evalInstr_stj (f : LGen) (e : Env) : evalInstr (.stj f) e = evalStj f e := rfl
@[simp] theorem evalInstr_atom (f : LAtom) (e : Env) : evalInstr (.atom f) e = evalAtom f e := rfl
@[simp] theorem evalInstr_ldAcq (f : LAtom) (e : Env) : evalInstr (.ldAcq f) e = evalLdAcq f e := rfl
@[simp] theorem evalInstr_stRel (f : LAtom) (e : Env) : evalInstr (.stRel f) e = evalStRel f e := rfl
@[simp] theorem evalInstr_vatom (f : LVAtom) (e : Env) : evalInstr (.vatom f) e = evalVatom f e := rfl
@[simp] theorem evalInstr_fence (f : LScope) (e : Env) : evalInstr (.fence f) e = evalFence f e := rfl
@[simp] theorem evalInstr_sync (f : LScope) (e : Env) : evalInstr (.sync f) e = evalSync f e := rfl
@[simp] theorem evalInstr_tbinit (f : LBar) (e : Env) : evalInstr (.tbinit f) e = evalTbinit f e := rfl
@[simp] theorem evalInstr_tbarv (f : LBar) (e : Env) : evalInstr (.tbarv f) e = evalTbarv f e := rfl
@[simp] theorem evalInstr_tbexp (f : LBar) (e : Env) : evalInstr (.tbexp f) e = evalTbexp f e := rfl
@[simp] theorem evalInstr_tbwait (f : LBar) (e : Env) : evalInstr (.tbwait f) e = evalTbwait f e := rfl
@[simp] theorem evalInstr_spill (f : LSpill) (e : Env) : evalInstr (.spill f) e = evalSpill f e := rfl
@[simp] theorem evalInstr_fill (f : LSpill) (e : Env) : evalInstr (.fill f) e = evalFill f e := rfl
@[simp] theorem evalInstr_dadd (f : LDadd) (e : Env) : evalInstr (.dadd f) e = evalDadd f e := rfl
@[simp] theorem evalInstr_dli (f : LDli) (e : Env) : evalInstr (.dli f) e = evalDli f e := rfl
@[simp] theorem evalInstr_dcpy (f : LDcpy) (e : Env) : evalInstr (.dcpy f) e = evalDcpy f e := rfl
@[simp] theorem evalInstr_l1inv (f : LLine) (e : Env) : evalInstr (.l1inv f) e = evalL1inv f e := rfl
@[simp] theorem evalInstr_l1wb (f : LLine) (e : Env) : evalInstr (.l1wb f) e = evalL1wb f e := rfl
@[simp] theorem evalInstr_prf (f : LGen) (e : Env) : evalInstr (.prf f) e = evalPrf f e := rfl
@[simp] theorem evalInstr_sljob (f : EForm) (e : Env) : evalInstr (.sljob f) e = evalSljob f e := rfl
@[simp] theorem evalInstr_slstat (f : EForm) (e : Env) : evalInstr (.slstat f) e = evalSlstat f e := rfl
@[simp] theorem evalInstr_slkill (f : EForm) (e : Env) : evalInstr (.slkill f) e = evalSlkill f e := rfl
@[simp] theorem evalInstr_stbind (f : EForm) (e : Env) : evalInstr (.stbind f) e = evalStbind f e := rfl
@[simp] theorem evalInstr_rmov (f : EForm) (e : Env) : evalInstr (.rmov f) e = evalRmov f e := rfl
@[simp] theorem evalInstr_rget (f : EForm) (e : Env) : evalInstr (.rget f) e = evalRget f e := rfl
@[simp] theorem evalInstr_edstash (f : EForm) (e : Env) : evalInstr (.edstash f) e = evalEdstash f e := rfl
@[simp] theorem evalInstr_edfetch (f : EForm) (e : Env) : evalInstr (.edfetch f) e = evalEdfetch f e := rfl
@[simp] theorem evalInstr_edfree (f : EForm) (e : Env) : evalInstr (.edfree f) e = evalEdfree f e := rfl
@[simp] theorem evalInstr_edqry (f : EForm) (e : Env) : evalInstr (.edqry f) e = evalEdqry f e := rfl
@[simp] theorem evalInstr_chsend (f : EForm) (e : Env) : evalInstr (.chsend f) e = evalChsend f e := rfl
@[simp] theorem evalInstr_chrecv (f : EForm) (e : Env) : evalInstr (.chrecv f) e = evalChrecv f e := rfl
@[simp] theorem evalInstr_chrel (f : EForm) (e : Env) : evalInstr (.chrel f) e = evalChrel f e := rfl
@[simp] theorem evalInstr_chwin (f : EForm) (e : Env) : evalInstr (.chwin f) e = evalChwin f e := rfl
@[simp] theorem evalInstr_oxred (f : EForm) (e : Env) : evalInstr (.oxred f) e = evalOxred f e := rfl
@[simp] theorem evalInstr_oxgath (f : EForm) (e : Env) : evalInstr (.oxgath f) e = evalOxgath f e := rfl
@[simp] theorem evalInstr_wpost (f : EForm) (e : Env) : evalInstr (.wpost f) e = evalWpost f e := rfl
@[simp] theorem evalInstr_wraise (f : EForm) (e : Env) : evalInstr (.wraise f) e = evalWraise f e := rfl
@[simp] theorem evalInstr_warr (f : EForm) (e : Env) : evalInstr (.warr f) e = evalWarr f e := rfl
@[simp] theorem evalInstr_spawn (f : EForm) (e : Env) : evalInstr (.spawn f) e = evalSpawn f e := rfl
@[simp] theorem evalInstr_grd (f : EForm) (e : Env) : evalInstr (.grd f) e = evalGrd f e := rfl
@[simp] theorem evalInstr_gupd (f : EForm) (e : Env) : evalInstr (.gupd f) e = evalGupd f e := rfl
@[simp] theorem evalInstr_gnew (f : EForm) (e : Env) : evalInstr (.gnew f) e = evalGnew f e := rfl
@[simp] theorem evalInstr_gseal (f : EForm) (e : Env) : evalInstr (.gseal f) e = evalGseal f e := rfl
@[simp] theorem evalInstr_grescale (f : EForm) (e : Env) : evalInstr (.grescale f) e = evalGrescale f e := rfl
@[simp] theorem evalInstr_recset (f : EForm) (e : Env) : evalInstr (.recset f) e = evalRecset f e := rfl
@[simp] theorem evalInstr_lease (f : EForm) (e : Env) : evalInstr (.lease f) e = evalLease f e := rfl
@[simp] theorem evalInstr_lrel (f : EForm) (e : Env) : evalInstr (.lrel f) e = evalLrel f e := rfl
@[simp] theorem evalInstr_eli (f : EForm) (e : Env) : evalInstr (.eli f) e = evalEli f e := rfl
@[simp] theorem evalInstr_ecpy (f : EForm) (e : Env) : evalInstr (.ecpy f) e = evalEcpy f e := rfl
@[simp] theorem evalInstr_twait (f : EForm) (e : Env) : evalInstr (.twait f) e = evalTwait f e := rfl

/-! ### The guard of each operation -/

@[simp] theorem envAlone_g_nop (s : State) (x : Ctx) (f : CForm) : (s.envAlone x (.nop f)).g = x.guard f.g := rfl
@[simp] theorem envAlone_g_prep (s : State) (x : Ctx) (f : CForm) : (s.envAlone x (.prep f)).g = x.guard f.g := rfl
@[simp] theorem envAlone_g_prepAbsolute (s : State) (x : Ctx) (f : CForm) : (s.envAlone x (.prepAbsolute f)).g = x.guard f.g := rfl
@[simp] theorem envAlone_g_brx (s : State) (x : Ctx) (f : CForm) : (s.envAlone x (.brx f)).g = x.guard f.g := rfl
@[simp] theorem envAlone_g_brxl (s : State) (x : Ctx) (f : CForm) : (s.envAlone x (.brxl f)).g = x.guard f.g := rfl
@[simp] theorem envAlone_g_vote (s : State) (x : Ctx) (f : CForm) : (s.envAlone x (.vote f)).g = x.guard f.g := rfl
@[simp] theorem envAlone_g_ptt (s : State) (x : Ctx) (f : CForm) : (s.envAlone x (.ptt f)).g = x.guard f.g := rfl
@[simp] theorem envAlone_g_loop (s : State) (x : Ctx) (f : CForm) : (s.envAlone x (.loop f)).g = x.guard f.g := rfl
@[simp] theorem envAlone_g_lset (s : State) (x : Ctx) (f : CForm) : (s.envAlone x (.lset f)).g = x.guard f.g := rfl
@[simp] theorem envAlone_g_lstr (s : State) (x : Ctx) (f : CForm) : (s.envAlone x (.lstr f)).g = x.guard f.g := rfl
@[simp] theorem envAlone_g_waitk (s : State) (x : Ctx) (f : CForm) : (s.envAlone x (.waitk f)).g = x.guard f.g := rfl
@[simp] theorem envAlone_g_bwait (s : State) (x : Ctx) (f : CForm) : (s.envAlone x (.bwait f)).g = x.guard f.g := rfl
@[simp] theorem envAlone_g_barv (s : State) (x : Ctx) (f : CForm) : (s.envAlone x (.barv f)).g = x.guard f.g := rfl
@[simp] theorem envAlone_g_yield (s : State) (x : Ctx) (f : CForm) : (s.envAlone x (.yield f)).g = x.guard f.g := rfl
@[simp] theorem envAlone_g_setfmt (s : State) (x : Ctx) (f : CForm) : (s.envAlone x (.setfmt f)).g = x.guard f.g := rfl
@[simp] theorem envAlone_g_setwin (s : State) (x : Ctx) (f : CForm) : (s.envAlone x (.setwin f)).g = x.guard f.g := rfl
@[simp] theorem envAlone_g_trap (s : State) (x : Ctx) (f : CForm) : (s.envAlone x (.trap f)).g = x.guard f.g := rfl
@[simp] theorem envAlone_g_rft (s : State) (x : Ctx) (f : CForm) : (s.envAlone x (.rft f)).g = x.guard f.g := rfl
@[simp] theorem envAlone_g_done (s : State) (x : Ctx) (f : CForm) : (s.envAlone x (.done f)).g = x.guard f.g := rfl
@[simp] theorem envAlone_g_spin (s : State) (x : Ctx) (f : CForm) : (s.envAlone x (.spin f)).g = x.guard f.g := rfl
@[simp] theorem envAlone_g_add (s : State) (x : Ctx) (f : SReg) : (s.envAlone x (.add f)).g = x.guard f.g := rfl
@[simp] theorem envAlone_g_addi (s : State) (x : Ctx) (f : SImm) : (s.envAlone x (.addi f)).g = x.guard f.g := rfl
@[simp] theorem envAlone_g_sub (s : State) (x : Ctx) (f : SReg) : (s.envAlone x (.sub f)).g = x.guard f.g := rfl
@[simp] theorem envAlone_g_mul (s : State) (x : Ctx) (f : SReg) : (s.envAlone x (.mul f)).g = x.guard f.g := rfl
@[simp] theorem envAlone_g_mulh (s : State) (x : Ctx) (f : SReg) : (s.envAlone x (.mulh f)).g = x.guard f.g := rfl
@[simp] theorem envAlone_g_mulhn (s : State) (x : Ctx) (f : SReg) : (s.envAlone x (.mulhn f)).g = x.guard f.g := rfl
@[simp] theorem envAlone_g_div (s : State) (x : Ctx) (f : SReg) : (s.envAlone x (.div f)).g = x.guard f.g := rfl
@[simp] theorem envAlone_g_divn (s : State) (x : Ctx) (f : SReg) : (s.envAlone x (.divn f)).g = x.guard f.g := rfl
@[simp] theorem envAlone_g_rem (s : State) (x : Ctx) (f : SReg) : (s.envAlone x (.rem f)).g = x.guard f.g := rfl
@[simp] theorem envAlone_g_and (s : State) (x : Ctx) (f : SReg) : (s.envAlone x (.and f)).g = x.guard f.g := rfl
@[simp] theorem envAlone_g_andi (s : State) (x : Ctx) (f : SImm) : (s.envAlone x (.andi f)).g = x.guard f.g := rfl
@[simp] theorem envAlone_g_or (s : State) (x : Ctx) (f : SReg) : (s.envAlone x (.or f)).g = x.guard f.g := rfl
@[simp] theorem envAlone_g_ori (s : State) (x : Ctx) (f : SImm) : (s.envAlone x (.ori f)).g = x.guard f.g := rfl
@[simp] theorem envAlone_g_xor (s : State) (x : Ctx) (f : SReg) : (s.envAlone x (.xor f)).g = x.guard f.g := rfl
@[simp] theorem envAlone_g_xori (s : State) (x : Ctx) (f : SImm) : (s.envAlone x (.xori f)).g = x.guard f.g := rfl
@[simp] theorem envAlone_g_andn (s : State) (x : Ctx) (f : SReg) : (s.envAlone x (.andn f)).g = x.guard f.g := rfl
@[simp] theorem envAlone_g_shl (s : State) (x : Ctx) (f : SReg) : (s.envAlone x (.shl f)).g = x.guard f.g := rfl
@[simp] theorem envAlone_g_shr (s : State) (x : Ctx) (f : SReg) : (s.envAlone x (.shr f)).g = x.guard f.g := rfl
@[simp] theorem envAlone_g_sar (s : State) (x : Ctx) (f : SReg) : (s.envAlone x (.sar f)).g = x.guard f.g := rfl
@[simp] theorem envAlone_g_rot (s : State) (x : Ctx) (f : SReg) : (s.envAlone x (.rot f)).g = x.guard f.g := rfl
@[simp] theorem envAlone_g_clz (s : State) (x : Ctx) (f : SReg) : (s.envAlone x (.clz f)).g = x.guard f.g := rfl
@[simp] theorem envAlone_g_popc (s : State) (x : Ctx) (f : SReg) : (s.envAlone x (.popc f)).g = x.guard f.g := rfl
@[simp] theorem envAlone_g_min (s : State) (x : Ctx) (f : SReg) : (s.envAlone x (.min f)).g = x.guard f.g := rfl
@[simp] theorem envAlone_g_max (s : State) (x : Ctx) (f : SReg) : (s.envAlone x (.max f)).g = x.guard f.g := rfl
@[simp] theorem envAlone_g_minn (s : State) (x : Ctx) (f : SReg) : (s.envAlone x (.minn f)).g = x.guard f.g := rfl
@[simp] theorem envAlone_g_maxn (s : State) (x : Ctx) (f : SReg) : (s.envAlone x (.maxn f)).g = x.guard f.g := rfl
@[simp] theorem envAlone_g_shadd (s : State) (x : Ctx) (f : SImm) : (s.envAlone x (.shadd f)).g = x.guard f.g := rfl
@[simp] theorem envAlone_g_ext (s : State) (x : Ctx) (f : SImm) : (s.envAlone x (.ext f)).g = x.guard f.g := rfl
@[simp] theorem envAlone_g_ins (s : State) (x : Ctx) (f : SImm) : (s.envAlone x (.ins f)).g = x.guard f.g := rfl
@[simp] theorem envAlone_g_li (s : State) (x : Ctx) (f : SImm) : (s.envAlone x (.li f)).g = x.guard f.g := rfl
@[simp] theorem envAlone_g_lih (s : State) (x : Ctx) (f : SImm) : (s.envAlone x (.lih f)).g = x.guard f.g := rfl
@[simp] theorem envAlone_g_lil (s : State) (x : Ctx) (f : SImm) : (s.envAlone x (.lil f)).g = x.guard f.g := rfl
@[simp] theorem envAlone_g_cmp (s : State) (x : Ctx) (f : SReg) : (s.envAlone x (.cmp f)).g = x.guard f.g := rfl
@[simp] theorem envAlone_g_cmpi (s : State) (x : Ctx) (f : SImm) : (s.envAlone x (.cmpi f)).g = x.guard f.g := rfl
@[simp] theorem envAlone_g_sel (s : State) (x : Ctx) (f : SImm) : (s.envAlone x (.sel f)).g = x.guard f.g := rfl
@[simp] theorem envAlone_g_cpy (s : State) (x : Ctx) (f : SImm) : (s.envAlone x (.cpy f)).g = x.guard f.g := rfl
@[simp] theorem envAlone_g_mfs (s : State) (x : Ctx) (f : SImm) : (s.envAlone x (.mfs f)).g = x.guard f.g := rfl
@[simp] theorem envAlone_g_mts (s : State) (x : Ctx) (f : SImm) : (s.envAlone x (.mts f)).g = x.guard f.g := rfl
@[simp] theorem envAlone_g_brxS1 (s : State) (x : Ctx) (f : SReg) : (s.envAlone x (.brxS1 f)).g = x.guard f.g := rfl
@[simp] theorem envAlone_g_vadd (s : State) (x : Ctx) (f : VReg) : (s.envAlone x (.vadd f)).g = x.guard f.g := rfl
@[simp] theorem envAlone_g_vsub (s : State) (x : Ctx) (f : VReg) : (s.envAlone x (.vsub f)).g = x.guard f.g := rfl
@[simp] theorem envAlone_g_vmul (s : State) (x : Ctx) (f : VReg) : (s.envAlone x (.vmul f)).g = x.guard f.g := rfl
@[simp] theorem envAlone_g_vfma (s : State) (x : Ctx) (f : VReg) : (s.envAlone x (.vfma f)).g = x.guard f.g := rfl
@[simp] theorem envAlone_g_vfms (s : State) (x : Ctx) (f : VReg) : (s.envAlone x (.vfms f)).g = x.guard f.g := rfl
@[simp] theorem envAlone_g_vmac (s : State) (x : Ctx) (f : VReg) : (s.envAlone x (.vmac f)).g = x.guard f.g := rfl
@[simp] theorem envAlone_g_vmin (s : State) (x : Ctx) (f : VReg) : (s.envAlone x (.vmin f)).g = x.guard f.g := rfl
@[simp] theorem envAlone_g_vmax (s : State) (x : Ctx) (f : VReg) : (s.envAlone x (.vmax f)).g = x.guard f.g := rfl
@[simp] theorem envAlone_g_vabs (s : State) (x : Ctx) (f : VReg) : (s.envAlone x (.vabs f)).g = x.guard f.g := rfl
@[simp] theorem envAlone_g_vneg (s : State) (x : Ctx) (f : VReg) : (s.envAlone x (.vneg f)).g = x.guard f.g := rfl
@[simp] theorem envAlone_g_vrcp (s : State) (x : Ctx) (f : VReg) : (s.envAlone x (.vrcp f)).g = x.guard f.g := rfl
@[simp] theorem envAlone_g_vrsq (s : State) (x : Ctx) (f : VReg) : (s.envAlone x (.vrsq f)).g = x.guard f.g := rfl
@[simp] theorem envAlone_g_vexp2 (s : State) (x : Ctx) (f : VReg) : (s.envAlone x (.vexp2 f)).g = x.guard f.g := rfl
@[simp] theorem envAlone_g_vlog2 (s : State) (x : Ctx) (f : VReg) : (s.envAlone x (.vlog2 f)).g = x.guard f.g := rfl
@[simp] theorem envAlone_g_vclass (s : State) (x : Ctx) (f : VReg) : (s.envAlone x (.vclass f)).g = x.guard f.g := rfl
@[simp] theorem envAlone_g_vcmp (s : State) (x : Ctx) (f : VReg) : (s.envAlone x (.vcmp f)).g = x.guard f.g := rfl
@[simp] theorem envAlone_g_vaddi (s : State) (x : Ctx) (f : VImm) : (s.envAlone x (.vaddi f)).g = x.guard f.g := rfl
@[simp] theorem envAlone_g_vmuli (s : State) (x : Ctx) (f : VImm) : (s.envAlone x (.vmuli f)).g = x.guard f.g := rfl
@[simp] theorem envAlone_g_vfmai (s : State) (x : Ctx) (f : VImm) : (s.envAlone x (.vfmai f)).g = x.guard f.g := rfl
@[simp] theorem envAlone_g_vmaci (s : State) (x : Ctx) (f : VImm) : (s.envAlone x (.vmaci f)).g = x.guard f.g := rfl
@[simp] theorem envAlone_g_viadd (s : State) (x : Ctx) (f : VReg) : (s.envAlone x (.viadd f)).g = x.guard f.g := rfl
@[simp] theorem envAlone_g_visub (s : State) (x : Ctx) (f : VReg) : (s.envAlone x (.visub f)).g = x.guard f.g := rfl
@[simp] theorem envAlone_g_vimul (s : State) (x : Ctx) (f : VReg) : (s.envAlone x (.vimul f)).g = x.guard f.g := rfl
@[simp] theorem envAlone_g_vimulh (s : State) (x : Ctx) (f : VReg) : (s.envAlone x (.vimulh f)).g = x.guard f.g := rfl
@[simp] theorem envAlone_g_vshl (s : State) (x : Ctx) (f : VReg) : (s.envAlone x (.vshl f)).g = x.guard f.g := rfl
@[simp] theorem envAlone_g_vshr (s : State) (x : Ctx) (f : VReg) : (s.envAlone x (.vshr f)).g = x.guard f.g := rfl
@[simp] theorem envAlone_g_vsar (s : State) (x : Ctx) (f : VReg) : (s.envAlone x (.vsar f)).g = x.guard f.g := rfl
@[simp] theorem envAlone_g_vand (s : State) (x : Ctx) (f : VReg) : (s.envAlone x (.vand f)).g = x.guard f.g := rfl
@[simp] theorem envAlone_g_vor (s : State) (x : Ctx) (f : VReg) : (s.envAlone x (.vor f)).g = x.guard f.g := rfl
@[simp] theorem envAlone_g_vxor (s : State) (x : Ctx) (f : VReg) : (s.envAlone x (.vxor f)).g = x.guard f.g := rfl
@[simp] theorem envAlone_g_vandn (s : State) (x : Ctx) (f : VReg) : (s.envAlone x (.vandn f)).g = x.guard f.g := rfl
@[simp] theorem envAlone_g_vimin (s : State) (x : Ctx) (f : VReg) : (s.envAlone x (.vimin f)).g = x.guard f.g := rfl
@[simp] theorem envAlone_g_vimax (s : State) (x : Ctx) (f : VReg) : (s.envAlone x (.vimax f)).g = x.guard f.g := rfl
@[simp] theorem envAlone_g_vadds (s : State) (x : Ctx) (f : VReg) : (s.envAlone x (.vadds f)).g = x.guard f.g := rfl
@[simp] theorem envAlone_g_vsubs (s : State) (x : Ctx) (f : VReg) : (s.envAlone x (.vsubs f)).g = x.guard f.g := rfl
@[simp] theorem envAlone_g_vqmuls (s : State) (x : Ctx) (f : VReg) : (s.envAlone x (.vqmuls f)).g = x.guard f.g := rfl
@[simp] theorem envAlone_g_vabsd (s : State) (x : Ctx) (f : VReg) : (s.envAlone x (.vabsd f)).g = x.guard f.g := rfl
@[simp] theorem envAlone_g_vavg (s : State) (x : Ctx) (f : VReg) : (s.envAlone x (.vavg f)).g = x.guard f.g := rfl
@[simp] theorem envAlone_g_vdot4 (s : State) (x : Ctx) (f : VReg) : (s.envAlone x (.vdot4 f)).g = x.guard f.g := rfl
@[simp] theorem envAlone_g_vsad (s : State) (x : Ctx) (f : VReg) : (s.envAlone x (.vsad f)).g = x.guard f.g := rfl
@[simp] theorem envAlone_g_vicmp (s : State) (x : Ctx) (f : VReg) : (s.envAlone x (.vicmp f)).g = x.guard f.g := rfl
@[simp] theorem envAlone_g_vcvt (s : State) (x : Ctx) (f : VReg) : (s.envAlone x (.vcvt f)).g = x.guard f.g := rfl
@[simp] theorem envAlone_g_vqnt (s : State) (x : Ctx) (f : VReg) : (s.envAlone x (.vqnt f)).g = x.guard f.g := rfl
@[simp] theorem envAlone_g_vdqnt (s : State) (x : Ctx) (f : VReg) : (s.envAlone x (.vdqnt f)).g = x.guard f.g := rfl
@[simp] theorem envAlone_g_vmxs (s : State) (x : Ctx) (f : VReg) : (s.envAlone x (.vmxs f)).g = x.guard f.g := rfl
@[simp] theorem envAlone_g_vsplit (s : State) (x : Ctx) (f : VReg) : (s.envAlone x (.vsplit f)).g = x.guard f.g := rfl
@[simp] theorem envAlone_g_vjoin (s : State) (x : Ctx) (f : VReg) : (s.envAlone x (.vjoin f)).g = x.guard f.g := rfl
@[simp] theorem envAlone_g_vmov (s : State) (x : Ctx) (f : VReg) : (s.envAlone x (.vmov f)).g = x.guard f.g := rfl
@[simp] theorem envAlone_g_vbcst (s : State) (x : Ctx) (f : VReg) : (s.envAlone x (.vbcst f)).g = x.guard f.g := rfl
@[simp] theorem envAlone_g_viota (s : State) (x : Ctx) (f : VReg) : (s.envAlone x (.viota f)).g = x.guard f.g := rfl
@[simp] theorem envAlone_g_vperm (s : State) (x : Ctx) (f : VReg) : (s.envAlone x (.vperm f)).g = x.guard f.g := rfl
@[simp] theorem envAlone_g_vshuf (s : State) (x : Ctx) (f : VReg) : (s.envAlone x (.vshuf f)).g = x.guard f.g := rfl
@[simp] theorem envAlone_g_vslide (s : State) (x : Ctx) (f : VReg) : (s.envAlone x (.vslide f)).g = x.guard f.g := rfl
@[simp] theorem envAlone_g_vbext (s : State) (x : Ctx) (f : VReg) : (s.envAlone x (.vbext f)).g = x.guard f.g := rfl
@[simp] theorem envAlone_g_vlut (s : State) (x : Ctx) (f : VReg) : (s.envAlone x (.vlut f)).g = x.guard f.g := rfl
@[simp] theorem envAlone_g_vlutld (s : State) (x : Ctx) (f : VReg) : (s.envAlone x (.vlutld f)).g = x.guard f.g := rfl
@[simp] theorem envAlone_g_vunpk12 (s : State) (x : Ctx) (f : VReg) : (s.envAlone x (.vunpk12 f)).g = x.guard f.g := rfl
@[simp] theorem envAlone_g_vpack12 (s : State) (x : Ctx) (f : VReg) : (s.envAlone x (.vpack12 f)).g = x.guard f.g := rfl
@[simp] theorem envAlone_g_vrng (s : State) (x : Ctx) (f : VReg) : (s.envAlone x (.vrng f)).g = x.guard f.g := rfl
@[simp] theorem envAlone_g_vred (s : State) (x : Ctx) (f : VReg) : (s.envAlone x (.vred f)).g = x.guard f.g := rfl
@[simp] theorem envAlone_g_vscan (s : State) (x : Ctx) (f : VReg) : (s.envAlone x (.vscan f)).g = x.guard f.g := rfl
@[simp] theorem envAlone_g_vcpy (s : State) (x : Ctx) (f : VReg) : (s.envAlone x (.vcpy f)).g = x.guard f.g := rfl
@[simp] theorem envAlone_g_mcfg (s : State) (x : Ctx) (f : MCfg) : (s.envAlone x (.mcfg f)).g = x.guard f.g := rfl
@[simp] theorem envAlone_g_mzero (s : State) (x : Ctx) (f : MZero) : (s.envAlone x (.mzero f)).g = x.guard f.g := rfl
@[simp] theorem envAlone_g_mma (s : State) (x : Ctx) (f : MMac) : (s.envAlone x (.mma f)).g = x.guard f.g := rfl
@[simp] theorem envAlone_g_mmax (s : State) (x : Ctx) (f : MMac) : (s.envAlone x (.mmax f)).g = x.guard f.g := rfl
@[simp] theorem envAlone_g_mread (s : State) (x : Ctx) (f : MRead) : (s.envAlone x (.mread f)).g = x.guard f.g := rfl
@[simp] theorem envAlone_g_mwrite (s : State) (x : Ctx) (f : MWrite) : (s.envAlone x (.mwrite f)).g = x.guard f.g := rfl
@[simp] theorem envAlone_g_mjoin (s : State) (x : Ctx) (f : MJoin) : (s.envAlone x (.mjoin f)).g = x.guard f.g := rfl
@[simp] theorem envAlone_g_mstat (s : State) (x : Ctx) (f : MStat) : (s.envAlone x (.mstat f)).g = x.guard f.g := rfl
@[simp] theorem envAlone_g_ld (s : State) (x : Ctx) (f : LGen) : (s.envAlone x (.ld f)).g = x.guard f.g := rfl
@[simp] theorem envAlone_g_st (s : State) (x : Ctx) (f : LGen) : (s.envAlone x (.st f)).g = x.guard f.g := rfl
@[simp] theorem envAlone_g_vld (s : State) (x : Ctx) (f : LGen) : (s.envAlone x (.vld f)).g = x.guard f.g := rfl
@[simp] theorem envAlone_g_vst (s : State) (x : Ctx) (f : LGen) : (s.envAlone x (.vst f)).g = x.guard f.g := rfl
@[simp] theorem envAlone_g_vlds (s : State) (x : Ctx) (f : LStr) : (s.envAlone x (.vlds f)).g = x.guard f.g := rfl
@[simp] theorem envAlone_g_vsts (s : State) (x : Ctx) (f : LStr) : (s.envAlone x (.vsts f)).g = x.guard f.g := rfl
@[simp] theorem envAlone_g_vgth (s : State) (x : Ctx) (f : LIdx) : (s.envAlone x (.vgth f)).g = x.guard f.g := rfl
@[simp] theorem envAlone_g_vsct (s : State) (x : Ctx) (f : LIdx) : (s.envAlone x (.vsct f)).g = x.guard f.g := rfl
@[simp] theorem envAlone_g_ldj (s : State) (x : Ctx) (f : LGen) : (s.envAlone x (.ldj f)).g = x.guard f.g := rfl
@[simp] theorem envAlone_g_stj (s : State) (x : Ctx) (f : LGen) : (s.envAlone x (.stj f)).g = x.guard f.g := rfl
@[simp] theorem envAlone_g_atom (s : State) (x : Ctx) (f : LAtom) : (s.envAlone x (.atom f)).g = x.guard f.g := rfl
@[simp] theorem envAlone_g_ldAcq (s : State) (x : Ctx) (f : LAtom) : (s.envAlone x (.ldAcq f)).g = x.guard f.g := rfl
@[simp] theorem envAlone_g_stRel (s : State) (x : Ctx) (f : LAtom) : (s.envAlone x (.stRel f)).g = x.guard f.g := rfl
@[simp] theorem envAlone_g_vatom (s : State) (x : Ctx) (f : LVAtom) : (s.envAlone x (.vatom f)).g = x.guard f.g := rfl
@[simp] theorem envAlone_g_fence (s : State) (x : Ctx) (f : LScope) : (s.envAlone x (.fence f)).g = x.guard f.g := rfl
@[simp] theorem envAlone_g_sync (s : State) (x : Ctx) (f : LScope) : (s.envAlone x (.sync f)).g = x.guard f.g := rfl
@[simp] theorem envAlone_g_tbinit (s : State) (x : Ctx) (f : LBar) : (s.envAlone x (.tbinit f)).g = x.guard f.g := rfl
@[simp] theorem envAlone_g_tbarv (s : State) (x : Ctx) (f : LBar) : (s.envAlone x (.tbarv f)).g = x.guard f.g := rfl
@[simp] theorem envAlone_g_tbexp (s : State) (x : Ctx) (f : LBar) : (s.envAlone x (.tbexp f)).g = x.guard f.g := rfl
@[simp] theorem envAlone_g_tbwait (s : State) (x : Ctx) (f : LBar) : (s.envAlone x (.tbwait f)).g = x.guard f.g := rfl
@[simp] theorem envAlone_g_spill (s : State) (x : Ctx) (f : LSpill) : (s.envAlone x (.spill f)).g = x.guard f.g := rfl
@[simp] theorem envAlone_g_fill (s : State) (x : Ctx) (f : LSpill) : (s.envAlone x (.fill f)).g = x.guard f.g := rfl
@[simp] theorem envAlone_g_dadd (s : State) (x : Ctx) (f : LDadd) : (s.envAlone x (.dadd f)).g = x.guard f.g := rfl
@[simp] theorem envAlone_g_dli (s : State) (x : Ctx) (f : LDli) : (s.envAlone x (.dli f)).g = x.guard f.g := rfl
@[simp] theorem envAlone_g_dcpy (s : State) (x : Ctx) (f : LDcpy) : (s.envAlone x (.dcpy f)).g = x.guard f.g := rfl
@[simp] theorem envAlone_g_l1inv (s : State) (x : Ctx) (f : LLine) : (s.envAlone x (.l1inv f)).g = x.guard f.g := rfl
@[simp] theorem envAlone_g_l1wb (s : State) (x : Ctx) (f : LLine) : (s.envAlone x (.l1wb f)).g = x.guard f.g := rfl
@[simp] theorem envAlone_g_prf (s : State) (x : Ctx) (f : LGen) : (s.envAlone x (.prf f)).g = x.guard f.g := rfl
@[simp] theorem envAlone_g_sljob (s : State) (x : Ctx) (f : EForm) : (s.envAlone x (.sljob f)).g = x.guard f.g := rfl
@[simp] theorem envAlone_g_slstat (s : State) (x : Ctx) (f : EForm) : (s.envAlone x (.slstat f)).g = x.guard f.g := rfl
@[simp] theorem envAlone_g_slkill (s : State) (x : Ctx) (f : EForm) : (s.envAlone x (.slkill f)).g = x.guard f.g := rfl
@[simp] theorem envAlone_g_stbind (s : State) (x : Ctx) (f : EForm) : (s.envAlone x (.stbind f)).g = x.guard f.g := rfl
@[simp] theorem envAlone_g_rmov (s : State) (x : Ctx) (f : EForm) : (s.envAlone x (.rmov f)).g = x.guard f.g := rfl
@[simp] theorem envAlone_g_rget (s : State) (x : Ctx) (f : EForm) : (s.envAlone x (.rget f)).g = x.guard f.g := rfl
@[simp] theorem envAlone_g_edstash (s : State) (x : Ctx) (f : EForm) : (s.envAlone x (.edstash f)).g = x.guard f.g := rfl
@[simp] theorem envAlone_g_edfetch (s : State) (x : Ctx) (f : EForm) : (s.envAlone x (.edfetch f)).g = x.guard f.g := rfl
@[simp] theorem envAlone_g_edfree (s : State) (x : Ctx) (f : EForm) : (s.envAlone x (.edfree f)).g = x.guard f.g := rfl
@[simp] theorem envAlone_g_edqry (s : State) (x : Ctx) (f : EForm) : (s.envAlone x (.edqry f)).g = x.guard f.g := rfl
@[simp] theorem envAlone_g_chsend (s : State) (x : Ctx) (f : EForm) : (s.envAlone x (.chsend f)).g = x.guard f.g := rfl
@[simp] theorem envAlone_g_chrecv (s : State) (x : Ctx) (f : EForm) : (s.envAlone x (.chrecv f)).g = x.guard f.g := rfl
@[simp] theorem envAlone_g_chrel (s : State) (x : Ctx) (f : EForm) : (s.envAlone x (.chrel f)).g = x.guard f.g := rfl
@[simp] theorem envAlone_g_chwin (s : State) (x : Ctx) (f : EForm) : (s.envAlone x (.chwin f)).g = x.guard f.g := rfl
@[simp] theorem envAlone_g_oxred (s : State) (x : Ctx) (f : EForm) : (s.envAlone x (.oxred f)).g = x.guard f.g := rfl
@[simp] theorem envAlone_g_oxgath (s : State) (x : Ctx) (f : EForm) : (s.envAlone x (.oxgath f)).g = x.guard f.g := rfl
@[simp] theorem envAlone_g_wpost (s : State) (x : Ctx) (f : EForm) : (s.envAlone x (.wpost f)).g = x.guard f.g := rfl
@[simp] theorem envAlone_g_wraise (s : State) (x : Ctx) (f : EForm) : (s.envAlone x (.wraise f)).g = x.guard f.g := rfl
@[simp] theorem envAlone_g_warr (s : State) (x : Ctx) (f : EForm) : (s.envAlone x (.warr f)).g = x.guard f.g := rfl
@[simp] theorem envAlone_g_spawn (s : State) (x : Ctx) (f : EForm) : (s.envAlone x (.spawn f)).g = x.guard f.g := rfl
@[simp] theorem envAlone_g_grd (s : State) (x : Ctx) (f : EForm) : (s.envAlone x (.grd f)).g = x.guard f.g := rfl
@[simp] theorem envAlone_g_gupd (s : State) (x : Ctx) (f : EForm) : (s.envAlone x (.gupd f)).g = x.guard f.g := rfl
@[simp] theorem envAlone_g_gnew (s : State) (x : Ctx) (f : EForm) : (s.envAlone x (.gnew f)).g = x.guard f.g := rfl
@[simp] theorem envAlone_g_gseal (s : State) (x : Ctx) (f : EForm) : (s.envAlone x (.gseal f)).g = x.guard f.g := rfl
@[simp] theorem envAlone_g_grescale (s : State) (x : Ctx) (f : EForm) : (s.envAlone x (.grescale f)).g = x.guard f.g := rfl
@[simp] theorem envAlone_g_recset (s : State) (x : Ctx) (f : EForm) : (s.envAlone x (.recset f)).g = x.guard f.g := rfl
@[simp] theorem envAlone_g_lease (s : State) (x : Ctx) (f : EForm) : (s.envAlone x (.lease f)).g = x.guard f.g := rfl
@[simp] theorem envAlone_g_lrel (s : State) (x : Ctx) (f : EForm) : (s.envAlone x (.lrel f)).g = x.guard f.g := rfl
@[simp] theorem envAlone_g_eli (s : State) (x : Ctx) (f : EForm) : (s.envAlone x (.eli f)).g = x.guard f.g := rfl
@[simp] theorem envAlone_g_ecpy (s : State) (x : Ctx) (f : EForm) : (s.envAlone x (.ecpy f)).g = x.guard f.g := rfl
@[simp] theorem envAlone_g_twait (s : State) (x : Ctx) (f : EForm) : (s.envAlone x (.twait f)).g = x.guard f.g := rfl

end Sys2Proof.Machine
end

