-- ==== Sys2Proof/Laws/Memory.lean ====
section
/-! SUPPORT. Laws of the memory operations over the whole state: each keeps the canonical form of every memory. -/

namespace Sys2Proof.Machine

/-! ### Tables whose values have a property -/

/-- A table written with a good value. -/
theorem SMap.all_set {α : Type} [DecidableEq α] (d : α) (p : α → Bool) (m : SMap α) (i : Nat) (x : α)
    (h : m.all (fun k => p k.2) = true) (hx : p x = true) : (SMap.set d m i x).all (fun k => p k.2) = true := by
  induction m with
  | nil => by_cases hd : x = d <;> simp [SMap.set, hd, hx]
  | cons kv m ih =>
    obtain ⟨k, v⟩ := kv
    simp only [List.all_cons, Bool.and_eq_true] at h
    simp only [SMap.set]
    split
    · split
      · exact h.2
      · simp [hx, h.2]
    · split
      · split
        · simp [h.1, h.2]
        · simp [hx, h.1, h.2]
      · simp [h.1, ih h.2]

/-- A value read from a table whose values are good. -/
theorem SMap.all_get {α : Type} (d : α) (p : α → Bool) (m : SMap α) (i : Nat) (h : m.all (fun k => p k.2) = true) (hd : p d = true) :
    p (SMap.get d m i) = true := by
  induction m with
  | nil => exact hd
  | cons kv m ih =>
    obtain ⟨k, v⟩ := kv
    simp only [List.all_cons, Bool.and_eq_true] at h
    simp only [SMap.get]
    split
    · exact h.1
    · split
      · exact hd
      · exact ih h.2

/-- A table with one value changed to a good one. -/
theorem SMap.all_modify {α : Type} [DecidableEq α] (d : α) (p : α → Bool) (m : SMap α) (i : Nat) (f : α → α)
    (h : m.all (fun k => p k.2) = true) (hd : p d = true) (hf : ∀ x, p x = true → p (f x) = true) :
    (SMap.modify d m i f).all (fun k => p k.2) = true :=
  SMap.all_set d p m i _ h (hf _ (SMap.all_get d p m i h hd))

/-! ### The parts of `State.memWf` -/

/-- The memories of a state, one by one. -/
theorem State.memWf_iff (s : State) : s.memWf = true ↔
    Memory.wf s.home = true ∧ Memory.wf s.hostMem = true ∧ s.dies.all (fun d => Memory.wf d.2.view) = true ∧
      s.cores.all (fun k => Core.memWf k.2) = true ∧ s.clusters.all (fun k => Memory.wf k.2.sram) = true ∧
      s.gangs.all (fun g => g.images.all fun i => Memory.wf i.2.1 && Memory.wf i.2.2) = true := by
  simp only [State.memWf, Bool.and_eq_true, and_assoc]

/-- What a die reads. -/
theorem State.memWf_view (s : State) (d : Nat) (h : s.memWf = true) : Memory.wf (s.die d).view = true :=
  SMap.all_get ({} : Die) (fun x : Die => Memory.wf x.view) s.dies d ((s.memWf_iff).1 h).2.2.1 rfl

/-- A die changed. -/
theorem State.memWf_modDie (s : State) (d : Nat) (f : Die → Die) (h : s.memWf = true)
    (hf : ∀ x : Die, Memory.wf x.view = true → Memory.wf (f x).view = true) : (s.modDie d f).memWf = true := by
  rw [State.memWf_iff] at h ⊢
  exact ⟨h.1, h.2.1, SMap.all_modify ({} : Die) (fun x : Die => Memory.wf x.view) s.dies d f h.2.2.1 rfl hf, h.2.2.2⟩

/-- A core changed. -/
theorem State.memWf_modCore (s : State) (k : Nat) (f : Core → Core) (h : s.memWf = true)
    (hf : ∀ x : Core, Core.memWf x = true → Core.memWf (f x) = true) : (s.modCore k f).memWf = true := by
  rw [State.memWf_iff] at h ⊢
  exact ⟨h.1, h.2.1, h.2.2.1, SMap.all_modify ({} : Core) Core.memWf s.cores k f h.2.2.2.1 rfl hf, h.2.2.2.2⟩

/-- A cluster changed. -/
theorem State.memWf_modCluster (s : State) (k : Nat) (f : Cluster → Cluster) (h : s.memWf = true)
    (hf : ∀ x : Cluster, Memory.wf x.sram = true → Memory.wf (f x).sram = true) : (s.modCluster k f).memWf = true := by
  rw [State.memWf_iff] at h ⊢
  exact ⟨h.1, h.2.1, h.2.2.1, h.2.2.2.1, SMap.all_modify ({} : Cluster) (fun x : Cluster => Memory.wf x.sram) s.clusters k f h.2.2.2.2.1 rfl hf, h.2.2.2.2.2⟩

/-- A context changed. -/
theorem State.memWf_modCtx (s : State) (c : Nat) (f : Ctx → Ctx) (h : s.memWf = true) : (s.modCtx c f).memWf = true := by
  unfold State.modCtx
  split
  · exact h
  · exact h

/-- A state changed outside its memories. -/
theorem State.memWf_congr (s t : State) (h : s.memWf = true) (h1 : t.home = s.home) (h2 : t.hostMem = s.hostMem) (h3 : t.dies = s.dies)
    (h4 : t.cores = s.cores) (h5 : t.clusters = s.clusters) (h6 : t.gangs = s.gangs) : t.memWf = true := by
  simp only [State.memWf, h1, h2, h3, h4, h5, h6]; exact h

/-- The home written. -/
theorem State.memWf_home (s : State) (m : Mem) (h : s.memWf = true) (hm : Memory.wf m = true) : ({ s with home := m } : State).memWf = true := by
  rw [State.memWf_iff] at h ⊢
  exact ⟨hm, h.2⟩

/-- Host memory written. -/
theorem State.memWf_hostMem (s : State) (m : Mem) (h : s.memWf = true) (hm : Memory.wf m = true) : ({ s with hostMem := m } : State).memWf = true := by
  rw [State.memWf_iff] at h ⊢
  exact ⟨h.1, hm, h.2.2⟩

/-! ### The operations -/

/-- The bytes of a write applied at a die (R252). -/
theorem Mem.wf_foldl_setByte (p : Byte × Nat → Bool) (a : Byte × Nat → Nat) (bs : List (Byte × Nat)) (m : Mem) (h : Memory.wf m = true) :
    Memory.wf (bs.foldl (fun (m : Mem) b => if p b then m else m.setByte (a b) b.1) m) = true := by
  induction bs generalizing m with
  | nil => exact h
  | cons b bs ih =>
    simp only [List.foldl_cons]
    by_cases hp : p b = true
    · rw [if_pos hp]; exact ih m h
    · rw [if_neg hp]; exact ih _ (Memory.wf_setByte m _ _ h)

/-- A write that leaves some of its bytes as they are. -/
theorem Mem.wf_writeParts (m : Mem) (pa : Nat) (bs : List Byte) (skip : List Nat) (h : Memory.wf m = true) :
    Memory.wf (writeParts m pa bs skip) = true := by
  unfold writeParts
  split
  · exact Memory.wf_write bs m pa h
  · exact Mem.wf_foldl_setByte (fun b => skip.contains b.2) (fun b => pa + b.2) _ m h

/-- A write of a die to global memory (R251). -/
theorem State.memWf_writeGlobal (s : State) (d pa : Nat) (bs : List Byte) (skip : List Nat) (h : s.memWf = true) :
    (s.writeGlobal d pa bs skip).memWf = true :=
  State.memWf_congr (s.modDie d fun x => { x with vc := (s.die d).vc.set d ((s.die d).vc.get d + 1), view := writeParts x.view pa bs skip }) _
    (State.memWf_modDie s d _ h fun x hx => Mem.wf_writeParts x.view pa bs skip hx) rfl rfl rfl rfl rfl rfl

/-- A posted write to host memory (R100). -/
theorem State.memWf_postHost (s : State) (d pa : Nat) (bs : List Byte) (h : s.memWf = true) : (s.postHost d pa bs).memWf = true := h

/-- A write to a physical address. -/
theorem State.memWf_writePhys (s : State) (d pa : Nat) (bs : List Byte) (h : s.memWf = true) : (s.writePhys d pa bs).memWf = true := by
  unfold State.writePhys
  split
  · exact h
  · exact s.memWf_writeGlobal d pa bs [] h

/-- A place in coherence order (R252). -/
theorem State.memWf_placeWrite (s : State) (id : Nat) (h : s.memWf = true) : (s.placeWrite id).memWf = true := by
  unfold State.placeWrite
  split
  · exact h
  · split
    · exact h
    · exact State.memWf_congr _ _ (State.memWf_home s _ h (Mem.wf_writeParts _ _ _ _ ((s.memWf_iff).1 h).1)) rfl rfl rfl rfl rfl rfl

/-- A write that stands everywhere at once. -/
theorem State.memWf_writeEverywhere (s : State) (pa : Nat) (bs : List Byte) (h : s.memWf = true) : (s.writeEverywhere pa bs).memWf = true := by
  simp only [State.writeEverywhere, List.foldl]
  refine State.memWf_modDie _ _ _ (State.memWf_modDie _ _ _ (State.memWf_modDie _ _ _ (State.memWf_modDie _ _ _ ?_ ?_) ?_) ?_) ?_
  · exact State.memWf_home s _ h (Memory.wf_write bs s.home pa ((s.memWf_iff).1 h).1)
  all_goals exact fun x hx => Memory.wf_write bs x.view pa hx

/-- A byte of an accumulator store. -/
theorem State.memWf_setAccByte (s : State) (k off : Nat) (b : Byte) (h : s.memWf = true) : (s.setAccByte k off b).memWf = true := by
  simp only [State.setAccByte, State.modAccTile]
  split
  · exact h
  · exact State.memWf_modCore s k _ h fun x hx => hx

/-- A write at any place. -/
theorem State.memWf_writeLoc (s : State) (d : Nat) (l : Loc) (bs : List Byte) (h : s.memWf = true) : (s.writeLoc d l bs).memWf = true := by
  cases l with
  | global pa => exact s.memWf_writePhys d pa bs h
  | spad k off =>
    refine State.memWf_modCore s k _ h fun x hx => ?_
    simp only [Core.memWf, Bool.and_eq_true] at hx ⊢
    exact ⟨Memory.wf_write bs x.spad off hx.1, hx.2⟩
  | sram k off => exact State.memWf_modCluster s k _ h fun x hx => Memory.wf_write bs x.sram off hx
  | acc k off =>
    simp only [State.writeLoc]
    generalize off = n
    induction bs generalizing s n with
    | nil => exact h
    | cons b bs ih => exact ih _ (s.memWf_setAccByte k n b h) _
  | host a => exact h
  | mmio off => exact h
  | spill k off =>
    refine State.memWf_modCore s k _ h fun x hx => ?_
    simp only [Core.memWf, Bool.and_eq_true] at hx ⊢
    exact ⟨hx.1, Memory.wf_write bs x.spill off hx.2⟩

/-- A write applied at a die (R252). -/
theorem State.memWf_applyAt (s : State) (d : Nat) (w : GWrite) (h : s.memWf = true) : (s.applyAt d w).memWf = true := by
  refine State.memWf_congr (s.modDie d fun x => { x with view := (w.data.zipIdx).foldl (fun (m : Mem) b =>
    if w.skip.contains b.2 || s.newerAt d w (w.addr + b.2) then m else m.setByte (w.addr + b.2) b.1) (s.die d).view }) _ (State.memWf_modDie s d _ h fun _ _ => ?_) rfl rfl rfl rfl rfl rfl
  exact Mem.wf_foldl_setByte _ _ _ _ (s.memWf_view d h)

/-- Entries dropped keep a memory's form. -/
theorem Mem.wfFrom_filter (p : Host.Cell → Bool) (m : Mem) (lo : Option Nat) (h : Mem.wfFrom lo m = true) : Mem.wfFrom lo (m.filter p) = true := by
  induction m generalizing lo with
  | nil => rfl
  | cons kv m ih =>
    obtain ⟨k, v⟩ := kv
    simp only [Mem.wfFrom, Bool.and_eq_true, decide_eq_true_eq] at h
    by_cases hp : p (k, v) = true
    · simp only [List.filter_cons, hp, if_true, Mem.wfFrom, Bool.and_eq_true, decide_eq_true_eq]
      exact ⟨⟨h.1.1, h.1.2⟩, ih (some k) h.2⟩
    · simp only [List.filter_cons, hp]
      refine ih lo ?_
      cases lo with
      | none => cases m with
        | nil => rfl
        | cons jw m =>
          have h2 := h.2
          simp only [Mem.wfFrom, Bool.and_eq_true, decide_eq_true_eq] at h2 ⊢
          exact ⟨⟨trivial, h2.1.2⟩, h2.2⟩
      | some l => exact Mem.wfFrom_mono m k l h.2 (Nat.le_of_lt (by simpa using h.1.1))

/-- A range cleared. -/
theorem Mem.wf_clear (m : Mem) (a n : Nat) (h : Memory.wf m = true) : Memory.wf (Mem.clear m a n) = true := Mem.wfFrom_filter _ m none h

/-- The gauge records freed at a session's end (R70, R119). -/
theorem Mem.wf_freeGauges (m : Mem) (h : Memory.wf m = true) : Memory.wf (Machine.freeGauges m) = true := by
  have key : ∀ (l : List Host.Cell) (acc : Mem), Memory.wf acc = true →
      Memory.wf (l.foldl (fun (acc : Mem) kv =>
        if gaugeBase ≤ kv.1 ∧ kv.1 < gaugeBase + 0x4000000 ∧ kv.1 % 256 = 0xA0 then acc.setByte kv.1 (kv.2 &&& 0xFE#8) else acc) acc) = true := by
    intro l
    induction l with
    | nil => exact fun _ h => h
    | cons kv l ih =>
      intro acc hacc
      simp only [List.foldl_cons]
      split
      · exact ih _ (Memory.wf_setByte acc _ _ hacc)
      · exact ih _ hacc
  exact key m m h

end Sys2Proof.Machine
end

