-- ==== Sys2Proof/Laws/PerInstr.lean ====
section
/-! SUPPORT. For each instruction: the syllable of a well-formed operation is read back as that operation. -/

namespace Sys2Proof.Laws.Encoded

open Sys2Proof

/-- The encoder gives a well-formed slot operation a syllable, and the decoder reads it back. -/
def Statement (i : Instr) : Prop :=
  i.wf = true → i.parts.isSome = true → ∃ sl w, encodeSyllable i = some (sl, w) ∧ decodeSyllable sl w = .ok i

/-- The opcode field holds every opcode below 64. -/
theorem opcode_field (n : Nat) (h : n < 64) : (BitVec.ofNat 6 n).toNat = n := by simp; omega

/-- A syllable of the C slot decodes as its opcode says. -/
theorem syllable_c (g : Guard) (op : Nat) (b : BitVec 38) (i : Instr) (h : op < 64)
    (hd : decodeC g op (g.tt ++ g.pa ++ g.pb ++ g.pc ++ BitVec.ofNat 6 op ++ b) = some i) :
    decodeSyllable .c (g.tt ++ g.pa ++ g.pb ++ g.pc ++ BitVec.ofNat 6 op ++ b) = .ok i := by
  simp [decodeSyllable, syllable_op, syllable_guard, opcode_field op h, hd]

/-- A syllable of the M slot decodes as its opcode says. -/
theorem syllable_m (g : Guard) (op : Nat) (b : BitVec 38) (i : Instr) (h : op < 64)
    (hd : decodeM g op (g.tt ++ g.pa ++ g.pb ++ g.pc ++ BitVec.ofNat 6 op ++ b) = some i) :
    decodeSyllable .m (g.tt ++ g.pa ++ g.pb ++ g.pc ++ BitVec.ofNat 6 op ++ b) = .ok i := by
  simp [decodeSyllable, syllable_op, syllable_guard, opcode_field op h, hd]

/-- A syllable of the L slot decodes as its opcode says. -/
theorem syllable_l (g : Guard) (op : Nat) (b : BitVec 38) (i : Instr) (h : op < 64)
    (hd : decodeL g op (g.tt ++ g.pa ++ g.pb ++ g.pc ++ BitVec.ofNat 6 op ++ b) = some i) :
    decodeSyllable .l (g.tt ++ g.pa ++ g.pb ++ g.pc ++ BitVec.ofNat 6 op ++ b) = .ok i := by
  simp [decodeSyllable, syllable_op, syllable_guard, opcode_field op h, hd]

/-- A syllable of the E slot decodes as its opcode says. -/
theorem syllable_e (g : Guard) (op : Nat) (b : BitVec 38) (i : Instr) (h : op < 64)
    (hd : decodeE g op (g.tt ++ g.pa ++ g.pb ++ g.pc ++ BitVec.ofNat 6 op ++ b) = some i) :
    decodeSyllable .e (g.tt ++ g.pa ++ g.pb ++ g.pc ++ BitVec.ofNat 6 op ++ b) = .ok i := by
  simp [decodeSyllable, syllable_op, syllable_guard, opcode_field op h, hd]

/-- A syllable of the S slots decodes as its opcode says. -/
theorem syllable_s (sl : SSlot) (g : Guard) (op : Nat) (b : BitVec 38) (i : Instr) (h : op < 64)
    (hd : decodeS sl g op (g.tt ++ g.pa ++ g.pb ++ g.pc ++ BitVec.ofNat 6 op ++ b) = some i) :
    decodeSyllable (SSlot.slot sl) (g.tt ++ g.pa ++ g.pb ++ g.pc ++ BitVec.ofNat 6 op ++ b) = .ok i := by
  cases sl <;> simp [decodeSyllable, SSlot.slot, syllable_op, syllable_guard, opcode_field op h, hd]

/-- A syllable of the V slots decodes as its opcode says. -/
theorem syllable_v (sl : VSlot) (g : Guard) (op : Nat) (b : BitVec 38) (i : Instr) (h : op < 64)
    (hd : decodeV sl g op (g.tt ++ g.pa ++ g.pb ++ g.pc ++ BitVec.ofNat 6 op ++ b) = some i) :
    decodeSyllable (VSlot.slot sl) (g.tt ++ g.pa ++ g.pb ++ g.pc ++ BitVec.ofNat 6 op ++ b) = .ok i := by
  cases sl <;> simp [decodeSyllable, VSlot.slot, syllable_op, syllable_guard, opcode_field op h, hd]
theorem powerApplied (junction substrate : List Reading): Statement (.powerApplied junction substrate) := nofun
theorem powerLost : Statement .powerLost := nofun
theorem thermalSample (junction substrate : List Reading): Statement (.thermalSample junction substrate) := nofun
theorem bandDecision : Statement .bandDecision := nofun
theorem rateGradientCheck : Statement .rateGradientCheck := nofun
theorem coolantOkChange (level : Bool): Statement (.coolantOkChange level) := nofun
theorem coolantLossHold : Statement .coolantLossHold := nofun
theorem coolantLossFault : Statement .coolantLossFault := nofun
theorem coolantRestoredExit : Statement .coolantRestoredExit := nofun
theorem switchTick : Statement .switchTick := nofun
theorem timingSetSwitch (channel : Nat): Statement (.timingSetSwitch channel) := nofun
theorem coldRefreshExpiry : Statement .coldRefreshExpiry := nofun
theorem thevtWrite (value : W32): Statement (.thevtWrite value) := nofun
theorem registerWrite (reg : RegAddr) (size : Nat) (value : W64): Statement (.registerWrite reg size value) := nofun
theorem dramReadWrite (channel : Nat) (sector : Nat) (write : Bool) (ecc : Ecc): Statement (.dramReadWrite channel sector write ecc) := nofun
theorem refresh (channel : Nat) (due : Bool): Statement (.refresh channel due) := nofun
theorem patrolScrubAccess (channel : Nat) (sector : Nat) (urgent request : Bool) (ecc : Ecc): Statement (.patrolScrubAccess channel sector urgent request ecc) := nofun
theorem powerDownEntry (channel : Nat) (request : Bool): Statement (.powerDownEntry channel request) := nofun
theorem selfRefreshEntry (channel : Nat) (request : Bool): Statement (.selfRefreshEntry channel request) := nofun
theorem llcAccess (sector : Nat) (kind : LlcKind) (ecc : Ecc): Statement (.llcAccess sector kind ecc) := nofun
theorem leaseExpiry (lease : Nat): Statement (.leaseExpiry lease) := nofun
theorem handleRequest (die handle : Nat) (coord shape : Quad4) (sup write : Bool) (image : List Byte): Statement (.handleRequest die handle coord shape sup write image) := nofun
theorem coherencePlacement (write : Nat): Statement (.coherencePlacement write) := nofun
theorem remoteWriteApply (write die : Nat): Statement (.remoteWriteApply write die) := nofun
theorem atomicAtHome (access : Nat) (lanes : List Nat): Statement (.atomicAtHome access lanes) := nofun
theorem memoryAccessComplete (access : Nat) (lanes : List Nat) (ecc : SramEcc): Statement (.memoryAccessComplete access lanes ecc) := nofun
theorem hostRequestCompletion (request : Nat): Statement (.hostRequestCompletion request) := nofun
theorem recordReplicaWrite (request die : Nat): Statement (.recordReplicaWrite request die) := nofun
theorem gaugeSectorUpdate (entry : Nat): Statement (.gaugeSectorUpdate entry) := nofun
theorem gaugeSeal (request : Nat): Statement (.gaugeSeal request) := nofun
theorem gaugeRescale (request : Nat): Statement (.gaugeRescale request) := nofun
theorem configFlitReceive (chan : Nat) (nparc : BitVec 12) (psize : BitVec 4) (state : BitVec 3): Statement (.configFlitReceive chan nparc psize state) := nofun
theorem parcelHeaderReceive (chan : Nat) (header : FlitHeader): Statement (.parcelHeaderReceive chan header) := nofun
theorem dataFlitReceive (chan : Nat) (data : List Byte): Statement (.dataFlitReceive chan data) := nofun
theorem parcelDelivery (chan : Nat): Statement (.parcelDelivery chan) := nofun
theorem creditFlitReceive (chan credits : Nat): Statement (.creditFlitReceive chan credits) := nofun
theorem timedSendLaunch (chan : Nat): Statement (.timedSendLaunch chan) := nofun
theorem channelEnable (chan : Nat) (base : W64) (ctl : W32): Statement (.channelEnable chan base ctl) := nofun
theorem channelDisable (chan : Nat): Statement (.channelDisable chan) := nofun
theorem portDown (port : Nat): Statement (.portDown port) := nofun
theorem portUp (port : Nat): Statement (.portUp port) := nofun
theorem timeFlitSend : Statement .timeFlitSend := nofun
theorem timeFlitReceive (port : Nat) (value : Nat): Statement (.timeFlitReceive port value) := nofun
theorem oxbowFlitReceive (west : Bool) (flit : OxFlit): Statement (.oxbowFlitReceive west flit) := nofun
theorem oxbowFlagWrite (west : Bool) (shard : Nat): Statement (.oxbowFlagWrite west shard) := nofun
theorem collectiveComplete (west : Bool): Statement (.collectiveComplete west) := nofun
theorem identify : Statement .identify := nofun
theorem attest : Statement .attest := nofun
theorem cool : Statement .cool := nofun
theorem warm : Statement .warm := nofun
theorem hold : Statement .hold := nofun
theorem loadImage : Statement .loadImage := nofun
theorem verifyImage : Statement .verifyImage := nofun
theorem start : Statement .start := nofun
theorem startWrite (size : Nat) (value : W64): Statement (.startWrite size value) := nofun
theorem stop : Statement .stop := nofun
theorem query : Statement .query := nofun
theorem setLattol : Statement .setLattol := nofun
theorem resetDie : Statement .resetDie := nofun
theorem readLog : Statement .readLog := nofun
theorem stagingWrite (offset : Nat) (data : List Byte): Statement (.stagingWrite offset data) := nofun
theorem activityDecision : Statement .activityDecision := nofun
theorem wakeEvent : Statement .wakeEvent := nofun
theorem stageEnable (die stage : Nat) (wsplit : Bool): Statement (.stageEnable die stage wsplit) := nofun
theorem stageDisable (die stage : Nat) (wsplit : Bool): Statement (.stageDisable die stage wsplit) := nofun
theorem queueArrival (die entry : Nat): Statement (.queueArrival die entry) := nofun
theorem stageEvaluate (die : Nat) (call : StageCall): Statement (.stageEvaluate die call) := nofun
theorem stageEvalTimer (die stage : Nat): Statement (.stageEvalTimer die stage) := nofun
theorem launchTimeReached (die stage : Nat): Statement (.launchTimeReached die stage) := nofun
theorem saveWriteoutComplete (gang : Nat): Statement (.saveWriteoutComplete gang) := nofun
theorem gangResume (gang : Nat): Statement (.gangResume gang) := nofun
theorem jcbPost (what : JcbEvent): Statement (.jcbPost what) := nofun
theorem successorEvent (die entry : Nat): Statement (.successorEvent die entry) := nofun
theorem stepRetire (die stage frame : Nat): Statement (.stepRetire die stage frame) := nofun
theorem joinHalfArrival (ctx : Nat): Statement (.joinHalfArrival ctx) := nofun
theorem joinTimeout (ctx : Nat): Statement (.joinTimeout ctx) := nofun
theorem sluiceJobStart (die serial : Nat): Statement (.sluiceJobStart die serial) := nofun
theorem sluiceUnit (die serial unit : Nat) (ecc : SramEcc): Statement (.sluiceUnit die serial unit ecc) := nofun
theorem sluiceJobDone (die serial : Nat): Statement (.sluiceJobDone die serial) := nofun
theorem sluiceJobFault (die serial unit : Nat): Statement (.sluiceJobFault die serial unit) := nofun
theorem fqResume (die entry : Nat): Statement (.fqResume die entry) := nofun
theorem fqAbandon (die entry : Nat): Statement (.fqAbandon die entry) := nofun
theorem streamVectorArrival (ctx stream : Nat): Statement (.streamVectorArrival ctx stream) := nofun
theorem riffleDecode (cluster unit : Nat): Statement (.riffleDecode cluster unit) := nofun
theorem riffleEncode (cluster unit : Nat): Statement (.riffleEncode cluster unit) := nofun
theorem riffleUnpack12 (cluster unit : Nat): Statement (.riffleUnpack12 cluster unit) := nofun
theorem riffleCrc (cluster unit : Nat): Statement (.riffleCrc cluster unit) := nofun
theorem riffleExpand3 (cluster unit : Nat): Statement (.riffleExpand3 cluster unit) := nofun
theorem riffleFill (cluster unit : Nat): Statement (.riffleFill cluster unit) := nofun
theorem riffleChunkWrite (cluster unit : Nat): Statement (.riffleChunkWrite cluster unit) := nofun
theorem riffleOpComplete (cluster unit : Nat) (ecc : SramEcc): Statement (.riffleOpComplete cluster unit ecc) := nofun
theorem riffleFault (cluster unit : Nat): Statement (.riffleFault cluster unit) := nofun
theorem eddyStoreComplete (die serial : Nat): Statement (.eddyStoreComplete die serial) := nofun
theorem eddyRestoreComplete (die serial : Nat): Statement (.eddyRestoreComplete die serial) := nofun
theorem eddyJobFailure (die : Nat) (job : EccJob): Statement (.eddyJobFailure die job) := nofun
theorem bundleIssue (turn : IssueTurn): Statement (.bundleIssue turn) := nofun
theorem tlbWalkComplete (cluster page : Nat): Statement (.tlbWalkComplete cluster page) := nofun
theorem tlbinvAll : Statement .tlbinvAll := nofun
theorem tlbinvPage (vpn : BitVec 32): Statement (.tlbinvPage vpn) := nofun
theorem twaitExpiry (ctx : Nat): Statement (.twaitExpiry ctx) := nofun
theorem nop (f : CForm) : Statement (.nop f) := fun _ _ =>
  ⟨_, _, rfl, syllable_c f.g 0x00 f.pack _ (by decide) (congrArg (fun f => some (Instr.nop f)) (CForm.unpack_pack f _))⟩
theorem prep (f : CForm) : Statement (.prep f) := fun hw _ => by
  refine ⟨_, _, rfl, syllable_c f.g 0x01 f.pack _ (by decide) ?_⟩
  have hx : ∀ w : BitVec 26, (w ++ f.pack).extractLsb' 20 8 = f.x := fun w => congrArg CForm.x (CForm.unpack_pack f w)
  simp only [Instr.wf, Bool.and_eq_true, beq_iff_eq] at hw
  exact (if_neg (by rw [hx, hw.2]; decide)).trans (congrArg (fun f => some (Instr.prep f)) (CForm.unpack_pack f _))
theorem prepAbsolute (f : CForm) : Statement (.prepAbsolute f) := fun hw _ => by
  refine ⟨_, _, rfl, syllable_c f.g 0x01 f.pack _ (by decide) ?_⟩
  have hx : ∀ w : BitVec 26, (w ++ f.pack).extractLsb' 20 8 = f.x := fun w => congrArg CForm.x (CForm.unpack_pack f w)
  simp only [Instr.wf, Bool.and_eq_true, beq_iff_eq] at hw
  exact (if_pos (by rw [hx, hw.2])).trans (congrArg (fun f => some (Instr.prepAbsolute f)) (CForm.unpack_pack f _))
theorem brx (f : CForm) : Statement (.brx f) := fun _ _ =>
  ⟨_, _, rfl, syllable_c f.g 0x02 f.pack _ (by decide) (congrArg (fun f => some (Instr.brx f)) (CForm.unpack_pack f _))⟩
theorem brxl (f : CForm) : Statement (.brxl f) := fun _ _ =>
  ⟨_, _, rfl, syllable_c f.g 0x03 f.pack _ (by decide) (congrArg (fun f => some (Instr.brxl f)) (CForm.unpack_pack f _))⟩
theorem vote (f : CForm) : Statement (.vote f) := fun _ _ =>
  ⟨_, _, rfl, syllable_c f.g 0x04 f.pack _ (by decide) (congrArg (fun f => some (Instr.vote f)) (CForm.unpack_pack f _))⟩
theorem ptt (f : CForm) : Statement (.ptt f) := fun _ _ =>
  ⟨_, _, rfl, syllable_c f.g 0x05 f.pack _ (by decide) (congrArg (fun f => some (Instr.ptt f)) (CForm.unpack_pack f _))⟩
theorem loop (f : CForm) : Statement (.loop f) := fun _ _ =>
  ⟨_, _, rfl, syllable_c f.g 0x06 f.pack _ (by decide) (congrArg (fun f => some (Instr.loop f)) (CForm.unpack_pack f _))⟩
theorem lset (f : CForm) : Statement (.lset f) := fun _ _ =>
  ⟨_, _, rfl, syllable_c f.g 0x07 f.pack _ (by decide) (congrArg (fun f => some (Instr.lset f)) (CForm.unpack_pack f _))⟩
theorem lstr (f : CForm) : Statement (.lstr f) := fun _ _ =>
  ⟨_, _, rfl, syllable_c f.g 0x08 f.pack _ (by decide) (congrArg (fun f => some (Instr.lstr f)) (CForm.unpack_pack f _))⟩
theorem waitk (f : CForm) : Statement (.waitk f) := fun _ _ =>
  ⟨_, _, rfl, syllable_c f.g 0x09 f.pack _ (by decide) (congrArg (fun f => some (Instr.waitk f)) (CForm.unpack_pack f _))⟩
theorem bwait (f : CForm) : Statement (.bwait f) := fun _ _ =>
  ⟨_, _, rfl, syllable_c f.g 0x0A f.pack _ (by decide) (congrArg (fun f => some (Instr.bwait f)) (CForm.unpack_pack f _))⟩
theorem barv (f : CForm) : Statement (.barv f) := fun _ _ =>
  ⟨_, _, rfl, syllable_c f.g 0x0B f.pack _ (by decide) (congrArg (fun f => some (Instr.barv f)) (CForm.unpack_pack f _))⟩
theorem yield (f : CForm) : Statement (.yield f) := fun _ _ =>
  ⟨_, _, rfl, syllable_c f.g 0x0C f.pack _ (by decide) (congrArg (fun f => some (Instr.yield f)) (CForm.unpack_pack f _))⟩
theorem setfmt (f : CForm) : Statement (.setfmt f) := fun _ _ =>
  ⟨_, _, rfl, syllable_c f.g 0x0D f.pack _ (by decide) (congrArg (fun f => some (Instr.setfmt f)) (CForm.unpack_pack f _))⟩
theorem setwin (f : CForm) : Statement (.setwin f) := fun _ _ =>
  ⟨_, _, rfl, syllable_c f.g 0x0E f.pack _ (by decide) (congrArg (fun f => some (Instr.setwin f)) (CForm.unpack_pack f _))⟩
theorem trap (f : CForm) : Statement (.trap f) := fun _ _ =>
  ⟨_, _, rfl, syllable_c f.g 0x0F f.pack _ (by decide) (congrArg (fun f => some (Instr.trap f)) (CForm.unpack_pack f _))⟩
theorem rft (f : CForm) : Statement (.rft f) := fun _ _ =>
  ⟨_, _, rfl, syllable_c f.g 0x10 f.pack _ (by decide) (congrArg (fun f => some (Instr.rft f)) (CForm.unpack_pack f _))⟩
theorem done (f : CForm) : Statement (.done f) := fun _ _ =>
  ⟨_, _, rfl, syllable_c f.g 0x11 f.pack _ (by decide) (congrArg (fun f => some (Instr.done f)) (CForm.unpack_pack f _))⟩
theorem spin (f : CForm) : Statement (.spin f) := fun _ _ =>
  ⟨_, _, rfl, syllable_c f.g 0x12 f.pack _ (by decide) (congrArg (fun f => some (Instr.spin f)) (CForm.unpack_pack f _))⟩
theorem add (f : SReg) : Statement (.add f) := fun _ _ =>
  ⟨_, _, rfl, syllable_s f.slot f.g 0x00 f.pack _ (by decide) (congrArg (fun f => some (Instr.add f)) (SReg.unpack_pack f _))⟩
theorem addi (f : SImm) : Statement (.addi f) := fun _ _ =>
  ⟨_, _, rfl, syllable_s f.slot f.g 0x01 f.pack _ (by decide) (congrArg (fun f => some (Instr.addi f)) (SImm.unpack_pack f _))⟩
theorem sub (f : SReg) : Statement (.sub f) := fun _ _ =>
  ⟨_, _, rfl, syllable_s f.slot f.g 0x02 f.pack _ (by decide) (congrArg (fun f => some (Instr.sub f)) (SReg.unpack_pack f _))⟩
theorem mul (f : SReg) : Statement (.mul f) := fun _ _ =>
  ⟨_, _, rfl, syllable_s f.slot f.g 0x03 f.pack _ (by decide) (congrArg (fun f => some (Instr.mul f)) (SReg.unpack_pack f _))⟩
theorem mulh (f : SReg) : Statement (.mulh f) := fun _ _ =>
  ⟨_, _, rfl, syllable_s f.slot f.g 0x04 f.pack _ (by decide) (congrArg (fun f => some (Instr.mulh f)) (SReg.unpack_pack f _))⟩
theorem mulhn (f : SReg) : Statement (.mulhn f) := fun _ _ =>
  ⟨_, _, rfl, syllable_s f.slot f.g 0x05 f.pack _ (by decide) (congrArg (fun f => some (Instr.mulhn f)) (SReg.unpack_pack f _))⟩
theorem div (f : SReg) : Statement (.div f) := fun _ _ =>
  ⟨_, _, rfl, syllable_s f.slot f.g 0x06 f.pack _ (by decide) (congrArg (fun f => some (Instr.div f)) (SReg.unpack_pack f _))⟩
theorem divn (f : SReg) : Statement (.divn f) := fun _ _ =>
  ⟨_, _, rfl, syllable_s f.slot f.g 0x07 f.pack _ (by decide) (congrArg (fun f => some (Instr.divn f)) (SReg.unpack_pack f _))⟩
theorem rem (f : SReg) : Statement (.rem f) := fun _ _ =>
  ⟨_, _, rfl, syllable_s f.slot f.g 0x08 f.pack _ (by decide) (congrArg (fun f => some (Instr.rem f)) (SReg.unpack_pack f _))⟩
theorem and (f : SReg) : Statement (.and f) := fun _ _ =>
  ⟨_, _, rfl, syllable_s f.slot f.g 0x09 f.pack _ (by decide) (congrArg (fun f => some (Instr.and f)) (SReg.unpack_pack f _))⟩
theorem andi (f : SImm) : Statement (.andi f) := fun _ _ =>
  ⟨_, _, rfl, syllable_s f.slot f.g 0x0A f.pack _ (by decide) (congrArg (fun f => some (Instr.andi f)) (SImm.unpack_pack f _))⟩
theorem or (f : SReg) : Statement (.or f) := fun _ _ =>
  ⟨_, _, rfl, syllable_s f.slot f.g 0x0B f.pack _ (by decide) (congrArg (fun f => some (Instr.or f)) (SReg.unpack_pack f _))⟩
theorem ori (f : SImm) : Statement (.ori f) := fun _ _ =>
  ⟨_, _, rfl, syllable_s f.slot f.g 0x0C f.pack _ (by decide) (congrArg (fun f => some (Instr.ori f)) (SImm.unpack_pack f _))⟩
theorem xor (f : SReg) : Statement (.xor f) := fun _ _ =>
  ⟨_, _, rfl, syllable_s f.slot f.g 0x0D f.pack _ (by decide) (congrArg (fun f => some (Instr.xor f)) (SReg.unpack_pack f _))⟩
theorem xori (f : SImm) : Statement (.xori f) := fun _ _ =>
  ⟨_, _, rfl, syllable_s f.slot f.g 0x0E f.pack _ (by decide) (congrArg (fun f => some (Instr.xori f)) (SImm.unpack_pack f _))⟩
theorem andn (f : SReg) : Statement (.andn f) := fun _ _ =>
  ⟨_, _, rfl, syllable_s f.slot f.g 0x0F f.pack _ (by decide) (congrArg (fun f => some (Instr.andn f)) (SReg.unpack_pack f _))⟩
theorem shl (f : SReg) : Statement (.shl f) := fun _ _ =>
  ⟨_, _, rfl, syllable_s f.slot f.g 0x10 f.pack _ (by decide) (congrArg (fun f => some (Instr.shl f)) (SReg.unpack_pack f _))⟩
theorem shr (f : SReg) : Statement (.shr f) := fun _ _ =>
  ⟨_, _, rfl, syllable_s f.slot f.g 0x11 f.pack _ (by decide) (congrArg (fun f => some (Instr.shr f)) (SReg.unpack_pack f _))⟩
theorem sar (f : SReg) : Statement (.sar f) := fun _ _ =>
  ⟨_, _, rfl, syllable_s f.slot f.g 0x12 f.pack _ (by decide) (congrArg (fun f => some (Instr.sar f)) (SReg.unpack_pack f _))⟩
theorem rot (f : SReg) : Statement (.rot f) := fun _ _ =>
  ⟨_, _, rfl, syllable_s f.slot f.g 0x13 f.pack _ (by decide) (congrArg (fun f => some (Instr.rot f)) (SReg.unpack_pack f _))⟩
theorem clz (f : SReg) : Statement (.clz f) := fun _ _ =>
  ⟨_, _, rfl, syllable_s f.slot f.g 0x14 f.pack _ (by decide) (congrArg (fun f => some (Instr.clz f)) (SReg.unpack_pack f _))⟩
theorem popc (f : SReg) : Statement (.popc f) := fun _ _ =>
  ⟨_, _, rfl, syllable_s f.slot f.g 0x15 f.pack _ (by decide) (congrArg (fun f => some (Instr.popc f)) (SReg.unpack_pack f _))⟩
theorem min (f : SReg) : Statement (.min f) := fun _ _ =>
  ⟨_, _, rfl, syllable_s f.slot f.g 0x16 f.pack _ (by decide) (congrArg (fun f => some (Instr.min f)) (SReg.unpack_pack f _))⟩
theorem max (f : SReg) : Statement (.max f) := fun _ _ =>
  ⟨_, _, rfl, syllable_s f.slot f.g 0x17 f.pack _ (by decide) (congrArg (fun f => some (Instr.max f)) (SReg.unpack_pack f _))⟩
theorem minn (f : SReg) : Statement (.minn f) := fun _ _ =>
  ⟨_, _, rfl, syllable_s f.slot f.g 0x18 f.pack _ (by decide) (congrArg (fun f => some (Instr.minn f)) (SReg.unpack_pack f _))⟩
theorem maxn (f : SReg) : Statement (.maxn f) := fun _ _ =>
  ⟨_, _, rfl, syllable_s f.slot f.g 0x19 f.pack _ (by decide) (congrArg (fun f => some (Instr.maxn f)) (SReg.unpack_pack f _))⟩
theorem shadd (f : SImm) : Statement (.shadd f) := fun _ _ =>
  ⟨_, _, rfl, syllable_s f.slot f.g 0x1A f.pack _ (by decide) (congrArg (fun f => some (Instr.shadd f)) (SImm.unpack_pack f _))⟩
theorem ext (f : SImm) : Statement (.ext f) := fun _ _ =>
  ⟨_, _, rfl, syllable_s f.slot f.g 0x1B f.pack _ (by decide) (congrArg (fun f => some (Instr.ext f)) (SImm.unpack_pack f _))⟩
theorem ins (f : SImm) : Statement (.ins f) := fun _ _ =>
  ⟨_, _, rfl, syllable_s f.slot f.g 0x1C f.pack _ (by decide) (congrArg (fun f => some (Instr.ins f)) (SImm.unpack_pack f _))⟩
theorem li (f : SImm) : Statement (.li f) := fun _ _ =>
  ⟨_, _, rfl, syllable_s f.slot f.g 0x1D f.pack _ (by decide) (congrArg (fun f => some (Instr.li f)) (SImm.unpack_pack f _))⟩
theorem lih (f : SImm) : Statement (.lih f) := fun _ _ =>
  ⟨_, _, rfl, syllable_s f.slot f.g 0x1E f.pack _ (by decide) (congrArg (fun f => some (Instr.lih f)) (SImm.unpack_pack f _))⟩
theorem lil (f : SImm) : Statement (.lil f) := fun _ _ =>
  ⟨_, _, rfl, syllable_s f.slot f.g 0x1F f.pack _ (by decide) (congrArg (fun f => some (Instr.lil f)) (SImm.unpack_pack f _))⟩
theorem cmp (f : SReg) : Statement (.cmp f) := fun _ _ =>
  ⟨_, _, rfl, syllable_s f.slot f.g 0x20 f.pack _ (by decide) (congrArg (fun f => some (Instr.cmp f)) (SReg.unpack_pack f _))⟩
theorem cmpi (f : SImm) : Statement (.cmpi f) := fun _ _ =>
  ⟨_, _, rfl, syllable_s f.slot f.g 0x21 f.pack _ (by decide) (congrArg (fun f => some (Instr.cmpi f)) (SImm.unpack_pack f _))⟩
theorem sel (f : SImm) : Statement (.sel f) := fun _ _ =>
  ⟨_, _, rfl, syllable_s f.slot f.g 0x22 f.pack _ (by decide) (congrArg (fun f => some (Instr.sel f)) (SImm.unpack_pack f _))⟩
theorem cpy (f : SImm) : Statement (.cpy f) := fun _ _ =>
  ⟨_, _, rfl, syllable_s f.slot f.g 0x23 f.pack _ (by decide) (congrArg (fun f => some (Instr.cpy f)) (SImm.unpack_pack f _))⟩
theorem mfs (f : SImm) : Statement (.mfs f) := fun hw _ => by
  refine ⟨_, _, rfl, syllable_s f.slot f.g 0x24 f.pack _ (by decide) ?_⟩
  simp only [Instr.wf, Bool.and_eq_true, beq_iff_eq] at hw
  have hu := SImm.unpack_pack f
  obtain ⟨g, sl, a, b, c, d, e⟩ := f
  obtain rfl := hw.2
  exact congrArg (fun f => some (Instr.mfs f)) (hu _)
theorem mts (f : SImm) : Statement (.mts f) := fun hw _ => by
  refine ⟨_, _, rfl, syllable_s f.slot f.g 0x25 f.pack _ (by decide) ?_⟩
  simp only [Instr.wf, Bool.and_eq_true, beq_iff_eq] at hw
  have hu := SImm.unpack_pack f
  obtain ⟨g, sl, a, b, c, d, e⟩ := f
  obtain rfl := hw.2
  exact congrArg (fun f => some (Instr.mts f)) (hu _)
theorem brxS1 (f : SReg) : Statement (.brxS1 f) := fun hw _ => by
  refine ⟨_, _, rfl, syllable_s f.slot f.g 0x26 f.pack _ (by decide) ?_⟩
  simp only [Instr.wf, Bool.and_eq_true, beq_iff_eq] at hw
  have hu := SReg.unpack_pack f
  obtain ⟨g, sl, a, b, c, d, e⟩ := f
  obtain rfl := hw.2
  exact congrArg (fun f => some (Instr.brxS1 f)) (hu _)
theorem vadd (f : VReg) : Statement (.vadd f) := fun _ _ =>
  ⟨_, _, rfl, syllable_v f.slot f.g 0x00 f.pack _ (by decide) (congrArg (fun f => some (Instr.vadd f)) (VReg.unpack_pack f _))⟩
theorem vsub (f : VReg) : Statement (.vsub f) := fun _ _ =>
  ⟨_, _, rfl, syllable_v f.slot f.g 0x01 f.pack _ (by decide) (congrArg (fun f => some (Instr.vsub f)) (VReg.unpack_pack f _))⟩
theorem vmul (f : VReg) : Statement (.vmul f) := fun _ _ =>
  ⟨_, _, rfl, syllable_v f.slot f.g 0x02 f.pack _ (by decide) (congrArg (fun f => some (Instr.vmul f)) (VReg.unpack_pack f _))⟩
theorem vfma (f : VReg) : Statement (.vfma f) := fun _ _ =>
  ⟨_, _, rfl, syllable_v f.slot f.g 0x03 f.pack _ (by decide) (congrArg (fun f => some (Instr.vfma f)) (VReg.unpack_pack f _))⟩
theorem vfms (f : VReg) : Statement (.vfms f) := fun _ _ =>
  ⟨_, _, rfl, syllable_v f.slot f.g 0x04 f.pack _ (by decide) (congrArg (fun f => some (Instr.vfms f)) (VReg.unpack_pack f _))⟩
theorem vmac (f : VReg) : Statement (.vmac f) := fun _ _ =>
  ⟨_, _, rfl, syllable_v f.slot f.g 0x05 f.pack _ (by decide) (congrArg (fun f => some (Instr.vmac f)) (VReg.unpack_pack f _))⟩
theorem vmin (f : VReg) : Statement (.vmin f) := fun _ _ =>
  ⟨_, _, rfl, syllable_v f.slot f.g 0x06 f.pack _ (by decide) (congrArg (fun f => some (Instr.vmin f)) (VReg.unpack_pack f _))⟩
theorem vmax (f : VReg) : Statement (.vmax f) := fun _ _ =>
  ⟨_, _, rfl, syllable_v f.slot f.g 0x07 f.pack _ (by decide) (congrArg (fun f => some (Instr.vmax f)) (VReg.unpack_pack f _))⟩
theorem vabs (f : VReg) : Statement (.vabs f) := fun _ _ =>
  ⟨_, _, rfl, syllable_v f.slot f.g 0x08 f.pack _ (by decide) (congrArg (fun f => some (Instr.vabs f)) (VReg.unpack_pack f _))⟩
theorem vneg (f : VReg) : Statement (.vneg f) := fun _ _ =>
  ⟨_, _, rfl, syllable_v f.slot f.g 0x09 f.pack _ (by decide) (congrArg (fun f => some (Instr.vneg f)) (VReg.unpack_pack f _))⟩
theorem vrcp (f : VReg) : Statement (.vrcp f) := fun _ _ =>
  ⟨_, _, rfl, syllable_v f.slot f.g 0x0A f.pack _ (by decide) (congrArg (fun f => some (Instr.vrcp f)) (VReg.unpack_pack f _))⟩
theorem vrsq (f : VReg) : Statement (.vrsq f) := fun _ _ =>
  ⟨_, _, rfl, syllable_v f.slot f.g 0x0B f.pack _ (by decide) (congrArg (fun f => some (Instr.vrsq f)) (VReg.unpack_pack f _))⟩
theorem vexp2 (f : VReg) : Statement (.vexp2 f) := fun _ _ =>
  ⟨_, _, rfl, syllable_v f.slot f.g 0x0C f.pack _ (by decide) (congrArg (fun f => some (Instr.vexp2 f)) (VReg.unpack_pack f _))⟩
theorem vlog2 (f : VReg) : Statement (.vlog2 f) := fun _ _ =>
  ⟨_, _, rfl, syllable_v f.slot f.g 0x0D f.pack _ (by decide) (congrArg (fun f => some (Instr.vlog2 f)) (VReg.unpack_pack f _))⟩
theorem vclass (f : VReg) : Statement (.vclass f) := fun _ _ =>
  ⟨_, _, rfl, syllable_v f.slot f.g 0x0E f.pack _ (by decide) (congrArg (fun f => some (Instr.vclass f)) (VReg.unpack_pack f _))⟩
theorem vcmp (f : VReg) : Statement (.vcmp f) := fun _ _ =>
  ⟨_, _, rfl, syllable_v f.slot f.g 0x0F f.pack _ (by decide) (congrArg (fun f => some (Instr.vcmp f)) (VReg.unpack_pack f _))⟩
theorem vaddi (f : VImm) : Statement (.vaddi f) := fun _ _ =>
  ⟨_, _, rfl, syllable_v f.slot f.g 0x10 f.pack _ (by decide) (congrArg (fun f => some (Instr.vaddi f)) (VImm.unpack_pack f _))⟩
theorem vmuli (f : VImm) : Statement (.vmuli f) := fun _ _ =>
  ⟨_, _, rfl, syllable_v f.slot f.g 0x11 f.pack _ (by decide) (congrArg (fun f => some (Instr.vmuli f)) (VImm.unpack_pack f _))⟩
theorem vfmai (f : VImm) : Statement (.vfmai f) := fun _ _ =>
  ⟨_, _, rfl, syllable_v f.slot f.g 0x12 f.pack _ (by decide) (congrArg (fun f => some (Instr.vfmai f)) (VImm.unpack_pack f _))⟩
theorem vmaci (f : VImm) : Statement (.vmaci f) := fun _ _ =>
  ⟨_, _, rfl, syllable_v f.slot f.g 0x13 f.pack _ (by decide) (congrArg (fun f => some (Instr.vmaci f)) (VImm.unpack_pack f _))⟩
theorem viadd (f : VReg) : Statement (.viadd f) := fun _ _ =>
  ⟨_, _, rfl, syllable_v f.slot f.g 0x14 f.pack _ (by decide) (congrArg (fun f => some (Instr.viadd f)) (VReg.unpack_pack f _))⟩
theorem visub (f : VReg) : Statement (.visub f) := fun _ _ =>
  ⟨_, _, rfl, syllable_v f.slot f.g 0x15 f.pack _ (by decide) (congrArg (fun f => some (Instr.visub f)) (VReg.unpack_pack f _))⟩
theorem vimul (f : VReg) : Statement (.vimul f) := fun _ _ =>
  ⟨_, _, rfl, syllable_v f.slot f.g 0x16 f.pack _ (by decide) (congrArg (fun f => some (Instr.vimul f)) (VReg.unpack_pack f _))⟩
theorem vimulh (f : VReg) : Statement (.vimulh f) := fun _ _ =>
  ⟨_, _, rfl, syllable_v f.slot f.g 0x17 f.pack _ (by decide) (congrArg (fun f => some (Instr.vimulh f)) (VReg.unpack_pack f _))⟩
theorem vshl (f : VReg) : Statement (.vshl f) := fun _ _ =>
  ⟨_, _, rfl, syllable_v f.slot f.g 0x18 f.pack _ (by decide) (congrArg (fun f => some (Instr.vshl f)) (VReg.unpack_pack f _))⟩
theorem vshr (f : VReg) : Statement (.vshr f) := fun _ _ =>
  ⟨_, _, rfl, syllable_v f.slot f.g 0x19 f.pack _ (by decide) (congrArg (fun f => some (Instr.vshr f)) (VReg.unpack_pack f _))⟩
theorem vsar (f : VReg) : Statement (.vsar f) := fun _ _ =>
  ⟨_, _, rfl, syllable_v f.slot f.g 0x1A f.pack _ (by decide) (congrArg (fun f => some (Instr.vsar f)) (VReg.unpack_pack f _))⟩
theorem vand (f : VReg) : Statement (.vand f) := fun _ _ =>
  ⟨_, _, rfl, syllable_v f.slot f.g 0x1B f.pack _ (by decide) (congrArg (fun f => some (Instr.vand f)) (VReg.unpack_pack f _))⟩
theorem vor (f : VReg) : Statement (.vor f) := fun _ _ =>
  ⟨_, _, rfl, syllable_v f.slot f.g 0x1C f.pack _ (by decide) (congrArg (fun f => some (Instr.vor f)) (VReg.unpack_pack f _))⟩
theorem vxor (f : VReg) : Statement (.vxor f) := fun _ _ =>
  ⟨_, _, rfl, syllable_v f.slot f.g 0x1D f.pack _ (by decide) (congrArg (fun f => some (Instr.vxor f)) (VReg.unpack_pack f _))⟩
theorem vandn (f : VReg) : Statement (.vandn f) := fun _ _ =>
  ⟨_, _, rfl, syllable_v f.slot f.g 0x1E f.pack _ (by decide) (congrArg (fun f => some (Instr.vandn f)) (VReg.unpack_pack f _))⟩
theorem vimin (f : VReg) : Statement (.vimin f) := fun _ _ =>
  ⟨_, _, rfl, syllable_v f.slot f.g 0x1F f.pack _ (by decide) (congrArg (fun f => some (Instr.vimin f)) (VReg.unpack_pack f _))⟩
theorem vimax (f : VReg) : Statement (.vimax f) := fun _ _ =>
  ⟨_, _, rfl, syllable_v f.slot f.g 0x20 f.pack _ (by decide) (congrArg (fun f => some (Instr.vimax f)) (VReg.unpack_pack f _))⟩
theorem vadds (f : VReg) : Statement (.vadds f) := fun _ _ =>
  ⟨_, _, rfl, syllable_v f.slot f.g 0x21 f.pack _ (by decide) (congrArg (fun f => some (Instr.vadds f)) (VReg.unpack_pack f _))⟩
theorem vsubs (f : VReg) : Statement (.vsubs f) := fun _ _ =>
  ⟨_, _, rfl, syllable_v f.slot f.g 0x22 f.pack _ (by decide) (congrArg (fun f => some (Instr.vsubs f)) (VReg.unpack_pack f _))⟩
theorem vqmuls (f : VReg) : Statement (.vqmuls f) := fun _ _ =>
  ⟨_, _, rfl, syllable_v f.slot f.g 0x23 f.pack _ (by decide) (congrArg (fun f => some (Instr.vqmuls f)) (VReg.unpack_pack f _))⟩
theorem vabsd (f : VReg) : Statement (.vabsd f) := fun _ _ =>
  ⟨_, _, rfl, syllable_v f.slot f.g 0x24 f.pack _ (by decide) (congrArg (fun f => some (Instr.vabsd f)) (VReg.unpack_pack f _))⟩
theorem vavg (f : VReg) : Statement (.vavg f) := fun _ _ =>
  ⟨_, _, rfl, syllable_v f.slot f.g 0x25 f.pack _ (by decide) (congrArg (fun f => some (Instr.vavg f)) (VReg.unpack_pack f _))⟩
theorem vdot4 (f : VReg) : Statement (.vdot4 f) := fun _ _ =>
  ⟨_, _, rfl, syllable_v f.slot f.g 0x26 f.pack _ (by decide) (congrArg (fun f => some (Instr.vdot4 f)) (VReg.unpack_pack f _))⟩
theorem vsad (f : VReg) : Statement (.vsad f) := fun _ _ =>
  ⟨_, _, rfl, syllable_v f.slot f.g 0x27 f.pack _ (by decide) (congrArg (fun f => some (Instr.vsad f)) (VReg.unpack_pack f _))⟩
theorem vicmp (f : VReg) : Statement (.vicmp f) := fun _ _ =>
  ⟨_, _, rfl, syllable_v f.slot f.g 0x28 f.pack _ (by decide) (congrArg (fun f => some (Instr.vicmp f)) (VReg.unpack_pack f _))⟩
theorem vcvt (f : VReg) : Statement (.vcvt f) := fun _ _ =>
  ⟨_, _, rfl, syllable_v f.slot f.g 0x29 f.pack _ (by decide) (congrArg (fun f => some (Instr.vcvt f)) (VReg.unpack_pack f _))⟩
theorem vqnt (f : VReg) : Statement (.vqnt f) := fun _ _ =>
  ⟨_, _, rfl, syllable_v f.slot f.g 0x2A f.pack _ (by decide) (congrArg (fun f => some (Instr.vqnt f)) (VReg.unpack_pack f _))⟩
theorem vdqnt (f : VReg) : Statement (.vdqnt f) := fun _ _ =>
  ⟨_, _, rfl, syllable_v f.slot f.g 0x2B f.pack _ (by decide) (congrArg (fun f => some (Instr.vdqnt f)) (VReg.unpack_pack f _))⟩
theorem vmxs (f : VReg) : Statement (.vmxs f) := fun _ _ =>
  ⟨_, _, rfl, syllable_v f.slot f.g 0x2C f.pack _ (by decide) (congrArg (fun f => some (Instr.vmxs f)) (VReg.unpack_pack f _))⟩
theorem vsplit (f : VReg) : Statement (.vsplit f) := fun _ _ =>
  ⟨_, _, rfl, syllable_v f.slot f.g 0x2D f.pack _ (by decide) (congrArg (fun f => some (Instr.vsplit f)) (VReg.unpack_pack f _))⟩
theorem vjoin (f : VReg) : Statement (.vjoin f) := fun _ _ =>
  ⟨_, _, rfl, syllable_v f.slot f.g 0x2E f.pack _ (by decide) (congrArg (fun f => some (Instr.vjoin f)) (VReg.unpack_pack f _))⟩
theorem vmov (f : VReg) : Statement (.vmov f) := fun _ _ =>
  ⟨_, _, rfl, syllable_v f.slot f.g 0x2F f.pack _ (by decide) (congrArg (fun f => some (Instr.vmov f)) (VReg.unpack_pack f _))⟩
theorem vbcst (f : VReg) : Statement (.vbcst f) := fun _ _ =>
  ⟨_, _, rfl, syllable_v f.slot f.g 0x30 f.pack _ (by decide) (congrArg (fun f => some (Instr.vbcst f)) (VReg.unpack_pack f _))⟩
theorem viota (f : VReg) : Statement (.viota f) := fun _ _ =>
  ⟨_, _, rfl, syllable_v f.slot f.g 0x31 f.pack _ (by decide) (congrArg (fun f => some (Instr.viota f)) (VReg.unpack_pack f _))⟩
theorem vperm (f : VReg) : Statement (.vperm f) := fun _ _ =>
  ⟨_, _, rfl, syllable_v f.slot f.g 0x32 f.pack _ (by decide) (congrArg (fun f => some (Instr.vperm f)) (VReg.unpack_pack f _))⟩
theorem vshuf (f : VReg) : Statement (.vshuf f) := fun _ _ =>
  ⟨_, _, rfl, syllable_v f.slot f.g 0x33 f.pack _ (by decide) (congrArg (fun f => some (Instr.vshuf f)) (VReg.unpack_pack f _))⟩
theorem vslide (f : VReg) : Statement (.vslide f) := fun _ _ =>
  ⟨_, _, rfl, syllable_v f.slot f.g 0x34 f.pack _ (by decide) (congrArg (fun f => some (Instr.vslide f)) (VReg.unpack_pack f _))⟩
theorem vbext (f : VReg) : Statement (.vbext f) := fun _ _ =>
  ⟨_, _, rfl, syllable_v f.slot f.g 0x35 f.pack _ (by decide) (congrArg (fun f => some (Instr.vbext f)) (VReg.unpack_pack f _))⟩
theorem vlut (f : VReg) : Statement (.vlut f) := fun _ _ =>
  ⟨_, _, rfl, syllable_v f.slot f.g 0x36 f.pack _ (by decide) (congrArg (fun f => some (Instr.vlut f)) (VReg.unpack_pack f _))⟩
theorem vlutld (f : VReg) : Statement (.vlutld f) := fun _ _ =>
  ⟨_, _, rfl, syllable_v f.slot f.g 0x37 f.pack _ (by decide) (congrArg (fun f => some (Instr.vlutld f)) (VReg.unpack_pack f _))⟩
theorem vunpk12 (f : VReg) : Statement (.vunpk12 f) := fun _ _ =>
  ⟨_, _, rfl, syllable_v f.slot f.g 0x38 f.pack _ (by decide) (congrArg (fun f => some (Instr.vunpk12 f)) (VReg.unpack_pack f _))⟩
theorem vpack12 (f : VReg) : Statement (.vpack12 f) := fun _ _ =>
  ⟨_, _, rfl, syllable_v f.slot f.g 0x39 f.pack _ (by decide) (congrArg (fun f => some (Instr.vpack12 f)) (VReg.unpack_pack f _))⟩
theorem vrng (f : VReg) : Statement (.vrng f) := fun _ _ =>
  ⟨_, _, rfl, syllable_v f.slot f.g 0x3A f.pack _ (by decide) (congrArg (fun f => some (Instr.vrng f)) (VReg.unpack_pack f _))⟩
theorem vred (f : VReg) : Statement (.vred f) := fun _ _ =>
  ⟨_, _, rfl, syllable_v f.slot f.g 0x3B f.pack _ (by decide) (congrArg (fun f => some (Instr.vred f)) (VReg.unpack_pack f _))⟩
theorem vscan (f : VReg) : Statement (.vscan f) := fun _ _ =>
  ⟨_, _, rfl, syllable_v f.slot f.g 0x3C f.pack _ (by decide) (congrArg (fun f => some (Instr.vscan f)) (VReg.unpack_pack f _))⟩
theorem vcpy (f : VReg) : Statement (.vcpy f) := fun _ _ =>
  ⟨_, _, rfl, syllable_v f.slot f.g 0x3D f.pack _ (by decide) (congrArg (fun f => some (Instr.vcpy f)) (VReg.unpack_pack f _))⟩
theorem mcfg (f : MCfg) : Statement (.mcfg f) := fun _ _ =>
  ⟨_, _, rfl, syllable_m f.g 0x00 f.pack _ (by decide) (congrArg (fun f => some (Instr.mcfg f)) (MCfg.unpack_pack f _))⟩
theorem mzero (f : MZero) : Statement (.mzero f) := fun _ _ =>
  ⟨_, _, rfl, syllable_m f.g 0x01 f.pack _ (by decide) (congrArg (fun f => some (Instr.mzero f)) (MZero.unpack_pack f _))⟩
theorem mma (f : MMac) : Statement (.mma f) := fun _ _ =>
  ⟨_, _, rfl, syllable_m f.g 0x02 f.pack _ (by decide) (congrArg (fun f => some (Instr.mma f)) (MMac.unpack_pack f _))⟩
theorem mmax (f : MMac) : Statement (.mmax f) := fun _ _ =>
  ⟨_, _, rfl, syllable_m f.g 0x03 f.pack _ (by decide) (congrArg (fun f => some (Instr.mmax f)) (MMac.unpack_pack f _))⟩
theorem mread (f : MRead) : Statement (.mread f) := fun _ _ =>
  ⟨_, _, rfl, syllable_m f.g 0x04 f.pack _ (by decide) (congrArg (fun f => some (Instr.mread f)) (MRead.unpack_pack f _))⟩
theorem mwrite (f : MWrite) : Statement (.mwrite f) := fun _ _ =>
  ⟨_, _, rfl, syllable_m f.g 0x05 f.pack _ (by decide) (congrArg (fun f => some (Instr.mwrite f)) (MWrite.unpack_pack f _))⟩
theorem mjoin (f : MJoin) : Statement (.mjoin f) := fun _ _ =>
  ⟨_, _, rfl, syllable_m f.g 0x06 f.pack _ (by decide) (congrArg (fun f => some (Instr.mjoin f)) (MJoin.unpack_pack f _))⟩
theorem mstat (f : MStat) : Statement (.mstat f) := fun _ _ =>
  ⟨_, _, rfl, syllable_m f.g 0x07 f.pack _ (by decide) (congrArg (fun f => some (Instr.mstat f)) (MStat.unpack_pack f _))⟩
theorem ld (f : LGen) : Statement (.ld f) := fun _ _ =>
  ⟨_, _, rfl, syllable_l f.g 0x00 f.pack _ (by decide) (congrArg (fun f => some (Instr.ld f)) (LGen.unpack_pack f _))⟩
theorem st (f : LGen) : Statement (.st f) := fun _ _ =>
  ⟨_, _, rfl, syllable_l f.g 0x01 f.pack _ (by decide) (congrArg (fun f => some (Instr.st f)) (LGen.unpack_pack f _))⟩
theorem vld (f : LGen) : Statement (.vld f) := fun _ _ =>
  ⟨_, _, rfl, syllable_l f.g 0x02 f.pack _ (by decide) (congrArg (fun f => some (Instr.vld f)) (LGen.unpack_pack f _))⟩
theorem vst (f : LGen) : Statement (.vst f) := fun _ _ =>
  ⟨_, _, rfl, syllable_l f.g 0x03 f.pack _ (by decide) (congrArg (fun f => some (Instr.vst f)) (LGen.unpack_pack f _))⟩
theorem vlds (f : LStr) : Statement (.vlds f) := fun _ _ =>
  ⟨_, _, rfl, syllable_l f.g 0x04 f.pack _ (by decide) (congrArg (fun f => some (Instr.vlds f)) (LStr.unpack_pack f _))⟩
theorem vsts (f : LStr) : Statement (.vsts f) := fun _ _ =>
  ⟨_, _, rfl, syllable_l f.g 0x05 f.pack _ (by decide) (congrArg (fun f => some (Instr.vsts f)) (LStr.unpack_pack f _))⟩
theorem vgth (f : LIdx) : Statement (.vgth f) := fun _ _ =>
  ⟨_, _, rfl, syllable_l f.g 0x06 f.pack _ (by decide) (congrArg (fun f => some (Instr.vgth f)) (LIdx.unpack_pack f _))⟩
theorem vsct (f : LIdx) : Statement (.vsct f) := fun _ _ =>
  ⟨_, _, rfl, syllable_l f.g 0x07 f.pack _ (by decide) (congrArg (fun f => some (Instr.vsct f)) (LIdx.unpack_pack f _))⟩
theorem ldj (f : LGen) : Statement (.ldj f) := fun _ _ =>
  ⟨_, _, rfl, syllable_l f.g 0x08 f.pack _ (by decide) (congrArg (fun f => some (Instr.ldj f)) (LGen.unpack_pack f _))⟩
theorem stj (f : LGen) : Statement (.stj f) := fun _ _ =>
  ⟨_, _, rfl, syllable_l f.g 0x09 f.pack _ (by decide) (congrArg (fun f => some (Instr.stj f)) (LGen.unpack_pack f _))⟩
theorem atom (f : LAtom) : Statement (.atom f) := fun hw _ => by
  refine ⟨_, _, rfl, syllable_l f.g 0x0A f.pack _ (by decide) ?_⟩
  have hx : ∀ w : BitVec 26, (w ++ f.pack).extractLsb' 17 2 = f.ak := fun w => congrArg LAtom.ak (LAtom.unpack_pack f w)
  simp only [Instr.wf, Bool.and_eq_true, beq_iff_eq] at hw
  exact ((if_neg (by rw [hx]; simp_all)).trans (if_neg (by rw [hx]; simp_all))).trans (congrArg (fun f => some (Instr.atom f)) (LAtom.unpack_pack f _))
theorem ldAcq (f : LAtom) : Statement (.ldAcq f) := fun hw _ => by
  refine ⟨_, _, rfl, syllable_l f.g 0x0A f.pack _ (by decide) ?_⟩
  have hx : ∀ w : BitVec 26, (w ++ f.pack).extractLsb' 17 2 = f.ak := fun w => congrArg LAtom.ak (LAtom.unpack_pack f w)
  simp only [Instr.wf, Bool.and_eq_true, beq_iff_eq] at hw
  exact (if_pos (by rw [hx, hw.2])).trans (congrArg (fun f => some (Instr.ldAcq f)) (LAtom.unpack_pack f _))
theorem stRel (f : LAtom) : Statement (.stRel f) := fun hw _ => by
  refine ⟨_, _, rfl, syllable_l f.g 0x0A f.pack _ (by decide) ?_⟩
  have hx : ∀ w : BitVec 26, (w ++ f.pack).extractLsb' 17 2 = f.ak := fun w => congrArg LAtom.ak (LAtom.unpack_pack f w)
  simp only [Instr.wf, Bool.and_eq_true, beq_iff_eq] at hw
  exact ((if_neg (by rw [hx, hw.2]; decide)).trans (if_pos (by rw [hx, hw.2]))).trans (congrArg (fun f => some (Instr.stRel f)) (LAtom.unpack_pack f _))
theorem vatom (f : LVAtom) : Statement (.vatom f) := fun _ _ =>
  ⟨_, _, rfl, syllable_l f.g 0x0B f.pack _ (by decide) (congrArg (fun f => some (Instr.vatom f)) (LVAtom.unpack_pack f _))⟩
theorem fence (f : LScope) : Statement (.fence f) := fun _ _ =>
  ⟨_, _, rfl, syllable_l f.g 0x0C f.pack _ (by decide) (congrArg (fun f => some (Instr.fence f)) (LScope.unpack_pack f _))⟩
theorem sync (f : LScope) : Statement (.sync f) := fun _ _ =>
  ⟨_, _, rfl, syllable_l f.g 0x0D f.pack _ (by decide) (congrArg (fun f => some (Instr.sync f)) (LScope.unpack_pack f _))⟩
theorem tbinit (f : LBar) : Statement (.tbinit f) := fun _ _ =>
  ⟨_, _, rfl, syllable_l f.g 0x0E f.pack _ (by decide) (congrArg (fun f => some (Instr.tbinit f)) (LBar.unpack_pack f _))⟩
theorem tbarv (f : LBar) : Statement (.tbarv f) := fun _ _ =>
  ⟨_, _, rfl, syllable_l f.g 0x0F f.pack _ (by decide) (congrArg (fun f => some (Instr.tbarv f)) (LBar.unpack_pack f _))⟩
theorem tbexp (f : LBar) : Statement (.tbexp f) := fun _ _ =>
  ⟨_, _, rfl, syllable_l f.g 0x10 f.pack _ (by decide) (congrArg (fun f => some (Instr.tbexp f)) (LBar.unpack_pack f _))⟩
theorem tbwait (f : LBar) : Statement (.tbwait f) := fun _ _ =>
  ⟨_, _, rfl, syllable_l f.g 0x11 f.pack _ (by decide) (congrArg (fun f => some (Instr.tbwait f)) (LBar.unpack_pack f _))⟩
theorem spill (f : LSpill) : Statement (.spill f) := fun _ _ =>
  ⟨_, _, rfl, syllable_l f.g 0x12 f.pack _ (by decide) (congrArg (fun f => some (Instr.spill f)) (LSpill.unpack_pack f _))⟩
theorem fill (f : LSpill) : Statement (.fill f) := fun _ _ =>
  ⟨_, _, rfl, syllable_l f.g 0x13 f.pack _ (by decide) (congrArg (fun f => some (Instr.fill f)) (LSpill.unpack_pack f _))⟩
theorem dadd (f : LDadd) : Statement (.dadd f) := fun _ _ =>
  ⟨_, _, rfl, syllable_l f.g 0x14 f.pack _ (by decide) (congrArg (fun f => some (Instr.dadd f)) (LDadd.unpack_pack f _))⟩
theorem dli (f : LDli) : Statement (.dli f) := fun _ _ =>
  ⟨_, _, rfl, syllable_l f.g 0x15 f.pack _ (by decide) (congrArg (fun f => some (Instr.dli f)) (LDli.unpack_pack f _))⟩
theorem dcpy (f : LDcpy) : Statement (.dcpy f) := fun _ _ =>
  ⟨_, _, rfl, syllable_l f.g 0x16 f.pack _ (by decide) (congrArg (fun f => some (Instr.dcpy f)) (LDcpy.unpack_pack f _))⟩
theorem l1inv (f : LLine) : Statement (.l1inv f) := fun _ _ =>
  ⟨_, _, rfl, syllable_l f.g 0x17 f.pack _ (by decide) (congrArg (fun f => some (Instr.l1inv f)) (LLine.unpack_pack f _))⟩
theorem l1wb (f : LLine) : Statement (.l1wb f) := fun _ _ =>
  ⟨_, _, rfl, syllable_l f.g 0x18 f.pack _ (by decide) (congrArg (fun f => some (Instr.l1wb f)) (LLine.unpack_pack f _))⟩
theorem prf (f : LGen) : Statement (.prf f) := fun _ _ =>
  ⟨_, _, rfl, syllable_l f.g 0x19 f.pack _ (by decide) (congrArg (fun f => some (Instr.prf f)) (LGen.unpack_pack f _))⟩
theorem sljob (f : EForm) : Statement (.sljob f) := fun _ _ =>
  ⟨_, _, rfl, syllable_e f.g 0x00 f.pack _ (by decide) (congrArg (fun f => some (Instr.sljob f)) (EForm.unpack_pack f _))⟩
theorem slstat (f : EForm) : Statement (.slstat f) := fun _ _ =>
  ⟨_, _, rfl, syllable_e f.g 0x01 f.pack _ (by decide) (congrArg (fun f => some (Instr.slstat f)) (EForm.unpack_pack f _))⟩
theorem slkill (f : EForm) : Statement (.slkill f) := fun _ _ =>
  ⟨_, _, rfl, syllable_e f.g 0x02 f.pack _ (by decide) (congrArg (fun f => some (Instr.slkill f)) (EForm.unpack_pack f _))⟩
theorem stbind (f : EForm) : Statement (.stbind f) := fun _ _ =>
  ⟨_, _, rfl, syllable_e f.g 0x03 f.pack _ (by decide) (congrArg (fun f => some (Instr.stbind f)) (EForm.unpack_pack f _))⟩
theorem rmov (f : EForm) : Statement (.rmov f) := fun _ _ =>
  ⟨_, _, rfl, syllable_e f.g 0x04 f.pack _ (by decide) (congrArg (fun f => some (Instr.rmov f)) (EForm.unpack_pack f _))⟩
theorem rget (f : EForm) : Statement (.rget f) := fun _ _ =>
  ⟨_, _, rfl, syllable_e f.g 0x05 f.pack _ (by decide) (congrArg (fun f => some (Instr.rget f)) (EForm.unpack_pack f _))⟩
theorem edstash (f : EForm) : Statement (.edstash f) := fun _ _ =>
  ⟨_, _, rfl, syllable_e f.g 0x06 f.pack _ (by decide) (congrArg (fun f => some (Instr.edstash f)) (EForm.unpack_pack f _))⟩
theorem edfetch (f : EForm) : Statement (.edfetch f) := fun _ _ =>
  ⟨_, _, rfl, syllable_e f.g 0x07 f.pack _ (by decide) (congrArg (fun f => some (Instr.edfetch f)) (EForm.unpack_pack f _))⟩
theorem edfree (f : EForm) : Statement (.edfree f) := fun _ _ =>
  ⟨_, _, rfl, syllable_e f.g 0x08 f.pack _ (by decide) (congrArg (fun f => some (Instr.edfree f)) (EForm.unpack_pack f _))⟩
theorem edqry (f : EForm) : Statement (.edqry f) := fun _ _ =>
  ⟨_, _, rfl, syllable_e f.g 0x09 f.pack _ (by decide) (congrArg (fun f => some (Instr.edqry f)) (EForm.unpack_pack f _))⟩
theorem chsend (f : EForm) : Statement (.chsend f) := fun _ _ =>
  ⟨_, _, rfl, syllable_e f.g 0x0A f.pack _ (by decide) (congrArg (fun f => some (Instr.chsend f)) (EForm.unpack_pack f _))⟩
theorem chrecv (f : EForm) : Statement (.chrecv f) := fun _ _ =>
  ⟨_, _, rfl, syllable_e f.g 0x0B f.pack _ (by decide) (congrArg (fun f => some (Instr.chrecv f)) (EForm.unpack_pack f _))⟩
theorem chrel (f : EForm) : Statement (.chrel f) := fun _ _ =>
  ⟨_, _, rfl, syllable_e f.g 0x0C f.pack _ (by decide) (congrArg (fun f => some (Instr.chrel f)) (EForm.unpack_pack f _))⟩
theorem chwin (f : EForm) : Statement (.chwin f) := fun _ _ =>
  ⟨_, _, rfl, syllable_e f.g 0x0D f.pack _ (by decide) (congrArg (fun f => some (Instr.chwin f)) (EForm.unpack_pack f _))⟩
theorem oxred (f : EForm) : Statement (.oxred f) := fun _ _ =>
  ⟨_, _, rfl, syllable_e f.g 0x0E f.pack _ (by decide) (congrArg (fun f => some (Instr.oxred f)) (EForm.unpack_pack f _))⟩
theorem oxgath (f : EForm) : Statement (.oxgath f) := fun _ _ =>
  ⟨_, _, rfl, syllable_e f.g 0x0F f.pack _ (by decide) (congrArg (fun f => some (Instr.oxgath f)) (EForm.unpack_pack f _))⟩
theorem wpost (f : EForm) : Statement (.wpost f) := fun _ _ =>
  ⟨_, _, rfl, syllable_e f.g 0x10 f.pack _ (by decide) (congrArg (fun f => some (Instr.wpost f)) (EForm.unpack_pack f _))⟩
theorem wraise (f : EForm) : Statement (.wraise f) := fun _ _ =>
  ⟨_, _, rfl, syllable_e f.g 0x11 f.pack _ (by decide) (congrArg (fun f => some (Instr.wraise f)) (EForm.unpack_pack f _))⟩
theorem warr (f : EForm) : Statement (.warr f) := fun _ _ =>
  ⟨_, _, rfl, syllable_e f.g 0x12 f.pack _ (by decide) (congrArg (fun f => some (Instr.warr f)) (EForm.unpack_pack f _))⟩
theorem spawn (f : EForm) : Statement (.spawn f) := fun _ _ =>
  ⟨_, _, rfl, syllable_e f.g 0x13 f.pack _ (by decide) (congrArg (fun f => some (Instr.spawn f)) (EForm.unpack_pack f _))⟩
theorem grd (f : EForm) : Statement (.grd f) := fun _ _ =>
  ⟨_, _, rfl, syllable_e f.g 0x14 f.pack _ (by decide) (congrArg (fun f => some (Instr.grd f)) (EForm.unpack_pack f _))⟩
theorem gupd (f : EForm) : Statement (.gupd f) := fun _ _ =>
  ⟨_, _, rfl, syllable_e f.g 0x15 f.pack _ (by decide) (congrArg (fun f => some (Instr.gupd f)) (EForm.unpack_pack f _))⟩
theorem gnew (f : EForm) : Statement (.gnew f) := fun _ _ =>
  ⟨_, _, rfl, syllable_e f.g 0x16 f.pack _ (by decide) (congrArg (fun f => some (Instr.gnew f)) (EForm.unpack_pack f _))⟩
theorem gseal (f : EForm) : Statement (.gseal f) := fun _ _ =>
  ⟨_, _, rfl, syllable_e f.g 0x17 f.pack _ (by decide) (congrArg (fun f => some (Instr.gseal f)) (EForm.unpack_pack f _))⟩
theorem grescale (f : EForm) : Statement (.grescale f) := fun _ _ =>
  ⟨_, _, rfl, syllable_e f.g 0x18 f.pack _ (by decide) (congrArg (fun f => some (Instr.grescale f)) (EForm.unpack_pack f _))⟩
theorem recset (f : EForm) : Statement (.recset f) := fun _ _ =>
  ⟨_, _, rfl, syllable_e f.g 0x19 f.pack _ (by decide) (congrArg (fun f => some (Instr.recset f)) (EForm.unpack_pack f _))⟩
theorem lease (f : EForm) : Statement (.lease f) := fun _ _ =>
  ⟨_, _, rfl, syllable_e f.g 0x1A f.pack _ (by decide) (congrArg (fun f => some (Instr.lease f)) (EForm.unpack_pack f _))⟩
theorem lrel (f : EForm) : Statement (.lrel f) := fun _ _ =>
  ⟨_, _, rfl, syllable_e f.g 0x1B f.pack _ (by decide) (congrArg (fun f => some (Instr.lrel f)) (EForm.unpack_pack f _))⟩
theorem eli (f : EForm) : Statement (.eli f) := fun _ _ =>
  ⟨_, _, rfl, syllable_e f.g 0x1C f.pack _ (by decide) (congrArg (fun f => some (Instr.eli f)) (EForm.unpack_pack f _))⟩
theorem ecpy (f : EForm) : Statement (.ecpy f) := fun _ _ =>
  ⟨_, _, rfl, syllable_e f.g 0x1D f.pack _ (by decide) (congrArg (fun f => some (Instr.ecpy f)) (EForm.unpack_pack f _))⟩
theorem twait (f : EForm) : Statement (.twait f) := fun _ _ =>
  ⟨_, _, rfl, syllable_e f.g 0x1E f.pack _ (by decide) (congrArg (fun f => some (Instr.twait f)) (EForm.unpack_pack f _))⟩

end Sys2Proof.Laws.Encoded
end

