-- ==== Sys2Proof/Laws/State.lean ====
section
/-! SUPPORT. What each named update of the state does to each field: one lemma per field and update, true by unfolding the update
alone, so that no later proof unfolds a record. Then what the parts by number read after them. -/

namespace Sys2Proof.Machine

variable (s : State)


/-! ### setCtx -/

@[simp] theorem State.setCtx_time (c : Nat) (x : Option Ctx) : (s.setCtx c x).time = s.time := rfl
@[simp] theorem State.setCtx_agenda (c : Nat) (x : Option Ctx) : (s.setCtx c x).agenda = s.agenda := rfl
@[simp] theorem State.setCtx_cur (c : Nat) (x : Option Ctx) : (s.setCtx c x).cur = s.cur := rfl
@[simp] theorem State.setCtx_lits (c : Nat) (x : Option Ctx) : (s.setCtx c x).lits = s.lits := rfl
@[simp] theorem State.setCtx_freeCtr (c : Nat) (x : Option Ctx) : (s.setCtx c x).freeCtr = s.freeCtr := rfl
@[simp] theorem State.setCtx_thermal (c : Nat) (x : Option Ctx) : (s.setCtx c x).thermal = s.thermal := rfl
@[simp] theorem State.setCtx_dram (c : Nat) (x : Option Ctx) : (s.setCtx c x).dram = s.dram := rfl
@[simp] theorem State.setCtx_scrubbed (c : Nat) (x : Option Ctx) : (s.setCtx c x).scrubbed = s.scrubbed := rfl
@[simp] theorem State.setCtx_dramSince (c : Nat) (x : Option Ctx) : (s.setCtx c x).dramSince = s.dramSince := rfl
@[simp] theorem State.setCtx_llc (c : Nat) (x : Option Ctx) : (s.setCtx c x).llc = s.llc := rfl
@[simp] theorem State.setCtx_llcLast (c : Nat) (x : Option Ctx) : (s.setCtx c x).llcLast = s.llcLast := rfl
@[simp] theorem State.setCtx_layoutTlb (c : Nat) (x : Option Ctx) : (s.setCtx c x).layoutTlb = s.layoutTlb := rfl
@[simp] theorem State.setCtx_poison (c : Nat) (x : Option Ctx) : (s.setCtx c x).poison = s.poison := rfl
@[simp] theorem State.setCtx_leases (c : Nat) (x : Option Ctx) : (s.setCtx c x).leases = s.leases := rfl
@[simp] theorem State.setCtx_home (c : Nat) (x : Option Ctx) : (s.setCtx c x).home = s.home := rfl
@[simp] theorem State.setCtx_writes (c : Nat) (x : Option Ctx) : (s.setCtx c x).writes = s.writes := rfl
@[simp] theorem State.setCtx_nextWrite (c : Nat) (x : Option Ctx) : (s.setCtx c x).nextWrite = s.nextWrite := rfl
@[simp] theorem State.setCtx_nextPlace (c : Nat) (x : Option Ctx) : (s.setCtx c x).nextPlace = s.nextPlace := rfl
@[simp] theorem State.setCtx_hostMem (c : Nat) (x : Option Ctx) : (s.setCtx c x).hostMem = s.hostMem := rfl
@[simp] theorem State.setCtx_hostReqs (c : Nat) (x : Option Ctx) : (s.setCtx c x).hostReqs = s.hostReqs := rfl
@[simp] theorem State.setCtx_accesses (c : Nat) (x : Option Ctx) : (s.setCtx c x).accesses = s.accesses := rfl
@[simp] theorem State.setCtx_nextAccess (c : Nat) (x : Option Ctx) : (s.setCtx c x).nextAccess = s.nextAccess := rfl
@[simp] theorem State.setCtx_dies (c : Nat) (x : Option Ctx) : (s.setCtx c x).dies = s.dies := rfl
@[simp] theorem State.setCtx_clusters (c : Nat) (x : Option Ctx) : (s.setCtx c x).clusters = s.clusters := rfl
@[simp] theorem State.setCtx_cores (c : Nat) (x : Option Ctx) : (s.setCtx c x).cores = s.cores := rfl
@[simp] theorem State.setCtx_ctxs (c : Nat) (x : Option Ctx) : (s.setCtx c x).ctxs = SMap.set none s.ctxs c x := rfl
@[simp] theorem State.setCtx_nextAge (c : Nat) (x : Option Ctx) : (s.setCtx c x).nextAge = s.nextAge := rfl
@[simp] theorem State.setCtx_gangs (c : Nat) (x : Option Ctx) : (s.setCtx c x).gangs = s.gangs := rfl
@[simp] theorem State.setCtx_nextGang (c : Nat) (x : Option Ctx) : (s.setCtx c x).nextGang = s.nextGang := rfl
@[simp] theorem State.setCtx_chans (c : Nat) (x : Option Ctx) : (s.setCtx c x).chans = s.chans := rfl
@[simp] theorem State.setCtx_ports (c : Nat) (x : Option Ctx) : (s.setCtx c x).ports = s.ports := rfl
@[simp] theorem State.setCtx_oxEast (c : Nat) (x : Option Ctx) : (s.setCtx c x).oxEast = s.oxEast := rfl
@[simp] theorem State.setCtx_oxWest (c : Nat) (x : Option Ctx) : (s.setCtx c x).oxWest = s.oxWest := rfl
@[simp] theorem State.setCtx_gaugeQ (c : Nat) (x : Option Ctx) : (s.setCtx c x).gaugeQ = s.gaugeQ := rfl
@[simp] theorem State.setCtx_seals (c : Nat) (x : Option Ctx) : (s.setCtx c x).seals = s.seals := rfl
@[simp] theorem State.setCtx_recReqs (c : Nat) (x : Option Ctx) : (s.setCtx c x).recReqs = s.recReqs := rfl
@[simp] theorem State.setCtx_writeWaits (c : Nat) (x : Option Ctx) : (s.setCtx c x).writeWaits = s.writeWaits := rfl
@[simp] theorem State.setCtx_barWaits (c : Nat) (x : Option Ctx) : (s.setCtx c x).barWaits = s.barWaits := rfl
@[simp] theorem State.setCtx_posts (c : Nat) (x : Option Ctx) : (s.setCtx c x).posts = s.posts := rfl
@[simp] theorem State.setCtx_succs (c : Nat) (x : Option Ctx) : (s.setCtx c x).succs = s.succs := rfl
@[simp] theorem State.setCtx_nextId (c : Nat) (x : Option Ctx) : (s.setCtx c x).nextId = s.nextId := rfl
@[simp] theorem State.setCtx_sess (c : Nat) (x : Option Ctx) : (s.setCtx c x).sess = s.sess := rfl
@[simp] theorem State.setCtx_mbox (c : Nat) (x : Option Ctx) : (s.setCtx c x).mbox = s.mbox := rfl
@[simp] theorem State.setCtx_log (c : Nat) (x : Option Ctx) : (s.setCtx c x).log = s.log := rfl
@[simp] theorem State.setCtx_logCount (c : Nat) (x : Option Ctx) : (s.setCtx c x).logCount = s.logCount := rfl
@[simp] theorem State.setCtx_tbctl (c : Nat) (x : Option Ctx) : (s.setCtx c x).tbctl = s.tbctl := rfl
@[simp] theorem State.setCtx_act (c : Nat) (x : Option Ctx) : (s.setCtx c x).act = s.act := rfl
@[simp] theorem State.setCtx_gated (c : Nat) (x : Option Ctx) : (s.setCtx c x).gated = s.gated := rfl
@[simp] theorem State.setCtx_idleSince (c : Nat) (x : Option Ctx) : (s.setCtx c x).idleSince = s.idleSince := rfl
@[simp] theorem State.setCtx_busyAt (c : Nat) (x : Option Ctx) : (s.setCtx c x).busyAt = s.busyAt := rfl
@[simp] theorem State.setCtx_linkAt (c : Nat) (x : Option Ctx) : (s.setCtx c x).linkAt = s.linkAt := rfl
@[simp] theorem State.setCtx_wokeAt (c : Nat) (x : Option Ctx) : (s.setCtx c x).wokeAt = s.wokeAt := rfl
@[simp] theorem State.setCtx_out (c : Nat) (x : Option Ctx) : (s.setCtx c x).out = s.out := rfl
@[simp] theorem State.setCtx_handleImage (c : Nat) (x : Option Ctx) : (s.setCtx c x).handleImage = s.handleImage := rfl
@[simp] theorem State.setCtx_imageKeys (c : Nat) (x : Option Ctx) : (s.setCtx c x).imageKeys = s.imageKeys := rfl

/-! ### modDie -/

@[simp] theorem State.modDie_time (d : Nat) (f : Die → Die) : (s.modDie d f).time = s.time := rfl
@[simp] theorem State.modDie_agenda (d : Nat) (f : Die → Die) : (s.modDie d f).agenda = s.agenda := rfl
@[simp] theorem State.modDie_cur (d : Nat) (f : Die → Die) : (s.modDie d f).cur = s.cur := rfl
@[simp] theorem State.modDie_lits (d : Nat) (f : Die → Die) : (s.modDie d f).lits = s.lits := rfl
@[simp] theorem State.modDie_freeCtr (d : Nat) (f : Die → Die) : (s.modDie d f).freeCtr = s.freeCtr := rfl
@[simp] theorem State.modDie_thermal (d : Nat) (f : Die → Die) : (s.modDie d f).thermal = s.thermal := rfl
@[simp] theorem State.modDie_dram (d : Nat) (f : Die → Die) : (s.modDie d f).dram = s.dram := rfl
@[simp] theorem State.modDie_scrubbed (d : Nat) (f : Die → Die) : (s.modDie d f).scrubbed = s.scrubbed := rfl
@[simp] theorem State.modDie_dramSince (d : Nat) (f : Die → Die) : (s.modDie d f).dramSince = s.dramSince := rfl
@[simp] theorem State.modDie_llc (d : Nat) (f : Die → Die) : (s.modDie d f).llc = s.llc := rfl
@[simp] theorem State.modDie_llcLast (d : Nat) (f : Die → Die) : (s.modDie d f).llcLast = s.llcLast := rfl
@[simp] theorem State.modDie_layoutTlb (d : Nat) (f : Die → Die) : (s.modDie d f).layoutTlb = s.layoutTlb := rfl
@[simp] theorem State.modDie_poison (d : Nat) (f : Die → Die) : (s.modDie d f).poison = s.poison := rfl
@[simp] theorem State.modDie_leases (d : Nat) (f : Die → Die) : (s.modDie d f).leases = s.leases := rfl
@[simp] theorem State.modDie_home (d : Nat) (f : Die → Die) : (s.modDie d f).home = s.home := rfl
@[simp] theorem State.modDie_writes (d : Nat) (f : Die → Die) : (s.modDie d f).writes = s.writes := rfl
@[simp] theorem State.modDie_nextWrite (d : Nat) (f : Die → Die) : (s.modDie d f).nextWrite = s.nextWrite := rfl
@[simp] theorem State.modDie_nextPlace (d : Nat) (f : Die → Die) : (s.modDie d f).nextPlace = s.nextPlace := rfl
@[simp] theorem State.modDie_hostMem (d : Nat) (f : Die → Die) : (s.modDie d f).hostMem = s.hostMem := rfl
@[simp] theorem State.modDie_hostReqs (d : Nat) (f : Die → Die) : (s.modDie d f).hostReqs = s.hostReqs := rfl
@[simp] theorem State.modDie_accesses (d : Nat) (f : Die → Die) : (s.modDie d f).accesses = s.accesses := rfl
@[simp] theorem State.modDie_nextAccess (d : Nat) (f : Die → Die) : (s.modDie d f).nextAccess = s.nextAccess := rfl
@[simp] theorem State.modDie_dies (d : Nat) (f : Die → Die) : (s.modDie d f).dies = SMap.modify {} s.dies d f := rfl
@[simp] theorem State.modDie_clusters (d : Nat) (f : Die → Die) : (s.modDie d f).clusters = s.clusters := rfl
@[simp] theorem State.modDie_cores (d : Nat) (f : Die → Die) : (s.modDie d f).cores = s.cores := rfl
@[simp] theorem State.modDie_ctxs (d : Nat) (f : Die → Die) : (s.modDie d f).ctxs = s.ctxs := rfl
@[simp] theorem State.modDie_nextAge (d : Nat) (f : Die → Die) : (s.modDie d f).nextAge = s.nextAge := rfl
@[simp] theorem State.modDie_gangs (d : Nat) (f : Die → Die) : (s.modDie d f).gangs = s.gangs := rfl
@[simp] theorem State.modDie_nextGang (d : Nat) (f : Die → Die) : (s.modDie d f).nextGang = s.nextGang := rfl
@[simp] theorem State.modDie_chans (d : Nat) (f : Die → Die) : (s.modDie d f).chans = s.chans := rfl
@[simp] theorem State.modDie_ports (d : Nat) (f : Die → Die) : (s.modDie d f).ports = s.ports := rfl
@[simp] theorem State.modDie_oxEast (d : Nat) (f : Die → Die) : (s.modDie d f).oxEast = s.oxEast := rfl
@[simp] theorem State.modDie_oxWest (d : Nat) (f : Die → Die) : (s.modDie d f).oxWest = s.oxWest := rfl
@[simp] theorem State.modDie_gaugeQ (d : Nat) (f : Die → Die) : (s.modDie d f).gaugeQ = s.gaugeQ := rfl
@[simp] theorem State.modDie_seals (d : Nat) (f : Die → Die) : (s.modDie d f).seals = s.seals := rfl
@[simp] theorem State.modDie_recReqs (d : Nat) (f : Die → Die) : (s.modDie d f).recReqs = s.recReqs := rfl
@[simp] theorem State.modDie_writeWaits (d : Nat) (f : Die → Die) : (s.modDie d f).writeWaits = s.writeWaits := rfl
@[simp] theorem State.modDie_barWaits (d : Nat) (f : Die → Die) : (s.modDie d f).barWaits = s.barWaits := rfl
@[simp] theorem State.modDie_posts (d : Nat) (f : Die → Die) : (s.modDie d f).posts = s.posts := rfl
@[simp] theorem State.modDie_succs (d : Nat) (f : Die → Die) : (s.modDie d f).succs = s.succs := rfl
@[simp] theorem State.modDie_nextId (d : Nat) (f : Die → Die) : (s.modDie d f).nextId = s.nextId := rfl
@[simp] theorem State.modDie_sess (d : Nat) (f : Die → Die) : (s.modDie d f).sess = s.sess := rfl
@[simp] theorem State.modDie_mbox (d : Nat) (f : Die → Die) : (s.modDie d f).mbox = s.mbox := rfl
@[simp] theorem State.modDie_log (d : Nat) (f : Die → Die) : (s.modDie d f).log = s.log := rfl
@[simp] theorem State.modDie_logCount (d : Nat) (f : Die → Die) : (s.modDie d f).logCount = s.logCount := rfl
@[simp] theorem State.modDie_tbctl (d : Nat) (f : Die → Die) : (s.modDie d f).tbctl = s.tbctl := rfl
@[simp] theorem State.modDie_act (d : Nat) (f : Die → Die) : (s.modDie d f).act = s.act := rfl
@[simp] theorem State.modDie_gated (d : Nat) (f : Die → Die) : (s.modDie d f).gated = s.gated := rfl
@[simp] theorem State.modDie_idleSince (d : Nat) (f : Die → Die) : (s.modDie d f).idleSince = s.idleSince := rfl
@[simp] theorem State.modDie_busyAt (d : Nat) (f : Die → Die) : (s.modDie d f).busyAt = s.busyAt := rfl
@[simp] theorem State.modDie_linkAt (d : Nat) (f : Die → Die) : (s.modDie d f).linkAt = s.linkAt := rfl
@[simp] theorem State.modDie_wokeAt (d : Nat) (f : Die → Die) : (s.modDie d f).wokeAt = s.wokeAt := rfl
@[simp] theorem State.modDie_out (d : Nat) (f : Die → Die) : (s.modDie d f).out = s.out := rfl
@[simp] theorem State.modDie_handleImage (d : Nat) (f : Die → Die) : (s.modDie d f).handleImage = s.handleImage := rfl
@[simp] theorem State.modDie_imageKeys (d : Nat) (f : Die → Die) : (s.modDie d f).imageKeys = s.imageKeys := rfl

/-! ### modCore -/

@[simp] theorem State.modCore_time (k : Nat) (f : Core → Core) : (s.modCore k f).time = s.time := rfl
@[simp] theorem State.modCore_agenda (k : Nat) (f : Core → Core) : (s.modCore k f).agenda = s.agenda := rfl
@[simp] theorem State.modCore_cur (k : Nat) (f : Core → Core) : (s.modCore k f).cur = s.cur := rfl
@[simp] theorem State.modCore_lits (k : Nat) (f : Core → Core) : (s.modCore k f).lits = s.lits := rfl
@[simp] theorem State.modCore_freeCtr (k : Nat) (f : Core → Core) : (s.modCore k f).freeCtr = s.freeCtr := rfl
@[simp] theorem State.modCore_thermal (k : Nat) (f : Core → Core) : (s.modCore k f).thermal = s.thermal := rfl
@[simp] theorem State.modCore_dram (k : Nat) (f : Core → Core) : (s.modCore k f).dram = s.dram := rfl
@[simp] theorem State.modCore_scrubbed (k : Nat) (f : Core → Core) : (s.modCore k f).scrubbed = s.scrubbed := rfl
@[simp] theorem State.modCore_dramSince (k : Nat) (f : Core → Core) : (s.modCore k f).dramSince = s.dramSince := rfl
@[simp] theorem State.modCore_llc (k : Nat) (f : Core → Core) : (s.modCore k f).llc = s.llc := rfl
@[simp] theorem State.modCore_llcLast (k : Nat) (f : Core → Core) : (s.modCore k f).llcLast = s.llcLast := rfl
@[simp] theorem State.modCore_layoutTlb (k : Nat) (f : Core → Core) : (s.modCore k f).layoutTlb = s.layoutTlb := rfl
@[simp] theorem State.modCore_poison (k : Nat) (f : Core → Core) : (s.modCore k f).poison = s.poison := rfl
@[simp] theorem State.modCore_leases (k : Nat) (f : Core → Core) : (s.modCore k f).leases = s.leases := rfl
@[simp] theorem State.modCore_home (k : Nat) (f : Core → Core) : (s.modCore k f).home = s.home := rfl
@[simp] theorem State.modCore_writes (k : Nat) (f : Core → Core) : (s.modCore k f).writes = s.writes := rfl
@[simp] theorem State.modCore_nextWrite (k : Nat) (f : Core → Core) : (s.modCore k f).nextWrite = s.nextWrite := rfl
@[simp] theorem State.modCore_nextPlace (k : Nat) (f : Core → Core) : (s.modCore k f).nextPlace = s.nextPlace := rfl
@[simp] theorem State.modCore_hostMem (k : Nat) (f : Core → Core) : (s.modCore k f).hostMem = s.hostMem := rfl
@[simp] theorem State.modCore_hostReqs (k : Nat) (f : Core → Core) : (s.modCore k f).hostReqs = s.hostReqs := rfl
@[simp] theorem State.modCore_accesses (k : Nat) (f : Core → Core) : (s.modCore k f).accesses = s.accesses := rfl
@[simp] theorem State.modCore_nextAccess (k : Nat) (f : Core → Core) : (s.modCore k f).nextAccess = s.nextAccess := rfl
@[simp] theorem State.modCore_dies (k : Nat) (f : Core → Core) : (s.modCore k f).dies = s.dies := rfl
@[simp] theorem State.modCore_clusters (k : Nat) (f : Core → Core) : (s.modCore k f).clusters = s.clusters := rfl
@[simp] theorem State.modCore_cores (k : Nat) (f : Core → Core) : (s.modCore k f).cores = SMap.modify {} s.cores k f := rfl
@[simp] theorem State.modCore_ctxs (k : Nat) (f : Core → Core) : (s.modCore k f).ctxs = s.ctxs := rfl
@[simp] theorem State.modCore_nextAge (k : Nat) (f : Core → Core) : (s.modCore k f).nextAge = s.nextAge := rfl
@[simp] theorem State.modCore_gangs (k : Nat) (f : Core → Core) : (s.modCore k f).gangs = s.gangs := rfl
@[simp] theorem State.modCore_nextGang (k : Nat) (f : Core → Core) : (s.modCore k f).nextGang = s.nextGang := rfl
@[simp] theorem State.modCore_chans (k : Nat) (f : Core → Core) : (s.modCore k f).chans = s.chans := rfl
@[simp] theorem State.modCore_ports (k : Nat) (f : Core → Core) : (s.modCore k f).ports = s.ports := rfl
@[simp] theorem State.modCore_oxEast (k : Nat) (f : Core → Core) : (s.modCore k f).oxEast = s.oxEast := rfl
@[simp] theorem State.modCore_oxWest (k : Nat) (f : Core → Core) : (s.modCore k f).oxWest = s.oxWest := rfl
@[simp] theorem State.modCore_gaugeQ (k : Nat) (f : Core → Core) : (s.modCore k f).gaugeQ = s.gaugeQ := rfl
@[simp] theorem State.modCore_seals (k : Nat) (f : Core → Core) : (s.modCore k f).seals = s.seals := rfl
@[simp] theorem State.modCore_recReqs (k : Nat) (f : Core → Core) : (s.modCore k f).recReqs = s.recReqs := rfl
@[simp] theorem State.modCore_writeWaits (k : Nat) (f : Core → Core) : (s.modCore k f).writeWaits = s.writeWaits := rfl
@[simp] theorem State.modCore_barWaits (k : Nat) (f : Core → Core) : (s.modCore k f).barWaits = s.barWaits := rfl
@[simp] theorem State.modCore_posts (k : Nat) (f : Core → Core) : (s.modCore k f).posts = s.posts := rfl
@[simp] theorem State.modCore_succs (k : Nat) (f : Core → Core) : (s.modCore k f).succs = s.succs := rfl
@[simp] theorem State.modCore_nextId (k : Nat) (f : Core → Core) : (s.modCore k f).nextId = s.nextId := rfl
@[simp] theorem State.modCore_sess (k : Nat) (f : Core → Core) : (s.modCore k f).sess = s.sess := rfl
@[simp] theorem State.modCore_mbox (k : Nat) (f : Core → Core) : (s.modCore k f).mbox = s.mbox := rfl
@[simp] theorem State.modCore_log (k : Nat) (f : Core → Core) : (s.modCore k f).log = s.log := rfl
@[simp] theorem State.modCore_logCount (k : Nat) (f : Core → Core) : (s.modCore k f).logCount = s.logCount := rfl
@[simp] theorem State.modCore_tbctl (k : Nat) (f : Core → Core) : (s.modCore k f).tbctl = s.tbctl := rfl
@[simp] theorem State.modCore_act (k : Nat) (f : Core → Core) : (s.modCore k f).act = s.act := rfl
@[simp] theorem State.modCore_gated (k : Nat) (f : Core → Core) : (s.modCore k f).gated = s.gated := rfl
@[simp] theorem State.modCore_idleSince (k : Nat) (f : Core → Core) : (s.modCore k f).idleSince = s.idleSince := rfl
@[simp] theorem State.modCore_busyAt (k : Nat) (f : Core → Core) : (s.modCore k f).busyAt = s.busyAt := rfl
@[simp] theorem State.modCore_linkAt (k : Nat) (f : Core → Core) : (s.modCore k f).linkAt = s.linkAt := rfl
@[simp] theorem State.modCore_wokeAt (k : Nat) (f : Core → Core) : (s.modCore k f).wokeAt = s.wokeAt := rfl
@[simp] theorem State.modCore_out (k : Nat) (f : Core → Core) : (s.modCore k f).out = s.out := rfl
@[simp] theorem State.modCore_handleImage (k : Nat) (f : Core → Core) : (s.modCore k f).handleImage = s.handleImage := rfl
@[simp] theorem State.modCore_imageKeys (k : Nat) (f : Core → Core) : (s.modCore k f).imageKeys = s.imageKeys := rfl

/-! ### modCluster -/

@[simp] theorem State.modCluster_time (k : Nat) (f : Cluster → Cluster) : (s.modCluster k f).time = s.time := rfl
@[simp] theorem State.modCluster_agenda (k : Nat) (f : Cluster → Cluster) : (s.modCluster k f).agenda = s.agenda := rfl
@[simp] theorem State.modCluster_cur (k : Nat) (f : Cluster → Cluster) : (s.modCluster k f).cur = s.cur := rfl
@[simp] theorem State.modCluster_lits (k : Nat) (f : Cluster → Cluster) : (s.modCluster k f).lits = s.lits := rfl
@[simp] theorem State.modCluster_freeCtr (k : Nat) (f : Cluster → Cluster) : (s.modCluster k f).freeCtr = s.freeCtr := rfl
@[simp] theorem State.modCluster_thermal (k : Nat) (f : Cluster → Cluster) : (s.modCluster k f).thermal = s.thermal := rfl
@[simp] theorem State.modCluster_dram (k : Nat) (f : Cluster → Cluster) : (s.modCluster k f).dram = s.dram := rfl
@[simp] theorem State.modCluster_scrubbed (k : Nat) (f : Cluster → Cluster) : (s.modCluster k f).scrubbed = s.scrubbed := rfl
@[simp] theorem State.modCluster_dramSince (k : Nat) (f : Cluster → Cluster) : (s.modCluster k f).dramSince = s.dramSince := rfl
@[simp] theorem State.modCluster_llc (k : Nat) (f : Cluster → Cluster) : (s.modCluster k f).llc = s.llc := rfl
@[simp] theorem State.modCluster_llcLast (k : Nat) (f : Cluster → Cluster) : (s.modCluster k f).llcLast = s.llcLast := rfl
@[simp] theorem State.modCluster_layoutTlb (k : Nat) (f : Cluster → Cluster) : (s.modCluster k f).layoutTlb = s.layoutTlb := rfl
@[simp] theorem State.modCluster_poison (k : Nat) (f : Cluster → Cluster) : (s.modCluster k f).poison = s.poison := rfl
@[simp] theorem State.modCluster_leases (k : Nat) (f : Cluster → Cluster) : (s.modCluster k f).leases = s.leases := rfl
@[simp] theorem State.modCluster_home (k : Nat) (f : Cluster → Cluster) : (s.modCluster k f).home = s.home := rfl
@[simp] theorem State.modCluster_writes (k : Nat) (f : Cluster → Cluster) : (s.modCluster k f).writes = s.writes := rfl
@[simp] theorem State.modCluster_nextWrite (k : Nat) (f : Cluster → Cluster) : (s.modCluster k f).nextWrite = s.nextWrite := rfl
@[simp] theorem State.modCluster_nextPlace (k : Nat) (f : Cluster → Cluster) : (s.modCluster k f).nextPlace = s.nextPlace := rfl
@[simp] theorem State.modCluster_hostMem (k : Nat) (f : Cluster → Cluster) : (s.modCluster k f).hostMem = s.hostMem := rfl
@[simp] theorem State.modCluster_hostReqs (k : Nat) (f : Cluster → Cluster) : (s.modCluster k f).hostReqs = s.hostReqs := rfl
@[simp] theorem State.modCluster_accesses (k : Nat) (f : Cluster → Cluster) : (s.modCluster k f).accesses = s.accesses := rfl
@[simp] theorem State.modCluster_nextAccess (k : Nat) (f : Cluster → Cluster) : (s.modCluster k f).nextAccess = s.nextAccess := rfl
@[simp] theorem State.modCluster_dies (k : Nat) (f : Cluster → Cluster) : (s.modCluster k f).dies = s.dies := rfl
@[simp] theorem State.modCluster_clusters (k : Nat) (f : Cluster → Cluster) : (s.modCluster k f).clusters = SMap.modify {} s.clusters k f := rfl
@[simp] theorem State.modCluster_cores (k : Nat) (f : Cluster → Cluster) : (s.modCluster k f).cores = s.cores := rfl
@[simp] theorem State.modCluster_ctxs (k : Nat) (f : Cluster → Cluster) : (s.modCluster k f).ctxs = s.ctxs := rfl
@[simp] theorem State.modCluster_nextAge (k : Nat) (f : Cluster → Cluster) : (s.modCluster k f).nextAge = s.nextAge := rfl
@[simp] theorem State.modCluster_gangs (k : Nat) (f : Cluster → Cluster) : (s.modCluster k f).gangs = s.gangs := rfl
@[simp] theorem State.modCluster_nextGang (k : Nat) (f : Cluster → Cluster) : (s.modCluster k f).nextGang = s.nextGang := rfl
@[simp] theorem State.modCluster_chans (k : Nat) (f : Cluster → Cluster) : (s.modCluster k f).chans = s.chans := rfl
@[simp] theorem State.modCluster_ports (k : Nat) (f : Cluster → Cluster) : (s.modCluster k f).ports = s.ports := rfl
@[simp] theorem State.modCluster_oxEast (k : Nat) (f : Cluster → Cluster) : (s.modCluster k f).oxEast = s.oxEast := rfl
@[simp] theorem State.modCluster_oxWest (k : Nat) (f : Cluster → Cluster) : (s.modCluster k f).oxWest = s.oxWest := rfl
@[simp] theorem State.modCluster_gaugeQ (k : Nat) (f : Cluster → Cluster) : (s.modCluster k f).gaugeQ = s.gaugeQ := rfl
@[simp] theorem State.modCluster_seals (k : Nat) (f : Cluster → Cluster) : (s.modCluster k f).seals = s.seals := rfl
@[simp] theorem State.modCluster_recReqs (k : Nat) (f : Cluster → Cluster) : (s.modCluster k f).recReqs = s.recReqs := rfl
@[simp] theorem State.modCluster_writeWaits (k : Nat) (f : Cluster → Cluster) : (s.modCluster k f).writeWaits = s.writeWaits := rfl
@[simp] theorem State.modCluster_barWaits (k : Nat) (f : Cluster → Cluster) : (s.modCluster k f).barWaits = s.barWaits := rfl
@[simp] theorem State.modCluster_posts (k : Nat) (f : Cluster → Cluster) : (s.modCluster k f).posts = s.posts := rfl
@[simp] theorem State.modCluster_succs (k : Nat) (f : Cluster → Cluster) : (s.modCluster k f).succs = s.succs := rfl
@[simp] theorem State.modCluster_nextId (k : Nat) (f : Cluster → Cluster) : (s.modCluster k f).nextId = s.nextId := rfl
@[simp] theorem State.modCluster_sess (k : Nat) (f : Cluster → Cluster) : (s.modCluster k f).sess = s.sess := rfl
@[simp] theorem State.modCluster_mbox (k : Nat) (f : Cluster → Cluster) : (s.modCluster k f).mbox = s.mbox := rfl
@[simp] theorem State.modCluster_log (k : Nat) (f : Cluster → Cluster) : (s.modCluster k f).log = s.log := rfl
@[simp] theorem State.modCluster_logCount (k : Nat) (f : Cluster → Cluster) : (s.modCluster k f).logCount = s.logCount := rfl
@[simp] theorem State.modCluster_tbctl (k : Nat) (f : Cluster → Cluster) : (s.modCluster k f).tbctl = s.tbctl := rfl
@[simp] theorem State.modCluster_act (k : Nat) (f : Cluster → Cluster) : (s.modCluster k f).act = s.act := rfl
@[simp] theorem State.modCluster_gated (k : Nat) (f : Cluster → Cluster) : (s.modCluster k f).gated = s.gated := rfl
@[simp] theorem State.modCluster_idleSince (k : Nat) (f : Cluster → Cluster) : (s.modCluster k f).idleSince = s.idleSince := rfl
@[simp] theorem State.modCluster_busyAt (k : Nat) (f : Cluster → Cluster) : (s.modCluster k f).busyAt = s.busyAt := rfl
@[simp] theorem State.modCluster_linkAt (k : Nat) (f : Cluster → Cluster) : (s.modCluster k f).linkAt = s.linkAt := rfl
@[simp] theorem State.modCluster_wokeAt (k : Nat) (f : Cluster → Cluster) : (s.modCluster k f).wokeAt = s.wokeAt := rfl
@[simp] theorem State.modCluster_out (k : Nat) (f : Cluster → Cluster) : (s.modCluster k f).out = s.out := rfl
@[simp] theorem State.modCluster_handleImage (k : Nat) (f : Cluster → Cluster) : (s.modCluster k f).handleImage = s.handleImage := rfl
@[simp] theorem State.modCluster_imageKeys (k : Nat) (f : Cluster → Cluster) : (s.modCluster k f).imageKeys = s.imageKeys := rfl

/-! ### modChan -/

@[simp] theorem State.modChan_time (n : Nat) (f : Chan → Chan) : (s.modChan n f).time = s.time := rfl
@[simp] theorem State.modChan_agenda (n : Nat) (f : Chan → Chan) : (s.modChan n f).agenda = s.agenda := rfl
@[simp] theorem State.modChan_cur (n : Nat) (f : Chan → Chan) : (s.modChan n f).cur = s.cur := rfl
@[simp] theorem State.modChan_lits (n : Nat) (f : Chan → Chan) : (s.modChan n f).lits = s.lits := rfl
@[simp] theorem State.modChan_freeCtr (n : Nat) (f : Chan → Chan) : (s.modChan n f).freeCtr = s.freeCtr := rfl
@[simp] theorem State.modChan_thermal (n : Nat) (f : Chan → Chan) : (s.modChan n f).thermal = s.thermal := rfl
@[simp] theorem State.modChan_dram (n : Nat) (f : Chan → Chan) : (s.modChan n f).dram = s.dram := rfl
@[simp] theorem State.modChan_scrubbed (n : Nat) (f : Chan → Chan) : (s.modChan n f).scrubbed = s.scrubbed := rfl
@[simp] theorem State.modChan_dramSince (n : Nat) (f : Chan → Chan) : (s.modChan n f).dramSince = s.dramSince := rfl
@[simp] theorem State.modChan_llc (n : Nat) (f : Chan → Chan) : (s.modChan n f).llc = s.llc := rfl
@[simp] theorem State.modChan_llcLast (n : Nat) (f : Chan → Chan) : (s.modChan n f).llcLast = s.llcLast := rfl
@[simp] theorem State.modChan_layoutTlb (n : Nat) (f : Chan → Chan) : (s.modChan n f).layoutTlb = s.layoutTlb := rfl
@[simp] theorem State.modChan_poison (n : Nat) (f : Chan → Chan) : (s.modChan n f).poison = s.poison := rfl
@[simp] theorem State.modChan_leases (n : Nat) (f : Chan → Chan) : (s.modChan n f).leases = s.leases := rfl
@[simp] theorem State.modChan_home (n : Nat) (f : Chan → Chan) : (s.modChan n f).home = s.home := rfl
@[simp] theorem State.modChan_writes (n : Nat) (f : Chan → Chan) : (s.modChan n f).writes = s.writes := rfl
@[simp] theorem State.modChan_nextWrite (n : Nat) (f : Chan → Chan) : (s.modChan n f).nextWrite = s.nextWrite := rfl
@[simp] theorem State.modChan_nextPlace (n : Nat) (f : Chan → Chan) : (s.modChan n f).nextPlace = s.nextPlace := rfl
@[simp] theorem State.modChan_hostMem (n : Nat) (f : Chan → Chan) : (s.modChan n f).hostMem = s.hostMem := rfl
@[simp] theorem State.modChan_hostReqs (n : Nat) (f : Chan → Chan) : (s.modChan n f).hostReqs = s.hostReqs := rfl
@[simp] theorem State.modChan_accesses (n : Nat) (f : Chan → Chan) : (s.modChan n f).accesses = s.accesses := rfl
@[simp] theorem State.modChan_nextAccess (n : Nat) (f : Chan → Chan) : (s.modChan n f).nextAccess = s.nextAccess := rfl
@[simp] theorem State.modChan_dies (n : Nat) (f : Chan → Chan) : (s.modChan n f).dies = s.dies := rfl
@[simp] theorem State.modChan_clusters (n : Nat) (f : Chan → Chan) : (s.modChan n f).clusters = s.clusters := rfl
@[simp] theorem State.modChan_cores (n : Nat) (f : Chan → Chan) : (s.modChan n f).cores = s.cores := rfl
@[simp] theorem State.modChan_ctxs (n : Nat) (f : Chan → Chan) : (s.modChan n f).ctxs = s.ctxs := rfl
@[simp] theorem State.modChan_nextAge (n : Nat) (f : Chan → Chan) : (s.modChan n f).nextAge = s.nextAge := rfl
@[simp] theorem State.modChan_gangs (n : Nat) (f : Chan → Chan) : (s.modChan n f).gangs = s.gangs := rfl
@[simp] theorem State.modChan_nextGang (n : Nat) (f : Chan → Chan) : (s.modChan n f).nextGang = s.nextGang := rfl
@[simp] theorem State.modChan_chans (n : Nat) (f : Chan → Chan) : (s.modChan n f).chans = SMap.modify {} s.chans n f := rfl
@[simp] theorem State.modChan_ports (n : Nat) (f : Chan → Chan) : (s.modChan n f).ports = s.ports := rfl
@[simp] theorem State.modChan_oxEast (n : Nat) (f : Chan → Chan) : (s.modChan n f).oxEast = s.oxEast := rfl
@[simp] theorem State.modChan_oxWest (n : Nat) (f : Chan → Chan) : (s.modChan n f).oxWest = s.oxWest := rfl
@[simp] theorem State.modChan_gaugeQ (n : Nat) (f : Chan → Chan) : (s.modChan n f).gaugeQ = s.gaugeQ := rfl
@[simp] theorem State.modChan_seals (n : Nat) (f : Chan → Chan) : (s.modChan n f).seals = s.seals := rfl
@[simp] theorem State.modChan_recReqs (n : Nat) (f : Chan → Chan) : (s.modChan n f).recReqs = s.recReqs := rfl
@[simp] theorem State.modChan_writeWaits (n : Nat) (f : Chan → Chan) : (s.modChan n f).writeWaits = s.writeWaits := rfl
@[simp] theorem State.modChan_barWaits (n : Nat) (f : Chan → Chan) : (s.modChan n f).barWaits = s.barWaits := rfl
@[simp] theorem State.modChan_posts (n : Nat) (f : Chan → Chan) : (s.modChan n f).posts = s.posts := rfl
@[simp] theorem State.modChan_succs (n : Nat) (f : Chan → Chan) : (s.modChan n f).succs = s.succs := rfl
@[simp] theorem State.modChan_nextId (n : Nat) (f : Chan → Chan) : (s.modChan n f).nextId = s.nextId := rfl
@[simp] theorem State.modChan_sess (n : Nat) (f : Chan → Chan) : (s.modChan n f).sess = s.sess := rfl
@[simp] theorem State.modChan_mbox (n : Nat) (f : Chan → Chan) : (s.modChan n f).mbox = s.mbox := rfl
@[simp] theorem State.modChan_log (n : Nat) (f : Chan → Chan) : (s.modChan n f).log = s.log := rfl
@[simp] theorem State.modChan_logCount (n : Nat) (f : Chan → Chan) : (s.modChan n f).logCount = s.logCount := rfl
@[simp] theorem State.modChan_tbctl (n : Nat) (f : Chan → Chan) : (s.modChan n f).tbctl = s.tbctl := rfl
@[simp] theorem State.modChan_act (n : Nat) (f : Chan → Chan) : (s.modChan n f).act = s.act := rfl
@[simp] theorem State.modChan_gated (n : Nat) (f : Chan → Chan) : (s.modChan n f).gated = s.gated := rfl
@[simp] theorem State.modChan_idleSince (n : Nat) (f : Chan → Chan) : (s.modChan n f).idleSince = s.idleSince := rfl
@[simp] theorem State.modChan_busyAt (n : Nat) (f : Chan → Chan) : (s.modChan n f).busyAt = s.busyAt := rfl
@[simp] theorem State.modChan_linkAt (n : Nat) (f : Chan → Chan) : (s.modChan n f).linkAt = s.linkAt := rfl
@[simp] theorem State.modChan_wokeAt (n : Nat) (f : Chan → Chan) : (s.modChan n f).wokeAt = s.wokeAt := rfl
@[simp] theorem State.modChan_out (n : Nat) (f : Chan → Chan) : (s.modChan n f).out = s.out := rfl
@[simp] theorem State.modChan_handleImage (n : Nat) (f : Chan → Chan) : (s.modChan n f).handleImage = s.handleImage := rfl
@[simp] theorem State.modChan_imageKeys (n : Nat) (f : Chan → Chan) : (s.modChan n f).imageKeys = s.imageKeys := rfl

/-! ### modGang -/

@[simp] theorem State.modGang_time (g : Nat) (f : Gang → Gang) : (s.modGang g f).time = s.time := rfl
@[simp] theorem State.modGang_agenda (g : Nat) (f : Gang → Gang) : (s.modGang g f).agenda = s.agenda := rfl
@[simp] theorem State.modGang_cur (g : Nat) (f : Gang → Gang) : (s.modGang g f).cur = s.cur := rfl
@[simp] theorem State.modGang_lits (g : Nat) (f : Gang → Gang) : (s.modGang g f).lits = s.lits := rfl
@[simp] theorem State.modGang_freeCtr (g : Nat) (f : Gang → Gang) : (s.modGang g f).freeCtr = s.freeCtr := rfl
@[simp] theorem State.modGang_thermal (g : Nat) (f : Gang → Gang) : (s.modGang g f).thermal = s.thermal := rfl
@[simp] theorem State.modGang_dram (g : Nat) (f : Gang → Gang) : (s.modGang g f).dram = s.dram := rfl
@[simp] theorem State.modGang_scrubbed (g : Nat) (f : Gang → Gang) : (s.modGang g f).scrubbed = s.scrubbed := rfl
@[simp] theorem State.modGang_dramSince (g : Nat) (f : Gang → Gang) : (s.modGang g f).dramSince = s.dramSince := rfl
@[simp] theorem State.modGang_llc (g : Nat) (f : Gang → Gang) : (s.modGang g f).llc = s.llc := rfl
@[simp] theorem State.modGang_llcLast (g : Nat) (f : Gang → Gang) : (s.modGang g f).llcLast = s.llcLast := rfl
@[simp] theorem State.modGang_layoutTlb (g : Nat) (f : Gang → Gang) : (s.modGang g f).layoutTlb = s.layoutTlb := rfl
@[simp] theorem State.modGang_poison (g : Nat) (f : Gang → Gang) : (s.modGang g f).poison = s.poison := rfl
@[simp] theorem State.modGang_leases (g : Nat) (f : Gang → Gang) : (s.modGang g f).leases = s.leases := rfl
@[simp] theorem State.modGang_home (g : Nat) (f : Gang → Gang) : (s.modGang g f).home = s.home := rfl
@[simp] theorem State.modGang_writes (g : Nat) (f : Gang → Gang) : (s.modGang g f).writes = s.writes := rfl
@[simp] theorem State.modGang_nextWrite (g : Nat) (f : Gang → Gang) : (s.modGang g f).nextWrite = s.nextWrite := rfl
@[simp] theorem State.modGang_nextPlace (g : Nat) (f : Gang → Gang) : (s.modGang g f).nextPlace = s.nextPlace := rfl
@[simp] theorem State.modGang_hostMem (g : Nat) (f : Gang → Gang) : (s.modGang g f).hostMem = s.hostMem := rfl
@[simp] theorem State.modGang_hostReqs (g : Nat) (f : Gang → Gang) : (s.modGang g f).hostReqs = s.hostReqs := rfl
@[simp] theorem State.modGang_accesses (g : Nat) (f : Gang → Gang) : (s.modGang g f).accesses = s.accesses := rfl
@[simp] theorem State.modGang_nextAccess (g : Nat) (f : Gang → Gang) : (s.modGang g f).nextAccess = s.nextAccess := rfl
@[simp] theorem State.modGang_dies (g : Nat) (f : Gang → Gang) : (s.modGang g f).dies = s.dies := rfl
@[simp] theorem State.modGang_clusters (g : Nat) (f : Gang → Gang) : (s.modGang g f).clusters = s.clusters := rfl
@[simp] theorem State.modGang_cores (g : Nat) (f : Gang → Gang) : (s.modGang g f).cores = s.cores := rfl
@[simp] theorem State.modGang_ctxs (g : Nat) (f : Gang → Gang) : (s.modGang g f).ctxs = s.ctxs := rfl
@[simp] theorem State.modGang_nextAge (g : Nat) (f : Gang → Gang) : (s.modGang g f).nextAge = s.nextAge := rfl
@[simp] theorem State.modGang_gangs (g : Nat) (f : Gang → Gang) : (s.modGang g f).gangs = mapWhere (fun x => x.id == g) f s.gangs := rfl
@[simp] theorem State.modGang_nextGang (g : Nat) (f : Gang → Gang) : (s.modGang g f).nextGang = s.nextGang := rfl
@[simp] theorem State.modGang_chans (g : Nat) (f : Gang → Gang) : (s.modGang g f).chans = s.chans := rfl
@[simp] theorem State.modGang_ports (g : Nat) (f : Gang → Gang) : (s.modGang g f).ports = s.ports := rfl
@[simp] theorem State.modGang_oxEast (g : Nat) (f : Gang → Gang) : (s.modGang g f).oxEast = s.oxEast := rfl
@[simp] theorem State.modGang_oxWest (g : Nat) (f : Gang → Gang) : (s.modGang g f).oxWest = s.oxWest := rfl
@[simp] theorem State.modGang_gaugeQ (g : Nat) (f : Gang → Gang) : (s.modGang g f).gaugeQ = s.gaugeQ := rfl
@[simp] theorem State.modGang_seals (g : Nat) (f : Gang → Gang) : (s.modGang g f).seals = s.seals := rfl
@[simp] theorem State.modGang_recReqs (g : Nat) (f : Gang → Gang) : (s.modGang g f).recReqs = s.recReqs := rfl
@[simp] theorem State.modGang_writeWaits (g : Nat) (f : Gang → Gang) : (s.modGang g f).writeWaits = s.writeWaits := rfl
@[simp] theorem State.modGang_barWaits (g : Nat) (f : Gang → Gang) : (s.modGang g f).barWaits = s.barWaits := rfl
@[simp] theorem State.modGang_posts (g : Nat) (f : Gang → Gang) : (s.modGang g f).posts = s.posts := rfl
@[simp] theorem State.modGang_succs (g : Nat) (f : Gang → Gang) : (s.modGang g f).succs = s.succs := rfl
@[simp] theorem State.modGang_nextId (g : Nat) (f : Gang → Gang) : (s.modGang g f).nextId = s.nextId := rfl
@[simp] theorem State.modGang_sess (g : Nat) (f : Gang → Gang) : (s.modGang g f).sess = s.sess := rfl
@[simp] theorem State.modGang_mbox (g : Nat) (f : Gang → Gang) : (s.modGang g f).mbox = s.mbox := rfl
@[simp] theorem State.modGang_log (g : Nat) (f : Gang → Gang) : (s.modGang g f).log = s.log := rfl
@[simp] theorem State.modGang_logCount (g : Nat) (f : Gang → Gang) : (s.modGang g f).logCount = s.logCount := rfl
@[simp] theorem State.modGang_tbctl (g : Nat) (f : Gang → Gang) : (s.modGang g f).tbctl = s.tbctl := rfl
@[simp] theorem State.modGang_act (g : Nat) (f : Gang → Gang) : (s.modGang g f).act = s.act := rfl
@[simp] theorem State.modGang_gated (g : Nat) (f : Gang → Gang) : (s.modGang g f).gated = s.gated := rfl
@[simp] theorem State.modGang_idleSince (g : Nat) (f : Gang → Gang) : (s.modGang g f).idleSince = s.idleSince := rfl
@[simp] theorem State.modGang_busyAt (g : Nat) (f : Gang → Gang) : (s.modGang g f).busyAt = s.busyAt := rfl
@[simp] theorem State.modGang_linkAt (g : Nat) (f : Gang → Gang) : (s.modGang g f).linkAt = s.linkAt := rfl
@[simp] theorem State.modGang_wokeAt (g : Nat) (f : Gang → Gang) : (s.modGang g f).wokeAt = s.wokeAt := rfl
@[simp] theorem State.modGang_out (g : Nat) (f : Gang → Gang) : (s.modGang g f).out = s.out := rfl
@[simp] theorem State.modGang_handleImage (g : Nat) (f : Gang → Gang) : (s.modGang g f).handleImage = s.handleImage := rfl
@[simp] theorem State.modGang_imageKeys (g : Nat) (f : Gang → Gang) : (s.modGang g f).imageKeys = s.imageKeys := rfl

/-! ### modThermal -/

@[simp] theorem State.modThermal_time (f : Thermal → Thermal) : (s.modThermal f).time = s.time := rfl
@[simp] theorem State.modThermal_agenda (f : Thermal → Thermal) : (s.modThermal f).agenda = s.agenda := rfl
@[simp] theorem State.modThermal_cur (f : Thermal → Thermal) : (s.modThermal f).cur = s.cur := rfl
@[simp] theorem State.modThermal_lits (f : Thermal → Thermal) : (s.modThermal f).lits = s.lits := rfl
@[simp] theorem State.modThermal_freeCtr (f : Thermal → Thermal) : (s.modThermal f).freeCtr = s.freeCtr := rfl
@[simp] theorem State.modThermal_thermal (f : Thermal → Thermal) : (s.modThermal f).thermal = f s.thermal := rfl
@[simp] theorem State.modThermal_dram (f : Thermal → Thermal) : (s.modThermal f).dram = s.dram := rfl
@[simp] theorem State.modThermal_scrubbed (f : Thermal → Thermal) : (s.modThermal f).scrubbed = s.scrubbed := rfl
@[simp] theorem State.modThermal_dramSince (f : Thermal → Thermal) : (s.modThermal f).dramSince = s.dramSince := rfl
@[simp] theorem State.modThermal_llc (f : Thermal → Thermal) : (s.modThermal f).llc = s.llc := rfl
@[simp] theorem State.modThermal_llcLast (f : Thermal → Thermal) : (s.modThermal f).llcLast = s.llcLast := rfl
@[simp] theorem State.modThermal_layoutTlb (f : Thermal → Thermal) : (s.modThermal f).layoutTlb = s.layoutTlb := rfl
@[simp] theorem State.modThermal_poison (f : Thermal → Thermal) : (s.modThermal f).poison = s.poison := rfl
@[simp] theorem State.modThermal_leases (f : Thermal → Thermal) : (s.modThermal f).leases = s.leases := rfl
@[simp] theorem State.modThermal_home (f : Thermal → Thermal) : (s.modThermal f).home = s.home := rfl
@[simp] theorem State.modThermal_writes (f : Thermal → Thermal) : (s.modThermal f).writes = s.writes := rfl
@[simp] theorem State.modThermal_nextWrite (f : Thermal → Thermal) : (s.modThermal f).nextWrite = s.nextWrite := rfl
@[simp] theorem State.modThermal_nextPlace (f : Thermal → Thermal) : (s.modThermal f).nextPlace = s.nextPlace := rfl
@[simp] theorem State.modThermal_hostMem (f : Thermal → Thermal) : (s.modThermal f).hostMem = s.hostMem := rfl
@[simp] theorem State.modThermal_hostReqs (f : Thermal → Thermal) : (s.modThermal f).hostReqs = s.hostReqs := rfl
@[simp] theorem State.modThermal_accesses (f : Thermal → Thermal) : (s.modThermal f).accesses = s.accesses := rfl
@[simp] theorem State.modThermal_nextAccess (f : Thermal → Thermal) : (s.modThermal f).nextAccess = s.nextAccess := rfl
@[simp] theorem State.modThermal_dies (f : Thermal → Thermal) : (s.modThermal f).dies = s.dies := rfl
@[simp] theorem State.modThermal_clusters (f : Thermal → Thermal) : (s.modThermal f).clusters = s.clusters := rfl
@[simp] theorem State.modThermal_cores (f : Thermal → Thermal) : (s.modThermal f).cores = s.cores := rfl
@[simp] theorem State.modThermal_ctxs (f : Thermal → Thermal) : (s.modThermal f).ctxs = s.ctxs := rfl
@[simp] theorem State.modThermal_nextAge (f : Thermal → Thermal) : (s.modThermal f).nextAge = s.nextAge := rfl
@[simp] theorem State.modThermal_gangs (f : Thermal → Thermal) : (s.modThermal f).gangs = s.gangs := rfl
@[simp] theorem State.modThermal_nextGang (f : Thermal → Thermal) : (s.modThermal f).nextGang = s.nextGang := rfl
@[simp] theorem State.modThermal_chans (f : Thermal → Thermal) : (s.modThermal f).chans = s.chans := rfl
@[simp] theorem State.modThermal_ports (f : Thermal → Thermal) : (s.modThermal f).ports = s.ports := rfl
@[simp] theorem State.modThermal_oxEast (f : Thermal → Thermal) : (s.modThermal f).oxEast = s.oxEast := rfl
@[simp] theorem State.modThermal_oxWest (f : Thermal → Thermal) : (s.modThermal f).oxWest = s.oxWest := rfl
@[simp] theorem State.modThermal_gaugeQ (f : Thermal → Thermal) : (s.modThermal f).gaugeQ = s.gaugeQ := rfl
@[simp] theorem State.modThermal_seals (f : Thermal → Thermal) : (s.modThermal f).seals = s.seals := rfl
@[simp] theorem State.modThermal_recReqs (f : Thermal → Thermal) : (s.modThermal f).recReqs = s.recReqs := rfl
@[simp] theorem State.modThermal_writeWaits (f : Thermal → Thermal) : (s.modThermal f).writeWaits = s.writeWaits := rfl
@[simp] theorem State.modThermal_barWaits (f : Thermal → Thermal) : (s.modThermal f).barWaits = s.barWaits := rfl
@[simp] theorem State.modThermal_posts (f : Thermal → Thermal) : (s.modThermal f).posts = s.posts := rfl
@[simp] theorem State.modThermal_succs (f : Thermal → Thermal) : (s.modThermal f).succs = s.succs := rfl
@[simp] theorem State.modThermal_nextId (f : Thermal → Thermal) : (s.modThermal f).nextId = s.nextId := rfl
@[simp] theorem State.modThermal_sess (f : Thermal → Thermal) : (s.modThermal f).sess = s.sess := rfl
@[simp] theorem State.modThermal_mbox (f : Thermal → Thermal) : (s.modThermal f).mbox = s.mbox := rfl
@[simp] theorem State.modThermal_log (f : Thermal → Thermal) : (s.modThermal f).log = s.log := rfl
@[simp] theorem State.modThermal_logCount (f : Thermal → Thermal) : (s.modThermal f).logCount = s.logCount := rfl
@[simp] theorem State.modThermal_tbctl (f : Thermal → Thermal) : (s.modThermal f).tbctl = s.tbctl := rfl
@[simp] theorem State.modThermal_act (f : Thermal → Thermal) : (s.modThermal f).act = s.act := rfl
@[simp] theorem State.modThermal_gated (f : Thermal → Thermal) : (s.modThermal f).gated = s.gated := rfl
@[simp] theorem State.modThermal_idleSince (f : Thermal → Thermal) : (s.modThermal f).idleSince = s.idleSince := rfl
@[simp] theorem State.modThermal_busyAt (f : Thermal → Thermal) : (s.modThermal f).busyAt = s.busyAt := rfl
@[simp] theorem State.modThermal_linkAt (f : Thermal → Thermal) : (s.modThermal f).linkAt = s.linkAt := rfl
@[simp] theorem State.modThermal_wokeAt (f : Thermal → Thermal) : (s.modThermal f).wokeAt = s.wokeAt := rfl
@[simp] theorem State.modThermal_out (f : Thermal → Thermal) : (s.modThermal f).out = s.out := rfl
@[simp] theorem State.modThermal_handleImage (f : Thermal → Thermal) : (s.modThermal f).handleImage = s.handleImage := rfl
@[simp] theorem State.modThermal_imageKeys (f : Thermal → Thermal) : (s.modThermal f).imageKeys = s.imageKeys := rfl

/-! ### send -/

@[simp] theorem State.send_time (o : Out) : (s.send o).time = s.time := rfl
@[simp] theorem State.send_agenda (o : Out) : (s.send o).agenda = s.agenda := rfl
@[simp] theorem State.send_cur (o : Out) : (s.send o).cur = s.cur := rfl
@[simp] theorem State.send_lits (o : Out) : (s.send o).lits = s.lits := rfl
@[simp] theorem State.send_freeCtr (o : Out) : (s.send o).freeCtr = s.freeCtr := rfl
@[simp] theorem State.send_thermal (o : Out) : (s.send o).thermal = s.thermal := rfl
@[simp] theorem State.send_dram (o : Out) : (s.send o).dram = s.dram := rfl
@[simp] theorem State.send_scrubbed (o : Out) : (s.send o).scrubbed = s.scrubbed := rfl
@[simp] theorem State.send_dramSince (o : Out) : (s.send o).dramSince = s.dramSince := rfl
@[simp] theorem State.send_llc (o : Out) : (s.send o).llc = s.llc := rfl
@[simp] theorem State.send_llcLast (o : Out) : (s.send o).llcLast = s.llcLast := rfl
@[simp] theorem State.send_layoutTlb (o : Out) : (s.send o).layoutTlb = s.layoutTlb := rfl
@[simp] theorem State.send_poison (o : Out) : (s.send o).poison = s.poison := rfl
@[simp] theorem State.send_leases (o : Out) : (s.send o).leases = s.leases := rfl
@[simp] theorem State.send_home (o : Out) : (s.send o).home = s.home := rfl
@[simp] theorem State.send_writes (o : Out) : (s.send o).writes = s.writes := rfl
@[simp] theorem State.send_nextWrite (o : Out) : (s.send o).nextWrite = s.nextWrite := rfl
@[simp] theorem State.send_nextPlace (o : Out) : (s.send o).nextPlace = s.nextPlace := rfl
@[simp] theorem State.send_hostMem (o : Out) : (s.send o).hostMem = s.hostMem := rfl
@[simp] theorem State.send_hostReqs (o : Out) : (s.send o).hostReqs = s.hostReqs := rfl
@[simp] theorem State.send_accesses (o : Out) : (s.send o).accesses = s.accesses := rfl
@[simp] theorem State.send_nextAccess (o : Out) : (s.send o).nextAccess = s.nextAccess := rfl
@[simp] theorem State.send_dies (o : Out) : (s.send o).dies = s.dies := rfl
@[simp] theorem State.send_clusters (o : Out) : (s.send o).clusters = s.clusters := rfl
@[simp] theorem State.send_cores (o : Out) : (s.send o).cores = s.cores := rfl
@[simp] theorem State.send_ctxs (o : Out) : (s.send o).ctxs = s.ctxs := rfl
@[simp] theorem State.send_nextAge (o : Out) : (s.send o).nextAge = s.nextAge := rfl
@[simp] theorem State.send_gangs (o : Out) : (s.send o).gangs = s.gangs := rfl
@[simp] theorem State.send_nextGang (o : Out) : (s.send o).nextGang = s.nextGang := rfl
@[simp] theorem State.send_chans (o : Out) : (s.send o).chans = s.chans := rfl
@[simp] theorem State.send_ports (o : Out) : (s.send o).ports = s.ports := rfl
@[simp] theorem State.send_oxEast (o : Out) : (s.send o).oxEast = s.oxEast := rfl
@[simp] theorem State.send_oxWest (o : Out) : (s.send o).oxWest = s.oxWest := rfl
@[simp] theorem State.send_gaugeQ (o : Out) : (s.send o).gaugeQ = s.gaugeQ := rfl
@[simp] theorem State.send_seals (o : Out) : (s.send o).seals = s.seals := rfl
@[simp] theorem State.send_recReqs (o : Out) : (s.send o).recReqs = s.recReqs := rfl
@[simp] theorem State.send_writeWaits (o : Out) : (s.send o).writeWaits = s.writeWaits := rfl
@[simp] theorem State.send_barWaits (o : Out) : (s.send o).barWaits = s.barWaits := rfl
@[simp] theorem State.send_posts (o : Out) : (s.send o).posts = s.posts := rfl
@[simp] theorem State.send_succs (o : Out) : (s.send o).succs = s.succs := rfl
@[simp] theorem State.send_nextId (o : Out) : (s.send o).nextId = s.nextId := rfl
@[simp] theorem State.send_sess (o : Out) : (s.send o).sess = s.sess := rfl
@[simp] theorem State.send_mbox (o : Out) : (s.send o).mbox = s.mbox := rfl
@[simp] theorem State.send_log (o : Out) : (s.send o).log = s.log := rfl
@[simp] theorem State.send_logCount (o : Out) : (s.send o).logCount = s.logCount := rfl
@[simp] theorem State.send_tbctl (o : Out) : (s.send o).tbctl = s.tbctl := rfl
@[simp] theorem State.send_act (o : Out) : (s.send o).act = s.act := rfl
@[simp] theorem State.send_gated (o : Out) : (s.send o).gated = s.gated := rfl
@[simp] theorem State.send_idleSince (o : Out) : (s.send o).idleSince = s.idleSince := rfl
@[simp] theorem State.send_busyAt (o : Out) : (s.send o).busyAt = s.busyAt := rfl
@[simp] theorem State.send_linkAt (o : Out) : (s.send o).linkAt = s.linkAt := rfl
@[simp] theorem State.send_wokeAt (o : Out) : (s.send o).wokeAt = s.wokeAt := rfl
@[simp] theorem State.send_out (o : Out) : (s.send o).out = s.out ++ [o] := rfl
@[simp] theorem State.send_handleImage (o : Out) : (s.send o).handleImage = s.handleImage := rfl
@[simp] theorem State.send_imageKeys (o : Out) : (s.send o).imageKeys = s.imageKeys := rfl

/-! ### soon -/

@[simp] theorem State.soon_time (i : Instr) : (s.soon i).time = s.time := rfl
@[simp] theorem State.soon_agenda (i : Instr) : (s.soon i).agenda = ⟨0, i⟩ :: s.agenda := rfl
@[simp] theorem State.soon_cur (i : Instr) : (s.soon i).cur = s.cur := rfl
@[simp] theorem State.soon_lits (i : Instr) : (s.soon i).lits = s.lits := rfl
@[simp] theorem State.soon_freeCtr (i : Instr) : (s.soon i).freeCtr = s.freeCtr := rfl
@[simp] theorem State.soon_thermal (i : Instr) : (s.soon i).thermal = s.thermal := rfl
@[simp] theorem State.soon_dram (i : Instr) : (s.soon i).dram = s.dram := rfl
@[simp] theorem State.soon_scrubbed (i : Instr) : (s.soon i).scrubbed = s.scrubbed := rfl
@[simp] theorem State.soon_dramSince (i : Instr) : (s.soon i).dramSince = s.dramSince := rfl
@[simp] theorem State.soon_llc (i : Instr) : (s.soon i).llc = s.llc := rfl
@[simp] theorem State.soon_llcLast (i : Instr) : (s.soon i).llcLast = s.llcLast := rfl
@[simp] theorem State.soon_layoutTlb (i : Instr) : (s.soon i).layoutTlb = s.layoutTlb := rfl
@[simp] theorem State.soon_poison (i : Instr) : (s.soon i).poison = s.poison := rfl
@[simp] theorem State.soon_leases (i : Instr) : (s.soon i).leases = s.leases := rfl
@[simp] theorem State.soon_home (i : Instr) : (s.soon i).home = s.home := rfl
@[simp] theorem State.soon_writes (i : Instr) : (s.soon i).writes = s.writes := rfl
@[simp] theorem State.soon_nextWrite (i : Instr) : (s.soon i).nextWrite = s.nextWrite := rfl
@[simp] theorem State.soon_nextPlace (i : Instr) : (s.soon i).nextPlace = s.nextPlace := rfl
@[simp] theorem State.soon_hostMem (i : Instr) : (s.soon i).hostMem = s.hostMem := rfl
@[simp] theorem State.soon_hostReqs (i : Instr) : (s.soon i).hostReqs = s.hostReqs := rfl
@[simp] theorem State.soon_accesses (i : Instr) : (s.soon i).accesses = s.accesses := rfl
@[simp] theorem State.soon_nextAccess (i : Instr) : (s.soon i).nextAccess = s.nextAccess := rfl
@[simp] theorem State.soon_dies (i : Instr) : (s.soon i).dies = s.dies := rfl
@[simp] theorem State.soon_clusters (i : Instr) : (s.soon i).clusters = s.clusters := rfl
@[simp] theorem State.soon_cores (i : Instr) : (s.soon i).cores = s.cores := rfl
@[simp] theorem State.soon_ctxs (i : Instr) : (s.soon i).ctxs = s.ctxs := rfl
@[simp] theorem State.soon_nextAge (i : Instr) : (s.soon i).nextAge = s.nextAge := rfl
@[simp] theorem State.soon_gangs (i : Instr) : (s.soon i).gangs = s.gangs := rfl
@[simp] theorem State.soon_nextGang (i : Instr) : (s.soon i).nextGang = s.nextGang := rfl
@[simp] theorem State.soon_chans (i : Instr) : (s.soon i).chans = s.chans := rfl
@[simp] theorem State.soon_ports (i : Instr) : (s.soon i).ports = s.ports := rfl
@[simp] theorem State.soon_oxEast (i : Instr) : (s.soon i).oxEast = s.oxEast := rfl
@[simp] theorem State.soon_oxWest (i : Instr) : (s.soon i).oxWest = s.oxWest := rfl
@[simp] theorem State.soon_gaugeQ (i : Instr) : (s.soon i).gaugeQ = s.gaugeQ := rfl
@[simp] theorem State.soon_seals (i : Instr) : (s.soon i).seals = s.seals := rfl
@[simp] theorem State.soon_recReqs (i : Instr) : (s.soon i).recReqs = s.recReqs := rfl
@[simp] theorem State.soon_writeWaits (i : Instr) : (s.soon i).writeWaits = s.writeWaits := rfl
@[simp] theorem State.soon_barWaits (i : Instr) : (s.soon i).barWaits = s.barWaits := rfl
@[simp] theorem State.soon_posts (i : Instr) : (s.soon i).posts = s.posts := rfl
@[simp] theorem State.soon_succs (i : Instr) : (s.soon i).succs = s.succs := rfl
@[simp] theorem State.soon_nextId (i : Instr) : (s.soon i).nextId = s.nextId := rfl
@[simp] theorem State.soon_sess (i : Instr) : (s.soon i).sess = s.sess := rfl
@[simp] theorem State.soon_mbox (i : Instr) : (s.soon i).mbox = s.mbox := rfl
@[simp] theorem State.soon_log (i : Instr) : (s.soon i).log = s.log := rfl
@[simp] theorem State.soon_logCount (i : Instr) : (s.soon i).logCount = s.logCount := rfl
@[simp] theorem State.soon_tbctl (i : Instr) : (s.soon i).tbctl = s.tbctl := rfl
@[simp] theorem State.soon_act (i : Instr) : (s.soon i).act = s.act := rfl
@[simp] theorem State.soon_gated (i : Instr) : (s.soon i).gated = s.gated := rfl
@[simp] theorem State.soon_idleSince (i : Instr) : (s.soon i).idleSince = s.idleSince := rfl
@[simp] theorem State.soon_busyAt (i : Instr) : (s.soon i).busyAt = s.busyAt := rfl
@[simp] theorem State.soon_linkAt (i : Instr) : (s.soon i).linkAt = s.linkAt := rfl
@[simp] theorem State.soon_wokeAt (i : Instr) : (s.soon i).wokeAt = s.wokeAt := rfl
@[simp] theorem State.soon_out (i : Instr) : (s.soon i).out = s.out := rfl
@[simp] theorem State.soon_handleImage (i : Instr) : (s.soon i).handleImage = s.handleImage := rfl
@[simp] theorem State.soon_imageKeys (i : Instr) : (s.soon i).imageKeys = s.imageKeys := rfl

/-! ### modCtx -/

/-- A change of a context is a write of the table of contexts. -/
theorem State.modCtx_eq (c : Nat) (f : Ctx → Ctx) : s.modCtx c f = { s with ctxs := (s.modCtx c f).ctxs } := by
  unfold State.modCtx; split <;> rfl

@[simp] theorem State.modCtx_time (c : Nat) (f : Ctx → Ctx) : (s.modCtx c f).time = s.time := by rw [State.modCtx_eq]
@[simp] theorem State.modCtx_agenda (c : Nat) (f : Ctx → Ctx) : (s.modCtx c f).agenda = s.agenda := by rw [State.modCtx_eq]
@[simp] theorem State.modCtx_cur (c : Nat) (f : Ctx → Ctx) : (s.modCtx c f).cur = s.cur := by rw [State.modCtx_eq]
@[simp] theorem State.modCtx_lits (c : Nat) (f : Ctx → Ctx) : (s.modCtx c f).lits = s.lits := by rw [State.modCtx_eq]
@[simp] theorem State.modCtx_freeCtr (c : Nat) (f : Ctx → Ctx) : (s.modCtx c f).freeCtr = s.freeCtr := by rw [State.modCtx_eq]
@[simp] theorem State.modCtx_thermal (c : Nat) (f : Ctx → Ctx) : (s.modCtx c f).thermal = s.thermal := by rw [State.modCtx_eq]
@[simp] theorem State.modCtx_dram (c : Nat) (f : Ctx → Ctx) : (s.modCtx c f).dram = s.dram := by rw [State.modCtx_eq]
@[simp] theorem State.modCtx_scrubbed (c : Nat) (f : Ctx → Ctx) : (s.modCtx c f).scrubbed = s.scrubbed := by rw [State.modCtx_eq]
@[simp] theorem State.modCtx_dramSince (c : Nat) (f : Ctx → Ctx) : (s.modCtx c f).dramSince = s.dramSince := by rw [State.modCtx_eq]
@[simp] theorem State.modCtx_llc (c : Nat) (f : Ctx → Ctx) : (s.modCtx c f).llc = s.llc := by rw [State.modCtx_eq]
@[simp] theorem State.modCtx_llcLast (c : Nat) (f : Ctx → Ctx) : (s.modCtx c f).llcLast = s.llcLast := by rw [State.modCtx_eq]
@[simp] theorem State.modCtx_layoutTlb (c : Nat) (f : Ctx → Ctx) : (s.modCtx c f).layoutTlb = s.layoutTlb := by rw [State.modCtx_eq]
@[simp] theorem State.modCtx_poison (c : Nat) (f : Ctx → Ctx) : (s.modCtx c f).poison = s.poison := by rw [State.modCtx_eq]
@[simp] theorem State.modCtx_leases (c : Nat) (f : Ctx → Ctx) : (s.modCtx c f).leases = s.leases := by rw [State.modCtx_eq]
@[simp] theorem State.modCtx_home (c : Nat) (f : Ctx → Ctx) : (s.modCtx c f).home = s.home := by rw [State.modCtx_eq]
@[simp] theorem State.modCtx_writes (c : Nat) (f : Ctx → Ctx) : (s.modCtx c f).writes = s.writes := by rw [State.modCtx_eq]
@[simp] theorem State.modCtx_nextWrite (c : Nat) (f : Ctx → Ctx) : (s.modCtx c f).nextWrite = s.nextWrite := by rw [State.modCtx_eq]
@[simp] theorem State.modCtx_nextPlace (c : Nat) (f : Ctx → Ctx) : (s.modCtx c f).nextPlace = s.nextPlace := by rw [State.modCtx_eq]
@[simp] theorem State.modCtx_hostMem (c : Nat) (f : Ctx → Ctx) : (s.modCtx c f).hostMem = s.hostMem := by rw [State.modCtx_eq]
@[simp] theorem State.modCtx_hostReqs (c : Nat) (f : Ctx → Ctx) : (s.modCtx c f).hostReqs = s.hostReqs := by rw [State.modCtx_eq]
@[simp] theorem State.modCtx_accesses (c : Nat) (f : Ctx → Ctx) : (s.modCtx c f).accesses = s.accesses := by rw [State.modCtx_eq]
@[simp] theorem State.modCtx_nextAccess (c : Nat) (f : Ctx → Ctx) : (s.modCtx c f).nextAccess = s.nextAccess := by rw [State.modCtx_eq]
@[simp] theorem State.modCtx_dies (c : Nat) (f : Ctx → Ctx) : (s.modCtx c f).dies = s.dies := by rw [State.modCtx_eq]
@[simp] theorem State.modCtx_clusters (c : Nat) (f : Ctx → Ctx) : (s.modCtx c f).clusters = s.clusters := by rw [State.modCtx_eq]
@[simp] theorem State.modCtx_cores (c : Nat) (f : Ctx → Ctx) : (s.modCtx c f).cores = s.cores := by rw [State.modCtx_eq]
@[simp] theorem State.modCtx_nextAge (c : Nat) (f : Ctx → Ctx) : (s.modCtx c f).nextAge = s.nextAge := by rw [State.modCtx_eq]
@[simp] theorem State.modCtx_gangs (c : Nat) (f : Ctx → Ctx) : (s.modCtx c f).gangs = s.gangs := by rw [State.modCtx_eq]
@[simp] theorem State.modCtx_nextGang (c : Nat) (f : Ctx → Ctx) : (s.modCtx c f).nextGang = s.nextGang := by rw [State.modCtx_eq]
@[simp] theorem State.modCtx_chans (c : Nat) (f : Ctx → Ctx) : (s.modCtx c f).chans = s.chans := by rw [State.modCtx_eq]
@[simp] theorem State.modCtx_ports (c : Nat) (f : Ctx → Ctx) : (s.modCtx c f).ports = s.ports := by rw [State.modCtx_eq]
@[simp] theorem State.modCtx_oxEast (c : Nat) (f : Ctx → Ctx) : (s.modCtx c f).oxEast = s.oxEast := by rw [State.modCtx_eq]
@[simp] theorem State.modCtx_oxWest (c : Nat) (f : Ctx → Ctx) : (s.modCtx c f).oxWest = s.oxWest := by rw [State.modCtx_eq]
@[simp] theorem State.modCtx_gaugeQ (c : Nat) (f : Ctx → Ctx) : (s.modCtx c f).gaugeQ = s.gaugeQ := by rw [State.modCtx_eq]
@[simp] theorem State.modCtx_seals (c : Nat) (f : Ctx → Ctx) : (s.modCtx c f).seals = s.seals := by rw [State.modCtx_eq]
@[simp] theorem State.modCtx_recReqs (c : Nat) (f : Ctx → Ctx) : (s.modCtx c f).recReqs = s.recReqs := by rw [State.modCtx_eq]
@[simp] theorem State.modCtx_writeWaits (c : Nat) (f : Ctx → Ctx) : (s.modCtx c f).writeWaits = s.writeWaits := by rw [State.modCtx_eq]
@[simp] theorem State.modCtx_barWaits (c : Nat) (f : Ctx → Ctx) : (s.modCtx c f).barWaits = s.barWaits := by rw [State.modCtx_eq]
@[simp] theorem State.modCtx_posts (c : Nat) (f : Ctx → Ctx) : (s.modCtx c f).posts = s.posts := by rw [State.modCtx_eq]
@[simp] theorem State.modCtx_succs (c : Nat) (f : Ctx → Ctx) : (s.modCtx c f).succs = s.succs := by rw [State.modCtx_eq]
@[simp] theorem State.modCtx_nextId (c : Nat) (f : Ctx → Ctx) : (s.modCtx c f).nextId = s.nextId := by rw [State.modCtx_eq]
@[simp] theorem State.modCtx_sess (c : Nat) (f : Ctx → Ctx) : (s.modCtx c f).sess = s.sess := by rw [State.modCtx_eq]
@[simp] theorem State.modCtx_mbox (c : Nat) (f : Ctx → Ctx) : (s.modCtx c f).mbox = s.mbox := by rw [State.modCtx_eq]
@[simp] theorem State.modCtx_log (c : Nat) (f : Ctx → Ctx) : (s.modCtx c f).log = s.log := by rw [State.modCtx_eq]
@[simp] theorem State.modCtx_logCount (c : Nat) (f : Ctx → Ctx) : (s.modCtx c f).logCount = s.logCount := by rw [State.modCtx_eq]
@[simp] theorem State.modCtx_tbctl (c : Nat) (f : Ctx → Ctx) : (s.modCtx c f).tbctl = s.tbctl := by rw [State.modCtx_eq]
@[simp] theorem State.modCtx_act (c : Nat) (f : Ctx → Ctx) : (s.modCtx c f).act = s.act := by rw [State.modCtx_eq]
@[simp] theorem State.modCtx_gated (c : Nat) (f : Ctx → Ctx) : (s.modCtx c f).gated = s.gated := by rw [State.modCtx_eq]
@[simp] theorem State.modCtx_idleSince (c : Nat) (f : Ctx → Ctx) : (s.modCtx c f).idleSince = s.idleSince := by rw [State.modCtx_eq]
@[simp] theorem State.modCtx_busyAt (c : Nat) (f : Ctx → Ctx) : (s.modCtx c f).busyAt = s.busyAt := by rw [State.modCtx_eq]
@[simp] theorem State.modCtx_linkAt (c : Nat) (f : Ctx → Ctx) : (s.modCtx c f).linkAt = s.linkAt := by rw [State.modCtx_eq]
@[simp] theorem State.modCtx_wokeAt (c : Nat) (f : Ctx → Ctx) : (s.modCtx c f).wokeAt = s.wokeAt := by rw [State.modCtx_eq]
@[simp] theorem State.modCtx_out (c : Nat) (f : Ctx → Ctx) : (s.modCtx c f).out = s.out := by rw [State.modCtx_eq]
@[simp] theorem State.modCtx_handleImage (c : Nat) (f : Ctx → Ctx) : (s.modCtx c f).handleImage = s.handleImage := by rw [State.modCtx_eq]
@[simp] theorem State.modCtx_imageKeys (c : Nat) (f : Ctx → Ctx) : (s.modCtx c f).imageKeys = s.imageKeys := by rw [State.modCtx_eq]

/-! ### Parts by number -/

/-- The context just put there. -/
@[simp] theorem State.ctx_setCtx_self (c : Nat) (x : Option Ctx) : (s.setCtx c x).ctx c = x := SMap.get_set_self _ _ _ _

/-- Another context. -/
@[simp] theorem State.ctx_setCtx_ne (c d : Nat) (x : Option Ctx) (h : d ≠ c) : (s.setCtx c x).ctx d = s.ctx d :=
  SMap.get_set_ne _ _ _ _ _ h

/-- The context just changed. -/
@[simp] theorem State.ctx_modCtx_self (c : Nat) (f : Ctx → Ctx) : (s.modCtx c f).ctx c = (s.ctx c).map f := by
  unfold State.modCtx; split <;> simp_all

/-- Another context. -/
@[simp] theorem State.ctx_modCtx_ne (c d : Nat) (f : Ctx → Ctx) (h : d ≠ c) : (s.modCtx c f).ctx d = s.ctx d := by
  unfold State.modCtx; split <;> simp_all

/-- The core just changed. -/
@[simp] theorem State.core_modCore_self (k : Nat) (f : Core → Core) : (s.modCore k f).core k = f (s.core k) := SMap.get_modify_self _ _ _ _

/-- Another core. -/
@[simp] theorem State.core_modCore_ne (k l : Nat) (f : Core → Core) (h : l ≠ k) : (s.modCore k f).core l = s.core l :=
  SMap.get_modify_ne _ _ _ _ _ h

/-- The cluster just changed. -/
@[simp] theorem State.cluster_modCluster_self (k : Nat) (f : Cluster → Cluster) : (s.modCluster k f).cluster k = f (s.cluster k) :=
  SMap.get_modify_self _ _ _ _

/-- Another cluster. -/
@[simp] theorem State.cluster_modCluster_ne (k l : Nat) (f : Cluster → Cluster) (h : l ≠ k) : (s.modCluster k f).cluster l = s.cluster l :=
  SMap.get_modify_ne _ _ _ _ _ h

/-- The die just changed. -/
@[simp] theorem State.die_modDie_self (k : Nat) (f : Die → Die) : (s.modDie k f).die k = f (s.die k) := SMap.get_modify_self _ _ _ _

/-- Another die. -/
@[simp] theorem State.die_modDie_ne (k l : Nat) (f : Die → Die) (h : l ≠ k) : (s.modDie k f).die l = s.die l :=
  SMap.get_modify_ne _ _ _ _ _ h

/-- The channel end just changed. -/
@[simp] theorem State.chan_modChan_self (k : Nat) (f : Chan → Chan) : (s.modChan k f).chan k = f (s.chan k) := SMap.get_modify_self _ _ _ _

/-- Another channel end. -/
@[simp] theorem State.chan_modChan_ne (k l : Nat) (f : Chan → Chan) (h : l ≠ k) : (s.modChan k f).chan l = s.chan l :=
  SMap.get_modify_ne _ _ _ _ _ h

@[simp] theorem State.core_setCtx (c : Nat) (x : Option Ctx) (j : Nat) : (s.setCtx c x).core j = s.core j := rfl
@[simp] theorem State.core_modDie (d : Nat) (f : Die → Die) (j : Nat) : (s.modDie d f).core j = s.core j := rfl
@[simp] theorem State.core_modCluster (k : Nat) (f : Cluster → Cluster) (j : Nat) : (s.modCluster k f).core j = s.core j := rfl
@[simp] theorem State.core_modChan (n : Nat) (f : Chan → Chan) (j : Nat) : (s.modChan n f).core j = s.core j := rfl
@[simp] theorem State.core_modGang (g : Nat) (f : Gang → Gang) (j : Nat) : (s.modGang g f).core j = s.core j := rfl
@[simp] theorem State.core_modThermal (f : Thermal → Thermal) (j : Nat) : (s.modThermal f).core j = s.core j := rfl
@[simp] theorem State.core_send (o : Out) (j : Nat) : (s.send o).core j = s.core j := rfl
@[simp] theorem State.core_soon (i : Instr) (j : Nat) : (s.soon i).core j = s.core j := rfl
@[simp] theorem State.core_modCtx (c : Nat) (f : Ctx → Ctx) (j : Nat) : (s.modCtx c f).core j = s.core j := by rw [State.modCtx_eq]; rfl
@[simp] theorem State.cluster_setCtx (c : Nat) (x : Option Ctx) (j : Nat) : (s.setCtx c x).cluster j = s.cluster j := rfl
@[simp] theorem State.cluster_modDie (d : Nat) (f : Die → Die) (j : Nat) : (s.modDie d f).cluster j = s.cluster j := rfl
@[simp] theorem State.cluster_modCore (k : Nat) (f : Core → Core) (j : Nat) : (s.modCore k f).cluster j = s.cluster j := rfl
@[simp] theorem State.cluster_modChan (n : Nat) (f : Chan → Chan) (j : Nat) : (s.modChan n f).cluster j = s.cluster j := rfl
@[simp] theorem State.cluster_modGang (g : Nat) (f : Gang → Gang) (j : Nat) : (s.modGang g f).cluster j = s.cluster j := rfl
@[simp] theorem State.cluster_modThermal (f : Thermal → Thermal) (j : Nat) : (s.modThermal f).cluster j = s.cluster j := rfl
@[simp] theorem State.cluster_send (o : Out) (j : Nat) : (s.send o).cluster j = s.cluster j := rfl
@[simp] theorem State.cluster_soon (i : Instr) (j : Nat) : (s.soon i).cluster j = s.cluster j := rfl
@[simp] theorem State.cluster_modCtx (c : Nat) (f : Ctx → Ctx) (j : Nat) : (s.modCtx c f).cluster j = s.cluster j := by rw [State.modCtx_eq]; rfl
@[simp] theorem State.die_setCtx (c : Nat) (x : Option Ctx) (j : Nat) : (s.setCtx c x).die j = s.die j := rfl
@[simp] theorem State.die_modCore (k : Nat) (f : Core → Core) (j : Nat) : (s.modCore k f).die j = s.die j := rfl
@[simp] theorem State.die_modCluster (k : Nat) (f : Cluster → Cluster) (j : Nat) : (s.modCluster k f).die j = s.die j := rfl
@[simp] theorem State.die_modChan (n : Nat) (f : Chan → Chan) (j : Nat) : (s.modChan n f).die j = s.die j := rfl
@[simp] theorem State.die_modGang (g : Nat) (f : Gang → Gang) (j : Nat) : (s.modGang g f).die j = s.die j := rfl
@[simp] theorem State.die_modThermal (f : Thermal → Thermal) (j : Nat) : (s.modThermal f).die j = s.die j := rfl
@[simp] theorem State.die_send (o : Out) (j : Nat) : (s.send o).die j = s.die j := rfl
@[simp] theorem State.die_soon (i : Instr) (j : Nat) : (s.soon i).die j = s.die j := rfl
@[simp] theorem State.die_modCtx (c : Nat) (f : Ctx → Ctx) (j : Nat) : (s.modCtx c f).die j = s.die j := by rw [State.modCtx_eq]; rfl
@[simp] theorem State.chan_setCtx (c : Nat) (x : Option Ctx) (j : Nat) : (s.setCtx c x).chan j = s.chan j := rfl
@[simp] theorem State.chan_modDie (d : Nat) (f : Die → Die) (j : Nat) : (s.modDie d f).chan j = s.chan j := rfl
@[simp] theorem State.chan_modCore (k : Nat) (f : Core → Core) (j : Nat) : (s.modCore k f).chan j = s.chan j := rfl
@[simp] theorem State.chan_modCluster (k : Nat) (f : Cluster → Cluster) (j : Nat) : (s.modCluster k f).chan j = s.chan j := rfl
@[simp] theorem State.chan_modGang (g : Nat) (f : Gang → Gang) (j : Nat) : (s.modGang g f).chan j = s.chan j := rfl
@[simp] theorem State.chan_modThermal (f : Thermal → Thermal) (j : Nat) : (s.modThermal f).chan j = s.chan j := rfl
@[simp] theorem State.chan_send (o : Out) (j : Nat) : (s.send o).chan j = s.chan j := rfl
@[simp] theorem State.chan_soon (i : Instr) (j : Nat) : (s.soon i).chan j = s.chan j := rfl
@[simp] theorem State.chan_modCtx (c : Nat) (f : Ctx → Ctx) (j : Nat) : (s.modCtx c f).chan j = s.chan j := by rw [State.modCtx_eq]; rfl
@[simp] theorem State.ctx_modDie (d : Nat) (f : Die → Die) (j : Nat) : (s.modDie d f).ctx j = s.ctx j := rfl
@[simp] theorem State.ctx_modCore (k : Nat) (f : Core → Core) (j : Nat) : (s.modCore k f).ctx j = s.ctx j := rfl
@[simp] theorem State.ctx_modCluster (k : Nat) (f : Cluster → Cluster) (j : Nat) : (s.modCluster k f).ctx j = s.ctx j := rfl
@[simp] theorem State.ctx_modChan (n : Nat) (f : Chan → Chan) (j : Nat) : (s.modChan n f).ctx j = s.ctx j := rfl
@[simp] theorem State.ctx_modGang (g : Nat) (f : Gang → Gang) (j : Nat) : (s.modGang g f).ctx j = s.ctx j := rfl
@[simp] theorem State.ctx_modThermal (f : Thermal → Thermal) (j : Nat) : (s.modThermal f).ctx j = s.ctx j := rfl
@[simp] theorem State.ctx_send (o : Out) (j : Nat) : (s.send o).ctx j = s.ctx j := rfl
@[simp] theorem State.ctx_soon (i : Instr) (j : Nat) : (s.soon i).ctx j = s.ctx j := rfl

end Sys2Proof.Machine
end

