-- ==== Sys2Proof/Laws/Results.lean ====
section
/-! SUPPORT. The results that engine operations write as their tokens clear (R437, R453): what expecting one and answering one come to, so that no
later proof unfolds the queue of results; and the tests of poisoned data and of held host memory in states that have none. -/

namespace Sys2Proof.Machine

/-! ### Results at clearing -/

@[simp] theorem dueResults_nil (held : List Dest) : dueResults held [] = ([], []) := rfl

/-- A result alone is due once its values are known and no earlier one holds a register of it. -/
theorem dueResults_single (held ds : List Dest) (id k : Nat) (ws : List (Dest × W64)) (h : ds.any held.contains = false) :
    dueResults held [⟨id, ds, some (k, ws)⟩] = ([(k, ws)], []) := by
  simp [dueResults, h]

/-- A result whose values are not known stays. -/
theorem dueResults_open (held ds : List Dest) (id : Nat) (rs : List EResult) :
    dueResults held (⟨id, ds, none⟩ :: rs) = ((dueResults (held ++ ds) rs).1, ⟨id, ds, none⟩ :: (dueResults (held ++ ds) rs).2) := by
  rw [dueResults]
  simp

/-- Nothing is lost: what is due and what stays are together as many as before. -/
theorem dueResults_length (held : List Dest) (rs : List EResult) :
    (dueResults held rs).1.length + (dueResults held rs).2.length = rs.length := by
  induction rs generalizing held with
  | nil => rfl
  | cons r rs ih =>
    unfold dueResults
    split
    · simp only [List.length_cons]; have := ih held; omega
    · simp only [List.length_cons]; have := ih (held ++ r.dests); omega

variable (s : State)

/-- The answer to an operation that has no result outstanding is written at once. -/
theorem answerResult_none (c id k : Nat) (ws : List (Dest × W64)) (x : Ctx) (h : s.ctx c = some x)
    (hr : x.results.any (fun r => r.id == id) = false) : s.answerResult c id k ws = s.reply c k ws := by
  simp [State.answerResult, h, hr]

/-- The answer to the only result that is outstanding is written at once. -/
theorem answerResult_only (c id k : Nat) (ds : List Dest) (ws : List (Dest × W64)) (x : Ctx) (h : s.ctx c = some x)
    (hr : x.results = [⟨id, ds, none⟩]) :
    s.answerResult c id k ws = (s.modCtx c fun x => { x with results := [] }).reply c k ws := by
  simp [State.answerResult, h, hr, mapWhere, dueResults]

/-- No context, no answer. -/
theorem answerResult_gone (c id k : Nat) (ws : List (Dest × W64)) (h : s.ctx c = none) : s.answerResult c id k ws = s := by
  simp [State.answerResult, h]

/-! ### Poisoned data and held host memory -/

/-- In a state without poisoned sectors no run meets one. -/
theorem poisonIn_none (runs : List (Nat × Nat)) (h : s.poison = []) : s.poisonIn runs = none := by
  induction runs with
  | nil => rfl
  | cons r rs ih => simp [State.poisonIn, State.poisoned, h]

/-- In a state without poisoned sectors a whole-sector write has none to clear. -/
theorem unpoison_none (runs : List (Loc × Nat)) (h : s.poison = []) : s.unpoison runs = s := by
  simp [State.unpoison, h]

/-- While the host's port is up nothing waits for host memory. -/
theorem hostQueued_up (ls : List Loc) (h : (s.port hostPort).up = true) : s.hostQueued ls = false := by
  simp [State.hostQueued, h]

/-- An effect is not held back where nothing that it consumes is poisoned. -/
theorem poisonIn_nil : s.poisonIn [] = none := rfl

end Sys2Proof.Machine
end

