-- ==== Sys2Proof/Tests/Slice0.lean ====
section
/-! SUPPORT. Tests: words and results that the manual works out, ill-formed terms that the check refuses, and for each statement for the
provers values that meet its hypotheses. -/

open Sys2Proof Sys2Proof.Machine

namespace Sys2Proof.Tests

set_option Elab.async false

/-! ### Small states -/

/-- A guard that is true in every lane. -/
def always : Guard := ⟨0xFF#8, 0#4, 0#4, 0#4⟩
/-- A supervisor context with some registers set. -/
def cx : Ctx :=
  { pc := 0x10000#48, sup := true, a := [(1, 5#64), (2, 7#64), (5, -7#64), (6, 2#64)], j := [(1, 0x20000#64), (2, 0x30000#64)]
    d := [(1, 0x8000000000000100#64), (2, 0x8000000000000200#64), (3, 0x9000000000000040#64)], tcause := 0x5402000000#64 }
/-- The same at user level. -/
def ux : Ctx := { cx with sup := false, tcause := 0#64 }
/-- A module whose one context is on sequencer 0. -/
def st (x : Ctx) : State := { State.reset with ctxs := [(0, some x)] }
/-- What the context of sequencer 0 holds after an instruction. -/
def after {α : Type} (i : Instr) (s : State) (f : Ctx → α) : Option α :=
  match exec i s with
  | .next t => (t.ctx 0).map f
  | _ => none
/-- What the machine holds after an instruction. -/
def nextOf {α : Type} (i : Instr) (s : State) (f : State → α) : Option α :=
  match exec i s with
  | .next t => some (f t)
  | _ => none
/-- A scalar operation of S0 in the register form. -/
def sreg (d a b : Nat) : SReg := ⟨always, .s0, BitVec.ofNat 6 d, BitVec.ofNat 6 a, BitVec.ofNat 6 b, 0#3, 0#17⟩
/-- A scalar operation of S0 in the immediate form. -/
def simm (d a : Nat) (i : BitVec 20) : SImm := ⟨always, .s0, BitVec.ofNat 6 d, BitVec.ofNat 6 a, 0#3, 0#3, i⟩
/-- A control operation. -/
def ctl (j : BitVec 2) (x : BitVec 8) (i : BitVec 20) : CForm := ⟨always, j, 0#4, 0#4, x, i⟩
/-- The contexts of these states may issue. -/
theorem presents_of (s : State) (x : Ctx) (h : s.ctx s.cur = some x) (hr : s.inReady x = true) (hd : x.due = []) (ha : x.arrived = false)
    (hp : x.repLeft = none) (hl : x.loops.v0 = none ∧ x.loops.v1 = none ∧ x.loops.m = none ∧ x.loops.l = none) (hk : x.k = []) : s.Presents x :=
  ⟨h, hr, hd, ha, hp, hl.1, hl.2.1, hl.2.2.1, hl.2.2.2, fun k => by simp [Ctx.tokCount, hk, SMap.get]⟩
theorem issues_of (s : State) (x : Ctx) (h : s.ctx s.cur = some x) (hr : s.inReady x = true) (hd : x.due = []) (ha : x.arrived = false)
    (hp : x.repLeft = none) (hl : x.loops.v0 = none ∧ x.loops.v1 = none ∧ x.loops.m = none ∧ x.loops.l = none) (hk : x.k = [])
    (hf : x.loops.arv = none ∧ x.loops.tw = none := by exact ⟨rfl, rfl⟩) : s.Issues x :=
  ⟨presents_of s x h hr hd ha hp hl hk, hf⟩
theorem issues_cx : (st cx).Issues cx := issues_of _ _ rfl rfl rfl rfl rfl ⟨rfl, rfl, rfl, rfl⟩ rfl
theorem issues_ux : (st ux).Issues ux := issues_of _ _ rfl rfl rfl rfl rfl ⟨rfl, rfl, rfl, rfl⟩ rfl

/-- A vote of p1 over p2. -/
def vote : CForm := ⟨always, 0#2, 1#4, 2#4, 0#8, 0#20⟩
/-- The six conditions and TST. -/
def holds (cc : Nat) (a b : W64) : Bool :=
  match cc with
  | 0 => decide (a = b) | 1 => decide (a ≠ b) | 2 => a.slt b | 3 => b.sle a | 4 => a.ult b | 5 => b.ule a | _ => decide (a &&& b ≠ 0#64)
/-- A state with literals in its bundle. -/
def lit : State := { st cx with lits := [0x1234#32, 0xFFFF#32] }
theorem issues_lit : lit.Issues cx := issues_of _ _ rfl rfl rfl rfl rfl ⟨rfl, rfl, rfl, rfl⟩ rfl

/-- A vector that begins with four given lanes. -/
def four (a b c d : W32) : Vec := Vec.ofLanes fun n => [a, b, c, d].getD n 0#32
/-- The guard that is true where p1 is. -/
def g1 : Guard := ⟨0xF0#8, 1#4, 0#4, 0#4⟩
/-- A context with vectors, and p1 true in lanes 0 to 3. -/
def vx : Ctx :=
  { cx with
    p := [(1, 0xF#64)]
    v := [(1, four 0x3F800000#32 0xC0400000#32 0x7F7FFFFF#32 0x00000001#32), (2, four 0x40000000#32 0x7FC00000#32 0x7F7FFFFF#32 0x00800000#32),
      (3, four 0x3F80#32 0xC040#32 0x7F80#32 0x0041#32), (4, four 5#32 0xFFFFFFF9#32 63#32 0x80000000#32)]
    c := [(8, 0x11#32), (9, 0x22#32), (15, 0x88#32)] }
theorem issues_vx : (st vx).Issues vx := issues_of _ _ rfl rfl rfl rfl rfl ⟨rfl, rfl, rfl, rfl⟩ rfl
/-- A vector operation of V0 over registers, in the lanes of p1. -/
def vreg (vd vs1 op2 : Nat) (ty : BitVec 4) (var : BitVec 3) : VReg := ⟨g1, .v0, BitVec.ofNat 9 vd, BitVec.ofNat 9 vs1, 0#2, BitVec.ofNat 9 op2, ty, 0#2, var⟩

/-- The 64 bytes of a valid record: 16 by 16 elements of E4 at 0x2000000, a per-tensor scale, gauge mode SAT and gauge 5. -/
def tensorBytes : List Byte :=
  toBytes 64 (2 ^ 63 + 0x2000000 + 16 * 2 ^ 64 + 16 * 2 ^ 96 + 2 ^ 128 + 2 ^ 160 + (2 + 2 ^ 12 + 2 * 2 ^ 16 + 5 * 2 ^ 28) * 2 ^ 192)
/-- Its record, as handle 17 at every die. -/
def rec17 : State := (st vx).writeEverywhere (recAddr 0 17) tensorBytes
theorem issues_rec17 : rec17.Issues vx := issues_of _ _ rfl rfl rfl rfl rfl ⟨rfl, rfl, rfl, rfl⟩ rfl

/-- Whether an address resolves to a place. -/
def isLoc (e : Except LTrap Loc) (l : Loc) : Bool := match e with | .ok m => decide (m = l) | .error _ => false
theorem loc_of {e : Except LTrap Loc} {l : Loc} (h : isLoc e l = true) : e = .ok l := by
  cases e with
  | error _ => cases h
  | ok m => exact congrArg _ (of_decide_eq_true h)

/-- The value of a computation that may stop. -/
def okOf {ε α : Type} (d : α) (e : Except ε α) : α := match e with | .ok a => a | .error _ => d
/-- Whether it has one. -/
def isOk {ε α : Type} (e : Except ε α) : Bool := match e with | .ok _ => true | .error _ => false
theorem ok_of {ε α : Type} {e : Except ε α} {d : α} (h : isOk e = true) : e = .ok (okOf d e) := by
  cases e with
  | error _ => cases h
  | ok m => rfl
/-- Whether an outcome is a given next state. -/
def isState (o : Host.Outcome State Fault Refusal) (t : State) : Bool := match o with | .next u => decide (u = t) | _ => false
theorem isState_eq {o : Host.Outcome State Fault Refusal} {t : State} (h : isState o t = true) : o = .next t := by
  cases o with
  | next u => exact congrArg _ (of_decide_eq_true h)
  | fault _ => cases h
  | refused _ => cases h
/-- Whether it has a given value, or stops with a given error. -/
def isVal {ε α : Type} [DecidableEq α] (e : Except ε α) (a : α) : Bool := match e with | .ok b => decide (b = a) | .error _ => false
theorem val_of {ε α : Type} [DecidableEq α] {e : Except ε α} {a : α} (h : isVal e a = true) : e = .ok a := by
  cases e with
  | error _ => cases h
  | ok b => exact congrArg _ (of_decide_eq_true h)
def isErr {ε α : Type} [DecidableEq ε] (e : Except ε α) (a : ε) : Bool := match e with | .ok _ => false | .error b => decide (b = a)
theorem err_of {ε α : Type} [DecidableEq ε] {e : Except ε α} {a : ε} (h : isErr e a = true) : e = .error a := by
  cases e with
  | ok _ => cases h
  | error b => exact congrArg _ (of_decide_eq_true h)

/-! ### Decoding: the words that the manual's tables and worked sequences write out -/

theorem test_decode_scalar :
    decodeSyllable .s0 0xFF000187_14600000#64 = .ok (.div ⟨always, .s0, 7#6, 5#6, 6#6, 0#3, 0#17⟩) ∧
    decodeSyllable .s0 0xFF000810_1C800000#64 = .ok (.cmp ⟨always, .s0, 0x10#6, 7#6, 8#6, 0#3, 0#17⟩) ∧
    decodeSyllable .s0 0xF01008C0_1C020003#64 = .ok (.cpy ⟨⟨0xF0#8, 1#4, 0#4, 0#4⟩, .s0, 0#6, 7#6, 0#3, 0#3, 0x20003#20⟩) := ⟨rfl, rfl, rfl⟩
theorem test_decode_control : decodeSyllable .c 0xF01000D0_00000000#64 = .ok (.brxl ⟨⟨0xF0#8, 1#4, 0#4, 0#4⟩, 1#2, 0#4, 0#4, 0#8, 0#20⟩) := rfl
theorem test_decode_vector :
    decodeSyllable .v0 0x30120081_40280008#64 = .ok (.vmul ⟨⟨0x30#8, 1#4, 2#4, 0#4⟩, .v0, 10#9, 2#9, 2#2, 0#9, 0#4, 1#2, 0#3⟩) ∧
    decodeSyllable .v0 0xFF0009C2_803009A0#64 = .ok (.vsad ⟨always, .v0, 20#9, 3#9, 0#2, 4#9, 13#4, 0#2, 0#3⟩) ∧
    decodeSyllable .v1 0xF0100840_C06407C0#64 = .ok (.vadds ⟨⟨0xF0#8, 1#4, 0#4, 0#4⟩, .v1, 6#9, 6#9, 1#2, 3#9, 14#4, 0#2, 0#3⟩) ∧
    decodeSyllable .v1 0xFF000480_A023DCCC#64 = .ok (.vfmai ⟨always, .v1, 5#9, 2#9, 0x3DCCC#20⟩) := ⟨rfl, rfl, rfl, rfl⟩
theorem test_decode_vector_data :
    decodeSyllable .v0 0xFF000D40_A0280122#64 = .ok (.vbext ⟨always, .v0, 5#9, 2#9, 2#2, 0#9, 9#4, 0#2, 2#3⟩) ∧
    decodeSyllable .v0 0xFF000D80_C0541020#64 = .ok (.vlut ⟨always, .v0, 6#9, 5#9, 1#2, 8#9, 1#4, 0#2, 0#3⟩) ∧
    decodeSyllable .v0 0xF0300EC0_E062A020#64 = .ok (.vred ⟨⟨0xF0#8, 3#4, 0#4, 0#4⟩, .v0, 7#9, 6#9, 0#2, 336#9, 1#4, 0#2, 0#3⟩) := ⟨rfl, rfl, rfl⟩
theorem test_decode_matrix :
    decodeSyllable .m 0xFF000084_02208800#64 = .ok (.mma ⟨always, 2#5, 0#4, 1#4, 8#7, 2#4, 0#1, 0#1, 1#1, 0#1, 0#10⟩) ∧
    decodeSyllable .m 0xFF000080_02104000#64 = .ok (.mma ⟨always, 0#5, 0#4, 1#4, 4#7, 1#4, 0#1, 0#1, 0#1, 0#1, 0#10⟩) := ⟨rfl, rfl⟩
theorem test_decode_load_store :
    decodeSyllable .l 0xFF0000B0_20E02001#64 = .ok (.vld ⟨always, 3#2, 4#9, 3#5, 1#1, 64#14, 0#4, 1#3⟩) ∧
    decodeSyllable .l 0xF02002E0_48204429#64 = .ok (.vatom ⟨⟨0xF0#8, 2#4, 0#4, 0#4⟩, 2#2, 9#9, 8#9, 2#5, 2#4, 0#2, 2#3, 1#1, 1#3⟩) ∧
    decodeSyllable .l 0xFF000282_403A1AC0#64 = .ok (.ldAcq ⟨always, 0#2, 9#6, 0#6, 7#5, 1#2, 0#4, 3#2, 1#2, 3#3, 0#1, 0#2, 0#3⟩) ∧
    decodeSyllable .l 0xFF000280_062C14C2#64 = .ok (.stRel ⟨always, 0#2, 0#6, 6#6, 5#5, 2#2, 0#4, 2#2, 2#2, 3#3, 0#1, 0#2, 2#3⟩) := ⟨rfl, rfl, rfl, rfl⟩
theorem test_decode_engine :
    decodeSyllable .e 0xFF000004_10020000#64 = .ok (.sljob ⟨always, 2#5, 1#5, 0#5, 0#3, 1#3, 0#17⟩) ∧
    decodeSyllable .e 0xFF0001D4_848A0001#64 = .ok (.edfetch ⟨always, 10#5, 8#5, 9#5, 0#3, 5#3, 1#17⟩) := ⟨rfl, rfl⟩
/-- R348, and the same worked example: `PREP j1`, words of -64. -/
theorem test_decode_prep : decodeSyllable .c 0xFF000050_000FFFC0#64 = .ok (.prep ⟨always, 1#2, 0#4, 0#4, 0#8, 0xFFFC0#20⟩) := rfl
/-- R335, R337: a code of no operation, and MFS in S1, are ILLEGAL_OP. -/
theorem test_decode_refuses :
    decodeSyllable .c 0xFF0007C0_00000000#64 = .error (.illegalOp .c 31) ∧ decodeSyllable .s1 0xFF000900_00000000#64 = .error (.illegalOp .s1 36) :=
  ⟨rfl, rfl⟩

/-! ### Ill-formed terms -/

theorem test_ill_formed_control :
    ([.nop (ctl 1 0 0), .nop ⟨always, 0, 1, 0, 0, 0⟩, .yield ⟨always, 0, 0, 1, 0, 0⟩, .rft (ctl 0 1 0), .done (ctl 0 0 1), .barv (ctl 1 0 0),
      .trap ⟨always, 0, 1, 0, 0, 0⟩, .spin (ctl 0 1 0), .barv ⟨always, 0, 0, 1, 0, 0⟩, .lset ⟨always, 0, 1, 0, 0, 0⟩, .lset ⟨always, 0, 0, 1, 0, 0⟩,
      .loop (ctl 1 0 0), .lstr ⟨always, 0, 1, 0, 0, 0⟩, .bwait ⟨always, 0, 0, 1, 0, 0⟩, .setfmt (ctl 1 0 0), .waitk (ctl 1 0 0), .waitk (ctl 0 0 1),
      .setwin ⟨always, 0, 1, 0, 0, 0⟩, .setwin ⟨always, 0, 0, 1, 0, 0⟩, .ptt (ctl 1 0 0), .vote (ctl 1 0 0), .vote (ctl 0 0 1),
      .prep ⟨always, 0, 1, 0, 0, 0⟩, .prep ⟨always, 0, 0, 1, 0, 0⟩, .prep (ctl 0 1 0), .prepAbsolute (ctl 0 0 0), .prepAbsolute ⟨always, 0, 1, 0, 1, 0⟩,
      .prepAbsolute ⟨always, 0, 0, 1, 1, 0⟩, .brx ⟨always, 0, 1, 0, 0, 0⟩, .brxl ⟨always, 0, 0, 1, 0, 0⟩, .brx (ctl 0 1 0), .brxl (ctl 0 0 1)] :
      List Instr).all (fun i => !i.wf) = true := by decide
theorem test_ill_formed_slots :
    ([.add { sreg 1 2 3 with rest := 1 }, .brxS1 { sreg 0 2 0 with rest := 1, slot := .s1 }, .brxS1 (sreg 0 2 0), .addi { simm 1 2 0 with rest := 1 },
      .mfs { simm 1 0 0 with rest := 1 }, .mts { simm 0 1 0 with slot := .s1 }, .mma ⟨always, 0, 0, 1, 4, 1, 0, 0, 0, 0, 1⟩, .mcfg ⟨always, 0, 0, 1⟩,
      .mzero ⟨always, 0, 1⟩, .mread ⟨always, 0, 0, 0, 0, 1⟩, .mwrite ⟨always, 0, 0, 0, 0, 1⟩, .mjoin ⟨always, 0, 0, 0, 0, 0, 1⟩, .mstat ⟨always, 0, 0, 0, 1⟩,
      .vgth ⟨always, 2, 0, 0, 0, 0, 1, 0, 0⟩, .atom ⟨always, 0, 0, 0, 0, 0, 0, 0, 0, 0, 0, 1, 0⟩, .atom ⟨always, 0, 0, 0, 0, 1, 0, 0, 0, 0, 0, 0, 0⟩,
      .ldAcq ⟨always, 0, 0, 0, 0, 1, 0, 0, 0, 0, 0, 1, 0⟩, .ldAcq ⟨always, 0, 0, 0, 0, 2, 0, 0, 0, 0, 0, 0, 0⟩,
      .stRel ⟨always, 0, 0, 0, 0, 2, 0, 0, 0, 0, 0, 1, 0⟩, .stRel ⟨always, 0, 0, 0, 0, 1, 0, 0, 0, 0, 0, 0, 0⟩, .fence ⟨always, 1, 0, 0, 0⟩,
      .fence ⟨always, 0, 0, 1, 0⟩, .fence ⟨always, 0, 0, 0, 1⟩, .sync ⟨always, 1, 0, 0, 0⟩, .sync ⟨always, 0, 0, 1, 0⟩, .tbwait ⟨always, 0, 0, 0, 0, 0, 1⟩,
      .spill ⟨always, 2, 0, 1, 0⟩, .dadd ⟨always, 0, 0, 0, 0, 1⟩, .dli ⟨always, 0, 0, 0, 1, 0, 0⟩, .dli ⟨always, 0, 0, 0, 0, 0, 1⟩,
      .dcpy ⟨always, 0, 0, 0, 1, 0⟩, .dcpy ⟨always, 0, 0, 0, 0, 1⟩, .l1inv ⟨always, 1, 0, 0, 0, 0⟩, .twait ⟨always, 0, 0, 0, 0, 1, 0⟩] :
      List Instr).all (fun i => !i.wf) = true := by decide
theorem test_ill_formed_events :
    ([.powerApplied [] (List.replicate 9 ⟨true, 0⟩), .powerApplied (List.replicate 48 ⟨true, 0⟩) [], .thermalSample [] [], .timingSetSwitch 1152,
      .registerWrite (.mmio 0) 3 0, .dramReadWrite 1152 0 false .clean, .dramReadWrite 0 (2 ^ 43) false .clean, .refresh 1152 false,
      .patrolScrubAccess 1152 0 false false .clean, .patrolScrubAccess 0 (2 ^ 43) false false .clean, .powerDownEntry 1152 false,
      .selfRefreshEntry 1152 false, .llcAccess (2 ^ 43) .read .clean, .stageEvaluate 0 ⟨8, none⟩, .leaseExpiry 64, .handleRequest 4 0 ⟨0, 0, 0, 0⟩ ⟨1, 1, 1, 1⟩ true false [],
      .handleRequest 0 (2 ^ 20) ⟨0, 0, 0, 0⟩ ⟨1, 1, 1, 1⟩ true false [], .handleRequest 0 0 ⟨0, 0, 0, 0⟩ ⟨1, 0, 1, 1⟩ true false [],
      .remoteWriteApply 0 4, .recordReplicaWrite 0 4, .configFlitReceive 1536 0 0 0, .parcelDelivery 1536, .portDown 9, .timeFlitReceive 6 0,
      .startWrite 5 0, .stagingWrite (2 ^ 32) [0], .stageEnable 4 0 false, .stageEnable 0 8 false, .queueArrival 4 0, .stepRetire 0 0 64,
      .joinTimeout 2304, .fqResume 0 64, .streamVectorArrival 0 8, .riffleFill 288 0, .riffleCrc 0 4, .bundleIssue { core := 576 }, .tlbWalkComplete 288 0,
      .twaitExpiry 2304, .eddyJobFailure 4 ⟨0, 0⟩] : List Instr).all (fun i => !i.wf) = true := by decide

/-! ### Execution: the results that the manual's worked sequences and examples give -/

/-- What an instruction of the vector context puts in flight: for the lanes `ns` of each vector result, the lane and whether it is written. -/
def flightLanes (ns : List Nat) (y : Ctx) : List (List (Nat × Bool)) :=
  y.flight.map fun f => match f.what with
    | .vector _ v m => ns.map fun n => ((v.lane n).toNat, m.getLsbD n)
    | _ => []
/-- The scalar results in flight. -/
def flightScalars (y : Ctx) : List W64 := y.flight.map fun f => match f.what with | .scalar _ v => v | _ => 0#64
/-- The whole vector: every lane. -/
def vall (vd vs1 : Nat) (kind : BitVec 2) (op2 : Nat) (ty : BitVec 4) (var : BitVec 3) : VReg :=
  ⟨always, .v0, BitVec.ofNat 9 vd, BitVec.ofNat 9 vs1, kind, BitVec.ofNat 9 op2, ty, 0#2, var⟩
/-- The operands of the manual's pixel differences, and of its fields, table and sum. -/
def pixels : Ctx :=
  { cx with
    p := [(1, 1#64), (3, ~~~0x400#64)]
    v := [(1, four 0xC0000005#32 1#32 0#32 0#32), (2, Vec.ofLanes fun n => if n = 0 then 5#32 else if n = 10 then 7#32 else 0#32),
      (3, four 0xFF32C80A#32 0x01010101#32 0#32 0#32), (4, four 0x0032BE14#32 0x02020202#32 0#32 0#32),
      (5, four 0x3F9D70A4#32 0x43960000#32 0x43FA0000#32 0x3A83126F#32),
      (6, Vec.ofLanes fun n => if n = 0 then 0x4040#32 else if n = 10 then 0x4080#32 else 0x3F00#32), (7, four 4000#32 100#32 0#32 0#32)]
    c := [(3, 200#32), (8, 0x3F00#32), (9, 0x3F80#32), (10, 0x3FC0#32), (11, 0x4000#32), (12, 0x4020#32), (13, 0x4040#32), (14, 0x4060#32),
      (15, 0x4080#32)] }

/-- R367: the quotient is truncated towards zero and the remainder has the dividend's sign (the worked sequence of file 16). -/
theorem test_div_truncates : after (.div (sreg 7 5 6)) (st cx) flightScalars = some [-3#64] := by decide +kernel
theorem test_rem_sign : after (.rem (sreg 9 5 6)) (st cx) flightScalars = some [-1#64] := by decide +kernel
theorem test_div_by_zero : after (.div (sreg 10 5 8)) (st cx) flightScalars = some [-1#64] := by decide +kernel
/-- R372: LIL clears the other quarters and LIH keeps them. -/
theorem test_lil : after (.lil { simm 1 0 0x32000#20 with slot := .s1 }) (st cx) (fun y => SMap.get 0#64 y.b 1) = some 0x2000000000000000#64 := by decide +kernel
theorem test_lih : after (.lih { simm 1 0 0x10040#20 with slot := .s1 }) (st { cx with b := [(1, 0x2000000000000000#64)] }) (fun y => SMap.get 0#64 y.b 1) =
    some 0x2000000000400000#64 := by decide +kernel
/-- R387, R390: the pixel differences of file 17. -/
theorem test_vsad : after (.vsad (vall 20 3 0 4 13 0)) (st { pixels with v := SMap.set Vec.zero pixels.v 20 (four 1000#32 0#32 0#32 0#32) })
    (flightLanes [0, 1]) = some [[(1275, true), (4, true)]] := by decide +kernel
theorem test_vadds_clamps : after (.vadds ⟨g1, .v0, 7, 7, 1, 3, 14, 0, 0⟩) (st pixels) (fun y => (flightLanes [0] y, y.flight.map fun f => match f.what with | .vector _ _ m => m | _ => 0#64)) = some ([[(4095, true)]], [1#64]) := by
  decide +kernel
/-- R408, R409, R414: the fields, table and sum of file 18. -/
theorem test_vbext : after (.vbext (vall 5 1 2 0 9 2)) { st pixels with lits := [0#32] } (flightLanes [0, 10, 11]) = some [[(5, true), (7, true), (0, true)]] := by decide +kernel
theorem test_vlut : after (.vlut (vall 6 2 1 8 1 0)) (st pixels) (flightLanes [0, 10, 1]) = some [[(0x4040, true), (0x4080, true), (0x3F00, true)]] := by
  decide +kernel
theorem test_vred : after (.vred ⟨⟨0xF0#8, 3#4, 0#4, 0#4⟩, .v0, 7, 6, 0, 336, 1, 0, 0⟩) (st pixels) (flightLanes [0, 10, 63]) =
    some [[(0x4208, true), (0x4208, false), (0x4208, true)]] := by decide +kernel
/-- R299 to R307: the worked conversions of file 12. -/
theorem test_round_b16 : ((fB16.round ⟨.rne, false, 0#32⟩ false (fF32.value 0x3F9D70A4)).bits, (fB16.round ⟨.rup, false, 0#32⟩ false (fF32.value 0x3F9D70A4)).bits,
    (fB16.round ⟨.sr, false, 0x50000000#32⟩ false (fF32.value 0x3F9D70A4)).bits, (fB16.round ⟨.sr, false, 0x90000000#32⟩ false (fF32.value 0x3F9D70A4)).bits) =
    (0x3F9D, 0x3F9E, 0x3F9E, 0x3F9D) := by decide +kernel
theorem test_round_e4 : ((fE4.round ⟨.rne, false, 0#32⟩ false (XR.ofInt 300)).bits, (fE4.round ⟨.rup, false, 0#32⟩ false (XR.ofInt 300)).bits,
    (fE4.round ⟨.rne, true, 0#32⟩ false (XR.ofInt 500)).bits, (fE4.round ⟨.rne, false, 0#32⟩ false (XR.ofInt 500)).bits,
    (fE5.round ⟨.rne, false, 0#32⟩ false (XR.ofInt 500)).bits) = (0x79, 0x7A, 0x7E, 0x7F, 0x60) := by decide +kernel
theorem test_round_small : ((fE4.round ⟨.rne, false, 0#32⟩ false (fF32.value 0x3A83126F)).bits, (fE4.round ⟨.rtz, false, 0#32⟩ false (fF32.value 0x3A83126F)).bits,
    (fM4.round ⟨.rne, false, 0#32⟩ false (XR.dyadic true 5 (-1))).bits) = (0x01, 0x00, 0xC) := by decide +kernel
theorem test_mx_scale : mxScale 4 (XR.ofInt 5) = 127 := by decide +kernel
/-- R434: an address register built from two literals. -/
theorem test_dli : after (.dli ⟨always, 3, 3, 0, 0, 0x8000, 0⟩) (st cx) (fun y => SMap.get 0#64 y.d 3) = some 0x8000000000000000#64 := by decide +kernel
theorem test_dli_ins : after (.dli ⟨always, 3, 0, 1, 0, 0x1000, 0⟩) (st { cx with d := [(3, 0x8000000000000000#64)] }) (fun y => SMap.get 0#64 y.d 3) =
    some 0x8000000000001000#64 := by decide +kernel
/-- R172: the check value of CRC-32C over the nine digits. -/
theorem test_crc : crc32c [0x31, 0x32, 0x33, 0x34, 0x35, 0x36, 0x37, 0x38, 0x39] = 0xE3069283#32 := by decide +kernel
/-- R188, R189: the block that file 08 encodes. -/
def codecBlock : List Byte :=
  ((List.range 8).flatMap fun n => toBytes 4 (n + 1)) ++ ((List.range 8).flatMap fun n => toBytes 4 (n + 1)) ++
    (List.replicate 16 [0x80#8, 0x3F#8]).flatten ++ List.replicate 4000 0#8
theorem test_codec : ((encodeBlock codecBlock).length, (encodeBlock codecBlock).take 2, ((encodeBlock codecBlock).drop 32).take 8, ((encodeBlock codecBlock).drop 64).take 6) =
    (96, [0x2D, 0], [1, 0, 0, 0, 2, 0, 0, 0], [0x80, 0x3F, 0x80, 0x3F, 0, 0]) := by decide +kernel
/-- The 12-bit pixels of files 08 and 18. -/
theorem test_unpack12 : unpackPixels false 2 [0x23, 0x41, 0x56] = [0x23, 0x01, 0x64, 0x05] := by decide +kernel
/-- R36 to R38: the mapping of file 02. -/
theorem test_channel : (channelOf 0x04020000, channelOf 0x04024800) = (8, 4 * 64 + 9) := by decide +kernel
/-- R19: the switch tick of file 01. -/
theorem test_switch_tick : switchTick 5000000300 = 5000001000 := by decide
/-- R75: the scales of file 03's worked seal and rescale. -/
theorem test_seal_scale : (sealScale 2 1 0x40B00000 0x42800000, sealScale 2 1 0x41A00000 0x42000000) = (0x42000000, 0x41000000) := by decide +kernel

/-! ### Witnesses: values that meet the hypotheses of the statements about the scalar and control slots -/
/-! Variants of the values above that the witnesses name. -/
def v01a := { sreg 0 2 0 with slot := .s1 }

theorem witness_add :
    (st cx).Issues cx ∧
    cx.Guarded (sreg 3 1 5).g ∧
    NoBad (sregChecks (sreg 3 1 5) true true true) := ⟨issues_cx, rfl, rfl⟩
theorem witness_addi :
    (st cx).Issues cx ∧
    cx.Guarded (simm 3 1 1048569#20).g ∧
    NoBad (simmChecks (simm 3 1 1048569#20) true true) := ⟨issues_cx, rfl, rfl⟩
theorem witness_divide :
    (st cx).Issues cx ∧
    cx.Guarded (sreg 3 5 6).g ∧
    NoBad (sregChecks (sreg 3 5 6) true true true) ∧
    cx.rs2 (sreg 3 5 6) ≠ 0#64 := ⟨issues_cx, rfl, rfl, by decide⟩
theorem witness_divide_by_zero :
    (st cx).Issues cx ∧
    cx.Guarded (sreg 3 5 7).g ∧
    NoBad (sregChecks (sreg 3 5 7) true true true) ∧
    cx.rs2 (sreg 3 5 7) = 0#64 := ⟨issues_cx, rfl, rfl, rfl⟩
theorem witness_logic :
    (st cx).Issues cx ∧
    cx.Guarded (sreg 3 5 2).g ∧
    NoBad (sregChecks (sreg 3 5 2) true true true) := ⟨issues_cx, rfl, rfl⟩
theorem witness_logic_immediate :
    (st cx).Issues cx ∧
    cx.Guarded (simm 3 5 1048575#20).g ∧
    NoBad (simmChecks (simm 3 5 1048575#20) true true) := ⟨issues_cx, rfl, rfl⟩
theorem witness_count :
    (st cx).Issues cx ∧
    cx.Guarded (sreg 3 2 0).g ∧
    NoBad (sregChecks (sreg 3 2 0) true true false) := ⟨issues_cx, rfl, rfl⟩
theorem witness_field_past_bit_63 :
    (st cx).Issues cx ∧
    cx.Guarded (simm 3 1 4095#20).g ∧
    NoBad (simmChecks (simm 3 1 4095#20) true true) ∧
    64 < (simm 3 1 4095#20).imm.toNat % 64 + ((simm 3 1 4095#20).imm.toNat / 64 % 64 + 1) := ⟨issues_cx, rfl, rfl, by decide⟩
theorem witness_li :
    (st cx).Issues cx ∧
    cx.Guarded (simm 3 0 524288#20).g ∧
    NoBad (simmChecks (simm 3 0 524288#20) true false) := ⟨issues_cx, rfl, rfl⟩
theorem witness_shadd :
    (st cx).Issues cx ∧
    cx.Guarded (simm 3 5 8127#20).g ∧
    NoBad (simmChecks (simm 3 5 8127#20) true true) ∧
    immRs2Bad (simm 3 5 8127#20) = false ∧
    (simm 3 5 8127#20).imm.toNat / 8192 = 0 := ⟨issues_cx, rfl, rfl, rfl, by decide⟩
theorem witness_ext :
    (st cx).Issues cx ∧
    cx.Guarded (simm 3 5 8128#20).g ∧
    NoBad (simmChecks (simm 3 5 8128#20) true true) ∧
    (simm 3 5 8128#20).imm.toNat / 8192 = 0 ∧
    (simm 3 5 8128#20).imm.toNat % 64 + ((simm 3 5 8128#20).imm.toNat / 64 % 64 + 1) ≤ 64 := ⟨issues_cx, rfl, rfl, by decide, by decide⟩
theorem witness_ins :
    (st cx).Issues cx ∧
    cx.Guarded (simm 3 5 63#20).g ∧
    NoBad (simmChecks (simm 3 5 63#20) true true) ∧
    (simm 3 5 63#20).imm.toNat / 4096 = 0 ∧
    (simm 3 5 63#20).imm.toNat % 64 + ((simm 3 5 63#20).imm.toNat / 64 % 64 + 1) ≤ 64 := ⟨issues_cx, rfl, rfl, by decide, by decide⟩
theorem witness_lil_lih :
    (st cx).Issues cx ∧
    cx.Guarded (simm 5 0 196609#20).g ∧
    NoBad (simmChecks (simm 5 0 196609#20) true false) ∧
    (simm 5 0 196609#20).imm.toNat / 262144 = 0 := ⟨issues_cx, rfl, rfl, by decide⟩
theorem witness_cmp :
    (st cx).Issues cx ∧
    (∀ (a b : W64),
  holds 0 a b = decide (a = b) ∧
    holds 1 a b = decide (a ≠ b) ∧
      holds 2 a b = BitVec.slt a b ∧
        holds 3 a b = BitVec.sle b a ∧ holds 4 a b = BitVec.ult a b ∧ holds 5 a b = BitVec.ule b a ∧ holds 6 a b = decide (a &&& b ≠ 0#64)) ∧
    cx.Guarded (sreg 21 5 6).g ∧
    (sreg 21 5 6).rd.toNat = 8 * 2 + 5 ∧
    2 < 7 ∧
    5 < 6 ∧
    latchBad ((sreg 21 5 6).q.getLsbD 1) (sreg 21 5 6).rs1 = false ∧
    latchBad ((sreg 21 5 6).q.getLsbD 0) (sreg 21 5 6).rs2 = false ∧
    (sreg 21 5 6).q.getLsbD 2 = false ∧
    (sreg 21 5 6).rest = 0#17 := ⟨issues_cx, (fun x x_1 => ⟨rfl, ⟨rfl, ⟨rfl, ⟨rfl, ⟨rfl, ⟨rfl, rfl⟩⟩⟩⟩⟩⟩), rfl, rfl, by decide, by decide, rfl, rfl, rfl, rfl⟩
theorem witness_cmp_code_0 :
    (st cx).Issues cx ∧
    (∀ (a b : W64),
  holds 0 a b = decide (a = b) ∧
    holds 1 a b = decide (a ≠ b) ∧
      holds 2 a b = BitVec.slt a b ∧
        holds 3 a b = BitVec.sle b a ∧ holds 4 a b = BitVec.ult a b ∧ holds 5 a b = BitVec.ule b a ∧ holds 6 a b = decide (a &&& b ≠ 0#64)) ∧
    cx.Guarded (sreg 0 5 6).g ∧
    (sreg 0 5 6).rd.toNat = 8 * 0 + 0 ∧
    0 < 7 ∧
    0 < 6 ∧
    latchBad ((sreg 0 5 6).q.getLsbD 1) (sreg 0 5 6).rs1 = false ∧
    latchBad ((sreg 0 5 6).q.getLsbD 0) (sreg 0 5 6).rs2 = false ∧
    (sreg 0 5 6).q.getLsbD 2 = false ∧
    (sreg 0 5 6).rest = 0#17 := ⟨issues_cx, (fun x x_1 => ⟨rfl, ⟨rfl, ⟨rfl, ⟨rfl, ⟨rfl, ⟨rfl, rfl⟩⟩⟩⟩⟩⟩), rfl, rfl, by decide, by decide, rfl, rfl, rfl, rfl⟩
theorem witness_cmpi :
    (st cx).Issues cx ∧
    (∀ (a b : W64),
  holds 0 a b = decide (a = b) ∧
    holds 1 a b = decide (a ≠ b) ∧
      holds 2 a b = BitVec.slt a b ∧
        holds 3 a b = BitVec.sle b a ∧ holds 4 a b = BitVec.ult a b ∧ holds 5 a b = BitVec.ule b a ∧ holds 6 a b = decide (a &&& b ≠ 0#64)) ∧
    cx.Guarded (simm 50 5 1048569#20).g ∧
    (simm 50 5 1048569#20).rd.toNat = 8 * 6 + 2 ∧
    6 < 7 ∧
    2 < 6 ∧
    latchBad ((simm 50 5 1048569#20).q.getLsbD 1) (simm 50 5 1048569#20).rs1 = false ∧
    (simm 50 5 1048569#20).q.getLsbD 2 = false ∧
    (simm 50 5 1048569#20).rest = 0#3 := ⟨issues_cx, (fun x x_1 => ⟨rfl, ⟨rfl, ⟨rfl, ⟨rfl, ⟨rfl, ⟨rfl, rfl⟩⟩⟩⟩⟩⟩), rfl, rfl, by decide, by decide, rfl, rfl, rfl⟩
theorem witness_sel :
    (st cx).Issues cx ∧
    (∀ (a b : W64),
  holds 0 a b = decide (a = b) ∧
    holds 1 a b = decide (a ≠ b) ∧
      holds 2 a b = BitVec.slt a b ∧
        holds 3 a b = BitVec.sle b a ∧ holds 4 a b = BitVec.ult a b ∧ holds 5 a b = BitVec.ule b a ∧ holds 6 a b = decide (a &&& b ≠ 0#64)) ∧
    cx.Guarded (simm 3 5 1926#20).g ∧
    NoBad (simmChecks (simm 3 5 1926#20) true true) ∧
    immRs2Bad (simm 3 5 1926#20) = false ∧
    (simm 3 5 1926#20).imm.toNat / 2048 = 0 := ⟨issues_cx, (fun x x_1 => ⟨rfl, ⟨rfl, ⟨rfl, ⟨rfl, ⟨rfl, ⟨rfl, rfl⟩⟩⟩⟩⟩⟩), rfl, rfl, rfl, by decide⟩
theorem witness_cpy_scalar :
    (st cx).Issues cx ∧
    cx.Guarded (simm 0 5 327683#20).g ∧
    NoBad (simmChecks (simm 0 5 327683#20) false true) ∧
    (simm 0 5 327683#20).imm.toNat = 65536 * 5 + 3 ∧
    5 < 6 ∧
    3 < [64, 64, 32, 32, 16, 4].getD 5 0 := ⟨issues_cx, rfl, rfl, by decide, by decide, by decide⟩
theorem witness_cpy_lane :
    (st cx).Issues cx ∧
    cx.Guarded (simm 0 5 523455#20).g ∧
    NoBad (simmChecks (simm 0 5 523455#20) false true) ∧
    (simm 0 5 523455#20).imm.toNat = 65536 * 7 + 1024 * 63 + 191 ∧
    6 ≤ 7 ∧
    7 < 8 ∧
    63 < 64 ∧
    191 < 512 ∧
    191 < partVreg ((st cx).part (st cx).cur) := ⟨issues_cx, rfl, rfl, by decide, by decide, by decide, by decide, by decide, by decide⟩
theorem witness_cpy_broadcast :
    (st cx).Issues cx ∧
    cx.Guarded (simm 0 5 393728#20).g ∧
    NoBad (simmChecks (simm 0 5 393728#20) false true) ∧
    (simm 0 5 393728#20).imm.toNat = 65536 * 6 + 512 + 0 ∧
    6 ≤ 6 ∧
    6 < 8 ∧
    0 < 512 ∧
    0 < partVreg ((st cx).part (st cx).cur) := ⟨issues_cx, rfl, rfl, by decide, by decide, by decide, by decide, by decide⟩
theorem witness_mfs_status :
    (st ux).Issues ux ∧
    ux.Guarded (simm 3 0 0#20).g ∧
    NoBad (simmChecks (simm 3 0 0#20) true false) ∧
    (simm 3 0 0#20).imm.toNat < 4096 ∧
    (specialSup ((simm 3 0 0#20).imm.toNat % 4096) = true → ux.sup = true) ∧
    (simm 3 0 0#20).imm.toNat % 4096 = 0 := ⟨issues_ux, rfl, rfl, by decide, by decide, rfl⟩
theorem witness_mfs_constant :
    (st cx).Issues cx ∧
    cx.Guarded (simm 3 0 511#20).g ∧
    NoBad (simmChecks (simm 3 0 511#20) true false) ∧
    (simm 3 0 511#20).imm.toNat < 4096 ∧
    (specialSup ((simm 3 0 511#20).imm.toNat % 4096) = true → cx.sup = true) ∧
    ((simm 3 0 511#20).imm.toNat % 4096 = 0 ∧ 0#64 = cx.status ∨
  (simm 3 0 511#20).imm.toNat % 4096 = 1 ∧ 0#64 = cx.fmt ∨
    (simm 3 0 511#20).imm.toNat % 4096 = 2 ∧ 0#64 = BitVec.zeroExtend 64 cx.tcoord ∨
      (simm 3 0 511#20).imm.toNat % 4096 = 3 ∧ 0#64 = BitVec.zeroExtend 64 cx.tag ∨
        (simm 3 0 511#20).imm.toNat % 4096 = 4 ∧ 0#64 = (st cx).part (st cx).cur ∨
          (simm 3 0 511#20).imm.toNat % 4096 = 5 ∧ 0#64 = coreWord (st cx).cur ∨
            (simm 3 0 511#20).imm.toNat % 4096 = 6 ∧ 0#64 = BitVec.zeroExtend 64 ((st cx).cluster (ctxCluster (st cx).cur)).winmode ∨
              (simm 3 0 511#20).imm.toNat % 4096 = 7 ∧ 0#64 = cx.ovfptr ∨
                (simm 3 0 511#20).imm.toNat % 4096 = 8 ∧ 0#64 = BitVec.zeroExtend 64 cx.sptop ∨
                  (simm 3 0 511#20).imm.toNat % 4096 = 9 ∧ 0#64 = BitVec.ofNat 64 (st cx).time ∨
                    (simm 3 0 511#20).imm.toNat % 4096 = 16 ∧ 0#64 = (st cx).tvec (ctxDie (st cx).cur) ∨
                      (simm 3 0 511#20).imm.toNat % 4096 = 17 ∧ 0#64 = cx.tcause ∨
                        (simm 3 0 511#20).imm.toNat % 4096 = 18 ∧ 0#64 = cx.traparg ∨
                          (simm 3 0 511#20).imm.toNat % 4096 = 19 ∧ 0#64 = cx.tpc ∨
                            (simm 3 0 511#20).imm.toNat % 4096 = 20 ∧ 0#64 = cx.txpc ∨
                              256 ≤ (simm 3 0 511#20).imm.toNat % 4096 ∧
                                (simm 3 0 511#20).imm.toNat % 4096 < 512 ∧
                                  0#64 = BitVec.zeroExtend 64 (SMap.get (0#32) cx.c ((simm 3 0 511#20).imm.toNat % 4096 - 256))) := ⟨issues_cx, rfl, rfl, by decide, by decide, id (of_decide_eq_true (id (Eq.refl true)))⟩
theorem witness_mfs_txpc :
    (st cx).Issues cx ∧
    cx.Guarded (simm 3 0 20#20).g ∧
    NoBad (simmChecks (simm 3 0 20#20) true false) ∧
    (simm 3 0 20#20).imm.toNat < 4096 ∧
    (specialSup ((simm 3 0 20#20).imm.toNat % 4096) = true → cx.sup = true) ∧
    ((simm 3 0 20#20).imm.toNat % 4096 = 0 ∧ cx.txpc = cx.status ∨
  (simm 3 0 20#20).imm.toNat % 4096 = 1 ∧ cx.txpc = cx.fmt ∨
    (simm 3 0 20#20).imm.toNat % 4096 = 2 ∧ cx.txpc = BitVec.zeroExtend 64 cx.tcoord ∨
      (simm 3 0 20#20).imm.toNat % 4096 = 3 ∧ cx.txpc = BitVec.zeroExtend 64 cx.tag ∨
        (simm 3 0 20#20).imm.toNat % 4096 = 4 ∧ cx.txpc = (st cx).part (st cx).cur ∨
          (simm 3 0 20#20).imm.toNat % 4096 = 5 ∧ cx.txpc = coreWord (st cx).cur ∨
            (simm 3 0 20#20).imm.toNat % 4096 = 6 ∧ cx.txpc = BitVec.zeroExtend 64 ((st cx).cluster (ctxCluster (st cx).cur)).winmode ∨
              (simm 3 0 20#20).imm.toNat % 4096 = 7 ∧ cx.txpc = cx.ovfptr ∨
                (simm 3 0 20#20).imm.toNat % 4096 = 8 ∧ cx.txpc = BitVec.zeroExtend 64 cx.sptop ∨
                  (simm 3 0 20#20).imm.toNat % 4096 = 9 ∧ cx.txpc = BitVec.ofNat 64 (st cx).time ∨
                    (simm 3 0 20#20).imm.toNat % 4096 = 16 ∧ cx.txpc = (st cx).tvec (ctxDie (st cx).cur) ∨
                      (simm 3 0 20#20).imm.toNat % 4096 = 17 ∧ cx.txpc = cx.tcause ∨
                        (simm 3 0 20#20).imm.toNat % 4096 = 18 ∧ cx.txpc = cx.traparg ∨
                          (simm 3 0 20#20).imm.toNat % 4096 = 19 ∧ cx.txpc = cx.tpc ∨
                            (simm 3 0 20#20).imm.toNat % 4096 = 20 ∧ cx.txpc = cx.txpc ∨
                              256 ≤ (simm 3 0 20#20).imm.toNat % 4096 ∧
                                (simm 3 0 20#20).imm.toNat % 4096 < 512 ∧
                                  cx.txpc = BitVec.zeroExtend 64 (SMap.get (0#32) cx.c ((simm 3 0 20#20).imm.toNat % 4096 - 256))) := ⟨issues_cx, rfl, rfl, by decide, by decide, by decide⟩
theorem witness_mts_tvec :
    (st cx).Issues cx ∧
    cx.Guarded (simm 0 1 16#20).g ∧
    NoBad (simmChecks (simm 0 1 16#20) false true) ∧
    (simm 0 1 16#20).imm.toNat < 4096 ∧
    (specialSup ((simm 0 1 16#20).imm.toNat % 4096) = true → cx.sup = true) ∧
    ((simm 0 1 16#20).imm.toNat % 4096 = 0 ∨
  (simm 0 1 16#20).imm.toNat % 4096 = 7 ∨
    (simm 0 1 16#20).imm.toNat % 4096 = 16 ∨
      (simm 0 1 16#20).imm.toNat % 4096 = 17 ∨
        (simm 0 1 16#20).imm.toNat % 4096 = 19 ∨ 256 ≤ (simm 0 1 16#20).imm.toNat % 4096 ∧ (simm 0 1 16#20).imm.toNat % 4096 < 512) := ⟨issues_cx, rfl, rfl, by decide, by decide, by decide⟩
theorem witness_mts_constant :
    (st ux).Issues ux ∧
    ux.Guarded (simm 0 1 256#20).g ∧
    NoBad (simmChecks (simm 0 1 256#20) false true) ∧
    (simm 0 1 256#20).imm.toNat < 4096 ∧
    (specialSup ((simm 0 1 256#20).imm.toNat % 4096) = true → ux.sup = true) ∧
    ((simm 0 1 256#20).imm.toNat % 4096 = 0 ∨
  (simm 0 1 256#20).imm.toNat % 4096 = 7 ∨
    (simm 0 1 256#20).imm.toNat % 4096 = 16 ∨
      (simm 0 1 256#20).imm.toNat % 4096 = 17 ∨
        (simm 0 1 256#20).imm.toNat % 4096 = 19 ∨ 256 ≤ (simm 0 1 256#20).imm.toNat % 4096 ∧ (simm 0 1 256#20).imm.toNat % 4096 < 512) := ⟨issues_ux, rfl, rfl, by decide, by decide, by decide⟩
theorem witness_brx :
    (st cx).Issues cx ∧
    cx.Guarded (ctl 2 0 0).g ∧
    (ctl 2 0 0).pd = 0#4 ∧
    (ctl 2 0 0).pe = 0#4 ∧
    (ctl 2 0 0).x = 0#8 ∧
    (ctl 2 0 0).imm = 0#20 := ⟨issues_cx, rfl, rfl, rfl, rfl, rfl⟩
theorem witness_brx_s1 :
    (st cx).Issues cx ∧
    cx.Guarded v01a.g ∧
    NoBad (sregChecks v01a false true false) := ⟨issues_cx, rfl, rfl⟩

/-- A context in a handler, with a snapshot to return to. -/
def handler : Ctx := { cx with tpc := 0x12340#64, tcause := 0x0E000013#64, snap := some ⟨[⟨2, .scalar (.a 3) 9#64⟩], none, {}, [], [], [], []⟩ }
theorem issues_handler : (st handler).Issues handler := issues_of _ _ rfl rfl rfl rfl rfl ⟨rfl, rfl, rfl, rfl⟩ rfl
/-- Two contexts of one gang; the first has arrived at barrier 31. -/
def gangOfTwo : State :=
  { st cx with ctxs := [(0, some cx), (4, some { cx with member := 1 })], gangs := [{ id := 0, die := 0, step := none, klass := 3, members := [(0, 0), (4, 1)], ntask := 2, joinwait := 0, win := 1#3, part := 0x020C0882#64, savebase := 0#64, cores := [0, 1] }] }
/-! Variants of the values above that the witnesses name. -/
def v02a := { vote with x := 1 }
def v02b : Ctx := { cx with loops := { arv := some 0x10000#48 } }
def v02c : State := { gangOfTwo.barArrive 0 0 0 31 with ctxs := [(0, some v02b), (4, some { cx with member := 1 })] }

theorem witness_prep :
    (st cx).Issues cx ∧
    cx.Guarded (ctl 3 0 524288#20).g ∧
    (ctl 3 0 524288#20).pd = 0#4 ∧
    (ctl 3 0 524288#20).pe = 0#4 ∧
    (ctl 3 0 524288#20).x = 0#8 := ⟨issues_cx, rfl, rfl, rfl, rfl⟩
theorem witness_prep_absolute :
    lit.Issues cx ∧
    cx.Guarded (ctl 3 1 0#20).g ∧
    (ctl 3 1 0#20).pd = 0#4 ∧
    (ctl 3 1 0#20).pe = 0#4 ∧
    (ctl 3 1 0#20).x = 1#8 ∧
    (ctl 3 1 0#20).imm.toNat = 0 ∧
    0 < 4 ∧
    0 + 1 < lit.lits.length ∧
    BitVec.toNat (lit.lits.getD (0 + 1) 0#32) < 65536 := ⟨issues_lit, rfl, rfl, rfl, rfl, rfl, by decide, by decide, by decide⟩
theorem witness_vote :
    (st cx).Issues cx ∧
    cx.Guarded vote.g ∧
    vote.j = 0#2 ∧
    vote.imm = 0#20 ∧
    vote.x = 0#8 := ⟨issues_cx, rfl, rfl, rfl, rfl⟩
theorem witness_vote_all :
    (st cx).Issues cx ∧
    cx.Guarded v02a.g ∧
    v02a.j = 0#2 ∧
    v02a.imm = 0#20 ∧
    v02a.x = 1#8 := ⟨issues_cx, rfl, rfl, rfl, rfl⟩
theorem witness_ptt :
    (st cx).Issues cx ∧
    cx.Guarded { g := always, j := 0, pd := 1, pe := 0, x := 150#8, imm := 255#20 : CForm }.g ∧
    { g := always, j := 0, pd := 1, pe := 0, x := 150#8, imm := 255#20 : CForm }.j = 0#2 ∧
    { g := always, j := 0, pd := 1, pe := 0, x := 150#8, imm := 255#20 : CForm }.imm.toNat < 256 := ⟨issues_cx, rfl, rfl, by decide⟩
theorem witness_loop :
    (st cx).Issues cx ∧
    cx.Guarded (ctl 0 6 4095#20).g ∧
    (ctl 0 6 4095#20).pd = 0#4 ∧
    (ctl 0 6 4095#20).pe = 0#4 ∧
    (ctl 0 6 4095#20).j = 0#2 ∧
    1 ≤ (ctl 0 6 4095#20).x.toNat ∧
    (ctl 0 6 4095#20).x.toNat ≤ 6 ∧
    1 ≤ (ctl 0 6 4095#20).imm.toNat ∧
    (ctl 0 6 4095#20).imm.toNat ≤ 4095 := ⟨issues_cx, rfl, rfl, rfl, rfl, by decide, by decide, by decide, by decide⟩
theorem witness_loop_least :
    (st cx).Issues cx ∧
    cx.Guarded (ctl 0 1 1#20).g ∧
    (ctl 0 1 1#20).pd = 0#4 ∧
    (ctl 0 1 1#20).pe = 0#4 ∧
    (ctl 0 1 1#20).j = 0#2 ∧
    1 ≤ (ctl 0 1 1#20).x.toNat ∧
    (ctl 0 1 1#20).x.toNat ≤ 6 ∧
    1 ≤ (ctl 0 1 1#20).imm.toNat ∧
    (ctl 0 1 1#20).imm.toNat ≤ 4095 := ⟨issues_cx, rfl, rfl, rfl, rfl, by decide, by decide, by decide, by decide⟩
theorem witness_lset :
    (st cx).Issues cx ∧
    cx.Guarded (ctl 0 5 1048575#20).g ∧
    (ctl 0 5 1048575#20).pd = 0#4 ∧
    (ctl 0 5 1048575#20).pe = 0#4 ∧
    (ctl 0 5 1048575#20).j = 0#2 ∧
    (ctl 0 5 1048575#20).x.toNat ≤ 5 ∧
    (ctl 0 5 1048575#20).imm ≠ 0#20 := ⟨issues_cx, rfl, rfl, rfl, rfl, by decide, by decide⟩
theorem witness_lset_register :
    (st cx).Issues cx ∧
    cx.Guarded (ctl 2 13 0#20).g ∧
    (ctl 2 13 0#20).pd = 0#4 ∧
    (ctl 2 13 0#20).pe = 0#4 ∧
    (ctl 2 13 0#20).x.toNat = 8 + 5 ∧
    5 ≤ 5 ∧
    (ctl 2 13 0#20).imm = 0#20 := ⟨issues_cx, rfl, rfl, rfl, rfl, by decide, rfl⟩
theorem witness_lstr :
    (st cx).Issues cx ∧
    cx.Guarded (ctl 0 248#8 1048320#20).g ∧
    (ctl 0 248#8 1048320#20).pd = 0#4 ∧
    (ctl 0 248#8 1048320#20).pe = 0#4 ∧
    (ctl 0 248#8 1048320#20).j = 0#2 ∧
    (ctl 0 248#8 1048320#20).x.toNat = 8 * 31 + 0 ∧
    0 ≤ 5 ∧
    (setLink cx.loops.links 31 0 (BitVec.signExtend 64 (ctl 0 248#8 1048320#20).imm)).length ≤ 8 := ⟨issues_cx, rfl, rfl, rfl, rfl, rfl, by decide, by decide⟩
theorem witness_nop_yield :
    (st cx).Issues cx ∧
    cx.Guarded (ctl 0 0 0).g ∧
    (ctl 0 0 0).j = 0#2 ∧
    (ctl 0 0 0).pd = 0#4 ∧
    (ctl 0 0 0).pe = 0#4 ∧
    (ctl 0 0 0).x = 0#8 ∧
    (ctl 0 0 0).imm = 0#20 := ⟨issues_cx, rfl, rfl, rfl, rfl, rfl, rfl⟩
theorem witness_waitk :
    (st cx).Issues cx ∧
    cx.Guarded (ctl 0 255 0).g ∧
    (ctl 0 255 0).j = 0#2 ∧
    (ctl 0 255 0).pd = 0#4 ∧
    (ctl 0 255 0).pe = 0#4 ∧
    (ctl 0 255 0).imm = 0#20 ∧
    (∀ (k : Nat), k < 8 → (ctl 0 255 0).x.getLsbD k = true → SMap.get { : Token } cx.k k = { : Token }) := ⟨issues_cx, rfl, rfl, rfl, rfl, rfl, fun _ _ _ => rfl⟩
theorem witness_spin :
    (st cx).Issues cx ∧
    cx.Guarded (ctl 0 0 1048575).g ∧
    (ctl 0 0 1048575).j = 0#2 ∧
    (ctl 0 0 1048575).pd = 0#4 ∧
    (ctl 0 0 1048575).pe = 0#4 ∧
    (ctl 0 0 1048575).x = 0#8 := ⟨issues_cx, rfl, rfl, rfl, rfl, rfl⟩
theorem witness_barv :
    (st cx).Issues cx ∧
    cx.Guarded (ctl 0 0 31).g ∧
    (ctl 0 0 31).j = 0#2 ∧
    (ctl 0 0 31).pd = 0#4 ∧
    (ctl 0 0 31).pe = 0#4 ∧
    (ctl 0 0 31).x = 0#8 ∧
    (ctl 0 0 31).imm.toNat < 32 := ⟨issues_cx, rfl, rfl, rfl, rfl, rfl, by decide⟩
theorem witness_bwait :
    (st cx).Issues cx ∧
    cx.Guarded (ctl 0 0 31).g ∧
    (ctl 0 0 31).j = 0#2 ∧
    (ctl 0 0 31).pd = 0#4 ∧
    (ctl 0 0 31).pe = 0#4 ∧
    (ctl 0 0 31).x = 0#8 ∧
    (ctl 0 0 31).imm.toNat < 32 ∧
    (st cx).barArrived cx.gang cx.member (ctl 0 0 31).imm.toNat = false := ⟨issues_cx, rfl, rfl, rfl, rfl, rfl, by decide, by decide⟩
theorem witness_bwait_arrive :
    (st cx).Issues cx ∧
    cx.Guarded (ctl 0 1 0).g ∧
    (ctl 0 1 0).j = 0#2 ∧
    (ctl 0 1 0).pd = 0#4 ∧
    (ctl 0 1 0).pe = 0#4 ∧
    (ctl 0 1 0).x = 1#8 ∧
    (ctl 0 1 0).imm.toNat < 32 ∧
    ((((st cx).barArrive (st cx).cur cx.gang cx.member (ctl 0 1 0).imm.toNat).modCtx (st cx).cur fun y =>
        { pc := y.pc, a := y.a, b := y.b, d := y.d, e := y.e, j := y.j, m := y.m, v := y.v, w := y.w, q := y.q, qv := y.qv, qw := y.qw,
          p := y.p, c := y.c, k := y.k, f := y.f, z := y.z, subflag := y.subflag, brlost := y.brlost, latchlost := y.latchlost,
          sup := y.sup, fmt := y.fmt, tcoord := y.tcoord, tag := y.tag, ovfptr := y.ovfptr, sptop := y.sptop, srseq0 := y.srseq0,
          srseq1 := y.srseq1, tcause := y.tcause, traparg := y.traparg, tpc := y.tpc, txpc := y.txpc, count := y.count, flight := y.flight,
          br := y.br,
          loops :=
            have __src := y.loops;
            { v0 := __src.v0, v1 := __src.v1, m := __src.m, l := __src.l, counts := __src.counts, links := __src.links, nest := __src.nest,
              starting := __src.starting, skip := __src.skip, arv := some cx.pc, tw := __src.tw : LoopState },
          repLeft := y.repLeft, arrived := y.arrived, spin := y.spin, snap := y.snap, due := y.due, run := y.run, age := y.age,
          gang := y.gang, member := y.member, posts := y.posts, fences := y.fences, join := y.join, results := y.results,
          resultNo := y.resultNo : Ctx }).ctx
    (st cx).cur =
  some v02b) ∧
    ((((st cx).barArrive (st cx).cur cx.gang cx.member (ctl 0 1 0).imm.toNat).modCtx (st cx).cur fun y =>
        { pc := y.pc, a := y.a, b := y.b, d := y.d, e := y.e, j := y.j, m := y.m, v := y.v, w := y.w, q := y.q, qv := y.qv, qw := y.qw,
          p := y.p, c := y.c, k := y.k, f := y.f, z := y.z, subflag := y.subflag, brlost := y.brlost, latchlost := y.latchlost,
          sup := y.sup, fmt := y.fmt, tcoord := y.tcoord, tag := y.tag, ovfptr := y.ovfptr, sptop := y.sptop, srseq0 := y.srseq0,
          srseq1 := y.srseq1, tcause := y.tcause, traparg := y.traparg, tpc := y.tpc, txpc := y.txpc, count := y.count, flight := y.flight,
          br := y.br,
          loops :=
            have __src := y.loops;
            { v0 := __src.v0, v1 := __src.v1, m := __src.m, l := __src.l, counts := __src.counts, links := __src.links, nest := __src.nest,
              starting := __src.starting, skip := __src.skip, arv := some cx.pc, tw := __src.tw : LoopState },
          repLeft := y.repLeft, arrived := y.arrived, spin := y.spin, snap := y.snap, due := y.due, run := y.run, age := y.age,
          gang := y.gang, member := y.member, posts := y.posts, fences := y.fences, join := y.join, results := y.results,
          resultNo := y.resultNo : Ctx }).barArrived
    v02b.gang v02b.member (ctl 0 1 0).imm.toNat =
  false) := ⟨issues_cx, rfl, rfl, rfl, rfl, rfl, by decide, rfl, by decide⟩
theorem witness_bwait_waits :
    (gangOfTwo.barArrive 0 0 0 31).Presents cx ∧
    cx.Guarded (ctl 0 0 31).g ∧
    (ctl 0 0 31).j = 0#2 ∧
    (ctl 0 0 31).pd = 0#4 ∧
    (ctl 0 0 31).pe = 0#4 ∧
    (ctl 0 0 31).imm.toNat < 32 ∧
    cx.loops.tw = none ∧
    (ctl 0 0 31).x = 0#8 ∧
    cx.loops.arv = none ∧
    (gangOfTwo.barArrive 0 0 0 31).barArrived cx.gang cx.member (ctl 0 0 31).imm.toNat = true := ⟨presents_of _ _ rfl rfl rfl rfl rfl ⟨rfl, rfl, rfl, rfl⟩ rfl, rfl, rfl, rfl, rfl, by decide, rfl, rfl, rfl, by decide⟩
theorem witness_bwait_arrives_and_waits :
    gangOfTwo.Presents cx ∧
    cx.Guarded (ctl 0 1 31).g ∧
    (ctl 0 1 31).j = 0#2 ∧
    (ctl 0 1 31).pd = 0#4 ∧
    (ctl 0 1 31).pe = 0#4 ∧
    (ctl 0 1 31).imm.toNat < 32 ∧
    cx.loops.tw = none ∧
    (ctl 0 1 31).x = 1#8 ∧
    cx.loops.arv = none ∧
    (((gangOfTwo.barArrive gangOfTwo.cur cx.gang cx.member (ctl 0 1 31).imm.toNat).modCtx gangOfTwo.cur fun y =>
        { pc := y.pc, a := y.a, b := y.b, d := y.d, e := y.e, j := y.j, m := y.m, v := y.v, w := y.w, q := y.q, qv := y.qv, qw := y.qw,
          p := y.p, c := y.c, k := y.k, f := y.f, z := y.z, subflag := y.subflag, brlost := y.brlost, latchlost := y.latchlost,
          sup := y.sup, fmt := y.fmt, tcoord := y.tcoord, tag := y.tag, ovfptr := y.ovfptr, sptop := y.sptop, srseq0 := y.srseq0,
          srseq1 := y.srseq1, tcause := y.tcause, traparg := y.traparg, tpc := y.tpc, txpc := y.txpc, count := y.count, flight := y.flight,
          br := y.br,
          loops :=
            have __src := y.loops;
            { v0 := __src.v0, v1 := __src.v1, m := __src.m, l := __src.l, counts := __src.counts, links := __src.links, nest := __src.nest,
              starting := __src.starting, skip := __src.skip, arv := some cx.pc, tw := __src.tw : LoopState },
          repLeft := y.repLeft, arrived := y.arrived, spin := y.spin, snap := y.snap, due := y.due, run := y.run, age := y.age,
          gang := y.gang, member := y.member, posts := y.posts, fences := y.fences, join := y.join, results := y.results,
          resultNo := y.resultNo : Ctx }).ctx
    gangOfTwo.cur =
  some v02b) ∧
    (((gangOfTwo.barArrive gangOfTwo.cur cx.gang cx.member (ctl 0 1 31).imm.toNat).modCtx gangOfTwo.cur fun y =>
        { pc := y.pc, a := y.a, b := y.b, d := y.d, e := y.e, j := y.j, m := y.m, v := y.v, w := y.w, q := y.q, qv := y.qv, qw := y.qw,
          p := y.p, c := y.c, k := y.k, f := y.f, z := y.z, subflag := y.subflag, brlost := y.brlost, latchlost := y.latchlost,
          sup := y.sup, fmt := y.fmt, tcoord := y.tcoord, tag := y.tag, ovfptr := y.ovfptr, sptop := y.sptop, srseq0 := y.srseq0,
          srseq1 := y.srseq1, tcause := y.tcause, traparg := y.traparg, tpc := y.tpc, txpc := y.txpc, count := y.count, flight := y.flight,
          br := y.br,
          loops :=
            have __src := y.loops;
            { v0 := __src.v0, v1 := __src.v1, m := __src.m, l := __src.l, counts := __src.counts, links := __src.links, nest := __src.nest,
              starting := __src.starting, skip := __src.skip, arv := some cx.pc, tw := __src.tw : LoopState },
          repLeft := y.repLeft, arrived := y.arrived, spin := y.spin, snap := y.snap, due := y.due, run := y.run, age := y.age,
          gang := y.gang, member := y.member, posts := y.posts, fences := y.fences, join := y.join, results := y.results,
          resultNo := y.resultNo : Ctx }).barArrived
    v02b.gang v02b.member (ctl 0 1 31).imm.toNat =
  true) := ⟨presents_of _ _ rfl rfl rfl rfl rfl ⟨rfl, rfl, rfl, rfl⟩ rfl, rfl, rfl, rfl, rfl, by decide, rfl, rfl, rfl, rfl, by decide⟩
theorem witness_bwait_passes :
    (st v02b).Presents v02b ∧
    v02b.Guarded (ctl 0 1 31).g ∧
    (ctl 0 1 31).j = 0#2 ∧
    (ctl 0 1 31).pd = 0#4 ∧
    (ctl 0 1 31).pe = 0#4 ∧
    (ctl 0 1 31).imm.toNat < 32 ∧
    v02b.loops.tw = none ∧
    (ctl 0 1 31).x = 1#8 ∧
    v02b.loops.arv = some v02b.pc ∧
    (st v02b).barArrived v02b.gang v02b.member (ctl 0 1 31).imm.toNat = false := ⟨presents_of _ _ rfl rfl rfl rfl rfl ⟨rfl, rfl, rfl, rfl⟩ rfl, rfl, rfl, rfl, rfl, by decide, rfl, rfl, rfl, by decide⟩
theorem witness_bwait_waits_again :
    v02c.Presents v02b ∧
    v02b.Guarded (ctl 0 1 31).g ∧
    (ctl 0 1 31).j = 0#2 ∧
    (ctl 0 1 31).pd = 0#4 ∧
    (ctl 0 1 31).pe = 0#4 ∧
    (ctl 0 1 31).imm.toNat < 32 ∧
    v02b.loops.tw = none ∧
    (ctl 0 1 31).x = 1#8 ∧
    v02b.loops.arv = some v02b.pc ∧
    v02c.barArrived v02b.gang v02b.member (ctl 0 1 31).imm.toNat = true := ⟨presents_of _ _ rfl rfl rfl rfl rfl ⟨rfl, rfl, rfl, rfl⟩ rfl, rfl, rfl, rfl, rfl, by decide, rfl, rfl, rfl, by decide⟩
theorem witness_setfmt :
    lit.Issues cx ∧
    cx.Guarded (ctl 0 63#8 3644#20).g ∧
    (ctl 0 63#8 3644#20).j = 0#2 ∧
    (ctl 0 63#8 3644#20).pd = 0#4 ∧
    (ctl 0 63#8 3644#20).pe = 0#4 ∧
    (ctl 0 63#8 3644#20).x.toNat < 64 ∧
    (ctl 0 63#8 3644#20).imm &&& fmtUnselected (ctl 0 63#8 3644#20).x = 0#20 ∧
    ((ctl 0 63#8 3644#20).x.getLsbD 0 = true → (ctl 0 63#8 3644#20).imm.toNat % 8 ≤ 4) ∧
    ((ctl 0 63#8 3644#20).x.getLsbD 4 = true → qfmtValid ((ctl 0 63#8 3644#20).imm.toNat / 128 % 16) = true) ∧
    ((ctl 0 63#8 3644#20).x.getLsbD 5 = true → (ctl 0 63#8 3644#20).imm.toNat / 2048 % 4 < lit.lits.length) := ⟨issues_lit, rfl, rfl, rfl, rfl, by decide, by decide, by decide, by decide, by decide⟩
theorem witness_setwin :
    (st cx).Issues cx ∧
    cx.Guarded (ctl 0 6 0).g ∧
    (ctl 0 6 0).j = 0#2 ∧
    (ctl 0 6 0).pd = 0#4 ∧
    (ctl 0 6 0).pe = 0#4 ∧
    cx.sup = true ∧
    1 ≤ (ctl 0 6 0).x.toNat ∧
    (ctl 0 6 0).x.toNat ≤ 6 ∧
    (ctl 0 6 0).imm = 0#20 ∧
    (∀ (i : Nat), i < 8 → ∀ (y : Ctx), (st cx).ctx (8 * ctxCluster (st cx).cur + i) = some y → y.macroBusy = false) := ⟨issues_cx, rfl, rfl, rfl, rfl, rfl, by decide, by decide, rfl, by decide⟩
theorem witness_trap_done :
    (st cx).Issues cx ∧
    cx.Guarded (ctl 0 0 0).g ∧
    (ctl 0 0 0).j = 0#2 ∧
    (ctl 0 0 0).pd = 0#4 ∧
    (ctl 0 0 0).pe = 0#4 ∧
    (ctl 0 0 0).x = 0#8 ∧
    (ctl 0 0 0).imm = 0#20 := ⟨issues_cx, rfl, rfl, rfl, rfl, rfl, rfl⟩
theorem witness_trap :
    (st cx).Issues cx ∧
    cx.Guarded (ctl 0 0 1048575).g ∧
    (ctl 0 0 1048575).j = 0#2 ∧
    (ctl 0 0 1048575).pd = 0#4 ∧
    (ctl 0 0 1048575).pe = 0#4 ∧
    (ctl 0 0 1048575).x = 0#8 := ⟨issues_cx, rfl, rfl, rfl, rfl, rfl⟩
theorem witness_rft :
    (st handler).Issues handler ∧
    handler.Guarded (ctl 0 0 0).g ∧
    (ctl 0 0 0).j = 0#2 ∧
    (ctl 0 0 0).pd = 0#4 ∧
    (ctl 0 0 0).pe = 0#4 ∧
    (ctl 0 0 0).x = 0#8 ∧
    (ctl 0 0 0).imm = 0#20 ∧
    handler.sup = true ∧
    BitVec.getLsbD handler.tcause 25 = true ∧
    handler.flight = [] ∧
    handler.snap =
  some
    { flights := [{ land := 2, what := Landing.scalar (Dest.a 3) 9#64 : Flight }], br := none, loops := { : LoopState }, due := [], q := [],
      qv := [], qw := [] : Snapshot } ∧
    { flights := [{ land := 2, what := Landing.scalar (Dest.a 3) 9#64 : Flight }], br := none, loops := { : LoopState }, due := [], q := [],
        qv := [], qw := [] : Snapshot }.loops.nest =
  none := ⟨issues_handler, rfl, rfl, rfl, rfl, rfl, rfl, rfl, by decide, rfl, rfl, rfl⟩

/-! ### Witnesses: vector slots -/

theorem witness_vadd :
    (st vx).Issues vx ∧
    (st vx).VReady vx (Instr.vadd (vreg 5 1 2 0 0)) (vreg 5 1 2 0 0) { types := [0, 1] : VForm } [] ∧
    fmtAssist vx.fmt = false := ⟨issues_vx, ⟨by decide, rfl, by decide⟩, rfl⟩
theorem witness_vmac :
    (st vx).Issues vx ∧
    (st vx).VReady vx (Instr.vmac (vreg 5 3 3 1 0)) (vreg 5 3 3 1 0) { types := [0, 1] : VForm } [] ∧
    fmtAssist vx.fmt = false := ⟨issues_vx, ⟨by decide, rfl, by decide⟩, rfl⟩
theorem witness_vfmai :
    (st vx).Issues vx ∧
    vx.guard { g := g1, slot := VSlot.v0, vd := 2#9, vs1 := 1#9, imm := 253132#20 : VImm }.g ≠ 0#64 ∧
    NoBad
  (((st vx).envAlone vx (Instr.vfmai { g := g1, slot := VSlot.v0, vd := 2#9, vs1 := 1#9, imm := 253132#20 : VImm })).vimmChecks
    { g := g1, slot := VSlot.v0, vd := 2#9, vs1 := 1#9, imm := 253132#20 : VImm }) ∧
    (∀ (k : Nat),
  k ∈ (streamOf { g := g1, slot := VSlot.v0, vd := 2#9, vs1 := 1#9, imm := 253132#20 : VImm }.vs1).toList →
    (SMap.get { : Machine.Stream } vx.f k).Ready) ∧
    fmtAssist vx.fmt = false := ⟨issues_vx, by decide, rfl, by decide, rfl⟩
theorem witness_vmin :
    (st vx).Issues vx ∧
    (st vx).VReady vx (Instr.vmin (vreg 5 1 2 0 0)) (vreg 5 1 2 0 0) { types := [0, 1] : VForm } [] := ⟨issues_vx, ⟨by decide, rfl, by decide⟩⟩
theorem witness_vabs :
    (st vx).Issues vx ∧
    (st vx).VReady vx (Instr.vabs (vreg 5 1 336 0 0)) (vreg 5 1 336 0 0) { op2 := Op2Use.zero, types := [0, 1] : VForm } [] := ⟨issues_vx, ⟨by decide, rfl, by decide⟩⟩
theorem witness_vneg :
    (st vx).Issues vx ∧
    (st vx).VReady vx (Instr.vneg (vreg 5 1 336 0 0)) (vreg 5 1 336 0 0) { op2 := Op2Use.zero, types := [0, 1] : VForm } [] := ⟨issues_vx, ⟨by decide, rfl, by decide⟩⟩
theorem witness_vclass :
    (st vx).Issues vx ∧
    (st vx).VReady vx (Instr.vclass (vreg 5 1 336 0 0)) (vreg 5 1 336 0 0) { op2 := Op2Use.zero, types := [0, 1, 2, 3, 4] : VForm } [] := ⟨issues_vx, ⟨by decide, rfl, by decide⟩⟩
theorem witness_vrcp :
    (st vx).Issues vx ∧
    (st vx).VReady vx (Instr.vrcp (vreg 5 1 336 0 0)) (vreg 5 1 336 0 0) { op2 := Op2Use.zero, types := [0] : VForm } [] ∧
    fmtAssist vx.fmt = false := ⟨issues_vx, ⟨by decide, rfl, by decide⟩, rfl⟩
theorem witness_vcmp :
    (st vx).Issues vx ∧
    (st vx).VReady vx (Instr.vcmp (vreg 4 1 2 0 7)) (vreg 4 1 2 0 7)
  { vd := VdUse.pair, types := [0, 1, 2, 3], variants := [0, 1, 2, 3, 4, 5, 6, 7] : VForm } [] := ⟨issues_vx, ⟨by decide, rfl, by decide⟩⟩
theorem witness_vicmp :
    (st vx).Issues vx ∧
    (st vx).VReady vx (Instr.vicmp (vreg 4 1 2 13 2)) (vreg 4 1 2 13 2)
  { vd := VdUse.pair, types := tyInt, variants := [0, 1, 2, 3, 4, 5, 6] : VForm } [] := ⟨issues_vx, ⟨by decide, rfl, by decide⟩⟩
theorem witness_vimulh :
    (st vx).Issues vx ∧
    (st vx).VReady vx (Instr.vimulh (vreg 5 1 4 12 0)) (vreg 5 1 4 12 0) { types := tyInt : VForm } [] := ⟨issues_vx, ⟨by decide, rfl, by decide⟩⟩
theorem witness_vsar :
    (st vx).Issues vx ∧
    (st vx).VReady vx (Instr.vsar (vreg 5 4 1 8 0)) (vreg 5 4 1 8 0) { types := tyInt : VForm } [] := ⟨issues_vx, ⟨by decide, rfl, by decide⟩⟩

theorem witness_vimin :
    (st vx).Issues vx ∧
    (0, 2 ^ laneWidth (vreg 5 1 4 14 0).ty.toNat - 1) = intRange (vreg 5 1 4 14 0).ty.toNat ∧
    (∀ (y : W32),
  intOf 14 (BitVec.toNat y % 2 ^ laneWidth 14) =
    intOf (vreg 5 1 4 14 0).ty.toNat (BitVec.toNat y % 2 ^ laneWidth (vreg 5 1 4 14 0).ty.toNat)) ∧
    (st vx).VReady vx (Instr.vimin (vreg 5 1 4 14 0)) (vreg 5 1 4 14 0) { types := tyIntP : VForm } [] := ⟨issues_vx, rfl, fun x => rfl, ⟨by decide, rfl, by decide⟩⟩
theorem witness_vqmuls :
    (st vx).Issues vx ∧
    (-2 ^ (laneWidth (vreg 5 1 4 10 0).ty.toNat - 1), 2 ^ (laneWidth (vreg 5 1 4 10 0).ty.toNat - 1) - 1) = intRange (vreg 5 1 4 10 0).ty.toNat ∧
    (∀ (y : W32),
  intOf 10 (BitVec.toNat y % 2 ^ laneWidth 10) =
    intOf (vreg 5 1 4 10 0).ty.toNat (BitVec.toNat y % 2 ^ laneWidth (vreg 5 1 4 10 0).ty.toNat)) ∧
    (st vx).VReady vx (Instr.vqmuls (vreg 5 1 4 10 0)) (vreg 5 1 4 10 0) { types := [8, 10, 12] : VForm } [] := ⟨issues_vx, rfl, fun x => rfl, ⟨by decide, rfl, by decide⟩⟩
theorem witness_vavg :
    (st vx).Issues vx ∧
    (-2 ^ (laneWidth (vreg 5 1 4 12 1).ty.toNat - 1), 2 ^ (laneWidth (vreg 5 1 4 12 1).ty.toNat - 1) - 1) = intRange (vreg 5 1 4 12 1).ty.toNat ∧
    (∀ (y : W32),
  intOf 12 (BitVec.toNat y % 2 ^ laneWidth 12) =
    intOf (vreg 5 1 4 12 1).ty.toNat (BitVec.toNat y % 2 ^ laneWidth (vreg 5 1 4 12 1).ty.toNat)) ∧
    (st vx).VReady vx (Instr.vavg (vreg 5 1 4 12 1)) (vreg 5 1 4 12 1) { types := tyIntP, variants := [0, 1] : VForm } [] := ⟨issues_vx, rfl, fun x => rfl, ⟨by decide, rfl, by decide⟩⟩
theorem witness_vabsd :
    (st vx).Issues vx ∧
    (-2 ^ (laneWidth (vreg 5 1 4 10 0).ty.toNat - 1), 2 ^ (laneWidth (vreg 5 1 4 10 0).ty.toNat - 1) - 1) = intRange (vreg 5 1 4 10 0).ty.toNat ∧
    (∀ (y : W32),
  intOf 10 (BitVec.toNat y % 2 ^ laneWidth 10) =
    intOf (vreg 5 1 4 10 0).ty.toNat (BitVec.toNat y % 2 ^ laneWidth (vreg 5 1 4 10 0).ty.toNat)) ∧
    (st vx).VReady vx (Instr.vabsd (vreg 5 1 4 10 0)) (vreg 5 1 4 10 0) { types := tyIntP : VForm } [] := ⟨issues_vx, rfl, fun x => rfl, ⟨by decide, rfl, by decide⟩⟩
theorem witness_vsad :
    (st vx).Issues vx ∧
    (0, 2 ^ laneWidth (vreg 5 1 4 13 0).ty.toNat - 1) = intRange (vreg 5 1 4 13 0).ty.toNat ∧
    (∀ (y : W32),
  intOf 13 (BitVec.toNat y % 2 ^ laneWidth 13) =
    intOf (vreg 5 1 4 13 0).ty.toNat (BitVec.toNat y % 2 ^ laneWidth (vreg 5 1 4 13 0).ty.toNat)) ∧
    (st vx).VReady vx (Instr.vsad (vreg 5 1 4 13 0)) (vreg 5 1 4 13 0) { types := [11, 13] : VForm } [] := ⟨issues_vx, rfl, fun x => rfl, ⟨by decide, rfl, by decide⟩⟩
theorem witness_vdot4 :
    (st vx).Issues vx ∧
    (-2 ^ (laneWidth (vreg 5 1 4 12 3).ty.toNat - 1), 2 ^ (laneWidth (vreg 5 1 4 12 3).ty.toNat - 1) - 1) = intRange (vreg 5 1 4 12 3).ty.toNat ∧
    (∀ (y : W32),
  intOf 12 (BitVec.toNat y % 2 ^ laneWidth 12) =
    intOf (vreg 5 1 4 12 3).ty.toNat (BitVec.toNat y % 2 ^ laneWidth (vreg 5 1 4 12 3).ty.toNat)) ∧
    (st vx).VReady vx (Instr.vdot4 (vreg 5 1 4 12 3)) (vreg 5 1 4 12 3) { types := [10, 11, 12, 13], variants := [0, 1, 2, 3] : VForm }
  [{ bad := (vreg 5 1 4 12 3).var.getLsbD 1 && !isSignedTy (vreg 5 1 4 12 3).ty.toNat, field := 6, value := (vreg 5 1 4 12 3).var.toNat :
      Check }] := ⟨issues_vx, rfl, fun x => rfl, ⟨by decide, rfl, by decide⟩⟩
theorem witness_vcvt_same :
    (st vx).Issues vx ∧
    (st vx).VReady vx (Instr.vcvt (vreg 5 1 0 0 0)) (vreg 5 1 0 0 0) { op2 := Op2Use.own, types := tyCvt : VForm }
  [{ bad := (vreg 5 1 0 0 0).kind != 0#2, field := 2, value := (vreg 5 1 0 0 0).kind.toNat : Check },
    { bad := !tyCvt.contains (vreg 5 1 0 0 0).op2.toNat, field := 3, value := (vreg 5 1 0 0 0).op2.toNat : Check }] ∧
    (∀ (n : Nat),
  BitVec.toNat ((((st vx).envAlone vx (Instr.vcvt (vreg 5 1 0 0 0))).vargs (vreg 5 1 0 0 0)).a.lane n) % 2 ^ laneWidth 0 =
    BitVec.toNat ((((st vx).envAlone vx (Instr.vcvt (vreg 5 1 0 0 0))).vargs (vreg 5 1 0 0 0)).a.lane n) %
      2 ^ laneWidth (vreg 5 1 0 0 0).op2.toNat) ∧
    (vreg 5 1 0 0 0).op2.toNat = (vreg 5 1 0 0 0).ty.toNat := ⟨issues_vx, ⟨by decide, rfl, by decide⟩, fun x => rfl, rfl⟩
theorem witness_vcvt :
    (st vx).Issues vx ∧
    (st vx).VReady vx (Instr.vcvt (vreg 5 1 0 8 0)) (vreg 5 1 0 8 0) { op2 := Op2Use.own, types := tyCvt : VForm }
  [{ bad := (vreg 5 1 0 8 0).kind != 0#2, field := 2, value := (vreg 5 1 0 8 0).kind.toNat : Check },
    { bad := !tyCvt.contains (vreg 5 1 0 8 0).op2.toNat, field := 3, value := (vreg 5 1 0 8 0).op2.toNat : Check }] ∧
    (∀ (n : Nat),
  BitVec.toNat ((((st vx).envAlone vx (Instr.vcvt (vreg 5 1 0 8 0))).vargs (vreg 5 1 0 8 0)).a.lane n) % 2 ^ laneWidth 0 =
    BitVec.toNat ((((st vx).envAlone vx (Instr.vcvt (vreg 5 1 0 8 0))).vargs (vreg 5 1 0 8 0)).a.lane n) %
      2 ^ laneWidth (vreg 5 1 0 8 0).op2.toNat) ∧
    (vreg 5 1 0 8 0).op2.toNat ≠ (vreg 5 1 0 8 0).ty.toNat ∧
    ((fmtOf (vreg 5 1 0 8 0).op2.toNat).isSome || (fmtOf (vreg 5 1 0 8 0).ty.toNat).isSome) = true ∧
    fmtAssist vx.fmt = false := ⟨issues_vx, ⟨by decide, rfl, by decide⟩, fun x => rfl, by decide, by decide, rfl⟩
theorem witness_vcvt_integers :
    (st vx).Issues vx ∧
    (st vx).VReady vx (Instr.vcvt (vreg 5 4 8 12 0)) (vreg 5 4 8 12 0) { op2 := Op2Use.own, types := tyCvt : VForm }
  [{ bad := (vreg 5 4 8 12 0).kind != 0#2, field := 2, value := (vreg 5 4 8 12 0).kind.toNat : Check },
    { bad := !tyCvt.contains (vreg 5 4 8 12 0).op2.toNat, field := 3, value := (vreg 5 4 8 12 0).op2.toNat : Check }] ∧
    (∀ (n : Nat),
  BitVec.toNat ((((st vx).envAlone vx (Instr.vcvt (vreg 5 4 8 12 0))).vargs (vreg 5 4 8 12 0)).a.lane n) % 2 ^ laneWidth 8 =
    BitVec.toNat ((((st vx).envAlone vx (Instr.vcvt (vreg 5 4 8 12 0))).vargs (vreg 5 4 8 12 0)).a.lane n) %
      2 ^ laneWidth (vreg 5 4 8 12 0).op2.toNat) ∧
    (vreg 5 4 8 12 0).op2.toNat ≠ (vreg 5 4 8 12 0).ty.toNat ∧
    (fmtOf (vreg 5 4 8 12 0).op2.toNat).isNone = true ∧
    (fmtOf (vreg 5 4 8 12 0).ty.toNat).isNone = true := ⟨issues_vx, ⟨by decide, rfl, by decide⟩, fun x => rfl, by decide, by decide, by decide⟩
theorem witness_vdqnt :
    (st vx).Issues vx ∧
    ((st vx).VReady vx (Instr.vdqnt (vreg 5 4 1 12 0)) (vreg 5 4 1 12 0)
  { types := if (vreg 5 4 1 12 0).var.getLsbD 2 = true then tyMx else tyQuant, variants := List.range 8 : VForm }
  ([{ bad := (vreg 5 4 1 12 0).var.getLsbD 2 && (vreg 5 4 1 12 0).kind != 0#2, field := 2, value := (vreg 5 4 1 12 0).kind.toNat : Check },
      {
        bad :=
          (vreg 5 4 1 12 0).var.getLsbD 0 &&
            !(((vreg 5 4 1 12 0).kind == 1#2 || (vreg 5 4 1 12 0).kind == 2#2) && !(vreg 5 4 1 12 0).var.getLsbD 2),
        field := 6, value := (vreg 5 4 1 12 0).var.toNat : Check }] ++
    ((st vx).envAlone vx (Instr.vdqnt (vreg 5 4 1 12 0))).tensorChecks (vreg 5 4 1 12 0)
      (((vreg 5 4 1 12 0).kind == 1#2 || (vreg 5 4 1 12 0).kind == 2#2) && !(vreg 5 4 1 12 0).var.getLsbD 2))) ∧
    fmtAssist vx.fmt = false := ⟨issues_vx, ⟨by decide, rfl, by decide⟩, rfl⟩
theorem witness_vdqnt_block :
    (st vx).Issues vx ∧
    ((st vx).VReady vx (Instr.vdqnt (vreg 5 4 1 4 4)) (vreg 5 4 1 4 4)
  { types := if (vreg 5 4 1 4 4).var.getLsbD 2 = true then tyMx else tyQuant, variants := List.range 8 : VForm }
  ([{ bad := (vreg 5 4 1 4 4).var.getLsbD 2 && (vreg 5 4 1 4 4).kind != 0#2, field := 2, value := (vreg 5 4 1 4 4).kind.toNat : Check },
      {
        bad :=
          (vreg 5 4 1 4 4).var.getLsbD 0 &&
            !(((vreg 5 4 1 4 4).kind == 1#2 || (vreg 5 4 1 4 4).kind == 2#2) && !(vreg 5 4 1 4 4).var.getLsbD 2),
        field := 6, value := (vreg 5 4 1 4 4).var.toNat : Check }] ++
    ((st vx).envAlone vx (Instr.vdqnt (vreg 5 4 1 4 4))).tensorChecks (vreg 5 4 1 4 4)
      (((vreg 5 4 1 4 4).kind == 1#2 || (vreg 5 4 1 4 4).kind == 2#2) && !(vreg 5 4 1 4 4).var.getLsbD 2))) ∧
    fmtAssist vx.fmt = false := ⟨issues_vx, ⟨by decide, rfl, by decide⟩, rfl⟩
theorem witness_vmxs :
    (st vx).Issues vx ∧
    (st vx).VReady vx (Instr.vmxs (vreg 5 1 336 4 0)) (vreg 5 1 336 4 0) { op2 := Op2Use.zero, types := tyMx, variants := [0, 2] : VForm } [] := ⟨issues_vx, ⟨by decide, rfl, by decide⟩⟩
theorem witness_vsplit :
    (st vx).Issues vx ∧
    (st vx).VReady vx (Instr.vsplit (vreg 5 1 336 15 1)) (vreg 5 1 336 15 1) { op2 := Op2Use.zero, types := [15], variants := [0, 1] : VForm }
  [] := ⟨issues_vx, ⟨by decide, rfl, by decide⟩⟩
theorem witness_vjoin :
    (st vx).Issues vx ∧
    (st vx).VReady vx (Instr.vjoin (vreg 5 1 4 15 0)) (vreg 5 1 4 15 0) { types := [15] : VForm } [] := ⟨issues_vx, ⟨by decide, rfl, by decide⟩⟩

/-- A quantisation to N8 by the scale 1 in each lane, and one to E4 by the record of handle 17. -/
def byScale : VReg := vreg 5 6 7 10 0
def byTensor : VReg := ⟨g1, .v0, 5#9, 1#9, 1#2, 8#9, 2#4, 0#2, 0#3⟩
def byBlock : VReg := vreg 5 1 4 4 4
/-- The context with values in range of N8, and the scale 1. -/
def qx : Ctx := { vx with v := vx.v ++ [(6, four 0x3F800000#32 0xC0400000#32 0x3F000000#32 0x42C80000#32), (7, Vec.splat 0x3F800000#32)] }
theorem issues_qx : (st qx).Issues qx := issues_of _ _ rfl rfl rfl rfl rfl ⟨rfl, rfl, rfl, rfl⟩ rfl
/-- Vector operations whose second operand is a constant. -/
def vconst (vd vs1 op2 : Nat) (ty : BitVec 4) (var : BitVec 3) : VReg := ⟨g1, .v0, BitVec.ofNat 9 vd, BitVec.ofNat 9 vs1, 1#2, BitVec.ofNat 9 op2, ty, 0#2, var⟩
/-- A context whose format asks for the assist trap. -/
def assisted : Ctx := { vx with fmt := 0x2130#64 }
theorem issues_assisted : (st assisted).Issues assisted := issues_of _ _ rfl rfl rfl rfl rfl ⟨rfl, rfl, rfl, rfl⟩ rfl

theorem witness_vqnt_block :
    (st vx).Issues vx ∧
    ((byBlock.kind == 1#2 || byBlock.kind == 2#2) = true →
  byBlock.var.getLsbD 2 = false →
    (st vx).poisonIn
        (tensorReads (ctxDie (st vx).cur) (BitVec.toNat ((((st vx).envAlone vx (Instr.vqnt byBlock)).vargs byBlock).b.lane 0) % 2 ^ 20)
          ((st vx).record (ctxDie (st vx).cur)
              (BitVec.toNat ((((st vx).envAlone vx (Instr.vqnt byBlock)).vargs byBlock).b.lane 0) % 2 ^ 20)).gidx) =
      none) ∧
    ((st vx).VReady vx (Instr.vqnt byBlock) byBlock { types := List.range 16, variants := List.range 8 : VForm }
  ([{ bad := byBlock.var.getLsbD 2 && byBlock.kind != 0#2, field := 2, value := byBlock.kind.toNat : Check },
      {
        bad :=
          byBlock.var.getLsbD 0 && byBlock.ty != 0#4 ||
            !(if byBlock.var.getLsbD 2 = true then tyMx else tyQuant).contains
                (if byBlock.var.getLsbD 0 = true then fmtQfmt vx.fmt else byBlock.ty.toNat),
        field := 4, value := byBlock.ty.toNat : Check }] ++
    ((st vx).envAlone vx (Instr.vqnt byBlock)).tensorChecks byBlock
      ((byBlock.kind == 1#2 || byBlock.kind == 2#2) && !byBlock.var.getLsbD 2))) ∧
    byBlock.var.getLsbD 2 = true := ⟨issues_vx, (fun x x_1 => rfl), ⟨by decide, rfl, by decide⟩, rfl⟩
theorem witness_vqnt_scalar :
    (st qx).Issues qx ∧
    ((byScale.kind == 1#2 || byScale.kind == 2#2) = true →
  byScale.var.getLsbD 2 = false →
    (st qx).poisonIn
        (tensorReads (ctxDie (st qx).cur) (BitVec.toNat ((((st qx).envAlone qx (Instr.vqnt byScale)).vargs byScale).b.lane 0) % 2 ^ 20)
          ((st qx).record (ctxDie (st qx).cur)
              (BitVec.toNat ((((st qx).envAlone qx (Instr.vqnt byScale)).vargs byScale).b.lane 0) % 2 ^ 20)).gidx) =
      none) ∧
    ((st qx).VReady qx (Instr.vqnt byScale) byScale { types := List.range 16, variants := List.range 8 : VForm }
  ([{ bad := byScale.var.getLsbD 2 && byScale.kind != 0#2, field := 2, value := byScale.kind.toNat : Check },
      {
        bad :=
          byScale.var.getLsbD 0 && byScale.ty != 0#4 ||
            !(if byScale.var.getLsbD 2 = true then tyMx else tyQuant).contains
                (if byScale.var.getLsbD 0 = true then fmtQfmt qx.fmt else byScale.ty.toNat),
        field := 4, value := byScale.ty.toNat : Check }] ++
    ((st qx).envAlone qx (Instr.vqnt byScale)).tensorChecks byScale
      ((byScale.kind == 1#2 || byScale.kind == 2#2) && !byScale.var.getLsbD 2))) ∧
    byScale.var.getLsbD 2 = false ∧
    fmtAssist qx.fmt = false ∧
    (List.filter
    (fun n =>
      BitVec.getLsbD (qx.guard byScale.g) n &&
        quantOvf (if byScale.var.getLsbD 0 = true then fmtQfmt qx.fmt else byScale.ty.toNat)
          (laneValue (if byScale.var.getLsbD 1 = true then 1 else 0) ((((st qx).envAlone qx (Instr.vqnt byScale)).vargs byScale).a.lane n))
          (if (byScale.kind == 1#2 || byScale.kind == 2#2) = true then
            fF32.value
              ((st qx).sscale (ctxDie (st qx).cur)
                ((st qx).record (ctxDie (st qx).cur)
                    (BitVec.toNat ((((st qx).envAlone qx (Instr.vqnt byScale)).vargs byScale).b.lane 0) % 2 ^ 20)).gidx)
          else fF32.value (BitVec.toNat ((((st qx).envAlone qx (Instr.vqnt byScale)).vargs byScale).b.lane n))))
    (List.range 64) =
  []) := ⟨issues_qx, (fun x x_1 => rfl), ⟨by decide, rfl, by decide⟩, rfl, rfl, by decide +kernel⟩
theorem witness_vqnt_tensor :
    rec17.Issues vx ∧
    ((byTensor.kind == 1#2 || byTensor.kind == 2#2) = true →
  byTensor.var.getLsbD 2 = false →
    rec17.poisonIn
        (tensorReads (ctxDie rec17.cur) (BitVec.toNat (((rec17.envAlone vx (Instr.vqnt byTensor)).vargs byTensor).b.lane 0) % 2 ^ 20)
          (rec17.record (ctxDie rec17.cur)
              (BitVec.toNat (((rec17.envAlone vx (Instr.vqnt byTensor)).vargs byTensor).b.lane 0) % 2 ^ 20)).gidx) =
      none) ∧
    (rec17.VReady vx (Instr.vqnt byTensor) byTensor { types := List.range 16, variants := List.range 8 : VForm }
  ([{ bad := byTensor.var.getLsbD 2 && byTensor.kind != 0#2, field := 2, value := byTensor.kind.toNat : Check },
      {
        bad :=
          byTensor.var.getLsbD 0 && byTensor.ty != 0#4 ||
            !(if byTensor.var.getLsbD 2 = true then tyMx else tyQuant).contains
                (if byTensor.var.getLsbD 0 = true then fmtQfmt vx.fmt else byTensor.ty.toNat),
        field := 4, value := byTensor.ty.toNat : Check }] ++
    (rec17.envAlone vx (Instr.vqnt byTensor)).tensorChecks byTensor
      ((byTensor.kind == 1#2 || byTensor.kind == 2#2) && !byTensor.var.getLsbD 2))) ∧
    byTensor.var.getLsbD 2 = false ∧
    fmtAssist vx.fmt = false ∧
    (List.filter
    (fun n =>
      BitVec.getLsbD (vx.guard byTensor.g) n &&
        quantOvf (if byTensor.var.getLsbD 0 = true then fmtQfmt vx.fmt else byTensor.ty.toNat)
          (laneValue (if byTensor.var.getLsbD 1 = true then 1 else 0) (((rec17.envAlone vx (Instr.vqnt byTensor)).vargs byTensor).a.lane n))
          (if (byTensor.kind == 1#2 || byTensor.kind == 2#2) = true then
            fF32.value
              (rec17.sscale (ctxDie rec17.cur)
                (rec17.record (ctxDie rec17.cur)
                    (BitVec.toNat (((rec17.envAlone vx (Instr.vqnt byTensor)).vargs byTensor).b.lane 0) % 2 ^ 20)).gidx)
          else fF32.value (BitVec.toNat (((rec17.envAlone vx (Instr.vqnt byTensor)).vargs byTensor).b.lane n))))
    (List.range 64) ≠
  []) ∧
    (byTensor.kind == 1#2 || byTensor.kind == 2#2) = true ∧
    if
    2 ≤
      (rec17.record (ctxDie rec17.cur)
          (BitVec.toNat (((rec17.envAlone vx (Instr.vqnt byTensor)).vargs byTensor).b.lane 0) % 2 ^ 20)).gmode then
  (rec17.record (ctxDie rec17.cur) (BitVec.toNat (((rec17.envAlone vx (Instr.vqnt byTensor)).vargs byTensor).b.lane 0) % 2 ^ 20)).gmode ≠ 3
else fmtTrap vx.fmt = false := ⟨issues_rec17, (fun x x_1 => rfl), ⟨by decide, rfl, by decide⟩, rfl, rfl, by decide +kernel, rfl, by first | (rw [if_pos (by decide)]; decide) | (rw [if_neg (by decide)]; rfl)⟩
theorem witness_vmov :
    (st vx).Issues vx ∧
    (st vx).VReady vx (Instr.vmov (vreg 5 336 4 10 0)) (vreg 5 336 4 10 0) { vs1 := false, types := List.range 16 : VForm } [] := ⟨issues_vx, ⟨by decide, rfl, by decide⟩⟩
theorem witness_vbcst :
    (st vx).Issues vx ∧
    (st vx).VReady vx (Instr.vbcst (vreg 5 1 4 9 0)) (vreg 5 1 4 9 0) (laneForm [0]) [] := ⟨issues_vx, ⟨by decide, rfl, by decide⟩⟩
theorem witness_viota :
    (st vx).Issues vx ∧
    (st vx).VReady vx (Instr.viota (vreg 5 336 4 9 7)) (vreg 5 336 4 9 7) { vs1 := false, types := tyInt, variants := List.range 8 : VForm } [] := ⟨issues_vx, ⟨by decide, rfl, by decide⟩⟩
theorem witness_vperm :
    (st vx).Issues vx ∧
    (st vx).VReady vx (Instr.vperm (vreg 5 1 4 9 1)) (vreg 5 1 4 9 1) (laneForm [0, 1]) [] := ⟨issues_vx, ⟨by decide, rfl, by decide⟩⟩
theorem witness_vshuf :
    (st vx).Issues vx ∧
    ((st vx).VReady vx (Instr.vshuf (vreg 5 1 4 9 3)) (vreg 5 1 4 9 3)
  { op2 := if (vreg 5 1 4 9 3).var.toNat = 4 ∨ (vreg 5 1 4 9 3).var.toNat = 5 then Op2Use.zero else Op2Use.any, types := [9],
    variants := List.range 6 : VForm }
  []) := ⟨issues_vx, ⟨by decide, rfl, by decide⟩⟩
theorem witness_vslide :
    (st vx).Issues vx ∧
    (st vx).VReady vx (Instr.vslide (vreg 5 1 4 9 3)) (vreg 5 1 4 9 3) (laneForm [0, 1, 2, 3]) [] := ⟨issues_vx, ⟨by decide, rfl, by decide⟩⟩
theorem witness_vbext :
    (st vx).Issues vx ∧
    (st vx).VReady vx (Instr.vbext (vreg 5 1 4 8 5)) (vreg 5 1 4 8 5) { types := [8, 9], variants := List.range 8 : VForm } [] := ⟨issues_vx, ⟨by decide, rfl, by decide⟩⟩
theorem witness_vlut :
    (st vx).Issues vx ∧
    (st vx).VReady vx (Instr.vlut (vconst 5 1 8 9 0)) (vconst 5 1 8 9 0) { op2 := Op2Use.table, types := [0, 1, 2, 3, 4] ++ tyInt : VForm } [] := ⟨issues_vx, ⟨by decide, rfl, by decide⟩⟩
theorem witness_vlutld :
    (st vx).Issues vx ∧
    (st vx).VReady vx (Instr.vlutld (vconst 0 1 8 9 0)) (vconst 0 1 8 9 0) { vd := VdUse.zero, op2 := Op2Use.table, types := [9] : VForm } [] := ⟨issues_vx, ⟨by decide, rfl, by decide⟩⟩
theorem witness_vunpk12 :
    (st vx).Issues vx ∧
    (st vx).VReady vx (Instr.vunpk12 (vreg 5 1 336 11 3)) (vreg 5 1 336 11 3)
  { op2 := Op2Use.zero, types := [11], variants := [0, 1, 2, 3] : VForm } [] := ⟨issues_vx, ⟨by decide, rfl, by decide⟩⟩
theorem witness_vpack12 :
    (st vx).Issues vx ∧
    (st vx).VReady vx (Instr.vpack12 (vreg 5 1 336 11 1)) (vreg 5 1 336 11 1)
  { op2 := Op2Use.zero, types := [11], variants := [0, 1, 2, 3] : VForm } [] := ⟨issues_vx, ⟨by decide, rfl, by decide⟩⟩
theorem witness_vrng :
    (st vx).Issues vx ∧
    ((st vx).VReady vx (Instr.vrng (vreg 5 1 4 9 0)) (vreg 5 1 4 9 0)
  { types := [if (vreg 5 1 4 9 0).var = 1#3 then 0 else 9], variants := [0, 1] : VForm } []) := ⟨issues_vx, ⟨by decide, rfl, by decide⟩⟩
theorem witness_vred :
    (st vx).Issues vx ∧
    fmtAssist vx.fmt = false ∧
    ((st vx).VReady vx (Instr.vred (vreg 5 1 336 0 3)) (vreg 5 1 336 0 3)
  { op2 := Op2Use.zero, types := if (vreg 5 1 336 0 3).var = 3#3 then [0, 1] else [0, 1] ++ tyInt, variants := [0, 1, 2, 3] : VForm } []) := ⟨issues_vx, rfl, ⟨by decide, rfl, by decide⟩⟩
theorem witness_vscan :
    (st vx).Issues vx ∧
    fmtAssist vx.fmt = false ∧
    (st vx).VReady vx (Instr.vscan (vreg 5 4 4 10 5)) (vreg 5 4 4 10 5) { types := [0, 1] ++ tyInt, variants := List.range 6 : VForm } [] := ⟨issues_vx, rfl, ⟨by decide, rfl, by decide⟩⟩
theorem witness_vcpy_0 :
    (st vx).Issues vx ∧
    fmtAssist vx.fmt = false ∧
    ((st vx).VReady vx (Instr.vcpy (vreg 3 1 256 9 0)) (vreg 3 1 256 9 0)
  { vd := VdUse.own, op2 := Op2Use.own, types := if (vreg 3 1 256 9 0).var.toNat = 1 then [0, 1] ++ tyInt else [9], variants := [0, 1, 2] :
    VForm }
  (((st vx).envAlone vx (Instr.vcpy (vreg 3 1 256 9 0))).vcpyChecks (vreg 3 1 256 9 0))) ∧
    (vreg 3 1 256 9 0).var = 0#3 := ⟨issues_vx, rfl, ⟨by decide, rfl, by decide⟩, rfl⟩
theorem witness_vcpy_1 :
    (st vx).Issues vx ∧
    fmtAssist vx.fmt = false ∧
    ((st vx).VReady vx (Instr.vcpy (vreg 31 1 193 8 1)) (vreg 31 1 193 8 1)
  { vd := VdUse.own, op2 := Op2Use.own, types := if (vreg 31 1 193 8 1).var.toNat = 1 then [0, 1] ++ tyInt else [9], variants := [0, 1, 2] :
    VForm }
  (((st vx).envAlone vx (Instr.vcpy (vreg 31 1 193 8 1))).vcpyChecks (vreg 31 1 193 8 1))) ∧
    (vreg 31 1 193 8 1).var = 1#3 ∧
    BitVec.getLsbD (vx.guard (vreg 31 1 193 8 1).g) ((vreg 31 1 193 8 1).op2.toNat % 64) = true := ⟨issues_vx, rfl, ⟨by decide, rfl, by decide⟩, rfl, rfl⟩
theorem witness_vcpy_2 :
    (st vx).Issues vx ∧
    fmtAssist vx.fmt = false ∧
    ((st vx).VReady vx (Instr.vcpy (vreg 3 1 259 9 2)) (vreg 3 1 259 9 2)
  { vd := VdUse.own, op2 := Op2Use.own, types := if (vreg 3 1 259 9 2).var.toNat = 1 then [0, 1] ++ tyInt else [9], variants := [0, 1, 2] :
    VForm }
  (((st vx).envAlone vx (Instr.vcpy (vreg 3 1 259 9 2))).vcpyChecks (vreg 3 1 259 9 2))) ∧
    (vreg 3 1 259 9 2).var = 2#3 ∧
    BitVec.getLsbD (vx.guard (vreg 3 1 259 9 2).g) ((vreg 3 1 259 9 2).op2.toNat % 64) = true := ⟨issues_vx, rfl, ⟨by decide, rfl, by decide⟩, rfl, rfl⟩
theorem witness_vcpy_inactive :
    (st vx).Issues vx ∧
    fmtAssist vx.fmt = false ∧
    ((st vx).VReady vx (Instr.vcpy (vreg 3 1 261 9 2)) (vreg 3 1 261 9 2)
  { vd := VdUse.own, op2 := Op2Use.own, types := if (vreg 3 1 261 9 2).var.toNat = 1 then [0, 1] ++ tyInt else [9], variants := [0, 1, 2] :
    VForm }
  (((st vx).envAlone vx (Instr.vcpy (vreg 3 1 261 9 2))).vcpyChecks (vreg 3 1 261 9 2))) ∧
    (vreg 3 1 261 9 2).var ≠ 0#3 ∧
    BitVec.getLsbD (vx.guard (vreg 3 1 261 9 2).g) ((vreg 3 1 261 9 2).op2.toNat % 64) = false := ⟨issues_vx, rfl, ⟨by decide, rfl, by decide⟩, by decide, rfl⟩
theorem witness_assist :
    (st assisted).Issues assisted ∧
    (st assisted).VReady assisted (Instr.vadd (vreg 5 1 1 0 0)) (vreg 5 1 1 0 0) { types := [0, 1] : VForm } [] ∧
    vStreams (vreg 5 1 1 0 0) { types := [0, 1] : VForm } = [] ∧
    fmtAssist assisted.fmt = true ∧
    (assisted.Flushes (vreg 5 1 1 0 0).g fun x =>
  roundTo (assisted.rndEnv (isW (vreg 5 1 1 0 0).slot) x) (vreg 5 1 1 0 0).ty.toNat
    (XR.add (decide (BitVec.toNat assisted.fmt % 8 = 2))
      (laneValue (vreg 5 1 1 0 0).ty.toNat
        ((((st assisted).envAlone assisted (Instr.vadd (vreg 5 1 1 0 0))).vargs (vreg 5 1 1 0 0)).a.lane x))
      (laneValue (vreg 5 1 1 0 0).ty.toNat
        ((((st assisted).envAlone assisted (Instr.vadd (vreg 5 1 1 0 0))).vargs (vreg 5 1 1 0 0)).b.lane x)))) := ⟨issues_assisted, ⟨by decide, rfl, by decide⟩, rfl, rfl, 3, by decide, by decide, by decide +kernel⟩

/-! ### Witnesses: the matrix slot -/

/-- A span descriptor: its base and its pitch in units of 32 bytes. -/
def span (base pitch : Nat) : W64 := BitVec.ofNat 64 (base + pitch * 2 ^ 22)
/-- A context with the operands of a macro-op in two bank groups, rows for MWRITE and a tile's configuration. -/
def mx : Ctx :=
  { cx with m := [(0, span 0 1), (1, span 0x2000 1), (2, span 0x60000 4), (3, span 0x62000 4), (4, span 0x1000 16),
      (5, BitVec.ofNat 64 (8 + 127 * 2 ^ 12 + 127 * 2 ^ 20 + 508 * 2 ^ 35))] }
/-- The module around it, with some bytes of its operands. -/
def matrix : State :=
  { st mx with cores := [(0, { spad := [(0, 0x38#8), (1, 0x40#8), (0x1000, 1#8), (0x2000, 127#8), (0x60000, 0xB8#8), (0x62000, 128#8)] })] }
theorem issues_matrix : matrix.Issues mx := issues_of _ _ rfl rfl rfl rfl rfl ⟨rfl, rfl, rfl, rfl⟩ rfl
/-- A macro-op of E4 with K = 32. -/
def mma (z : Nat) : MMac := ⟨always, BitVec.ofNat 5 z, 0#4, 2#4, 1#7, 2#4, 0#1, 0#1, 1#1, 0#1, 0#10⟩
/-- A macro-op of an MX format with its scales. -/
def mmax : MMac := ⟨always, 2#5, 0#4, 2#4, 1#7, 4#4, 0#1, 0#1, 0#1, 0#1, 0#10⟩
/-- The state after a macro-op has issued on tile 0, and its context. -/
def behind : State := match exec (.mma (mma 0)) matrix with | .next t => t | _ => matrix
def bx : Ctx := { mx with flight := ((behind.ctx 0).getD {}).flight }
/-- The module with that context, which holds no sticky operation. -/
def chained : State := { matrix with ctxs := [(0, some bx)] }
/-- Two members of a gang on two clusters. -/
def twoClusters : State :=
  { st cx with
    ctxs := [(0, some cx), (8, some { cx with member := 1 })]
    gangs := [{ id := 0, die := 0, step := none, klass := 3, members := [(0, 0), (8, 1)], ntask := 2, joinwait := 100, win := 1#3, part := 0x020C0882#64, savebase := 0#64, cores := [0, 2] }] }

theorem witness_mcfg :
    matrix.Issues mx ∧
    mx.Guarded { g := always, z := 2#5, ma := 5#4, rest := 0#29 : MCfg }.g ∧
    matrix.MReady mx { g := always, z := 2#5, ma := 5#4, rest := 0#29 : MCfg }.z ∧
    mx.busyUpto { g := always, z := 2#5, ma := 5#4, rest := 0#29 : MCfg }.z.toNat = none ∧
    { g := always, z := 2#5, ma := 5#4, rest := 0#29 : MCfg }.rest = 0#29 ∧
    tileCfgBad (mx.mReg { g := always, z := 2#5, ma := 5#4, rest := 0#29 : MCfg }.ma.toNat) = false := ⟨issues_matrix, rfl, ⟨by decide, rfl, rfl, by decide, by decide⟩, rfl, rfl, rfl⟩
theorem witness_mzero :
    matrix.Issues mx ∧
    mx.Guarded { g := always, z := 0#5, rest := 0#33 : MZero }.g ∧
    matrix.MReady mx { g := always, z := 0#5, rest := 0#33 : MZero }.z ∧
    mx.busyUpto { g := always, z := 0#5, rest := 0#33 : MZero }.z.toNat = none ∧
    { g := always, z := 0#5, rest := 0#33 : MZero }.rest = 0#33 := ⟨issues_matrix, rfl, ⟨by decide, rfl, rfl, by decide, by decide⟩, rfl, rfl⟩
theorem witness_mread :
    matrix.Issues mx ∧
    mx.Guarded { g := always, z := 0#5, f := 3#3, rp := 63#6, np := 0#6, rest := 0#18 : MRead }.g ∧
    matrix.MReady mx { g := always, z := 0#5, f := 3#3, rp := 63#6, np := 0#6, rest := 0#18 : MRead }.z ∧
    { g := always, z := 0#5, f := 3#3, rp := 63#6, np := 0#6, rest := 0#18 : MRead }.rest = 0#18 ∧
    { g := always, z := 0#5, f := 3#3, rp := 63#6, np := 0#6, rest := 0#18 : MRead }.rp.toNat +
      { g := always, z := 0#5, f := 3#3, rp := 63#6, np := 0#6, rest := 0#18 : MRead }.np.toNat +
    1 ≤
  64 ∧
    (SMap.get { : Machine.Stream } mx.f { g := always, z := 0#5, f := 3#3, rp := 63#6, np := 0#6, rest := 0#18 : MRead }.f.toNat).bound = none ∧
    (SMap.get { : Machine.Stream } mx.f { g := always, z := 0#5, f := 3#3, rp := 63#6, np := 0#6, rest := 0#18 : MRead }.f.toNat).buf = [] := ⟨issues_matrix, rfl, ⟨by decide, rfl, rfl, by decide, by decide⟩, rfl, by decide, rfl, rfl⟩
theorem witness_mwrite :
    matrix.Issues mx ∧
    mx.Guarded { g := always, z := 1#5, ma := 4#4, rp := 63#6, np := 0#6, rest := 0#17 : MWrite }.g ∧
    matrix.MReady mx { g := always, z := 1#5, ma := 4#4, rp := 63#6, np := 0#6, rest := 0#17 : MWrite }.z ∧
    mx.busyUpto { g := always, z := 1#5, ma := 4#4, rp := 63#6, np := 0#6, rest := 0#17 : MWrite }.z.toNat = none ∧
    { g := always, z := 1#5, ma := 4#4, rp := 63#6, np := 0#6, rest := 0#17 : MWrite }.rest = 0#17 ∧
    { g := always, z := 1#5, ma := 4#4, rp := 63#6, np := 0#6, rest := 0#17 : MWrite }.rp.toNat +
      { g := always, z := 1#5, ma := 4#4, rp := 63#6, np := 0#6, rest := 0#17 : MWrite }.np.toNat +
    1 ≤
  64 ∧
    descBad (mx.mReg { g := always, z := 1#5, ma := 4#4, rp := 63#6, np := 0#6, rest := 0#17 : MWrite }.ma.toNat) true = false ∧
    { lo := descBase (mx.mReg { g := always, z := 1#5, ma := 4#4, rp := 63#6, np := 0#6, rest := 0#17 : MWrite }.ma.toNat) 0,
        pitch := descPitch (mx.mReg { g := always, z := 1#5, ma := 4#4, rp := 63#6, np := 0#6, rest := 0#17 : MWrite }.ma.toNat),
        rows := 2 * ({ g := always, z := 1#5, ma := 4#4, rp := 63#6, np := 0#6, rest := 0#17 : MWrite }.np.toNat + 1), width := 512 :
        Span }.lo %
    32 =
  0 ∧
    (matrix.envAlone mx (Instr.mwrite { g := always, z := 1#5, ma := 4#4, rp := 63#6, np := 0#6, rest := 0#17 : MWrite })).spanOffence
    { lo := descBase (mx.mReg { g := always, z := 1#5, ma := 4#4, rp := 63#6, np := 0#6, rest := 0#17 : MWrite }.ma.toNat) 0,
      pitch := descPitch (mx.mReg { g := always, z := 1#5, ma := 4#4, rp := 63#6, np := 0#6, rest := 0#17 : MWrite }.ma.toNat),
      rows := 2 * ({ g := always, z := 1#5, ma := 4#4, rp := 63#6, np := 0#6, rest := 0#17 : MWrite }.np.toNat + 1), width := 512 : Span } =
  none ∧
    { lo := descBase (mx.mReg { g := always, z := 1#5, ma := 4#4, rp := 63#6, np := 0#6, rest := 0#17 : MWrite }.ma.toNat) 0,
        pitch := descPitch (mx.mReg { g := always, z := 1#5, ma := 4#4, rp := 63#6, np := 0#6, rest := 0#17 : MWrite }.ma.toNat),
        rows := 2 * ({ g := always, z := 1#5, ma := 4#4, rp := 63#6, np := 0#6, rest := 0#17 : MWrite }.np.toNat + 1), width := 512 :
        Span }.inside
    (matrix.part matrix.cur) =
  true := ⟨issues_matrix, rfl, ⟨by decide, rfl, rfl, by decide, by decide⟩, rfl, rfl, by decide, rfl, rfl, by decide +kernel, by decide +kernel⟩
theorem witness_mstat :
    matrix.Issues mx ∧
    mx.Guarded { g := always, z := 1#5, ma := 4#4, clr := 1#1, rest := 0#28 : MStat }.g ∧
    matrix.MReady mx { g := always, z := 1#5, ma := 4#4, clr := 1#1, rest := 0#28 : MStat }.z ∧
    { g := always, z := 1#5, ma := 4#4, clr := 1#1, rest := 0#28 : MStat }.rest = 0#28 ∧
    descBad (mx.mReg { g := always, z := 1#5, ma := 4#4, clr := 1#1, rest := 0#28 : MStat }.ma.toNat) false = false ∧
    { lo := descBase (mx.mReg { g := always, z := 1#5, ma := 4#4, clr := 1#1, rest := 0#28 : MStat }.ma.toNat) 0, pitch := 0, rows := 1,
        width := 8 : Span }.lo %
    8 =
  0 ∧
    (matrix.envAlone mx (Instr.mstat { g := always, z := 1#5, ma := 4#4, clr := 1#1, rest := 0#28 : MStat })).spanOffence
    { lo := descBase (mx.mReg { g := always, z := 1#5, ma := 4#4, clr := 1#1, rest := 0#28 : MStat }.ma.toNat) 0, pitch := 0, rows := 1,
      width := 8 : Span } =
  none ∧
    { lo := descBase (mx.mReg { g := always, z := 1#5, ma := 4#4, clr := 1#1, rest := 0#28 : MStat }.ma.toNat) 0, pitch := 0, rows := 1,
        width := 8 : Span }.inside
    (matrix.part matrix.cur) =
  true := ⟨issues_matrix, rfl, ⟨by decide, rfl, rfl, by decide, by decide⟩, rfl, rfl, rfl, by decide +kernel, by decide +kernel⟩
theorem witness_mma :
    matrix.Issues mx ∧
    mx.Guarded (mma 0).g ∧
    matrix.MReady mx (mma 0).z ∧
    (mma 0).rest = 0#10 ∧
    (SMap.get { : Tile } mx.z (mma 0).z.toNat).i32 = ((mma 0).format.toNat == 5 || (mma 0).format.toNat == 6 || (mma 0).format.toNat == 7) ∧
    ((mma 0).format.toNat ∈ if false = true then [4, 5, 6, 7] else [1, 2, 3]) ∧
    (false = true → (mma 0).ma.toNat % 2 = 0 ∧ (mma 0).mb.toNat % 2 = 0) ∧
    (false = true → ((mma 0).ta == 1#1) = false ∧ ((mma 0).tb == 1#1) = false) ∧
    ((mma 0).gauge = 1#1 → (SMap.get { : Tile } mx.z (mma 0).z.toNat).gv = true) ∧
    (∀ (r : Nat),
  (r ∈
      if false = true then [(mma 0).ma.toNat, (mma 0).mb.toNat, (mma 0).ma.toNat + 1, (mma 0).mb.toNat + 1]
      else [(mma 0).ma.toNat, (mma 0).mb.toNat]) →
    descBad (mx.mReg r) true = false ∧ descBase (mx.mReg r) 0 % 32 = 0) ∧
    (macroOffence (matrix.part matrix.cur)
    (if false = true then
      [{ lo := descBase (mx.mReg (mma 0).ma.toNat) 0, pitch := descPitch (mx.mReg (mma 0).ma.toNat),
          rows := if ((mma 0).ta == 1#1) = true then if (mma 0).kq = 0#7 then 4096 else 32 * (mma 0).kq.toNat else 128,
          width :=
            rowBytes (mma 0).format.toNat
              (if ((mma 0).ta == 1#1) = true then 128 else if (mma 0).kq = 0#7 then 4096 else 32 * (mma 0).kq.toNat) :
          Span },
        { lo := descBase (mx.mReg (mma 0).mb.toNat) 0, pitch := descPitch (mx.mReg (mma 0).mb.toNat),
          rows := if ((mma 0).tb == 1#1) = true then 128 else if (mma 0).kq = 0#7 then 4096 else 32 * (mma 0).kq.toNat,
          width :=
            rowBytes (mma 0).format.toNat
              (if ((mma 0).tb == 1#1) = true then if (mma 0).kq = 0#7 then 4096 else 32 * (mma 0).kq.toNat else 128) :
          Span },
        { lo := descBase (mx.mReg ((mma 0).ma.toNat + 1)) 0, pitch := descPitch (mx.mReg ((mma 0).ma.toNat + 1)), rows := 128,
          width := (if (mma 0).kq = 0#7 then 4096 else 32 * (mma 0).kq.toNat) / 32 : Span },
        { lo := descBase (mx.mReg ((mma 0).mb.toNat + 1)) 0, pitch := descPitch (mx.mReg ((mma 0).mb.toNat + 1)),
          rows := (if (mma 0).kq = 0#7 then 4096 else 32 * (mma 0).kq.toNat) / 32, width := 128 : Span }]
    else
      [{ lo := descBase (mx.mReg (mma 0).ma.toNat) 0, pitch := descPitch (mx.mReg (mma 0).ma.toNat),
          rows := if ((mma 0).ta == 1#1) = true then if (mma 0).kq = 0#7 then 4096 else 32 * (mma 0).kq.toNat else 128,
          width :=
            rowBytes (mma 0).format.toNat
              (if ((mma 0).ta == 1#1) = true then 128 else if (mma 0).kq = 0#7 then 4096 else 32 * (mma 0).kq.toNat) :
          Span },
        { lo := descBase (mx.mReg (mma 0).mb.toNat) 0, pitch := descPitch (mx.mReg (mma 0).mb.toNat),
          rows := if ((mma 0).tb == 1#1) = true then 128 else if (mma 0).kq = 0#7 then 4096 else 32 * (mma 0).kq.toNat,
          width :=
            rowBytes (mma 0).format.toNat
              (if ((mma 0).tb == 1#1) = true then if (mma 0).kq = 0#7 then 4096 else 32 * (mma 0).kq.toNat else 128) :
          Span }]) =
  none) ∧
    (∀ (p : Span),
  (p ∈
      if false = true then
        [{ lo := descBase (mx.mReg (mma 0).ma.toNat) 0, pitch := descPitch (mx.mReg (mma 0).ma.toNat),
            rows := if ((mma 0).ta == 1#1) = true then if (mma 0).kq = 0#7 then 4096 else 32 * (mma 0).kq.toNat else 128,
            width :=
              rowBytes (mma 0).format.toNat
                (if ((mma 0).ta == 1#1) = true then 128 else if (mma 0).kq = 0#7 then 4096 else 32 * (mma 0).kq.toNat) :
            Span },
          { lo := descBase (mx.mReg (mma 0).mb.toNat) 0, pitch := descPitch (mx.mReg (mma 0).mb.toNat),
            rows := if ((mma 0).tb == 1#1) = true then 128 else if (mma 0).kq = 0#7 then 4096 else 32 * (mma 0).kq.toNat,
            width :=
              rowBytes (mma 0).format.toNat
                (if ((mma 0).tb == 1#1) = true then if (mma 0).kq = 0#7 then 4096 else 32 * (mma 0).kq.toNat else 128) :
            Span },
          { lo := descBase (mx.mReg ((mma 0).ma.toNat + 1)) 0, pitch := descPitch (mx.mReg ((mma 0).ma.toNat + 1)), rows := 128,
            width := (if (mma 0).kq = 0#7 then 4096 else 32 * (mma 0).kq.toNat) / 32 : Span },
          { lo := descBase (mx.mReg ((mma 0).mb.toNat + 1)) 0, pitch := descPitch (mx.mReg ((mma 0).mb.toNat + 1)),
            rows := (if (mma 0).kq = 0#7 then 4096 else 32 * (mma 0).kq.toNat) / 32, width := 128 : Span }]
      else
        [{ lo := descBase (mx.mReg (mma 0).ma.toNat) 0, pitch := descPitch (mx.mReg (mma 0).ma.toNat),
            rows := if ((mma 0).ta == 1#1) = true then if (mma 0).kq = 0#7 then 4096 else 32 * (mma 0).kq.toNat else 128,
            width :=
              rowBytes (mma 0).format.toNat
                (if ((mma 0).ta == 1#1) = true then 128 else if (mma 0).kq = 0#7 then 4096 else 32 * (mma 0).kq.toNat) :
            Span },
          { lo := descBase (mx.mReg (mma 0).mb.toNat) 0, pitch := descPitch (mx.mReg (mma 0).mb.toNat),
            rows := if ((mma 0).tb == 1#1) = true then 128 else if (mma 0).kq = 0#7 then 4096 else 32 * (mma 0).kq.toNat,
            width :=
              rowBytes (mma 0).format.toNat
                (if ((mma 0).tb == 1#1) = true then if (mma 0).kq = 0#7 then 4096 else 32 * (mma 0).kq.toNat else 128) :
            Span }]) →
    p.inside (matrix.part matrix.cur) = true) := ⟨issues_matrix, rfl, ⟨by decide, rfl, rfl, by decide, by decide⟩, rfl, rfl, by decide, by decide, by decide, by decide, by decide, by decide +kernel, by decide +kernel⟩
theorem witness_mma_behind :
    chained.Issues bx ∧
    bx.Guarded (mma 0).g ∧
    chained.MReady bx (mma 0).z ∧
    (mma 0).rest = 0#10 ∧
    (SMap.get { : Tile } bx.z (mma 0).z.toNat).i32 = ((mma 0).format.toNat == 5 || (mma 0).format.toNat == 6 || (mma 0).format.toNat == 7) ∧
    ((mma 0).format.toNat ∈ if false = true then [4, 5, 6, 7] else [1, 2, 3]) ∧
    (false = true → (mma 0).ma.toNat % 2 = 0 ∧ (mma 0).mb.toNat % 2 = 0) ∧
    (false = true → ((mma 0).ta == 1#1) = false ∧ ((mma 0).tb == 1#1) = false) ∧
    ((mma 0).gauge = 1#1 → (SMap.get { : Tile } bx.z (mma 0).z.toNat).gv = true) ∧
    (∀ (r : Nat),
  (r ∈
      if false = true then [(mma 0).ma.toNat, (mma 0).mb.toNat, (mma 0).ma.toNat + 1, (mma 0).mb.toNat + 1]
      else [(mma 0).ma.toNat, (mma 0).mb.toNat]) →
    descBad (bx.mReg r) true = false ∧ descBase (bx.mReg r) 0 % 32 = 0) ∧
    (macroOffence (chained.part chained.cur)
    (if false = true then
      [{ lo := descBase (bx.mReg (mma 0).ma.toNat) 0, pitch := descPitch (bx.mReg (mma 0).ma.toNat),
          rows := if ((mma 0).ta == 1#1) = true then if (mma 0).kq = 0#7 then 4096 else 32 * (mma 0).kq.toNat else 128,
          width :=
            rowBytes (mma 0).format.toNat
              (if ((mma 0).ta == 1#1) = true then 128 else if (mma 0).kq = 0#7 then 4096 else 32 * (mma 0).kq.toNat) :
          Span },
        { lo := descBase (bx.mReg (mma 0).mb.toNat) 0, pitch := descPitch (bx.mReg (mma 0).mb.toNat),
          rows := if ((mma 0).tb == 1#1) = true then 128 else if (mma 0).kq = 0#7 then 4096 else 32 * (mma 0).kq.toNat,
          width :=
            rowBytes (mma 0).format.toNat
              (if ((mma 0).tb == 1#1) = true then if (mma 0).kq = 0#7 then 4096 else 32 * (mma 0).kq.toNat else 128) :
          Span },
        { lo := descBase (bx.mReg ((mma 0).ma.toNat + 1)) 0, pitch := descPitch (bx.mReg ((mma 0).ma.toNat + 1)), rows := 128,
          width := (if (mma 0).kq = 0#7 then 4096 else 32 * (mma 0).kq.toNat) / 32 : Span },
        { lo := descBase (bx.mReg ((mma 0).mb.toNat + 1)) 0, pitch := descPitch (bx.mReg ((mma 0).mb.toNat + 1)),
          rows := (if (mma 0).kq = 0#7 then 4096 else 32 * (mma 0).kq.toNat) / 32, width := 128 : Span }]
    else
      [{ lo := descBase (bx.mReg (mma 0).ma.toNat) 0, pitch := descPitch (bx.mReg (mma 0).ma.toNat),
          rows := if ((mma 0).ta == 1#1) = true then if (mma 0).kq = 0#7 then 4096 else 32 * (mma 0).kq.toNat else 128,
          width :=
            rowBytes (mma 0).format.toNat
              (if ((mma 0).ta == 1#1) = true then 128 else if (mma 0).kq = 0#7 then 4096 else 32 * (mma 0).kq.toNat) :
          Span },
        { lo := descBase (bx.mReg (mma 0).mb.toNat) 0, pitch := descPitch (bx.mReg (mma 0).mb.toNat),
          rows := if ((mma 0).tb == 1#1) = true then 128 else if (mma 0).kq = 0#7 then 4096 else 32 * (mma 0).kq.toNat,
          width :=
            rowBytes (mma 0).format.toNat
              (if ((mma 0).tb == 1#1) = true then if (mma 0).kq = 0#7 then 4096 else 32 * (mma 0).kq.toNat else 128) :
          Span }]) =
  none) ∧
    (∀ (p : Span),
  (p ∈
      if false = true then
        [{ lo := descBase (bx.mReg (mma 0).ma.toNat) 0, pitch := descPitch (bx.mReg (mma 0).ma.toNat),
            rows := if ((mma 0).ta == 1#1) = true then if (mma 0).kq = 0#7 then 4096 else 32 * (mma 0).kq.toNat else 128,
            width :=
              rowBytes (mma 0).format.toNat
                (if ((mma 0).ta == 1#1) = true then 128 else if (mma 0).kq = 0#7 then 4096 else 32 * (mma 0).kq.toNat) :
            Span },
          { lo := descBase (bx.mReg (mma 0).mb.toNat) 0, pitch := descPitch (bx.mReg (mma 0).mb.toNat),
            rows := if ((mma 0).tb == 1#1) = true then 128 else if (mma 0).kq = 0#7 then 4096 else 32 * (mma 0).kq.toNat,
            width :=
              rowBytes (mma 0).format.toNat
                (if ((mma 0).tb == 1#1) = true then if (mma 0).kq = 0#7 then 4096 else 32 * (mma 0).kq.toNat else 128) :
            Span },
          { lo := descBase (bx.mReg ((mma 0).ma.toNat + 1)) 0, pitch := descPitch (bx.mReg ((mma 0).ma.toNat + 1)), rows := 128,
            width := (if (mma 0).kq = 0#7 then 4096 else 32 * (mma 0).kq.toNat) / 32 : Span },
          { lo := descBase (bx.mReg ((mma 0).mb.toNat + 1)) 0, pitch := descPitch (bx.mReg ((mma 0).mb.toNat + 1)),
            rows := (if (mma 0).kq = 0#7 then 4096 else 32 * (mma 0).kq.toNat) / 32, width := 128 : Span }]
      else
        [{ lo := descBase (bx.mReg (mma 0).ma.toNat) 0, pitch := descPitch (bx.mReg (mma 0).ma.toNat),
            rows := if ((mma 0).ta == 1#1) = true then if (mma 0).kq = 0#7 then 4096 else 32 * (mma 0).kq.toNat else 128,
            width :=
              rowBytes (mma 0).format.toNat
                (if ((mma 0).ta == 1#1) = true then 128 else if (mma 0).kq = 0#7 then 4096 else 32 * (mma 0).kq.toNat) :
            Span },
          { lo := descBase (bx.mReg (mma 0).mb.toNat) 0, pitch := descPitch (bx.mReg (mma 0).mb.toNat),
            rows := if ((mma 0).tb == 1#1) = true then 128 else if (mma 0).kq = 0#7 then 4096 else 32 * (mma 0).kq.toNat,
            width :=
              rowBytes (mma 0).format.toNat
                (if ((mma 0).tb == 1#1) = true then if (mma 0).kq = 0#7 then 4096 else 32 * (mma 0).kq.toNat else 128) :
            Span }]) →
    p.inside (chained.part chained.cur) = true) := ⟨issues_of _ _ rfl rfl rfl rfl rfl ⟨rfl, rfl, rfl, rfl⟩ rfl, rfl, ⟨by decide, rfl, rfl, by decide, by decide⟩, rfl, rfl, by decide, by decide, by decide, by decide, by decide, by decide +kernel, by decide +kernel⟩
theorem witness_mmax :
    matrix.Issues mx ∧
    mx.Guarded mmax.g ∧
    matrix.MReady mx mmax.z ∧
    mmax.rest = 0#10 ∧
    (SMap.get { : Tile } mx.z mmax.z.toNat).i32 = (mmax.format.toNat == 5 || mmax.format.toNat == 6 || mmax.format.toNat == 7) ∧
    (mmax.format.toNat ∈ if true = true then [4, 5, 6, 7] else [1, 2, 3]) ∧
    (true = true → mmax.ma.toNat % 2 = 0 ∧ mmax.mb.toNat % 2 = 0) ∧
    (true = true → (mmax.ta == 1#1) = false ∧ (mmax.tb == 1#1) = false) ∧
    (mmax.gauge = 1#1 → (SMap.get { : Tile } mx.z mmax.z.toNat).gv = true) ∧
    (∀ (r : Nat),
  (r ∈ if true = true then [mmax.ma.toNat, mmax.mb.toNat, mmax.ma.toNat + 1, mmax.mb.toNat + 1] else [mmax.ma.toNat, mmax.mb.toNat]) →
    descBad (mx.mReg r) true = false ∧ descBase (mx.mReg r) 0 % 32 = 0) ∧
    (macroOffence (matrix.part matrix.cur)
    (if true = true then
      [{ lo := descBase (mx.mReg mmax.ma.toNat) 0, pitch := descPitch (mx.mReg mmax.ma.toNat),
          rows := if (mmax.ta == 1#1) = true then if mmax.kq = 0#7 then 4096 else 32 * mmax.kq.toNat else 128,
          width :=
            rowBytes mmax.format.toNat (if (mmax.ta == 1#1) = true then 128 else if mmax.kq = 0#7 then 4096 else 32 * mmax.kq.toNat) :
          Span },
        { lo := descBase (mx.mReg mmax.mb.toNat) 0, pitch := descPitch (mx.mReg mmax.mb.toNat),
          rows := if (mmax.tb == 1#1) = true then 128 else if mmax.kq = 0#7 then 4096 else 32 * mmax.kq.toNat,
          width :=
            rowBytes mmax.format.toNat (if (mmax.tb == 1#1) = true then if mmax.kq = 0#7 then 4096 else 32 * mmax.kq.toNat else 128) :
          Span },
        { lo := descBase (mx.mReg (mmax.ma.toNat + 1)) 0, pitch := descPitch (mx.mReg (mmax.ma.toNat + 1)), rows := 128,
          width := (if mmax.kq = 0#7 then 4096 else 32 * mmax.kq.toNat) / 32 : Span },
        { lo := descBase (mx.mReg (mmax.mb.toNat + 1)) 0, pitch := descPitch (mx.mReg (mmax.mb.toNat + 1)),
          rows := (if mmax.kq = 0#7 then 4096 else 32 * mmax.kq.toNat) / 32, width := 128 : Span }]
    else
      [{ lo := descBase (mx.mReg mmax.ma.toNat) 0, pitch := descPitch (mx.mReg mmax.ma.toNat),
          rows := if (mmax.ta == 1#1) = true then if mmax.kq = 0#7 then 4096 else 32 * mmax.kq.toNat else 128,
          width :=
            rowBytes mmax.format.toNat (if (mmax.ta == 1#1) = true then 128 else if mmax.kq = 0#7 then 4096 else 32 * mmax.kq.toNat) :
          Span },
        { lo := descBase (mx.mReg mmax.mb.toNat) 0, pitch := descPitch (mx.mReg mmax.mb.toNat),
          rows := if (mmax.tb == 1#1) = true then 128 else if mmax.kq = 0#7 then 4096 else 32 * mmax.kq.toNat,
          width :=
            rowBytes mmax.format.toNat (if (mmax.tb == 1#1) = true then if mmax.kq = 0#7 then 4096 else 32 * mmax.kq.toNat else 128) :
          Span }]) =
  none) ∧
    (∀ (p : Span),
  (p ∈
      if true = true then
        [{ lo := descBase (mx.mReg mmax.ma.toNat) 0, pitch := descPitch (mx.mReg mmax.ma.toNat),
            rows := if (mmax.ta == 1#1) = true then if mmax.kq = 0#7 then 4096 else 32 * mmax.kq.toNat else 128,
            width :=
              rowBytes mmax.format.toNat (if (mmax.ta == 1#1) = true then 128 else if mmax.kq = 0#7 then 4096 else 32 * mmax.kq.toNat) :
            Span },
          { lo := descBase (mx.mReg mmax.mb.toNat) 0, pitch := descPitch (mx.mReg mmax.mb.toNat),
            rows := if (mmax.tb == 1#1) = true then 128 else if mmax.kq = 0#7 then 4096 else 32 * mmax.kq.toNat,
            width :=
              rowBytes mmax.format.toNat (if (mmax.tb == 1#1) = true then if mmax.kq = 0#7 then 4096 else 32 * mmax.kq.toNat else 128) :
            Span },
          { lo := descBase (mx.mReg (mmax.ma.toNat + 1)) 0, pitch := descPitch (mx.mReg (mmax.ma.toNat + 1)), rows := 128,
            width := (if mmax.kq = 0#7 then 4096 else 32 * mmax.kq.toNat) / 32 : Span },
          { lo := descBase (mx.mReg (mmax.mb.toNat + 1)) 0, pitch := descPitch (mx.mReg (mmax.mb.toNat + 1)),
            rows := (if mmax.kq = 0#7 then 4096 else 32 * mmax.kq.toNat) / 32, width := 128 : Span }]
      else
        [{ lo := descBase (mx.mReg mmax.ma.toNat) 0, pitch := descPitch (mx.mReg mmax.ma.toNat),
            rows := if (mmax.ta == 1#1) = true then if mmax.kq = 0#7 then 4096 else 32 * mmax.kq.toNat else 128,
            width :=
              rowBytes mmax.format.toNat (if (mmax.ta == 1#1) = true then 128 else if mmax.kq = 0#7 then 4096 else 32 * mmax.kq.toNat) :
            Span },
          { lo := descBase (mx.mReg mmax.mb.toNat) 0, pitch := descPitch (mx.mReg mmax.mb.toNat),
            rows := if (mmax.tb == 1#1) = true then 128 else if mmax.kq = 0#7 then 4096 else 32 * mmax.kq.toNat,
            width :=
              rowBytes mmax.format.toNat (if (mmax.tb == 1#1) = true then if mmax.kq = 0#7 then 4096 else 32 * mmax.kq.toNat else 128) :
            Span }]) →
    p.inside (matrix.part matrix.cur) = true) := ⟨issues_matrix, rfl, ⟨by decide, rfl, rfl, by decide, by decide⟩, rfl, rfl, by decide, by decide, by decide, by decide, by decide, by decide +kernel, by decide +kernel⟩
theorem witness_mjoin :
    twoClusters.Issues cx ∧
    cx.Guarded { g := always, z := 0#5, partner := 1#8, jn := 0#4, h := 1#1, token := 3#3, rest := 0#17 : MJoin }.g ∧
    twoClusters.MReady cx { g := always, z := 0#5, partner := 1#8, jn := 0#4, h := 1#1, token := 3#3, rest := 0#17 : MJoin }.z ∧
    cx.busyUpto { g := always, z := 0#5, partner := 1#8, jn := 0#4, h := 1#1, token := 3#3, rest := 0#17 : MJoin }.z.toNat = none ∧
    { g := always, z := 0#5, partner := 1#8, jn := 0#4, h := 1#1, token := 3#3, rest := 0#17 : MJoin }.rest = 0#17 ∧
    twoClusters.gang cx.gang =
  some
    { id := 0, die := 0, step := none, klass := 3, members := [(0, 0), (8, 1)], ntask := 2, joinwait := 100, win := 1#3,
      part := 34343042#64, savebase := 0#64, cores := [0, 2] : Gang } ∧
    { g := always, z := 0#5, partner := 1#8, jn := 0#4, h := 1#1, token := 3#3, rest := 0#17 : MJoin }.partner.toNat ≠ cx.member ∧
    { id := 0, die := 0, step := none, klass := 3, members := [(0, 0), (8, 1)], ntask := 2, joinwait := 100, win := 1#3, part := 34343042#64,
        savebase := 0#64, cores := [0, 2] : Gang }.ctxOf
    { g := always, z := 0#5, partner := 1#8, jn := 0#4, h := 1#1, token := 3#3, rest := 0#17 : MJoin }.partner.toNat =
  some 8 ∧
    ctxCluster 8 ≠ ctxCluster twoClusters.cur ∧
    (∀ (i : Nat) (y : Ctx), i < 4 → twoClusters.ctx (4 * ctxCore twoClusters.cur + i) = some y → y.join = none) := ⟨issues_of _ _ rfl rfl rfl rfl rfl ⟨rfl, rfl, rfl, rfl⟩ rfl, rfl, ⟨by decide, rfl, rfl, by decide, by decide⟩, rfl, rfl, rfl, by decide, rfl, by decide, by
      intro i y h1 h2
      rcases i with _ | _ | _ | _ | i <;>
        first | (exact absurd h1 (by omega)) | (cases (show some cx = some y from h2); rfl) | (cases (show none = some y from h2))⟩

/-! ### Witnesses: the load/store slot -/

/-- A context whose d registers name the scratchpad, the cluster SRAM and a barrier in it, with a stride and a gauge in d4. -/
def lx : Ctx :=
  { vx with
    sptop := 1#16, v := vx.v ++ [(8, four 0#32 2#32 0xFFFFFFFE#32 5#32)]
    d := cx.d ++ [(4, 0x0005000000000008#64), (5, 0x8000000000000100#64), (6, 0x8000000000000300#64)] }
/-- The module around it: gauge 5 is allocated. -/
def loads : State := (st lx).writeEverywhere (shardAddr 0 5 + 0xA0) [1#8]
theorem issues_loads : loads.Issues lx := issues_of _ _ rfl rfl rfl rfl rfl ⟨rfl, rfl, rfl, rfl⟩ rfl
/-- A load or store of the general layout, in the lanes of p1. -/
def lgen (file : BitVec 2) (reg : BitVec 9) (base : BitVec 5) (ps : BitVec 1) (off : BitVec 14) (size : BitVec 4) : LGen :=
  ⟨g1, file, reg, base, ps, off, size, 7#3⟩
/-- Atomics on the doubleword or word at d1. -/
def atomD (ak : BitVec 2) (aop : BitVec 4) (sz : BitVec 2) (rd rs : BitVec 6) (ord : BitVec 2) : LAtom := ⟨always, 0#2, rd, rs, 1#5, ak, aop, sz, ord, 4#3, 0#1, 0#2, 1#3⟩
/-- A strided access of words at d1 by d4, counted or not. -/
def strided (gauge : BitVec 1) : LStr := ⟨g1, 2#2, 1#9, 1#5, 4#5, gauge, 3#9, 0#4, 1#3⟩
/-- An indexed access of words at d2 by v8. -/
def indexed : LIdx := ⟨g1, 2#2, 1#9, 8#9, 2#5, 2#3, 0#3, 9#4, 1#3⟩
/-- A vector atomic of words at d2 by v8. -/
def vatomic : LVAtom := ⟨g1, 2#2, 1#9, 8#9, 2#5, 10#4, 3#2, 2#3, 1#1, 1#3⟩
/-- A barrier operation on the barrier at d3. -/
def bar (src : BitVec 1) (imm : BitVec 18) (tok : BitVec 3) : LBar := ⟨always, 0#2, if src = 1#1 then 6#9 else 0#9, 3#5, src, imm, tok⟩

theorem witness_ld :
    loads.Issues lx ∧
    lx.Guarded (lgen 1 63 1 0 8191 3).g ∧
    (lgen 1 63 1 0 8191 3).size.toNat < 8 ∧
    (lgen 1 63 1 0 8191 3).size.toNat ≠ 7 ∧
    NoBad ((loads.envAlone lx (Instr.ld (lgen 1 63 1 0 8191 3))).fileChecks true false (lgen 1 63 1 0 8191 3).file (lgen 1 63 1 0 8191 3).reg) ∧
    ((loads.envAlone lx (Instr.ld (lgen 1 63 1 0 8191 3))).resolve { perm := Perm.read, mmio := true : Ask }
    { lane := 0,
      addr :=
        if (lgen 1 63 1 0 8191 3).ps = 1#1 then lx.dReg (lgen 1 63 1 0 8191 3).base.toNat
        else
          lx.dReg (lgen 1 63 1 0 8191 3).base.toNat +
            BitVec.ofInt 64 ((lgen 1 63 1 0 8191 3).off.toInt * ↑(2 ^ ((lgen 1 63 1 0 8191 3).size.toNat % 4))),
      size := 2 ^ ((lgen 1 63 1 0 8191 3).size.toNat % 4) : Req } =
  Except.ok (Loc.spad 0 65784)) := ⟨issues_loads, rfl, by decide, by decide, rfl, loc_of (by decide +kernel)⟩
theorem witness_vld :
    loads.Issues lx ∧
    lx.guard (lgen 2 191 1 0 2 0).g ≠ 0#64 ∧
    NoBad
  ((loads.envAlone lx (Instr.vld (lgen 2 191 1 0 2 0))).vmemChecks (lgen 2 191 1 0 2 0).file (lgen 2 191 1 0 2 0).reg
    (lgen 2 191 1 0 2 0).size false) ∧
    (∃ ls, (loads.envAlone lx (Instr.vld (lgen 2 191 1 0 2 0))).resolveAll { perm := Perm.read : Ask }
  (packedReqs (lgen 2 191 1 0 2 0).size.toNat (lx.guard (lgen 2 191 1 0 2 0).g)
    (if (lgen 2 191 1 0 2 0).ps = 1#1 then lx.dReg (lgen 2 191 1 0 2 0).base.toNat
    else
      lx.dReg (lgen 2 191 1 0 2 0).base.toNat +
        BitVec.ofInt 64 ((lgen 2 191 1 0 2 0).off.toInt * ↑(elemBytes (lgen 2 191 1 0 2 0).size.toNat)))) = .ok ls) := ⟨issues_loads, by decide, rfl, ⟨_, rfl⟩⟩
theorem witness_vld_packed :
    loads.Issues lx ∧
    lx.guard (lgen 3 5 1 1 2 4).g ≠ 0#64 ∧
    NoBad
  ((loads.envAlone lx (Instr.vld (lgen 3 5 1 1 2 4))).vmemChecks (lgen 3 5 1 1 2 4).file (lgen 3 5 1 1 2 4).reg (lgen 3 5 1 1 2 4).size
    false) ∧
    (∃ ls, (loads.envAlone lx (Instr.vld (lgen 3 5 1 1 2 4))).resolveAll { perm := Perm.read : Ask }
  (packedReqs (lgen 3 5 1 1 2 4).size.toNat (lx.guard (lgen 3 5 1 1 2 4).g)
    (if (lgen 3 5 1 1 2 4).ps = 1#1 then lx.dReg (lgen 3 5 1 1 2 4).base.toNat
    else
      lx.dReg (lgen 3 5 1 1 2 4).base.toNat +
        BitVec.ofInt 64 ((lgen 3 5 1 1 2 4).off.toInt * ↑(elemBytes (lgen 3 5 1 1 2 4).size.toNat)))) = .ok ls) := ⟨issues_loads, by decide, rfl, ⟨_, rfl⟩⟩
theorem witness_ldj :
    loads.Issues lx ∧
    (if 2 ≤ (lgen 2 5 1 1 3 15).file.toNat then lx.guard (lgen 2 5 1 1 3 15).g ≠ 0#64 else lx.Guarded (lgen 2 5 1 1 3 15).g) ∧
    (lgen 2 5 1 1 3 15).base ≠ 31#5 ∧
    (lgen 2 5 1 1 3 15).size = 15#4 ∧
    NoBad ((loads.envAlone lx (Instr.ldj (lgen 2 5 1 1 3 15))).fileChecks true true (lgen 2 5 1 1 3 15).file (lgen 2 5 1 1 3 15).reg) ∧
    (∃ ls, (loads.envAlone lx (Instr.ldj (lgen 2 5 1 1 3 15))).resolveAll { perm := Perm.read : Ask }
  (List.map
    (fun n =>
      { lane := n,
        addr :=
          (lx.dReg (lgen 2 5 1 1 3 15).base.toNat +
              if (lgen 2 5 1 1 3 15).ps = 1#1 then 0#64 else BitVec.ofInt 64 ((lgen 2 5 1 1 3 15).off.toInt * 2)) +
            BitVec.ofNat 64 (2 * n),
        size := 2 : Req })
    (if 2 ≤ (lgen 2 5 1 1 3 15).file.toNat then (lx.guard (lgen 2 5 1 1 3 15).g).lanes else [0])) = .ok ls) ∧
    (∃ ls, (loads.envAlone lx (Instr.ldj (lgen 2 5 1 1 3 15))).resolveAll { perm := Perm.read : Ask }
  (List.map
    (fun n =>
      { lane := n,
        addr :=
          (lx.dReg ((lgen 2 5 1 1 3 15).base.toNat + 1) +
              if (lgen 2 5 1 1 3 15).ps = 1#1 then 0#64 else BitVec.ofInt 64 ((lgen 2 5 1 1 3 15).off.toInt * 2)) +
            BitVec.ofNat 64 (2 * n),
        size := 2 : Req })
    (if 2 ≤ (lgen 2 5 1 1 3 15).file.toNat then (lx.guard (lgen 2 5 1 1 3 15).g).lanes else [0])) = .ok ls) := ⟨issues_loads, by first | (rw [if_pos (by decide)]; decide) | (rw [if_neg (by decide)]; rfl), by decide, rfl, rfl, ⟨_, rfl⟩, ⟨_, rfl⟩⟩
theorem witness_st :
    loads.Issues lx ∧
    lx.Guarded (lgen 1 63 1 1 8191 3).g ∧
    (lgen 1 63 1 1 8191 3).size.toNat < 4 ∧
    NoBad ((loads.envAlone lx (Instr.st (lgen 1 63 1 1 8191 3))).fileChecks true false (lgen 1 63 1 1 8191 3).file (lgen 1 63 1 1 8191 3).reg) ∧
    ((loads.envAlone lx (Instr.st (lgen 1 63 1 1 8191 3))).resolve { perm := Perm.write, mmio := true : Ask }
    { lane := 0,
      addr :=
        if (lgen 1 63 1 1 8191 3).ps = 1#1 then lx.dReg (lgen 1 63 1 1 8191 3).base.toNat
        else
          lx.dReg (lgen 1 63 1 1 8191 3).base.toNat +
            BitVec.ofInt 64 ((lgen 1 63 1 1 8191 3).off.toInt * ↑(2 ^ (lgen 1 63 1 1 8191 3).size.toNat)),
      size := 2 ^ (lgen 1 63 1 1 8191 3).size.toNat : Req } =
  Except.ok (Loc.spad 0 256)) := ⟨issues_loads, rfl, by decide, rfl, loc_of (by decide +kernel)⟩
theorem witness_vst :
    loads.Issues lx ∧
    lx.guard (lgen 2 1 1 0 2 1).g ≠ 0#64 ∧
    NoBad
  ((loads.envAlone lx (Instr.vst (lgen 2 1 1 0 2 1))).vmemChecks (lgen 2 1 1 0 2 1).file (lgen 2 1 1 0 2 1).reg (lgen 2 1 1 0 2 1).size
    false) ∧
    (∃ ls, (loads.envAlone lx (Instr.vst (lgen 2 1 1 0 2 1))).resolveAll { perm := Perm.write : Ask }
  (packedReqs (lgen 2 1 1 0 2 1).size.toNat (lx.guard (lgen 2 1 1 0 2 1).g)
    (if (lgen 2 1 1 0 2 1).ps = 1#1 then lx.dReg (lgen 2 1 1 0 2 1).base.toNat
    else
      lx.dReg (lgen 2 1 1 0 2 1).base.toNat +
        BitVec.ofInt 64 ((lgen 2 1 1 0 2 1).off.toInt * ↑(elemBytes (lgen 2 1 1 0 2 1).size.toNat)))) = .ok ls) := ⟨issues_loads, by decide, rfl, ⟨_, rfl⟩⟩
theorem witness_vst_packed :
    loads.Issues lx ∧
    lx.guard (lgen 2 1 1 1 2 4).g ≠ 0#64 ∧
    NoBad
  ((loads.envAlone lx (Instr.vst (lgen 2 1 1 1 2 4))).vmemChecks (lgen 2 1 1 1 2 4).file (lgen 2 1 1 1 2 4).reg (lgen 2 1 1 1 2 4).size
    false) ∧
    (∃ ls, (loads.envAlone lx (Instr.vst (lgen 2 1 1 1 2 4))).resolveAll { perm := Perm.write : Ask }
  (packedReqs (lgen 2 1 1 1 2 4).size.toNat (lx.guard (lgen 2 1 1 1 2 4).g)
    (if (lgen 2 1 1 1 2 4).ps = 1#1 then lx.dReg (lgen 2 1 1 1 2 4).base.toNat
    else
      lx.dReg (lgen 2 1 1 1 2 4).base.toNat +
        BitVec.ofInt 64 ((lgen 2 1 1 1 2 4).off.toInt * ↑(elemBytes (lgen 2 1 1 1 2 4).size.toNat)))) = .ok ls) := ⟨issues_loads, by decide, rfl, ⟨_, rfl⟩⟩
theorem witness_stj :
    loads.Issues lx ∧
    (if 2 ≤ (lgen 2 1 1 1 3 15).file.toNat then lx.guard (lgen 2 1 1 1 3 15).g ≠ 0#64 else lx.Guarded (lgen 2 1 1 1 3 15).g) ∧
    (lgen 2 1 1 1 3 15).base ≠ 31#5 ∧
    (lgen 2 1 1 1 3 15).size = 15#4 ∧
    NoBad ((loads.envAlone lx (Instr.stj (lgen 2 1 1 1 3 15))).fileChecks true true (lgen 2 1 1 1 3 15).file (lgen 2 1 1 1 3 15).reg) ∧
    (∃ ls, (loads.envAlone lx (Instr.stj (lgen 2 1 1 1 3 15))).resolveAll { perm := Perm.write : Ask }
  (List.map
    (fun n =>
      { lane := n,
        addr :=
          (lx.dReg (lgen 2 1 1 1 3 15).base.toNat +
              if (lgen 2 1 1 1 3 15).ps = 1#1 then 0#64 else BitVec.ofInt 64 ((lgen 2 1 1 1 3 15).off.toInt * 2)) +
            BitVec.ofNat 64 (2 * n),
        size := 2 : Req })
    (if 2 ≤ (lgen 2 1 1 1 3 15).file.toNat then (lx.guard (lgen 2 1 1 1 3 15).g).lanes else [0])) = .ok ls) ∧
    (∃ ls, (loads.envAlone lx (Instr.stj (lgen 2 1 1 1 3 15))).resolveAll { perm := Perm.write : Ask }
  (List.map
    (fun n =>
      { lane := n,
        addr :=
          (lx.dReg ((lgen 2 1 1 1 3 15).base.toNat + 1) +
              if (lgen 2 1 1 1 3 15).ps = 1#1 then 0#64 else BitVec.ofInt 64 ((lgen 2 1 1 1 3 15).off.toInt * 2)) +
            BitVec.ofNat 64 (2 * n),
        size := 2 : Req })
    (if 2 ≤ (lgen 2 1 1 1 3 15).file.toNat then (lx.guard (lgen 2 1 1 1 3 15).g).lanes else [0])) = .ok ls) := ⟨issues_loads, by first | (rw [if_pos (by decide)]; decide) | (rw [if_neg (by decide)]; rfl), by decide, rfl, rfl, ⟨_, rfl⟩, ⟨_, rfl⟩⟩
theorem witness_vlds :
    loads.Issues lx ∧
    lx.guard (strided 0).g ≠ 0#64 ∧
    (strided 0).gauge = 0#1 ∧
    NoBad ((loads.envAlone lx (Instr.vlds (strided 0))).vmemChecks (strided 0).file (strided 0).reg (strided 0).size true) ∧
    (∃ ls, (loads.envAlone lx (Instr.vlds (strided 0))).resolveAll { perm := Perm.read : Ask }
  (List.map
    (fun n =>
      { lane := n,
        addr :=
          lx.dReg (strided 0).base.toNat +
            BitVec.ofInt 64
              ((strided 0).off.toInt * ↑(elemBytes (strided 0).size.toNat) +
                ↑n * (BitVec.extractLsb' 0 32 (lx.dReg (strided 0).sd.toNat)).toInt),
        size := elemBytes (strided 0).size.toNat : Req })
    (lx.guard (strided 0).g).lanes) = .ok ls) := ⟨issues_loads, by decide, rfl, rfl, ⟨_, rfl⟩⟩
theorem witness_vsts :
    loads.Issues lx ∧
    lx.guard (strided 1).g ≠ 0#64 ∧
    NoBad ((loads.envAlone lx (Instr.vsts (strided 1))).vmemChecks (strided 1).file (strided 1).reg (strided 1).size true) ∧
    ((strided 1).gauge = 1#1 → loads.gaugeAlloc (ctxDie loads.cur) (BitVec.toNat (lx.dReg (strided 1).sd.toNat) / 2 ^ 48) = true) ∧
    (∃ ls, (loads.envAlone lx (Instr.vsts (strided 1))).resolveAll { perm := Perm.write : Ask }
  (List.map
    (fun n =>
      { lane := n,
        addr :=
          lx.dReg (strided 1).base.toNat +
            BitVec.ofInt 64
              ((strided 1).off.toInt * ↑(elemBytes (strided 1).size.toNat) +
                ↑n * (BitVec.extractLsb' 0 32 (lx.dReg (strided 1).sd.toNat)).toInt),
        size := elemBytes (strided 1).size.toNat : Req })
    (lx.guard (strided 1).g).lanes) = .ok ls) := ⟨issues_loads, by decide, rfl, by decide +kernel, ⟨_, rfl⟩⟩
theorem witness_vgth :
    loads.Issues lx ∧
    lx.guard indexed.g ≠ 0#64 ∧
    indexed.rest = 0#3 ∧
    indexed.ix.toNat < partVreg (loads.part loads.cur) ∧
    NoBad ((loads.envAlone lx (Instr.vgth indexed)).vmemChecks indexed.file indexed.reg indexed.size true) ∧
    (∃ ls, (loads.envAlone lx (Instr.vgth indexed)).resolveAll { perm := Perm.read : Ask }
  (List.map
    (fun n =>
      { lane := n,
        addr :=
          lx.dReg indexed.base.toNat + BitVec.signExtend 64 ((lx.vec (indexed.file == 3#2) indexed.ix.toNat).lane n) <<< indexed.sh.toNat,
        size := elemBytes indexed.size.toNat : Req })
    (lx.guard indexed.g).lanes) = .ok ls) := ⟨issues_loads, by decide, rfl, by decide, rfl, ⟨_, rfl⟩⟩
theorem witness_vsct :
    loads.Issues lx ∧
    lx.guard indexed.g ≠ 0#64 ∧
    indexed.rest = 0#3 ∧
    indexed.ix.toNat < partVreg (loads.part loads.cur) ∧
    NoBad ((loads.envAlone lx (Instr.vsct indexed)).vmemChecks indexed.file indexed.reg indexed.size true) ∧
    (∃ ls, (loads.envAlone lx (Instr.vsct indexed)).resolveAll { perm := Perm.write : Ask }
  (List.map
    (fun n =>
      { lane := n,
        addr :=
          lx.dReg indexed.base.toNat + BitVec.signExtend 64 ((lx.vec (indexed.file == 3#2) indexed.ix.toNat).lane n) <<< indexed.sh.toNat,
        size := elemBytes indexed.size.toNat : Req })
    (lx.guard indexed.g).lanes) = .ok ls) := ⟨issues_loads, by decide, rfl, by decide, rfl, ⟨_, rfl⟩⟩
theorem witness_atom :
    loads.Issues lx ∧
    lx.Guarded (atomD 0 10 2 5 6 3).g ∧
    (atomD 0 10 2 5 6 3).scope.toNat ≤ 4 ∧
    (atomD 0 10 2 5 6 3).rest = 0#2 ∧
    (¬((atomD 0 10 2 5 6 3).sx = 1#1 ∧ (atomD 0 10 2 5 6 3).sz = 3#2)) ∧
    (atomD 0 10 2 5 6 3).file.toNat < 2 ∧
    (∀ (n : BitVec 6), SMap.get (0#64) lx.a n.toNat = SMap.get (0#64) (if (atomD 0 10 2 5 6 3).file = 0#2 then lx.a else lx.b) n.toNat) ∧
    (atomD 0 10 2 5 6 3).ak = 0#2 ∧
    (atomD 0 10 2 5 6 3).aop.toNat ≤ 10 ∧
    2 ≤ (atomD 0 10 2 5 6 3).sz.toNat ∧
    ((atomD 0 10 2 5 6 3).aop = 10#4 → (atomD 0 10 2 5 6 3).sz = 2#2) ∧
    (loads.envAlone lx (Instr.atom (atomD 0 10 2 5 6 3))).resolve { perm := Perm.atomic, rmw := true : Ask }
    { lane := 0, addr := lx.dReg (atomD 0 10 2 5 6 3).base.toNat, size := 2 ^ (atomD 0 10 2 5 6 3).sz.toNat : Req } =
  Except.ok (Loc.spad 0 256) := ⟨issues_loads, rfl, by decide, rfl, by decide, by decide, (fun x => rfl), rfl, by decide, by decide, by decide, loc_of (by decide +kernel)⟩
theorem witness_ld_acq :
    loads.Issues lx ∧
    lx.Guarded (atomD 1 0 3 5 0 1).g ∧
    (atomD 1 0 3 5 0 1).scope.toNat ≤ 4 ∧
    (atomD 1 0 3 5 0 1).rest = 0#2 ∧
    (¬((atomD 1 0 3 5 0 1).sx = 1#1 ∧ (atomD 1 0 3 5 0 1).sz = 3#2)) ∧
    (atomD 1 0 3 5 0 1).file.toNat < 2 ∧
    (∀ (n : BitVec 6), SMap.get (0#64) lx.a n.toNat = SMap.get (0#64) (if (atomD 1 0 3 5 0 1).file = 0#2 then lx.a else lx.b) n.toNat) ∧
    (atomD 1 0 3 5 0 1).ak = 1#2 ∧
    (atomD 1 0 3 5 0 1).aop = 0#4 ∧
    (atomD 1 0 3 5 0 1).ord.toNat < 2 ∧
    (atomD 1 0 3 5 0 1).rs = 0#6 ∧
    (loads.envAlone lx (Instr.ldAcq (atomD 1 0 3 5 0 1))).resolve { perm := Perm.read, mmio := true : Ask }
    { lane := 0, addr := lx.dReg (atomD 1 0 3 5 0 1).base.toNat, size := 2 ^ (atomD 1 0 3 5 0 1).sz.toNat : Req } =
  Except.ok (Loc.spad 0 256) := ⟨issues_loads, rfl, by decide, rfl, by decide, by decide, (fun x => rfl), rfl, rfl, by decide, rfl, loc_of (by decide +kernel)⟩
theorem witness_st_rel :
    loads.Issues lx ∧
    lx.Guarded (atomD 2 0 0 0 5 2).g ∧
    (atomD 2 0 0 0 5 2).scope.toNat ≤ 4 ∧
    (atomD 2 0 0 0 5 2).rest = 0#2 ∧
    (¬((atomD 2 0 0 0 5 2).sx = 1#1 ∧ (atomD 2 0 0 0 5 2).sz = 3#2)) ∧
    (atomD 2 0 0 0 5 2).file.toNat < 2 ∧
    (∀ (n : BitVec 6), SMap.get (0#64) lx.a n.toNat = SMap.get (0#64) (if (atomD 2 0 0 0 5 2).file = 0#2 then lx.a else lx.b) n.toNat) ∧
    (atomD 2 0 0 0 5 2).ak = 2#2 ∧
    (atomD 2 0 0 0 5 2).aop = 0#4 ∧
    (atomD 2 0 0 0 5 2).ord.toNat % 2 = 0 ∧
    (atomD 2 0 0 0 5 2).rd = 0#6 ∧
    (loads.envAlone lx (Instr.stRel (atomD 2 0 0 0 5 2))).resolve { perm := Perm.write, mmio := true : Ask }
    { lane := 0, addr := lx.dReg (atomD 2 0 0 0 5 2).base.toNat, size := 2 ^ (atomD 2 0 0 0 5 2).sz.toNat : Req } =
  Except.ok (Loc.spad 0 256) := ⟨issues_loads, rfl, by decide, rfl, by decide, by decide, (fun x => rfl), rfl, rfl, by decide, rfl, loc_of (by decide +kernel)⟩
theorem witness_vatom :
    loads.Issues lx ∧
    lx.guard vatomic.g ≠ 0#64 ∧
    vatomic.scope.toNat ≤ 4 ∧
    vatomic.aop ≠ 1#4 ∧
    vatomic.aop.toNat ≤ 10 ∧
    NoBad ((loads.envAlone lx (Instr.vatom vatomic)).fileChecks false true vatomic.file vatomic.reg) ∧
    vatomic.ix.toNat < partVreg (loads.part loads.cur) ∧
    (∃ ls, (loads.envAlone lx (Instr.vatom vatomic)).resolveAll { perm := Perm.atomic : Ask }
  (List.map
    (fun n =>
      { lane := n, addr := lx.dReg vatomic.base.toNat + BitVec.signExtend 64 ((lx.vec (vatomic.file == 3#2) vatomic.ix.toNat).lane n) <<< 2,
        size := 4 : Req })
    (lx.guard vatomic.g).lanes) = .ok ls) := ⟨issues_loads, by decide, by decide, by decide, by decide, rfl, by decide, ⟨_, rfl⟩⟩
theorem witness_fence :
    loads.Issues lx ∧
    lx.Guarded { g := always, hi := 0#29, scope := 4#3, mid := 0#3, token := 0#3 : LScope }.g ∧
    { g := always, hi := 0#29, scope := 4#3, mid := 0#3, token := 0#3 : LScope }.hi = 0#29 ∧
    { g := always, hi := 0#29, scope := 4#3, mid := 0#3, token := 0#3 : LScope }.mid = 0#3 ∧
    { g := always, hi := 0#29, scope := 4#3, mid := 0#3, token := 0#3 : LScope }.scope.toNat ≤ 4 ∧
    { g := always, hi := 0#29, scope := 4#3, mid := 0#3, token := 0#3 : LScope }.token = 0#3 := ⟨issues_loads, rfl, rfl, rfl, by decide, rfl⟩
theorem witness_sync :
    loads.Issues lx ∧
    lx.Guarded { g := always, hi := 0#29, scope := 0#3, mid := 0#3, token := 7#3 : LScope }.g ∧
    { g := always, hi := 0#29, scope := 0#3, mid := 0#3, token := 7#3 : LScope }.hi = 0#29 ∧
    { g := always, hi := 0#29, scope := 0#3, mid := 0#3, token := 7#3 : LScope }.mid = 0#3 ∧
    { g := always, hi := 0#29, scope := 0#3, mid := 0#3, token := 7#3 : LScope }.scope.toNat ≤ 4 := ⟨issues_loads, rfl, rfl, rfl, by decide⟩
theorem witness_l1inv :
    loads.Issues lx ∧
    lx.Guarded { g := always, hi := 0#11, base := 1#5, all := 1#1, n := 0#18, token := 1#3 : LLine }.g ∧
    { g := always, hi := 0#11, base := 1#5, all := 1#1, n := 0#18, token := 1#3 : LLine }.hi = 0#11 ∧
    { g := always, hi := 0#11, base := 1#5, all := 1#1, n := 0#18, token := 1#3 : LLine }.all = 1#1 := ⟨issues_loads, rfl, rfl, rfl⟩
theorem witness_l1wb :
    loads.Issues lx ∧
    lx.Guarded { g := always, hi := 0#11, base := 9#5, all := 0#1, n := 5#18, token := 1#3 : LLine }.g ∧
    { g := always, hi := 0#11, base := 9#5, all := 0#1, n := 5#18, token := 1#3 : LLine }.hi = 0#11 ∧
    BitVec.toNat (lx.dReg { g := always, hi := 0#11, base := 9#5, all := 0#1, n := 5#18, token := 1#3 : LLine }.base.toNat) < 2 ^ 60 := ⟨issues_loads, rfl, rfl, by decide⟩
theorem witness_prf :
    loads.Issues lx ∧
    lx.Guarded (lgen 0 0 1 1 3 1).g ∧
    (lgen 0 0 1 1 3 1).file = 0#2 ∧
    (lgen 0 0 1 1 3 1).reg = 0#9 ∧
    (lgen 0 0 1 1 3 1).size.toNat < 2 := ⟨issues_loads, rfl, rfl, rfl, by decide⟩
theorem witness_tbinit :
    loads.Issues lx ∧
    lx.Guarded (bar 0 1 7).g ∧
    (loads.envAlone lx (Instr.tbinit (bar 0 1 7))).resolve { perm := Perm.atomic, onlyLocal := true : Ask }
    { lane := 0, addr := lx.dReg (bar 0 1 7).base.toNat, size := 16 : Req } =
  Except.ok
    (Loc.sram (ctxCluster (loads.envAlone lx (Instr.tbinit (bar 0 1 7))).c)
      (bits { lane := 0, addr := lx.dReg (bar 0 1 7).base.toNat, size := 16 : Req }.addr 59 0)) ∧
    NoBad ((loads.envAlone lx (Instr.tbinit (bar 0 1 7))).barChecks (bar 0 1 7) 1 (2 ^ 24 - 1)) := ⟨issues_loads, rfl, rfl, rfl⟩
theorem witness_tbarv :
    loads.Issues lx ∧
    lx.Guarded (bar 1 0 7).g ∧
    (loads.envAlone lx (Instr.tbarv (bar 1 0 7))).resolve { perm := Perm.atomic, onlyLocal := true : Ask }
    { lane := 0, addr := lx.dReg (bar 1 0 7).base.toNat, size := 16 : Req } =
  Except.ok
    (Loc.sram (ctxCluster (loads.envAlone lx (Instr.tbarv (bar 1 0 7))).c)
      (bits { lane := 0, addr := lx.dReg (bar 1 0 7).base.toNat, size := 16 : Req }.addr 59 0)) ∧
    NoBad ((loads.envAlone lx (Instr.tbarv (bar 1 0 7))).barChecks (bar 1 0 7) 0 (2 ^ 32 - 1)) := ⟨issues_loads, rfl, rfl, rfl⟩
theorem witness_tbexp :
    loads.Issues lx ∧
    lx.Guarded (bar 0 262143 7).g ∧
    (loads.envAlone lx (Instr.tbexp (bar 0 262143 7))).resolve { perm := Perm.atomic, onlyLocal := true : Ask }
    { lane := 0, addr := lx.dReg (bar 0 262143 7).base.toNat, size := 16 : Req } =
  Except.ok
    (Loc.sram (ctxCluster (loads.envAlone lx (Instr.tbexp (bar 0 262143 7))).c)
      (bits { lane := 0, addr := lx.dReg (bar 0 262143 7).base.toNat, size := 16 : Req }.addr 59 0)) ∧
    NoBad ((loads.envAlone lx (Instr.tbexp (bar 0 262143 7))).barChecks (bar 0 262143 7) 0 (2 ^ 32 - 1)) := ⟨issues_loads, rfl, rfl, rfl⟩
theorem witness_tbwait :
    loads.Issues lx ∧
    lx.Guarded (bar 0 1 0).g ∧
    (loads.envAlone lx (Instr.tbwait (bar 0 1 0))).resolve { perm := Perm.read, onlyLocal := true : Ask }
    { lane := 0, addr := lx.dReg (bar 0 1 0).base.toNat, size := 16 : Req } =
  Except.ok
    (Loc.sram (ctxCluster (loads.envAlone lx (Instr.tbwait (bar 0 1 0))).c)
      (bits { lane := 0, addr := lx.dReg (bar 0 1 0).base.toNat, size := 16 : Req }.addr 59 0)) ∧
    NoBad ((loads.envAlone lx (Instr.tbwait (bar 0 1 0))).barChecks (bar 0 1 0) 0 15) ∧
    (bar 0 1 0).token = 0#3 ∧
    ((loads.tbar
      (Loc.sram (ctxCluster (loads.envAlone lx (Instr.tbwait (bar 0 1 0))).c)
        (bits { lane := 0, addr := lx.dReg (bar 0 1 0).base.toNat, size := 16 : Req }.addr 59 0))).phase ≠
  if (bar 0 1 0).src = 0#1 then (bar 0 1 0).imm.toNat
  else (SMap.get (0#64) (if (bar 0 1 0).file = 0#2 then lx.a else lx.b) (bar 0 1 0).reg.toNat).toNat) := ⟨issues_loads, rfl, rfl, rfl, rfl, by decide⟩
theorem witness_tbwait_waits :
    loads.Issues lx ∧
    lx.Guarded (bar 0 0 0).g ∧
    (loads.envAlone lx (Instr.tbwait (bar 0 0 0))).resolve { perm := Perm.read, onlyLocal := true : Ask }
    { lane := 0, addr := lx.dReg (bar 0 0 0).base.toNat, size := 16 : Req } =
  Except.ok
    (Loc.sram (ctxCluster (loads.envAlone lx (Instr.tbwait (bar 0 0 0))).c)
      (bits { lane := 0, addr := lx.dReg (bar 0 0 0).base.toNat, size := 16 : Req }.addr 59 0)) ∧
    NoBad ((loads.envAlone lx (Instr.tbwait (bar 0 0 0))).barChecks (bar 0 0 0) 0 15) ∧
    (bar 0 0 0).token = 0#3 ∧
    ((loads.tbar
      (Loc.sram (ctxCluster (loads.envAlone lx (Instr.tbwait (bar 0 0 0))).c)
        (bits { lane := 0, addr := lx.dReg (bar 0 0 0).base.toNat, size := 16 : Req }.addr 59 0))).phase =
  if (bar 0 0 0).src = 0#1 then (bar 0 0 0).imm.toNat
  else (SMap.get (0#64) (if (bar 0 0 0).file = 0#2 then lx.a else lx.b) (bar 0 0 0).reg.toNat).toNat) ∧
    (loads.tbar
        (Loc.sram (ctxCluster (loads.envAlone lx (Instr.tbwait (bar 0 0 0))).c)
          (bits { lane := 0, addr := lx.dReg (bar 0 0 0).base.toNat, size := 16 : Req }.addr 59 0))).flags %
    8 =
  0 := ⟨issues_loads, rfl, rfl, rfl, rfl, rfl, by decide⟩
theorem witness_spill :
    loads.Issues lx ∧
    lx.Guarded { g := always, file := 2#2, reg := 1#9, rest := 0#24, token := 2#3 : LSpill }.g ∧
    { g := always, file := 2#2, reg := 1#9, rest := 0#24, token := 2#3 : LSpill }.rest = 0#24 ∧
    1 = lx.sptop.toNat ∧
    256 * (1 + 1) ≤ partSpill (loads.part loads.cur) / partCtx (loads.part loads.cur) ∧
    1 < 65535 ∧
    NoBad
  ((loads.envAlone lx (Instr.spill { g := always, file := 2#2, reg := 1#9, rest := 0#24, token := 2#3 : LSpill })).fileChecks true true
    { g := always, file := 2#2, reg := 1#9, rest := 0#24, token := 2#3 : LSpill }.file
    { g := always, file := 2#2, reg := 1#9, rest := 0#24, token := 2#3 : LSpill }.reg) := ⟨issues_loads, rfl, rfl, rfl, by decide, by decide, rfl⟩
theorem witness_fill :
    loads.Issues lx ∧
    lx.Guarded { g := always, file := 2#2, reg := 1#9, rest := 0#24, token := 2#3 : LSpill }.g ∧
    { g := always, file := 2#2, reg := 1#9, rest := 0#24, token := 2#3 : LSpill }.rest = 0#24 ∧
    lx.sptop.toNat = 0 + 1 ∧
    256 * (0 + 1) ≤ partSpill (loads.part loads.cur) / partCtx (loads.part loads.cur) ∧
    NoBad
  ((loads.envAlone lx (Instr.fill { g := always, file := 2#2, reg := 1#9, rest := 0#24, token := 2#3 : LSpill })).fileChecks true true
    { g := always, file := 2#2, reg := 1#9, rest := 0#24, token := 2#3 : LSpill }.file
    { g := always, file := 2#2, reg := 1#9, rest := 0#24, token := 2#3 : LSpill }.reg) := ⟨issues_loads, rfl, rfl, rfl, by decide, rfl⟩
theorem witness_dadd :
    loads.Issues lx ∧
    lx.Guarded { g := always, dd := 1#5, ds := 2#5, m := 0#1, imm := 8388608#24, token := 0#3 : LDadd }.g ∧
    { g := always, dd := 1#5, ds := 2#5, m := 0#1, imm := 8388608#24, token := 0#3 : LDadd }.token = 0#3 ∧
    { g := always, dd := 1#5, ds := 2#5, m := 0#1, imm := 8388608#24, token := 0#3 : LDadd }.m = 0#1 := ⟨issues_loads, rfl, rfl, rfl⟩
theorem witness_dadd_register :
    loads.Issues lx ∧
    lx.Guarded { g := always, dd := 1#5, ds := 2#5, m := 1#1, imm := 1572864#24, token := 0#3 : LDadd }.g ∧
    { g := always, dd := 1#5, ds := 2#5, m := 1#1, imm := 1572864#24, token := 0#3 : LDadd }.token = 0#3 ∧
    { g := always, dd := 1#5, ds := 2#5, m := 1#1, imm := 1572864#24, token := 0#3 : LDadd }.m = 1#1 ∧
    { g := always, dd := 1#5, ds := 2#5, m := 1#1, imm := 1572864#24, token := 0#3 : LDadd }.imm.toNat % 2 ^ 19 = 0 := ⟨issues_loads, rfl, rfl, rfl, by decide⟩
theorem witness_dli :
    loads.Issues lx ∧
    lx.Guarded { g := always, dd := 1#5, q := 3#2, ins := 0#1, rest := 0#11, v := 65535#16, token := 0#3 : LDli }.g ∧
    { g := always, dd := 1#5, q := 3#2, ins := 0#1, rest := 0#11, v := 65535#16, token := 0#3 : LDli }.token = 0#3 ∧
    { g := always, dd := 1#5, q := 3#2, ins := 0#1, rest := 0#11, v := 65535#16, token := 0#3 : LDli }.rest = 0#11 ∧
    { g := always, dd := 1#5, q := 3#2, ins := 0#1, rest := 0#11, v := 65535#16, token := 0#3 : LDli }.ins = 0#1 := ⟨issues_loads, rfl, rfl, rfl, rfl⟩
theorem witness_dli_insert :
    loads.Issues lx ∧
    lx.Guarded { g := always, dd := 1#5, q := 0#2, ins := 1#1, rest := 0#11, v := 65535#16, token := 0#3 : LDli }.g ∧
    { g := always, dd := 1#5, q := 0#2, ins := 1#1, rest := 0#11, v := 65535#16, token := 0#3 : LDli }.token = 0#3 ∧
    { g := always, dd := 1#5, q := 0#2, ins := 1#1, rest := 0#11, v := 65535#16, token := 0#3 : LDli }.rest = 0#11 ∧
    { g := always, dd := 1#5, q := 0#2, ins := 1#1, rest := 0#11, v := 65535#16, token := 0#3 : LDli }.ins = 1#1 := ⟨issues_loads, rfl, rfl, rfl, rfl⟩
theorem witness_dcpy :
    loads.Issues lx ∧
    lx.Guarded { g := always, ds := 3#5, tfile := 5#4, treg := 3#6, rest := 0#20, token := 0#3 : LDcpy }.g ∧
    { g := always, ds := 3#5, tfile := 5#4, treg := 3#6, rest := 0#20, token := 0#3 : LDcpy }.token = 0#3 ∧
    { g := always, ds := 3#5, tfile := 5#4, treg := 3#6, rest := 0#20, token := 0#3 : LDcpy }.rest = 0#20 ∧
    { g := always, ds := 3#5, tfile := 5#4, treg := 3#6, rest := 0#20, token := 0#3 : LDcpy }.tfile.toNat < 6 ∧
    { g := always, ds := 3#5, tfile := 5#4, treg := 3#6, rest := 0#20, token := 0#3 : LDcpy }.treg.toNat <
  [64, 64, 32, 32, 16, 4].getD { g := always, ds := 3#5, tfile := 5#4, treg := 3#6, rest := 0#20, token := 0#3 : LDcpy }.tfile.toNat 0 := ⟨issues_loads, rfl, rfl, rfl, by decide, by decide⟩

/-! ### Witnesses: the engine slot -/

/-- The requests of an operand in memory. -/
def opReqs (a : W64) (n align : Nat) : List Req := (List.range (n / align)).map fun k => ⟨0, a + BitVec.ofNat 64 (align * k), align⟩
/-- What they read. -/
def opBytes (s : State) (x : Ctx) (i : Instr) (a : W64) (n align : Nat) : List Byte :=
  match (s.envAlone x i).resolveAll { perm := .read } (opReqs a n align) with
  | .ok ls => ls.flatMap fun r => s.readLoc (ctxDie s.cur) r.2 r.1.size
  | .error _ => []
/-- Whether the operand reads. -/
def opOk (s : State) (x : Ctx) (i : Instr) (a : W64) (n align : Nat) (spaces : List Nat) : Bool :=
  spaces.contains (a.toNat / 2 ^ 60) && decide (a.toNat % align = 0) &&
    match (s.envAlone x i).resolveAll { perm := .read } (opReqs a n align) with
    | .ok ls => decide (s.depsOf s.cur ((s.envAlone x i).probe ls) [] = []) && ls.all (fun r => decide (s.poisoned r.2 r.1.size = none)) && !s.hostQueued (ls.map (·.2))
    | .error _ => false
theorem operand_of {s : State} {x : Ctx} {i : Instr} {a : W64} {n align : Nat} {spaces : List Nat} (h : opOk s x i a n align spaces = true) :
    s.Operand x i a n align spaces (opReqs a n align) (opBytes s x i a n align) := by
  unfold opOk at h
  cases hr : (s.envAlone x i).resolveAll { perm := .read } (opReqs a n align) with
  | error _ => simp [hr] at h
  | ok ls =>
    simp only [hr, Bool.and_eq_true, decide_eq_true_eq, List.all_eq_true, Bool.not_eq_eq_eq_not, Bool.not_true] at h
    exact ⟨h.1.1, h.1.2, rfl, ls, hr, h.2.1.1, h.2.1.2, h.2.2, by simp [opBytes, hr]⟩

/-- A context whose e registers name descriptors in the scratchpad: a card, a bad card, zeros, a stash, a collective and a parcel; and a
handle, a completion block, a barrier and numbers. -/
def ex : Ctx :=
  { vx with
    e := [(1, 0x8000000000000400#64), (2, 0x8000000000000480#64), (3, 0x8000000000000600#64), (4, 0x8000000000000620#64),
      (5, 0x8000000000000640#64), (6, 0x8000000000000660#64), (7, 17#64), (8, 0x9000000000000100#64), (9, 5#64), (10, 0x8000000000000800#64),
      (11, 0x20000000#64), (12, 0x1000#64), (13, 0x3#64), (14, 0x100000007#64), (15, 0x2000#64), (16, 0x5000#64)] }
/-- The words as bytes. -/
def words (l : List Nat) : List Byte := l.flatMap fun w => toBytes 8 w
/-- The module around it: stage 1 is enabled, gauge 5 is allocated, channel 3 sends, channel 4 receives, and the dies have Eddy space. -/
def engines : State :=
  let s := { st ex with chans := [(3, { state := .send, psize := 1#4, matched := true, credits := 2 }), (4, { state := .recv, nparc := 1#8 })] }
  let s := s.modDie 0 fun d => { d with stages := [(1, { enable := true })], eddy := { nlen := 64#32 } }
  let s := s.writeLoc 0 (.spad 0 0x400) (words [0x4000001F, 0, 0x8000000000001000])
  let s := s.writeLoc 0 (.spad 0 0x480) (words [0x4000F01F])
  let s := s.writeLoc 0 (.spad 0 0x620) (words [0x20000000, 0x1000, 0, 0xFFF])
  let s := s.writeLoc 0 (.spad 0 0x640) (words [0x1000, 0x200000001, 0x2000])
  let s := s.writeLoc 0 (.spad 0 0x660) (words [0x8000000000000800, 2])
  s.writeEverywhere (shardAddr 0 5 + 0xA0) [1#8]
theorem issues_ex : engines.Issues ex := issues_of _ _ rfl rfl rfl rfl rfl ⟨rfl, rfl, rfl, rfl⟩ rfl
/-- The entry that a stash descriptor makes. -/
def stashOf (w : List W64) : Stash := (engines.stashStatus 0 true w).2.getD { key := 0, state := .resident, len := 0 }
/-- The words of an operand of 32 bytes. -/
def op32 (i : Instr) (a : W64) : List W64 := (List.range 4).map fun k => wordOf ((opBytes engines ex i a 32 32).drop (8 * k))
/-- The same with a resident stash of key 0x20000000, and a descriptor of a stash that is dropped at e3. -/
def stashed : State :=
  (engines.modDie 0 fun d => { d with eddy := { d.eddy with stashes := [stashOf [0x20000000#64, 0x1000#64, 0#64, 0xFFF#64]] } }).writeLoc 0 (.spad 0 0x600)
    (words [0x22000000, 0x1000, 0, 0xFFF])
theorem issues_stashed : stashed.Issues ex := issues_of _ _ rfl rfl rfl rfl rfl ⟨rfl, rfl, rfl, rfl⟩ rfl
/-- An engine operation. -/
def eng (ed es1 es2 : Nat) (imm : BitVec 17) : EForm := ⟨always, BitVec.ofNat 5 ed, BitVec.ofNat 5 es1, BitVec.ofNat 5 es2, 0#3, 1#3, imm⟩
/-- What the trigger of a FILL captures, and that of a bad word. -/
def trigOp (trig : W64) : ROp :=
  { ctx := 0, sup := true, kind := .fill, trig := trig, token := 1
    ports := ((List.range 8).foldl (fun (m : SMap W64) q => SMap.set 0#64 m q (SMap.get 0#64 (engines.riffle 0 2).ports q)) []) }
/-! The context of `ex` as it has read the value of a TWAIT, 0 and 5. -/
def v06a : Ctx := { ex with loops := { tw := some (0x10000#48, 0#64) } }
def v06b : State := { engines with ctxs := [(0, some v06a)] }
def v06c : Ctx := { ex with loops := { tw := some (0x10000#48, 5#64) } }
def v06d : State := { engines with ctxs := [(0, some v06c)] }

theorem witness_sljob :
    engines.Issues ex ∧
    ex.Guarded (eng 20 1 0 0).g ∧
    0 = ctxDie engines.cur ∧
    NoBad (eChecks (eng 20 1 0 0) { : EUse } ((eng 20 1 0 0).imm != 0#17)) ∧
    engines.Operand ex (Instr.sljob (eng 20 1 0 0)) (ex.es1 (eng 20 1 0 0)) 128 32 [8, 9] (opReqs (ex.es1 (eng 20 1 0 0)) 128 32)
  (opBytes engines ex (Instr.sljob (eng 20 1 0 0)) (ex.es1 (eng 20 1 0 0)) 128 32) ∧
    (engines.poisonIn
    (cardReads 0
      (List.map (fun k => wordOf (List.drop (8 * k) (opBytes engines ex (Instr.sljob (eng 20 1 0 0)) (ex.es1 (eng 20 1 0 0)) 128 32)))
        (List.range 16))) =
  none) ∧
    (engines.cardMisaligned 0
    (List.map (fun k => wordOf (List.drop (8 * k) (opBytes engines ex (Instr.sljob (eng 20 1 0 0)) (ex.es1 (eng 20 1 0 0)) 128 32)))
      (List.range 16)) =
  false) ∧
    (engines.cardLayout 0
    (List.map (fun k => wordOf (List.drop (8 * k) (opBytes engines ex (Instr.sljob (eng 20 1 0 0)) (ex.es1 (eng 20 1 0 0)) 128 32)))
      (List.range 16)) =
  false) ∧
    (engines.cardStatus engines.cur
    (List.map (fun k => wordOf (List.drop (8 * k) (opBytes engines ex (Instr.sljob (eng 20 1 0 0)) (ex.es1 (eng 20 1 0 0)) 128 32)))
      (List.range 16)) =
  0) ∧
    (engines.die 0).freePlace = some 0 := by
  refine ⟨issues_ex, rfl, rfl, rfl, operand_of (by decide +kernel), ?_, ?_, ?_, ?_, ?_⟩ <;> decide +kernel
theorem witness_sljob_refused :
    engines.Issues ex ∧
    ex.Guarded (eng 20 2 0 0).g ∧
    0 = ctxDie engines.cur ∧
    NoBad (eChecks (eng 20 2 0 0) { : EUse } ((eng 20 2 0 0).imm != 0#17)) ∧
    engines.Operand ex (Instr.sljob (eng 20 2 0 0)) (ex.es1 (eng 20 2 0 0)) 128 32 [8, 9] (opReqs (ex.es1 (eng 20 2 0 0)) 128 32)
  (opBytes engines ex (Instr.sljob (eng 20 2 0 0)) (ex.es1 (eng 20 2 0 0)) 128 32) ∧
    (engines.poisonIn
    (cardReads 0
      (List.map (fun k => wordOf (List.drop (8 * k) (opBytes engines ex (Instr.sljob (eng 20 2 0 0)) (ex.es1 (eng 20 2 0 0)) 128 32)))
        (List.range 16))) =
  none) ∧
    (engines.cardMisaligned 0
    (List.map (fun k => wordOf (List.drop (8 * k) (opBytes engines ex (Instr.sljob (eng 20 2 0 0)) (ex.es1 (eng 20 2 0 0)) 128 32)))
      (List.range 16)) =
  false) ∧
    (engines.cardLayout 0
    (List.map (fun k => wordOf (List.drop (8 * k) (opBytes engines ex (Instr.sljob (eng 20 2 0 0)) (ex.es1 (eng 20 2 0 0)) 128 32)))
      (List.range 16)) =
  false) ∧
    (16 =
  engines.cardStatus engines.cur
    (List.map (fun k => wordOf (List.drop (8 * k) (opBytes engines ex (Instr.sljob (eng 20 2 0 0)) (ex.es1 (eng 20 2 0 0)) 128 32)))
      (List.range 16))) ∧
    16 ≠ 0 := by
  refine ⟨issues_ex, rfl, rfl, rfl, operand_of (by decide +kernel), ?_, ?_, ?_, ?_, ?_⟩ <;> decide +kernel
theorem witness_slstat :
    engines.Issues ex ∧
    ex.Guarded (eng 20 7 0 0).g ∧
    0 = ctxDie engines.cur ∧
    NoBad (eChecks (eng 20 7 0 0) { : EUse } ((eng 20 7 0 0).imm != 0#17)) ∧
    (engines.envAlone ex (Instr.slstat (eng 20 7 0 0))).foreignJob (ex.es1 (eng 20 7 0 0)) = false := ⟨issues_ex, rfl, rfl, rfl, by decide +kernel⟩
theorem witness_stbind :
    engines.Issues ex ∧
    ex.Guarded (eng 20 0 0 3).g ∧
    0 = ctxDie engines.cur ∧
    NoBad (eChecks (eng 20 0 0 3) { es1 := false : EUse } (decide (16 ≤ (eng 20 0 0 3).imm.toNat))) ∧
    3 = (eng 20 0 0 3).imm.toNat % 8 ∧
    (eng 20 0 0 3).imm.toNat < 8 := ⟨issues_ex, rfl, rfl, rfl, rfl, by decide⟩
theorem witness_stbind_unbinds :
    engines.Issues ex ∧
    ex.Guarded (eng 20 0 0 15).g ∧
    0 = ctxDie engines.cur ∧
    NoBad (eChecks (eng 20 0 0 15) { es1 := false : EUse } (decide (16 ≤ (eng 20 0 0 15).imm.toNat))) ∧
    7 = (eng 20 0 0 15).imm.toNat % 8 ∧
    8 ≤ (eng 20 0 0 15).imm.toNat := ⟨issues_ex, rfl, rfl, rfl, rfl, by decide⟩
theorem witness_rmov_port :
    engines.Issues ex ∧
    ex.Guarded (eng 0 7 0 263).g ∧
    (eng 0 7 0 263).imm.toNat = 256 * 1 + 7 ∧
    7 < 256 ∧
    1 < 4 ∧
    NoBad (eChecks (eng 0 7 0 263) { ed := false : EUse } false) ∧
    7 < 8 := ⟨issues_ex, rfl, rfl, by decide, by decide, rfl, by decide⟩
theorem witness_rmov_trigger :
    engines.Issues ex ∧
    ex.Guarded (eng 0 12 0 533).g ∧
    (eng 0 12 0 533).imm.toNat = 256 * 2 + 21 ∧
    21 < 256 ∧
    2 < 4 ∧
    NoBad (eChecks (eng 0 12 0 533) { ed := false : EUse } false) ∧
    8 ≤ 21 ∧
    rkindOf 21 = some RKind.fill ∧
    (trigOp 4096#64 =
  { ctx := engines.cur, sup := ex.sup, kind := RKind.fill,
    ports :=
      List.foldl (fun m q => SMap.set (0#64) m q (SMap.get (0#64) (engines.riffle (ctxCluster engines.cur) 2).ports (8 * engines.cur + q)))
        [] (List.range 8),
    trig := ex.es1 (eng 0 12 0 533), token := (eng 0 12 0 533).token.toNat, after := engines.heldWrites engines.cur : ROp }) ∧
    (trigOp 4096#64).misaligned = none ∧
    engines.poisonIn ((trigOp 4096#64).handleReads (ctxDie engines.cur)) = none ∧
    engines.riffleCheck (trigOp 4096#64) = 0 ∧
    (engines.riffle (ctxCluster engines.cur) 2).queue.length < 8 := ⟨issues_ex, rfl, rfl, by decide, by decide, rfl, by decide, rfl, rfl, by decide +kernel, by decide +kernel, by decide +kernel, by decide +kernel⟩
theorem witness_rmov_refused :
    engines.Issues ex ∧
    ex.Guarded (eng 0 1 0 533).g ∧
    (eng 0 1 0 533).imm.toNat = 256 * 2 + 21 ∧
    21 < 256 ∧
    2 < 4 ∧
    NoBad (eChecks (eng 0 1 0 533) { ed := false : EUse } false) ∧
    8 ≤ 21 ∧
    rkindOf 21 = some RKind.fill ∧
    (trigOp 9223372036854776832#64 =
  { ctx := engines.cur, sup := ex.sup, kind := RKind.fill,
    ports :=
      List.foldl (fun m q => SMap.set (0#64) m q (SMap.get (0#64) (engines.riffle (ctxCluster engines.cur) 2).ports (8 * engines.cur + q)))
        [] (List.range 8),
    trig := ex.es1 (eng 0 1 0 533), token := (eng 0 1 0 533).token.toNat, after := engines.heldWrites engines.cur : ROp }) ∧
    (trigOp 9223372036854776832#64).misaligned = none ∧
    engines.poisonIn ((trigOp 9223372036854776832#64).handleReads (ctxDie engines.cur)) = none ∧
    engines.riffleCheck (trigOp 9223372036854776832#64) ≠ 0 := ⟨issues_ex, rfl, rfl, by decide, by decide, rfl, by decide, rfl, rfl, by decide +kernel, by decide +kernel, by decide +kernel⟩
theorem witness_rget :
    engines.Issues ex ∧
    ex.Guarded (eng 9 0 0 801).g ∧
    (eng 9 0 0 801).imm.toNat = 256 * 3 + 33 ∧
    33 < 256 ∧
    3 < 4 ∧
    NoBad (eChecks (eng 9 0 0 801) { es1 := false : EUse } false) := ⟨issues_ex, rfl, rfl, by decide, by decide, rfl⟩
theorem witness_edstash :
    engines.Issues ex ∧
    ex.Guarded (eng 20 4 0 0).g ∧
    0 = ctxDie engines.cur ∧
    NoBad (eChecks (eng 20 4 0 0) { : EUse } ((eng 20 4 0 0).imm != 0#17)) ∧
    engines.Operand ex (Instr.edstash (eng 20 4 0 0)) (ex.es1 (eng 20 4 0 0)) 32 32 [8, 9] (opReqs (ex.es1 (eng 20 4 0 0)) 32 32)
  (opBytes engines ex (Instr.edstash (eng 20 4 0 0)) (ex.es1 (eng 20 4 0 0)) 32 32) ∧
    (op32 (Instr.edstash (eng 20 4 0 0)) (ex.es1 (eng 20 4 0 0)) =
  List.map (fun k => wordOf (List.drop (8 * k) (opBytes engines ex (Instr.edstash (eng 20 4 0 0)) (ex.es1 (eng 20 4 0 0)) 32 32)))
    (List.range 4)) ∧
    stashMisaligned (op32 (Instr.edstash (eng 20 4 0 0)) (ex.es1 (eng 20 4 0 0))) = none ∧
    BitVec.toNat ((op32 (Instr.edstash (eng 20 4 0 0)) (ex.es1 (eng 20 4 0 0))).getD 0 0#64) % 2 ^ 20 = 0 ∧
    engines.stashStatus engines.cur ex.sup (op32 (Instr.edstash (eng 20 4 0 0)) (ex.es1 (eng 20 4 0 0))) =
  (0, some (stashOf (op32 (Instr.edstash (eng 20 4 0 0)) (ex.es1 (eng 20 4 0 0))))) ∧
    (stashOf (op32 (Instr.edstash (eng 20 4 0 0)) (ex.es1 (eng 20 4 0 0)))).state ≠ StashState.dropped := ⟨issues_ex, rfl, rfl, rfl, operand_of (by decide +kernel), rfl, by decide +kernel, by decide +kernel, by decide +kernel, by decide +kernel⟩
theorem witness_edstash_refused :
    engines.Issues ex ∧
    ex.Guarded (eng 20 3 0 0).g ∧
    0 = ctxDie engines.cur ∧
    NoBad (eChecks (eng 20 3 0 0) { : EUse } ((eng 20 3 0 0).imm != 0#17)) ∧
    engines.Operand ex (Instr.edstash (eng 20 3 0 0)) (ex.es1 (eng 20 3 0 0)) 32 32 [8, 9] (opReqs (ex.es1 (eng 20 3 0 0)) 32 32)
  (opBytes engines ex (Instr.edstash (eng 20 3 0 0)) (ex.es1 (eng 20 3 0 0)) 32 32) ∧
    (op32 (Instr.edstash (eng 20 3 0 0)) (ex.es1 (eng 20 3 0 0)) =
  List.map (fun k => wordOf (List.drop (8 * k) (opBytes engines ex (Instr.edstash (eng 20 3 0 0)) (ex.es1 (eng 20 3 0 0)) 32 32)))
    (List.range 4)) ∧
    stashMisaligned (op32 (Instr.edstash (eng 20 3 0 0)) (ex.es1 (eng 20 3 0 0))) = none ∧
    BitVec.toNat ((op32 (Instr.edstash (eng 20 3 0 0)) (ex.es1 (eng 20 3 0 0))).getD 0 0#64) % 2 ^ 20 = 0 ∧
    engines.stashStatus engines.cur ex.sup (op32 (Instr.edstash (eng 20 3 0 0)) (ex.es1 (eng 20 3 0 0))) = (1, none) := ⟨issues_ex, rfl, rfl, rfl, operand_of (by decide +kernel), rfl, by decide +kernel, by decide +kernel, by decide +kernel⟩
theorem witness_edfetch_refused :
    engines.Issues ex ∧
    ex.Guarded (eng 20 11 8 1).g ∧
    0 = ctxDie engines.cur ∧
    1 = (eng 20 11 8 1).imm.toNat % 4 ∧
    0 = (eng 20 11 8 1).imm.toNat / 4 ∧
    NoBad (eChecks (eng 20 11 8 1) { es2 := 1 == 1 : EUse } false) ∧
    keyBad (ex.es1 (eng 20 11 8 1)) = false ∧
    (BitVec.toNat (ex.es2 (eng 20 11 8 1)) / 2 ^ 60 = 8 ∨ BitVec.toNat (ex.es2 (eng 20 11 8 1)) / 2 ^ 60 = 9) ∧
    BitVec.toNat (ex.es2 (eng 20 11 8 1)) % 16 = 0 ∧
    (engines.envAlone ex (Instr.edfetch (eng 20 11 8 1))).resolve { perm := Perm.write : Ask }
    { lane := 0, addr := ex.es2 (eng 20 11 8 1), size := 16 : Req } =
  Except.ok (Loc.sram 0 256) ∧
    1 = engines.fetchStatus 0 (keyOf (ex.es1 (eng 20 11 8 1))) (some (Attach.barrier (Loc.sram 0 256))) ∧
    1 ≠ 0 := ⟨issues_ex, rfl, rfl, rfl, rfl, rfl, by decide +kernel, by decide, by decide, loc_of (by decide +kernel), by decide +kernel, by decide +kernel⟩
theorem witness_edfree :
    engines.Issues ex ∧
    ex.Guarded (eng 20 11 0 0).g ∧
    0 = ctxDie engines.cur ∧
    (eng 20 11 0 0).imm = 0#17 ∧
    NoBad (eChecks (eng 20 11 0 0) { : EUse } false) ∧
    keyBad (ex.es1 (eng 20 11 0 0)) = false ∧
    engines.stash 0 (keyOf (ex.es1 (eng 20 11 0 0))) = none := ⟨issues_ex, rfl, rfl, rfl, rfl, by decide +kernel, by decide +kernel⟩
theorem witness_chsend :
    engines.Issues ex ∧
    ex.Guarded (eng 20 6 0 3).g ∧
    3 = (eng 20 6 0 3).imm.toNat ∧
    3 < 1536 ∧
    NoBad (eChecks (eng 20 6 0 3) { : EUse } false) ∧
    engines.Operand ex (Instr.chsend (eng 20 6 0 3)) (ex.es1 (eng 20 6 0 3)) 32 32 [8, 9] (opReqs (ex.es1 (eng 20 6 0 3)) 32 32)
  (opBytes engines ex (Instr.chsend (eng 20 6 0 3)) (ex.es1 (eng 20 6 0 3)) 32 32) ∧
    (op32 (Instr.chsend (eng 20 6 0 3)) (ex.es1 (eng 20 6 0 3)) =
  List.map (fun k => wordOf (List.drop (8 * k) (opBytes engines ex (Instr.chsend (eng 20 6 0 3)) (ex.es1 (eng 20 6 0 3)) 32 32)))
    (List.range 4)) ∧
    (sendSrck (op32 (Instr.chsend (eng 20 6 0 3)) (ex.es1 (eng 20 6 0 3))) = true ∨
  BitVec.toNat ((op32 (Instr.chsend (eng 20 6 0 3)) (ex.es1 (eng 20 6 0 3))).getD 0 0#64) % 32 = 0) ∧
    engines.poisonIn
    [(recAddr (engines.sendReplica 3 (op32 (Instr.chsend (eng 20 6 0 3)) (ex.es1 (eng 20 6 0 3))))
          (BitVec.toNat ((op32 (Instr.chsend (eng 20 6 0 3)) (ex.es1 (eng 20 6 0 3))).getD 1 0#64) / 2 ^ 44),
        64)] =
  none ∧
    engines.sendStatus 3 engines.cur (op32 (Instr.chsend (eng 20 6 0 3)) (ex.es1 (eng 20 6 0 3))) = 0 ∧
    engines.windowOpen 3 engines.cur = true := ⟨issues_ex, rfl, rfl, by decide, rfl, operand_of (by decide +kernel), rfl, by decide +kernel, by decide +kernel, by decide +kernel, by decide +kernel⟩
theorem witness_chsend_refused :
    engines.Issues ex ∧
    ex.Guarded (eng 20 3 0 3).g ∧
    3 = (eng 20 3 0 3).imm.toNat ∧
    3 < 1536 ∧
    NoBad (eChecks (eng 20 3 0 3) { : EUse } false) ∧
    engines.Operand ex (Instr.chsend (eng 20 3 0 3)) (ex.es1 (eng 20 3 0 3)) 32 32 [8, 9] (opReqs (ex.es1 (eng 20 3 0 3)) 32 32)
  (opBytes engines ex (Instr.chsend (eng 20 3 0 3)) (ex.es1 (eng 20 3 0 3)) 32 32) ∧
    (op32 (Instr.chsend (eng 20 3 0 3)) (ex.es1 (eng 20 3 0 3)) =
  List.map (fun k => wordOf (List.drop (8 * k) (opBytes engines ex (Instr.chsend (eng 20 3 0 3)) (ex.es1 (eng 20 3 0 3)) 32 32)))
    (List.range 4)) ∧
    (sendSrck (op32 (Instr.chsend (eng 20 3 0 3)) (ex.es1 (eng 20 3 0 3))) = true ∨
  BitVec.toNat ((op32 (Instr.chsend (eng 20 3 0 3)) (ex.es1 (eng 20 3 0 3))).getD 0 0#64) % 32 = 0) ∧
    engines.poisonIn
    [(recAddr (engines.sendReplica 3 (op32 (Instr.chsend (eng 20 3 0 3)) (ex.es1 (eng 20 3 0 3))))
          (BitVec.toNat ((op32 (Instr.chsend (eng 20 3 0 3)) (ex.es1 (eng 20 3 0 3))).getD 1 0#64) / 2 ^ 44),
        64)] =
  none ∧
    3 = engines.sendStatus 3 engines.cur (op32 (Instr.chsend (eng 20 3 0 3)) (ex.es1 (eng 20 3 0 3))) ∧
    3 ≠ 0 := ⟨issues_ex, rfl, rfl, by decide, rfl, operand_of (by decide +kernel), rfl, by decide +kernel, by decide +kernel, by decide +kernel, by decide +kernel⟩
theorem witness_chrecv :
    engines.Issues ex ∧
    ex.Guarded (eng 20 0 0 4).g ∧
    4 = (eng 20 0 0 4).imm.toNat ∧
    4 < 1536 ∧
    NoBad (eChecks (eng 20 0 0 4) { es1 := false, edPair := true : EUse } false) ∧
    (engines.chan 4).state = ChState.recv ∧
    (engines.chan 4).sink = 0#2 ∧
    (engines.chan 4).recvs.length < 64 := ⟨issues_ex, rfl, rfl, by decide, rfl, by decide +kernel, by decide +kernel, by decide +kernel⟩
theorem witness_chrecv_refused :
    engines.Issues ex ∧
    ex.Guarded (eng 20 0 0 3).g ∧
    3 = (eng 20 0 0 3).imm.toNat ∧
    3 < 1536 ∧
    NoBad (eChecks (eng 20 0 0 3) { es1 := false, edPair := true : EUse } false) ∧
    ((engines.chan 3).state ≠ ChState.recv ∨ (engines.chan 3).sink ≠ 0#2) := ⟨issues_ex, rfl, rfl, by decide, rfl, by decide +kernel⟩
theorem witness_chrel :
    engines.Issues ex ∧
    ex.Guarded (eng 20 9 0 4).g ∧
    4 = (eng 20 9 0 4).imm.toNat ∧
    4 < 1536 ∧
    NoBad (eChecks (eng 20 9 0 4) { : EUse } false) ∧
    (engines.chan 4).state = ChState.recv := ⟨issues_ex, rfl, rfl, by decide, rfl, by decide +kernel⟩
theorem witness_chrel_refused :
    engines.Issues ex ∧
    ex.Guarded (eng 20 9 0 3).g ∧
    3 = (eng 20 9 0 3).imm.toNat ∧
    3 < 1536 ∧
    NoBad (eChecks (eng 20 9 0 3) { : EUse } false) ∧
    (engines.chan 3).state ≠ ChState.recv := ⟨issues_ex, rfl, rfl, by decide, rfl, by decide +kernel⟩
theorem witness_chwin :
    engines.Issues ex ∧
    ex.Guarded (eng 20 0 0 3).g ∧
    3 = (eng 20 0 0 3).imm.toNat ∧
    3 < 1536 ∧
    NoBad (eChecks (eng 20 0 0 3) { es1 := false : EUse } false) := ⟨issues_ex, rfl, rfl, by decide, rfl⟩
theorem witness_oxred :
    engines.Issues ex ∧
    ex.Guarded (eng 20 5 0 1).g ∧
    1 = (eng 20 5 0 1).imm.toNat ∧
    (eng 20 5 0 1).imm.toNat < 2 ∧
    NoBad (eChecks (eng 20 5 0 1) { : EUse } false) ∧
    engines.Operand ex (Instr.oxred (eng 20 5 0 1)) (ex.es1 (eng 20 5 0 1)) 32 32 [8, 9] (opReqs (ex.es1 (eng 20 5 0 1)) 32 32)
  (opBytes engines ex (Instr.oxred (eng 20 5 0 1)) (ex.es1 (eng 20 5 0 1)) 32 32) ∧
    (op32 (Instr.oxred (eng 20 5 0 1)) (ex.es1 (eng 20 5 0 1)) =
  List.map (fun k => wordOf (List.drop (8 * k) (opBytes engines ex (Instr.oxred (eng 20 5 0 1)) (ex.es1 (eng 20 5 0 1)) 32 32)))
    (List.range 4)) ∧
    collMisaligned (op32 (Instr.oxred (eng 20 5 0 1)) (ex.es1 (eng 20 5 0 1))) = none ∧
    collBad 1 (op32 (Instr.oxred (eng 20 5 0 1)) (ex.es1 (eng 20 5 0 1))) = false := ⟨issues_ex, rfl, rfl, by decide, rfl, operand_of (by decide +kernel), rfl, by decide +kernel, by decide +kernel⟩
theorem witness_oxgath :
    engines.Issues ex ∧
    ex.Guarded (eng 20 5 9 0).g ∧
    5#64 = ex.es2 (eng 20 5 9 0) ∧
    (eng 20 5 9 0).imm = 0#17 ∧
    NoBad (eChecks (eng 20 5 9 0) { es2 := true : EUse } false) ∧
    engines.Operand ex (Instr.oxgath (eng 20 5 9 0)) (ex.es1 (eng 20 5 9 0)) 32 32 [8, 9] (opReqs (ex.es1 (eng 20 5 9 0)) 32 32)
  (opBytes engines ex (Instr.oxgath (eng 20 5 9 0)) (ex.es1 (eng 20 5 9 0)) 32 32) ∧
    (op32 (Instr.oxgath (eng 20 5 9 0)) (ex.es1 (eng 20 5 9 0)) =
  List.map (fun k => wordOf (List.drop (8 * k) (opBytes engines ex (Instr.oxgath (eng 20 5 9 0)) (ex.es1 (eng 20 5 9 0)) 32 32)))
    (List.range 4)) ∧
    collMisaligned (op32 (Instr.oxgath (eng 20 5 9 0)) (ex.es1 (eng 20 5 9 0))) = none ∧
    collBad 2 (op32 (Instr.oxgath (eng 20 5 9 0)) (ex.es1 (eng 20 5 9 0))) = false := ⟨issues_ex, rfl, rfl, rfl, rfl, operand_of (by decide +kernel), rfl, by decide +kernel, by decide +kernel⟩
theorem witness_ox_refused :
    engines.Issues ex ∧
    ex.Guarded (eng 20 3 9 0).g ∧
    5#64 = ex.es2 (eng 20 3 9 0) ∧
    (eng 20 3 9 0).imm = 0#17 ∧
    NoBad (eChecks (eng 20 3 9 0) { es2 := true : EUse } false) ∧
    engines.Operand ex (Instr.oxgath (eng 20 3 9 0)) (ex.es1 (eng 20 3 9 0)) 32 32 [8, 9] (opReqs (ex.es1 (eng 20 3 9 0)) 32 32)
  (opBytes engines ex (Instr.oxgath (eng 20 3 9 0)) (ex.es1 (eng 20 3 9 0)) 32 32) ∧
    (op32 (Instr.oxgath (eng 20 3 9 0)) (ex.es1 (eng 20 3 9 0)) =
  List.map (fun k => wordOf (List.drop (8 * k) (opBytes engines ex (Instr.oxgath (eng 20 3 9 0)) (ex.es1 (eng 20 3 9 0)) 32 32)))
    (List.range 4)) ∧
    collMisaligned (op32 (Instr.oxgath (eng 20 3 9 0)) (ex.es1 (eng 20 3 9 0))) = none ∧
    collBad 2 (op32 (Instr.oxgath (eng 20 3 9 0)) (ex.es1 (eng 20 3 9 0))) = true := ⟨issues_ex, rfl, rfl, rfl, rfl, operand_of (by decide +kernel), rfl, by decide +kernel, by decide +kernel⟩
theorem witness_wpost :
    engines.Issues ex ∧
    ex.Guarded (eng 20 8 0 0).g ∧
    0 = ctxDie engines.cur ∧
    BitVec.toNat (ex.es1 (eng 20 8 0 0)) / 2 ^ 60 = 9 ∧
    BitVec.toNat (ex.es1 (eng 20 8 0 0)) % 32 = 0 ∧
    (engines.envAlone ex (Instr.wpost (eng 20 8 0 0))).resolve { perm := Perm.write : Ask }
    { lane := 0, addr := ex.es1 (eng 20 8 0 0), size := 32 : Req } =
  Except.ok (Loc.sram 0 256) ∧
    NoBad (eChecks (eng 20 8 0 0) { : EUse } ((eng 20 8 0 0).imm != 0#17)) ∧
    ex.posts.length < 4 := ⟨issues_ex, rfl, rfl, by decide, by decide, loc_of (by decide +kernel), rfl, by decide⟩
theorem witness_wraise :
    engines.Issues ex ∧
    ex.Guarded (eng 20 8 9 0).g ∧
    0 = ctxDie engines.cur ∧
    BitVec.toNat (ex.es1 (eng 20 8 9 0)) / 2 ^ 60 = 9 ∧
    BitVec.toNat (ex.es1 (eng 20 8 9 0)) % 32 = 0 ∧
    (engines.envAlone ex (Instr.wpost (eng 20 8 9 0))).resolve { perm := Perm.write : Ask }
    { lane := 0, addr := ex.es1 (eng 20 8 9 0), size := 32 : Req } =
  Except.ok (Loc.sram 0 256) ∧
    NoBad (eChecks (eng 20 8 9 0) { es2 := true : EUse } ((eng 20 8 9 0).imm != 0#17)) ∧
    engines.blockReady 0 (Loc.sram 0 256) (engines.die 0).vc = true ∧
    engines.poisonIn ((Loc.sram 0 256).runs 32) = none ∧
    (engines.applyRaise 0 (Loc.sram 0 256) (ex.posts.contains (Loc.sram 0 256)) (BitVec.toNat (ex.es2 (eng 20 8 9 0)) % 2 ^ 32)).snd = some 0 := ⟨issues_ex, rfl, rfl, by decide, by decide, loc_of (by decide +kernel), rfl, by decide +kernel, by decide +kernel, by decide +kernel⟩
theorem witness_warr :
    engines.Issues ex ∧
    ex.Guarded (eng 20 14 12 0).g ∧
    0 = ctxDie engines.cur ∧
    NoBad (eChecks (eng 20 14 12 0) { es2 := true, es2Pair := true : EUse } ((eng 20 14 12 0).imm != 0#17)) ∧
    BitVec.toNat (ex.es1 (eng 20 14 12 0)) / 2 ^ 12 % 2 ^ 20 = 0 ∧
    BitVec.toNat (ex.es1 (eng 20 14 12 0)) / 16 % 2 = 0 ∧
    BitVec.toNat (ex.es2 (eng 20 14 12 0)) % 32 = 0 := ⟨issues_ex, rfl, rfl, rfl, by decide, by decide, by decide⟩
theorem witness_spawn :
    engines.Issues ex ∧
    ex.Guarded (eng 0 15 1 2).g ∧
    0 = ctxDie engines.cur ∧
    NoBad (eChecks (eng 0 15 1 2) { ed := false, es2 := true : EUse } false) ∧
    (eng 0 15 1 2).imm.toNat = 2 ∧
    2 < partCtx (engines.part engines.cur) ∧
    (eng 0 15 1 2).es2.toNat ≤ 24 ∧
    (eng 0 15 1 2).q.getLsbD 0 = false ∧
    2 = 4 * ctxCore engines.cur + 2 ∧
    engines.ctx 2 = none ∧
    engines.reserved 2 = false := ⟨issues_ex, rfl, rfl, rfl, rfl, by decide +kernel, by decide, rfl, rfl, by decide +kernel, by decide +kernel⟩
theorem witness_grd :
    engines.Issues ex ∧
    ex.Guarded (eng 20 9 0 2).g ∧
    0 = ctxDie engines.cur ∧
    NoBad (eChecks (eng 20 9 0 2) { : EUse } false) ∧
    grdValid (eng 20 9 0 2).imm.toNat = true ∧
    engines.poisonIn (grdReads 0 (BitVec.toNat (ex.es1 (eng 20 9 0 2)) % 65536) (eng 20 9 0 2).imm.toNat) = none := ⟨issues_ex, rfl, rfl, rfl, rfl, by decide +kernel⟩
theorem witness_gupd :
    engines.Issues ex ∧
    ex.Guarded (eng 0 9 1 16).g ∧
    0 = ctxDie engines.cur ∧
    NoBad (eChecks (eng 0 9 1 16) { ed := false, es2 := true : EUse } false) ∧
    (eng 0 9 1 16).imm.toNat < 1024 ∧
    ¬(eng 0 9 1 16).imm.toNat % 16 ∈ [4, 5, 6, 7, 14, 15] ∧
    engines.gaugeAlloc 0 (BitVec.toNat (ex.es1 (eng 0 9 1 16)) % 65536) = true ∧
    engines.poisonIn (allocRead 0 (BitVec.toNat (ex.es1 (eng 0 9 1 16)) % 65536)) = none ∧
    engines.Operand ex (Instr.gupd (eng 0 9 1 16)) (ex.es2 (eng 0 9 1 16))
  (((eng 0 9 1 16).imm.toNat / 16 + 1) * elemBytes ((eng 0 9 1 16).imm.toNat % 16)) (elemBytes ((eng 0 9 1 16).imm.toNat % 16)) [0, 8, 9]
  (opReqs (9223372036854776832#64) 8 4) (opBytes engines ex (Instr.gupd (eng 0 9 1 16)) (9223372036854776832#64) 8 4) := ⟨issues_ex, rfl, rfl, rfl, by decide, by decide, by decide +kernel, by decide +kernel, operand_of (by decide +kernel)⟩
theorem witness_gnew :
    engines.Issues ex ∧
    ex.Guarded (eng 20 13 0 0).g ∧
    0 = ctxDie engines.cur ∧
    NoBad (eChecks (eng 20 13 0 0) { : EUse } ((eng 20 13 0 0).imm != 0#17)) ∧
    ex.sup = true := ⟨issues_ex, rfl, rfl, rfl, rfl⟩
theorem witness_gseal :
    engines.Issues ex ∧
    ex.Guarded (eng 20 9 0 0).g ∧
    0 = ctxDie engines.cur ∧
    NoBad (eChecks (eng 20 9 0 0) { : EUse } ((eng 20 9 0 0).imm != 0#17)) ∧
    (false = false → ex.sup = true) ∧
    engines.poisonIn (allocRead 0 (BitVec.toNat (ex.es1 (eng 20 9 0 0)) % 65536)) = none := ⟨issues_ex, rfl, rfl, rfl, (fun x => rfl), by decide +kernel⟩
theorem witness_grescale :
    engines.Issues ex ∧
    ex.Guarded (eng 20 9 0 0).g ∧
    0 = ctxDie engines.cur ∧
    NoBad (eChecks (eng 20 9 0 0) { : EUse } ((eng 20 9 0 0).imm != 0#17)) ∧
    (true = false → ex.sup = true) ∧
    engines.poisonIn (allocRead 0 (BitVec.toNat (ex.es1 (eng 20 9 0 0)) % 65536)) = none := ⟨issues_ex, rfl, rfl, rfl, (fun h => nomatch h), by decide +kernel⟩
theorem witness_lrel :
    engines.Issues ex ∧
    ex.Guarded (eng 20 9 0 0).g ∧
    0 = ctxDie engines.cur ∧
    NoBad (eChecks (eng 20 9 0 0) { : EUse } ((eng 20 9 0 0).imm != 0#17)) ∧
    BitVec.toNat (ex.es1 (eng 20 9 0 0)) < 64 := ⟨issues_ex, rfl, rfl, rfl, by decide⟩
theorem witness_recset :
    engines.Issues ex ∧
    ex.Guarded (eng 20 7 3 0).g ∧
    0 = ctxDie engines.cur ∧
    ex.sup = true ∧
    NoBad (eChecks (eng 20 7 3 0) { es2 := true : EUse } ((eng 20 7 3 0).imm != 0#17)) ∧
    engines.Operand ex (Instr.recset (eng 20 7 3 0)) (ex.es2 (eng 20 7 3 0)) 64 8 [0, 8, 9] (opReqs (ex.es2 (eng 20 7 3 0)) 64 8)
  (opBytes engines ex (Instr.recset (eng 20 7 3 0)) (ex.es2 (eng 20 7 3 0)) 64 8) ∧
    17 = BitVec.toNat (ex.es1 (eng 20 7 3 0)) % 2 ^ 20 ∧
    0 = engines.recStatus 0 17 (recOf (opBytes engines ex (Instr.recset (eng 20 7 3 0)) (ex.es2 (eng 20 7 3 0)) 64 8)) ∧
    ((recOf (opBytes engines ex (Instr.recset (eng 20 7 3 0)) (ex.es2 (eng 20 7 3 0)) 64 8)).valid = true →
  (recOf (opBytes engines ex (Instr.recset (eng 20 7 3 0)) (ex.es2 (eng 20 7 3 0)) 64 8)).gmode ≠ 0 →
    engines.poisonIn (allocRead 0 (recOf (opBytes engines ex (Instr.recset (eng 20 7 3 0)) (ex.es2 (eng 20 7 3 0)) 64 8)).gidx) = none) := ⟨issues_ex, rfl, rfl, rfl, rfl, operand_of (by decide +kernel), rfl, by decide +kernel, by decide +kernel⟩
theorem witness_recset_refused :
    engines.Issues ex ∧
    ex.Guarded (eng 20 10 3 0).g ∧
    0 = ctxDie engines.cur ∧
    ex.sup = true ∧
    NoBad (eChecks (eng 20 10 3 0) { es2 := true : EUse } ((eng 20 10 3 0).imm != 0#17)) ∧
    engines.Operand ex (Instr.recset (eng 20 10 3 0)) (ex.es2 (eng 20 10 3 0)) 64 8 [0, 8, 9] (opReqs (ex.es2 (eng 20 10 3 0)) 64 8)
  (opBytes engines ex (Instr.recset (eng 20 10 3 0)) (ex.es2 (eng 20 10 3 0)) 64 8) ∧
    2048 = BitVec.toNat (ex.es1 (eng 20 10 3 0)) % 2 ^ 20 ∧
    0 = engines.recStatus 0 2048 (recOf (opBytes engines ex (Instr.recset (eng 20 10 3 0)) (ex.es2 (eng 20 10 3 0)) 64 8)) ∧
    ((recOf (opBytes engines ex (Instr.recset (eng 20 10 3 0)) (ex.es2 (eng 20 10 3 0)) 64 8)).valid = true →
  (recOf (opBytes engines ex (Instr.recset (eng 20 10 3 0)) (ex.es2 (eng 20 10 3 0)) 64 8)).gmode ≠ 0 →
    engines.poisonIn (allocRead 0 (recOf (opBytes engines ex (Instr.recset (eng 20 10 3 0)) (ex.es2 (eng 20 10 3 0)) 64 8)).gidx) = none) := ⟨issues_ex, rfl, rfl, rfl, rfl, operand_of (by decide +kernel), rfl, by decide +kernel, by decide +kernel⟩
theorem witness_lease :
    engines.Issues ex ∧
    ex.Guarded (eng 20 15 12 0).g ∧
    0 = ctxDie engines.cur ∧
    NoBad (eChecks (eng 20 15 12 0) { es2 := true, es2Pair := true : EUse } ((eng 20 15 12 0).imm != 0#17)) := ⟨issues_ex, rfl, rfl, rfl⟩
theorem witness_eli :
    engines.Issues ex ∧
    ex.Guarded { g := always, ed := 9#5, es1 := 0#5, es2 := 2#5, q := 0#3, token := 0#3, imm := 109517#17 : EForm }.g ∧
    { g := always, ed := 9#5, es1 := 0#5, es2 := 2#5, q := 0#3, token := 0#3, imm := 109517#17 : EForm }.es1 = 0#5 ∧
    { g := always, ed := 9#5, es1 := 0#5, es2 := 2#5, q := 0#3, token := 0#3, imm := 109517#17 : EForm }.es2.toNat < 4 ∧
    { g := always, ed := 9#5, es1 := 0#5, es2 := 2#5, q := 0#3, token := 0#3, imm := 109517#17 : EForm }.token = 0#3 ∧
    { g := always, ed := 9#5, es1 := 0#5, es2 := 2#5, q := 0#3, token := 0#3, imm := 109517#17 : EForm }.q.toNat % 4 = 0 ∧
    ({ g := always, ed := 9#5, es1 := 0#5, es2 := 2#5, q := 0#3, token := 0#3, imm := 109517#17 : EForm }.q = 4#3 →
  { g := always, ed := 9#5, es1 := 0#5, es2 := 2#5, q := 0#3, token := 0#3, imm := 109517#17 : EForm }.ed.toNat < 8) := ⟨issues_ex, rfl, rfl, by decide, rfl, rfl, (fun h => nomatch h)⟩
theorem witness_ecpy :
    engines.Issues ex ∧
    ex.Guarded { g := always, ed := 3#5, es1 := 9#5, es2 := 0#5, q := 0#3, token := 0#3, imm := 8192#17 : EForm }.g ∧
    NoBad
  (eChecks { g := always, ed := 3#5, es1 := 9#5, es2 := 0#5, q := 0#3, token := 0#3, imm := 8192#17 : EForm } { token := false : EUse }
    false) ∧
    { g := always, ed := 3#5, es1 := 9#5, es2 := 0#5, q := 0#3, token := 0#3, imm := 8192#17 : EForm }.q.getLsbD 2 = false ∧
    1 = { g := always, ed := 3#5, es1 := 9#5, es2 := 0#5, q := 0#3, token := 0#3, imm := 8192#17 : EForm }.imm.toNat / 8192 ∧
    3 =
  { g := always, ed := 3#5, es1 := 9#5, es2 := 0#5, q := 0#3, token := 0#3, imm := 8192#17 : EForm }.imm.toNat % 16 * 32 +
    { g := always, ed := 3#5, es1 := 9#5, es2 := 0#5, q := 0#3, token := 0#3, imm := 8192#17 : EForm }.ed.toNat ∧
    1 < 6 ∧
    { g := always, ed := 3#5, es1 := 9#5, es2 := 0#5, q := 0#3, token := 0#3, imm := 8192#17 : EForm }.imm.toNat % 8192 =
  { g := always, ed := 3#5, es1 := 9#5, es2 := 0#5, q := 0#3, token := 0#3, imm := 8192#17 : EForm }.imm.toNat % 16 ∧
    3 < [64, 64, 32, 32, 16, 4].getD 1 0 := ⟨issues_ex, rfl, rfl, rfl, rfl, rfl, by decide, rfl, by decide⟩
theorem witness_ecpy_lane :
    engines.Issues ex ∧
    ex.Guarded { g := always, ed := 3#5, es1 := 9#5, es2 := 0#5, q := 0#3, token := 0#3, imm := 57988#17 : EForm }.g ∧
    NoBad
  (eChecks { g := always, ed := 3#5, es1 := 9#5, es2 := 0#5, q := 0#3, token := 0#3, imm := 57988#17 : EForm } { token := false : EUse }
    false) ∧
    { g := always, ed := 3#5, es1 := 9#5, es2 := 0#5, q := 0#3, token := 0#3, imm := 57988#17 : EForm }.q.getLsbD 2 = false ∧
    7 = { g := always, ed := 3#5, es1 := 9#5, es2 := 0#5, q := 0#3, token := 0#3, imm := 57988#17 : EForm }.imm.toNat / 8192 ∧
    131 =
  { g := always, ed := 3#5, es1 := 9#5, es2 := 0#5, q := 0#3, token := 0#3, imm := 57988#17 : EForm }.imm.toNat % 16 * 32 +
    { g := always, ed := 3#5, es1 := 9#5, es2 := 0#5, q := 0#3, token := 0#3, imm := 57988#17 : EForm }.ed.toNat ∧
    6 ≤ 7 ∧
    7 < 8 ∧
    { g := always, ed := 3#5, es1 := 9#5, es2 := 0#5, q := 0#3, token := 0#3, imm := 57988#17 : EForm }.imm.toNat % 8192 =
  128 * 5 + { g := always, ed := 3#5, es1 := 9#5, es2 := 0#5, q := 0#3, token := 0#3, imm := 57988#17 : EForm }.imm.toNat % 16 ∧
    131 < partVreg (engines.part engines.cur) := ⟨issues_ex, rfl, rfl, rfl, rfl, rfl, by decide, by decide, rfl, by decide +kernel⟩
theorem witness_ecpy_all :
    engines.Issues ex ∧
    ex.Guarded { g := always, ed := 3#5, es1 := 9#5, es2 := 0#5, q := 0#3, token := 0#3, imm := 49216#17 : EForm }.g ∧
    NoBad
  (eChecks { g := always, ed := 3#5, es1 := 9#5, es2 := 0#5, q := 0#3, token := 0#3, imm := 49216#17 : EForm } { token := false : EUse }
    false) ∧
    { g := always, ed := 3#5, es1 := 9#5, es2 := 0#5, q := 0#3, token := 0#3, imm := 49216#17 : EForm }.q.getLsbD 2 = false ∧
    6 = { g := always, ed := 3#5, es1 := 9#5, es2 := 0#5, q := 0#3, token := 0#3, imm := 49216#17 : EForm }.imm.toNat / 8192 ∧
    3 =
  { g := always, ed := 3#5, es1 := 9#5, es2 := 0#5, q := 0#3, token := 0#3, imm := 49216#17 : EForm }.imm.toNat % 16 * 32 +
    { g := always, ed := 3#5, es1 := 9#5, es2 := 0#5, q := 0#3, token := 0#3, imm := 49216#17 : EForm }.ed.toNat ∧
    6 ≤ 6 ∧
    6 < 8 ∧
    { g := always, ed := 3#5, es1 := 9#5, es2 := 0#5, q := 0#3, token := 0#3, imm := 49216#17 : EForm }.imm.toNat % 8192 =
  64 + { g := always, ed := 3#5, es1 := 9#5, es2 := 0#5, q := 0#3, token := 0#3, imm := 49216#17 : EForm }.imm.toNat % 16 ∧
    3 < partVreg (engines.part engines.cur) := ⟨issues_ex, rfl, rfl, rfl, rfl, rfl, by decide, by decide, rfl, by decide +kernel⟩
theorem witness_twait :
    engines.Issues ex ∧
    ex.Guarded { g := always, ed := 0#5, es1 := 0#5, es2 := 0#5, q := 0#3, token := 0#3, imm := 0#17 : EForm }.g ∧
    NoBad
  (eChecks { g := always, ed := 0#5, es1 := 0#5, es2 := 0#5, q := 0#3, token := 0#3, imm := 0#17 : EForm }
    { ed := false, token := false : EUse }
    ({ g := always, ed := 0#5, es1 := 0#5, es2 := 0#5, q := 0#3, token := 0#3, imm := 0#17 : EForm }.imm != 0#17)) ∧
    ((engines.modCtx engines.cur fun y =>
        { pc := y.pc, a := y.a, b := y.b, d := y.d, e := y.e, j := y.j, m := y.m, v := y.v, w := y.w, q := y.q, qv := y.qv, qw := y.qw,
          p := y.p, c := y.c, k := y.k, f := y.f, z := y.z, subflag := y.subflag, brlost := y.brlost, latchlost := y.latchlost,
          sup := y.sup, fmt := y.fmt, tcoord := y.tcoord, tag := y.tag, ovfptr := y.ovfptr, sptop := y.sptop, srseq0 := y.srseq0,
          srseq1 := y.srseq1, tcause := y.tcause, traparg := y.traparg, tpc := y.tpc, txpc := y.txpc, count := y.count, flight := y.flight,
          br := y.br,
          loops :=
            have __src := y.loops;
            { v0 := __src.v0, v1 := __src.v1, m := __src.m, l := __src.l, counts := __src.counts, links := __src.links, nest := __src.nest,
              starting := __src.starting, skip := __src.skip, arv := __src.arv,
              tw := some (ex.pc, ex.es1 { g := always, ed := 0#5, es1 := 0#5, es2 := 0#5, q := 0#3, token := 0#3, imm := 0#17 : EForm }) :
              LoopState },
          repLeft := y.repLeft, arrived := y.arrived, spin := y.spin, snap := y.snap, due := y.due, run := y.run, age := y.age,
          gang := y.gang, member := y.member, posts := y.posts, fences := y.fences, join := y.join, results := y.results,
          resultNo := y.resultNo : Ctx }).ctx
    engines.cur =
  some v06a) ∧
    engines.timeReached
    (BitVec.toNat (ex.es1 { g := always, ed := 0#5, es1 := 0#5, es2 := 0#5, q := 0#3, token := 0#3, imm := 0#17 : EForm })) =
  true := ⟨issues_ex, rfl, rfl, rfl, by decide +kernel⟩
theorem witness_twait_again :
    v06b.Presents v06a ∧
    v06a.Guarded { g := always, ed := 0#5, es1 := 9#5, es2 := 0#5, q := 0#3, token := 0#3, imm := 0#17 : EForm }.g ∧
    v06a.loops.arv = none ∧
    v06a.loops.tw = some (v06a.pc, 0#64) ∧
    NoBad
  (eChecks { g := always, ed := 0#5, es1 := 9#5, es2 := 0#5, q := 0#3, token := 0#3, imm := 0#17 : EForm }
    { ed := false, token := false : EUse }
    ({ g := always, ed := 0#5, es1 := 9#5, es2 := 0#5, q := 0#3, token := 0#3, imm := 0#17 : EForm }.imm != 0#17)) ∧
    v06b.timeReached (0#64).toNat = true := ⟨presents_of _ _ rfl rfl rfl rfl rfl ⟨rfl, rfl, rfl, rfl⟩ rfl, rfl, rfl, rfl, rfl, by decide +kernel⟩
theorem witness_twait_again_waits :
    v06d.Presents v06c ∧
    v06c.Guarded { g := always, ed := 0#5, es1 := 0#5, es2 := 0#5, q := 0#3, token := 0#3, imm := 0#17 : EForm }.g ∧
    v06c.loops.arv = none ∧
    v06c.loops.tw = some (v06c.pc, 5#64) ∧
    NoBad
  (eChecks { g := always, ed := 0#5, es1 := 0#5, es2 := 0#5, q := 0#3, token := 0#3, imm := 0#17 : EForm }
    { ed := false, token := false : EUse }
    ({ g := always, ed := 0#5, es1 := 0#5, es2 := 0#5, q := 0#3, token := 0#3, imm := 0#17 : EForm }.imm != 0#17)) ∧
    v06d.timeReached (5#64).toNat = false := ⟨presents_of _ _ rfl rfl rfl rfl rfl ⟨rfl, rfl, rfl, rfl⟩ rfl, rfl, rfl, rfl, rfl, by decide +kernel⟩
theorem witness_twait_waits :
    engines.Issues ex ∧
    ex.Guarded { g := always, ed := 0#5, es1 := 9#5, es2 := 0#5, q := 0#3, token := 0#3, imm := 0#17 : EForm }.g ∧
    NoBad
  (eChecks { g := always, ed := 0#5, es1 := 9#5, es2 := 0#5, q := 0#3, token := 0#3, imm := 0#17 : EForm }
    { ed := false, token := false : EUse }
    ({ g := always, ed := 0#5, es1 := 9#5, es2 := 0#5, q := 0#3, token := 0#3, imm := 0#17 : EForm }.imm != 0#17)) ∧
    ((engines.modCtx engines.cur fun y =>
        { pc := y.pc, a := y.a, b := y.b, d := y.d, e := y.e, j := y.j, m := y.m, v := y.v, w := y.w, q := y.q, qv := y.qv, qw := y.qw,
          p := y.p, c := y.c, k := y.k, f := y.f, z := y.z, subflag := y.subflag, brlost := y.brlost, latchlost := y.latchlost,
          sup := y.sup, fmt := y.fmt, tcoord := y.tcoord, tag := y.tag, ovfptr := y.ovfptr, sptop := y.sptop, srseq0 := y.srseq0,
          srseq1 := y.srseq1, tcause := y.tcause, traparg := y.traparg, tpc := y.tpc, txpc := y.txpc, count := y.count, flight := y.flight,
          br := y.br,
          loops :=
            have __src := y.loops;
            { v0 := __src.v0, v1 := __src.v1, m := __src.m, l := __src.l, counts := __src.counts, links := __src.links, nest := __src.nest,
              starting := __src.starting, skip := __src.skip, arv := __src.arv,
              tw := some (ex.pc, ex.es1 { g := always, ed := 0#5, es1 := 9#5, es2 := 0#5, q := 0#3, token := 0#3, imm := 0#17 : EForm }) :
              LoopState },
          repLeft := y.repLeft, arrived := y.arrived, spin := y.spin, snap := y.snap, due := y.due, run := y.run, age := y.age,
          gang := y.gang, member := y.member, posts := y.posts, fences := y.fences, join := y.join, results := y.results,
          resultNo := y.resultNo : Ctx }).ctx
    engines.cur =
  some v06c) ∧
    engines.timeReached
    (BitVec.toNat (ex.es1 { g := always, ed := 0#5, es1 := 9#5, es2 := 0#5, q := 0#3, token := 0#3, imm := 0#17 : EForm })) =
  false := ⟨issues_ex, rfl, rfl, rfl, by decide +kernel⟩
theorem witness_edstash_dropped :
    ((stashed.modDie 0 fun d =>
      { view := d.view, vc := d.vc, tvec := d.tvec, stages := d.stages, arrivals := d.arrivals, jobs := d.jobs, accepted := d.accepted,
        fq := d.fq, tlb := d.tlb : Die }).Issues
  ex) ∧
    ex.Guarded (eng 20 3 0 0).g ∧
    (0 =
  ctxDie
    (stashed.modDie 0 fun d =>
        { view := d.view, vc := d.vc, tvec := d.tvec, stages := d.stages, arrivals := d.arrivals, jobs := d.jobs, accepted := d.accepted,
          fq := d.fq, tlb := d.tlb : Die }).cur) ∧
    NoBad (eChecks (eng 20 3 0 0) { : EUse } ((eng 20 3 0 0).imm != 0#17)) ∧
    ((stashed.modDie 0 fun d =>
      { view := d.view, vc := d.vc, tvec := d.tvec, stages := d.stages, arrivals := d.arrivals, jobs := d.jobs, accepted := d.accepted,
        fq := d.fq, tlb := d.tlb : Die }).Operand
  ex (Instr.edstash (eng 20 3 0 0)) (ex.es1 (eng 20 3 0 0)) 32 32 [8, 9] (opReqs (ex.es1 (eng 20 3 0 0)) 32 32)
  (opBytes
    (stashed.modDie 0 fun d =>
      { view := d.view, vc := d.vc, tvec := d.tvec, stages := d.stages, arrivals := d.arrivals, jobs := d.jobs, accepted := d.accepted,
        fq := d.fq, tlb := d.tlb : Die })
    ex (Instr.edstash (eng 20 3 0 0)) (ex.es1 (eng 20 3 0 0)) 32 32)) ∧
    ([570425344#64, 4096#64, 0#64, 4095#64] =
  List.map
    (fun k =>
      wordOf
        (List.drop (8 * k)
          (opBytes
            (stashed.modDie 0 fun d =>
              { view := d.view, vc := d.vc, tvec := d.tvec, stages := d.stages, arrivals := d.arrivals, jobs := d.jobs,
                accepted := d.accepted, fq := d.fq, tlb := d.tlb : Die })
            ex (Instr.edstash (eng 20 3 0 0)) (ex.es1 (eng 20 3 0 0)) 32 32)))
    (List.range 4)) ∧
    stashMisaligned [570425344#64, 4096#64, 0#64, 4095#64] = none ∧
    BitVec.toNat ([570425344#64, 4096#64, 0#64, 4095#64].getD 0 0#64) % 2 ^ 20 = 0 ∧
    ((stashed.modDie 0 fun d =>
        { view := d.view, vc := d.vc, tvec := d.tvec, stages := d.stages, arrivals := d.arrivals, jobs := d.jobs, accepted := d.accepted,
          fq := d.fq, tlb := d.tlb : Die }).stashStatus
    (stashed.modDie 0 fun d =>
        { view := d.view, vc := d.vc, tvec := d.tvec, stages := d.stages, arrivals := d.arrivals, jobs := d.jobs, accepted := d.accepted,
          fq := d.fq, tlb := d.tlb : Die }).cur
    ex.sup [570425344#64, 4096#64, 0#64, 4095#64] =
  (0, some (stashOf [570425344#64, 4096#64, 0#64, 4095#64]))) ∧
    (stashOf [570425344#64, 4096#64, 0#64, 4095#64]).state = StashState.dropped := by
  refine ⟨issues_of _ _ rfl rfl rfl rfl rfl ⟨rfl, rfl, rfl, rfl⟩ rfl, rfl, rfl, rfl, operand_of (by decide +kernel), ?_, ?_, ?_, ?_, ?_⟩ <;> decide +kernel
theorem witness_edfetch :
    stashed.Issues ex ∧
    ex.Guarded (eng 20 11 0 14).g ∧
    0 = ctxDie stashed.cur ∧
    2 = (eng 20 11 0 14).imm.toNat % 4 ∧
    3 = (eng 20 11 0 14).imm.toNat / 4 ∧
    NoBad (eChecks (eng 20 11 0 14) { es2 := 2 == 1 : EUse } false) ∧
    keyBad (ex.es1 (eng 20 11 0 14)) = false ∧
    3 < 8 ∧
    some (Attach.stream 0 3) = some (Attach.stream stashed.cur 3) ∧
    stashed.fetchStatus 0 (keyOf (ex.es1 (eng 20 11 0 14))) (some (Attach.stream 0 3)) = 0 := ⟨issues_stashed, rfl, rfl, rfl, rfl, rfl, by decide +kernel, by decide, rfl, by decide +kernel⟩
theorem witness_edfree_held :
    stashed.Issues ex ∧
    ex.Guarded (eng 20 11 0 0).g ∧
    0 = ctxDie stashed.cur ∧
    (eng 20 11 0 0).imm = 0#17 ∧
    NoBad (eChecks (eng 20 11 0 0) { : EUse } false) ∧
    keyBad (ex.es1 (eng 20 11 0 0)) = false ∧
    stashed.stash 0 (keyOf (ex.es1 (eng 20 11 0 0))) ≠ none := ⟨issues_stashed, rfl, rfl, rfl, rfl, by decide +kernel, by decide +kernel⟩

/-! ### Witnesses: power, temperature and memory -/

/-- 48 junction sensors at 80 K, sensor 3 at 81 K. -/
def junctions : List Reading := (List.replicate 48 (⟨true, 1280#16⟩ : Reading)).set 3 ⟨true, 1296#16⟩
/-- 9 substrate sensors at 78 K. -/
def substrates : List Reading := List.replicate 9 ⟨true, 1248#16⟩
/-- A machine at some time, with a thermal state. -/
def hot (f : Thermal → Thermal) (n : Nat) : State := { State.reset with thermal := f State.reset.thermal, time := n }
/-- A running module in the COLD band with samples above 85 K. -/
def warming : State := hot (fun t => { t with state := .run, band := .cold, lastTj := [1361, 1361], tj := 1361#16, refrate := 1#3, tset := 0#2 }) 5
/-- A module in RETREAT that has cooled. -/
def cooled : State := hot (fun t => { t with state := .retreat, band := .retreat, lastTj := [1312, 1312], tj := 1312#16 }) 1000000
/-- A module without coolant. -/
def dry (x : TState) (n : Nat) : State := hot (fun t => { t with state := x, band := .cold, coolantOk := false }) n
/-- A running module, with handle 17 valid. -/
def running : State := { rec17 with thermal := { rec17.thermal with state := .run, band := .cold }, time := 100 }
/-- A module in RETREAT at 90 K whose band takes effect. -/
def applying : State := hot (fun t => { t with state := .retreat, band := .retreat, applyAt := some 205, tj := 1440#16 }) 205
/-- The same with a request of a sector of channel 0; with refreshes that wait; and with eight of them. -/
def busyChannel : State := running.modDram 0 fun x => { x with queue := [⟨0, false⟩], refrate := 1#3 }
def owing : State := running.modDram 0 fun x => { x with postponed := 2, refrate := 1#3 }
def late : State := running.modDram 0 fun x => { x with queue := [⟨0, false⟩], postponed := 8, refrate := 1#3 }
/-- The tile of handle 17, and its image. -/
def tile17 : Tile4 := { r := running.record 0 17, coord := ⟨0, 0, 0, 0⟩, shape := ⟨1, 1, 16, 16⟩ }
def image17 : List Byte := okOf [] (running.readImage { die := 0, core := 0, cluster := 72 * 0, sup := true } tile17 0 tile17.bytes)
/-! Variants of the values above that the witnesses name. -/
def v07a : State := { running.modDram 0 fun x => { x with refrate := 1#3 } with thermal := { running.thermal with refrate := 0#3 } }

theorem witness_power_lost :
    junctions.length = 48 ∧
    substrates.length = 9 := ⟨rfl, rfl⟩
theorem witness_power_applied :
    junctions.length = 48 ∧
    substrates.length = 9 ∧
    ((hot
        (fun t =>
          { state := TState.off, band := t.band, refrate := t.refrate, tset := t.tset, clklow := t.clklow, cmdhold := t.cmdhold,
            pause := t.pause, fcause := t.fcause, tj := t.tj, tjSensor := t.tjSensor, grad := t.grad, mean := t.mean, slope := t.slope,
            sens := t.sens, subs := t.subs, evt := t.evt, faults := t.faults, holds := t.holds, cycles := t.cycles, dramce := t.dramce,
            sramce := t.sramce, ue := t.ue, lastTj := t.lastTj, sampledAt := t.sampledAt, ratedAt := t.ratedAt, bandSince := t.bandSince,
            coldSince := t.coldSince, switchAt := t.switchAt, applyAt := t.applyAt, means := t.means, rateOk := t.rateOk,
            gradPause := t.gradPause, coolantOk := t.coolantOk, coolantSince := t.coolantSince, coolantTaken := t.coolantTaken,
            setpoint := t.setpoint : Thermal })
        0).thermal.state =
  TState.off) := ⟨rfl, rfl, rfl⟩
theorem witness_sample :
    junctions.length = 48 ∧
    substrates.length = 9 ∧
    (hot id 0).thermal.state ≠ TState.off ∧
    tooSoon (hot id 0).thermal.sampledAt 10000 (hot id 0).time = false ∧
    badDie junctions = none ∧
    warmest junctions = some (1296, 3) := ⟨rfl, rfl, by decide, by decide +kernel, by decide +kernel, by decide +kernel⟩
theorem witness_retreat :
    warming.thermal.state = TState.run ∧
    warming.thermal.band = Band.cold ∧
    warming.sequenceRuns = false ∧
    warming.mbox.running = none ∧
    warming.thermal.lastTj = [1361, 1361] ∧
    1360 < 1361 ∧
    1360 < 1361 := ⟨rfl, rfl, rfl, rfl, rfl, by decide, by decide⟩
theorem witness_back :
    cooled.thermal.state = TState.retreat ∧
    cooled.thermal.band = Band.retreat ∧
    cooled.sequenceRuns = false ∧
    cooled.mbox.running = none ∧
    cooled.thermal.lastTj = [1312, 1312] ∧
    1312 + 48 ≤ 1360 ∧
    1312 + 48 ≤ 1360 ∧
    cooled.thermal.bandSince + 1000000 ≤ cooled.time := ⟨rfl, rfl, rfl, rfl, rfl, by decide, by decide, by decide⟩
theorem witness_switch :
    ((hot
        (fun t =>
          { state := t.state, band := t.band, refrate := t.refrate, tset := t.tset, clklow := t.clklow, cmdhold := t.cmdhold,
            pause := t.pause, fcause := t.fcause, tj := t.tj, tjSensor := t.tjSensor, grad := t.grad, mean := t.mean, slope := t.slope,
            sens := t.sens, subs := t.subs, evt := t.evt, faults := t.faults, holds := t.holds, cycles := t.cycles, dramce := t.dramce,
            sramce := t.sramce, ue := t.ue, lastTj := t.lastTj, sampledAt := t.sampledAt, ratedAt := t.ratedAt, bandSince := t.bandSince,
            coldSince := t.coldSince, switchAt := some (7, true), applyAt := t.applyAt, means := t.means, rateOk := t.rateOk,
            gradPause := t.gradPause, coolantOk := t.coolantOk, coolantSince := t.coolantSince, coolantTaken := t.coolantTaken,
            setpoint := t.setpoint : Thermal })
        7).thermal.switchAt =
  some (7, true)) ∧
    (7 ≤
  (hot
      (fun t =>
        { state := t.state, band := t.band, refrate := t.refrate, tset := t.tset, clklow := t.clklow, cmdhold := t.cmdhold,
          pause := t.pause, fcause := t.fcause, tj := t.tj, tjSensor := t.tjSensor, grad := t.grad, mean := t.mean, slope := t.slope,
          sens := t.sens, subs := t.subs, evt := t.evt, faults := t.faults, holds := t.holds, cycles := t.cycles, dramce := t.dramce,
          sramce := t.sramce, ue := t.ue, lastTj := t.lastTj, sampledAt := t.sampledAt, ratedAt := t.ratedAt, bandSince := t.bandSince,
          coldSince := t.coldSince, switchAt := some (7, true), applyAt := t.applyAt, means := t.means, rateOk := t.rateOk,
          gradPause := t.gradPause, coolantOk := t.coolantOk, coolantSince := t.coolantSince, coolantTaken := t.coolantTaken,
          setpoint := t.setpoint : Thermal })
      7).time) := ⟨rfl, by decide⟩
theorem witness_refresh_stops :
    ((hot
        (fun t =>
          { state := TState.run, band := Band.cold, refrate := t.refrate, tset := t.tset, clklow := t.clklow, cmdhold := t.cmdhold,
            pause := t.pause, fcause := t.fcause, tj := t.tj, tjSensor := t.tjSensor, grad := t.grad, mean := t.mean, slope := t.slope,
            sens := t.sens, subs := t.subs, evt := t.evt, faults := t.faults, holds := t.holds, cycles := t.cycles, dramce := t.dramce,
            sramce := t.sramce, ue := t.ue, lastTj := t.lastTj, sampledAt := t.sampledAt, ratedAt := t.ratedAt, bandSince := t.bandSince,
            coldSince := some 0, switchAt := t.switchAt, applyAt := t.applyAt, means := t.means, rateOk := t.rateOk,
            gradPause := t.gradPause, coolantOk := t.coolantOk, coolantSince := t.coolantSince, coolantTaken := t.coolantTaken,
            setpoint := t.setpoint : Thermal })
        (64 * second + 1)).thermal.coldSince =
  some 0) ∧
    ((hot
        (fun t =>
          { state := TState.run, band := Band.cold, refrate := t.refrate, tset := t.tset, clklow := t.clklow, cmdhold := t.cmdhold,
            pause := t.pause, fcause := t.fcause, tj := t.tj, tjSensor := t.tjSensor, grad := t.grad, mean := t.mean, slope := t.slope,
            sens := t.sens, subs := t.subs, evt := t.evt, faults := t.faults, holds := t.holds, cycles := t.cycles, dramce := t.dramce,
            sramce := t.sramce, ue := t.ue, lastTj := t.lastTj, sampledAt := t.sampledAt, ratedAt := t.ratedAt, bandSince := t.bandSince,
            coldSince := some 0, switchAt := t.switchAt, applyAt := t.applyAt, means := t.means, rateOk := t.rateOk,
            gradPause := t.gradPause, coolantOk := t.coolantOk, coolantSince := t.coolantSince, coolantTaken := t.coolantTaken,
            setpoint := t.setpoint : Thermal })
        (64 * second + 1)).thermal.band =
  Band.cold) ∧
    ((hot
        (fun t =>
          { state := TState.run, band := Band.cold, refrate := t.refrate, tset := t.tset, clklow := t.clklow, cmdhold := t.cmdhold,
            pause := t.pause, fcause := t.fcause, tj := t.tj, tjSensor := t.tjSensor, grad := t.grad, mean := t.mean, slope := t.slope,
            sens := t.sens, subs := t.subs, evt := t.evt, faults := t.faults, holds := t.holds, cycles := t.cycles, dramce := t.dramce,
            sramce := t.sramce, ue := t.ue, lastTj := t.lastTj, sampledAt := t.sampledAt, ratedAt := t.ratedAt, bandSince := t.bandSince,
            coldSince := some 0, switchAt := t.switchAt, applyAt := t.applyAt, means := t.means, rateOk := t.rateOk,
            gradPause := t.gradPause, coolantOk := t.coolantOk, coolantSince := t.coolantSince, coolantTaken := t.coolantTaken,
            setpoint := t.setpoint : Thermal })
        (64 * second + 1)).thermal.state =
  TState.run) ∧
    (0 + 64 * second <
  (hot
      (fun t =>
        { state := TState.run, band := Band.cold, refrate := t.refrate, tset := t.tset, clklow := t.clklow, cmdhold := t.cmdhold,
          pause := t.pause, fcause := t.fcause, tj := t.tj, tjSensor := t.tjSensor, grad := t.grad, mean := t.mean, slope := t.slope,
          sens := t.sens, subs := t.subs, evt := t.evt, faults := t.faults, holds := t.holds, cycles := t.cycles, dramce := t.dramce,
          sramce := t.sramce, ue := t.ue, lastTj := t.lastTj, sampledAt := t.sampledAt, ratedAt := t.ratedAt, bandSince := t.bandSince,
          coldSince := some 0, switchAt := t.switchAt, applyAt := t.applyAt, means := t.means, rateOk := t.rateOk, gradPause := t.gradPause,
          coolantOk := t.coolantOk, coolantSince := t.coolantSince, coolantTaken := t.coolantTaken, setpoint := t.setpoint : Thermal })
      (64 * second + 1)).time) := ⟨rfl, rfl, rfl, by decide⟩
theorem witness_rate :
    ((hot
        (fun t =>
          { state := t.state, band := t.band, refrate := t.refrate, tset := t.tset, clklow := t.clklow, cmdhold := t.cmdhold,
            pause := t.pause, fcause := t.fcause, tj := t.tj, tjSensor := t.tjSensor, grad := t.grad, mean := t.mean, slope := t.slope,
            sens := t.sens, subs := [(0, { ok := true, temp := 1248#16 : Reading }), (1, { ok := true, temp := 1250#16 : Reading })],
            evt := t.evt, faults := t.faults, holds := t.holds, cycles := t.cycles, dramce := t.dramce, sramce := t.sramce, ue := t.ue,
            lastTj := t.lastTj, sampledAt := some 0, ratedAt := t.ratedAt, bandSince := t.bandSince, coldSince := t.coldSince,
            switchAt := t.switchAt, applyAt := t.applyAt, means := t.means, rateOk := t.rateOk, gradPause := t.gradPause,
            coolantOk := t.coolantOk, coolantSince := t.coolantSince, coolantTaken := t.coolantTaken, setpoint := t.setpoint : Thermal })
        second).thermal.state =
  TState.warmStandby) ∧
    ((hot
        (fun t =>
          { state := t.state, band := t.band, refrate := t.refrate, tset := t.tset, clklow := t.clklow, cmdhold := t.cmdhold,
            pause := t.pause, fcause := t.fcause, tj := t.tj, tjSensor := t.tjSensor, grad := t.grad, mean := t.mean, slope := t.slope,
            sens := t.sens, subs := [(0, { ok := true, temp := 1248#16 : Reading }), (1, { ok := true, temp := 1250#16 : Reading })],
            evt := t.evt, faults := t.faults, holds := t.holds, cycles := t.cycles, dramce := t.dramce, sramce := t.sramce, ue := t.ue,
            lastTj := t.lastTj, sampledAt := some 0, ratedAt := t.ratedAt, bandSince := t.bandSince, coldSince := t.coldSince,
            switchAt := t.switchAt, applyAt := t.applyAt, means := t.means, rateOk := t.rateOk, gradPause := t.gradPause,
            coolantOk := t.coolantOk, coolantSince := t.coolantSince, coolantTaken := t.coolantTaken, setpoint := t.setpoint : Thermal })
        second).thermal.sampledAt ≠
  none) ∧
    (tooSoon
    (hot
          (fun t =>
            { state := t.state, band := t.band, refrate := t.refrate, tset := t.tset, clklow := t.clklow, cmdhold := t.cmdhold,
              pause := t.pause, fcause := t.fcause, tj := t.tj, tjSensor := t.tjSensor, grad := t.grad, mean := t.mean, slope := t.slope,
              sens := t.sens, subs := [(0, { ok := true, temp := 1248#16 : Reading }), (1, { ok := true, temp := 1250#16 : Reading })],
              evt := t.evt, faults := t.faults, holds := t.holds, cycles := t.cycles, dramce := t.dramce, sramce := t.sramce, ue := t.ue,
              lastTj := t.lastTj, sampledAt := some 0, ratedAt := t.ratedAt, bandSince := t.bandSince, coldSince := t.coldSince,
              switchAt := t.switchAt, applyAt := t.applyAt, means := t.means, rateOk := t.rateOk, gradPause := t.gradPause,
              coolantOk := t.coolantOk, coolantSince := t.coolantSince, coolantTaken := t.coolantTaken, setpoint := t.setpoint : Thermal })
          second).thermal.ratedAt
    second
    (hot
        (fun t =>
          { state := t.state, band := t.band, refrate := t.refrate, tset := t.tset, clklow := t.clklow, cmdhold := t.cmdhold,
            pause := t.pause, fcause := t.fcause, tj := t.tj, tjSensor := t.tjSensor, grad := t.grad, mean := t.mean, slope := t.slope,
            sens := t.sens, subs := [(0, { ok := true, temp := 1248#16 : Reading }), (1, { ok := true, temp := 1250#16 : Reading })],
            evt := t.evt, faults := t.faults, holds := t.holds, cycles := t.cycles, dramce := t.dramce, sramce := t.sramce, ue := t.ue,
            lastTj := t.lastTj, sampledAt := some 0, ratedAt := t.ratedAt, bandSince := t.bandSince, coldSince := t.coldSince,
            switchAt := t.switchAt, applyAt := t.applyAt, means := t.means, rateOk := t.rateOk, gradPause := t.gradPause,
            coolantOk := t.coolantOk, coolantSince := t.coolantSince, coolantTaken := t.coolantTaken, setpoint := t.setpoint : Thermal })
        second).time =
  false) ∧
    (validTemps
    (List.map (fun x => x.snd)
      (hot
            (fun t =>
              { state := t.state, band := t.band, refrate := t.refrate, tset := t.tset, clklow := t.clklow, cmdhold := t.cmdhold,
                pause := t.pause, fcause := t.fcause, tj := t.tj, tjSensor := t.tjSensor, grad := t.grad, mean := t.mean, slope := t.slope,
                sens := t.sens, subs := [(0, { ok := true, temp := 1248#16 : Reading }), (1, { ok := true, temp := 1250#16 : Reading })],
                evt := t.evt, faults := t.faults, holds := t.holds, cycles := t.cycles, dramce := t.dramce, sramce := t.sramce, ue := t.ue,
                lastTj := t.lastTj, sampledAt := some 0, ratedAt := t.ratedAt, bandSince := t.bandSince, coldSince := t.coldSince,
                switchAt := t.switchAt, applyAt := t.applyAt, means := t.means, rateOk := t.rateOk, gradPause := t.gradPause,
                coolantOk := t.coolantOk, coolantSince := t.coolantSince, coolantTaken := t.coolantTaken, setpoint := t.setpoint :
                Thermal })
            second).thermal.subs) ≠
  []) := ⟨rfl, by decide, by decide +kernel, by decide +kernel⟩
theorem witness_coolant :
    (hot id 9).thermal.state ≠ TState.off ∧
    (hot id 9).thermal.coolantOk ≠ false := ⟨by decide, by decide⟩
theorem witness_coolant_hold :
    (dry TState.run (5 * second)).thermal.state = TState.run ∧
    (dry TState.run (5 * second)).sequenceRuns = false ∧
    (dry TState.run (5 * second)).mbox.running = none ∧
    (dry TState.run (5 * second)).thermal.coolantOk = false ∧
    (dry TState.run (5 * second)).thermal.coolantSince + 5 * second ≤ (dry TState.run (5 * second)).time := ⟨rfl, rfl, rfl, rfl, by decide⟩
theorem witness_coolant_fault :
    (dry TState.hold (65 * second)).thermal.state = TState.hold ∧
    (dry TState.hold (65 * second)).thermal.coolantOk = false ∧
    (dry TState.hold (65 * second)).thermal.coolantTaken = false ∧
    (dry TState.hold (65 * second)).thermal.coolantSince + 65 * second ≤ (dry TState.hold (65 * second)).time := ⟨rfl, rfl, rfl, by decide⟩
theorem witness_coolant_exit :
    ((hot
        (fun t =>
          { state := TState.hold, band := Band.cold, refrate := t.refrate, tset := t.tset, clklow := t.clklow, cmdhold := t.cmdhold,
            pause := t.pause, fcause := t.fcause, tj := t.tj, tjSensor := t.tjSensor, grad := t.grad, mean := t.mean, slope := t.slope,
            sens := t.sens, subs := t.subs, evt := t.evt, faults := t.faults, holds := t.holds, cycles := t.cycles, dramce := t.dramce,
            sramce := t.sramce, ue := t.ue, lastTj := t.lastTj, sampledAt := t.sampledAt, ratedAt := t.ratedAt, bandSince := t.bandSince,
            coldSince := t.coldSince, switchAt := t.switchAt, applyAt := t.applyAt, means := t.means, rateOk := t.rateOk,
            gradPause := t.gradPause, coolantOk := t.coolantOk, coolantSince := t.coolantSince, coolantTaken := t.coolantTaken,
            setpoint := t.setpoint : Thermal })
        (10 * second)).thermal.state =
  TState.hold) ∧
    ((hot
      (fun t =>
        { state := TState.hold, band := Band.cold, refrate := t.refrate, tset := t.tset, clklow := t.clklow, cmdhold := t.cmdhold,
          pause := t.pause, fcause := t.fcause, tj := t.tj, tjSensor := t.tjSensor, grad := t.grad, mean := t.mean, slope := t.slope,
          sens := t.sens, subs := t.subs, evt := t.evt, faults := t.faults, holds := t.holds, cycles := t.cycles, dramce := t.dramce,
          sramce := t.sramce, ue := t.ue, lastTj := t.lastTj, sampledAt := t.sampledAt, ratedAt := t.ratedAt, bandSince := t.bandSince,
          coldSince := t.coldSince, switchAt := t.switchAt, applyAt := t.applyAt, means := t.means, rateOk := t.rateOk,
          gradPause := t.gradPause, coolantOk := t.coolantOk, coolantSince := t.coolantSince, coolantTaken := t.coolantTaken,
          setpoint := t.setpoint : Thermal })
      (10 * second)).sequenceRuns =
  false) ∧
    ((hot
        (fun t =>
          { state := TState.hold, band := Band.cold, refrate := t.refrate, tset := t.tset, clklow := t.clklow, cmdhold := t.cmdhold,
            pause := t.pause, fcause := t.fcause, tj := t.tj, tjSensor := t.tjSensor, grad := t.grad, mean := t.mean, slope := t.slope,
            sens := t.sens, subs := t.subs, evt := t.evt, faults := t.faults, holds := t.holds, cycles := t.cycles, dramce := t.dramce,
            sramce := t.sramce, ue := t.ue, lastTj := t.lastTj, sampledAt := t.sampledAt, ratedAt := t.ratedAt, bandSince := t.bandSince,
            coldSince := t.coldSince, switchAt := t.switchAt, applyAt := t.applyAt, means := t.means, rateOk := t.rateOk,
            gradPause := t.gradPause, coolantOk := t.coolantOk, coolantSince := t.coolantSince, coolantTaken := t.coolantTaken,
            setpoint := t.setpoint : Thermal })
        (10 * second)).mbox.running =
  none) ∧
    ((hot
        (fun t =>
          { state := TState.hold, band := Band.cold, refrate := t.refrate, tset := t.tset, clklow := t.clklow, cmdhold := t.cmdhold,
            pause := t.pause, fcause := t.fcause, tj := t.tj, tjSensor := t.tjSensor, grad := t.grad, mean := t.mean, slope := t.slope,
            sens := t.sens, subs := t.subs, evt := t.evt, faults := t.faults, holds := t.holds, cycles := t.cycles, dramce := t.dramce,
            sramce := t.sramce, ue := t.ue, lastTj := t.lastTj, sampledAt := t.sampledAt, ratedAt := t.ratedAt, bandSince := t.bandSince,
            coldSince := t.coldSince, switchAt := t.switchAt, applyAt := t.applyAt, means := t.means, rateOk := t.rateOk,
            gradPause := t.gradPause, coolantOk := t.coolantOk, coolantSince := t.coolantSince, coolantTaken := t.coolantTaken,
            setpoint := t.setpoint : Thermal })
        (10 * second)).thermal.cmdhold =
  false) ∧
    ((hot
        (fun t =>
          { state := TState.hold, band := Band.cold, refrate := t.refrate, tset := t.tset, clklow := t.clklow, cmdhold := t.cmdhold,
            pause := t.pause, fcause := t.fcause, tj := t.tj, tjSensor := t.tjSensor, grad := t.grad, mean := t.mean, slope := t.slope,
            sens := t.sens, subs := t.subs, evt := t.evt, faults := t.faults, holds := t.holds, cycles := t.cycles, dramce := t.dramce,
            sramce := t.sramce, ue := t.ue, lastTj := t.lastTj, sampledAt := t.sampledAt, ratedAt := t.ratedAt, bandSince := t.bandSince,
            coldSince := t.coldSince, switchAt := t.switchAt, applyAt := t.applyAt, means := t.means, rateOk := t.rateOk,
            gradPause := t.gradPause, coolantOk := t.coolantOk, coolantSince := t.coolantSince, coolantTaken := t.coolantTaken,
            setpoint := t.setpoint : Thermal })
        (10 * second)).thermal.band =
  Band.cold) ∧
    ((hot
        (fun t =>
          { state := TState.hold, band := Band.cold, refrate := t.refrate, tset := t.tset, clklow := t.clklow, cmdhold := t.cmdhold,
            pause := t.pause, fcause := t.fcause, tj := t.tj, tjSensor := t.tjSensor, grad := t.grad, mean := t.mean, slope := t.slope,
            sens := t.sens, subs := t.subs, evt := t.evt, faults := t.faults, holds := t.holds, cycles := t.cycles, dramce := t.dramce,
            sramce := t.sramce, ue := t.ue, lastTj := t.lastTj, sampledAt := t.sampledAt, ratedAt := t.ratedAt, bandSince := t.bandSince,
            coldSince := t.coldSince, switchAt := t.switchAt, applyAt := t.applyAt, means := t.means, rateOk := t.rateOk,
            gradPause := t.gradPause, coolantOk := t.coolantOk, coolantSince := t.coolantSince, coolantTaken := t.coolantTaken,
            setpoint := t.setpoint : Thermal })
        (10 * second)).sess.state ≠
  SessState.suspended) ∧
    ((hot
        (fun t =>
          { state := TState.hold, band := Band.cold, refrate := t.refrate, tset := t.tset, clklow := t.clklow, cmdhold := t.cmdhold,
            pause := t.pause, fcause := t.fcause, tj := t.tj, tjSensor := t.tjSensor, grad := t.grad, mean := t.mean, slope := t.slope,
            sens := t.sens, subs := t.subs, evt := t.evt, faults := t.faults, holds := t.holds, cycles := t.cycles, dramce := t.dramce,
            sramce := t.sramce, ue := t.ue, lastTj := t.lastTj, sampledAt := t.sampledAt, ratedAt := t.ratedAt, bandSince := t.bandSince,
            coldSince := t.coldSince, switchAt := t.switchAt, applyAt := t.applyAt, means := t.means, rateOk := t.rateOk,
            gradPause := t.gradPause, coolantOk := t.coolantOk, coolantSince := t.coolantSince, coolantTaken := t.coolantTaken,
            setpoint := t.setpoint : Thermal })
        (10 * second)).thermal.coolantOk =
  true) ∧
    ((hot
          (fun t =>
            { state := TState.hold, band := Band.cold, refrate := t.refrate, tset := t.tset, clklow := t.clklow, cmdhold := t.cmdhold,
              pause := t.pause, fcause := t.fcause, tj := t.tj, tjSensor := t.tjSensor, grad := t.grad, mean := t.mean, slope := t.slope,
              sens := t.sens, subs := t.subs, evt := t.evt, faults := t.faults, holds := t.holds, cycles := t.cycles, dramce := t.dramce,
              sramce := t.sramce, ue := t.ue, lastTj := t.lastTj, sampledAt := t.sampledAt, ratedAt := t.ratedAt, bandSince := t.bandSince,
              coldSince := t.coldSince, switchAt := t.switchAt, applyAt := t.applyAt, means := t.means, rateOk := t.rateOk,
              gradPause := t.gradPause, coolantOk := t.coolantOk, coolantSince := t.coolantSince, coolantTaken := t.coolantTaken,
              setpoint := t.setpoint : Thermal })
          (10 * second)).thermal.coolantSince +
    10 * second ≤
  (hot
      (fun t =>
        { state := TState.hold, band := Band.cold, refrate := t.refrate, tset := t.tset, clklow := t.clklow, cmdhold := t.cmdhold,
          pause := t.pause, fcause := t.fcause, tj := t.tj, tjSensor := t.tjSensor, grad := t.grad, mean := t.mean, slope := t.slope,
          sens := t.sens, subs := t.subs, evt := t.evt, faults := t.faults, holds := t.holds, cycles := t.cycles, dramce := t.dramce,
          sramce := t.sramce, ue := t.ue, lastTj := t.lastTj, sampledAt := t.sampledAt, ratedAt := t.ratedAt, bandSince := t.bandSince,
          coldSince := t.coldSince, switchAt := t.switchAt, applyAt := t.applyAt, means := t.means, rateOk := t.rateOk,
          gradPause := t.gradPause, coolantOk := t.coolantOk, coolantSince := t.coolantSince, coolantTaken := t.coolantTaken,
          setpoint := t.setpoint : Thermal })
      (10 * second)).time) := ⟨rfl, rfl, rfl, rfl, rfl, by decide, rfl, by decide⟩
theorem witness_dram :
    busyChannel.thermal.state = TState.run ∧
    0 < numChannels ∧
    (busyChannel.dramChan 0).actedAt ≠ some busyChannel.time ∧
    32 * 0 < holeBase ∧
    channelOf (32 * 0) = 0 ∧
    ¬0 ∈ busyChannel.poison ∧
    (busyChannel.dramChan 0).queue = [] ++ [{ sector := 0, write := false : DramReq }] ∧
    (∀ (r : DramReq), r ∈ [] → bankOf (32 * r.sector) ≠ bankOf (32 * 0)) ∧
    (busyChannel.dramChan 0).postponed ≠ 8 ∧
    busyChannel.urgentChannel 0 = false := ⟨rfl, by decide, by decide, by decide, by decide, by decide, by decide +kernel, by decide, by decide, by decide +kernel⟩
theorem witness_scrub_bad :
    running.thermal.state = TState.run ∧
    0 < numChannels ∧
    (running.dramChan 0).actedAt ≠ some running.time ∧
    32 * 0 < holeBase ∧
    channelOf (32 * 0) = 0 ∧
    ¬0 ∈ running.poison ∧
    running.thermal.band ≠ Band.warm ∧
    (running.dramChan 0).queue = [] ∧
    (running.dramChan 0).postponed ≠ 8 ∧
    running.urgentChannel 0 = false := ⟨rfl, by decide, by decide, by decide, by decide, by decide, by decide, rfl, by decide, by decide +kernel⟩
theorem witness_refresh :
    owing.thermal.state = TState.run ∧
    0 < numChannels ∧
    (owing.dramChan 0).actedAt ≠ some owing.time ∧
    (owing.dramChan 0).selfRefresh = false ∧
    (owing.dramChan 0).queue = [] ∧
    owing.urgentChannel 0 = false ∧
    (owing.dramChan 0).postponed ≠ 0 := ⟨rfl, by decide, by decide, rfl, rfl, by decide +kernel, by decide⟩
theorem witness_refresh_postponed :
    busyChannel.thermal.state = TState.run ∧
    0 < numChannels ∧
    (busyChannel.dramChan 0).actedAt ≠ some busyChannel.time ∧
    (busyChannel.dramChan 0).selfRefresh = false ∧
    (busyChannel.dramChan 0).refrate ≠ 0#3 ∧
    (busyChannel.dramChan 0).queue ≠ [] ∧
    (busyChannel.dramChan 0).postponed < 8 := ⟨rfl, by decide, by decide, rfl, by decide, by decide +kernel, by decide⟩
theorem witness_power_down :
    running.thermal.state = TState.run ∧
    0 < numChannels ∧
    (running.dramChan 0).actedAt ≠ some running.time ∧
    running.thermal.band = Band.cold ∧
    (running.dramChan 0).queue = [] ∧
    (running.dramChan 0).lastReq + 64 < running.time ∧
    (running.dramChan 0).postponed = 0 ∧
    running.urgentChannel 0 = false := ⟨rfl, by decide, by decide, rfl, rfl, by decide, rfl, by decide +kernel⟩
theorem witness_self_refresh :
    running.thermal.state = TState.run ∧
    0 < numChannels ∧
    (running.dramChan 0).actedAt ≠ some running.time ∧
    (dry TState.hold 1025).thermal.state = TState.hold ∧
    ((dry TState.hold 1025).dramChan 0).actedAt ≠ some (dry TState.hold 1025).time ∧
    ((dry TState.hold 1025).dramChan 0).queue = [] ∧
    ((dry TState.hold 1025).dramChan 0).lastReq + 1024 < (dry TState.hold 1025).time ∧
    ((dry TState.hold 1025).dramChan 0).postponed = 0 ∧
    (dry TState.hold 1025).urgentChannel 0 = false := ⟨rfl, by decide, by decide, rfl, by decide, rfl, by decide, rfl, by decide +kernel⟩
theorem witness_handle_read :
    running.powered = true ∧
    0 < 4 ∧
    running.poisonIn
    (running.layoutReads 0 17 { x0 := 0, x1 := 0, x2 := 0, x3 := 0 : Quad4 } { x0 := 1, x1 := 1, x2 := 16, x3 := 16 : Quad4 }) =
  none ∧
    tile17 =
  { r := recOf (running.layoutBytes 0 17 { x0 := 0, x1 := 0, x2 := 0, x3 := 0 : Quad4 } { x0 := 1, x1 := 1, x2 := 16, x3 := 16 : Quad4 }),
    coord := { x0 := 0, x1 := 0, x2 := 0, x3 := 0 : Quad4 }, shape := { x0 := 1, x1 := 1, x2 := 16, x3 := 16 : Quad4 } : Tile4 } ∧
    tile17.r.valid = true ∧
    tile17.count ≠ 0 ∧
    tile17.count * tile17.r.imageWidth ≤ 524288 ∧
    running.readImage { die := 0, core := 0, cluster := 72 * 0, sup := true : Agent } tile17 0 tile17.bytes = Except.ok image17 := by
  refine ⟨?_, by decide, ?_, rfl, ?_, ?_, ?_, ok_of (by decide +kernel)⟩ <;> decide +kernel
theorem witness_hole :
    holeBase ≤ 32 * (holeBase / 32) ∧
    32 * (holeBase / 32) < hostBase := ⟨by decide, by decide⟩
theorem witness_apply_due :
    applying.thermal.applyAt = some 205 ∧
    205 ≤ applying.time := ⟨rfl, by decide⟩
theorem witness_refresh_eight :
    late.thermal.state = TState.run ∧
    0 < numChannels ∧
    (late.dramChan 0).actedAt ≠ some late.time ∧
    (late.dramChan 0).selfRefresh = false ∧
    ((if (late.dramChan 0).queue = [] then late.thermal.refrate else (late.dramChan 0).refrate) ≠ 0#3) ∧
    (late.dramChan 0).postponed = 8 := ⟨rfl, by decide, by decide, rfl, by decide +kernel, by decide +kernel⟩
theorem witness_refresh_off :
    v07a.thermal.state = TState.run ∧
    0 < numChannels ∧
    (v07a.dramChan 0).actedAt ≠ some v07a.time ∧
    (v07a.dramChan 0).selfRefresh = false ∧
    (v07a.dramChan 0).queue = [] ∧
    v07a.thermal.refrate = 0#3 := ⟨rfl, by decide, by decide, rfl, rfl, by decide +kernel⟩

/-! ### Witnesses: memory in the background, gauges, records and leases -/

/-- A write of die 1, before and after it has its place. -/
def write1 : GWrite := ⟨5, 1, { d1 := 1 }, 0x1000, [1#8, 2#8], none, [1], []⟩
def write2 : GWrite := { write1 with place := some 0 }
/-- A machine with one write. -/
def writing (w : GWrite) : State := { st cx with writes := [w], nextWrite := 6 }
/-- A load of a doubleword of the scratchpad into a5, and an atomic on a word of global memory. -/
def elem1 : Elem := ⟨0, .spad 0 8, 8, 0#64, 0#8, none, none⟩
def load1 : Access := { ctx := 0, token := 1, kind := .load, elems := [elem1], dest := .scalar 0 5 none, after := [], spaces := [] }
def elem2 : Elem := ⟨0, .global 0x2000, 4, 3#64, 0#8, none, none⟩
def atomic1 : Access := { load1 with kind := .atomic .add 0#64, elems := [elem2] }
/-- A machine with a pending access, and a write on its way to the host. -/
def pending (a : Access) : State :=
  { st cx with accesses := [(7, some a)], nextAccess := 8, hostReqs := [⟨9, 0, 0x020000000100, [1#8, 2#8]⟩], nextId := 10 }
/-- A machine with page tables: one page of 1 GiB at 0. -/
def mapped : State :=
  let s := { State.reset with sess := { State.reset.sess with state := .loaded } }
  (s.writeEverywhere pageTables (toBytes 8 (pageTables + 4097))).writeEverywhere (pageTables + 4096) [0xF#8]
/-- A context that waits for a time, and an active lease with a deadline. -/
def waiter : Ctx := { cx with run := .waiting (.time 5) }
def waiting : State :=
  { st waiter with time := 6, nextAge := 4, leases := [(3, { state := .active, len := 2#32, ldead := 6#64, pages := [(16, 2)] })] }
/-- A machine with a gauge update, seal and rescale requests and a record on its way. -/
def gauging : State :=
  { State.reset with
    gaugeQ := [⟨1, 5, { mx := 0x3F800000, nf := 1 }, none⟩]
    seals := [⟨3, 5, false, none, [], 0, {}⟩, ⟨4, 5, true, none, [], 0, {}⟩]
    recReqs := [⟨8, 17, tensorBytes, [0], [], (0, 1, 5)⟩]
    nextId := 9 }
/-! Variants of the values above that the witnesses name: a record with one replica left, and a context that waits for its last write. -/
def v08r : RecReq := ⟨8, 17, tensorBytes, [0, 1, 3], [], (0, 1, 5)⟩
def v08a : State := { gauging with recReqs := [v08r] }
def v08w : WriteWait := { ids := [5], reply := some (0, 1, 5, 0#64) }
def v08x : Ctx := { cx with results := [{ id := 0, dests := [.e 5] }], resultNo := 1, k := [(1, { count := 1 })] }
def v08b : State := { writing write1 with ctxs := [(0, some v08x)], writeWaits := [v08w] }
def v08c : State := { v08b with writes := [] }

theorem witness_placement :
    (List.find? (fun v => v.id == write1.id) (writing write1).writes = some write1) ∧
    write1.place = none ∧
    (∀ (v : GWrite), v ∈ (writing write1).writes → v.die = write1.die → v.id < write1.id → v.place ≠ none ∨ v.overlaps write1 = false) := ⟨by decide +kernel, rfl, by decide⟩
theorem witness_apply :
    (List.find? (fun v => v.id == write2.id) (writing write2).writes = some write2) ∧
    2 < 4 ∧
    write2.applicable 2 ((writing write2).die 2).vc = true ∧
    (writing write2).writeWaits = [] ∧
    (writing write2).oxEast.queue = [] ∧
    (writing write2).oxWest.queue = [] := ⟨by decide +kernel, by decide, by decide, rfl, rfl, rfl⟩
theorem witness_load :
    SMap.get none (pending load1).accesses 7 = some load1 ∧
    (pending load1).depsDone load1 = true ∧
    load1.elems = [elem1] ∧
    elem1.got = none ∧
    (pending load1).poisonOf load1 = none ∧
    load1.kind = AccessKind.load ∧
    load1.form = LoadForm.plain ∧
    load1.dest = LoadDest.scalar 0 5 none ∧
    (pending load1).destHeld 7 load1 = false ∧
    elem1.loc = Loc.spad 0 8 ∧
    (pending load1).ctx load1.ctx = some cx := ⟨rfl, rfl, rfl, rfl, rfl, rfl, rfl, rfl, rfl, rfl, rfl⟩
theorem witness_atomic :
    SMap.get none (pending atomic1).accesses 7 = some atomic1 ∧
    (pending atomic1).depsDone atomic1 = true ∧
    atomic1.elems = [elem2] ∧
    elem2.got = none ∧
    (pending atomic1).poisonOf atomic1 = none ∧
    atomic1.kind = AccessKind.atomic AtomKind.add 0#64 ∧
    elem2.loc = Loc.global 8192 ∧
    isHost 8192 = false ∧
    (∀ (v : GWrite), v ∈ (pending atomic1).writes → v.id < (pending atomic1).nextWrite) ∧
    (∀ (v : GWrite), v ∈ (pending atomic1).writes → v.die = ctxDie atomic1.ctx → v.place ≠ none) ∧
    0#64 = BitVec.ofNat 64 (leNat ((pending atomic1).home.read 8192 elem2.size)) := ⟨rfl, rfl, rfl, rfl, rfl, rfl, rfl, rfl, by decide, by decide, rfl⟩
theorem witness_host_write :
    SMap.get none (pending load1).accesses 7 = some load1 ∧
    (pending load1).depsDone load1 = true ∧
    load1.elems = [elem1] ∧
    elem1.got = none ∧
    (pending load1).poisonOf load1 = none ∧
    (pending load1).hostReqs = [{ id := 9, die := 0, addr := 2199023255808, data := [1#8, 2#8] : HostReq }] ∧
    ((pending load1).port hostPort).up = true := ⟨rfl, rfl, rfl, rfl, rfl, rfl, rfl⟩
theorem witness_walk :
    0 < 288 ∧
    (∀ (g : TlbEntry), g ∈ (mapped.cluster 0).tlb → g.holds (1 * 65536) = false) ∧
    (∀ (g : TlbEntry), g ∈ (mapped.die (clusterDie 0)).tlb → g.holds (1 * 65536) = false) ∧
    mapped.walk (clusterDie 0) (1 * 65536) =
  Walk.entry { va := 0, size := 1073741824, pa := 0, r := true, w := true, x := false, sup := false : TlbEntry } := ⟨by decide, by decide +kernel, by decide +kernel, by decide +kernel⟩
theorem witness_twait_expiry :
    waiting.ctx 0 = some waiter ∧
    waiter.run = RunState.waiting (WaitWhy.time 5) ∧
    waiting.timeReached 5 = true := ⟨rfl, rfl, by decide⟩
theorem witness_lease_expiry :
    { state := LeaseState.active, len := 2#32, ldead := 6#64, pages := [(16, 2)] : Lease } = SMap.get { : Lease } waiting.leases 3 ∧
    { state := LeaseState.active, len := 2#32, ldead := 6#64, pages := [(16, 2)] : Lease }.state = LeaseState.active ∧
    { state := LeaseState.active, len := 2#32, ldead := 6#64, pages := [(16, 2)] : Lease }.ldead ≠ 0#64 ∧
    waiting.timeReached (BitVec.toNat { state := LeaseState.active, len := 2#32, ldead := 6#64, pages := [(16, 2)] : Lease }.ldead) = true := ⟨rfl, rfl, by decide, by decide⟩
theorem witness_gauge_update :
    (∀ (w : GWrite), w ∈ gauging.writes → w.id < gauging.nextWrite) ∧
    gauging.gaugeQ[0]? = some { die := 1, g := 5, c := { mx := 1065353216, nf := 1 : Contribution } : GaugeUpd } ∧
    gauging.poisonIn
    (sectorReads { die := 1, g := 5, c := { mx := 1065353216, nf := 1 : Contribution } : GaugeUpd }.die
      { die := 1, g := 5, c := { mx := 1065353216, nf := 1 : Contribution } : GaugeUpd }.g) =
  none := ⟨by decide +kernel, rfl, by decide +kernel⟩
theorem witness_seal :
    (∀ (w : GWrite), w ∈ gauging.writes → w.id < gauging.nextWrite) ∧
    (List.find? (fun q => q.id == { id := 3, g := 5, rescale := false, reply := none, steps := [], die := 0 : SealReq }.id) gauging.seals =
  some { id := 3, g := 5, rescale := false, reply := none, steps := [], die := 0 : SealReq }) ∧
    { id := 3, g := 5, rescale := false, reply := none, steps := [], die := 0 : SealReq }.g < 65536 ∧
    (gauging.die 0).vc.covers { id := 3, g := 5, rescale := false, reply := none, steps := [], die := 0 : SealReq }.clock = true ∧
    gauging.poisonIn (shardReads { id := 3, g := 5, rescale := false, reply := none, steps := [], die := 0 : SealReq }.g 0 200) = none ∧
    Instr.gaugeSeal 3 = Instr.gaugeSeal { id := 3, g := 5, rescale := false, reply := none, steps := [], die := 0 : SealReq }.id ∧
    { id := 3, g := 5, rescale := false, reply := none, steps := [], die := 0 : SealReq }.rescale = false ∧
    gauging.writeWaits = [] := ⟨by decide +kernel, rfl, by decide, by decide +kernel, by decide +kernel, rfl, rfl, rfl⟩
theorem witness_rescale :
    (∀ (w : GWrite), w ∈ gauging.writes → w.id < gauging.nextWrite) ∧
    (List.find? (fun q => q.id == { id := 4, g := 5, rescale := true, reply := none, steps := [], die := 0 : SealReq }.id) gauging.seals =
  some { id := 4, g := 5, rescale := true, reply := none, steps := [], die := 0 : SealReq }) ∧
    { id := 4, g := 5, rescale := true, reply := none, steps := [], die := 0 : SealReq }.g < 65536 ∧
    (gauging.die 0).vc.covers { id := 4, g := 5, rescale := true, reply := none, steps := [], die := 0 : SealReq }.clock = true ∧
    gauging.poisonIn (shardReads { id := 4, g := 5, rescale := true, reply := none, steps := [], die := 0 : SealReq }.g 0 200) = none ∧
    Instr.gaugeRescale 4 = Instr.gaugeRescale { id := 4, g := 5, rescale := true, reply := none, steps := [], die := 0 : SealReq }.id ∧
    { id := 4, g := 5, rescale := true, reply := none, steps := [], die := 0 : SealReq }.rescale = true ∧
    gauging.writeWaits = [] := ⟨by decide +kernel, rfl, by decide, by decide +kernel, by decide +kernel, rfl, rfl, rfl⟩
theorem witness_record_replica :
    (∀ (w : GWrite), w ∈ gauging.writes → w.id < gauging.nextWrite) ∧
    (List.find? (fun q => q.id == { id := 8, handle := 17, image := tensorBytes, done := [0], reply := (0, 1, 5) : RecReq }.id) gauging.recReqs =
  some { id := 8, handle := 17, image := tensorBytes, done := [0], reply := (0, 1, 5) : RecReq }) ∧
    2 < 4 ∧
    ¬2 ∈ { id := 8, handle := 17, image := tensorBytes, done := [0], reply := (0, 1, 5) : RecReq }.done := ⟨by decide +kernel, rfl, by decide, by decide⟩
theorem witness_record_last :
    (∀ (w : GWrite), w ∈ v08a.writes → w.id < v08a.nextWrite) ∧
    (List.find? (fun q => q.id == v08r.id) v08a.recReqs = some v08r) ∧
    2 < 4 ∧
    ¬2 ∈ v08r.done := ⟨by decide +kernel, rfl, by decide, by decide⟩
theorem witness_settle_waits :
    (∀ (w : GWrite), w ∈ v08b.writes → w.id < v08b.nextWrite) ∧
    v08b.writeWaits = [v08w] ∧
    v08w.reply = some (0, 1, 5, 0#64) ∧
    v08w.steps = [] ∧
    v08b.ctx 0 = some v08x ∧
    5 % 64 < 32 ∧
    v08x.AwaitsOnly 5 [Dest.e (5 % 64)] ∧
    v08w.ids.all v08b.reached = false := ⟨by decide +kernel, rfl, rfl, rfl, rfl, by decide, rfl, by decide +kernel⟩
theorem witness_settle :
    (∀ (w : GWrite), w ∈ v08c.writes → w.id < v08c.nextWrite) ∧
    v08c.writeWaits = [v08w] ∧
    v08w.reply = some (0, 1, 5, 0#64) ∧
    v08w.steps = [] ∧
    v08c.ctx 0 = some v08x ∧
    5 % 64 < 32 ∧
    v08x.AwaitsOnly 5 [Dest.e (5 % 64)] ∧
    v08w.ids.all v08c.reached = true := ⟨by decide +kernel, rfl, rfl, rfl, rfl, by decide, rfl, by decide +kernel⟩

theorem calm_lx : lx.Calm := ⟨fun _ h => (List.not_mem_nil h).elim, fun _ => rfl, rfl, rfl, rfl, rfl⟩
/-- The load-store context with page tables, and an address of global memory in d6. -/
def gx : Ctx := { lx with d := cx.d ++ [(6, 0x2000#64)] }
def loadsG : State := { mapped with ctxs := [(0, some gx)] }
theorem issues_loadsG : loadsG.Issues gx := issues_of _ _ rfl rfl rfl rfl rfl ⟨rfl, rfl, rfl, rfl⟩ rfl
theorem calm_gx : gx.Calm := ⟨fun _ h => (List.not_mem_nil h).elim, fun _ => rfl, rfl, rfl, rfl, rfl⟩

theorem witness_store_frame :
    loads.Issues lx ∧
    lx.Calm ∧
    lx.Guarded (lgen 1 63 1 1 8191 3).g ∧
    loads.pending loads.cur = [] ∧
    loads.barWaits = [] ∧
    (lgen 1 63 1 1 8191 3).size.toNat < 4 ∧
    8 = 2 ^ (lgen 1 63 1 1 8191 3).size.toNat ∧
    9223372036854776064#64 = lx.dReg (lgen 1 63 1 1 8191 3).base.toNat ∧
    ({ lane := 0, addr := 9223372036854776064#64, size := 8 : Req } =
  { lane := 0,
    addr :=
      if (lgen 1 63 1 1 8191 3).ps = 1#1 then 9223372036854776064#64
      else 9223372036854776064#64 + BitVec.ofInt 64 ((lgen 1 63 1 1 8191 3).off.toInt * ↑8),
    size := 8 : Req }) ∧
    NoBad ((loads.envAlone lx (Instr.st (lgen 1 63 1 1 8191 3))).fileChecks true false (lgen 1 63 1 1 8191 3).file (lgen 1 63 1 1 8191 3).reg) ∧
    (loads.envAlone lx (Instr.st (lgen 1 63 1 1 8191 3))).resolve { perm := Perm.write, mmio := true : Ask }
    { lane := 0, addr := 9223372036854776064#64, size := 8 : Req } =
  Except.ok (Loc.spad 0 256) ∧
    (∃ k off, Loc.spad 0 256 = Loc.spad k off) := ⟨issues_loads, calm_lx, rfl, rfl, rfl, by decide, rfl, rfl, rfl, rfl, loc_of (by decide +kernel), Exists.intro 0 (Exists.intro 256 rfl)⟩
theorem witness_store_frame_global :
    loadsG.Issues gx ∧
    gx.Calm ∧
    gx.Guarded (lgen 0 1 6 1 8 2).g ∧
    loadsG.pending loadsG.cur = [] ∧
    loadsG.barWaits = [] ∧
    (lgen 0 1 6 1 8 2).size.toNat < 4 ∧
    4 = 2 ^ (lgen 0 1 6 1 8 2).size.toNat ∧
    8192#64 = gx.dReg (lgen 0 1 6 1 8 2).base.toNat ∧
    ({ lane := 0, addr := 8192#64, size := 4 : Req } =
  { lane := 0, addr := if (lgen 0 1 6 1 8 2).ps = 1#1 then 8192#64 else 8192#64 + BitVec.ofInt 64 ((lgen 0 1 6 1 8 2).off.toInt * ↑4),
    size := 4 : Req }) ∧
    NoBad ((loadsG.envAlone gx (Instr.st (lgen 0 1 6 1 8 2))).fileChecks true false (lgen 0 1 6 1 8 2).file (lgen 0 1 6 1 8 2).reg) ∧
    (loadsG.envAlone gx (Instr.st (lgen 0 1 6 1 8 2))).resolve { perm := Perm.write, mmio := true : Ask }
    { lane := 0, addr := 8192#64, size := 4 : Req } =
  Except.ok (Loc.global 8192) ∧
    (∃ pa, Loc.global 8192 = Loc.global pa) := ⟨issues_loadsG, calm_gx, rfl, rfl, rfl, by decide, rfl, rfl, rfl, rfl, loc_of (by decide +kernel), Exists.intro 8192 rfl⟩

/-! ### Witnesses: links -/

/-- A port that is down, with a header waiting. -/
def header1 : FlitHeader := ⟨0#64, 5#32, 6#32, 7#16, 1#12, 1#4, 0#3, 1#4⟩
def downPort (p : Nat) : State := { State.reset with ports := [(p, { up := false, queue := [.header 3 header1] })], chans := [(4, { state := .recv, nparc := 2#8 })] }
/-- A follower or a master at a time. -/
def clocked (role : BitVec 2) (b : Bool) : State := { State.reset with time := 2048, tbctl := { role := role, upport := 2#3, stepped := b } }
/-- A module whose channel 3 has an end. -/
def channel (c : Chan) : State := { st ex3 with chans := [(3, c)] }
where ex3 : Ctx := { cx with e := [(1, 5#64)], k := [(1, { count := 1 })], results := [{ id := 0, dests := [.e 20, .e 21] }], resultNo := 1 }
/-- A parcel of one sector, before and after it has arrived. -/
def parcel1 : Parcel := { hdr := header1, slot := [0x4000] }
def parcel2 : Parcel := { parcel1 with got := 1 }
def recvChan (p : List Parcel) (sink : BitVec 2) : Chan :=
  { state := .recv, nparc := 2#8, sink := sink, stage := 1#3, parcels := p, recvs := [⟨0, 1, 20⟩] }
/-- A channel whose parcels go to the queue of backward steps of stage 1. -/
def sinking : State := (channel (recvChan [parcel2] 2#2)).modDie (chanDie 3) fun d => { d with stages := [(1, { enable := true })] }
/-- A send of one sector of the scratchpad at a launch time, at time 9. -/
def send1 (lt : Nat) : TimedSend := { seq := 7#16, ctx := 0, sup := true, token := 1, dest := 20, lt := lt, late := false, desc := [0x8000000000000800#64, 1#64, 6#64, 0#64], clock := {} }
def sending (lt : Nat) : State := { channel { state := .send, matched := true, nparc := 2#8, timed := [send1 lt] } with time := 9 }
/-- A collective that runs: all-reduce, or an all-gather with flags; and the machine around it, with a page of 1 GiB. -/
def coll1 : Coll := 
  { ctx := 0, sup := true, token := 1, dest := 20, op := 1, desc := [0x1000#64, 0x200000001#64, 0#64, 0#64], flagVal := 0#64, num := 0#16
    clock := {}, started := true }
def coll2 : Coll := 
  { coll1 with op := 2, desc := [0x1000#64, 0x200000001#64, 0#64, 0x8000#64], flagVal := 5#64, placed := [0] }
def coll3 : Coll := { coll1 with placed := [0, 1] }
def ox3 : Ctx := { channel.ex3 with results := [{ id := 0, dests := [.e 20] }] }
def ring (c : Coll) : State := { mapped with oxEast := { queue := [c] }, ctxs := [(0, some ox3)] }
/-- What the replica adds. -/
def mine1 : List Byte := ((ring coll1).linkNow.collRead coll1.agent (coll1.shardAddr 1) (coll1.shardLen / 32) []).1
def flagged2 : State := okOf State.reset ((ring coll2).engWrite coll2.agent (BitVec.ofNat 64 (coll2.flagBase + 8 * 0)) (toBytes 8 coll2.flagVal.toNat))

theorem witness_port_down :
    8 ≤ 8 ∧
    (State.reset.port 8).up = true := ⟨by decide, rfl⟩
theorem witness_port_up :
    0 ≤ 8 ∧
    ((downPort 0).port 0).up = false ∧
    (downPort 0).thermal.state ≠ TState.hold ∧
    ((downPort 0).port hostPort).up = true := ⟨by decide, rfl, by decide, rfl⟩
theorem witness_time_sent :
    (clocked (1#2) false).tbctl.role = 1#2 ∧
    (clocked (1#2) false).time % 1024 = 0 := ⟨rfl, by decide⟩
theorem witness_time_step :
    (clocked (2#2) false).tbctl.role = 2#2 ∧
    2 < 6 ∧
    (clocked (2#2) false).tbctl.upport.toNat = 2 ∧
    ((clocked (2#2) false).port 2).up = true := ⟨rfl, by decide, by decide, rfl⟩
theorem witness_channel_misconf :
    3 < 1536 ∧
    65 = bits (4259841#32) 23 16 ∧
    (State.reset.chan 3).state = ChState.idle ∧
    bits (4259841#32) 1 0 = 1 ∧
    64 < 65 := ⟨by decide, rfl, rfl, rfl, by decide⟩
theorem witness_channel_enable :
    3 < 1536 ∧
    64 = bits (4198401#32) 23 16 ∧
    (State.reset.chan 3).state = ChState.idle ∧
    bits (4198401#32) 1 0 = 1 ∧
    1 ≤ 64 ∧
    64 ≤ 64 ∧
    (State.reset.chan 3).peer = none := ⟨by decide, rfl, rfl, rfl, by decide, by decide, rfl⟩
theorem witness_channel_disable :
    3 < 1536 ∧
    ((sending 0).chan 3).state ≠ ChState.idle := ⟨by decide, by decide⟩
theorem witness_channel_config :
    3 < 1536 ∧
    ((channel { nparc := 2#8, psize := 1#4, state := ChState.send : Chan }).port (chanPort 3)).up = true ∧
    ((channel { nparc := 2#8, psize := 1#4, state := ChState.send : Chan }).chan 3).state = ChState.send ∧
    ((channel { nparc := 2#8, psize := 1#4, state := ChState.send : Chan }).chan 3).matched = false ∧
    ((channel { nparc := 2#8, psize := 1#4, state := ChState.send : Chan }).chan 3).waiters = [] := ⟨by decide, rfl, rfl, rfl, rfl⟩
theorem witness_header :
    3 < 1536 ∧
    ((channel { nparc := 2#8, state := ChState.recv : Chan }).port (chanPort 3)).up = true ∧
    1 = ((channel { nparc := 2#8, state := ChState.recv : Chan }).chan 3).psize.toNat + 1 ∧
    header1.kind = 1#4 ∧
    ((channel { nparc := 2#8, state := ChState.recv : Chan }).chan 3).state = ChState.recv := ⟨by decide, rfl, rfl, rfl, rfl⟩
theorem witness_header_error :
    3 < 1536 ∧
    ((sending 0).port (chanPort 3)).up = true ∧
    1 = ((sending 0).chan 3).psize.toNat + 1 ∧
    header1.kind = 1#4 ∧
    ((sending 0).chan 3).state ≠ ChState.recv := ⟨by decide, rfl, rfl, rfl, by decide⟩
theorem witness_data :
    3 < 1536 ∧
    ((channel (recvChan [parcel1] 0#2)).port (chanPort 3)).up = true ∧
    ((channel (recvChan [parcel1] 0#2)).chan 3).parcels = [parcel1] ∧
    (List.replicate 32 9#8).length = 32 ∧
    parcel1.got < parcel1.hdr.len.toNat ∧
    parcel1.dropped = false ∧
    parcel1.slot[parcel1.got / 128]? = some 16384 ∧
    16384 % 4096 = 0 ∧
    16384 + 4096 ≤ hostBase := ⟨by decide, rfl, rfl, rfl, by decide, rfl, rfl, by decide, by decide⟩
theorem witness_delivery :
    3 < 1536 ∧
    ((channel (recvChan [parcel2] 0#2)).port (chanPort 3)).up = true ∧
    ((channel (recvChan [parcel2] 0#2)).chan 3).parcels = [parcel2] ∧
    ((channel (recvChan [parcel2] 0#2)).chan 3).state = ChState.recv ∧
    parcel2.held = true ∧
    parcel2.delivered = false ∧
    ((channel (recvChan [parcel2] 0#2)).chan 3).sink = 0#2 ∧
    ((channel (recvChan [parcel2] 0#2)).chan 3).recvs = [{ ctx := 0, token := 1, ed := 20 : RecvWait }] ∧
    (channel (recvChan [parcel2] 0#2)).ctx { ctx := 0, token := 1, ed := 20 : RecvWait }.ctx = some channel.ex3 ∧
    channel.ex3.AwaitsOnly { ctx := 0, token := 1, ed := 20 : RecvWait }.ed
  [Dest.e ({ ctx := 0, token := 1, ed := 20 : RecvWait }.ed % 64), Dest.e ({ ctx := 0, token := 1, ed := 20 : RecvWait }.ed % 64 + 1)] ∧
    ((channel (recvChan [parcel2] 0#2)).die (ctxDie { ctx := 0, token := 1, ed := 20 : RecvWait }.ctx)).vc.covers parcel2.clock = true := ⟨by decide, rfl, rfl, rfl, rfl, rfl, rfl, rfl, rfl, rfl, by decide +kernel⟩
theorem witness_sink :
    3 < 1536 ∧
    (sinking.port (chanPort 3)).up = true ∧
    (sinking.chan 3).parcels = [parcel2] ∧
    (sinking.chan 3).state = ChState.recv ∧
    parcel2.held = true ∧
    parcel2.delivered = false ∧
    (sinking.chan 3).sink.toNat = 1 + 1 ∧
    1 < 2 ∧
    { enable := true : Stage } = sinking.stage (chanDie 3) (sinking.chan 3).stage.toNat ∧
    { enable := true : Stage }.enable = true ∧
    queueAccepts 1 parcel2.hdr.phase.toNat = true ∧
    ({ enable := true : Stage }.queue 1).length < 256 := ⟨by decide, rfl, rfl, rfl, rfl, rfl, rfl, by decide, rfl, rfl, rfl, by decide⟩
theorem witness_credit :
    3 < 1536 ∧
    ((sending 0).port (chanPort 3)).up = true ∧
    ((sending 0).chan 3).state = ChState.send ∧
    ((sending 0).chan 3).matched = true ∧
    ((sending 0).chan 3).waiters = [] := ⟨by decide, rfl, rfl, rfl, rfl⟩
theorem witness_send_waits :
    3 < 1536 ∧
    ((sending 10).port (chanPort 3)).up = true ∧
    ((sending 10).chan 3).timed = [send1 10] ∧
    (send1 10).suspended = false ∧
    (sending 10).timeReached (send1 10).lt = false := ⟨by decide, rfl, rfl, rfl, by decide +kernel⟩
theorem witness_send :
    3 < 1536 ∧
    ((sending 9).port (chanPort 3)).up = true ∧
    ((sending 9).chan 3).timed = [send1 9] ∧
    (send1 9).suspended = false ∧
    (sending 9).timeReached (send1 9).lt = true ∧
    (sending 9).gatedOff = false ∧
    ((sending 9).chan 3).state = ChState.send ∧
    ((sending 9).chan 3).matched = true ∧
    ((sending 9).die (chanDie 3)).vc.covers (send1 9).clock = true ∧
    (sendSrck (send1 9).desc = false →
  (sending 9).engWaits ((send1 9).agent 3) ((send1 9).desc.getD 0 0#64) (32 * sendLen (send1 9).desc) = false) ∧
    (sending 9).sendSectors 3 (send1 9) (sendLen (send1 9).desc - (send1 9).read.length) (send1 9).read = ([List.replicate 32 0#8], none) := by
  refine ⟨by decide, rfl, rfl, rfl, ?_, ?_, rfl, rfl, ?_, ?_, ?_⟩ <;> decide +kernel
theorem witness_abort :
    ((ring coll1).oxDir false).queue = [coll1] ∧
    ((ring coll1).oxDir false).absorb = false ∧
    coll1.started = true ∧
    ((ring coll1).port 6).up = true ∧
    ((ring coll1).port 7).up = true ∧
    coll1.full = false ∧
    (ring coll1).ctx coll1.ctx = some ox3 ∧
    ox3.AwaitsOnly coll1.dest [eDestOf coll1.dest] ∧
    (ring coll1).writeWaits = [] ∧
    (∀ (w : GWrite), w ∈ (ring coll1).writes → w.everywhere = true) := ⟨rfl, rfl, rfl, rfl, rfl, rfl, rfl, rfl, rfl, by decide +kernel⟩
theorem witness_partial_sum :
    ((ring coll1).oxDir false).queue = [coll1] ∧
    ((ring coll1).oxDir false).absorb = false ∧
    coll1.started = true ∧
    ((ring coll1).port 6).up = true ∧
    ((ring coll1).port 7).up = true ∧
    coll1.full = false ∧
    coll1.suspended = false ∧
    (List.replicate 256 1#8).length = coll1.shardLen ∧
    1 < coll1.p ∧
    1 ≠ coll1.pos ∧
    (ring coll1).linkNow.collRead coll1.agent (coll1.shardAddr 1) ((coll1.shardLen - coll1.mine.length) / 32) coll1.mine = (mine1, none) := ⟨rfl, rfl, rfl, rfl, rfl, rfl, rfl, by decide +kernel, by decide, by decide, by decide +kernel⟩
theorem witness_flag :
    ((ring coll2).oxDir false).queue = [coll2] ∧
    ((ring coll2).oxDir false).absorb = false ∧
    coll2.started = true ∧
    ((ring coll2).port 6).up = true ∧
    ((ring coll2).port 7).up = true ∧
    coll2.op = 2 ∧
    coll2.flagBase ≠ 0 ∧
    0 ∈ coll2.placed ∧
    ¬0 ∈ coll2.flagged ∧
    coll2.suspended = false ∧
    (ring coll2).engWrite coll2.agent (BitVec.ofNat 64 (coll2.flagBase + 8 * 0)) (toBytes 8 (BitVec.toNat coll2.flagVal)) = Except.ok flagged2 := ⟨rfl, rfl, rfl, rfl, rfl, rfl, by decide, by decide, by decide, rfl, ok_of (by decide +kernel)⟩
theorem witness_collective_end :
    ((ring coll3).oxDir false).queue = [coll3] ∧
    ((ring coll3).oxDir false).absorb = false ∧
    coll3.started = true ∧
    ((ring coll3).port 6).up = true ∧
    ((ring coll3).port 7).up = true ∧
    coll3.complete = true ∧
    coll3.donek = 0 ∧
    (ring coll3).gatedOff = false ∧
    ((ring coll3).die (ctxDie coll3.ctx)).vc.covers coll3.rel = true ∧
    (ring coll3).ctx coll3.ctx = some ox3 ∧
    ox3.AwaitsOnly coll3.dest [eDestOf coll3.dest] := ⟨rfl, rfl, rfl, rfl, rfl, rfl, rfl, by decide +kernel, by decide +kernel, rfl, rfl⟩

/-! ### Witnesses: the Weir and joins -/

/-- A machine in which stage 1 of die 0 is as given, with one page of 1 GiB that may be read and executed. -/
def staged (g : Stage) : State :=
  let s := { State.reset with sess := { State.reset.sess with state := .loaded, sections := [⟨1, 0#8, 0x10000, 0x10000, 0x10000⟩] } }
  let s := { s with ctxs := [(0, some ox3)] }
  let s := (s.writeEverywhere pageTables (toBytes 8 (pageTables + 4097))).writeEverywhere (pageTables + 4096) [0x1F#8]
  s.modDie 0 fun d => { d with stages := [(1, g)] }
/-- A stage that may be enabled, and one that is. -/
def stage1 : Stage := { clmask0 := 3#64, tmplbase := 0x20000#48, framebase := 0x3000#48 }
def stage2 : Stage := { stage1 with enable := true, tmplPa := 0x20000, framePa := 0x3000 }
/-- An entry of a queue, and its arrival. -/
def entry1 : QEntry := { tag := 9#32, phase := 0, chan := 0xFFFF#16, seq := 0#16, dep := 0#64, depCluster := 0, lt := 0#64 }
def arrival1 (q : Nat) : Arrival := ⟨4, 1, q, entry1, 0, 1, 20, {}, []⟩
def arriving (g : Stage) (q : Nat) : State := (staged g).modDie 0 fun d => { d with arrivals := [arrival1 q] }
/-- A post on a block of global memory that expects a number of posts. -/
def post1 : Post := { id := 5, block := .global 0x4000, die := 0, clock := {} }
def posting (n : Nat) : State := { (staged stage2).writeEverywhere 0x4000 (toBytes 4 n ++ toBytes 4 0 ++ [0#8, 1#8]) with posts := [post1], nextId := 9 }
/-- A successor that enqueues on stage 1. -/
def succ1 : Succ := ⟨6, .global 0x4000, 1, 0x900000080#64, 3#32, {}, false⟩
/-- A machine that runs, whose stage 1 has an F policy, an entry and a template. -/
def launching : State :=
  let s := staged { stage2 with fq := [entry1], policy := [(0, 0x800003FC00000000#64)], vslots := [(0, { state := .current })] }
  let s := { s with sess := { s.sess with state := .running }, thermal := { s.thermal with state := .run, band := .cold }, ctxs := [], time := 64 }
  let s := s.writeEverywhere startBitBase [1#8]
  s.writeEverywhere 0x20000 (words [0x10000, 0xC0580, 0x3FF0101000002, 0, 0, 0, 7, 0])
where words (l : List Nat) : List Byte := l.flatMap fun w => toBytes 8 w
/-- The same without a policy, with an entry that has a launch time. -/
def timed1 : State := launching.modDie 0 fun d => { d with stages := [(1, { stage2 with fq := [{ entry1 with lt := 64#64 }] })] }
/-- Where it is placed. -/
def places : List Placed := (launching.place 0 1 0 (launching.chain 0 1 1024 [] 0)).getD []
/-- Whether a policy entry launches with a given result. -/
def launchedAs (v : Verdict) (t : State) : Bool := match v with | .launched u => decide (u = t) | _ => false
theorem launched_of {v : Verdict} {t : State} (h : launchedAs v t = true) : v = .launched t := by
  cases v with
  | launched u => exact congrArg _ (of_decide_eq_true h)
  | next => cases h
  | stop => cases h
  | froze => cases h
/-- A captured gang of one member, and the machine around it. -/
def gang1 : Gang := 
  { id := 2, die := 0, step := none, klass := 1, members := [(3 * numSeqs, 0)], ntask := 1, joinwait := 0, win := 0#3, part := 0#64, savebase := 0#64
    cores := [0], captured := true, capturedAt := 7 }
def captured1 : State := { State.reset with gangs := [gang1], ctxs := [(3 * numSeqs, some { cx with run := .waiting .captured, gang := 2 })] }
/-- A step whose block is complete. -/
def step1 (seals : List Nat) : Step := { tag := 9#32, phase := 0, klass := 0, slot := 0, newslot := 0, gangs := [], jcb := 0x3000, seals := seals }
def retiring (seals : List Nat) : State := (staged { stage2 with frames := [(0, some (step1 seals))] }).writeEverywhere 0x3008 [1#8]
/-- Two sides of a join. -/
def join1 (partner : Nat) (h : Bool) (r : Option (List (List (Option W32)))) : Join :=
  ⟨1, partner, 3, h, 1, 51, [[some 0x3F800000#32, none]], false, r, false, 0x10000#48⟩
def joinCtx (member partner : Nat) (h : Bool) (r : Option (List (List (Option W32)))) : Ctx :=
  { cx with join := some (join1 partner h r), gang := 2, member := member, k := [(1, { count := 1 })] }
def joining (r : Option (List (List (Option W32)))) : State :=
  { State.reset with
    gangs := [{ gang1 with members := [(0, 0), (4, 1)], captured := false }]
    ctxs := [(0, some (joinCtx 0 1 false none)), (4, some (joinCtx 1 0 true r))], time := 50 }
def alone : State := { joining none with time := 51, ctxs := [(0, some (joinCtx 0 1 false none))] }
/-- A gang of a step whose one context has a load on its way. -/
def gang2 : Gang := { gang1 with step := some (1, 0), members := [(0, 0)], captured := false }
def capturing : State := { pending load1 with gangs := [gang2], ctxs := [(0, some { cx with gang := 2 })] }
/-! Variants of the values above that the witnesses name. -/
def v10a := { staged stage2 with succs := [succ1] }
def v10b := { entry1 with lt := 64#64 }
def v10c := { stage2 with bq := [], fq := [v10b] }
def v10e : State := { joining none with time := 51 }
def v10d := { cx with run := .waiting .captured, gang := 2 }

theorem witness_stage_enable :
    0 < 4 ∧
    1 < 8 ∧
    stage1 = (staged stage1).stage 0 1 ∧
    stage1.enable = false := ⟨by decide, by decide, rfl, rfl⟩
theorem witness_arrival :
    0 < 4 ∧
    1 < 8 ∧
    stage2 = (arriving stage2 0).stage 0 1 ∧
    ((arriving stage2 0).die 0).arrivals = [arrival1 0] ∧
    (arrival1 0).stage = 1 ∧
    (arrival1 0).after = [] ∧
    ((arriving stage2 0).die 0).vc.covers (arrival1 0).clock = true ∧
    (arriving stage2 0).ctx (arrival1 0).ctx = some ox3 ∧
    ox3.AwaitsOnly (arrival1 0).dest [Dest.e ((arrival1 0).dest % 64)] ∧
    (arrival1 0).dest % 64 < 32 ∧
    (arrival1 0).queue < 4 ∧
    (0 =
  if stage2.enable = false then 3
  else
    if queueAccepts (arrival1 0).queue (arrival1 0).entry.phase = false then 4
    else
      if (arrival1 0).queue = 3 ∧ (arrival1 0).entry.dep = 0#64 then 2 else if 256 ≤ (stage2.queue (arrival1 0).queue).length then 1 else 0) := ⟨by decide, by decide, rfl, rfl, rfl, rfl, by decide, rfl, rfl, by decide, by decide, by decide +kernel⟩
theorem witness_arrival_refused :
    0 < 4 ∧
    1 < 8 ∧
    stage2 = (arriving stage2 3).stage 0 1 ∧
    ((arriving stage2 3).die 0).arrivals = [arrival1 3] ∧
    (arrival1 3).stage = 1 ∧
    (arrival1 3).after = [] ∧
    ((arriving stage2 3).die 0).vc.covers (arrival1 3).clock = true ∧
    (arriving stage2 3).ctx (arrival1 3).ctx = some ox3 ∧
    ox3.AwaitsOnly (arrival1 3).dest [Dest.e ((arrival1 3).dest % 64)] ∧
    (arrival1 3).dest % 64 < 32 ∧
    (arrival1 3).queue < 4 ∧
    (4 =
  if stage2.enable = false then 3
  else
    if queueAccepts (arrival1 3).queue (arrival1 3).entry.phase = false then 4
    else
      if (arrival1 3).queue = 3 ∧ (arrival1 3).entry.dep = 0#64 then 2 else if 256 ≤ (stage2.queue (arrival1 3).queue).length then 1 else 0) := ⟨by decide, by decide, rfl, rfl, rfl, rfl, by decide, rfl, rfl, by decide, by decide, by decide +kernel⟩
theorem witness_post :
    (posting 2).sess.state ≠ SessState.running ∧
    (posting 2).posts = [post1] ∧
    post1.reply = none ∧
    post1.after = [] ∧
    post1.block = Loc.global 16384 ∧
    (posting 2).blockReady post1.die post1.block post1.clock = true ∧
    (posting 2).poisonIn (post1.block.runs 32) = none ∧
    (∀ (w : GWrite), w ∈ (posting 2).writes → w.id < (posting 2).nextWrite ∧ (w.die = post1.die → w.place ≠ none)) ∧
    (jcbOf ((posting 2).home.read 16384 32)).state = 0 ∧
    (jcbOf ((posting 2).home.read 16384 32)).done + 1 < (jcbOf ((posting 2).home.read 16384 32)).expected := by
  refine ⟨by decide, rfl, rfl, rfl, rfl, ?_, ?_, ?_, ?_, ?_⟩ <;> decide +kernel
theorem witness_post_completes :
    (posting 1).sess.state ≠ SessState.running ∧
    (posting 1).posts = [post1] ∧
    post1.reply = none ∧
    post1.after = [] ∧
    post1.block = Loc.global 16384 ∧
    (posting 1).blockReady post1.die post1.block post1.clock = true ∧
    (posting 1).poisonIn (post1.block.runs 32) = none ∧
    (∀ (w : GWrite), w ∈ (posting 1).writes → w.id < (posting 1).nextWrite ∧ (w.die = post1.die → w.place ≠ none)) ∧
    (jcbOf ((posting 1).home.read 16384 32)).state = 0 ∧
    (jcbOf ((posting 1).home.read 16384 32)).done + 1 = (jcbOf ((posting 1).home.read 16384 32)).expected ∧
    1 ≤ (jcbOf ((posting 1).home.read 16384 32)).suckind ∧
    (jcbOf ((posting 1).home.read 16384 32)).suckind ≤ 3 := by
  refine ⟨by decide, rfl, rfl, rfl, rfl, ?_, ?_, ?_, ?_, ?_, ?_, ?_⟩ <;> decide +kernel
theorem witness_successor :
    v10a.sess.state ≠ SessState.running ∧
    v10a.succs = [succ1] ∧
    succ1.kind = 1 ∧
    succ1.suspended = false ∧
    0 = bits succ1.arg 11 10 ∧
    1 = bits succ1.arg 9 7 ∧
    0 = bits succ1.arg 6 5 ∧
    stage2 = v10a.stage 0 1 ∧
    queueAccepts 0 (bits succ1.arg 3 0) = true ∧
    0 ≠ 3 ∧
    stage2.enable = true ∧
    (stage2.queue 0).length < 256 ∧
    (v10a.die 0).vc.covers succ1.clock = true := ⟨by decide, rfl, rfl, rfl, by decide +kernel, by decide +kernel, by decide +kernel, rfl, by decide +kernel, by decide, rfl, by decide, by decide⟩
theorem witness_timer :
    0 < 4 ∧
    1 < 8 ∧
    launching.thermal.state = TState.run ∧
    launching.sess.state = SessState.running ∧
    (launching.stage 0 1).enable = true ∧
    (launching.stage 0 1).lastEval + 64 ≤ launching.time := ⟨by decide, by decide, rfl, rfl, by decide +kernel, by decide +kernel⟩
theorem witness_launch_time :
    0 < 4 ∧
    1 < 8 ∧
    v10c = timed1.stage 0 1 ∧
    timed1.thermal.state = TState.run ∧
    timed1.sess.state = SessState.running ∧
    v10c.enable = true ∧
    v10b ∈ v10c.fq ∧
    v10b.lt ≠ 0#64 ∧
    timed1.timeReached (BitVec.toNat v10b.lt) = true := ⟨by decide, by decide, rfl, rfl, rfl, by decide +kernel, by decide +kernel, by decide +kernel, by decide +kernel⟩
theorem witness_launch :
    0 < 4 ∧
    1 < 8 ∧
    launching.thermal.state = TState.run ∧
    launching.sess.state = SessState.running ∧
    (launching.stage 0 1).enable = true ∧
    launching.gangs = [] ∧
    (launching.stage 0 1).fq = [entry1] ∧
    (launching.stage 0 1).bq = [] ∧
    (launching.stage 0 1).wq = [] ∧
    (launching.stage 0 1).uq = [] ∧
    (launching.stage 0 1).stalled = false ∧
    (launching.stage 0 1).horizon = [] ∧
    9223376417721417728#64 = SMap.get (0#64) (launching.stage 0 1).policy 0 ∧
    bits (9223376417721417728#64) 62 60 = 0 ∧
    (∀ (w : GWrite), w ∈ launching.writes → w.id < launching.nextWrite) ∧
    launching.chain 0 1 1024 [] 0 = launching.chain 0 1 1024 [] (bits (9223376417721417728#64) 29 20) ∧
    launching.tryPolicy 0 1 9223376417721417728#64 =
  Verdict.launched (launching.launch 0 1 (9223376417721417728#64) entry1 0 (launching.chain 0 1 1024 [] 0) 0 places) := by
  refine ⟨by decide, by decide, rfl, rfl, ?_, ?_, ?_, ?_, ?_, ?_, ?_, ?_, ?_, ?_, ?_, rfl, launched_of (by decide +kernel)⟩ <;> decide +kernel
theorem witness_resume :
    0 < 4 ∧
    1 < 8 ∧
    captured1.gang gang1.id = some gang1 ∧
    gang1.byHold = false ∧
    captured1.thermal.state ≠ TState.hold ∧
    gang1.members = [(3 * numSeqs, 0)] ∧
    3 * numSeqs / numSeqs = gang1.id + 1 ∧
    captured1.ctx (3 * numSeqs) = some v10d ∧
    v10d.run = RunState.waiting WaitWhy.captured ∧
    SMap.wf none captured1.ctxs = true ∧
    captured1.mayResume gang1 = true := ⟨by decide, by decide, rfl, rfl, by decide, rfl, by decide +kernel, rfl, rfl, by decide +kernel, by decide +kernel⟩
theorem witness_written :
    0 < 4 ∧
    1 < 8 ∧
    captured1.gang gang1.id = some gang1 ∧
    gang1.captured = true ∧
    gang1.written = false ∧
    captured1.draining gang1 = false ∧
    captured1.thermal.state ≠ TState.hold := ⟨by decide, by decide, rfl, rfl, rfl, by decide +kernel, by decide⟩
theorem witness_retire :
    0 < 4 ∧
    1 < 8 ∧
    SMap.get none ((retiring []).stage 0 1).frames 0 = some (step1 []) ∧
    (step1 []).faulted = false ∧
    (step1 []).retiring = false ∧
    (retiring []).poisonIn [((step1 []).jcb, 32)] = none ∧
    (jcbOf ((retiring []).readPhys 0 (step1 []).jcb 32)).state = 1 ∧
    (retiring []).sess.state ≠ SessState.running ∧
    (step1 []).seals = [] ∧
    (step1 []).phase = 0 := ⟨by decide, by decide, rfl, rfl, rfl, by decide +kernel, by decide +kernel, by decide, rfl, rfl⟩
theorem witness_retire_seals :
    0 < 4 ∧
    1 < 8 ∧
    SMap.get none ((retiring [5]).stage 0 1).frames 0 = some (step1 [5]) ∧
    (step1 [5]).faulted = false ∧
    (step1 [5]).retiring = false ∧
    (retiring [5]).poisonIn [((step1 [5]).jcb, 32)] = none ∧
    (jcbOf ((retiring [5]).readPhys 0 (step1 [5]).jcb 32)).state = 1 ∧
    (retiring [5]).sess.state ≠ SessState.running ∧
    (step1 [5]).seals = [5] ∧
    (retiring [5]).sealDeferred 0 1 0 5 = false ∧
    (retiring [5]).sealRequested (0, 1, 0) 5 = false := ⟨by decide, by decide, rfl, rfl, rfl, by decide +kernel, by decide +kernel, by decide, rfl, by decide +kernel, by decide +kernel⟩
theorem witness_join_half :
    (joining none).ctx 0 = some (joinCtx 0 1 false none) ∧
    (joinCtx 0 1 false none).join = some (join1 1 false none) ∧
    (join1 1 false none).received = none ∧
    (joining none).isCaptured (joinCtx 0 1 false none) = false ∧
    (joining none).time < (join1 1 false none).deadline ∧
    (joining none).joinPartner 0 = some 4 ∧
    4 ≠ 0 ∧
    (joining none).ctx 4 = some (joinCtx 1 0 true none) ∧
    (joinCtx 1 0 true none).join = some (join1 0 true none) ∧
    (join1 0 true none).received = none := ⟨rfl, rfl, rfl, by decide +kernel, by decide +kernel, by decide +kernel, by decide, rfl, rfl, rfl⟩
theorem witness_join_both :
    (joining (some [[some 1065353216#32, none]])).ctx 0 = some (joinCtx 0 1 false none) ∧
    (joinCtx 0 1 false none).join = some (join1 1 false none) ∧
    (join1 1 false none).received = none ∧
    (joining (some [[some 1065353216#32, none]])).isCaptured (joinCtx 0 1 false none) = false ∧
    (joining (some [[some 1065353216#32, none]])).time < (join1 1 false none).deadline ∧
    (joining (some [[some 1065353216#32, none]])).joinPartner 0 = some 4 ∧
    4 ≠ 0 ∧
    (joining (some [[some 1065353216#32, none]])).ctx 4 = some (joinCtx 1 0 true (some [[some 1065353216#32, none]])) ∧
    (joinCtx 1 0 true (some [[some 1065353216#32, none]])).join = some (join1 0 true (some [[some 1065353216#32, none]])) ∧
    (join1 0 true (some [[some 1065353216#32, none]])).received ≠ none := ⟨rfl, rfl, rfl, by decide +kernel, by decide +kernel, by decide +kernel, by decide, rfl, rfl, by decide +kernel⟩
theorem witness_join_timeout :
    alone.ctx 0 = some (joinCtx 0 1 false none) ∧
    (joinCtx 0 1 false none).join = some (join1 1 false none) ∧
    (join1 1 false none).received = none ∧
    alone.isCaptured (joinCtx 0 1 false none) = false ∧
    (join1 1 false none).deadline ≤ alone.time ∧
    alone.joinPartner 0 = none := ⟨rfl, rfl, rfl, by decide +kernel, by decide +kernel, by decide +kernel⟩
theorem witness_join_timeout_pair :
    v10e.ctx 0 = some (joinCtx 0 1 false none) ∧
    (joinCtx 0 1 false none).join = some (join1 1 false none) ∧
    (join1 1 false none).received = none ∧
    v10e.isCaptured (joinCtx 0 1 false none) = false ∧
    (join1 1 false none).deadline ≤ v10e.time ∧
    v10e.joinPartner 0 = some 4 ∧
    4 ≠ 0 ∧
    v10e.ctx 4 = some (joinCtx 1 0 true none) ∧
    (joinCtx 1 0 true none).join = some (join1 0 true none) := ⟨rfl, rfl, rfl, by decide +kernel, by decide +kernel, by decide +kernel, by decide, rfl, rfl⟩
theorem witness_capture :
    0 < 4 ∧
    1 < 8 ∧
    capturing.gang gang2.id = some gang2 ∧
    gang2.captured = false ∧
    gang2.step.isSome = true ∧
    gang2.die = 0 ∧
    capturing.draining gang2 = true := ⟨by decide, by decide, rfl, rfl, rfl, rfl, by decide +kernel⟩

/-! ### Witnesses: engines at work -/

/-- A job of die 0 and its card: COPY or FILL of one unit of 32 bytes in the scratchpad. -/
def fillCard : List W64 := [0x4000001F#64, 0x0A0B0C0D#64, 0x8000000000001000#64] ++ List.replicate 13 0#64
def copyCard (src : W64) : List W64 := [0x0000001F#64, src, 0x8000000000001000#64] ++ List.replicate 13 0#64
def job1 (c : List W64) : Job := 
  { serial := 7, place := 0, kind := .sluice c, ctx := 0, sup := true, token := some 1, tag := 0#32, regions := [], preds := [] }
/-- The same at work. -/
def run1 (c : List W64) : Job := { job1 c with state := .running }
/-- A machine with the job, whose context has a stream bound to it. -/
def busyCtx : Ctx := { channel.ex3 with f := [(3, { bound := some (.job 0 7), coming := [(5, Vec.zero)] })] }
def busy (j : Job) : State :=
  { (mapped.modDie 0 fun d => { d with jobs := [j] }) with ctxs := [(0, some busyCtx)] }
/-- What the unit writes. -/
def filled : State := okOf State.reset ((busy (run1 fillCard)).engWrite (Agent.ofCtx 0 true) 0x8000000000001000#64
  ((List.range 32).map fun i => (toBytes 4 0x0A0B0C0D).getD (i % 4) 0#8))
def copied : State := okOf State.reset ((busy (run1 (copyCard 0x8000000000002000#64))).engWrite (Agent.ofCtx 0 true) 0x8000000000001000#64
  (List.replicate 32 0#8))
/-- A Riffle operation, and a machine at work on it. -/
def rop (k : RKind) (trig : W64) : ROp :=
  { ctx := 0, sup := true, kind := k, ports := [(0, 0x8000000000002000#64), (1, 0x8000000000004000#64), (3, 0x01020304#64)], trig := trig, token := 1 }
def riffling (o : ROp) : State :=
  { (mapped.modCluster 0 fun c => { c with riffle := [(2, { queue := [o] })] }) with ctxs := [(0, some channel.ex3)] }
/-- The chunk of a FILL of 8 bytes, staged; and the operation after it. -/
def out8 : List (W64 × List Byte) := [(0x8000000000004000#64, [4#8, 3#8, 2#8, 1#8, 4#8, 3#8, 2#8, 1#8])]
def stagedOp : ROp := { rop .fill 8#64 with state := .running, staged := some out8 }
def doneOp : ROp := { rop .fill 8#64 with state := .running, pos := 1, result := 8 }
/-- What the write leaves. -/
def wrote : State × Nat × Option EngStop :=
  let r := (riffling stagedOp).writeStaged stagedOp.agent (out8.flatMap fun p => cutPiece p.1 p.2)
  (r.1, r.2.1, none)
/-- A stash in the near area and its job. -/
def entry2 (st : StashState) : Stash :=
  { key := 0x20000000, state := st, len := 1, src := 0x2000#64, rdest := 0x6000#64, ctx := 0, sup := true, near := some (0, 1), waiters := [(0, 1)] }
def job2 (k : JobKind) : Job := { job1 [] with kind := k, state := .running }
def stashing (k : JobKind) (st : StashState) (w : List (Nat × Nat)) : State :=
  { (mapped.modDie 0 fun d =>
      { d with jobs := [job2 k], eddy := { nbase := 0x8000#48, nlen := 8#32, stashes := [{ entry2 st with waiters := w }] } }) with
    ctxs := [(0, some channel.ex3)] }
/-- What a store copies. -/
def storeOf : Except EngStop (State × Nat) := (stashing (.store 0x20000000) .resident []).storeCopy 0 { entry2 .resident with waiters := [] }
def stored : State × Nat := okOf (State.reset, 0) storeOf
theorem stored_eq : storeOf = .ok stored := ok_of (by decide +kernel)
theorem stored_ok : storeOf = .ok (stored.1, stored.2) := stored_eq.trans (congrArg _ (Prod.eta _).symm)
/-- What the Riffle unit reads of a slot and of a block. -/
def slotOf : Except EngStop SlotRead := (riffling (rop .decode 1#64)).readSlot (rop .decode 1#64).agent 0x8000000000002000#64 1024
def plain1 : List Byte := match slotOf with | .ok (.plain bs) => bs | _ => []
def isPlain : Except EngStop SlotRead → Bool | .ok (.plain _) => true | _ => false
theorem plain_of {e : Except EngStop SlotRead} (h : isPlain e = true) : e = .ok (.plain (match e with | .ok (.plain bs) => bs | _ => [])) := by
  match e, h with
  | .ok (.plain _), _ => rfl
theorem plain1_ok : slotOf = .ok (.plain plain1) := plain_of (by decide +kernel)
def blockOf : Except EngStop (List Byte) := (riffling (rop .encode 1#64)).engRead (rop .encode 1#64).agent 0x8000000000002000#64 4096
def block1 : List Byte := okOf [] blockOf
theorem block1_ok : blockOf = .ok block1 := ok_of (by decide +kernel)
theorem wrote_ok : (riffling stagedOp).writeStaged stagedOp.agent (out8.flatMap fun p => cutPiece p.1 p.2) = (wrote.1, wrote.2.1, none) := by
  have h : ((riffling stagedOp).writeStaged stagedOp.agent (out8.flatMap fun p => cutPiece p.1 p.2)).2.2 = none := by decide +kernel
  exact Prod.ext rfl (Prod.ext rfl h)
/-! Variants of the values above that the witnesses name. -/
def v11a := { job1 fillCard with state := .running, pos := 1 }
def v11b := { rop .decode 1#64 with ports := [(0, 0x7F0000000000#64)] }
def v11c := { entry2 .resident with waiters := [] }
/-- The restore with all of its sectors there. -/
def restored1 : State := (stashing (.restore 0x20000000) .restoring [(0, 1)]).modDie 0 fun d =>
  { d with eddy := { d.eddy with stashes := [{ entry2 .restoring with done := 1 }] } }

theorem witness_job_start :
    (busy (job1 fillCard)).job 0 (job1 fillCard).serial = some (job1 fillCard) ∧
    (job1 fillCard).kind = JobKind.sluice fillCard ∧
    (busy (job1 fillCard)).gatedOff = false ∧
    (job1 fillCard).state = JState.waiting ∧
    (busy (job1 fillCard)).predsDone 0 (job1 fillCard) = true ∧
    (busy (job1 fillCard)).timeReached (cardLt fillCard) = true ∧
    cardInarray fillCard = false ∧
    (busy (job1 fillCard)).poisonIn ((busy (job1 fillCard)).jobReads 0 fillCard) = none := ⟨rfl, rfl, rfl, rfl, by decide +kernel, by decide +kernel, by decide +kernel, by decide +kernel⟩
theorem witness_job_done :
    (busy v11a).job 0 v11a.serial = some v11a ∧
    v11a.kind = JobKind.sluice fillCard ∧
    (busy v11a).gatedOff = false ∧
    v11a.state = JState.running ∧
    cardUnits fillCard ≤ v11a.pos ∧
    (busy v11a).streamReady 0 v11a fillCard = true ∧
    (∀ (l : Loc), v11a.barrier = some l → ((busy v11a).barWaits.any fun w => w.loc == l) = false) ∧
    v11a.token = some 1 ∧
    (busy v11a).ctx v11a.ctx = some busyCtx := ⟨rfl, rfl, rfl, rfl, by decide +kernel, by decide +kernel, (fun x h => nomatch h), rfl, rfl⟩
theorem witness_unit_fill :
    (busy (run1 fillCard)).job 0 (run1 fillCard).serial = some (run1 fillCard) ∧
    (run1 fillCard).kind = JobKind.sluice fillCard ∧
    (busy (run1 fillCard)).gatedOff = false ∧
    Agent.ofCtx 0 true = Agent.ofCtx (run1 fillCard).ctx (run1 fillCard).sup ∧
    0 = (run1 fillCard).pos ∧
    (run1 fillCard).state = JState.running ∧
    0 < cardUnits fillCard ∧
    (run1 fillCard).units = [] ∧
    cardDstk fillCard = 0 ∧
    cardCkmode fillCard = 0 ∧
    cardCodec fillCard = 0 ∧
    cardInarray fillCard = false ∧
    (run1 fillCard).barrier = none ∧
    (busy (run1 fillCard)).unitWaits (Agent.ofCtx 0 true) fillCard 0 = false ∧
    9223372036854779904#64 = cardWord fillCard 2 + BitVec.ofInt 64 (cardOffset fillCard true 0) ∧
    cardOp fillCard = 1 ∧
    (List.map (fun i => (toBytes 4 168496141).getD (i % 4) 0#8) (List.range 32) =
  List.map (fun i => (toBytes 4 (BitVec.toNat (cardWord fillCard 1))).getD (i % 4) 0#8) (List.range (cardUnit fillCard))) ∧
    ((busy (run1 fillCard)).engWrite (Agent.ofCtx 0 true) (9223372036854779904#64)
    (List.map (fun i => (toBytes 4 168496141).getD (i % 4) 0#8) (List.range 32)) =
  Except.ok filled) := by
  refine ⟨rfl, rfl, rfl, rfl, rfl, rfl, ?_, rfl, ?_, ?_, ?_, ?_, ?_, ?_, ?_, ?_, ?_, ok_of (by decide +kernel)⟩ <;> decide +kernel
theorem witness_unit_copy :
    (busy (run1 (copyCard 9223372036854784000#64))).job 0 (run1 (copyCard 9223372036854784000#64)).serial =
  some (run1 (copyCard 9223372036854784000#64)) ∧
    (run1 (copyCard 9223372036854784000#64)).kind = JobKind.sluice (copyCard 9223372036854784000#64) ∧
    (busy (run1 (copyCard 9223372036854784000#64))).gatedOff = false ∧
    Agent.ofCtx 0 true = Agent.ofCtx (run1 (copyCard 9223372036854784000#64)).ctx (run1 (copyCard 9223372036854784000#64)).sup ∧
    0 = (run1 (copyCard 9223372036854784000#64)).pos ∧
    (run1 (copyCard 9223372036854784000#64)).state = JState.running ∧
    0 < cardUnits (copyCard 9223372036854784000#64) ∧
    (run1 (copyCard 9223372036854784000#64)).units = [] ∧
    cardDstk (copyCard 9223372036854784000#64) = 0 ∧
    cardCkmode (copyCard 9223372036854784000#64) = 0 ∧
    cardCodec (copyCard 9223372036854784000#64) = 0 ∧
    cardInarray (copyCard 9223372036854784000#64) = false ∧
    (run1 (copyCard 9223372036854784000#64)).barrier = none ∧
    (busy (run1 (copyCard 9223372036854784000#64))).unitWaits (Agent.ofCtx 0 true) (copyCard 9223372036854784000#64) 0 = false ∧
    9223372036854784000#64 =
  cardWord (copyCard 9223372036854784000#64) 1 + BitVec.ofInt 64 (cardOffset (copyCard 9223372036854784000#64) false 0) ∧
    9223372036854779904#64 =
  cardWord (copyCard 9223372036854784000#64) 2 + BitVec.ofInt 64 (cardOffset (copyCard 9223372036854784000#64) true 0) ∧
    cardOp (copyCard 9223372036854784000#64) = 0 ∧
    cardSrck (copyCard 9223372036854784000#64) = 0 ∧
    (busy (run1 (copyCard 9223372036854784000#64))).engRead (Agent.ofCtx 0 true) (9223372036854784000#64)
    (cardUnit (copyCard 9223372036854784000#64)) =
  Except.ok (List.replicate 32 0#8) ∧
    (busy (run1 (copyCard 9223372036854784000#64))).engWrite (Agent.ofCtx 0 true) (9223372036854779904#64) (List.replicate 32 0#8) =
  Except.ok copied := by
  refine ⟨rfl, rfl, rfl, rfl, rfl, rfl, ?_, rfl, ?_, ?_, ?_, ?_, ?_, ?_, ?_, ?_, ?_, ?_, val_of (by decide +kernel), ok_of (by decide +kernel)⟩ <;> decide +kernel
theorem witness_unit_fault :
    (busy (run1 (copyCard 139637976727552#64))).job 0 (run1 (copyCard 139637976727552#64)).serial = some (run1 (copyCard 139637976727552#64)) ∧
    (run1 (copyCard 139637976727552#64)).kind = JobKind.sluice (copyCard 139637976727552#64) ∧
    (busy (run1 (copyCard 139637976727552#64))).gatedOff = false ∧
    Agent.ofCtx 0 true = Agent.ofCtx (run1 (copyCard 139637976727552#64)).ctx (run1 (copyCard 139637976727552#64)).sup ∧
    0 = (run1 (copyCard 139637976727552#64)).pos ∧
    (run1 (copyCard 139637976727552#64)).state = JState.running ∧
    0 < cardUnits (copyCard 139637976727552#64) ∧
    (run1 (copyCard 139637976727552#64)).units = [] ∧
    cardDstk (copyCard 139637976727552#64) = 0 ∧
    cardCkmode (copyCard 139637976727552#64) = 0 ∧
    cardCodec (copyCard 139637976727552#64) = 0 ∧
    cardInarray (copyCard 139637976727552#64) = false ∧
    (run1 (copyCard 139637976727552#64)).barrier = none ∧
    (busy (run1 (copyCard 139637976727552#64))).unitWaits (Agent.ofCtx 0 true) (copyCard 139637976727552#64) 0 = false ∧
    139637976727552#64 = cardWord (copyCard 139637976727552#64) 1 + BitVec.ofInt 64 (cardOffset (copyCard 139637976727552#64) false 0) ∧
    9223372036854779904#64 = cardWord (copyCard 139637976727552#64) 2 + BitVec.ofInt 64 (cardOffset (copyCard 139637976727552#64) true 0) ∧
    cardOp (copyCard 139637976727552#64) = 0 ∧
    cardSrck (copyCard 139637976727552#64) = 0 ∧
    (busy (run1 (copyCard 139637976727552#64))).engRead (Agent.ofCtx 0 true) (139637976727552#64) (cardUnit (copyCard 139637976727552#64)) =
  Except.error (EngStop.fault 5 (139637976727552#64) false false) ∧
    ((busy (run1 (copyCard 139637976727552#64))).die 0).fq.room = true ∧
    ((busy (run1 (copyCard 139637976727552#64))).die 0).fq.waiting = [] := by
  refine ⟨rfl, rfl, rfl, rfl, rfl, rfl, ?_, rfl, ?_, ?_, ?_, ?_, ?_, ?_, ?_, ?_, ?_, ?_, err_of (by decide +kernel), ?_, ?_⟩ <;> decide +kernel
theorem witness_stream_vector :
    (busy (job1 fillCard)).job 0 (job1 fillCard).serial = some (job1 fillCard) ∧
    (job1 fillCard).kind = JobKind.sluice fillCard ∧
    (busy (job1 fillCard)).gatedOff = false ∧
    (busy (job1 fillCard)).ctx (job1 fillCard).ctx = some busyCtx ∧
    { bound := some (Feeder.job 0 7), coming := [(5, Vec.zero)] : Machine.Stream } = SMap.get { : Machine.Stream } busyCtx.f 3 ∧
    { bound := some (Feeder.job 0 7), coming := [(5, Vec.zero)] : Machine.Stream }.bound = some (Feeder.job 0 (job1 fillCard).serial) ∧
    { bound := some (Feeder.job 0 7), coming := [(5, Vec.zero)] : Machine.Stream }.buf.length < 8 ∧
    { bound := some (Feeder.job 0 7), coming := [(5, Vec.zero)] : Machine.Stream }.coming = [(5, Vec.zero)] := ⟨rfl, rfl, rfl, rfl, by decide +kernel, rfl, by decide, rfl⟩
theorem witness_riffle_fill :
    ((riffling (rop RKind.fill 8#64)).riffle 0 2).queue = [rop RKind.fill 8#64] ∧
    (rop RKind.fill 8#64).state = RState.queued ∧
    (rop RKind.fill 8#64).job = none ∧
    (riffling (rop RKind.fill 8#64)).gatedOff = false ∧
    (rop RKind.fill 8#64).staged = none ∧
    (rop RKind.fill 8#64).pos < (rop RKind.fill 8#64).chunks ∧
    (riffling (rop RKind.fill 8#64)).chunkWaits (rop RKind.fill 8#64) = false ∧
    8 = min 2048 ((rop RKind.fill 8#64).count - 2048 * (rop RKind.fill 8#64).pos) ∧
    (rop RKind.fill 8#64).kind = RKind.fill ∧
    out8 =
  [((rop RKind.fill 8#64).port 1 + BitVec.ofNat 64 (4096 * (rop RKind.fill 8#64).pos),
      (List.replicate (min 4096 ((rop RKind.fill 8#64).count - 4096 * (rop RKind.fill 8#64).pos) / 4)
          (toBytes 4 (BitVec.toNat ((rop RKind.fill 8#64).port 3)))).flatten)] := ⟨rfl, rfl, rfl, rfl, rfl, by decide +kernel, by decide +kernel, by decide +kernel, rfl, by decide +kernel⟩
theorem witness_riffle_decode :
    ((riffling (rop RKind.decode 1#64)).riffle 0 2).queue = [rop RKind.decode 1#64] ∧
    (rop RKind.decode 1#64).state = RState.queued ∧
    (rop RKind.decode 1#64).job = none ∧
    (riffling (rop RKind.decode 1#64)).gatedOff = false ∧
    (rop RKind.decode 1#64).staged = none ∧
    (rop RKind.decode 1#64).pos < (rop RKind.decode 1#64).chunks ∧
    (riffling (rop RKind.decode 1#64)).chunkWaits (rop RKind.decode 1#64) = false ∧
    1 = min 2048 ((rop RKind.decode 1#64).count - 2048 * (rop RKind.decode 1#64).pos) ∧
    (rop RKind.decode 1#64).kind = RKind.decode ∧
    (riffling (rop RKind.decode 1#64)).readSlot (rop RKind.decode 1#64).agent
    ((rop RKind.decode 1#64).port 0 + BitVec.ofNat 64 ((rop RKind.decode 1#64).slot * (rop RKind.decode 1#64).pos))
    (rop RKind.decode 1#64).slot =
  Except.ok (SlotRead.plain plain1) ∧
    [(9223372036854792192#64, plain1)] = [((rop RKind.decode 1#64).port 1 + BitVec.ofNat 64 (4096 * (rop RKind.decode 1#64).pos), plain1)] := ⟨rfl, rfl, rfl, rfl, rfl, by decide +kernel, by decide +kernel, by decide +kernel, rfl, plain1_ok, rfl⟩
theorem witness_riffle_encode :
    ((riffling (rop RKind.encode 1#64)).riffle 0 2).queue = [rop RKind.encode 1#64] ∧
    (rop RKind.encode 1#64).state = RState.queued ∧
    (rop RKind.encode 1#64).job = none ∧
    (riffling (rop RKind.encode 1#64)).gatedOff = false ∧
    (rop RKind.encode 1#64).staged = none ∧
    (rop RKind.encode 1#64).pos < (rop RKind.encode 1#64).chunks ∧
    (riffling (rop RKind.encode 1#64)).chunkWaits (rop RKind.encode 1#64) = false ∧
    1 = min 2048 ((rop RKind.encode 1#64).count - 2048 * (rop RKind.encode 1#64).pos) ∧
    (rop RKind.encode 1#64).kind = RKind.encode ∧
    (riffling (rop RKind.encode 1#64)).engRead (rop RKind.encode 1#64).agent
    ((rop RKind.encode 1#64).port 0 + BitVec.ofNat 64 (4096 * (rop RKind.encode 1#64).pos)) 4096 =
  Except.ok block1 ∧
    (encodeBlock block1).length ≤ (rop RKind.encode 1#64).slot ∧
    [(9223372036854792192#64, padTo 1024 (encodeBlock block1))] =
  [((rop RKind.encode 1#64).port 1 + BitVec.ofNat 64 ((rop RKind.encode 1#64).slot * (rop RKind.encode 1#64).pos),
      padTo (rop RKind.encode 1#64).slot (encodeBlock block1))] := ⟨rfl, rfl, rfl, rfl, rfl, by decide +kernel, by decide +kernel, by decide +kernel, rfl, block1_ok, by decide +kernel, rfl⟩
theorem witness_riffle_unpack :
    ((riffling (rop RKind.unpack12 2#64)).riffle 0 2).queue = [rop RKind.unpack12 2#64] ∧
    (rop RKind.unpack12 2#64).state = RState.queued ∧
    (rop RKind.unpack12 2#64).job = none ∧
    (riffling (rop RKind.unpack12 2#64)).gatedOff = false ∧
    (rop RKind.unpack12 2#64).staged = none ∧
    (rop RKind.unpack12 2#64).pos < (rop RKind.unpack12 2#64).chunks ∧
    (riffling (rop RKind.unpack12 2#64)).chunkWaits (rop RKind.unpack12 2#64) = false ∧
    2 = min 2048 ((rop RKind.unpack12 2#64).count - 2048 * (rop RKind.unpack12 2#64).pos) ∧
    (rop RKind.unpack12 2#64).kind = RKind.unpack12 ∧
    (riffling (rop RKind.unpack12 2#64)).engRead (rop RKind.unpack12 2#64).agent
    ((rop RKind.unpack12 2#64).port 0 + BitVec.ofNat 64 (3072 * (rop RKind.unpack12 2#64).pos)) (ceilDiv (3 * 2) 2) =
  Except.ok [0#8, 0#8, 0#8] ∧
    [(9223372036854792192#64, [0#8, 0#8, 0#8, 0#8])] =
  [((rop RKind.unpack12 2#64).port 1 + BitVec.ofNat 64 (4096 * (rop RKind.unpack12 2#64).pos),
      unpackPixels (rop RKind.unpack12 2#64).lj 2 [0#8, 0#8, 0#8])] := ⟨rfl, rfl, rfl, rfl, rfl, by decide +kernel, by decide +kernel, by decide +kernel, rfl, val_of (by decide +kernel), by decide +kernel⟩
theorem witness_riffle_expand :
    ((riffling (rop RKind.expand3 2#64)).riffle 0 2).queue = [rop RKind.expand3 2#64] ∧
    (rop RKind.expand3 2#64).state = RState.queued ∧
    (rop RKind.expand3 2#64).job = none ∧
    (riffling (rop RKind.expand3 2#64)).gatedOff = false ∧
    (rop RKind.expand3 2#64).staged = none ∧
    (rop RKind.expand3 2#64).pos < (rop RKind.expand3 2#64).chunks ∧
    (riffling (rop RKind.expand3 2#64)).chunkWaits (rop RKind.expand3 2#64) = false ∧
    2 = min 2048 ((rop RKind.expand3 2#64).count - 2048 * (rop RKind.expand3 2#64).pos) ∧
    (rop RKind.expand3 2#64).kind = RKind.expand3 ∧
    (riffling (rop RKind.expand3 2#64)).engRead (rop RKind.expand3 2#64).agent
    ((rop RKind.expand3 2#64).port 0 + BitVec.ofNat 64 (768 * (rop RKind.expand3 2#64).pos)) (ceilDiv (3 * 2) 8) =
  Except.ok [0#8] ∧
    [(9223372036854792192#64, [0#8, 0#8, 0#8, 0#8])] =
  [((rop RKind.expand3 2#64).port 1 + BitVec.ofNat 64 (4096 * (rop RKind.expand3 2#64).pos),
      expandIndices (BitVec.toNat ((rop RKind.expand3 2#64).port 4) + 2 ^ 64 * BitVec.toNat ((rop RKind.expand3 2#64).port 5)) 2 [0#8])] := ⟨rfl, rfl, rfl, rfl, rfl, by decide +kernel, by decide +kernel, by decide +kernel, rfl, val_of (by decide +kernel), by decide +kernel⟩
theorem witness_riffle_crc :
    ((riffling (rop RKind.crc 3#64)).riffle 0 2).queue = [rop RKind.crc 3#64] ∧
    (rop RKind.crc 3#64).state = RState.queued ∧
    (rop RKind.crc 3#64).job = none ∧
    (riffling (rop RKind.crc 3#64)).gatedOff = false ∧
    (rop RKind.crc 3#64).kind = RKind.crc ∧
    (rop RKind.crc 3#64).staged = none ∧
    (riffling (rop RKind.crc 3#64)).chunkWaits (rop RKind.crc 3#64) = false ∧
    (riffling (rop RKind.crc 3#64)).engRead (rop RKind.crc 3#64).agent ((rop RKind.crc 3#64).port 0) (rop RKind.crc 3#64).count =
  Except.ok [0#8, 0#8, 0#8] := ⟨rfl, rfl, rfl, rfl, rfl, rfl, by decide +kernel, val_of (by decide +kernel)⟩
theorem witness_riffle_write :
    ((riffling stagedOp).riffle 0 2).queue = [stagedOp] ∧
    stagedOp.state = RState.running ∧
    stagedOp.job = none ∧
    (riffling stagedOp).gatedOff = false ∧
    stagedOp.staged = some out8 ∧
    stagedOp.kind ≠ RKind.crc ∧
    stagedOp.tbv = false ∧
    ((out8.any fun p => (riffling stagedOp).engWaits stagedOp.agent p.fst p.snd.length) = false) ∧
    ((riffling stagedOp).writeStaged stagedOp.agent (List.flatMap (fun p => cutPiece p.fst p.snd) out8) = (wrote.fst, wrote.snd.fst, none)) := ⟨rfl, rfl, rfl, rfl, rfl, by decide +kernel, rfl, by decide +kernel, wrote_ok⟩
theorem witness_riffle_done :
    ((riffling doneOp).riffle 0 2).queue = [doneOp] ∧
    doneOp.state = RState.running ∧
    doneOp.job = none ∧
    (riffling doneOp).gatedOff = false ∧
    (doneOp.kind ≠ RKind.crc ∧ doneOp.staged = none ∧ doneOp.chunks ≤ doneOp.pos) ∧
    doneOp.last = true ∧
    (riffling doneOp).ctx doneOp.ctx = some channel.ex3 ∧
    doneOp.tbv = false := ⟨rfl, rfl, rfl, rfl, by decide +kernel, rfl, rfl, rfl⟩
theorem witness_riffle_fault :
    ((riffling v11b).riffle 0 2).queue = [v11b] ∧
    v11b.state = RState.queued ∧
    v11b.job = none ∧
    (riffling v11b).gatedOff = false ∧
    v11b.kind ≠ RKind.crc ∧
    v11b.staged = none ∧
    (riffling v11b).chunk v11b = Except.error (ChunkEnd.stop (EngStop.fault 5 (139637976727552#64) false false)) ∧
    (riffling v11b).chunkWaits v11b = false ∧
    ((riffling v11b).die (clusterDie 0)).fq.room = true ∧
    ((riffling v11b).die (clusterDie 0)).fq.waiting = [] := ⟨rfl, rfl, rfl, rfl, by decide, rfl, err_of (by decide +kernel), by decide +kernel, by decide +kernel, by decide +kernel⟩
theorem witness_stash_stored :
    (stashing (JobKind.store 536870912) StashState.resident []).job 0 (job2 (JobKind.store 536870912)).serial =
  some (job2 (JobKind.store 536870912)) ∧
    (job2 (JobKind.store 536870912)).state = JState.running ∧
    (stashing (JobKind.store 536870912) StashState.resident []).stash 0 536870912 = some v11c ∧
    v11c.frees = [] ∧
    (stashing (JobKind.store 536870912) StashState.resident []).gatedOff = false ∧
    (job2 (JobKind.store 536870912)).kind = JobKind.store 536870912 ∧
    (stashing (JobKind.store 536870912) StashState.resident []).storeCopy 0 v11c = Except.ok (stored.fst, stored.snd) ∧
    (job2 (JobKind.store 536870912)).token = some 1 ∧
    (stashing (JobKind.store 536870912) StashState.resident []).ctx (job2 (JobKind.store 536870912)).ctx = some channel.ex3 := ⟨by decide +kernel, rfl, by decide +kernel, rfl, rfl, rfl, stored_ok, rfl, rfl⟩
theorem witness_restore_block :
    (stashing (JobKind.restore 536870912) StashState.restoring [(0, 1)]).job 0 (job2 (JobKind.restore 536870912)).serial =
  some (job2 (JobKind.restore 536870912)) ∧
    (job2 (JobKind.restore 536870912)).state = JState.running ∧
    (stashing (JobKind.restore 536870912) StashState.restoring [(0, 1)]).stash 0 536870912 = some (entry2 StashState.restoring) ∧
    (entry2 StashState.restoring).frees = [] ∧
    (stashing (JobKind.restore 536870912) StashState.restoring [(0, 1)]).gatedOff = false ∧
    (job2 (JobKind.restore 536870912)).kind = JobKind.restore 536870912 ∧
    (entry2 StashState.restoring).done < (entry2 StashState.restoring).len ∧
    0 = ceilDiv (entry2 StashState.restoring).done 128 ∧
    (stashing (JobKind.restore 536870912) StashState.restoring [(0, 1)]).storedBlock 0 (entry2 StashState.restoring) 0 =
  Except.ok (List.replicate 32 0#8) ∧
    (entry2 StashState.restoring).rdest ≠ 0#64 ∧
    (job2 (JobKind.restore 536870912)).drec = [] ∧
    (entry2 StashState.restoring).attach = [] ∧
    (stashing (JobKind.restore 536870912) StashState.restoring [(0, 1)]).engWrite
    (have __src := Agent.ofCtx (entry2 StashState.restoring).ctx (entry2 StashState.restoring).sup;
    { die := 0, core := __src.core, cluster := __src.cluster, sup := __src.sup, viaTlb := __src.viaTlb, layout := __src.layout : Agent })
    (BitVec.ofNat 64 (BitVec.toNat (entry2 StashState.restoring).rdest + 4096 * 0)) (List.replicate 32 0#8) =
  Except.ok
    (okOf State.reset
      ((stashing (JobKind.restore 536870912) StashState.restoring [(0, 1)]).engWrite (Agent.ofCtx 0 true) (24576#64)
        (List.replicate 32 0#8))) := ⟨by decide +kernel, rfl, by decide +kernel, rfl, rfl, rfl, by decide, rfl, val_of (by decide +kernel), by decide, rfl, rfl, ok_of (by decide +kernel)⟩
theorem witness_stash_restored :
    restored1.job 0 (job2 (JobKind.restore 536870912)).serial = some (job2 (JobKind.restore 536870912)) ∧
    (job2 (JobKind.restore 536870912)).state = JState.running ∧
    restored1.stash 0 536870912 =
  some
    (let __src := entry2 StashState.restoring;
    { key := __src.key, state := __src.state, err := __src.err, cpad := __src.cpad, len := __src.len, src := __src.src,
      rdest := __src.rdest, handle := __src.handle, ctx := __src.ctx, sup := __src.sup, near := __src.near, far := __src.far,
      lp := __src.lp, dest := __src.dest, ovf := __src.ovf, done := 1, attach := __src.attach, waiters := __src.waiters,
      frees := __src.frees : Stash }) ∧
    (let __src := entry2 StashState.restoring;
    { key := __src.key, state := __src.state, err := __src.err, cpad := __src.cpad, len := __src.len, src := __src.src,
      rdest := __src.rdest, handle := __src.handle, ctx := __src.ctx, sup := __src.sup, near := __src.near, far := __src.far,
      lp := __src.lp, dest := __src.dest, ovf := __src.ovf, done := 1, attach := __src.attach, waiters := __src.waiters,
      frees := __src.frees : Stash }).frees =
  [] ∧
    restored1.gatedOff = false ∧
    (job2 (JobKind.restore 536870912)).kind = JobKind.restore 536870912 ∧
    (let __src := entry2 StashState.restoring;
    { key := __src.key, state := __src.state, err := __src.err, cpad := __src.cpad, len := __src.len, src := __src.src,
      rdest := __src.rdest, handle := __src.handle, ctx := __src.ctx, sup := __src.sup, near := __src.near, far := __src.far,
      lp := __src.lp, dest := __src.dest, ovf := __src.ovf, done := 1, attach := __src.attach, waiters := __src.waiters,
      frees := __src.frees : Stash }).len ≤
  (let __src := entry2 StashState.restoring;
    { key := __src.key, state := __src.state, err := __src.err, cpad := __src.cpad, len := __src.len, src := __src.src,
      rdest := __src.rdest, handle := __src.handle, ctx := __src.ctx, sup := __src.sup, near := __src.near, far := __src.far,
      lp := __src.lp, dest := __src.dest, ovf := __src.ovf, done := 1, attach := __src.attach, waiters := __src.waiters,
      frees := __src.frees : Stash }).done ∧
    (let __src := entry2 StashState.restoring;
    { key := __src.key, state := __src.state, err := __src.err, cpad := __src.cpad, len := __src.len, src := __src.src,
      rdest := __src.rdest, handle := __src.handle, ctx := __src.ctx, sup := __src.sup, near := __src.near, far := __src.far,
      lp := __src.lp, dest := __src.dest, ovf := __src.ovf, done := 1, attach := __src.attach, waiters := __src.waiters,
      frees := __src.frees : Stash }).waiters =
  [(0, 1)] ∧
    restored1.ctx 0 = some channel.ex3 := ⟨by decide +kernel, rfl, by decide +kernel, rfl, rfl, rfl, by decide, rfl, rfl⟩
theorem witness_stash_lost :
    (stashing (JobKind.store 536870912) StashState.resident []).job 0 (job2 (JobKind.store 536870912)).serial =
  some (job2 (JobKind.store 536870912)) ∧
    (job2 (JobKind.store 536870912)).state = JState.running ∧
    (stashing (JobKind.store 536870912) StashState.resident []).stash 0 536870912 = some v11c ∧
    v11c.frees = [] ∧
    (stashing (JobKind.store 536870912) StashState.resident []).gatedOff = false ∧
    (job2 (JobKind.store 536870912)).kind = JobKind.store 536870912 ∧
    v11c.attach = [] ∧
    (stashing (JobKind.store 536870912) StashState.resident []).ctxs ≠ [] := ⟨by decide +kernel, rfl, by decide +kernel, rfl, rfl, rfl, rfl, by decide +kernel⟩

/-! ### Witnesses: firmware and registers -/

/-- A module in a thermal state with a running command. -/
def fw (op : Nat) (args : List Nat) (x : TState) : State :=
  { State.reset with
    thermal := { State.reset.thermal with state := x }, time := 5
    mbox := { running := some (op, 9#16, (args.zipIdx).foldl (fun (m : SMap W64) v => SMap.set 0#64 m v.2 (BitVec.ofNat 64 v.1)) []), busy := true } }
/-- The same with a session. -/
def fwSess (op : Nat) (args : List Nat) (x : TState) : State :=
  { fw op args x with
    sess := { State.reset.sess with state := .running }
    gangs := [{ gang1 with captured := false, members := [(0, 0)], step := none }], ctxs := [(0, some cx)] }
/-- An image of one section of zeros, signed with a test key that stands in slot 1, and the machine that holds it in its staging area. -/
def image1 : List Byte := toBytes 224 0xed8bf168dbcfaeee72e5b2cc3bbd974dd6a5a5a568ffaffe77b6249c5f4bc817ed1bcce5938a78b88a0b0a877319d48f17811497df1e7e27497514a8f7b7d65b83155126486dc1d5f0da59b30d6e46799c04be718dd701dbe10cef3bf07a103000000200000000000000000000200000000000000010000000000000000030400000000000000000000000000000000000000000000000000000000000000000000000000000000000000000000000000000000000000e00001000148575355
def key1 : BitVec 256 := 0xb83155126486dc1d5f0da59b30d6e46799c04be718dd701dbe10cef3bf07a103#256
def imaging (op : Nat) : State :=
  { (fw op [0, 224] .coldReady).writeEverywhere stagingBase image1 with imageKeys := [(1, key1)] }
/-- Both sides of the check of a signature, with the cofactor and without. -/
def sides (key msg sig : List Byte) : Bool :=
  let d := Crypto.curveD
  let s := leNat (sig.drop 32)
  match Crypto.decodePoint d key, Crypto.decodePoint d (sig.take 32) with
  | some a, some r =>
    let k := leNat (Crypto.sha512 (sig.take 32 ++ key ++ msg)) % Crypto.order
    let l := Crypto.times d 256 s (Crypto.basePoint d)
    let m := Crypto.addPoints r (Crypto.times d 256 k a) d
    !decide (Crypto.order ≤ s) && (Crypto.samePoint l m && Crypto.samePoint (Crypto.times d 4 8 l) (Crypto.times d 4 8 m))
  | _, _ => false
theorem verify_of_sides {key msg sig : List Byte} (h : sides key msg sig = true) : Crypto.verify key msg sig = true := by
  unfold sides at h
  unfold Crypto.verify
  dsimp only at h ⊢
  split at h
  · rename_i a r ha hr
    simp only [Bool.and_eq_true, Bool.not_eq_true', decide_eq_false_iff_not] at h
    try rw [ha, hr]
    try dsimp only
    rw [if_neg h.1]
    split
    · exact h.2.1
    · exact h.2.2
  · cases h
/-- The check of the signature of the staged image. -/
theorem signed (op : Nat) (h : (imaging op).staged 0 224 = image1) : signatureOk (imaging op).imageKeys ((imaging op).staged 0 224) = true := by
  rw [h]
  have hk : keyAccepted [(1, key1)] ((image1.drop (image1.length - 128)).take 32) = true := by decide +kernel
  have hv : sides ((image1.drop (image1.length - 128)).take 32) (imgDigest image1) (((image1.drop (image1.length - 128)).drop 32).take 64) = true := by
    decide +kernel
  unfold signatureOk
  exact Bool.and_eq_true_iff.mpr ⟨hk, verify_of_sides hv⟩
theorem image_status (op : Nat) (h : (imaging op).staged 0 224 = image1) (hh : (imaging op).staged 0 64 = image1.take 64) :
    (imaging op).imageStatus 0 224 = 0 := by
  unfold State.imageStatus
  rw [if_neg (by decide)]
  dsimp only
  rw [signed op h, h, hh, if_neg (by decide +kernel), if_neg (by decide +kernel)]
  decide +kernel
/-- A cold module that holds an image with code, and a start-vector table of one entry at 0x20000. -/
def loaded : State :=
  let s := { hot (fun t => { t with state := .coldReady, band := .cold }) 5 with
    sess := { State.reset.sess with state := .loaded, sections := [⟨1, 5#8, 0x10000, 0x10000, 0x10000⟩, ⟨3, 1#8, 0x20000, 0x20000, 0x1000⟩] } }
  (s.writeEverywhere startBitBase [1#8]).writeEverywhere 0x20000
    (toBytes 16 1 ++ toBytes 8 (3 * 2 ^ 54 + 0x10000) ++ toBytes 8 77)
/-- A module with log entries. -/
def logged : State := { fw 13 [1, 256, 0x1000] .run with log := [⟨1#64, 2#16, 3#16, 4#32, 5#64⟩, ⟨6#64, 7#16, 8#16, 9#32, 10#64⟩], logCount := 2 }
/-- A Sluice job suspended by a fault of the queue of die 0. -/
def fault1 : FqEntry := { va := 0x7F0000000000#64, cause := 5#8, agent := 1#4, jobref := jobRef 0 7 0, pend := true }
def suspendedJob : Job := { job1 fillCard with state := .suspended }
def faulted : State :=
  (busy suspendedJob).modDie 0 fun d => { d with fq := { d.fq with entries := [(0, fault1)], tail := 1#32 } }
/-- A module with two translations in cluster 3. -/
def tlb1 : TlbEntry := ⟨0, 0x40000000, 0, true, true, false, false⟩
def translating : State := { State.reset with clusters := [(3, { tlb := [tlb1, { tlb1 with va := 0x40000000, pa := 0x40000000 }] })] }
/-! Variants of the values above that the witnesses name. -/
def v12a := { loaded with mbox := { running := some (8, 9#16, [(0, 0x20000#64)]) } }

theorem witness_identify :
    ((fw 1 [] TState.run).mbox.running = some (1, 9#16, List.foldl (fun m v => SMap.set (0#64) m v.snd (BitVec.ofNat 64 v.fst)) [] [].zipIdx)) ∧
    (fw 1 [] TState.run).commandWaits = false ∧
    (∀ (n : Nat), SMap.get 0#64 [] n = SMap.get (0#64) (List.foldl (fun m v => SMap.set (0#64) m v.snd (BitVec.ofNat 64 v.fst)) [] [].zipIdx) n) := ⟨rfl, by decide +kernel, (fun x => rfl)⟩
theorem witness_attest :
    ((fw 2 [1, 2, 3, 4, 256] TState.run).mbox.running =
  some (2, 9#16, List.foldl (fun m v => SMap.set (0#64) m v.snd (BitVec.ofNat 64 v.fst)) [] [1, 2, 3, 4, 256].zipIdx)) ∧
    (fw 2 [1, 2, 3, 4, 256] TState.run).commandWaits = false ∧
    (∀ (n : Nat),
  SMap.get 0#64 [(0, 1#64), (1, 2#64), (2, 3#64), (3, 4#64), (4, 256#64)] n =
    SMap.get (0#64) (List.foldl (fun m v => SMap.set (0#64) m v.snd (BitVec.ofNat 64 v.fst)) [] [1, 2, 3, 4, 256].zipIdx) n) ∧
    BitVec.toNat (SMap.get 0#64 [(0, 1#64), (1, 2#64), (2, 3#64), (3, 4#64), (4, 256#64)] 4) % 256 = 0 := ⟨rfl, by decide +kernel, (fun x => rfl), by decide +kernel⟩
theorem witness_attest_failed :
    ((let __src := fw 2 [1, 2, 3, 4, 256] TState.run;
      { time := __src.time, agenda := __src.agenda, cur := __src.cur, lits := __src.lits, freeCtr := __src.freeCtr,
        thermal := __src.thermal, dram := __src.dram, scrubbed := __src.scrubbed, dramSince := __src.dramSince, llc := __src.llc,
        llcLast := __src.llcLast, layoutTlb := __src.layoutTlb, poison := __src.poison, leases := __src.leases, home := __src.home,
        writes := __src.writes, nextWrite := __src.nextWrite, nextPlace := __src.nextPlace, hostMem := __src.hostMem,
        hostReqs := __src.hostReqs, accesses := __src.accesses, nextAccess := __src.nextAccess, dies := __src.dies,
        clusters := __src.clusters, cores := __src.cores, ctxs := __src.ctxs, nextAge := __src.nextAge, gangs := __src.gangs,
        nextGang := __src.nextGang, chans := __src.chans, ports := [(8, { up := false : Port })], oxEast := __src.oxEast,
        oxWest := __src.oxWest, gaugeQ := __src.gaugeQ, seals := __src.seals, recReqs := __src.recReqs, writeWaits := __src.writeWaits,
        barWaits := __src.barWaits, posts := __src.posts, succs := __src.succs, nextId := __src.nextId, sess := __src.sess,
        mbox := __src.mbox, log := __src.log, logCount := __src.logCount, tbctl := __src.tbctl, act := __src.act, gated := __src.gated,
        idleSince := __src.idleSince, busyAt := __src.busyAt, linkAt := __src.linkAt, wokeAt := __src.wokeAt, out := __src.out,
        handleImage := __src.handleImage, imageKeys := __src.imageKeys : State }).mbox.running =
  some (2, 9#16, List.foldl (fun m v => SMap.set (0#64) m v.snd (BitVec.ofNat 64 v.fst)) [] [1, 2, 3, 4, 256].zipIdx)) ∧
    (let __src := fw 2 [1, 2, 3, 4, 256] TState.run;
    { time := __src.time, agenda := __src.agenda, cur := __src.cur, lits := __src.lits, freeCtr := __src.freeCtr, thermal := __src.thermal,
      dram := __src.dram, scrubbed := __src.scrubbed, dramSince := __src.dramSince, llc := __src.llc, llcLast := __src.llcLast,
      layoutTlb := __src.layoutTlb, poison := __src.poison, leases := __src.leases, home := __src.home, writes := __src.writes,
      nextWrite := __src.nextWrite, nextPlace := __src.nextPlace, hostMem := __src.hostMem, hostReqs := __src.hostReqs,
      accesses := __src.accesses, nextAccess := __src.nextAccess, dies := __src.dies, clusters := __src.clusters, cores := __src.cores,
      ctxs := __src.ctxs, nextAge := __src.nextAge, gangs := __src.gangs, nextGang := __src.nextGang, chans := __src.chans,
      ports := [(8, { up := false : Port })], oxEast := __src.oxEast, oxWest := __src.oxWest, gaugeQ := __src.gaugeQ, seals := __src.seals,
      recReqs := __src.recReqs, writeWaits := __src.writeWaits, barWaits := __src.barWaits, posts := __src.posts, succs := __src.succs,
      nextId := __src.nextId, sess := __src.sess, mbox := __src.mbox, log := __src.log, logCount := __src.logCount, tbctl := __src.tbctl,
      act := __src.act, gated := __src.gated, idleSince := __src.idleSince, busyAt := __src.busyAt, linkAt := __src.linkAt,
      wokeAt := __src.wokeAt, out := __src.out, handleImage := __src.handleImage, imageKeys := __src.imageKeys : State }).commandWaits =
  false ∧
    (∀ (n : Nat),
  SMap.get 0#64 [(0, 1#64), (1, 2#64), (2, 3#64), (3, 4#64), (4, 256#64)] n =
    SMap.get (0#64) (List.foldl (fun m v => SMap.set (0#64) m v.snd (BitVec.ofNat 64 v.fst)) [] [1, 2, 3, 4, 256].zipIdx) n) ∧
    ((let __src := fw 2 [1, 2, 3, 4, 256] TState.run;
        { time := __src.time, agenda := __src.agenda, cur := __src.cur, lits := __src.lits, freeCtr := __src.freeCtr,
          thermal := __src.thermal, dram := __src.dram, scrubbed := __src.scrubbed, dramSince := __src.dramSince, llc := __src.llc,
          llcLast := __src.llcLast, layoutTlb := __src.layoutTlb, poison := __src.poison, leases := __src.leases, home := __src.home,
          writes := __src.writes, nextWrite := __src.nextWrite, nextPlace := __src.nextPlace, hostMem := __src.hostMem,
          hostReqs := __src.hostReqs, accesses := __src.accesses, nextAccess := __src.nextAccess, dies := __src.dies,
          clusters := __src.clusters, cores := __src.cores, ctxs := __src.ctxs, nextAge := __src.nextAge, gangs := __src.gangs,
          nextGang := __src.nextGang, chans := __src.chans, ports := [(8, { up := false : Port })], oxEast := __src.oxEast,
          oxWest := __src.oxWest, gaugeQ := __src.gaugeQ, seals := __src.seals, recReqs := __src.recReqs, writeWaits := __src.writeWaits,
          barWaits := __src.barWaits, posts := __src.posts, succs := __src.succs, nextId := __src.nextId, sess := __src.sess,
          mbox := __src.mbox, log := __src.log, logCount := __src.logCount, tbctl := __src.tbctl, act := __src.act, gated := __src.gated,
          idleSince := __src.idleSince, busyAt := __src.busyAt, linkAt := __src.linkAt, wokeAt := __src.wokeAt, out := __src.out,
          handleImage := __src.handleImage, imageKeys := __src.imageKeys : State }).port
      8).up =
  false ∧
    BitVec.toNat (SMap.get 0#64 [(0, 1#64), (1, 2#64), (2, 3#64), (3, 4#64), (4, 256#64)] 4) % 256 = 0 := ⟨rfl, by decide +kernel, (fun x => rfl), by decide +kernel, by decide +kernel⟩
theorem witness_cool :
    ((fw 3 [] TState.warmStandby).mbox.running =
  some (3, 9#16, List.foldl (fun m v => SMap.set (0#64) m v.snd (BitVec.ofNat 64 v.fst)) [] [].zipIdx)) ∧
    (fw 3 [] TState.warmStandby).commandWaits = false ∧
    (∀ (n : Nat), SMap.get 0#64 [] n = SMap.get (0#64) (List.foldl (fun m v => SMap.set (0#64) m v.snd (BitVec.ofNat 64 v.fst)) [] [].zipIdx) n) ∧
    (fw 3 [] TState.warmStandby).thermal.state = TState.warmStandby := ⟨rfl, by decide +kernel, (fun x => rfl), rfl⟩
theorem witness_warm :
    ((fw 4 [] TState.cooldown).mbox.running =
  some (4, 9#16, List.foldl (fun m v => SMap.set (0#64) m v.snd (BitVec.ofNat 64 v.fst)) [] [].zipIdx)) ∧
    (fw 4 [] TState.cooldown).commandWaits = false ∧
    (∀ (n : Nat), SMap.get 0#64 [] n = SMap.get (0#64) (List.foldl (fun m v => SMap.set (0#64) m v.snd (BitVec.ofNat 64 v.fst)) [] [].zipIdx) n) ∧
    (fw 4 [] TState.cooldown).thermal.state = TState.cooldown := ⟨rfl, by decide +kernel, (fun x => rfl), rfl⟩
theorem witness_hold :
    ((fwSess 5 [] TState.run).mbox.running = some (5, 9#16, List.foldl (fun m v => SMap.set (0#64) m v.snd (BitVec.ofNat 64 v.fst)) [] [].zipIdx)) ∧
    (fwSess 5 [] TState.run).commandWaits = false ∧
    (∀ (n : Nat), SMap.get 0#64 [] n = SMap.get (0#64) (List.foldl (fun m v => SMap.set (0#64) m v.snd (BitVec.ofNat 64 v.fst)) [] [].zipIdx) n) ∧
    (fwSess 5 [] TState.run).thermal.state = TState.run ∧
    (fwSess 5 [] TState.run).sess.state = SessState.running ∧
    (List.Pairwise (fun g h => g.id ≠ h.id) (fwSess 5 [] TState.run).gangs) := ⟨rfl, by decide +kernel, (fun x => rfl), rfl, rfl, by decide +kernel⟩
theorem witness_stop :
    ((fwSess 9 [] TState.run).mbox.running = some (9, 9#16, List.foldl (fun m v => SMap.set (0#64) m v.snd (BitVec.ofNat 64 v.fst)) [] [].zipIdx)) ∧
    (fwSess 9 [] TState.run).commandWaits = false ∧
    (∀ (n : Nat), SMap.get 0#64 [] n = SMap.get (0#64) (List.foldl (fun m v => SMap.set (0#64) m v.snd (BitVec.ofNat 64 v.fst)) [] [].zipIdx) n) ∧
    (fwSess 9 [] TState.run).thermal.state = TState.run ∧
    (fwSess 9 [] TState.run).sess.state = SessState.running := ⟨rfl, by decide +kernel, (fun x => rfl), rfl, rfl⟩
theorem witness_query :
    ((fwSess 10 [] TState.run).mbox.running =
  some (10, 9#16, List.foldl (fun m v => SMap.set (0#64) m v.snd (BitVec.ofNat 64 v.fst)) [] [].zipIdx)) ∧
    (fwSess 10 [] TState.run).commandWaits = false ∧
    (∀ (n : Nat), SMap.get 0#64 [] n = SMap.get (0#64) (List.foldl (fun m v => SMap.set (0#64) m v.snd (BitVec.ofNat 64 v.fst)) [] [].zipIdx) n) := ⟨rfl, by decide +kernel, (fun x => rfl)⟩
theorem witness_lattol :
    ((fw 11 [4294967295] TState.run).mbox.running =
  some (11, 9#16, List.foldl (fun m v => SMap.set (0#64) m v.snd (BitVec.ofNat 64 v.fst)) [] [4294967295].zipIdx)) ∧
    (fw 11 [4294967295] TState.run).commandWaits = false ∧
    (∀ (n : Nat),
  SMap.get 0#64 [(0, 4294967295#64)] n =
    SMap.get (0#64) (List.foldl (fun m v => SMap.set (0#64) m v.snd (BitVec.ofNat 64 v.fst)) [] [4294967295].zipIdx) n) ∧
    BitVec.toNat (SMap.get 0#64 [(0, 4294967295#64)] 0) < 2 ^ 32 := ⟨rfl, by decide +kernel, (fun x => rfl), by decide +kernel⟩
theorem witness_reset_die :
    ((fw 12 [3] TState.coldReady).mbox.running =
  some (12, 9#16, List.foldl (fun m v => SMap.set (0#64) m v.snd (BitVec.ofNat 64 v.fst)) [] [3].zipIdx)) ∧
    (fw 12 [3] TState.coldReady).commandWaits = false ∧
    (∀ (n : Nat),
  SMap.get 0#64 [(0, 3#64)] n = SMap.get (0#64) (List.foldl (fun m v => SMap.set (0#64) m v.snd (BitVec.ofNat 64 v.fst)) [] [3].zipIdx) n) ∧
    (fw 12 [3] TState.coldReady).thermal.state = TState.coldReady ∧
    (fw 12 [3] TState.coldReady).hasSession = false ∧
    BitVec.toNat (SMap.get 0#64 [(0, 3#64)] 0) ≤ 3 := ⟨rfl, by decide +kernel, (fun x => rfl), rfl, rfl, by decide +kernel⟩
theorem witness_read_log :
    (logged.mbox.running = some (13, 9#16, List.foldl (fun m v => SMap.set (0#64) m v.snd (BitVec.ofNat 64 v.fst)) [] [1, 256, 4096].zipIdx)) ∧
    logged.commandWaits = false ∧
    (∀ (n : Nat),
  SMap.get 0#64 [(0, 1#64), (1, 256#64), (2, 4096#64)] n =
    SMap.get (0#64) (List.foldl (fun m v => SMap.set (0#64) m v.snd (BitVec.ofNat 64 v.fst)) [] [1, 256, 4096].zipIdx) n) ∧
    1 ≤ BitVec.toNat (SMap.get 0#64 [(0, 1#64), (1, 256#64), (2, 4096#64)] 1) ∧
    BitVec.toNat (SMap.get 0#64 [(0, 1#64), (1, 256#64), (2, 4096#64)] 1) ≤ 256 ∧
    BitVec.toNat (SMap.get 0#64 [(0, 1#64), (1, 256#64), (2, 4096#64)] 2) % 32 = 0 ∧
    1 = max (BitVec.toNat (SMap.get 0#64 [(0, 1#64), (1, 256#64), (2, 4096#64)] 0)) (logged.logCount - logged.log.length) ∧
    [{ time := 6#64, kind := 7#16, source := 8#16, code := 9#32, addr := 10#64 : LogEntry }] =
  List.take (BitVec.toNat (SMap.get 0#64 [(0, 1#64), (1, 256#64), (2, 4096#64)] 1))
    (List.drop (1 - (logged.logCount - logged.log.length)) logged.log) := by
  refine ⟨rfl, ?_, (fun x => rfl), ?_, ?_, ?_, ?_, ?_⟩ <;> decide +kernel
theorem witness_read_log_failed :
    ((let __src := logged;
      { time := __src.time, agenda := __src.agenda, cur := __src.cur, lits := __src.lits, freeCtr := __src.freeCtr,
        thermal := __src.thermal, dram := __src.dram, scrubbed := __src.scrubbed, dramSince := __src.dramSince, llc := __src.llc,
        llcLast := __src.llcLast, layoutTlb := __src.layoutTlb, poison := __src.poison, leases := __src.leases, home := __src.home,
        writes := __src.writes, nextWrite := __src.nextWrite, nextPlace := __src.nextPlace, hostMem := __src.hostMem,
        hostReqs := __src.hostReqs, accesses := __src.accesses, nextAccess := __src.nextAccess, dies := __src.dies,
        clusters := __src.clusters, cores := __src.cores, ctxs := __src.ctxs, nextAge := __src.nextAge, gangs := __src.gangs,
        nextGang := __src.nextGang, chans := __src.chans, ports := [(8, { up := false : Port })], oxEast := __src.oxEast,
        oxWest := __src.oxWest, gaugeQ := __src.gaugeQ, seals := __src.seals, recReqs := __src.recReqs, writeWaits := __src.writeWaits,
        barWaits := __src.barWaits, posts := __src.posts, succs := __src.succs, nextId := __src.nextId, sess := __src.sess,
        mbox := __src.mbox, log := __src.log, logCount := __src.logCount, tbctl := __src.tbctl, act := __src.act, gated := __src.gated,
        idleSince := __src.idleSince, busyAt := __src.busyAt, linkAt := __src.linkAt, wokeAt := __src.wokeAt, out := __src.out,
        handleImage := __src.handleImage, imageKeys := __src.imageKeys : State }).mbox.running =
  some (13, 9#16, List.foldl (fun m v => SMap.set (0#64) m v.snd (BitVec.ofNat 64 v.fst)) [] [1, 256, 4096].zipIdx)) ∧
    (let __src := logged;
    { time := __src.time, agenda := __src.agenda, cur := __src.cur, lits := __src.lits, freeCtr := __src.freeCtr, thermal := __src.thermal,
      dram := __src.dram, scrubbed := __src.scrubbed, dramSince := __src.dramSince, llc := __src.llc, llcLast := __src.llcLast,
      layoutTlb := __src.layoutTlb, poison := __src.poison, leases := __src.leases, home := __src.home, writes := __src.writes,
      nextWrite := __src.nextWrite, nextPlace := __src.nextPlace, hostMem := __src.hostMem, hostReqs := __src.hostReqs,
      accesses := __src.accesses, nextAccess := __src.nextAccess, dies := __src.dies, clusters := __src.clusters, cores := __src.cores,
      ctxs := __src.ctxs, nextAge := __src.nextAge, gangs := __src.gangs, nextGang := __src.nextGang, chans := __src.chans,
      ports := [(8, { up := false : Port })], oxEast := __src.oxEast, oxWest := __src.oxWest, gaugeQ := __src.gaugeQ, seals := __src.seals,
      recReqs := __src.recReqs, writeWaits := __src.writeWaits, barWaits := __src.barWaits, posts := __src.posts, succs := __src.succs,
      nextId := __src.nextId, sess := __src.sess, mbox := __src.mbox, log := __src.log, logCount := __src.logCount, tbctl := __src.tbctl,
      act := __src.act, gated := __src.gated, idleSince := __src.idleSince, busyAt := __src.busyAt, linkAt := __src.linkAt,
      wokeAt := __src.wokeAt, out := __src.out, handleImage := __src.handleImage, imageKeys := __src.imageKeys : State }).commandWaits =
  false ∧
    (∀ (n : Nat),
  SMap.get 0#64 [(0, 1#64), (1, 256#64), (2, 4096#64)] n =
    SMap.get (0#64) (List.foldl (fun m v => SMap.set (0#64) m v.snd (BitVec.ofNat 64 v.fst)) [] [1, 256, 4096].zipIdx) n) ∧
    1 ≤ BitVec.toNat (SMap.get 0#64 [(0, 1#64), (1, 256#64), (2, 4096#64)] 1) ∧
    BitVec.toNat (SMap.get 0#64 [(0, 1#64), (1, 256#64), (2, 4096#64)] 1) ≤ 256 ∧
    BitVec.toNat (SMap.get 0#64 [(0, 1#64), (1, 256#64), (2, 4096#64)] 2) % 32 = 0 ∧
    ((let __src := logged;
        { time := __src.time, agenda := __src.agenda, cur := __src.cur, lits := __src.lits, freeCtr := __src.freeCtr,
          thermal := __src.thermal, dram := __src.dram, scrubbed := __src.scrubbed, dramSince := __src.dramSince, llc := __src.llc,
          llcLast := __src.llcLast, layoutTlb := __src.layoutTlb, poison := __src.poison, leases := __src.leases, home := __src.home,
          writes := __src.writes, nextWrite := __src.nextWrite, nextPlace := __src.nextPlace, hostMem := __src.hostMem,
          hostReqs := __src.hostReqs, accesses := __src.accesses, nextAccess := __src.nextAccess, dies := __src.dies,
          clusters := __src.clusters, cores := __src.cores, ctxs := __src.ctxs, nextAge := __src.nextAge, gangs := __src.gangs,
          nextGang := __src.nextGang, chans := __src.chans, ports := [(8, { up := false : Port })], oxEast := __src.oxEast,
          oxWest := __src.oxWest, gaugeQ := __src.gaugeQ, seals := __src.seals, recReqs := __src.recReqs, writeWaits := __src.writeWaits,
          barWaits := __src.barWaits, posts := __src.posts, succs := __src.succs, nextId := __src.nextId, sess := __src.sess,
          mbox := __src.mbox, log := __src.log, logCount := __src.logCount, tbctl := __src.tbctl, act := __src.act, gated := __src.gated,
          idleSince := __src.idleSince, busyAt := __src.busyAt, linkAt := __src.linkAt, wokeAt := __src.wokeAt, out := __src.out,
          handleImage := __src.handleImage, imageKeys := __src.imageKeys : State }).port
      8).up =
  false := by
  refine ⟨rfl, ?_, (fun x => rfl), ?_, ?_, ?_, ?_⟩ <;> decide +kernel
theorem witness_bad_state_cool :
    ((fw 3 [] TState.warmup).mbox.running = some (3, 9#16, List.foldl (fun m v => SMap.set (0#64) m v.snd (BitVec.ofNat 64 v.fst)) [] [].zipIdx)) ∧
    (fw 3 [] TState.warmup).commandWaits = false ∧
    (∀ (n : Nat), SMap.get 0#64 [] n = SMap.get (0#64) (List.foldl (fun m v => SMap.set (0#64) m v.snd (BitVec.ofNat 64 v.fst)) [] [].zipIdx) n) ∧
    (fw 3 [] TState.warmup).thermal.state = TState.warmup := ⟨rfl, by decide +kernel, (fun x => rfl), rfl⟩
theorem witness_bad_state_warm :
    ((fw 4 [] TState.warmup).mbox.running = some (4, 9#16, List.foldl (fun m v => SMap.set (0#64) m v.snd (BitVec.ofNat 64 v.fst)) [] [].zipIdx)) ∧
    (fw 4 [] TState.warmup).commandWaits = false ∧
    (∀ (n : Nat), SMap.get 0#64 [] n = SMap.get (0#64) (List.foldl (fun m v => SMap.set (0#64) m v.snd (BitVec.ofNat 64 v.fst)) [] [].zipIdx) n) ∧
    (fw 4 [] TState.warmup).thermal.state = TState.warmup := ⟨rfl, by decide +kernel, (fun x => rfl), rfl⟩
theorem witness_bad_state_hold :
    ((fw 5 [] TState.warmup).mbox.running = some (5, 9#16, List.foldl (fun m v => SMap.set (0#64) m v.snd (BitVec.ofNat 64 v.fst)) [] [].zipIdx)) ∧
    (fw 5 [] TState.warmup).commandWaits = false ∧
    (∀ (n : Nat), SMap.get 0#64 [] n = SMap.get (0#64) (List.foldl (fun m v => SMap.set (0#64) m v.snd (BitVec.ofNat 64 v.fst)) [] [].zipIdx) n) ∧
    (fw 5 [] TState.warmup).thermal.state = TState.warmup := ⟨rfl, by decide +kernel, (fun x => rfl), rfl⟩
theorem witness_bad_state_stop :
    ((fw 9 [] TState.warmup).mbox.running = some (9, 9#16, List.foldl (fun m v => SMap.set (0#64) m v.snd (BitVec.ofNat 64 v.fst)) [] [].zipIdx)) ∧
    (fw 9 [] TState.warmup).commandWaits = false ∧
    (∀ (n : Nat), SMap.get 0#64 [] n = SMap.get (0#64) (List.foldl (fun m v => SMap.set (0#64) m v.snd (BitVec.ofNat 64 v.fst)) [] [].zipIdx) n) ∧
    (fw 9 [] TState.warmup).thermal.state = TState.warmup := ⟨rfl, by decide +kernel, (fun x => rfl), rfl⟩
theorem witness_staging :
    4294967294 + [1#8, 2#8].length ≤ 2 ^ 32 ∧
    State.reset.mbox.running = none := ⟨by decide, rfl⟩
theorem witness_staging_lost :
    0 + [1#8, 2#8].length ≤ 2 ^ 32 ∧
    ((fw 6 [] TState.coldReady).mbox.running =
  some (6, 9#16, List.foldl (fun m v => SMap.set (0#64) m v.snd (BitVec.ofNat 64 v.fst)) [] [].zipIdx)) := ⟨by decide, rfl⟩
theorem witness_load_image :
    ((imaging 6).mbox.running = some (6, 9#16, List.foldl (fun m v => SMap.set (0#64) m v.snd (BitVec.ofNat 64 v.fst)) [] [0, 224].zipIdx)) ∧
    (imaging 6).commandWaits = false ∧
    (0 = (SMap.get (0#64) (List.foldl (fun m v => SMap.set (0#64) m v.snd (BitVec.ofNat 64 v.fst)) [] [0, 224].zipIdx) 0).toNat) ∧
    (224 = (SMap.get (0#64) (List.foldl (fun m v => SMap.set (0#64) m v.snd (BitVec.ofNat 64 v.fst)) [] [0, 224].zipIdx) 1).toNat) ∧
    (imaging 6).thermal.state = TState.coldReady ∧
    (imaging 6).hasSession = false ∧
    (imaging 6).imageStatus 0 224 = 0 := ⟨rfl, by decide +kernel, rfl, rfl, rfl, rfl, image_status 6 (by decide +kernel) (by decide +kernel)⟩
theorem witness_load_refused :
    ((fw 6 [1, 224] TState.coldReady).mbox.running =
  some (6, 9#16, List.foldl (fun m v => SMap.set (0#64) m v.snd (BitVec.ofNat 64 v.fst)) [] [1, 224].zipIdx)) ∧
    (fw 6 [1, 224] TState.coldReady).commandWaits = false ∧
    (1 = (SMap.get (0#64) (List.foldl (fun m v => SMap.set (0#64) m v.snd (BitVec.ofNat 64 v.fst)) [] [1, 224].zipIdx) 0).toNat) ∧
    (224 = (SMap.get (0#64) (List.foldl (fun m v => SMap.set (0#64) m v.snd (BitVec.ofNat 64 v.fst)) [] [1, 224].zipIdx) 1).toNat) ∧
    (fw 6 [1, 224] TState.coldReady).thermal.state = TState.coldReady ∧
    (fw 6 [1, 224] TState.coldReady).hasSession = false ∧
    (fw 6 [1, 224] TState.coldReady).imageStatus 1 224 ≠ 0 := ⟨rfl, by decide +kernel, rfl, rfl, rfl, rfl, by decide +kernel⟩
theorem witness_verify_image :
    ((fw 7 [0, 224] TState.run).mbox.running =
  some (7, 9#16, List.foldl (fun m v => SMap.set (0#64) m v.snd (BitVec.ofNat 64 v.fst)) [] [0, 224].zipIdx)) ∧
    (fw 7 [0, 224] TState.run).commandWaits = false ∧
    (0 = (SMap.get (0#64) (List.foldl (fun m v => SMap.set (0#64) m v.snd (BitVec.ofNat 64 v.fst)) [] [0, 224].zipIdx) 0).toNat) ∧
    (224 = (SMap.get (0#64) (List.foldl (fun m v => SMap.set (0#64) m v.snd (BitVec.ofNat 64 v.fst)) [] [0, 224].zipIdx) 1).toNat) := ⟨rfl, by decide +kernel, rfl, rfl⟩
theorem witness_start_write :
    loaded.startChecks (131072#64).toNat = (0, [{ core := 3, rsv := 0, entry := 65536, arg := 77 : StartVec }]) ∧
    loaded.mbox.busy = false ∧
    loaded.sequenceRuns = false ∧
    loaded.triggerDue = false ∧
    loaded.mbox.starts = [] := ⟨by decide +kernel, rfl, by decide +kernel, by decide +kernel, rfl⟩
theorem witness_start :
    v12a.startChecks (131072#64).toNat = (0, [{ core := 3, rsv := 0, entry := 65536, arg := 77 : StartVec }]) ∧
    v12a.commandWaits = false ∧
    (∃ seq args, v12a.mbox.running = some (8, seq, args) ∧ SMap.get (0#64) args 0 = 131072#64) := ⟨by decide +kernel, by decide +kernel, ⟨_, _, rfl, rfl⟩⟩
theorem witness_start_bad :
    loaded.thermal.state ≠ TState.off ∧
    4 ≠ 8 := ⟨by decide, by decide⟩
theorem witness_start_waits :
    (fw 1 [] TState.coldReady).thermal.state ≠ TState.off ∧
    (fw 1 [] TState.coldReady).mbox.busy = true ∧
    (fw 1 [] TState.coldReady).mbox.granted = 0 := ⟨by decide, rfl, rfl⟩
theorem witness_argument :
    State.reset.thermal.state ≠ TState.off ∧
    7 < 8 := ⟨by decide, by decide⟩
theorem witness_submit :
    State.reset.thermal.state ≠ TState.off ∧
    State.reset.mbox.busy = false ∧
    State.reset.mbox.any = false ∧
    1 ≤ bits (327693#64) 7 0 ∧
    bits (327693#64) 7 0 ≤ 13 := ⟨by decide, rfl, rfl, by decide, by decide⟩
theorem witness_overrun :
    (fw 1 [] TState.run).thermal.state ≠ TState.off ∧
    (fw 1 [] TState.run).mbox.busy = true := ⟨by decide, rfl⟩
theorem witness_tbctl :
    State.reset.thermal.state ≠ TState.off ∧
    bits (82#64) 1 0 < 3 ∧
    bits (82#64) 6 4 < 6 := ⟨by decide, by decide, by decide⟩
theorem witness_readonly :
    State.reset.thermal.state ≠ TState.off ∧
    16 % 4 = 0 ∧
    16 ≠ 0 ∧
    16 ≠ 528 ∧
    16 ≠ 1024 ∧
    16 < 64 := ⟨by decide, by decide, by decide, by decide, by decide, by decide⟩
theorem witness_bad_opcode :
    State.reset.thermal.state ≠ TState.off ∧
    State.reset.mbox.busy = false ∧
    State.reset.mbox.any = false ∧
    bits (327680#64) 7 0 = 0 ∧
    State.reset.sequenceRuns = false ∧
    State.reset.mbox.starts = [] ∧
    State.reset.mbox.granted = 0 ∧
    State.reset.triggerDue = false := ⟨by decide, rfl, rfl, by decide, by decide +kernel, rfl, rfl, by decide +kernel⟩
theorem witness_bad_size :
    (2 ≠ 4 ∧ 2 ≠ 8) := by decide
theorem witness_stage_on :
    0 < 4 ∧
    1 < 8 ∧
    0 < 16 ∧
    5244928 = 5242880 + 65536 * 0 + 2048 * 1 ∧
    bit (1#64) 0 = true := ⟨by decide, by decide, by decide, rfl, rfl⟩
theorem witness_stage_off :
    0 < 4 ∧
    1 < 8 ∧
    0 < 16 ∧
    5244928 = 5242880 + 65536 * 0 + 2048 * 1 ∧
    bit (0#64) 0 = false := ⟨by decide, by decide, by decide, rfl, rfl⟩
theorem witness_stage_word :
    0 < 4 ∧
    1 < 8 ∧
    15 < 16 ∧
    5244928 = 5242880 + 65536 * 0 + 2048 * 1 ∧
    ((staged stage1).stage 0 1).enable = false := ⟨by decide, by decide, by decide, rfl, rfl⟩
theorem witness_stage_locked :
    0 < 4 ∧
    1 < 8 ∧
    0 < 16 ∧
    5244928 = 5242880 + 65536 * 0 + 2048 * 1 ∧
    ((staged stage2).stage 0 1).enable = true := ⟨by decide, by decide, by decide, rfl, rfl⟩
theorem witness_channel_words :
    1535 < 1536 ∧
    4243424 = 4194304 + 32 * 1535 ∧
    (State.reset.chan 1535).state = ChState.idle := ⟨by decide, rfl, by decide⟩
theorem witness_channel_off :
    3 < 1536 ∧
    4194400 = 4194304 + 32 * 3 ∧
    ((sending 0).chan 3).state ≠ ChState.idle ∧
    bits (0#64) 1 0 = 0 := ⟨by decide, rfl, by decide, by decide⟩
theorem witness_eddy_words :
    3 < 4 ∧
    6303744 = 6291456 + 4096 * 3 ∧
    (∀ (n : Nat), n < 8 → (State.reset.stage 3 n).enable = false) := ⟨by decide, rfl, by decide⟩
theorem witness_fq_words :
    0 < 4 ∧
    7340032 = 7340032 + 4096 * 0 := ⟨by decide, rfl⟩
theorem witness_fq_resume :
    0 < 4 ∧
    0 < 64 ∧
    fault1 = SMap.get { : FqEntry } (faulted.die 0).fq.entries 0 ∧
    fault1.pend = true ∧
    fault1.agent = 1#4 ∧
    (faulted.die 0).fq.waiting = [] ∧
    faulted.fqJob 0 fault1 = some suspendedJob ∧
    faulted.job 0 suspendedJob.serial = some suspendedJob := ⟨by decide, by decide, rfl, rfl, rfl, rfl, by decide +kernel, rfl⟩
theorem witness_fq_abandon :
    0 < 4 ∧
    0 < 64 ∧
    fault1 = SMap.get { : FqEntry } (faulted.die 0).fq.entries 0 ∧
    fault1.pend = true ∧
    fault1.agent = 1#4 ∧
    (faulted.die 0).fq.waiting = [] ∧
    faulted.fqJob 0 fault1 = some suspendedJob ∧
    faulted.job 0 suspendedJob.serial = some suspendedJob ∧
    faulted.sess.state ≠ SessState.running := ⟨by decide, by decide, rfl, rfl, rfl, rfl, by decide +kernel, rfl, by decide⟩
theorem witness_awake :
    ((let __src :=
      hot
        (fun t =>
          { state := TState.run, band := t.band, refrate := t.refrate, tset := t.tset, clklow := t.clklow, cmdhold := t.cmdhold,
            pause := t.pause, fcause := t.fcause, tj := t.tj, tjSensor := t.tjSensor, grad := t.grad, mean := t.mean, slope := t.slope,
            sens := t.sens, subs := t.subs, evt := t.evt, faults := t.faults, holds := t.holds, cycles := t.cycles, dramce := t.dramce,
            sramce := t.sramce, ue := t.ue, lastTj := t.lastTj, sampledAt := t.sampledAt, ratedAt := t.ratedAt, bandSince := t.bandSince,
            coldSince := t.coldSince, switchAt := t.switchAt, applyAt := t.applyAt, means := t.means, rateOk := t.rateOk,
            gradPause := t.gradPause, coolantOk := t.coolantOk, coolantSince := t.coolantSince, coolantTaken := t.coolantTaken,
            setpoint := t.setpoint : Thermal })
        5;
    { time := __src.time, agenda := __src.agenda, cur := __src.cur, lits := __src.lits, freeCtr := __src.freeCtr, thermal := __src.thermal,
      dram := __src.dram, scrubbed := __src.scrubbed, dramSince := __src.dramSince, llc := __src.llc, llcLast := __src.llcLast,
      layoutTlb := __src.layoutTlb, poison := __src.poison, leases := __src.leases, home := __src.home, writes := __src.writes,
      nextWrite := __src.nextWrite, nextPlace := __src.nextPlace, hostMem := __src.hostMem, hostReqs := __src.hostReqs,
      accesses := __src.accesses, nextAccess := __src.nextAccess, dies := __src.dies, clusters := __src.clusters, cores := __src.cores,
      ctxs := __src.ctxs, nextAge := __src.nextAge, gangs := __src.gangs, nextGang := __src.nextGang, chans := __src.chans,
      ports := __src.ports, oxEast := __src.oxEast, oxWest := __src.oxWest, gaugeQ := __src.gaugeQ, seals := __src.seals,
      recReqs := __src.recReqs, writeWaits := __src.writeWaits, barWaits := __src.barWaits, posts := __src.posts, succs := __src.succs,
      nextId := __src.nextId, sess := __src.sess, mbox := { lattol := 1#32 : Mailbox }, log := __src.log, logCount := __src.logCount,
      tbctl := __src.tbctl, act := __src.act, gated := __src.gated, idleSince := __src.idleSince, busyAt := __src.busyAt,
      linkAt := __src.linkAt, wokeAt := __src.wokeAt, out := __src.out, handleImage := __src.handleImage, imageKeys := __src.imageKeys :
      State }).wokeAt ≠
  some
    (let __src :=
        hot
          (fun t =>
            { state := TState.run, band := t.band, refrate := t.refrate, tset := t.tset, clklow := t.clklow, cmdhold := t.cmdhold,
              pause := t.pause, fcause := t.fcause, tj := t.tj, tjSensor := t.tjSensor, grad := t.grad, mean := t.mean, slope := t.slope,
              sens := t.sens, subs := t.subs, evt := t.evt, faults := t.faults, holds := t.holds, cycles := t.cycles, dramce := t.dramce,
              sramce := t.sramce, ue := t.ue, lastTj := t.lastTj, sampledAt := t.sampledAt, ratedAt := t.ratedAt, bandSince := t.bandSince,
              coldSince := t.coldSince, switchAt := t.switchAt, applyAt := t.applyAt, means := t.means, rateOk := t.rateOk,
              gradPause := t.gradPause, coolantOk := t.coolantOk, coolantSince := t.coolantSince, coolantTaken := t.coolantTaken,
              setpoint := t.setpoint : Thermal })
          5;
      { time := __src.time, agenda := __src.agenda, cur := __src.cur, lits := __src.lits, freeCtr := __src.freeCtr,
        thermal := __src.thermal, dram := __src.dram, scrubbed := __src.scrubbed, dramSince := __src.dramSince, llc := __src.llc,
        llcLast := __src.llcLast, layoutTlb := __src.layoutTlb, poison := __src.poison, leases := __src.leases, home := __src.home,
        writes := __src.writes, nextWrite := __src.nextWrite, nextPlace := __src.nextPlace, hostMem := __src.hostMem,
        hostReqs := __src.hostReqs, accesses := __src.accesses, nextAccess := __src.nextAccess, dies := __src.dies,
        clusters := __src.clusters, cores := __src.cores, ctxs := __src.ctxs, nextAge := __src.nextAge, gangs := __src.gangs,
        nextGang := __src.nextGang, chans := __src.chans, ports := __src.ports, oxEast := __src.oxEast, oxWest := __src.oxWest,
        gaugeQ := __src.gaugeQ, seals := __src.seals, recReqs := __src.recReqs, writeWaits := __src.writeWaits, barWaits := __src.barWaits,
        posts := __src.posts, succs := __src.succs, nextId := __src.nextId, sess := __src.sess, mbox := { lattol := 1#32 : Mailbox },
        log := __src.log, logCount := __src.logCount, tbctl := __src.tbctl, act := __src.act, gated := __src.gated,
        idleSince := __src.idleSince, busyAt := __src.busyAt, linkAt := __src.linkAt, wokeAt := __src.wokeAt, out := __src.out,
        handleImage := __src.handleImage, imageKeys := __src.imageKeys : State }).time) ∧
    ((let __src :=
        hot
          (fun t =>
            { state := TState.run, band := t.band, refrate := t.refrate, tset := t.tset, clklow := t.clklow, cmdhold := t.cmdhold,
              pause := t.pause, fcause := t.fcause, tj := t.tj, tjSensor := t.tjSensor, grad := t.grad, mean := t.mean, slope := t.slope,
              sens := t.sens, subs := t.subs, evt := t.evt, faults := t.faults, holds := t.holds, cycles := t.cycles, dramce := t.dramce,
              sramce := t.sramce, ue := t.ue, lastTj := t.lastTj, sampledAt := t.sampledAt, ratedAt := t.ratedAt, bandSince := t.bandSince,
              coldSince := t.coldSince, switchAt := t.switchAt, applyAt := t.applyAt, means := t.means, rateOk := t.rateOk,
              gradPause := t.gradPause, coolantOk := t.coolantOk, coolantSince := t.coolantSince, coolantTaken := t.coolantTaken,
              setpoint := t.setpoint : Thermal })
          5;
      { time := __src.time, agenda := __src.agenda, cur := __src.cur, lits := __src.lits, freeCtr := __src.freeCtr,
        thermal := __src.thermal, dram := __src.dram, scrubbed := __src.scrubbed, dramSince := __src.dramSince, llc := __src.llc,
        llcLast := __src.llcLast, layoutTlb := __src.layoutTlb, poison := __src.poison, leases := __src.leases, home := __src.home,
        writes := __src.writes, nextWrite := __src.nextWrite, nextPlace := __src.nextPlace, hostMem := __src.hostMem,
        hostReqs := __src.hostReqs, accesses := __src.accesses, nextAccess := __src.nextAccess, dies := __src.dies,
        clusters := __src.clusters, cores := __src.cores, ctxs := __src.ctxs, nextAge := __src.nextAge, gangs := __src.gangs,
        nextGang := __src.nextGang, chans := __src.chans, ports := __src.ports, oxEast := __src.oxEast, oxWest := __src.oxWest,
        gaugeQ := __src.gaugeQ, seals := __src.seals, recReqs := __src.recReqs, writeWaits := __src.writeWaits, barWaits := __src.barWaits,
        posts := __src.posts, succs := __src.succs, nextId := __src.nextId, sess := __src.sess, mbox := { lattol := 1#32 : Mailbox },
        log := __src.log, logCount := __src.logCount, tbctl := __src.tbctl, act := __src.act, gated := __src.gated,
        idleSince := __src.idleSince, busyAt := __src.busyAt, linkAt := __src.linkAt, wokeAt := __src.wokeAt, out := __src.out,
        handleImage := __src.handleImage, imageKeys := __src.imageKeys : State }).thermal.state =
  TState.run) ∧
    (BitVec.toNat
    (let __src :=
          hot
            (fun t =>
              { state := TState.run, band := t.band, refrate := t.refrate, tset := t.tset, clklow := t.clklow, cmdhold := t.cmdhold,
                pause := t.pause, fcause := t.fcause, tj := t.tj, tjSensor := t.tjSensor, grad := t.grad, mean := t.mean, slope := t.slope,
                sens := t.sens, subs := t.subs, evt := t.evt, faults := t.faults, holds := t.holds, cycles := t.cycles, dramce := t.dramce,
                sramce := t.sramce, ue := t.ue, lastTj := t.lastTj, sampledAt := t.sampledAt, ratedAt := t.ratedAt,
                bandSince := t.bandSince, coldSince := t.coldSince, switchAt := t.switchAt, applyAt := t.applyAt, means := t.means,
                rateOk := t.rateOk, gradPause := t.gradPause, coolantOk := t.coolantOk, coolantSince := t.coolantSince,
                coolantTaken := t.coolantTaken, setpoint := t.setpoint : Thermal })
            5;
        { time := __src.time, agenda := __src.agenda, cur := __src.cur, lits := __src.lits, freeCtr := __src.freeCtr,
          thermal := __src.thermal, dram := __src.dram, scrubbed := __src.scrubbed, dramSince := __src.dramSince, llc := __src.llc,
          llcLast := __src.llcLast, layoutTlb := __src.layoutTlb, poison := __src.poison, leases := __src.leases, home := __src.home,
          writes := __src.writes, nextWrite := __src.nextWrite, nextPlace := __src.nextPlace, hostMem := __src.hostMem,
          hostReqs := __src.hostReqs, accesses := __src.accesses, nextAccess := __src.nextAccess, dies := __src.dies,
          clusters := __src.clusters, cores := __src.cores, ctxs := __src.ctxs, nextAge := __src.nextAge, gangs := __src.gangs,
          nextGang := __src.nextGang, chans := __src.chans, ports := __src.ports, oxEast := __src.oxEast, oxWest := __src.oxWest,
          gaugeQ := __src.gaugeQ, seals := __src.seals, recReqs := __src.recReqs, writeWaits := __src.writeWaits,
          barWaits := __src.barWaits, posts := __src.posts, succs := __src.succs, nextId := __src.nextId, sess := __src.sess,
          mbox := { lattol := 1#32 : Mailbox }, log := __src.log, logCount := __src.logCount, tbctl := __src.tbctl, act := __src.act,
          gated := __src.gated, idleSince := __src.idleSince, busyAt := __src.busyAt, linkAt := __src.linkAt, wokeAt := __src.wokeAt,
          out := __src.out, handleImage := __src.handleImage, imageKeys := __src.imageKeys : State }).mbox.lattol <
  2) := ⟨by decide, rfl, by decide⟩
theorem witness_asleep :
    ((hot
      (fun t =>
        { state := TState.coldReady, band := t.band, refrate := t.refrate, tset := t.tset, clklow := t.clklow, cmdhold := t.cmdhold,
          pause := t.pause, fcause := t.fcause, tj := t.tj, tjSensor := t.tjSensor, grad := t.grad, mean := t.mean, slope := t.slope,
          sens := t.sens, subs := t.subs, evt := t.evt, faults := t.faults, holds := t.holds, cycles := t.cycles, dramce := t.dramce,
          sramce := t.sramce, ue := t.ue, lastTj := t.lastTj, sampledAt := t.sampledAt, ratedAt := t.ratedAt, bandSince := t.bandSince,
          coldSince := t.coldSince, switchAt := t.switchAt, applyAt := t.applyAt, means := t.means, rateOk := t.rateOk,
          gradPause := t.gradPause, coolantOk := t.coolantOk, coolantSince := t.coolantSince, coolantTaken := t.coolantTaken,
          setpoint := t.setpoint : Thermal })
      5).wokeAt ≠
  some
    (hot
        (fun t =>
          { state := TState.coldReady, band := t.band, refrate := t.refrate, tset := t.tset, clklow := t.clklow, cmdhold := t.cmdhold,
            pause := t.pause, fcause := t.fcause, tj := t.tj, tjSensor := t.tjSensor, grad := t.grad, mean := t.mean, slope := t.slope,
            sens := t.sens, subs := t.subs, evt := t.evt, faults := t.faults, holds := t.holds, cycles := t.cycles, dramce := t.dramce,
            sramce := t.sramce, ue := t.ue, lastTj := t.lastTj, sampledAt := t.sampledAt, ratedAt := t.ratedAt, bandSince := t.bandSince,
            coldSince := t.coldSince, switchAt := t.switchAt, applyAt := t.applyAt, means := t.means, rateOk := t.rateOk,
            gradPause := t.gradPause, coolantOk := t.coolantOk, coolantSince := t.coolantSince, coolantTaken := t.coolantTaken,
            setpoint := t.setpoint : Thermal })
        5).time) ∧
    ((hot
        (fun t =>
          { state := TState.coldReady, band := t.band, refrate := t.refrate, tset := t.tset, clklow := t.clklow, cmdhold := t.cmdhold,
            pause := t.pause, fcause := t.fcause, tj := t.tj, tjSensor := t.tjSensor, grad := t.grad, mean := t.mean, slope := t.slope,
            sens := t.sens, subs := t.subs, evt := t.evt, faults := t.faults, holds := t.holds, cycles := t.cycles, dramce := t.dramce,
            sramce := t.sramce, ue := t.ue, lastTj := t.lastTj, sampledAt := t.sampledAt, ratedAt := t.ratedAt, bandSince := t.bandSince,
            coldSince := t.coldSince, switchAt := t.switchAt, applyAt := t.applyAt, means := t.means, rateOk := t.rateOk,
            gradPause := t.gradPause, coolantOk := t.coolantOk, coolantSince := t.coolantSince, coolantTaken := t.coolantTaken,
            setpoint := t.setpoint : Thermal })
        5).thermal.state =
  TState.coldReady) ∧
    ((hot
      (fun t =>
        { state := TState.coldReady, band := t.band, refrate := t.refrate, tset := t.tset, clklow := t.clklow, cmdhold := t.cmdhold,
          pause := t.pause, fcause := t.fcause, tj := t.tj, tjSensor := t.tjSensor, grad := t.grad, mean := t.mean, slope := t.slope,
          sens := t.sens, subs := t.subs, evt := t.evt, faults := t.faults, holds := t.holds, cycles := t.cycles, dramce := t.dramce,
          sramce := t.sramce, ue := t.ue, lastTj := t.lastTj, sampledAt := t.sampledAt, ratedAt := t.ratedAt, bandSince := t.bandSince,
          coldSince := t.coldSince, switchAt := t.switchAt, applyAt := t.applyAt, means := t.means, rateOk := t.rateOk,
          gradPause := t.gradPause, coolantOk := t.coolantOk, coolantSince := t.coolantSince, coolantTaken := t.coolantTaken,
          setpoint := t.setpoint : Thermal })
      5).hasSession =
  false) ∧
    (2000 ≤
  BitVec.toNat
    (hot
          (fun t =>
            { state := TState.coldReady, band := t.band, refrate := t.refrate, tset := t.tset, clklow := t.clklow, cmdhold := t.cmdhold,
              pause := t.pause, fcause := t.fcause, tj := t.tj, tjSensor := t.tjSensor, grad := t.grad, mean := t.mean, slope := t.slope,
              sens := t.sens, subs := t.subs, evt := t.evt, faults := t.faults, holds := t.holds, cycles := t.cycles, dramce := t.dramce,
              sramce := t.sramce, ue := t.ue, lastTj := t.lastTj, sampledAt := t.sampledAt, ratedAt := t.ratedAt, bandSince := t.bandSince,
              coldSince := t.coldSince, switchAt := t.switchAt, applyAt := t.applyAt, means := t.means, rateOk := t.rateOk,
              gradPause := t.gradPause, coolantOk := t.coolantOk, coolantSince := t.coolantSince, coolantTaken := t.coolantTaken,
              setpoint := t.setpoint : Thermal })
          5).mbox.lattol) := ⟨by decide, rfl, rfl, by decide +kernel⟩
theorem witness_wake :
    ((let __src :=
        hot
          (fun t =>
            { state := TState.run, band := t.band, refrate := t.refrate, tset := t.tset, clklow := t.clklow, cmdhold := t.cmdhold,
              pause := t.pause, fcause := t.fcause, tj := t.tj, tjSensor := t.tjSensor, grad := t.grad, mean := t.mean, slope := t.slope,
              sens := t.sens, subs := t.subs, evt := t.evt, faults := t.faults, holds := t.holds, cycles := t.cycles, dramce := t.dramce,
              sramce := t.sramce, ue := t.ue, lastTj := t.lastTj, sampledAt := t.sampledAt, ratedAt := t.ratedAt, bandSince := t.bandSince,
              coldSince := t.coldSince, switchAt := t.switchAt, applyAt := t.applyAt, means := t.means, rateOk := t.rateOk,
              gradPause := t.gradPause, coolantOk := t.coolantOk, coolantSince := t.coolantSince, coolantTaken := t.coolantTaken,
              setpoint := t.setpoint : Thermal })
          5;
      { time := __src.time, agenda := __src.agenda, cur := __src.cur, lits := __src.lits, freeCtr := __src.freeCtr,
        thermal := __src.thermal, dram := __src.dram, scrubbed := __src.scrubbed, dramSince := __src.dramSince, llc := __src.llc,
        llcLast := __src.llcLast, layoutTlb := __src.layoutTlb, poison := __src.poison, leases := __src.leases, home := __src.home,
        writes := __src.writes, nextWrite := __src.nextWrite, nextPlace := __src.nextPlace, hostMem := __src.hostMem,
        hostReqs := __src.hostReqs, accesses := __src.accesses, nextAccess := __src.nextAccess, dies := __src.dies,
        clusters := __src.clusters, cores := __src.cores, ctxs := __src.ctxs, nextAge := __src.nextAge, gangs := __src.gangs,
        nextGang := __src.nextGang, chans := __src.chans, ports := __src.ports, oxEast := __src.oxEast, oxWest := __src.oxWest,
        gaugeQ := __src.gaugeQ, seals := __src.seals, recReqs := __src.recReqs, writeWaits := __src.writeWaits, barWaits := __src.barWaits,
        posts := __src.posts, succs := __src.succs, nextId := __src.nextId, sess := __src.sess, mbox := __src.mbox, log := __src.log,
        logCount := __src.logCount, tbctl := __src.tbctl, act := 2#2, gated := __src.gated, idleSince := __src.idleSince,
        busyAt := __src.busyAt, linkAt := __src.linkAt, wokeAt := __src.wokeAt, out := __src.out, handleImage := __src.handleImage,
        imageKeys := __src.imageKeys : State }).thermal.state =
  TState.run) := rfl

/-! ### Witnesses: results, traps and the whole machine -/

theorem calm_cx : cx.Calm := ⟨fun _ h => (List.not_mem_nil h).elim, fun _ => rfl, rfl, rfl, rfl, rfl⟩
theorem calm_vx : vx.Calm := ⟨fun _ h => (List.not_mem_nil h).elim, fun _ => rfl, rfl, rfl, rfl, rfl⟩
/-- A context that no trap has entered, at 0x10000. -/
def tx : Ctx := { cx with tcause := 0#64, flight := [⟨9, .scalar (.a 3) 7#64⟩] }
/-- A module whose page of 1 GiB holds a trap vector at 0x18000 and a bundle of NOP at 0x10000. -/
def trapping : State :=
  let s := (staged {}).modDie 0 fun d => { d with tvec := 0x18000#64 }
  let s := (s.writeEverywhere startBitBase [1#8]).writeEverywhere (startBitBase + (0x8000 + 64 * 0x13) / 32) [1#8]
  { s.writeEverywhere 0x10000 (toBytes 4 0x80000000 ++ toBytes 4 0 ++ toBytes 4 0xFF000000) with ctxs := [(0, some tx)] }
theorem issues_tx : trapping.Issues tx := issues_of _ _ rfl rfl rfl rfl rfl ⟨rfl, rfl, rfl, rfl⟩ rfl
/-- A TRAP with an immediate, and the request that it makes. -/
def trap1 : TrapReq := { code := 0x13, arg := 0x42#64, slot := some 0 }
/-- A module whose context stands before a bundle of one NOP. -/
def stepping : State := { trapping with ctxs := [(0, some { tx with flight := [] })] }
/-- What a step leaves. -/
def stepOf (s : State) : State := match step s with | .next t => t | _ => s
theorem stepping_ready : ∀ (q : Nat) (y : Ctx), q < 4 → (stepping.tick 1).ctx (4 * (0 / 4) + q) = some y → y.run ≠ .draining := by
  intro q y h e
  have r : ∀ q : Fin 4, ((stepping.tick 1).ctx (4 * (0 / 4) + q.val)).all (fun y => decide (y.run ≠ .draining)) = true := by decide +kernel
  have := r ⟨q, h⟩
  rw [e] at this
  simpa using this
theorem stepping_words : ∀ (k : Nat) (w : W32), ([0x80000000#32, 0#32, 0xFF000000#32] : List W32)[k]? = some w →
    (stepping.tick 1).fetchWord 0 true (0x10000#48 + BitVec.ofNat 48 (4 * k)) = .ok w := by
  intro k w h
  match k with
  | 0 => cases h; exact val_of (by decide +kernel)
  | 1 => cases h; exact val_of (by decide +kernel)
  | 2 => cases h; exact val_of (by decide +kernel)
  | k + 3 => cases h
/-- A context with a result due at the count that issues, and one due later. -/
def flying (w : Landing) : Ctx := { cx with flight := [⟨0, w⟩, ⟨9, .scalar (.a 6) 1#64⟩] }
theorem calm_flying (w : Landing) : ({ flying w with flight := [⟨9, .scalar (.a 6) 1#64⟩] } : Ctx).Calm :=
  ⟨fun f h => by cases List.mem_singleton.mp h; exact Nat.zero_lt_succ 8, fun _ => rfl, rfl, rfl, rfl, rfl⟩
/-- Results for a register of each file, a latch, a constant, a vector, a predicate and FMT. -/
def landings : List Landing :=
  [.scalar (.a 3) 35#64, .scalar (.b 3) 35#64, .scalar (.d 3) 35#64, .scalar (.e 3) 35#64, .scalar (.m 3) 35#64, .scalar (.j 3) 35#64,
    .scalar (.latch 1 7) 35#64, .scalar (.const 3) 35#64, .vector (.vreg false 3) (Vec.splat 7#32) 5#64, .vector (.vlatch true 3) (Vec.splat 7#32) 5#64,
    .predicate 11 5#64 7#64, .predicate 12 5#64 7#64, .fmt 5#64]
theorem witness_lands : ∀ w ∈ landings, w.isRegister = true ∧ (flying w).flight = [] ++ ⟨(flying w).count, w⟩ :: [⟨9, .scalar (.a 6) 1#64⟩] ∧
    ({ flying w with flight := [⟨9, .scalar (.a 6) 1#64⟩] } : Ctx).Calm ∧ (st (flying w)).Issues (flying w) ∧ (st (flying w)).barWaits = [] ∧
    (st (flying w)).Completes (flying w) (.nop (ctl 0 0 0)) none id := by
  intro w h
  have hi : (st (flying w)).Issues (flying w) := issues_of _ _ rfl rfl rfl rfl rfl ⟨rfl, rfl, rfl, rfl⟩ rfl
  refine ⟨(by decide : ∀ w ∈ landings, w.isRegister = true) w h, rfl, calm_flying w, hi, rfl, ?_⟩
  exact isState_eq ((by decide +kernel : ∀ w ∈ landings, isState (exec (.nop (ctl 0 0 0)) (st (flying w)))
    ((st (flying w)).issued (flying w) (.nop (ctl 0 0 0)) none id) = true) w h)
/-! Variants of the values above that the witnesses name. -/
def v13a := { cx with b := [(1, 4#64)] }
def v13b := { sreg 3 1 2 with slot := .s1 }
def v13c := { trapping with ctxs := [(0, some cx)] }
def v13d := { sreg 3 1 2 with g := g1 }
def v13e := { sreg 3 1 2 with q := 4#3, rd := 9#6 }
def v13f := { tx with flight := [] }
theorem witness_turn : ({ State.reset with agenda := [⟨3, .portDown 0⟩] } : State).agenda = [⟨3, .portDown 0⟩] := rfl

theorem witness_lands_later :
    (st cx).Issues cx ∧
    (st cx).barWaits = [] ∧
    (Instr.mul (sreg 3 1 2)).parts.isSome = true ∧
    (∀ (f : CForm), Instr.mul (sreg 3 1 2) ≠ Instr.done f ∧ Instr.mul (sreg 3 1 2) ≠ Instr.rft f ∧ Instr.mul (sreg 3 1 2) ≠ Instr.yield f) ∧
    cx.Calm ∧
    2 ≤ 3 ∧
    (st cx).Yields cx (Instr.mul (sreg 3 1 2)) 3 (Landing.scalar (Dest.a 3) 35#64) := ⟨issues_cx, rfl, rfl, fun _ => ⟨nofun, nofun, nofun⟩, calm_cx, by decide, isState_eq (by decide +kernel)⟩
theorem witness_lands_next :
    (st cx).Issues cx ∧
    (st cx).barWaits = [] ∧
    (Instr.add (sreg 3 1 2)).parts.isSome = true ∧
    (∀ (f : CForm), Instr.add (sreg 3 1 2) ≠ Instr.done f ∧ Instr.add (sreg 3 1 2) ≠ Instr.rft f ∧ Instr.add (sreg 3 1 2) ≠ Instr.yield f) ∧
    cx.Calm ∧
    (Landing.scalar (Dest.a 3) 12#64).isRegister = true ∧
    (st cx).Yields cx (Instr.add (sreg 3 1 2)) 1 (Landing.scalar (Dest.a 3) 12#64) := ⟨issues_cx, rfl, rfl, fun _ => ⟨nofun, nofun, nofun⟩, calm_cx, rfl, isState_eq (by decide +kernel)⟩
theorem witness_lands_next_b :
    (st v13a).Issues v13a ∧
    (st v13a).barWaits = [] ∧
    (Instr.add v13b).parts.isSome = true ∧
    (∀ (f : CForm), Instr.add v13b ≠ Instr.done f ∧ Instr.add v13b ≠ Instr.rft f ∧ Instr.add v13b ≠ Instr.yield f) ∧
    v13a.Calm ∧
    (Landing.scalar (Dest.b 3) 4#64).isRegister = true ∧
    (st v13a).Yields v13a (Instr.add v13b) 1 (Landing.scalar (Dest.b 3) 4#64) := ⟨issues_of _ _ rfl rfl rfl rfl rfl ⟨rfl, rfl, rfl, rfl⟩ rfl, rfl, rfl, fun _ => ⟨nofun, nofun, nofun⟩, ⟨fun _ h => (List.not_mem_nil h).elim, fun _ => rfl, rfl, rfl, rfl, rfl⟩, rfl, isState_eq (by decide +kernel)⟩
theorem witness_vote_writes :
    (st vx).Issues vx ∧
    vx.Calm ∧
    (st vx).barWaits = [] ∧
    vx.Guarded { g := always, j := 0#2, pd := 11#4, pe := 1#4, x := 0#8, imm := 0#20 : CForm }.g ∧
    { g := always, j := 0#2, pd := 11#4, pe := 1#4, x := 0#8, imm := 0#20 : CForm }.j = 0#2 ∧
    { g := always, j := 0#2, pd := 11#4, pe := 1#4, x := 0#8, imm := 0#20 : CForm }.imm = 0#20 ∧
    { g := always, j := 0#2, pd := 11#4, pe := 1#4, x := 0#8, imm := 0#20 : CForm }.x = 0#8 := ⟨issues_vx, calm_vx, rfl, rfl, rfl, rfl, rfl⟩
theorem witness_vote_ignored :
    (st vx).Issues vx ∧
    vx.Calm ∧
    (st vx).barWaits = [] ∧
    vx.Guarded { g := always, j := 0#2, pd := 12#4, pe := 1#4, x := 0#8, imm := 0#20 : CForm }.g ∧
    { g := always, j := 0#2, pd := 12#4, pe := 1#4, x := 0#8, imm := 0#20 : CForm }.j = 0#2 ∧
    { g := always, j := 0#2, pd := 12#4, pe := 1#4, x := 0#8, imm := 0#20 : CForm }.imm = 0#20 ∧
    { g := always, j := 0#2, pd := 12#4, pe := 1#4, x := 0#8, imm := 0#20 : CForm }.x = 0#8 := ⟨issues_vx, calm_vx, rfl, rfl, rfl, rfl, rfl⟩
theorem witness_trap_delivered :
    trapping.Issues tx ∧
    trapping.Traps tx (Instr.trap (ctl 0 0 66)) trap1 ∧
    trap1.code < 256 ∧
    BitVec.getLsbD tx.tcause 25 = false ∧
    trapping.tvec (ctxDie trapping.cur) ≠ 0#64 ∧
    trapping.translate (ctxCluster trapping.cur) true Perm.fetch (BitVec.toNat (trapping.tvec (ctxDie trapping.cur)) + 64 * trap1.code) =
  Xlat.ok 99520 ∧
    trapping.startBit 99520 = true ∧
    trap1.mark = none ∧
    tx.join = none := ⟨issues_tx, isState_eq (by decide +kernel), by decide, rfl, by decide +kernel, by decide +kernel, by decide +kernel, rfl, rfl⟩
theorem witness_trap_fault :
    (st ux).Issues ux ∧
    (st ux).Traps ux (Instr.trap (ctl 0 0 66)) trap1 ∧
    trap1.code < 256 ∧
    (st ux).tvec (ctxDie (st ux).cur) = 0#64 := ⟨issues_ux, rfl, by decide, by decide +kernel⟩
theorem witness_guard_false :
    (st cx).Issues cx ∧
    ¬cx.Guarded v13d.g := ⟨issues_cx, by unfold Ctx.Guarded; decide⟩
theorem witness_operand_trap :
    (st cx).Issues cx ∧
    cx.Guarded v13e.g ∧
    firstBad (sregChecks v13e true true true) = some { bad := true, field := 0, value := 9 : Check } := ⟨issues_cx, rfl, rfl⟩
theorem witness_supervisor_only :
    (st ux).Issues ux ∧
    ux.Guarded (ctl 0 0 0).g ∧
    ux.sup = false := ⟨issues_ux, rfl, rfl⟩
theorem witness_special_supervisor :
    (st ux).Issues ux ∧
    ux.Guarded (simm 3 0 16).g ∧
    ux.sup = false ∧
    specialSup ((simm 3 0 16).imm.toNat % 4096) = true ∧
    (simm 3 0 16).imm.toNat < 4096 ∧
    NoBad (simmChecks (simm 3 0 16) true false) := ⟨issues_ux, rfl, rfl, by decide +kernel, by decide, rfl⟩
theorem witness_step :
    stepping.agenda = [] ∧
    stepping.cur = 0 ∧
    (stepping.tick 1).readyOrder (0 / 4) = [(0, v13f)] ∧
    (∀ (q : Nat) (y : Ctx), q < 4 → (stepping.tick 1).ctx (4 * (0 / 4) + q) = some y → y.run ≠ RunState.draining) ∧
    v13f.spin = 0 ∧
    v13f.loops.skip = 0 ∧
    decodeHeader 2147483648#32 =
  Except.ok
    (have __src := Header.single Slot.c;
    { present := __src.present, release := __src.release, repeats := __src.repeats, lits := BitVec.ofNat 2 stepping.lits.length : Header }) ∧
    stepping.lits.length < 4 ∧
    decodeSyllable Slot.c (4278190080#32 ++ 0#32) = Except.ok (Instr.nop (ctl 0 0 0)) ∧
    (stepping.tick 1).fetchHeld 0 v13f.sup v13f.pc (Except.ok (shownAlone stepping (Instr.nop (ctl 0 0 0)))) = false ∧
    (∀ (k : Nat) (w : W32),
  (2147483648#32 :: 0#32 :: 4278190080#32 :: stepping.lits)[k]? = some w →
    (stepping.tick 1).fetchWord 0 v13f.sup (v13f.pc + BitVec.ofNat 48 (4 * k)) = Except.ok w) := ⟨rfl, rfl, by decide +kernel, stepping_ready, rfl, rfl, rfl, by decide, rfl, by decide +kernel, stepping_words⟩
theorem witness_round_trip :
    (Instr.add (sreg 3 1 2)).wf = true ∧
    (Instr.add (sreg 3 1 2)).parts.isSome = true := ⟨rfl, rfl⟩
theorem witness_step_keeps :
    State.reset.memWf = true ∧
    step State.reset = Host.Outcome.next (stepOf State.reset) := ⟨by decide +kernel, rfl⟩

end Sys2Proof.Tests
end

namespace Sys2Proof.Machine

/-! ### A guarded operation alone in its bundle -/

/-- A slot operation under the guard `g` that does nothing before its bundle issues. -/
structure ActsUnder (i : Instr) (g : Guard) : Prop where
  encoded : i.parts.isSome = true
  atIssue : showsFirst i = false
  guard : (Instr.slotPart i).2.2 = g

theorem envAlone_guarded {s : State} {x : Ctx} {i : Instr} {g : Guard} (ha : ActsUnder i g) (hg : x.Guarded g) :
    (s.envAlone x i).g.getLsbD 0 = true := by
  obtain ⟨-, -, rfl⟩ := ha
  exact hg

theorem completes_of_guarded {s : State} {x : Ctx} {i : Instr} {g : Guard} {cs : List Check} {tok : Option Nat} {k : State → State}
    (hs : s.Issues x) (hg : x.Guarded g) (hn : NoBad cs)
    (he : evalInstr i (s.envAlone x i) = (s.envAlone x i).guarded cs (.act tok k))
    (ha : ActsUnder i g := by exact ⟨rfl, rfl, rfl⟩) : s.Completes x i tok k :=
  completes_of_answer ha.encoded hs ha.atIssue (he.trans (Env.guarded_of _ cs _ (envAlone_guarded ha hg) hn))

theorem traps_of_bad_field {s : State} {x : Ctx} {i : Instr} {g : Guard} {cs : List Check} {c : Check} {k : SlotOut}
    (hs : s.Issues x) (hg : x.Guarded g) (hc : firstBad cs = some c)
    (he : evalInstr i (s.envAlone x i) = (s.envAlone x i).guarded cs k)
    {n : Nat} (hsl : (Instr.slotPart i).1.num = n) (ha : ActsUnder i g := by exact ⟨rfl, rfl, rfl⟩) :
    ∃ a, s.Traps x i { code := 0x02, arg := a, slot := some n } := by
  subst hsl
  exact ⟨_, traps_of_answer ha.encoded hs ha.atIssue (.inr rfl) (.inl nofun)
    (he.trans (Env.guarded_bad _ cs k c (envAlone_guarded ha hg) hc))⟩

/-! ### Lists of field checks (R263) -/

@[simp] theorem noBad_nil : NoBad [] := rfl

@[simp] theorem noBad_cons {c : Check} {cs : List Check} : NoBad (c :: cs) ↔ c.bad = false ∧ NoBad cs := by
  simp only [noBad_iff, List.forall_mem_cons]

@[simp] theorem noBad_append {cs ds : List Check} : NoBad (cs ++ ds) ↔ NoBad cs ∧ NoBad ds := by
  simp only [noBad_iff, List.forall_mem_append]

theorem firstBad_append_bad {cs : List Check} (c : Check) (hc : NoBad cs) (hb : c.bad = true) : firstBad (cs ++ [c]) = some c := by
  induction cs with
  | nil => simp only [List.nil_append, firstBad, hb, ↓reduceIte]
  | cons d ds ih =>
    obtain ⟨hd, hds⟩ := noBad_cons.mp hc
    simp only [List.cons_append, firstBad, ih hds, hd, Bool.false_and, Bool.false_eq_true, ↓reduceIte]

/-! ### Bit fields of a word (R3) -/

theorem bits_eq {w : Nat} (v : BitVec w) (hi lo : Nat) : bits v hi lo = v.toNat / 2 ^ lo % 2 ^ (hi - lo + 1) := by
  rw [bits, Nat.shiftRight_eq_div_pow]

theorem bits_from_zero {w : Nat} (v : BitVec w) (hi : Nat) : bits v hi 0 = v.toNat % 2 ^ (hi + 1) := rfl

theorem bits_eq_zero_of_div {w : Nat} {v : BitVec w} (hi lo : Nat) (h : v.toNat / 2 ^ lo = 0) : bits v hi lo = 0 := by
  rw [bits_eq, h, Nat.zero_mod]

/-! ### The three common forms of a scalar operation (R366, R367) -/

section forms
variable {s : State} {x : Ctx} {i : Instr} {r : W64} (hs : s.Issues x)
include hs

theorem yields_sBinary {f : SReg} {lat : Nat} {op : W64 → W64 → W64} (hg : x.Guarded f.g)
    (hn : NoBad (sregChecks f true true true)) (he : ∀ e, evalInstr i e = sBinary lat op f e) (hr : op (x.rs1 f) (x.rs2 f) = r)
    (ha : ActsUnder i f.g := by exact ⟨rfl, rfl, rfl⟩) : s.Yields x i lat (.scalar (sregDest f) r) := by
  subst hr
  exact completes_of_guarded hs hg hn (he _) ha

theorem yields_sUnary {f : SReg} {op : W64 → W64} (hg : x.Guarded f.g)
    (hn : NoBad (sregChecks f true true false)) (he : ∀ e, evalInstr i e = sUnary op f e) (hr : op (x.rs1 f) = r)
    (ha : ActsUnder i f.g := by exact ⟨rfl, rfl, rfl⟩) : s.Yields x i 1 (.scalar (sregDest f) r) := by
  subst hr
  exact completes_of_guarded hs hg hn (he _) ha

theorem yields_sImmediate {f : SImm} {op : W64 → BitVec 20 → W64} (hg : x.Guarded f.g)
    (hn : NoBad (simmChecks f true true)) (he : ∀ e, evalInstr i e = sImmediate op f e) (hr : op (x.irs1 f) f.imm = r)
    (ha : ActsUnder i f.g := by exact ⟨rfl, rfl, rfl⟩) : s.Yields x i 1 (.scalar (simmDest f) r) := by
  subst hr
  exact completes_of_guarded hs hg hn (he _) ha

end forms

/-! ### Values of the arithmetic operations (R368, R369) -/

theorem sub_eq_ofInt (a b : W64) : a - b = BitVec.ofInt 64 (a.toInt - b.toInt) := by
  simp only [BitVec.sub_eq_add_neg, Int.sub_eq_add_neg, BitVec.ofInt_add, BitVec.ofInt_neg, BitVec.ofInt_toInt]

theorem mul_eq_ofInt (a b : W64) : a * b = BitVec.ofInt 64 (a.toInt * b.toInt) := by
  simp only [BitVec.ofInt_mul, BitVec.ofInt_toInt]

theorem add_signExtend_eq_ofInt (a : W64) (i : BitVec 20) : a + i.signExtend 64 = BitVec.ofInt 64 (a.toNat + i.toInt) := by
  simp only [BitVec.signExtend, BitVec.ofInt_add, BitVec.ofInt_natCast, BitVec.ofNat_toNat, BitVec.setWidth_eq]

/-- A remainder is what the truncated quotient leaves. -/
theorem remSigned_of_ne_zero {a b : W64} (hb : b ≠ 0#64) :
    remSigned a b = a - BitVec.ofInt 64 (Int.tdiv a.toInt b.toInt) * b := by
  simp only [remSigned, hb, ↓reduceIte, Int.tmod_def, Int.sub_eq_add_neg, BitVec.sub_eq_add_neg, BitVec.ofInt_add, BitVec.ofInt_neg,
    BitVec.ofInt_mul, BitVec.ofInt_toInt, BitVec.mul_comm]

/-- Settles O1: each operation is one of the common forms of R366, and its value is that of R368 or R369. -/
theorem scalarArithmeticResults : Obligations.ScalarArithmeticResults := by
  refine ⟨?_, ?_, ?_⟩
  · rintro s x f hs hg hn a b rfl rfl
    exact ⟨yields_sBinary hs hg hn (evalInstr_add f) (BitVec.add_def _ _), yields_sBinary hs hg hn (evalInstr_sub f) (sub_eq_ofInt _ _),
      yields_sBinary hs hg hn (evalInstr_mul f) (mul_eq_ofInt _ _), yields_sBinary hs hg hn (evalInstr_mulh f) rfl,
      yields_sBinary hs hg hn (evalInstr_mulhn f) rfl⟩
  · intro s x f hs hg hn
    exact yields_sImmediate hs hg hn (evalInstr_addi f) (add_signExtend_eq_ofInt _ _)
  · rintro s x f hs hg hn a b rfl rfl
    constructor
    · intro hb
      exact ⟨yields_sBinary hs hg hn (evalInstr_div f) (if_pos hb), yields_sBinary hs hg hn (evalInstr_divn f) (if_pos hb),
        yields_sBinary hs hg hn (evalInstr_rem f) (if_pos hb)⟩
    · intro hb
      exact ⟨yields_sBinary hs hg hn (evalInstr_div f) (if_neg hb), yields_sBinary hs hg hn (evalInstr_divn f) (if_neg hb),
        yields_sBinary hs hg hn (evalInstr_rem f) (remSigned_of_ne_zero hb)⟩

/-! ### Values of the logic operations, shifts, counts and extremes (R370) -/

theorem shiftOf_eq (b : W64) : shiftOf b = b.toNat % 64 := bits_from_zero b 5

/-- The signed minimum, whichever side the compare favours where both are equal. -/
theorem signedMin_eq_slt (a b : W64) : (if b.toInt < a.toInt then b else a) = if a.slt b then a else b := by
  simp only [BitVec.slt_iff_toInt_lt]
  rcases Int.lt_trichotomy a.toInt b.toInt with h | h | h
  · rw [if_neg (Int.lt_asymm h), if_pos h]
  · rw [BitVec.toInt_inj.mp h]
  · rw [if_pos h, if_neg (Int.lt_asymm h)]

theorem signedMax_eq_slt (a b : W64) : (if a.toInt < b.toInt then b else a) = if a.slt b then b else a := by
  simp only [BitVec.slt_iff_toInt_lt]

theorem unsignedMin_eq_ult (a b : W64) : (if b.toNat < a.toNat then b else a) = if a.ult b then a else b := by
  simp only [BitVec.ult_iff_lt, BitVec.lt_def]
  rcases Nat.lt_trichotomy a.toNat b.toNat with h | h | h
  · rw [if_neg (Nat.lt_asymm h), if_pos h]
  · rw [BitVec.eq_of_toNat_eq h]
  · rw [if_pos h, if_neg (Nat.lt_asymm h)]

theorem unsignedMax_eq_ult (a b : W64) : (if a.toNat < b.toNat then b else a) = if a.ult b then b else a := by
  simp only [BitVec.ult_iff_lt, BitVec.lt_def]

/-- CLZ: with the counted zeros at the top, the highest set bit below them. -/
theorem countLeading_spec (a : W64) : ∃ n : Nat, n ≤ 64 ∧ countLeading a = BitVec.ofNat 64 n ∧
    (∀ i, 64 - n ≤ i → a.getLsbD i = false) ∧ (n < 64 → a.getLsbD (63 - n) = true) := by
  by_cases ha : a = 0#64
  · exact ⟨64, Nat.le_refl 64, if_pos ha, fun i _ => by simp only [ha, BitVec.getLsbD_zero], fun h => absurd h (Nat.lt_irrefl 64)⟩
  · have hne : a.toNat ≠ 0 := fun h => ha (BitVec.eq_of_toNat_eq h)
    have hlog : Nat.log2 a.toNat < 64 := (Nat.log2_lt hne).mpr a.isLt
    refine ⟨63 - Nat.log2 a.toNat, by omega, if_neg ha, fun i hi => ?_, fun _ => ?_⟩
    · exact Nat.testBit_lt_two_pow (Nat.lt_of_lt_of_le Nat.lt_log2_self (Nat.pow_le_pow_right Nat.two_pos (by omega)))
    · rw [show 63 - (63 - Nat.log2 a.toNat) = Nat.log2 a.toNat by omega]
      exact Nat.testBit_log2 hne

/-- Settles O2: each operation is one of the common forms of R366, and its value is that of R370. -/
theorem scalarLogicResults : Obligations.ScalarLogicResults := by
  refine ⟨?_, ?_, ?_⟩
  · rintro s x f hs hg hn a b rfl rfl
    rw [← shiftOf_eq]
    exact ⟨yields_sBinary hs hg hn (evalInstr_and f) rfl, yields_sBinary hs hg hn (evalInstr_or f) rfl,
      yields_sBinary hs hg hn (evalInstr_xor f) rfl, yields_sBinary hs hg hn (evalInstr_andn f) rfl,
      yields_sBinary hs hg hn (evalInstr_shl f) rfl, yields_sBinary hs hg hn (evalInstr_shr f) rfl,
      yields_sBinary hs hg hn (evalInstr_sar f) rfl, yields_sBinary hs hg hn (evalInstr_rot f) rfl,
      yields_sBinary hs hg hn (evalInstr_min f) (signedMin_eq_slt _ _), yields_sBinary hs hg hn (evalInstr_max f) (signedMax_eq_slt _ _),
      yields_sBinary hs hg hn (evalInstr_minn f) (unsignedMin_eq_ult _ _),
      yields_sBinary hs hg hn (evalInstr_maxn f) (unsignedMax_eq_ult _ _)⟩
  · rintro s x f hs hg hn a rfl
    rw [BitVec.ofNat_toNat]
    exact ⟨yields_sImmediate hs hg hn (evalInstr_andi f) rfl, yields_sImmediate hs hg hn (evalInstr_ori f) rfl,
      yields_sImmediate hs hg hn (evalInstr_xori f) rfl⟩
  · rintro s x f hs hg hn a rfl
    obtain ⟨n, hn64, hclz, hzeros, hone⟩ := countLeading_spec (x.rs1 f)
    exact ⟨⟨n, hn64, yields_sUnary hs hg hn (evalInstr_clz f) hclz, hzeros, hone⟩, yields_sUnary hs hg hn (evalInstr_popc f) rfl⟩

/-! ### Values of the field operations (R371, R372) -/

theorem signedOf_eq_toInt (w n : Nat) : signedOf w n = (BitVec.ofNat w n).toInt := by
  rw [BitVec.toInt_eq_toNat_cond, signedOf, BitVec.toNat_ofNat]
  cases w with
  | zero => simp only [Nat.pow_zero, Nat.mod_one, Nat.zero_le, Nat.sub_eq_zero_of_le, Nat.lt_add_one, ↓reduceIte, Int.cast_ofNat_Int, Nat.mul_zero]
  | succ w =>
    have hhalf : n % 2 ^ (w + 1) < 2 ^ w ↔ 2 * (n % 2 ^ (w + 1)) < 2 ^ (w + 1) := by omega
    simp only [Nat.add_sub_cancel, hhalf, Int.natCast_pow, Int.cast_ofNat_Int]

theorem signedOf_shiftRight (a : W64) (lo w : Nat) : signedOf w (a >>> lo).toNat = (a.extractLsb' lo w).toInt := by
  rw [signedOf_eq_toInt]
  rfl

theorem getLsbD_lowBits {i : Nat} (w : Nat) (a : W64) (hi : i < 64) : (lowBits w a).getLsbD i = (decide (i < w) && a.getLsbD i) := by
  rw [lowBits, BitVec.getLsbD_ofNat, Nat.testBit_mod_two_pow, BitVec.testBit_toNat, decide_eq_true hi, Bool.true_and]

/-- EXT copies the field to the low bits and fills the rest with zeros, or with the highest bit of the field. -/
theorem getLsbD_extractField {i w : Nat} (a : W64) (lo : Nat) (sx : Bool) (hw : 0 < w) (hi : i < 64) :
    (extractField a lo w sx).getLsbD i = if i < w then a.getLsbD (lo + i) else (sx && a.getLsbD (lo + w - 1)) := by
  cases sx with
  | false =>
    rw [extractField, if_neg Bool.false_ne_true, getLsbD_lowBits w _ hi, BitVec.getLsbD_ushiftRight]
    by_cases hiw : i < w <;> simp only [hiw, decide_true, decide_false, Bool.true_and, Bool.false_and, ↓reduceIte]
  | true =>
    rw [extractField, if_pos rfl, signedOf_shiftRight, ← BitVec.signExtend, BitVec.getLsbD_signExtend, BitVec.msb_eq_getLsbD_last,
      BitVec.getLsbD_extractLsb', BitVec.getLsbD_extractLsb', Nat.add_sub_assoc hw]
    by_cases hiw : i < w <;> simp only [hiw, hi, Nat.sub_lt hw Nat.one_pos, decide_true, Bool.true_and, ↓reduceIte]

/-- INS replaces the field by the low bits of the source. -/
theorem getLsbD_insertField {i : Nat} (old a : W64) (lo w : Nat) (hi : i < 64) :
    (insertField old a lo w).getLsbD i = if lo ≤ i ∧ i < lo + w then a.getLsbD (i - lo) else old.getLsbD i := by
  have hmask : (lowBits w (BitVec.allOnes 64) <<< lo).getLsbD i = decide (lo ≤ i ∧ i < lo + w) := by
    rw [BitVec.getLsbD_shiftLeft, getLsbD_lowBits w _ (by omega), BitVec.getLsbD_allOnes, Bool.eq_iff_iff]
    simp only [Bool.and_eq_true, Bool.not_eq_true', decide_eq_true_eq, decide_eq_false_iff_not]
    omega
  simp only [insertField, BitVec.getLsbD_or, BitVec.getLsbD_and, BitVec.getLsbD_not, BitVec.getLsbD_shiftLeft, hmask]
  by_cases hfield : lo ≤ i ∧ i < lo + w
  · simp only [hfield, Nat.not_lt.mpr hfield.1, hi, and_self, decide_true, decide_false, Bool.not_true, Bool.not_false, Bool.and_true,
      Bool.and_false, Bool.true_and, Bool.false_or, ↓reduceIte]
  · simp only [hfield, hi, decide_true, decide_false, Bool.not_false, Bool.and_true, Bool.and_false, Bool.true_and, Bool.or_false,
      ↓reduceIte]

/-! ### The operations on fields and constants (R371, R372) -/

theorem SSlot.slot_num (sl : SSlot) : sl.slot.num = if sl = .s0 then 1 else 2 := by
  cases sl <;> rfl

/-- The checks of LIL and LIH where the unused bits are zero. -/
theorem noBad_unused {cs : List Check} {unused field value : Nat} (hn : NoBad cs) (hu : unused = 0) :
    NoBad (cs ++ [⟨unused != 0, field, value⟩]) := by
  simp only [noBad_append, noBad_cons, noBad_nil, hn, hu, bne_self_eq_false, and_self]

/-- The checks of SHADD and SEL where the immediate names a good source and its unused bits are zero. -/
theorem noBad_source_and_unused {cs : List Check} {bad : Bool} {unused sf sv field value : Nat} (hn : NoBad cs) (hl : bad = false)
    (hu : unused = 0) : NoBad (cs ++ [⟨bad, sf, sv⟩, ⟨unused != 0, field, value⟩]) := by
  simp only [noBad_append, noBad_cons, noBad_nil, hn, hl, hu, bne_self_eq_false, and_self]

/-- The checks of EXT and INS where the unused bits are zero and the field ends within the word. -/
theorem noBad_fields_fit {cs : List Check} {unused len field value : Nat} (hn : NoBad cs) (hu : unused = 0) (hfit : len ≤ 64) :
    NoBad (cs ++ [⟨unused != 0 || decide (64 < len), field, value⟩]) := by
  simp only [noBad_append, noBad_cons, noBad_nil, hn, hu, bne_self_eq_false, Nat.not_lt.mpr hfit, decide_false, Bool.or_self, and_self]

theorem envAlone_immRs2 (s : State) (x : Ctx) (i : Instr) (f : SImm) : (s.envAlone x i).immRs2 f = x.immRs2 f := by
  simp only [Env.immRs2, Env.sread, Ctx.immRs2, State.envAlone_x, BitVec.extractLsb'_toNat, Nat.shiftRight_zero]

section fields
variable {s : State} {x : Ctx} {f : SImm} (hs : s.Issues x) (hg : x.Guarded f.g)
include hs hg

theorem yields_shadd (hn : NoBad (simmChecks f true true)) (hl : immRs2Bad f = false) (himm : f.imm.toNat / 8192 = 0) :
    s.Yields x (.shadd f) 1 (.scalar (simmDest f) ((x.irs1 f <<< (f.imm.toNat / 128 % 64)) + x.immRs2 f)) := by
  have hfield : bits f.imm 12 7 = f.imm.toNat / 128 % 64 := bits_eq f.imm 12 7
  rw [← envAlone_immRs2 s x (.shadd f), ← hfield]
  exact completes_of_guarded hs hg (noBad_source_and_unused hn hl (bits_eq_zero_of_div 19 13 himm)) rfl

theorem yields_ext {lo w : Nat} (hlo : bits f.imm 5 0 = lo) (hw : bits f.imm 11 6 + 1 = w) (hn : NoBad (simmChecks f true true))
    (himm : f.imm.toNat / 8192 = 0) (hfit : lo + w ≤ 64) :
    s.Yields x (.ext f) 1 (.scalar (simmDest f) (extractField (x.irs1 f) lo w (f.imm.getLsbD 12))) := by
  subst hlo hw
  exact completes_of_guarded hs hg (noBad_fields_fit hn (bits_eq_zero_of_div 19 13 himm) hfit) rfl

theorem yields_ins {lo w : Nat} (hlo : bits f.imm 5 0 = lo) (hw : bits f.imm 11 6 + 1 = w) (hn : NoBad (simmChecks f true true))
    (himm : f.imm.toNat / 4096 = 0) (hfit : lo + w ≤ 64) :
    s.Yields x (.ins f) 1 (.scalar (simmDest f) (insertField (x.ird f) (x.irs1 f) lo w)) := by
  subst hlo hw
  exact completes_of_guarded hs hg (noBad_fields_fit hn (bits_eq_zero_of_div 19 12 himm) hfit) rfl

theorem yields_lil {q : Nat} (hq : bits f.imm 17 16 = q) (hn : NoBad (simmChecks f true false)) (himm : f.imm.toNat / 262144 = 0) :
    s.Yields x (.lil f) 1 (.scalar (simmDest f) (BitVec.ofNat 64 (f.imm.toNat % 65536) <<< (16 * q))) := by
  subst hq
  exact completes_of_guarded hs hg (noBad_unused hn (bits_eq_zero_of_div 19 18 himm)) rfl

theorem yields_lih {q : Nat} (hq : bits f.imm 17 16 = q) (hn : NoBad (simmChecks f true false)) (himm : f.imm.toNat / 262144 = 0) :
    s.Yields x (.lih f) 1 (.scalar (simmDest f) (insertField (x.ird f) (BitVec.ofNat 64 (f.imm.toNat % 65536)) (16 * q) 16)) := by
  subst hq
  exact completes_of_guarded hs hg (noBad_unused hn (bits_eq_zero_of_div 19 18 himm)) rfl

/-- EXT and INS check the end of their field beside the bits that they do not use. -/
theorem traps_past_bit63 {i : Instr} {unused : Bool} {k : SlotOut} (hn : NoBad (simmChecks f true true))
    (hpast : 64 < bits f.imm 5 0 + (bits f.imm 11 6 + 1))
    (he : evalInstr i (s.envAlone x i) = (s.envAlone x i).guarded
      (simmChecks f true true ++ [⟨unused || decide (64 < bits f.imm 5 0 + (bits f.imm 11 6 + 1)), 4, f.imm.toNat⟩]) k)
    (hsl : (Instr.slotPart i).1 = f.slot.slot) (ha : ActsUnder i f.g := by exact ⟨rfl, rfl, rfl⟩) :
    ∃ a, s.Traps x i { code := 0x02, arg := a, slot := some (if f.slot = .s0 then 1 else 2) } :=
  traps_of_bad_field hs hg (firstBad_append_bad _ hn (by simp only [hpast, decide_true, Bool.or_true])) he (hsl ▸ SSlot.slot_num f.slot) ha

theorem yields_li (hn : NoBad (simmChecks f true false)) :
    s.Yields x (.li f) 1 (.scalar (simmDest f) (BitVec.ofInt 64 f.imm.toInt)) :=
  completes_of_guarded hs hg hn rfl

end fields

/-- Settles O3: the checks of R371 and R372 leave only the field that passes bit 63 to trap, and the fields are given bit by bit. -/
theorem scalarFieldResults : Obligations.ScalarFieldResults := by
  have hlo (f : SImm) : bits f.imm 5 0 = f.imm.toNat % 64 := bits_from_zero f.imm 5
  have hw (f : SImm) : bits f.imm 11 6 + 1 = f.imm.toNat / 64 % 64 + 1 := congrArg (· + 1) (bits_eq f.imm 11 6)
  have hq (f : SImm) : bits f.imm 17 16 = f.imm.toNat / 65536 % 4 := bits_eq f.imm 17 16
  constructor
  · intro s x f hs hg
    refine ⟨fun hn hpast => ?_, yields_li hs hg⟩
    rw [← hlo, ← hw] at hpast
    exact ⟨traps_past_bit63 hs hg hn hpast rfl rfl, traps_past_bit63 hs hg hn hpast rfl rfl⟩
  · rintro s x f hs hg a old rfl rfl lo w q rfl rfl rfl
    refine ⟨yields_shadd hs hg, fun hn himm hfit => ?_, fun hn himm hfit => ?_, fun hn himm => ⟨?_, ?_⟩⟩
    · exact ⟨_, yields_ext hs hg (hlo f) (hw f) hn himm hfit, fun i hi => getLsbD_extractField _ _ _ (Nat.succ_pos _) hi⟩
    · exact ⟨_, yields_ins hs hg (hlo f) (hw f) hn himm hfit, fun i hi => getLsbD_insertField _ _ _ _ hi⟩
    · exact yields_lil hs hg (hq f) hn himm
    · refine ⟨_, yields_lih hs hg (hq f) hn himm, fun i hi => ?_⟩
      rw [getLsbD_insertField _ _ _ _ hi, BitVec.getLsbD_ofNat, decide_eq_true (by omega), Bool.true_and]

/-! ### Compares and selection (R342, R373, R374) -/

theorem nat_beq_eq_decide (m n : Nat) : (m == n) = decide (m = n) := by
  rw [Bool.eq_iff_iff, beq_iff_eq, decide_eq_true_eq]

/-- The integer conditions of R342 on words: a function that gives each of the seven codes its meaning is the model's. -/
theorem condInt_eq_of_spec {holds : Nat → W64 → W64 → Bool} {a b : W64} {cc : Nat}
    (hspec : holds 0 a b = decide (a = b) ∧ holds 1 a b = decide (a ≠ b) ∧ holds 2 a b = a.slt b ∧ holds 3 a b = b.sle a ∧
      holds 4 a b = a.ult b ∧ holds 5 a b = b.ule a ∧ holds 6 a b = decide (a &&& b ≠ 0#64)) (hcc : cc < 7) :
    condInt 64 cc a.toNat b.toNat = holds cc a b := by
  obtain ⟨heq, hne, hlt, hge, hltu, hgeu, htst⟩ := hspec
  match cc, hcc with
  | 0, _ => simp only [condInt, heq, BitVec.toNat_mod_cancel, nat_beq_eq_decide, BitVec.toNat_eq, -Nat.reducePow]
  | 1, _ => simp only [condInt, hne, bne, BitVec.toNat_mod_cancel, nat_beq_eq_decide, BitVec.toNat_eq, ne_eq, decide_not, -Nat.reducePow]
  | 2, _ => simp only [condInt, hlt, signedOf_eq_toInt, BitVec.ofNat_toNat, BitVec.setWidth_eq, BitVec.slt_eq_decide]
  | 3, _ => simp only [condInt, hge, signedOf_eq_toInt, BitVec.ofNat_toNat, BitVec.setWidth_eq, BitVec.sle_eq_decide]
  | 4, _ => simp only [condInt, hltu, BitVec.toNat_mod_cancel, BitVec.ult_eq_decide, -Nat.reducePow]
  | 5, _ => simp only [condInt, hgeu, BitVec.toNat_mod_cancel, BitVec.ule_eq_decide, -Nat.reducePow]
  | 6, _ => simp only [condInt, htst, bne, ← BitVec.toNat_and, BitVec.toNat_mod_cancel, nat_beq_eq_decide, BitVec.toNat_eq, BitVec.toNat_ofNat,
      Nat.zero_mod, ne_eq, decide_not, -Nat.reducePow]

/-- CMP and CMPI differ in their second operand and in the fields that they use: both give the predicates of their pair the condition and its
complement. -/
theorem completes_compare {s : State} {x : Ctx} {i : Instr} {g : Guard} {cs : List Check} {rd : BitVec 6} {cc n : Nat} {a b : W64} {c : Bool}
    {m : Mask} (hs : s.Issues x) (hg : x.Guarded g) (hrd : rd.toNat = 8 * cc + n) (hcc : cc < 7) (hpair : n < 6) (hn : NoBad cs)
    (hc : condInt 64 cc a.toNat b.toNat = c) (hm : m = if c then BitVec.allOnes 64 else 0#64)
    (he : evalInstr i (s.envAlone x i) = (s.envAlone x i).guarded (⟨cmpBad rd, 0, rd.toNat⟩ :: cs)
      ((s.envAlone x i).predPair (bits rd 2 0) (allLanes (condInt 64 (bits rd 5 3) a.toNat b.toNat)) Mask.all))
    (ha : ActsUnder i g := by exact ⟨rfl, rfl, rfl⟩) :
    s.Completes x i none fun t =>
      (t.addFlight s.cur 1 (.predicate (2 * n + 1) m Mask.all)).addFlight s.cur 1 (.predicate (2 * n + 2) (~~~m) Mask.all) := by
  have hcond : bits rd 5 3 = cc := by rw [bits_eq, hrd]; omega
  have hnum : bits rd 2 0 = n := by rw [bits_from_zero, hrd]; omega
  have hgood : cmpBad rd = false := by
    rw [cmpBad, hcond, hnum, decide_eq_false (Nat.not_le_of_lt hcc), decide_eq_false (Nat.not_le_of_lt hpair), Bool.or_false]
  subst hc hm
  rw [hcond, hnum] at he
  exact completes_of_guarded hs hg (noBad_cons.mpr ⟨hgood, hn⟩) he ha

theorem yields_sel {s : State} {x : Ctx} {f : SImm} (hs : s.Issues x) (hg : x.Guarded f.g) (hn : NoBad (simmChecks f true true))
    (hl : immRs2Bad f = false) (himm : f.imm.toNat / 2048 = 0) :
    s.Yields x (.sel f) 1 (.scalar (simmDest f)
      (if (x.pred (f.imm.toNat / 128 % 16)).getLsbD 0 then x.irs1 f else x.immRs2 f)) := by
  have hfield : bits f.imm 10 7 = f.imm.toNat / 128 % 16 := bits_eq f.imm 10 7
  rw [← envAlone_immRs2 s x (.sel f), ← hfield]
  exact completes_of_guarded hs hg (noBad_source_and_unused hn hl (bits_eq_zero_of_div 19 11 himm)) rfl

/-- Settles O4: the model's integer conditions are those of R342, and the checks of R373 hold for the codes and pairs that exist. -/
theorem scalarCompareResults : Obligations.ScalarCompareResults := by
  intro s x hs holds hspec
  refine ⟨?_, ?_, fun f hg hn hl himm => yields_sel hs hg hn hl himm⟩
  · intro f cc n m hg hrd hcc hpair hrs1 hrs2 hq hrest hm
    exact completes_compare hs hg hrd hcc hpair (by simp only [noBad_cons, noBad_nil, hrs1, hrs2, hq, hrest, bne_self_eq_false, and_self])
      (condInt_eq_of_spec (hspec _ _) hcc) hm rfl
  · intro f cc n m hg hrd hcc hpair hrs1 hq hrest hm
    exact completes_compare hs hg hrd hcc hpair (by simp only [noBad_cons, noBad_nil, hrs1, hq, hrest, bne_self_eq_false, and_self])
      (condInt_eq_of_spec (hspec _ _) hcc) hm rfl

end Sys2Proof.Machine

/-! ## Facts about lists and conditions -/

namespace Sys2Proof.Machine

set_option Elab.async false

/-- Two conditions that hold together choose alike. -/
theorem ite_of_iff {α : Type} {p q : Prop} [Decidable p] [Decidable q] (h : p ↔ q) (x y : α) : (if p then x else y) = if q then x else y :=
  ite_congr (propext h) (fun _ => rfl) fun _ => rfl

theorem getD_of_lt {α : Type} {l : List α} {n : Nat} (d : α) (h : n < l.length) : l.getD n d = l[n] := by
  rw [List.getD_eq_getElem?_getD, List.getElem?_eq_getElem h, Option.getD_some]

theorem filter_one {α : Type} (p : α → Bool) (x : α) : [x].filter p = if p x then [x] else [] := by
  rw [List.filter_cons, List.filter_nil]

/-- Entries of a list in which no key comes twice are told apart by their keys. -/
theorem eq_of_nodup_map {α β : Type} {f : α → β} {l : List α} (h : (l.map f).Nodup) {x y : α} (hx : x ∈ l) (hy : y ∈ l) (hf : f x = f y) : x = y := by
  induction l with
  | nil => cases hx
  | cons z l ih =>
    rw [List.map_cons, List.nodup_cons] at h
    obtain ⟨hnot, hrest⟩ := h
    obtain rfl | hxl := List.mem_cons.mp hx
    · obtain rfl | hyl := List.mem_cons.mp hy
      · rfl
      · exact absurd (List.mem_map.mpr ⟨y, hyl, hf.symm⟩) hnot
    · obtain rfl | hyl := List.mem_cons.mp hy
      · exact absurd (List.mem_map.mpr ⟨x, hxl, hf⟩) hnot
      · exact ih hrest hxl hyl

end Sys2Proof.Machine


/-! ## Encoding and decoding (R310, R311, R321) -/

namespace Sys2Proof

set_option Elab.async false

open Laws.Encoded

/-- The syllable of every well-formed slot operation is read back: the operations slot by slot, then the events, which have no syllable. -/
theorem decodeSyllable_of_wf (i : Instr) : Statement i := by
  cases i with
  | nop f => exact nop f | prep f => exact prep f | prepAbsolute f => exact prepAbsolute f | brx f => exact brx f
  | brxl f => exact brxl f | vote f => exact vote f | ptt f => exact ptt f | loop f => exact loop f | lset f => exact lset f
  | lstr f => exact lstr f | waitk f => exact waitk f | bwait f => exact bwait f | barv f => exact barv f | yield f => exact yield f
  | setfmt f => exact setfmt f | setwin f => exact setwin f | trap f => exact trap f | rft f => exact rft f | done f => exact done f
  | spin f => exact spin f | add f => exact add f | addi f => exact addi f | sub f => exact sub f | mul f => exact mul f
  | mulh f => exact mulh f | mulhn f => exact mulhn f | div f => exact div f | divn f => exact divn f | rem f => exact rem f
  | and f => exact and f | andi f => exact andi f | or f => exact or f | ori f => exact ori f | xor f => exact xor f
  | xori f => exact xori f | andn f => exact andn f | shl f => exact shl f | shr f => exact shr f | sar f => exact sar f
  | rot f => exact rot f | clz f => exact clz f | popc f => exact popc f | min f => exact min f | max f => exact max f
  | minn f => exact minn f | maxn f => exact maxn f | shadd f => exact shadd f | ext f => exact ext f | ins f => exact ins f
  | li f => exact li f | lih f => exact lih f | lil f => exact lil f | cmp f => exact cmp f | cmpi f => exact cmpi f
  | sel f => exact sel f | cpy f => exact cpy f | mfs f => exact mfs f | mts f => exact mts f | brxS1 f => exact brxS1 f
  | vadd f => exact vadd f | vsub f => exact vsub f | vmul f => exact vmul f | vfma f => exact vfma f | vfms f => exact vfms f
  | vmac f => exact vmac f | vmin f => exact vmin f | vmax f => exact vmax f | vabs f => exact vabs f | vneg f => exact vneg f
  | vrcp f => exact vrcp f | vrsq f => exact vrsq f | vexp2 f => exact vexp2 f | vlog2 f => exact vlog2 f | vclass f => exact vclass f
  | vcmp f => exact vcmp f | vaddi f => exact vaddi f | vmuli f => exact vmuli f | vfmai f => exact vfmai f | vmaci f => exact vmaci f
  | viadd f => exact viadd f | visub f => exact visub f | vimul f => exact vimul f | vimulh f => exact vimulh f | vshl f => exact vshl f
  | vshr f => exact vshr f | vsar f => exact vsar f | vand f => exact vand f | vor f => exact vor f | vxor f => exact vxor f
  | vandn f => exact vandn f | vimin f => exact vimin f | vimax f => exact vimax f | vadds f => exact vadds f | vsubs f => exact vsubs f
  | vqmuls f => exact vqmuls f | vabsd f => exact vabsd f | vavg f => exact vavg f | vdot4 f => exact vdot4 f | vsad f => exact vsad f
  | vicmp f => exact vicmp f | vcvt f => exact vcvt f | vqnt f => exact vqnt f | vdqnt f => exact vdqnt f | vmxs f => exact vmxs f
  | vsplit f => exact vsplit f | vjoin f => exact vjoin f | vmov f => exact vmov f | vbcst f => exact vbcst f | viota f => exact viota f
  | vperm f => exact vperm f | vshuf f => exact vshuf f | vslide f => exact vslide f | vbext f => exact vbext f | vlut f => exact vlut f
  | vlutld f => exact vlutld f | vunpk12 f => exact vunpk12 f | vpack12 f => exact vpack12 f | vrng f => exact vrng f
  | vred f => exact vred f | vscan f => exact vscan f | vcpy f => exact vcpy f | mcfg f => exact mcfg f | mzero f => exact mzero f
  | mma f => exact mma f | mmax f => exact mmax f | mread f => exact mread f | mwrite f => exact mwrite f | mjoin f => exact mjoin f
  | mstat f => exact mstat f | ld f => exact ld f | st f => exact st f | vld f => exact vld f | vst f => exact vst f
  | vlds f => exact vlds f | vsts f => exact vsts f | vgth f => exact vgth f | vsct f => exact vsct f | ldj f => exact ldj f
  | stj f => exact stj f | atom f => exact atom f | ldAcq f => exact ldAcq f | stRel f => exact stRel f | vatom f => exact vatom f
  | fence f => exact fence f | sync f => exact sync f | tbinit f => exact tbinit f | tbarv f => exact tbarv f | tbexp f => exact tbexp f
  | tbwait f => exact tbwait f | spill f => exact spill f | fill f => exact fill f | dadd f => exact dadd f | dli f => exact dli f
  | dcpy f => exact dcpy f | l1inv f => exact l1inv f | l1wb f => exact l1wb f | prf f => exact prf f | sljob f => exact sljob f
  | slstat f => exact slstat f | slkill f => exact slkill f | stbind f => exact stbind f | rmov f => exact rmov f
  | rget f => exact rget f | edstash f => exact edstash f | edfetch f => exact edfetch f | edfree f => exact edfree f
  | edqry f => exact edqry f | chsend f => exact chsend f | chrecv f => exact chrecv f | chrel f => exact chrel f
  | chwin f => exact chwin f | oxred f => exact oxred f | oxgath f => exact oxgath f | wpost f => exact wpost f
  | wraise f => exact wraise f | warr f => exact warr f | spawn f => exact spawn f | grd f => exact grd f | gupd f => exact gupd f
  | gnew f => exact gnew f | gseal f => exact gseal f | grescale f => exact grescale f | recset f => exact recset f
  | lease f => exact lease f | lrel f => exact lrel f | eli f => exact eli f | ecpy f => exact ecpy f | twait f => exact twait f
  | _ => nofun

theorem decodeHeader_encodeHeader_single (sl : Slot) : decodeHeader (encodeHeader (Header.single sl)) = .ok (Header.single sl) := by
  cases sl <;> rfl

theorem filter_has_single (sl : Slot) : Slot.all.filter (Header.single sl).has = [sl] := by
  cases sl <;> rfl

/-- A bundle of one syllable and no literal words ends where its syllable ends. -/
theorem decodeBundle_single (sl : Slot) (lo hi : W32) (rest : List W32) :
    decodeBundle (encodeHeader (Header.single sl) :: lo :: hi :: rest) = .ok (⟨Header.single sl, [(sl, hi ++ lo)], []⟩, rest) := by
  have hlits : (Header.single sl).lits.toNat = 0 := rfl
  simp only [decodeBundle, decodeHeader_encodeHeader_single, filter_has_single, takeSyllables, hlits, Nat.zero_le, ↓reduceIte, List.take_zero,
    List.drop_zero]

/-- A syllable is its two words, the high one above the low one (R310). -/
theorem append_halves (w : W64) : (w.extractLsb' 32 32 ++ w.extractLsb' 0 32 : W64) = w :=
  BitVec.extractLsb'_append_extractLsb'

/-- Settles O57: the decoder reads the operation's slot back from the header, the syllable from its two words, and the operation from the
syllable. -/
theorem decodeOfEncode : Obligations.DecodeOfEncode := by
  intro i rest hwf hop
  obtain ⟨sl, w, henc, hdec⟩ := decodeSyllable_of_wf i hwf hop
  refine ⟨sl, w, henc, ?_, hdec⟩
  rw [encode, henc]
  exact (decodeBundle_single sl _ _ rest).trans (by rw [append_halves])

end Sys2Proof

/-! ## Words and resets (R25, R34, R325, R336 to R339) -/

/-- Settles O56: each word is one of the manual's, and decoding computes. -/
theorem decodeWords : Obligations.DecodeWords := by
  unfold Obligations.DecodeWords
  exact ⟨rfl, rfl, rfl, rfl, rfl⟩

/-- Settles O58: reset is the state of default values, whose register words compute. -/
theorem resetValues : Obligations.ResetValues :=
  ⟨rfl, rfl, rfl, rfl, rfl, rfl, rfl, rfl, rfl, rfl, rfl, fun _ => rfl, fun _ => rfl, fun _ => rfl, rfl⟩

/-- Settles O59: no memory has a byte listed. -/
theorem resetMemories : Obligations.ResetMemories := rfl

namespace Sys2Proof.Machine

set_option Elab.async false

theorem isHole_of_between {pa : Nat} (hlo : holeBase ≤ pa) (hhi : pa < hostBase) : isHole pa = true := by
  rw [isHole, decide_eq_true hlo, decide_eq_true hhi, Bool.and_self]

/-- Settles O34: each of the three accesses looks for the hole before anything else. -/
theorem holeStops : Obligations.HoleStops := by
  intro s n sector kind write urgent request ecc hlo hhi
  have hhole := isHole_of_between hlo hhi
  exact ⟨if_pos hhole, if_pos hhole, if_pos hhole⟩

end Sys2Proof.Machine

/-! ## A step runs the decoded operation (R5, R232, R310) -/

namespace Sys2Proof

set_option Elab.async false

/-! ### Decoded operations have parts (R321) -/

section decoded
variable {g : Guard} {op : Nat} {w : W64} {i : Instr}

theorem parts_of_decodeC (h : decodeC g op w = some i) : ∃ b, i.parts = some (.c, op, g, b) := by
  unfold decodeC at h
  split at h <;> (try split at h) <;> (try split at h) <;> cases h <;> exact ⟨_, rfl⟩

theorem parts_of_decodeS {sl : SSlot} (h : decodeS sl g op w = some i) : ∃ b, i.parts = some (sl.slot, op, g, b) := by
  unfold decodeS at h
  split at h <;> (try cases sl) <;> cases h <;> exact ⟨_, rfl⟩

theorem parts_of_decodeV {sl : VSlot} (h : decodeV sl g op w = some i) : ∃ b, i.parts = some (sl.slot, op, g, b) := by
  unfold decodeV at h
  split at h <;> cases h <;> exact ⟨_, rfl⟩

theorem parts_of_decodeM (h : decodeM g op w = some i) : ∃ b, i.parts = some (.m, op, g, b) := by
  unfold decodeM at h
  split at h <;> cases h <;> exact ⟨_, rfl⟩

theorem parts_of_decodeL (h : decodeL g op w = some i) : ∃ b, i.parts = some (.l, op, g, b) := by
  unfold decodeL at h
  split at h <;> (try split at h) <;> (try split at h) <;> cases h <;> exact ⟨_, rfl⟩

theorem parts_of_decodeE (h : decodeE g op w = some i) : ∃ b, i.parts = some (.e, op, g, b) := by
  unfold decodeE at h
  split at h <;> cases h <;> exact ⟨_, rfl⟩

/-- A decoded operation has the slot and the opcode of its syllable. -/
theorem parts_of_decodeSyllable {sl : Slot} (h : decodeSyllable sl w = .ok i) :
    ∃ g b, i.parts = some (sl, (w.extractLsb' 38 6).toNat, g, b) := by
  unfold decodeSyllable at h
  cases sl <;> dsimp only at h <;> split at h <;> cases h <;> rename_i hd
  · exact ⟨_, parts_of_decodeC hd⟩
  · exact ⟨_, parts_of_decodeS hd⟩
  · exact ⟨_, parts_of_decodeS hd⟩
  · exact ⟨_, parts_of_decodeV hd⟩
  · exact ⟨_, parts_of_decodeV hd⟩
  · exact ⟨_, parts_of_decodeM hd⟩
  · exact ⟨_, parts_of_decodeL hd⟩
  · exact ⟨_, parts_of_decodeE hd⟩

end decoded

/-- A bundle of one syllable and its literal words (R310). -/
theorem decodeBundle_syllable_lits {hd lo hi : W32} {sl : Slot} {lits : List W32} (hlen : lits.length < 4)
    (hhd : decodeHeader hd = .ok { Header.single sl with lits := BitVec.ofNat 2 lits.length }) :
    decodeBundle (hd :: lo :: hi :: lits) =
      .ok (⟨{ Header.single sl with lits := BitVec.ofNat 2 lits.length }, [(sl, hi ++ lo)], lits⟩, []) := by
  have hcount : (BitVec.ofNat 2 lits.length).toNat = lits.length := by rw [BitVec.toNat_ofNat, Nat.mod_eq_of_lt hlen]
  have hslots : Slot.all.filter ({ Header.single sl with lits := BitVec.ofNat 2 lits.length } : Header).has = [sl] := filter_has_single sl
  simp only [decodeBundle, hhd, hslots, takeSyllables, hcount, Nat.le_refl, ↓reduceIte, List.take_length, List.drop_length]

theorem repeats_of_decodeHeader {w : W32} {h : Header} (hd : decodeHeader w = .ok h) : w.extractLsb' 14 6 = h.repeats := by
  unfold decodeHeader at hd
  split at hd <;> cases hd
  rfl

end Sys2Proof

namespace Sys2Proof.Machine

set_option Elab.async false

/-! ### What a tick leaves (R1) -/

theorem State.noteBusy_eq (s : State) (t : Nat) :
    ∃ b i, s.noteBusy t = { s with busyAt := b, idleSince := i } := by
  unfold State.noteBusy
  split <;> exact ⟨_, _, rfl⟩

theorem State.applyDue_eq (s : State) : ∃ th, s.applyDue = { s with thermal := th } := by
  unfold State.applyDue
  split
  · split <;> exact ⟨_, rfl⟩
  · exact ⟨_, rfl⟩

/-- A tick changes the clock, the marks of busy parts and the thermal sequencer only. -/
theorem State.tick_eq (s : State) (dt : Nat) :
    ∃ b i t tb th, s.tick dt = { s with busyAt := b, idleSince := i, time := t, tbctl := tb, thermal := th } := by
  unfold State.tick
  split
  · exact ⟨_, _, _, _, _, rfl⟩
  · obtain ⟨b, i, hb⟩ := s.noteBusy_eq (s.time + dt - if s.tbctl.again then 1 else 0)
    obtain ⟨th, hth⟩ := State.applyDue_eq
      { s.noteBusy (s.time + dt - if s.tbctl.again then 1 else 0) with
        time := s.time + dt - (if s.tbctl.again then 1 else 0), tbctl := { s.tbctl with again := false } }
    rw [hb] at hth
    exact ⟨_, _, _, _, th, (congrArg (fun u : State => State.applyDue
      { u with time := s.time + dt - (if s.tbctl.again then 1 else 0), tbctl := { s.tbctl with again := false } }) hb).trans hth⟩

@[simp] theorem State.tick_cur (s : State) (dt : Nat) : (s.tick dt).cur = s.cur := by
  obtain ⟨_, _, _, _, _, h⟩ := s.tick_eq dt
  rw [h]

@[simp] theorem State.tick_lits (s : State) (dt : Nat) : (s.tick dt).lits = s.lits := by
  obtain ⟨_, _, _, _, _, h⟩ := s.tick_eq dt
  rw [h]

/-! ### The order of the ready contexts (R232) -/

theorem mem_insertTurn {a b : Nat × Ctx} {l : List (Nat × Ctx)} : b ∈ insertTurn a l ↔ b = a ∨ b ∈ l := by
  induction l with
  | nil => simp only [insertTurn, List.mem_cons]
  | cons c l ih =>
    have either (before : Bool) : b ∈ (if before then a :: c :: l else c :: insertTurn a l) ↔ b = a ∨ b ∈ c :: l := by
      cases before
      · simp only [Bool.false_eq_true, ↓reduceIte, List.mem_cons, ih, or_left_comm]
      · simp only [↓reduceIte, List.mem_cons]
    exact either _

theorem mem_foldl_insertTurn {b : Nat × Ctx} {rs l : List (Nat × Ctx)} :
    b ∈ rs.foldl (fun l a => insertTurn a l) l ↔ b ∈ rs ∨ b ∈ l := by
  induction rs generalizing l with
  | nil => simp only [List.foldl_nil, List.not_mem_nil, false_or]
  | cons a rs ih => simp only [List.foldl_cons, ih, mem_insertTurn, List.mem_cons, or_assoc, or_left_comm]

/-- A context in the order stands ready on its sequencer. -/
theorem ready_of_mem_readyOrder {s : State} {core c : Nat} {x : Ctx} (h : (c, x) ∈ s.readyOrder core) :
    s.ctx c = some x ∧ s.inReady x = true := by
  obtain ⟨q, -, hq⟩ := List.mem_filterMap.mp ((mem_foldl_insertTurn.mp h).resolve_right (List.not_mem_nil))
  split at hq
  · split at hq <;> cases hq
    exact ⟨‹_›, ‹_›⟩
  · cases hq

/-! ### Fetching one operation (R310) -/

/-- Words that stand one after the other: the first, and those from the next address on. -/
theorem fetchWord_cons {s : State} {c : Nat} {sup : Bool} {v : W32} {ws : List W32} {va : BitVec 48}
    (h : ∀ k w, (v :: ws)[k]? = some w → s.fetchWord c sup (va + BitVec.ofNat 48 (4 * k)) = .ok w) :
    s.fetchWord c sup va = .ok v ∧ ∀ k w, ws[k]? = some w → s.fetchWord c sup (va + 4#48 + BitVec.ofNat 48 (4 * k)) = .ok w := by
  constructor
  · simpa only [Nat.mul_zero, BitVec.add_zero] using h 0 v rfl
  · intro k w hk
    have hnext : va + 4#48 + BitVec.ofNat 48 (4 * k) = va + BitVec.ofNat 48 (4 * (k + 1)) := by
      rw [Nat.mul_succ, Nat.add_comm, BitVec.ofNat_add, BitVec.add_assoc]
    rw [hnext]
    exact h (k + 1) w hk

theorem fetchWords_of_words {s : State} {c : Nat} {sup : Bool} {ws : List W32} {va : BitVec 48}
    (h : ∀ k w, ws[k]? = some w → s.fetchWord c sup (va + BitVec.ofNat 48 (4 * k)) = .ok w) :
    s.fetchWords c sup ws.length va = .ok ws := by
  induction ws generalizing va with
  | nil => rfl
  | cons w ws ih =>
    obtain ⟨hfirst, hrest⟩ := fetchWord_cons h
    simp only [List.length_cons, State.fetchWords, hfirst, ih hrest]

/-- The words of a bundle of one operation at an address are fetched as that bundle, which has no repetitions. -/
theorem fetch_alone {s : State} {c : Nat} {sup : Bool} {pc : BitVec 48} {sl : Slot} {i : Instr} {hd lo hi : W32}
    (hhd : decodeHeader hd = .ok { Header.single sl with lits := BitVec.ofNat 2 s.lits.length }) (hlen : s.lits.length < 4)
    (hdec : decodeSyllable sl (hi ++ lo) = .ok i)
    (hw : ∀ k w, (hd :: lo :: hi :: s.lits)[k]? = some w → s.fetchWord c sup (pc + BitVec.ofNat 48 (4 * k)) = .ok w) :
    s.fetch c sup pc = .ok (shownAlone s i) ∧ s.headerRepeats c sup pc = 0 := by
  obtain ⟨g, b, hp⟩ := parts_of_decodeSyllable hdec
  obtain ⟨hfirst, hrest⟩ := fetchWord_cons hw
  have hwords := fetchWords_of_words hrest
  have hcount : ({ Header.single sl with lits := BitVec.ofNat 2 s.lits.length } : Header).words - 1 = (lo :: hi :: s.lits).length := by
    have hslots : Slot.all.filter ({ Header.single sl with lits := BitVec.ofNat 2 s.lits.length } : Header).has = [sl] :=
      filter_has_single sl
    simp only [Header.words, hslots, BitVec.toNat_ofNat, Nat.mod_eq_of_lt hlen, List.length_cons, List.length_nil]
    omega
  constructor
  · simp only [State.fetch, hfirst, hhd, hcount, hwords, decodeBundle_syllable_lits hlen hhd, shownOps, List.map_cons, List.map_nil, hdec,
      shownAlone, hp]
    rfl
  · simp only [State.headerRepeats, hfirst, repeats_of_decodeHeader hhd]
    rfl

/-! ### One core cycle with one ready context (R232, R364) -/

theorem State.finishDone_of_not_draining {s : State} {c : Nat} (h : ∀ y, s.ctx c = some y → y.run ≠ .draining) : s.finishDone c = s := by
  unfold State.finishDone
  split
  · rfl
  · rw [if_neg fun hd => h _ ‹_› hd.1]

/-- Where no context of a core drains and one is ready, the core cycle is the turn of that one. -/
theorem coreCycle_of_one_ready {s : State} {core c : Nat} {x : Ctx}
    (hd : ∀ q y, q < 4 → s.ctx (4 * core + q) = some y → y.run ≠ .draining) (hr : s.readyOrder core = [(c, x)]) :
    s.coreCycle core .clean = (s.turn c x .clean).state := by
  have hfinish : ∀ q, q < 4 → s.finishDone (4 * core + q) = s := fun q hq => State.finishDone_of_not_draining (hd q · hq)
  have hrange : List.range 4 = [0, 1, 2, 3] := rfl
  have hfold : (List.range 4).foldl (fun (s : State) q => s.finishDone (4 * core + q)) s = s := by
    simp only [hrange, List.foldl_cons, List.foldl_nil, hfinish 0, hfinish 1, hfinish 2, hfinish 3, Nat.reduceLT]
  simp only [State.coreCycle, hfold, hr, State.issueFirst, reduceCtorEq, ↓reduceIte]
  cases s.turn c x .clean <;> rfl

/-- The turn of a ready context whose fetched bundle holds one operation executes the operation. -/
theorem exec_eq_turn {s : State} {x : Ctx} {i : Instr} (hp : i.parts.isSome = true) (hc : s.ctx s.cur = some x) (hr : s.inReady x = true)
    (hspin : x.spin = 0) (hskip : x.loops.skip = 0) (hf : s.fetch s.cur x.sup x.pc = .ok (shownAlone s i))
    (hreps : s.headerRepeats s.cur x.sup x.pc = 0) (hheld : s.fetchHeld s.cur x.sup x.pc (.ok (shownAlone s i)) = false) :
    exec i s = .next (s.turn s.cur x .clean).state := by
  rw [exec_slot i s hp]
  simp only [State.issueAlone, hc, hr, State.turn, hspin, hskip, hf, hreps, hheld, Nat.lt_irrefl, Bool.false_eq_true, ↓reduceIte]

/-- Settles O55: the tick leaves the sequencer and its literals, the one ready context is the one whose bundle is fetched, and the bundle fetched
is the operation alone. -/
theorem stepRunsDecoded : Obligations.StepRunsDecoded := by
  refine ⟨?_, fun s t ts h => by rw [step, h]⟩
  rintro s u _ x sl i hd lo hi hag rfl rfl hone hdrain hspin hskip hhd hlen hdec hheld hw
  rw [← s.tick_lits 1] at hhd hlen hw
  rw [← s.tick_cur 1] at hone hdrain hheld hw ⊢
  obtain ⟨g, b, hp⟩ := parts_of_decodeSyllable hdec
  obtain ⟨hc, hr⟩ := ready_of_mem_readyOrder (hone ▸ List.mem_singleton_self _)
  obtain ⟨hf, hreps⟩ := fetch_alone hhd hlen hdec hw
  have hshown : shownAlone s i = shownAlone (s.tick 1) i := by unfold shownAlone; rw [State.tick_lits]
  have hexec := exec_eq_turn (by rw [hp]; rfl) hc hr hspin hskip hf hreps (hshown ▸ hheld)
  have hcycle := coreCycle_of_one_ready hdrain hone
  have hbundle : exec (.bundleIssue { core := (s.tick 1).cur / 4 }) (s.tick 1) = .next ((s.tick 1).turn (s.tick 1).cur x .clean).state :=
    congrArg _ hcycle
  refine ⟨?_, _, hbundle, hexec⟩
  rw [hexec, ← hbundle, step, hag, State.tick_cur]

end Sys2Proof.Machine

section
/-! PROOF of the memory invariant. Each function of the model that yields a state keeps the canonical form of every memory: one lemma
for each, in the order of the definitions, and the step's lemma at the end. -/

open Host
namespace Sys2Proof.Machine

set_option Elab.async false

/-- A slot's answer keeps the memories: its effect, or what it does as it waits, does. -/
def SlotOut.Keeps : SlotOut → Prop
  | .act _ f => ∀ s : State, s.memWf = true → (f s).memWf = true
  | .wait _ f => ∀ s : State, s.memWf = true → (f s).memWf = true
  | _ => True

/-- A unit of a job that has come to an end keeps the memories. -/
def UnitEnd.Keeps : UnitEnd → Prop
  | .ok s => s.memWf = true
  | .integ s _ => s.memWf = true
  | _ => True

/-- What a policy entry brings keeps the memories. -/
def Verdict.Keeps : Verdict → Prop
  | .launched s => s.memWf = true
  | .froze s => s.memWf = true
  | _ => True

/-- The next state of an outcome keeps the memories. -/
def OutcomeKeeps : Host.Outcome State Fault Refusal → Prop
  | .next s => s.memWf = true
  | _ => True

/-- The images of a captured gang stand in the canonical form. -/
def Gang.memWf (g : Gang) : Bool := g.images.all fun i => Memory.wf i.2.1 && Memory.wf i.2.2

/-- Steps that keep the memories, one after the other. -/
theorem State.memWf_foldl {α : Type} {f : State → α → State} {l : List α} {s : State}
    (hf : ∀ (s : State) (a : α), s.memWf = true → (f s a).memWf = true) (hs : s.memWf = true) : (l.foldl f s).memWf = true := by
  induction l generalizing s with
  | nil => exact hs
  | cons a l ih => exact ih (hf s a hs)

/-- Steps that keep the memories, beside something else that each of them counts on. -/
theorem State.memWf_foldl_fst {α β : Type} {f : State × β → α → State × β} {l : List α} {p : State × β}
    (hf : ∀ (p : State × β) (a : α), p.1.memWf = true → (f p a).1.memWf = true) (hs : p.1.memWf = true) : (l.foldl f p).1.memWf = true := by
  induction l generalizing p with
  | nil => exact hs
  | cons a l ih => exact ih (hf p a hs)

theorem foldl_bind_error {α β ε : Type} {f : β → α → Except ε β} {e : ε} (l : List α) :
    l.foldl (fun (acc : Except ε β) a => acc.bind fun s => f s a) (.error e) = .error e := by
  induction l with
  | nil => rfl
  | cons a l ih => exact ih

/-- Steps that keep the memories where they do not stop. -/
theorem State.memWf_foldl_bind {α ε : Type} {f : State → α → Except ε State} {l : List α} {s t : State}
    (hf : ∀ (s t : State) (a : α), s.memWf = true → f s a = .ok t → t.memWf = true) (hs : s.memWf = true)
    (he : l.foldl (fun (acc : Except ε State) a => acc.bind fun s => f s a) (.ok s) = .ok t) : t.memWf = true := by
  induction l generalizing s with
  | nil => exact Except.ok.inj he ▸ hs
  | cons a l ih =>
    change l.foldl _ (f s a) = .ok t at he
    cases hfa : f s a with
    | ok u => exact ih (hf s u a hs hfa) (hfa ▸ he)
    | error e =>
      rw [hfa, foldl_bind_error] at he
      cases he

theorem State.memWf_of_eq_fst {α : Type} {p : State × α} {t : State} {a : α} (he : p = (t, a)) (h : p.1.memWf = true) : t.memWf = true := by
  rw [he] at h
  exact h

theorem State.memWf_of_eq_snd {α : Type} {p : α × State} {t : State} {a : α} (he : p = (a, t)) (h : p.2.memWf = true) : t.memWf = true := by
  rw [he] at h
  exact h

/-- A table with every value changed to a good one. -/
theorem SMap.all_mapVals {α : Type} [DecidableEq α] {d : α} {p : α → Bool} {f : α → α} {m : SMap α} (h : m.all (fun k => p k.2) = true)
    (hf : ∀ x, p x = true → p (f x) = true) : (SMap.mapVals d f m).all (fun k => p k.2) = true := by
  induction m with
  | nil => rfl
  | cons kv m ih =>
    obtain ⟨k, v⟩ := kv
    simp only [List.all_cons, Bool.and_eq_true] at h
    simp only [SMap.mapVals]
    split
    · exact ih h.2
    · simp only [List.all_cons, hf v h.1, ih h.2, Bool.and_self]

section parts
variable {s : State} (hs : s.memWf = true)
include hs

theorem State.memWf_dies {ds : SMap Die} (hd : ds.all (fun d => Memory.wf d.2.view) = true) : ({ s with dies := ds } : State).memWf = true := by
  rw [State.memWf_iff] at hs ⊢
  exact ⟨hs.1, hs.2.1, hd, hs.2.2.2⟩

theorem State.memWf_clusters {ks : SMap Cluster} (hk : ks.all (fun k => Memory.wf k.2.sram) = true) :
    ({ s with clusters := ks } : State).memWf = true := by
  rw [State.memWf_iff] at hs ⊢
  exact ⟨hs.1, hs.2.1, hs.2.2.1, hs.2.2.2.1, hk, hs.2.2.2.2.2⟩

theorem State.memWf_gangs {gs : List Gang} (hg : ∀ g ∈ gs, g.memWf = true) : ({ s with gangs := gs } : State).memWf = true := by
  rw [State.memWf_iff] at hs ⊢
  exact ⟨hs.1, hs.2.1, hs.2.2.1, hs.2.2.2.1, hs.2.2.2.2.1, List.all_eq_true.mpr hg⟩

theorem State.dies_memWf : s.dies.all (fun d => Memory.wf d.2.view) = true := ((s.memWf_iff).1 hs).2.2.1

theorem State.clusters_memWf : s.clusters.all (fun k => Memory.wf k.2.sram) = true := ((s.memWf_iff).1 hs).2.2.2.2.1

theorem State.home_memWf : Memory.wf s.home = true := ((s.memWf_iff).1 hs).1

theorem State.hostMem_memWf : Memory.wf s.hostMem = true := ((s.memWf_iff).1 hs).2.1

theorem State.gang_memWf : ∀ g ∈ s.gangs, g.memWf = true := List.all_eq_true.mp ((s.memWf_iff).1 hs).2.2.2.2.2

theorem State.core_memWf (k : Nat) : (s.core k).memWf = true :=
  SMap.all_get ({} : Core) Core.memWf s.cores k ((s.memWf_iff).1 hs).2.2.2.1 rfl

theorem State.gang_memWf_of_get {id : Nat} {g : Gang} (hg : s.gang id = some g) : g.memWf = true :=
  State.gang_memWf hs g (List.mem_of_find?_eq_some hg)

end parts

section gangs
variable {s : State} (hs : s.memWf = true)
include hs

theorem State.memWf_gangs_map {f : Gang → Gang} (hf : ∀ g : Gang, g.memWf = true → (f g).memWf = true) :
    ({ s with gangs := s.gangs.map f } : State).memWf = true :=
  State.memWf_gangs hs fun _ hg => by
    obtain ⟨g, hmem, rfl⟩ := List.mem_map.mp hg
    exact hf g (State.gang_memWf hs g hmem)

theorem State.memWf_gangs_mapWhere {p : Gang → Bool} {f : Gang → Gang} (hf : ∀ g : Gang, g.memWf = true → (f g).memWf = true) :
    ({ s with gangs := mapWhere p f s.gangs } : State).memWf = true :=
  State.memWf_gangs_map hs fun g hg => by
    split
    · exact hf g hg
    · exact hg

theorem State.memWf_gangs_filter {p : Gang → Bool} : ({ s with gangs := s.gangs.filter p } : State).memWf = true :=
  State.memWf_gangs hs fun g hg => State.gang_memWf hs g (List.mem_filter.mp hg).1

theorem State.memWf_gangs_append {g : Gang} (hg : g.memWf = true) : ({ s with gangs := s.gangs ++ [g] } : State).memWf = true :=
  State.memWf_gangs hs fun x hx => by
    obtain hx | hx := List.mem_append.mp hx
    · exact State.gang_memWf hs x hx
    · rw [List.mem_singleton.mp hx]
      exact hg

end gangs

theorem State.memWf_setCtx {s : State} {c : Nat} {x : Option Ctx} (hs : s.memWf = true) :
    (s.setCtx c x).memWf = true := by
  unfold State.setCtx
  exact hs

theorem State.memWf_modStage {s : State} {d n : Nat} {f : Stage → Stage} (hs : s.memWf = true) :
    (s.modStage d n f).memWf = true := by
  unfold State.modStage
  exact State.memWf_modDie _ _ _ hs (fun x h => h)

theorem State.memWf_modChan {s : State} {n : Nat} {f : Chan → Chan} (hs : s.memWf = true) :
    (s.modChan n f).memWf = true := by
  unfold State.modChan
  exact hs

theorem State.memWf_modGang {s : State} {g : Nat} {f : Gang → Gang} (hs : s.memWf = true)
    (hf : ∀ x : Gang, x.memWf = true → (f x).memWf = true) : (s.modGang g f).memWf = true :=
  State.memWf_gangs_mapWhere hs hf

theorem State.memWf_modThermal {s : State} {f : Thermal → Thermal} (hs : s.memWf = true) :
    (s.modThermal f).memWf = true := by
  unfold State.modThermal
  exact hs

theorem State.memWf_wakeUp {s : State} (hs : s.memWf = true) :
    (s.wakeUp).memWf = true := by
  unfold State.wakeUp
  split
  · exact hs
  · exact hs

theorem State.memWf_pruneWrites {s : State} (hs : s.memWf = true) :
    (s.pruneWrites).memWf = true := by
  unfold State.pruneWrites
  exact hs

theorem State.memWf_applyPlaced {s : State} {d id : Nat} (hs : s.memWf = true) :
    (s.applyPlaced d id).memWf = true := by
  have hstamped := State.memWf_modDie s d (fun x => { x with vc := (s.die d).vc.set d ((s.die d).vc.get d + 1) }) hs fun _ hx => hx
  unfold State.applyPlaced
  dsimp only
  split
  · exact State.memWf_applyAt _ _ _ (State.memWf_congr _ _ hstamped rfl rfl rfl rfl rfl rfl)
  · exact State.memWf_congr _ _ hstamped rfl rfl rfl rfl rfl rfl

theorem State.memWf_unpoison {s : State} {runs : List (Loc × Nat)} (hs : s.memWf = true) :
    (s.unpoison runs).memWf = true := by
  unfold State.unpoison
  split
  · exact hs
  · exact hs

theorem State.memWf_modAccTile {s : State} {core t : Nat} {f : SMap W32 → SMap W32} (hs : s.memWf = true) :
    (s.modAccTile core t f).memWf = true := by
  unfold State.modAccTile
  dsimp only
  split
  · exact State.memWf_setCtx hs
  · exact State.memWf_modCore _ _ _ hs (fun x h => h)

theorem State.memWf_storeTiles {s : State} {c : Nat} (hs : s.memWf = true) :
    (s.storeTiles c).memWf = true := by
  unfold State.storeTiles
  split
  · exact hs
  · exact State.memWf_modCore _ _ _ hs (fun x h => h)

theorem State.memWf_draw {s : State} (hs : s.memWf = true) :
    (s.draw).2.memWf = true := by
  unfold State.draw
  exact hs

theorem State.memWf_drawFor {s : State} {cap : Nat} {rivals : List TlbEntry} {e : TlbEntry} (hs : s.memWf = true) :
    (s.drawFor cap rivals e).2.memWf = true := by
  unfold State.drawFor
  split
  · exact hs
  · exact State.memWf_draw hs

theorem State.memWf_useShared {s : State} {d : Nat} {e : TlbEntry} (hs : s.memWf = true) :
    (s.useShared d e).memWf = true := by
  unfold State.useShared
  exact State.memWf_modDie _ _ _ (State.memWf_drawFor hs) (fun x h => h)

theorem State.memWf_useCluster {s : State} {cl : Nat} {e : TlbEntry} (hs : s.memWf = true) :
    (s.useCluster cl e).memWf = true := by
  unfold State.useCluster
  exact State.memWf_modCluster _ _ _ (State.memWf_drawFor hs) (fun x h => h)

theorem State.memWf_fillTlb {s : State} {cl va : Nat} (hs : s.memWf = true) :
    (s.fillTlb cl va).memWf = true := by
  unfold State.fillTlb
  split
  · exact State.memWf_useCluster hs
  · split
    · exact State.memWf_useCluster (State.memWf_useShared hs)
    · exact hs

theorem State.memWf_fillLayout {s : State} {d va : Nat} (hs : s.memWf = true) :
    (s.fillLayout d va).memWf = true := by
  unfold State.fillLayout
  split
  · exact hs
  · exact hs

theorem State.memWf_dropTlb {s : State} {p : TlbEntry → Bool} (hs : s.memWf = true) : (s.dropTlb p).memWf = true := by
  have hdies := SMap.all_mapVals (d := {}) (p := fun d : Die => Memory.wf d.view) (f := fun d => { d with tlb := d.tlb.filter fun e => !p e })
    (State.dies_memWf hs) fun _ hx => hx
  have hclusters := SMap.all_mapVals (d := {}) (p := fun k : Cluster => Memory.wf k.sram)
    (f := fun k => { k with tlb := k.tlb.filter fun e => !p e }) (State.clusters_memWf hs) fun _ hx => hx
  exact State.memWf_clusters (State.memWf_dies hs hdies) hclusters

theorem State.memWf_send {s : State} {o : Out} (hs : s.memWf = true) :
    (s.send o).memWf = true := by
  unfold State.send
  exact hs

theorem State.memWf_modPort {s : State} {p : Nat} {f : Port → Port} (hs : s.memWf = true) :
    (s.modPort p f).memWf = true := by
  unfold State.modPort
  exact hs

theorem State.memWf_sendHost {s : State} {o : Out} (hs : s.memWf = true) :
    (s.sendHost o).memWf = true := by
  unfold State.sendHost
  split
  · exact State.memWf_send hs
  · exact State.memWf_modPort hs

theorem State.memWf_msix {s : State} {v : Nat} (hs : s.memWf = true) :
    (s.msix v).memWf = true := by
  unfold State.msix
  exact State.memWf_sendHost hs

theorem State.memWf_setEvt {s : State} {b : Nat} (hs : s.memWf = true) :
    (s.setEvt b).memWf = true := by
  unfold State.setEvt
  dsimp only
  split
  · exact hs
  · exact State.memWf_msix (State.memWf_modThermal hs)

theorem State.memWf_addLog {s : State} {kind source code addr : Nat} (hs : s.memWf = true) :
    (s.addLog kind source code addr).memWf = true := by
  exact State.memWf_msix (State.memWf_congr s _ hs rfl rfl rfl rfl rfl rfl)

theorem State.memWf_logUE {s : State} {source pa : Nat} (hs : s.memWf = true) :
    (s.logUE source pa).memWf = true := by
  unfold State.logUE
  exact State.memWf_setEvt (State.memWf_modThermal (State.memWf_addLog hs))

theorem State.memWf_countCE {s : State} {dram : Bool} (hs : s.memWf = true) :
    (s.countCE dram).memWf = true := by
  unfold State.countCE
  dsimp only
  split
  · split
    · exact hs
    · split
      · exact State.memWf_setEvt (State.memWf_modThermal hs)
      · exact State.memWf_modThermal hs
  · split
    · exact hs
    · split
      · exact State.memWf_setEvt (State.memWf_modThermal hs)
      · exact State.memWf_modThermal hs

theorem State.memWf_soon {s : State} {i : Instr} (hs : s.memWf = true) :
    (s.soon i).memWf = true := by
  unfold State.soon
  exact hs

theorem State.memWf_replyWith {s : State} {land : State → Dest → W64 → State} {c k : Nat} {ws : List (Dest × W64)}
    (hl : ∀ (s : State) (d : Dest) (v : W64), s.memWf = true → (land s d v).memWf = true) (hs : s.memWf = true) :
    (s.replyWith land c k ws).memWf = true :=
  State.memWf_modCtx _ _ _ (State.memWf_foldl (fun s w hs => hl s w.1 w.2 hs) hs)

theorem State.memWf_expect {s : State} {c : Nat} {ds : List Dest} (hs : s.memWf = true) :
    (s.expect c ds).memWf = true := by
  unfold State.expect
  exact State.memWf_modCtx _ _ _ hs

theorem State.memWf_writeSpecial {s : State} {c num : Nat} {v : W64} (hs : s.memWf = true) :
    (s.writeSpecial c num v).memWf = true := by
  unfold State.writeSpecial
  split
  · exact State.memWf_modCtx _ _ _ hs
  · split
    · exact State.memWf_modCtx _ _ _ hs
    · exact State.memWf_modCtx _ _ _ hs
    · exact State.memWf_modDie _ _ _ hs (fun x h => h)
    · exact State.memWf_modCtx _ _ _ hs
    · exact State.memWf_modCtx _ _ _ hs
    · exact hs

theorem State.memWf_landScalar {s : State} {c : Nat} {d : Dest} {v : W64} (hs : s.memWf = true) :
    (s.landScalar c d v).memWf = true := by
  unfold State.landScalar
  split
  · exact State.memWf_modCtx _ _ _ hs
  · exact State.memWf_modCtx _ _ _ hs
  · exact State.memWf_modCtx _ _ _ hs
  · exact State.memWf_modCtx _ _ _ hs
  · exact State.memWf_modCtx _ _ _ hs
  · exact State.memWf_modCtx _ _ _ hs
  · exact State.memWf_modCtx _ _ _ hs
  · exact State.memWf_modCtx _ _ _ hs
  · exact State.memWf_writeSpecial hs
  · exact State.memWf_modCtx _ _ _ hs
  · exact hs
  · exact hs

theorem State.memWf_reply {s : State} {c k : Nat} {ws : List (Dest × W64)} (hs : s.memWf = true) :
    (s.reply c k ws).memWf = true := by
  unfold State.reply
  exact State.memWf_replyWith (fun s' d v h => State.memWf_landScalar h) hs

theorem State.memWf_answerResult {s : State} {c id k : Nat} {ws : List (Dest × W64)} (hs : s.memWf = true) :
    (s.answerResult c id k ws).memWf = true := by
  unfold State.answerResult
  split
  · exact hs
  · split
    · exact State.memWf_foldl (fun s' a h => State.memWf_reply h) (State.memWf_modCtx _ _ _ hs)
    · exact State.memWf_reply hs

theorem State.memWf_replyTo {s : State} {c k d : Nat} {v : W64} (hs : s.memWf = true) :
    (s.replyTo c k d v).memWf = true := by
  unfold State.replyTo
  exact State.memWf_answerResult hs

theorem State.memWf_replyPair {s : State} {c k d : Nat} {v w : W64} (hs : s.memWf = true) :
    (s.replyPair c k d v w).memWf = true := by
  unfold State.replyPair
  exact State.memWf_answerResult hs

theorem State.memWf_insertReady {s : State} {c : Nat} (hs : s.memWf = true) :
    (s.insertReady c).memWf = true := by
  unfold State.insertReady
  exact State.memWf_modCtx _ _ _ hs

theorem State.memWf_wake {s : State} {p : Ctx → WaitWhy → Bool} (hs : s.memWf = true) :
    (s.wake p).memWf = true := by
  unfold State.wake
  refine State.memWf_foldl ?_ hs
  intro s' a h
  split
  · split
    · split
      · exact State.memWf_insertReady h
      · exact h
    · exact h
  · exact h

theorem State.memWf_abortJoin {s : State} {c : Nat} (hs : s.memWf = true) :
    (s.abortJoin c).1.memWf = true := by
  unfold State.abortJoin
  split
  · exact hs
  · split
    · exact hs
    · dsimp only
      refine State.memWf_modCtx _ _ _ ?_
      split
      · exact hs
      · exact State.memWf_modCtx _ _ _ hs

theorem State.memWf_dropHostLines {s : State} (hs : s.memWf = true) :
    (s.dropHostLines).memWf = true := by
  unfold State.dropHostLines
  exact hs

theorem State.memWf_setTherm {s : State} {t : TState} (hs : s.memWf = true) :
    (s.setTherm t).memWf = true := by
  unfold State.setTherm
  split
  · exact hs
  · exact State.memWf_setEvt (State.memWf_modThermal hs)

theorem State.memWf_applyAtomics {s : State} (hs : s.memWf = true) :
    (s.applyAtomics).memWf = true := by
  unfold State.applyAtomics
  exact State.memWf_foldl (fun s' a h => State.memWf_applyPlaced h) hs

theorem State.memWf_endSession {s : State} {cause : Nat} (hs : s.memWf = true) : (s.endSession cause).memWf = true := by
  unfold State.endSession
  refine State.memWf_msix (State.memWf_dropHostLines ?_)
  obtain ⟨hhome, hhost, hdies, hcores, hclusters, -⟩ := (State.memWf_iff _).1 (State.memWf_applyAtomics hs)
  have hdies' : ∀ (ds : List Nat) (m : SMap Die), m.all (fun d => Memory.wf d.2.view) = true →
      (ds.foldl (fun m d => SMap.modify {} m d Die.endSession) m).all (fun d => Memory.wf d.2.view) = true := fun ds => by
    induction ds with
    | nil => exact fun _ h => h
    | cons d ds ih =>
      exact fun m h => ih _ (SMap.all_modify {} (fun x : Die => Memory.wf x.view) m d Die.endSession h rfl fun _ hx => Mem.wf_freeGauges _ hx)
  have hclusters' := SMap.all_mapVals (d := {}) (p := fun k : Cluster => Memory.wf k.sram) (f := fun k => { k with riffle := [] }) hclusters
    fun _ hx => hx
  dsimp only
  split
  · exact State.memWf_setTherm ((State.memWf_iff _).2 ⟨Mem.wf_freeGauges _ hhome, hhost, hdies' _ _ hdies, hcores, hclusters', rfl⟩)
  · exact State.memWf_setTherm ((State.memWf_iff _).2 ⟨Mem.wf_freeGauges _ hhome, hhost, hdies' _ _ hdies, hcores, hclusters', rfl⟩)
  · exact (State.memWf_iff _).2 ⟨Mem.wf_freeGauges _ hhome, hhost, hdies' _ _ hdies, hcores, hclusters', rfl⟩

theorem State.memWf_evalSoon {s : State} {d n : Nat} (hs : s.memWf = true) :
    (s.evalSoon d n).memWf = true := by
  unfold State.evalSoon
  split
  · exact State.memWf_soon hs
  · exact hs

theorem State.memWf_weirSoon {s : State} {d : Nat} (hs : s.memWf = true) :
    (s.weirSoon d).memWf = true := by
  unfold State.weirSoon
  exact State.memWf_foldl (fun s' a h => State.memWf_evalSoon h) hs

theorem State.memWf_weirsSoon {s : State} (hs : s.memWf = true) :
    (s.weirsSoon).memWf = true := by
  unfold State.weirsSoon
  exact State.memWf_foldl (fun s' a h => State.memWf_weirSoon h) hs

theorem State.memWf_checkEnd {s : State} (hs : s.memWf = true) :
    (s.checkEnd).memWf = true := by
  unfold State.checkEnd
  dsimp only
  split
  · exact State.memWf_endSession hs
  · exact hs

theorem State.memWf_undeliverable {s : State} {c code : Nat} (hs : s.memWf = true) :
    (s.undeliverable c code).memWf = true := by
  unfold State.undeliverable
  exact State.memWf_endSession (State.memWf_addLog hs)

theorem State.memWf_takeTrap {s : State} {c : Nat} {t : TrapReq} {tpc : BitVec 48} {repLeft : Nat} {keep : List DueTrap} (hs : s.memWf = true) :
    (s.takeTrap c t tpc repLeft keep).memWf = true := by
  unfold State.takeTrap
  split
  · exact hs
  · split
    · exact State.memWf_modCtx _ _ _ (State.memWf_abortJoin hs)
    · exact State.memWf_undeliverable hs

theorem SlotOut.Keeps.of_act {o : SlotOut} {t : Option Nat} {f : State → State} (ho : o.Keeps) (he : o = .act t f) {s : State}
    (hs : s.memWf = true) : (f s).memWf = true := by
  subst he
  exact ho s hs

theorem SlotOut.keeps_none : SlotOut.none.Keeps := fun _ hs => hs

theorem Env.keeps_trap {e : Env} {code : Nat} {arg : W64} :
    SlotOut.Keeps (Env.trap e code arg) := by
  unfold Env.trap
  exact trivial

theorem Env.keeps_illegal {e : Env} {field value : Nat} :
    SlotOut.Keeps (Env.illegal e field value) := by
  unfold Env.illegal
  exact Env.keeps_trap

theorem Env.keeps_illegalOp {e : Env} :
    SlotOut.Keeps (Env.illegalOp e) := by
  unfold Env.illegalOp
  exact Env.keeps_trap

theorem Env.keeps_priv {e : Env} {num : Nat} :
    SlotOut.Keeps (Env.priv e num) := by
  unfold Env.priv
  exact Env.keeps_trap

theorem Env.keeps_clean {e : Env} {runs : List (Nat × Nat)} {k : SlotOut} (hk : k.Keeps) :
    SlotOut.Keeps (Env.clean e runs k) := by
  unfold Env.clean
  split
  · exact Env.keeps_trap
  · exact hk

theorem Env.keeps_checked {e : Env} {cs : List Check} {k : SlotOut} (hk : k.Keeps) :
    SlotOut.Keeps (Env.checked e cs k) := by
  unfold Env.checked
  split
  · exact Env.keeps_illegal
  · exact hk

theorem Env.keeps_guarded {e : Env} {cs : List Check} {k : SlotOut} (hk : k.Keeps) :
    SlotOut.Keeps (Env.guarded e cs k) := by
  unfold Env.guarded
  split
  · exact Env.keeps_checked hk
  · exact SlotOut.keeps_none

theorem Env.keeps_guardedSup {e : Env} {cs : List Check} {k : SlotOut} (hk : k.Keeps) :
    SlotOut.Keeps (Env.guardedSup e cs k) := by
  unfold Env.guardedSup
  split
  · split
    · exact Env.keeps_checked hk
    · exact Env.keeps_priv
  · exact SlotOut.keeps_none

theorem State.memWf_addFlight {s : State} {c lat : Nat} {w : Landing} (hs : s.memWf = true) :
    (s.addFlight c lat w).memWf = true := by
  unfold State.addFlight
  exact State.memWf_modCtx _ _ _ hs

theorem Env.keeps_result {e : Env} {lat : Nat} {w : Landing} :
    SlotOut.Keeps (Env.result e lat w) := by
  unfold Env.result
  exact fun s h => State.memWf_addFlight h

theorem Env.memWf_pops {e : Env} {ks : List Nat} {f : State → State} (hf : ∀ s : State, s.memWf = true → (f s).memWf = true) {s : State}
    (hs : s.memWf = true) : (e.pops ks f s).memWf = true :=
  State.memWf_modCtx _ _ _ (hf s hs)

theorem Env.keeps_streamsThen {e : Env} {ks : List Nat} {field : Nat → Nat} {k : SlotOut} (hk : k.Keeps) : (e.streamsThen ks field k).Keeps := by
  unfold Env.streamsThen
  dsimp only
  split
  · trivial
  · split
    · trivial
    · split
      · trivial
      · exact fun _ hs => Env.memWf_pops hk hs
      · exact hk

theorem Env.keeps_vguarded {e : Env} {f : VReg} {m : VForm} {more : List Check} {k : SlotOut} (hk : k.Keeps) :
    SlotOut.Keeps (Env.vguarded e f m more k) := by
  unfold Env.vguarded
  split
  · exact SlotOut.keeps_none
  · exact Env.keeps_checked (Env.keeps_streamsThen hk)

theorem Env.keeps_vresult {e : Env} {f : VReg} {lat : Nat} {v : Vec} :
    SlotOut.Keeps (Env.vresult e f lat v) := by
  unfold Env.vresult
  exact Env.keeps_result

theorem Env.keeps_rounded {e : Env} {f : VSlot} {dst : Dest} {lat : Nat} {sr : Bool} {r : RVec} :
    SlotOut.Keeps (Env.rounded e f dst lat sr r) := by
  unfold Env.rounded
  split
  · exact Env.keeps_trap
  · exact fun s h => State.memWf_modCtx _ _ _ (State.memWf_addFlight h)

theorem Env.keeps_predPair {e : Env} {pair : Nat} {v m : Mask} :
    SlotOut.Keeps (Env.predPair e pair v m) := by
  unfold Env.predPair
  exact fun s h => State.memWf_addFlight (State.memWf_addFlight h)

theorem State.memWf_writeHome {s : State} {d pa : Nat} {data : List Byte} {skip : List Nat} (hs : s.memWf = true) :
    (s.writeHome d pa data skip).memWf = true := by
  unfold State.writeHome
  exact State.memWf_unpoison (State.memWf_placeWrite _ _ (State.memWf_writeGlobal _ _ _ _ _ hs))

theorem State.memWf_gaugeUE {s : State} {pa : Nat} (hs : s.memWf = true) :
    (s.gaugeUE pa).memWf = true := by
  unfold State.gaugeUE
  exact State.memWf_logUE hs

theorem State.memWf_addNonfinite {s : State} {d g n : Nat} (hs : s.memWf = true) :
    (s.addNonfinite d g n).memWf = true := by
  unfold State.addNonfinite
  split
  · exact State.memWf_gaugeUE hs
  · exact State.memWf_writeHome hs

theorem State.memWf_gaugeSector {s : State} {d g : Nat} {c : Contribution} (hs : s.memWf = true) :
    (s.gaugeSector d g c).memWf = true := by
  unfold State.gaugeSector
  split
  · exact State.memWf_gaugeUE hs
  · dsimp only
    split
    · exact State.memWf_writeHome hs
    · exact State.memWf_writeHome hs

theorem keeps_sBinary {lat : Nat} {op : W64 → W64 → W64} {f : SReg} {e : Env} :
    SlotOut.Keeps (sBinary lat op f e) := by
  unfold sBinary
  exact Env.keeps_guarded Env.keeps_result

theorem keeps_sUnary {op : W64 → W64} {f : SReg} {e : Env} :
    SlotOut.Keeps (sUnary op f e) := by
  unfold sUnary
  exact Env.keeps_guarded Env.keeps_result

theorem keeps_sImmediate {op : W64 → BitVec 20 → W64} {f : SImm} {e : Env} :
    SlotOut.Keeps (sImmediate op f e) := by
  unfold sImmediate
  exact Env.keeps_guarded Env.keeps_result

theorem keeps_evalAdd {f : SReg} {e : Env} :
    SlotOut.Keeps (evalAdd f e) := by
  unfold evalAdd
  exact keeps_sBinary

theorem keeps_evalSub {f : SReg} {e : Env} :
    SlotOut.Keeps (evalSub f e) := by
  unfold evalSub
  exact keeps_sBinary

theorem keeps_evalAddi {f : SImm} {e : Env} :
    SlotOut.Keeps (evalAddi f e) := by
  unfold evalAddi
  exact keeps_sImmediate

theorem keeps_evalMul {f : SReg} {e : Env} :
    SlotOut.Keeps (evalMul f e) := by
  unfold evalMul
  exact keeps_sBinary

theorem keeps_evalMulh {f : SReg} {e : Env} :
    SlotOut.Keeps (evalMulh f e) := by
  unfold evalMulh
  exact keeps_sBinary

theorem keeps_evalMulhn {f : SReg} {e : Env} :
    SlotOut.Keeps (evalMulhn f e) := by
  unfold evalMulhn
  exact keeps_sBinary

theorem keeps_evalDiv {f : SReg} {e : Env} :
    SlotOut.Keeps (evalDiv f e) := by
  unfold evalDiv
  exact keeps_sBinary

theorem keeps_evalDivn {f : SReg} {e : Env} :
    SlotOut.Keeps (evalDivn f e) := by
  unfold evalDivn
  exact keeps_sBinary

theorem keeps_evalRem {f : SReg} {e : Env} :
    SlotOut.Keeps (evalRem f e) := by
  unfold evalRem
  exact keeps_sBinary

theorem keeps_evalAnd {f : SReg} {e : Env} :
    SlotOut.Keeps (evalAnd f e) := by
  unfold evalAnd
  exact keeps_sBinary

theorem keeps_evalAndi {f : SImm} {e : Env} :
    SlotOut.Keeps (evalAndi f e) := by
  unfold evalAndi
  exact keeps_sImmediate

theorem keeps_evalOr {f : SReg} {e : Env} :
    SlotOut.Keeps (evalOr f e) := by
  unfold evalOr
  exact keeps_sBinary

theorem keeps_evalOri {f : SImm} {e : Env} :
    SlotOut.Keeps (evalOri f e) := by
  unfold evalOri
  exact keeps_sImmediate

theorem keeps_evalXor {f : SReg} {e : Env} :
    SlotOut.Keeps (evalXor f e) := by
  unfold evalXor
  exact keeps_sBinary

theorem keeps_evalXori {f : SImm} {e : Env} :
    SlotOut.Keeps (evalXori f e) := by
  unfold evalXori
  exact keeps_sImmediate

theorem keeps_evalAndn {f : SReg} {e : Env} :
    SlotOut.Keeps (evalAndn f e) := by
  unfold evalAndn
  exact keeps_sBinary

theorem keeps_evalShl {f : SReg} {e : Env} :
    SlotOut.Keeps (evalShl f e) := by
  unfold evalShl
  exact keeps_sBinary

theorem keeps_evalShr {f : SReg} {e : Env} :
    SlotOut.Keeps (evalShr f e) := by
  unfold evalShr
  exact keeps_sBinary

theorem keeps_evalSar {f : SReg} {e : Env} :
    SlotOut.Keeps (evalSar f e) := by
  unfold evalSar
  exact keeps_sBinary

theorem keeps_evalRot {f : SReg} {e : Env} :
    SlotOut.Keeps (evalRot f e) := by
  unfold evalRot
  exact keeps_sBinary

theorem keeps_evalClz {f : SReg} {e : Env} :
    SlotOut.Keeps (evalClz f e) := by
  unfold evalClz
  exact keeps_sUnary

theorem keeps_evalPopc {f : SReg} {e : Env} :
    SlotOut.Keeps (evalPopc f e) := by
  unfold evalPopc
  exact keeps_sUnary

theorem keeps_evalMin {f : SReg} {e : Env} :
    SlotOut.Keeps (evalMin f e) := by
  unfold evalMin
  exact keeps_sBinary

theorem keeps_evalMax {f : SReg} {e : Env} :
    SlotOut.Keeps (evalMax f e) := by
  unfold evalMax
  exact keeps_sBinary

theorem keeps_evalMinn {f : SReg} {e : Env} :
    SlotOut.Keeps (evalMinn f e) := by
  unfold evalMinn
  exact keeps_sBinary

theorem keeps_evalMaxn {f : SReg} {e : Env} :
    SlotOut.Keeps (evalMaxn f e) := by
  unfold evalMaxn
  exact keeps_sBinary

theorem keeps_evalShadd {f : SImm} {e : Env} :
    SlotOut.Keeps (evalShadd f e) := by
  unfold evalShadd
  exact Env.keeps_guarded Env.keeps_result

theorem keeps_evalExt {f : SImm} {e : Env} :
    SlotOut.Keeps (evalExt f e) := by
  unfold evalExt
  exact Env.keeps_guarded Env.keeps_result

theorem keeps_evalIns {f : SImm} {e : Env} :
    SlotOut.Keeps (evalIns f e) := by
  unfold evalIns
  exact Env.keeps_guarded Env.keeps_result

theorem keeps_evalLi {f : SImm} {e : Env} :
    SlotOut.Keeps (evalLi f e) := by
  unfold evalLi
  exact Env.keeps_guarded Env.keeps_result

theorem keeps_evalLih {f : SImm} {e : Env} :
    SlotOut.Keeps (evalLih f e) := by
  unfold evalLih
  exact Env.keeps_guarded Env.keeps_result

theorem keeps_evalLil {f : SImm} {e : Env} :
    SlotOut.Keeps (evalLil f e) := by
  unfold evalLil
  exact Env.keeps_guarded Env.keeps_result

theorem keeps_evalCmp {f : SReg} {e : Env} :
    SlotOut.Keeps (evalCmp f e) := by
  unfold evalCmp
  exact Env.keeps_guarded Env.keeps_predPair

theorem keeps_evalCmpi {f : SImm} {e : Env} :
    SlotOut.Keeps (evalCmpi f e) := by
  unfold evalCmpi
  exact Env.keeps_guarded Env.keeps_predPair

theorem keeps_evalSel {f : SImm} {e : Env} :
    SlotOut.Keeps (evalSel f e) := by
  unfold evalSel
  exact Env.keeps_guarded Env.keeps_result

theorem keeps_evalCpy {f : SImm} {e : Env} :
    SlotOut.Keeps (evalCpy f e) := by
  unfold evalCpy
  dsimp only
  refine Env.keeps_guarded ?_
  split
  · exact Env.keeps_result
  · exact Env.keeps_result

theorem Env.keeps_specialGuarded {e : Env} {f : SImm} {cs : List Check} {k : SlotOut} (hk : k.Keeps) :
    SlotOut.Keeps (Env.specialGuarded e f cs k) := by
  unfold Env.specialGuarded
  split
  · split
    · exact Env.keeps_priv
    · exact Env.keeps_checked hk
  · exact SlotOut.keeps_none

theorem keeps_evalMfs {f : SImm} {e : Env} :
    SlotOut.Keeps (evalMfs f e) := by
  unfold evalMfs
  exact Env.keeps_specialGuarded Env.keeps_result

theorem keeps_evalMts {f : SImm} {e : Env} :
    SlotOut.Keeps (evalMts f e) := by
  unfold evalMts
  exact Env.keeps_specialGuarded Env.keeps_result

theorem keeps_evalBrxS1 {f : SReg} {e : Env} :
    SlotOut.Keeps (evalBrxS1 f e) := by
  unfold evalBrxS1
  split
  · exact Env.keeps_illegalOp
  · exact Env.keeps_guarded (fun s h => State.memWf_modCtx _ _ _ h)

theorem keeps_vArith {op : Bool → XR → XR → XR → XR} {f : VReg} {e : Env} :
    SlotOut.Keeps (vArith op f e) := by
  unfold vArith
  exact Env.keeps_vguarded Env.keeps_rounded

theorem keeps_evalVadd {f : VReg} {e : Env} :
    SlotOut.Keeps (evalVadd f e) := by
  unfold evalVadd
  exact keeps_vArith

theorem keeps_evalVsub {f : VReg} {e : Env} :
    SlotOut.Keeps (evalVsub f e) := by
  unfold evalVsub
  exact keeps_vArith

theorem keeps_evalVmul {f : VReg} {e : Env} :
    SlotOut.Keeps (evalVmul f e) := by
  unfold evalVmul
  exact keeps_vArith

theorem keeps_evalVfma {f : VReg} {e : Env} :
    SlotOut.Keeps (evalVfma f e) := by
  unfold evalVfma
  exact keeps_vArith

theorem keeps_evalVfms {f : VReg} {e : Env} :
    SlotOut.Keeps (evalVfms f e) := by
  unfold evalVfms
  exact keeps_vArith

theorem keeps_evalVmac {f : VReg} {e : Env} :
    SlotOut.Keeps (evalVmac f e) := by
  unfold evalVmac
  exact keeps_vArith

theorem Env.keeps_vplain {e : Env} {f : VReg} {lat : Nat} {r : Nat → W32} :
    SlotOut.Keeps (Env.vplain e f lat r) := by
  unfold Env.vplain
  exact Env.keeps_vresult

theorem keeps_vPick {larger : Bool} {f : VReg} {e : Env} :
    SlotOut.Keeps (vPick larger f e) := by
  unfold vPick
  exact Env.keeps_vguarded Env.keeps_vplain

theorem keeps_evalVmin {f : VReg} {e : Env} :
    SlotOut.Keeps (evalVmin f e) := by
  unfold evalVmin
  exact keeps_vPick

theorem keeps_evalVmax {f : VReg} {e : Env} :
    SlotOut.Keeps (evalVmax f e) := by
  unfold evalVmax
  exact keeps_vPick

theorem keeps_vSign {op : Nat → Nat → Nat} {f : VReg} {e : Env} :
    SlotOut.Keeps (vSign op f e) := by
  unfold vSign
  exact Env.keeps_vguarded Env.keeps_vplain

theorem keeps_evalVabs {f : VReg} {e : Env} :
    SlotOut.Keeps (evalVabs f e) := by
  unfold evalVabs
  exact keeps_vSign

theorem keeps_evalVneg {f : VReg} {e : Env} :
    SlotOut.Keeps (evalVneg f e) := by
  unfold evalVneg
  exact keeps_vSign

theorem keeps_vSpecial {fn : SpecialFn} {f : VReg} {e : Env} :
    SlotOut.Keeps (vSpecial fn f e) := by
  unfold vSpecial
  exact Env.keeps_vguarded Env.keeps_rounded

theorem keeps_evalVrcp {f : VReg} {e : Env} :
    SlotOut.Keeps (evalVrcp f e) := by
  unfold evalVrcp
  exact keeps_vSpecial

theorem keeps_evalVrsq {f : VReg} {e : Env} :
    SlotOut.Keeps (evalVrsq f e) := by
  unfold evalVrsq
  exact keeps_vSpecial

theorem keeps_evalVexp2 {f : VReg} {e : Env} :
    SlotOut.Keeps (evalVexp2 f e) := by
  unfold evalVexp2
  exact keeps_vSpecial

theorem keeps_evalVlog2 {f : VReg} {e : Env} :
    SlotOut.Keeps (evalVlog2 f e) := by
  unfold evalVlog2
  exact keeps_vSpecial

theorem keeps_evalVclass {f : VReg} {e : Env} :
    SlotOut.Keeps (evalVclass f e) := by
  unfold evalVclass
  exact Env.keeps_vguarded Env.keeps_vplain

theorem keeps_vCompare {m : VForm} {cond : Nat → Nat → Nat → Bool} {f : VReg} {e : Env} :
    SlotOut.Keeps (vCompare m cond f e) := by
  unfold vCompare
  exact Env.keeps_vguarded Env.keeps_predPair

theorem keeps_evalVcmp {f : VReg} {e : Env} :
    SlotOut.Keeps (evalVcmp f e) := by
  unfold evalVcmp
  exact keeps_vCompare

theorem keeps_vImmediate {op : Bool → XR → XR → XR → XR} {f : VImm} {e : Env} :
    SlotOut.Keeps (vImmediate op f e) := by
  unfold vImmediate
  dsimp only
  split
  · exact SlotOut.keeps_none
  · exact Env.keeps_checked (Env.keeps_streamsThen Env.keeps_rounded)

theorem keeps_evalVaddi {f : VImm} {e : Env} :
    SlotOut.Keeps (evalVaddi f e) := by
  unfold evalVaddi
  exact keeps_vImmediate

theorem keeps_evalVmuli {f : VImm} {e : Env} :
    SlotOut.Keeps (evalVmuli f e) := by
  unfold evalVmuli
  exact keeps_vImmediate

theorem keeps_evalVfmai {f : VImm} {e : Env} :
    SlotOut.Keeps (evalVfmai f e) := by
  unfold evalVfmai
  exact keeps_vImmediate

theorem keeps_evalVmaci {f : VImm} {e : Env} :
    SlotOut.Keeps (evalVmaci f e) := by
  unfold evalVmaci
  exact keeps_vImmediate

theorem keeps_vInteger {types variants : List Nat} {op : Nat → Int → Int → W32} {f : VReg} {e : Env} :
    SlotOut.Keeps (vInteger types variants op f e) := by
  unfold vInteger
  exact Env.keeps_vguarded Env.keeps_vplain

theorem keeps_vWrap {op : Nat → Int → Int → Int} {f : VReg} {e : Env} :
    SlotOut.Keeps (vWrap op f e) := by
  unfold vWrap
  exact keeps_vInteger

theorem keeps_vBits {op : Nat → Nat → Nat → Nat} {f : VReg} {e : Env} :
    SlotOut.Keeps (vBits op f e) := by
  unfold vBits
  exact keeps_vInteger

theorem keeps_vClamp {types : List Nat} {op : Nat → Int → Int → Int} {f : VReg} {e : Env} :
    SlotOut.Keeps (vClamp types op f e) := by
  unfold vClamp
  exact keeps_vInteger

theorem keeps_evalViadd {f : VReg} {e : Env} :
    SlotOut.Keeps (evalViadd f e) := by
  unfold evalViadd
  exact keeps_vWrap

theorem keeps_evalVisub {f : VReg} {e : Env} :
    SlotOut.Keeps (evalVisub f e) := by
  unfold evalVisub
  exact keeps_vWrap

theorem keeps_evalVimul {f : VReg} {e : Env} :
    SlotOut.Keeps (evalVimul f e) := by
  unfold evalVimul
  exact keeps_vWrap

theorem keeps_evalVimulh {f : VReg} {e : Env} :
    SlotOut.Keeps (evalVimulh f e) := by
  unfold evalVimulh
  exact keeps_vWrap

theorem keeps_evalVshl {f : VReg} {e : Env} :
    SlotOut.Keeps (evalVshl f e) := by
  unfold evalVshl
  exact keeps_vBits

theorem keeps_evalVshr {f : VReg} {e : Env} :
    SlotOut.Keeps (evalVshr f e) := by
  unfold evalVshr
  exact keeps_vBits

theorem keeps_evalVsar {f : VReg} {e : Env} :
    SlotOut.Keeps (evalVsar f e) := by
  unfold evalVsar
  exact keeps_vBits

theorem keeps_evalVand {f : VReg} {e : Env} :
    SlotOut.Keeps (evalVand f e) := by
  unfold evalVand
  exact keeps_vBits

theorem keeps_evalVor {f : VReg} {e : Env} :
    SlotOut.Keeps (evalVor f e) := by
  unfold evalVor
  exact keeps_vBits

theorem keeps_evalVxor {f : VReg} {e : Env} :
    SlotOut.Keeps (evalVxor f e) := by
  unfold evalVxor
  exact keeps_vBits

theorem keeps_evalVandn {f : VReg} {e : Env} :
    SlotOut.Keeps (evalVandn f e) := by
  unfold evalVandn
  exact keeps_vBits

theorem keeps_evalVimin {f : VReg} {e : Env} :
    SlotOut.Keeps (evalVimin f e) := by
  unfold evalVimin
  exact keeps_vInteger

theorem keeps_evalVimax {f : VReg} {e : Env} :
    SlotOut.Keeps (evalVimax f e) := by
  unfold evalVimax
  exact keeps_vInteger

theorem keeps_evalVadds {f : VReg} {e : Env} :
    SlotOut.Keeps (evalVadds f e) := by
  unfold evalVadds
  exact keeps_vClamp

theorem keeps_evalVsubs {f : VReg} {e : Env} :
    SlotOut.Keeps (evalVsubs f e) := by
  unfold evalVsubs
  exact keeps_vClamp

theorem keeps_evalVqmuls {f : VReg} {e : Env} :
    SlotOut.Keeps (evalVqmuls f e) := by
  unfold evalVqmuls
  exact keeps_vClamp

theorem keeps_evalVabsd {f : VReg} {e : Env} :
    SlotOut.Keeps (evalVabsd f e) := by
  unfold evalVabsd
  exact keeps_vInteger

theorem keeps_evalVavg {f : VReg} {e : Env} :
    SlotOut.Keeps (evalVavg f e) := by
  unfold evalVavg
  exact keeps_vInteger

theorem keeps_evalVdot4 {f : VReg} {e : Env} :
    SlotOut.Keeps (evalVdot4 f e) := by
  unfold evalVdot4
  exact Env.keeps_vguarded Env.keeps_vplain

theorem keeps_evalVsad {f : VReg} {e : Env} :
    SlotOut.Keeps (evalVsad f e) := by
  unfold evalVsad
  exact Env.keeps_vguarded Env.keeps_vplain

theorem keeps_evalVicmp {f : VReg} {e : Env} :
    SlotOut.Keeps (evalVicmp f e) := by
  unfold evalVicmp
  exact keeps_vCompare

theorem State.memWf_spendFree {s : State} (hs : s.memWf = true) :
    (s.spendFree).memWf = true := by
  unfold State.spendFree
  exact hs

theorem keeps_evalVcvt {f : VReg} {e : Env} :
    SlotOut.Keeps (evalVcvt f e) := by
  unfold evalVcvt
  dsimp only
  refine Env.keeps_vguarded ?_
  split
  · exact Env.keeps_vplain
  · split
    · exact Env.keeps_vplain
    · split
      · exact Env.keeps_rounded
      · split
        · exact fun s h => State.memWf_spendFree (SlotOut.Keeps.of_act Env.keeps_vplain ‹_› h)
        · exact Env.keeps_vplain

theorem keeps_evalVqnt {f : VReg} {e : Env} :
    SlotOut.Keeps (evalVqnt f e) := by
  unfold evalVqnt
  dsimp only
  refine Env.keeps_vguarded ?_
  refine Env.keeps_clean ?_
  split
  · exact Env.keeps_rounded
  · split
    · split
      · split
        · split
          · split
            · exact Env.keeps_trap
            · split
              · intro s h
                dsimp only
                split
                · exact State.memWf_addNonfinite (SlotOut.Keeps.of_act Env.keeps_rounded ‹_› h)
                · exact SlotOut.Keeps.of_act Env.keeps_rounded ‹_› h
              · exact Env.keeps_rounded
          · split
            · exact Env.keeps_trap
            · split
              · intro s h
                dsimp only
                split
                · exact State.memWf_addNonfinite (SlotOut.Keeps.of_act Env.keeps_rounded ‹_› h)
                · exact SlotOut.Keeps.of_act Env.keeps_rounded ‹_› h
              · exact Env.keeps_rounded
        · split
          · split
            · exact Env.keeps_trap
            · split
              · intro s h
                dsimp only
                split
                · exact State.memWf_addNonfinite (SlotOut.Keeps.of_act Env.keeps_rounded ‹_› h)
                · exact SlotOut.Keeps.of_act Env.keeps_rounded ‹_› h
              · exact Env.keeps_rounded
          · split
            · exact Env.keeps_trap
            · split
              · intro s h
                dsimp only
                split
                · exact State.memWf_addNonfinite (SlotOut.Keeps.of_act Env.keeps_rounded ‹_› h)
                · exact SlotOut.Keeps.of_act Env.keeps_rounded ‹_› h
              · exact Env.keeps_rounded
      · split
        · split
          · split
            · exact Env.keeps_trap
            · split
              · intro s h
                dsimp only
                split
                · exact State.memWf_addNonfinite (SlotOut.Keeps.of_act Env.keeps_rounded ‹_› h)
                · exact SlotOut.Keeps.of_act Env.keeps_rounded ‹_› h
              · exact Env.keeps_rounded
          · split
            · exact Env.keeps_trap
            · split
              · intro s h
                dsimp only
                split
                · exact State.memWf_addNonfinite (SlotOut.Keeps.of_act Env.keeps_rounded ‹_› h)
                · exact SlotOut.Keeps.of_act Env.keeps_rounded ‹_› h
              · exact Env.keeps_rounded
        · split
          · split
            · exact Env.keeps_trap
            · split
              · intro s h
                dsimp only
                split
                · exact State.memWf_addNonfinite (SlotOut.Keeps.of_act Env.keeps_rounded ‹_› h)
                · exact SlotOut.Keeps.of_act Env.keeps_rounded ‹_› h
              · exact Env.keeps_rounded
          · split
            · exact Env.keeps_trap
            · split
              · intro s h
                dsimp only
                split
                · exact State.memWf_addNonfinite (SlotOut.Keeps.of_act Env.keeps_rounded ‹_› h)
                · exact SlotOut.Keeps.of_act Env.keeps_rounded ‹_› h
              · exact Env.keeps_rounded
    · split
      · split
        · split
          · split
            · exact Env.keeps_trap
            · split
              · intro s h
                dsimp only
                split
                · exact State.memWf_addNonfinite (SlotOut.Keeps.of_act Env.keeps_rounded ‹_› h)
                · exact SlotOut.Keeps.of_act Env.keeps_rounded ‹_› h
              · exact Env.keeps_rounded
          · split
            · exact Env.keeps_trap
            · split
              · intro s h
                dsimp only
                split
                · exact State.memWf_addNonfinite (SlotOut.Keeps.of_act Env.keeps_rounded ‹_› h)
                · exact SlotOut.Keeps.of_act Env.keeps_rounded ‹_› h
              · exact Env.keeps_rounded
        · split
          · split
            · exact Env.keeps_trap
            · split
              · intro s h
                dsimp only
                split
                · exact State.memWf_addNonfinite (SlotOut.Keeps.of_act Env.keeps_rounded ‹_› h)
                · exact SlotOut.Keeps.of_act Env.keeps_rounded ‹_› h
              · exact Env.keeps_rounded
          · split
            · exact Env.keeps_trap
            · split
              · intro s h
                dsimp only
                split
                · exact State.memWf_addNonfinite (SlotOut.Keeps.of_act Env.keeps_rounded ‹_› h)
                · exact SlotOut.Keeps.of_act Env.keeps_rounded ‹_› h
              · exact Env.keeps_rounded
      · split
        · split
          · split
            · exact Env.keeps_trap
            · split
              · intro s h
                dsimp only
                split
                · exact State.memWf_addNonfinite (SlotOut.Keeps.of_act Env.keeps_rounded ‹_› h)
                · exact SlotOut.Keeps.of_act Env.keeps_rounded ‹_› h
              · exact Env.keeps_rounded
          · split
            · exact Env.keeps_trap
            · split
              · intro s h
                dsimp only
                split
                · exact State.memWf_addNonfinite (SlotOut.Keeps.of_act Env.keeps_rounded ‹_› h)
                · exact SlotOut.Keeps.of_act Env.keeps_rounded ‹_› h
              · exact Env.keeps_rounded
        · split
          · split
            · exact Env.keeps_trap
            · split
              · intro s h
                dsimp only
                split
                · exact State.memWf_addNonfinite (SlotOut.Keeps.of_act Env.keeps_rounded ‹_› h)
                · exact SlotOut.Keeps.of_act Env.keeps_rounded ‹_› h
              · exact Env.keeps_rounded
          · split
            · exact Env.keeps_trap
            · split
              · intro s h
                dsimp only
                split
                · exact State.memWf_addNonfinite (SlotOut.Keeps.of_act Env.keeps_rounded ‹_› h)
                · exact SlotOut.Keeps.of_act Env.keeps_rounded ‹_› h
              · exact Env.keeps_rounded

theorem keeps_evalVdqnt {f : VReg} {e : Env} :
    SlotOut.Keeps (evalVdqnt f e) := by
  unfold evalVdqnt
  exact Env.keeps_vguarded (Env.keeps_clean Env.keeps_rounded)

theorem keeps_evalVmxs {f : VReg} {e : Env} :
    SlotOut.Keeps (evalVmxs f e) := by
  unfold evalVmxs
  exact Env.keeps_vguarded Env.keeps_vplain

theorem keeps_evalVsplit {f : VReg} {e : Env} :
    SlotOut.Keeps (evalVsplit f e) := by
  unfold evalVsplit
  exact Env.keeps_vguarded Env.keeps_vplain

theorem keeps_evalVjoin {f : VReg} {e : Env} :
    SlotOut.Keeps (evalVjoin f e) := by
  unfold evalVjoin
  exact Env.keeps_vguarded Env.keeps_vplain

theorem Env.keeps_mguarded {e : Env} {z : BitVec 5} {cs : List Check} {k : SlotOut} (hk : k.Keeps) :
    SlotOut.Keeps (Env.mguarded e z cs k) := by
  unfold Env.mguarded
  dsimp only
  refine Env.keeps_guarded ?_
  split
  · exact Env.keeps_trap
  · exact hk

theorem Env.keeps_mready {e : Env} {z : BitVec 5} {busy : Bool} {k : SlotOut} (hk : k.Keeps) :
    SlotOut.Keeps (Env.mready e z busy k) := by
  unfold Env.mready
  split
  · exact trivial
  · split
    · exact trivial
    · exact hk

theorem Env.keeps_aligned {e : Env} {n : Nat} {os : List Int} {k : SlotOut} (hk : k.Keeps) :
    SlotOut.Keeps (Env.aligned e n os k) := by
  unfold Env.aligned
  split
  · exact Env.keeps_trap
  · exact hk

theorem Env.keeps_insideAll {e : Env} {ps : List Span} {k : SlotOut} (hk : k.Keeps) :
    SlotOut.Keeps (Env.insideAll e ps k) := by
  unfold Env.insideAll
  split
  · exact Env.keeps_trap
  · exact hk

theorem Env.keeps_bankgroup {e : Env} {o : Option Int} {k : SlotOut} (hk : k.Keeps) :
    SlotOut.Keeps (Env.bankgroup e o k) := by
  unfold Env.bankgroup
  split
  · exact Env.keeps_trap
  · exact hk

theorem keeps_evalMcfg {f : MCfg} {e : Env} :
    SlotOut.Keeps (evalMcfg f e) := by
  unfold evalMcfg
  exact Env.keeps_mguarded (Env.keeps_mready Env.keeps_result)

theorem keeps_evalMzero {f : MZero} {e : Env} :
    SlotOut.Keeps (evalMzero f e) := by
  unfold evalMzero
  exact Env.keeps_mguarded (Env.keeps_mready Env.keeps_result)

theorem keeps_evalMacro {f : MMac} {mx : Bool} {e : Env} :
    SlotOut.Keeps (evalMacro f mx e) := by
  unfold evalMacro
  dsimp only
  refine Env.keeps_mguarded ?_
  refine Env.keeps_aligned ?_
  split
  · exact Env.keeps_trap
  · exact Env.keeps_bankgroup (Env.keeps_insideAll (Env.keeps_mready (fun s h => State.memWf_modCtx _ _ _ h)))

theorem keeps_evalMma {f : MMac} {e : Env} :
    SlotOut.Keeps (evalMma f e) := by
  unfold evalMma
  exact keeps_evalMacro

theorem keeps_evalMmax {f : MMac} {e : Env} :
    SlotOut.Keeps (evalMmax f e) := by
  unfold evalMmax
  exact keeps_evalMacro

theorem keeps_evalMread {f : MRead} {e : Env} :
    SlotOut.Keeps (evalMread f e) := by
  unfold evalMread
  exact Env.keeps_mguarded (Env.keeps_mready (fun s h => State.memWf_modCtx _ _ _ h))

theorem keeps_evalMwrite {f : MWrite} {e : Env} :
    SlotOut.Keeps (evalMwrite f e) := by
  unfold evalMwrite
  exact Env.keeps_mguarded (Env.keeps_aligned (Env.keeps_bankgroup (Env.keeps_insideAll (Env.keeps_mready Env.keeps_result))))

theorem keeps_evalMstat {f : MStat} {e : Env} :
    SlotOut.Keeps (evalMstat f e) := by
  unfold evalMstat
  exact Env.keeps_mguarded (Env.keeps_aligned (Env.keeps_bankgroup (Env.keeps_insideAll (Env.keeps_mready Env.keeps_result))))

theorem keeps_evalMjoin {f : MJoin} {e : Env} :
    SlotOut.Keeps (evalMjoin f e) := by
  unfold evalMjoin
  dsimp only
  refine Env.keeps_mguarded ?_
  split
  · exact trivial
  · exact Env.keeps_mready (fun s h => State.memWf_modCtx _ _ _ h)

theorem State.memWf_tbarDo {s : State} {l : Loc} {f : TBar → TBar} (hs : s.memWf = true) :
    (s.tbarDo l f).memWf = true := by
  unfold State.tbarDo
  dsimp only
  split
  · exact State.memWf_wake (State.memWf_writeLoc _ _ _ _ hs)
  · exact State.memWf_writeLoc _ _ _ _ hs

theorem State.memWf_tbarOp {s : State} {l : Loc} {op : BarOp} {v : Nat} (hs : s.memWf = true) :
    (s.tbarOp l op v).memWf = true := by
  unfold State.tbarOp
  split
  · exact State.memWf_writeLoc _ _ _ _ hs
  · exact State.memWf_tbarDo hs
  · exact State.memWf_tbarDo hs

theorem State.memWf_modDram {s : State} {n : Nat} {f : DramChan → DramChan} (hs : s.memWf = true) :
    (s.modDram n f).memWf = true := by
  unfold State.modDram
  exact hs

theorem State.memWf_wakeDram {s : State} {n : Nat} (hs : s.memWf = true) :
    (s.wakeDram n).memWf = true := by
  unfold State.wakeDram
  exact State.memWf_modDram hs

theorem State.memWf_dramRequest {s : State} {sector : Nat} {write : Bool} (hs : s.memWf = true) :
    (s.dramRequest sector write).memWf = true := by
  unfold State.dramRequest
  exact State.memWf_modDram (State.memWf_wakeDram hs)

theorem State.memWf_writeBack {s : State} {line : Nat} (hs : s.memWf = true) :
    (s.writeBack line).memWf = true := by
  unfold State.writeBack
  exact State.memWf_foldl (fun s' a h => State.memWf_dramRequest h) hs

theorem State.memWf_evictLine {s : State} {line : Nat} (hs : s.memWf = true) :
    (s.evictLine line).memWf = true := by
  unfold State.evictLine
  exact State.memWf_writeBack hs

theorem State.memWf_makeRoom {s t : State} {line : Nat} (hs : s.memWf = true) (he : s.makeRoom line = some t) : t.memWf = true := by
  unfold State.makeRoom at he
  dsimp only at he
  split at he
  · cases he
    exact hs
  · obtain ⟨v, -, rfl⟩ := Option.map_eq_some_iff.mp he
    exact State.memWf_evictLine (State.memWf_draw hs)

theorem State.memWf_llcServe {s : State} {sector : Nat} {kind : LlcKind} (hs : s.memWf = true) :
    (s.llcServe sector kind).memWf = true := by
  unfold State.llcServe
  dsimp only
  split
  · exact hs
  · split
    · split
      · exact hs
      · exact State.memWf_dramRequest hs
    · rename_i t ht
      have ht' : t.memWf = true := State.memWf_makeRoom hs ht
      have hread : (t.dramRequest sector false).memWf = true := State.memWf_dramRequest ht'
      split
      · exact State.memWf_congr _ _ ht' rfl rfl rfl rfl rfl rfl
      · exact State.memWf_congr _ _ hread rfl rfl rfl rfl rfl rfl

theorem State.memWf_touchLease {s : State} {l : Loc} {n : Nat} {write : Bool} (hs : s.memWf = true) :
    (s.touchLease l n write).memWf = true := by
  unfold State.touchLease
  split
  · split
    · exact hs
    · refine State.memWf_foldl ?_ hs
      intro s' a h
      dsimp only
      split
      · exact State.memWf_llcServe h
      · exact h
  · exact hs

theorem State.memWf_addFence {s : State} {c : Nat} {spaces ids : List Nat} (hs : s.memWf = true) :
    (s.addFence c spaces ids).memWf = true := by
  unfold State.addFence
  exact State.memWf_modCtx _ _ _ hs

theorem State.memWf_behindWrites {s : State} {t : Nat} {ids : List Nat} (hs : s.memWf = true) :
    (s.behindWrites t ids).memWf = true := by
  unfold State.behindWrites
  split
  · exact hs
  · exact State.memWf_addFence hs

theorem State.memWf_settle {s : State} {d pa n : Nat} (hs : s.memWf = true) :
    (s.settle d pa n).memWf = true := by
  unfold State.settle
  exact State.memWf_foldl (fun s' a h => State.memWf_placeWrite _ _ h) hs

theorem State.memWf_touchElem {s : State} {write : Bool} {e : Elem} (hs : s.memWf = true) :
    (s.touchElem write e).memWf = true := by
  unfold State.touchElem
  exact State.memWf_touchLease hs

theorem State.memWf_storeElem {s : State} {d : Nat} {e : Elem} (hs : s.memWf = true) :
    (s.storeElem d e).memWf = true := by
  unfold State.storeElem
  split
  · exact State.memWf_soon hs
  · split
    · exact State.memWf_writePhys _ _ _ _ hs
    · split
      · exact State.memWf_writePhys _ _ _ _ hs
      · exact State.memWf_writeHome (State.memWf_settle hs)
  · split
    · exact State.memWf_writeLoc _ _ _ _ hs
    · exact State.memWf_writeLoc _ _ _ _ hs

theorem State.memWf_dropAccess {s : State} {id : Nat} {a : Access} (hs : s.memWf = true) :
    (s.dropAccess id a).memWf = true := by
  unfold State.dropAccess
  exact State.memWf_modCtx _ _ _ hs

theorem State.memWf_performStore {s : State} {id : Nat} (hs : s.memWf = true) :
    (s.performStore id).memWf = true := by
  unfold State.performStore
  split
  · exact hs
  · dsimp only
    refine State.memWf_dropAccess ?_
    refine State.memWf_unpoison ?_
    refine State.memWf_congr _ _ ?_ rfl rfl rfl rfl rfl rfl
    split
    · exact State.memWf_foldl (fun s' a h => State.memWf_tbarOp h) hs
    · exact State.memWf_foldl (fun s' a h => State.memWf_touchElem (State.memWf_storeElem h)) hs

theorem State.memWf_acquire {s : State} {c id : Nat} {spaces : List Nat} (hs : s.memWf = true) :
    (s.acquire c id spaces).memWf = true := by
  unfold State.acquire
  split
  · exact hs
  · exact State.memWf_addFence hs

theorem State.memWf_issueAccess {s : State} {a : Access} {rel acq : List Nat} (hs : s.memWf = true) :
    (s.issueAccess a rel acq).memWf = true := by
  unfold State.issueAccess
  dsimp only
  split
  · exact State.memWf_performStore (State.memWf_acquire hs)
  · exact State.memWf_acquire hs

theorem State.memWf_writeDest {s : State} {a : Access} (hs : s.memWf = true) :
    (s.writeDest a).memWf = true := by
  unfold State.writeDest
  split
  · exact hs
  · exact State.memWf_landScalar hs
  · exact State.memWf_modCtx _ _ _ hs

theorem State.memWf_writePieces {s : State} {d n : Nat} {l : Loc} {bs : List Byte} (hs : s.memWf = true) :
    (s.writePieces d n l bs).memWf = true := by
  induction n generalizing s l bs with
  | zero => exact hs
  | succ n ih =>
    unfold State.writePieces
    split
    · exact hs
    · split
      · exact ih (State.memWf_writeLoc _ _ _ _ hs)
      · exact ih (State.memWf_writeLoc _ _ _ _ hs)

theorem State.memWf_touchRuns {s : State} {write : Bool} {ls : List (Loc × Nat)} (hs : s.memWf = true) :
    (s.touchRuns write ls).memWf = true := by
  unfold State.touchRuns
  exact State.memWf_foldl (fun s' a h => State.memWf_touchLease h) hs

theorem State.memWf_engWrite {s t : State} {g : Agent} {a : W64} {bs : List Byte} (hs : s.memWf = true) (he : s.engWrite g a bs = .ok t) :
    t.memWf = true := by
  unfold State.engWrite at he
  split at he <;> cases he
  exact State.memWf_touchRuns (State.memWf_unpoison (State.memWf_foldl_fst (fun _ _ hp => State.memWf_writePieces hp) hs))

theorem State.memWf_collReplies {s : State} {r : Option (Nat × Nat × Nat)} (hs : s.memWf = true) :
    (s.collReplies r).memWf = true := by
  unfold State.collReplies
  split
  · exact State.memWf_replyTo hs
  · exact hs

theorem State.memWf_engBar {s : State} {l : Loc} {a : BarAct} {coll : Option (Nat × Nat × Nat)} (hs : s.memWf = true) :
    (s.engBar l a coll).memWf = true := by
  unfold State.engBar
  split
  · exact hs
  · exact State.memWf_collReplies (State.memWf_tbarDo hs)

theorem State.memWf_engBars {s : State} (hs : s.memWf = true) :
    (s.engBars).memWf = true := by
  unfold State.engBars
  split
  · exact hs
  · exact State.memWf_foldl (fun s' a h => State.memWf_collReplies (State.memWf_tbarDo h)) hs

theorem State.memWf_fqAppend {s : State} {d : Nat} {e : FqEntry} (hs : s.memWf = true) :
    (s.fqAppend d e).memWf = true := by
  unfold State.fqAppend
  dsimp only
  split
  · exact State.memWf_modDie _ _ _ hs (fun x h => h)
  · split
    · exact State.memWf_writePhys _ _ _ _ (State.memWf_modDie _ _ _ hs (fun x h => h))
    · exact State.memWf_modDie _ _ _ hs (fun x h => h)

theorem State.memWf_fqPush {s : State} {d : Nat} {e : FqEntry} (hs : s.memWf = true) :
    (s.fqPush d e).memWf = true := by
  unfold State.fqPush
  split
  · exact State.memWf_fqAppend hs
  · exact State.memWf_modDie _ _ _ hs (fun x h => h)

theorem State.memWf_fqDrain {s : State} {d n : Nat} (hs : s.memWf = true) : (s.fqDrain d n).memWf = true := by
  induction n generalizing s with
  | zero => exact hs
  | succ n ih =>
    unfold State.fqDrain
    split
    · exact hs
    · split
      · exact ih (State.memWf_fqAppend (State.memWf_modDie _ _ _ hs fun _ hx => hx))
      · exact hs

theorem keeps_evalVmov {f : VReg} {e : Env} :
    SlotOut.Keeps (evalVmov f e) := by
  unfold evalVmov
  exact Env.keeps_vguarded Env.keeps_vplain

theorem keeps_evalVbcst {f : VReg} {e : Env} :
    SlotOut.Keeps (evalVbcst f e) := by
  unfold evalVbcst
  exact Env.keeps_vguarded Env.keeps_vplain

theorem keeps_evalViota {f : VReg} {e : Env} :
    SlotOut.Keeps (evalViota f e) := by
  unfold evalViota
  exact Env.keeps_vguarded Env.keeps_vplain

theorem keeps_evalVperm {f : VReg} {e : Env} :
    SlotOut.Keeps (evalVperm f e) := by
  unfold evalVperm
  exact Env.keeps_vguarded Env.keeps_vplain

theorem keeps_evalVshuf {f : VReg} {e : Env} :
    SlotOut.Keeps (evalVshuf f e) := by
  unfold evalVshuf
  exact Env.keeps_vguarded Env.keeps_vplain

theorem keeps_evalVslide {f : VReg} {e : Env} :
    SlotOut.Keeps (evalVslide f e) := by
  unfold evalVslide
  exact Env.keeps_vguarded Env.keeps_vplain

theorem keeps_evalVbext {f : VReg} {e : Env} :
    SlotOut.Keeps (evalVbext f e) := by
  unfold evalVbext
  exact Env.keeps_vguarded Env.keeps_vplain

theorem keeps_evalVlut {f : VReg} {e : Env} :
    SlotOut.Keeps (evalVlut f e) := by
  unfold evalVlut
  exact Env.keeps_vguarded Env.keeps_vplain

theorem keeps_evalVlutld {f : VReg} {e : Env} :
    SlotOut.Keeps (evalVlutld f e) := by
  unfold evalVlutld
  dsimp only
  refine Env.keeps_vguarded ?_
  intro s h
  dsimp only
  refine State.memWf_foldl ?_ h
  intro s' a h'
  split
  · exact State.memWf_addFlight h'
  · exact h'

theorem keeps_evalVunpk12 {f : VReg} {e : Env} :
    SlotOut.Keeps (evalVunpk12 f e) := by
  unfold evalVunpk12
  exact Env.keeps_vguarded Env.keeps_vplain

theorem keeps_evalVpack12 {f : VReg} {e : Env} :
    SlotOut.Keeps (evalVpack12 f e) := by
  unfold evalVpack12
  exact Env.keeps_vguarded Env.keeps_result

theorem keeps_evalVrng {f : VReg} {e : Env} :
    SlotOut.Keeps (evalVrng f e) := by
  unfold evalVrng
  exact Env.keeps_vguarded Env.keeps_vplain

theorem Env.keeps_reduced {e : Env} {f : VReg} {lat : Nat} {v : Vec} {tiny : Mask} :
    SlotOut.Keeps (Env.reduced e f lat v tiny) := by
  unfold Env.reduced
  split
  · exact Env.keeps_trap
  · exact fun s h => State.memWf_modCtx _ _ _ (State.memWf_addFlight h)

theorem keeps_evalVred {f : VReg} {e : Env} :
    SlotOut.Keeps (evalVred f e) := by
  unfold evalVred
  exact Env.keeps_vguarded Env.keeps_reduced

theorem keeps_evalVscan {f : VReg} {e : Env} :
    SlotOut.Keeps (evalVscan f e) := by
  unfold evalVscan
  exact Env.keeps_vguarded Env.keeps_reduced

theorem keeps_evalVcpy {f : VReg} {e : Env} :
    SlotOut.Keeps (evalVcpy f e) := by
  unfold evalVcpy
  dsimp only
  split
  · split
    · split
      · exact fun s h => Env.memWf_pops (fun s' h' => h') h
      · exact SlotOut.keeps_none
    · exact Env.keeps_vguarded (fun s h => h)
  · refine Env.keeps_vguarded ?_
    split
    · exact Env.keeps_result
    · exact Env.keeps_result
    · exact Env.keeps_result

theorem State.memWf_modJob {s : State} {d serial : Nat} {f : Job → Job} (hs : s.memWf = true) :
    (s.modJob d serial f).memWf = true := by
  unfold State.modJob
  exact State.memWf_modDie _ _ _ hs (fun x h => h)

theorem State.memWf_acceptJob {s : State} {d : Nat} {j : Job} (hs : s.memWf = true) :
    (s.acceptJob d j).memWf = true := by
  unfold State.acceptJob
  exact State.memWf_modDie _ _ _ hs (fun x h => h)

theorem State.memWf_wakeOldest {s : State} {p : Nat → WaitWhy → Bool} (hs : s.memWf = true) :
    (s.wakeOldest p).memWf = true := by
  unfold State.wakeOldest
  dsimp only
  split
  · exact State.memWf_insertReady hs
  · exact hs

theorem State.memWf_modRiffle {s : State} {cl u : Nat} {f : Riffle → Riffle} (hs : s.memWf = true) :
    (s.modRiffle cl u f).memWf = true := by
  unfold State.modRiffle
  exact State.memWf_modCluster _ _ _ hs (fun x h => h)

theorem State.memWf_dropPass {s : State} {cl d serial : Nat} (hs : s.memWf = true) :
    (s.dropPass cl d serial).memWf = true := by
  unfold State.dropPass
  split
  · exact hs
  · exact State.memWf_wakeOldest (State.memWf_modRiffle hs)

theorem State.memWf_modStash {s : State} {d key : Nat} {f : Stash → Stash} (hs : s.memWf = true) :
    (s.modStash d key f).memWf = true := by
  unfold State.modStash
  exact State.memWf_modDie _ _ _ hs (fun x h => h)

theorem State.memWf_pinArena {s : State} {line : Nat} (hs : s.memWf = true) :
    (s.pinArena line).memWf = true := by
  unfold State.pinArena
  dsimp only
  split
  · exact State.memWf_foldl (fun s' a h => State.memWf_llcServe h) hs
  · exact State.memWf_foldl (fun s' a h => State.memWf_llcServe h) hs

theorem State.memWf_pinRun {s : State} {d : Nat} {r : Nat × Nat} (hs : s.memWf = true) :
    (s.pinRun d r).memWf = true := by
  unfold State.pinRun
  exact State.memWf_foldl (fun s' a h => State.memWf_pinArena h) hs

theorem State.memWf_unpinRun {s : State} {d : Nat} {r : Nat × Nat} (hs : s.memWf = true) :
    (s.unpinRun d r).memWf = true := by
  unfold State.unpinRun
  refine State.memWf_foldl ?_ hs
  intro s' a h
  split
  · exact h
  · exact h

theorem State.memWf_unpinStash {s : State} {d : Nat} {e : Stash} (hs : s.memWf = true) :
    (s.unpinStash d e).memWf = true := by
  unfold State.unpinStash
  exact State.memWf_foldl (fun s' a h => State.memWf_unpinRun h) hs

theorem State.memWf_stashFree {s : State} {d key : Nat} (hs : s.memWf = true) :
    (s.stashFree d key).memWf = true := by
  unfold State.stashFree
  split
  · exact hs
  · split
    · exact hs
    · exact State.memWf_foldl (fun s' a h => State.memWf_replyTo h) (State.memWf_evalSoon (State.memWf_modDie _ _ _ (State.memWf_unpinStash hs) (fun x h => h)))

theorem State.memWf_endFeed {s : State} {c d key f : Nat} (hs : s.memWf = true) :
    (s.endFeed c d key f).memWf = true := by
  unfold State.endFeed
  exact State.memWf_modCtx _ _ _ hs

theorem State.memWf_dropStash {s : State} {d key flags : Nat} (hs : s.memWf = true) :
    (s.dropStash d key flags).memWf = true := by
  unfold State.dropStash
  split
  · exact hs
  · dsimp only
    refine State.memWf_stashFree ?_
    refine State.memWf_foldl (fun s' a h => State.memWf_modCtx _ _ _ h) ?_
    refine State.memWf_evalSoon ?_
    refine State.memWf_modStash ?_
    refine State.memWf_unpinStash ?_
    refine State.memWf_foldl ?_ hs
    intro s' a h
    split
    · exact State.memWf_engBar h
    · exact State.memWf_endFeed h

theorem State.memWf_placeFreed {s : State} {d : Nat} (hs : s.memWf = true) :
    (s.placeFreed d).memWf = true := by
  unfold State.placeFreed
  dsimp only
  split
  · split
    · exact State.memWf_wakeOldest (State.memWf_modJob hs)
    · exact State.memWf_modJob hs
  · split
    · exact State.memWf_wakeOldest hs
    · exact hs

theorem State.memWf_endOne {s : State} {d : Nat} {j : Job} {st : JState} (hs : s.memWf = true) :
    (s.endOne d j st).memWf = true := by
  unfold State.endOne
  dsimp only
  refine State.memWf_placeFreed ?_
  split
  · refine State.memWf_dropPass ?_
    split
    · split
      · split
        · exact State.memWf_modCtx _ _ _ (State.memWf_modJob hs)
        · exact State.memWf_modJob hs
      · refine State.memWf_engBar ?_
        split
        · exact State.memWf_modCtx _ _ _ (State.memWf_modJob hs)
        · exact State.memWf_modJob hs
    · split
      · exact State.memWf_modCtx _ _ _ (State.memWf_modJob hs)
      · exact State.memWf_modJob hs
  · split
    · refine State.memWf_stashFree ?_
      split
      · split
        · split
          · exact State.memWf_modCtx _ _ _ (State.memWf_modJob hs)
          · exact State.memWf_modJob hs
        · refine State.memWf_engBar ?_
          split
          · exact State.memWf_modCtx _ _ _ (State.memWf_modJob hs)
          · exact State.memWf_modJob hs
      · split
        · exact State.memWf_modCtx _ _ _ (State.memWf_modJob hs)
        · exact State.memWf_modJob hs
    · refine State.memWf_dropStash ?_
      split
      · split
        · split
          · exact State.memWf_modCtx _ _ _ (State.memWf_modJob hs)
          · exact State.memWf_modJob hs
        · refine State.memWf_engBar ?_
          split
          · exact State.memWf_modCtx _ _ _ (State.memWf_modJob hs)
          · exact State.memWf_modJob hs
      · split
        · exact State.memWf_modCtx _ _ _ (State.memWf_modJob hs)
        · exact State.memWf_modJob hs
  · split
    · refine State.memWf_stashFree ?_
      split
      · split
        · split
          · exact State.memWf_modCtx _ _ _ (State.memWf_modJob hs)
          · exact State.memWf_modJob hs
        · refine State.memWf_engBar ?_
          split
          · exact State.memWf_modCtx _ _ _ (State.memWf_modJob hs)
          · exact State.memWf_modJob hs
      · split
        · exact State.memWf_modCtx _ _ _ (State.memWf_modJob hs)
        · exact State.memWf_modJob hs
    · refine State.memWf_dropStash ?_
      split
      · split
        · split
          · exact State.memWf_modCtx _ _ _ (State.memWf_modJob hs)
          · exact State.memWf_modJob hs
        · refine State.memWf_engBar ?_
          split
          · exact State.memWf_modCtx _ _ _ (State.memWf_modJob hs)
          · exact State.memWf_modJob hs
      · split
        · exact State.memWf_modCtx _ _ _ (State.memWf_modJob hs)
        · exact State.memWf_modJob hs

theorem State.memWf_abortAfter {s : State} {d n : Nat} {failed : List Nat} (hs : s.memWf = true) : (s.abortAfter d n failed).memWf = true := by
  induction n generalizing s failed with
  | zero => exact hs
  | succ n ih =>
    unfold State.abortAfter
    split
    · exact hs
    · exact ih (State.memWf_endOne hs)

theorem State.memWf_endJob {s : State} {d serial : Nat} {st : JState} (hs : s.memWf = true) :
    (s.endJob d serial st).memWf = true := by
  unfold State.endJob
  split
  · exact hs
  · split
    · exact hs
    · dsimp only
      split
      · exact State.memWf_endOne hs
      · exact State.memWf_abortAfter (State.memWf_endOne hs)

theorem State.memWf_sealApplied {s : State} {d n f g : Nat} (hs : s.memWf = true) :
    (s.sealApplied d n f g).memWf = true := by
  unfold State.sealApplied
  exact State.memWf_modStage hs

theorem State.memWf_settleWaits {s : State} (hs : s.memWf = true) :
    (s.settleWaits).memWf = true := by
  unfold State.settleWaits
  dsimp only
  refine State.memWf_foldl ?_ hs
  intro s' a h
  refine State.memWf_foldl (fun s'' a' h' => State.memWf_sealApplied h') ?_
  split
  · exact State.memWf_replyTo h
  · exact h

theorem State.memWf_writeHomes {s : State} {d : Nat} {ws : List (Nat × List Byte)} (hs : s.memWf = true) : (s.writeHomes d ws).memWf = true := by
  induction ws generalizing s with
  | nil => exact hs
  | cons w ws ih => exact ih (State.memWf_writeHome hs)

theorem State.memWf_writeAndWait {s : State} {d : Nat} {ws : List (Nat × List Byte)} {w : WriteWait} (hs : s.memWf = true) :
    (s.writeAndWait d ws w).memWf = true := by
  unfold State.writeAndWait
  exact State.memWf_settleWaits (State.memWf_writeHomes hs)

theorem State.memWf_logAllocs {s : State} {g : Nat} (hs : s.memWf = true) :
    (s.logAllocs g).memWf = true := by
  unfold State.logAllocs
  refine State.memWf_foldl ?_ hs
  intro s' a h
  dsimp only
  split
  · exact State.memWf_gaugeUE h
  · exact h

theorem State.memWf_gnew {s : State} {c token dest : Nat} {w : W64} (hs : s.memWf = true) :
    (s.gnew c token dest w).1.memWf = true := by
  unfold State.gnew
  dsimp only
  split
  · exact hs
  · split
    · exact State.memWf_logAllocs hs
    · exact State.memWf_writeAndWait (State.memWf_logAllocs hs)

theorem State.memWf_applyGauge {s : State} {n : Nat} (hs : s.memWf = true) :
    (s.applyGauge n).memWf = true := by
  unfold State.applyGauge
  split
  · exact hs
  · dsimp only
    split
    · split
      · split
        · exact State.memWf_gaugeSector (State.memWf_modCtx _ _ _ hs)
        · exact State.memWf_modCtx _ _ _ (State.memWf_gaugeSector (State.memWf_modCtx _ _ _ hs))
      · split
        · exact State.memWf_gaugeSector hs
        · exact State.memWf_modCtx _ _ _ (State.memWf_gaugeSector hs)
    · refine State.memWf_gaugeSector ?_
      split
      · exact State.memWf_modCtx _ _ _ hs
      · exact hs

theorem State.memWf_serveSeal {s : State} {id : Nat} {rescale : Bool} (hs : s.memWf = true) :
    (s.serveSeal id rescale).memWf = true := by
  unfold State.serveSeal
  split
  · exact hs
  · split
    · exact hs
    · dsimp only
      split
      · split
        · exact State.memWf_answerResult (State.memWf_modCtx _ _ _ (State.memWf_foldl (fun s' a h => State.memWf_sealApplied h) (State.memWf_gaugeUE hs)))
        · exact State.memWf_foldl (fun s' a h => State.memWf_sealApplied h) (State.memWf_gaugeUE hs)
      · exact State.memWf_writeAndWait hs

theorem State.memWf_requestSeal {s : State} {c token dest g : Nat} {rescale : Bool} (hs : s.memWf = true) :
    (s.requestSeal c token dest g rescale).1.memWf = true := by
  unfold State.requestSeal
  split
  · exact hs
  · exact hs

theorem State.memWf_requestRecord {s : State} {c token dest h : Nat} {image : List Byte} (hs : s.memWf = true) :
    (s.requestRecord c token dest h image).memWf = true := by
  unfold State.requestRecord
  exact hs

theorem State.memWf_writeReplica {s : State} {id d : Nat} (hs : s.memWf = true) :
    (s.writeReplica id d).memWf = true := by
  unfold State.writeReplica
  split
  · exact hs
  · split
    · exact hs
    · dsimp only
      split
      · exact State.memWf_writeHome hs
      · exact State.memWf_settleWaits (State.memWf_writeHome hs)

theorem keeps_execGaugeSectorUpdate {entry : Nat} {s : State} (hs : s.memWf = true) :
    OutcomeKeeps (execGaugeSectorUpdate entry s) := by
  unfold execGaugeSectorUpdate
  exact State.memWf_applyGauge hs

theorem keeps_execGaugeSeal {request : Nat} {s : State} (hs : s.memWf = true) :
    OutcomeKeeps (execGaugeSeal request s) := by
  unfold execGaugeSeal
  exact State.memWf_serveSeal hs

theorem keeps_execGaugeRescale {request : Nat} {s : State} (hs : s.memWf = true) :
    OutcomeKeeps (execGaugeRescale request s) := by
  unfold execGaugeRescale
  exact State.memWf_serveSeal hs

theorem keeps_execRecordReplicaWrite {request die : Nat} {s : State} (hs : s.memWf = true) :
    OutcomeKeeps (execRecordReplicaWrite request die s) := by
  unfold execRecordReplicaWrite
  exact State.memWf_writeReplica hs

theorem State.memWf_storeBits {s : State} {d w : Nat} {ls : List (Loc × Nat)} {sh v m : Nat} (hs : s.memWf = true) :
    (s.storeBits d w ls sh v m).memWf = true := by
  unfold State.storeBits
  split
  · split
    · exact State.memWf_storeElem hs
    · exact State.memWf_foldl (fun s' a h => State.memWf_storeElem h) hs
  · exact State.memWf_foldl (fun s' a h => State.memWf_storeElem h) hs

theorem State.memWf_writeImage {s u : State} {g : Agent} {t : Tile4} {o : Nat} {bs : List Byte} {skip : Nat → Bool} (hs : s.memWf = true)
    (he : s.writeImage g t o bs skip = .ok u) : u.memWf = true := by
  unfold State.writeImage at he
  dsimp only at he
  split at he <;> cases he
  exact State.memWf_touchRuns (State.memWf_unpoison (State.memWf_foldl (fun _ _ hs => State.memWf_storeBits hs) hs))

theorem State.memWf_modHead {s : State} {cl u : Nat} {f : ROp → ROp} (hs : s.memWf = true) :
    (s.modHead cl u f).memWf = true := by
  unfold State.modHead
  exact State.memWf_modRiffle hs

theorem State.memWf_trigger {s : State} {cl u : Nat} {o : ROp} (hs : s.memWf = true) :
    (s.trigger cl u o).1.memWf = true := by
  unfold State.trigger
  dsimp only
  split
  · exact State.memWf_modRiffle hs
  · dsimp only
    split
    · exact State.memWf_engBar (State.memWf_modRiffle hs)
    · exact State.memWf_modRiffle hs

theorem State.memWf_riffleEnd {s : State} {cl u : Nat} {o : ROp} {st : RState} {err : Nat} (hs : s.memWf = true) :
    (s.riffleEnd cl u o st err).memWf = true := by
  unfold State.riffleEnd
  dsimp only
  refine State.memWf_wakeOldest ?_
  refine State.memWf_modCtx _ _ _ ?_
  split
  · exact State.memWf_engBar (State.memWf_modRiffle hs)
  · exact State.memWf_modRiffle hs

theorem State.memWf_riffleSuspend {s : State} {cl u : Nat} {o : ROp} {cause : Nat} {va : W64} {wr : Bool} (hs : s.memWf = true) :
    (s.riffleSuspend cl u o cause va wr).memWf = true := by
  unfold State.riffleSuspend
  exact State.memWf_fqPush (State.memWf_modHead hs)

theorem State.memWf_riffleStopped {s : State} {cl u : Nat} {o : ROp} {e : ChunkEnd} (hs : s.memWf = true) :
    (s.riffleStopped cl u o e).memWf = true := by
  unfold State.riffleStopped
  split
  · exact State.memWf_riffleEnd hs
  · exact State.memWf_riffleEnd (State.memWf_logUE hs)
  · exact hs
  · exact State.memWf_riffleSuspend hs

theorem State.memWf_riffleRun {s : State} {cl u : Nat} {k : RKind} (hs : s.memWf = true) :
    (s.riffleRun cl u k).memWf = true := by
  unfold State.riffleRun
  split
  · exact hs
  · split
    · exact hs
    · dsimp only
      split
      · split
        · exact State.memWf_riffleStopped hs
        · exact State.memWf_modHead hs
      · split
        · exact State.memWf_riffleStopped hs
        · exact State.memWf_modHead hs

theorem State.memWf_countChunk {s : State} {o : ROp} {n : Nat} (hs : s.memWf = true) :
    (s.countChunk o n).1.memWf = true := by
  unfold State.countChunk
  exact hs

theorem State.memWf_riffleLand {s : State} {o : ROp} {before after : Nat} (hs : s.memWf = true) :
    (s.riffleLand o before after).memWf = true := by
  unfold State.riffleLand
  split
  · exact State.memWf_engBar hs
  · exact hs

theorem State.memWf_writeStaged {s : State} {g : Agent} {ps : List (W64 × List Byte)} (hs : s.memWf = true) :
    (s.writeStaged g ps).1.memWf = true := by
  induction ps generalizing s with
  | nil => exact hs
  | cons p ps ih =>
    unfold State.writeStaged
    split
    · exact hs
    · exact ih (State.memWf_engWrite hs ‹_›)

theorem State.memWf_riffleWrite {s : State} {cl u : Nat} (hs : s.memWf = true) :
    (s.riffleWrite cl u).memWf = true := by
  unfold State.riffleWrite
  split
  · exact hs
  · split
    · exact hs
    · split
      · exact hs
      · dsimp only
        split
        · exact State.memWf_riffleStopped (State.memWf_riffleLand (State.memWf_modHead (State.memWf_countChunk (State.memWf_writeStaged hs))))
        · exact State.memWf_riffleLand (State.memWf_modHead (State.memWf_countChunk (State.memWf_writeStaged hs)))

theorem State.memWf_riffleComplete {s : State} {cl u : Nat} {ecc : SramEcc} (hs : s.memWf = true) :
    (s.riffleComplete cl u ecc).memWf = true := by
  unfold State.riffleComplete
  split
  · exact hs
  · split
    · split
      · exact State.memWf_checkEnd (State.memWf_riffleStopped hs)
      · exact hs
    · dsimp only
      split
      · refine State.memWf_checkEnd ?_
        refine State.memWf_riffleEnd ?_
        split
        · exact State.memWf_countCE hs
        · exact hs
      · split
        · exact State.memWf_countCE hs
        · exact hs

theorem State.memWf_riffleFault {s : State} {cl u : Nat} (hs : s.memWf = true) :
    (s.riffleFault cl u).memWf = true := by
  unfold State.riffleFault
  split
  · exact hs
  · split
    · split
      · exact State.memWf_riffleWrite hs
      · exact hs
    · dsimp only
      split
      · split
        · exact hs
        · exact State.memWf_riffleSuspend hs
      · exact hs

theorem keeps_execRiffleDecode {cluster unit : Nat} {s : State} (hs : s.memWf = true) :
    OutcomeKeeps (execRiffleDecode cluster unit s) := by
  unfold execRiffleDecode
  exact State.memWf_riffleRun hs

theorem keeps_execRiffleEncode {cluster unit : Nat} {s : State} (hs : s.memWf = true) :
    OutcomeKeeps (execRiffleEncode cluster unit s) := by
  unfold execRiffleEncode
  exact State.memWf_riffleRun hs

theorem keeps_execRiffleUnpack12 {cluster unit : Nat} {s : State} (hs : s.memWf = true) :
    OutcomeKeeps (execRiffleUnpack12 cluster unit s) := by
  unfold execRiffleUnpack12
  exact State.memWf_riffleRun hs

theorem keeps_execRiffleCrc {cluster unit : Nat} {s : State} (hs : s.memWf = true) :
    OutcomeKeeps (execRiffleCrc cluster unit s) := by
  unfold execRiffleCrc
  exact State.memWf_riffleRun hs

theorem keeps_execRiffleExpand3 {cluster unit : Nat} {s : State} (hs : s.memWf = true) :
    OutcomeKeeps (execRiffleExpand3 cluster unit s) := by
  unfold execRiffleExpand3
  exact State.memWf_riffleRun hs

theorem keeps_execRiffleFill {cluster unit : Nat} {s : State} (hs : s.memWf = true) :
    OutcomeKeeps (execRiffleFill cluster unit s) := by
  unfold execRiffleFill
  exact State.memWf_riffleRun hs

theorem keeps_execRiffleChunkWrite {cluster unit : Nat} {s : State} (hs : s.memWf = true) :
    OutcomeKeeps (execRiffleChunkWrite cluster unit s) := by
  unfold execRiffleChunkWrite
  exact State.memWf_riffleWrite hs

theorem keeps_execRiffleOpComplete {cluster unit : Nat} {ecc : SramEcc} {s : State} (hs : s.memWf = true) :
    OutcomeKeeps (execRiffleOpComplete cluster unit ecc s) := by
  unfold execRiffleOpComplete
  exact State.memWf_riffleComplete hs

theorem keeps_execRiffleFault {cluster unit : Nat} {s : State} (hs : s.memWf = true) :
    OutcomeKeeps (execRiffleFault cluster unit s) := by
  unfold execRiffleFault
  exact State.memWf_riffleFault hs

theorem State.memWf_issueCard {s : State} {ctx : Nat} {sup : Bool} {token place : Nat} {c : List W64} (hs : s.memWf = true) :
    (s.issueCard ctx sup token place c).memWf = true := by
  unfold State.issueCard
  dsimp only
  split
  · exact State.memWf_modCtx _ _ _ (State.memWf_acceptJob hs)
  · exact State.memWf_acceptJob hs

theorem State.memWf_copyPoison {s : State} {a b : Nat} (hs : s.memWf = true) :
    (s.copyPoison a b).memWf = true := by
  unfold State.copyPoison
  split
  · exact hs
  · exact hs

theorem State.memWf_copyRow {s t : State} {g : Agent} {src dst : W64} (hs : s.memWf = true) (he : s.copyRow g src dst = .ok t) :
    t.memWf = true := by
  unfold State.copyRow at he
  split at he
  · cases he
  · split at he <;> cases he
    split
    · exact State.memWf_copyPoison (State.memWf_engWrite hs ‹_›)
    · exact State.memWf_engWrite hs ‹_›

theorem State.memWf_initRow {s t : State} {g : Agent} {c : List W64} {fill : List Byte} {a : W64} (hs : s.memWf = true)
    (he : s.initRow g c fill a = .ok t) : t.memWf = true := by
  unfold State.initRow at he
  split at he
  · exact State.memWf_engWrite hs he
  · split at he
    · exact State.memWf_engWrite hs he
    · split at he
      · cases he
      · split at he <;> cases he
        split
        · exact State.memWf_copyPoison (State.memWf_engWrite hs ‹_›)
        · exact State.memWf_engWrite hs ‹_›

theorem State.memWf_writePart {s : State} {d : Nat} {l : Loc} {bs : List Byte} {skip : List Nat} (hs : s.memWf = true) :
    (s.writePart d l bs skip).memWf = true := by
  unfold State.writePart
  split
  · exact hs
  · split
    · split
      · refine State.memWf_foldl ?_ hs
        intro s' a h
        split
        · exact h
        · exact State.memWf_postHost _ _ _ _ h
      · exact State.memWf_writeGlobal _ _ _ _ _ hs
    · refine State.memWf_foldl ?_ hs
      intro s' a h
      split
      · exact h
      · exact State.memWf_writeLoc _ _ _ _ h

theorem State.memWf_writeAround {s : State} {d n i : Nat} {covered : Nat → Bool} {l : Loc} {bs : List Byte} (hs : s.memWf = true) :
    (s.writeAround d covered n i l bs).memWf = true := by
  induction n generalizing s i l bs with
  | zero => exact hs
  | succ n ih =>
    unfold State.writeAround
    split
    · exact hs
    · exact ih (State.memWf_writePart hs)

theorem State.memWf_writeUncovered {s t : State} {g : Agent} {a : W64} {covered : Nat → Bool} {bs : List Byte} (hs : s.memWf = true)
    (he : s.writeUncovered g a covered bs = .ok t) : t.memWf = true := by
  unfold State.writeUncovered at he
  split at he
  · split at he <;> cases he
    exact State.memWf_touchRuns (State.memWf_unpoison (State.memWf_foldl_fst (fun _ _ hp => State.memWf_writeAround hp) hs))
  · exact State.memWf_engWrite hs he

theorem State.memWf_feedStream {s : State} {d : Nat} {j : Job} {f : Nat} {vs : List Vec} {last : Bool} (hs : s.memWf = true) :
    (s.feedStream d j f vs last).memWf = true := by
  unfold State.feedStream
  exact State.memWf_modCtx _ _ _ hs

theorem State.memWf_unitEncoded {s t : State} {g : Agent} {j : Job} {c : List W64} {bs es : List Byte} {ovf : Nat} (hs : s.memWf = true)
    (he : s.unitEncoded g j c bs = .ok (t, es, ovf)) : t.memWf = true := by
  unfold State.unitEncoded at he
  dsimp only at he
  split at he
  · split at he
    · cases he
      exact hs
    · cases hw : s.engWrite g (BitVec.ofNat 64 (cardOverflow c + 4096 * j.ovf)) bs with
      | error e => rw [hw] at he; cases he
      | ok u =>
        rw [hw] at he
        cases he
        exact State.memWf_engWrite hs hw
  · cases he
    exact hs

theorem State.memWf_unitDest {s t : State} {g : Agent} {j : Job} {c : List W64} {u ovf : Nat} {bs tail : List Byte} (hs : s.memWf = true)
    (he : s.unitDest g j c u bs = .ok (t, ovf, tail)) : t.memWf = true := by
  unfold State.unitDest at he
  split at he
  · cases he
  · rename_i henc
    have hs' := State.memWf_unitEncoded hs henc
    dsimp only at he
    split at he
    · cases he
      exact State.memWf_feedStream hs'
    · split at he
      · split at he
        · cases he
        · split at he <;> cases he
          exact State.memWf_writeImage hs' ‹_›
      · split at he
        · split at he <;> cases he
          rename_i hrows
          split at hrows
          · exact State.memWf_foldl_bind (fun _ _ _ => State.memWf_initRow) hs' hrows
          · exact State.memWf_foldl_bind (fun _ _ _ => State.memWf_copyRow) hs' hrows
        · split at he <;> cases he
          exact State.memWf_writeUncovered hs' ‹_›

/-- What the check of a job's blocks comes to. -/
theorem State.memWf_checkBlocks_cases {s : State} {g : Agent} {c : List W64} {last : Bool} {n : Nat} {j : Job} (hs : s.memWf = true) :
    (∀ t k, s.checkBlocks g c last n j = .ok (t, k) → t.memWf = true) ∧ ∀ e, s.checkBlocks g c last n j = .error e → e.Keeps := by
  have hdone : ∀ (s : State) (j : Job), s.memWf = true →
      (∀ t k, (.ok (s, j) : Except UnitEnd (State × Job)) = .ok (t, k) → t.memWf = true) ∧
        ∀ e, (.ok (s, j) : Except UnitEnd (State × Job)) = .error e → e.Keeps :=
    fun s j hs => ⟨fun t k he => by cases he; exact hs, fun e he => by cases he⟩
  have hstop : ∀ x : UnitEnd, x.Keeps → (∀ t k, (.error x : Except UnitEnd (State × Job)) = .ok (t, k) → t.memWf = true) ∧
      ∀ e, (.error x : Except UnitEnd (State × Job)) = .error e → e.Keeps :=
    fun x hx => ⟨fun t k he => (by cases he), fun e he => by cases he; exact hx⟩
  induction n generalizing s j with
  | zero => exact hdone s j hs
  | succ n ih =>
    unfold State.checkBlocks
    split
    · exact hdone s j hs
    · dsimp only
      split
      · split
        · exact hstop _ trivial
        · exact ih (State.memWf_engWrite hs ‹_›)
      · split
        · exact hstop _ trivial
        · split
          · exact ih hs
          · exact hstop _ hs

theorem State.memWf_checkBlocks {s t : State} {g : Agent} {c : List W64} {last : Bool} {n : Nat} {j k : Job} (hs : s.memWf = true)
    (he : s.checkBlocks g c last n j = .ok (t, k)) : t.memWf = true :=
  (State.memWf_checkBlocks_cases hs).1 t k he

theorem State.memWf_landTo {s : State} {d : Nat} {j : Job} {n : Nat} (hs : s.memWf = true) :
    (s.landTo d j n).memWf = true := by
  unfold State.landTo
  split
  · exact hs
  · split
    · exact hs
    · exact State.memWf_modJob (State.memWf_engBar hs)

theorem State.memWf_touchTiles {s : State} {g : Agent} {j : Job} {c : List W64} {u : Nat} (hs : s.memWf = true) :
    (s.touchTiles g j c u).memWf = true := by
  unfold State.touchTiles
  dsimp only
  split
  · refine State.memWf_foldl (fun s' a h => State.memWf_fillLayout h) ?_
    split
    · exact State.memWf_foldl (fun s' a h => State.memWf_fillLayout h) hs
    · exact hs
  · split
    · exact State.memWf_foldl (fun s' a h => State.memWf_fillLayout h) hs
    · exact hs

/-- Where the source of a unit cannot be read, nothing was written. -/
theorem State.keeps_unitBytes {s : State} {g : Agent} {j : Job} {c : List W64} {u : Nat} {e : UnitEnd} (he : s.unitBytes g j c u = .error e) :
    e.Keeps := by
  unfold State.unitBytes State.unitSource at he
  dsimp only at he
  repeat' split at he
  all_goals cases he <;> trivial

theorem State.keeps_unitDest {s : State} {g : Agent} {j : Job} {c : List W64} {u : Nat} {bs : List Byte} {e : UnitEnd}
    (he : s.unitDest g j c u bs = .error e) : e.Keeps := by
  unfold State.unitDest at he
  split at he
  · cases he
    trivial
  · dsimp only at he
    repeat' split at he
    all_goals cases he <;> trivial

theorem State.keeps_performUnit {s : State} {d : Nat} {j : Job} {c : List W64} {u : Nat} (hs : s.memWf = true) :
    (s.performUnit d j c u).Keeps := by
  unfold State.performUnit
  dsimp only
  split
  · exact State.keeps_unitBytes ‹_›
  · split
    · exact State.keeps_unitDest ‹_›
    · rename_i hdest
      have htouched := State.memWf_touchTiles (g := Agent.ofCtx j.ctx j.sup) (j := j) (c := c) (u := u) (State.memWf_unitDest hs hdest)
      split
      · exact (State.memWf_checkBlocks_cases htouched).2 _ ‹_›
      · exact State.memWf_landTo (State.memWf_modJob ((State.memWf_checkBlocks_cases htouched).1 _ _ ‹_›))

theorem State.memWf_enterPass {s : State} {d : Nat} {j : Job} {c : List W64} (hs : s.memWf = true) :
    (s.enterPass d j c).1.memWf = true := by
  unfold State.enterPass
  dsimp only
  split
  · exact hs
  · split
    · exact hs
    · split
      · exact hs
      · exact State.memWf_modRiffle hs

theorem State.memWf_suspendJob {s : State} {d : Nat} {j : Job} {cause : Nat} {va : W64} {wr layout : Bool} (hs : s.memWf = true) :
    (s.suspendJob d j cause va wr layout).memWf = true := by
  unfold State.suspendJob
  exact State.memWf_fqPush (State.memWf_dropPass (State.memWf_modJob hs))

theorem State.memWf_unitStopped {s : State} {d : Nat} {j : Job} {c : List W64} {u : Nat} {e : UnitEnd} (hs : s.memWf = true) (he : e.Keeps) :
    (s.unitStopped d j c u e).memWf = true := by
  unfold State.unitStopped
  split
  · exact he
  · exact State.memWf_endJob hs
  · exact State.memWf_endJob (State.memWf_modJob hs)
  · exact State.memWf_endJob (State.memWf_modJob (State.memWf_landTo he))
  · exact State.memWf_endJob (State.memWf_logUE hs)
  · exact hs
  · exact State.memWf_suspendJob hs

theorem State.memWf_unitEcc {s : State} {d : Nat} {j : Job} {c : List W64} {u : Nat} {ecc : SramEcc} (hs : s.memWf = true) :
    (s.unitEcc d j c u ecc).memWf = true := by
  unfold State.unitEcc
  split
  · split
    · exact State.memWf_unitStopped hs trivial
    · exact hs
  · exact State.memWf_unitStopped (State.memWf_countCE hs) (State.keeps_performUnit (State.memWf_countCE hs))
  · exact State.memWf_unitStopped hs (State.keeps_performUnit hs)

theorem State.memWf_cardUnitRun {s : State} {d : Nat} {j : Job} {c : List W64} {u : Nat} {ecc : SramEcc} (hs : s.memWf = true) :
    (s.cardUnitRun d j c u ecc).memWf = true := by
  unfold State.cardUnitRun
  dsimp only
  split
  · refine State.memWf_checkEnd ?_
    split
    · exact State.memWf_unitEcc (State.memWf_enterPass hs)
    · exact State.memWf_dropPass (State.memWf_unitEcc (State.memWf_enterPass hs))
  · exact State.memWf_enterPass hs

theorem State.memWf_cleanRow {s : State} {pa : Nat} (hs : s.memWf = true) :
    (s.cleanRow pa).memWf = true := by
  unfold State.cleanRow
  exact State.memWf_foldl (fun s' a h => State.memWf_writeBack h) hs

theorem State.memWf_dropRow {s : State} {pa : Nat} (hs : s.memWf = true) :
    (s.dropRow pa).memWf = true := by
  unfold State.dropRow
  exact hs

theorem State.memWf_flushRows {s : State} {g : Agent} {c : List W64} {us : List Nat} (hs : s.memWf = true) :
    (s.flushRows g c us).memWf = true := by
  unfold State.flushRows
  dsimp only
  refine State.memWf_foldl ?_ ?_
  · intro s' a h
    split
    · exact State.memWf_dropRow h
    · exact h
  · split
    · refine State.memWf_foldl ?_ hs
      intro s' a h
      split
      · exact State.memWf_cleanRow h
      · exact h
    · exact hs

theorem State.memWf_sluiceStart {s : State} {d serial : Nat} (hs : s.memWf = true) :
    (s.sluiceStart d serial).memWf = true := by
  unfold State.sluiceStart
  split
  · exact hs
  · split
    · exact hs
    · split
      · split
        · dsimp only
          split
          · refine State.memWf_endJob ?_
            refine State.memWf_logUE ?_
            split
            · split
              · exact State.memWf_flushRows hs
              · exact hs
            · split
              · exact State.memWf_flushRows hs
              · exact hs
          · refine State.memWf_modJob ?_
            split
            · split
              · exact State.memWf_flushRows hs
              · exact hs
            · split
              · exact State.memWf_flushRows hs
              · exact hs
        · exact hs
      · dsimp only
        split
        · exact State.memWf_endJob (State.memWf_logUE hs)
        · exact State.memWf_modJob hs
      · exact State.memWf_modJob hs

theorem State.memWf_sluiceDone {s : State} {d serial : Nat} (hs : s.memWf = true) :
    (s.sluiceDone d serial).memWf = true := by
  unfold State.sluiceDone
  split
  · exact hs
  · split
    · dsimp only
      split
      · split
        · exact State.memWf_checkEnd (State.memWf_endJob hs)
        · exact hs
      · split
        · exact State.memWf_checkEnd (State.memWf_endJob hs)
        · exact hs
    · exact hs

theorem State.memWf_sluiceFault {s : State} {d serial u : Nat} (hs : s.memWf = true) :
    (s.sluiceFault d serial u).memWf = true := by
  unfold State.sluiceFault
  split
  · exact hs
  · split
    · split
      · split
        · exact State.memWf_unitStopped hs trivial
        · exact hs
      · exact hs
    · exact hs

theorem State.memWf_vectorArrival {s : State} {c f : Nat} (hs : s.memWf = true) :
    (s.vectorArrival c f).memWf = true := by
  unfold State.vectorArrival
  split
  · exact hs
  · dsimp only
    split
    · exact hs
    · split
      · exact hs
      · exact State.memWf_modCtx _ _ _ hs
      · split
        · exact hs
        · exact State.memWf_modCtx _ _ _ hs
      · exact hs

theorem keeps_execSluiceJobStart {die serial : Nat} {s : State} (hs : s.memWf = true) :
    OutcomeKeeps (execSluiceJobStart die serial s) := by
  unfold execSluiceJobStart
  exact State.memWf_sluiceStart hs

theorem keeps_execSluiceJobDone {die serial : Nat} {s : State} (hs : s.memWf = true) :
    OutcomeKeeps (execSluiceJobDone die serial s) := by
  unfold execSluiceJobDone
  exact State.memWf_sluiceDone hs

theorem keeps_execSluiceJobFault {die serial unit : Nat} {s : State} (hs : s.memWf = true) :
    OutcomeKeeps (execSluiceJobFault die serial unit s) := by
  unfold execSluiceJobFault
  exact State.memWf_sluiceFault hs

theorem keeps_execStreamVectorArrival {ctx stream : Nat} {s : State} (hs : s.memWf = true) :
    OutcomeKeeps (execStreamVectorArrival ctx stream s) := by
  unfold execStreamVectorArrival
  exact State.memWf_vectorArrival hs

theorem State.memWf_edstash {s : State} {c token : Nat} {place : Option Nat} {e : Stash} (hs : s.memWf = true) :
    (s.edstash c token place e).memWf = true := by
  unfold State.edstash
  dsimp only
  split
  · exact State.memWf_evalSoon (State.memWf_modDie _ _ _ hs (fun x h => h))
  · exact State.memWf_acceptJob (State.memWf_evalSoon (State.memWf_modDie _ _ _ hs (fun x h => h)))

theorem State.memWf_attachTo {s : State} {d : Nat} {e : Stash} {a : Attach} (hs : s.memWf = true) :
    (s.attachTo d e a).memWf = true := by
  unfold State.attachTo
  split
  · dsimp only
    split
    · split
      · exact hs
      · exact State.memWf_engBar hs
    · split
      · exact hs
      · exact State.memWf_engBar hs
  · exact State.memWf_modCtx _ _ _ hs

theorem State.memWf_attachRestore {s : State} {d key : Nat} {a : Option Attach} (hs : s.memWf = true) :
    (s.attachRestore d key a).memWf = true := by
  unfold State.attachRestore
  split
  · exact State.memWf_modStash (State.memWf_attachTo hs)
  · exact hs

theorem State.memWf_edfetch {s : State} {d key c : Nat} {place : Option Nat} {a : Option Attach} {waiter : Option (Nat × Nat)} (hs : s.memWf = true) :
    (s.edfetch d key c place a waiter).1.memWf = true := by
  unfold State.edfetch
  split
  · exact hs
  · split
    · exact State.memWf_attachRestore (State.memWf_acceptJob (State.memWf_evalSoon (State.memWf_modStash hs)))
    · split
      · exact State.memWf_modStash (State.memWf_attachRestore hs)
      · dsimp only
        split
        · exact State.memWf_attachTo (State.memWf_evalSoon (State.memWf_modStash hs))
        · exact State.memWf_evalSoon (State.memWf_modStash hs)

/-- Every state that a result brings stands in the canonical form. -/
def ResultKeeps {ε β : Type} (r : Except ε (State × β)) : Prop := ∀ t k, r = .ok (t, k) → t.memWf = true

theorem ResultKeeps.foldl {ε α β : Type} {f : Except ε (State × β) → α → Except ε (State × β)} {l : List α} {r : Except ε (State × β)}
    (hf : ∀ r a, ResultKeeps r → ResultKeeps (f r a)) (hr : ResultKeeps r) : ResultKeeps (l.foldl f r) := by
  induction l generalizing r with
  | nil => exact hr
  | cons a l ih => exact ih (hf r a hr)

theorem ResultKeeps.ok {ε β : Type} {s : State} {k : β} (hs : s.memWf = true) : ResultKeeps (.ok (s, k) : Except ε (State × β)) :=
  fun _ _ h => by
    cases h
    exact hs

theorem ResultKeeps.error {ε β : Type} {e : ε} : ResultKeeps (.error e : Except ε (State × β)) := fun _ _ h => by cases h

theorem ResultKeeps.engWrite {β : Type} {s : State} {g : Agent} {a : W64} {bs : List Byte} {k : β} (hs : s.memWf = true) :
    ResultKeeps ((s.engWrite g a bs).map fun s => (s, k)) := by
  cases hw : s.engWrite g a bs with
  | error x => exact .error
  | ok u => exact .ok (State.memWf_engWrite hs hw)

theorem State.memWf_storeCopy {s t : State} {d k : Nat} {e : Stash} (hs : s.memWf = true) (he : s.storeCopy d e = .ok (t, k)) :
    t.memWf = true := by
  suffices hk : ResultKeeps (s.storeCopy d e) from hk t k he
  unfold State.storeCopy
  dsimp only
  split
  · exact .error
  · split
    · refine .foldl (fun r b hr => ?_) (.ok hs)
      split
      · exact .error
      · have hs' := hr _ _ rfl
        split
        · exact .engWrite hs'
        · split
          · exact .error
          · exact .engWrite (State.memWf_engWrite hs' ‹_›)
    · exact .engWrite hs
    · exact .engWrite hs
    · exact .engWrite hs
    · exact .ok hs

theorem State.memWf_restoreLand {s : State} {d key n : Nat} (hs : s.memWf = true) :
    (s.restoreLand d key n).memWf = true := by
  unfold State.restoreLand
  split
  · exact hs
  · refine State.memWf_modStash ?_
    refine State.memWf_foldl ?_ hs
    intro s' a h
    split
    · exact State.memWf_engBar h
    · exact h

theorem State.memWf_restoreBlock {s t : State} {d i : Nat} {e : Stash} {image : List Byte} (hs : s.memWf = true)
    (he : s.restoreBlock d e image i = .ok t) : t.memWf = true := by
  unfold State.restoreBlock at he
  split at he
  · cases he
  · dsimp only at he
    split at he
    · split at he
      · cases he
      · cases he
        exact State.memWf_restoreLand (State.memWf_engWrite (t := ‹State›) hs ‹_›)
    · split at he
      · cases he
        exact State.memWf_restoreLand hs
      · split at he <;> cases he
        exact State.memWf_restoreLand (State.memWf_pinRun (State.memWf_engWrite hs ‹_›))

theorem State.memWf_copyStopped {s : State} {d : Nat} {j : Job} {e : CopyEnd} (hs : s.memWf = true) :
    (s.copyStopped d j e).memWf = true := by
  unfold State.copyStopped
  split
  · exact State.memWf_endJob hs
  · exact State.memWf_endJob (State.memWf_logUE hs)
  · exact hs
  · exact State.memWf_fqPush (State.memWf_modJob hs)

theorem State.memWf_pinStash {s : State} {d : Nat} {e : Stash} (hs : s.memWf = true) :
    (s.pinStash d e).memWf = true := by
  unfold State.pinStash
  split
  · exact State.memWf_foldl (fun s' a h => State.memWf_pinRun h) hs
  · exact hs

theorem State.memWf_eddyStored {s : State} {d serial : Nat} (hs : s.memWf = true) :
    (s.eddyStored d serial).memWf = true := by
  unfold State.eddyStored
  split
  · exact hs
  · split
    · split
      · exact hs
      · split
        · exact hs
        · split
          · exact State.memWf_copyStopped hs
          · exact State.memWf_checkEnd (State.memWf_endJob (State.memWf_modStash (State.memWf_pinStash (State.memWf_storeCopy hs ‹_›))))
    · exact hs

theorem State.memWf_restoreNext {s : State} {d : Nat} {j : Job} {e : Stash} (hs : s.memWf = true) :
    (s.restoreNext d j e).1.memWf = true := by
  unfold State.restoreNext
  dsimp only
  split
  · exact State.memWf_copyStopped hs
  · exact State.memWf_modJob (State.memWf_restoreBlock hs ‹_›)

theorem State.memWf_restoreRest {s : State} {d key n : Nat} {j : Job} (hs : s.memWf = true) : (s.restoreRest d j key n).1.memWf = true := by
  induction n generalizing s with
  | zero => exact hs
  | succ n ih =>
    unfold State.restoreRest
    split
    · exact hs
    · split
      · exact hs
      · dsimp only
        split
        · exact ih (State.memWf_restoreNext hs)
        · exact State.memWf_restoreNext hs

theorem State.memWf_eddyRestored {s : State} {d serial : Nat} (hs : s.memWf = true) :
    (s.eddyRestored d serial).memWf = true := by
  unfold State.eddyRestored
  split
  · exact hs
  · split
    · split
      · exact hs
      · split
        · exact hs
        · dsimp only
          split
          · exact State.memWf_checkEnd (State.memWf_restoreRest hs)
          · exact State.memWf_checkEnd (State.memWf_placeFreed (State.memWf_stashFree (State.memWf_foldl (fun s' a h => State.memWf_modCtx _ _ _ h) (State.memWf_modJob (State.memWf_evalSoon (State.memWf_modStash (State.memWf_foldl (fun s' a h => State.memWf_unpinRun h) (State.memWf_restoreRest hs))))))))
    · exact hs

theorem State.memWf_sluiceUnit {s : State} {d serial u : Nat} {ecc : SramEcc} (hs : s.memWf = true) :
    (s.sluiceUnit d serial u ecc).memWf = true := by
  unfold State.sluiceUnit
  split
  · exact hs
  · split
    · split
      · exact State.memWf_cardUnitRun hs
      · exact hs
    · split
      · split
        · exact State.memWf_checkEnd (State.memWf_restoreNext hs)
        · exact hs
      · exact hs
    · exact hs

theorem State.memWf_eddyFailed {s : State} {d serial pa : Nat} (hs : s.memWf = true) :
    (s.eddyFailed d serial pa).memWf = true := by
  unfold State.eddyFailed
  split
  · exact hs
  · split
    · exact hs
    · split
      · exact State.memWf_checkEnd (State.memWf_copyStopped hs)
      · exact hs

theorem State.memWf_edfree {s : State} {d key c token dest : Nat} (hs : s.memWf = true) :
    (s.edfree d key c token dest).memWf = true := by
  unfold State.edfree
  exact State.memWf_stashFree (State.memWf_modStash hs)

theorem keeps_execEddyStoreComplete {die serial : Nat} {s : State} (hs : s.memWf = true) :
    OutcomeKeeps (execEddyStoreComplete die serial s) := by
  unfold execEddyStoreComplete
  exact State.memWf_eddyStored hs

theorem keeps_execEddyRestoreComplete {die serial : Nat} {s : State} (hs : s.memWf = true) :
    OutcomeKeeps (execEddyRestoreComplete die serial s) := by
  unfold execEddyRestoreComplete
  exact State.memWf_eddyRestored hs

theorem keeps_execEddyJobFailure {die : Nat} {job : EccJob} {s : State} (hs : s.memWf = true) :
    OutcomeKeeps (execEddyJobFailure die job s) := by
  unfold execEddyJobFailure
  exact State.memWf_eddyFailed hs

theorem keeps_execSluiceUnit {die serial unit : Nat} {ecc : SramEcc} {s : State} (hs : s.memWf = true) :
    OutcomeKeeps (execSluiceUnit die serial unit ecc s) := by
  unfold execSluiceUnit
  exact State.memWf_sluiceUnit hs

theorem keeps_evalNop {f : CForm} {e : Env} :
    SlotOut.Keeps (evalNop f e) := by
  unfold evalNop
  exact Env.keeps_guarded SlotOut.keeps_none

theorem keeps_evalPrep {f : CForm} {e : Env} :
    SlotOut.Keeps (evalPrep f e) := by
  unfold evalPrep
  exact Env.keeps_guarded Env.keeps_result

theorem keeps_evalPrepAbsolute {f : CForm} {e : Env} :
    SlotOut.Keeps (evalPrepAbsolute f e) := by
  unfold evalPrepAbsolute
  exact Env.keeps_guarded Env.keeps_result

theorem Env.keeps_branch {e : Env} {f : CForm} {link : Bool} :
    SlotOut.Keeps (Env.branch e f link) := by
  unfold Env.branch
  split
  · exact Env.keeps_illegalOp
  · exact Env.keeps_guarded (fun s h => State.memWf_modCtx _ _ _ h)

theorem keeps_evalBrx {f : CForm} {e : Env} :
    SlotOut.Keeps (evalBrx f e) := by
  unfold evalBrx
  exact Env.keeps_branch

theorem keeps_evalBrxl {f : CForm} {e : Env} :
    SlotOut.Keeps (evalBrxl f e) := by
  unfold evalBrxl
  exact Env.keeps_branch

theorem keeps_evalVote {f : CForm} {e : Env} :
    SlotOut.Keeps (evalVote f e) := by
  unfold evalVote
  exact Env.keeps_guarded Env.keeps_result

theorem keeps_evalPtt {f : CForm} {e : Env} :
    SlotOut.Keeps (evalPtt f e) := by
  unfold evalPtt
  exact Env.keeps_guarded Env.keeps_result

theorem keeps_evalLoop {f : CForm} {e : Env} :
    SlotOut.Keeps (evalLoop f e) := by
  unfold evalLoop
  exact Env.keeps_guarded (fun s h => State.memWf_modCtx _ _ _ h)

theorem keeps_evalLset {f : CForm} {e : Env} :
    SlotOut.Keeps (evalLset f e) := by
  unfold evalLset
  exact Env.keeps_guarded (fun s h => State.memWf_modCtx _ _ _ h)

theorem keeps_evalLstr {f : CForm} {e : Env} :
    SlotOut.Keeps (evalLstr f e) := by
  unfold evalLstr
  exact Env.keeps_guarded (fun s h => State.memWf_modCtx _ _ _ h)

theorem keeps_evalWaitk {f : CForm} {e : Env} :
    SlotOut.Keeps (evalWaitk f e) := by
  unfold evalWaitk
  refine Env.keeps_guarded ?_
  split
  · exact trivial
  · split
    · exact trivial
    · exact SlotOut.keeps_none

theorem keeps_evalSpin {f : CForm} {e : Env} :
    SlotOut.Keeps (evalSpin f e) := by
  unfold evalSpin
  exact Env.keeps_guarded (fun s h => State.memWf_modCtx _ _ _ h)

theorem State.memWf_checkBar {s : State} {g b : Nat} (hs : s.memWf = true) :
    (s.checkBar g b).memWf = true := by
  unfold State.checkBar
  split
  · exact hs
  · dsimp only
    split
    · exact State.memWf_wake (State.memWf_modGang hs (fun x h => h))
    · exact hs

theorem State.memWf_checkBars {s : State} {g : Nat} (hs : s.memWf = true) :
    (s.checkBars g).memWf = true := by
  unfold State.checkBars
  exact State.memWf_foldl (fun s' a h => State.memWf_checkBar h) hs

theorem State.memWf_barArrive {s : State} {c g member b : Nat} (hs : s.memWf = true) :
    (s.barArrive c g member b).memWf = true := by
  unfold State.barArrive
  split
  · exact hs
  · split
    · exact hs
    · exact State.memWf_checkBar (State.memWf_modGang hs (fun x h => h))

theorem State.memWf_barPass {s : State} {c g b : Nat} (hs : s.memWf = true) :
    (s.barPass c g b).memWf = true := by
  unfold State.barPass
  split
  · exact hs
  · exact State.memWf_behindWrites hs

theorem keeps_evalBarv {f : CForm} {e : Env} :
    SlotOut.Keeps (evalBarv f e) := by
  unfold evalBarv
  exact Env.keeps_guarded (fun s h => State.memWf_barArrive h)

theorem keeps_evalBwait {f : CForm} {e : Env} :
    SlotOut.Keeps (evalBwait f e) := by
  unfold evalBwait
  dsimp only
  refine Env.keeps_guarded ?_
  split
  · exact fun s h => h
  · exact fun s h => State.memWf_barPass h

theorem keeps_evalYield {f : CForm} {e : Env} :
    SlotOut.Keeps (evalYield f e) := by
  unfold evalYield
  exact Env.keeps_guarded SlotOut.keeps_none

theorem keeps_evalSetfmt {f : CForm} {e : Env} :
    SlotOut.Keeps (evalSetfmt f e) := by
  unfold evalSetfmt
  exact Env.keeps_guarded (fun s h => State.memWf_addFlight (State.memWf_modCtx _ _ _ h))

theorem keeps_evalSetwin {f : CForm} {e : Env} :
    SlotOut.Keeps (evalSetwin f e) := by
  unfold evalSetwin
  dsimp only
  refine Env.keeps_guardedSup ?_
  split
  · exact trivial
  · split
    · exact trivial
    · exact fun s h => State.memWf_modCluster _ _ _ h (fun x h' => h')

theorem keeps_evalTrap {f : CForm} {e : Env} :
    SlotOut.Keeps (evalTrap f e) := by
  unfold evalTrap
  exact Env.keeps_guarded Env.keeps_trap

theorem keeps_evalRft {f : CForm} {e : Env} :
    SlotOut.Keeps (evalRft f e) := by
  unfold evalRft
  split
  · split
    · exact Env.keeps_priv
    · split
      · exact Env.keeps_illegalOp
      · exact Env.keeps_checked SlotOut.keeps_none
  · exact SlotOut.keeps_none

theorem keeps_evalDone {f : CForm} {e : Env} :
    SlotOut.Keeps (evalDone f e) := by
  unfold evalDone
  exact Env.keeps_guarded (fun s h => State.memWf_modCtx _ _ _ h)

theorem State.memWf_countLanded {s : State} {d g : Nat} {i32 : Bool} {ls : List Landed} (hs : s.memWf = true) :
    (s.countLanded d g i32 ls).memWf = true := by
  unfold State.countLanded
  refine State.memWf_foldl ?_ hs
  intro s' a h
  refine State.memWf_foldl ?_ h
  intro s'' a' h'
  dsimp only
  split
  · exact h'
  · exact State.memWf_gaugeSector h'

theorem State.memWf_landMacro {s : State} {c : Nat} {m : MacroOp} (hs : s.memWf = true) :
    (s.landMacro c m).memWf = true := by
  unfold State.landMacro
  split
  · exact hs
  · dsimp only
    split
    · exact State.memWf_modCtx _ _ _ hs
    · exact State.memWf_countLanded (State.memWf_modCtx _ _ _ hs)

theorem State.memWf_readBefore {s : State} {core off first : Nat} (hs : s.memWf = true) :
    (s.readBefore core off first).memWf = true := by
  unfold State.readBefore
  exact hs

theorem State.memWf_land {s : State} {c : Nat} {w : Landing} (hs : s.memWf = true) : (s.land c w).memWf = true := by
  cases w with
  | scalar d v => exact State.memWf_landScalar hs
  | vector d v m => exact State.memWf_modCtx _ _ _ hs
  | predicate n v m => exact State.memWf_modCtx _ _ _ hs
  | fmt v => exact State.memWf_modCtx _ _ _ hs
  | tileCfg z v => exact State.memWf_modCtx _ _ _ hs
  | tileZero z => exact State.memWf_modCtx _ _ _ hs
  | tileRows z r vs => exact State.memWf_modCtx _ _ _ hs
  | tileStat off v z clr first =>
    have hstat := State.memWf_modCore (s.readBefore (ctxCore c) off first) (ctxCore c)
      (fun k => { k with spad := Mem.write k.spad off (toBytes 8 v.toNat) }) (State.memWf_readBefore hs) fun k hk => by
        simp only [Core.memWf, Bool.and_eq_true] at hk ⊢
        exact ⟨Memory.wf_write _ _ _ hk.1, hk.2⟩
    unfold State.land
    dsimp only
    split
    · exact State.memWf_modCtx _ _ _ hstat
    · exact hstat
  | macroOp m => exact State.memWf_landMacro hs
  | reply k id ws =>
    unfold State.land
    dsimp only
    split
    · exact State.memWf_reply hs
    · exact State.memWf_answerResult hs

theorem State.memWf_landWhere {s : State} {c : Nat} {p : Flight → Bool} (hs : s.memWf = true) :
    (s.landWhere c p).memWf = true := by
  unfold State.landWhere
  split
  · exact hs
  · exact State.memWf_foldl (fun s' a h => State.memWf_land h) (State.memWf_modCtx _ _ _ hs)

theorem State.memWf_endCount {s : State} {c n : Nat} (hs : s.memWf = true) :
    (s.endCount c n).memWf = true := by
  unfold State.endCount
  exact State.memWf_modCtx _ _ _ (State.memWf_engBars (State.memWf_landWhere hs))

theorem State.memWf_passCounts {s : State} {c upto : Nat} (hs : s.memWf = true) :
    (s.passCounts c upto).memWf = true := by
  unfold State.passCounts
  split
  · exact hs
  · exact State.memWf_modCtx _ _ _ (State.memWf_engBars (State.memWf_landWhere (State.memWf_modCtx _ _ _ hs)))

theorem State.memWf_landAll {s : State} {c : Nat} (hs : s.memWf = true) :
    (s.landAll c).memWf = true := by
  unfold State.landAll
  exact State.memWf_engBars (State.memWf_modCtx _ _ _ (State.memWf_landWhere hs))

theorem State.memWf_leaveReady {s : State} {c : Nat} (hs : s.memWf = true) :
    (s.leaveReady c).memWf = true := by
  unfold State.leaveReady
  exact State.memWf_modCtx _ _ _ (State.memWf_landAll hs)

theorem State.memWf_joinArrival {s : State} {c : Nat} (hs : s.memWf = true) :
    (s.joinArrival c).memWf = true := by
  unfold State.joinArrival
  split
  · split
    · split
      · split
        · exact hs
        · dsimp only
          split
          · exact State.memWf_modCtx _ _ _ (State.memWf_modCtx _ _ _ (State.memWf_modCtx _ _ _ hs))
          · exact State.memWf_modCtx _ _ _ hs
      · exact hs
    · exact hs
  · exact hs

theorem State.memWf_joinTimeout {s : State} {c : Nat} (hs : s.memWf = true) :
    (s.joinTimeout c).memWf = true := by
  unfold State.joinTimeout
  split
  · exact hs
  · split
    · exact hs
    · split
      · dsimp only
        refine State.memWf_modCtx _ _ _ ?_
        split
        · exact hs
        · exact State.memWf_modCtx _ _ _ hs
      · exact hs

theorem keeps_execJoinHalfArrival {ctx : Nat} {s : State} (hs : s.memWf = true) :
    OutcomeKeeps (execJoinHalfArrival ctx s) := by
  unfold execJoinHalfArrival
  exact State.memWf_joinArrival hs

theorem keeps_execJoinTimeout {ctx : Nat} {s : State} (hs : s.memWf = true) :
    OutcomeKeeps (execJoinTimeout ctx s) := by
  unfold execJoinTimeout
  exact State.memWf_joinTimeout hs

theorem State.memWf_portError {s : State} {p : Nat} (hs : s.memWf = true) :
    (s.portError p).memWf = true := by
  unfold State.portError
  exact State.memWf_modPort hs

theorem State.memWf_linkNow {s : State} (hs : s.memWf = true) :
    (s.linkNow).memWf = true := by
  unfold State.linkNow
  exact hs

theorem State.memWf_sendPort {s : State} {p : Nat} {o : Out} (hs : s.memWf = true) :
    (s.sendPort p o).memWf = true := by
  unfold State.sendPort
  split
  · exact State.memWf_send (State.memWf_linkNow hs)
  · exact State.memWf_modPort hs

theorem State.memWf_portGoesDown {s : State} {p : Nat} (hs : s.memWf = true) :
    (s.portGoesDown p).memWf = true := by
  unfold State.portGoesDown
  split
  · exact hs
  · exact State.memWf_addLog (State.memWf_msix (State.memWf_modPort hs))

theorem State.memWf_portComesUp {s : State} {p : Nat} (hs : s.memWf = true) :
    (s.portComesUp p).memWf = true := by
  unfold State.portComesUp
  split
  · exact hs
  · have hup : ∀ f, ((s.modPort p f).msix 4).memWf = true := fun _ => State.memWf_msix (State.memWf_modPort hs)
    extract_lets q up cfg told
    have htold : told.memWf = true := by
      dsimp only [told]
      split
      · exact State.memWf_weirsSoon (hup _)
      · split
        · exact State.memWf_linkNow (hup _)
        · exact hup _
    exact State.memWf_congr told _ htold rfl rfl rfl rfl rfl rfl

theorem State.memWf_sendTime {s : State} (hs : s.memWf = true) :
    (s.sendTime).memWf = true := by
  unfold State.sendTime
  split
  · refine State.memWf_foldl ?_ hs
    intro s' a h
    split
    · exact State.memWf_send (State.memWf_linkNow h)
    · exact h
  · exact hs

theorem State.memWf_setLocked {s : State} {locked : Bool} (hs : s.memWf = true) :
    (s.setLocked locked).memWf = true := by
  unfold State.setLocked
  dsimp only
  split
  · exact State.memWf_msix hs
  · exact hs

theorem State.memWf_recvTime {s : State} {p value : Nat} (hs : s.memWf = true) :
    (s.recvTime p value).memWf = true := by
  unfold State.recvTime
  dsimp only
  split
  · exact hs
  · split
    · exact State.memWf_setLocked hs
    · split
      · exact State.memWf_setLocked hs
      · split
        · exact State.memWf_setLocked hs
        · exact State.memWf_setLocked hs

theorem State.memWf_grant {s : State} {n k : Nat} (hs : s.memWf = true) : (s.grant n k).memWf = true := by
  induction k generalizing s with
  | zero => exact hs
  | succ k ih =>
    unfold State.grant
    split
    · exact hs
    · exact ih (State.memWf_insertReady (State.memWf_modChan hs))

theorem State.memWf_windowMoves {s : State} {n : Nat} {c : Chan} (hs : s.memWf = true) :
    (s.windowMoves n c).memWf = true := by
  unfold State.windowMoves
  split
  · exact State.memWf_weirSoon hs
  · exact hs

theorem State.memWf_misconf {s : State} {n : Nat} (hs : s.memWf = true) :
    (s.misconf n).memWf = true := by
  unfold State.misconf
  exact State.memWf_windowMoves (State.memWf_msix (State.memWf_modChan hs))

theorem State.memWf_matchEnds {s : State} {n : Nat} (hs : s.memWf = true) :
    (s.matchEnds n).memWf = true := by
  unfold State.matchEnds
  dsimp only
  split
  · exact hs
  · split
    · exact hs
    · split
      · exact State.memWf_misconf hs
      · split
        · exact State.memWf_windowMoves (State.memWf_modChan hs)
        · split
          · exact State.memWf_misconf hs
          · split
            · exact hs
            · split
              · exact State.memWf_weirSoon (State.memWf_grant (State.memWf_modChan hs))
              · exact State.memWf_modChan hs

theorem State.memWf_chanEnable {s : State} {n : Nat} {base : W64} {ctl : W32} (hs : s.memWf = true) :
    (s.chanEnable n base ctl).memWf = true := by
  unfold State.chanEnable
  extract_lets st old c n4 ok pages bad made checked
  split
  · exact hs
  · have hmade : made.memWf = true := State.memWf_modChan hs
    have hchecked : checked.memWf = true := by
      dsimp only [checked]
      split
      · exact State.memWf_misconf hmade
      · exact hmade
    exact State.memWf_matchEnds (State.memWf_sendPort hchecked)

theorem State.memWf_chanDisable {s : State} {n : Nat} (hs : s.memWf = true) :
    (s.chanDisable n).memWf = true := by
  unfold State.chanDisable
  dsimp only
  split
  · exact hs
  · exact State.memWf_sendPort (State.memWf_windowMoves (State.memWf_modDie _ _ _ (State.memWf_foldl (fun s' a h => State.memWf_replyTo h) (State.memWf_foldl (fun s' a h => State.memWf_replyPair h) (State.memWf_foldl (fun s' a h => State.memWf_insertReady h) (State.memWf_modChan hs)))) (fun x h => h)))

theorem State.memWf_recvConfig {s : State} {n : Nat} {np : BitVec 12} {ps : BitVec 4} {st : BitVec 3} (hs : s.memWf = true) :
    (s.recvConfig n np ps st).memWf = true := by
  unfold State.recvConfig
  split
  · exact hs
  · exact State.memWf_matchEnds (State.memWf_modChan hs)

theorem State.memWf_recvHeader {s : State} {n : Nat} {h : FlitHeader} (hs : s.memWf = true) :
    (s.recvHeader n h).memWf = true := by
  unfold State.recvHeader
  dsimp only
  split
  · exact hs
  · split
    · exact State.memWf_portError hs
    · exact State.memWf_modChan hs

theorem State.memWf_recvData {s : State} {n : Nat} {bs : List Byte} (hs : s.memWf = true) :
    (s.recvData n bs).memWf = true := by
  unfold State.recvData
  split
  · exact hs
  · split
    · exact hs
    · dsimp only
      refine State.memWf_modChan ?_
      split
      · exact State.memWf_touchRuns (State.memWf_unpoison (State.memWf_writePieces hs))
      · exact hs

theorem State.memWf_returnCredits {s : State} {n : Nat} (hs : s.memWf = true) :
    (s.returnCredits n).1.memWf = true := by
  unfold State.returnCredits
  dsimp only
  split
  · exact hs
  · exact State.memWf_sendPort (State.memWf_modChan hs)

theorem State.memWf_release {s t : State} {n k : Nat} {seq : BitVec 16} (hs : s.memWf = true) (he : s.release n seq = some (t, k)) :
    t.memWf = true := by
  unfold State.release at he
  split at he
  · exact State.memWf_of_eq_fst (Option.some.inj he) (State.memWf_returnCredits (State.memWf_modChan hs))
  · cases he

theorem State.memWf_markParcel {s : State} {n : Nat} {freed : Bool} (hs : s.memWf = true) :
    (s.markParcel n freed).memWf = true := by
  unfold State.markParcel
  exact State.memWf_modChan hs

theorem State.memWf_deliverParcel {s : State} {n : Nat} (hs : s.memWf = true) :
    (s.deliverParcel n).memWf = true := by
  unfold State.deliverParcel
  dsimp only
  split
  · exact hs
  · split
    · exact hs
    · split
      · split
        · exact hs
        · split
          · exact hs
          · exact State.memWf_replyPair (State.memWf_wakeUp (State.memWf_markParcel (State.memWf_modChan hs)))
      · split
        · split
          · exact State.memWf_wakeUp (State.memWf_returnCredits (State.memWf_portError (State.memWf_markParcel hs)))
          · split
            · exact hs
            · exact State.memWf_evalSoon (State.memWf_wakeUp (State.memWf_modStage (State.memWf_markParcel hs)))
        · split
          · exact State.memWf_wakeUp (State.memWf_returnCredits (State.memWf_portError (State.memWf_markParcel hs)))
          · split
            · exact hs
            · exact State.memWf_evalSoon (State.memWf_wakeUp (State.memWf_modStage (State.memWf_markParcel hs)))

theorem State.memWf_recvCredits {s : State} {n k : Nat} (hs : s.memWf = true) :
    (s.recvCredits n k).memWf = true := by
  unfold State.recvCredits
  dsimp only
  split
  · exact hs
  · split
    · exact State.memWf_portError hs
    · split
      · exact hs
      · exact State.memWf_weirSoon (State.memWf_grant (State.memWf_modChan hs))

theorem State.memWf_dropGrant {s : State} {n c : Nat} (hs : s.memWf = true) :
    (s.dropGrant n c).memWf = true := by
  unfold State.dropGrant
  split
  · exact State.memWf_grant (State.memWf_modChan hs)
  · exact hs

theorem State.memWf_parcelLeaves {s : State} {n : Nat} {t : TimedSend} {got : List (List Byte)} {status : Nat} (hs : s.memWf = true) :
    (s.parcelLeaves n t got status).memWf = true := by
  unfold State.parcelLeaves
  exact State.memWf_replyTo (State.memWf_foldl (fun s' a h => State.memWf_sendPort h) (State.memWf_sendPort (State.memWf_modChan hs)))

theorem State.memWf_sendFills {s : State} {n : Nat} {t : TimedSend} (hs : s.memWf = true) :
    (s.sendFills n t).memWf = true := by
  unfold State.sendFills
  split
  · exact State.memWf_foldl (fun s' a h => State.memWf_fillLayout h) hs
  · exact hs

theorem State.memWf_trySend {s : State} {n : Nat} (hs : s.memWf = true) :
    (s.trySend n).memWf = true := by
  unfold State.trySend
  split
  · exact hs
  · dsimp only
    split
    · exact hs
    · split
      · exact State.memWf_parcelLeaves (State.memWf_sendFills hs)
      · exact State.memWf_parcelLeaves (State.memWf_modCtx _ _ _ (State.memWf_logUE hs))
      · exact hs
      · exact State.memWf_fqPush (State.memWf_modChan hs)

theorem State.memWf_takeCredit {s : State} {n c : Nat} {sup : Bool} {token dest : Nat} {w : List W64} (hs : s.memWf = true) :
    (s.takeCredit n c sup token dest w).memWf = true := by
  unfold State.takeCredit
  dsimp only
  refine State.memWf_weirSoon ?_
  split
  · exact State.memWf_trySend (State.memWf_modChan hs)
  · exact State.memWf_modChan hs

theorem State.memWf_modOx {s : State} {west : Bool} {f : OxDir → OxDir} (hs : s.memWf = true) :
    (s.modOx west f).memWf = true := by
  unfold State.modOx
  split
  · exact hs
  · exact hs

theorem State.memWf_modColl {s : State} {west : Bool} {f : Coll → Coll} (hs : s.memWf = true) :
    (s.modColl west f).memWf = true := by
  unfold State.modColl
  exact State.memWf_modOx hs

theorem State.memWf_collWrite {s : State} {g : Agent} {a : W64} {bs : List Byte} {n k : Nat} (hs : s.memWf = true) :
    (s.collWrite g a bs n k).1.memWf = true := by
  induction n generalizing s k with
  | zero => exact hs
  | succ n ih =>
    unfold State.collWrite
    split
    · exact hs
    · exact ih (State.memWf_engWrite hs ‹_›)

theorem State.memWf_oxReply {s : State} {c : Coll} {status : Nat} (hs : s.memWf = true) :
    (s.oxReply c status).memWf = true := by
  unfold State.oxReply
  exact State.memWf_settleWaits hs

theorem State.memWf_collStopped {s : State} {west : Bool} {c : Coll} {e : EngStop} (hs : s.memWf = true) :
    (s.collStopped west c e).memWf = true := by
  unfold State.collStopped
  split
  · exact hs
  · exact State.memWf_fqPush (State.memWf_modColl hs)
  · exact State.memWf_modOx (State.memWf_oxReply (State.memWf_modCtx _ _ _ (State.memWf_logUE hs)))

theorem State.memWf_collShard {s : State} {west : Bool} {c : Coll} {k : Nat} (hs : s.memWf = true) :
    (s.collShard west c k).1.memWf = true := by
  unfold State.collShard
  split
  · exact State.memWf_modColl hs
  · exact State.memWf_collStopped (State.memWf_modColl hs)

theorem State.memWf_collPlace {s : State} {west : Bool} {c : Coll} {k : Nat} {bs : List Byte} (hs : s.memWf = true) :
    (s.collPlace west c k bs).1.memWf = true := by
  unfold State.collPlace
  split
  · exact State.memWf_modColl (State.memWf_of_eq_fst ‹_› (State.memWf_collWrite hs))
  · exact State.memWf_collStopped (State.memWf_modColl (State.memWf_of_eq_fst ‹_› (State.memWf_collWrite hs)))

theorem State.memWf_oxStart {s : State} {west : Bool} (hs : s.memWf = true) :
    (s.oxStart west).memWf = true := by
  unfold State.oxStart
  split
  · exact hs
  · split
    · exact hs
    · dsimp only
      split
      · exact State.memWf_of_eq_fst ‹_› (State.memWf_collShard hs)
      · exact State.memWf_sendPort (State.memWf_modColl (State.memWf_of_eq_fst ‹_› (State.memWf_collShard hs)))

theorem State.memWf_oxNext {s : State} {west : Bool} (hs : s.memWf = true) :
    (s.oxNext west).memWf = true := by
  unfold State.oxNext
  exact State.memWf_oxStart (State.memWf_modOx hs)

theorem State.memWf_oxEnd {s : State} {west : Bool} {c : Coll} {status : Nat} (hs : s.memWf = true) :
    (s.oxEnd west c status).memWf = true := by
  unfold State.oxEnd
  exact State.memWf_oxNext (State.memWf_oxReply hs)

theorem State.memWf_oxMismatch {s : State} {west : Bool} {c : Coll} (hs : s.memWf = true) :
    (s.oxMismatch west c).memWf = true := by
  unfold State.oxMismatch
  exact State.memWf_oxEnd (State.memWf_modOx (State.memWf_sendPort hs))

theorem State.memWf_recvOx {s : State} {west : Bool} {f : OxFlit} (hs : s.memWf = true) :
    (s.recvOx west f).memWf = true := by
  unfold State.recvOx
  dsimp only
  split
  · split
    · exact hs
    · split
      · split
        · exact State.memWf_oxStart (State.memWf_modOx hs)
        · exact hs
      · split
        · exact State.memWf_oxStart hs
        · split
          · exact State.memWf_oxStart hs
          · split
            · exact State.memWf_oxEnd (State.memWf_sendPort (State.memWf_oxStart hs))
            · split
              · exact State.memWf_oxMismatch (State.memWf_oxStart hs)
              · split
                · exact State.memWf_oxStart hs
                · split
                  · exact State.memWf_of_eq_fst ‹_› (State.memWf_collShard (State.memWf_oxStart hs))
                  · split
                    · exact State.memWf_sendPort (State.memWf_modColl (State.memWf_of_eq_fst ‹_› (State.memWf_collShard (State.memWf_oxStart hs))))
                    · split
                      · exact State.memWf_of_eq_fst ‹_› (State.memWf_collPlace (State.memWf_of_eq_fst ‹_› (State.memWf_collShard (State.memWf_oxStart hs))))
                      · split
                        · exact State.memWf_sendPort (State.memWf_modColl (State.memWf_of_eq_fst ‹_› (State.memWf_collPlace (State.memWf_of_eq_fst ‹_› (State.memWf_collShard (State.memWf_oxStart hs))))))
                        · exact State.memWf_modColl (State.memWf_of_eq_fst ‹_› (State.memWf_collPlace (State.memWf_of_eq_fst ‹_› (State.memWf_collShard (State.memWf_oxStart hs)))))
            · split
              · exact State.memWf_oxMismatch (State.memWf_oxStart hs)
              · split
                · exact State.memWf_oxStart hs
                · split
                  · exact State.memWf_of_eq_fst ‹_› (State.memWf_collPlace (State.memWf_oxStart hs))
                  · split
                    · exact State.memWf_modColl (State.memWf_of_eq_fst ‹_› (State.memWf_collPlace (State.memWf_oxStart hs)))
                    · exact State.memWf_sendPort (State.memWf_modColl (State.memWf_of_eq_fst ‹_› (State.memWf_collPlace (State.memWf_oxStart hs))))
  · split
    · exact hs
    · split
      · split
        · exact State.memWf_oxStart (State.memWf_modOx hs)
        · exact hs
      · split
        · exact State.memWf_oxStart hs
        · split
          · exact State.memWf_oxStart hs
          · split
            · exact State.memWf_oxEnd (State.memWf_sendPort (State.memWf_oxStart hs))
            · split
              · exact State.memWf_oxMismatch (State.memWf_oxStart hs)
              · split
                · exact State.memWf_oxStart hs
                · split
                  · exact State.memWf_of_eq_fst ‹_› (State.memWf_collShard (State.memWf_oxStart hs))
                  · split
                    · exact State.memWf_sendPort (State.memWf_modColl (State.memWf_of_eq_fst ‹_› (State.memWf_collShard (State.memWf_oxStart hs))))
                    · split
                      · exact State.memWf_of_eq_fst ‹_› (State.memWf_collPlace (State.memWf_of_eq_fst ‹_› (State.memWf_collShard (State.memWf_oxStart hs))))
                      · split
                        · exact State.memWf_sendPort (State.memWf_modColl (State.memWf_of_eq_fst ‹_› (State.memWf_collPlace (State.memWf_of_eq_fst ‹_› (State.memWf_collShard (State.memWf_oxStart hs))))))
                        · exact State.memWf_modColl (State.memWf_of_eq_fst ‹_› (State.memWf_collPlace (State.memWf_of_eq_fst ‹_› (State.memWf_collShard (State.memWf_oxStart hs)))))
            · split
              · exact State.memWf_oxMismatch (State.memWf_oxStart hs)
              · split
                · exact State.memWf_oxStart hs
                · split
                  · exact State.memWf_of_eq_fst ‹_› (State.memWf_collPlace (State.memWf_oxStart hs))
                  · split
                    · exact State.memWf_modColl (State.memWf_of_eq_fst ‹_› (State.memWf_collPlace (State.memWf_oxStart hs)))
                    · exact State.memWf_sendPort (State.memWf_modColl (State.memWf_of_eq_fst ‹_› (State.memWf_collPlace (State.memWf_oxStart hs))))

theorem State.memWf_oxFlag {s : State} {west : Bool} {k : Nat} (hs : s.memWf = true) :
    (s.oxFlag west k).memWf = true := by
  unfold State.oxFlag
  split
  · exact hs
  · split
    · exact hs
    · split
      · exact State.memWf_collStopped hs
      · exact State.memWf_modColl (State.memWf_engWrite hs ‹_›)

theorem State.memWf_oxComplete {s : State} {west : Bool} (hs : s.memWf = true) :
    (s.oxComplete west).memWf = true := by
  unfold State.oxComplete
  split
  · exact hs
  · split
    · exact hs
    · dsimp only
      split
      · exact State.memWf_oxNext (State.memWf_collReplies hs)
      · split
        · exact State.memWf_collStopped hs
        · split
          · exact State.memWf_oxNext (State.memWf_engBar hs)
          · exact State.memWf_oxNext hs

theorem State.memWf_oxIssue {s : State} {c : Nat} {sup : Bool} {token dest op : Nat} {w : List W64} {flag : W64} (hs : s.memWf = true) :
    (s.oxIssue c sup token dest op w flag).memWf = true := by
  unfold State.oxIssue
  exact State.memWf_oxStart (State.memWf_modOx hs)

theorem keeps_execPortDown {port : Nat} {s : State} (hs : s.memWf = true) :
    OutcomeKeeps (execPortDown port s) := by
  unfold execPortDown
  exact State.memWf_portGoesDown hs

theorem keeps_execPortUp {port : Nat} {s : State} (hs : s.memWf = true) :
    OutcomeKeeps (execPortUp port s) := by
  unfold execPortUp
  exact State.memWf_portComesUp hs

theorem keeps_execTimeFlitSend {s : State} (hs : s.memWf = true) :
    OutcomeKeeps (execTimeFlitSend s) := by
  unfold execTimeFlitSend
  exact State.memWf_sendTime hs

theorem keeps_execTimeFlitReceive {port value : Nat} {s : State} (hs : s.memWf = true) :
    OutcomeKeeps (execTimeFlitReceive port value s) := by
  unfold execTimeFlitReceive
  exact State.memWf_recvTime (State.memWf_linkNow hs)

theorem keeps_execChannelEnable {chan : Nat} {base : W64} {ctl : W32} {s : State} (hs : s.memWf = true) :
    OutcomeKeeps (execChannelEnable chan base ctl s) := by
  unfold execChannelEnable
  exact State.memWf_chanEnable hs

theorem keeps_execChannelDisable {chan : Nat} {s : State} (hs : s.memWf = true) :
    OutcomeKeeps (execChannelDisable chan s) := by
  unfold execChannelDisable
  exact State.memWf_chanDisable hs

theorem keeps_execConfigFlitReceive {chan : Nat} {nparc : BitVec 12} {psize : BitVec 4} {state : BitVec 3} {s : State} (hs : s.memWf = true) :
    OutcomeKeeps (execConfigFlitReceive chan nparc psize state s) := by
  unfold execConfigFlitReceive
  exact State.memWf_recvConfig (State.memWf_linkNow hs)

theorem State.memWf_recvFlit {s : State} {n : Nat} {h : FlitHeader} (hs : s.memWf = true) :
    (s.recvFlit n h).memWf = true := by
  unfold State.recvFlit
  split
  · exact State.memWf_recvHeader hs
  · exact State.memWf_recvCredits hs
  · exact State.memWf_recvConfig hs
  · split
    · exact hs
    · exact State.memWf_portError hs

theorem keeps_execParcelHeaderReceive {chan : Nat} {header : FlitHeader} {s : State} (hs : s.memWf = true) :
    OutcomeKeeps (execParcelHeaderReceive chan header s) := by
  unfold execParcelHeaderReceive
  exact State.memWf_recvFlit (State.memWf_linkNow hs)

theorem keeps_execDataFlitReceive {chan : Nat} {data : List Byte} {s : State} (hs : s.memWf = true) :
    OutcomeKeeps (execDataFlitReceive chan data s) := by
  unfold execDataFlitReceive
  exact State.memWf_recvData (State.memWf_linkNow hs)

theorem keeps_execParcelDelivery {chan : Nat} {s : State} (hs : s.memWf = true) :
    OutcomeKeeps (execParcelDelivery chan s) := by
  unfold execParcelDelivery
  exact State.memWf_deliverParcel hs

theorem keeps_execCreditFlitReceive {chan credits : Nat} {s : State} (hs : s.memWf = true) :
    OutcomeKeeps (execCreditFlitReceive chan credits s) := by
  unfold execCreditFlitReceive
  exact State.memWf_recvCredits (State.memWf_linkNow hs)

theorem keeps_execTimedSendLaunch {chan : Nat} {s : State} (hs : s.memWf = true) :
    OutcomeKeeps (execTimedSendLaunch chan s) := by
  unfold execTimedSendLaunch
  exact State.memWf_trySend hs

theorem keeps_execOxbowFlitReceive {west : Bool} {flit : OxFlit} {s : State} (hs : s.memWf = true) :
    OutcomeKeeps (execOxbowFlitReceive west flit s) := by
  unfold execOxbowFlitReceive
  exact State.memWf_recvOx (State.memWf_linkNow hs)

theorem keeps_execOxbowFlagWrite {west : Bool} {shard : Nat} {s : State} (hs : s.memWf = true) :
    OutcomeKeeps (execOxbowFlagWrite west shard s) := by
  unfold execOxbowFlagWrite
  exact State.memWf_oxFlag hs

theorem keeps_execCollectiveComplete {west : Bool} {s : State} (hs : s.memWf = true) :
    OutcomeKeeps (execCollectiveComplete west s) := by
  unfold execCollectiveComplete
  exact State.memWf_oxComplete hs

theorem State.memWf_blockHome {s : State} {d : Nat} {l : Loc} (hs : s.memWf = true) :
    (s.blockHome d l).2.memWf = true := by
  unfold State.blockHome
  split
  · exact State.memWf_settle hs
  · exact hs

theorem State.memWf_setBlock {s : State} {d : Nat} {l : Loc} {off : Nat} {bs : List Byte} (hs : s.memWf = true) :
    (s.setBlock d l off bs).memWf = true := by
  unfold State.setBlock
  split
  · exact State.memWf_writeHome hs
  · exact State.memWf_writeLoc _ _ _ _ hs

theorem State.memWf_modStep {s : State} {d n f : Nat} {h : Step → Step} (hs : s.memWf = true) :
    (s.modStep d n f h).memWf = true := by
  unfold State.modStep
  exact State.memWf_modStage hs

theorem State.memWf_stepFaults {s : State} {l : Loc} (hs : s.memWf = true) :
    (s.stepFaults l).memWf = true := by
  unfold State.stepFaults
  split
  · exact State.memWf_modStage (State.memWf_modStep hs)
  · exact hs

theorem State.memWf_applyPost {s : State} {d : Nat} {l : Loc} (hs : s.memWf = true) :
    (s.applyPost d l).1.memWf = true := by
  have hread : (s.blockHome d l).2.memWf = true := State.memWf_blockHome hs
  unfold State.applyPost
  dsimp only
  split
  · exact hread
  · split
    · exact State.memWf_setBlock hread
    · split
      · generalize hu : State.weirsSoon _ = u
        have hu' : u.memWf = true := hu ▸ State.memWf_weirsSoon (State.memWf_setBlock (State.memWf_setBlock hread))
        split
        · exact hu'
        · exact State.memWf_congr u _ hu' rfl rfl rfl rfl rfl rfl
      · exact State.memWf_stepFaults (State.memWf_setBlock (State.memWf_setBlock hread))

theorem State.memWf_jcbPost {s : State} {id : Nat} (hs : s.memWf = true) :
    (s.jcbPost id).memWf = true := by
  unfold State.jcbPost
  split
  · exact hs
  · split
    · split
      · exact hs
      · dsimp only
        split
        · split
          · exact State.memWf_answerResult (State.memWf_modCtx _ _ _ (State.memWf_collReplies (State.memWf_stepFaults (State.memWf_logUE hs))))
          · exact State.memWf_collReplies (State.memWf_stepFaults (State.memWf_logUE hs))
        · split
          · exact State.memWf_replyTo (State.memWf_collReplies (State.memWf_applyPost hs))
          · exact State.memWf_collReplies (State.memWf_applyPost hs)
    · split
      · exact hs
      · dsimp only
        split
        · split
          · exact State.memWf_answerResult (State.memWf_modCtx _ _ _ (State.memWf_collReplies (State.memWf_stepFaults (State.memWf_logUE hs))))
          · exact State.memWf_collReplies (State.memWf_stepFaults (State.memWf_logUE hs))
        · split
          · exact State.memWf_replyTo (State.memWf_collReplies (State.memWf_applyPost hs))
          · exact State.memWf_collReplies (State.memWf_applyPost hs)

theorem State.memWf_sendPost {s : State} {d : Nat} {l : Loc} {reply : Option (Nat × Nat × Nat)} {after : List Nat} (hs : s.memWf = true) :
    (s.sendPost d l reply after).memWf = true := by
  unfold State.sendPost
  exact hs

theorem State.memWf_applyRaise {s : State} {d : Nat} {l : Loc} {posted : Bool} {n : Nat} (hs : s.memWf = true) :
    (s.applyRaise d l posted n).1.memWf = true := by
  unfold State.applyRaise
  dsimp only
  split
  · exact hs
  · split
    · exact hs
    · split
      · exact hs
      · exact State.memWf_setBlock (State.memWf_blockHome hs)

theorem State.memWf_dropSucc {s : State} {q : Succ} {d stage cause : Nat} (hs : s.memWf = true) :
    (s.dropSucc q d stage cause).memWf = true := by
  unfold State.dropSucc
  dsimp only
  split
  · exact State.memWf_addLog hs
  · exact State.memWf_msix (State.memWf_addLog hs)

theorem State.memWf_succEnqueue {s : State} {q : Succ} (hs : s.memWf = true) :
    (s.succEnqueue q).memWf = true := by
  unfold State.succEnqueue
  dsimp only
  split
  · exact State.memWf_dropSucc hs
  · split
    · exact State.memWf_dropSucc hs
    · split
      · exact hs
      · exact State.memWf_evalSoon (State.memWf_wakeUp (State.memWf_modStage hs))

theorem State.memWf_successor {s : State} {die id : Nat} (hs : s.memWf = true) :
    (s.successor die id).memWf = true := by
  have hgone : ({ s with succs := s.succs.filter fun r => r.id != id } : State).memWf = true :=
    State.memWf_congr s _ hs rfl rfl rfl rfl rfl rfl
  unfold State.successor
  split
  · exact hs
  · dsimp only
    split
    · exact hs
    · split
      · exact State.memWf_succEnqueue hs
      · split
        · exact State.memWf_dropSucc hs
        · split
          · exact State.memWf_engBar hs
          · exact hs
      · split
        · exact hs
        · split
          · rename_i hw
            split
            · exact State.memWf_fqPush hs
            · exact State.memWf_engWrite hgone hw
          · exact State.memWf_fqPush hs
          · exact hs

theorem State.memWf_stageEnable {s : State} {d n : Nat} {wsplit : Bool} (hs : s.memWf = true) :
    (s.stageEnable d n wsplit).memWf = true := by
  unfold State.stageEnable
  split
  · exact hs
  · dsimp only
    split
    · exact State.memWf_modStage hs
    · exact State.memWf_modStage (State.memWf_modStage hs)

theorem State.memWf_stageDisable {s : State} {d n : Nat} {wsplit : Bool} (hs : s.memWf = true) :
    (s.stageDisable d n wsplit).memWf = true := by
  unfold State.stageDisable
  split
  · exact hs
  · exact State.memWf_modStage hs

theorem State.memWf_queueArrive {s : State} {d id : Nat} (hs : s.memWf = true) :
    (s.queueArrive d id).memWf = true := by
  unfold State.queueArrive
  split
  · exact hs
  · dsimp only
    split
    · split
      · exact hs
      · refine State.memWf_replyTo ?_
        split
        · exact State.memWf_evalSoon (State.memWf_modStage (State.memWf_wakeUp (State.memWf_modDie _ _ _ hs (fun x h => h))))
        · exact State.memWf_wakeUp (State.memWf_modDie _ _ _ hs (fun x h => h))
    · split
      · exact hs
      · refine State.memWf_replyTo ?_
        split
        · exact State.memWf_evalSoon (State.memWf_modStage (State.memWf_wakeUp (State.memWf_modDie _ _ _ hs (fun x h => h))))
        · exact State.memWf_wakeUp (State.memWf_modDie _ _ _ hs (fun x h => h))

theorem keeps_execSuccessorEvent {die entry : Nat} {s : State} (hs : s.memWf = true) :
    OutcomeKeeps (execSuccessorEvent die entry s) := by
  unfold execSuccessorEvent
  exact State.memWf_checkEnd (State.memWf_successor hs)

theorem keeps_execStageEnable {die stage : Nat} {wsplit : Bool} {s : State} (hs : s.memWf = true) :
    OutcomeKeeps (execStageEnable die stage wsplit s) := by
  unfold execStageEnable
  exact State.memWf_stageEnable hs

theorem keeps_execStageDisable {die stage : Nat} {wsplit : Bool} {s : State} (hs : s.memWf = true) :
    OutcomeKeeps (execStageDisable die stage wsplit s) := by
  unfold execStageDisable
  exact State.memWf_stageDisable hs

theorem keeps_execQueueArrival {die entry : Nat} {s : State} (hs : s.memWf = true) :
    OutcomeKeeps (execQueueArrival die entry s) := by
  unfold execQueueArrival
  exact State.memWf_queueArrive hs

theorem State.memWf_dropMember {s : State} {c : Nat} (hs : s.memWf = true) : (s.dropMember c).memWf = true := by
  unfold State.dropMember
  split
  · exact hs
  · have ht := State.memWf_setCtx (c := c) (x := none) (State.memWf_storeTiles (c := c) hs)
    dsimp only
    split
    · exact ht
    · split
      · exact State.memWf_weirSoon (State.memWf_gangs_filter ht)
      · exact State.memWf_checkBars (State.memWf_modGang ht fun _ hg => hg)

theorem State.memWf_leaveGang {s : State} {c : Nat} (hs : s.memWf = true) :
    (s.leaveGang c).memWf = true := by
  unfold State.leaveGang
  split
  · exact hs
  · dsimp only
    split
    · exact State.memWf_dropMember hs
    · split
      · exact State.memWf_sendPost (State.memWf_dropMember hs)
      · exact State.memWf_dropMember hs

theorem State.memWf_spawn {s : State} {c t : Nat} {entry : BitVec 48} {es : List W64} (hs : s.memWf = true) :
    (s.spawn c t entry es).memWf = true := by
  unfold State.spawn
  split
  · exact hs
  · split
    · exact hs
    · dsimp only
      refine State.memWf_behindWrites ?_
      refine State.memWf_insertReady ?_
      refine State.memWf_modGang ?_ (fun x h => h)
      refine State.memWf_setCtx ?_
      split
      · exact State.memWf_applyRaise hs
      · exact hs

theorem State.memWf_renumber {s : State} {f : Nat → Nat} (hs : s.memWf = true) : (s.renumber f).memWf = true := by
  obtain ⟨hhome, hhost, hdies, hcores, hclusters, hgangs⟩ := (State.memWf_iff s).1 hs
  refine (State.memWf_iff _).2 ⟨hhome, hhost, ?_, hcores, ?_, ?_⟩
  · exact SMap.all_mapVals (p := fun d : Die => Memory.wf d.view) hdies fun _ hx => hx
  · exact SMap.all_mapVals (p := fun k : Cluster => Memory.wf k.sram) hclusters fun _ hx => hx
  · exact List.all_map.trans hgangs

theorem State.memWf_terminate {s : State} {c : Nat} (hs : s.memWf = true) : (s.terminate c).memWf = true := by
  unfold State.terminate
  split
  · exact hs
  · dsimp only
    generalize hr : s.renumber _ = r
    have hr' : r.memWf = true := hr ▸ State.memWf_renumber hs
    generalize hu : State.dropMember _ _ = t
    have ht : t.memWf = true := by
      rw [← hu]
      exact State.memWf_dropMember (State.memWf_congr r _ hr' rfl rfl rfl rfl rfl rfl)
    split
    · exact ht
    · split
      · exact ht
      · exact State.memWf_msix (State.memWf_addLog (State.memWf_stepFaults (State.memWf_setBlock (State.memWf_blockHome ht))))

theorem State.memWf_dropPorts {s : State} {c : Nat} (hs : s.memWf = true) :
    (s.dropPorts c).memWf = true := by
  unfold State.dropPorts
  exact State.memWf_modCluster _ _ _ hs (fun x h => h)

theorem State.memWf_captureGang {s : State} {id stamp : Nat} {hold : Bool} (hs : s.memWf = true) : (s.captureGang id stamp hold).memWf = true := by
  unfold State.captureGang
  split
  · exact hs
  · split
    · exact hs
    · dsimp only
      refine State.memWf_renumber ?_
      have hu : ∀ cs : List Nat, (cs.foldl (fun (s : State) c => ((s.modCtx c fun x => x.captured s.time).storeTiles c).dropPorts c) s).memWf = true :=
        fun cs => State.memWf_foldl (fun s c h => State.memWf_dropPorts (State.memWf_storeTiles (State.memWf_modCtx _ _ _ h))) hs
      refine State.memWf_modGang (hu _) fun _ _ => ?_
      split
      · rfl
      · refine List.all_eq_true.mpr fun i hi => ?_
        obtain ⟨k, -, rfl⟩ := List.mem_map.mp hi
        exact State.core_memWf (hu _) k

theorem State.memWf_captureAll {s : State} {ids : List Nat} {hold : Bool} (hs : s.memWf = true) :
    (s.captureAll ids hold).memWf = true := by
  unfold State.captureAll
  exact State.memWf_foldl (fun s' a h => State.memWf_captureGang h) hs

theorem State.memWf_gangSoon {s : State} {g : Gang} (hs : s.memWf = true) :
    (s.gangSoon g).memWf = true := by
  unfold State.gangSoon
  split
  · exact State.memWf_evalSoon hs
  · exact hs

theorem State.memWf_resumeGang {s : State} {id : Nat} (hs : s.memWf = true) : (s.resumeGang id).memWf = true := by
  unfold State.resumeGang
  split
  · exact hs
  · rename_i g hg
    have himages : ∀ i ∈ g.images, Memory.wf i.2.1 = true ∧ Memory.wf i.2.2 = true := fun i hi => by
      simpa only [Bool.and_eq_true] using List.all_eq_true.mp (State.gang_memWf_of_get hs hg) i hi
    have hload : ∀ (is : List (Nat × Mem × Mem)) (s : State), (∀ i ∈ is, Memory.wf i.2.1 = true ∧ Memory.wf i.2.2 = true) → s.memWf = true →
        (is.foldl (fun (s : State) i => if (s.onCore i.1).isEmpty then s.modCore i.1 fun k => { k with spad := i.2.1, spill := i.2.2 } else s)
          s).memWf = true := fun is => by
      induction is with
      | nil => exact fun _ _ h => h
      | cons i is ih =>
        intro s hi h
        refine ih _ (fun j hj => hi j (List.mem_cons_of_mem _ hj)) ?_
        dsimp only
        split
        · obtain ⟨hspad, hspill⟩ := hi i List.mem_cons_self
          exact State.memWf_modCore _ _ _ h fun _ _ => by simp only [Core.memWf, hspad, hspill, Bool.and_self]
        · exact h
    split
    · exact hs
    · dsimp only
      refine State.memWf_gangSoon (State.memWf_foldl (fun s c h => ?_) (State.memWf_renumber (State.memWf_modGang ?_ fun _ _ => rfl)))
      · split
        · split
          · exact State.memWf_dropPorts (State.memWf_modCtx _ _ _ h)
          · exact State.memWf_insertReady (State.memWf_dropPorts (State.memWf_modCtx _ _ _ h))
        · exact State.memWf_dropPorts (State.memWf_modCtx _ _ _ h)
      · have hparts := State.memWf_foldl (l := g.cores) (fun t k h => State.memWf_modCore t k (fun x => { x with part := (s.rereadGang g).part }) h fun _ hx => hx)
          (hload _ _ himages hs)
        split
        · exact hparts
        · exact State.memWf_foldl (fun _ _ h => State.memWf_modCluster _ _ _ h fun _ hx => hx) hparts

theorem State.memWf_resumeCaptured {s : State} {d n : Nat} (hs : s.memWf = true) :
    (s.resumeCaptured d n).memWf = true := by
  unfold State.resumeCaptured
  split
  · exact hs
  · exact State.memWf_foldl (fun s' a h => State.memWf_resumeGang h) hs

theorem State.memWf_drawBytes {s : State} {n : Nat} (hs : s.memWf = true) : (s.drawBytes n).2.memWf = true := by
  induction n generalizing s with
  | zero => exact hs
  | succ n ih =>
    unfold State.drawBytes
    exact ih (State.memWf_draw hs)

theorem State.memWf_saveWrite {s : State} {g : Gang} {off : Nat} {bs : List Byte} (hs : s.memWf = true) :
    (s.saveWrite g off bs).memWf = true := by
  unfold State.saveWrite
  split
  · exact State.memWf_writePhys _ _ _ _ hs
  · split
    · exact State.memWf_engWrite hs ‹_›
    · exact hs

theorem State.memWf_saveMember {s : State} {g : Gang} {off c : Nat} (hs : s.memWf = true) :
    (s.saveMember g off c).memWf = true := by
  unfold State.saveMember
  split
  · exact hs
  · exact State.memWf_saveWrite (State.memWf_drawBytes (State.memWf_drawBytes hs))

theorem State.memWf_writeOut {s : State} {id : Nat} (hs : s.memWf = true) :
    (s.writeOut id).memWf = true := by
  unfold State.writeOut
  split
  · exact hs
  · split
    · exact hs
    · exact State.memWf_foldl (fun s' a h => State.memWf_saveWrite h) (State.memWf_foldl (fun s' a h => State.memWf_saveMember h) (State.memWf_modGang hs (fun x h => h)))

theorem State.memWf_resumeOne {s : State} {id : Nat} (hs : s.memWf = true) :
    (s.resumeOne id).memWf = true := by
  unfold State.resumeOne
  split
  · split
    · exact hs
    · exact State.memWf_resumeGang hs
  · exact hs

theorem keeps_execGangResume {gang : Nat} {s : State} (hs : s.memWf = true) :
    OutcomeKeeps (execGangResume gang s) := by
  unfold execGangResume
  exact State.memWf_resumeOne hs

theorem keeps_execJcbPost {what : JcbEvent} {s : State} (hs : s.memWf = true) :
    OutcomeKeeps (execJcbPost what s) := by
  unfold execJcbPost
  refine State.memWf_checkEnd ?_
  split
  · exact State.memWf_jcbPost hs
  · exact State.memWf_terminate hs

theorem State.memWf_freezeAll {s : State} {n : Nat} {ids : List Nat} (hs : s.memWf = true) : (s.freezeAll n ids).memWf = true :=
  State.memWf_gangs_mapWhere hs fun _ hg => hg

theorem State.memWf_thaw {s : State} {d n : Nat} (hs : s.memWf = true) : (s.thaw d n).memWf = true :=
  State.memWf_gangs_mapWhere hs fun _ hg => hg

theorem State.memWf_weirFetch {s : State} {d : Nat} {e : Stash} (hs : s.memWf = true) :
    (s.weirFetch d e).memWf = true := by
  unfold State.weirFetch
  dsimp only
  split
  · split
    · exact State.memWf_edfetch hs
    · exact hs
  · split
    · exact State.memWf_edfetch hs
    · exact hs
  · split
    · exact State.memWf_edfetch hs
    · exact hs
  · split
    · exact State.memWf_edfetch hs
    · exact hs

theorem State.memWf_fetchStash {s : State} {d n : Nat} {tag : W32} (hs : s.memWf = true) :
    (s.fetchStash d n tag).memWf = true := by
  unfold State.fetchStash
  dsimp only
  split
  · exact hs
  · exact State.memWf_foldl (fun s' a h => State.memWf_weirFetch h) hs

theorem State.memWf_prefetch {s : State} {d n : Nat} (hs : s.memWf = true) :
    (s.prefetch d n).memWf = true := by
  unfold State.prefetch
  refine State.memWf_foldl ?_ hs
  intro s' a h
  dsimp only
  split
  · exact State.memWf_foldl (fun s'' a' h' => State.memWf_fetchStash h') h
  · exact h

theorem State.memWf_startGang {s : State} {d n f klass slot newslot : Nat} {tag : W32} {p : Placed} (hs : s.memWf = true) :
    (s.startGang d n f klass slot newslot tag p).memWf = true := by
  refine State.memWf_foldl (fun _ _ h => State.memWf_insertReady (State.memWf_setCtx h)) ?_
  refine State.memWf_foldl (fun s k h => ?_) (State.memWf_gangs_append hs rfl)
  dsimp only
  split
  · exact State.memWf_modCore _ _ _ h fun _ hx => hx
  · exact State.memWf_modCluster _ _ _ (State.memWf_modCore _ _ _ h fun _ hx => hx) fun _ hx => hx

theorem State.memWf_launch {s : State} {d n : Nat} {p : W64} {e : QEntry} {f : Nat} {ch : List Tmpl} {status : Nat} {ps : List Placed}
    (hs : s.memWf = true) : (s.launch d n p e f ch status ps).memWf = true := by
  unfold State.launch
  extract_lets ph klass g clip slot newslot taken bound version versioned passed jcb seals step staged sStaged expected sFramed sNoted sStarted
  have hframed : sFramed.memWf = true := State.memWf_writeHome (State.memWf_modStage hs)
  have hnoted : sNoted.memWf = true := by
    dsimp only [sNoted]
    split
    · exact State.memWf_logUE hframed
    · exact hframed
  have hstarted : sStarted.memWf = true := State.memWf_foldl (fun _ _ h => State.memWf_startGang h) hnoted
  split
  · exact State.memWf_msix (State.memWf_addLog hnoted)
  · split
    · exact State.memWf_fetchStash hstarted
    · exact hstarted

theorem State.memWf_launchPlaced {s : State} {d n : Nat} {p : W64} {e : QEntry} {f : Nat} {ch : List Tmpl} {ps : List Placed} (hs : s.memWf = true) :
    (s.launchPlaced d n p e f ch ps).memWf = true := by
  unfold State.launchPlaced
  exact State.memWf_launch hs

theorem State.keeps_tryPolicy {s : State} {d n : Nat} {p : W64} (hs : s.memWf = true) : (s.tryPolicy d n p).Keeps := by
  unfold State.tryPolicy
  dsimp only
  repeat' split
  any_goals trivial
  · exact State.memWf_launchPlaced hs
  · exact State.memWf_freezeAll hs
  · exact State.memWf_launchPlaced (State.memWf_captureAll hs)

theorem State.memWf_walkPolicy {s t : State} {d n : Nat} {is : List Nat} {b : Bool} (hs : s.memWf = true)
    (he : s.walkPolicy d n is = some (t, b)) : t.memWf = true := by
  induction is with
  | nil => cases he
  | cons i is ih =>
    have hk : (s.tryPolicy d n (SMap.get 0#64 (s.stage d n).policy i)).Keeps := State.keeps_tryPolicy hs
    unfold State.walkPolicy at he
    split at he
    · exact ih he
    · cases he
    · rename_i hu
      rw [hu] at hk
      cases he
      exact hk
    · rename_i hu
      rw [hu] at hk
      cases he
      exact hk

theorem State.memWf_evalLoop {s : State} {d n k : Nat} (hs : s.memWf = true) : (s.evalLoop d n k).memWf = true := by
  induction k generalizing s with
  | zero => exact hs
  | succ k ih =>
    have hu : ((s.resumeCaptured d n).prefetch d n).memWf = true := State.memWf_prefetch (State.memWf_resumeCaptured hs)
    unfold State.evalLoop
    dsimp only
    split
    · exact hu
    · split
      · exact hu
      · exact ih (State.memWf_walkPolicy hu ‹_›)
      · exact State.memWf_walkPolicy hu ‹_›

theorem State.memWf_captureFrozen {s : State} {d n : Nat} (hs : s.memWf = true) :
    (s.captureFrozen d n).memWf = true := by
  unfold State.captureFrozen
  dsimp only
  split
  · exact hs
  · split
    · exact State.memWf_captureAll hs
    · split
      · exact State.memWf_walkPolicy (State.memWf_captureAll hs) ‹_›
      · exact State.memWf_captureAll hs

theorem State.memWf_logDeps {s : State} {d n : Nat} (hs : s.memWf = true) :
    (s.logDeps d n).memWf = true := by
  unfold State.logDeps
  exact State.memWf_foldl (fun s' a h => State.memWf_logUE h) hs

theorem State.memWf_evaluate {s : State} {d n : Nat} (hs : s.memWf = true) :
    (s.evaluate d n).memWf = true := by
  unfold State.evaluate
  split
  · exact hs
  · split
    · exact State.memWf_resumeCaptured (State.memWf_thaw hs)
    · refine State.memWf_modStage ?_
      split
      · exact hs
      · exact State.memWf_evalLoop (State.memWf_captureFrozen (State.memWf_logDeps hs))

theorem State.memWf_stageEvent {s : State} {d n : Nat} {capture : Option Nat} (hs : s.memWf = true) :
    (s.stageEvent d n capture).memWf = true := by
  unfold State.stageEvent
  split
  · exact State.memWf_evaluate hs
  · split
    · exact hs
    · split
      · exact hs
      · split
        · exact State.memWf_freezeAll hs
        · exact State.memWf_captureAll hs

theorem State.memWf_evalTimer {s : State} {d n : Nat} (hs : s.memWf = true) :
    (s.evalTimer d n).memWf = true := by
  unfold State.evalTimer
  split
  · exact hs
  · exact State.memWf_evaluate hs

theorem State.memWf_ltReached {s : State} {d n : Nat} (hs : s.memWf = true) :
    (s.ltReached d n).memWf = true := by
  unfold State.ltReached
  dsimp only
  split
  · exact State.memWf_evaluate hs
  · exact hs

theorem State.memWf_setDefer {s : State} {d g : Nat} (hs : s.memWf = true) :
    (s.setDefer d g).memWf = true := by
  unfold State.setDefer
  exact State.memWf_foldl (fun s' a h => State.memWf_writeHome h) hs

theorem State.memWf_requestSeals {s : State} {d n f : Nat} {st : Step} (hs : s.memWf = true) :
    (s.requestSeals d n f st).memWf = true := by
  unfold State.requestSeals
  exact State.memWf_foldl (fun s' a h => h) (State.memWf_modStep (State.memWf_foldl (fun s' a h => State.memWf_setDefer h) hs))

theorem State.memWf_finishStep {s : State} {d n f : Nat} {st : Step} (hs : s.memWf = true) :
    (s.finishStep d n f st).memWf = true := by
  unfold State.finishStep
  dsimp only
  split
  · exact hs
  · refine State.memWf_checkEnd ?_
    refine State.memWf_weirSoon ?_
    split
    · exact State.memWf_wakeUp (State.memWf_modStage hs)
    · exact State.memWf_modStage hs

theorem State.memWf_retire {s : State} {d n f : Nat} (hs : s.memWf = true) :
    (s.retire d n f).memWf = true := by
  unfold State.retire
  split
  · exact hs
  · split
    · exact hs
    · split
      · exact State.memWf_stepFaults (State.memWf_logUE hs)
      · split
        · exact hs
        · split
          · split
            · exact State.memWf_finishStep hs
            · exact hs
          · dsimp only
            split
            · split
              · exact State.memWf_finishStep (State.memWf_requestSeals hs)
              · exact State.memWf_requestSeals hs
            · exact State.memWf_requestSeals hs

theorem keeps_execStageEvaluate {die : Nat} {call : StageCall} {s : State} (hs : s.memWf = true) :
    OutcomeKeeps (execStageEvaluate die call s) := by
  unfold execStageEvaluate
  exact State.memWf_stageEvent hs

theorem keeps_execStageEvalTimer {die stage : Nat} {s : State} (hs : s.memWf = true) :
    OutcomeKeeps (execStageEvalTimer die stage s) := by
  unfold execStageEvalTimer
  exact State.memWf_evalTimer hs

theorem keeps_execLaunchTimeReached {die stage : Nat} {s : State} (hs : s.memWf = true) :
    OutcomeKeeps (execLaunchTimeReached die stage s) := by
  unfold execLaunchTimeReached
  exact State.memWf_ltReached hs

theorem keeps_execStepRetire {die stage frame : Nat} {s : State} (hs : s.memWf = true) :
    OutcomeKeeps (execStepRetire die stage frame s) := by
  unfold execStepRetire
  exact State.memWf_retire hs

theorem State.memWf_newLease {s : State} {n base len : Nat} {dead : W64} {ps : List (Nat × Nat)} (hs : s.memWf = true) :
    (s.newLease n base len dead ps).memWf = true := by
  unfold State.newLease
  exact hs

theorem State.memWf_unpin {s : State} {n : Nat} (hs : s.memWf = true) :
    (s.unpin n).memWf = true := by
  unfold State.unpin
  exact hs

theorem State.memWf_releaseLease {s : State} {n : Nat} (hs : s.memWf = true) :
    (s.releaseLease n).1.memWf = true := by
  unfold State.releaseLease
  split
  · exact hs
  · dsimp only
    split
    · exact State.memWf_congr _ _ (State.memWf_unpin (n := n) hs) rfl rfl rfl rfl rfl rfl
    · exact hs

theorem State.memWf_leaseExpires {s : State} {n : Nat} (hs : s.memWf = true) :
    (s.leaseExpires n).memWf = true := by
  unfold State.leaseExpires
  dsimp only
  split
  · exact State.memWf_congr _ _ (State.memWf_unpin (n := n) hs) rfl rfl rfl rfl rfl rfl
  · exact hs

theorem keeps_execLeaseExpiry {lease : Nat} {s : State} (hs : s.memWf = true) :
    OutcomeKeeps (execLeaseExpiry lease s) := by
  unfold execLeaseExpiry
  exact State.memWf_leaseExpires hs

theorem State.memWf_clearEvt {s : State} {v : W32} (hs : s.memWf = true) :
    (s.clearEvt v).memWf = true := by
  unfold State.clearEvt
  exact State.memWf_modThermal hs

theorem State.memWf_writeChan {s : State} {n off size : Nat} {v : W64} (hs : s.memWf = true) :
    (s.writeChan n off size v).memWf = true := by
  unfold State.writeChan
  dsimp only
  split
  · split
    · exact State.memWf_modChan hs
    · exact hs
  · split
    · exact hs
    · split
      · split
        · exact State.memWf_chanEnable hs
        · exact State.memWf_modChan hs
      · split
        · exact State.memWf_chanDisable hs
        · exact hs
  · exact hs

theorem State.memWf_writeStage {s : State} {d n off size : Nat} {v : W64} (hs : s.memWf = true) :
    (s.writeStage d n off size v).memWf = true := by
  unfold State.writeStage
  dsimp only
  split
  · split
    · exact hs
    · split
      · exact State.memWf_stageEnable hs
      · exact State.memWf_stageDisable hs
  · split
    · exact hs
    · exact State.memWf_evalSoon (State.memWf_modStage hs)

theorem State.memWf_writeEddy {s : State} {d off size : Nat} {v : W64} (hs : s.memWf = true) :
    (s.writeEddy d off size v).memWf = true := by
  unfold State.writeEddy
  dsimp only
  split
  · exact hs
  · exact State.memWf_modDie _ _ _ hs (fun x h => h)

theorem State.memWf_fqTake {s t : State} {d n : Nat} {e : FqEntry} (hs : s.memWf = true) (he : s.fqTake d n = some (e, t)) :
    t.memWf = true := by
  unfold State.fqTake at he
  dsimp only at he
  split at he <;> cases he
  exact State.memWf_modDie _ _ _ hs fun _ hx => hx

theorem State.memWf_modSuspended {s : State} {cl u : Nat} {f : ROp → State} (hs : s.memWf = true) (hf : ∀ o, (f o).memWf = true) :
    (s.modSuspended cl u f).memWf = true := by
  unfold State.modSuspended
  split
  · split
    · exact hf _
    · exact hs
  · exact hs

theorem State.memWf_fqResume {s : State} {d n : Nat} (hs : s.memWf = true) :
    (s.fqResume d n).memWf = true := by
  unfold State.fqResume
  split
  · exact hs
  · rename_i e t htake
    have ht : t.memWf = true := State.memWf_fqTake hs htake
    dsimp only
    refine State.memWf_fqDrain ?_
    split
    · exact State.memWf_modSuspended ht (fun o => State.memWf_modHead ht)
    · exact State.memWf_modChan ht
    · exact State.memWf_oxStart (State.memWf_modColl ht)
    · exact ht
    · split
      · exact State.memWf_modJob ht
      · exact ht

theorem State.memWf_fqAbandon {s : State} {d n : Nat} (hs : s.memWf = true) :
    (s.fqAbandon d n).memWf = true := by
  unfold State.fqAbandon
  split
  · exact hs
  · rename_i e t htake
    have ht : t.memWf = true := State.memWf_fqTake hs htake
    dsimp only
    refine State.memWf_checkEnd ?_
    refine State.memWf_fqDrain ?_
    split
    · exact State.memWf_modSuspended ht (fun o => State.memWf_riffleEnd ht)
    · split
      · split
        · exact State.memWf_parcelLeaves ht
        · exact ht
      · exact ht
    · split
      · split
        · exact State.memWf_oxEnd ht
        · exact ht
      · exact ht
    · exact ht
    · split
      · exact State.memWf_endJob ht
      · exact ht

theorem State.memWf_writeFq {s : State} {d off size : Nat} {v : W64} (hs : s.memWf = true) :
    (s.writeFq d off size v).memWf = true := by
  unfold State.writeFq
  dsimp only
  split
  · split
    · exact State.memWf_fqDrain (State.memWf_modDie _ _ _ hs (fun x h => h))
    · exact hs
  · exact State.memWf_modDie _ _ _ hs (fun x h => h)
  · split
    · exact State.memWf_fqResume hs
    · exact State.memWf_fqAbandon hs
    · exact hs
  · exact hs

theorem State.memWf_tlbinvAll {s : State} (hs : s.memWf = true) :
    (s.tlbinvAll).memWf = true := by
  unfold State.tlbinvAll
  exact State.memWf_dropTlb hs

theorem State.memWf_tlbinvPage {s : State} {vpn : BitVec 32} (hs : s.memWf = true) :
    (s.tlbinvPage vpn).memWf = true := by
  unfold State.tlbinvPage
  exact State.memWf_dropTlb hs

theorem State.memWf_writeTlbinv {s : State} {off size : Nat} {v : W64} (hs : s.memWf = true) :
    (s.writeTlbinv off size v).memWf = true := by
  unfold State.writeTlbinv
  dsimp only
  split
  · exact State.memWf_tlbinvAll hs
  · exact State.memWf_tlbinvPage hs

theorem State.memWf_mmioWrite {s : State} {off size : Nat} {v : W64} (hs : s.memWf = true) :
    (s.mmioWrite off size v).memWf = true := by
  unfold State.mmioWrite
  dsimp only
  split
  · exact hs
  · split
    · split
      · exact State.memWf_clearEvt hs
      · exact hs
    · split
      · exact State.memWf_writeChan hs
      · exact hs
    · split
      · exact State.memWf_writeStage hs
      · exact hs
    · split
      · exact State.memWf_writeEddy hs
      · exact hs
    · split
      · exact State.memWf_writeFq hs
      · split
        · exact State.memWf_writeTlbinv hs
        · exact hs
    · exact hs

theorem State.memWf_releaseStarts {s : State} (hs : s.memWf = true) :
    (s.releaseStarts).memWf = true := by
  unfold State.releaseStarts
  split
  · exact hs
  · exact hs

theorem State.memWf_complete {s : State} {status : Nat} {rets : List W64} (hs : s.memWf = true) :
    (s.complete status rets).memWf = true := by
  unfold State.complete
  split
  · exact hs
  · exact State.memWf_releaseStarts (State.memWf_msix hs)

theorem State.memWf_serveUnknown {s : State} (hs : s.memWf = true) :
    (s.serveUnknown).memWf = true := by
  unfold State.serveUnknown
  split
  · split
    · exact hs
    · exact State.memWf_complete hs
  · exact hs

theorem State.memWf_nextTurn {s : State} (hs : s.memWf = true) :
    (s.nextTurn).memWf = true := by
  unfold State.nextTurn
  exact State.memWf_serveUnknown (State.memWf_releaseStarts hs)

theorem State.memWf_submit {s : State} {v : W32} (hs : s.memWf = true) :
    (s.submit v).memWf = true := by
  unfold State.submit
  dsimp only
  split
  · exact State.memWf_wakeUp hs
  · split
    · exact State.memWf_msix (State.memWf_wakeUp hs)
    · exact State.memWf_serveUnknown (State.memWf_wakeUp hs)

theorem State.memWf_writeTbctl {s : State} {v : W32} (hs : s.memWf = true) :
    (s.writeTbctl v).memWf = true := by
  unfold State.writeTbctl
  exact hs

theorem State.memWf_bar0Put {s : State} {off : Nat} {v : W32} (hs : s.memWf = true) :
    (s.bar0Put off v).memWf = true := by
  unfold State.bar0Put
  split
  · exact hs
  · split
    · exact State.memWf_submit hs
    · exact State.memWf_clearEvt hs
    · exact State.memWf_writeTbctl hs
    · exact hs

theorem State.memWf_bar0Write {s : State} {off size : Nat} {v : W64} (hs : s.memWf = true) :
    (s.bar0Write off size v).memWf = true := by
  unfold State.bar0Write
  split
  · exact hs
  · dsimp only
    split
    · exact State.memWf_bar0Put (State.memWf_bar0Put hs)
    · exact State.memWf_bar0Put hs

theorem keeps_execRegisterWrite {reg : RegAddr} {size : Nat} {value : W64} {s : State} (hs : s.memWf = true) :
    OutcomeKeeps (execRegisterWrite reg size value s) := by
  unfold execRegisterWrite
  split
  · exact State.memWf_mmioWrite hs
  · split
    · exact hs
    · exact State.memWf_bar0Write hs

theorem keeps_execThevtWrite {value : W32} {s : State} (hs : s.memWf = true) :
    OutcomeKeeps (execThevtWrite value s) := by
  unfold execThevtWrite
  exact State.memWf_clearEvt hs

theorem keeps_execFqResume {die entry : Nat} {s : State} (hs : s.memWf = true) :
    OutcomeKeeps (execFqResume die entry s) := by
  unfold execFqResume
  exact State.memWf_fqResume hs

theorem keeps_execFqAbandon {die entry : Nat} {s : State} (hs : s.memWf = true) :
    OutcomeKeeps (execFqAbandon die entry s) := by
  unfold execFqAbandon
  exact State.memWf_fqAbandon hs

theorem keeps_execTlbinvAll {s : State} (hs : s.memWf = true) :
    OutcomeKeeps (execTlbinvAll s) := by
  unfold execTlbinvAll
  exact State.memWf_tlbinvAll hs

theorem keeps_execTlbinvPage {vpn : BitVec 32} {s : State} (hs : s.memWf = true) :
    OutcomeKeeps (execTlbinvPage vpn s) := by
  unfold execTlbinvPage
  exact State.memWf_tlbinvPage hs

theorem State.memWf_placement {s : State} {id : Nat} (hs : s.memWf = true) :
    (s.placement id).memWf = true := by
  unfold State.placement
  split
  · exact hs
  · split
    · exact hs
    · exact State.memWf_pruneWrites (State.memWf_placeWrite _ _ hs)

theorem State.memWf_remoteApply {s : State} {id d : Nat} (hs : s.memWf = true) :
    (s.remoteApply id d).memWf = true := by
  unfold State.remoteApply
  split
  · exact hs
  · split
    · exact hs
    · exact State.memWf_pruneWrites (State.memWf_oxStart (State.memWf_oxStart (State.memWf_settleWaits (State.memWf_modDie _ _ _ (State.memWf_applyAt _ _ _ hs) (fun x h => h)))))

theorem State.memWf_atomElem {s : State} {d : Nat} {k : AtomKind} {x : W64} {e : Elem} (hs : s.memWf = true) :
    (s.atomElem d k x e).1.memWf = true := by
  unfold State.atomElem
  split
  · split
    · exact State.memWf_writePhys _ _ _ _ hs
    · exact State.memWf_placeWrite _ _ (State.memWf_touchElem (State.memWf_settle hs))
  · exact State.memWf_writeLoc _ _ _ _ hs

theorem State.memWf_atomElems {s : State} {d : Nat} {k : AtomKind} {x : W64} {pick : Nat → Bool} {i : Nat} {es : List Elem}
    (hs : s.memWf = true) : (s.atomElems d k x pick i es).1.memWf = true := by
  induction es generalizing s i with
  | nil => exact hs
  | cons e es ih =>
    unfold State.atomElems
    dsimp only
    refine ih ?_
    split
    · exact State.memWf_atomElem hs
    · exact hs

theorem State.memWf_countSram {s : State} {ecc : SramEcc} (hs : s.memWf = true) :
    (s.countSram ecc).memWf = true := by
  unfold State.countSram
  split
  · exact State.memWf_countCE hs
  · exact hs

theorem State.memWf_atomicHome {s : State} {id : Nat} {lanes : List Nat} (hs : s.memWf = true) :
    (s.atomicHome id lanes).memWf = true := by
  unfold State.atomicHome
  split
  · exact hs
  · split
    · dsimp only
      split
      · exact hs
      · exact State.memWf_atomElems hs
    · exact hs

theorem State.memWf_applyAtomic {s : State} {d : Nat} {e : Elem} (hs : s.memWf = true) :
    (s.applyAtomic d e).memWf = true := by
  unfold State.applyAtomic
  split
  · exact hs
  · exact State.memWf_applyPlaced hs

theorem State.memWf_accessFails {s : State} {id : Nat} {a : Access} {pa : Nat} (hs : s.memWf = true) :
    (s.accessFails id a pa).memWf = true := by
  unfold State.accessFails
  exact State.memWf_dropHostLines (State.memWf_dropAccess (State.memWf_modCtx _ _ _ (State.memWf_logUE hs)))

theorem State.memWf_finishAccess {s : State} {id : Nat} {a : Access} (hs : s.memWf = true) :
    (s.finishAccess id a).memWf = true := by
  unfold State.finishAccess
  exact State.memWf_pruneWrites (State.memWf_dropAccess (State.memWf_writeDest hs))

theorem State.memWf_hostSync {s : State} {d : Nat} (hs : s.memWf = true) :
    (s.hostSync d).1.memWf = true := by
  unfold State.hostSync
  split
  · exact State.memWf_sendHost hs
  · exact hs

theorem State.memWf_syncStart {s : State} {id scope : Nat} {a : Access} (hs : s.memWf = true) :
    (s.syncStart id scope a).1.memWf = true := by
  unfold State.syncStart
  split
  · exact hs
  · dsimp only
    refine State.memWf_congr _ _ ?_ rfl rfl rfl rfl rfl rfl
    split
    · exact State.memWf_hostSync hs
    · exact hs

theorem State.memWf_touchAccess {s : State} {a : Access} (hs : s.memWf = true) :
    (s.touchAccess a).memWf = true := by
  unfold State.touchAccess
  exact State.memWf_dropHostLines (State.memWf_foldl (fun s' a' h => State.memWf_touchElem h) hs)

theorem State.memWf_completeAccess {s : State} {id : Nat} {lanes : List Nat} {ecc : SramEcc} (hs : s.memWf = true) :
    (s.completeAccess id lanes ecc).memWf = true := by
  unfold State.completeAccess
  split
  · exact hs
  · split
    · exact hs
    · split
      · exact State.memWf_performStore hs
      · exact State.memWf_performStore hs
      · dsimp only
        split
        · exact State.memWf_dropAccess (State.memWf_syncStart hs)
        · exact State.memWf_syncStart hs
      · split
        · exact State.memWf_accessFails hs
        · split
          · exact hs
          · dsimp only
            split
            · exact State.memWf_touchAccess (State.memWf_finishAccess (State.memWf_countSram hs))
            · exact State.memWf_dropHostLines (State.memWf_countSram hs)
      · split
        · exact State.memWf_accessFails hs
        · split
          · exact hs
          · exact State.memWf_finishAccess (State.memWf_foldl (fun s' a h => State.memWf_applyAtomic h) (State.memWf_countSram (State.memWf_atomElems hs)))

theorem State.memWf_drained {s : State} {c : Nat} (hs : s.memWf = true) :
    (s.drained c).memWf = true := by
  unfold State.drained
  split
  · exact hs
  · split
    · exact hs
    · split
      · split
        · exact hs
        · exact State.memWf_soon hs
      · exact hs

theorem State.memWf_hostDone {s : State} {id : Nat} (hs : s.memWf = true) : (s.hostDone id).memWf = true := by
  have hwrites : ∀ (rs : List HostReq) (m : Mem), Memory.wf m = true → Memory.wf (rs.foldl (fun m r => Mem.write m r.addr r.data) m) = true := by
    intro rs
    induction rs with
    | nil => exact fun _ h => h
    | cons r rs ih => exact fun m h => ih _ (Memory.wf_write _ _ _ h)
  unfold State.hostDone
  split
  · exact hs
  · dsimp only
    split
    · exact hs
    · exact State.memWf_dropHostLines (State.memWf_hostMem _ _ hs (hwrites _ _ (State.hostMem_memWf hs)))

theorem keeps_execCoherencePlacement {write : Nat} {s : State} (hs : s.memWf = true) :
    OutcomeKeeps (execCoherencePlacement write s) := by
  unfold execCoherencePlacement
  exact State.memWf_placement hs

theorem keeps_execRemoteWriteApply {write die : Nat} {s : State} (hs : s.memWf = true) :
    OutcomeKeeps (execRemoteWriteApply write die s) := by
  unfold execRemoteWriteApply
  exact State.memWf_remoteApply hs

theorem keeps_execAtomicAtHome {access : Nat} {lanes : List Nat} {s : State} (hs : s.memWf = true) :
    OutcomeKeeps (execAtomicAtHome access lanes s) := by
  unfold execAtomicAtHome
  exact State.memWf_atomicHome hs

theorem keeps_execMemoryAccessComplete {access : Nat} {lanes : List Nat} {ecc : SramEcc} {s : State} (hs : s.memWf = true) :
    OutcomeKeeps (execMemoryAccessComplete access lanes ecc s) := by
  unfold execMemoryAccessComplete
  exact State.memWf_drained (State.memWf_completeAccess hs)

theorem keeps_execHostRequestCompletion {request : Nat} {s : State} (hs : s.memWf = true) :
    OutcomeKeeps (execHostRequestCompletion request s) := by
  unfold execHostRequestCompletion
  exact State.memWf_hostDone hs

theorem keeps_execTlbWalkComplete {cluster page : Nat} {s : State} (hs : s.memWf = true) :
    OutcomeKeeps (execTlbWalkComplete cluster page s) := by
  unfold execTlbWalkComplete
  split
  · exact State.memWf_fillTlb hs
  · exact hs

theorem keeps_execTwaitExpiry {ctx : Nat} {s : State} (hs : s.memWf = true) :
    OutcomeKeeps (execTwaitExpiry ctx s) := by
  unfold execTwaitExpiry
  split
  · split
    · split
      · exact State.memWf_insertReady hs
      · exact hs
    · exact hs
  · exact hs

theorem State.memWf_useCycle {s : State} {n : Nat} (hs : s.memWf = true) :
    (s.useCycle n).memWf = true := by
  unfold State.useCycle
  exact State.memWf_modDram hs

theorem State.keeps_dramAccess {s : State} {n sector : Nat} {write : Bool} {ecc : Ecc} (hs : s.memWf = true) :
    OutcomeKeeps (s.dramAccess n sector write ecc) := by
  unfold State.dramAccess
  dsimp only
  split
  · exact trivial
  · split
    · exact hs
    · split
      · exact hs
      · split
        · exact State.memWf_modDram (State.memWf_useCycle (State.memWf_wakeDram hs))
        · split
          · exact State.memWf_modDram (State.memWf_useCycle (State.memWf_wakeDram hs))
          · exact State.memWf_countCE (State.memWf_modDram (State.memWf_useCycle (State.memWf_wakeDram hs)))
          · exact State.memWf_logUE (State.memWf_modDram (State.memWf_useCycle (State.memWf_wakeDram hs)))

theorem State.memWf_takeRate {s : State} {n : Nat} (hs : s.memWf = true) :
    (s.takeRate n).memWf = true := by
  unfold State.takeRate
  exact State.memWf_modDram hs

theorem State.memWf_refreshDue {s : State} {n : Nat} {due : Bool} (hs : s.memWf = true) :
    (s.refreshDue n due).memWf = true := by
  unfold State.refreshDue
  dsimp only
  split
  · exact hs
  · split
    · exact State.memWf_takeRate hs
    · split
      · split
        · exact State.memWf_useCycle (State.memWf_takeRate hs)
        · split
          · exact State.memWf_takeRate hs
          · exact State.memWf_modDram (State.memWf_useCycle (State.memWf_takeRate hs))
      · split
        · exact State.memWf_modDram (State.memWf_takeRate hs)
        · exact State.memWf_takeRate hs

theorem State.keeps_scrub {s : State} {n sector : Nat} {urgent request : Bool} {ecc : Ecc} (hs : s.memWf = true) :
    OutcomeKeeps (s.scrub n sector urgent request ecc) := by
  have hcycle : (s.useCycle n).memWf = true := State.memWf_useCycle hs
  unfold State.scrub
  dsimp only
  split
  · trivial
  · split
    · exact hs
    · generalize s.useCycle n = u at hcycle ⊢
      split
      · exact State.memWf_congr u _ hcycle rfl rfl rfl rfl rfl rfl
      · exact State.memWf_countCE (State.memWf_congr u _ hcycle rfl rfl rfl rfl rfl rfl)
      · exact State.memWf_logUE (State.memWf_congr u _ hcycle rfl rfl rfl rfl rfl rfl)

theorem State.memWf_powerDown {s : State} {n : Nat} {request : Bool} (hs : s.memWf = true) :
    (s.powerDown n request).memWf = true := by
  unfold State.powerDown
  split
  · exact hs
  · split
    · exact State.memWf_modDram (State.memWf_useCycle hs)
    · exact hs

theorem State.memWf_selfRefresh {s : State} {n : Nat} {request : Bool} (hs : s.memWf = true) :
    (s.selfRefresh n request).memWf = true := by
  unfold State.selfRefresh
  split
  · exact hs
  · split
    · exact State.memWf_modDram (State.memWf_useCycle hs)
    · exact hs

theorem State.memWf_switchTiming {s : State} {n : Nat} (hs : s.memWf = true) :
    (s.switchTiming n).memWf = true := by
  unfold State.switchTiming
  split
  · exact hs
  · exact State.memWf_modDram hs

theorem State.memWf_llcEcc {s : State} {sector : Nat} {ecc : Ecc} (hs : s.memWf = true) :
    (s.llcEcc sector ecc).memWf = true := by
  unfold State.llcEcc
  split
  · exact hs
  · exact State.memWf_countCE hs
  · exact State.memWf_logUE hs

theorem State.keeps_llcAccess {s : State} {sector : Nat} {kind : LlcKind} {ecc : Ecc} (hs : s.memWf = true) :
    OutcomeKeeps (s.llcAccess sector kind ecc) := by
  unfold State.llcAccess
  split
  · exact trivial
  · split
    · exact State.memWf_llcServe (State.memWf_llcEcc hs)
    · exact hs

theorem State.memWf_fillPages {s : State} {d : Nat} {vas : List Nat} (hs : s.memWf = true) :
    (s.fillPages d vas).memWf = true := by
  unfold State.fillPages
  exact State.memWf_foldl (fun s' a h => State.memWf_fillLayout h) hs

theorem State.memWf_handleRequest {s : State} {die handle : Nat} {coord shape : Quad4} {sup write : Bool} {image : List Byte} (hs : s.memWf = true) :
    (s.handleRequest die handle coord shape sup write image).memWf = true := by
  unfold State.handleRequest
  dsimp only
  split
  · exact hs
  · split
    · exact State.memWf_logUE hs
    · split
      · exact hs
      · split
        · split
          · exact hs
          · split
            · exact State.memWf_fillPages (State.memWf_writeImage hs ‹_›)
            · exact hs
        · split
          · exact State.memWf_fillPages hs
          · exact State.memWf_logUE hs
          · exact hs

theorem keeps_execDramReadWrite {channel sector : Nat} {write : Bool} {ecc : Ecc} {s : State} (hs : s.memWf = true) :
    OutcomeKeeps (execDramReadWrite channel sector write ecc s) := by
  unfold execDramReadWrite
  exact State.keeps_dramAccess hs

theorem keeps_execRefresh {channel : Nat} {due : Bool} {s : State} (hs : s.memWf = true) :
    OutcomeKeeps (execRefresh channel due s) := by
  unfold execRefresh
  exact State.memWf_refreshDue hs

theorem keeps_execPatrolScrubAccess {channel sector : Nat} {urgent request : Bool} {ecc : Ecc} {s : State} (hs : s.memWf = true) :
    OutcomeKeeps (execPatrolScrubAccess channel sector urgent request ecc s) := by
  unfold execPatrolScrubAccess
  exact State.keeps_scrub hs

theorem keeps_execPowerDownEntry {channel : Nat} {request : Bool} {s : State} (hs : s.memWf = true) :
    OutcomeKeeps (execPowerDownEntry channel request s) := by
  unfold execPowerDownEntry
  exact State.memWf_powerDown hs

theorem keeps_execSelfRefreshEntry {channel : Nat} {request : Bool} {s : State} (hs : s.memWf = true) :
    OutcomeKeeps (execSelfRefreshEntry channel request s) := by
  unfold execSelfRefreshEntry
  exact State.memWf_selfRefresh hs

theorem keeps_execTimingSetSwitch {channel : Nat} {s : State} (hs : s.memWf = true) :
    OutcomeKeeps (execTimingSetSwitch channel s) := by
  unfold execTimingSetSwitch
  exact State.memWf_switchTiming hs

theorem keeps_execLlcAccess {sector : Nat} {kind : LlcKind} {ecc : Ecc} {s : State} (hs : s.memWf = true) :
    OutcomeKeeps (execLlcAccess sector kind ecc s) := by
  unfold execLlcAccess
  exact State.keeps_llcAccess hs

theorem keeps_execHandleRequest {die handle : Nat} {coord shape : Quad4} {sup write : Bool} {image : List Byte} {s : State} (hs : s.memWf = true) :
    OutcomeKeeps (execHandleRequest die handle coord shape sup write image s) := by
  unfold execHandleRequest
  exact State.memWf_handleRequest hs

theorem State.memWf_stage2 {s : State} {off : Nat} {data : List Byte} (hs : s.memWf = true) :
    (s.stage2 off data).memWf = true := by
  unfold State.stage2
  split
  · exact hs
  · split
    · exact hs
    · exact hs
    · exact State.memWf_unpoison (State.memWf_writeGlobal _ _ _ _ _ (State.memWf_wakeUp hs))

theorem State.memWf_drainWrites {s : State} (hs : s.memWf = true) : s.drainWrites.memWf = true := by
  unfold State.drainWrites
  split
  · exact hs
  · have hplaced := State.memWf_foldl (fun s id h => State.memWf_placeWrite s id h) hs (l := s.writes.map (·.id))
    dsimp only
    exact State.memWf_foldl (l := [0, 1, 2, 3]) (fun s _ h => State.memWf_modDie _ _ _ h fun _ _ => State.home_memWf h) hplaced

theorem State.memWf_firmwareTurn {s : State} (hs : s.memWf = true) :
    (s.firmwareTurn).memWf = true := by
  unfold State.firmwareTurn
  exact State.memWf_foldl (fun s' a h => State.memWf_modDie _ _ _ h (fun x h' => h')) (State.memWf_drainWrites hs)

theorem State.memWf_zeroEverywhere {s : State} {pa n : Nat} (hs : s.memWf = true) : (s.zeroEverywhere pa n).memWf = true :=
  State.memWf_foldl (fun _ _ h => State.memWf_modDie _ _ _ h fun _ hx => Mem.wf_clear _ _ _ hx)
    (State.memWf_home _ _ hs (Mem.wf_clear _ _ _ (State.home_memWf hs)))

theorem State.memWf_unpoisonRange {s : State} {pa n : Nat} (hs : s.memWf = true) :
    (s.unpoisonRange pa n).memWf = true := by
  unfold State.unpoisonRange
  exact hs

theorem State.memWf_putChunk {s : State} {c : Chunk} (hs : s.memWf = true) :
    (s.putChunk c).memWf = true := by
  have hturn : s.firmwareTurn.memWf = true := State.memWf_firmwareTurn hs
  cases c with
  | put pa bs => exact State.memWf_unpoisonRange (State.memWf_writeEverywhere _ _ _ hturn)
  | zero pa n => exact State.memWf_unpoisonRange (State.memWf_zeroEverywhere hturn)

theorem State.memWf_loadImage {s : State} {off len : Nat} (hs : s.memWf = true) :
    (s.loadImage off len).memWf = true := by
  unfold State.loadImage
  dsimp only
  generalize hu : State.dropTlb _ _ = u
  have hu' : u.memWf = true := hu ▸ State.memWf_dropTlb (State.memWf_foldl (fun _ _ h => State.memWf_putChunk h) hs)
  exact State.memWf_congr u _ hu' rfl rfl rfl rfl rfl rfl

theorem State.memWf_stopLoad {s : State} {off len : Nat} (hs : s.memWf = true) :
    (s.stopLoad off len).memWf = true := by
  unfold State.stopLoad
  split
  · exact hs
  · dsimp only
    refine State.memWf_congr _ _ ?_ rfl rfl rfl rfl rfl rfl
    split
    · exact State.memWf_putChunk (State.memWf_foldl (fun s' a h => State.memWf_putChunk h) (State.memWf_draw (State.memWf_draw hs)))
    · exact State.memWf_foldl (fun s' a h => State.memWf_putChunk h) (State.memWf_draw (State.memWf_draw hs))

theorem State.memWf_startVec {s : State} {v : StartVec} (hs : s.memWf = true) : (s.startVec v).memWf = true :=
  State.memWf_insertReady (State.memWf_setCtx (State.memWf_modCore _ _ _ (State.memWf_gangs_append hs rfl) fun _ hx => hx))

theorem State.memWf_beginSession {s : State} {vs : List StartVec} (hs : s.memWf = true) : (s.beginSession vs).memWf = true := by
  have hdies : ∀ (ds : List Nat) (m : SMap Die), m.all (fun d => Memory.wf d.2.view) = true →
      (ds.foldl (fun m d => SMap.modify {} m d Die.beginSession) m).all (fun d => Memory.wf d.2.view) = true := fun ds => by
    induction ds with
    | nil => exact fun _ h => h
    | cons d ds ih =>
      exact fun m h => ih _ (SMap.all_modify {} (fun x : Die => Memory.wf x.view) m d Die.beginSession h rfl fun _ hx => hx)
  exact State.memWf_foldl (fun _ _ h => State.memWf_startVec h)
    (State.memWf_msix (State.memWf_setTherm (State.memWf_dies hs (hdies _ _ (State.dies_memWf hs)))))

theorem State.memWf_start {s : State} {svt : Nat} (hs : s.memWf = true) :
    (s.start svt).2.memWf = true := by
  unfold State.start
  split
  · exact State.memWf_beginSession hs
  · exact hs

theorem State.memWf_setpoint {s : State} {v : Option Nat} (hs : s.memWf = true) :
    (s.setpoint v).memWf = true := by
  unfold State.setpoint
  exact State.memWf_send (State.memWf_modThermal hs)

theorem State.memWf_setPause {s : State} {on : Bool} (hs : s.memWf = true) :
    (s.setPause on).memWf = true := by
  unfold State.setPause
  split
  · exact hs
  · exact State.memWf_send (State.memWf_modThermal hs)

theorem State.memWf_dropDies {s : State} (hs : s.memWf = true) : s.dropDies.memWf = true :=
  (State.memWf_iff _).2 ⟨rfl, ((State.memWf_iff s).1 hs).2.1, rfl, rfl, rfl, rfl⟩

theorem State.memWf_freeCause {s : State} (hs : s.memWf = true) :
    (s.freeCause).2.memWf = true := by
  unfold State.freeCause
  exact State.memWf_draw hs

theorem State.memWf_preemptCommand {s : State} {all : Bool} (hs : s.memWf = true) :
    (s.preemptCommand all).memWf = true := by
  unfold State.preemptCommand
  split
  · refine State.memWf_complete ?_
    split
    · exact State.memWf_stopLoad hs
    · exact hs
  · exact State.memWf_complete hs
  · split
    · exact State.memWf_complete hs
    · exact hs
  · exact hs

theorem State.memWf_toFault {s : State} {cause sensor : Nat} (hs : s.memWf = true) :
    (s.toFault cause sensor).memWf = true := by
  unfold State.toFault
  split
  · exact hs
  · dsimp only
    refine State.memWf_nextTurn ?_
    refine State.memWf_dropDies ?_
    split
    · exact State.memWf_endSession (State.memWf_addLog (State.memWf_modThermal (State.memWf_setTherm hs)))
    · exact State.memWf_addLog (State.memWf_modThermal (State.memWf_setTherm hs))

theorem State.memWf_enterFault {s : State} {cause sensor : Nat} (hs : s.memWf = true) :
    (s.enterFault cause sensor).memWf = true := by
  unfold State.enterFault
  refine State.memWf_toFault ?_
  split
  · exact State.memWf_preemptCommand hs
  · exact hs

theorem State.memWf_toHold {s : State} {cmd : Bool} (hs : s.memWf = true) : (s.toHold cmd).memWf = true := by
  unfold State.toHold
  dsimp only
  generalize hu : State.captureAll _ _ _ = u
  have hu' : u.memWf = true := hu ▸ State.memWf_captureAll (State.memWf_setTherm hs)
  obtain ⟨hhome, hhost, hdies, hcores, hclusters, hgangs⟩ := (State.memWf_iff u).1 hu'
  generalize hv : List.foldl State.portGoesDown _ _ = v
  have hv' : v.memWf = true := by
    refine hv ▸ State.memWf_foldl (fun _ _ h => State.memWf_portGoesDown h) ?_
    exact (State.memWf_iff _).2 ⟨hhome, hhost, SMap.all_mapVals (p := fun d : Die => Memory.wf d.view) hdies fun _ hx => hx, hcores,
      SMap.all_mapVals (p := fun k : Cluster => Memory.wf k.sram) hclusters fun _ hx => hx, hgangs⟩
  exact State.memWf_nextTurn (State.memWf_congr v _ hv' rfl rfl rfl rfl rfl rfl)

theorem State.memWf_enterHold {s : State} {cmd : Bool} (hs : s.memWf = true) :
    (s.enterHold cmd).memWf = true := by
  unfold State.enterHold
  refine State.memWf_toHold ?_
  split
  · exact hs
  · exact State.memWf_preemptCommand hs

theorem State.memWf_resumeJobs {s : State} {d : Nat} (hs : s.memWf = true) :
    (s.resumeJobs d).memWf = true := by
  unfold State.resumeJobs
  exact State.memWf_modDie _ _ _ hs (fun x h => h)

theorem State.memWf_resumeRiffle {s : State} {cl : Nat} (hs : s.memWf = true) :
    (s.resumeRiffle cl).memWf = true := by
  unfold State.resumeRiffle
  refine State.memWf_foldl ?_ hs
  intro s' a h
  split
  · split
    · exact State.memWf_modHead h
    · exact h
  · exact h

theorem State.memWf_exitHold {s : State} (hs : s.memWf = true) : s.exitHold.memWf = true := by
  refine State.memWf_foldl (fun _ _ h => State.memWf_foldl (fun _ _ h => State.memWf_resumeCaptured h) h) ?_
  refine State.memWf_foldl (fun _ _ h => State.memWf_resumeGang h) ?_
  refine State.memWf_gangs_mapWhere ?_ fun _ hg => hg
  refine State.memWf_foldl (fun _ _ h => State.memWf_resumeRiffle h) ?_
  refine State.memWf_foldl (fun _ _ h => State.memWf_resumeJobs h) ?_
  refine State.memWf_foldl (fun _ _ h => State.memWf_portComesUp h) ?_
  exact State.memWf_congr _ _ (State.memWf_setTherm hs) rfl rfl rfl rfl rfl rfl

theorem State.memWf_rounded {s : State} {num : Int} {den : Nat} (hs : s.memWf = true) :
    (s.rounded num den).2.memWf = true := by
  unfold State.rounded
  split
  · exact hs
  · exact State.memWf_draw hs

theorem State.memWf_meanOf {s : State} {l : List Nat} (hs : s.memWf = true) :
    (s.meanOf l).2.memWf = true := by
  unfold State.meanOf
  split
  · exact State.memWf_draw hs
  · exact State.memWf_rounded hs

theorem State.memWf_tjOf {s : State} {l : List Reading} (hs : s.memWf = true) : (s.tjOf l).2.memWf = true := by
  unfold State.tjOf
  split
  · exact hs
  · exact State.memWf_draw hs

theorem State.memWf_takeReadings {s : State} {junction substrate : List Reading} (hs : s.memWf = true) :
    (s.takeReadings junction substrate).memWf = true := by
  unfold State.takeReadings
  exact State.memWf_modThermal (State.memWf_meanOf (State.memWf_tjOf hs))

theorem State.memWf_stepRefresh {s : State} (hs : s.memWf = true) :
    (s.stepRefresh).memWf = true := by
  unfold State.stepRefresh
  split
  · split
    · exact State.memWf_modThermal hs
    · exact hs
  · exact hs

theorem State.memWf_thermalSample {s : State} {junction substrate : List Reading} (hs : s.memWf = true) :
    (s.thermalSample junction substrate).memWf = true := by
  unfold State.thermalSample
  split
  · exact hs
  · dsimp only
    split
    · refine State.memWf_enterFault ?_
      split
      · split
        · exact State.memWf_setpoint (State.memWf_setTherm (State.memWf_setEvt (State.memWf_stepRefresh (State.memWf_takeReadings hs))))
        · exact State.memWf_setEvt (State.memWf_stepRefresh (State.memWf_takeReadings hs))
      · split
        · exact State.memWf_setpoint (State.memWf_setTherm (State.memWf_stepRefresh (State.memWf_takeReadings hs)))
        · exact State.memWf_stepRefresh (State.memWf_takeReadings hs)
    · refine State.memWf_nextTurn ?_
      split
      · split
        · exact State.memWf_setpoint (State.memWf_setTherm (State.memWf_setEvt (State.memWf_stepRefresh (State.memWf_takeReadings hs))))
        · exact State.memWf_setEvt (State.memWf_stepRefresh (State.memWf_takeReadings hs))
      · split
        · exact State.memWf_setpoint (State.memWf_setTherm (State.memWf_stepRefresh (State.memWf_takeReadings hs)))
        · exact State.memWf_stepRefresh (State.memWf_takeReadings hs)

theorem State.memWf_moveBand {s : State} {b : Band} (hs : s.memWf = true) :
    (s.moveBand b).memWf = true := by
  unfold State.moveBand
  exact State.memWf_setEvt (State.memWf_modThermal hs)

theorem State.memWf_applyBand {s : State} (hs : s.memWf = true) :
    (s.applyBand).memWf = true := by
  unfold State.applyBand
  exact State.memWf_modThermal hs

theorem State.memWf_applyDue {s : State} (hs : s.memWf = true) :
    (s.applyDue).memWf = true := by
  unfold State.applyDue
  split
  · split
    · exact State.memWf_modThermal hs
    · exact hs
  · exact hs

theorem State.memWf_enterColdReady {s : State} (hs : s.memWf = true) :
    (s.enterColdReady).memWf = true := by
  unfold State.enterColdReady
  exact State.memWf_modThermal (State.memWf_setTherm (State.memWf_dropDies hs))

theorem State.memWf_warmFault {s : State} (hs : s.memWf = true) :
    (s.warmFault).memWf = true := by
  unfold State.warmFault
  split
  · exact State.memWf_toFault hs
  · exact State.memWf_enterFault hs

theorem State.memWf_bandAction {s : State} (hs : s.memWf = true) :
    (s.bandAction).memWf = true := by
  unfold State.bandAction
  dsimp only
  split
  · split
    · exact State.memWf_enterColdReady hs
    · exact hs
  · split
    · exact State.memWf_warmFault hs
    · split
      · exact State.memWf_exitHold hs
      · exact hs
  · split
    · exact State.memWf_warmFault hs
    · split
      · exact State.memWf_enterHold hs
      · exact State.memWf_applyBand hs
  · split
    · exact State.memWf_warmFault hs
    · split
      · exact State.memWf_enterHold hs
      · split
        · exact State.memWf_applyBand (State.memWf_setTherm hs)
        · exact State.memWf_applyBand hs
  · split
    · exact State.memWf_warmFault hs
    · split
      · exact State.memWf_enterHold hs
      · split
        · exact State.memWf_applyBand (State.memWf_setTherm hs)
        · exact State.memWf_applyBand hs
  · exact hs

theorem State.memWf_bandDecision {s : State} (hs : s.memWf = true) :
    (s.bandDecision).memWf = true := by
  unfold State.bandDecision
  split
  · exact hs
  · split
    · split
      · exact State.memWf_enterColdReady hs
      · exact hs
    · split
      · exact State.memWf_nextTurn (State.memWf_bandAction (State.memWf_moveBand hs))
      · exact hs

theorem State.memWf_switchClock {s : State} (hs : s.memWf = true) :
    (s.switchClock).memWf = true := by
  unfold State.switchClock
  split
  · split
    · exact State.memWf_nextTurn (State.memWf_modThermal hs)
    · exact hs
  · exact hs

theorem State.memWf_coldExpiry {s : State} (hs : s.memWf = true) :
    (s.coldExpiry).memWf = true := by
  unfold State.coldExpiry
  split
  · split
    · exact State.memWf_modThermal hs
    · exact hs
  · exact hs

theorem State.memWf_measure {s : State} (hs : s.memWf = true) :
    (s.measure).memWf = true := by
  unfold State.measure
  dsimp only
  refine State.memWf_modThermal ?_
  refine State.memWf_rounded ?_
  split
  · exact State.memWf_draw hs
  · exact hs

theorem State.memWf_rateCheck {s : State} (hs : s.memWf = true) :
    (s.rateCheck).memWf = true := by
  unfold State.rateCheck
  split
  · exact hs
  · dsimp only
    split
    · refine State.memWf_enterFault ?_
      refine State.memWf_setPause ?_
      refine State.memWf_modThermal ?_
      split
      · refine State.memWf_setEvt ?_
        split
        · exact State.memWf_setEvt (State.memWf_measure hs)
        · exact State.memWf_measure hs
      · split
        · exact State.memWf_setEvt (State.memWf_measure hs)
        · exact State.memWf_measure hs
    · split
      · refine State.memWf_enterFault ?_
        refine State.memWf_setPause ?_
        refine State.memWf_modThermal ?_
        split
        · refine State.memWf_setEvt ?_
          split
          · exact State.memWf_setEvt (State.memWf_measure hs)
          · exact State.memWf_measure hs
        · split
          · exact State.memWf_setEvt (State.memWf_measure hs)
          · exact State.memWf_measure hs
      · refine State.memWf_setPause ?_
        refine State.memWf_modThermal ?_
        split
        · refine State.memWf_setEvt ?_
          split
          · exact State.memWf_setEvt (State.memWf_measure hs)
          · exact State.memWf_measure hs
        · split
          · exact State.memWf_setEvt (State.memWf_measure hs)
          · exact State.memWf_measure hs

theorem State.memWf_coolantChange {s : State} {level : Bool} (hs : s.memWf = true) :
    (s.coolantChange level).memWf = true := by
  unfold State.coolantChange
  split
  · exact hs
  · dsimp only
    refine State.memWf_nextTurn ?_
    split
    · exact State.memWf_modThermal hs
    · exact State.memWf_setEvt (State.memWf_modThermal hs)

theorem State.memWf_coolantHold {s : State} (hs : s.memWf = true) :
    (s.coolantHold).memWf = true := by
  unfold State.coolantHold
  split
  · exact State.memWf_enterHold hs
  · exact hs

theorem State.memWf_coolantFault {s : State} (hs : s.memWf = true) :
    (s.coolantFault).memWf = true := by
  unfold State.coolantFault
  split
  · exact State.memWf_modThermal (State.memWf_enterFault hs)
  · exact hs

theorem State.memWf_coolantExit {s : State} (hs : s.memWf = true) :
    (s.coolantExit).memWf = true := by
  unfold State.coolantExit
  split
  · exact State.memWf_nextTurn (State.memWf_exitHold hs)
  · exact hs

theorem State.memWf_losePower {s : State} (hs : s.memWf = true) : s.losePower.memWf = true :=
  (State.memWf_iff _).2 ⟨rfl, ((State.memWf_iff s).1 hs).2.1, rfl, rfl, rfl, rfl⟩

theorem State.memWf_applyPower {s : State} {junction substrate : List Reading} (hs : s.memWf = true) :
    (s.applyPower junction substrate).memWf = true := by
  unfold State.applyPower
  split
  · exact hs
  · exact State.memWf_takeReadings (State.memWf_congr _ _ (State.memWf_losePower hs) rfl rfl rfl rfl rfl rfl)

theorem keeps_execThermalSample {junction substrate : List Reading} {s : State} (hs : s.memWf = true) :
    OutcomeKeeps (execThermalSample junction substrate s) := by
  unfold execThermalSample
  exact State.memWf_thermalSample hs

theorem keeps_execCoolantOkChange {level : Bool} {s : State} (hs : s.memWf = true) :
    OutcomeKeeps (execCoolantOkChange level s) := by
  unfold execCoolantOkChange
  exact State.memWf_coolantChange hs

theorem keeps_execPowerLost {s : State} (hs : s.memWf = true) :
    OutcomeKeeps (execPowerLost s) := by
  unfold execPowerLost
  exact State.memWf_losePower hs

theorem keeps_execPowerApplied {junction substrate : List Reading} {s : State} (hs : s.memWf = true) :
    OutcomeKeeps (execPowerApplied junction substrate s) := by
  unfold execPowerApplied
  exact State.memWf_applyPower hs

theorem keeps_execBandDecision {s : State} (hs : s.memWf = true) :
    OutcomeKeeps (execBandDecision s) := by
  unfold execBandDecision
  exact State.memWf_bandDecision hs

theorem keeps_execRateGradientCheck {s : State} (hs : s.memWf = true) :
    OutcomeKeeps (execRateGradientCheck s) := by
  unfold execRateGradientCheck
  exact State.memWf_rateCheck hs

theorem keeps_execCoolantLossHold {s : State} (hs : s.memWf = true) :
    OutcomeKeeps (execCoolantLossHold s) := by
  unfold execCoolantLossHold
  exact State.memWf_coolantHold hs

theorem keeps_execCoolantLossFault {s : State} (hs : s.memWf = true) :
    OutcomeKeeps (execCoolantLossFault s) := by
  unfold execCoolantLossFault
  exact State.memWf_coolantFault hs

theorem keeps_execCoolantRestoredExit {s : State} (hs : s.memWf = true) :
    OutcomeKeeps (execCoolantRestoredExit s) := by
  unfold execCoolantRestoredExit
  exact State.memWf_coolantExit hs

theorem keeps_execSwitchTick {s : State} (hs : s.memWf = true) :
    OutcomeKeeps (execSwitchTick s) := by
  unfold execSwitchTick
  exact State.memWf_switchClock hs

theorem keeps_execColdRefreshExpiry {s : State} (hs : s.memWf = true) :
    OutcomeKeeps (execColdRefreshExpiry s) := by
  unfold execColdRefreshExpiry
  exact State.memWf_coldExpiry hs

theorem State.memWf_serve {s : State} {op : Nat} {f : (Nat → W64) → State} (hf : ∀ a, (f a).memWf = true) (hs : s.memWf = true) :
    (s.serve op f).memWf = true := by
  unfold State.serve
  split
  · exact hf _
  · exact hs

theorem State.memWf_identify {s : State} (hs : s.memWf = true) :
    (s.identify).memWf = true := by
  unfold State.identify
  exact State.memWf_serve (fun a => State.memWf_complete hs) hs

theorem State.memWf_query {s : State} (hs : s.memWf = true) :
    (s.query).memWf = true := by
  unfold State.query
  exact State.memWf_serve (fun a => State.memWf_complete hs) hs

theorem State.memWf_completeState {s : State} (hs : s.memWf = true) :
    (s.completeState).memWf = true := by
  unfold State.completeState
  exact State.memWf_complete hs

theorem State.memWf_cool {s : State} (hs : s.memWf = true) :
    (s.cool).memWf = true := by
  unfold State.cool
  refine State.memWf_serve ?_ hs
  intro a
  split
  · exact State.memWf_completeState (State.memWf_setpoint (State.memWf_setTherm hs))
  · split
    · exact State.memWf_completeState (State.memWf_exitHold hs)
    · exact State.memWf_complete hs
  · exact State.memWf_complete hs

theorem State.memWf_warm {s : State} (hs : s.memWf = true) :
    (s.warm).memWf = true := by
  unfold State.warm
  refine State.memWf_serve ?_ hs
  intro a
  split
  · exact State.memWf_completeState (State.memWf_setpoint (State.memWf_setTherm hs))
  · exact State.memWf_completeState (State.memWf_setpoint (State.memWf_setTherm hs))
  · exact State.memWf_completeState (State.memWf_setpoint (State.memWf_setTherm (State.memWf_dropDies hs)))
  · dsimp only
    refine State.memWf_completeState ?_
    refine State.memWf_setpoint ?_
    refine State.memWf_setTherm ?_
    refine State.memWf_dropDies ?_
    split
    · exact State.memWf_endSession (State.memWf_freeCause hs)
    · exact hs
  · exact State.memWf_complete hs

theorem State.memWf_holdCommand {s : State} (hs : s.memWf = true) :
    (s.holdCommand).memWf = true := by
  unfold State.holdCommand
  refine State.memWf_serve ?_ hs
  intro a
  split
  · generalize hu : s.enterHold true = u
    have hu' : u.memWf = true := hu ▸ State.memWf_enterHold hs
    dsimp only
    split
    · exact State.memWf_congr u _ hu' rfl rfl rfl rfl rfl rfl
    · exact State.memWf_completeState hu'
  · exact State.memWf_complete hs

theorem State.memWf_writeOutDone {s : State} {gang : Nat} (hs : s.memWf = true) :
    (s.writeOutDone gang).memWf = true := by
  unfold State.writeOutDone
  dsimp only
  split
  · exact State.memWf_writeOut hs
  · split
    · exact State.memWf_completeState (State.memWf_writeOut hs)
    · exact State.memWf_nextTurn (State.memWf_writeOut hs)

theorem State.memWf_stop {s : State} (hs : s.memWf = true) :
    (s.stop).memWf = true := by
  unfold State.stop
  refine State.memWf_serve ?_ hs
  intro a
  split
  · refine State.memWf_complete ?_
    split
    · exact State.memWf_endSession hs
    · exact hs
  · exact State.memWf_complete hs

theorem State.memWf_loadCommand {s : State} (hs : s.memWf = true) :
    (s.loadCommand).memWf = true := by
  unfold State.loadCommand
  refine State.memWf_serve ?_ hs
  intro a
  split
  · exact State.memWf_complete hs
  · dsimp only
    split
    · exact State.memWf_complete (State.memWf_loadImage hs)
    · exact State.memWf_complete hs

theorem State.memWf_verifyCommand {s : State} (hs : s.memWf = true) :
    (s.verifyCommand).memWf = true := by
  unfold State.verifyCommand
  refine State.memWf_serve ?_ hs
  intro a
  dsimp only
  split
  · exact State.memWf_complete hs
  · exact State.memWf_complete hs

theorem State.memWf_startCommand {s : State} (hs : s.memWf = true) :
    (s.startCommand).memWf = true := by
  unfold State.startCommand
  refine State.memWf_serve ?_ hs
  intro a
  split
  · exact State.memWf_complete (State.memWf_of_eq_snd ‹_› (State.memWf_start hs))
  · exact State.memWf_complete (State.memWf_of_eq_snd ‹_› (State.memWf_start hs))

theorem State.memWf_startRegister {s : State} {size : Nat} {v : W64} (hs : s.memWf = true) :
    (s.startRegister size v).memWf = true := by
  unfold State.startRegister
  split
  · exact hs
  · split
    · exact hs
    · dsimp only
      split
      · exact State.memWf_serveUnknown (State.memWf_start (State.memWf_wakeUp hs))
      · split
        · exact State.memWf_wakeUp hs
        · exact State.memWf_start (State.memWf_wakeUp hs)

theorem State.memWf_writeHost {s : State} {addr : Nat} {bs : List Byte} (hs : s.memWf = true) : (s.writeHost addr bs).memWf = true :=
  State.memWf_hostMem _ _ hs (Memory.wf_write _ _ _ (State.hostMem_memWf hs))

theorem State.memWf_tryHost {s : State} (hs : s.memWf = true) :
    (s.tryHost).2.memWf = true := by
  unfold State.tryHost
  split
  · exact State.memWf_draw hs
  · exact hs

theorem State.memWf_attest {s : State} (hs : s.memWf = true) :
    (s.attest).memWf = true := by
  unfold State.attest
  refine State.memWf_serve ?_ hs
  intro a
  split
  · exact State.memWf_complete hs
  · split
    · exact State.memWf_complete (State.memWf_tryHost hs)
    · exact State.memWf_complete (State.memWf_writeHost (State.memWf_tryHost hs))

theorem State.memWf_readLog {s : State} (hs : s.memWf = true) :
    (s.readLog).memWf = true := by
  unfold State.readLog
  refine State.memWf_serve ?_ hs
  intro a
  dsimp only
  split
  · exact State.memWf_complete hs
  · split
    · exact State.memWf_complete (State.memWf_tryHost hs)
    · exact State.memWf_complete (State.memWf_writeHost (State.memWf_tryHost hs))

theorem State.memWf_resetDie {s : State} {d : Nat} (hs : s.memWf = true) : (s.resetDie d).memWf = true := by
  obtain ⟨hhome, hhost, hdies, hcores, hclusters, hgangs⟩ := (State.memWf_iff s).1 hs
  refine State.memWf_modDie _ _ _ ((State.memWf_iff _).2 ⟨hhome, hhost, hdies, ?_, ?_, hgangs⟩) fun _ hx => hx
  · exact List.all_eq_true.mpr fun k hk => List.all_eq_true.mp hcores k (List.mem_filter.mp hk).1
  · refine SMap.all_mapVals (p := fun k : Cluster => Memory.wf k.sram) ?_ fun _ hx => hx
    refine List.all_map.trans (List.all_eq_true.mpr fun k hk => ?_)
    have hk' := List.all_eq_true.mp hclusters k hk
    dsimp only [Function.comp_apply]
    split <;> exact hk'

theorem State.memWf_resetCommand {s : State} (hs : s.memWf = true) :
    (s.resetCommand).memWf = true := by
  unfold State.resetCommand
  refine State.memWf_serve ?_ hs
  intro a
  split
  · exact State.memWf_complete hs
  · split
    · exact State.memWf_complete hs
    · exact State.memWf_complete (State.memWf_resetDie hs)

theorem State.memWf_wakeEvent {s : State} (hs : s.memWf = true) :
    (s.wakeEvent).memWf = true := by
  unfold State.wakeEvent
  exact State.memWf_wakeUp hs

theorem State.memWf_setLattol {s : State} (hs : s.memWf = true) :
    (s.setLattol).memWf = true := by
  unfold State.setLattol
  refine State.memWf_serve ?_ hs
  intro a
  split
  · exact State.memWf_complete hs
  · dsimp only
    refine State.memWf_complete ?_
    split
    · exact State.memWf_wakeUp hs
    · exact hs

theorem State.memWf_noteBusy {s : State} {t : Nat} (hs : s.memWf = true) :
    (s.noteBusy t).memWf = true := by
  unfold State.noteBusy
  split
  · exact hs
  · exact hs

theorem State.memWf_tick {s : State} {dt : Nat} (hs : s.memWf = true) :
    (s.tick dt).memWf = true := by
  unfold State.tick
  split
  · exact hs
  · exact State.memWf_applyDue (State.memWf_noteBusy hs)

theorem State.memWf_decideActivity {s : State} (hs : s.memWf = true) :
    (s.decideActivity).memWf = true := by
  unfold State.decideActivity
  split
  · exact hs
  · dsimp only
    split
    · exact State.memWf_noteBusy hs
    · split
      · exact State.memWf_noteBusy hs
      · split
        · exact State.memWf_noteBusy hs
        · exact State.memWf_noteBusy hs

theorem keeps_execIdentify {s : State} (hs : s.memWf = true) :
    OutcomeKeeps (execIdentify s) := by
  unfold execIdentify
  exact State.memWf_identify hs

theorem keeps_execAttest {s : State} (hs : s.memWf = true) :
    OutcomeKeeps (execAttest s) := by
  unfold execAttest
  exact State.memWf_attest hs

theorem keeps_execCool {s : State} (hs : s.memWf = true) :
    OutcomeKeeps (execCool s) := by
  unfold execCool
  exact State.memWf_cool hs

theorem keeps_execWarm {s : State} (hs : s.memWf = true) :
    OutcomeKeeps (execWarm s) := by
  unfold execWarm
  exact State.memWf_warm hs

theorem keeps_execHold {s : State} (hs : s.memWf = true) :
    OutcomeKeeps (execHold s) := by
  unfold execHold
  exact State.memWf_holdCommand hs

theorem keeps_execLoadImage {s : State} (hs : s.memWf = true) :
    OutcomeKeeps (execLoadImage s) := by
  unfold execLoadImage
  exact State.memWf_loadCommand hs

theorem keeps_execVerifyImage {s : State} (hs : s.memWf = true) :
    OutcomeKeeps (execVerifyImage s) := by
  unfold execVerifyImage
  exact State.memWf_verifyCommand hs

theorem keeps_execStart {s : State} (hs : s.memWf = true) :
    OutcomeKeeps (execStart s) := by
  unfold execStart
  exact State.memWf_startCommand hs

theorem keeps_execStartWrite {size : Nat} {value : W64} {s : State} (hs : s.memWf = true) :
    OutcomeKeeps (execStartWrite size value s) := by
  unfold execStartWrite
  exact State.memWf_startRegister hs

theorem keeps_execStagingWrite {offset : Nat} {data : List Byte} {s : State} (hs : s.memWf = true) :
    OutcomeKeeps (execStagingWrite offset data s) := by
  unfold execStagingWrite
  exact State.memWf_stage2 hs

theorem keeps_execSaveWriteoutComplete {gang : Nat} {s : State} (hs : s.memWf = true) :
    OutcomeKeeps (execSaveWriteoutComplete gang s) := by
  unfold execSaveWriteoutComplete
  exact State.memWf_writeOutDone hs

theorem keeps_execStop {s : State} (hs : s.memWf = true) :
    OutcomeKeeps (execStop s) := by
  unfold execStop
  exact State.memWf_stop hs

theorem keeps_execQuery {s : State} (hs : s.memWf = true) :
    OutcomeKeeps (execQuery s) := by
  unfold execQuery
  exact State.memWf_query hs

theorem keeps_execSetLattol {s : State} (hs : s.memWf = true) :
    OutcomeKeeps (execSetLattol s) := by
  unfold execSetLattol
  exact State.memWf_setLattol hs

theorem keeps_execResetDie {s : State} (hs : s.memWf = true) :
    OutcomeKeeps (execResetDie s) := by
  unfold execResetDie
  exact State.memWf_resetCommand hs

theorem keeps_execReadLog {s : State} (hs : s.memWf = true) :
    OutcomeKeeps (execReadLog s) := by
  unfold execReadLog
  exact State.memWf_readLog hs

theorem keeps_execActivityDecision {s : State} (hs : s.memWf = true) :
    OutcomeKeeps (execActivityDecision s) := by
  unfold execActivityDecision
  exact State.memWf_decideActivity hs

theorem keeps_execWakeEvent {s : State} (hs : s.memWf = true) :
    OutcomeKeeps (execWakeEvent s) := by
  unfold execWakeEvent
  exact State.memWf_wakeEvent hs

theorem State.memWf_fillAll {s : State} {cl : Nat} {rs : List Req} (hs : s.memWf = true) :
    (s.fillAll cl rs).memWf = true := by
  unfold State.fillAll
  refine State.memWf_foldl ?_ hs
  intro s' a h
  split
  · exact State.memWf_fillTlb h
  · exact h

theorem Env.keeps_laccess {e : Env} {k : Ask} {rs : List Req} {cs : List Check} {go : List (Req × Loc) → SlotOut} (hgo : ∀ x0, SlotOut.Keeps (go x0)) :
    SlotOut.Keeps (Env.laccess e k rs cs go) := by
  unfold Env.laccess
  split
  · split
    · exact Env.keeps_priv
    · exact Env.keeps_checked Env.keeps_trap
  · refine Env.keeps_checked ?_
    split
    · exact fun s h => SlotOut.Keeps.of_act (hgo _) ‹_› (State.memWf_fillAll h)
    · exact hgo _

theorem Env.memWf_postStep {e : Env} {f : LGen} {es n : Nat} {s : State} (hs : s.memWf = true) : (e.postStep f es n s).memWf = true := by
  unfold Env.postStep
  split
  · exact State.memWf_addFlight hs
  · exact hs

theorem keeps_evalLd {f : LGen} {e : Env} :
    SlotOut.Keeps (evalLd f e) := by
  unfold evalLd
  dsimp only
  split
  · exact Env.keeps_laccess (fun x0 => fun s h => State.memWf_issueAccess (Env.memWf_postStep h))
  · exact SlotOut.keeps_none

theorem keeps_evalSt {f : LGen} {e : Env} :
    SlotOut.Keeps (evalSt f e) := by
  unfold evalSt
  dsimp only
  split
  · exact Env.keeps_laccess (fun x0 => fun s h => State.memWf_issueAccess (Env.memWf_postStep h))
  · exact SlotOut.keeps_none

theorem Env.keeps_split {e : Env} {f : LGen} {p : Perm} {go : List (Req × Loc) → List (Req × Loc) → SlotOut} (hgo : ∀ x0 x1, SlotOut.Keeps (go x0 x1)) :
    SlotOut.Keeps (Env.split e f p go) := by
  unfold Env.split
  dsimp only
  split
  · split
    · exact Env.keeps_laccess (fun x0 => hgo _ _)
    · exact SlotOut.keeps_none
  · split
    · exact Env.keeps_laccess (fun x0 => hgo _ _)
    · exact SlotOut.keeps_none

theorem Env.memWf_splitStep {e : Env} {f : LGen} {s : State} (hs : s.memWf = true) : (e.splitStep f s).memWf = true :=
  Env.memWf_postStep (Env.memWf_postStep hs)

theorem keeps_evalLdj {f : LGen} {e : Env} :
    SlotOut.Keeps (evalLdj f e) := by
  unfold evalLdj
  exact Env.keeps_split (fun x0 x1 => fun s h => State.memWf_issueAccess (Env.memWf_splitStep h))

theorem keeps_evalStj {f : LGen} {e : Env} :
    SlotOut.Keeps (evalStj f e) := by
  unfold evalStj
  exact Env.keeps_split (fun x0 x1 => fun s h => State.memWf_issueAccess (Env.memWf_splitStep h))

theorem Env.keeps_lanesActive {e : Env} {k : SlotOut} (hk : k.Keeps) :
    SlotOut.Keeps (Env.lanesActive e k) := by
  unfold Env.lanesActive
  split
  · exact SlotOut.keeps_none
  · exact hk

theorem keeps_evalVld {f : LGen} {e : Env} :
    SlotOut.Keeps (evalVld f e) := by
  unfold evalVld
  exact Env.keeps_lanesActive (Env.keeps_laccess (fun x0 => fun s h => State.memWf_issueAccess (Env.memWf_postStep h)))

theorem keeps_evalVst {f : LGen} {e : Env} :
    SlotOut.Keeps (evalVst f e) := by
  unfold evalVst
  exact Env.keeps_lanesActive (Env.keeps_laccess (fun x0 => fun s h => State.memWf_issueAccess (Env.memWf_postStep h)))

theorem keeps_evalVlds {f : LStr} {e : Env} :
    SlotOut.Keeps (evalVlds f e) := by
  unfold evalVlds
  exact Env.keeps_lanesActive (Env.keeps_laccess (fun x0 => fun s h => State.memWf_issueAccess h))

theorem keeps_evalVsts {f : LStr} {e : Env} :
    SlotOut.Keeps (evalVsts f e) := by
  unfold evalVsts
  exact Env.keeps_lanesActive (Env.keeps_laccess (fun x0 => Env.keeps_clean (fun s h => State.memWf_issueAccess h)))

theorem keeps_evalVgth {f : LIdx} {e : Env} :
    SlotOut.Keeps (evalVgth f e) := by
  unfold evalVgth
  exact Env.keeps_lanesActive (Env.keeps_laccess (fun x0 => fun s h => State.memWf_issueAccess h))

theorem keeps_evalVsct {f : LIdx} {e : Env} :
    SlotOut.Keeps (evalVsct f e) := by
  unfold evalVsct
  exact Env.keeps_lanesActive (Env.keeps_laccess (fun x0 => fun s h => State.memWf_issueAccess h))

theorem keeps_evalAtom {f : LAtom} {e : Env} :
    SlotOut.Keeps (evalAtom f e) := by
  unfold evalAtom
  dsimp only
  split
  · exact Env.keeps_laccess (fun x0 => fun s h => State.memWf_issueAccess h)
  · exact SlotOut.keeps_none

theorem keeps_evalLdAcq {f : LAtom} {e : Env} :
    SlotOut.Keeps (evalLdAcq f e) := by
  unfold evalLdAcq
  dsimp only
  split
  · exact Env.keeps_laccess (fun x0 => fun s h => State.memWf_issueAccess h)
  · exact SlotOut.keeps_none

theorem keeps_evalStRel {f : LAtom} {e : Env} :
    SlotOut.Keeps (evalStRel f e) := by
  unfold evalStRel
  dsimp only
  split
  · exact Env.keeps_laccess (fun x0 => fun s h => State.memWf_issueAccess h)
  · exact SlotOut.keeps_none

theorem keeps_evalVatom {f : LVAtom} {e : Env} :
    SlotOut.Keeps (evalVatom f e) := by
  unfold evalVatom
  exact Env.keeps_lanesActive (Env.keeps_laccess (fun x0 => fun s h => State.memWf_issueAccess h))

theorem keeps_evalFence {f : LScope} {e : Env} :
    SlotOut.Keeps (evalFence f e) := by
  unfold evalFence
  dsimp only
  refine Env.keeps_guarded ?_
  intro s h
  dsimp only
  split
  · exact h
  · exact State.memWf_addFence h

theorem keeps_evalSync {f : LScope} {e : Env} :
    SlotOut.Keeps (evalSync f e) := by
  unfold evalSync
  exact Env.keeps_guarded (fun s h => State.memWf_issueAccess h)

theorem Env.keeps_barWrite {e : Env} {f : LBar} {op : BarOp} {lo hi : Nat} {rel : List Nat} :
    SlotOut.Keeps (Env.barWrite e f op lo hi rel) := by
  unfold Env.barWrite
  dsimp only
  split
  · exact Env.keeps_laccess (fun x0 => fun s h => State.memWf_issueAccess h)
  · exact SlotOut.keeps_none

theorem keeps_evalTbinit {f : LBar} {e : Env} :
    SlotOut.Keeps (evalTbinit f e) := by
  unfold evalTbinit
  exact Env.keeps_barWrite

theorem keeps_evalTbarv {f : LBar} {e : Env} :
    SlotOut.Keeps (evalTbarv f e) := by
  unfold evalTbarv
  exact Env.keeps_barWrite

theorem keeps_evalTbexp {f : LBar} {e : Env} :
    SlotOut.Keeps (evalTbexp f e) := by
  unfold evalTbexp
  exact Env.keeps_barWrite

theorem keeps_evalTbwait {f : LBar} {e : Env} :
    SlotOut.Keeps (evalTbwait f e) := by
  unfold evalTbwait
  dsimp only
  split
  · refine Env.keeps_laccess ?_
    intro x0
    split
    · exact SlotOut.keeps_none
    · split
      · exact SlotOut.keeps_none
      · split
        · exact Env.keeps_trap
        · exact fun s h => h
  · exact SlotOut.keeps_none

theorem keeps_evalSpill {f : LSpill} {e : Env} :
    SlotOut.Keeps (evalSpill f e) := by
  unfold evalSpill
  dsimp only
  split
  · exact Env.keeps_laccess (fun x0 => fun s h => State.memWf_issueAccess (State.memWf_modCtx _ _ _ h))
  · exact SlotOut.keeps_none

theorem keeps_evalFill {f : LSpill} {e : Env} :
    SlotOut.Keeps (evalFill f e) := by
  unfold evalFill
  dsimp only
  split
  · exact Env.keeps_laccess (fun x0 => fun s h => State.memWf_issueAccess (State.memWf_modCtx _ _ _ h))
  · exact SlotOut.keeps_none

theorem keeps_evalDadd {f : LDadd} {e : Env} :
    SlotOut.Keeps (evalDadd f e) := by
  unfold evalDadd
  exact Env.keeps_guarded Env.keeps_result

theorem keeps_evalDli {f : LDli} {e : Env} :
    SlotOut.Keeps (evalDli f e) := by
  unfold evalDli
  exact Env.keeps_guarded Env.keeps_result

theorem keeps_evalDcpy {f : LDcpy} {e : Env} :
    SlotOut.Keeps (evalDcpy f e) := by
  unfold evalDcpy
  exact Env.keeps_guarded Env.keeps_result

theorem Env.keeps_timingOnly {e : Env} {token : BitVec 3} {f : State → State} (hf : ∀ s : State, s.memWf = true → (f s).memWf = true) :
    SlotOut.Keeps (Env.timingOnly e token f) := by
  unfold Env.timingOnly
  exact fun s h => State.memWf_issueAccess (hf _ h)

theorem Env.keeps_lineRange {e : Env} {f : LLine} :
    SlotOut.Keeps (Env.lineRange e f) := by
  unfold Env.lineRange
  exact Env.keeps_guarded (Env.keeps_timingOnly (fun s h => h))

theorem keeps_evalL1inv {f : LLine} {e : Env} :
    SlotOut.Keeps (evalL1inv f e) := by
  unfold evalL1inv
  exact Env.keeps_lineRange

theorem keeps_evalL1wb {f : LLine} {e : Env} :
    SlotOut.Keeps (evalL1wb f e) := by
  unfold evalL1wb
  exact Env.keeps_lineRange

theorem keeps_evalPrf {f : LGen} {e : Env} :
    SlotOut.Keeps (evalPrf f e) := by
  unfold evalPrf
  exact Env.keeps_guarded (Env.keeps_timingOnly (fun s h => Env.memWf_postStep h))

theorem Env.keeps_counted {e : Env} {f : EForm} {k : State → State} (hk : ∀ s : State, s.memWf = true → (k s).memWf = true) :
    SlotOut.Keeps (e.counted f k) := hk

theorem Env.keeps_awaitsAll {e : Env} {f : EForm} {ds : List Dest} {k : State → State}
    (hk : ∀ s : State, s.memWf = true → (k s).memWf = true) : SlotOut.Keeps (e.awaitsAll f ds k) :=
  Env.keeps_counted fun _ hs => hk _ (State.memWf_expect hs)

theorem Env.keeps_awaits {e : Env} {f : EForm} {k : State → State} (hk : ∀ s : State, s.memWf = true → (k s).memWf = true) :
    SlotOut.Keeps (e.awaits f k) := Env.keeps_awaitsAll hk

theorem Env.memWf_atOnce {e : Env} {f : EForm} {ws : List (Dest × W64)} {s : State} (hs : s.memWf = true) : (e.atOnce f ws s).memWf = true :=
  State.memWf_addFlight hs

theorem Env.memWf_answer {e : Env} {f : EForm} {v : W64} {s : State} (hs : s.memWf = true) : (e.answer f v s).memWf = true :=
  Env.memWf_atOnce hs

theorem Env.keeps_groupStall {e : Env} {rs : List Req} :
    SlotOut.Keeps (Env.groupStall e rs) := by
  unfold Env.groupStall
  exact trivial

theorem Env.keeps_guardedAt {e : Env} {a : W64} {cs : List Check} {k : SlotOut} (hk : k.Keeps) :
    SlotOut.Keeps (Env.guardedAt e a cs k) := by
  unfold Env.guardedAt
  split
  · exact Env.keeps_priv
  · exact Env.keeps_guarded hk

theorem Env.keeps_wrongSpace {e : Env} {a : W64} :
    SlotOut.Keeps (Env.wrongSpace e a) := by
  unfold Env.wrongSpace
  exact Env.keeps_trap

theorem Env.keeps_operand {e : Env} {a : W64} {n align : Nat} {spaces : List Nat} {k : List Byte → SlotOut} (hk : ∀ x0, SlotOut.Keeps (k x0)) :
    SlotOut.Keeps (Env.operand e a n align spaces k) := by
  unfold Env.operand
  split
  · exact Env.keeps_trap
  · split
    · exact Env.keeps_wrongSpace
    · dsimp only
      split
      · exact Env.keeps_priv
      · split
        · exact Env.keeps_groupStall
        · exact Env.keeps_trap
      · split
        · exact trivial
        · split
          · exact Env.keeps_trap
          · split
            · exact fun s h => SlotOut.Keeps.of_act (hk _) ‹_› (State.memWf_fillAll h)
            · exact hk _

theorem Env.keeps_descriptor {e : Env} {a : W64} {n : Nat} {k : List W64 → SlotOut} (hk : ∀ x0, SlotOut.Keeps (k x0)) :
    SlotOut.Keeps (Env.descriptor e a n k) := by
  unfold Env.descriptor
  exact Env.keeps_operand (fun x0 => hk _)

theorem Env.keeps_object {e : Env} {a : W64} {n : Nat} {spaces : List Nat} {k : Loc → SlotOut} (hk : ∀ x0, SlotOut.Keeps (k x0)) :
    SlotOut.Keeps (Env.object e a n spaces k) := by
  unfold Env.object
  split
  · exact Env.keeps_trap
  · split
    · exact Env.keeps_priv
    · split
      · exact Env.keeps_groupStall
      · exact Env.keeps_trap
    · exact hk _

theorem keeps_evalSljob {f : EForm} {e : Env} :
    SlotOut.Keeps (evalSljob f e) := by
  unfold evalSljob
  dsimp only
  refine Env.keeps_guarded ?_
  split
  · exact Env.keeps_trap
  · refine Env.keeps_operand ?_
    intro x0
    refine Env.keeps_clean ?_
    split
    · exact Env.keeps_trap
    · split
      · exact Env.keeps_trap
      · split
        · exact Env.keeps_awaits (fun s h => Env.memWf_answer h)
        · split
          · exact fun s h => h
          · exact Env.keeps_counted (fun s h => State.memWf_addFlight (State.memWf_issueCard h))

theorem keeps_evalSlstat {f : EForm} {e : Env} :
    SlotOut.Keeps (evalSlstat f e) := by
  unfold evalSlstat
  exact Env.keeps_guarded (Env.keeps_awaits (fun s h => Env.memWf_answer h))

theorem keeps_evalSlkill {f : EForm} {e : Env} :
    SlotOut.Keeps (evalSlkill f e) := by
  unfold evalSlkill
  dsimp only
  refine Env.keeps_guarded ?_
  refine Env.keeps_awaits ?_
  intro s h
  refine Env.memWf_answer ?_
  split
  · exact State.memWf_endJob h
  · exact h

theorem keeps_evalStbind {f : EForm} {e : Env} :
    SlotOut.Keeps (evalStbind f e) := by
  unfold evalStbind
  dsimp only
  refine Env.keeps_guarded ?_
  refine Env.keeps_awaits ?_
  intro s h
  split
  · exact Env.memWf_answer (State.memWf_modCtx _ _ _ h)
  · exact Env.memWf_answer h

theorem keeps_evalRmov {f : EForm} {e : Env} :
    SlotOut.Keeps (evalRmov f e) := by
  unfold evalRmov
  dsimp only
  refine Env.keeps_guarded ?_
  split
  · exact Env.keeps_counted (fun s h => Env.memWf_atOnce (State.memWf_modRiffle h))
  · split
    · exact Env.keeps_trap
    · refine Env.keeps_clean ?_
      split
      · exact Env.keeps_counted (fun s h => Env.memWf_atOnce (State.memWf_trigger h))
      · split
        · exact fun s h => h
        · exact Env.keeps_counted (fun s h => State.memWf_trigger h)

theorem keeps_evalRget {f : EForm} {e : Env} :
    SlotOut.Keeps (evalRget f e) := by
  unfold evalRget
  exact Env.keeps_guarded (Env.keeps_awaits (fun s h => Env.memWf_answer h))

theorem keeps_evalEdstash {f : EForm} {e : Env} :
    SlotOut.Keeps (evalEdstash f e) := by
  unfold evalEdstash
  refine Env.keeps_guardedAt ?_
  refine Env.keeps_descriptor ?_
  intro x0
  split
  · exact Env.keeps_trap
  · refine Env.keeps_clean ?_
    split
    · split
      · exact Env.keeps_awaits (fun s h => Env.memWf_answer (State.memWf_edstash h))
      · exact Env.keeps_counted (fun s h => State.memWf_addFlight (State.memWf_edstash h))
    · exact Env.keeps_awaits (fun s h => Env.memWf_answer h)

theorem Env.keeps_fetch {e : Env} {f : EForm} {a : Option Attach} :
    SlotOut.Keeps (Env.fetch e f a) := by
  unfold Env.fetch
  dsimp only
  split
  · exact Env.keeps_awaits (fun s h => Env.memWf_answer h)
  · refine Env.keeps_counted ?_
    intro s h
    split
    · exact State.memWf_addFlight (State.memWf_edfetch h)
    · exact Env.memWf_answer (State.memWf_expect (State.memWf_edfetch h))

theorem keeps_evalEdfetch {f : EForm} {e : Env} :
    SlotOut.Keeps (evalEdfetch f e) := by
  unfold evalEdfetch
  dsimp only
  refine Env.keeps_guarded ?_
  split
  · exact Env.keeps_object (fun x0 => Env.keeps_fetch)
  · exact Env.keeps_fetch
  · exact Env.keeps_fetch

theorem keeps_evalEdfree {f : EForm} {e : Env} :
    SlotOut.Keeps (evalEdfree f e) := by
  unfold evalEdfree
  dsimp only
  refine Env.keeps_guarded ?_
  split
  · exact Env.keeps_awaits (fun s h => Env.memWf_answer h)
  · exact Env.keeps_awaits (fun s h => State.memWf_edfree h)

theorem keeps_evalEdqry {f : EForm} {e : Env} :
    SlotOut.Keeps (evalEdqry f e) := by
  unfold evalEdqry
  exact Env.keeps_guarded (Env.keeps_awaits (fun s h => Env.memWf_answer h))

theorem keeps_evalChsend {f : EForm} {e : Env} :
    SlotOut.Keeps (evalChsend f e) := by
  unfold evalChsend
  dsimp only
  refine Env.keeps_guardedAt ?_
  refine Env.keeps_descriptor ?_
  intro x0
  refine Env.keeps_clean ?_
  split
  · exact Env.keeps_trap
  · split
    · exact Env.keeps_awaits (fun s h => Env.memWf_answer (State.memWf_dropGrant h))
    · split
      · exact Env.keeps_awaits (fun s h => State.memWf_takeCredit h)
      · exact fun s h => State.memWf_modChan h

theorem keeps_evalChrecv {f : EForm} {e : Env} :
    SlotOut.Keeps (evalChrecv f e) := by
  unfold evalChrecv
  dsimp only
  refine Env.keeps_guarded ?_
  split
  · exact Env.keeps_awaitsAll (fun s h => Env.memWf_atOnce h)
  · split
    · exact Env.keeps_awaitsAll (fun s h => Env.memWf_atOnce h)
    · exact Env.keeps_awaitsAll (fun s h => State.memWf_modChan h)

theorem keeps_evalChrel {f : EForm} {e : Env} : SlotOut.Keeps (evalChrel f e) := by
  unfold evalChrel
  dsimp only
  refine Env.keeps_guarded ?_
  split
  · exact Env.keeps_awaits fun _ h => Env.memWf_answer h
  · refine Env.keeps_awaits fun s h => ?_
    split
    · exact Env.memWf_answer (State.memWf_release h ‹_›)
    · exact Env.memWf_answer h

theorem keeps_evalChwin {f : EForm} {e : Env} :
    SlotOut.Keeps (evalChwin f e) := by
  unfold evalChwin
  exact Env.keeps_guarded (Env.keeps_awaits (fun s h => Env.memWf_answer h))

theorem Env.keeps_collective {e : Env} {f : EForm} {op : Nat} {flag : W64} :
    SlotOut.Keeps (Env.collective e f op flag) := by
  unfold Env.collective
  refine Env.keeps_descriptor ?_
  intro x0
  split
  · exact Env.keeps_trap
  · split
    · exact Env.keeps_awaits (fun s h => Env.memWf_answer h)
    · exact Env.keeps_awaits (fun s h => State.memWf_oxIssue h)

theorem keeps_evalOxred {f : EForm} {e : Env} :
    SlotOut.Keeps (evalOxred f e) := by
  unfold evalOxred
  exact Env.keeps_guardedAt Env.keeps_collective

theorem keeps_evalOxgath {f : EForm} {e : Env} :
    SlotOut.Keeps (evalOxgath f e) := by
  unfold evalOxgath
  exact Env.keeps_guardedAt Env.keeps_collective

theorem keeps_evalWpost {f : EForm} {e : Env} :
    SlotOut.Keeps (evalWpost f e) := by
  unfold evalWpost
  exact Env.keeps_guarded (Env.keeps_object (fun x0 => Env.keeps_awaits (fun s h => State.memWf_modCtx _ _ _ (State.memWf_sendPost h))))

theorem keeps_evalWraise {f : EForm} {e : Env} :
    SlotOut.Keeps (evalWraise f e) := by
  unfold evalWraise
  dsimp only
  refine Env.keeps_guarded ?_
  refine Env.keeps_object ?_
  intro x0
  split
  · exact trivial
  · refine Env.keeps_clean ?_
    split
    · exact Env.keeps_trap
    · exact Env.keeps_awaits (fun s h => Env.memWf_answer (State.memWf_applyRaise h))

theorem keeps_evalWarr {f : EForm} {e : Env} :
    SlotOut.Keeps (evalWarr f e) := by
  unfold evalWarr
  dsimp only
  refine Env.keeps_guarded ?_
  split
  · exact Env.keeps_trap
  · exact Env.keeps_awaits (fun s h => State.memWf_modDie _ _ _ h (fun x h' => h'))

theorem keeps_evalSpawn {f : EForm} {e : Env} :
    SlotOut.Keeps (evalSpawn f e) := by
  unfold evalSpawn
  dsimp only
  refine Env.keeps_guarded ?_
  split
  · exact Env.keeps_trap
  · exact Env.keeps_counted (fun s h => State.memWf_reply (State.memWf_spawn h))

theorem keeps_evalGrd {f : EForm} {e : Env} :
    SlotOut.Keeps (evalGrd f e) := by
  unfold evalGrd
  exact Env.keeps_guarded (Env.keeps_clean (Env.keeps_awaits (fun s h => Env.memWf_answer h)))

theorem keeps_evalGupd {f : EForm} {e : Env} :
    SlotOut.Keeps (evalGupd f e) := by
  unfold evalGupd
  exact Env.keeps_guardedAt (Env.keeps_operand (fun x0 => Env.keeps_clean (Env.keeps_counted (fun s h => h))))

theorem Env.keeps_eSup {e : Env} {cs : List Check} {k : SlotOut} (hk : k.Keeps) :
    SlotOut.Keeps (Env.eSup e cs k) := by
  unfold Env.eSup
  exact Env.keeps_guardedSup hk

theorem keeps_evalGnew {f : EForm} {e : Env} :
    SlotOut.Keeps (evalGnew f e) := by
  unfold evalGnew
  refine Env.keeps_eSup ?_
  refine Env.keeps_awaits ?_
  intro s h
  split
  · exact Env.memWf_answer (State.memWf_of_eq_fst ‹_› (State.memWf_gnew h))
  · exact State.memWf_of_eq_fst ‹_› (State.memWf_gnew h)

theorem Env.keeps_seal {e : Env} {f : EForm} {rescale : Bool} :
    SlotOut.Keeps (Env.seal e f rescale) := by
  unfold Env.seal
  refine Env.keeps_clean ?_
  refine Env.keeps_awaits ?_
  intro s h
  split
  · exact Env.memWf_answer (State.memWf_of_eq_fst ‹_› (State.memWf_requestSeal h))
  · exact State.memWf_of_eq_fst ‹_› (State.memWf_requestSeal h)

theorem keeps_evalGseal {f : EForm} {e : Env} :
    SlotOut.Keeps (evalGseal f e) := by
  unfold evalGseal
  exact Env.keeps_eSup Env.keeps_seal

theorem keeps_evalGrescale {f : EForm} {e : Env} :
    SlotOut.Keeps (evalGrescale f e) := by
  unfold evalGrescale
  exact Env.keeps_guarded Env.keeps_seal

theorem keeps_evalRecset {f : EForm} {e : Env} :
    SlotOut.Keeps (evalRecset f e) := by
  unfold evalRecset
  dsimp only
  refine Env.keeps_eSup ?_
  refine Env.keeps_operand ?_
  intro x0
  refine Env.keeps_clean ?_
  split
  · exact Env.keeps_awaits (fun s h => Env.memWf_answer h)
  · exact Env.keeps_awaits (fun s h => State.memWf_requestRecord h)

theorem keeps_evalLease {f : EForm} {e : Env} :
    SlotOut.Keeps (evalLease f e) := by
  unfold evalLease
  dsimp only
  refine Env.keeps_guarded ?_
  refine Env.keeps_awaits ?_
  intro s h
  split
  · exact Env.memWf_answer h
  · exact Env.memWf_answer (State.memWf_newLease h)

theorem keeps_evalLrel {f : EForm} {e : Env} :
    SlotOut.Keeps (evalLrel f e) := by
  unfold evalLrel
  exact Env.keeps_guarded (Env.keeps_awaits (fun s h => Env.memWf_answer (State.memWf_releaseLease h)))

theorem keeps_evalEli {f : EForm} {e : Env} :
    SlotOut.Keeps (evalEli f e) := by
  unfold evalEli
  exact Env.keeps_guarded Env.keeps_result

theorem keeps_evalEcpy {f : EForm} {e : Env} :
    SlotOut.Keeps (evalEcpy f e) := by
  unfold evalEcpy
  dsimp only
  refine Env.keeps_guarded ?_
  split
  · exact Env.keeps_result
  · exact Env.keeps_result

theorem keeps_evalTwait {f : EForm} {e : Env} :
    SlotOut.Keeps (evalTwait f e) := by
  unfold evalTwait
  dsimp only
  refine Env.keeps_guarded ?_
  split
  · split
    · split
      · exact SlotOut.keeps_none
      · exact fun s h => h
    · split
      · exact SlotOut.keeps_none
      · exact fun s h => h
  · split
    · exact SlotOut.keeps_none
    · exact fun s h => h

theorem keeps_evalInstr {i : Instr} {e : Env} :
    SlotOut.Keeps (evalInstr i e) := by
  unfold evalInstr
  split
  · exact keeps_evalNop
  · exact keeps_evalPrep
  · exact keeps_evalPrepAbsolute
  · exact keeps_evalBrx
  · exact keeps_evalBrxl
  · exact keeps_evalVote
  · exact keeps_evalPtt
  · exact keeps_evalLoop
  · exact keeps_evalLset
  · exact keeps_evalLstr
  · exact keeps_evalWaitk
  · exact keeps_evalBwait
  · exact keeps_evalBarv
  · exact keeps_evalYield
  · exact keeps_evalSetfmt
  · exact keeps_evalSetwin
  · exact keeps_evalTrap
  · exact keeps_evalRft
  · exact keeps_evalDone
  · exact keeps_evalSpin
  · exact keeps_evalAdd
  · exact keeps_evalAddi
  · exact keeps_evalSub
  · exact keeps_evalMul
  · exact keeps_evalMulh
  · exact keeps_evalMulhn
  · exact keeps_evalDiv
  · exact keeps_evalDivn
  · exact keeps_evalRem
  · exact keeps_evalAnd
  · exact keeps_evalAndi
  · exact keeps_evalOr
  · exact keeps_evalOri
  · exact keeps_evalXor
  · exact keeps_evalXori
  · exact keeps_evalAndn
  · exact keeps_evalShl
  · exact keeps_evalShr
  · exact keeps_evalSar
  · exact keeps_evalRot
  · exact keeps_evalClz
  · exact keeps_evalPopc
  · exact keeps_evalMin
  · exact keeps_evalMax
  · exact keeps_evalMinn
  · exact keeps_evalMaxn
  · exact keeps_evalShadd
  · exact keeps_evalExt
  · exact keeps_evalIns
  · exact keeps_evalLi
  · exact keeps_evalLih
  · exact keeps_evalLil
  · exact keeps_evalCmp
  · exact keeps_evalCmpi
  · exact keeps_evalSel
  · exact keeps_evalCpy
  · exact keeps_evalMfs
  · exact keeps_evalMts
  · exact keeps_evalBrxS1
  · exact keeps_evalVadd
  · exact keeps_evalVsub
  · exact keeps_evalVmul
  · exact keeps_evalVfma
  · exact keeps_evalVfms
  · exact keeps_evalVmac
  · exact keeps_evalVmin
  · exact keeps_evalVmax
  · exact keeps_evalVabs
  · exact keeps_evalVneg
  · exact keeps_evalVrcp
  · exact keeps_evalVrsq
  · exact keeps_evalVexp2
  · exact keeps_evalVlog2
  · exact keeps_evalVclass
  · exact keeps_evalVcmp
  · exact keeps_evalVaddi
  · exact keeps_evalVmuli
  · exact keeps_evalVfmai
  · exact keeps_evalVmaci
  · exact keeps_evalViadd
  · exact keeps_evalVisub
  · exact keeps_evalVimul
  · exact keeps_evalVimulh
  · exact keeps_evalVshl
  · exact keeps_evalVshr
  · exact keeps_evalVsar
  · exact keeps_evalVand
  · exact keeps_evalVor
  · exact keeps_evalVxor
  · exact keeps_evalVandn
  · exact keeps_evalVimin
  · exact keeps_evalVimax
  · exact keeps_evalVadds
  · exact keeps_evalVsubs
  · exact keeps_evalVqmuls
  · exact keeps_evalVabsd
  · exact keeps_evalVavg
  · exact keeps_evalVdot4
  · exact keeps_evalVsad
  · exact keeps_evalVicmp
  · exact keeps_evalVcvt
  · exact keeps_evalVqnt
  · exact keeps_evalVdqnt
  · exact keeps_evalVmxs
  · exact keeps_evalVsplit
  · exact keeps_evalVjoin
  · exact keeps_evalVmov
  · exact keeps_evalVbcst
  · exact keeps_evalViota
  · exact keeps_evalVperm
  · exact keeps_evalVshuf
  · exact keeps_evalVslide
  · exact keeps_evalVbext
  · exact keeps_evalVlut
  · exact keeps_evalVlutld
  · exact keeps_evalVunpk12
  · exact keeps_evalVpack12
  · exact keeps_evalVrng
  · exact keeps_evalVred
  · exact keeps_evalVscan
  · exact keeps_evalVcpy
  · exact keeps_evalMcfg
  · exact keeps_evalMzero
  · exact keeps_evalMma
  · exact keeps_evalMmax
  · exact keeps_evalMread
  · exact keeps_evalMwrite
  · exact keeps_evalMjoin
  · exact keeps_evalMstat
  · exact keeps_evalLd
  · exact keeps_evalSt
  · exact keeps_evalVld
  · exact keeps_evalVst
  · exact keeps_evalVlds
  · exact keeps_evalVsts
  · exact keeps_evalVgth
  · exact keeps_evalVsct
  · exact keeps_evalLdj
  · exact keeps_evalStj
  · exact keeps_evalAtom
  · exact keeps_evalLdAcq
  · exact keeps_evalStRel
  · exact keeps_evalVatom
  · exact keeps_evalFence
  · exact keeps_evalSync
  · exact keeps_evalTbinit
  · exact keeps_evalTbarv
  · exact keeps_evalTbexp
  · exact keeps_evalTbwait
  · exact keeps_evalSpill
  · exact keeps_evalFill
  · exact keeps_evalDadd
  · exact keeps_evalDli
  · exact keeps_evalDcpy
  · exact keeps_evalL1inv
  · exact keeps_evalL1wb
  · exact keeps_evalPrf
  · exact keeps_evalSljob
  · exact keeps_evalSlstat
  · exact keeps_evalSlkill
  · exact keeps_evalStbind
  · exact keeps_evalRmov
  · exact keeps_evalRget
  · exact keeps_evalEdstash
  · exact keeps_evalEdfetch
  · exact keeps_evalEdfree
  · exact keeps_evalEdqry
  · exact keeps_evalChsend
  · exact keeps_evalChrecv
  · exact keeps_evalChrel
  · exact keeps_evalChwin
  · exact keeps_evalOxred
  · exact keeps_evalOxgath
  · exact keeps_evalWpost
  · exact keeps_evalWraise
  · exact keeps_evalWarr
  · exact keeps_evalSpawn
  · exact keeps_evalGrd
  · exact keeps_evalGupd
  · exact keeps_evalGnew
  · exact keeps_evalGseal
  · exact keeps_evalGrescale
  · exact keeps_evalRecset
  · exact keeps_evalLease
  · exact keeps_evalLrel
  · exact keeps_evalEli
  · exact keeps_evalEcpy
  · exact keeps_evalTwait
  · exact SlotOut.keeps_none
  · exact SlotOut.keeps_none
  · exact SlotOut.keeps_none
  · exact SlotOut.keeps_none
  · exact SlotOut.keeps_none
  · exact SlotOut.keeps_none
  · exact SlotOut.keeps_none
  · exact SlotOut.keeps_none
  · exact SlotOut.keeps_none
  · exact SlotOut.keeps_none
  · exact SlotOut.keeps_none
  · exact SlotOut.keeps_none
  · exact SlotOut.keeps_none
  · exact SlotOut.keeps_none
  · exact SlotOut.keeps_none
  · exact SlotOut.keeps_none
  · exact SlotOut.keeps_none
  · exact SlotOut.keeps_none
  · exact SlotOut.keeps_none
  · exact SlotOut.keeps_none
  · exact SlotOut.keeps_none
  · exact SlotOut.keeps_none
  · exact SlotOut.keeps_none
  · exact SlotOut.keeps_none
  · exact SlotOut.keeps_none
  · exact SlotOut.keeps_none
  · exact SlotOut.keeps_none
  · exact SlotOut.keeps_none
  · exact SlotOut.keeps_none
  · exact SlotOut.keeps_none
  · exact SlotOut.keeps_none
  · exact SlotOut.keeps_none
  · exact SlotOut.keeps_none
  · exact SlotOut.keeps_none
  · exact SlotOut.keeps_none
  · exact SlotOut.keeps_none
  · exact SlotOut.keeps_none
  · exact SlotOut.keeps_none
  · exact SlotOut.keeps_none
  · exact SlotOut.keeps_none
  · exact SlotOut.keeps_none
  · exact SlotOut.keeps_none
  · exact SlotOut.keeps_none
  · exact SlotOut.keeps_none
  · exact SlotOut.keeps_none
  · exact SlotOut.keeps_none
  · exact SlotOut.keeps_none
  · exact SlotOut.keeps_none
  · exact SlotOut.keeps_none
  · exact SlotOut.keeps_none
  · exact SlotOut.keeps_none
  · exact SlotOut.keeps_none
  · exact SlotOut.keeps_none
  · exact SlotOut.keeps_none
  · exact SlotOut.keeps_none
  · exact SlotOut.keeps_none
  · exact SlotOut.keeps_none
  · exact SlotOut.keeps_none
  · exact SlotOut.keeps_none
  · exact SlotOut.keeps_none
  · exact SlotOut.keeps_none
  · exact SlotOut.keeps_none
  · exact SlotOut.keeps_none
  · exact SlotOut.keeps_none
  · exact SlotOut.keeps_none
  · exact SlotOut.keeps_none
  · exact SlotOut.keeps_none
  · exact SlotOut.keeps_none
  · exact SlotOut.keeps_none
  · exact SlotOut.keeps_none
  · exact SlotOut.keeps_none
  · exact SlotOut.keeps_none
  · exact SlotOut.keeps_none
  · exact SlotOut.keeps_none
  · exact SlotOut.keeps_none
  · exact SlotOut.keeps_none
  · exact SlotOut.keeps_none
  · exact SlotOut.keeps_none
  · exact SlotOut.keeps_none
  · exact SlotOut.keeps_none
  · exact SlotOut.keeps_none
  · exact SlotOut.keeps_none
  · exact SlotOut.keeps_none
  · exact SlotOut.keeps_none
  · exact SlotOut.keeps_none
  · exact SlotOut.keeps_none
  · exact SlotOut.keeps_none
  · exact SlotOut.keeps_none
  · exact SlotOut.keeps_none
  · exact SlotOut.keeps_none
  · exact SlotOut.keeps_none
  · exact SlotOut.keeps_none
  · exact SlotOut.keeps_none
  · exact SlotOut.keeps_none
  · exact SlotOut.keeps_none
  · exact SlotOut.keeps_none
  · exact SlotOut.keeps_none
  · exact SlotOut.keeps_none
  · exact SlotOut.keeps_none
  · exact SlotOut.keeps_none

theorem keeps_answerOf {e : Env} {o : SlotOp} :
    SlotOut.Keeps (answerOf e o) := by
  unfold answerOf
  split
  · exact keeps_evalInstr
  · exact Env.keeps_illegalOp

theorem State.keeps_answers {s : State} {c : Nat} {x : Ctx} {b : Shown} {os : List SlotOp} : ∀ a ∈ s.answers c x b os, SlotOut.Keeps a.2 := by
  intro a ha
  obtain ⟨o, -, rfl⟩ := List.mem_map.mp ha
  exact keeps_answerOf

theorem keeps_waitOf {as : List (SlotOp × SlotOut)} {w : WaitWhy} {f : State → State} (ha : ∀ a ∈ as, SlotOut.Keeps a.2)
    (hw : waitOf as = some (w, f)) {s : State} (hs : s.memWf = true) : (f s).memWf = true := by
  obtain ⟨⟨o, out⟩, hmem, hout⟩ := List.exists_of_findSome?_eq_some hw
  have hk := ha _ hmem
  cases out <;> cases hout
  exact hk s hs

theorem State.memWf_applyAnswers {s : State} {c : Nat} {as : List (SlotOp × SlotOut)} (hs : s.memWf = true)
    (ha : ∀ a ∈ as, SlotOut.Keeps a.2) : (s.applyAnswers c as).memWf = true := by
  induction as generalizing s with
  | nil => exact hs
  | cons a as ih =>
    obtain ⟨o, out⟩ := a
    refine ih ?_ fun a h => ha a (List.mem_cons_of_mem _ h)
    have hout := ha (o, out) List.mem_cons_self
    cases out with
    | act t f =>
      cases t with
      | some k => exact hout _ (State.memWf_modCtx _ _ _ hs)
      | none => exact hout _ hs
    | _ => exact hs

theorem State.memWf_syncNest {s : State} {c : Nat} (hs : s.memWf = true) :
    (s.syncNest c).memWf = true := by
  unfold State.syncNest
  split
  · exact hs
  · split
    · exact hs
    · split
      · exact hs
      · exact State.memWf_modCtx _ _ _ hs

theorem State.memWf_closeCount {s : State} {c n : Nat} (hs : s.memWf = true) :
    (s.closeCount c n).memWf = true := by
  unfold State.closeCount
  exact State.memWf_modCtx _ _ _ (State.memWf_endCount hs)

theorem State.memWf_afterIssue {s : State} {c n left : Nat} {b : Shown} {next : BitVec 48} (hs : s.memWf = true) :
    (s.afterIssue c n left b next).memWf = true := by
  unfold State.afterIssue
  dsimp only
  split
  · exact State.memWf_modCtx _ _ _ (State.memWf_closeCount (State.memWf_modCtx _ _ _ hs))
  · split
    · refine State.memWf_modCtx _ _ _ ?_
      refine State.memWf_closeCount ?_
      split
      · exact State.memWf_modCtx _ _ _ (State.memWf_modCtx _ _ _ hs)
      · exact State.memWf_modCtx _ _ _ hs
    · exact State.memWf_modCtx _ _ _ (State.memWf_closeCount (State.memWf_modCtx _ _ _ hs))

theorem State.memWf_returnTrap {s : State} {c n : Nat} (hs : s.memWf = true) :
    (s.returnTrap c n).memWf = true := by
  unfold State.returnTrap
  exact State.memWf_syncNest (State.memWf_modCtx _ _ _ (State.memWf_landAll (State.memWf_closeCount hs)))

theorem State.memWf_issue {s : State} {c : Nat} {x : Ctx} {b : Shown} {left : Nat} {os : List SlotOp} {as : List (SlotOp × SlotOut)}
    (hs : s.memWf = true) (ha : ∀ a ∈ as, SlotOut.Keeps a.2) : (s.issue c x b left os as).memWf = true := by
  have hanswered := State.memWf_modCtx _ c (fun y => { y with loops := y.loops.issued os }) (State.memWf_applyAnswers (c := c) hs ha)
  unfold State.issue
  dsimp only
  split
  · exact State.memWf_modCtx _ _ _ (State.memWf_closeCount hanswered)
  · split
    · exact State.memWf_returnTrap hanswered
    · split
      · exact State.memWf_insertReady (State.memWf_leaveReady (State.memWf_afterIssue hanswered))
      · exact State.memWf_afterIssue hanswered

theorem State.memWf_raise {s : State} {c : Nat} {x : Ctx} {left : Nat} {t : TrapReq} {due : Bool} (hs : s.memWf = true) :
    (s.raise c x left t due).memWf = true := by
  unfold State.raise
  dsimp only
  refine State.memWf_takeTrap ?_
  split
  · exact State.memWf_logUE hs
  · exact hs

theorem State.memWf_firstShown {s : State} {c : Nat} {x : Ctx} {os : List SlotOp} (hs : s.memWf = true) :
    (s.firstShown c x os).memWf = true := by
  unfold State.firstShown
  dsimp only
  refine State.memWf_foldl ?_ ?_
  · intro s' a h
    split
    · split
      · exact State.memWf_modCtx _ _ _ (State.memWf_barArrive h)
      · exact h
    · split
      · exact State.memWf_modCtx _ _ _ h
      · exact h
    · exact h
  · split
    · exact hs
    · exact State.memWf_modCtx _ _ _ hs

theorem keeps_struck {ecc : IssueEcc} {as : List (SlotOp × SlotOut)} (ha : ∀ a ∈ as, SlotOut.Keeps a.2) :
    ∀ a ∈ struck ecc as, SlotOut.Keeps a.2 := by
  unfold struck
  split
  · intro a hmem
    obtain ⟨b, hb, rfl⟩ := List.mem_map.mp hmem
    split
    · split
      · trivial
      · exact ha b hb
    · exact ha b hb
  · exact ha

theorem State.memWf_present {s : State} {c : Nat} {x : Ctx} {f : Except TrapReq Shown} {reps : Nat} {ecc : IssueEcc} (hs : s.memWf = true) :
    (s.present c x f reps ecc).state.memWf = true := by
  have hanswers : ∀ (u : State) (y : Ctx) (b : Shown) (os : List SlotOp), ∀ a ∈ struck ecc (u.answers c y b os), SlotOut.Keeps a.2 :=
    fun _ _ _ _ => keeps_struck State.keeps_answers
  unfold State.present
  dsimp only
  split
  · exact State.memWf_raise hs
  · split
    · exact State.memWf_raise hs
    · split
      · exact State.memWf_raise hs
      · have hshown : ∀ os, (s.firstShown c x os).memWf = true := fun _ => State.memWf_firstShown hs
        split
        · exact State.memWf_landWhere (hshown _)
        · exact State.memWf_passCounts (hshown _)
        · split
          · exact keeps_waitOf (hanswers _ _ _ _) ‹_› (State.memWf_modCtx _ _ _ (State.memWf_leaveReady (hshown _)))
          · split
            · exact State.memWf_raise hs
            · split
              · exact State.memWf_landWhere (hshown _)
              · exact State.memWf_issue (State.memWf_modCtx _ _ _ (hshown _)) (hanswers _ _ _ _)

theorem State.memWf_spinOnce {s : State} {c : Nat} {x : Ctx} (hs : s.memWf = true) :
    (s.spinOnce c x).memWf = true := by
  unfold State.spinOnce
  exact State.memWf_modCtx _ _ _ (State.memWf_closeCount hs)

theorem State.memWf_skipOne {s : State} {c : Nat} {x : Ctx} (hs : s.memWf = true) :
    (s.skipOne c x).memWf = true := by
  unfold State.skipOne
  split
  · exact State.memWf_modCtx _ _ _ hs
  · exact State.memWf_raise hs

theorem State.memWf_turn {s : State} {c : Nat} {x : Ctx} {ecc : IssueEcc} (hs : s.memWf = true) : (s.turn c x ecc).state.memWf = true := by
  unfold State.turn
  split
  · exact State.memWf_spinOnce hs
  · split
    · exact hs
    · split
      · exact State.memWf_skipOne hs
      · exact State.memWf_present hs

theorem State.memWf_finishDone {s : State} {c : Nat} (hs : s.memWf = true) :
    (s.finishDone c).memWf = true := by
  unfold State.finishDone
  split
  · exact hs
  · split
    · dsimp only
      split
      · exact State.memWf_takeTrap (State.memWf_modCtx _ _ _ (State.memWf_landAll hs))
      · exact State.memWf_checkEnd (State.memWf_leaveGang (State.memWf_landAll hs))
    · exact hs

theorem State.memWf_issueFirst {s : State} {ecc : IssueEcc} {l : List (Nat × Ctx)} (hs : s.memWf = true) : (State.issueFirst ecc l s).memWf = true := by
  induction l generalizing s with
  | nil => exact hs
  | cons cx l ih =>
    obtain ⟨c, x⟩ := cx
    have hturn : (s.turn c x ecc).state.memWf = true := State.memWf_turn hs
    unfold State.issueFirst
    split
    · rename_i hu
      rw [hu] at hturn
      exact hturn
    · rename_i hu
      rw [hu] at hturn
      exact ih hturn

theorem State.memWf_coreCycle {s : State} {core : Nat} {ecc : IssueEcc} (hs : s.memWf = true) :
    (s.coreCycle core ecc).memWf = true := by
  unfold State.coreCycle
  dsimp only
  refine State.memWf_issueFirst ?_
  split
  · exact State.memWf_countCE (State.memWf_foldl (fun s' a h => State.memWf_finishDone h) hs)
  · exact State.memWf_foldl (fun s' a h => State.memWf_finishDone h) hs

theorem keeps_execBundleIssue {turn : IssueTurn} {s : State} (hs : s.memWf = true) :
    OutcomeKeeps (execBundleIssue turn s) := by
  unfold execBundleIssue
  exact State.memWf_coreCycle hs

theorem State.memWf_issueAlone {s : State} {i : Instr} (hs : s.memWf = true) : (s.issueAlone i).memWf = true := by
  unfold State.issueAlone
  split
  · split
    · exact State.memWf_present hs
    · exact hs
  · exact hs

/-- Every instruction keeps the memories: an operation as its bundle issues, an event by its own lemma. -/
theorem keeps_exec {i : Instr} {s : State} (hs : s.memWf = true) : OutcomeKeeps (exec i s) := by
  by_cases h : i.parts.isSome = true
  · rw [exec_slot i s h]
    exact State.memWf_issueAlone hs
  · cases i with
    | thermalSample => exact keeps_execThermalSample hs
    | coolantOkChange => exact keeps_execCoolantOkChange hs
    | registerWrite => exact keeps_execRegisterWrite hs
    | coherencePlacement => exact keeps_execCoherencePlacement hs
    | remoteWriteApply => exact keeps_execRemoteWriteApply hs
    | atomicAtHome => exact keeps_execAtomicAtHome hs
    | memoryAccessComplete => exact keeps_execMemoryAccessComplete hs
    | hostRequestCompletion => exact keeps_execHostRequestCompletion hs
    | gaugeSectorUpdate => exact keeps_execGaugeSectorUpdate hs
    | gaugeSeal => exact keeps_execGaugeSeal hs
    | gaugeRescale => exact keeps_execGaugeRescale hs
    | configFlitReceive => exact keeps_execConfigFlitReceive hs
    | parcelHeaderReceive => exact keeps_execParcelHeaderReceive hs
    | dataFlitReceive => exact keeps_execDataFlitReceive hs
    | parcelDelivery => exact keeps_execParcelDelivery hs
    | creditFlitReceive => exact keeps_execCreditFlitReceive hs
    | timedSendLaunch => exact keeps_execTimedSendLaunch hs
    | channelEnable => exact keeps_execChannelEnable hs
    | channelDisable => exact keeps_execChannelDisable hs
    | oxbowFlitReceive => exact keeps_execOxbowFlitReceive hs
    | collectiveComplete => exact keeps_execCollectiveComplete hs
    | startWrite => exact keeps_execStartWrite hs
    | stagingWrite => exact keeps_execStagingWrite hs
    | stageEnable => exact keeps_execStageEnable hs
    | stageDisable => exact keeps_execStageDisable hs
    | queueArrival => exact keeps_execQueueArrival hs
    | stageEvaluate => exact keeps_execStageEvaluate hs
    | gangResume => exact keeps_execGangResume hs
    | jcbPost => exact keeps_execJcbPost hs
    | successorEvent => exact keeps_execSuccessorEvent hs
    | stepRetire => exact keeps_execStepRetire hs
    | joinHalfArrival => exact keeps_execJoinHalfArrival hs
    | joinTimeout => exact keeps_execJoinTimeout hs
    | sluiceJobStart => exact keeps_execSluiceJobStart hs
    | sluiceUnit => exact keeps_execSluiceUnit hs
    | sluiceJobDone => exact keeps_execSluiceJobDone hs
    | sluiceJobFault => exact keeps_execSluiceJobFault hs
    | fqResume => exact keeps_execFqResume hs
    | fqAbandon => exact keeps_execFqAbandon hs
    | streamVectorArrival => exact keeps_execStreamVectorArrival hs
    | riffleDecode => exact keeps_execRiffleDecode hs
    | riffleEncode => exact keeps_execRiffleEncode hs
    | riffleUnpack12 => exact keeps_execRiffleUnpack12 hs
    | riffleCrc => exact keeps_execRiffleCrc hs
    | riffleExpand3 => exact keeps_execRiffleExpand3 hs
    | riffleFill => exact keeps_execRiffleFill hs
    | riffleChunkWrite => exact keeps_execRiffleChunkWrite hs
    | riffleOpComplete => exact keeps_execRiffleOpComplete hs
    | riffleFault => exact keeps_execRiffleFault hs
    | eddyStoreComplete => exact keeps_execEddyStoreComplete hs
    | eddyRestoreComplete => exact keeps_execEddyRestoreComplete hs
    | eddyJobFailure => exact keeps_execEddyJobFailure hs
    | bundleIssue => exact keeps_execBundleIssue hs
    | tlbWalkComplete => exact keeps_execTlbWalkComplete hs
    | twaitExpiry => exact keeps_execTwaitExpiry hs
    | powerLost => exact keeps_execPowerLost hs
    | bandDecision => exact keeps_execBandDecision hs
    | rateGradientCheck => exact keeps_execRateGradientCheck hs
    | coolantLossHold => exact keeps_execCoolantLossHold hs
    | coolantLossFault => exact keeps_execCoolantLossFault hs
    | coolantRestoredExit => exact keeps_execCoolantRestoredExit hs
    | switchTick => exact keeps_execSwitchTick hs
    | coldRefreshExpiry => exact keeps_execColdRefreshExpiry hs
    | timeFlitSend => exact keeps_execTimeFlitSend hs
    | identify => exact keeps_execIdentify hs
    | attest => exact keeps_execAttest hs
    | cool => exact keeps_execCool hs
    | warm => exact keeps_execWarm hs
    | hold => exact keeps_execHold hs
    | loadImage => exact keeps_execLoadImage hs
    | verifyImage => exact keeps_execVerifyImage hs
    | start => exact keeps_execStart hs
    | stop => exact keeps_execStop hs
    | query => exact keeps_execQuery hs
    | setLattol => exact keeps_execSetLattol hs
    | resetDie => exact keeps_execResetDie hs
    | readLog => exact keeps_execReadLog hs
    | activityDecision => exact keeps_execActivityDecision hs
    | wakeEvent => exact keeps_execWakeEvent hs
    | tlbinvAll => exact keeps_execTlbinvAll hs
    | powerApplied => exact keeps_execPowerApplied hs
    | timingSetSwitch => exact keeps_execTimingSetSwitch hs
    | thevtWrite => exact keeps_execThevtWrite hs
    | dramReadWrite => exact keeps_execDramReadWrite hs
    | refresh => exact keeps_execRefresh hs
    | patrolScrubAccess => exact keeps_execPatrolScrubAccess hs
    | powerDownEntry => exact keeps_execPowerDownEntry hs
    | selfRefreshEntry => exact keeps_execSelfRefreshEntry hs
    | llcAccess => exact keeps_execLlcAccess hs
    | leaseExpiry => exact keeps_execLeaseExpiry hs
    | handleRequest => exact keeps_execHandleRequest hs
    | recordReplicaWrite => exact keeps_execRecordReplicaWrite hs
    | portDown => exact keeps_execPortDown hs
    | portUp => exact keeps_execPortUp hs
    | timeFlitReceive => exact keeps_execTimeFlitReceive hs
    | oxbowFlagWrite => exact keeps_execOxbowFlagWrite hs
    | stageEvalTimer => exact keeps_execStageEvalTimer hs
    | launchTimeReached => exact keeps_execLaunchTimeReached hs
    | saveWriteoutComplete => exact keeps_execSaveWriteoutComplete hs
    | tlbinvPage => exact keeps_execTlbinvPage hs
    | _ => exact absurd rfl h

/-- Settles O60: a step lets its ticks pass and executes one instruction, and both keep the memories. -/
theorem stepKeepsMemories : Obligations.StepKeepsMemories := by
  unfold Obligations.StepKeepsMemories
  intro s t hs hstep
  have hnext : ∀ {i : Instr} {u : State}, u.memWf = true → exec i u = .next t → t.memWf = true := fun {i u} hu he => by
    have hk : OutcomeKeeps (exec i u) := keeps_exec hu
    rw [he] at hk
    exact hk
  unfold step at hstep
  split at hstep
  · exact hnext (State.memWf_tick hs) hstep
  · have hrest : ∀ ts, ({ s with agenda := ts } : State).memWf = true := fun _ => State.memWf_congr s _ hs rfl rfl rfl rfl rfl rfl
    exact hnext (State.memWf_tick (hrest _)) hstep

end Sys2Proof.Machine
end

/-! ## Copies, special registers and transfers (R349, R375 to R378) -/

namespace Sys2Proof.Machine

set_option Elab.async false

theorem getLsbD_eq_decide {w : Nat} (v : BitVec w) (i : Nat) : v.getLsbD i = decide (v.toNat / 2 ^ i % 2 = 1) := by
  rw [← BitVec.testBit_toNat, Nat.testBit_eq_decide_div_mod_eq]

/-- The fields of CPY's immediate: file, lane, broadcast, register (R375). -/
theorem copyFields_of_toNat {imm : BitVec 20} {file lane bc r : Nat} (h : imm.toNat = 65536 * file + 1024 * lane + 512 * bc + r)
    (hlane : lane < 64) (hbc : bc < 2) (hr : r < 512) :
    bits imm 19 16 = file ∧ bits imm 15 10 = lane ∧ imm.getLsbD 9 = decide (bc = 1) ∧ bits imm 8 0 = r := by
  have hlt := imm.isLt
  refine ⟨?_, ?_, ?_, ?_⟩
  · rw [bits_eq]; omega
  · rw [bits_eq]; omega
  · rw [getLsbD_eq_decide, decide_eq_decide]; omega
  · rw [bits_eq]; omega

/-- The scalar register that a file code names, as the list of the six files gives it. -/
theorem fileDest_eq_getD {file : Nat} (r : Nat) (h : file < 6) :
    fileDest file r = [Dest.a r, .b r, .d r, .e r, .m r, .j r].getD file (.a r) := by
  match file, h with
  | 0, _ | 1, _ | 2, _ | 3, _ | 4, _ | 5, _ => rfl

theorem fileSize_eq_getD {file : Nat} (h : file < 6) : fileSize file = [64, 64, 32, 32, 16, 4].getD file 0 := by
  match file, h with
  | 0, _ | 1, _ | 2, _ | 3, _ | 4, _ | 5, _ => rfl

section copies
variable {s : State} {x : Ctx} {f : SImm} (hs : s.Issues x) (hg : x.Guarded f.g)
include hs hg

theorem yields_cpy_scalar {file r : Nat} (hn : NoBad (simmChecks f false true)) (himm : f.imm.toNat = 65536 * file + r) (hfile : file < 6)
    (hr : r < fileSize file) : s.Yields x (.cpy f) 2 (.scalar (fileDest file r) (x.irs1 f)) := by
  have hr512 : r < 512 := by
    match file, hfile with
    | 0, _ | 1, _ | 2, _ | 3, _ | 4, _ | 5, _ => simp only [fileSize] at hr; omega
  obtain ⟨h1, h2, h3, h4⟩ := copyFields_of_toNat (lane := 0) (bc := 0) (by omega) (by omega) (by omega) hr512
  refine completes_of_guarded hs hg (cs := simmChecks f false true ++ [⟨false, 4, f.imm.toNat⟩]) ?_ ?_
  · simp only [noBad_append, noBad_cons, noBad_nil, hn, and_self]
  · simp only [evalInstr_cpy, evalCpy, h1, h2, h3, h4, decide_eq_true (Nat.le_of_lt_succ hfile), decide_eq_false (Nat.not_le_of_lt hr), ↓reduceIte]
    rfl

theorem yields_cpy_vector {file lane bc r : Nat} (hn : NoBad (simmChecks f false true))
    (himm : f.imm.toNat = 65536 * file + 1024 * lane + 512 * bc + r) (hlane : lane < 64) (hbc : bc = 0 ∨ bc = 1 ∧ lane = 0) (hfile : 6 ≤ file)
    (hfile' : file < 8) (hr : r < 512) (hpart : r < partVreg (s.part s.cur)) :
    s.Yields x (.cpy f) 2 (.vector (.vreg (file == 7) r) (Vec.splat ((x.irs1 f).truncate 32)) (if bc = 1 then Mask.all else 1#64 <<< lane)) := by
  obtain ⟨h1, h2, h3, h4⟩ := copyFields_of_toNat himm hlane (by omega) hr
  refine completes_of_guarded hs hg (cs := simmChecks f false true ++ [⟨decide (bc = 1) && lane != 0, 4, f.imm.toNat⟩]) ?_ ?_
  · rcases hbc with rfl | ⟨rfl, rfl⟩
    · simp only [noBad_append, noBad_cons, noBad_nil, hn, Nat.zero_ne_one, decide_false, Bool.false_and, and_self]
    · simp only [noBad_append, noBad_cons, noBad_nil, hn, bne_self_eq_false, Bool.and_false, and_self]
  · have hvreg : (s.envAlone x (.cpy f)).vreg = partVreg (s.part s.cur) := rfl
    simp only [evalInstr_cpy, evalCpy, h1, h2, h3, h4, hvreg, decide_eq_false (Nat.not_le_of_lt hfile), decide_eq_false (Nat.not_lt_of_le (Nat.le_of_lt_succ hfile')),
      decide_eq_false (Nat.not_le_of_lt hpart), Bool.false_or, Bool.false_eq_true, ↓reduceIte, decide_eq_true_eq]
    rfl

end copies

/-- MFS and MTS at a level that may use the register: PRIV does not apply, so the field checks decide. -/
theorem completes_of_specialGuarded {s : State} {x : Ctx} {i : Instr} {f : SImm} {cs : List Check} {tok : Option Nat} {k : State → State}
    (hs : s.Issues x) (hg : x.Guarded f.g) (hsup : specialSup (bits f.imm 11 0) = true → x.sup = true) (hn : NoBad cs)
    (he : evalInstr i (s.envAlone x i) = (s.envAlone x i).specialGuarded f cs (.act tok k))
    (ha : ActsUnder i f.g := by exact ⟨rfl, rfl, rfl⟩) : s.Completes x i tok k := by
  refine completes_of_guarded hs hg hn (he.trans ?_) ha
  have hpriv : (specialSup (bits f.imm 11 0) && !x.sup) = false := by
    rw [Bool.and_eq_false_imp]
    intro h
    rw [hsup h, Bool.not_true]
  simp only [Env.specialGuarded, Env.guarded, State.envAlone_x, hpriv, Bool.false_eq_true, ↓reduceIte]

/-- The value of each special register that is listed (R240, R376). -/
theorem readSpecial_of_listed {e : Env} {n : Nat} {v : W64}
    (h : n = 0x000 ∧ v = e.x.status ∨ n = 0x001 ∧ v = e.x.fmt ∨ n = 0x002 ∧ v = e.x.tcoord.zeroExtend 64 ∨ n = 0x003 ∧ v = e.x.tag.zeroExtend 64 ∨
      n = 0x004 ∧ v = e.s.part e.c ∨ n = 0x005 ∧ v = coreWord e.c ∨ n = 0x006 ∧ v = (e.s.cluster (ctxCluster e.c)).winmode.zeroExtend 64 ∨
      n = 0x007 ∧ v = e.x.ovfptr ∨ n = 0x008 ∧ v = e.x.sptop.zeroExtend 64 ∨ n = 0x009 ∧ v = BitVec.ofNat 64 e.s.time ∨
      n = 0x010 ∧ v = e.s.tvec (ctxDie e.c) ∨ n = 0x011 ∧ v = e.x.tcause ∨ n = 0x012 ∧ v = e.x.traparg ∨ n = 0x013 ∧ v = e.x.tpc ∨
      n = 0x014 ∧ v = e.x.txpc ∨ 0x100 ≤ n ∧ n < 0x200 ∧ v = (SMap.get 0#32 e.x.c (n - 0x100)).zeroExtend 64) :
    e.readSpecial n = v ∧ specialListed n = true := by
  rcases h with ⟨rfl, rfl⟩ | ⟨rfl, rfl⟩ | ⟨rfl, rfl⟩ | ⟨rfl, rfl⟩ | ⟨rfl, rfl⟩ | ⟨rfl, rfl⟩ | ⟨rfl, rfl⟩ | ⟨rfl, rfl⟩ | ⟨rfl, rfl⟩ | ⟨rfl, rfl⟩ |
    ⟨rfl, rfl⟩ | ⟨rfl, rfl⟩ | ⟨rfl, rfl⟩ | ⟨rfl, rfl⟩ | ⟨rfl, rfl⟩ | ⟨hlo, hhi, rfl⟩
  case inr.inr.inr.inr.inr.inr.inr.inr.inr.inr.inr.inr.inr.inr.inr =>
    refine ⟨if_pos hlo, ?_⟩
    rw [specialListed, decide_eq_true hlo, decide_eq_true (Nat.le_of_lt_succ hhi), Bool.and_self, Bool.or_true]
  all_goals exact ⟨rfl, rfl⟩

/-- The special registers that MTS may write (R240, R377). -/
theorem special_of_writable {n : Nat} (h : n = 0x000 ∨ n = 0x007 ∨ n = 0x010 ∨ n = 0x011 ∨ n = 0x013 ∨ 0x100 ≤ n ∧ n < 0x200) :
    specialListed n = true ∧ specialWritable n = true := by
  rcases h with rfl | rfl | rfl | rfl | rfl | ⟨hlo, hhi⟩
  case inr.inr.inr.inr.inr =>
    simp only [specialListed, specialWritable, hlo, Nat.le_of_lt_succ hhi, decide_true, Bool.and_self, Bool.or_true, and_self]
  all_goals exact ⟨rfl, rfl⟩

/-- The checks of MFS and MTS for a register that is there (and, for MTS, may be written). -/
theorem noBad_special {cs : List Check} {imm : BitVec 20} {bad : Bool} (hn : NoBad cs) (himm : imm.toNat < 4096) (hb : bad = false) :
    NoBad (cs ++ [⟨bits imm 19 12 != 0 || bad, 4, imm.toNat⟩]) := by
  have hhi : bits imm 19 12 = 0 := bits_eq_zero_of_div 19 12 (Nat.div_eq_of_lt himm)
  simp only [noBad_append, noBad_cons, noBad_nil, hn, hhi, hb, bne_self_eq_false, Bool.or_self, and_self]

section transfers
variable {s : State} {x : Ctx} (hs : s.Issues x)
include hs

/-- BRX and BRXL alone in their bundle, which has no repetition: a transfer of three more bundles (R349). -/
theorem completes_branch {i : Instr} {f : CForm} {link : Bool} (hg : x.Guarded f.g) (hpd : f.pd = 0#4) (hpe : f.pe = 0#4) (hx : f.x = 0#8)
    (himm : f.imm = 0#20) (he : evalInstr i (s.envAlone x i) = (s.envAlone x i).branch f link)
    (ha : ActsUnder i f.g := by exact ⟨rfl, rfl, rfl⟩) :
    s.Completes x i none fun t => t.modCtx s.cur fun y => { y with br := some ⟨(x.jReg f.j).truncate 48, 4, link⟩ } := by
  refine completes_of_guarded hs hg (cs := cChecks f true false false (f.x != 0#8) (f.imm != 0#20)) ?_ he ha
  simp only [cChecks, noBad_cons, noBad_nil, hpd, hpe, hx, himm, bne_self_eq_false, Bool.not_true, Bool.false_and, Bool.and_false, and_self]

theorem completes_brxS1 {f : SReg} (hg : x.Guarded f.g) (hn : NoBad (sregChecks f false true false)) :
    s.Completes x (.brxS1 f) none fun t => t.modCtx s.cur fun y => { y with br := some ⟨(x.rs1 f).truncate 48, 4, false⟩ } :=
  completes_of_guarded hs hg hn rfl

end transfers

/-- Settles O5: CPY by the file that it names, MFS and MTS by the register's number, and the three transfers of a bundle with no repetition. -/
theorem copiesAndTransfers : Obligations.CopiesAndTransfers := by
  constructor
  · rintro s x f n hs hg rfl
    refine ⟨?_, ?_, ?_⟩
    · rintro hn a rfl
      refine ⟨fun file r himm hfile hr => ?_, fun file r lane himm hfile hfile' hlane hr hpart => ?_, fun file r himm hfile hfile' hr hpart => ?_⟩
      · rw [← fileDest_eq_getD r hfile]
        exact yields_cpy_scalar hs hg hn himm hfile (by rwa [fileSize_eq_getD hfile])
      · exact yields_cpy_vector (bc := 0) hs hg hn (by omega) hlane (.inl rfl) hfile hfile' hr hpart
      · exact yields_cpy_vector (lane := 0) (bc := 1) hs hg hn (by omega) (by omega) (.inr ⟨rfl, rfl⟩) hfile hfile' hr hpart
    · intro hn himm hsup v hv
      have hspec := readSpecial_of_listed (e := s.envAlone x (.mfs f)) hv
      obtain ⟨hread, hlisted⟩ := hspec
      have hcheck := noBad_special (bad := !specialListed (bits f.imm 11 0)) hn himm (by rw [Bool.not_eq_false']; exact hlisted)
      rw [← hread]
      exact completes_of_specialGuarded hs hg hsup hcheck rfl
    · intro hn himm hsup hnum
      have hcheck := noBad_special (bad := !specialListed (bits f.imm 11 0) || !specialWritable (bits f.imm 11 0)) hn himm (by
        obtain ⟨hlisted, hwritable⟩ := special_of_writable hnum
        rw [Bool.or_eq_false_iff, Bool.not_eq_false', Bool.not_eq_false']
        exact ⟨hlisted, hwritable⟩)
      rw [← Bool.or_assoc] at hcheck
      exact completes_of_specialGuarded hs hg hsup hcheck rfl
  · intro s x hs
    exact ⟨fun f hg hpd hpe hx himm => ⟨completes_branch hs hg hpd hpe hx himm rfl, completes_branch hs hg hpd hpe hx himm rfl⟩,
      fun f hg hn => completes_brxS1 hs hg hn⟩

end Sys2Proof.Machine

/-! ## Predicates and loops of the control slot (R348, R353 to R355) -/

namespace Sys2Proof.Machine

set_option Elab.async false

theorem bits_eq_toNat_of_lt {w : Nat} {v : BitVec w} (hi : Nat) (h : v.toNat < 2 ^ (hi + 1)) : bits v hi 0 = v.toNat := by
  rw [bits_from_zero, Nat.mod_eq_of_lt h]

/-- The checks of a control operation that uses only X and IMM, both in range. -/
theorem noBad_cChecks {f : CForm} {j pd pe xBad immBad : Bool} (hj : j = true ∨ f.j = 0#2) (hpd : pd = true ∨ f.pd = 0#4)
    (hpe : pe = true ∨ f.pe = 0#4) (hx : xBad = false) (himm : immBad = false) : NoBad (cChecks f j pd pe xBad immBad) := by
  have hfield {w : Nat} {used : Bool} {v : BitVec w} (h : used = true ∨ v = 0#w) : (!used && v != 0#w) = false := by
    rcases h with rfl | rfl
    · rfl
    · rw [bne_self_eq_false, Bool.and_false]
  simp only [cChecks, noBad_cons, noBad_nil, hfield hj, hfield hpd, hfield hpe, hx, himm, and_self]

theorem four_mul_signExtend (imm : BitVec 20) : 4#64 * imm.signExtend 64 = BitVec.ofInt 64 (4 * imm.toInt) := by
  rw [BitVec.signExtend, BitVec.ofInt_mul]
  rfl

/-- PREP, absolute: the literal pair read as one address (R348). -/
theorem absoluteTarget_eq {lo hi : W32} (h : hi.toNat < 65536) :
    ((hi.extractLsb' 0 16).zeroExtend 32 ++ lo : BitVec 64) = BitVec.ofNat 64 (hi.toNat * 2 ^ 32 + lo.toNat) := by
  apply BitVec.eq_of_toNat_eq
  have hlo := lo.isLt
  simp only [BitVec.toNat_append, BitVec.toNat_setWidth, BitVec.extractLsb'_toNat, BitVec.toNat_ofNat, Nat.shiftRight_zero]
  rw [Nat.shiftLeft_eq, Nat.mul_comm, ← Nat.two_pow_add_eq_or_of_lt hlo]
  omega

theorem getLsbD_foldl_or {P : Nat → Bool} {T : Nat → Mask} (l : List Nat) (m : Mask) (i : Nat) :
    (l.foldl (fun m j => if P j then m ||| T j else m) m).getLsbD i = (m.getLsbD i || l.any fun j => P j && (T j).getLsbD i) := by
  induction l generalizing m with
  | nil => rw [List.foldl_nil, List.any_nil, Bool.or_false]
  | cons j l ih =>
    rw [List.foldl_cons, ih, List.any_cons, ← Bool.or_assoc]
    cases P j
    · rw [if_neg Bool.false_ne_true, Bool.false_and, Bool.or_false]
    · rw [if_pos rfl, BitVec.getLsbD_or, Bool.true_and]

/-- A guard looks up the three predicate bits of each lane in its truth table (R314). -/
theorem getLsbD_guard (x : Ctx) (g : Guard) {i : Nat} (hi : i < 64) :
    (x.guard g).getLsbD i = g.tt.getLsbD ((if (x.pred g.pa.toNat).getLsbD i then 4 else 0) + (if (x.pred g.pb.toNat).getLsbD i then 2 else 0) +
      (if (x.pred g.pc.toNat).getLsbD i then 1 else 0)) := by
  unfold Ctx.guard
  dsimp only
  rw [getLsbD_foldl_or, BitVec.getLsbD_zero, Bool.false_or]
  have hterm (b : Bool) (p : Mask) : (if b then p else ~~~p).getLsbD i = (p.getLsbD i == b) := by
    cases b
    · rw [if_neg Bool.false_ne_true, BitVec.getLsbD_not, decide_eq_true hi, Bool.true_and, beq_false]
    · rw [if_pos rfl, beq_true]
  simp only [BitVec.getLsbD_and, hterm]
  generalize (x.pred g.pa.toNat).getLsbD i = a, (x.pred g.pb.toNat).getLsbD i = b, (x.pred g.pc.toNat).getLsbD i = c
  cases a <;> cases b <;> cases c <;> simp [List.range_succ, Nat.testBit_eq_decide_div_mod_eq]

section results
variable {s : State} {x : Ctx} {f : CForm} (hs : s.Issues x) (hg : x.Guarded f.g)
include hs hg

theorem yields_prep (hpd : f.pd = 0#4) (hpe : f.pe = 0#4) (hx : f.x = 0#8) :
    s.Yields x (.prep f) 1 (.scalar (.j f.j.toNat) (x.pc.zeroExtend 64 + BitVec.ofInt 64 (4 * f.imm.toInt))) := by
  rw [← four_mul_signExtend]
  exact completes_of_guarded hs hg (noBad_cChecks (.inl rfl) (.inr hpd) (.inr hpe) (bne_eq_false_iff_eq.mpr hx) rfl) rfl

theorem yields_prepAbsolute {i : Nat} (hpd : f.pd = 0#4) (hpe : f.pe = 0#4) (hx : f.x = 1#8) (himm : f.imm.toNat = i) (hi : i < 4)
    (hlits : i + 1 < s.lits.length) (hhi : (s.lits.getD (i + 1) 0#32).toNat < 65536) :
    s.Yields x (.prepAbsolute f) 1
      (.scalar (.j f.j.toNat) (BitVec.ofNat 64 ((s.lits.getD (i + 1) 0#32).toNat * 2 ^ 32 + (s.lits.getD i 0#32).toNat))) := by
  have hidx : bits f.imm 1 0 = i := by rw [bits_eq_toNat_of_lt 1 (by omega), himm]
  have hunused : bits f.imm 19 2 = 0 := bits_eq_zero_of_div 19 2 (by omega)
  have hhigh : bits (s.lits.getD (i + 1) 0#32) 31 16 = 0 := bits_eq_zero_of_div 31 16 (Nat.div_eq_of_lt hhi)
  rw [← absoluteTarget_eq hhi]
  subst hidx
  refine completes_of_guarded hs hg (noBad_append.mpr
    ⟨noBad_cChecks (.inl rfl) (.inr hpd) (.inr hpe) (bne_eq_false_iff_eq.mpr hx) (bne_eq_false_iff_eq.mpr hunused), ?_⟩) (evalInstr_prepAbsolute _ _)
  exact noBad_cons.mpr ⟨decide_eq_false (Nat.not_le_of_lt hlits), noBad_cons.mpr ⟨bne_eq_false_iff_eq.mpr hhigh, noBad_nil⟩⟩

theorem yields_vote {v : Mask} (hj : f.j = 0#2) (himm : f.imm = 0#20) (hx : f.x.toNat ≤ 1)
    (hv : allLanes (if f.x = 0#8 then x.pred f.pe.toNat != 0#64 else x.pred f.pe.toNat == Mask.all) = v) :
    s.Yields x (.vote f) 1 (.predicate f.pd.toNat v Mask.all) := by
  subst hv
  exact completes_of_guarded hs hg (noBad_cChecks (.inr hj) (.inl rfl) (.inl rfl) (decide_eq_false (Nat.not_lt_of_le hx))
    (bne_eq_false_iff_eq.mpr himm)) rfl

theorem yields_ptt (hj : f.j = 0#2) (himm : f.imm.toNat < 256) :
    s.Yields x (.ptt f) 1 (.predicate f.pd.toNat (x.guard ⟨f.x, f.pe, f.imm.extractLsb' 0 4, f.imm.extractLsb' 4 4⟩) Mask.all) := by
  have hunused : bits f.imm 19 8 = 0 := bits_eq_zero_of_div 19 8 (Nat.div_eq_of_lt himm)
  exact completes_of_guarded hs hg (noBad_cChecks (.inr hj) (.inl rfl) (.inl rfl) rfl (bne_eq_false_iff_eq.mpr hunused)) rfl

theorem completes_loop (hj : f.j = 0#2) (hpd : f.pd = 0#4) (hpe : f.pe = 0#4) (hx : 1 ≤ f.x.toNat) (hx6 : f.x.toNat ≤ 6)
    (himm : 1 ≤ f.imm.toNat) (himm' : f.imm.toNat ≤ 4095) :
    s.Completes x (.loop f) none fun t => t.modCtx s.cur fun y =>
      { y with loops := { y.loops with starting := some (f.x.toNat, f.imm.toNat) } } := by
  refine completes_of_guarded hs hg (noBad_cChecks (.inr hj) (.inr hpd) (.inr hpe) ?_ ?_) rfl
  · simp only [Bool.or_eq_false_iff, beq_eq_false_iff_ne, decide_eq_false_iff_not]
    omega
  · simp only [Bool.or_eq_false_iff, beq_eq_false_iff_ne, decide_eq_false_iff_not]
    omega

theorem completes_lset {k n : Nat} (hpd : f.pd = 0#4) (hpe : f.pe = 0#4) (hk : bits f.x 2 0 = k) (hk5 : k ≤ 5) (hx : bits f.x 7 4 = 0)
    (hreg : bit f.x 3 = true ∧ f.imm = 0#20 ∧ n = (x.jReg f.j).toNat % 2 ^ 20 ∨ bit f.x 3 = false ∧ f.j = 0#2 ∧ f.imm ≠ 0#20 ∧ n = f.imm.toNat) :
    s.Completes x (.lset f) none fun t => t.modCtx s.cur fun y =>
      { y with loops := { y.loops with counts := SMap.set 1 y.loops.counts k n } } := by
  subst hk
  have hlevel : (decide (5 < bits f.x 2 0) || bits f.x 7 4 != 0) = false := by
    rw [hx, decide_eq_false (Nat.not_lt_of_le hk5), bne_self_eq_false, Bool.or_self]
  rcases hreg with ⟨hreg, himm, rfl⟩ | ⟨hreg, hj, himm, rfl⟩
  · refine completes_of_guarded hs hg (cs := cChecks f true false false _ (f.imm != 0#20))
      (noBad_cChecks (.inl rfl) (.inr hpd) (.inr hpe) hlevel (bne_eq_false_iff_eq.mpr himm)) ?_
    simp only [evalInstr_lset, evalLset, hreg, ↓reduceIte]
    rfl
  · refine completes_of_guarded hs hg (cs := cChecks f false false false _ (f.imm == 0#20))
      (noBad_cChecks (.inr hj) (.inr hpd) (.inr hpe) hlevel (beq_eq_false_iff_ne.mpr himm)) ?_
    simp only [evalInstr_lset, evalLset, hreg, Bool.false_eq_true, ↓reduceIte]
    rfl

theorem completes_lstr {d k : Nat} (hj : f.j = 0#2) (hpd : f.pd = 0#4) (hpe : f.pe = 0#4) (hd : bits f.x 7 3 = d) (hk : bits f.x 2 0 = k)
    (hk5 : k ≤ 5) (hlen : (setLink x.loops.links d k (f.imm.signExtend 64)).length ≤ 8) :
    s.Completes x (.lstr f) none fun t => t.modCtx s.cur fun y =>
      { y with loops := { y.loops with links := setLink x.loops.links d k (f.imm.signExtend 64) } } := by
  subst hd hk
  refine completes_of_guarded hs hg (noBad_cChecks (.inr hj) (.inr hpd) (.inr hpe) ?_ rfl) rfl
  exact Bool.or_eq_false_iff.mpr ⟨decide_eq_false (Nat.not_lt_of_le hk5), decide_eq_false (Nat.not_lt_of_le hlen)⟩

end results

/-- A stride of 0 leaves no link of the register and level. -/
theorem not_mem_setLink_zero {ls : List LoopLink} {d k : Nat} {l : LoopLink} (h : l ∈ setLink ls d k 0#64) : ¬ (l.d = d ∧ l.level = k) := by
  rintro ⟨rfl, rfl⟩
  simp only [setLink, ↓reduceIte, List.mem_filter, beq_self_eq_true, Bool.and_self, Bool.not_true, Bool.false_eq_true, and_false] at h

theorem mem_setLink {ls : List LoopLink} {d k : Nat} {stride : W64} (h : stride ≠ 0#64) : (⟨d, k, stride⟩ : LoopLink) ∈ setLink ls d k stride := by
  simp only [setLink, h, ↓reduceIte, List.mem_append, List.mem_singleton, or_true]

theorem signExtend_ne_zero {imm : BitVec 20} (h : imm ≠ 0#20) : imm.signExtend 64 ≠ 0#64 := by
  intro h0
  refine h (BitVec.eq_of_toInt_eq ?_)
  rw [← BitVec.toInt_signExtend_of_le (v := 64) (by omega), h0]
  rfl

theorem allLanes_eq (b : Bool) : allLanes b = if b then BitVec.allOnes 64 else 0#64 := rfl

/-- Settles O6: the checks of each operation hold for the fields that its clause gives, and the truth table of PTT is read lane by lane. -/
theorem controlResults : Obligations.ControlResults := by
  constructor
  · intro s x f hs hg
    refine ⟨yields_prep hs hg, ?_, ?_, ?_, ?_⟩
    · rintro hpd hpe hx i himm hi hlits lo hi' rfl rfl hhi
      exact yields_prepAbsolute hs hg hpd hpe hx himm hi hlits hhi
    · intro hj himm hx
      refine yields_vote hs hg hj himm (by rw [hx]; decide) ?_
      rw [if_pos hx, allLanes_eq]
      by_cases h : x.pred f.pe.toNat = 0#64 <;> simp only [h, bne_iff_ne, ne_eq, not_true_eq_false, not_false_eq_true, ↓reduceIte]
    · intro hj himm hx
      refine yields_vote hs hg hj himm (by rw [hx]; decide) ?_
      rw [if_neg (by rw [hx]; decide), allLanes_eq]
      simp only [beq_iff_eq, Mask.all]
    · intro hj himm
      refine ⟨_, yields_ptt hs hg hj himm, fun i hi => ?_⟩
      have hb : (f.imm.extractLsb' 0 4).toNat = f.imm.toNat % 16 := by rw [BitVec.extractLsb'_toNat, Nat.shiftRight_zero]
      have hc : (f.imm.extractLsb' 4 4).toNat = f.imm.toNat / 16 := by
        rw [BitVec.extractLsb'_toNat, Nat.shiftRight_eq_div_pow]
        omega
      rw [getLsbD_guard x _ hi, hb, hc]
  · intro s x f hs hg hpd hpe
    refine ⟨fun hj => completes_loop hs hg hj hpd hpe, ?_, ?_, ?_⟩
    · intro hj hx himm
      have hlt := f.x.isLt
      refine completes_lset hs hg hpd hpe (bits_eq_toNat_of_lt 2 (by omega)) hx (bits_eq_zero_of_div 7 4 (by omega)) (.inr ⟨?_, hj, himm, rfl⟩)
      exact (getLsbD_eq_decide f.x 3).trans (decide_eq_false (by omega))
    · intro k hx hk himm
      refine completes_lset hs hg hpd hpe (by rw [bits_from_zero]; omega) hk (bits_eq_zero_of_div 7 4 (by omega)) (.inl ⟨?_, himm, rfl⟩)
      exact (getLsbD_eq_decide f.x 3).trans (decide_eq_true (by omega))
    · rintro d k ls hj hx hk rfl hlen
      refine ⟨completes_lstr hs hg hj hpd hpe (by rw [bits_eq]; omega) (by rw [bits_from_zero]; omega) hk hlen, ?_, fun himm => mem_setLink (signExtend_ne_zero himm)⟩
      intro himm l hl
      rw [himm] at hl
      exact not_mem_setLink_zero hl

end Sys2Proof.Machine

/-! ## What stays of a context as results land and waiters wake -/

namespace Sys2Proof.Machine

set_option Elab.async false

/-- What `g` shows of the context on a sequencer. -/
def State.shows {α : Type} (s : State) (g : Ctx → α) (d : Nat) : Option α := (s.ctx d).map g

section shows
variable {α β : Type} {g : Ctx → α} {s : State} {d : Nat}

theorem State.shows_some {v : α} (h : s.shows g d = some v) : ∃ y, s.ctx d = some y ∧ g y = v := Option.map_eq_some_iff.mp h

theorem State.shows_of_ctx {x : Ctx} (h : s.ctx d = some x) : s.shows g d = some (g x) := by rw [State.shows, h, Option.map_some]

theorem State.shows_congr {t : State} (h : t.ctxs = s.ctxs) : t.shows g d = s.shows g d := by rw [State.shows, State.shows, State.ctx, State.ctx, h]

theorem State.shows_modCtx {c : Nat} {f : Ctx → Ctx} (hf : ∀ x, g (f x) = g x) : (s.modCtx c f).shows g d = s.shows g d := by
  by_cases h : d = c
  · subst h
    rw [State.shows, State.ctx_modCtx_self, Option.map_map]
    exact congrFun (congrArg Option.map (funext hf)) _
  · rw [State.shows, State.ctx_modCtx_ne _ _ _ _ h]
    rfl

theorem State.shows_foldl {f : State → β → State} {l : List β} (hf : ∀ (s : State) (b : β), (f s b).shows g d = s.shows g d) :
    (l.foldl f s).shows g d = s.shows g d := by
  induction l generalizing s with
  | nil => rfl
  | cons b l ih => exact ih.trans (hf s b)

/-- A context that enters the ready set changes its run state and age only. -/
theorem State.shows_insertReady {c : Nat} (hg : ∀ x r a, g { x with run := r, age := a } = g x) : (s.insertReady c).shows g d = s.shows g d :=
  (State.shows_congr rfl).trans (State.shows_modCtx fun x => hg x _ _)

theorem State.shows_wake {p : Ctx → WaitWhy → Bool} (hg : ∀ x r a, g { x with run := r, age := a } = g x) :
    (s.wake p).shows g d = s.shows g d := by
  refine State.shows_foldl fun t kv => ?_
  split
  · split
    · split
      · exact State.shows_insertReady hg
      · rfl
    · rfl
  · rfl

end shows

/-- What of a context the landing of a result and the end of a wait leave. -/
def Ctx.steady (x : Ctx) : BitVec 48 × Bool × LoopState × Option Transfer × Option Snapshot × Nat × Option Nat :=
  (x.pc, x.sup, x.loops, x.br, x.snap, x.count, x.repLeft)

section steady
variable {s : State} {d : Nat}

theorem State.steady_landScalar {c : Nat} {e : Dest} {v : W64} : (s.landScalar c e v).shows Ctx.steady d = s.shows Ctx.steady d := by
  cases e with
  | pred n =>
    refine State.shows_modCtx fun x => ?_
    unfold Ctx.setPred
    split <;> rfl
  | special num =>
    unfold State.landScalar State.writeSpecial
    dsimp only
    split
    · exact State.shows_modCtx fun _ => rfl
    · split
      · exact State.shows_modCtx fun _ => rfl
      · exact State.shows_modCtx fun _ => rfl
      · exact State.shows_congr rfl
      · exact State.shows_modCtx fun _ => rfl
      · exact State.shows_modCtx fun _ => rfl
      · rfl
  | vreg w n => rfl
  | vlatch w n => rfl
  | _ => exact State.shows_modCtx fun _ => rfl

theorem State.steady_reply {c k : Nat} {ws : List (Dest × W64)} : (s.reply c k ws).shows Ctx.steady d = s.shows Ctx.steady d := by
  refine (State.shows_modCtx ?_).trans (State.shows_foldl fun _ _ => State.steady_landScalar)
  exact fun _ => rfl

theorem State.steady_answerResult {c id k : Nat} {ws : List (Dest × W64)} :
    (s.answerResult c id k ws).shows Ctx.steady d = s.shows Ctx.steady d := by
  unfold State.answerResult
  split
  · rfl
  · split
    · exact (State.shows_foldl fun _ _ => State.steady_reply).trans (State.shows_modCtx fun _ => rfl)
    · exact State.steady_reply

theorem State.steady_placeWrite {id : Nat} : (s.placeWrite id).shows Ctx.steady d = s.shows Ctx.steady d := by
  unfold State.placeWrite
  split
  · rfl
  · split <;> rfl

theorem State.steady_sendHost {o : Out} : (s.sendHost o).shows Ctx.steady d = s.shows Ctx.steady d := by
  unfold State.sendHost
  split <;> rfl

theorem State.steady_setEvt {b : Nat} : (s.setEvt b).shows Ctx.steady d = s.shows Ctx.steady d := by
  unfold State.setEvt
  dsimp only
  split
  · rfl
  · exact State.steady_sendHost.trans (State.shows_congr rfl)

theorem State.steady_addLog {kind source code a : Nat} : (s.addLog kind source code a).shows Ctx.steady d = s.shows Ctx.steady d :=
  State.steady_sendHost.trans (State.shows_congr rfl)

theorem State.steady_logUE {source pa : Nat} : (s.logUE source pa).shows Ctx.steady d = s.shows Ctx.steady d :=
  State.steady_setEvt.trans ((State.shows_congr rfl).trans State.steady_addLog)

theorem State.steady_unpoison {runs : List (Loc × Nat)} : (s.unpoison runs).shows Ctx.steady d = s.shows Ctx.steady d := by
  unfold State.unpoison
  split <;> rfl

theorem State.steady_writeHome {e pa : Nat} {data : List Byte} {skip : List Nat} :
    (s.writeHome e pa data skip).shows Ctx.steady d = s.shows Ctx.steady d :=
  State.steady_unpoison.trans State.steady_placeWrite

theorem State.steady_gaugeSector {e g : Nat} {c : Contribution} : (s.gaugeSector e g c).shows Ctx.steady d = s.shows Ctx.steady d := by
  unfold State.gaugeSector
  split
  · exact State.steady_logUE
  · dsimp only
    split <;> exact State.steady_writeHome

theorem State.steady_landMacro {c : Nat} {m : MacroOp} : (s.landMacro c m).shows Ctx.steady d = s.shows Ctx.steady d := by
  unfold State.landMacro
  split
  · rfl
  · have hland : ∀ ls, (s.modCtx c fun x => x.landElems m.z ls m.assist m.pc).shows Ctx.steady d = s.shows Ctx.steady d := fun ls =>
      State.shows_modCtx fun x => by
        unfold Ctx.landElems
        dsimp only
        split <;> rfl
    dsimp only
    split
    · exact hland _
    · refine (State.shows_foldl fun t r => State.shows_foldl fun t q => ?_).trans (hland _)
      dsimp only
      split
      · rfl
      · exact State.steady_gaugeSector

theorem State.steady_land {c : Nat} {w : Landing} : (s.land c w).shows Ctx.steady d = s.shows Ctx.steady d := by
  cases w with
  | scalar e v => exact State.steady_landScalar
  | vector e v m =>
    refine State.shows_modCtx fun x => ?_
    unfold Ctx.landVector
    split
    · split <;> rfl
    · split <;> rfl
    · rfl
  | predicate n v m =>
    refine State.shows_modCtx fun x => ?_
    unfold Ctx.setPred
    split <;> rfl
  | tileStat off v z clr first =>
    unfold State.land
    dsimp only
    split
    · exact State.shows_modCtx fun _ => rfl
    · rfl
  | macroOp m => exact State.steady_landMacro
  | reply k id ws =>
    unfold State.land
    dsimp only
    split
    · exact State.steady_reply
    · exact State.steady_answerResult
  | _ => exact State.shows_modCtx fun _ => rfl

theorem State.steady_landWhere {c : Nat} {p : Flight → Bool} : (s.landWhere c p).shows Ctx.steady d = s.shows Ctx.steady d := by
  unfold State.landWhere
  split
  · rfl
  · exact (State.shows_foldl fun _ _ => State.steady_land).trans (State.shows_modCtx fun _ => rfl)

theorem State.steady_modAccTile {core t : Nat} {f : SMap W32 → SMap W32} : (s.modAccTile core t f).shows Ctx.steady d = s.shows Ctx.steady d := by
  unfold State.modAccTile
  dsimp only
  split
  · rename_i x hx
    have hmod := State.shows_modCtx (s := s) (g := Ctx.steady) (d := d) (c := core * 4 + t / partTiles (s.core core).part)
      (f := fun x => { x with z := SMap.modify {} x.z (t % partTiles (s.core core).part) fun tl => { tl with elems := f tl.elems } })
      fun _ => rfl
    rwa [State.modCtx, hx] at hmod
  · rfl

theorem State.steady_writeLoc {e : Nat} {l : Loc} {data : List Byte} : (s.writeLoc e l data).shows Ctx.steady d = s.shows Ctx.steady d := by
  cases l with
  | global pa =>
    unfold State.writeLoc State.writePhys
    dsimp only
    split <;> rfl
  | acc k off =>
    unfold State.writeLoc
    dsimp only
    induction data generalizing s off with
    | nil => rfl
    | cons b data ih => exact (ih (off + 1)).trans State.steady_modAccTile
  | _ => rfl

/-- An operation on a transaction barrier that has waited is made: its waiters wake, and the collective that asked for it answers. -/
theorem State.steady_engBars : s.engBars.shows Ctx.steady d = s.shows Ctx.steady d := by
  have hwrite : ∀ (s : State) (l : Loc) (f : TBar → TBar), (s.tbarDo l f).shows Ctx.steady d = s.shows Ctx.steady d := fun s l f => by
    unfold State.tbarDo
    dsimp only
    split
    · exact (State.shows_wake fun _ _ _ => rfl).trans State.steady_writeLoc
    · exact State.steady_writeLoc
  have hreply : ∀ (s : State) (r : Option (Nat × Nat × Nat)), (s.collReplies r).shows Ctx.steady d = s.shows Ctx.steady d := fun s r => by
    unfold State.collReplies
    split
    · exact State.steady_answerResult
    · rfl
  unfold State.engBars
  split
  · rfl
  · exact (State.shows_foldl fun _ _ => (hreply _ _).trans (hwrite _ _ _)).trans (State.shows_congr rfl)

theorem State.steady_landAll {c : Nat} : (s.landAll c).shows Ctx.steady d = s.shows Ctx.steady d := by
  refine State.steady_engBars.trans ((State.shows_modCtx ?_).trans State.steady_landWhere)
  exact fun _ => rfl

theorem State.steady_leaveReady {c : Nat} : (s.leaveReady c).shows Ctx.steady d = s.shows Ctx.steady d := by
  refine (State.shows_modCtx ?_).trans State.steady_landAll
  exact fun _ => rfl

end steady
end Sys2Proof.Machine

/-! ## Waiting and gang barriers (R357 to R359, R365) -/

namespace Sys2Proof.Machine

set_option Elab.async false

/-! ### An operation that acts as its bundle is presented (R473, R480) -/

section shown
variable {s u : State} {x y : Ctx} {i : Instr} (hp : i.parts.isSome = true) (hy : u.ctx s.cur = some y) (hcur : u.cur = s.cur)
  (hlits : u.lits = s.lits)
include hp hy hcur hlits

/-- What the bundle answers is what its operation answers in the state that the presentation has made. -/
theorem answers_shown : u.answers s.cur ((u.ctx s.cur).getD x) (shownAlone s i) [s.opAlone i (Instr.slotPart i).1 (Instr.slotPart i).2.1] =
    [(s.opAlone i (Instr.slotPart i).1 (Instr.slotPart i).2.1, evalInstr i (u.envAlone y i))] := by
  obtain ⟨p, hp⟩ := Option.isSome_iff_exists.mp hp
  have h := answers_alone u y i p hp
  have hshown : shownAlone u i = shownAlone s i := by rw [shownAlone, shownAlone, hlits]
  simp only [State.opAlone, hlits, hcur, hshown] at h
  simpa only [hy, Option.getD_some, Instr.slotPart, hp, State.opAlone] using h

variable (hs : s.Presents x) (hu : s.firstShown s.cur x [s.opAlone i (Instr.slotPart i).1 (Instr.slotPart i).2.1] = u)
include hs hu

theorem exec_shown_act {f : State → State} (he : evalInstr i (u.envAlone y i) = .act none f) : exec i s = .next (u.issued y i none f) := by
  have hans := answers_shown (x := x) hp hy hcur hlits
  obtain ⟨p, hpp⟩ := Option.isSome_iff_exists.mp hp
  have hpr := present_shown s x i p hpp hs
  have hslot : Instr.slotPart i = (p.1, p.2.1, p.2.2.1) := by rw [Instr.slotPart, hpp]
  obtain ⟨hc, hi, -⟩ := hs
  rw [hslot] at hans hu
  have hshown : shownAlone u i = shownAlone s i := by rw [shownAlone, shownAlone, hlits]
  have htoken : x.tokensFull (tokensOf [(s.opAlone i p.1 p.2.1, SlotOut.act none f)]) = false := rfl
  have htrap : trapOf [(s.opAlone i p.1 p.2.1, SlotOut.act none f)] none = none := rfl
  simp only [hu, hans, he, stallOf, waitOf, htrap, htoken, List.foldl, List.findSome?, Bool.false_eq_true, if_false] at hpr
  simp only [hy, Option.getD_some] at hpr
  rw [exec_slot i s hp]
  simp only [State.issueAlone, hc, hi, hpr, if_true, Presented.state, State.issued, hslot, hcur, hshown, State.opAlone, hlits]

theorem exec_shown_wait {w : WaitWhy} {f : State → State} (he : evalInstr i (u.envAlone y i) = .wait w f) :
    exec i s = .next (f ((u.leaveReady s.cur).modCtx s.cur fun y => { y with run := .waiting w })) := by
  have hans := answers_shown (x := x) hp hy hcur hlits
  obtain ⟨p, hpp⟩ := Option.isSome_iff_exists.mp hp
  have hpr := present_shown s x i p hpp hs
  have hslot : Instr.slotPart i = (p.1, p.2.1, p.2.2.1) := by rw [Instr.slotPart, hpp]
  obtain ⟨hc, hi, -⟩ := hs
  rw [hslot] at hans hu
  simp only [hu, hans, he, stallOf, waitOf, List.foldl, List.findSome?] at hpr
  rw [exec_slot i s hp]
  simp only [State.issueAlone, hc, hi, hpr, if_true, Presented.state]

end shown
/-! ### The operations -/

section control
variable {s : State} {x : Ctx} {f : CForm} (hs : s.Issues x) (hg : x.Guarded f.g) (hj : f.j = 0#2) (hpd : f.pd = 0#4) (hpe : f.pe = 0#4)
include hs hg hj hpd hpe

theorem completes_nop (hx : f.x = 0#8) (himm : f.imm = 0#20) : s.Completes x (.nop f) none id :=
  completes_of_guarded hs hg (noBad_cChecks (.inr hj) (.inr hpd) (.inr hpe) (bne_eq_false_iff_eq.mpr hx) (bne_eq_false_iff_eq.mpr himm)) rfl

theorem completes_yield (hx : f.x = 0#8) (himm : f.imm = 0#20) : s.Completes x (.yield f) none id :=
  completes_of_guarded hs hg (noBad_cChecks (.inr hj) (.inr hpd) (.inr hpe) (bne_eq_false_iff_eq.mpr hx) (bne_eq_false_iff_eq.mpr himm)) rfl

/-- No named token counts or is marked: WAITK passes (R357). -/
theorem completes_waitk (himm : f.imm = 0#20) (hk : ∀ k, k < 8 → f.x.getLsbD k = true → SMap.get {} x.k k = {}) :
    s.Completes x (.waitk f) none id := by
  have hcount : ((List.range 8).any fun k => f.x.getLsbD k && x.tokCount k != 0) = false := by
    rw [List.any_eq_false]
    intro k hmem hbad
    obtain ⟨hbit, hne⟩ := Bool.and_eq_true_iff.mp hbad
    rw [Ctx.tokCount, hk k (List.mem_range.mp hmem) hbit] at hne
    exact absurd hne (by decide)
  have hmark : x.marked f.x.toNat = none := by
    rw [Ctx.marked, List.findSome?_eq_none_iff]
    intro k hmem
    split
    · rename_i hbit
      rw [hk k (List.mem_range.mp hmem) hbit]
      rfl
    · rfl
  refine completes_of_guarded hs hg (cs := cChecks f false false false false (f.imm != 0#20))
    (noBad_cChecks (.inr hj) (.inr hpd) (.inr hpe) rfl (bne_eq_false_iff_eq.mpr himm)) ?_
  simp only [evalInstr_waitk, evalWaitk, State.envAlone_x, hcount, hmark, Bool.false_eq_true, ↓reduceIte]
  rfl

theorem completes_spin (hx : f.x = 0#8) : s.Completes x (.spin f) none fun t => t.modCtx s.cur fun y => { y with spin := y.spin + f.imm.toNat } :=
  completes_of_guarded hs hg (noBad_cChecks (.inr hj) (.inr hpd) (.inr hpe) (bne_eq_false_iff_eq.mpr hx) rfl) rfl

theorem completes_barv (hx : f.x = 0#8) (himm : f.imm.toNat < 32) :
    s.Completes x (.barv f) none fun t => t.barArrive s.cur x.gang x.member f.imm.toNat :=
  completes_of_guarded hs hg (noBad_cChecks (.inr hj) (.inr hpd) (.inr hpe) (bne_eq_false_iff_eq.mpr hx)
    (decide_eq_false (Nat.not_lt_of_le (Nat.le_of_lt_succ himm)))) rfl

end control

/-! ### BWAIT (R359, R480) -/

section bwait
variable {f : CForm}

theorem noBad_bwait (hj : f.j = 0#2) (hpd : f.pd = 0#4) (hpe : f.pe = 0#4) (hx : f.x.toNat ≤ 1) (himm : f.imm.toNat < 32) :
    NoBad (bwaitChecks f) :=
  noBad_cChecks (.inr hj) (.inr hpd) (.inr hpe) (decide_eq_false (Nat.not_lt_of_le hx))
    (decide_eq_false (Nat.not_lt_of_le (Nat.le_of_lt_succ himm)))

/-- What BWAIT answers in the state that its presentation has made. -/
theorem evalBwait_of_guarded {u : State} {y : Ctx} (hg : y.Guarded f.g) (hn : NoBad (bwaitChecks f)) :
    evalInstr (.bwait f) (u.envAlone y (.bwait f)) =
      if u.barArrived y.gang y.member f.imm.toNat then .wait (.barrier f.imm.toNat) id
      else .act none fun s => s.barPass u.cur y.gang f.imm.toNat :=
  Env.guarded_of _ _ _ hg hn

theorem State.shows_barArrive {α : Type} {g : Ctx → α} {s : State} {c k m b d : Nat} (hg : ∀ x r a, g { x with run := r, age := a } = g x) :
    (s.barArrive c k m b).shows g d = s.shows g d := by
  unfold State.barArrive
  split
  · rfl
  · split
    · rfl
    · unfold State.checkBar
      split
      · rfl
      · dsimp only
        split
        · exact State.shows_wake hg
        · rfl

theorem State.wake_cur_lits {s : State} {p : Ctx → WaitWhy → Bool} : (s.wake p).cur = s.cur ∧ (s.wake p).lits = s.lits := by
  unfold State.wake
  generalize s.ctxs = l
  induction l generalizing s with
  | nil => exact ⟨rfl, rfl⟩
  | cons kv l ih =>
    have hstep : ∀ t : State, t.cur = s.cur ∧ t.lits = s.lits →
        (l.foldl _ t).cur = s.cur ∧ (l.foldl _ t).lits = s.lits := fun t ht => ht.1 ▸ ht.2 ▸ ih
    rw [List.foldl_cons]
    refine hstep _ ?_
    split
    · split
      · split
        · exact ⟨State.modCtx_cur _ _ _, State.modCtx_lits _ _ _⟩
        · exact ⟨rfl, rfl⟩
      · exact ⟨rfl, rfl⟩
    · exact ⟨rfl, rfl⟩

theorem State.barArrive_cur_lits {s : State} {c k m b : Nat} : (s.barArrive c k m b).cur = s.cur ∧ (s.barArrive c k m b).lits = s.lits := by
  unfold State.barArrive
  split
  · exact ⟨rfl, rfl⟩
  · split
    · exact ⟨rfl, rfl⟩
    · unfold State.checkBar
      split
      · exact ⟨rfl, rfl⟩
      · dsimp only
        split
        · exact State.wake_cur_lits
        · exact ⟨rfl, rfl⟩

/-- The state that a BWAIT.ARV makes as its bundle is first presented: its arrival, and the note that it has been made. -/
def State.arrivedAt (s : State) (x : Ctx) (b : Nat) : State :=
  (s.barArrive s.cur x.gang x.member b).modCtx s.cur fun y => { y with loops := { y.loops with arv := some x.pc } }

theorem State.arrivedAt_cur_lits {s : State} {x : Ctx} {b : Nat} : (s.arrivedAt x b).cur = s.cur ∧ (s.arrivedAt x b).lits = s.lits := by
  rw [State.arrivedAt, State.modCtx_cur, State.modCtx_lits]
  exact State.barArrive_cur_lits

/-- What a guard reads of a context: its predicates and its loops (R314, R355). -/
def Ctx.guardSource (x : Ctx) : SMap Mask × LoopState := (x.p, { x.loops with arv := none, tw := none })

theorem Ctx.guard_of_source {x y : Ctx} {g : Guard} (h : y.guardSource = x.guardSource) : y.guard g = x.guard g := by
  obtain ⟨hp, hl⟩ := Prod.mk.inj h
  have hstatus (n : Nat) : y.loops.status n = x.loops.status n := by
    have h := congrArg (LoopState.status · n) hl
    exact h
  have hpred (n : Nat) : y.pred n = x.pred n := by rw [Ctx.pred, Ctx.pred, hp, hstatus]
  simp only [Ctx.guard, hpred]

/-- The predicates of the context are those of the presentation, so that the guard holds still. -/
theorem guarded_arrivedAt {s : State} {x y : Ctx} {b : Nat} {g : Guard} (hx : s.ctx s.cur = some x) (hy : (s.arrivedAt x b).ctx s.cur = some y)
    (hg : x.Guarded g) : y.Guarded g := by
  have hp : (s.arrivedAt x b).shows Ctx.guardSource s.cur = s.shows Ctx.guardSource s.cur := by
    refine (State.shows_modCtx ?_).trans (State.shows_barArrive fun _ _ _ => rfl)
    exact fun _ => rfl
  rw [State.shows_of_ctx hx, State.shows_of_ctx hy, Option.some.injEq] at hp
  rw [Ctx.Guarded, Ctx.guard_of_source hp]
  exact hg

theorem firstShown_bwait_arv {s : State} {x : Ctx} (hg : x.Guarded f.g) (hn : NoBad (bwaitChecks f)) (hx : f.x = 1#8) (harv : x.loops.arv = none)
    (htw : x.loops.tw = none) :
    s.firstShown s.cur x [s.opAlone (.bwait f) (Instr.slotPart (.bwait f)).1 (Instr.slotPart (.bwait f)).2.1] = s.arrivedAt x f.imm.toNat := by
  have hon : ((x.guard f.g).getLsbD 0 && (firstBad (bwaitChecks f)).isNone) = true := by
    rw [show (x.guard f.g).getLsbD 0 = true from hg, show firstBad (bwaitChecks f) = none from hn]
    rfl
  unfold State.firstShown
  simp only [harv, htw, Option.filter_none, beq_self_eq_true, Bool.and_self, if_true, List.foldl_cons, List.foldl_nil, State.opAlone, hx]
  refine if_pos ?_
  simp only [decide_true, Bool.true_and, Bool.and_true]
  exact hon

/-- A BWAIT that does not arrive: not of the .ARV form, or presented again after it has arrived (R480). -/
theorem firstShown_bwait_again {s : State} {x : Ctx} (h : x.loops.arv = none ∧ f.x ≠ 1#8 ∨ x.loops.arv = some x.pc) (htw : x.loops.tw = none) :
    s.firstShown s.cur x [s.opAlone (.bwait f) (Instr.slotPart (.bwait f)).1 (Instr.slotPart (.bwait f)).2.1] = s := by
  unfold State.firstShown
  obtain ⟨harv, hx⟩ | harv := h
  · simp only [harv, htw, Option.filter_none, beq_self_eq_true, Bool.and_self, if_true, List.foldl_cons, List.foldl_nil, State.opAlone, hx,
      decide_false, Bool.false_and, Bool.false_eq_true, if_false]
  · simp only [harv, htw, Option.filter_none, Option.filter_some, id_eq, beq_self_eq_true, Bool.and_self, if_true, List.foldl_cons, List.foldl_nil,
      State.opAlone, reduceBEq, Bool.and_false, Bool.false_eq_true, if_false]

end bwait

/-- Settles O7: WAITK's tokens are clear; a BWAIT goes by the arrival of its member, which its .ARV form makes as it is first presented. -/
theorem controlCompletes : Obligations.ControlCompletes := by
  constructor
  · intro s x f hs hg hj hpd hpe
    refine ⟨fun hx himm => ⟨completes_nop hs hg hj hpd hpe hx himm, completes_yield hs hg hj hpd hpe hx himm⟩,
      completes_waitk hs hg hj hpd hpe, completes_spin hs hg hj hpd hpe, completes_barv hs hg hj hpd hpe, ?_, ?_⟩
    · intro hx himm hopen
      have heval := evalBwait_of_guarded (u := s) hg (noBad_bwait hj hpd hpe (by rw [hx]; decide) himm)
      rw [hopen, if_neg Bool.false_ne_true] at heval
      exact completes_of_answer rfl hs (by rw [showsFirst, hx]; rfl) heval
    · rintro hx himm u y rfl hy hopen
      obtain ⟨hpres, harv, htw⟩ := hs
      have hn := noBad_bwait hj hpd hpe (by rw [hx]; decide) himm
      have heval := evalBwait_of_guarded (u := s.arrivedAt x f.imm.toNat) (guarded_arrivedAt hpres.1 hy hg) hn
      rw [show (s.arrivedAt x f.imm.toNat).barArrived y.gang y.member f.imm.toNat = false from hopen, if_neg Bool.false_ne_true] at heval
      have hkeeps := State.arrivedAt_cur_lits (s := s) (x := x) (b := f.imm.toNat)
      have hexec := exec_shown_act rfl hy hkeeps.1 hkeeps.2 hpres (firstShown_bwait_arv hg hn hx harv htw) heval
      rw [hkeeps.1] at hexec
      exact hexec
  · intro s x f hs hg hj hpd hpe himm htw
    refine ⟨?_, ?_, ?_⟩
    · intro hx harv hclosed
      have heval := evalBwait_of_guarded (u := s) hg (noBad_bwait hj hpd hpe (by rw [hx]; decide) himm)
      rw [hclosed, if_pos rfl] at heval
      have hexec := exec_shown_wait rfl hs.1 rfl rfl hs (firstShown_bwait_again (.inl ⟨harv, by rw [hx]; decide⟩) htw) heval
      obtain ⟨y, hy, hsteady⟩ := State.shows_some (State.steady_landAll.trans (State.shows_of_ctx hs.1))
      refine ⟨_, { y.clearLatches with run := .waiting (.barrier f.imm.toNat) }, hexec, ?_, rfl, rfl, rfl, rfl, rfl, (Prod.mk.inj hsteady).1⟩
      rw [id_eq, State.ctx_modCtx_self, State.leaveReady, State.ctx_modCtx_self, hy]
      rfl
    · rintro hx harv u y rfl hy hclosed
      have hn := noBad_bwait hj hpd hpe (by rw [hx]; decide) himm
      have heval := evalBwait_of_guarded (u := s.arrivedAt x f.imm.toNat) (guarded_arrivedAt hs.1 hy hg) hn
      rw [show (s.arrivedAt x f.imm.toNat).barArrived y.gang y.member f.imm.toNat = true from hclosed, if_pos rfl] at heval
      have hkeeps := State.arrivedAt_cur_lits (s := s) (x := x) (b := f.imm.toNat)
      exact exec_shown_wait rfl hy hkeeps.1 hkeeps.2 hs (firstShown_bwait_arv hg hn hx harv htw) heval
    · intro hx harv
      have hshown := firstShown_bwait_again (f := f) (s := s) (.inr harv) htw
      have heval := evalBwait_of_guarded (u := s) hg (noBad_bwait hj hpd hpe (by rw [hx]; decide) himm)
      constructor
      · intro hopen
        rw [hopen, if_neg Bool.false_ne_true] at heval
        exact exec_shown_act rfl hs.1 rfl rfl hs hshown heval
      · intro hclosed
        rw [hclosed, if_pos rfl] at heval
        exact exec_shown_wait rfl hs.1 rfl rfl hs hshown heval

end Sys2Proof.Machine

/-! ## Traps and returns (R266, R363): a reply that lands as RFT's count ends -/

namespace Sys2Proof.Machine

set_option Elab.async false

/-- A supervisor in a handler whose oldest E result, of number 1, holds an answer for TCAUSE, and is written with the answer to number 0. -/
def strayReplyCtx : Ctx :=
  { sup := true, tcause := 0x02000000#64, snap := some ⟨[], none, {}, [], [], [], []⟩
    results := [⟨1, [], some (0, [(.special 0x11, 0x01000000#64)])⟩, ⟨0, [], none⟩] }

/-- An arrival at a transaction barrier waits, and answers that context's result number 0 as it is made. -/
def strayReplyState : State := { ctxs := [(0, some strayReplyCtx)], barWaits := [⟨.global 0, .arrive, some (0, 0, 0)⟩] }

/-- RFT under a true guard. -/
def strayReplyRft : CForm := ⟨⟨0xFF#8, 0#4, 0#4, 0#4⟩, 0#2, 0#4, 0#4, 0#8, 0#20⟩

theorem strayReply_issues : strayReplyState.Issues strayReplyCtx :=
  ⟨⟨rfl, rfl, rfl, rfl, rfl, rfl, rfl, rfl, rfl, fun _ => Nat.zero_lt_succ 254⟩, rfl, rfl⟩

theorem strayReply_guarded : strayReplyCtx.Guarded strayReplyRft.g := by
  unfold Ctx.Guarded
  decide

/-- The privilege after the return, which TCAUSE as the trap left it has clear. -/
theorem strayReply_sup : (match exec (.rft strayReplyRft) strayReplyState with | .next t => (t.ctx 0).map Ctx.sup | _ => none) = some true := by
  decide

/-- Refutes O9: as the count of RFT's bundle ends, a barrier operation that has waited is made, its collective answers an E result of the context, and
an older result whose answer names TCAUSE is written before the return reads it. The privilege is then that of the new TCAUSE, and not of the
TCAUSE that the bundle found. -/
theorem not_trapAndReturn : ¬ Obligations.TrapAndReturn := by
  unfold Obligations.TrapAndReturn
  intro h
  obtain ⟨-, -, hrft⟩ := h strayReplyState strayReplyCtx strayReplyRft strayReply_issues strayReply_guarded rfl rfl rfl rfl
  obtain ⟨t, y, hexec, hy, -, hsup, -⟩ := hrft rfl rfl (by decide) rfl _ rfl rfl
  have hout := strayReply_sup
  have hy' : (t.ctx 0).map Ctx.sup = some y.sup := congrArg (Option.map Ctx.sup) hy
  rw [hexec] at hout
  have hclear : y.sup = false := hsup.trans (by decide)
  exact absurd (hy'.symm.trans hout) (by rw [hclear]; decide)

end Sys2Proof.Machine

/-! ## The window mode (R210, R361): a context whose sequencer number stands past the last sequencer -/

namespace Sys2Proof.Machine

set_option Elab.async false

/-- A macro-op of nothing. -/
def frozenMacro : MacroOp :=
  { z := 0, fmt := 0, k := 0, ta := false, tb := false, ovw := false, gauge := none, assist := false, aRows := [], bRows := [], sa := [], sb := []
    groups := [], start := none, pc := 0#48, window := 0 }

/-- A supervisor whose handler has frozen a macro-op. -/
def frozenCtx : Ctx := { sup := true, snap := some ⟨[⟨0, .macroOp frozenMacro⟩], none, {}, [], [], [], []⟩ }

/-- That context stands alone, under the first number that no sequencer has. -/
def frozenState : State := { cur := numSeqs, ctxs := [(numSeqs, some frozenCtx)] }

/-- SETWIN of mode 1 under a true guard. -/
def frozenSetwin : CForm := ⟨⟨0xFF#8, 0#4, 0#4, 0#4⟩, 0#2, 0#4, 0#4, 1#8, 0#20⟩

theorem frozen_issues : frozenState.Issues frozenCtx :=
  ⟨⟨rfl, rfl, rfl, rfl, rfl, rfl, rfl, rfl, rfl, fun _ => Nat.zero_lt_succ 254⟩, rfl, rfl⟩

theorem frozen_guarded : frozenCtx.Guarded frozenSetwin.g := by
  unfold Ctx.Guarded
  decide

/-- No context stands on a sequencer of the cluster that the number folds to. -/
theorem frozen_cluster_empty (i : Nat) (hi : i < 8) : frozenState.ctx (8 * ctxCluster frozenState.cur + i) = none := by
  match i, hi with
  | 0, _ | 1, _ | 2, _ | 3, _ | 4, _ | 5, _ | 6, _ | 7, _ => rfl

/-- The bundle stalls behind the frozen macro-op. -/
theorem frozen_stalls :
    (match exec (.setwin frozenSetwin) frozenState with | .next t => (t.ctx numSeqs).map Ctx.count | _ => none) = some 0 := by
  decide

/-- Refutes O8: the clause of SETWIN looks for macro-ops on the eight sequencers of the cluster, which are those of the bundle's own context only
where its number is one of a sequencer. Under a number past the last, the macro-op that a trap has frozen in the context itself is not looked for,
and SETWIN stalls. -/
theorem not_formatAndWindow : ¬ Obligations.FormatAndWindow := by
  unfold Obligations.FormatAndWindow
  intro h
  obtain ⟨-, hwin⟩ := h frozenState frozenCtx frozenSetwin frozen_issues frozen_guarded rfl rfl rfl
  have hcompletes := hwin rfl (by decide) (by decide) rfl fun i hi y hy => by
    rw [frozen_cluster_empty i hi] at hy
    cases hy
  have hstall := frozen_stalls
  rw [State.Completes] at hcompletes
  rw [hcompletes] at hstall
  exact absurd hstall (by decide)

end Sys2Proof.Machine

/-! ## Vector operations of the register form: lanes, rounding, and completion (R166, R299, R300, R314, R382) -/

namespace Sys2Proof.Machine

set_option Elab.async false

/-! ### Lanes and masks -/

theorem Vec.lane_ofLanes {r : Nat → W32} {n : Nat} (hn : n < 64) : (Vec.ofLanes r).lane n = r n := by
  rw [Vec.lane, dif_pos hn, Vec.ofLanes, Vector.getElem_ofFn]

theorem Mask.getLsbD_ofFn {p : Nat → Bool} {n : Nat} (hn : n < 64) : (Mask.ofFn p).getLsbD n = p n := by
  rw [Mask.ofFn, getLsbD_foldl_or, BitVec.getLsbD_zero, Bool.false_or]
  have hbit (j : Nat) : (1#64 <<< j).getLsbD n = decide (n = j) := by
    rw [BitVec.getLsbD_shiftLeft, BitVec.getLsbD_one, decide_eq_true hn, Bool.true_and]
    by_cases h : n = j
    · subst h
      simp
    · rcases Nat.lt_or_gt_of_ne h with h' | h'
      · simp [h, h']
      · simp [h, Nat.not_lt.mpr (Nat.le_of_lt h'), Nat.sub_ne_zero_of_lt h']
  simp only [hbit]
  rw [Bool.eq_iff_iff]
  simp only [List.any_eq_true, List.mem_range, Bool.and_eq_true, decide_eq_true_eq]
  exact ⟨fun ⟨j, _, hp, h⟩ => h ▸ hp, fun h => ⟨n, hn, h, rfl⟩⟩

theorem Mask.ne_zero_iff {m : Mask} : m ≠ 0#64 ↔ ∃ n, n < 64 ∧ m.getLsbD n = true := by
  constructor
  · intro h
    refine Classical.byContradiction fun hnone => ?_
    refine h (BitVec.eq_of_getLsbD_eq fun i hi => ?_)
    rw [BitVec.getLsbD_zero]
    refine Bool.eq_false_iff.mpr fun hbit => hnone ⟨i, hi, hbit⟩
  · rintro ⟨n, -, hbit⟩ rfl
    rw [BitVec.getLsbD_zero] at hbit
    exact Bool.false_ne_true hbit

theorem RVec.lane_val {g : Mask} {r : Nat → Rounded} {hold : Nat → W32} {n : Nat} (hn : n < 64) (hg : g.getLsbD n = true) :
    (RVec.of g r hold).val.lane n = hold (r n).bits := by
  rw [RVec.of]
  dsimp only
  rw [Vec.lane_ofLanes hn, getD_of_lt _ (by simpa using hn)]
  simp only [List.getElem_map, List.getElem_range, hg, ↓reduceIte]

/-- The tiny lanes of a rounded vector are the active lanes whose result was flushed. -/
theorem RVec.getLsbD_tiny {g : Mask} {r : Nat → Rounded} {hold : Nat → W32} {n : Nat} (hn : n < 64) :
    (RVec.of g r hold).tiny.getLsbD n = (g.getLsbD n && (r n).tiny) := by
  rw [RVec.of]
  dsimp only
  rw [Mask.getLsbD_ofFn hn, getD_of_lt _ (by simpa using hn)]
  simp only [List.getElem_map, List.getElem_range]
  cases g.getLsbD n
  · rfl
  · rw [if_pos rfl, Bool.true_and]

theorem RVec.tiny_iff_flushes {x : Ctx} {g : Guard} {r : Nat → Rounded} {hold : Nat → W32} :
    ((RVec.of (x.guard g) r hold).tiny != 0#64) = true ↔ x.Flushes g r := by
  rw [bne_iff_ne, Mask.ne_zero_iff]
  refine exists_congr fun n => and_congr_right fun hn => ?_
  rw [RVec.getLsbD_tiny hn, Bool.and_eq_true]

/-- Two rounded vectors agree where their active lanes do. -/
theorem RVec.of_congr {g : Mask} {r q : Nat → Rounded} {hold : Nat → W32} (h : ∀ n, n < 64 → g.getLsbD n = true → r n = q n) :
    RVec.of g r hold = RVec.of g q hold := by
  have hl : ((List.range 64).map fun i => if g.getLsbD i then r i else (⟨0, false⟩ : Rounded)) =
      (List.range 64).map fun i => if g.getLsbD i then q i else ⟨0, false⟩ := by
    refine List.map_congr_left fun n hn => ?_
    split
    · exact h n (List.mem_range.mp hn) ‹_›
    · rfl
  simp only [RVec.of, hl]

/-! ### Completion -/

/-- The stream registers of an operation hold their vectors, so it goes on and takes them (R166). -/
theorem Env.streamsThen_of_ready {e : Env} {ks : List Nat} {field : Nat → Nat} {tok : Option Nat} {k : State → State} (ht : e.taken = [])
    (hr : ∀ n ∈ ks, Stream.Ready (SMap.get {} e.x.f n)) : e.streamsThen ks field (.act tok k) = .act tok (e.pops ks k) := by
  have hlen : ∀ n ∈ ks, ¬ (SMap.get {} e.x.f n).buf.length < 1 := fun n hn h =>
    (hr n hn).1 (List.length_eq_zero_iff.mp (Nat.lt_one_iff.mp h))
  have hneed (n : Nat) : (if e.taken.contains n then 2 else 1) = 1 := by rw [ht]; rfl
  have hbound : (ks.find? fun n => (SMap.get {} e.x.f n).bound.isNone && decide ((SMap.get {} e.x.f n).buf.length < 1)) = none :=
    List.find?_eq_none.mpr fun n hn h => hlen n hn (of_decide_eq_true (Bool.and_eq_true_iff.mp h).2)
  have hshort : (ks.find? fun n => decide ((SMap.get {} e.x.f n).buf.length < 1)) = none :=
    List.find?_eq_none.mpr fun n hn h => hlen n hn (of_decide_eq_true h)
  have hecc : (ks.findSome? fun n => (SMap.get {} e.x.f n).ecc.getD (1 - 1) none) = none :=
    List.findSome?_eq_none_iff.mpr fun n hn => (hr n hn).2
  simp only [Env.streamsThen, hneed, hbound, hshort, hecc]

/-- A rounded result lands where no flushed lane asks for SUBNORM_ASSIST (R300). -/
theorem Env.rounded_of_quiet {e : Env} {g : Guard} {sl : VSlot} {dst : Dest} {lat : Nat} {sr : Bool} {hold : Nat → W32} {r : Nat → Rounded}
    (hguard : e.g = e.x.guard g) (hassist : fmtAssist e.x.fmt = false ∨ ¬ e.x.Flushes g r) :
    e.rounded sl dst lat sr (RVec.of e.g r hold) = .act none fun s =>
      (s.addFlight e.c lat (.vector dst (RVec.of e.g r hold).val e.g)).modCtx e.c fun x =>
        (if sr then x.advanceSr (isW sl) else x).flagSub ((RVec.of e.g r hold).tiny != 0#64) := by
  have hquiet : (fmtAssist e.x.fmt && (RVec.of e.g r hold).tiny != 0#64) = false := by
    rw [← Bool.not_eq_true, Bool.and_eq_true, hguard, RVec.tiny_iff_flushes]
    rintro ⟨h1, h2⟩
    exact hassist.elim (fun h => Bool.false_ne_true (h.symm.trans h1)) fun h => h h2
  rw [Env.rounded, hquiet, if_neg Bool.false_ne_true]

section completion
variable {s : State} {x : Ctx} {i : Instr} {f : VReg} {m : VForm} {more : List Check} (hs : s.Issues x) (hr : s.VReady x i f m more)
  (ha : ActsUnder i f.g)
include hs hr ha

omit hs in
/-- What stands behind the checks of an operation that may act is its answer, and its stream vectors leave their buffers. -/
theorem vguarded_of_ready {tok : Option Nat} {k : State → State} : (s.envAlone x i).vguarded f m more (.act tok k) =
    .act tok ((s.envAlone x i).pops (vStreams f m) k) := by
  obtain ⟨hactive, hn, hstreams⟩ := hr
  have hlanes : (s.envAlone x i).g ≠ 0#64 := by
    rw [← ha.guard] at hactive
    exact hactive
  rw [Env.vguarded, if_neg hlanes, Env.checked, show firstBad _ = none from hn]
  exact Env.streamsThen_of_ready rfl hstreams

theorem vcompletes_of_vguarded {k : State → State} (he : evalInstr i (s.envAlone x i) = (s.envAlone x i).vguarded f m more (.act none k)) :
    s.VCompletes x i (vStreams f m) k :=
  completes_of_answer ha.encoded hs ha.atIssue (he.trans (vguarded_of_ready hr ha))

theorem vyields_of_vplain {lat : Nat} {r q : Nat → W32}
    (he : evalInstr i (s.envAlone x i) = (s.envAlone x i).vguarded f m more ((s.envAlone x i).vplain f lat q)) (hq : ∀ n, n < 64 → q n = r n) :
    s.VYields x i f m lat r := by
  have hguard : (s.envAlone x i).g = x.guard f.g := congrArg x.guard ha.guard
  simp only [Env.vplain, Env.vresult, Env.result, hguard] at he
  refine ⟨_, vcompletes_of_vguarded hs hr ha he, fun n hn hlane => ?_⟩
  rw [Vec.lane_ofLanes hn, if_pos hlane, hq n hn]

/-- A rounded result completes where no flushed lane asks for SUBNORM_ASSIST (R300). -/
theorem vrounds_of_rounded {lat : Nat} {sr : Bool} {hold : Nat → W32} {r q : Nat → Rounded}
    (he : evalInstr i (s.envAlone x i) = (s.envAlone x i).vguarded f m more
      ((s.envAlone x i).rounded f.slot ((s.envAlone x i).vdst f) lat sr (RVec.of (s.envAlone x i).g q hold)))
    (hq : ∀ n, n < 64 → (x.guard f.g).getLsbD n = true → q n = r n) (hassist : fmtAssist x.fmt = false ∨ ¬ x.Flushes f.g r) :
    s.VRounds x i f m lat sr hold r := by
  have hguard : (s.envAlone x i).g = x.guard f.g := congrArg x.guard ha.guard
  rw [hguard, RVec.of_congr hq, ← hguard, Env.rounded_of_quiet hguard hassist, hguard] at he
  exact ⟨_, _, RVec.tiny_iff_flushes, vcompletes_of_vguarded hs hr ha he, fun n hn hlane => RVec.lane_val hn hlane⟩

end completion

end Sys2Proof.Machine

/-! ## Vector arithmetic in floating point (R384, R388) -/

namespace Sys2Proof.Machine

set_option Elab.async false

/-- The immediate of R388 as an F32 pattern. -/
theorem imm_append_zero (imm : BitVec 20) : imm ++ 0#12 = BitVec.ofNat 32 (4096 * imm.toNat) := by
  refine BitVec.eq_of_toNat_eq ?_
  have hlt := imm.isLt
  rw [BitVec.toNat_append, BitVec.toNat_ofNat, BitVec.toNat_ofNat, Nat.zero_mod, Nat.or_zero, Nat.shiftLeft_eq, Nat.mod_eq_of_lt (by omega), Nat.mul_comm]

/-- An immediate form that may act completes with its lanes rounded, where no flushed lane asks for SUBNORM_ASSIST. -/
theorem vcompletes_of_vImmediate {s : State} {x : Ctx} {i : Instr} {f : VImm} {op : Bool → XR → XR → XR → XR} {r : Nat → Rounded} (hs : s.Issues x)
    (hactive : x.guard f.g ≠ 0#64) (hn : NoBad ((s.envAlone x i).vimmChecks f))
    (hstreams : ∀ k ∈ (streamOf f.vs1).toList, Stream.Ready (SMap.get {} x.f k)) (ha : ActsUnder i f.g)
    (he : evalInstr i (s.envAlone x i) = vImmediate op f (s.envAlone x i))
    (hr : ∀ n, r n = fF32.round (x.rndEnv (isW f.slot) n) false
      (op (decide (x.fmt.toNat % 8 = 2)) (laneValue 0 (((s.envAlone x i).vsrc (isW f.slot) 0 f.vs1).lane n))
        (laneValue 0 (BitVec.ofNat 32 (4096 * f.imm.toNat))) (laneValue 0 (((s.envAlone x i).vsrc (isW f.slot) 0 f.vd).lane n))))
    (hassist : fmtAssist x.fmt = false ∨ ¬ x.Flushes f.g r) :
    ∃ (v : Vec) (tiny : Bool), (tiny = true ↔ x.Flushes f.g r) ∧
      s.VCompletes x i (streamOf f.vs1).toList
        (fun t => (t.addFlight s.cur 4 (.vector (vdest (isW f.slot) 0 0 f.vd) v (x.guard f.g))).modCtx s.cur fun y =>
          (y.advanceSr (isW f.slot)).flagSub tiny) ∧
      ∀ n, n < 64 → (x.guard f.g).getLsbD n = true → v.lane n = holdLane 0 (r n).bits := by
  have hguard : (s.envAlone x i).g = x.guard f.g := congrArg x.guard ha.guard
  refine ⟨_, _, RVec.tiny_iff_flushes (hold := holdLane 0), ?_, fun n hn hlane => RVec.lane_val hn hlane⟩
  have hvec : (fun n => fF32.round ((s.envAlone x i).x.rndEnv (isW f.slot) n) false
      (op (decide (fmtRnd (s.envAlone x i).x.fmt = 2)) (laneValue 0 (((s.envAlone x i).vsrc (isW f.slot) 0 f.vs1).lane n))
        (laneValue 0 (f.imm ++ 0#12)) (laneValue 0 (((s.envAlone x i).vsrc (isW f.slot) 0 f.vd).lane n)))) = r :=
    funext fun n => imm_append_zero f.imm ▸ (hr n).symm
  refine completes_of_answer ha.encoded hs ha.atIssue (he.trans ?_)
  rw [vImmediate, if_neg (hguard ▸ hactive), Env.checked, show firstBad _ = none from hn, hvec, Env.rounded_of_quiet hguard hassist, hguard]
  exact Env.streamsThen_of_ready rfl hstreams

/-- Settles O10: the register forms and the immediate forms differ in their exact value alone. -/
theorem vectorFloatResults : Obligations.VectorFloatResults := by
  constructor
  · intro s x f i op hs hop hready v r hv hr hassist
    subst hv
    simp only [List.mem_cons, Prod.mk.injEq, List.not_mem_nil, or_false] at hop
    obtain ⟨rfl, rfl⟩ | ⟨rfl, rfl⟩ | ⟨rfl, rfl⟩ | ⟨rfl, rfl⟩ | ⟨rfl, rfl⟩ | ⟨rfl, rfl⟩ := hop
    all_goals exact vrounds_of_rounded hs hready ⟨rfl, rfl, rfl⟩ rfl (fun n _ _ => (hr n).symm) hassist
  · intro s x f i op hs hop hactive hn hstreams a c r ha hc hr hassist
    subst ha hc
    have hform : ActsUnder i f.g ∧ evalInstr i (s.envAlone x i) = vImmediate op f (s.envAlone x i) := by
      simp only [List.mem_cons, Prod.mk.injEq, List.not_mem_nil, or_false] at hop
      obtain ⟨rfl, rfl⟩ | ⟨rfl, rfl⟩ | ⟨rfl, rfl⟩ | ⟨rfl, rfl⟩ := hop <;> exact ⟨⟨rfl, rfl, rfl⟩, rfl⟩
    exact vcompletes_of_vImmediate hs hactive hn hstreams hform.1 hform.2 hr hassist

end Sys2Proof.Machine

/-! ## Vector extremes, signs, classes, special functions and compares (R342, R385 to R387, R393) -/

namespace Sys2Proof.Machine

set_option Elab.async false

theorem one_shiftLeft_eq_ofNat (n : Nat) : 1#32 <<< n = BitVec.ofNat 32 (2 ^ n) := by
  refine BitVec.eq_of_toNat_eq ?_
  rw [BitVec.toNat_shiftLeft, BitVec.toNat_ofNat, Nat.shiftLeft_eq, BitVec.toNat_ofNat, show 1 % 2 ^ 32 = 1 from rfl, Nat.one_mul]

section completion
variable {s : State} {x : Ctx} {i : Instr} {f : VReg} {m : VForm} (hs : s.Issues x) (hr : s.VReady x i f m []) (ha : ActsUnder i f.g)
include hs hr ha

theorem vrounds_of_vSpecial {fn : SpecialFn} {r : Nat → Rounded} (hm : m = { op2 := .zero, types := [0] })
    (he : evalInstr i (s.envAlone x i) = vSpecial fn f (s.envAlone x i))
    (hround : ∀ n, r n = fF32.round x.rndEnvSpecial false (fn.eval (laneValue 0 (((s.envAlone x i).vargs f).a.lane n))))
    (hassist : fmtAssist x.fmt = false ∨ ¬ x.Flushes f.g r) : s.VRounds x i f m 12 false (holdLane 0) r := by
  subst hm
  exact vrounds_of_rounded hs hr ha he (fun n _ _ => (hround n).symm) hassist

theorem vcompletes_of_vCompare {cond : Nat → Nat → Nat → Bool} (he : evalInstr i (s.envAlone x i) = vCompare m cond f (s.envAlone x i)) :
    ∃ c : Mask, (s.VCompletes x i (vStreams f m) fun t =>
        (t.addFlight s.cur 1 (.predicate (2 * f.vd.toNat + 1) c (x.guard f.g))).addFlight s.cur 1
          (.predicate (2 * f.vd.toNat + 2) (~~~c) (x.guard f.g))) ∧
      ∀ n, n < 64 → (x.guard f.g).getLsbD n = true →
        c.getLsbD n = cond f.ty.toNat (elemOf f.ty.toNat (((s.envAlone x i).vargs f).a.lane n))
          (elemOf f.ty.toNat (((s.envAlone x i).vargs f).b.lane n)) := by
  have hguard : (s.envAlone x i).g = x.guard f.g := congrArg x.guard ha.guard
  rw [vCompare, hguard] at he
  refine ⟨_, vcompletes_of_vguarded hs hr ha he, fun n hn hlane => ?_⟩
  rw [Mask.getLsbD_ofFn hn, hlane, Bool.true_and]

end completion

/-- Settles O11, by the shape of each operation: a plain result, a rounded one, or a pair of predicates. -/
theorem vectorSelectionAndCompares : Obligations.VectorSelectionAndCompares := by
  constructor
  · rintro s x f ty hs rfl
    refine ⟨?_, ?_, ?_, ?_, ?_⟩
    · rintro i larger hop hready v rfl
      simp only [List.mem_cons, Prod.mk.injEq, List.not_mem_nil, or_false] at hop
      obtain ⟨rfl, rfl⟩ | ⟨rfl, rfl⟩ := hop
      all_goals exact vyields_of_vplain hs hready ⟨rfl, rfl, rfl⟩ rfl fun _ _ => rfl
    · rintro hready v rfl
      exact vyields_of_vplain hs hready ⟨rfl, rfl, rfl⟩ rfl fun _ _ => rfl
    · rintro hready v rfl
      exact vyields_of_vplain hs hready ⟨rfl, rfl, rfl⟩ rfl fun _ _ => rfl
    · rintro hready v rfl
      exact vyields_of_vplain hs hready ⟨rfl, rfl, rfl⟩ rfl fun _ _ => one_shiftLeft_eq_ofNat _
    · rintro i fn hop hready v r rfl hround hassist
      have hform : ActsUnder i f.g ∧ evalInstr i (s.envAlone x i) = vSpecial fn f (s.envAlone x i) := by
        simp only [List.mem_cons, Prod.mk.injEq, List.not_mem_nil, or_false] at hop
        obtain ⟨rfl, rfl⟩ | ⟨rfl, rfl⟩ | ⟨rfl, rfl⟩ | ⟨rfl, rfl⟩ := hop <;> exact ⟨⟨rfl, rfl, rfl⟩, rfl⟩
      exact vrounds_of_vSpecial hs hready hform.1 rfl hform.2 hround hassist
  · rintro s x f i m cond hs hop hready v rfl
    simp only [List.mem_cons, Prod.mk.injEq, List.not_mem_nil, or_false] at hop
    obtain ⟨rfl, rfl, rfl⟩ | ⟨rfl, rfl, rfl⟩ := hop
    · exact vcompletes_of_vCompare (cond := fun ty a b => condFp f.var.toNat (valueOf ty a) (valueOf ty b)) hs hready ⟨rfl, rfl, rfl⟩ rfl
    · exact vcompletes_of_vCompare (cond := fun ty a b => condInt (laneWidth ty) f.var.toNat a b) hs hready ⟨rfl, rfl, rfl⟩ rfl

end Sys2Proof.Machine

/-! ## Vector integer operations (R389 to R392) -/

namespace Sys2Proof.Machine

set_option Elab.async false

/-- The bits of an element are those of the integer that it stands for. -/
theorem intOf_emod_two_pow {ty e : Nat} (he : e < 2 ^ laneWidth ty) : (intOf ty e % 2 ^ laneWidth ty).toNat = e := by
  have hnat : ((e : Int) % ((2 ^ laneWidth ty : Nat) : Int)).toNat = e := by rw [← Int.natCast_emod, Int.toNat_natCast, Nat.mod_eq_of_lt he]
  have hpow : (2 : Int) ^ laneWidth ty = ((2 ^ laneWidth ty : Nat) : Int) := by push_cast; rfl
  rw [intOf, hpow]
  split
  · rw [signedOf, Nat.mod_eq_of_lt he]
    split
    · exact hnat
    · rw [hpow, Int.sub_emod_right]
      exact hnat
  · rw [Nat.mod_eq_of_lt he]
    exact hnat

theorem signedOf_mod (w n : Nat) : signedOf w (n % 2 ^ w) = signedOf w n := by simp only [signedOf, Nat.mod_mod]

theorem holdLane_mod (ty n : Nat) : holdLane ty (n % 2 ^ laneWidth ty) = holdLane ty n := by
  rw [holdLane, signedOf_mod, Nat.mod_mod, holdLane]

theorem xor_two_pow_sub_one {w b : Nat} (hb : b < 2 ^ w) : b ^^^ (2 ^ w - 1) = 2 ^ w - 1 - b := by
  refine Nat.eq_of_testBit_eq fun j => ?_
  rw [Nat.testBit_xor, Nat.testBit_two_pow_sub_one, Nat.sub_right_comm, Nat.sub_sub, Nat.testBit_two_pow_sub_succ hb]
  by_cases hj : j < w
  · simp [hj]
  · simp [hj, Nat.testBit_lt_two_pow (Nat.lt_of_lt_of_le hb (Nat.pow_le_pow_right (by decide) (Nat.le_of_not_lt hj)))]

/-- Settles O12: the element operations of the model are those of the manual on the value or on the bits of each element. -/
theorem vectorIntegerResults : Obligations.VectorIntegerResults := by
  refine ⟨?_, ?_⟩
  · rintro s x f ty w hs rfl rfl
    refine ⟨?_, ?_⟩
    · rintro i op hop hready v rfl
      simp only [List.mem_cons, Prod.mk.injEq, List.not_mem_nil, or_false] at hop
      obtain ⟨rfl, rfl⟩ | ⟨rfl, rfl⟩ | ⟨rfl, rfl⟩ | ⟨rfl, rfl⟩ := hop
      all_goals exact vyields_of_vplain hs hready ⟨rfl, rfl, rfl⟩ rfl fun _ _ => rfl
    · rintro i op hop hready v rfl
      have hlt (y : W32) : y.toNat % 2 ^ laneWidth f.ty.toNat < 2 ^ laneWidth f.ty.toNat := Nat.mod_lt _ (Nat.two_pow_pos _)
      have hbits (y : W32) : (intOf f.ty.toNat (elemOf f.ty.toNat y) % 2 ^ laneWidth f.ty.toNat).toNat = y.toNat % 2 ^ laneWidth f.ty.toNat :=
        intOf_emod_two_pow (hlt y)
      have hform : ActsUnder i f.g ∧ ∃ op' : Nat → Nat → Nat → Nat, evalInstr i (s.envAlone x i) = vBits op' f (s.envAlone x i) ∧
          ∀ a b, b < 2 ^ laneWidth f.ty.toNat → op' (laneWidth f.ty.toNat) a b = op a b := by
        simp only [List.mem_cons, Prod.mk.injEq, List.not_mem_nil, or_false] at hop
        obtain ⟨rfl, rfl⟩ | ⟨rfl, rfl⟩ | ⟨rfl, rfl⟩ | ⟨rfl, rfl⟩ | ⟨rfl, rfl⟩ | ⟨rfl, rfl⟩ | ⟨rfl, rfl⟩ := hop
        · exact ⟨⟨rfl, rfl, rfl⟩, fun w a b => a * 2 ^ (b % w), rfl, fun _ _ _ => rfl⟩
        · exact ⟨⟨rfl, rfl, rfl⟩, fun w a b => a / 2 ^ (b % w), rfl, fun _ _ _ => rfl⟩
        · exact ⟨⟨rfl, rfl, rfl⟩, fun w a b => (signedOf w a / 2 ^ (b % w) % 2 ^ w).toNat, rfl, fun _ _ _ => rfl⟩
        · exact ⟨⟨rfl, rfl, rfl⟩, fun _ a b => a &&& b, rfl, fun _ _ _ => rfl⟩
        · exact ⟨⟨rfl, rfl, rfl⟩, fun _ a b => a ||| b, rfl, fun _ _ _ => rfl⟩
        · exact ⟨⟨rfl, rfl, rfl⟩, fun _ a b => a ^^^ b, rfl, fun _ _ _ => rfl⟩
        · exact ⟨⟨rfl, rfl, rfl⟩, fun w a b => a &&& (b ^^^ (2 ^ w - 1)), rfl, fun a b hb => congrArg (a &&& ·) (xor_two_pow_sub_one hb)⟩
      obtain ⟨ha, op', he, hop'⟩ := hform
      refine vyields_of_vplain hs hready ha he fun n _ => ?_
      dsimp only
      rw [hbits, hbits, hop' _ _ (hlt _), holdLane_mod]
  · rintro s x f ty w lo hi hs rfl rfl hrange val hval
    obtain rfl : val = fun y => intOf f.ty.toNat (y.toNat % 2 ^ laneWidth f.ty.toNat) := funext hval
    refine ⟨?_, ?_, ?_, ?_⟩
    · rintro i types variants r hop hready v rfl
      have hclamp (z : Int) : holdInt f.ty.toNat (clampInt z (intRange f.ty.toNat).1 (intRange f.ty.toNat).2) =
          holdLane f.ty.toNat (max lo (min hi z) % 2 ^ laneWidth f.ty.toNat).toNat := by
        rw [← hrange, Int.min_comm]
        rfl
      simp only [List.mem_cons, Prod.mk.injEq, List.not_mem_nil, or_false] at hop
      obtain ⟨rfl, rfl, rfl, rfl⟩ | ⟨rfl, rfl, rfl, rfl⟩ | ⟨rfl, rfl, rfl, rfl⟩ | ⟨rfl, rfl, rfl, rfl⟩ | ⟨rfl, rfl, rfl, rfl⟩ |
        ⟨rfl, rfl, rfl, rfl⟩ := hop
      · exact vyields_of_vplain hs hready ⟨rfl, rfl, rfl⟩ rfl fun _ _ => rfl
      · exact vyields_of_vplain hs hready ⟨rfl, rfl, rfl⟩ rfl fun _ _ => rfl
      · exact vyields_of_vplain hs hready ⟨rfl, rfl, rfl⟩ rfl fun _ _ => hclamp _
      · exact vyields_of_vplain hs hready ⟨rfl, rfl, rfl⟩ rfl fun _ _ => hclamp _
      · exact vyields_of_vplain hs hready ⟨rfl, rfl, rfl⟩ rfl fun _ _ => hclamp _
      · exact vyields_of_vplain hs hready ⟨rfl, rfl, rfl⟩ rfl fun _ _ => rfl
    · rintro hready v rfl
      exact vyields_of_vplain hs hready ⟨rfl, rfl, rfl⟩ rfl fun _ _ => rfl
    · rintro hready v rfl
      exact vyields_of_vplain hs hready ⟨rfl, rfl, rfl⟩ rfl fun _ _ => rfl
    · rintro hready v rfl
      exact vyields_of_vplain hs hready ⟨rfl, rfl, rfl⟩ rfl fun _ _ => rfl

end Sys2Proof.Machine

/-! ## Vector conversions (R394 to R399) -/

namespace Sys2Proof.Machine

set_option Elab.async false

theorem laneValue_zero (b : W32) : laneValue 0 b = fF32.value b.toNat :=
  congrArg fF32.value (Nat.mod_eq_of_lt b.isLt)

theorem canonical_eq (ty x : Nat) : canonical ty x = if (fmtOf ty).isSome = true ∧ valueOf ty x = .nan then nanOf ty else x := by
  rw [canonical]
  refine ite_of_iff ?_ _ _
  rw [Bool.and_eq_true, beq_iff_eq]

theorem clampInt_of_mem {z lo hi : Int} (h : lo ≤ z ∧ z ≤ hi) : clampInt z lo hi = z := by
  rw [clampInt, Int.min_eq_left h.2, Int.max_eq_right h.1]

theorem cvtInt_eq_of_fits {sat : Bool} {src dst e : Nat} {free : W32} (h : sat = false ∨ dst ≠ 14 ∧ cvtWidth src < cvtWidth dst ∨
    (intRange dst).1 ≤ intOf src e ∧ intOf src e ≤ (intRange dst).2) : cvtInt sat src dst e free = holdInt dst (intOf src e) := by
  simp only [cvtInt]
  rcases h with rfl | ⟨hdst, hlt⟩ | hmem
  · simp
  · rw [if_neg hdst, if_pos hlt]
  · simp [clampInt_of_mem hmem, hmem]

theorem cvtInt_eq_of_narrow {src dst e : Nat} {free : W32} (h : dst = 14 ∨ cvtWidth dst < cvtWidth src) :
    cvtInt true src dst e free = holdInt dst (clampInt (intOf src e) (intRange dst).1 (intRange dst).2) := by
  simp only [cvtInt, ↓reduceIte]
  by_cases hdst : dst = 14
  · rw [if_pos hdst]
  · have hlt := h.resolve_left hdst
    rw [if_neg hdst, if_neg (Nat.lt_asymm hlt), if_pos hlt]

/-- Reading memory that holds no poison has no effect of its own. -/
theorem Env.clean_of_none {e : Env} {runs : List (Nat × Nat)} {k : SlotOut} (h : e.s.poisonIn runs = none) : e.clean runs k = k := by
  rw [Env.clean.eq_def, h]
  cases k <;> rfl

section vcvt
variable {s : State} {x : Ctx} {f : VReg} (hs : s.Issues x)
  (hr : s.VReady x (.vcvt f) f { op2 := .own, types := tyCvt } [⟨f.kind != 0#2, 2, f.kind.toNat⟩, ⟨!tyCvt.contains f.op2.toNat, 3, f.op2.toNat⟩])

/-- The lanes of a conversion between integer types, inactive lanes 0. -/
def cvtLanes (f : VReg) (e : Env) : Vec :=
  Vec.ofLanes fun i => if e.g.getLsbD i then
    cvtInt (fmtSat e.x.fmt) f.op2.toNat f.ty.toNat (elemOf f.op2.toNat ((e.vargs f).a.lane i)) (e.freeLane i) else 0#32

/-- The conversion behind the checks of VCVT: by the two types it holds, widens, rounds, or converts an integer. -/
def cvtCore (f : VReg) (e : Env) : SlotOut :=
  if f.op2.toNat = f.ty.toNat then
    e.vplain f 3 fun i => holdLane f.ty.toNat (canonical f.ty.toNat (elemOf f.op2.toNat ((e.vargs f).a.lane i)))
  else if f.op2.toNat = 1 ∧ f.ty.toNat = 0 then
    e.vplain f 3 fun i => holdLane f.ty.toNat (canonical f.ty.toNat (elemOf f.op2.toNat ((e.vargs f).a.lane i) * 65536))
  else if (fmtOf f.op2.toNat).isSome || (fmtOf f.ty.toNat).isSome then
    e.rounded f.slot (e.vdst f) 3 true
      (RVec.of e.g (fun i => roundTo (e.x.rndEnv (isW f.slot) i) f.ty.toNat (laneValue f.op2.toNat ((e.vargs f).a.lane i))) (holdLane f.ty.toNat))
  else
    .act none fun s => ((s.addFlight e.c 3 (.vector (e.vdst f) (cvtLanes f e) e.g)).spendFree)

theorem evalVcvt_eq (e : Env) : evalInstr (.vcvt f) e = e.vguarded f { op2 := .own, types := tyCvt }
    [⟨f.kind != 0#2, 2, f.kind.toNat⟩, ⟨!tyCvt.contains f.op2.toNat, 3, f.op2.toNat⟩] (cvtCore f e) := rfl

include hs hr

theorem vyields_vcvt_same (h : f.op2.toNat = f.ty.toNat) :
    s.VYields x (.vcvt f) f { op2 := .own, types := tyCvt } 3 fun n =>
      holdLane f.ty.toNat (canonical f.ty.toNat (elemOf f.op2.toNat (((s.envAlone x (.vcvt f)).vargs f).a.lane n))) := by
  refine vyields_of_vplain hs hr ⟨rfl, rfl, rfl⟩ ((evalVcvt_eq _).trans ?_) fun _ _ => rfl
  rw [cvtCore, if_pos h]

theorem vyields_vcvt_widen (h : f.op2.toNat = 1 ∧ f.ty.toNat = 0) :
    s.VYields x (.vcvt f) f { op2 := .own, types := tyCvt } 3 fun n =>
      holdLane f.ty.toNat (canonical f.ty.toNat (elemOf f.op2.toNat (((s.envAlone x (.vcvt f)).vargs f).a.lane n) * 65536)) := by
  refine vyields_of_vplain hs hr ⟨rfl, rfl, rfl⟩ ((evalVcvt_eq _).trans ?_) fun _ _ => rfl
  rw [cvtCore, if_neg (by omega), if_pos h]

theorem vrounds_vcvt {r : Nat → Rounded} (h : f.op2.toNat ≠ f.ty.toNat) (hw : ¬ (f.op2.toNat = 1 ∧ f.ty.toNat = 0))
    (hf : ((fmtOf f.op2.toNat).isSome || (fmtOf f.ty.toNat).isSome) = true)
    (hround : ∀ n, r n = roundTo (x.rndEnv (isW f.slot) n) f.ty.toNat (laneValue f.op2.toNat (((s.envAlone x (.vcvt f)).vargs f).a.lane n)))
    (hassist : fmtAssist x.fmt = false ∨ ¬ x.Flushes f.g r) :
    s.VRounds x (.vcvt f) f { op2 := .own, types := tyCvt } 3 true (holdLane f.ty.toNat) r := by
  refine vrounds_of_rounded hs hr ⟨rfl, rfl, rfl⟩ ((evalVcvt_eq _).trans ?_) (fun n _ _ => (hround n).symm) hassist
  rw [cvtCore, if_neg h, if_neg hw, if_pos hf]
  rfl

theorem vcompletes_vcvt_int (h : f.op2.toNat ≠ f.ty.toNat) (hsrc : (fmtOf f.op2.toNat).isNone) (hdst : (fmtOf f.ty.toNat).isNone) :
    ∃ u : Vec, (s.VCompletes x (.vcvt f) (vStreams f { op2 := .own, types := tyCvt }) fun t =>
        (t.addFlight s.cur 3 (.vector (VReg.dest f) u (x.guard f.g))).spendFree) ∧
      ∀ n, n < 64 → (x.guard f.g).getLsbD n = true → u.lane n =
        cvtInt (fmtSat x.fmt) f.op2.toNat f.ty.toNat (elemOf f.op2.toNat (((s.envAlone x (.vcvt f)).vargs f).a.lane n))
          ((s.envAlone x (.vcvt f)).freeLane n) := by
  have hw : ¬ (f.op2.toNat = 1 ∧ f.ty.toNat = 0) := by
    rintro ⟨h1, -⟩
    rw [h1] at hsrc
    exact Bool.false_ne_true hsrc
  refine ⟨cvtLanes f (s.envAlone x (.vcvt f)), vcompletes_of_vguarded hs hr ⟨rfl, rfl, rfl⟩ ((evalVcvt_eq _).trans ?_), fun n hn hlane => ?_⟩
  · rw [cvtCore, if_neg h, if_neg hw, if_neg (by simp [Option.isNone_iff_eq_none.mp hsrc, Option.isNone_iff_eq_none.mp hdst])]
    rfl
  · exact (Vec.lane_ofLanes hn).trans (if_pos hlane)

end vcvt

/-- The lanes of VDQNT before rounding: a block scale of R396, or the scale of the tensor or of the lane. -/
theorem vrounds_vdqnt {s : State} {x : Ctx} {f : VReg} {m : VForm} {more : List Check} {rec : TRec} {scale : Nat → XR} {r : Nat → Rounded} {v : VArgs}
    {tensor block : Bool} (hs : s.Issues x) (hblock : block = f.var.getLsbD 2) (htensor : tensor = (f.kind == 1#2 || f.kind == 2#2))
    (hm : m = { types := if block then tyMx else tyQuant, variants := List.range 8 })
    (hmore : more = [⟨block && f.kind != 0#2, 2, f.kind.toNat⟩, ⟨f.var.getLsbD 0 && !(tensor && !block), 6, f.var.toNat⟩] ++
      (s.envAlone x (.vdqnt f)).tensorChecks f (tensor && !block))
    (hr : s.VReady x (.vdqnt f) f m more) (hv : v = (s.envAlone x (.vdqnt f)).vargs f)
    (hrec : rec = s.record (ctxDie s.cur) ((v.b.lane 0).toNat % 2 ^ 20))
    (hclean : tensor = true → block = false → s.poisonIn (tensorReads (ctxDie s.cur) ((v.b.lane 0).toNat % 2 ^ 20) rec.gidx) = none)
    (hscale : ∀ n, scale n = if tensor then
        fF32.value (if f.var.getLsbD 0 then s.pscale (ctxDie s.cur) rec.gidx else s.sscale (ctxDie s.cur) rec.gidx)
      else fF32.value (v.b.lane n).toNat)
    (hround : ∀ n, r n = roundTo (x.rndEnv (isW f.slot) n) (if f.var.getLsbD 1 then 1 else 0)
      (if block then mxValue f.ty.toNat ((v.a.lane n).toNat % 2 ^ laneWidth f.ty.toNat) ((v.b.lane n).toNat % 256)
        else (valueOf f.ty.toNat ((v.a.lane n).toNat % 2 ^ laneWidth f.ty.toNat)).div (scale n)))
    (hassist : fmtAssist x.fmt = false ∨ ¬ x.Flushes f.g r) :
    s.VRounds x (.vdqnt f) f m 3 true (holdLane (if f.var.getLsbD 1 then 1 else 0)) r := by
  subst hblock htensor hm hmore hv hrec
  have hscale' : (fun n => if (f.kind == 1#2 || f.kind == 2#2) = true then
        fF32.value (if f.var.getLsbD 0 = true then s.pscale (ctxDie s.cur) _ else s.sscale (ctxDie s.cur) _)
      else laneValue 0 (((s.envAlone x (.vdqnt f)).vargs f).b.lane n)) = scale :=
    funext fun n => by rw [laneValue_zero, hscale n]
  refine vrounds_of_rounded hs hr ⟨rfl, rfl, rfl⟩ ?_ (fun n _ _ => (hround n).symm) hassist
  rw [← hscale']
  refine congrArg ((s.envAlone x (.vdqnt f)).vguarded f _ _) (Env.clean_of_none ?_)
  split
  case isTrue h =>
    rw [Bool.and_eq_true, Bool.not_eq_true'] at h
    exact hclean h.1 h.2
  case isFalse => rfl

/-- Settles O13, by the branches of each conversion. -/
theorem vectorConversions : Obligations.VectorConversions := by
  rintro s x f ty src hs rfl
  refine ⟨?_, ?_, ?_, ?_, ?_⟩
  · rintro rfl m rfl hr v rfl a ha
    obtain rfl : a = fun n => elemOf f.op2.toNat (((s.envAlone x (.vcvt f)).vargs f).a.lane n) := funext ha
    refine ⟨fun h => ?_, fun hsrc hdst => ?_, fun h hw hf r hround hassist => vrounds_vcvt hs hr h hw hf hround hassist, fun h hsrc hdst => ?_⟩
    · have := vyields_vcvt_same hs hr h
      simp only [canonical_eq] at this
      rwa [h] at this ⊢
    · have := vyields_vcvt_widen hs hr ⟨hsrc, hdst⟩
      simp only [canonical_eq, hdst, show (fmtOf 0).isSome = true from rfl, true_and] at this
      exact this
    · obtain ⟨u, hc, hu⟩ := vcompletes_vcvt_int hs hr h hsrc hdst
      refine ⟨u, hc, fun n hn hlane => ⟨fun hfits => (hu n hn hlane).trans (cvtInt_eq_of_fits hfits), fun hsat hnarrow => ?_⟩⟩
      rw [hu n hn hlane, hsat, cvtInt_eq_of_narrow hnarrow]
  · rintro block m more prev tensor hblock rfl htensor hm hmore hr v hv rec scale r hrec hclean hscale hround hassist
    exact vrounds_vdqnt hs hblock htensor hm hmore hr hv hrec hclean hscale hround hassist
  · rintro hr v rfl
    refine vyields_of_vplain hs hr ⟨rfl, rfl, rfl⟩ rfl fun n hn => ?_
    dsimp only
    split
    case isTrue h => rw [Nat.div_eq_of_lt h]; rfl
    case isFalse h => rw [show n / 32 = 1 by omega]; rfl
  · rintro hr v rfl
    refine vyields_of_vplain hs hr ⟨rfl, rfl, rfl⟩ rfl fun n _ => ?_
    have hlt := (((s.envAlone x (.vsplit f)).vargs f).a.lane n).isLt
    rw [bits_from_zero, bits_eq, Nat.mod_eq_of_lt (by omega : _ / 2 ^ 16 < 2 ^ (31 - 16 + 1))] <;> rfl
  · rintro hr v rfl
    refine vyields_of_vplain hs hr ⟨rfl, rfl, rfl⟩ rfl fun n _ => BitVec.eq_of_toNat_eq ?_
    simp only [BitVec.toNat_append, BitVec.extractLsb'_toNat, BitVec.toNat_ofNat, Nat.shiftRight_zero]
    rw [← Nat.shiftLeft_add_eq_or_of_lt (Nat.mod_lt _ (by decide)), Nat.shiftLeft_eq]
    omega

end Sys2Proof.Machine

/-! ## Quantisation (R78, R395, R396) -/

namespace Sys2Proof.Machine

set_option Elab.async false

/-- The active lanes that overflow as they are quantised. -/
def quantMask (g : Mask) (ty : Nat) (val scale : Nat → XR) : Mask := Mask.ofFn fun n => g.getLsbD n && quantOvf ty (val n) (scale n)

theorem getLsbD_quantMask {g : Mask} {ty : Nat} {val scale : Nat → XR} {n : Nat} (hn : n < 64) :
    (quantMask g ty val scale).getLsbD n = (g.getLsbD n && quantOvf ty (val n) (scale n)) := Mask.getLsbD_ofFn hn

theorem lanes_quantMask (g : Mask) (ty : Nat) (val scale : Nat → XR) :
    Mask.lanes (quantMask g ty val scale) = (List.range 64).filter fun n => g.getLsbD n && quantOvf ty (val n) (scale n) :=
  List.filter_congr fun _ hn => getLsbD_quantMask (List.mem_range.mp hn)

theorem Mask.lanes_eq_nil_iff {m : Mask} : Mask.lanes m = [] ↔ m = 0#64 := by
  rw [Mask.lanes, List.filter_eq_nil_iff]
  refine ⟨fun h => Classical.byContradiction fun hne => ?_, fun h n _ => ?_⟩
  · obtain ⟨n, hn, hbit⟩ := Mask.ne_zero_iff.mp hne
    exact h n (List.mem_range.mpr hn) hbit
  · rw [h, BitVec.getLsbD_zero]
    exact Bool.false_ne_true

/-- The lanes of VQNT in its scalar and tensor forms. -/
def quantRounded (f : VReg) (e : Env) (ty : Nat) (val scale : Nat → XR) (n : Nat) : Rounded :=
  if (quantMask e.g ty val scale).getLsbD n then ⟨quantSat ty (val n), false⟩
  else roundTo (e.x.rndEnv (isW f.slot) n) ty ((val n).mul (scale n))

/-- VQNT behind its checks and the reads of its record: by block, or with what overflows saturated and counted where it does not trap. -/
def quantCore (f : VReg) (e : Env) (block tensor : Bool) (ty : Nat) (rec : TRec) (val scale : Nat → XR) : SlotOut :=
  if block then
    e.rounded f.slot (e.vdst f) 3 true
      (RVec.of e.g (fun n => ⟨mxQuant (e.x.rndEnv (isW f.slot) n) ty (val n) (bits ((e.vargs f).b.lane n) 7 0), false⟩) (holdLane ty))
  else if (if tensor && decide (2 ≤ rec.gmode) then rec.gmode == 3 else fmtTrap e.x.fmt) && quantMask e.g ty val scale != 0#64 then
    e.trap 0x09 (quantMask e.g ty val scale)
  else
    match e.rounded f.slot (e.vdst f) 3 true (RVec.of e.g (quantRounded f e ty val scale) (holdLane ty)) with
    | .act t k => .act t fun s =>
        if tensor && quantMask e.g ty val scale != 0#64 then
          (k s).addNonfinite (ctxDie e.c) rec.gidx (Mask.lanes (quantMask e.g ty val scale)).length
        else k s
    | o => o

theorem quantCore_block {f : VReg} {e : Env} {block tensor : Bool} {ty : Nat} {rec : TRec} {val scale : Nat → XR} (h : block = true) :
    quantCore f e block tensor ty rec val scale = e.rounded f.slot (e.vdst f) 3 true
      (RVec.of e.g (fun n => ⟨mxQuant (e.x.rndEnv (isW f.slot) n) ty (val n) (bits ((e.vargs f).b.lane n) 7 0), false⟩) (holdLane ty)) := by
  rw [quantCore, if_pos h]

/-- A form without a block scale that does not trap lands its lanes, and counts what a tensor form saturates. -/
theorem quantCore_scaled {f : VReg} {e : Env} {g : Mask} {block tensor : Bool} {ty : Nat} {rec : TRec} {val scale : Nat → XR} {r : Nat → Rounded}
    (hg : e.g = g) (hguard : g = e.x.guard f.g) (hblock : block = false)
    (hnotrap : ((if tensor && decide (2 ≤ rec.gmode) then rec.gmode == 3 else fmtTrap e.x.fmt) && quantMask g ty val scale != 0#64) = false)
    (hlanes : ∀ n, n < 64 → g.getLsbD n = true → quantRounded f e ty val scale n = r n)
    (hassist : fmtAssist e.x.fmt = false ∨ ¬ e.x.Flushes f.g r) :
    quantCore f e block tensor ty rec val scale = .act none fun s =>
      let s' := (s.addFlight e.c 3 (.vector (e.vdst f) (RVec.of g r (holdLane ty)).val g)).modCtx e.c fun y =>
        (y.advanceSr (isW f.slot)).flagSub ((RVec.of g r (holdLane ty)).tiny != 0#64)
      if tensor && quantMask g ty val scale != 0#64 then s'.addNonfinite (ctxDie e.c) rec.gidx (Mask.lanes (quantMask g ty val scale)).length
      else s' := by
  subst hg
  rw [quantCore, if_neg (by simp [hblock]), hnotrap, if_neg Bool.false_ne_true, RVec.of_congr hlanes, Env.rounded_of_quiet hguard hassist]
  rfl

/-- What a VQNT is asked to do: its form, its element type, the record of its tensor form, and the values and the scales of its lanes. -/
structure Quantizes (s : State) (x : Ctx) (f : VReg) (block tensor : Bool) (ty : Nat) (rec : TRec) (val scale : Nat → XR) : Prop where
  block_eq : block = f.var.getLsbD 2
  tensor_eq : tensor = (f.kind == 1#2 || f.kind == 2#2)
  type_eq : ty = if f.var.getLsbD 0 then fmtQfmt x.fmt else f.ty.toNat
  rec_eq : rec = s.record (ctxDie s.cur) (((((s.envAlone x (.vqnt f)).vargs f).b.lane 0).toNat) % 2 ^ 20)
  clean : tensor = true → block = false →
    s.poisonIn (tensorReads (ctxDie s.cur) (((((s.envAlone x (.vqnt f)).vargs f).b.lane 0).toNat) % 2 ^ 20) rec.gidx) = none
  val_eq : ∀ n, val n = laneValue (if f.var.getLsbD 1 then 1 else 0) (((s.envAlone x (.vqnt f)).vargs f).a.lane n)
  scale_eq : ∀ n, scale n = if tensor then fF32.value (s.sscale (ctxDie s.cur) rec.gidx)
    else fF32.value (((s.envAlone x (.vqnt f)).vargs f).b.lane n).toNat

section quantize
variable {s : State} {x : Ctx} {f : VReg} {block tensor : Bool} {ty : Nat} {rec : TRec} {val scale : Nat → XR}
  (hq : Quantizes s x f block tensor ty rec val scale)
include hq

theorem Quantizes.evalVqnt_eq : evalInstr (.vqnt f) (s.envAlone x (.vqnt f)) = (s.envAlone x (.vqnt f)).vguarded f
    { types := List.range 16, variants := List.range 8 }
    ([⟨block && f.kind != 0#2, 2, f.kind.toNat⟩,
      ⟨(f.var.getLsbD 0 && f.ty != 0#4) || !(if block then tyMx else tyQuant).contains ty, 4, f.ty.toNat⟩] ++
      (s.envAlone x (.vqnt f)).tensorChecks f (tensor && !block))
    (quantCore f (s.envAlone x (.vqnt f)) block tensor ty rec val scale) := by
  obtain ⟨rfl, rfl, rfl, rfl, hclean, hval, hscale⟩ := hq
  have hval' : (fun n => laneValue (if f.var.getLsbD 1 then 1 else 0) (((s.envAlone x (.vqnt f)).vargs f).a.lane n)) = val :=
    funext fun n => (hval n).symm
  have hscale' : (fun n => if (f.kind == 1#2 || f.kind == 2#2) = true then fF32.value (s.sscale (ctxDie s.cur) _)
      else laneValue 0 (((s.envAlone x (.vqnt f)).vargs f).b.lane n)) = scale :=
    funext fun n => by rw [laneValue_zero, hscale n]
  rw [← hval', ← hscale']
  refine congrArg ((s.envAlone x (.vqnt f)).vguarded f _ _) (Env.clean_of_none ?_)
  split
  case isTrue h =>
    rw [Bool.and_eq_true, Bool.not_eq_true'] at h
    exact hclean h.1 h.2
  case isFalse => rfl

end quantize

section results
variable {s : State} {x : Ctx} {f : VReg} {block tensor : Bool} {ty : Nat} {rec : TRec} {val scale : Nat → XR} {r : Nat → Rounded} (hs : s.Issues x)
  (hq : Quantizes s x f block tensor ty rec val scale)
  (hr : s.VReady x (.vqnt f) f { types := List.range 16, variants := List.range 8 }
    ([⟨block && f.kind != 0#2, 2, f.kind.toNat⟩,
      ⟨(f.var.getLsbD 0 && f.ty != 0#4) || !(if block then tyMx else tyQuant).contains ty, 4, f.ty.toNat⟩] ++
      (s.envAlone x (.vqnt f)).tensorChecks f (tensor && !block)))

include hs hq hr in
theorem vrounds_vqnt_block (hblock : block = true)
    (hround : ∀ n, r n = ⟨mxQuant (x.rndEnv (isW f.slot) n) ty (val n) ((((s.envAlone x (.vqnt f)).vargs f).b.lane n).toNat % 256), false⟩) :
    s.VRounds x (.vqnt f) f { types := List.range 16, variants := List.range 8 } 3 true (holdLane ty) r := by
  have hquiet : ¬ x.Flushes f.g r := by
    rintro ⟨n, -, -, htiny⟩
    rw [hround n] at htiny
    exact Bool.false_ne_true htiny
  exact vrounds_of_rounded hs hr ⟨rfl, rfl, rfl⟩ (hq.evalVqnt_eq.trans (congrArg _ (quantCore_block hblock))) (fun n _ _ => (hround n).symm) (.inr hquiet)

variable (hblock : block = false)
  (hround : ∀ n, r n = if quantOvf ty (val n) (scale n) then ⟨quantSat ty (val n), false⟩
    else roundTo (x.rndEnv (isW f.slot) n) ty ((val n).mul (scale n)))
  (hassist : fmtAssist x.fmt = false ∨ ¬ x.Flushes f.g r)

include hround in
/-- On the active lanes, what overflows and what the mask says agree. -/
theorem quantRounded_eq {n : Nat} (hn : n < 64) (hlane : (x.guard f.g).getLsbD n = true) :
    quantRounded f (s.envAlone x (.vqnt f)) ty val scale n = r n := by
  have hguard : (s.envAlone x (.vqnt f)).g.getLsbD n = true := hlane
  rw [quantRounded, getLsbD_quantMask hn, hguard, Bool.true_and, hround n]
  rfl

include hs hq hr hblock hround hassist

/-- What VQNT does where nothing traps: its result, and the count of a tensor form with lanes that overflow. -/
theorem vcompletes_vqnt (htrap : quantMask (x.guard f.g) ty val scale = 0#64 ∨
      (if tensor && decide (2 ≤ rec.gmode) then rec.gmode == 3 else fmtTrap x.fmt) = false) :
    ∃ (u : Vec) (tiny : Bool), (tiny = true ↔ x.Flushes f.g r) ∧
      (s.VCompletes x (.vqnt f) (vStreams f { types := List.range 16, variants := List.range 8 }) fun t =>
        let t' := (t.addFlight s.cur 3 (.vector (VReg.dest f) u (x.guard f.g))).modCtx s.cur fun y =>
          (y.advanceSr (isW f.slot)).flagSub tiny
        if tensor && quantMask (x.guard f.g) ty val scale != 0#64 then
          t'.addNonfinite (ctxDie s.cur) rec.gidx (Mask.lanes (quantMask (x.guard f.g) ty val scale)).length
        else t') ∧
      ∀ n, n < 64 → (x.guard f.g).getLsbD n = true → u.lane n = holdLane ty (r n).bits := by
  have hguard : (s.envAlone x (.vqnt f)).g = x.guard f.g := rfl
  have hnotrap : ((if tensor && decide (2 ≤ rec.gmode) then rec.gmode == 3 else fmtTrap (s.envAlone x (.vqnt f)).x.fmt) &&
      quantMask (x.guard f.g) ty val scale != 0#64) = false :=
    htrap.elim (fun h => by rw [h]; exact Bool.and_false _) fun h => (congrArg (· && _) h).trans (Bool.false_and _)
  have hcore : quantCore f (s.envAlone x (.vqnt f)) block tensor ty rec val scale = _ :=
    quantCore_scaled rfl hguard hblock hnotrap (fun n hn hlane => quantRounded_eq hround hn hlane) hassist
  exact ⟨_, _, RVec.tiny_iff_flushes, vcompletes_of_vguarded hs hr ⟨rfl, rfl, rfl⟩ (hq.evalVqnt_eq.trans (congrArg _ hcore)), fun n hn hlane => RVec.lane_val hn hlane⟩

theorem vrounds_vqnt (hquiet : quantMask (x.guard f.g) ty val scale = 0#64 ∨ tensor = false ∧ fmtTrap x.fmt = false) :
    s.VRounds x (.vqnt f) f { types := List.range 16, variants := List.range 8 } 3 true (holdLane ty) r := by
  obtain ⟨u, tiny, htiny, hc, hu⟩ := vcompletes_vqnt hs hq hr hblock hround hassist (hquiet.imp_right fun ⟨h1, h2⟩ => by simp [h1, h2])
  have hcount : (tensor && quantMask (x.guard f.g) ty val scale != 0#64) = false := by
    rcases hquiet with h | ⟨h, -⟩ <;> simp [h]
  simp only [hcount, Bool.false_eq_true, ↓reduceIte] at hc
  exact ⟨u, tiny, htiny, hc, hu⟩

theorem vcompletes_vqnt_counted (hovf : quantMask (x.guard f.g) ty val scale ≠ 0#64) (htensor : tensor = true)
    (htrap : if 2 ≤ rec.gmode then rec.gmode ≠ 3 else fmtTrap x.fmt = false) :
    ∃ (u : Vec) (tiny : Bool), (tiny = true ↔ x.Flushes f.g r) ∧
      (s.VCompletes x (.vqnt f) (vStreams f { types := List.range 16, variants := List.range 8 }) fun t =>
        ((t.addFlight s.cur 3 (.vector (VReg.dest f) u (x.guard f.g))).modCtx s.cur fun y =>
          (y.advanceSr (isW f.slot)).flagSub tiny).addNonfinite (ctxDie s.cur) rec.gidx
            (Mask.lanes (quantMask (x.guard f.g) ty val scale)).length) ∧
      ∀ n, n < 64 → (x.guard f.g).getLsbD n = true → u.lane n = holdLane ty (r n).bits := by
  have hnone : (if tensor && decide (2 ≤ rec.gmode) then rec.gmode == 3 else fmtTrap x.fmt) = false := by
    by_cases h : 2 ≤ rec.gmode <;> simpa [h, htensor] using htrap
  obtain ⟨u, tiny, htiny, hc, hu⟩ := vcompletes_vqnt hs hq hr hblock hround hassist (.inr hnone)
  have hcount : (tensor && quantMask (x.guard f.g) ty val scale != 0#64) = true := by simp [htensor, hovf]
  simp only [hcount, ↓reduceIte] at hc
  exact ⟨u, tiny, htiny, hc, hu⟩

end results

/-- Settles O14, by the block form and the forms with one scale. -/
theorem vectorQuantize : Obligations.VectorQuantize := by
  rintro s x f block tensor ty m v rec val scale r hs hblock htensor hty rfl rfl hrec hclean hval hscale hr
  have hq : Quantizes s x f block tensor ty rec val scale := ⟨hblock, htensor, hty, hrec, hclean, hval, hscale⟩
  refine ⟨fun hb hround => vrounds_vqnt_block hs hq hr hb hround, ?_⟩
  rintro hb lanes rfl hround hassist
  rw [← lanes_quantMask]
  refine ⟨fun hquiet => vrounds_vqnt hs hq hr hb hround hassist (hquiet.imp_left Mask.lanes_eq_nil_iff.mp), fun hovf ht htrap => ?_⟩
  exact vcompletes_vqnt_counted hs hq hr hb hround hassist (mt Mask.lanes_eq_nil_iff.mpr hovf) ht htrap

end Sys2Proof.Machine

/-! ## Vector moves, permutations, tables, pixels, random words, reductions and scans (R401 to R418) -/

namespace Sys2Proof.Machine

set_option Elab.async false

/-- A form without bad fields has one of its variants. -/
theorem variant_mem {e : Env} {f : VReg} {m : VForm} {more : List Check} (h : NoBad (e.vchecks f m ++ more)) : f.var.toNat ∈ m.variants := by
  have hbad : (⟨!m.variants.contains f.var.toNat, 6, f.var.toNat⟩ : Check).bad = false :=
    (noBad_iff _).mp h _ (List.mem_append_left _ (by simp [Env.vchecks]))
  rw [Bool.not_eq_false'] at hbad
  exact List.mem_of_elem_eq_true hbad

theorem vStep_zero (step : Nat) (v : BitVec 9) : vStep 0 step v = v.toNat := by
  rw [vStep, Nat.zero_mul, Nat.add_zero, ite_self]

/-! ### Lanes -/

theorem bits_high_ne_zero_iff (x : W32) : bits x 31 6 ≠ 0 ↔ 64 ≤ x.toNat := by
  have hlt := x.isLt
  rw [bits_eq]
  omega

/-- The lanes that VSHUF takes, in the order of its variants. -/
theorem shuffle_eq {mode n : Nat} {a b : Vec} (hmode : mode ≤ 5) (hn : n < 64) : shuffle mode n a b =
    [if n % 2 = 0 then a.lane (n / 2) else b.lane (n / 2), if n % 2 = 0 then a.lane (32 + n / 2) else b.lane (32 + n / 2),
      if n < 32 then a.lane (2 * n) else b.lane (2 * (n - 32)), if n < 32 then a.lane (2 * n + 1) else b.lane (2 * (n - 32) + 1),
      a.lane (63 - n), a.lane ((n + 32) % 64)].getD mode 0#32 := by
  have hhalf (h : ¬ n % 2 = 0) : (n - 1) / 2 = n / 2 := by omega
  match mode, hmode with
  | 0, _ => exact ite_congr rfl (fun _ => rfl) fun h => by rw [hhalf h]
  | 1, _ => exact ite_congr rfl (fun _ => rfl) fun h => by rw [hhalf h]
  | 2, _ => exact ite_congr rfl (fun _ => rfl) fun _ => by rw [Nat.mul_sub]
  | 3, _ => exact ite_congr rfl (fun _ => rfl) fun h => by rw [show 2 * n - 63 = 2 * (n - 32) + 1 by omega]
  | 4, _ => rfl
  | 5, _ => exact congrArg a.lane ((by decide : ∀ n < 64, n ^^^ 32 = (n + 32) % 64) n hn)

theorem vbextWidth_eq {var : Nat} (h : var ∈ List.range 8) : vbextWidth var = [1, 2, 3, 4, 6, 8, 12, 16].getD var 0 := by
  rw [vbextWidth, getD_of_lt _ (by simpa using h), getD_of_lt _ (by simpa using h)]

theorem pixelOf_shifted (y : Nat) (low : Bool) (n : Nat) :
    pixelOf (y / 2 ^ (if low then 768 else 0)) n = y / 2 ^ ((if low then 768 else 0) + 12 * n) % 4096 := by
  rw [pixelOf, Nat.div_div_eq_div_mul, Nat.pow_add]

section completion
variable {s : State} {x : Ctx} {i : Instr} {f : VReg} {m : VForm} {more : List Check} (hs : s.Issues x) (hr : s.VReady x i f m more)
  (ha : ActsUnder i f.g)
include hs hr ha

/-- A reduction or a scan completes where no flushed lane asks for SUBNORM_ASSIST. -/
theorem vcompletes_of_reduced {lat : Nat} {v : Vec} {tiny : Mask} (hassist : fmtAssist x.fmt = false)
    (he : evalInstr i (s.envAlone x i) = (s.envAlone x i).vguarded f m more ((s.envAlone x i).reduced f lat v tiny)) :
    s.VCompletes x i (vStreams f m) fun t =>
      (t.addFlight s.cur lat (.vector (VReg.dest f) v (x.guard f.g))).modCtx s.cur fun y => y.flagSub (tiny != 0#64) := by
  have hguard : (s.envAlone x i).g = x.guard f.g := congrArg x.guard ha.guard
  have hquiet : (fmtAssist (s.envAlone x i).x.fmt && tiny != 0#64) = false := (congrArg (· && _) hassist).trans (Bool.false_and _)
  rw [Env.reduced, hquiet, if_neg Bool.false_ne_true, hguard] at he
  exact vcompletes_of_vguarded hs hr ha he

end completion

/-! ### Reductions, scans and copies -/

section whole
variable {s : State} {x : Ctx} {f : VReg} (hs : s.Issues x)
include hs

theorem vcompletes_vred {m : VForm} {ty mode : Nat} {t : List (Option Nat) × Bool} (hassist : fmtAssist x.fmt = false) (hty : ty = f.ty.toNat)
    (hm : m = { op2 := .zero, types := if f.var = 3#3 then [0, 1] else [0, 1] ++ tyInt, variants := [0, 1, 2, 3] })
    (hr : s.VReady x (.vred f) f m []) (hmode : mode = if f.var = 3#3 then 1 else f.var.toNat)
    (ht : t = treeReduce ty mode 6 ((List.range 64).map fun n =>
      if (x.guard f.g).getLsbD n then
        some (if f.var = 3#3 then elemOf ty (((s.envAlone x (.vred f)).vargs f).a.lane n) % 2 ^ (laneWidth ty - 1)
          else elemOf ty (((s.envAlone x (.vred f)).vargs f).a.lane n))
      else none)) :
    s.VCompletes x (.vred f) (vStreams f m) fun u =>
      (u.addFlight s.cur 6 (.vector (VReg.dest f) (Vec.splat (holdLane ty (canonical ty ((t.1.headD none).getD 0)))) (x.guard f.g))).modCtx s.cur
        fun y => y.flagSub t.2 := by
  subst hty hm hmode ht
  have hc := vcompletes_of_reduced hs hr ⟨rfl, rfl, rfl⟩ hassist rfl
  have htiny (q : List (Option Nat) × Bool) : ((if q.2 then x.guard f.g else 0#64) != 0#64) = q.2 := by
    cases q.2
    · rfl
    · rw [if_pos rfl, bne_iff_ne]
      exact hr.1
  have hguard : (s.envAlone x (.vred f)).g = x.guard f.g := rfl
  rw [hguard] at hc
  simp only [htiny] at hc
  exact hc

theorem vcompletes_vscan {m : VForm} {ty : Nat} {a : ScanAcc} (hassist : fmtAssist x.fmt = false) (hty : ty = f.ty.toNat)
    (hm : m = { types := [0, 1] ++ tyInt, variants := List.range 6 }) (hr : s.VReady x (.vscan f) f m [])
    (ha : a = (Mask.lanes (x.guard f.g)).foldl
      (ScanAcc.step ty (f.var.toNat / 2) (f.var.getLsbD 0) fun n => elemOf ty (((s.envAlone x (.vscan f)).vargs f).a.lane n))
      ⟨if f.kind = 0#2 ∧ f.op2 = 336#9 then none else some (canonical ty (elemOf ty (((s.envAlone x (.vscan f)).vargs f).b.lane 63))), false, [], 0#64⟩) :
    s.VCompletes x (.vscan f) (vStreams f m) fun u =>
      (u.addFlight s.cur 8 (.vector (VReg.dest f) (Vec.ofLanes fun n => SMap.get 0#32 a.out n) (x.guard f.g))).modCtx s.cur fun y =>
        y.flagSub (a.tiny != 0#64) := by
  have hmode : f.var.toNat / 2 = bits f.var 2 1 := by
    have := f.var.isLt
    rw [bits_eq]
    omega
  subst hty hm ha
  rw [hmode]
  exact vcompletes_of_reduced hs hr ⟨rfl, rfl, rfl⟩ hassist rfl

end whole

/-- What VCPY copies, by its variant: the vector, a lane to a scalar register, or the first lane to a lane. -/
def vcpyCore (f : VReg) (e : Env) (r lane file : Nat) : SlotOut :=
  match f.var.toNat with
  | 0 => e.result 2 (.vector (.vreg (!isW f.slot) r) (e.vargs f).a e.g)
  | 1 => e.result 2 (.scalar (fileDest file r)
      (if isSignedTy f.ty.toNat then BitVec.ofInt 64 (intOf f.ty.toNat (elemOf f.ty.toNat ((e.vargs f).a.lane lane)))
        else BitVec.ofNat 64 (elemOf f.ty.toNat ((e.vargs f).a.lane lane))))
  | _ => e.result 2 (.vector (.vreg (!isW f.slot) r) (Vec.splat ((e.vargs f).a.lane 0)) (1#64 <<< lane))

theorem fileDest_eq {file : Nat} (r : Nat) (h : file < 4) : fileDest file r = [Dest.a r, .b r, .d r, .e r].getD file (.a r) :=
  match file, h with
  | 0, _ => rfl
  | 1, _ => rfl
  | 2, _ => rfl
  | 3, _ => rfl

section copy
variable {s : State} {x : Ctx} {f : VReg} {m : VForm} {r lane file : Nat} (hs : s.Issues x)
  (hm : m = { vd := .own, op2 := .own, types := if f.var.toNat = 1 then [0, 1] ++ tyInt else [9], variants := [0, 1, 2] })
  (hr : s.VReady x (.vcpy f) f m ((s.envAlone x (.vcpy f)).vcpyChecks f)) (hd : r = f.vd.toNat)
  (hlane : lane = f.op2.toNat % 64) (hfile : file = f.op2.toNat / 64)

include hfile in
theorem bits_eq_file : bits f.op2 8 6 = file := by
  have := f.op2.isLt
  rw [hfile, bits_eq]
  omega

include hfile in
/-- A scalar destination of VCPY is in one of the first four files. -/
theorem vcpy_file_lt {e : Env} (hvar : f.var = 1#3) (hn : NoBad (e.vchecks f m ++ e.vcpyChecks f)) : file < 4 := by
  have hbad := (noBad_iff _).mp (noBad_append.mp hn).2 _ (List.mem_cons_of_mem _ (List.mem_cons_of_mem _ (List.mem_singleton.mpr rfl)))
  simp only [hvar, bits_eq_file hfile, Bool.or_eq_false_iff] at hbad
  exact Nat.lt_of_not_le fun h => absurd hbad.1 (by simp; omega)

include hs hm hr hd hlane hfile

theorem vcompletes_vcpy {k : State → State} (hact : f.var = 0#3 ∨ (x.guard f.g).getLsbD lane = true)
    (hcore : vcpyCore f (s.envAlone x (.vcpy f)) r lane file = .act none k) : s.VCompletes x (.vcpy f) (vStreams f m) k := by
  refine vcompletes_of_vguarded hs hr ⟨rfl, rfl, rfl⟩ ?_
  have hkeep : ¬ ((f.var.toNat = 1 ∨ f.var.toNat = 2) ∧ (!(x.guard f.g).getLsbD lane) = true) := by
    rintro ⟨hvar, hlane⟩
    rcases hact with h | h
    · simp [h] at hvar
    · simp [h] at hlane
  rw [← hcore, vcpyCore, ← bits_eq_file hfile, hd, ← vStep_zero f.step.toNat f.vd, hm]
  subst hlane
  exact if_neg hkeep

omit hd hfile in
theorem vcompletes_vcpy_dropped (hvar : f.var ≠ 0#3) (hlane' : (x.guard f.g).getLsbD lane = false) :
    s.VCompletes x (.vcpy f) (vStreams f m) id := by
  have hvariant : f.var.toNat = 1 ∨ f.var.toNat = 2 := by
    have hmem := variant_mem hr.2.1
    have hne : f.var.toNat ≠ 0 := fun h => hvar (BitVec.eq_of_toNat_eq h)
    subst hm
    simpa [hne] using hmem
  have hact := vguarded_of_ready (tok := none) (k := id) hr ⟨rfl, rfl, rfl⟩
  have hdrop : (!(s.envAlone x (.vcpy f)).g.getLsbD lane) = true := (congrArg not hlane').trans rfl
  subst hlane hm
  refine completes_of_answer rfl hs rfl ((if_pos ⟨hvariant, hdrop⟩).trans ?_)
  rw [hact]
  rfl

end copy

/-! ### The statement -/

theorem vunpk12_lane_eq (y : Nat) (low high : Bool) (n : Nat) :
    BitVec.ofNat 32 (if high then pixelOf (y / 2 ^ (if low then 768 else 0)) n * 16 else pixelOf (y / 2 ^ (if low then 768 else 0)) n) =
      (let p := y / 2 ^ ((if low then 768 else 0) + 12 * n) % 4096
       BitVec.ofNat 32 (if high then p * 16 else p)) := by
  rw [pixelOf_shifted]

/-- Settles O15: each operation is one of a plain result, a reduction, a copy, or a fold over its active lanes. -/
theorem vectorMovesAndReductions : Obligations.VectorMovesAndReductions := by
  constructor
  · rintro s x f ty w hs rfl rfl v rfl k rfl
    refine ⟨?_, ?_, ?_, ?_, ?_, ?_, ?_, ?_, ?_, ?_, ?_, ?_⟩
    · intro hr
      exact vyields_of_vplain hs hr ⟨rfl, rfl, rfl⟩ rfl fun _ _ => rfl
    · intro hr
      exact vyields_of_vplain hs hr ⟨rfl, rfl, rfl⟩ rfl fun _ _ => rfl
    · intro hr
      exact vyields_of_vplain hs hr ⟨rfl, rfl, rfl⟩ rfl fun _ _ => rfl
    · intro hr
      refine vyields_of_vplain hs hr ⟨rfl, rfl, rfl⟩ rfl fun n _ => ?_
      exact ite_congr (propext (and_congr_right fun _ => bits_high_ne_zero_iff _)) (fun _ => rfl) fun _ => rfl
    · rintro m rfl hr
      refine vyields_of_vplain hs hr ⟨rfl, rfl, rfl⟩ rfl fun n hn => ?_
      exact shuffle_eq (Nat.lt_succ_iff.mp (List.mem_range.mp (variant_mem hr.2.1))) hn
    · intro hr
      exact vyields_of_vplain hs hr ⟨rfl, rfl, rfl⟩ rfl fun _ _ => rfl
    · rintro hr wd rfl
      refine vyields_of_vplain hs hr ⟨rfl, rfl, rfl⟩ rfl fun n _ => ?_
      have hty : f.ty = 8#4 ↔ f.ty.toNat = 8 := ⟨fun h => h ▸ rfl, fun h => BitVec.eq_of_toNat_eq h⟩
      rw [vbextWidth_eq (variant_mem hr.2.1)]
      exact ite_congr (propext hty) (fun _ => rfl) fun _ => rfl
    · intro hr
      exact vyields_of_vplain hs hr ⟨rfl, rfl, rfl⟩ rfl fun _ _ => rfl
    · intro hr
      have hc := vcompletes_of_vguarded hs hr ⟨rfl, rfl, rfl⟩ rfl
      simp only [List.foldl_filter]
      exact hc
    · intro hr
      exact vyields_of_vplain hs hr ⟨rfl, rfl, rfl⟩ rfl fun n _ => vunpk12_lane_eq (vecNat ((s.envAlone x (.vunpk12 f)).vargs f).a) (f.var.getLsbD 0) (f.var.getLsbD 1) n
    · intro hr base act old keep new hbase hact hold hkeep hnew
      have hhigh (y : W32) : y.toNat / 16 % 4096 = bits y 15 4 := (bits_eq y 15 4).symm
      have hlow (y : W32) : y.toNat % 4096 = bits y 11 0 := rfl
      rw [hkeep, hnew, hold, hact, hbase]
      simp only [List.foldl_filter, hhigh, hlow]
      exact vcompletes_of_vguarded hs hr ⟨rfl, rfl, rfl⟩ rfl
    · intro hr
      refine vyields_of_vplain hs hr ⟨rfl, rfl, rfl⟩ rfl fun n _ => ?_
      dsimp only
      rw [BitVec.toNat_ushiftRight, Nat.shiftRight_eq_div_pow]
      rfl
  · rintro s x f ty hs rfl hassist
    refine ⟨?_, ?_, ?_⟩
    · rintro m v t mode hm hr rfl hmode ht
      exact vcompletes_vred hs hassist rfl hm hr hmode ht
    · rintro m v a hm hr rfl ha
      exact vcompletes_vscan hs hassist rfl hm hr ha
    · rintro m v r lane file hm hr rfl hd hlane hfile
      refine ⟨fun hvar => ?_, fun hvar hl => ?_, fun hvar hl => ?_, fun hvar hl => vcompletes_vcpy_dropped hs hm hr hlane hvar hl⟩
      · refine vcompletes_vcpy hs hm hr hd hlane hfile (.inl hvar) ?_
        rw [vcpyCore, hvar]
        rfl
      · refine vcompletes_vcpy hs hm hr hd hlane hfile (.inr hl) ?_
        rw [vcpyCore, hvar, fileDest_eq r (vcpy_file_lt hfile hvar hr.2.1)]
        rfl
      · refine vcompletes_vcpy hs hm hr hd hlane hfile (.inr hl) ?_
        rw [vcpyCore, hvar]
        rfl

end Sys2Proof.Machine

/-! ## Matrix operations: the order of their checks, and the operations on a tile (R210, R211, R223, R225, R420, R422 to R431) -/

namespace Sys2Proof.Machine

set_option Elab.async false

theorem Env.guarded_of_noBad {e : Env} {cs : List Check} {k : SlotOut} (hg : e.g.getLsbD 0 = true) (hn : NoBad cs) : e.guarded cs k = k :=
  Env.guarded_of e cs k hg hn

theorem Env.aligned_of {e : Env} {n : Nat} {os : List Int} {k : SlotOut} (h : ∀ o ∈ os, o % (n : Int) = 0) : e.aligned n os k = k := by
  have hfind : (os.find? fun (o : Int) => o % (n : Int) != 0) = none :=
    List.find?_eq_none.mpr fun o ho => by simp [h o ho]
  rw [Env.aligned, hfind]

theorem Env.insideAll_of {e : Env} {ps : List Span} {k : SlotOut} (h : ∀ p ∈ ps, p.inside (e.s.part e.c) = true) : e.insideAll ps k = k := by
  have hfind : (ps.find? fun p => !p.inside (e.s.part e.c)) = none := List.find?_eq_none.mpr fun p hp => by simp [h p hp]
  rw [Env.insideAll, hfind]

theorem Env.bankgroup_none {e : Env} {k : SlotOut} : e.bankgroup none k = k := rfl

/-- A tile that no unfinished join holds and, where the operation asks for it, that no macro-op uses, is ready. -/
theorem Env.mready_of {e : Env} {z : BitVec 5} {busy : Bool} {k : SlotOut} (hj : e.x.joinHolds z.toNat = false)
    (hb : busy = false ∨ e.x.busyUpto z.toNat = none) : e.mready z busy k = k := by
  have hnone : (if busy then e.x.busyUpto z.toNat else none) = none := by
    rcases hb with h | h <;> simp [h]
  rw [Env.mready, hj, if_neg Bool.false_ne_true, hnone]

section ready
variable {s : State} {x : Ctx} {i : Instr} {g : Guard} {z : BitVec 5} {cs : List Check} (hs : s.Issues x) (hg : x.Guarded g) (hm : s.MReady x z)
  (hn : NoBad cs) (ha : ActsUnder i g)
include hg hm hn ha

theorem Env.mguarded_of {k : SlotOut} : (s.envAlone x i).mguarded z cs k = k := by
  obtain ⟨htile, hfrozen, -, hodd, heven⟩ := hm
  have hbad : (decide (partTiles (s.part s.cur) ≤ z.toNat) || x.frozenTile z.toNat) = false := by
    rw [hfrozen, Bool.or_false]
    exact decide_eq_false (Nat.not_le_of_lt htile)
  have hmode {n : Nat} (h : (s.cluster (ctxCluster s.cur)).winmode.toNat = n) (hlt : n < 8) : (s.cluster (ctxCluster s.cur)).winmode = BitVec.ofNat 3 n :=
    BitVec.eq_of_toNat_eq (by rw [h, BitVec.toNat_ofNat, Nat.mod_eq_of_lt hlt])
  rw [Env.mguarded, Env.guarded_of_noBad (envAlone_guarded ha hg) (noBad_cons.mpr ⟨hbad, hn⟩)]
  refine if_neg ?_
  rintro (⟨h5, hcore⟩ | ⟨h6, hcore⟩)
  · exact hodd ⟨hmode h5 (by decide), hcore⟩
  · exact heven ⟨hmode h6 (by decide), hcore⟩

include hs

theorem completes_of_mguarded {tok : Option Nat} {k : State → State}
    (he : evalInstr i (s.envAlone x i) = (s.envAlone x i).mguarded z cs (.act tok k)) : s.Completes x i tok k :=
  completes_of_answer ha.encoded hs ha.atIssue (he.trans (Env.mguarded_of hg hm hn ha))

/-- An operation on a tile that no macro-op uses completes. -/
theorem completes_of_mready {busy : Bool} {tok : Option Nat} {k : State → State} (hb : busy = false ∨ x.busyUpto z.toNat = none)
    (he : evalInstr i (s.envAlone x i) = (s.envAlone x i).mguarded z cs ((s.envAlone x i).mready z busy (.act tok k))) :
    s.Completes x i tok k := by
  rw [Env.mready_of (e := s.envAlone x i) hm.2.2.1 hb] at he
  exact completes_of_mguarded hs hg hm hn ha he

/-- An operation that moves rows between a tile and a span completes where the span is aligned, of one group that no macro-op reads, and inside
the scratchpad. -/
theorem completes_of_span {busy : Bool} {align : Nat} {p : Span} {tok : Option Nat} {k : State → State}
    (hb : busy = false ∨ x.busyUpto z.toNat = none) (halign : p.lo % (align : Int) = 0) (hgroup : (s.envAlone x i).spanOffence p = none)
    (hin : p.inside (s.part s.cur) = true)
    (he : evalInstr i (s.envAlone x i) = (s.envAlone x i).mguarded z cs ((s.envAlone x i).aligned align [p.lo]
      ((s.envAlone x i).bankgroup ((s.envAlone x i).spanOffence p) ((s.envAlone x i).insideAll [p] ((s.envAlone x i).mready z busy (.act tok k)))))) :
    s.Completes x i tok k := by
  rw [Env.aligned_of (by simpa using halign), hgroup, Env.bankgroup_none, Env.insideAll_of fun q hq => List.mem_singleton.mp hq ▸ hin] at he
  exact completes_of_mready hs hg hm hn ha hb he

end ready

theorem Span.map_read {α : Type} (p : Span) (m : Mem) (row : List Byte → α) :
    (p.read m).map row = (List.range p.rows).map fun i => row (Mem.read m (p.lo.toNat + 32 * i * p.pitch) p.width) :=
  List.map_map

/-- Settles O16, by the order of checks that the operations on a tile share. -/
theorem matrixTileOps : Obligations.MatrixTileOps := by
  intro s x hs
  refine ⟨?_, ?_, ?_, ?_, ?_⟩
  · rintro f w hg hm hb hrest rfl hw
    exact completes_of_mready hs hg hm (by simp [hrest, hw]) ⟨rfl, rfl, rfl⟩ (.inr hb) rfl
  · intro f hg hm hb hrest
    exact completes_of_mready hs hg hm (by simp [hrest]) ⟨rfl, rfl, rfl⟩ (.inr hb) rfl
  · rintro f tile hg hm hrest hrows hbound hbuf rfl
    exact completes_of_mready hs hg hm (by simpa [hrest, hbound, hbuf] using hrows) ⟨rfl, rfl, rfl⟩ (.inl rfl) rfl
  · rintro f m p hg hm hb hrest hrows rfl hdesc rfl halign hgroup hin
    have hn : NoBad [⟨decide (64 < f.rp.toNat + f.np.toNat + 1), 6, f.np.toNat⟩, ⟨f.rest != 0#17, 6, f.rest.toNat⟩,
        ⟨descBad (x.mReg f.ma.toNat) true, 7, f.ma.toNat⟩] := by
      simpa [hrest, hdesc] using hrows
    refine completes_of_span (busy := true) hs hg hm hn ⟨rfl, rfl, rfl⟩ (.inr hb) halign hgroup hin ?_
    rw [evalInstr_mwrite, evalMwrite, Span.map_read]
    rfl
  · rintro f m p tile hg hm hrest rfl hdesc rfl halign hgroup hin rfl
    exact completes_of_span hs hg hm (by simp [hrest, hdesc]) ⟨rfl, rfl, rfl⟩ (.inl rfl) halign hgroup hin rfl

end Sys2Proof.Machine

/-! ## Macro-ops and matrix joins at their issue (R209, R234, R424, R425, R432) -/

namespace Sys2Proof.Machine

set_option Elab.async false

/-! ### Macro-ops -/

/-- The K-extent of a macro-op. -/
def macroExtent (f : MMac) : Nat := if f.kq = 0#7 then 4096 else 32 * f.kq.toNat

/-- The descriptors that a macro-op reads. -/
def macroRegs (f : MMac) (mx : Bool) : List Nat :=
  if mx then [f.ma.toNat, f.mb.toNat, f.ma.toNat + 1, f.mb.toNat + 1] else [f.ma.toNat, f.mb.toNat]

/-- The span that a descriptor of a context gives. -/
def Ctx.span (x : Ctx) (r rows width : Nat) : Span := ⟨descBase (x.mReg r) 0, descPitch (x.mReg r), rows, width⟩

def macroSpanA (f : MMac) (x : Ctx) : Span :=
  x.span f.ma.toNat (if f.ta == 1#1 then macroExtent f else 128) (rowBytes f.format.toNat (if f.ta == 1#1 then 128 else macroExtent f))

def macroSpanB (f : MMac) (x : Ctx) : Span :=
  x.span f.mb.toNat (if f.tb == 1#1 then 128 else macroExtent f) (rowBytes f.format.toNat (if f.tb == 1#1 then macroExtent f else 128))

/-- The spans of a macro-op in the order of its checks. -/
def macroSpans (f : MMac) (mx : Bool) (x : Ctx) : List Span :=
  if mx then [macroSpanA f x, macroSpanB f x, x.span (f.ma.toNat + 1) 128 (macroExtent f / 32), x.span (f.mb.toNat + 1) (macroExtent f / 32) 128]
  else [macroSpanA f x, macroSpanB f x]

/-- The array cycles of the K-steps of a macro-op. -/
def State.macroSteps (s : State) (f : MMac) : Nat :=
  windowFactor (s.cluster (ctxCluster s.cur)).winmode.toNat * ceilDiv (macroExtent f) (macroRate f.format.toNat)

def State.macroLand (s : State) (x : Ctx) (f : MMac) : Nat :=
  match x.busyUpto f.z.toNat with
  | some n => max (x.count + 16 + s.macroSteps f - 1) (n + s.macroSteps f)
  | none => x.count + 16 + s.macroSteps f - 1

/-- The macro-op that an issue starts, its operand bytes as they stand. -/
def State.macroOpOf (s : State) (x : Ctx) (f : MMac) (mx : Bool) : MacroOp :=
  let pad := (s.core (ctxCore s.cur)).spad
  let tile := SMap.get {} x.z f.z.toNat
  { z := f.z.toNat, fmt := f.format.toNat, k := macroExtent f, ta := f.ta == 1#1, tb := f.tb == 1#1, ovw := f.ovw == 1#1
    gauge := if f.gauge == 1#1 && fmtGauge x.fmt then some tile.gidx.toNat else none
    assist := fmtAssist x.fmt
    aRows := (macroSpanA f x).read pad, bRows := (macroSpanB f x).read pad
    sa := if mx then (x.span (f.ma.toNat + 1) 128 (macroExtent f / 32)).read pad else []
    sb := if mx then (x.span (f.mb.toNat + 1) (macroExtent f / 32) 128).read pad else []
    groups := [(macroSpanA f x).group (s.part s.cur), (macroSpanB f x).group (s.part s.cur)]
    start := if (x.busyUpto f.z.toNat).isSome then none else some tile, pc := x.pc
    window := windowFactor (s.cluster (ctxCluster s.cur)).winmode.toNat }

/-- The field checks of a macro-op. -/
def macroChecks (f : MMac) (mx : Bool) (x : Ctx) : List Check :=
  let fmt := f.format.toNat
  let tile := SMap.get {} x.z f.z.toNat
  [ ⟨(if mx then [4, 5, 6, 7] else [1, 2, 3]).contains fmt && tile.i32 != (fmt == 5 || fmt == 6 || fmt == 7), 0, f.z.toNat⟩,
    ⟨mx && f.ma.toNat % 2 == 1, 1, f.ma.toNat⟩, ⟨mx && f.mb.toNat % 2 == 1, 2, f.mb.toNat⟩,
    ⟨!(if mx then [4, 5, 6, 7] else [1, 2, 3]).contains fmt, 4, fmt⟩,
    ⟨f.gauge == 1#1 && !tile.gv, 5, 8 * f.ta.toNat + 4 * f.tb.toNat + 2 * f.ovw.toNat + f.gauge.toNat⟩,
    ⟨f.rest != 0#10, 6, f.rest.toNat⟩ ] ++
  (macroRegs f mx).map fun r => ⟨descBad (x.mReg r) true, 7, r⟩

theorem span_ite (c : Bool) (x : Ctx) (r m n fmt a b : Nat) :
    (if c then x.span r m (rowBytes fmt a) else x.span r n (rowBytes fmt b)) = x.span r (if c then m else n) (rowBytes fmt (if c then a else b)) := by
  cases c <;> rfl

theorem evalMacro_eq {s : State} {x : Ctx} {i : Instr} (f : MMac) (mx : Bool) : evalMacro f mx (s.envAlone x i) =
    (s.envAlone x i).mguarded f.z (macroChecks f mx x) ((s.envAlone x i).aligned 32 ((macroSpans f mx x).map Span.lo)
      (if mx && (f.ta == 1#1 || f.tb == 1#1) then (s.envAlone x i).trap 0x08 0#64
        else (s.envAlone x i).bankgroup (macroOffence (s.part s.cur) (macroSpans f mx x)) ((s.envAlone x i).insideAll (macroSpans f mx x)
          ((s.envAlone x i).mready f.z false (.act none fun t => t.modCtx s.cur fun y =>
            { y with flight := y.flight ++ [⟨s.macroLand x f, .macroOp (s.macroOpOf x f mx)⟩] }))))) := by
  simp only [macroSpans, State.macroOpOf, macroSpanA, macroSpanB, ← span_ite]
  rfl

theorem noBad_macroChecks {f : MMac} {mx : Bool} {x : Ctx} (hrest : f.rest = 0#10)
    (hi32 : (SMap.get {} x.z f.z.toNat).i32 = (f.format.toNat == 5 || f.format.toNat == 6 || f.format.toNat == 7))
    (hfmt : f.format.toNat ∈ (if mx then [4, 5, 6, 7] else [1, 2, 3])) (heven : mx = true → f.ma.toNat % 2 = 0 ∧ f.mb.toNat % 2 = 0)
    (hgauge : f.gauge = 1#1 → (SMap.get {} x.z f.z.toNat).gv = true) (hdesc : ∀ r ∈ macroRegs f mx, descBad (x.mReg r) true = false) :
    NoBad (macroChecks f mx x) := by
  have hcontains : (if mx then [4, 5, 6, 7] else [1, 2, 3]).contains f.format.toNat = true := List.elem_eq_true_of_mem hfmt
  have hg : (f.gauge == 1#1 && !(SMap.get {} x.z f.z.toNat).gv) = false := by
    rw [← Bool.not_eq_true, Bool.and_eq_true, beq_iff_eq, Bool.not_eq_true']
    exact fun ⟨h, hv⟩ => Bool.false_ne_true (hv.symm.trans (hgauge h))
  have hodd {n : Nat} (h : mx = true → n % 2 = 0) : (mx && n % 2 == 1) = false := by
    rw [← Bool.not_eq_true, Bool.and_eq_true, beq_iff_eq]
    exact fun ⟨hmx, hn⟩ => by simp [h hmx] at hn
  rw [macroChecks, noBad_append]
  refine ⟨?_, (noBad_iff _).mpr fun c hc => ?_⟩
  · simp only [noBad_cons, noBad_nil, hcontains, hg, hrest, hi32, hodd fun h => (heven h).1, hodd fun h => (heven h).2, Bool.true_and,
      bne_self_eq_false, Bool.not_true, and_self]
  · obtain ⟨r, hr, rfl⟩ := List.mem_map.mp hc
    exact hdesc r hr

/-- The spans of a macro-op are aligned as the bases of its descriptors are. -/
theorem macroSpans_aligned {f : MMac} {mx : Bool} {x : Ctx} (h : ∀ r ∈ macroRegs f mx, descBase (x.mReg r) 0 % 32 = 0) :
    ∀ o ∈ (macroSpans f mx x).map Span.lo, o % 32 = 0 := by
  have hlo : (macroSpans f mx x).map Span.lo = (macroRegs f mx).map fun r => descBase (x.mReg r) 0 := by
    cases mx <;> rfl
  rw [hlo]
  exact List.forall_mem_map.mpr h

theorem completes_of_macro {s : State} {x : Ctx} {i : Instr} {f : MMac} {mx : Bool} (hs : s.Issues x) (hg : x.Guarded f.g) (hm : s.MReady x f.z)
    (hn : NoBad (macroChecks f mx x)) (ha : ActsUnder i f.g) (he : evalInstr i (s.envAlone x i) = evalMacro f mx (s.envAlone x i))
    (halign : ∀ r ∈ macroRegs f mx, descBase (x.mReg r) 0 % 32 = 0) (hplain : mx = true → (f.ta == 1#1) = false ∧ (f.tb == 1#1) = false)
    (hgroup : macroOffence (s.part s.cur) (macroSpans f mx x) = none) (hin : ∀ p ∈ macroSpans f mx x, p.inside (s.part s.cur) = true) :
    s.Completes x i none fun t => t.modCtx s.cur fun y =>
      { y with flight := y.flight ++ [⟨s.macroLand x f, .macroOp (s.macroOpOf x f mx)⟩] } := by
  have htrans : ¬ (mx && (f.ta == 1#1 || f.tb == 1#1)) = true := by
    rw [Bool.and_eq_true]
    rintro ⟨hmx, h⟩
    simp [hplain hmx] at h
  rw [evalMacro_eq, Env.aligned_of (n := 32) (macroSpans_aligned halign), if_neg htrans, hgroup, Env.bankgroup_none,
    Env.insideAll_of (e := s.envAlone x i) hin] at he
  exact completes_of_mready hs hg hm hn ha (.inl rfl) he

/-- A macro-op on an idle tile lands after the fill and its K-steps. -/
theorem State.macroLand_idle {s : State} {x : Ctx} {f : MMac} (h : x.busyUpto f.z.toNat = none) :
    s.macroLand x f = x.count + 15 + s.macroSteps f := by
  rw [State.macroLand, h]
  dsimp only
  omega

theorem State.macroLand_behind {s : State} {x : Ctx} {f : MMac} {n : Nat} (h : x.busyUpto f.z.toNat = some n) :
    s.macroLand x f = max (x.count + 15 + s.macroSteps f) (n + s.macroSteps f) := by
  rw [State.macroLand, h]
  dsimp only
  omega

theorem State.macroOpOf_start {s : State} {x : Ctx} {f : MMac} {mx : Bool} :
    (s.macroOpOf x f mx).start = if (x.busyUpto f.z.toNat).isSome then none else some (SMap.get {} x.z f.z.toNat) := rfl

/-! ### Joins -/

/-- The join that MJOIN starts, its half copied. -/
def State.joinOf (s : State) (x : Ctx) (f : MJoin) : Join :=
  { z := f.z.toNat, partner := f.partner.toNat, jn := f.jn.toNat, h := f.h == 1#1, token := f.token.toNat
    deadline := s.time + (match s.gang x.gang with | some g => g.joinwait | none => 0)
    half := (SMap.get {} x.z f.z.toNat).halfRows (!(f.h == 1#1)), i32 := (SMap.get {} x.z f.z.toNat).i32
    assist := fmtAssist x.fmt, pc := x.pc }

theorem Tile.getD_halfRows {t : Tile} {hi : Bool} {r c : Nat} (hr : r < 64) (hc : c < 128) : ((t.halfRows hi).getD r []).getD c none =
    if (if hi then 64 else 0) + r ≤ t.rows.toNat ∧ c ≤ t.cols.toNat then some (t.elem ((if hi then 64 else 0) + r) c) else none := by
  simp [Tile.halfRows, hr, hc]

/-- Settles O17: the macro-op and the join that an issue starts are written out, and the checks before them pass. -/
theorem macroOpsAndJoinsIssue : Obligations.MacroOpsAndJoinsIssue := by
  constructor
  · rintro s x f mx i hi hs hg hm hrest part a b k fmt ta tb tile pa pb sa sb rfl rfl rfl rfl rfl rfl rfl rfl hi32 hfmt heven hplain hgauge hdesc
      rfl rfl rfl rfl hgroup hin
    have hform : ActsUnder i f.g ∧ evalInstr i (s.envAlone x i) = evalMacro f mx (s.envAlone x i) := by
      simp only [List.mem_cons, Prod.mk.injEq, List.not_mem_nil, or_false] at hi
      obtain ⟨rfl, rfl⟩ | ⟨rfl, rfl⟩ := hi <;> exact ⟨⟨rfl, rfl, rfl⟩, rfl⟩
    have hn := noBad_macroChecks hrest hi32 hfmt heven hgauge fun r hr => (hdesc r hr).1
    refine ⟨s.macroLand x f, s.macroSteps f, s.macroOpOf x f mx,
      completes_of_macro hs hg hm hn hform.1 hform.2 (fun r hr => (hdesc r hr).2) hplain hgroup hin, rfl,
      fun hidle => ⟨State.macroLand_idle hidle, ?_⟩, fun n hbusy => ⟨State.macroLand_behind hbusy, ?_⟩, rfl, rfl, rfl, rfl, rfl, rfl, rfl, rfl, rfl, rfl,
      ?_, rfl, rfl, rfl, fun hmx => ⟨if_pos hmx, if_pos hmx⟩⟩
    · rw [State.macroOpOf_start, hidle]
      rfl
    · rw [State.macroOpOf_start, hbusy]
      rfl
    · refine ite_of_iff ?_ _ _
      rw [Bool.and_eq_true, beq_iff_eq]
  · rintro s x f g pc tile hs hg hm hb hrest hgang hself hpc hcluster hjoins rfl
    have hfree : ((List.range 4).any fun k => match s.ctx (4 * ctxCore s.cur + k) with | some y => y.join.isSome | none => false) = false := by
      refine List.any_eq_false.mpr fun k hk => ?_
      cases hctx : s.ctx (4 * ctxCore s.cur + k) with
      | none => simp
      | some y => simp [hjoins k y (List.mem_range.mp hk) hctx]
    have hn : NoBad [⟨f.partner.toNat == x.member ||
        (match (s.gang x.gang).bind fun g => g.ctxOf f.partner.toNat with
          | some c => ctxCluster c == ctxCluster s.cur
          | none => match s.gang x.gang with | some g => decide (g.ntask ≤ f.partner.toNat) | none => true), 6, f.partner.toNat⟩,
        ⟨f.rest != 0#17, 6, f.rest.toNat⟩] := by
      simp [hrest, hself, hgang, hpc, hcluster]
    have he : evalInstr (.mjoin f) (s.envAlone x (.mjoin f)) = (s.envAlone x (.mjoin f)).mguarded f.z _ ((s.envAlone x (.mjoin f)).mready f.z true
        (.act (some f.token.toNat) fun t => t.modCtx s.cur fun y => { y with join := some (s.joinOf x f) })) :=
      congrArg ((s.envAlone x (.mjoin f)).mguarded f.z _) (if_neg (ne_true_of_eq_false hfree))
    refine ⟨s.joinOf x f, completes_of_mready hs hg hm hn ⟨rfl, rfl, rfl⟩ (.inr hb) he, rfl, rfl, rfl, rfl, rfl, ?_, rfl, rfl, rfl, ?_⟩
    · rw [State.joinOf, hgang]
    · rintro r c hr hc row rfl
      have hside : (if (!(f.h == 1#1)) = true then 64 else 0) = if f.h = 1#1 then 0 else 64 := by
        by_cases h : f.h = 1#1 <;> simp [h]
      refine (Tile.getD_halfRows hr hc).trans ?_
      rw [hside]

end Sys2Proof.Machine

/-! ## Load-store slot: addresses, translation of the elements, and completion (R324, R434 to R441) -/

namespace Sys2Proof.Machine

set_option Elab.async false

theorem spaceOf_eq (a : W64) : spaceOf a = a.toNat / 2 ^ 60 := by
  have hlt := a.isLt
  rw [spaceOf, bits_eq]
  omega

/-- The address of an access issued by itself: no repetition has moved it. -/
theorem genAddr_alone {s : State} {x : Ctx} {i : Instr} (f : LGen) (base : W64) (es scale : Nat) :
    (s.envAlone x i).genAddr f base es scale = if f.ps = 1#1 then base else base + BitVec.ofInt 64 (f.off.toInt * es) := by
  rw [Env.genAddr, show (s.envAlone x i).n = 0 from rfl, Nat.zero_mul, Int.ofNat_zero, Int.add_zero]

theorem Env.resolveAll_singleton {e : Env} {k : Ask} {r : Req} {l : Loc} (h : e.resolve k r = .ok l) : e.resolveAll k [r] = .ok [(r, l)] := by
  rw [Env.resolveAll, h]
  rfl

/-- An answer keeps the requests in order. -/
theorem Env.resolveAll_cons_ok {e : Env} {k : Ask} {r : Req} {rs : List Req} {ls : List (Req × Loc)} (h : e.resolveAll k (r :: rs) = .ok ls) :
    ∃ l ls', ls = (r, l) :: ls' ∧ e.resolve k r = .ok l ∧ e.resolveAll k rs = .ok ls' := by
  rw [Env.resolveAll] at h
  split at h
  case h_1 => exact absurd h (by simp)
  case h_2 l hl =>
    split at h
    case h_1 => exact absurd h (by simp)
    case h_2 ls' hls =>
      obtain rfl := Except.ok.inj h
      exact ⟨l, ls', rfl, hl, hls⟩

theorem Env.resolveAll_fst {e : Env} {k : Ask} {rs : List Req} {ls : List (Req × Loc)} (h : e.resolveAll k rs = .ok ls) : ls.map (·.1) = rs := by
  induction rs generalizing ls with
  | nil =>
    obtain rfl := Except.ok.inj h
    rfl
  | cons r rs ih =>
    obtain ⟨l, ls', rfl, -, hls⟩ := Env.resolveAll_cons_ok h
    rw [List.map_cons, ih hls]

/-- Two lists of requests that are translated one by one in turn. -/
theorem Env.resolveAll_zipReqs {e : Env} {k : Ask} {hi lo : List Req} {his los : List (Req × Loc)} (hlen : hi.length = lo.length)
    (hhi : e.resolveAll k hi = .ok his) (hlo : e.resolveAll k lo = .ok los) :
    ∃ ls, e.resolveAll k (zipReqs hi lo) = .ok ls ∧ unzipReqs ls = (his, los) := by
  induction hi generalizing lo his los with
  | nil =>
    obtain rfl := List.length_eq_zero_iff.mp hlen.symm
    obtain rfl := Except.ok.inj hhi
    obtain rfl := Except.ok.inj hlo
    exact ⟨[], rfl, rfl⟩
  | cons a hi ih =>
    obtain _ | ⟨b, lo⟩ := lo
    · exact absurd hlen (by simp)
    obtain ⟨la, his', rfl, ha, hhis⟩ := Env.resolveAll_cons_ok hhi
    obtain ⟨lb, los', rfl, hb, hlos⟩ := Env.resolveAll_cons_ok hlo
    obtain ⟨ls, hls, hunzip⟩ := ih (Nat.succ.inj hlen) hhis hlos
    refine ⟨(a, la) :: (b, lb) :: ls, ?_, ?_⟩
    · rw [zipReqs, Env.resolveAll, ha]
      simp only [Env.resolveAll, hb, hls]
    · rw [unzipReqs, hunzip]

/-- An operation that accesses memory fills the translations of its requests before it acts. -/
def SlotOut.withFills (o : SlotOut) (cl : Nat) (rs : List Req) : SlotOut :=
  match o with
  | .act tok f => .act tok fun s => f (s.fillAll cl rs)
  | o => o

/-- An access whose elements are translated, with no bad field, goes on; its translations are filled first. -/
theorem Env.laccess_eq {e : Env} {k : Ask} {rs : List Req} {cs : List Check} {ls : List (Req × Loc)} {go : List (Req × Loc) → SlotOut}
    (hls : e.resolveAll k rs = .ok ls) (hn : NoBad cs) : e.laccess k rs cs go = (go ls).withFills (ctxCluster e.c) rs := by
  rw [Env.laccess, hls]
  dsimp only
  rw [Env.checked, show firstBad cs = none from hn]
  rfl

/-! ### Split accesses (R440) -/

/-- The half-word requests of a split access from one base register. -/
def halfReqs (f : LGen) (lanes : List Nat) (base : W64) : List Req :=
  lanes.map fun n => ⟨n, base + (if f.ps = 1#1 then 0#64 else BitVec.ofInt 64 (f.off.toInt * 2)) + BitVec.ofNat 64 (2 * n), 2⟩

/-- The lanes of a split access: the active ones of a vector, or one for a scalar register. -/
def splitLanes (f : LGen) (x : Ctx) : List Nat := if 2 ≤ f.file.toNat then (x.guard f.g).lanes else [0]

/-- A split access acts under its guard, by lane where it is of a vector. -/
def splitActs (f : LGen) (x : Ctx) : Prop := if 2 ≤ f.file.toNat then x.guard f.g ≠ 0#64 else x.Guarded f.g

section split
variable {s : State} {x : Ctx} {i : Instr} {f : LGen} (ha : ActsUnder i f.g)
include ha

theorem halves_alone : (s.envAlone x i).halves f =
    (halfReqs f (splitLanes f x) (x.dReg f.base.toNat), halfReqs f (splitLanes f x) (x.dReg (f.base.toNat + 1))) := by
  have hguard : (s.envAlone x i).g = x.guard f.g := congrArg x.guard ha.guard
  have haddr (base : W64) (scale : Nat) : (s.envAlone x i).genAddr f base 2 scale =
      base + if f.ps = 1#1 then 0#64 else BitVec.ofInt 64 (f.off.toInt * 2) := by
    rw [genAddr_alone]
    split
    · exact (BitVec.add_zero _).symm
    · rfl
  simp only [Env.halves, haddr, hguard, halfReqs, splitLanes, decide_eq_true_eq]
  rfl

theorem split_of {p : Perm} {go : List (Req × Loc) → List (Req × Loc) → SlotOut} {his los : List (Req × Loc)} (hact : splitActs f x) (hbase : f.base ≠ 31#5) (hsize : f.size = 15#4)
    (hn : NoBad ((s.envAlone x i).fileChecks true true f.file f.reg))
    (hhi : (s.envAlone x i).resolveAll { perm := p } (halfReqs f (splitLanes f x) (x.dReg f.base.toNat)) = .ok his)
    (hlo : (s.envAlone x i).resolveAll { perm := p } (halfReqs f (splitLanes f x) (x.dReg (f.base.toNat + 1))) = .ok los) :
    (s.envAlone x i).split f p go = (go his los).withFills (ctxCluster s.cur)
      (zipReqs (halfReqs f (splitLanes f x) (x.dReg f.base.toNat)) (halfReqs f (splitLanes f x) (x.dReg (f.base.toNat + 1)))) := by
  have hguard : (s.envAlone x i).g = x.guard f.g := congrArg x.guard ha.guard
  have hacts : (if decide (2 ≤ f.file.toNat) then (s.envAlone x i).g != 0#64 else (s.envAlone x i).g0) = true := by
    rw [hguard, Env.g0, hguard]
    unfold splitActs at hact
    split at hact <;> simp_all [Ctx.Guarded]
  have hbad : NoBad ((s.envAlone x i).fileChecks true true f.file f.reg ++
      [⟨f.base == 31#5, 1, f.base.toNat⟩, ⟨f.size != 15#4, 3, f.size.toNat⟩]) := by
    simp [hn, hsize, hbase]
  obtain ⟨ls, hls, hunzip⟩ := Env.resolveAll_zipReqs (by simp [halfReqs]) hhi hlo
  rw [Env.split, halves_alone ha]
  dsimp only
  rw [if_pos hacts, if_neg hbase, Env.laccess_eq hls hbad, hunzip]
  rfl

end split

end Sys2Proof.Machine

/-! ## Loads and stores at their issue (R324, R438 to R441) -/

namespace Sys2Proof.Machine

set_option Elab.async false

/-- The size of a scalar access, from the low bits of its field. -/
theorem sizeOf2_low (size : BitVec 4) : sizeOf2 (bits size 1 0) = 2 ^ (size.toNat % 4) :=
  congrArg (2 ^ ·) (Nat.mod_mod _ _)

theorem load_size_fits {size : BitVec 4} (hlt : size.toNat < 8) (hne : size.toNat ≠ 7) :
    (bit size 3 || (bit size 2 && 2 ^ (size.toNat % 4) == 8)) = false :=
  (by decide : ∀ size : BitVec 4, size.toNat < 8 → size.toNat ≠ 7 → (bit size 3 || (bit size 2 && 2 ^ (size.toNat % 4) == 8)) = false) size hlt hne

theorem load_sign_iff {size : BitVec 4} (hlt : size.toNat < 8) : bit size 2 = true ↔ 4 ≤ size.toNat :=
  (by decide : ∀ size : BitVec 4, size.toNat < 8 → (bit size 2 = true ↔ 4 ≤ size.toNat)) size hlt

theorem store_size_fits {size : BitVec 4} (hlt : size.toNat < 4) : (bit size 3 || bit size 2) = false :=
  (by decide : ∀ size : BitVec 4, size.toNat < 4 → (bit size 3 || bit size 2) = false) size hlt

section issue
variable {s : State} {x : Ctx} {i : Instr} {g : Guard} {k : Ask} {cs : List Check} (ha : ActsUnder i g)
include ha

/-- A scalar access goes on where its one element is translated. -/
theorem scalar_access_eq {r : Req} {l : Loc} {go : List (Req × Loc) → SlotOut} (hg : x.Guarded g) (hn : NoBad cs)
    (hl : (s.envAlone x i).resolve k r = .ok l) :
    (if (s.envAlone x i).g0 then (s.envAlone x i).laccess k [r] cs go else .none) = (go [(r, l)]).withFills (ctxCluster s.cur) [r] :=
  (if_pos (envAlone_guarded ha hg)).trans (Env.laccess_eq (Env.resolveAll_singleton hl) hn)

/-- A vector access goes on where a lane is active and its elements are translated. -/
theorem vector_access_eq {rs : List Req} {ls : List (Req × Loc)} {go : List (Req × Loc) → SlotOut} (hg : x.guard g ≠ 0#64) (hn : NoBad cs)
    (hls : (s.envAlone x i).resolveAll k rs = .ok ls) :
    (s.envAlone x i).lanesActive ((s.envAlone x i).laccess k rs cs go) = (go ls).withFills (ctxCluster s.cur) rs := by
  have hlanes : (s.envAlone x i).g ≠ 0#64 := by
    rw [← ha.guard] at hg
    exact hg
  rw [Env.lanesActive, if_neg hlanes, Env.laccess_eq hls hn]
  rfl

end issue

/-- Settles O18: the elements of each form are translated in its order, and the load goes out on its token. -/
theorem loadsIssue : Obligations.LoadsIssue := by
  rintro s x f base hs rfl
  refine ⟨?_, ?_, ?_⟩
  · rintro z r l hg rfl hlt hne hr hn hl
    have haddr : r = ⟨0, (s.envAlone x (.ld f)).genAddr f ((s.envAlone x (.ld f)).d f.base) (2 ^ (f.size.toNat % 4)) (2 ^ (f.size.toNat % 4)), 2 ^ (f.size.toNat % 4)⟩ := by
      rw [genAddr_alone]
      exact hr
    have hchecks : NoBad ((s.envAlone x (.ld f)).fileChecks true false f.file f.reg ++
        [⟨bit f.size 3 || (bit f.size 2 && 2 ^ (f.size.toNat % 4) == 8), 3, f.size.toNat⟩]) := by
      simp only [noBad_append, hn, noBad_cons, load_size_fits hlt hne, noBad_nil, and_self]
    have hsign : (if bit f.size 2 then some (8 * 2 ^ (f.size.toNat % 4)) else none) = if 4 ≤ f.size.toNat then some (8 * 2 ^ (f.size.toNat % 4)) else none :=
      ite_of_iff (load_sign_iff hlt) _ _
    rw [← spaceOf_eq, ← hsign]
    refine completes_of_answer rfl hs rfl ?_
    rw [evalInstr_ld, evalLd, sizeOf2_low]
    rw [← haddr, scalar_access_eq (g := f.g) ⟨rfl, rfl, rfl⟩ hg hchecks hl]
    rfl
  · rintro ty rs ls hg rfl hn rfl hls
    refine completes_of_answer rfl hs rfl ?_
    rw [← genAddr_alone f _ _ (vecBytes f.size.toNat)] at hls ⊢
    exact vector_access_eq (g := f.g) ⟨rfl, rfl, rfl⟩ hg hn hls
  · rintro lanes hi lo his los off hact hbase hsize hn rfl rfl rfl rfl hhi hlo
    refine completes_of_answer rfl hs rfl ?_
    rw [evalInstr_ldj, evalLdj, split_of ⟨rfl, rfl, rfl⟩ hact hbase hsize hn hhi hlo]
    have hfst := congr (congrArg (· ++ ·) (Env.resolveAll_fst hhi)) (Env.resolveAll_fst hlo)
    rw [← List.map_append] at hfst
    rw [SlotOut.withFills, hfst]
    rfl

/-- The data register of a scalar store. -/
theorem sfile_eq (x : Ctx) (file : BitVec 2) (n : Nat) :
    x.sfile (if file = 0#2 then .s0 else .s1) n = SMap.get 0#64 (if file = 0#2 then x.a else x.b) n := by
  split <;> rfl

/-- Settles O19, as O18: the elements with their bytes are those of the form. -/
theorem storesIssue : Obligations.StoresIssue := by
  rintro s x f base hs rfl
  refine ⟨?_, ?_, ?_⟩
  · rintro z r l hg rfl hlt hr hn hl
    have hsize : sizeOf2 (bits f.size 1 0) = 2 ^ f.size.toNat := by rw [sizeOf2_low, Nat.mod_eq_of_lt hlt]
    have haddr : r = ⟨0, (s.envAlone x (.st f)).genAddr f ((s.envAlone x (.st f)).d f.base) (2 ^ f.size.toNat) (2 ^ f.size.toNat), 2 ^ f.size.toNat⟩ := by
      rw [genAddr_alone]
      exact hr
    have hchecks : NoBad ((s.envAlone x (.st f)).fileChecks true false f.file f.reg ++ [⟨bit f.size 3 || bit f.size 2, 3, f.size.toNat⟩]) := by
      simp only [noBad_append, hn, noBad_cons, store_size_fits hlt, noBad_nil, and_self]
    rw [← spaceOf_eq, ← sfile_eq]
    refine completes_of_answer rfl hs rfl ?_
    rw [evalInstr_st, evalSt, hsize]
    rw [← haddr, scalar_access_eq (g := f.g) ⟨rfl, rfl, rfl⟩ hg hchecks hl]
    rfl
  · rintro ty rs ls v hg rfl hn rfl rfl hls
    refine completes_of_answer rfl hs rfl ?_
    rw [← genAddr_alone f _ _ (vecBytes f.size.toNat)] at hls ⊢
    exact vector_access_eq (g := f.g) ⟨rfl, rfl, rfl⟩ hg hn hls
  · rintro lanes hi lo his los off val hact hbase hsize hn rfl rfl rfl rfl hval hhi hlo
    have hval' : val = fun n => if decide (2 ≤ f.file.toNat) = true then (((s.envAlone x (.stj f)).x.vec (f.file == 3#2) f.reg.toNat).lane n).zeroExtend 64
        else (s.envAlone x (.stj f)).x.sfile (if f.file = 0#2 then .s0 else .s1) f.reg.toNat := by
      funext n
      rw [hval n, sfile_eq]
      exact ite_of_iff decide_eq_true_iff.symm _ _
    refine completes_of_answer rfl hs rfl ?_
    rw [evalInstr_stj, evalStj, split_of ⟨rfl, rfl, rfl⟩ hact hbase hsize hn hhi hlo, hval']
    have hfst := congr (congrArg (· ++ ·) (Env.resolveAll_fst hhi)) (Env.resolveAll_fst hlo)
    rw [← List.map_append] at hfst
    rw [SlotOut.withFills, hfst]
    rfl

end Sys2Proof.Machine

/-! ## Counted strided stores (R70, R442): a gauge whose allocation word cannot be read -/

namespace Sys2Proof.Machine

set_option Elab.async false

/-- One active lane, and a base in the memory of the cluster. -/
def countingCtx : Ctx := { p := [(1, 1#64)], d := [(0, 0x9000000000000000#64)] }

/-- The word that says whether gauge 0 is allocated is uncorrectable. -/
def poisonedGauge : State := { ctxs := [(0, some countingCtx)], poison := [(shardAddr 0 0 + 0xA0) / 32] }

/-- A counted VSTS of words under p1. -/
def countedVsts : LStr := ⟨⟨0xF0#8, 1#4, 0#4, 0#4⟩, 2#2, 0#9, 0#5, 1#5, 1#1, 0#9, 8#4, 0#3⟩

theorem counting_issues : poisonedGauge.Issues countingCtx :=
  ⟨⟨rfl, rfl, rfl, rfl, rfl, rfl, rfl, rfl, rfl, fun _ => Nat.zero_lt_succ 254⟩, rfl, rfl⟩

theorem counted_lanes : (countingCtx.guard countedVsts.g).lanes = [0] := by
  decide

theorem counted_checks : NoBad ((poisonedGauge.envAlone countingCtx (.vsts countedVsts)).vmemChecks countedVsts.file countedVsts.reg countedVsts.size true) :=
  rfl

/-- The one element stands at the start of the cluster's memory. -/
theorem counted_resolves : (poisonedGauge.envAlone countingCtx (.vsts countedVsts)).resolveAll { perm := .write }
    [⟨0, 0x9000000000000000#64, 4⟩] = .ok [(⟨0, 0x9000000000000000#64, 4⟩, .sram 0 0)] :=
  rfl

/-- The bundle traps: its access takes no number. -/
theorem counted_traps : (match exec (.vsts countedVsts) poisonedGauge with | .next t => t.nextAccess | _ => 0) = 0 := by
  decide

/-- Refutes O21: a counted VSTS reads the allocation word of its gauge. Where that word is uncorrectable, the gauge passes for allocated (log entry
82) and the operation then traps, with its elements translated and no bad field: it does not complete. -/
theorem not_stridedIndexedAtomicsIssue : ¬ Obligations.StridedIndexedAtomicsIssue := by
  unfold Obligations.StridedIndexedAtomicsIssue
  rintro ⟨h, -⟩
  obtain ⟨hstride, -⟩ := h poisonedGauge countingCtx counting_issues
  obtain ⟨-, hvsts⟩ := hstride countedVsts 0 [⟨0, 0x9000000000000000#64, 4⟩] [(⟨0, 0x9000000000000000#64, 4⟩, .sram 0 0)] Vec.zero
    (by decide) (by decide) rfl (by rw [counted_lanes]; decide)
  have hcompletes := hvsts counted_checks (fun _ => by decide) counted_resolves
  have htrap := counted_traps
  rw [State.Completes] at hcompletes
  rw [hcompletes] at htrap
  exact absurd htrap (by decide)

end Sys2Proof.Machine

/-! ## Fences, syncs, cache operations and transaction barriers (R171, R256, R257, R446, R447, R450) -/

namespace Sys2Proof.Machine

set_option Elab.async false

/-- What goes on after the requests of a barrier operation, which lie in local memory, are translated. -/
theorem withFills_none {cl : Nat} {rs : List Req} : SlotOut.none.withFills cl rs = .act none fun s => s.fillAll cl rs := rfl

section barrier
variable {s : State} {x : Ctx} {f : LBar} {i : Instr} {l : Loc} {v : Nat} (hs : s.Issues x) (hg : x.Guarded f.g)
  (hv : v = if f.src = 0#1 then f.imm.toNat else (SMap.get 0#64 (if f.file = 0#2 then x.a else x.b) f.reg.toNat).toNat)

include hv in
theorem barValue_eq : (s.envAlone x i).barValue f = v := by
  rw [hv, ← sfile_eq]
  rfl

include hs hg hv

theorem completes_of_barWrite {op : BarOp} {lo hi : Nat} {rel : List Nat} (ha : ActsUnder i f.g)
    (he : evalInstr i (s.envAlone x i) = (s.envAlone x i).barWrite f op lo hi rel)
    (hl : (s.envAlone x i).resolve { perm := .atomic, onlyLocal := true } ⟨0, x.dReg f.base.toNat, 16⟩ = .ok l)
    (hn : NoBad ((s.envAlone x i).barChecks f lo hi)) :
    s.Completes x i (some f.token.toNat) fun t => (t.fillAll (ctxCluster s.cur) [⟨0, x.dReg f.base.toNat, 16⟩]).issueAccess
      { ctx := s.cur, token := f.token.toNat, kind := .bar op v, after := [], spaces := [(x.dReg f.base.toNat).toNat / 2 ^ 60]
        elems := [{ lane := 0, loc := l, size := 16 }] } rel [] := by
  rw [← spaceOf_eq, ← barValue_eq (s := s) (i := i) hv]
  have hl' : (s.envAlone x i).resolve { perm := .atomic, onlyLocal := true } ((s.envAlone x i).barReq f) = .ok l := hl
  refine completes_of_answer ha.encoded hs ha.atIssue (he.trans ?_)
  rw [Env.barWrite, scalar_access_eq ha hg hn hl']
  rfl

omit hs in
/-- TBWAIT behind its checks: it goes on, waits, or traps, as the barrier stands. -/
theorem evalTbwait_eq (hl : (s.envAlone x (.tbwait f)).resolve { perm := .read, onlyLocal := true } ⟨0, x.dReg f.base.toNat, 16⟩ = .ok l)
    (hn : NoBad ((s.envAlone x (.tbwait f)).barChecks f 0 15)) (htoken : f.token = 0#3) :
    evalInstr (.tbwait f) (s.envAlone x (.tbwait f)) =
      (if (s.tbar l).phase ≠ v then SlotOut.none
        else if (s.tbar l).flags % 8 ≠ 0 then
          (s.envAlone x (.tbwait f)).trap 0x0E (x.dReg f.base.toNat ||| BitVec.ofNat 64 (s.tbar l).flags)
        else .wait (.tbar l) id).withFills (ctxCluster s.cur) [⟨0, x.dReg f.base.toNat, 16⟩] := by
  have hchecks : NoBad ((s.envAlone x (.tbwait f)).barChecks f 0 15 ++ [⟨f.token != 0#3, 4, f.token.toNat⟩]) := by
    simp [hn, htoken]
  have hl' : (s.envAlone x (.tbwait f)).resolve { perm := .read, onlyLocal := true } ((s.envAlone x (.tbwait f)).barReq f) = .ok l := hl
  rw [← barValue_eq (s := s) (i := .tbwait f) hv, evalInstr_tbwait, evalTbwait, scalar_access_eq (g := f.g) ⟨rfl, rfl, rfl⟩ hg hchecks hl']
  rfl

end barrier

/-- Settles O22: each operation goes on once its fields and its requests are checked. -/
theorem orderingCacheAndBarrierOps : Obligations.OrderingCacheAndBarrierOps := by
  constructor
  · intro s x hs
    refine ⟨?_, ?_, ?_⟩
    · intro f hg hhi hmid hscope
      have hn : NoBad (scopeChecks f) := by
        simp [scopeChecks, hhi, hmid, hscope]
      exact ⟨fun htoken => completes_of_guarded hs hg (noBad_cons.mpr ⟨by simp [htoken], hn⟩) rfl, completes_of_guarded hs hg hn rfl⟩
    · intro f i hi hg hhi hbase
      have hspace : (f.all == 0#1 && spaceOf (x.dReg f.base.toNat) != 0) = false := by
        rcases hbase with h | h
        · rw [h]
          rfl
        · rw [spaceOf_eq, Nat.div_eq_of_lt h, bne_self_eq_false, Bool.and_false]
      have hn : NoBad [⟨f.hi != 0#11, 6, f.hi.toNat⟩, ⟨f.all == 0#1 && spaceOf (x.dReg f.base.toNat) != 0, 7, f.base.toNat⟩] := by
        rw [hspace]
        simp [hhi]
      simp only [List.mem_cons, List.not_mem_nil, or_false] at hi
      obtain rfl | rfl := hi <;> exact completes_of_guarded hs hg hn rfl
    · intro f hg hfile hreg hsize
      exact completes_of_guarded hs hg (by simp [hfile, hreg, hsize]) rfl
  · rintro s x f r l v hs hg rfl hv
    refine ⟨?_, ?_⟩
    · intro i op lo hi rel hmem hl hn
      simp only [List.mem_cons, Prod.mk.injEq, List.not_mem_nil, or_false] at hmem
      obtain ⟨rfl, rfl, rfl, rfl, rfl⟩ | ⟨rfl, rfl, rfl, rfl, rfl⟩ | ⟨rfl, rfl, rfl, rfl, rfl⟩ := hmem
      all_goals exact completes_of_barWrite hs hg hv ⟨rfl, rfl, rfl⟩ rfl hl hn
    · intro hl hn htoken
      have he := evalTbwait_eq hg hv hl hn htoken
      refine ⟨fun hphase => ?_, fun hphase hflags => ?_⟩
      · rw [if_pos hphase, withFills_none] at he
        exact completes_of_answer rfl hs rfl he
      · rw [if_neg (not_not_intro hphase), if_neg (not_not_intro hflags)] at he
        have hctx : s.ctx s.cur = some x := hs.1.1
        obtain ⟨y, hy, hsteady⟩ := State.shows_some ((State.steady_leaveReady (s := s) (c := s.cur)).trans (State.shows_of_ctx hctx))
        have hexec : exec (.tbwait f) s = .next ((s.leaveReady s.cur).modCtx s.cur fun y => { y with run := .waiting (.tbar l) }) := by
          rw [exec_slot _ _ rfl, issueAlone_wait s x _ _ _ rfl hs rfl he]
          rfl
        refine ⟨_, { y with run := .waiting (.tbar l) }, hexec, ?_, rfl, ?_⟩
        · rw [State.ctx_modCtx_self, hy]
          rfl
        · exact congrArg (fun w => w.1) hsteady

end Sys2Proof.Machine

/-! ## Spill slots and address arithmetic (R226, R448, R449) -/

namespace Sys2Proof.Machine

set_option Elab.async false

section spill
variable {s : State} {x : Ctx} {f : LSpill} {carve n : Nat} {vec : Bool} {ps : List (Nat × Nat × Nat)} (hs : s.Issues x) (hg : x.Guarded f.g)
  (hrest : f.rest = 0#24) (hvec : vec = decide (2 ≤ f.file.toNat)) (hcarve : carve = partSpill (s.part s.cur) / partCtx (s.part s.cur))
  (hps : ps = if vec then (List.range 64).map fun i => (i, 4 * i, 4) else [(0, 0, 8)]) (hfit : 256 * (n + 1) ≤ carve)

include hvec hps in
theorem spillPieces_eq : spillPieces f.file = ps := by
  rw [hps, hvec, spillPieces]
  exact ite_of_iff decide_eq_true_iff.symm _ _

include hvec in
theorem spillData_eq {i : Instr} (lane : Nat) : (s.envAlone x i).spillData f lane =
    if vec then ((x.vec (f.file == 3#2) f.reg.toNat).lane lane).zeroExtend 64 else SMap.get 0#64 (if f.file = 0#2 then x.a else x.b) f.reg.toNat := by
  rw [hvec, ← sfile_eq]
  exact ite_of_iff decide_eq_true_iff.symm _ _

include hvec in
theorem fillDest_eq : fillDest f = if vec then .vector (f.file == 3#2) f.reg.toNat Mask.all else .scalar f.file.toNat f.reg.toNat none := by
  rw [hvec]
  exact ite_of_iff decide_eq_true_iff.symm _ _

include hcarve hfit in
/-- The slot lies in the carve-out. -/
theorem not_past_carve {i : Instr} : decide ((s.envAlone x i).carve < 256 * (n + 1)) = false :=
  by
  subst hcarve
  exact decide_eq_false (Nat.not_lt.mpr hfit)

include hs hg hrest hvec hcarve hps hfit

theorem completes_spill (hn : n = x.sptop.toNat) (hmax : n < 65535) (hfile : NoBad ((s.envAlone x (.spill f)).fileChecks true true f.file f.reg)) :
    s.Completes x (.spill f) (some f.token.toNat) fun t =>
      (t.modCtx s.cur fun y => { y with sptop := y.sptop + 1 }).issueAccess
        { ctx := s.cur, token := f.token.toNat, kind := .store, after := [], spaces := [carveSpace]
          elems := ps.map fun p =>
            { lane := p.1, loc := .spill (ctxCore s.cur) (ctxSeq s.cur * carve + 256 * n + p.2.1), size := p.2.2
              data := (if vec then ((x.vec (f.file == 3#2) f.reg.toNat).lane p.1).zeroExtend 64
                else SMap.get 0#64 (if f.file = 0#2 then x.a else x.b) f.reg.toNat) } } [] [] := by
  have hpast : decide ((s.envAlone x (.spill f)).carve < 256 * ((s.envAlone x (.spill f)).x.sptop.toNat + 1)) = false :=
    hn ▸ not_past_carve hcarve hfit
  have hchecks : NoBad ((s.envAlone x (.spill f)).spillChecks f ((s.envAlone x (.spill f)).x.sptop.toNat == 65535)) := by
    have hne : ¬ x.sptop.toNat = 65535 := by omega
    simp [Env.spillChecks, hfile, hrest, hne]
  have hg0 : (s.envAlone x (.spill f)).g0 = true := hg
  refine completes_of_answer rfl hs rfl ?_
  rw [evalInstr_spill, evalSpill]
  simp only [spillPieces_eq hvec hps, hpast, Bool.false_and, Bool.or_false, Bool.false_eq_true, ↓reduceIte]
  rw [if_pos hg0, Env.laccess_eq (ls := []) rfl hchecks]
  simp only [List.map_map, spillData_eq hvec]
  subst hcarve hn
  rfl

theorem completes_fill (hn : x.sptop.toNat = n + 1) (hfile : NoBad ((s.envAlone x (.fill f)).fileChecks true true f.file f.reg)) :
    s.Completes x (.fill f) (some f.token.toNat) fun t =>
      (t.modCtx s.cur fun y => { y with sptop := y.sptop - 1 }).issueAccess
        { ctx := s.cur, token := f.token.toNat, kind := .load, after := [], spaces := [carveSpace]
          form := if vec then .lanes 9 else .plain
          elems := ps.map fun p =>
            { lane := p.1, loc := .spill (ctxCore s.cur) (ctxSeq s.cur * carve + 256 * n + p.2.1), size := p.2.2 }
          dest := if vec then .vector (f.file == 3#2) f.reg.toNat Mask.all else .scalar f.file.toNat f.reg.toNat none } [] [] := by
  have htop : (s.envAlone x (.fill f)).x.sptop.toNat - 1 = n := Nat.sub_eq_of_eq_add hn
  have hpast : decide ((s.envAlone x (.fill f)).carve < 256 * (n + 1)) = false := not_past_carve hcarve hfit
  have hchecks : NoBad ((s.envAlone x (.fill f)).spillChecks f ((s.envAlone x (.fill f)).x.sptop == 0#16)) := by
    have hne : ¬ x.sptop = 0#16 := fun h => by simp [h] at hn
    simp [Env.spillChecks, hfile, hrest, hne]
  have hg0 : (s.envAlone x (.fill f)).g0 = true := hg
  have hform : (if 2 ≤ f.file.toNat then LoadForm.lanes 9 else .plain) = if vec then .lanes 9 else .plain := by
    rw [hvec]
    exact ite_of_iff decide_eq_true_iff.symm _ _
  refine completes_of_answer rfl hs rfl ?_
  rw [evalInstr_fill, evalFill]
  simp only [spillPieces_eq hvec hps, htop, hpast, Bool.false_eq_true, ↓reduceIte]
  rw [if_pos hg0, Env.laccess_eq (ls := []) rfl hchecks]
  simp only [List.map_map, fillDest_eq hvec, hform]
  subst hcarve
  rfl

end spill

/-! ### Address arithmetic -/

theorem insert_bits (old : W64) (v : BitVec 16) (q i : Nat) (hi : i < 64) :
    ((old &&& ~~~(0xFFFF#64 <<< (16 * q))) ||| (v.zeroExtend 64 <<< (16 * q))).getLsbD i =
      if 16 * q ≤ i ∧ i < 16 * q + 16 then v.getLsbD (i - 16 * q) else old.getLsbD i := by
  have hones (k : Nat) : (0xFFFF#64).getLsbD k = decide (k < 16) := by
    by_cases hk : k < 64
    · exact (by decide : ∀ k < 64, (0xFFFF#64).getLsbD k = decide (k < 16)) k hk
    · rw [BitVec.getLsbD_of_ge _ _ (Nat.le_of_not_lt hk), decide_eq_false (by omega)]
  rw [BitVec.getLsbD_or, BitVec.getLsbD_and, BitVec.getLsbD_not, BitVec.getLsbD_shiftLeft, BitVec.getLsbD_shiftLeft, hones]
  by_cases hlow : i < 16 * q
  · simp [hlow, hi, Nat.not_le.mpr hlow]
  · by_cases hhigh : i < 16 * q + 16
    · have : i - 16 * q < 16 := by omega
      simp [hlow, hi, hhigh, Nat.le_of_not_lt hlow, this]
      omega
    · have : ¬ i - 16 * q < 16 := by omega
      simp [hlow, hi, hhigh, this, BitVec.getLsbD_of_ge v (i - 16 * q) (by omega)]

/-- The files that DCPY names, by number. -/
theorem fileDest_of_lt {t : Nat} (r : Nat) (h : t < 6) : fileDest t r = [Dest.a r, .b r, .d r, .e r, .m r, .j r].getD t (.a r) :=
  match t, h with
  | 0, _ | 1, _ | 2, _ | 3, _ | 4, _ | 5, _ => rfl

theorem fileSize_of_lt {t : Nat} (h : t < 6) : fileSize t = [64, 64, 32, 32, 16, 4].getD t 0 :=
  match t, h with
  | 0, _ | 1, _ | 2, _ | 3, _ | 4, _ | 5, _ => rfl

/-- Settles O23, by the pieces of a slot and the arithmetic of each address operation. -/
theorem spillAndAddressOps : Obligations.SpillAndAddressOps := by
  intro s x hs
  refine ⟨?_, ?_, ?_, ?_⟩
  · intro f n carve vec ps hg hrest hvec hcarve hps
    exact ⟨fun hn hfit hmax hfile => completes_spill hs hg hrest hvec hcarve hps hfit hn hmax hfile,
      fun hn hfit hfile => completes_fill hs hg hrest hvec hcarve hps hfit hn hfile⟩
  · intro f hg htoken
    refine ⟨fun hm => ?_, fun hm hlow => ?_⟩
    · have hv : (if f.m = 0#1 then f.imm.signExtend 64 else x.dReg (f.imm.extractLsb' 19 5).toNat) = BitVec.ofInt 64 f.imm.toInt := if_pos hm
      rw [← hv]
      exact completes_of_guarded hs hg (by simp [htoken, hm]) rfl
    · have hhigh : (f.imm.extractLsb' 19 5).toNat = f.imm.toNat / 2 ^ 19 := by
        have := f.imm.isLt
        rw [BitVec.extractLsb'_toNat, Nat.shiftRight_eq_div_pow]
        omega
      have hv : (if f.m = 0#1 then f.imm.signExtend 64 else x.dReg (f.imm.extractLsb' 19 5).toNat) = x.dReg (f.imm.toNat / 2 ^ 19) := by
        rw [if_neg (by simp [hm]), hhigh]
      rw [← hv]
      exact completes_of_guarded hs hg (by simp [htoken, show bits f.imm 18 0 = 0 from hlow]) rfl
  · intro f hg htoken hrest
    refine ⟨fun hins => ?_, fun hins => ⟨_, completes_of_guarded hs hg (by simp [htoken, hrest]) rfl, fun i hi => ?_⟩⟩
    · have hv : (if f.ins = 1#1 then (x.dReg f.dd.toNat &&& ~~~(0xFFFF#64 <<< (16 * f.q.toNat))) ||| (f.v.zeroExtend 64 <<< (16 * f.q.toNat))
          else f.v.zeroExtend 64 <<< (16 * f.q.toNat)) = f.v.zeroExtend 64 <<< (16 * f.q.toNat) := if_neg (by simp [hins])
      rw [← hv]
      exact completes_of_guarded hs hg (by simp [htoken, hrest]) rfl
    · rw [if_pos hins]
      exact insert_bits _ f.v _ i hi
  · rintro f t r hg htoken hrest rfl rfl ht hr
    rw [← fileDest_of_lt _ ht]
    rw [← fileSize_of_lt ht] at hr
    exact completes_of_guarded hs hg (by simp [htoken, hrest, hr]; omega) rfl

end Sys2Proof.Machine

/-! ## Engine operations: their operands, their answers, and the Sluice and the Riffle (R175, R179, R437, R453 to R459) -/

namespace Sys2Proof.Machine

set_option Elab.async false

section engine
variable {s : State} {x : Ctx} {i : Instr} {f : EForm} {cs : List Check} (hs : s.Issues x) (hg : x.Guarded f.g) (hn : NoBad cs) (ha : ActsUnder i f.g)

/-- The address of an engine operand is in a space that the operation takes. -/
theorem operand_space {a : W64} {n align : Nat} {spaces : List Nat} {rs : List Req} {bs : List Byte}
    (ho : s.Operand x i a n align spaces rs bs) : spaces.contains (bits a 63 60) = true := by
  obtain ⟨hspace, -⟩ := ho
  rwa [← spaceOf_eq] at hspace

/-- An operand that can be read is read, and its translations are filled (R454). -/
theorem operand_eq {a : W64} {n align : Nat} {spaces : List Nat} {rs : List Req} {bs : List Byte} {k : List Byte → SlotOut}
    (ho : s.Operand x i a n align spaces rs bs) :
    (s.envAlone x i).operand a n align spaces k = (k bs).withFills (ctxCluster s.cur) rs := by
  have hspace := operand_space ho
  obtain ⟨-, halign, hrs, ls, hls, hdeps, hpoison, hhost, hbs⟩ := ho
  have hclean : (ls.findSome? fun r => s.poisoned r.2 r.1.size) = none := List.findSome?_eq_none_iff.mpr hpoison
  have hready : (!(s.depsOf s.cur ((s.envAlone x i).probe ls) []).isEmpty || s.hostQueued (ls.map (·.2))) = false := by
    rw [hdeps, hhost]
    rfl
  subst hrs
  rw [Env.operand, if_neg (by simp [halign]), if_neg (by rw [hspace]; exact Bool.false_ne_true)]
  dsimp only
  rw [hls]
  dsimp only
  rw [show (!((s.envAlone x i).s.depsOf (s.envAlone x i).c ((s.envAlone x i).probe ls) []).isEmpty || (s.envAlone x i).s.hostQueued (ls.map (·.2))) = false
    from hready, if_neg Bool.false_ne_true, show (ls.findSome? fun r => (s.envAlone x i).s.poisoned r.2 r.1.size) = none from hclean, hbs]
  rfl

include hs hg hn ha

theorem completes_of_guarded_answer {tok : Option Nat} {k : State → State} {o : SlotOut}
    (he : evalInstr i (s.envAlone x i) = (s.envAlone x i).guarded cs o) (ho : o = .act tok k) : s.Completes x i tok k := by
  subst ho
  exact completes_of_guarded hs hg hn he ha

theorem answers_of_guarded {g : State → State} {v : State → W64}
    (he : evalInstr i (s.envAlone x i) = (s.envAlone x i).guarded cs ((s.envAlone x i).awaits f fun t => (s.envAlone x i).answer f (v t) (g t))) :
    s.Answers x i f id g v :=
  completes_of_guarded hs hg hn he ha

end engine

end Sys2Proof.Machine

/-! ## Sluice and Riffle operations (R175, R179, R456 to R459) -/

namespace Sys2Proof.Machine

set_option Elab.async false

section sluice
variable {s : State} {x : Ctx} {f : EForm} {d : Nat} (hs : s.Issues x) (hg : x.Guarded f.g) (hd : d = ctxDie s.cur)
include hs hg hd

section card
variable {rs : List Req} {bs : List Byte} {w : List W64} (hn : NoBad (eChecks f {} (f.imm != 0#17)))
  (ho : s.Operand x (.sljob f) (x.es1 f) 128 32 [8, 9] rs bs) (hw : w = (List.range 16).map fun k => wordOf (bs.drop (8 * k)))
  (hpoison : s.poisonIn (cardReads d w) = none) (halign : s.cardMisaligned d w = false) (hlayout : s.cardLayout d w = false)
include ho hw hpoison halign hlayout

omit hs hg in
/-- SLJOB behind the reading of its card: a card that fails a check answers, an accepted one becomes a job. -/
theorem evalSljob_eq : evalInstr (.sljob f) (s.envAlone x (.sljob f)) = (s.envAlone x (.sljob f)).guarded (eChecks f {} (f.imm != 0#17))
    ((if s.cardStatus s.cur w ≠ 0 then
        (s.envAlone x (.sljob f)).awaits f ((s.envAlone x (.sljob f)).answer f (BitVec.ofNat 64 (s.cardStatus s.cur w * 2 ^ 56)))
      else match (s.die d).freePlace with
        | none => .wait .scheduler id
        | some pl => (s.envAlone x (.sljob f)).counted f fun t =>
            (t.issueCard s.cur x.sup f.token.toNat pl w).addFlight s.cur 2 (.scalar (eDest f) (jobRef d (t.die d).accepted pl))).withFills
      (ctxCluster s.cur) rs) := by
  subst hd hw
  refine congrArg ((s.envAlone x (.sljob f)).guarded _) ?_
  refine (if_neg (by rw [Bool.not_eq_true']; exact ne_false_of_eq_true (operand_space ho))).trans ?_
  refine (operand_eq ho).trans (congrArg (SlotOut.withFills · _ _) ?_)
  refine (Env.clean_of_none hpoison).trans ?_
  exact (if_neg (ne_true_of_eq_false halign)).trans (if_neg (ne_true_of_eq_false hlayout))

include hn

theorem answers_sljob {st : Nat} (hst : st = s.cardStatus s.cur w) (hne : st ≠ 0) :
    s.Answers x (.sljob f) f (fun t => t.fillAll (ctxCluster s.cur) rs) id fun _ => BitVec.ofNat 64 (st * 2 ^ 56) := by
  have he := evalSljob_eq hd ho hw hpoison halign hlayout
  rw [← hst, if_pos hne] at he
  exact completes_of_guarded hs hg hn he

theorem completes_sljob {pl : Nat} (hst : s.cardStatus s.cur w = 0) (hpl : (s.die d).freePlace = some pl) :
    s.Completes x (.sljob f) (some f.token.toNat) fun t =>
      ((t.fillAll (ctxCluster s.cur) rs).issueCard s.cur x.sup f.token.toNat pl w).addFlight s.cur 2
        (.scalar (eDest f) (jobRef d ((t.fillAll (ctxCluster s.cur) rs).die d).accepted pl)) := by
  have he := evalSljob_eq hd ho hw hpoison halign hlayout
  rw [if_neg (not_not_intro hst), hpl] at he
  exact completes_of_guarded hs hg hn he

end card

theorem answers_slstat (hn : NoBad (eChecks f {} (f.imm != 0#17))) (hown : (s.envAlone x (.slstat f)).foreignJob (x.es1 f) = false) :
    s.Answers x (.slstat f) f id id fun t => t.jobWord d (x.es1 f) := by
  subst hd
  have hchecks : NoBad (eChecks f {} (f.imm != 0#17) ++ [⟨(s.envAlone x (.slstat f)).foreignJob (x.es1 f), 7, f.es1.toNat⟩]) := by
    simp [hn, hown]
  exact completes_of_guarded hs hg hchecks rfl

theorem answers_slkill (hn : NoBad (eChecks f {} (f.imm != 0#17))) (hown : (s.envAlone x (.slstat f)).foreignJob (x.es1 f) = false) :
    s.Answers x (.slkill f) f id (fun t => match t.jobOf d (x.es1 f) with | some j => t.endJob d j.serial .killed | none => t)
      fun t => t.jobWord d (x.es1 f) := by
  subst hd
  have hchecks : NoBad (eChecks f {} (f.imm != 0#17) ++ [⟨(s.envAlone x (.slkill f)).foreignJob (x.es1 f), 7, f.es1.toNat⟩]) := by
    simp [hn, show (s.envAlone x (.slkill f)).foreignJob (x.es1 f) = false from hown]
  exact completes_of_guarded hs hg hchecks rfl

end sluice

section stbind
variable {s : State} {x : Ctx} {f : EForm} {k : Nat} {st : Ctx → Stream} (hs : s.Issues x) (hg : x.Guarded f.g)
  (hn : NoBad (eChecks f { es1 := false } (decide (16 ≤ f.imm.toNat)))) (hk : k = f.imm.toNat % 8) (hst : ∀ y, st y = SMap.get {} y.f k)

theorem imm_past_16 (imm : BitVec 17) : (bits imm 16 4 != 0) = decide (16 ≤ imm.toNat) := by
  have := imm.isLt
  rw [bits_eq, Bool.eq_iff_iff, bne_iff_ne, decide_eq_true_iff]
  omega

/-- A stream register of the context that STBIND names, or an empty one. -/
def streamOf? (s t : State) (k : Nat) : Stream :=
  match t.ctx s.cur with
  | some y => SMap.get {} y.f k
  | none => {}

include hk in
theorem evalStbind_eq : evalInstr (.stbind f) (s.envAlone x (.stbind f)) = (s.envAlone x (.stbind f)).guarded
    (eChecks f { es1 := false } (decide (16 ≤ f.imm.toNat)))
    ((s.envAlone x (.stbind f)).awaits f fun t =>
      if f.imm.getLsbD 3 then
        (s.envAlone x (.stbind f)).answer f (BitVec.ofNat 64 (streamOf? s t k).buf.length) (t.modCtx s.cur fun y => { y with f := SMap.set {} y.f k {} })
      else (s.envAlone x (.stbind f)).answer f
        (BitVec.ofNat 64 ((streamOf? s t k).buf.length * 256 + (if (streamOf? s t k).bound.isSome then 1 else 0))) t) := by
  subst hk
  rw [← imm_past_16]
  rfl

include hs hg hn hk hst

theorem answers_stbind_query (hlow : f.imm.toNat < 8) : s.Answers x (.stbind f) f id id fun t => match t.ctx s.cur with
    | some y => BitVec.ofNat 64 ((st y).buf.length * 256 + (if (st y).bound.isSome then 1 else 0))
    | none => 0#64 := by
  obtain rfl : st = fun y => SMap.get {} y.f k := funext hst
  have hbit : f.imm.getLsbD 3 = false := by
    rw [getLsbD_eq_decide]
    exact decide_eq_false (by omega)
  have hword (t : State) : BitVec.ofNat 64 ((streamOf? s t k).buf.length * 256 + (if (streamOf? s t k).bound.isSome then 1 else 0)) =
      match t.ctx s.cur with
      | some y => BitVec.ofNat 64 ((SMap.get {} y.f k).buf.length * 256 + (if (SMap.get {} y.f k).bound.isSome then 1 else 0))
      | none => 0#64 := by
    rw [streamOf?]
    cases t.ctx s.cur with
    | none => simp
    | some y => rfl
  have he := evalStbind_eq (s := s) (x := x) hk
  simp only [hbit, Bool.false_eq_true, ↓reduceIte, hword] at he
  exact answers_of_guarded hs hg hn ⟨rfl, rfl, rfl⟩ he

theorem answers_stbind_clear (hhigh : 8 ≤ f.imm.toNat) :
    s.Answers x (.stbind f) f id (fun t => t.modCtx s.cur fun y => { y with f := SMap.set {} y.f k {} }) fun t =>
      match t.ctx s.cur with | some y => BitVec.ofNat 64 (st y).buf.length | none => 0#64 := by
  obtain rfl : st = fun y => SMap.get {} y.f k := funext hst
  have hlt : f.imm.toNat < 16 := by
    have hbad : decide (16 ≤ f.imm.toNat) = false :=
      (noBad_iff _).mp hn ⟨decide (16 ≤ f.imm.toNat), 5, f.imm.toNat⟩ (by simp [eChecks])
    simpa only [decide_eq_false_iff_not, Nat.not_le] using hbad
  have hbit : f.imm.getLsbD 3 = true := by
    rw [getLsbD_eq_decide]
    exact decide_eq_true (by omega)
  have hword (t : State) : BitVec.ofNat 64 (streamOf? s t k).buf.length =
      match t.ctx s.cur with | some y => BitVec.ofNat 64 (SMap.get {} y.f k).buf.length | none => 0#64 := by
    rw [streamOf?]
    cases t.ctx s.cur <;> rfl
  have he := evalStbind_eq (s := s) (x := x) hk
  simp only [hbit, ↓reduceIte, hword] at he
  exact answers_of_guarded hs hg hn ⟨rfl, rfl, rfl⟩ he

end stbind

section riffle
variable {s : State} {x : Ctx} {f : EForm} {u p : Nat} (hs : s.Issues x) (hg : x.Guarded f.g) (himm : f.imm.toNat = 256 * u + p) (hp : p < 256)
  (hu : u < 4)

include himm hp hu

/-- The unit and the port that an operation names, and that it names no more. -/
theorem riffle_fields : bits f.imm 9 8 = u ∧ bits f.imm 7 0 = p ∧ bits f.imm 16 10 = 0 := by
  refine ⟨?_, ?_, ?_⟩
  all_goals
    rw [bits_eq]
    omega

/-- The operation that a write of a trigger port captures. -/
def State.captured (s : State) (x : Ctx) (f : EForm) (u : Nat) (k : RKind) : ROp :=
  { ctx := s.cur, sup := x.sup, kind := k, trig := x.es1 f, token := f.token.toNat, after := s.heldWrites s.cur
    ports := ((List.range 8).foldl (fun (m : SMap W64) q =>
      SMap.set 0#64 m q (SMap.get 0#64 (s.riffle (ctxCluster s.cur) u).ports (8 * s.cur + q))) []) }

theorem evalRmov_eq (hport : (decide (p < 8) || (rkindOf p).isSome) = true) : evalInstr (.rmov f) (s.envAlone x (.rmov f)) =
    (s.envAlone x (.rmov f)).guarded (eChecks f { ed := false } false)
      (match rkindOf p with
        | none => (s.envAlone x (.rmov f)).counted f fun t => (s.envAlone x (.rmov f)).atOnce f []
            (t.modRiffle (ctxCluster s.cur) u fun r => { r with ports := SMap.set 0#64 r.ports (8 * s.cur + p) (x.es1 f) })
        | some k => match (s.captured x f u k).misaligned with
          | some a => (s.envAlone x (.rmov f)).trap 0x04 a
          | none => (s.envAlone x (.rmov f)).clean ((s.captured x f u k).handleReads (ctxDie s.cur)) <|
              if s.riffleCheck (s.captured x f u k) ≠ 0 then
                (s.envAlone x (.rmov f)).counted f fun t =>
                  (s.envAlone x (.rmov f)).atOnce f [] (t.trigger (ctxCluster s.cur) u (s.captured x f u k)).1
              else if 8 ≤ (s.riffle (ctxCluster s.cur) u).queue.length then .wait (.riffle (ctxCluster s.cur) u) id
              else (s.envAlone x (.rmov f)).counted f fun t => (t.trigger (ctxCluster s.cur) u (s.captured x f u k)).1) := by
  obtain ⟨h1, h2, h3⟩ := riffle_fields himm hp hu
  rw [evalInstr_rmov, evalRmov, h1, h2, h3, hport]
  rfl

theorem evalRget_eq (hport : p < 8 ∨ p = 0x20 ∨ p = 0x21) : evalInstr (.rget f) (s.envAlone x (.rget f)) =
    (s.envAlone x (.rget f)).guarded (eChecks f { es1 := false } false)
      ((s.envAlone x (.rget f)).awaits f fun t =>
        (s.envAlone x (.rget f)).answer f ((t.riffle (ctxCluster s.cur) u).portValue s.cur p) t) := by
  obtain ⟨h1, h2, h3⟩ := riffle_fields himm hp hu
  have hok : (decide (p < 8) || p == 0x20 || p == 0x21) = true := by simpa [or_assoc] using hport
  rw [evalInstr_rget, evalRget, h1, h2, h3, hok]
  rfl

include hs hg

theorem clears_rmov_operand (hn : NoBad (eChecks f { ed := false } false)) (hlow : p < 8) : s.Clears x (.rmov f) f fun t =>
    t.modRiffle (ctxCluster s.cur) u fun r => { r with ports := SMap.set 0#64 r.ports (8 * s.cur + p) (x.es1 f) } := by
  have hkind : rkindOf p = none := (by decide : ∀ p < 8, rkindOf p = none) p hlow
  have he := evalRmov_eq (s := s) (x := x) himm hp hu (by simp [hlow])
  rw [hkind] at he
  exact completes_of_guarded hs hg hn he

section trigger
variable {k : RKind} {o : ROp} (hn : NoBad (eChecks f { ed := false } false)) (hkind : rkindOf p = some k)
  (ho : o = { ctx := s.cur, sup := x.sup, kind := k, trig := x.es1 f, token := f.token.toNat, after := s.heldWrites s.cur
              ports := ((List.range 8).foldl (fun (m : SMap W64) q =>
                SMap.set 0#64 m q (SMap.get 0#64 (s.riffle (ctxCluster s.cur) u).ports (8 * s.cur + q))) []) })
  (halign : o.misaligned = none) (hpoison : s.poisonIn (o.handleReads (ctxDie s.cur)) = none)
include hkind ho halign hpoison

omit hs hg in
theorem evalRmov_trigger_eq : evalInstr (.rmov f) (s.envAlone x (.rmov f)) = (s.envAlone x (.rmov f)).guarded (eChecks f { ed := false } false)
    (if s.riffleCheck o ≠ 0 then
        (s.envAlone x (.rmov f)).counted f fun t => (s.envAlone x (.rmov f)).atOnce f [] (t.trigger (ctxCluster s.cur) u o).1
      else if 8 ≤ (s.riffle (ctxCluster s.cur) u).queue.length then .wait (.riffle (ctxCluster s.cur) u) id
      else (s.envAlone x (.rmov f)).counted f fun t => (t.trigger (ctxCluster s.cur) u o).1) := by
  obtain rfl : o = s.captured x f u k := ho
  have he := evalRmov_eq (s := s) (x := x) himm hp hu (by simp [hkind])
  rw [hkind] at he
  dsimp only at he
  rw [halign] at he
  dsimp only at he
  rwa [Env.clean_of_none (e := s.envAlone x (.rmov f)) hpoison] at he

include hn

theorem clears_rmov_refused (hrefused : s.riffleCheck o ≠ 0) : s.Clears x (.rmov f) f fun t => (t.trigger (ctxCluster s.cur) u o).1 := by
  have he := evalRmov_trigger_eq himm hp hu hkind ho halign hpoison
  rw [if_pos hrefused] at he
  exact completes_of_guarded hs hg hn he

theorem completes_rmov_queued (hok : s.riffleCheck o = 0) (hroom : (s.riffle (ctxCluster s.cur) u).queue.length < 8) :
    s.Completes x (.rmov f) (some f.token.toNat) fun t => (t.trigger (ctxCluster s.cur) u o).1 := by
  have he := evalRmov_trigger_eq himm hp hu hkind ho halign hpoison
  rw [if_neg (not_not_intro hok), if_neg (Nat.not_le_of_lt hroom)] at he
  exact completes_of_guarded hs hg hn he

end trigger

end riffle

/-- Settles O24, operation by operation. -/
theorem sluiceAndRiffleOps : Obligations.SluiceAndRiffleOps := by
  constructor
  · intro s x f d hs hg hd
    refine ⟨fun hn rs bs w ho hw hpoison halign hlayout => ⟨fun st hst hne => answers_sljob hs hg hd hn ho hw hpoison halign hlayout hst hne,
      fun pl hst hpl => completes_sljob hs hg hd hn ho hw hpoison halign hlayout hst hpl⟩,
      fun hn hown => ⟨answers_slstat hs hg hd hn hown, answers_slkill hs hg hd hn hown⟩,
      fun hn k st hk hst => ⟨fun hlow => answers_stbind_query hs hg hn hk hst hlow, fun hhigh => answers_stbind_clear hs hg hn hk hst hhigh⟩⟩
  · intro s x f u p hs hg himm hp hu
    refine ⟨fun hn => ⟨fun hlow => clears_rmov_operand hs hg himm hp hu hn hlow, fun k o _ hkind ho halign hpoison =>
      ⟨fun hrefused => clears_rmov_refused hs hg himm hp hu hn hkind ho halign hpoison hrefused,
        fun hok hroom => completes_rmov_queued hs hg himm hp hu hn hkind ho halign hpoison hok hroom⟩⟩,
      fun hn hport => answers_of_guarded hs hg hn ⟨rfl, rfl, rfl⟩ (evalRget_eq himm hp hu hport)⟩

end Sys2Proof.Machine

/-! ## Eddy operations (R201 to R204, R460) -/

namespace Sys2Proof.Machine

set_option Elab.async false

section guarded
variable {s : State} {x : Ctx} {i : Instr} {f : EForm}

/-- An operand outside space 0xF is not asked for the level of the supervisor (R263). -/
theorem guardedAt_of_data {a : W64} {cs : List Check} {o : SlotOut} {spaces : List Nat} (hspaces : 0xF ∉ spaces)
    (h : spaces.contains (bits a 63 60) = true) : (s.envAlone x i).guardedAt a cs o = (s.envAlone x i).guarded cs o := by
  have hspace : (bits a 63 60 == 0xF) = false :=
    beq_false_of_ne fun h15 => hspaces (h15 ▸ List.mem_of_elem_eq_true h)
  rw [Env.guardedAt, hspace, Bool.and_false, Bool.false_and, if_neg Bool.false_ne_true]

/-- An object of an operation that is aligned, in one of its spaces, and translated. -/
theorem object_eq {a : W64} {n : Nat} {spaces : List Nat} {l : Loc} {k : Loc → SlotOut} (hspace : spaces.contains (a.toNat / 2 ^ 60) = true)
    (halign : a.toNat % n = 0) (hl : (s.envAlone x i).resolve { perm := .write } ⟨0, a, n⟩ = .ok l) : (s.envAlone x i).object a n spaces k = k l := by
  rw [← spaceOf_eq] at hspace
  have hok : (!spaces.contains (bits a 63 60) || a.toNat % n != 0) = false := by
    rw [halign, show spaces.contains (bits a 63 60) = true from hspace]
    rfl
  rw [Env.object, hok, if_neg Bool.false_ne_true, hl]

end guarded

section eddy
variable {s : State} {x : Ctx} {f : EForm} {d key : Nat} (hs : s.Issues x) (hg : x.Guarded f.g) (hd : d = ctxDie s.cur)

section stash
variable {rs : List Req} {bs : List Byte} {w : List W64} (hn : NoBad (eChecks f {} (f.imm != 0#17)))
  (ho : s.Operand x (.edstash f) (x.es1 f) 32 32 [8, 9] rs bs) (hw : w = (List.range 4).map fun k => wordOf (bs.drop (8 * k)))
  (halign : stashMisaligned w = none)
  (hpoison : (w.getD 0 0#64).toNat % 2 ^ 20 = 0 ∨ s.poisonIn [(recAddr d ((w.getD 0 0#64).toNat % 2 ^ 20), 64)] = none)
include hd ho hw halign hpoison

/-- EDSTASH behind the reading of its descriptor. -/
theorem evalEdstash_eq {st : Nat} {n : Option Stash} (hst : s.stashStatus s.cur x.sup w = (st, n)) :
    evalInstr (.edstash f) (s.envAlone x (.edstash f)) = (s.envAlone x (.edstash f)).guarded (eChecks f {} (f.imm != 0#17))
      ((match n with
        | some n =>
          if n.state = StashState.dropped then (s.envAlone x (.edstash f)).awaits f fun t =>
            (s.envAlone x (.edstash f)).answer f 0#64 (t.edstash s.cur f.token.toNat none n)
          else (s.envAlone x (.edstash f)).counted f fun t =>
            (t.edstash s.cur f.token.toNat (t.die d).freePlace n).addFlight s.cur 2 (.scalar (eDest f) 0#64)
        | none => (s.envAlone x (.edstash f)).awaits f ((s.envAlone x (.edstash f)).answer f (BitVec.ofNat 64 st))).withFills
        (ctxCluster s.cur) rs) := by
  subst hd hw
  refine (guardedAt_of_data (by decide) (operand_space ho)).trans (congrArg ((s.envAlone x (.edstash f)).guarded _) ?_)
  refine (operand_eq ho).trans (congrArg (SlotOut.withFills · _ _) ?_)
  rw [show wordsOf bs 4 = (List.range 4).map fun k => wordOf (bs.drop (8 * k)) from rfl]
  dsimp only
  rw [halign]
  refine (Env.clean_of_none ?_).trans ?_
  · split
    · rfl
    · exact hpoison.resolve_left ‹_›
  · rw [show (s.envAlone x (.edstash f)).s.stashStatus (s.envAlone x (.edstash f)).c (s.envAlone x (.edstash f)).x.sup
      ((List.range 4).map fun k => wordOf (bs.drop (8 * k))) = (st, n) from hst]
    cases n <;> rfl

include hs hg hn

theorem answers_edstash_refused {st : Nat} (hst : s.stashStatus s.cur x.sup w = (st, none)) :
    s.Answers x (.edstash f) f (fun t => t.fillAll (ctxCluster s.cur) rs) id fun _ => BitVec.ofNat 64 st :=
  completes_of_guarded hs hg hn (evalEdstash_eq hd ho hw halign hpoison hst)

theorem completes_edstash {st : Nat} {n : Stash} (hst : s.stashStatus s.cur x.sup w = (st, some n)) (hstate : n.state ≠ .dropped) :
    s.Completes x (.edstash f) (some f.token.toNat) fun t =>
      ((t.fillAll (ctxCluster s.cur) rs).edstash s.cur f.token.toNat ((t.fillAll (ctxCluster s.cur) rs).die d).freePlace n).addFlight s.cur 2
        (.scalar (eDest f) 0#64) := by
  have he := evalEdstash_eq hd ho hw halign hpoison hst
  simp only [if_neg hstate] at he
  exact completes_of_guarded hs hg hn he

theorem answers_edstash_dropped {st : Nat} {n : Stash} (hst : s.stashStatus s.cur x.sup w = (st, some n)) (hstate : n.state = .dropped) :
    s.Answers x (.edstash f) f (fun t => t.fillAll (ctxCluster s.cur) rs) (fun t => t.edstash s.cur f.token.toNat none n) fun _ => 0#64 := by
  have he := evalEdstash_eq hd ho hw halign hpoison hst
  simp only [if_pos hstate] at he
  exact completes_of_guarded hs hg hn he

end stash

section fetch
variable {kind n : Nat} {l : Loc} {a : Option Attach} (hkind : kind = f.imm.toNat % 4) (hnum : n = f.imm.toNat / 4)
  (hn : NoBad (eChecks f { es2 := kind == 1 } false)) (hkey : keyBad (x.es1 f) = false)
  (hattach : kind = 0 ∧ n = 0 ∧ a = none ∨ kind = 2 ∧ n < 8 ∧ a = some (.stream s.cur n) ∨
    kind = 1 ∧ n = 0 ∧ a = some (.barrier l) ∧ ((x.es2 f).toNat / 2 ^ 60 = 8 ∨ (x.es2 f).toNat / 2 ^ 60 = 9) ∧ (x.es2 f).toNat % 16 = 0 ∧
      (s.envAlone x (.edfetch f)).resolve { perm := .write } ⟨0, x.es2 f, 16⟩ = .ok l)
include hkind hnum hattach

theorem fetch_fields : bits f.imm 1 0 = kind ∧ bits f.imm 4 2 = n ∧ (kind == 3 || bits f.imm 16 5 != 0 || (kind != 2 && n != 0)) = false := by
  have hlt : kind < 4 ∧ n < 8 ∧ (kind = 2 ∨ n = 0) ∧ kind ≠ 3 := by
    rcases hattach with ⟨h1, h2, -⟩ | ⟨h1, h2, -⟩ | ⟨h1, h2, -⟩ <;> omega
  obtain ⟨-, hn8, hor, hne⟩ := hlt
  refine ⟨by rw [bits_eq]; omega, by rw [bits_eq]; omega, ?_⟩
  have hhigh : bits f.imm 16 5 = 0 := bits_eq_zero_of_div 16 5 (by omega)
  rcases hor with h | h <;> simp [hhigh, hne, h]

include hs hg hn hkey

theorem completes_of_fetch {tok : Option Nat} {k : State → State} (hk : (s.envAlone x (.edfetch f)).fetch f a = .act tok k) :
    s.Completes x (.edfetch f) tok k := by
  obtain ⟨hkind', hnum', himm⟩ := fetch_fields hkind hnum hattach
  have hchecks : NoBad (eChecks f { es2 := kind == 1 } (kind == 3 || bits f.imm 16 5 != 0 || (kind != 2 && n != 0)) ++
      [⟨keyBad (x.es1 f), 7, f.es1.toNat⟩]) := by
    simp [himm, hn, hkey]
  refine completes_of_guarded hs hg hchecks ?_
  rw [evalInstr_edfetch, evalEdfetch, hkind', hnum', ← hk]
  refine congrArg ((s.envAlone x (.edfetch f)).guarded _) ?_
  rcases hattach with ⟨rfl, -, rfl⟩ | ⟨rfl, -, rfl⟩ | ⟨rfl, -, rfl, hspace, halign, hl⟩
  · rfl
  · rfl
  · have hlocal : [0x8, 0x9].contains ((x.es2 f).toNat / 2 ^ 60) = true := by
      rcases hspace with h | h <;> rw [h] <;> rfl
    exact object_eq hlocal halign hl

end fetch

end eddy

/-- Settles O25, operation by operation. -/
theorem eddyOps : Obligations.EddyOps := by
  rintro s x f d key hs hg hd rfl
  refine ⟨?_, ?_, ?_⟩
  · intro hn rs bs w ho hw halign hpoison
    exact ⟨fun st hst => answers_edstash_refused hs hg hd hn ho hw halign hpoison hst,
      fun st n hst hstate => completes_edstash hs hg hd hn ho hw halign hpoison hst hstate,
      fun st n hst hstate => answers_edstash_dropped hs hg hd hn ho hw halign hpoison hst hstate⟩
  · intro kind n l a hkind hnum hn hkey hattach
    subst hd
    refine ⟨?_, fun hst => ?_⟩
    · rintro st rfl hne
      exact completes_of_fetch hs hg hkind hnum hn hkey hattach (if_pos hne)
    · exact completes_of_fetch hs hg hkind hnum hn hkey hattach (if_neg (not_not_intro hst))
  · intro himm hn hkey
    subst hd
    have hchecks : NoBad (eChecks f {} (f.imm != 0#17) ++ [⟨keyBad (x.es1 f), 7, f.es1.toNat⟩]) := by
      simp [himm, hn, hkey]
    refine ⟨fun hnone => ?_, fun hsome => ?_, completes_of_guarded hs hg hchecks rfl⟩
    · refine completes_of_guarded hs hg hchecks (congrArg ((s.envAlone x (.edfree f)).guarded _) (if_pos ?_))
      exact hnone ▸ rfl
    · refine completes_of_guarded hs hg hchecks (congrArg ((s.envAlone x (.edfree f)).guarded _) (if_neg ?_))
      rw [Option.isNone_iff_eq_none]
      exact hsome

end Sys2Proof.Machine

/-! ## Channel operations and ring collectives (R86, R89, R90, R94, R461 to R465) -/

namespace Sys2Proof.Machine

set_option Elab.async false

/-- A descriptor of an operation that can be read (R454). -/
theorem descriptor_eq {s : State} {x : Ctx} {i : Instr} {a : W64} {rs : List Req} {bs : List Byte} {k : List W64 → SlotOut}
    (ho : s.Operand x i a 32 32 [8, 9] rs bs) :
    (s.envAlone x i).descriptor a 4 k = (k ((List.range 4).map fun n => wordOf (bs.drop (8 * n)))).withFills (ctxCluster s.cur) rs :=
  operand_eq ho

theorem chanBad_eq_false {f : EForm} {n : Nat} (hn : n = f.imm.toNat) (hlt : n < 1536) : chanBad f = false := by
  subst hn
  exact decide_eq_false (Nat.not_le_of_lt hlt)

theorem noBad_chan {f : EForm} {n : Nat} {u : EUse} (hnum : n = f.imm.toNat) (hlt : n < 1536) (hn : NoBad (eChecks f u false)) :
    NoBad (eChecks f u (chanBad f)) := by
  rw [chanBad_eq_false hnum hlt]
  exact hn

section channel
variable {s : State} {x : Ctx} {f : EForm} {n : Nat} (hs : s.Issues x) (hg : x.Guarded f.g) (hnum : n = f.imm.toNat) (hlt : n < 1536)

section send
variable {rs : List Req} {bs : List Byte} {w : List W64} (hn : NoBad (eChecks f {} false)) (ho : s.Operand x (.chsend f) (x.es1 f) 32 32 [8, 9] rs bs)
  (hw : w = (List.range 4).map fun k => wordOf (bs.drop (8 * k))) (halign : sendSrck w = true ∨ (w.getD 0 0#64).toNat % 32 = 0)
  (hpoison : sendSrck w = false ∨ s.poisonIn [(recAddr (s.sendReplica n w) ((w.getD 1 0#64).toNat / 2 ^ 44), 64)] = none)
include hnum ho hw halign hpoison

/-- CHSEND behind the reading of its descriptor. -/
theorem evalChsend_eq : evalInstr (.chsend f) (s.envAlone x (.chsend f)) = (s.envAlone x (.chsend f)).guarded (eChecks f {} (chanBad f))
    ((if s.sendStatus n s.cur w ≠ 0 then (s.envAlone x (.chsend f)).awaits f fun t =>
        (s.envAlone x (.chsend f)).answer f (BitVec.ofNat 64 (s.sendStatus n s.cur w)) (t.dropGrant n s.cur)
      else if s.windowOpen n s.cur then
        (s.envAlone x (.chsend f)).awaits f fun t => t.takeCredit n s.cur x.sup f.token.toNat (x.destOf f) w
      else .wait (.window n) fun t => t.modChan n fun y => { y with waiters := y.waiters ++ [s.cur] }).withFills (ctxCluster s.cur) rs) := by
  subst hnum
  refine (guardedAt_of_data (by decide) (operand_space ho)).trans (congrArg ((s.envAlone x (.chsend f)).guarded _) ?_)
  refine (descriptor_eq ho).trans (congrArg (SlotOut.withFills · _ _) ?_)
  rw [← hw]
  refine (Env.clean_of_none ?_).trans (if_neg ?_)
  · split
    case isTrue h =>
      have hfield : sendField w 63 44 = (w.getD 1 0#64).toNat / 2 ^ 44 := by
        have := (w.getD 1 0#64).isLt
        rw [sendField, bits_eq]
        omega
      rw [hfield]
      exact hpoison.resolve_left fun hf => Bool.false_ne_true (hf.symm.trans h)
    case isFalse => rfl
  · rw [Bool.and_eq_true, Bool.not_eq_true', bne_iff_ne]
    exact fun ⟨h1, h2⟩ => halign.elim (fun h => Bool.false_ne_true (h1.symm.trans h)) h2

include hs hg hn hlt

theorem answers_chsend_refused {st : Nat} (hst : st = s.sendStatus n s.cur w) (hne : st ≠ 0) :
    s.Answers x (.chsend f) f (fun t => t.fillAll (ctxCluster s.cur) rs) (fun t => t.dropGrant n s.cur) fun _ => BitVec.ofNat 64 st := by
  have he := evalChsend_eq hnum ho hw halign hpoison
  rw [← hst, if_pos hne, chanBad_eq_false hnum hlt] at he
  exact completes_of_guarded hs hg hn he

theorem expects_chsend (hst : s.sendStatus n s.cur w = 0) (hopen : s.windowOpen n s.cur = true) :
    s.Expects x (.chsend f) f (fun t => t.fillAll (ctxCluster s.cur) rs) fun t => t.takeCredit n s.cur x.sup f.token.toNat (x.destOf f) w := by
  have he := evalChsend_eq hnum ho hw halign hpoison
  rw [if_neg (not_not_intro hst), if_pos hopen, chanBad_eq_false hnum hlt] at he
  exact completes_of_guarded hs hg hn he

end send

section receive
variable {both : List Dest} (hn : NoBad (eChecks f { es1 := false, edPair := true } false)) (hboth : both = [.e f.ed.toNat, .e (f.ed.toNat + 1)])
include hs hg hnum hlt hn hboth

theorem completes_chrecv_closed (h : (s.chan n).state ≠ .recv ∨ (s.chan n).sink ≠ 0#2) :
    s.Completes x (.chrecv f) (some f.token.toNat) fun t => (t.expect s.cur both).addFlight s.cur 2
      (.reply f.token.toNat x.resultNo [(.e f.ed.toNat, 1#64), (.e (f.ed.toNat + 1), 0#64)]) := by
  have hn := noBad_chan hnum hlt hn
  subst hnum hboth
  exact completes_of_guarded hs hg hn (congrArg ((s.envAlone x (.chrecv f)).guarded _) (if_pos h))

theorem completes_chrecv_open (hstate : (s.chan n).state = .recv) (hsink : (s.chan n).sink = 0#2) (hroom : (s.chan n).recvs.length < 64) :
    s.Completes x (.chrecv f) (some f.token.toNat) fun t => (t.expect s.cur both).modChan n fun k =>
      { k with recvs := k.recvs ++ [⟨s.cur, f.token.toNat, x.destOf f⟩] } := by
  have hn := noBad_chan hnum hlt hn
  subst hnum hboth
  have hopen : ¬ ((s.chan f.imm.toNat).state ≠ .recv ∨ (s.chan f.imm.toNat).sink ≠ 0#2) := by simp [hstate, hsink]
  exact completes_of_guarded hs hg hn (congrArg ((s.envAlone x (.chrecv f)).guarded _)
    ((if_neg hopen).trans (if_neg (Nat.not_le_of_lt hroom))))

end receive

section release
variable (hn : NoBad (eChecks f {} false))
include hs hg hnum hlt hn

theorem answers_chrel_closed (h : (s.chan n).state ≠ .recv) : s.Answers x (.chrel f) f id id fun _ => 1#64 := by
  have hn := noBad_chan hnum hlt hn
  subst hnum
  exact completes_of_guarded hs hg hn (congrArg ((s.envAlone x (.chrel f)).guarded _) (if_pos h))

theorem expects_chrel (h : (s.chan n).state = .recv) : s.Expects x (.chrel f) f id fun t =>
    match t.release n ((x.es1 f).truncate 16) with
    | some r => r.1.addFlight s.cur 2 (.reply f.token.toNat x.resultNo [(eDest f, BitVec.ofNat 64 (r.2 * 256))])
    | none => t.addFlight s.cur 2 (.reply f.token.toNat x.resultNo [(eDest f, 6#64)]) := by
  have hn := noBad_chan hnum hlt hn
  subst hnum
  have hseq : (x.es1 f).truncate 16 = (x.es1 f).extractLsb' 0 16 := BitVec.setWidth_eq_extractLsb' (by decide)
  rw [hseq]
  exact completes_of_guarded hs hg hn (congrArg ((s.envAlone x (.chrel f)).guarded _) (if_neg (not_not_intro h)))

end release

end channel

section collective
variable {s : State} {x : Ctx} {i : Instr} {f : EForm} {op : Nat} {flag : W64} {rs : List Req} {bs : List Byte} {w : List W64} {cs : List Check}
  (hs : s.Issues x) (hg : x.Guarded f.g) (hn : NoBad cs) (ha : ActsUnder i f.g) (ho : s.Operand x i (x.es1 f) 32 32 [8, 9] rs bs)
  (hw : w = (List.range 4).map fun k => wordOf (bs.drop (8 * k))) (halign : collMisaligned w = none)
  (he : evalInstr i (s.envAlone x i) = (s.envAlone x i).guardedAt (x.es1 f) cs ((s.envAlone x i).collective f op flag))
include ho hw halign he

/-- A collective behind the reading of its descriptor. -/
theorem evalCollective_eq : evalInstr i (s.envAlone x i) = (s.envAlone x i).guarded cs
    ((if collBad op w then (s.envAlone x i).awaits f ((s.envAlone x i).answer f 1#64)
      else (s.envAlone x i).awaits f fun t => t.oxIssue s.cur x.sup f.token.toNat (x.destOf f) op w flag).withFills (ctxCluster s.cur) rs) := by
  refine he.trans ((guardedAt_of_data (by decide) (operand_space ho)).trans (congrArg ((s.envAlone x i).guarded _) ?_))
  refine (descriptor_eq ho).trans (congrArg (SlotOut.withFills · _ _) ?_)
  rw [← hw, halign]
  rfl

include hs hg hn ha

theorem answers_collective_bad (hbad : collBad op w = true) :
    s.Answers x i f (fun t => t.fillAll (ctxCluster s.cur) rs) id fun _ => 1#64 := by
  have he' := evalCollective_eq ho hw halign he
  rw [if_pos hbad] at he'
  exact completes_of_guarded hs hg hn he' ha

theorem expects_collective (hok : collBad op w = false) :
    s.Expects x i f (fun t => t.fillAll (ctxCluster s.cur) rs) fun t => t.oxIssue s.cur x.sup f.token.toNat (x.destOf f) op w flag := by
  have he' := evalCollective_eq ho hw halign he
  rw [if_neg (ne_true_of_eq_false hok)] at he'
  exact completes_of_guarded hs hg hn he' ha

end collective

/-- Settles O26, operation by operation. -/
theorem channelAndCollectiveOps : Obligations.ChannelAndCollectiveOps := by
  constructor
  · intro s x f n hs hg hnum hlt
    refine ⟨fun hn rs bs w ho hw halign hpoison => ⟨fun st hst hne => answers_chsend_refused hs hg hnum hlt hn ho hw halign hpoison hst hne,
      fun hst hopen => expects_chsend hs hg hnum hlt hn ho hw halign hpoison hst hopen⟩,
      fun hn both hboth => ⟨completes_chrecv_closed hs hg hnum hlt hn hboth, completes_chrecv_open hs hg hnum hlt hn hboth⟩,
      fun hn => ⟨answers_chrel_closed hs hg hnum hlt hn, expects_chrel hs hg hnum hlt hn⟩, fun hn => ?_⟩
    have hn := noBad_chan hnum hlt hn
    subst hnum
    exact completes_of_guarded hs hg hn rfl
  · rintro s x f i op flag rs bs w hs hg hi ho hw halign
    obtain ⟨rfl, rfl, rfl, hlt, hn⟩ | ⟨rfl, rfl, rfl, himm, hn⟩ := hi
    · have himm : bits f.imm 16 1 = 0 ∧ bits f.imm 0 0 = f.imm.toNat := by
        rw [bits_eq, bits_eq]
        omega
      have hn' : NoBad (eChecks f {} (bits f.imm 16 1 != 0)) := by
        rw [himm.1]
        exact hn
      have he : evalInstr (.oxred f) (s.envAlone x (.oxred f)) = (s.envAlone x (.oxred f)).guardedAt (x.es1 f) (eChecks f {} (bits f.imm 16 1 != 0))
          ((s.envAlone x (.oxred f)).collective f f.imm.toNat 0#64) := by
        rw [← himm.2]
        rfl
      exact ⟨answers_collective_bad hs hg hn' ⟨rfl, rfl, rfl⟩ ho hw halign he, expects_collective hs hg hn' ⟨rfl, rfl, rfl⟩ ho hw halign he⟩
    · have hn' : NoBad (eChecks f { es2 := true } (f.imm != 0#17)) := by
        rw [himm, bne_self_eq_false]
        exact hn
      exact ⟨answers_collective_bad hs hg hn' ⟨rfl, rfl, rfl⟩ ho hw halign rfl, expects_collective hs hg hn' ⟨rfl, rfl, rfl⟩ ho hw halign rfl⟩

end Sys2Proof.Machine

/-! ## Weir operations (R147, R155, R466 to R468) -/

namespace Sys2Proof.Machine

set_option Elab.async false

section weir
variable {s : State} {x : Ctx} {f : EForm} {d : Nat} (hs : s.Issues x) (hg : x.Guarded f.g) (hd : d = ctxDie s.cur)

section block
variable {l : Loc} (hspace : (x.es1 f).toNat / 2 ^ 60 = 0 ∨ (x.es1 f).toNat / 2 ^ 60 = 9) (halign : (x.es1 f).toNat % 32 = 0)
  (hl : (s.envAlone x (.wpost f)).resolve { perm := .write } ⟨0, x.es1 f, 32⟩ = .ok l)
include hspace halign hl

/-- The block that an operation names, where its address is checked and translated. -/
theorem block_eq {i : Instr} {k : Loc → SlotOut} : (s.envAlone x i).object (x.es1 f) 32 [0x0, 0x9] k = k l := by
  have hin : [0x0, 0x9].contains ((x.es1 f).toNat / 2 ^ 60) = true := by
    rcases hspace with h | h <;> rw [h] <;> rfl
  exact object_eq hin halign hl

include hs hg hd

theorem expects_wpost (hn : NoBad (eChecks f {} (f.imm != 0#17))) (hposts : x.posts.length < 4 ∨ l ∈ x.posts) : s.Expects x (.wpost f) f id fun t =>
    (t.sendPost d l (some (s.cur, f.token.toNat, x.destOf f)) (t.heldWrites s.cur)).modCtx s.cur fun y =>
      if y.posts.contains l then y else { y with posts := y.posts ++ [l] } := by
  subst hd
  have hchecks : NoBad (eChecks f {} (f.imm != 0#17) ++ [⟨(s.envAlone x (.wpost f)).fifthBlock (x.es1 f), 7, f.es1.toNat⟩]) := by
    have hfifth : (s.envAlone x (.wpost f)).fifthBlock (x.es1 f) = false := by
      have hplace : (s.envAlone x (.wpost f)).blockAt (x.es1 f) = some l := by rw [Env.blockAt, hl]
      rw [Env.fifthBlock, hplace]
      rcases hposts with h | h
      · exact (congrArg (· && _) (decide_eq_false (Nat.not_le_of_lt h))).trans (Bool.false_and _)
      · exact (congrArg (_ && !·) (List.elem_eq_true_of_mem h)).trans (Bool.and_false _)
    simp [hn, hfifth]
  exact completes_of_guarded hs hg hchecks (congrArg ((s.envAlone x (.wpost f)).guarded _) (block_eq hspace halign hl))

theorem answers_wraise (hn : NoBad (eChecks f { es2 := true } (f.imm != 0#17))) (hready : s.blockReady d l (s.die d).vc = true)
    (hpoison : s.poisonIn (l.runs 32) = none) {st : Nat}
    (hst : (s.applyRaise d l (x.posts.contains l) ((x.es2 f).toNat % 2 ^ 32)).2 = some st) :
    s.Answers x (.wraise f) f id (fun t => (t.applyRaise d l false ((x.es2 f).toNat % 2 ^ 32)).1) fun _ => BitVec.ofNat 64 st := by
  subst hd
  refine completes_of_guarded hs hg hn (congrArg ((s.envAlone x (.wraise f)).guarded _) ((block_eq hspace halign hl).trans ?_))
  refine (if_neg (by rw [Bool.not_eq_true']; exact ne_false_of_eq_true hready)).trans ((Env.clean_of_none hpoison).trans ?_)
  rw [show ((s.envAlone x (.wraise f)).s.applyRaise (ctxDie (s.envAlone x (.wraise f)).c) l ((s.envAlone x (.wraise f)).x.posts.contains l)
    (bits ((s.envAlone x (.wraise f)).es2 f) 31 0)).2 = some st from hst]
  rfl

end block

/-- The arrival that WARR sends. -/
def warrArrival (s : State) (x : Ctx) (f : EForm) (t : State) : Arrival :=
  { id := t.nextId, stage := bits (x.es1 f) 9 7, queue := bits (x.es1 f) 6 5
    entry := { tag := (x.es1 f).extractLsb' 32 32, phase := bits (x.es1 f) 3 0, chan := 0xFFFF#16, seq := 0#16, dep := x.es2 f
               depCluster := ctxCluster s.cur, lt := x.eReg (f.es2.toNat + 1) }
    ctx := s.cur, token := f.token.toNat, dest := x.destOf f, clock := (t.die (ctxDie s.cur)).vc, after := t.heldWrites s.cur }

include hs hg in
theorem expects_warr (hn : NoBad (eChecks f { es2 := true, es2Pair := true } (f.imm != 0#17))) (hclear : (x.es1 f).toNat / 2 ^ 12 % 2 ^ 20 = 0)
    (hbit : (x.es1 f).toNat / 16 % 2 = 0) (halign : (x.es2 f).toNat % 32 = 0) :
    s.Expects x (.warr f) f id fun t => ({ t with nextId := t.nextId + 1 } : State).modDie ((x.es1 f).toNat / 2 ^ 10 % 4) fun y =>
      { y with arrivals := y.arrivals ++ [warrArrival s x f t] } := by
  have hchecks : NoBad (eChecks f { es2 := true, es2Pair := true } (f.imm != 0#17) ++
      [⟨bits (x.es1 f) 31 12 != 0 || bit (x.es1 f) 4, 7, f.es1.toNat⟩]) := by
    have hb : bit (x.es1 f) 4 = false := (getLsbD_eq_decide _ _).trans (decide_eq_false (by omega))
    have hc : bits (x.es1 f) 31 12 = 0 := (bits_eq _ 31 12).trans hclear
    simp [hn, hb, hc]
  have hdie : bits (x.es1 f) 11 10 = (x.es1 f).toNat / 2 ^ 10 % 4 := bits_eq _ 11 10
  rw [← hdie]
  exact completes_of_guarded hs hg hchecks (congrArg ((s.envAlone x (.warr f)).guarded _) (if_neg (not_not_intro halign)))

theorem partCtx_le (p : W64) : partCtx p ≤ 4 := by
  rw [partCtx]
  split <;> decide

include hs hg in
theorem completes_spawn {q c : Nat} (hn : NoBad (eChecks f { ed := false, es2 := true } false)) (himm : f.imm.toNat = q)
    (hq : q < partCtx (s.part s.cur)) (hes2 : f.es2.toNat ≤ 24) (hlatch : f.q.getLsbD 0 = false) (hc : c = 4 * ctxCore s.cur + q)
    (hfree : s.ctx c = none) (hreserved : s.reserved c = false) :
    s.Completes x (.spawn f) (some f.token.toNat) fun t =>
      (t.spawn s.cur c ((x.es1 f).truncate 48) ((List.range 8).map fun i => x.eReg (f.es2.toNat + i))).reply s.cur f.token.toNat [] := by
  have hlt : q < 4 := Nat.lt_of_lt_of_le hq (partCtx_le _)
  have hseq : bits f.imm 1 0 = q := by
    rw [bits_eq]
    omega
  have hhigh : bits f.imm 16 2 = 0 := bits_eq_zero_of_div 16 2 (by omega)
  have hchecks : NoBad (eChecks f { ed := false, es2 := true } (bits f.imm 16 2 != 0 || decide (partCtx (s.part s.cur) ≤ q)) ++
      [⟨decide (24 < f.es2.toNat), 2, f.es2.toNat⟩, ⟨f.q.getLsbD 0, 3, f.q.toNat⟩]) := by
    simp only [hhigh, bne_self_eq_false, decide_eq_false (Nat.not_le_of_lt hq), Bool.or_self, noBad_append, hn, noBad_cons, noBad_nil, hlatch,
      decide_eq_false (Nat.not_lt.mpr hes2), and_self]
  have hctx : c = ctxCore s.cur * 4 + bits f.imm 1 0 := by rw [hseq, hc, Nat.mul_comm]
  rw [← hseq] at hchecks
  subst hctx
  refine completes_of_guarded hs hg hchecks (congrArg ((s.envAlone x (.spawn f)).guarded _) (if_neg ?_))
  rw [Bool.or_eq_true, not_or]
  exact ⟨ne_true_of_eq_false (congrArg Option.isSome hfree), ne_true_of_eq_false hreserved⟩

end weir

/-- Settles O27, operation by operation. -/
theorem weirOps : Obligations.WeirOps := by
  intro s x f d hs hg hd
  refine ⟨fun l hspace halign hl => ⟨fun hn hposts => expects_wpost hs hg hd hspace halign hl hn hposts,
    fun hn hready hpoison st hst => answers_wraise hs hg hd hspace halign hl hn hready hpoison hst⟩, ?_,
    fun q c hn himm hq hes2 hlatch hc hfree hreserved => completes_spawn hs hg hn himm hq hes2 hlatch hc hfree hreserved⟩
  rintro hn w rfl hclear hbit halign
  subst hd
  refine ⟨warrArrival s x f, expects_warr hs hg hn hclear hbit halign, fun t => ⟨bits_eq _ 9 7, bits_eq _ 6 5, rfl, rfl, rfl, rfl, rfl, ?_, rfl, rfl, rfl⟩⟩
  refine BitVec.eq_of_toNat_eq ?_
  show ((x.es1 f).extractLsb' 32 32).toNat = _
  rw [BitVec.extractLsb'_toNat, Nat.shiftRight_eq_div_pow, BitVec.toNat_ofNat]

end Sys2Proof.Machine

/-! ## Gauge, record and lease operations (R46 to R48, R65 to R79, R469 to R471) -/

namespace Sys2Proof.Machine

set_option Elab.async false

/-- An operation of the supervisor at its level goes on (R452). -/
theorem completes_of_sup {s : State} {x : Ctx} {i : Instr} {g : Guard} {cs : List Check} {tok : Option Nat} {k : State → State} (hs : s.Issues x)
    (hg : x.Guarded g) (hsup : x.sup = true) (hn : NoBad cs) (ha : ActsUnder i g)
    (he : evalInstr i (s.envAlone x i) = (s.envAlone x i).eSup cs (.act tok k)) : s.Completes x i tok k :=
  completes_of_answer ha.encoded hs ha.atIssue (he.trans (Env.guardedSup_of _ cs _ (envAlone_guarded ha hg) hsup hn))

section gauge
variable {s : State} {x : Ctx} {f : EForm} {d : Nat} (hs : s.Issues x) (hg : x.Guarded f.g) (hd : d = ctxDie s.cur)

/-- What an operation that may answer at once does with what its function gives. -/
def answeredBy (s : State) (x : Ctx) (f : EForm) (r : State × W64 × Bool) : State :=
  if r.2.2 then r.1.addFlight s.cur 2 (.reply f.token.toNat x.resultNo [(eDest f, r.2.1)]) else r.1

theorem answered_eq {i : Instr} (r : State × W64 × Bool) :
    (match r with | (t, v, true) => (s.envAlone x i).answer f v t | (t, _, false) => t) = answeredBy s x f r := by
  obtain ⟨t, v, b⟩ := r
  cases b <;> rfl

include hs hg hd

theorem answers_grd (hn : NoBad (eChecks f {} false)) (hvalid : grdValid f.imm.toNat = true)
    (hpoison : s.poisonIn (grdReads d ((x.es1 f).toNat % 65536) f.imm.toNat) = none) :
    s.Answers x (.grd f) f id id fun t => t.grd d ((x.es1 f).toNat % 65536) f.imm.toNat := by
  subst hd
  have hchecks : NoBad (eChecks f {} (!grdValid f.imm.toNat)) := by
    rw [hvalid]
    exact hn
  exact completes_of_guarded hs hg hchecks (congrArg ((s.envAlone x (.grd f)).guarded _) (Env.clean_of_none hpoison))

theorem completes_gupd {ty n z : Nat} {rs : List Req} {bs : List Byte} (hn : NoBad (eChecks f { ed := false, es2 := true } false))
    (himm : f.imm.toNat < 1024) (hty : ty = f.imm.toNat % 16) (hcount : n = f.imm.toNat / 16 + 1) (hz : z = elemBytes ty)
    (htypes : ty ∉ [4, 5, 6, 7, 14, 15]) (halloc : s.gaugeAlloc d ((x.es1 f).toNat % 65536) = true)
    (hpoison : s.poisonIn (allocRead d ((x.es1 f).toNat % 65536)) = none) (ho : s.Operand x (.gupd f) (x.es2 f) (n * z) z [0, 8, 9] rs bs) :
    s.Completes x (.gupd f) (some f.token.toNat) fun t =>
      let t := t.fillAll (ctxCluster s.cur) rs
      { t with
        gaugeQ := t.gaugeQ ++ (List.range (ceilDiv n (32 / z))).map fun b =>
          ({ die := d, g := (x.es1 f).toNat % 65536, token := some (s.cur, f.token.toNat, t.nextId)
             c := contribution ((List.range (min (32 / z) (n - 32 / z * b))).map fun k =>
               valueOf ty (leNat ((bs.drop ((32 / z * b + k) * z)).take z))) } : GaugeUpd)
        nextId := t.nextId + 1 } := by
  have hlow : bits f.imm 3 0 = ty := hty.symm
  have hfield : bits f.imm 9 4 + 1 = n := by
    rw [bits_eq]
    omega
  have hhigh : bits f.imm 16 10 = 0 := bits_eq_zero_of_div 16 10 (by omega)
  subst hd hz
  have hchecks : NoBad (eChecks f { ed := false, es2 := true } (bits f.imm 16 10 != 0 || [4, 5, 6, 7, 14, 15].contains (bits f.imm 3 0)) ++
      [⟨!s.gaugeAlloc (ctxDie s.cur) ((x.es1 f).toNat % 65536), 7, f.es1.toNat⟩]) := by
    have htype : [4, 5, 6, 7, 14, 15].contains ty = false := by simpa using htypes
    simp only [hhigh, hlow, htype, bne_self_eq_false, Bool.or_self, noBad_append, hn, halloc, Bool.not_true, noBad_cons, noBad_nil, and_self]
  refine completes_of_guarded hs hg hchecks ?_
  rw [evalInstr_gupd, evalGupd]
  refine (guardedAt_of_data (by decide) (operand_space ho)).trans (congrArg ((s.envAlone x (.gupd f)).guarded _) ?_)
  rw [hlow, hfield]
  exact (operand_eq ho).trans (congrArg (SlotOut.withFills · _ _) (Env.clean_of_none hpoison))

omit hd in
theorem expects_gnew (hn : NoBad (eChecks f {} (f.imm != 0#17))) (hsup : x.sup = true) : s.Expects x (.gnew f) f id fun t =>
    answeredBy s x f (t.gnew s.cur f.token.toNat (x.destOf f) (x.es1 f)) := by
  simp only [← answered_eq (i := .gnew f)]
  exact completes_of_sup hs hg hsup hn ⟨rfl, rfl, rfl⟩ rfl

section sealing
variable (hpoison : s.poisonIn (allocRead d ((x.es1 f).toNat % 65536)) = none)
include hpoison

omit hs hg in
theorem seal_eq {i : Instr} {rescale : Bool} : (s.envAlone x i).seal f rescale = (s.envAlone x i).awaits f fun t =>
    answeredBy s x f (t.requestSeal s.cur f.token.toNat (x.destOf f) ((x.es1 f).toNat % 65536) rescale) := by
  subst hd
  simp only [← answered_eq (i := i)]
  exact Env.clean_of_none hpoison

theorem expects_seal {i : Instr} {rescale : Bool} (hn : NoBad (eChecks f {} (f.imm != 0#17)))
    (hi : (i, rescale) ∈ [(Instr.gseal f, false), (.grescale f, true)]) (hsup : rescale = false → x.sup = true) : s.Expects x i f id fun t =>
    answeredBy s x f (t.requestSeal s.cur f.token.toNat (x.destOf f) ((x.es1 f).toNat % 65536) rescale) := by
  simp only [List.mem_cons, Prod.mk.injEq, List.not_mem_nil, or_false] at hi
  obtain ⟨rfl, rfl⟩ | ⟨rfl, rfl⟩ := hi
  · exact completes_of_sup hs hg (hsup rfl) hn ⟨rfl, rfl, rfl⟩ (congrArg ((s.envAlone x (.gseal f)).eSup _) (seal_eq hd hpoison))
  · exact completes_of_guarded hs hg hn (congrArg ((s.envAlone x (.grescale f)).guarded _) (seal_eq hd hpoison))

end sealing

omit hd in
theorem expects_lrel (hn : NoBad (eChecks f {} (f.imm != 0#17))) (hlt : (x.es1 f).toNat < 64) : s.Expects x (.lrel f) f id fun t =>
    let r := t.releaseLease (x.es1 f).toNat
    r.1.addFlight s.cur 2 (.reply f.token.toNat x.resultNo [(eDest f, BitVec.ofNat 64 r.2)]) := by
  have hhigh : bits (x.es1 f) 63 6 = 0 := bits_eq_zero_of_div 63 6 (Nat.div_eq_of_lt hlt)
  have hlow : bits (x.es1 f) 5 0 = (x.es1 f).toNat := bits_eq_toNat_of_lt 5 hlt
  have hchecks : NoBad (eChecks f {} (f.imm != 0#17) ++ [⟨bits (x.es1 f) 63 6 != 0, 7, f.es1.toNat⟩]) := by
    simp [hn, hhigh]
  simp only [← hlow]
  exact completes_of_guarded hs hg hchecks rfl

section recset
variable {rs : List Req} {bs : List Byte} {h st : Nat} (hsup : x.sup = true) (hn : NoBad (eChecks f { es2 := true } (f.imm != 0#17)))
  (ho : s.Operand x (.recset f) (x.es2 f) 64 8 [0, 8, 9] rs bs) (hh : h = (x.es1 f).toNat % 2 ^ 20) (hst : st = s.recStatus d h (recOf bs))
  (hpoison : (recOf bs).valid = true → (recOf bs).gmode ≠ 0 → s.poisonIn (allocRead d (recOf bs).gidx) = none)
include ho hh hst hpoison

omit hs hg in
/-- RECSET behind the reading of its record. -/
theorem evalRecset_eq : evalInstr (.recset f) (s.envAlone x (.recset f)) = (s.envAlone x (.recset f)).eSup (eChecks f { es2 := true } (f.imm != 0#17))
    ((if st ≠ 0 then (s.envAlone x (.recset f)).awaits f ((s.envAlone x (.recset f)).answer f (BitVec.ofNat 64 st))
      else (s.envAlone x (.recset f)).awaits f fun t => t.requestRecord s.cur f.token.toNat (x.destOf f) h bs).withFills (ctxCluster s.cur) rs) := by
  subst hd hh hst
  refine congrArg ((s.envAlone x (.recset f)).eSup _) ((operand_eq ho).trans (congrArg (SlotOut.withFills · _ _) (Env.clean_of_none ?_)))
  split
  case isTrue hcond =>
    rw [Bool.and_eq_true, bne_iff_ne] at hcond
    exact hpoison hcond.1 hcond.2
  case isFalse => rfl

include hsup hn

theorem answers_recset (hne : st ≠ 0) : s.Answers x (.recset f) f (fun t => t.fillAll (ctxCluster s.cur) rs) id fun _ => BitVec.ofNat 64 st := by
  have he := evalRecset_eq hd ho hh hst hpoison
  rw [if_pos hne] at he
  exact completes_of_sup hs hg hsup hn ⟨rfl, rfl, rfl⟩ he

theorem expects_recset (hz : st = 0) : s.Expects x (.recset f) f (fun t => t.fillAll (ctxCluster s.cur) rs) fun t =>
    t.requestRecord s.cur f.token.toNat (x.destOf f) h bs := by
  have he := evalRecset_eq hd ho hh hst hpoison
  rw [if_neg (not_not_intro hz)] at he
  exact completes_of_sup hs hg hsup hn ⟨rfl, rfl, rfl⟩ he

end recset

end gauge

/-- Settles O28, operation by operation. -/
theorem gaugeAndLeaseOps : Obligations.GaugeAndLeaseOps := by
  intro s x f d hs hg hd
  refine ⟨fun hn hvalid hpoison => answers_grd hs hg hd hn hvalid hpoison, ?_, fun hn => ⟨expects_gnew hs hg hn,
    fun i rescale hi hsup hpoison => expects_seal hs hg hd hpoison hn hi hsup, expects_lrel hs hg hn⟩, ?_,
    fun hn => completes_of_guarded hs hg hn rfl⟩
  · intro ty n z rs bs hn himm hty hcount hz htypes halloc hpoison ho
    exact completes_gupd hs hg hd hn himm hty hcount hz htypes halloc hpoison ho
  · intro hsup hn rs bs h st ho hh hst hpoison
    exact ⟨answers_recset hs hg hd hsup hn ho hh hst hpoison, expects_recset hs hg hd hsup hn ho hh hst hpoison⟩

end Sys2Proof.Machine

/-! ## Register operations of the engine slot and TWAIT (R472, R473) -/

namespace Sys2Proof.Machine

set_option Elab.async false

section registers
variable {s : State} {x : Ctx} {f : EForm}

/-- What Q says of ed where neither source is a latch: a register, or a latch of slot 7. -/
theorem q_of_mod_four {q : BitVec 3} (h : q.toNat % 4 = 0) :
    q.getLsbD 0 = false ∧ q.getLsbD 1 = false ∧ q.getLsbD 2 = decide (q = 4#3) := by
  revert q
  decide

theorem eDest_of_q (hq : f.q.toNat % 4 = 0) (hed : f.q = 4#3 → f.ed.toNat < 8) :
    eDest f = if f.q = 4#3 then .latch 7 f.ed.toNat else .e f.ed.toNat := by
  rw [eDest, (q_of_mod_four hq).2.2]
  by_cases h : f.q = 4#3
  · rw [if_pos (decide_eq_true h), if_pos h, Nat.mod_eq_of_lt (hed h)]
  · rw [if_neg (by simp [h]), if_neg h]

theorem noBad_eli (hes1 : f.es1 = 0#5) (hes2 : f.es2.toNat < 4) (htoken : f.token = 0#3) (hq : f.q.toNat % 4 = 0)
    (hed : f.q = 4#3 → f.ed.toNat < 8) :
    NoBad (eChecks f { es1 := false, es2 := true, token := false } false ++ [⟨decide (4 ≤ f.es2.toNat), 2, f.es2.toNat⟩, ⟨f.q.getLsbD 0, 3, f.q.toNat⟩]) := by
  obtain ⟨h0, h1, h2⟩ := q_of_mod_four hq
  rw [BitVec.getLsbD_eq_getElem (by decide)] at h0 h1 h2
  simp [eChecks, eFieldBad, h0, h1, h2, hes1, htoken]
  exact ⟨hed, hes2⟩

/-- The 64-bit value of ELI: IMM in the named quarter, and the others those of `old` or 0. -/
def eliValue (f : EForm) (old : W64) : W64 :=
  let v : W64 := (f.imm.extractLsb' 0 16).zeroExtend 64 <<< (16 * (f.es2.toNat % 4))
  if f.imm.getLsbD 16 then (old &&& ~~~(0xFFFF#64 <<< (16 * (f.es2.toNat % 4)))) ||| v else v

theorem getLsbD_eliValue (old : W64) (hes2 : f.es2.toNat < 4) {i : Nat} (hi : i < 64) : (eliValue f old).getLsbD i =
    if 16 * f.es2.toNat ≤ i ∧ i < 16 * f.es2.toNat + 16 then f.imm.getLsbD (i - 16 * f.es2.toNat) else (f.imm.getLsbD 16 && old.getLsbD i) := by
  have hlow (h : 16 * f.es2.toNat ≤ i ∧ i < 16 * f.es2.toNat + 16) :
      (f.imm.extractLsb' 0 16).getLsbD (i - 16 * f.es2.toNat) = f.imm.getLsbD (i - 16 * f.es2.toNat) := by
    rw [BitVec.getLsbD_extractLsb', Nat.zero_add, decide_eq_true (by omega), Bool.true_and]
  have hzero := insert_bits 0#64 (f.imm.extractLsb' 0 16) f.es2.toNat i hi
  have hold := insert_bits old (f.imm.extractLsb' 0 16) f.es2.toNat i hi
  rw [BitVec.zero_and, BitVec.zero_or, BitVec.getLsbD_zero] at hzero
  simp only [eliValue, Nat.mod_eq_of_lt hes2]
  split
  · next hkeep =>
    rw [hold, hkeep, Bool.true_and]
    exact ite_congr rfl hlow fun _ => rfl
  · next hkeep =>
    rw [hzero, Bool.eq_false_iff.mpr hkeep, Bool.false_and]
    exact ite_congr rfl hlow fun _ => rfl

theorem yields_eli (hs : s.Issues x) (hg : x.Guarded f.g) (hes1 : f.es1 = 0#5) (hes2 : f.es2.toNat < 4) (htoken : f.token = 0#3)
    (hq : f.q.toNat % 4 = 0) (hed : f.q = 4#3 → f.ed.toNat < 8) {old : W64}
    (hold : old = if f.q = 4#3 then x.latch 7 f.ed.toNat else x.eReg f.ed.toNat) :
    s.Yields x (.eli f) 1 (.scalar (if f.q = 4#3 then .latch 7 f.ed.toNat else .e f.ed.toNat) (eliValue f old)) := by
  have hread : (s.envAlone x (.eli f)).eread (f.q.getLsbD 2) f.ed = old := by
    rw [(q_of_mod_four hq).2.2, hold]
    by_cases h : f.q = 4#3
    · rw [decide_eq_true h, if_pos h]
      exact congrArg (x.latch 7) (Nat.mod_eq_of_lt (hed h))
    · rw [decide_eq_false h, if_neg h]
      rfl
  rw [← eDest_of_q hq hed, ← hread]
  exact completes_of_guarded hs hg (noBad_eli hes1 hes2 htoken hq hed) rfl

end registers

section copies
variable {s : State} {x : Ctx} {f : EForm} {file r : Nat} (hs : s.Issues x) (hg : x.Guarded f.g)
  (hn : NoBad (eChecks f { token := false } false)) (hq : f.q.getLsbD 2 = false) (hfile : file = f.imm.toNat / 8192)
  (hr : r = f.imm.toNat % 16 * 32 + f.ed.toNat)

include hfile in
theorem ecpy_file : bits f.imm 16 13 = file := by
  have := f.imm.isLt
  rw [bits_eq, hfile]
  omega

include hr in
theorem ecpy_reg : bits f.imm 3 0 * 32 + f.ed.toNat = r := by
  exact hr.symm

/-- IMM[12:4] of ECPY: the lane, the broadcast bit and the reserved bits. -/
theorem ecpy_lane {lane : Nat} {bc : Bool} (h : f.imm.toNat % 8192 = 128 * lane + (if bc then 64 else 0) + f.imm.toNat % 16) :
    bits f.imm 12 7 = lane ∧ f.imm.getLsbD 6 = bc ∧ bits f.imm 5 4 = 0 := by
  have hsix : f.imm.getLsbD 6 = decide (f.imm.toNat / 64 % 2 = 1) := getLsbD_eq_decide _ _
  rw [bits_eq, bits_eq, hsix]
  cases bc <;> simp only [Bool.false_eq_true, if_false, if_true] at h <;> simp only [decide_eq_false_iff_not, decide_eq_true_iff] <;> omega

include hn hq in
theorem noBad_ecpy : NoBad (eChecks f { token := false } false ++ [⟨f.q.getLsbD 2, 3, f.q.toNat⟩]) := by
  rw [noBad_append, hq]
  exact ⟨hn, rfl⟩

include hs hg hn hq hfile hr

theorem yields_ecpy_scalar (hscalar : file < 6) (hzero : f.imm.toNat % 8192 = f.imm.toNat % 16) (hlt : r < fileSize file) :
    s.Yields x (.ecpy f) 2 (.scalar (fileDest file r) (x.es1 f)) := by
  obtain ⟨hlane, hbc, hres⟩ := ecpy_lane (f := f) (lane := 0) (bc := false) (hzero.trans (Nat.zero_add _).symm)
  have hle : file ≤ 5 := Nat.le_of_lt_succ hscalar
  refine completes_of_guarded hs hg (noBad_ecpy hn hq) ?_
  rw [evalInstr_ecpy, evalEcpy]
  simp only [ecpy_file hfile, ecpy_reg hr, decide_eq_true hle, hlane, hbc, hres, decide_eq_false (Nat.not_le.mpr hlt), if_true]
  rfl

theorem yields_ecpy_vector {lane : Nat} {bc : Bool} {m : Mask} (hvec : 6 ≤ file) (hmax : file < 8)
    (himm : f.imm.toNat % 8192 = 128 * lane + (if bc then 64 else 0) + f.imm.toNat % 16) (hlt : r < partVreg (s.part s.cur))
    (hlane0 : bc = true → lane = 0) (hm : m = if bc then Mask.all else 1#64 <<< lane) :
    s.Yields x (.ecpy f) 2 (.vector (.vreg (file == 7) r) (Vec.splat ((x.es1 f).truncate 32)) m) := by
  obtain ⟨hlane, hbc, hres⟩ := ecpy_lane himm
  have hnot : ¬ file ≤ 5 := by omega
  have hfile7 : ¬ 7 < file := by omega
  have hvreg : ¬ (s.envAlone x (.ecpy f)).vreg ≤ r := Nat.not_le.mpr hlt
  have hboth : (bc && lane != 0) = false := by
    cases bc with
    | false => rfl
    | true => rw [hlane0 rfl]; rfl
  refine completes_of_guarded hs hg (noBad_ecpy hn hq) ?_
  rw [evalInstr_ecpy, evalEcpy]
  simp only [ecpy_file hfile, ecpy_reg hr, decide_eq_false hnot, decide_eq_false hfile7, decide_eq_false hvreg, hlane, hbc, hres, hboth, ← hm,
    Bool.false_eq_true, if_false]
  rfl

end copies

section time
variable {f : EForm}

/-- What TWAIT answers, by the value that its bundle has read. -/
theorem evalTwait_of_read {u : State} {y : Ctx} {v : W64} (hg : y.Guarded f.g) (hn : NoBad (twaitChecks f)) (hv : y.loops.tw = some (y.pc, v)) :
    evalInstr (.twait f) (u.envAlone y (.twait f)) = if u.timeReached v.toNat then .none else .wait (.time v.toNat) id := by
  have he : evalInstr (.twait f) (u.envAlone y (.twait f)) =
      (u.envAlone y (.twait f)).guarded (twaitChecks f) (if u.timeReached v.toNat then .none else .wait (.time v.toNat) id) := by
    rw [evalInstr_twait, evalTwait, State.envAlone_x, hv]
    simp only [show (u.envAlone y (.twait f)).pc = y.pc from rfl, if_true]
    rfl
  exact he.trans (Env.guarded_of _ _ _ hg hn)

theorem firstShown_twait {s : State} {x : Ctx} (hg : x.Guarded f.g) (hn : NoBad (twaitChecks f)) (harv : x.loops.arv = none)
    (htw : x.loops.tw = none) :
    s.firstShown s.cur x [s.opAlone (.twait f) (Instr.slotPart (.twait f)).1 (Instr.slotPart (.twait f)).2.1] =
      s.modCtx s.cur fun y => { y with loops := { y.loops with tw := some (x.pc, x.es1 f) } } := by
  have hon : ((x.guard f.g).getLsbD 0 && (firstBad (twaitChecks f)).isNone) = true := by
    rw [show (x.guard f.g).getLsbD 0 = true from hg, show firstBad (twaitChecks f) = none from hn]
    rfl
  unfold State.firstShown
  simp only [harv, htw, Option.filter_none, beq_self_eq_true, Bool.and_self, if_true, List.foldl_cons, List.foldl_nil, State.opAlone]
  refine if_pos ?_
  simp only [Bool.and_true]
  exact hon

/-- A TWAIT whose bundle has read its value is presented again. -/
theorem firstShown_twait_again {s : State} {x : Ctx} {v : W64} (harv : x.loops.arv = none) (htw : x.loops.tw = some (x.pc, v)) :
    s.firstShown s.cur x [s.opAlone (.twait f) (Instr.slotPart (.twait f)).1 (Instr.slotPart (.twait f)).2.1] = s := by
  unfold State.firstShown
  simp only [harv, htw, Option.filter_none, Option.filter_some, beq_self_eq_true, Bool.and_self, if_true, List.foldl_cons, List.foldl_nil,
    State.opAlone, reduceBEq, Bool.and_false, Bool.false_eq_true, if_false]

end time

/-- Settles O29, by the fields of ELI and ECPY and by the value that TWAIT's first presentation keeps. -/
theorem engineRegisterOps : Obligations.EngineRegisterOps := by
  constructor
  · intro s x f hs hg
    refine ⟨?_, ?_, ?_⟩
    · intro hes1 hes2 htoken hq hed old hold
      exact ⟨eliValue f old, yields_eli hs hg hes1 hes2 htoken hq hed hold, fun i hi => getLsbD_eliValue old hes2 hi⟩
    · intro file r hn hq hfile hr
      refine ⟨fun hscalar hzero hlt => ?_, fun lane hvec hmax himm hlt => ?_, fun hvec hmax himm hlt => ?_⟩
      · rw [← fileDest_of_lt _ hscalar]
        rw [← fileSize_of_lt hscalar] at hlt
        exact yields_ecpy_scalar hs hg hn hq hfile hr hscalar hzero hlt
      · exact yields_ecpy_vector (bc := false) hs hg hn hq hfile hr hvec hmax himm hlt (fun h => absurd h Bool.false_ne_true) rfl
      · exact yields_ecpy_vector (lane := 0) (bc := true) hs hg hn hq hfile hr hvec hmax himm hlt (fun _ => rfl) rfl
    · rintro hn u y rfl hy
      obtain ⟨hpres, harv, htw⟩ := hs
      have hyx : y = { x with loops := { x.loops with tw := some (x.pc, x.es1 f) } } := by
        rw [State.ctx_modCtx_self, hpres.1] at hy
        exact (Option.some.inj hy).symm
      have hshown := firstShown_twait (s := s) hg hn harv htw
      have heval := evalTwait_of_read (f := f) (u := s.modCtx s.cur fun y => { y with loops := { y.loops with tw := some (x.pc, x.es1 f) } })
        (y := y) (v := x.es1 f) (by
          rw [Ctx.Guarded, Ctx.guard_of_source (x := x) (by rw [hyx]; rfl)]
          exact hg) hn (by rw [hyx])
      have htime : (s.modCtx s.cur fun y => { y with loops := { y.loops with tw := some (x.pc, x.es1 f) } }).timeReached (x.es1 f).toNat =
          s.timeReached (x.es1 f).toNat := by
        unfold State.timeReached State.modCtx
        split <;> rfl
      rw [htime] at heval
      constructor
      · intro hreached
        rw [if_pos hreached] at heval
        exact exec_shown_act rfl hy (State.modCtx_cur _ _ _) (State.modCtx_lits _ _ _) hpres hshown heval
      · intro hlate
        rw [hlate, if_neg Bool.false_ne_true] at heval
        exact exec_shown_wait rfl hy (State.modCtx_cur _ _ _) (State.modCtx_lits _ _ _) hpres hshown heval
  · intro s x f v hs hg harv htw hn
    have hshown := firstShown_twait_again (f := f) (s := s) harv htw
    have heval := evalTwait_of_read (u := s) hg hn htw
    constructor
    · intro hreached
      rw [if_pos hreached] at heval
      exact exec_shown_act rfl hs.1 rfl rfl hs hshown heval
    · intro hlate
      rw [hlate, if_neg Bool.false_ne_true] at heval
      exact exec_shown_wait rfl hs.1 rfl rfl hs hshown heval

end Sys2Proof.Machine

/-! ## What the steps of the module leave unchanged (R17, R28, R104) -/

namespace Sys2Proof.Machine

set_option Elab.async false

/-- Only what the host sees of the module changes: its mailbox, its messages, the queues of its ports, and the turns that follow. -/
def State.SameModule (s t : State) : Prop := ∃ a m o p, t = { s with agenda := a, mbox := m, out := o, ports := p }

theorem State.SameModule.refl (s : State) : s.SameModule s := ⟨s.agenda, s.mbox, s.out, s.ports, rfl⟩

theorem State.SameModule.trans {s t u : State} (h : s.SameModule t) (h' : t.SameModule u) : s.SameModule u := by
  obtain ⟨a, m, o, p, rfl⟩ := h
  obtain ⟨b, n, q, r, rfl⟩ := h'
  exact ⟨b, n, q, r, rfl⟩

/-- What does not look at these parts is as it was. -/
theorem State.SameModule.keeps {α : Type} {s t : State} (h : s.SameModule t) (g : State → α)
    (hg : ∀ (u : State) a m o p, g { u with agenda := a, mbox := m, out := o, ports := p } = g u) : g t = g s := by
  obtain ⟨a, m, o, p, rfl⟩ := h
  exact hg s a m o p

theorem State.SameModule.thermal_eq {s t : State} (h : s.SameModule t) : t.thermal = s.thermal :=
  h.keeps State.thermal fun _ _ _ _ _ => rfl

theorem State.SameModule.time_eq {s t : State} (h : s.SameModule t) : t.time = s.time :=
  h.keeps State.time fun _ _ _ _ _ => rfl

section same
variable (s : State)

theorem State.sameModule_sendHost (o : Out) : s.SameModule (s.sendHost o) := by
  unfold State.sendHost
  split
  · exact ⟨s.agenda, s.mbox, _, s.ports, rfl⟩
  · exact ⟨s.agenda, s.mbox, s.out, _, rfl⟩

theorem State.sameModule_msix (v : Nat) : s.SameModule (s.msix v) := State.sameModule_sendHost s _

theorem State.sameModule_releaseStarts : s.SameModule s.releaseStarts := by
  unfold State.releaseStarts
  split
  · exact .refl s
  · exact ⟨_, _, s.out, s.ports, rfl⟩

theorem State.sameModule_complete (status : Nat) (rets : List W64) : s.SameModule (s.complete status rets) := by
  unfold State.complete
  split
  · exact .refl s
  · exact .trans ⟨s.agenda, _, s.out, s.ports, rfl⟩ ((State.sameModule_msix _ 0).trans (State.sameModule_releaseStarts _))

theorem State.sameModule_serveUnknown : s.SameModule s.serveUnknown := by
  unfold State.serveUnknown
  split
  · split
    · exact .refl s
    · exact State.sameModule_complete s _ _
  · exact .refl s

theorem State.sameModule_nextTurn : s.SameModule s.nextTurn :=
  .trans ⟨s.agenda, _, s.out, s.ports, rfl⟩ ((State.sameModule_releaseStarts _).trans (State.sameModule_serveUnknown _))

/-- An event changes nothing of the thermal registers but THEVT. -/
theorem State.sameModule_setEvt (b : Nat) : ∃ e, ({ s with thermal := { s.thermal with evt := e } } : State).SameModule (s.setEvt b) := by
  unfold State.setEvt
  split
  · exact ⟨s.thermal.evt, .refl s⟩
  · exact ⟨_, State.sameModule_msix _ 1⟩

/-- A transition changes nothing of the thermal registers but the state and THEVT. -/
theorem State.sameModule_setTherm (t : TState) :
    ∃ e, ({ s with thermal := { s.thermal with state := t, evt := e } } : State).SameModule (s.setTherm t) := by
  unfold State.setTherm
  split
  · next h =>
    subst h
    exact ⟨s.thermal.evt, .refl s⟩
  · exact State.sameModule_setEvt (s.modThermal fun x => { x with state := t }) 1

@[simp] theorem State.nextTurn_thermal : s.nextTurn.thermal = s.thermal := (State.sameModule_nextTurn s).thermal_eq

@[simp] theorem State.msix_thermal (v : Nat) : (s.msix v).thermal = s.thermal := (State.sameModule_msix s v).thermal_eq

theorem State.setEvt_thermal (b : Nat) : ∃ e, (s.setEvt b).thermal = { s.thermal with evt := e } := by
  obtain ⟨e, he⟩ := State.sameModule_setEvt s b
  exact ⟨e, he.thermal_eq⟩

theorem State.setTherm_thermal (t : TState) : ∃ e, (s.setTherm t).thermal = { s.thermal with state := t, evt := e } := by
  obtain ⟨e, he⟩ := State.sameModule_setTherm s t
  exact ⟨e, he.thermal_eq⟩

theorem State.setEvt_time (b : Nat) : (s.setEvt b).time = s.time := by
  obtain ⟨e, he⟩ := State.sameModule_setEvt s b
  exact he.time_eq

theorem State.setTherm_time (t : TState) : (s.setTherm t).time = s.time := by
  obtain ⟨e, he⟩ := State.sameModule_setTherm s t
  exact he.time_eq

end same

/-- A fold whose steps leave the thermal registers leaves them. -/
theorem State.foldl_thermal {β : Type} {step : State → β → State} (h : ∀ u b, (step u b).thermal = u.thermal) {l : List β} {s : State} :
    (l.foldl step s).thermal = s.thermal := by
  induction l generalizing s with
  | nil => rfl
  | cons b l ih => exact ih.trans (h s b)

end Sys2Proof.Machine

/-! ## Power and sensor samples (R1, R9, R17, R25, R26, R29) -/

namespace Sys2Proof.Machine

set_option Elab.async false

theorem State.rounded_state (s : State) (num : Int) (den : Nat) : ∃ n, (s.rounded num den).2 = { s with freeCtr := n } := by
  unfold State.rounded
  split
  · exact ⟨s.freeCtr, rfl⟩
  · exact ⟨_, rfl⟩

theorem State.meanOf_state (s : State) (l : List Nat) : ∃ n, (s.meanOf l).2 = { s with freeCtr := n } := by
  unfold State.meanOf
  split
  · exact ⟨_, rfl⟩
  · exact State.rounded_state s _ _

theorem State.tjOf_state (s : State) (l : List Reading) : ∃ n, (s.tjOf l).2 = { s with freeCtr := n } := by
  unfold State.tjOf
  split
  · exact ⟨s.freeCtr, rfl⟩
  · exact ⟨_, rfl⟩

theorem State.tjOf_of_warmest {s : State} {l : List Reading} {p : Nat × Nat} (h : warmest l = some p) : (s.tjOf l).1 = p := by
  rw [State.tjOf, h]

/-- What a sample leaves: only the free words drawn and the thermal registers change. -/
theorem State.takeReadings_eq (s : State) (j m : List Reading) : ∃ n mean, s.takeReadings j m =
    { s with
      freeCtr := n
      thermal := { s.thermal with
        sens := sampleAll s.thermal.sens j, subs := sampleAll s.thermal.subs m, tj := BitVec.ofNat 16 (s.tjOf j).1.1
        tjSensor := BitVec.ofNat 6 (s.tjOf j).1.2, mean := mean, lastTj := ((s.tjOf j).1.1 :: s.thermal.lastTj).take 2, sampledAt := some s.time } } := by
  obtain ⟨n, hn⟩ := State.tjOf_state s j
  obtain ⟨k, hk⟩ := State.meanOf_state (s.tjOf j).2 (validTemps m)
  refine ⟨k, BitVec.ofNat 16 ((s.tjOf j).2.meanOf (validTemps m)).1, ?_⟩
  unfold State.takeReadings
  dsimp only
  rw [hk, hn]
  rfl

/-- What a sample records: its time, the warmest reading and its sensor, the two newest values, and the band, which it leaves. -/
def Thermal.record (t : Thermal) : Option Nat × BitVec 16 × BitVec 6 × List Nat × Band := (t.sampledAt, t.tj, t.tjSensor, t.lastTj, t.band)

theorem State.setEvt_record (s : State) (b : Nat) : (s.setEvt b).thermal.record = s.thermal.record := by
  obtain ⟨e, he⟩ := State.setEvt_thermal s b
  rw [he]
  rfl

theorem State.setTherm_record (s : State) (t : TState) : (s.setTherm t).thermal.record = s.thermal.record := by
  obtain ⟨e, he⟩ := State.setTherm_thermal s t
  rw [he]
  rfl

theorem State.stepRefresh_record (s : State) : s.stepRefresh.thermal.record = s.thermal.record := by
  unfold State.stepRefresh
  split
  · split <;> rfl
  · rfl

/-- A sample that finds no die with two invalid sensors records what it took. -/
theorem State.thermalSample_record {s : State} {j m : List Reading} (hj : j.length = 48) (hm : m.length = 9) (hoff : s.thermal.state ≠ .off)
    (hdue : tooSoon s.thermal.sampledAt 10000 s.time = false) (hbad : badDie j = none) :
    (s.thermalSample j m).thermal.record = (s.takeReadings j m).thermal.record := by
  unfold State.thermalSample
  rw [if_neg (by simp [hoff, hj, hm, hdue]), hbad]
  dsimp only
  rw [State.nextTurn_thermal]
  have hevt : (if newlyBad s.thermal.sens j || newlyBad s.thermal.subs m then (s.takeReadings j m).stepRefresh.setEvt 5
      else (s.takeReadings j m).stepRefresh).thermal.record = (s.takeReadings j m).thermal.record := by
    split
    · exact (State.setEvt_record _ 5).trans (State.stepRefresh_record _)
    · exact State.stepRefresh_record _
  generalize (if newlyBad s.thermal.sens j || newlyBad s.thermal.subs m then (s.takeReadings j m).stepRefresh.setEvt 5
    else (s.takeReadings j m).stepRefresh) = u at hevt ⊢
  split
  · exact (State.setTherm_record _ .warmStandby).trans hevt
  · exact hevt

theorem powerApplied_exec (s : State) {j m : List Reading} (hj : j.length = 48) (hm : m.length = 9) (hoff : s.thermal.state = .off) :
    exec (.powerApplied j m) s = .next (({ s.losePower with
      time := 0
      thermal := { faults := s.thermal.faults, holds := s.thermal.holds, cycles := s.thermal.cycles, coolantOk := s.thermal.coolantOk } } : State).takeReadings
        j m) :=
  congrArg Host.Outcome.next (if_neg (by simp [hoff, hj, hm]))

/-- Settles O30, by what a sample takes from its readings. -/
theorem powerAndSamples : Obligations.PowerAndSamples := by
  intro s j m hj hm
  refine ⟨⟨s.losePower, rfl, rfl, rfl, rfl, rfl, rfl, rfl, rfl, rfl, rfl, rfl⟩, fun hoff => ?_, fun hoff hdue hbad tj n hwarm => ?_⟩
  · refine ⟨_, powerApplied_exec s hj hm hoff, ?_⟩
    obtain ⟨k, mean, heq⟩ := State.takeReadings_eq { s.losePower with
      time := 0
      thermal := { faults := s.thermal.faults, holds := s.thermal.holds, cycles := s.thermal.cycles, coolantOk := s.thermal.coolantOk } } j m
    rw [heq]
    refine ⟨rfl, rfl, rfl, rfl, rfl, fun tj n hwarm => ?_⟩
    dsimp only
    rw [State.tjOf_of_warmest hwarm]
    exact ⟨rfl, rfl⟩
  · refine ⟨_, rfl, ?_⟩
    have hrec := State.thermalSample_record (s := s) hj hm hoff hdue hbad
    obtain ⟨k, mean, heq⟩ := State.takeReadings_eq s j m
    rw [heq, State.tjOf_of_warmest hwarm] at hrec
    simp only [Thermal.record, Prod.mk.injEq] at hrec
    obtain ⟨hat, htj, hsensor, hlast, hband⟩ := hrec
    exact ⟨hat, htj, hsensor, hlast, hband⟩

end Sys2Proof.Machine

/-! ## Bands, the clock switch and the refresh stop (R10 to R13, R17 to R20) -/

namespace Sys2Proof.Machine

set_option Elab.async false

theorem decisionServed_of_idle {s : State} {b : Band} (hseq : s.sequenceRuns = false) (hidle : s.mbox.running = none) : s.decisionServed b = true := by
  rw [State.decisionServed, hseq, hidle]
  exact Bool.or_true _

/-- The thermal registers after a decision that moves the band while the dies run: those of the new band, of its state and of its sequence. -/
theorem State.bandDecision_thermal {s : State} {b : Band} {w : TState} (hon : s.thermal.state ≠ .off) (hwant : s.thermal.wanted s.time = some b)
    (hserved : s.decisionServed b = true)
    (haction : ∀ u : State, u.thermal.band = b → u.thermal.state = s.thermal.state → u.bandAction = (u.setTherm w).applyBand) :
    ∃ e, s.bandDecision.thermal =
      { s.thermal with
        state := w, band := b, bandSince := s.time, lastTj := s.thermal.lastTj.take 1, evt := e
        coldSince := if b = .cold then some s.time else s.thermal.coldSince
        applyAt := some (s.time + 200), switchAt := some (switchTick s.time, b == .retreat) } := by
  have htime : (s.moveBand b).time = s.time := State.setEvt_time _ _
  obtain ⟨e, he⟩ : ∃ e, (s.moveBand b).thermal =
      { s.thermal with
        band := b, bandSince := s.time, lastTj := s.thermal.lastTj.take 1, evt := e
        coldSince := if b = .cold then some s.time else s.thermal.coldSince } := State.setEvt_thermal _ _
  obtain ⟨e', he'⟩ := State.setTherm_thermal (s.moveBand b) w
  refine ⟨e', ?_⟩
  rw [State.bandDecision, if_neg hon, hwant]
  dsimp only
  rw [if_pos hserved, State.nextTurn_thermal, haction _ (by rw [he]) (by rw [he]), State.applyBand, State.modThermal_thermal, State.setTherm_time, htime,
    he', he]

theorem wanted_warmer {t : Thermal} {x y now : Nat} (hlast : t.lastTj = [x, y]) (hband : t.band = .cold) (hx : 1360 < x) (hy : 1360 < y) :
    t.wanted now = some .retreat := by
  rw [Thermal.wanted, hlast]
  dsimp only
  rw [if_pos ⟨by rw [hband]; decide, by rw [hband]; exact hx, by rw [hband]; exact hy⟩, hband]
  rfl

theorem wanted_colder {t : Thermal} {x y now : Nat} (hlast : t.lastTj = [x, y]) (hband : t.band = .retreat) (hx : x + 48 ≤ 1360) (hy : y + 48 ≤ 1360)
    (hnow : t.bandSince + 1000000 ≤ now) : t.wanted now = some .cold := by
  have hnot : ¬ upperBound t.band < x := by
    rw [hband]
    exact Nat.not_lt.mpr (by rw [upperBound]; omega)
  rw [Thermal.wanted, hlast]
  dsimp only
  rw [if_neg fun h => hnot h.2.1, if_pos ⟨by rw [hband]; decide, by rw [hband]; exact hx, by rw [hband]; exact hy, hnow⟩, hband]
  rfl

theorem bandAction_retreat {u : State} (hband : u.thermal.band = .retreat) (hstate : u.thermal.state = .run) :
    u.bandAction = (u.setTherm .retreat).applyBand := by
  rw [State.bandAction, hstate, hband]
  rfl

theorem bandAction_return {u : State} (hband : u.thermal.band = .cold) (hstate : u.thermal.state = .retreat) :
    u.bandAction = (u.setTherm .run).applyBand := by
  rw [State.bandAction, hstate, hband]
  rfl

theorem State.applyDue_thermal {s : State} {n : Nat} (hat : s.thermal.applyAt = some n) (hdue : n ≤ s.time) :
    s.applyDue.thermal = { s.thermal with
      refrate := BitVec.ofNat 3 (s.thermal.entryRate s.thermal.band s.time), tset := tsetOf s.thermal.band, applyAt := none } := by
  rw [State.applyDue, hat]
  dsimp only
  rw [if_pos hdue]
  rfl

theorem switchTick_bounds (t : Nat) : t + 500 ≤ switchTick t ∧ switchTick t < t + 1500 ∧ switchTick t % 1000 = 0 := by
  rw [switchTick, ceilDiv]
  omega

/-- Settles O31, by the decision that the two newest readings ask for and by the sequence that follows it. -/
theorem bandsAndClock : Obligations.BandsAndClock := by
  intro s
  refine ⟨?_, ?_, ?_, ?_, ?_, switchTick_bounds s.time⟩
  · intro x y hstate hband hseq hidle hlast hx hy
    obtain ⟨e, he⟩ := State.bandDecision_thermal (w := .retreat) (by rw [hstate]; decide) (wanted_warmer hlast hband hx hy)
      (decisionServed_of_idle hseq hidle) fun u hb hs => bandAction_retreat hb (hs.trans hstate)
    refine ⟨_, rfl, ?_⟩
    rw [he]
    exact ⟨rfl, rfl, rfl, rfl, rfl, rfl⟩
  · intro x y hstate hband hseq hidle hlast hx hy hnow
    obtain ⟨e, he⟩ := State.bandDecision_thermal (w := .run) (by rw [hstate]; decide) (wanted_colder hlast hband hx hy hnow)
      (decisionServed_of_idle hseq hidle) fun u hb hs => bandAction_return hb (hs.trans hstate)
    refine ⟨_, rfl, ?_⟩
    rw [he]
    exact ⟨rfl, rfl, rfl, rfl, rfl⟩
  · intro n hat hdue
    rw [State.applyDue_thermal hat hdue]
    refine ⟨rfl, fun hband => ?_, fun hband => ?_⟩
    · rw [hband]
      exact ⟨rfl, rfl⟩
    · rw [hband]
      refine ⟨rfl, fun hsince hnow => ?_⟩
      dsimp only
      rw [Thermal.entryRate, hsince]
      dsimp only
      rw [if_pos hnow]
  · intro n low hat hdue
    refine ⟨_, rfl, ?_⟩
    rw [State.switchClock, hat]
    dsimp only
    rw [if_pos hdue]
    exact State.nextTurn_thermal _
  · intro n hsince hband hstate hlate
    refine ⟨_, rfl, ?_⟩
    rw [State.coldExpiry, hsince]
    dsimp only
    rw [if_pos ⟨hband, by rw [hstate]; rfl, hlate⟩]
    rfl

end Sys2Proof.Machine

/-! ## The rate check and the coolant line (R15 to R17) -/

namespace Sys2Proof.Machine

set_option Elab.async false

/-! ### What the entry into HOLD and the exit leave of the thermal registers -/

section keeps
variable (s : State)

theorem State.addLog_thermal (kind source code addr : Nat) : (s.addLog kind source code addr).thermal = s.thermal := by
  unfold State.addLog
  exact State.msix_thermal _ _

theorem State.dropPorts_thermal (c : Nat) : (s.dropPorts c).thermal = s.thermal := rfl

theorem State.storeTiles_thermal (c : Nat) : (s.storeTiles c).thermal = s.thermal := by
  unfold State.storeTiles
  split <;> rfl

theorem State.renumber_thermal (f : Nat → Nat) : (s.renumber f).thermal = s.thermal := rfl

theorem State.captureGang_thermal (id stamp : Nat) (hold : Bool) : (s.captureGang id stamp hold).thermal = s.thermal := by
  unfold State.captureGang
  split
  · rfl
  · split
    · rfl
    · refine (State.renumber_thermal _ _).trans ?_
      rw [State.modGang_thermal]
      refine State.foldl_thermal fun u c => ?_
      rw [State.dropPorts_thermal, State.storeTiles_thermal, State.modCtx_thermal]

theorem State.captureAll_thermal (ids : List Nat) (hold : Bool) : (s.captureAll ids hold).thermal = s.thermal := by
  unfold State.captureAll
  exact State.foldl_thermal fun u i => State.captureGang_thermal u i _ hold

theorem State.portGoesDown_thermal (p : Nat) : (s.portGoesDown p).thermal = s.thermal := by
  unfold State.portGoesDown
  split
  · rfl
  · exact (State.addLog_thermal _ _ _ _ _).trans (State.msix_thermal _ _)

theorem State.weirsSoon_thermal : s.weirsSoon.thermal = s.thermal := by
  refine State.foldl_thermal fun u d => State.foldl_thermal fun v n => ?_
  unfold State.evalSoon
  split <;> rfl

theorem State.portComesUp_thermal (p : Nat) : (s.portComesUp p).thermal = s.thermal := by
  unfold State.portComesUp
  split
  · rfl
  · have hup : ((s.modPort p fun x => { x with up := true, queue := [] }).msix 4).thermal = s.thermal := State.msix_thermal _ 4
    dsimp only
    generalize State.msix _ 4 = u at hup ⊢
    split
    · exact (State.weirsSoon_thermal u).trans hup
    · generalize List.isEmpty _ = b
      cases b
      · exact hup
      · exact hup

theorem State.resumeJobs_thermal (d : Nat) : (s.resumeJobs d).thermal = s.thermal := rfl

theorem State.resumeRiffle_thermal (cl : Nat) : (s.resumeRiffle cl).thermal = s.thermal := by
  refine State.foldl_thermal fun u n => ?_
  split
  · split <;> rfl
  · rfl

theorem State.gangSoon_thermal (g : Gang) : (s.gangSoon g).thermal = s.thermal := by
  unfold State.gangSoon State.evalSoon
  split
  · split <;> rfl
  · rfl

theorem State.insertReady_thermal (c : Nat) : (s.insertReady c).thermal = s.thermal := State.modCtx_thermal s c _

theorem State.resumeGang_thermal (id : Nat) : (s.resumeGang id).thermal = s.thermal := by
  unfold State.resumeGang
  split
  · rfl
  · split
    · rfl
    · refine (State.gangSoon_thermal _ _).trans ((State.foldl_thermal fun u c => ?_).trans ?_)
      · dsimp only
        split
        · split
          · rw [State.dropPorts_thermal, State.modCtx_thermal]
          · rw [State.insertReady_thermal, State.dropPorts_thermal, State.modCtx_thermal]
        · rw [State.dropPorts_thermal, State.modCtx_thermal]
      · rw [State.renumber_thermal, State.modGang_thermal]
        split
        · refine Eq.trans (State.foldl_thermal fun u k => State.modCore_thermal u k _) (State.foldl_thermal fun u i => ?_)
          split <;> rfl
        · refine Eq.trans (State.foldl_thermal fun u (m : Nat × BitVec 3) => State.modCluster_thermal u m.1 _)
            (Eq.trans (State.foldl_thermal fun u k => State.modCore_thermal u k _) (State.foldl_thermal fun u i => ?_))
          split <;> rfl

theorem State.resumeCaptured_thermal (d n : Nat) : (s.resumeCaptured d n).thermal = s.thermal := by
  unfold State.resumeCaptured
  split
  · rfl
  · exact State.foldl_thermal State.resumeGang_thermal

end keeps

/-- HOLD is entered (R17, R21). -/
theorem State.toHold_state (s : State) (cmd : Bool) : (s.toHold cmd).thermal.state = .hold := by
  obtain ⟨e, he⟩ := State.setTherm_thermal s .hold
  unfold State.toHold
  dsimp only
  rw [State.nextTurn_thermal]
  generalize hu : State.captureAll _ _ _ = u
  have hcaptured : u.thermal.state = .hold := by rw [← hu, State.captureAll_thermal, he]
  generalize hv : List.foldl State.portGoesDown _ _ = v
  have hdown : v.thermal.state = .hold := by
    rw [← hv, State.foldl_thermal State.portGoesDown_thermal]
    exact hcaptured
  exact hdown

/-- A HOLD without a suspended session ends in COLD_READY (R17, R21). -/
theorem State.exitHold_state {s : State} (h : s.sess.state ≠ .suspended) : s.exitHold.thermal.state = .coldReady := by
  have hnot : (s.sess.state == .suspended) = false := beq_eq_false_iff_ne.mpr h
  obtain ⟨e, he⟩ := State.setTherm_thermal s .coldReady
  have hready : (s.setTherm .coldReady).thermal.state = .coldReady := by rw [he]
  unfold State.exitHold
  rw [hnot]
  dsimp only
  simp only [Bool.false_eq_true, if_false]
  generalize s.setTherm .coldReady = u at hready ⊢
  generalize hv : List.foldl State.portComesUp _ _ = v
  have hports : v.thermal.state = .coldReady := by
    rw [← hv, State.foldl_thermal State.portComesUp_thermal]
    exact hready
  generalize hw : List.foldl State.resumeRiffle _ _ = w
  have hriffle : w.thermal.state = .coldReady := by
    rw [← hw, State.foldl_thermal State.resumeRiffle_thermal, State.foldl_thermal State.resumeJobs_thermal]
    exact hports
  rw [State.foldl_thermal fun u d => State.foldl_thermal fun v n => State.resumeCaptured_thermal v d n,
    State.foldl_thermal State.resumeGang_thermal]
  exact hriffle

/-! ### The entry into FAULT -/

/-- A trigger in HOLD lets no command stand, and leaves the thermal registers (R18): no image may be loaded there. -/
theorem State.preemptCommand_thermal {s : State} (h : s.thermal.state = .hold) : (s.preemptCommand true).thermal = s.thermal := by
  unfold State.preemptCommand
  split
  · rw [State.mayLoad, h]
    exact (State.sameModule_complete s _ _).thermal_eq
  · exact (State.sameModule_complete _ _ _).thermal_eq
  · exact (State.sameModule_complete s _ _).thermal_eq
  · rfl

theorem State.applyPlaced_thermal (s : State) (d id : Nat) : (s.applyPlaced d id).thermal = s.thermal := by
  unfold State.applyPlaced
  dsimp only
  split <;> rfl

theorem State.applyAtomics_thermal (s : State) : s.applyAtomics.thermal = s.thermal :=
  State.foldl_thermal fun u (w : GWrite) => State.applyPlaced_thermal u w.die w.id

/-- The end of a session in FAULT leaves the thermal registers. -/
theorem State.endSession_thermal {s : State} (h : s.thermal.state = .fault) (cause : Nat) : (s.endSession cause).thermal = s.thermal := by
  have hstate : s.applyAtomics.thermal.state = .fault := (congrArg Thermal.state (State.applyAtomics_thermal s)).trans h
  unfold State.endSession
  dsimp only
  rw [hstate]
  exact (State.msix_thermal _ _).trans (State.applyAtomics_thermal s)

/-- FAULT is entered from HOLD with its cause, and the dies lose power (R17). -/
theorem State.toFault_of_hold {s : State} (h : s.thermal.state = .hold) (cause sensor : Nat) :
    (s.toFault cause sensor).thermal.state = .fault ∧ (s.toFault cause sensor).thermal.fcause = BitVec.ofNat 8 cause ∧
      (s.toFault cause sensor).ctxs = [] ∧ (s.toFault cause sensor).dies = [] := by
  obtain ⟨e, he⟩ := State.setTherm_thermal s .fault
  unfold State.toFault
  rw [if_neg (by rw [h]; decide)]
  dsimp only
  generalize hu : ((s.setTherm .fault).modThermal fun t =>
    { t with fcause := BitVec.ofNat 8 cause, faults := if t.faults = 0xFF#8 then t.faults else t.faults + 1 }) = u
  have hstate : u.thermal.state = .fault ∧ u.thermal.fcause = BitVec.ofNat 8 cause := by
    rw [← hu, State.modThermal_thermal, he]
    exact ⟨rfl, rfl⟩
  have hlog := State.addLog_thermal u 2 (logSource 12 sensor 0) cause 0
  generalize u.addLog 2 (logSource 12 sensor 0) cause 0 = v at hlog
  rw [← hlog] at hstate
  have hend : (if v.hasSession then v.endSession 3 else v).thermal = v.thermal := by
    split
    · exact State.endSession_thermal hstate.1 3
    · rfl
  generalize (if v.hasSession then v.endSession 3 else v) = w at hend
  rw [← hend] at hstate
  obtain ⟨a, m, o, p, heq⟩ := State.sameModule_nextTurn w.dropDies
  rw [heq]
  exact ⟨hstate.1, hstate.2, rfl, rfl⟩

/-! ### The rate check -/

/-- A check records its time, and the spread of the valid substrate readings where there are any. -/
theorem State.measure_thermal {s : State} (h : validTemps (s.thermal.subs.map (·.2)) ≠ []) :
    s.measure.thermal.ratedAt = some s.time ∧ s.measure.thermal.grad = BitVec.ofNat 16 (spread (validTemps (s.thermal.subs.map (·.2)))) ∧
      s.measure.thermal.state = s.thermal.state := by
  have hne : (validTemps (s.thermal.subs.map (·.2))).isEmpty = false := by
    rw [List.isEmpty_eq_false_iff]
    exact h
  unfold State.measure
  simp only [hne, Bool.false_eq_true, if_false]
  obtain ⟨n, hn⟩ := State.rounded_state s (slopeOf s.thermal.nextMeans).1 (2520 * (slopeOf s.thermal.nextMeans).2)
  rw [State.modThermal_thermal, hn]
  exact ⟨rfl, rfl, rfl⟩

theorem State.setPause_thermal (s : State) (on : Bool) : ∃ b, (s.setPause on).thermal = { s.thermal with pause := b } := by
  unfold State.setPause
  split
  · exact ⟨s.thermal.pause, rfl⟩
  · exact ⟨on, rfl⟩

theorem State.enterFault_of_not_faultable {s : State} (h : s.thermal.state.faultable = false) (cause sensor : Nat) : s.enterFault cause sensor = s := by
  rw [State.enterFault, if_neg (Bool.eq_false_iff.mp h), State.toFault, if_pos (by rw [h]; rfl)]

/-- What a rate check shows: its time, the spread, and the state of the module. -/
def Thermal.rated (t : Thermal) : Option Nat × BitVec 16 × TState := (t.ratedAt, t.grad, t.state)

theorem State.setEvt_rated (s : State) (b : Nat) : (s.setEvt b).thermal.rated = s.thermal.rated := by
  obtain ⟨e, he⟩ := State.setEvt_thermal s b
  rw [he]
  rfl

/-- A check in WARM_STANDBY, which no hard limit ends (R15, R17), shows what it has measured. -/
theorem State.rateCheck_rated {s : State} (hstate : s.thermal.state = .warmStandby) (hsampled : s.thermal.sampledAt ≠ none)
    (hdue : tooSoon s.thermal.ratedAt second s.time = false) (hsubs : validTemps (s.thermal.subs.map (·.2)) ≠ []) :
    s.rateCheck.thermal.rated = s.measure.thermal.rated := by
  have hmeasured : s.measure.thermal.state = .warmStandby := (State.measure_thermal hsubs).2.2.trans hstate
  unfold State.rateCheck
  rw [if_neg (by simp [hstate, hsampled, hdue])]
  dsimp only
  generalize s.measure = u at hmeasured ⊢
  have hfast : ∀ b : Bool, (if b then u.setEvt 2 else u).thermal.rated = u.thermal.rated := fun b => by
    cases b
    · rfl
    · exact State.setEvt_rated u 2
  have hsteep : ∀ b : Bool, (if 240 < u.thermal.grad.toNat then (if b then u.setEvt 2 else u).setEvt 3 else if b then u.setEvt 2 else u).thermal.rated =
      u.thermal.rated := fun b => by
    split
    · exact (State.setEvt_rated _ 3).trans (hfast b)
    · exact hfast b
  generalize hv : (if 240 < u.thermal.grad.toNat then
    (if rateAgainst u.thermal.means (-4) == -1 || rateAgainst u.thermal.means 3 == 1 then u.setEvt 2 else u).setEvt 3
    else if rateAgainst u.thermal.means (-4) == -1 || rateAgainst u.thermal.means 3 == 1 then u.setEvt 2 else u) = v
  have hrated : v.thermal.rated = u.thermal.rated := by
    rw [← hv]
    exact hsteep _
  obtain ⟨b, hb⟩ := State.setPause_thermal (v.modThermal fun t =>
    { t with
      rateOk := if rateAgainst u.thermal.means (-4) == -1 || rateAgainst u.thermal.means 3 == 1 then 0 else min 11 (t.rateOk + 1)
      gradPause := decide (240 < u.thermal.grad.toNat) || (t.gradPause && decide (192 < u.thermal.grad.toNat)) }) _
  have hpaused := (congrArg Thermal.rated hb).trans hrated
  generalize State.setPause _ _ = w at hpaused ⊢
  have hwarm : w.thermal.state.faultable = false := by
    have hstandby : w.thermal.state = .warmStandby := (congrArg (fun p => p.2.2) hpaused).trans hmeasured
    rw [hstandby]
    rfl
  rw [State.enterFault_of_not_faultable hwarm, State.enterFault_of_not_faultable hwarm, ite_self, ite_self]
  exact hpaused

/-! ### The coolant line -/

theorem State.setEvt_bit (s : State) {b : Nat} (hb : b < 8) : (s.setEvt b).thermal.evt.getLsbD b = true := by
  unfold State.setEvt
  dsimp only
  split
  · next h => exact h
  · rw [State.msix_thermal, State.modThermal_thermal, BitVec.getLsbD_or, BitVec.getLsbD_shiftLeft]
    simp [hb]

/-- Settles O32, by what the entry into HOLD, its exit and the entry into FAULT make of the thermal registers. -/
theorem rateAndCoolant : Obligations.RateAndCoolant := by
  intro s
  refine ⟨?_, ?_, ?_, ?_, ?_⟩
  · intro hstate hsampled hdue hsubs
    refine ⟨_, rfl, ?_⟩
    have hrated := State.rateCheck_rated hstate hsampled hdue hsubs
    simp only [Thermal.rated, Prod.mk.injEq] at hrated
    obtain ⟨hat, hgrad, hkept⟩ := hrated
    obtain ⟨hat', hgrad', hkept'⟩ := State.measure_thermal hsubs
    exact ⟨hat.trans hat', hgrad.trans hgrad', hkept.trans (hkept'.trans hstate)⟩
  · intro level hoff hlevel
    refine ⟨_, rfl, ?_⟩
    rw [State.coolantChange, if_neg (by simp [hoff, hlevel])]
    dsimp only
    rw [State.nextTurn_thermal]
    cases level
    · obtain ⟨e, he⟩ := State.setEvt_thermal (s.modThermal fun t => { t with coolantOk := false, coolantSince := s.time, coolantTaken := false }) 4
      refine ⟨(congrArg Thermal.coolantOk he), (congrArg Thermal.coolantSince he), fun _ => ?_⟩
      exact State.setEvt_bit _ (by decide)
    · exact ⟨rfl, rfl, fun h => absurd h (by decide)⟩
  · intro hstate hseq hidle hlow hsince
    refine ⟨_, rfl, ?_⟩
    have hdue : s.coolantLow 5 = true := by
      rw [State.coolantLow, hlow, decide_eq_true hsince]
      rfl
    have hserved : s.holdServed = true := by
      rw [State.holdServed, hseq, hidle]
      rfl
    rw [State.coolantHold, if_pos ⟨by rw [hstate]; rfl, hdue, hserved⟩, State.enterHold]
    exact State.toHold_state _ _
  · intro hstate hlow htaken hsince
    refine ⟨_, rfl, ?_⟩
    have hdue : s.coolantLow 65 = true := by
      rw [State.coolantLow, hlow, decide_eq_true hsince]
      rfl
    rw [State.coolantFault, if_pos ⟨hdue, by rw [htaken]; rfl, by rw [hstate]; rfl⟩, State.enterFault, if_pos (by rw [hstate]; rfl)]
    obtain ⟨hfault, hcause, hctxs, hdies⟩ :=
      State.toFault_of_hold ((congrArg Thermal.state (State.preemptCommand_thermal hstate)).trans hstate) 4 48
    generalize State.toFault _ 4 48 = u at hfault hcause hctxs hdies ⊢
    exact ⟨hfault, hcause, hctxs, hdies, rfl⟩
  · intro hstate hseq hidle hcmd hband hsess hok hsince
    refine ⟨_, rfl, ?_⟩
    have hover : s.holdOver = true := by
      rw [State.holdOver, State.exitDue, hstate, hcmd, hband, hok, decide_eq_true hsince, hseq, hidle]
      rfl
    rw [State.coolantExit, if_pos hover, State.nextTurn_thermal]
    exact State.exitHold_state hsess

end Sys2Proof.Machine

/-! ## Memory controllers, the memory-side cache and handle requests (R12 to R14, R31, R32, R43, R50, R51, R57, R58) -/

namespace Sys2Proof.Machine

set_option Elab.async false

/-! ### Pseudo-channels -/

@[simp] theorem State.dramChan_modDram_self (s : State) (n : Nat) (f : DramChan → DramChan) : (s.modDram n f).dramChan n = f (s.dramChan n) :=
  SMap.get_modify_self _ _ _ _

@[simp] theorem State.dramChan_useCycle (s : State) (n : Nat) : (s.useCycle n).dramChan n = { s.dramChan n with actedAt := some s.time } :=
  State.dramChan_modDram_self _ _ _

@[simp] theorem State.dramChan_wakeDram (s : State) (n : Nat) :
    (s.wakeDram n).dramChan n = { s.dramChan n with powerDown := false, selfRefresh := false, lastReq := s.time } :=
  State.dramChan_modDram_self _ _ _

@[simp] theorem State.dramChan_takeRate (s : State) (n : Nat) : (s.takeRate n).dramChan n = { s.dramChan n with refrate := s.channelRate n } :=
  State.dramChan_modDram_self _ _ _

/-- An address below the hole is neither in it nor in the host window (R34). -/
theorem not_hole_of_lt {pa : Nat} (h : pa < holeBase) : isHole pa = false ∧ isHost pa = false := by
  rw [holeBase] at h
  constructor
  · rw [isHole, holeBase, decide_eq_false (by omega), Bool.false_and]
  · rw [isHost, hostBase, decide_eq_false (by omega)]

theorem State.foundIn_of_not_poisoned {s : State} {sector : Nat} (h : sector ∉ s.poison) (ecc : Ecc) : s.foundIn sector ecc = ecc :=
  if_neg (by simpa using h)

/-- A controller scrubs a row in this cycle (R14). -/
def State.scrubbedNow (s : State) (n key : Nat) : State := { s.useCycle n with scrubbed := SMap.set 0 s.scrubbed key s.time }

theorem takeRequest_of_oldest {sector : Nat} {write : Bool} {pre post : List DramReq}
    (h : ∀ r ∈ pre, bankOf (32 * r.sector) ≠ bankOf (32 * sector)) : takeRequest sector write (pre ++ ⟨sector, write⟩ :: post) = some (pre ++ post) := by
  induction pre with
  | nil => exact if_pos ⟨rfl, rfl⟩
  | cons r pre ih =>
    have hbank := h r List.mem_cons_self
    rw [List.cons_append, takeRequest, if_neg fun hr => hbank (by rw [hr.1]), if_neg hbank, ih fun q hq => h q (List.mem_cons_of_mem _ hq)]
    rfl

theorem bne_eq_false_of_eq {α : Type} [BEq α] [LawfulBEq α] {a b : α} (h : a = b) : (a != b) = false := by
  rw [h, bne_self_eq_false]

section channel
variable {s : State} {n : Nat} (hfree : (s.dramChan n).actedAt ≠ some s.time)

include hfree in
theorem State.cycleFree_of_ne : s.cycleFree n = true := bne_iff_ne.mpr hfree

section sector
variable {sector : Nat} (hpowered : s.powered = true) (hlow : 32 * sector < holeBase) (hchan : channelOf (32 * sector) = n) (hclean : sector ∉ s.poison)
  (hpost : (s.dramChan n).postponed ≠ 8) (hcalm : s.urgentChannel n = false)
include hfree hpowered hlow hchan hclean hpost hcalm

theorem dramAccess_eq {write : Bool} {pre post : List DramReq} (hqueue : (s.dramChan n).queue = pre ++ ⟨sector, write⟩ :: post)
    (hbank : ∀ r ∈ pre, bankOf (32 * r.sector) ≠ bankOf (32 * sector)) :
    s.dramAccess n sector write .clean = .next (((s.wakeDram n).useCycle n).modDram n fun x => { x with queue := pre ++ post }) := by
  obtain ⟨hhole, hhost⟩ := not_hole_of_lt hlow
  unfold State.dramAccess
  simp only [hhole, hhost, hpowered, bne_eq_false_of_eq hchan, State.cycleFree_of_ne hfree, hcalm, beq_eq_false_iff_ne.mpr hpost, hqueue,
    takeRequest_of_oldest hbank, Bool.not_true, Bool.or_false, Bool.false_eq_true, if_false]
  cases write
  · have hfound : ∀ u : State, u.poison = s.poison → u.foundIn sector .clean = .clean := fun u hu =>
      State.foundIn_of_not_poisoned (by rw [hu]; exact hclean) .clean
    rw [hfound (((s.wakeDram n).useCycle n).modDram n fun x => { x with queue := pre ++ post }) rfl]
    rfl
  · rfl

omit hclean in
/-- A scrub of an idle channel takes its cycle. -/
theorem scrub_eq {ecc : Ecc} (hband : s.thermal.band ≠ .warm) (hidle : (s.dramChan n).queue = []) :
    s.scrub n sector (s.scrubUrgent (rowKey (32 * sector))) false ecc =
      .next (match s.foundIn sector ecc with
        | .clean => s.scrubbedNow n (rowKey (32 * sector))
        | .corrected => (s.scrubbedNow n (rowKey (32 * sector))).countCE true
        | .uncorrectable =>
          ({ s.scrubbedNow n (rowKey (32 * sector)) with poison := insertAsc sector s.poison } : State).logUE (channelSource n) (32 * sector)) := by
  obtain ⟨hhole, hhost⟩ := not_hole_of_lt hlow
  have hnow : s.scrubNow n (rowKey (32 * sector)) false = true := by
    simp only [State.scrubNow, State.cycleFree_of_ne hfree, bne_iff_ne.mpr hpost, hidle, hcalm, List.isEmpty_nil, Bool.not_false, Bool.and_self,
      Bool.or_true]
  unfold State.scrub
  simp only [hhole, hhost, hpowered, bne_eq_false_of_eq hchan, beq_eq_false_iff_ne.mpr hband, bne_self_eq_false, hnow, Bool.not_true,
    Bool.or_false, Bool.false_eq_true, if_false]
  generalize rowKey (32 * sector) = key
  rfl

end sector

/-! ### Refresh, power and timing -/

section refresh
variable (hpowered : s.powered = true) (hn : n < numChannels) (hself : (s.dramChan n).selfRefresh = false)
include hpowered hn hself

theorem refreshDue_eq (due : Bool) : s.refreshDue n due =
    if due && s.channelRate n == 0#3 then s.takeRate n
    else if (s.takeRate n).refreshNow n then
      (if due then (s.takeRate n).useCycle n
       else if (s.dramChan n).postponed = 0 then s.takeRate n
       else ((s.takeRate n).useCycle n).modDram n fun x => { x with postponed := x.postponed - 1 })
    else if due then (s.takeRate n).modDram n fun x => { x with postponed := min 8 (x.postponed + 1) }
    else s.takeRate n := by
  unfold State.refreshDue
  simp only [hpowered, decide_eq_false (Nat.not_le.mpr hn), hself, Bool.not_true, Bool.or_false, Bool.false_eq_true, if_false]

omit hpowered hn hself in
theorem refreshNow_takeRate : (s.takeRate n).refreshNow n =
    (s.cycleFree n && ((s.dramChan n).postponed == 8 || ((s.dramChan n).queue.isEmpty && !s.urgentChannel n))) := by
  simp only [State.refreshNow, State.cycleFree, State.dramChan_takeRate]
  rfl

omit hself in
include hfree in
theorem refresh_clauses {x : DramChan} (hx : x = s.dramChan n) (hself : x.selfRefresh = false) :
    (x.queue = [] → s.urgentChannel n = false → x.postponed ≠ 0 →
      ∃ t, exec (.refresh n false) s = .next t ∧ (t.dramChan n).postponed = x.postponed - 1) ∧
    (x.refrate ≠ 0#3 → x.queue ≠ [] → x.postponed < 8 → ∃ t, exec (.refresh n true) s = .next t ∧ (t.dramChan n).postponed = x.postponed + 1) ∧
    ((if x.queue = [] then s.thermal.refrate else x.refrate) ≠ 0#3 → x.postponed = 8 →
      ∃ t, exec (.refresh n true) s = .next t ∧ (t.dramChan n).postponed = 8 ∧ (t.dramChan n).actedAt = some s.time) ∧
    (x.queue = [] → s.thermal.refrate = 0#3 → ∃ t, exec (.refresh n true) s = .next t ∧ t.dramChan n = { x with refrate := 0#3 }) := by
  subst hx
  have hcycle := State.cycleFree_of_ne hfree
  have hrate : s.channelRate n = if (s.dramChan n).queue = [] then s.thermal.refrate else (s.dramChan n).refrate := by
    rw [State.channelRate]
    exact ite_of_iff List.isEmpty_iff _ _
  have hdue (due : Bool) : exec (.refresh n due) s = .next (s.refreshDue n due) := rfl
  refine ⟨?_, ?_, ?_, ?_⟩
  · intro hidle hcalm hne
    have hnow : (s.takeRate n).refreshNow n = true := by
      rw [refreshNow_takeRate, hcycle, hidle, hcalm]
      exact Bool.or_true _
    refine ⟨_, hdue false, ?_⟩
    rw [refreshDue_eq hpowered hn hself, hnow]
    simp only [Bool.false_and, Bool.false_eq_true, if_false, if_true, if_neg hne, State.dramChan_modDram_self, State.dramChan_useCycle,
      State.dramChan_takeRate]
  · intro hon hbusy hlt
    have hnow : (s.takeRate n).refreshNow n = false := by
      rw [refreshNow_takeRate, beq_eq_false_iff_ne.mpr (Nat.ne_of_lt hlt), List.isEmpty_eq_false_iff.mpr hbusy]
      exact Bool.and_false _
    refine ⟨_, hdue true, ?_⟩
    rw [refreshDue_eq hpowered hn hself, hnow, hrate, if_neg hbusy, beq_eq_false_iff_ne.mpr hon]
    simp only [Bool.and_false, Bool.false_eq_true, if_false, if_true, State.dramChan_modDram_self, State.dramChan_takeRate]
    exact Nat.min_eq_right hlt
  · intro hon height
    have hnow : (s.takeRate n).refreshNow n = true := by
      rw [refreshNow_takeRate, hcycle, height]
      rfl
    refine ⟨_, hdue true, ?_⟩
    rw [refreshDue_eq hpowered hn hself, hnow, hrate, beq_eq_false_iff_ne.mpr hon]
    simp only [Bool.and_false, Bool.false_eq_true, if_false, if_true, State.dramChan_useCycle, State.dramChan_takeRate]
    exact ⟨height, rfl⟩
  · intro hidle hoff
    have hzero : s.channelRate n = 0#3 := by rw [hrate, if_pos hidle, hoff]
    refine ⟨_, hdue true, ?_⟩
    rw [refreshDue_eq hpowered hn hself, hzero]
    simp only [BEq.rfl, Bool.and_self, if_true, State.dramChan_takeRate, hzero]

end refresh

section power
variable (hn : n < numChannels) (hidle : (s.dramChan n).queue = []) (hzero : (s.dramChan n).postponed = 0) (hcalm : s.urgentChannel n = false)
include hfree hn hidle hzero hcalm

omit hn hidle in
theorem entryNow_eq (request : Bool) : s.entryNow n request = !request := by
  rw [State.entryNow, State.cycleFree_of_ne hfree, hzero, hcalm]
  simp

omit hfree hn hzero hcalm in
theorem dramIdle_of_lt {cycles : Nat} (hlate : (s.dramChan n).lastReq + cycles < s.time) : s.dramIdle n cycles = true := by
  rw [State.dramIdle, hidle, decide_eq_true hlate]
  rfl

theorem powerDown_clause (hpowered : s.powered = true) (hband : s.thermal.band = .cold) (hlate : (s.dramChan n).lastReq + 64 < s.time) :
    (∃ t, exec (.powerDownEntry n false) s = .next t ∧ (t.dramChan n).powerDown = true) ∧ exec (.powerDownEntry n true) s = .next s := by
  have hgo : ¬ (numChannels ≤ n ∨ (!s.powered) = true ∨ (!(s.thermal.band == .cold || s.thermal.band == .retreat)) = true) := by
    simp [hn, hpowered, hband]
  constructor
  · refine ⟨_, rfl, ?_⟩
    rw [State.powerDown, if_neg hgo, dramIdle_of_lt hidle hlate, entryNow_eq hfree hzero hcalm, if_pos (by decide), State.dramChan_modDram_self]
  · refine congrArg Host.Outcome.next ?_
    rw [State.powerDown, if_neg hgo, dramIdle_of_lt hidle hlate, entryNow_eq hfree hzero hcalm]
    rfl

theorem selfRefresh_clause (hhold : s.thermal.state = .hold) (hlate : (s.dramChan n).lastReq + 1024 < s.time) :
    (∃ t, exec (.selfRefreshEntry n false) s = .next t ∧ (t.dramChan n).selfRefresh = true ∧ (t.dramChan n).powerDown = false) ∧
      exec (.selfRefreshEntry n true) s = .next s := by
  have hgo : ¬ (numChannels ≤ n ∨ s.thermal.state ≠ .hold) := by simp [hn, hhold]
  constructor
  · refine ⟨_, rfl, ?_⟩
    rw [State.selfRefresh, if_neg hgo, dramIdle_of_lt hidle hlate, entryNow_eq hfree hzero hcalm, if_pos (by decide), State.dramChan_modDram_self]
    exact ⟨rfl, rfl⟩
  · refine congrArg Host.Outcome.next ?_
    rw [State.selfRefresh, if_neg hgo, dramIdle_of_lt hidle hlate, entryNow_eq hfree hzero hcalm]
    rfl

end power

end channel

/-! ### The memory-side cache -/

theorem State.dramRequest_home (s : State) (sector : Nat) (write : Bool) : (s.dramRequest sector write).home = s.home := rfl

theorem State.writeBack_home (s : State) (line : Nat) : (s.writeBack line).home = s.home := by
  unfold State.writeBack
  generalize LlcLine.dirtySectors _ _ = l
  induction l generalizing s with
  | nil => rfl
  | cons q l ih => exact ih (s.dramRequest q true)

theorem State.makeRoom_home {s u : State} {line : Nat} (h : s.makeRoom line = some u) : u.home = s.home := by
  unfold State.makeRoom at h
  dsimp only at h
  split at h
  · cases h
    rfl
  · obtain ⟨v, -, rfl⟩ := Option.map_eq_some_iff.mp h
    exact State.writeBack_home _ v

/-- A line that serves a sector of the machine's own memory holds it, and is dirty there after a write (R43). -/
theorem LlcLine.served_bits (l : LlcLine) {k : Nat} (hk : k < 4) (kind : LlcKind) (pin : Bool) :
    (l.served k kind false pin).valid.getLsbD k = true ∧ (kind ≠ .read → (l.served k kind false pin).dirty.getLsbD k = true) := by
  have hbit : ∀ b : BitVec 4, (b ||| 1#4 <<< k).getLsbD k = true := fun b => by
    rw [BitVec.getLsbD_or, BitVec.getLsbD_shiftLeft]
    simp [hk]
  refine ⟨hbit _, fun hkind => ?_⟩
  simp only [LlcLine.served, Bool.false_or, beq_eq_false_iff_ne.mpr hkind, Bool.false_eq_true, if_false]
  exact hbit _

/-- A sector of the machine's own memory is served in its line (R43). -/
def State.servedIn (s : State) (sector : Nat) (kind : LlcKind) : State :=
  { s with
    llc := SMap.modify {} s.llc (sector / 4) fun l => l.served (sector % 4) kind false (s.pinsLine (sector / 4))
    llcLast := SMap.set 0 s.llcLast (lineSet (sector / 4)) (sector / 4 + 1) }

theorem State.line_servedIn (s : State) (sector : Nat) (kind : LlcKind) :
    (s.servedIn sector kind).line (sector / 4) = (s.line (sector / 4)).served (sector % 4) kind false (s.pinsLine (sector / 4)) :=
  SMap.get_modify_self {} s.llc (sector / 4) fun l => l.served (sector % 4) kind false (s.pinsLine (sector / 4))

section cache
variable {s : State} {sector : Nat} {kind : LlcKind} (hpowered : s.powered = true) (hlow : 32 * sector < holeBase)
include hpowered hlow

/-- An access that finds room in its set is served there. -/
theorem llcAccess_eq {u : State} (hroom : s.makeRoom (sector / 4) = some u) : exec (.llcAccess sector kind .clean) s =
    .next ((if kind == .writeWhole || (u.line (sector / 4)).valid.getLsbD (sector % 4) then u else u.dramRequest sector false).servedIn sector kind) := by
  obtain ⟨hhole, hhost⟩ := not_hole_of_lt hlow
  refine (if_neg (by rw [hhole]; decide)).trans (congrArg Host.Outcome.next ?_)
  rw [if_pos hpowered, State.llcEcc, State.llcServe]
  simp only [hhost, Bool.false_and, Bool.false_eq_true, if_false, hroom, Bool.false_or]
  rfl

theorem llcAccess_clause {n : Nat} (hchan : channelOf (32 * sector) = n) (hroom : s.makeRoom (sector / 4) ≠ none) :
    ∃ t, exec (.llcAccess sector kind .clean) s = .next t ∧ ((t.line (sector / 4)).valid.getLsbD (sector % 4) = true) ∧
      (kind ≠ .read → (t.line (sector / 4)).dirty.getLsbD (sector % 4) = true) ∧ t.home = s.home ∧
      (s.llc.length < 16 → kind ≠ .writeWhole → (s.line (sector / 4)).valid.getLsbD (sector % 4) = false →
        (t.dramChan n).queue = (s.dramChan n).queue ++ [⟨sector, false⟩]) := by
  obtain ⟨u, hu⟩ := Option.ne_none_iff_exists'.mp hroom
  have hexec := llcAccess_eq (kind := kind) hpowered hlow hu
  generalize hw : (if kind == .writeWhole || (u.line (sector / 4)).valid.getLsbD (sector % 4) then u else u.dramRequest sector false) = w at hexec
  obtain ⟨hvalid, hdirty⟩ := LlcLine.served_bits (w.line (sector / 4)) (Nat.mod_lt sector (by decide)) kind (w.pinsLine (sector / 4))
  rw [← State.line_servedIn] at hvalid hdirty
  refine ⟨_, hexec, hvalid, hdirty, ?_, ?_⟩
  · have hrequest : w.home = u.home := by
      rw [← hw]
      split <;> rfl
    exact (hrequest.trans (State.makeRoom_home hu))
  · intro hroomy hkind hmiss
    have hsame : u = s := by
      rw [State.makeRoom, if_pos (.inl hroomy)] at hu
      exact (Option.some.inj hu).symm
    rw [hsame, beq_eq_false_iff_ne.mpr hkind, hmiss] at hw
    have hqueue : (w.dramChan n).queue = (s.dramChan n).queue ++ [⟨sector, false⟩] := by
      rw [← hw, ← hchan]
      simp only [Bool.or_self, Bool.false_eq_true, if_false, State.dramRequest, State.dramChan_modDram_self, State.dramChan_wakeDram]
    exact hqueue

end cache

/-! ### Handle requests -/

theorem mem_insertAsc_self (n : Nat) (l : List Nat) : n ∈ insertAsc n l := by
  induction l with
  | nil => exact List.mem_singleton_self n
  | cons m l ih =>
    rw [insertAsc]
    split
    · exact List.mem_cons_self
    · split
      · next h => exact List.mem_cons.mpr (.inl h)
      · exact List.mem_cons_of_mem m ih

theorem State.fillPages_keeps (s : State) (d : Nat) (l : List Nat) :
    (s.fillPages d l).handleImage = s.handleImage ∧ (s.fillPages d l).home = s.home := by
  unfold State.fillPages
  induction l generalizing s with
  | nil => exact ⟨rfl, rfl⟩
  | cons va l ih =>
    obtain ⟨himage, hhome⟩ := ih (s.fillLayout d va)
    have hstep : (s.fillLayout d va).handleImage = s.handleImage ∧ (s.fillLayout d va).home = s.home := by
      unfold State.fillLayout
      split <;> exact ⟨rfl, rfl⟩
    exact ⟨himage.trans hstep.1, hhome.trans hstep.2⟩

/-- The supervisor reads a tile of a valid record. -/
theorem handleRequest_eq {s : State} {die handle : Nat} {coord shape : Quad4} {t : Tile4} {bs : List Byte} (hpowered : s.powered = true) (hdie : die < 4)
    (hclean : s.poisonIn (s.layoutReads die handle coord shape) = none)
    (ht : t = { r := recOf (s.layoutBytes die handle coord shape), coord := coord, shape := shape }) (hvalid : t.r.valid = true) (hcount : t.count ≠ 0)
    (hfit : t.count * t.r.imageWidth ≤ 524288)
    (hread : s.readImage { die := die, core := 0, cluster := 72 * die, sup := true } t 0 t.bytes = .ok bs) :
    exec (.handleRequest die handle coord shape true false []) s = .next (({ s with handleImage := bs } : State).fillPages die (t.pages 0 t.bytes)) := by
  subst ht
  refine congrArg Host.Outcome.next ?_
  unfold State.handleRequest
  simp only [hpowered, decide_eq_false (Nat.not_le.mpr hdie), hclean, hvalid, decide_eq_false hcount, decide_eq_false (Nat.not_lt.mpr hfit), hread,
    Bool.not_true, Bool.or_false, Bool.false_eq_true, if_false]

theorem State.countCE_scrubbed (s : State) : (s.countCE true).scrubbed = s.scrubbed := by
  unfold State.countCE
  simp only [if_true]
  split
  · rfl
  · split
    · obtain ⟨e, h⟩ := State.sameModule_setEvt (s.modThermal fun t => { t with dramce := s.thermal.dramce + 1 }) 6
      exact h.keeps State.scrubbed fun _ _ _ _ _ => rfl
    · rfl

theorem State.countCE_dramce {s : State} (h : s.thermal.dramce ≠ 0xFFFF#16) : (s.countCE true).thermal.dramce = s.thermal.dramce + 1 := by
  unfold State.countCE
  simp only [if_true, if_neg h]
  split
  · obtain ⟨e, he⟩ := State.setEvt_thermal (s.modThermal fun t => { t with dramce := s.thermal.dramce + 1 }) 6
    exact congrArg Thermal.dramce he
  · rfl

theorem State.logUE_poison (s : State) (source pa : Nat) : (s.logUE source pa).poison = s.poison := by
  obtain ⟨e, h⟩ := State.sameModule_setEvt ((s.addLog 1 source 0x11 pa).modThermal fun t => { t with ue := if t.ue = 0xFFFF#16 then t.ue else t.ue + 1 }) 7
  exact (h.keeps State.poison fun _ _ _ _ _ => rfl).trans ((State.sameModule_msix _ 3).keeps State.poison fun _ _ _ _ _ => rfl)

/-- Settles O33, clause by clause: a request, a scrub, the cache, refresh, power, timing, self-refresh, and the handle request. -/
theorem memoryControllersAndHandles : Obligations.MemoryControllersAndHandles := by
  constructor
  · rintro s n x hrun hn rfl hfree
    have hpowered : s.powered = true := by rw [State.powered, hrun]
    refine ⟨fun sector hlow hchan hclean => ⟨?_, ?_, fun kind hroom => llcAccess_clause hpowered hlow hchan hroom⟩,
      fun hself => refresh_clauses hfree hpowered hn rfl hself,
      fun hband hidle hlate hzero hcalm => powerDown_clause hfree hn hidle hzero hcalm hpowered hband hlate, ?_,
      fun u hhold hfree hidle hlate hzero hcalm => selfRefresh_clause hfree hn hidle hzero hcalm hhold hlate⟩
    · intro write pre post hqueue hbank hpost hcalm
      refine ⟨_, dramAccess_eq hfree hpowered hlow hchan hclean hpost hcalm hqueue hbank, rfl, ?_⟩
      simp only [State.dramChan_modDram_self, State.dramChan_useCycle, State.dramChan_wakeDram]
      rfl
    · intro hband hidle hpost hcalm
      have hexec (ecc : Ecc) := scrub_eq (ecc := ecc) hfree hpowered hlow hchan hpost hcalm hband hidle
      simp only [State.foundIn_of_not_poisoned hclean] at hexec
      refine ⟨⟨_, hexec .corrected, ?_, fun hroom => ?_⟩, ⟨_, hexec .uncorrectable, ?_, ?_⟩⟩
      · rw [State.countCE_scrubbed]
        exact SMap.get_set_self _ _ _ _
      · exact State.countCE_dramce (s := s.scrubbedNow n (rowKey (32 * sector))) hroom
      · rw [State.logUE_poison]
        exact mem_insertAsc_self _ _
      · exact State.setEvt_bit _ (by decide)
    · have hgo : ¬ (numChannels ≤ n ∨ (!s.powered) = true) := by simp [hn, hpowered]
      refine ⟨_, congrArg Host.Outcome.next (if_neg hgo), ?_⟩
      rw [State.dramChan_modDram_self]
      exact ⟨rfl, rfl⟩
  · intro s die handle coord shape t bs hpowered hdie hclean ht hvalid hcount hfit hread
    refine ⟨_, handleRequest_eq hpowered hdie hclean ht hvalid hcount hfit hread, ?_⟩
    exact State.fillPages_keeps _ _ _

end Sys2Proof.Machine

/-! ## Coherence order (R251, R252) -/

namespace Sys2Proof.Machine

set_option Elab.async false

section bytes
variable (keep : Nat → Bool) (pa : Nat)

/-- The bytes of a write set one after another, but those that are kept. -/
def putBytes (m : Mem) (bs : List (Byte × Nat)) : Mem :=
  bs.foldl (fun (m : Mem) b => if keep b.2 then m else m.setByte (pa + b.2) b.1) m

theorem byte_putBytes_of_not_mem {bs : List (Byte × Nat)} {a : Nat} (m : Mem) (h : ∀ b ∈ bs, pa + b.2 ≠ a) :
    Mem.byte (putBytes keep pa m bs) a = Mem.byte m a := by
  induction bs generalizing m with
  | nil => rfl
  | cons b bs ih =>
    refine (ih _ fun c hc => h c (List.mem_cons_of_mem b hc)).trans ?_
    dsimp only
    split
    · rfl
    · exact Mem.byte_setByte_ne m (pa + b.2) a b.1 (h b List.mem_cons_self).symm

theorem byte_putBytes {bs : List Byte} {n k : Nat} {b : Byte} (m : Mem) (h : bs[k]? = some b) :
    Mem.byte (putBytes keep pa m (bs.zipIdx n)) (pa + (n + k)) = if keep (n + k) then Mem.byte m (pa + (n + k)) else b := by
  induction bs generalizing m n k with
  | nil => simp at h
  | cons c bs ih =>
    cases k with
    | zero =>
      rw [List.getElem?_cons_zero, Option.some.injEq] at h
      have hlater : ∀ d ∈ bs.zipIdx (n + 1), pa + d.2 ≠ pa + (n + 0) := fun d hd => by
        have := List.le_snd_of_mem_zipIdx hd
        omega
      rw [List.zipIdx_cons]
      refine (byte_putBytes_of_not_mem keep pa _ hlater).trans ?_
      subst h
      rw [Nat.add_zero]
      dsimp only
      split
      · rfl
      · exact Mem.byte_setByte_self m (pa + n) c
    | succ k =>
      rw [List.getElem?_cons_succ] at h
      have hstep := ih (n := n + 1) (if keep n then m else m.setByte (pa + n) c) h
      have hnext : n + (k + 1) = n + 1 + k := by omega
      rw [List.zipIdx_cons, hnext]
      refine hstep.trans ?_
      split
      · split
        · rfl
        · exact Mem.byte_setByte_ne m (pa + n) _ c (by omega)
      · rfl

end bytes

section step
variable {s : State} {w : GWrite} (hfind : (s.writes.find? fun v => v.id == w.id) = some w)
include hfind

/-- A write that no earlier overlapping write of its die precedes takes its place (R252). -/
theorem placement_eq (hplace : w.place = none)
    (hfirst : ∀ v ∈ s.writes, v.die = w.die → v.id < w.id → v.place ≠ none ∨ v.overlaps w = false) :
    s.placement w.id = ({ s with
      home := writeParts s.home w.addr w.data w.skip
      nextPlace := s.nextPlace + 1
      writes := mapWhere (fun v => v.id == w.id) (fun v => { v with place := some s.nextPlace }) s.writes } : State).pruneWrites := by
  have hnone : (s.writes.any fun v => v.die == w.die && decide (v.id < w.id) && v.place.isNone && v.overlaps w) = false := by
    rw [List.any_eq_false]
    intro v hv hbad
    simp only [Bool.and_eq_true, beq_iff_eq, decide_eq_true_eq, Option.isNone_iff_eq_none] at hbad
    obtain ⟨⟨⟨hdie, hid⟩, hopen⟩, hover⟩ := hbad
    exact (hfirst v hv hdie hid).elim (fun h => h hopen) fun h => Bool.false_ne_true (h.symm.trans hover)
  unfold State.placement State.placeWrite
  simp only [hfind, hnone, hplace, Option.isSome_none, Bool.false_eq_true, or_self, if_false]

/-- A write that is due at a die is applied there, and its clock counts it (R251). -/
theorem remoteApply_eq {d : Nat} (hd : d < 4) (hdue : w.applicable d (s.die d).vc = true) (hwaits : s.writeWaits = [])
    (heast : s.oxEast.queue = []) (hwest : s.oxWest.queue = []) :
    s.remoteApply w.id d = ({ (s.applyAt d w).modDie d fun x => { x with vc := x.vc.set w.die (w.clock.get w.die) } with
      writeWaits := [] } : State).pruneWrites := by
  have hgo : ¬ (4 ≤ d ∨ (!w.applicable d (s.die d).vc) = true) := by simp [hd, hdue]
  unfold State.remoteApply
  simp only [hfind, if_neg hgo]
  generalize hu : ((s.applyAt d w).modDie d fun x => { x with vc := x.vc.set w.die (w.clock.get w.die) }) = u
  have hkeeps : u.writeWaits = [] ∧ u.oxEast.queue = [] ∧ u.oxWest.queue = [] := by
    rw [← hu]
    exact ⟨hwaits, heast, hwest⟩
  obtain ⟨hwaits, heast, hwest⟩ := hkeeps
  have hsettle : u.settleWaits = { u with writeWaits := [] } := by
    rw [State.settleWaits, hwaits]
    rfl
  have hox (west : Bool) : State.oxStart { u with writeWaits := [] } west = { u with writeWaits := [] } := by
    have hqueue : (State.oxDir { u with writeWaits := [] } west).queue = [] := by
      cases west
      · exact heast
      · exact hwest
    rw [State.oxStart, hqueue]
  rw [hsettle, hox, hox]

end step

/-- A die where a write is applied: of the die only its view changes, where the bytes that the write keeps, or that a later one has made, stay. -/
theorem die_applyAt (s : State) (d : Nat) (w : GWrite) : (s.applyAt d w).die d = { s.die d with
    view := putBytes (fun k => w.skip.contains k || s.newerAt d w (w.addr + k)) w.addr (s.die d).view w.data.zipIdx } :=
  State.die_modDie_self s d fun x => { x with
    view := putBytes (fun k => w.skip.contains k || s.newerAt d w (w.addr + k)) w.addr (s.die d).view w.data.zipIdx }

/-- Settles O35, by the place that a write takes and by the bytes that its application sets. -/
theorem coherenceSteps : Obligations.CoherenceSteps := by
  intro s w hfind
  constructor
  · intro hplace hfirst
    exact ⟨_, congrArg Host.Outcome.next (placement_eq hfind hplace hfirst), rfl, rfl, rfl, rfl⟩
  · intro d hd hdue hwaits heast hwest
    refine ⟨_, congrArg Host.Outcome.next (remoteApply_eq hfind hd hdue hwaits heast hwest), ?_⟩
    have hdie : (({ (s.applyAt d w).modDie d fun x => { x with vc := x.vc.set w.die (w.clock.get w.die) } with
        writeWaits := [] } : State).pruneWrites).die d =
        { (s.applyAt d w).die d with vc := ((s.applyAt d w).die d).vc.set w.die (w.clock.get w.die) } :=
      State.die_modDie_self (s.applyAt d w) d fun x => { x with vc := x.vc.set w.die (w.clock.get w.die) }
    rw [hdie, die_applyAt]
    refine ⟨rfl, rfl, fun k b hb => ?_, fun a ha => ?_⟩
    · have hbyte := byte_putBytes (fun k => w.skip.contains k || s.newerAt d w (w.addr + k)) w.addr (n := 0) (s.die d).view hb
      rw [Nat.zero_add] at hbyte
      refine hbyte.trans (ite_of_iff ?_ _ _)
      rw [Bool.or_eq_true, List.contains_iff_mem]
    · refine byte_putBytes_of_not_mem (fun k => w.skip.contains k || s.newerAt d w (w.addr + k)) w.addr (s.die d).view fun b hb => ?_
      have := List.snd_lt_of_mem_zipIdx hb
      omega

end Sys2Proof.Machine

/-! ## Pending accesses and posted writes (R249, R254, R344, R437) -/

namespace Sys2Proof.Machine

set_option Elab.async false

/-! ### What the memory-side cache keeps of an access (R43, R48) -/

/-- Only the memory-side cache, the requests of the controllers and the free words drawn change. -/
def State.SameBehindCache (s t : State) : Prop := ∃ l a d n, t = { s with llc := l, llcLast := a, dram := d, freeCtr := n }

theorem State.SameBehindCache.refl (s : State) : s.SameBehindCache s := ⟨s.llc, s.llcLast, s.dram, s.freeCtr, rfl⟩

theorem State.SameBehindCache.trans {s t u : State} (h : s.SameBehindCache t) (h' : t.SameBehindCache u) : s.SameBehindCache u := by
  obtain ⟨l, a, d, n, rfl⟩ := h
  obtain ⟨l', a', d', n', rfl⟩ := h'
  exact ⟨l', a', d', n', rfl⟩

/-- What does not look at these parts is as it was. -/
theorem State.SameBehindCache.keeps {α : Type} {s t : State} (h : s.SameBehindCache t) (g : State → α)
    (hg : ∀ (u : State) l a d n, g { u with llc := l, llcLast := a, dram := d, freeCtr := n } = g u) : g t = g s := by
  obtain ⟨l, a, d, n, rfl⟩ := h
  exact hg s l a d n

theorem State.SameBehindCache.foldl {β : Type} {step : State → β → State} (h : ∀ (u : State) b, u.SameBehindCache (step u b)) (l : List β) (s : State) :
    s.SameBehindCache (l.foldl step s) := by
  induction l generalizing s with
  | nil => exact .refl s
  | cons b l ih => exact (h s b).trans (ih _)

section cache
variable (s : State)

theorem State.sameBehindCache_dramRequest (sector : Nat) (write : Bool) : s.SameBehindCache (s.dramRequest sector write) :=
  ⟨s.llc, s.llcLast, _, s.freeCtr, rfl⟩

theorem State.sameBehindCache_evictLine (line : Nat) : s.SameBehindCache (s.evictLine line) := by
  unfold State.evictLine State.writeBack
  exact (State.SameBehindCache.foldl (fun u q => State.sameBehindCache_dramRequest u q true) _ s).trans ⟨_, _, _, _, rfl⟩

theorem State.sameBehindCache_makeRoom {line : Nat} {u : State} (h : s.makeRoom line = some u) : s.SameBehindCache u := by
  unfold State.makeRoom at h
  dsimp only at h
  split at h
  · cases h
    exact .refl s
  · obtain ⟨v, -, rfl⟩ := Option.map_eq_some_iff.mp h
    exact .trans ⟨s.llc, s.llcLast, s.dram, _, rfl⟩ (State.sameBehindCache_evictLine _ v)

theorem State.sameBehindCache_llcServe (sector : Nat) (kind : LlcKind) : s.SameBehindCache (s.llcServe sector kind) := by
  unfold State.llcServe
  dsimp only
  split
  · exact .refl s
  · split
    · split
      · exact .refl s
      · exact State.sameBehindCache_dramRequest s sector _
    · next u hu =>
      have hroom := State.sameBehindCache_makeRoom s hu
      split
      · exact hroom.trans ⟨_, _, _, _, rfl⟩
      · exact (hroom.trans (State.sameBehindCache_dramRequest u sector false)).trans ⟨_, _, _, _, rfl⟩

/-- The lines of an element that a lease holds are allocated in the cache, and nothing else changes (R48). -/
theorem State.sameBehindCache_touchElem (write : Bool) (e : Elem) : s.SameBehindCache (s.touchElem write e) := by
  unfold State.touchElem State.touchLease
  split
  · split
    · exact .refl s
    · refine State.SameBehindCache.foldl (fun u i => ?_) _ s
      dsimp only
      split
      · exact State.sameBehindCache_llcServe u _ _
      · exact .refl u
  · exact .refl s

end cache

/-! ### Loads -/

/-- A member that has drained only brings an evaluation of its stage (R273). -/
theorem State.drained_eq (t : State) (c : Nat) : ∃ l, t.drained c = { t with agenda := l } := by
  unfold State.drained
  split
  · exact ⟨t.agenda, rfl⟩
  · split
    · exact ⟨t.agenda, rfl⟩
    · split
      · split
        · exact ⟨t.agenda, rfl⟩
        · exact ⟨_, rfl⟩
      · exact ⟨t.agenda, rfl⟩

/-- An access to an a register ends: the register holds its value, and its token falls. -/
theorem finishAccess_keeps {s : State} {id : Nat} {b : Access} {x : Ctx} {reg : Nat} (hdest : b.dest = .scalar 0 reg none)
    (hctx : s.ctx b.ctx = some x) :
    (s.finishAccess id b).ctx b.ctx = some (({ x with a := SMap.set 0#64 x.a reg (b.scalarValue none) } : Ctx).tokDown b.token) ∧
      SMap.get none (s.finishAccess id b).accesses id = none ∧ (s.finishAccess id b).cores = s.cores := by
  have hwritten : s.writeDest b = s.modCtx b.ctx fun x => { x with a := SMap.set 0#64 x.a reg (b.scalarValue none) } := by
    rw [State.writeDest, hdest]
    rfl
  unfold State.finishAccess State.dropAccess State.pruneWrites
  rw [hwritten]
  refine ⟨?_, ?_, ?_⟩
  · refine (State.ctx_modCtx_self _ _ _).trans ?_
    have hset := State.ctx_modCtx_self s b.ctx fun x => { x with a := SMap.set 0#64 x.a reg (b.scalarValue none) }
    rw [hctx] at hset
    exact congrArg (Option.map _) hset
  · dsimp only
    rw [State.modCtx_accesses]
    exact SMap.get_set_self _ _ _ _
  · dsimp only
    rw [State.modCtx_cores]
    exact State.modCtx_cores s _ _

/-- No write of the die waits for its place: nothing settles. -/
theorem settle_of_placed {s : State} {d pa : Nat} (hplaced : ∀ v ∈ s.writes, v.die = d → v.place ≠ none) (n : Nat) : s.settle d pa n = s := by
  have hnone : (s.writes.filter fun w => w.die == d && w.place.isNone && runsOverlap w.addr w.data.length pa n) = [] := by
    rw [List.filter_eq_nil_iff]
    intro v hv hbad
    simp only [Bool.and_eq_true, beq_iff_eq, Option.isNone_iff_eq_none] at hbad
    exact hplaced v hv hbad.1.1 hbad.1.2
  rw [State.settle, hnone]
  rfl

section access
variable {s : State} {id : Nat} {a : Access} {e : Elem} (hget : SMap.get none s.accesses id = some a) (hdeps : s.depsDone a = true)
  (helems : a.elems = [e]) (hgot : e.got = none) (hclean : s.poisonOf a = none)

section load
variable {x : Ctx} {reg core off : Nat} (hkind : a.kind = .load) (hform : a.form = .plain) (hdest : a.dest = .scalar 0 reg none)
  (hheld : s.destHeld id a = false) (hloc : e.loc = .spad core off)
include hget hdeps helems hgot hclean hkind hform hheld hloc

/-- The load completes with the value that stands at its place. -/
theorem completeAccess_load_eq : s.completeAccess id [] .clean =
    (s.finishAccess id { a with
      elems := [{ e with got := some (BitVec.ofNat 64 (leNat (Mem.read (s.core core).spad off e.size))) }] }).dropHostLines := by
  have hcut : s.hostCut a = false := by
    rw [State.hostCut, helems]
    simp [State.hostQueued, hgot, hloc]
  have hread : s.readAccess (picked []) a = [{ e with got := some (BitVec.ofNat 64 (leNat (Mem.read (s.core core).spad off e.size))) }] := by
    have hnot : (LoadForm.plain == LoadForm.joined) = false := rfl
    simp only [State.readAccess, hform, hnot, helems, Bool.false_eq_true, if_false, State.readElems, List.zipIdx_cons, List.zipIdx_nil, List.map_cons,
      List.map_nil, hgot, sameRead, List.findSome?_cons, List.findSome?_nil, BEq.rfl, Bool.and_self, if_true, Option.getD_none, State.readAt, hloc,
      State.readLoc]
    rfl
  have hlow : a.lowFirst (picked []) = false := by
    rw [Access.lowFirst, hform]
    rfl
  unfold State.completeAccess
  simp only [hget, hdeps, hkind, State.badData, hclean, hlow, hcut, hread, State.countSram, Bool.not_true, Bool.or_self, Bool.false_eq_true, if_false,
    reduceCtorEq]
  rw [if_pos ⟨rfl, congrArg not hheld⟩]
  simp only [State.touchAccess, List.foldl_cons, List.foldl_nil, State.touchElem, State.touchLease, hloc]

include hdest in
theorem load_clause (hctx : s.ctx a.ctx = some x) :
    ∃ t y, exec (.memoryAccessComplete id [] .clean) s = .next t ∧ t.ctx a.ctx = some y ∧
      SMap.get 0#64 y.a reg = BitVec.ofNat 64 (leNat (Mem.read (s.core core).spad off e.size)) ∧
      y.tokCount a.token = x.tokCount a.token - 1 ∧ SMap.get none t.accesses id = none ∧ t.cores = s.cores := by
  have hexec : exec (.memoryAccessComplete id [] .clean) s = .next ((s.completeAccess id [] .clean).drained (s.accessCtx id)) := rfl
  obtain ⟨l, hl⟩ := State.drained_eq (s.completeAccess id [] .clean) (s.accessCtx id)
  rw [hl, completeAccess_load_eq hget hdeps helems hgot hclean hkind hform hheld hloc] at hexec
  generalize hb : ({ a with
    elems := [{ e with got := some (BitVec.ofNat 64 (leNat (Mem.read (s.core core).spad off e.size))) }] } : Access) = b at hexec
  have hvalue : b.scalarValue none = BitVec.ofNat 64 (leNat (Mem.read (s.core core).spad off e.size)) := by
    rw [← hb, Access.scalarValue, hform]
    rfl
  have hsame : b.ctx = a.ctx ∧ b.token = a.token ∧ b.dest = a.dest := by
    rw [← hb]
    exact ⟨rfl, rfl, rfl⟩
  obtain ⟨hc, htoken, hd⟩ := hsame
  obtain ⟨hy, hgone, hcores⟩ := finishAccess_keeps (s := s) (id := id) (b := b) (hd.trans hdest) (by rw [hc]; exact hctx)
  rw [hc, htoken, hvalue] at hy
  refine ⟨_, _, hexec, hy, SMap.get_set_self _ _ _ _, ?_, hgone, hcores⟩
  rw [Ctx.tokCount, Ctx.tokDown, SMap.get_modify_self]
  rfl

end load

/-! ### Atomics -/

section atomic
variable {k : AtomKind} {x old : W64} {pa : Nat} (hloc : e.loc = .global pa) (hhost : isHost pa = false)
  (hids : ∀ v ∈ s.writes, v.id < s.nextWrite) (hplaced : ∀ v ∈ s.writes, v.die = ctxDie a.ctx → v.place ≠ none)
  (hold : old = BitVec.ofNat 64 (leNat (Mem.read s.home pa e.size)))

include hids in
omit hget hdeps helems hgot hclean in
/-- A new write takes its place at once. -/
theorem placeWrite_new {u : State} {w : GWrite} (hu : u.writes = s.writes) (hw : w.id = s.nextWrite) (hplace : w.place = none) (hskip : w.skip = []) :
    (({ u with writes := u.writes ++ [w], nextWrite := u.nextWrite + 1 } : State).placeWrite w.id).home = Mem.write u.home w.addr w.data ∧
      (({ u with writes := u.writes ++ [w], nextWrite := u.nextWrite + 1 } : State).placeWrite w.id).nextPlace = u.nextPlace + 1 ∧
      (({ u with writes := u.writes ++ [w], nextWrite := u.nextWrite + 1 } : State).placeWrite w.id).dies = u.dies := by
  have hfind : ((u.writes ++ [w]).find? fun v => v.id == w.id) = some w := by
    rw [List.find?_append, List.find?_eq_none.mpr]
    · simp
    · intro v hv
      rw [hu] at hv
      have := hids v hv
      rw [beq_iff_eq, hw]
      omega
  unfold State.placeWrite
  simp only [hfind, hplace, Option.isSome_none, Bool.false_eq_true, if_false, hskip, writeParts, if_true, and_self]

include hget hdeps helems hgot hclean hloc hhost hids hplaced hold

theorem atomic_clause (hkind : a.kind = .atomic k x) :
    ∃ t, exec (.atomicAtHome id []) s = .next t ∧ t.home = Mem.write s.home pa (toBytes e.size (atomOp k e.size old e.data x).toNat) ∧
      t.nextPlace = s.nextPlace + 1 ∧ t.dies = s.dies ∧
      SMap.get none t.accesses id = some { a with elems := [{ e with got := some old, write := some s.nextWrite }] } := by
  have hcut : s.hostCut a = false := by
    rw [State.hostCut, helems]
    simp [State.hostQueued, hgot, hloc, hhost]
  have hpick : picked [] 0 = true := rfl
  have hhome : e.atHome = true := by
    rw [Elem.atHome, hloc]
  have hskips : pickSkips (fun i => picked [] i && ([e][i]?.any Elem.atHome)) [e] = false := by
    simp [pickSkips]
  have htouch := State.sameBehindCache_touchElem s true e
  have hexec : exec (.atomicAtHome id []) s = .next (s.atomicHome id []) := rfl
  unfold State.atomicHome at hexec
  simp only [hget, hkind, hdeps, helems, hskips, hclean, hcut, Option.isSome_none, Bool.not_true, Bool.or_self, Bool.false_eq_true, if_false,
    State.atomElems, hpick, List.getElem?_cons_zero, Option.any_some, hhome, hgot, Option.isNone_none, Bool.and_self, if_true, State.atomElem, hloc,
    hhost, settle_of_placed hplaced, ← hold] at hexec
  obtain ⟨hwrites, hnext, hplace, hmem, hdies⟩ : (s.touchElem true e).writes = s.writes ∧ (s.touchElem true e).nextWrite = s.nextWrite ∧
      (s.touchElem true e).nextPlace = s.nextPlace ∧ (s.touchElem true e).home = s.home ∧ (s.touchElem true e).dies = s.dies :=
    ⟨htouch.keeps State.writes fun _ _ _ _ _ => rfl, htouch.keeps State.nextWrite fun _ _ _ _ _ => rfl,
      htouch.keeps State.nextPlace fun _ _ _ _ _ => rfl, htouch.keeps State.home fun _ _ _ _ _ => rfl,
      htouch.keeps State.dies fun _ _ _ _ _ => rfl⟩
  obtain ⟨h1, h2, h3⟩ := placeWrite_new hids
    (w := ⟨(s.touchElem true e).nextWrite, ctxDie a.ctx, {}, pa, toBytes e.size (atomOp k e.size old e.data x).toNat, none, [], []⟩) hwrites hnext rfl rfl
  refine ⟨_, hexec, h1.trans (by rw [hmem]), h2.trans (by rw [hplace]), h3.trans hdies, ?_⟩
  rw [← hnext]
  exact (SMap.get_set_self _ _ _ _).trans (by rw [hkind, hloc])

end atomic

end access

/-! ### Posted writes -/

/-- The one posted write is accepted by the host (R100). -/
theorem hostDone_eq {s : State} {q : HostReq} (hreqs : s.hostReqs = [q]) (hup : (s.port hostPort).up = true) :
    s.hostDone q.id = ({ s with hostMem := Mem.write s.hostMem q.addr q.data, hostReqs := [] } : State).dropHostLines := by
  unfold State.hostDone
  simp [hreqs, hup]

/-- Settles O36, by what completes a load, an atomic and a posted write. -/
theorem pendingAccessesComplete : Obligations.PendingAccessesComplete := by
  intro s id a e hget hdeps helems hgot hclean
  refine ⟨?_, ?_, ?_⟩
  · intro x reg core off hkind hform hdest hheld hloc hctx
    exact load_clause hget hdeps helems hgot hclean hkind hform hdest hheld hloc hctx
  · intro k x old pa hkind hloc hhost hids hplaced hold
    exact atomic_clause hget hdeps helems hgot hclean hloc hhost hids hplaced hold hkind
  · intro q hreqs hup
    exact ⟨_, congrArg Host.Outcome.next (hostDone_eq hreqs hup), rfl, rfl⟩

end Sys2Proof.Machine

/-! ## Walks, timed waits and leases (R48, R282, R473) -/

namespace Sys2Proof.Machine

set_option Elab.async false

/-! ### Walks -/

theorem levelSize_pos (level : Nat) : 0 < levelSize level := by
  unfold levelSize
  split <;> decide

/-- The leaf that a walk finds translates the address (R279). -/
theorem holds_of_walkFrom {s : State} {d va lvl table : Nat} {e : TlbEntry} (h : s.walkFrom d va lvl table = .entry e) : e.holds va = true := by
  induction lvl generalizing table with
  | zero => cases h
  | succ lvl ih =>
    unfold State.walkFrom at h
    extract_lets level idx leaf addr size at h
    clear_value idx
    split at h
    · cases h
    · split at h
      · cases h
      · split at h
        · cases h
        · split at h
          · split at h
            · cases h
            · cases h
              have hsize : 0 < size := levelSize_pos level
              have hdiv := Nat.div_add_mod va size
              have hlt := Nat.mod_lt va hsize
              rw [Nat.mul_comm] at hdiv
              rw [TlbEntry.holds, Bool.and_eq_true, decide_eq_true_eq, decide_eq_true_eq]
              dsimp only
              omega
          · split at h
            · cases h
            · generalize (if level = 2 then 256 else 4096) = unit at h
              split at h
              · cases h
              · exact ih h

theorem holds_of_walk {s : State} {d va : Nat} {e : TlbEntry} (h : s.walk d va = .entry e) : e.holds va = true := by
  unfold State.walk at h
  split at h
  · cases h
  · exact holds_of_walkFrom h

theorem State.drawFor_eq (s : State) (cap : Nat) (l : List TlbEntry) (e : TlbEntry) : ∃ n, (s.drawFor cap l e).2 = { s with freeCtr := n } := by
  unfold State.drawFor
  split
  · exact ⟨s.freeCtr, rfl⟩
  · exact ⟨_, rfl⟩

theorem mem_useEntry (cap r : Nat) (l : List TlbEntry) (e : TlbEntry) : e ∈ useEntry cap r l e := List.mem_cons_self

/-- A new entry goes in front of a buffer that has room. -/
theorem useEntry_of_room {cap r : Nat} {l : List TlbEntry} {e : TlbEntry} (hnew : e ∉ l) (hroom : l.length < cap) : useEntry cap r l e = e :: l := by
  have hrest : (l.filter fun f => f != e) = l :=
    List.filter_eq_self.mpr fun f hf => bne_iff_ne.mpr fun h => hnew (h ▸ hf)
  rw [useEntry, hrest, if_pos hroom]

/-- An entry in the shared buffer of a die: the clusters, the contexts and the memories stay. -/
theorem State.useShared_keeps (s : State) (d : Nat) (e : TlbEntry) :
    e ∈ ((s.useShared d e).die d).tlb ∧ (s.useShared d e).clusters = s.clusters ∧ (s.useShared d e).home = s.home ∧
      (s.useShared d e).ctxs = s.ctxs := by
  obtain ⟨n, hn⟩ := State.drawFor_eq s sharedWays ((s.die d).tlb.filter fun f => tlbSet f == tlbSet e) e
  unfold State.useShared
  dsimp only
  rw [hn]
  refine ⟨?_, rfl, rfl, rfl⟩
  rw [State.die_modDie_self]
  exact List.mem_append_left _ (mem_useEntry _ _ _ e)

/-- An entry in the buffer of a cluster. -/
theorem State.useCluster_keeps (s : State) (cl : Nat) (e : TlbEntry) :
    e ∈ ((s.useCluster cl e).cluster cl).tlb ∧ (s.useCluster cl e).dies = s.dies ∧ (s.useCluster cl e).home = s.home ∧
      (s.useCluster cl e).ctxs = s.ctxs ∧
      (e ∉ (s.cluster cl).tlb → (s.cluster cl).tlb.length < tlbSize → ((s.useCluster cl e).cluster cl).tlb = e :: (s.cluster cl).tlb) := by
  obtain ⟨n, hn⟩ := State.drawFor_eq s tlbSize (s.cluster cl).tlb e
  unfold State.useCluster
  dsimp only
  rw [hn, State.cluster_modCluster_self]
  exact ⟨mem_useEntry _ _ _ e, rfl, rfl, rfl, fun hnew hroom => useEntry_of_room hnew hroom⟩

theorem walk_clause {s : State} {cl page : Nat} {e : TlbEntry} (hcl : cl < 288) (hown : ∀ g ∈ (s.cluster cl).tlb, g.holds (page * 65536) = false)
    (hshared : ∀ g ∈ (s.die (clusterDie cl)).tlb, g.holds (page * 65536) = false) (hwalk : s.walk (clusterDie cl) (page * 65536) = .entry e) :
    ∃ t, exec (.tlbWalkComplete cl page) s = .next t ∧ e ∈ (t.cluster cl).tlb ∧ e ∈ (t.die (clusterDie cl)).tlb ∧ t.home = s.home ∧
      t.ctxs = s.ctxs ∧ ((s.cluster cl).tlb.length < 512 → (t.cluster cl).tlb = e :: (s.cluster cl).tlb) := by
  have hmiss {l : List TlbEntry} (h : ∀ g ∈ l, g.holds (page * 65536) = false) : (l.find? fun g => g.holds (page * 65536)) = none :=
    List.find?_eq_none.mpr fun g hg => Bool.eq_false_iff.mp (h g hg)
  have hfill : s.fillTlb cl (page * 65536) = (s.useShared (clusterDie cl) e).useCluster cl e := by
    unfold State.fillTlb State.dieLookup
    simp only [hmiss hown, hmiss hshared, hwalk]
  obtain ⟨hmem, hclusters, hhome, hctxs⟩ := State.useShared_keeps s (clusterDie cl) e
  generalize s.useShared (clusterDie cl) e = u at hfill hmem hclusters hhome hctxs
  have hsame : u.cluster cl = s.cluster cl := by
    rw [State.cluster, hclusters]
    rfl
  obtain ⟨hmem', hdies, hhome', hctxs', hroom⟩ := State.useCluster_keeps u cl e
  refine ⟨_, congrArg Host.Outcome.next ((if_pos hcl).trans hfill), hmem', ?_, hhome'.trans hhome, hctxs'.trans hctxs, fun hlt => ?_⟩
  · rw [State.die, hdies]
    exact hmem
  · rw [hsame] at hroom
    refine hroom (fun hold => ?_) hlt
    exact Bool.false_ne_true ((hown e hold).symm.trans (holds_of_walk hwalk))

/-! ### Leases -/

/-- The keys of a table in canonical form lie above its bound. -/
theorem SMap.lt_of_mem_wfFrom {α : Type} [DecidableEq α] {d : α} {m : SMap α} {lo : Nat} (h : SMap.wfFrom d (some lo) m = true) {kv : Nat × α}
    (hkv : kv ∈ m) : lo < kv.1 := by
  induction m generalizing lo with
  | nil => cases hkv
  | cons q m ih =>
    rw [SMap.wfFrom] at h
    simp only [Bool.and_eq_true, decide_eq_true_eq] at h
    obtain ⟨⟨hlt, -⟩, hrest⟩ := h
    obtain rfl | htail := List.mem_cons.mp hkv
    · exact hlt
    · exact Nat.lt_trans hlt (ih hrest htail)

section unpin
variable (p : Nat → Bool)

/-- The lines of a cache with the pins of some lines taken away, one after another. -/
def unpinAll (m : SMap LlcLine) (l : SMap LlcLine) : SMap LlcLine :=
  l.foldl (fun (m : SMap LlcLine) kv => if kv.2.pinned && p kv.1 then SMap.set {} m kv.1 { kv.2 with pinned := false } else m) m

theorem get_unpinAll_of_not_mem {m l : SMap LlcLine} {k : Nat} (h : ∀ kv ∈ l, kv.1 ≠ k) : SMap.get {} (unpinAll p m l) k = SMap.get {} m k := by
  induction l generalizing m with
  | nil => rfl
  | cons kv l ih =>
    refine (ih fun q hq => h q (List.mem_cons_of_mem kv hq)).trans ?_
    dsimp only
    split
    · exact SMap.get_set_ne _ _ _ _ _ (h kv List.mem_cons_self).symm
    · rfl

/-- Of a table in canonical form every line that is pinned and named loses its pin. -/
theorem get_unpinAll {m l : SMap LlcLine} {lo : Option Nat} (h : SMap.wfFrom {} lo l = true) (k : Nat) : SMap.get {} (unpinAll p m l) k =
    if (SMap.get {} l k).pinned && p k then { SMap.get {} l k with pinned := false } else SMap.get {} m k := by
  induction l generalizing m lo with
  | nil => rfl
  | cons kv l ih =>
    have hrest : SMap.wfFrom {} (some kv.1) l = true := by
      unfold SMap.wfFrom at h
      exact (Bool.and_eq_true_iff.mp h).2
    by_cases hk : k = kv.1
    · subst hk
      have hhead : SMap.get {} (kv :: l) kv.1 = kv.2 := if_pos rfl
      rw [hhead]
      refine (get_unpinAll_of_not_mem p fun q hq => Nat.ne_of_gt (SMap.lt_of_mem_wfFrom hrest hq)).trans ?_
      dsimp only
      split
      · exact SMap.get_set_self _ _ _ _
      · rfl
    · have hlow : k < kv.1 → SMap.get {} l k = {} := fun hlt =>
        SMap.get_of_startsAbove {} l kv.1 k (SMap.startsAbove_of_wfFrom {} l kv.1 hrest) (Nat.le_of_lt hlt)
      have htail : SMap.get {} (kv :: l) k = SMap.get {} l k := by
        rw [SMap.get, if_neg hk]
        split
        · next hlt => exact (hlow hlt).symm
        · rfl
      rw [htail]
      refine (ih hrest).trans (ite_congr rfl (fun _ => rfl) fun _ => ?_)
      dsimp only
      split
      · exact SMap.get_set_ne _ _ _ _ _ hk
      · rfl

end unpin

theorem lease_clause {s : State} {n : Nat} {l : Lease} (hl : l = SMap.get {} s.leases n) (hstate : l.state = .active) (hdead : l.ldead ≠ 0#64)
    (hnow : s.timeReached l.ldead.toNat = true) :
    ∃ t, exec (.leaseExpiry n) s = .next t ∧ SMap.get {} t.leases n = { l with state := .expired } ∧
      (∀ k, k ≠ n → SMap.get {} t.leases k = SMap.get {} s.leases k) ∧
      (SMap.wf {} s.llc = true →
        ∀ k, t.line k = if (s.line k).pinned = true ∧ inPages l.pages (k / 32) = true then { s.line k with pinned := false } else s.line k) := by
  subst hl
  refine ⟨_, congrArg Host.Outcome.next (if_pos ⟨hstate, hdead, hnow⟩), SMap.get_set_self _ _ _ _, fun k hk => SMap.get_set_ne _ _ _ _ _ hk,
    fun hwf k => ?_⟩
  refine (get_unpinAll (fun k => inPages (SMap.get {} s.leases n).pages (k / 32)) (m := s.llc) hwf k).trans ?_
  exact ite_of_iff Bool.and_eq_true_iff _ _

/-- Settles O37, by the leaf that a walk finds, the context that is put back, and the lines that a lease pinned. -/
theorem walksWaitsAndLeases : Obligations.WalksWaitsAndLeases := by
  intro s
  refine ⟨fun cl page e hcl hown hshared hwalk => walk_clause hcl hown hshared hwalk, ?_,
    fun n l hl hstate hdead hnow => lease_clause hl hstate hdead hnow⟩
  intro c n x hctx hrun hnow
  have hexec : exec (.twaitExpiry c) s = .next (s.insertReady c) := by
    refine congrArg Host.Outcome.next ?_
    rw [hctx]
    dsimp only
    rw [hrun]
    exact if_pos hnow
  refine ⟨_, hexec, ⟨?_, fun d hd => State.ctx_modCtx_ne s c d _ hd⟩, ?_, rfl⟩
  · have hmod := State.modCtx_eq s c fun x => { x with run := .ready, age := s.nextAge }
    unfold State.insertReady
    generalize s.modCtx c (fun x => { x with run := .ready, age := s.nextAge }) = u at hmod ⊢
    rw [hmod]
  · refine (State.ctx_modCtx_self s c _).trans ?_
    rw [hctx]
    rfl

end Sys2Proof.Machine

/-! ## Gauge events (R66, R70) -/

namespace Sys2Proof.Machine

set_option Elab.async false

/-- A record's last replica is to be written while something else waits for no write any more. -/
def settlingState : State :=
  { ctxs := [(0, some { k := [(0, { count := 1 })] })]
    recReqs := [{ id := 0, handle := 0, image := [], done := [1, 2, 3], reply := (0, 1, 0) }]
    writeWaits := [{ ids := [], reply := some (0, 0, 0, 0#64) }] }

/-- What the contexts show of their tokens. -/
def State.tokenZero (s : State) : Option Nat := (s.ctx 0).map fun x => x.tokCount 0

theorem tokenZero_settlingState : settlingState.tokenZero = some 1 := by decide

theorem tokenZero_writeReplica : (settlingState.writeReplica 0 0).tokenZero = some 0 := by decide

/-- Refutes O38: the last replica of a record settles every wait whose writes have been applied at all dies, and so it clears the token of another
operation that is ready, where the statement leaves every context as it was. -/
theorem not_gaugeEvents : ¬ Obligations.GaugeEvents := by
  intro h
  obtain ⟨-, -, hrecord, -⟩ := h settlingState fun w hw => nomatch hw
  obtain ⟨t, hexec, -, -, hctxs, -⟩ := hrecord { id := 0, handle := 0, image := [], done := [1, 2, 3], reply := (0, 1, 0) } 0 rfl (by decide) (by decide)
  have ht : settlingState.writeReplica 0 0 = t := Host.Outcome.next.inj hexec
  have hsame : t.tokenZero = settlingState.tokenZero := by
    rw [State.tokenZero, State.ctx, hctxs]
    rfl
  rw [← ht, tokenZero_writeReplica, tokenZero_settlingState] at hsame
  exact absurd hsame (by decide)

end Sys2Proof.Machine

/-! ## Ports and the timebase (R80, R81, R92, R93) -/

namespace Sys2Proof.Machine

set_option Elab.async false

/-! ### Tables of ends -/

/-- What a key reads as, unless it is the value of an unlisted key, is listed there. -/
theorem SMap.mem_of_get_ne {α : Type} {d : α} {m : SMap α} {n : Nat} (h : SMap.get d m n ≠ d) : (n, SMap.get d m n) ∈ m := by
  induction m with
  | nil => exact absurd rfl h
  | cons kv m ih =>
    obtain ⟨k, v⟩ := kv
    rw [SMap.get] at h ⊢
    split
    · next hk =>
      subst hk
      exact List.mem_cons_self
    · next hk =>
      rw [if_neg hk] at h
      split
      · next hlt => exact absurd (if_pos hlt) h
      · next hlt =>
        rw [if_neg hlt] at h
        exact List.mem_cons_of_mem _ (ih h)

/-- A pair of a table in canonical form is what its key reads as. -/
theorem SMap.get_of_mem {α : Type} [DecidableEq α] {d : α} {m : SMap α} {lo : Option Nat} (hwf : SMap.wfFrom d lo m = true) {kv : Nat × α}
    (h : kv ∈ m) : SMap.get d m kv.1 = kv.2 := by
  induction m generalizing lo with
  | nil => cases h
  | cons q m ih =>
    have hrest : SMap.wfFrom d (some q.1) m = true := by
      unfold SMap.wfFrom at hwf
      exact (Bool.and_eq_true_iff.mp hwf).2
    obtain rfl | htail := List.mem_cons.mp h
    · exact if_pos rfl
    · have hlt := SMap.lt_of_mem_wfFrom hrest htail
      rw [SMap.get, if_neg (Nat.ne_of_gt hlt), if_neg (Nat.not_lt.mpr (Nat.le_of_lt hlt))]
      exact ih hrest htail

/-! ### Ports -/

@[simp] theorem State.port_modPort_self (s : State) (p : Nat) (f : Port → Port) : (s.modPort p f).port p = f (s.port p) :=
  SMap.get_modify_self _ _ _ _

@[simp] theorem State.port_modPort_ne (s : State) {p q : Nat} (f : Port → Port) (h : q ≠ p) : (s.modPort p f).port q = s.port q :=
  SMap.get_modify_ne _ _ _ _ _ h

/-- A message to a host whose port is up leaves at once. -/
theorem State.msix_of_up {s : State} (v : Nat) (h : (s.port hostPort).up = true) : s.msix v = s.send (.msix v) := if_pos h

/-- A message to a host whose port is down waits in its queue. -/
theorem State.msix_of_down {s : State} (v : Nat) (h : (s.port hostPort).up = false) :
    s.msix v = s.modPort hostPort fun x => { x with queue := x.queue ++ [.msix v] } := if_neg (Bool.eq_false_iff.mp h)

/-- A message changes no port but the host's. -/
theorem State.port_msix_ne (s : State) (v : Nat) {p : Nat} (h : p ≠ hostPort) : (s.msix v).port p = s.port p := by
  unfold State.msix State.sendHost
  split
  · rfl
  · exact State.port_modPort_ne s _ h

theorem State.port_msix_of_down {s : State} (v : Nat) (h : (s.port hostPort).up = false) :
    (s.msix v).port hostPort = { s.port hostPort with queue := (s.port hostPort).queue ++ [.msix v] } := by
  rw [State.msix_of_down v h, State.port_modPort_self]

theorem State.ports_msix (s : State) (v : Nat) : (s.msix v).ports =
    if (s.port hostPort).up then s.ports else SMap.modify {} s.ports hostPort fun x => { x with queue := x.queue ++ [.msix v] } := by
  unfold State.msix State.sendHost
  split <;> rfl

theorem State.ports_msix_congr {s u : State} (h : u.ports = s.ports) (v : Nat) : (u.msix v).ports = (s.msix v).ports := by
  rw [State.ports_msix, State.ports_msix, State.port, State.port, h]

/-- A log entry changes the ports only by its message. -/
theorem State.port_addLog (s : State) (kind source code addr p : Nat) : (s.addLog kind source code addr).port p = (s.msix 3).port p := by
  unfold State.addLog
  dsimp only
  generalize List.drop _ _ = l
  exact congrArg (fun ps : SMap Port => SMap.get {} ps p)
    (State.ports_msix_congr (u := { s with log := l, logCount := s.logCount + 1 }) (s := s) rfl 3)

theorem State.msix_log (s : State) (v : Nat) : (s.msix v).log = s.log ∧ (s.msix v).logCount = s.logCount ∧ (s.msix v).time = s.time :=
  have h := State.sameModule_msix s v
  ⟨h.keeps State.log fun _ _ _ _ _ => rfl, h.keeps State.logCount fun _ _ _ _ _ => rfl, h.keeps State.time fun _ _ _ _ _ => rfl⟩

theorem State.mem_out_msix {s : State} {o : Out} (v : Nat) (h : o ∈ s.out) : o ∈ (s.msix v).out := by
  unfold State.msix State.sendHost
  split
  · exact List.mem_append_left _ h
  · exact h

/-- A log entry: its kind, code and time, and one more entry. -/
theorem State.addLog_log (s : State) (kind source code addr : Nat) : (s.addLog kind source code addr).logCount = s.logCount + 1 ∧
    ∃ e ∈ (s.addLog kind source code addr).log, e.kind = BitVec.ofNat 16 kind ∧ e.code = BitVec.ofNat 32 code ∧ e.time = BitVec.ofNat 64 s.time := by
  unfold State.addLog
  dsimp only
  generalize he : (⟨BitVec.ofNat 64 s.time, BitVec.ofNat 16 kind, BitVec.ofNat 16 source, BitVec.ofNat 32 code, BitVec.ofNat 64 addr⟩ : LogEntry) = e
  obtain ⟨hlog, hcount, -⟩ := State.msix_log
    ({ s with log := (s.log ++ [e]).drop (s.log.length + 1 - 1024), logCount := s.logCount + 1 } : State) 3
  rw [hlog, hcount]
  refine ⟨rfl, e, ?_, ?_⟩
  · rw [List.drop_append_of_le_length (by omega)]
    exact List.mem_append_right _ List.mem_cons_self
  · rw [← he]
    exact ⟨rfl, rfl, rfl⟩

section down
variable {s : State} {p : Nat} (hp : p ≤ 8) (hup : (s.port p).up = true)
include hp hup

theorem portGoesDown_eq : ∃ source, s.portGoesDown p =
    ((s.modPort p fun x => { x with up := false }).msix 4).addLog 4 source p 0 :=
  ⟨_, if_neg (by simp [hp, hup])⟩

theorem portDown_clause : ∃ t, exec (.portDown p) s = .next t ∧ (t.port p).up = false ∧
    (p ≠ hostPort → (t.port p).queue = (s.port p).queue ∧ ((s.port hostPort).up = true → Out.msix 4 ∈ t.out)) ∧
    (p = hostPort → (t.port p).queue = (s.port p).queue ++ [.msix 4, .msix 3]) ∧
    t.logCount = s.logCount + 1 ∧ ∃ e ∈ t.log, e.kind = 4#16 ∧ e.code = BitVec.ofNat 32 p ∧ e.time = BitVec.ofNat 64 s.time := by
  obtain ⟨source, heq⟩ := portGoesDown_eq hp hup
  obtain ⟨hcount, hentry⟩ := State.addLog_log ((s.modPort p fun x => { x with up := false }).msix 4) 4 source p 0
  obtain ⟨-, hbefore, htime⟩ := State.msix_log (s.modPort p fun x => { x with up := false }) 4
  rw [htime] at hentry
  refine ⟨_, congrArg Host.Outcome.next heq, ?_⟩
  rw [hcount, hbefore]
  have hself : ((s.modPort p fun x => { x with up := false }).port p) = { s.port p with up := false } := State.port_modPort_self _ _ _
  by_cases hhost : p = hostPort
  · subst hhost
    have hdown : ((s.modPort hostPort fun x => { x with up := false }).port hostPort).up = false := by rw [hself]
    have hfirst := State.port_msix_of_down 4 hdown
    have hport := State.port_addLog ((s.modPort hostPort fun x => { x with up := false }).msix 4) 4 source hostPort 0 hostPort
    rw [State.port_msix_of_down 3 (by rw [hfirst]; exact hdown), hfirst, hself, List.append_assoc] at hport
    rw [hport]
    exact ⟨rfl, fun h => absurd rfl h, fun _ => rfl, rfl, hentry⟩
  · have hport : (((s.modPort p fun x => { x with up := false }).msix 4).addLog 4 source p 0).port p = { s.port p with up := false } := by
      rw [State.port_addLog, State.port_msix_ne _ _ hhost]
      exact (State.port_msix_ne _ _ hhost).trans hself
    rw [hport]
    refine ⟨rfl, fun _ => ⟨rfl, fun hhostUp => ?_⟩, fun h => absurd h hhost, rfl, hentry⟩
    have hstill : ((s.modPort p fun x => { x with up := false }).port hostPort).up = true := by
      rw [State.port_modPort_ne _ _ (Ne.symm hhost)]
      exact hhostUp
    rw [State.addLog]
    refine State.mem_out_msix 3 ?_
    rw [State.msix_of_up 4 hstill]
    exact List.mem_append_right _ List.mem_cons_self

end down

/-- The configurations that a port sends again as it comes up (R82). -/
def State.portConfigs (s : State) (p : Nat) : List Out :=
  if p < 6 then s.chans.filterMap fun kv => if chanPort kv.1 = p ∧ kv.2.state ≠ .idle then some (kv.2.config kv.1) else none else []

theorem State.weirsSoon_eq (s : State) : ∃ a, s.weirsSoon = { s with agenda := a } := by
  have hfold : ∀ (l : List Nat) (d : Nat) (u : State), ∃ a, l.foldl (fun s n => s.evalSoon d n) u = { u with agenda := a } := by
    intro l d
    induction l with
    | nil => exact fun u => ⟨u.agenda, rfl⟩
    | cons n l ih =>
      intro u
      obtain ⟨a, ha⟩ := ih (u.evalSoon d n)
      unfold State.evalSoon at ha ⊢
      rw [List.foldl_cons, ha]
      split
      · exact ⟨a, rfl⟩
      · exact ⟨a, rfl⟩
  have hall : ∀ (l : List Nat) (u : State), ∃ a, l.foldl State.weirSoon u = { u with agenda := a } := by
    intro l
    induction l with
    | nil => exact fun u => ⟨u.agenda, rfl⟩
    | cons d l ih =>
      intro u
      obtain ⟨b, hb⟩ := hfold [7, 6, 5, 4, 3, 2, 1, 0] d u
      obtain ⟨a, ha⟩ := ih (u.weirSoon d)
      rw [List.foldl_cons, ha, State.weirSoon, hb]
      exact ⟨a, rfl⟩
  exact hall [3, 2, 1, 0] s

section up
variable {s : State} {p : Nat} (hp : p ≤ 8) (hdown : (s.port p).up = false)
  (hmay : p = hostPort ∨ s.thermal.state ≠ .hold ∧ (s.port hostPort).up = true)
include hp hdown hmay

theorem portComesUp_eq : ∃ u : State, s.portComesUp p = { u with
      out := u.out ++ s.portConfigs p ++ (s.port p).queue.map (Out.stamped s.time) } ∧
    u.out = s.out ++ [.msix 4] ∧ u.chans = s.chans ∧ u.port p = { s.port p with up := true, queue := [] } := by
  have hgo : ¬ (8 < p ∨ (s.port p).up = true ∨ s.gatedOff = true ∧ p < 8) := by
    rintro (h | h | ⟨hoff, hlt⟩)
    · omega
    · exact Bool.false_ne_true (hdown.symm.trans h)
    · obtain rfl | ⟨hhold, -⟩ := hmay
      · exact absurd hlt (by decide)
      · rw [State.gatedOff, beq_iff_eq] at hoff
        exact hhold hoff
  have hself : ((s.modPort p fun x => { x with up := true, queue := [] }).port p) = { s.port p with up := true, queue := [] } :=
    State.port_modPort_self _ _ _
  have hhost : ((s.modPort p fun x => { x with up := true, queue := [] }).port hostPort).up = true := by
    by_cases h : p = hostPort
    · rw [← h, hself]
    · rw [State.port_modPort_ne _ _ (Ne.symm h)]
      exact (hmay.resolve_left h).2
  unfold State.portComesUp
  rw [if_neg hgo, State.msix_of_up 4 hhost]
  dsimp only
  split
  · obtain ⟨a, ha⟩ := State.weirsSoon_eq ((s.modPort p fun x => { x with up := true, queue := [] }).send (.msix 4))
    rw [ha]
    exact ⟨_, rfl, rfl, rfl, hself⟩
  · generalize List.isEmpty _ = b
    cases b
    · exact ⟨((s.modPort p fun x => { x with up := true, queue := [] }).send (.msix 4)).linkNow, rfl, rfl, rfl, hself⟩
    · exact ⟨(s.modPort p fun x => { x with up := true, queue := [] }).send (.msix 4), rfl, rfl, rfl, hself⟩

theorem portUp_clause : ∃ t, exec (.portUp p) s = .next t ∧ (t.port p).up = true ∧ (t.port p).queue = [] ∧ t.chans = s.chans ∧
    ∃ cfg, t.out = s.out ++ [.msix 4] ++ cfg ++ (s.port p).queue.map (Out.stamped s.time) ∧
      (∀ n, n < 1536 → chanPort n = p → (s.chan n).state ≠ .idle →
        Out.config n ((s.chan n).nparc.zeroExtend 12) (s.chan n).psize (BitVec.ofNat 3 (s.chan n).state.code) ∈ cfg) ∧
      (SMap.wf {} s.chans = true → ∀ o ∈ cfg, ∃ n, chanPort n = p ∧ (s.chan n).state ≠ .idle ∧
        o = .config n ((s.chan n).nparc.zeroExtend 12) (s.chan n).psize (BitVec.ofNat 3 (s.chan n).state.code)) := by
  obtain ⟨u, heq, hout, hchans, hport⟩ := portComesUp_eq hp hdown hmay
  have hup : ({ u with out := u.out ++ s.portConfigs p ++ (s.port p).queue.map (Out.stamped s.time) } : State).port p =
      { s.port p with up := true, queue := [] } := hport
  refine ⟨_, congrArg Host.Outcome.next heq, ?_⟩
  rw [hup]
  refine ⟨rfl, rfl, hchans, s.portConfigs p, ?_, ?_, ?_⟩
  · dsimp only
    rw [hout]
  · intro n hn hchan hon
    have hlow : p < 6 := by
      rw [← hchan, chanPort]
      omega
    rw [State.portConfigs, if_pos hlow, List.mem_filterMap]
    have hne : SMap.get {} s.chans n ≠ {} := fun h => hon (congrArg Chan.state h)
    exact ⟨_, SMap.mem_of_get_ne hne, if_pos ⟨hchan, hon⟩⟩
  · intro hwf o ho
    rw [State.portConfigs] at ho
    split at ho
    · obtain ⟨kv, hkv, hsome⟩ := List.mem_filterMap.mp ho
      split at hsome
      · next hon =>
        have hget : s.chan kv.1 = kv.2 := SMap.get_of_mem hwf hkv
        rw [← hget] at hon hsome
        exact ⟨kv.1, hon.1, hon.2, (Option.some.inj hsome).symm⟩
      · cases hsome
    · cases ho

end up

/-! ### The timebase -/

/-- The ports that time flits are sent on, from a list. -/
theorem foldl_sendTime (l : List Nat) (s : State) :
    (l.foldl (fun (s : State) p => if (s.port p).up then s.linkNow.send (.time p s.ticks) else s) s).time = s.time ∧
      ∀ q ∈ l, (s.port q).up = true →
        Out.time q s.ticks ∈ (l.foldl (fun (s : State) p => if (s.port p).up then s.linkNow.send (.time p s.ticks) else s) s).out := by
  have hkeep : ∀ (l : List Nat) (s : State), ∀ o ∈ s.out,
      o ∈ (l.foldl (fun (s : State) p => if (s.port p).up then s.linkNow.send (.time p s.ticks) else s) s).out := by
    intro l
    induction l with
    | nil => exact fun s o h => h
    | cons p l ih =>
      intro s o h
      refine ih _ o ?_
      dsimp only
      split
      · exact List.mem_append_left _ h
      · exact h
  induction l generalizing s with
  | nil => exact ⟨rfl, fun q hq => nomatch hq⟩
  | cons p l ih =>
    by_cases hup : (s.port p).up = true
    · obtain ⟨htime, hmem⟩ := ih (s.linkNow.send (.time p s.ticks))
      rw [List.foldl_cons, if_pos hup]
      refine ⟨htime, fun q hq hq' => ?_⟩
      obtain rfl | htail := List.mem_cons.mp hq
      · exact hkeep l _ _ (List.mem_append_right _ List.mem_cons_self)
      · exact hmem q htail hq'
    · obtain ⟨htime, hmem⟩ := ih s
      rw [List.foldl_cons, if_neg hup]
      refine ⟨htime, fun q hq hq' => ?_⟩
      obtain rfl | htail := List.mem_cons.mp hq
      · exact absurd hq' hup
      · exact hmem q htail hq'

theorem State.setLocked_keeps (s : State) (b : Bool) : (s.setLocked b).time = s.time ∧ (s.setLocked b).tbctl = { s.tbctl with locked := b } := by
  unfold State.setLocked
  dsimp only
  split
  · have h := State.sameModule_msix ({ s with tbctl := { s.tbctl with locked := b } } : State) 5
    exact ⟨h.keeps State.time fun _ _ _ _ _ => rfl, h.keeps State.tbctl fun _ _ _ _ _ => rfl⟩
  · exact ⟨rfl, rfl⟩

/-- The next tick after a repeat leaves the time as it is (R93). -/
theorem State.tick_again {s : State} (h : s.tbctl.again = true) : (s.tick 1).time = s.time := by
  have hdue (u : State) : u.applyDue.time = u.time := by
    obtain ⟨th, hth⟩ := State.applyDue_eq u
    rw [hth]
  unfold State.tick
  rw [if_neg Nat.one_ne_zero, h]
  exact hdue _

section receive
variable {s : State} {p v w : Nat} (hw : w = s.time - s.ticks + v + Config.linkDelay p) (hrole : s.tbctl.role = 2#2) (hp : p < 6)
  (hfrom : s.tbctl.upport.toNat = p) (hup : (s.port p).up = true)
include hw hrole hp hfrom hup

theorem recvTime_eq : s.linkNow.recvTime p v =
    if !s.tbctl.stepped then
      ({ s.linkNow with
        time := if s.sess.state == .none || s.sess.state == .loaded then w else max s.time w
        tbctl := { s.tbctl with
          stepped := true, slewed := if s.sess.state == .none || s.sess.state == .loaded then w else max s.time w } } : State).setLocked
        (decide (w ≤ s.time + 2) && decide (s.time ≤ w + 2))
    else if s.time < s.tbctl.slewed + 1024 ∨ w = s.time then s.linkNow.setLocked (decide (w ≤ s.time + 2) && decide (s.time ≤ w + 2))
    else if s.time < w then
      ({ s.linkNow with time := s.time + 1, tbctl := { s.tbctl with slewed := s.time } } : State).setLocked
        (decide (w ≤ s.time + 2) && decide (s.time ≤ w + 2))
    else ({ s.linkNow with tbctl := { s.tbctl with slewed := s.time, again := true } } : State).setLocked
      (decide (w ≤ s.time + 2) && decide (s.time ≤ w + 2)) := by
  subst hw
  have hgo : ¬ (s.linkNow.tbctl.role ≠ 2#2 ∨ 6 ≤ p ∨ s.linkNow.tbctl.upport.toNat ≠ p ∨ (!(s.linkNow.port p).up) = true) := by
    rintro (h | h | h | h)
    · exact h hrole
    · omega
    · exact h hfrom
    · have hup' : (s.linkNow.port p).up = true := hup
      rw [hup'] at h
      cases h
  unfold State.recvTime
  rw [if_neg hgo]
  rfl

theorem receive_clause : ∃ t, exec (.timeFlitReceive p v) s = .next t ∧ (t.tbctl.locked = true ↔ w ≤ s.time + 2 ∧ s.time ≤ w + 2) ∧
    (s.tbctl.stepped = false → t.tbctl.stepped = true ∧
      t.time = if s.sess.state = .none ∨ s.sess.state = .loaded then w else max s.time w) ∧
    (s.tbctl.stepped = true → s.tbctl.slewed + 1024 ≤ s.time →
      (s.time < w → t.time = s.time + 1) ∧ (w < s.time → t.time = s.time ∧ t.tbctl.again = true ∧ (t.tick 1).time = s.time)) := by
  have hexec : exec (.timeFlitReceive p v) s = .next (s.linkNow.recvTime p v) := rfl
  rw [recvTime_eq hw hrole hp hfrom hup] at hexec
  have hnear : (decide (w ≤ s.time + 2) && decide (s.time ≤ w + 2)) = true ↔ w ≤ s.time + 2 ∧ s.time ≤ w + 2 := by
    rw [Bool.and_eq_true, decide_eq_true_eq, decide_eq_true_eq]
  generalize (decide (w ≤ s.time + 2) && decide (s.time ≤ w + 2)) = near at hexec hnear
  refine ⟨_, hexec, ?_⟩
  cases hstep : s.tbctl.stepped with
  | false =>
    obtain ⟨htime, htb⟩ := State.setLocked_keeps ({ s.linkNow with
        time := if s.sess.state == .none || s.sess.state == .loaded then w else max s.time w
        tbctl := { s.tbctl with
          stepped := true, slewed := if s.sess.state == .none || s.sess.state == .loaded then w else max s.time w } } : State) near
    rw [if_pos (by rfl), htime, htb]
    refine ⟨hnear, fun _ => ⟨rfl, ite_of_iff ?_ _ _⟩, fun h => absurd h (by decide)⟩
    rw [Bool.or_eq_true, beq_iff_eq, beq_iff_eq]
  | true =>
    rw [if_neg (by decide)]
    by_cases hsoon : s.time < s.tbctl.slewed + 1024 ∨ w = s.time
    · obtain ⟨htime, htb⟩ := State.setLocked_keeps s.linkNow near
      rw [if_pos hsoon, htb]
      refine ⟨hnear, fun h => absurd h (by decide), fun _ hlate => ?_⟩
      have heq : w = s.time := hsoon.resolve_left (Nat.not_lt.mpr hlate)
      exact ⟨fun h => absurd heq (Nat.ne_of_gt h), fun h => absurd heq (Nat.ne_of_lt h)⟩
    · rw [if_neg hsoon]
      by_cases hahead : s.time < w
      · obtain ⟨htime, htb⟩ := State.setLocked_keeps ({ s.linkNow with time := s.time + 1, tbctl := { s.tbctl with slewed := s.time } } : State) near
        rw [if_pos hahead, htime, htb]
        exact ⟨hnear, fun h => absurd h (by decide), fun _ _ => ⟨fun _ => rfl, fun h => absurd h (Nat.not_lt.mpr (Nat.le_of_lt hahead))⟩⟩
      · obtain ⟨htime, htb⟩ := State.setLocked_keeps ({ s.linkNow with tbctl := { s.tbctl with slewed := s.time, again := true } } : State) near
        rw [if_neg hahead]
        have hagain := State.tick_again (s := State.setLocked
          ({ s.linkNow with tbctl := { s.tbctl with slewed := s.time, again := true } } : State) near) (by rw [htb])
        rw [hagain, htime, htb]
        exact ⟨hnear, fun h => absurd h (by decide), fun _ _ => ⟨fun h => absurd h hahead, fun _ => ⟨rfl, rfl, rfl⟩⟩⟩

end receive

/-- Settles O39, by the messages and the log entry of a port, the configurations it sends again, and the step or slew of a follower. -/
theorem portsAndTimebase : Obligations.PortsAndTimebase := by
  intro s p
  refine ⟨portDown_clause, portUp_clause, fun hrole hdue => ?_, fun v w hw hrole hp hfrom hup => receive_clause hw hrole hp hfrom hup⟩
  refine ⟨_, congrArg Host.Outcome.next (if_pos ⟨hrole, hdue⟩), ?_⟩
  obtain ⟨htime, hmem⟩ := foldl_sendTime (List.range 6) s
  exact ⟨htime, fun q hq hup => hmem q (List.mem_range.mpr hq) hup⟩

end Sys2Proof.Machine

/-! ## Channel ends (R82 to R85) -/

namespace Sys2Proof.Machine

set_option Elab.async false

/-! ### What answers leave unchanged (R437, R453) -/

/-- Only the contexts, the dies and the age of the youngest context change. -/
def State.SameOutside (s t : State) : Prop := ∃ c d n, t = { s with ctxs := c, dies := d, nextAge := n }

theorem State.SameOutside.refl (s : State) : s.SameOutside s := ⟨s.ctxs, s.dies, s.nextAge, rfl⟩

theorem State.SameOutside.trans {s t u : State} (h : s.SameOutside t) (h' : t.SameOutside u) : s.SameOutside u := by
  obtain ⟨c, d, n, rfl⟩ := h
  obtain ⟨c', d', n', rfl⟩ := h'
  exact ⟨c', d', n', rfl⟩

/-- What does not look at these parts is as it was. -/
theorem State.SameOutside.keeps {α : Type} {s t : State} (h : s.SameOutside t) (g : State → α)
    (hg : ∀ (u : State) c d n, g { u with ctxs := c, dies := d, nextAge := n } = g u) : g t = g s := by
  obtain ⟨c, d, n, rfl⟩ := h
  exact hg s c d n

theorem State.SameOutside.foldl {β : Type} {step : State → β → State} (h : ∀ (u : State) b, u.SameOutside (step u b)) (l : List β) (s : State) :
    s.SameOutside (l.foldl step s) := by
  induction l generalizing s with
  | nil => exact .refl s
  | cons b l ih => exact (h s b).trans (ih _)

section answers
variable (s : State) (c : Nat)

theorem State.sameOutside_modCtx (f : Ctx → Ctx) : s.SameOutside (s.modCtx c f) := ⟨_, s.dies, s.nextAge, State.modCtx_eq s c f⟩

theorem State.sameOutside_insertReady : s.SameOutside (s.insertReady c) :=
  (State.sameOutside_modCtx s c _).trans ⟨_, _, _, rfl⟩

theorem State.sameOutside_writeSpecial (num : Nat) (v : W64) : s.SameOutside (s.writeSpecial c num v) := by
  unfold State.writeSpecial
  split
  · exact State.sameOutside_modCtx s c _
  · split
    · exact State.sameOutside_modCtx s c _
    · exact State.sameOutside_modCtx s c _
    · exact ⟨s.ctxs, _, s.nextAge, rfl⟩
    · exact State.sameOutside_modCtx s c _
    · exact State.sameOutside_modCtx s c _
    · exact .refl s

theorem State.sameOutside_landScalar (d : Dest) (v : W64) : s.SameOutside (s.landScalar c d v) := by
  unfold State.landScalar
  split
  case h_9 num => exact State.sameOutside_writeSpecial s c num v
  case h_11 => exact .refl s
  case h_12 => exact .refl s
  all_goals exact State.sameOutside_modCtx s c _

theorem State.sameOutside_reply (k : Nat) (ws : List (Dest × W64)) : s.SameOutside (s.reply c k ws) :=
  (State.SameOutside.foldl (fun u w => State.sameOutside_landScalar u c w.1 w.2) ws s).trans (State.sameOutside_modCtx _ c _)

theorem State.sameOutside_answerResult (id k : Nat) (ws : List (Dest × W64)) : s.SameOutside (s.answerResult c id k ws) := by
  unfold State.answerResult
  split
  · exact .refl s
  · split
    · exact (State.sameOutside_modCtx s c _).trans (State.SameOutside.foldl (fun u (a : Nat × List (Dest × W64)) => State.sameOutside_reply u c a.1 a.2) _ _)
    · exact State.sameOutside_reply s c k ws

end answers

/-! ### The ends -/

theorem State.weirSoon_eq (s : State) (d : Nat) : ∃ a, s.weirSoon d = { s with agenda := a } := by
  have hfold : ∀ (l : List Nat) (u : State), ∃ a, l.foldl (fun s n => s.evalSoon d n) u = { u with agenda := a } := by
    intro l
    induction l with
    | nil => exact fun u => ⟨u.agenda, rfl⟩
    | cons n l ih =>
      intro u
      obtain ⟨a, ha⟩ := ih (u.evalSoon d n)
      unfold State.evalSoon at ha ⊢
      rw [List.foldl_cons, ha]
      split
      · exact ⟨a, rfl⟩
      · exact ⟨a, rfl⟩
  exact hfold [7, 6, 5, 4, 3, 2, 1, 0] s

@[simp] theorem State.chan_weirSoon (s : State) (d n : Nat) : (s.weirSoon d).chan n = s.chan n := by
  obtain ⟨a, ha⟩ := State.weirSoon_eq s d
  rw [ha]
  rfl

@[simp] theorem State.chan_windowMoves (s : State) (m : Nat) (c : Chan) (n : Nat) : (s.windowMoves m c).chan n = s.chan n := by
  unfold State.windowMoves
  split
  · exact State.chan_weirSoon s _ n
  · rfl

@[simp] theorem State.chan_msix (s : State) (v n : Nat) : (s.msix v).chan n = s.chan n :=
  (State.sameModule_msix s v).keeps (fun u => u.chan n) fun _ _ _ _ _ => rfl

@[simp] theorem State.chan_sendPort (s : State) (p : Nat) (o : Out) (n : Nat) : (s.sendPort p o).chan n = s.chan n := by
  unfold State.sendPort
  split <;> rfl

/-- MISCONF: the end is unmatched and has no credits (R82). -/
@[simp] theorem State.chan_misconf (s : State) (n : Nat) :
    (s.misconf n).chan n = { s.chan n with state := .misconf, matched := false, credits := 0 } := by
  unfold State.misconf
  rw [State.chan_windowMoves, State.chan_msix, State.chan_modChan_self]

/-- An end that is not enabled, or has not heard of its peer, does not match. -/
theorem matchEnds_of_alone {s : State} {n : Nat} (h : (s.chan n).peer = none ∨ (s.chan n).state ≠ .send ∧ (s.chan n).state ≠ .recv) :
    s.matchEnds n = s := by
  unfold State.matchEnds
  dsimp only
  split
  · rfl
  · next hpeer => exact if_pos (h.resolve_left fun hnone => by rw [hnone] at hpeer; cases hpeer)

/-! ### Enabling -/

/-- The end with the fields of a write that enables it. -/
def Chan.enabled (c : Chan) (base : W64) (ctl : W32) : Chan :=
  { c with
    bufbase := base.truncate 48, nparc := BitVec.ofNat 8 (bits ctl 23 16), psize := BitVec.ofNat 4 (bits ctl 15 12)
    sink := BitVec.ofNat 2 (bits ctl 11 10), stage := BitVec.ofNat 3 (bits ctl 9 7)
    state := if bits ctl 1 0 = 1 then .send else .recv, matched := false, credits := 0, seq := 0#16, pcount := 0#64, pages := [] }

theorem nparc_toNat {ctl : W32} {np : Nat} (hnp : np = bits ctl 23 16) : (BitVec.ofNat 8 (bits ctl 23 16)).toNat = np := by
  rw [hnp, BitVec.toNat_ofNat, bits_eq]
  exact Nat.mod_eq_of_lt (Nat.mod_lt _ (by decide))

theorem nparc_ok {ctl : W32} {np : Nat} (hnp : np = bits ctl 23 16) :
    (BitVec.ofNat 8 (bits ctl 23 16) != 0#8 && decide ((BitVec.ofNat 8 (bits ctl 23 16)).toNat ≤ 64)) = decide (1 ≤ np ∧ np ≤ 64) := by
  have hzero : BitVec.ofNat 8 (bits ctl 23 16) = 0#8 ↔ np = 0 := by
    rw [← nparc_toNat hnp, ← BitVec.toNat_inj]
    rfl
  rw [nparc_toNat hnp, Bool.eq_iff_iff, Bool.and_eq_true, bne_iff_ne, ne_eq, hzero, decide_eq_true_eq, decide_eq_true_eq]
  omega

section enable
variable {s : State} {n : Nat} {base : W64} {ctl : W32} {np : Nat} (hn : n < 1536) (hnp : np = bits ctl 23 16) (hidle : (s.chan n).state = .idle)
include hn hnp hidle

/-- A write with STATE 1 or 2 enables an idle end, or leaves it MISCONF where NPARC is out of range. -/
theorem chanEnable_eq (hst : bits ctl 1 0 = 1 ∨ bits ctl 1 0 = 2 ∧ ¬ (1 ≤ np ∧ np ≤ 64)) : ∃ u : State,
    u = (if 1 ≤ np ∧ np ≤ 64 then s.modChan n fun _ => (s.chan n).enabled base ctl
      else (s.modChan n fun _ => (s.chan n).enabled base ctl).misconf n) ∧
    exec (.channelEnable n base ctl) s = .next ((u.sendPort (chanPort n) ((u.chan n).config n)).matchEnds n) := by
  have hgo : ¬ (1536 ≤ n ∨ (s.chan n).state ≠ .idle ∨ bits ctl 1 0 ≠ 1 ∧ bits ctl 1 0 ≠ 2) := by
    rintro (h | h | ⟨h1, h2⟩)
    · omega
    · exact h hidle
    · exact hst.elim h1 fun h => h2 h.1
  have hpages : ¬ (bits ctl 1 0 = 2 ∧ decide (1 ≤ np ∧ np ≤ 64) = true) := by
    rintro ⟨h2, hok⟩
    obtain h | ⟨-, h⟩ := hst
    · omega
    · exact h (of_decide_eq_true hok)
  have hsink : ((bits ctl 1 0 == 2) && (BitVec.ofNat 2 (bits ctl 11 10) == 3#2 || (some ([] : List Nat)).isNone)) = true → ¬ (1 ≤ np ∧ np ≤ 64) := by
    intro h hok
    rw [Bool.and_eq_true, beq_iff_eq] at h
    exact hpages ⟨h.1, decide_eq_true hok⟩
  have hbad : (!decide (1 ≤ np ∧ np ≤ 64) || (bits ctl 1 0 == 2 && (BitVec.ofNat 2 (bits ctl 11 10) == 3#2 || (some ([] : List Nat)).isNone))) =
      !decide (1 ≤ np ∧ np ≤ 64) := by
    generalize (bits ctl 1 0 == 2 && _) = b at hsink ⊢
    cases b
    · exact Bool.or_false _
    · rw [decide_eq_false (hsink rfl)]
      rfl
  refine ⟨_, rfl, congrArg Host.Outcome.next ?_⟩
  unfold State.chanEnable
  rw [if_neg hgo]
  simp only [nparc_ok hnp, if_neg hpages, hbad, Option.getD_some]
  by_cases hok : 1 ≤ np ∧ np ≤ 64
  · rw [decide_eq_true hok, if_pos hok]
    rfl
  · rw [decide_eq_false hok, if_neg hok]
    rfl

theorem enable_misconf_clause (hst : bits ctl 1 0 = 1 ∨ bits ctl 1 0 = 2) (hbad : np = 0 ∨ 64 < np) :
    ∃ t, exec (.channelEnable n base ctl) s = .next t ∧ (t.chan n).state = .misconf ∧ (t.chan n).matched = false := by
  have hout : ¬ (1 ≤ np ∧ np ≤ 64) := by omega
  obtain ⟨u, hu, hexec⟩ := chanEnable_eq hn hnp hidle (base := base) (hst.imp_right fun h => ⟨h, hout⟩)
  rw [if_neg hout] at hu
  have hchan : (u.sendPort (chanPort n) ((u.chan n).config n)).chan n =
      { (s.modChan n fun _ => (s.chan n).enabled base ctl).chan n with state := .misconf, matched := false, credits := 0 } := by
    rw [State.chan_sendPort, hu, State.chan_misconf]
  rw [matchEnds_of_alone (.inr (by rw [hchan]; dsimp only; exact ⟨by decide, by decide⟩))] at hexec
  refine ⟨_, hexec, ?_⟩
  rw [hchan]
  exact ⟨rfl, rfl⟩

theorem enable_send_clause (hst : bits ctl 1 0 = 1) (hlow : 1 ≤ np) (hhigh : np ≤ 64) (hpeer : (s.chan n).peer = none) :
    ∃ t, exec (.channelEnable n base ctl) s = .next t ∧ (t.chan n).state = .send ∧ (t.chan n).matched = false ∧
      (t.chan n).nparc.toNat = np ∧ (t.chan n).psize.toNat = bits ctl 15 12 ∧ (t.chan n).seq = 0#16 ∧ (t.chan n).pcount = 0#64 ∧
      ((s.port (chanPort n)).up = true → Out.config n ((t.chan n).nparc.zeroExtend 12) (t.chan n).psize 1#3 ∈ t.out) := by
  obtain ⟨u, hu, hexec⟩ := chanEnable_eq hn hnp hidle (base := base) (.inl hst)
  rw [if_pos ⟨hlow, hhigh⟩] at hu
  have hchan : u.chan n = (s.chan n).enabled base ctl := by rw [hu, State.chan_modChan_self]
  have hsent : (u.sendPort (chanPort n) ((u.chan n).config n)).chan n = (s.chan n).enabled base ctl := by
    rw [State.chan_sendPort, hchan]
  rw [matchEnds_of_alone (.inl (by rw [hsent]; exact hpeer))] at hexec
  refine ⟨_, hexec, ?_⟩
  have hstate : ((s.chan n).enabled base ctl).state = .send := if_pos hst
  rw [hsent]
  refine ⟨hstate, rfl, nparc_toNat hnp, ?_, rfl, rfl, fun hup => ?_⟩
  · refine (BitVec.toNat_ofNat _ _).trans ?_
    rw [bits_eq]
    exact Nat.mod_eq_of_lt (Nat.mod_lt _ (by decide))
  · have hport : (u.port (chanPort n)).up = true := by
      rw [hu]
      exact hup
    rw [State.sendPort, if_pos hport, hchan, Chan.config, hstate]
    exact List.mem_append_right _ List.mem_cons_self

end enable

/-! ### Disabling -/

theorem disable_clause {s : State} {n : Nat} (hn : n < 1536) (hon : (s.chan n).state ≠ .idle) :
    ∃ t, exec (.channelDisable n) s = .next t ∧ (t.chan n).state = .idle ∧ (t.chan n).recvs = [] ∧ (t.chan n).waiters = [] ∧
      (t.chan n).credits = 0 ∧ (t.chan n).bufbase = (s.chan n).bufbase := by
  have hgo : ¬ (1536 ≤ n ∨ (s.chan n).state = .idle) := fun h => h.elim (fun h => absurd hn (Nat.not_lt.mpr h)) hon
  refine ⟨_, rfl, ?_⟩
  unfold State.chanDisable
  rw [if_neg hgo]
  dsimp only
  rw [State.chan_sendPort, State.chan_windowMoves, State.chan_modDie]
  generalize hu : (s.modChan n fun x =>
    { x with
      state := .idle, matched := false, credits := 0, seq := 0#16, pcount := 0#64, recvs := [], waiters := [], granted := [], timed := []
      parcels := (x.parcels.filter fun p => decide (p.got < p.hdr.len.toNat)).map fun p => { p with dropped := true } }) = u
  have hchan := State.chan_modChan_self s n fun x =>
    { x with
      state := .idle, matched := false, credits := 0, seq := 0#16, pcount := 0#64, recvs := [], waiters := [], granted := [], timed := []
      parcels := (x.parcels.filter fun p => decide (p.got < p.hdr.len.toNat)).map fun p => { p with dropped := true } }
  rw [hu] at hchan
  have hanswers (l₁ : List Nat) (l₂ : List RecvWait) (l₃ : List TimedSend) : (l₃.foldl (fun (s : State) t =>
      s.replyTo t.ctx t.token t.dest (BitVec.ofNat 64 (t.seq.toNat * 65536 + (if t.late then 256 else 0) + 1)))
      (l₂.foldl (fun (s : State) r => s.replyPair r.ctx r.token r.ed 1#64 0#64) (l₁.foldl (fun (s : State) w => s.insertReady w) u))).chan n = u.chan n :=
    (((State.SameOutside.foldl (fun v w => State.sameOutside_insertReady v w) l₁ u).trans
      (State.SameOutside.foldl (fun v (r : RecvWait) => State.sameOutside_answerResult v r.ctx _ _ _) l₂ _)).trans
      (State.SameOutside.foldl (fun v (t : TimedSend) => State.sameOutside_answerResult v t.ctx _ _ _) l₃ _)).keeps (fun v => v.chan n)
      fun _ _ _ _ => rfl
  rw [hanswers, hchan]
  exact ⟨rfl, rfl, rfl, rfl, rfl⟩

/-! ### Matching -/

theorem grant_of_none (s : State) (n k : Nat) (h : (s.chan n).waiters = []) : s.grant n k = s := by
  cases k with
  | zero => rfl
  | succ k => rw [State.grant, h]

theorem config_clause {s : State} {n : Nat} {np : BitVec 12} {ps : BitVec 4} (hn : n < 1536) (hup : (s.port (chanPort n)).up = true)
    (hsend : (s.chan n).state = .send) (hmatched : (s.chan n).matched = false) (hwait : (s.chan n).waiters = []) :
    ∃ t, exec (.configFlitReceive n np ps 2#3) s = .next t ∧
      (np = (s.chan n).nparc.zeroExtend 12 ∧ ps = (s.chan n).psize →
        (t.chan n).matched = true ∧ (t.chan n).credits = (s.chan n).nparc.toNat) ∧
      (np ≠ (s.chan n).nparc.zeroExtend 12 ∨ ps ≠ (s.chan n).psize → (t.chan n).state = .misconf) := by
  have hexec : exec (.configFlitReceive n np ps 2#3) s =
      .next (((s.linkNow.modChan n fun x => { x with peer := some (np, ps, 2#3) }).matchEnds n)) := by
    refine congrArg Host.Outcome.next (if_neg ?_)
    have hup' : (s.linkNow.port (chanPort n)).up = true := hup
    rw [hup']
    simp [hn]
  have hchan : (s.linkNow.modChan n fun x => { x with peer := some (np, ps, 2#3) }).chan n = { s.chan n with peer := some (np, ps, 2#3) } :=
    State.chan_modChan_self _ _ _
  generalize (s.linkNow.modChan n fun x => { x with peer := some (np, ps, 2#3) }) = u at hexec hchan
  refine ⟨_, hexec, ?_, ?_⟩
  · rintro ⟨hnp, hps⟩
    have hstep : u.matchEnds n = ((u.modChan n fun x => { x with matched := true, credits := (s.chan n).nparc.toNat }).weirSoon (chanDie n)) := by
      unfold State.matchEnds
      rw [hchan]
      dsimp only
      rw [hsend, hmatched, if_neg (by decide), if_neg (by decide), if_neg (by decide), if_neg, if_neg (by decide), if_pos rfl,
        grant_of_none _ _ _ (by rw [State.chan_modChan_self, hchan]; exact hwait)]
      rintro (h | h | h)
      · exact h hnp
      · exact h hps
      · exact absurd h (by decide)
    rw [hstep, State.chan_weirSoon, State.chan_modChan_self]
    exact ⟨rfl, rfl⟩
  · intro hne
    have hstep : u.matchEnds n = u.misconf n := by
      unfold State.matchEnds
      rw [hchan]
      dsimp only
      rw [hsend, if_neg (by decide), if_neg (by decide), if_neg (by decide), if_pos (hne.imp_right .inl)]
    rw [hstep, State.chan_misconf]

/-- Settles O40, by the end that a write enables or leaves MISCONF, what disabling forgets, and the check of both ends. -/
theorem channelEnds : Obligations.ChannelEnds := by
  intro s n hn
  refine ⟨fun base ctl np hnp hidle => ⟨fun hst hbad => enable_misconf_clause hn hnp hidle hst hbad,
      fun hst hlow hhigh hpeer => enable_send_clause hn hnp hidle hst hlow hhigh hpeer⟩,
    fun hon => disable_clause hn hon, fun np ps hup hsend hmatched hwait => config_clause hn hup hsend hmatched hwait⟩

end Sys2Proof.Machine

/-! ## Parcels, credits and timed sends (R83 to R91) -/

namespace Sys2Proof.Machine

set_option Elab.async false

/-! ### The answer to the only operation whose result is outstanding (R437, R453) -/

/-- The context with a value in the register that an engine operation's destination names. -/
def Ctx.landE (x : Ctx) (n : Nat) (v : W64) : Ctx :=
  if n % 64 < 32 then { x with e := SMap.set 0#64 x.e (n % 64) v } else { x with q := SMap.set 0#64 x.q (8 * 7 + (n % 64 - 32)) v }

theorem Ctx.landE_keeps (x : Ctx) (n : Nat) (v : W64) : (x.landE n v).k = x.k ∧ (x.landE n v).results = x.results ∧
    (n % 64 < 32 → SMap.get 0#64 (x.landE n v).e (n % 64) = v) := by
  unfold Ctx.landE
  split
  · exact ⟨rfl, rfl, fun _ => SMap.get_set_self _ _ _ _⟩
  · next h => exact ⟨rfl, rfl, fun h' => absurd h' h⟩

theorem State.landScalar_eDestOf (s : State) (c n : Nat) (v : W64) : s.landScalar c (eDestOf n) v = s.modCtx c fun x => x.landE n v := by
  unfold eDestOf Ctx.landE
  split <;> rfl

theorem Ctx.tokCount_tokDown (x : Ctx) (k : Nat) : (x.tokDown k).tokCount k = x.tokCount k - 1 := by
  rw [Ctx.tokCount, Ctx.tokDown, SMap.get_modify_self]
  rfl

section answer
variable {s : State} {c k n : Nat} {x : Ctx} (hctx : s.ctx c = some x)
include hctx

/-- The value stands in the register of the destination, and the token falls; nothing but the context changes. -/
theorem State.replyTo_only (v : W64) (hx : x.AwaitsOnly n [eDestOf n]) : ∃ cs y, s.replyTo c k n v = { s with ctxs := cs } ∧
    State.ctx { s with ctxs := cs } c = some y ∧ y.tokCount k = x.tokCount k - 1 ∧ y.results = [] ∧
    (n % 64 < 32 → SMap.get 0#64 y.e (n % 64) = v) := by
  have hreply : s.replyTo c k n v =
      ((s.modCtx c fun x => { x with results := [] }).modCtx c fun x => x.landE n v).modCtx c fun x => x.tokDown k := by
    refine (answerResult_only s c (n / 64) k [eDestOf n] [(eDestOf n, v)] x hctx hx).trans ?_
    exact congrArg (fun u : State => u.modCtx c fun x => x.tokDown k) (State.landScalar_eDestOf _ c n v)
  have hframe : ∃ cs, s.replyTo c k n v = { s with ctxs := cs } := by
    rw [hreply, State.modCtx_eq (State.modCtx _ _ _), State.modCtx_eq (State.modCtx _ _ _), State.modCtx_eq s]
    exact ⟨_, rfl⟩
  have hmine : (s.replyTo c k n v).ctx c = some ((({ x with results := [] } : Ctx).landE n v).tokDown k) := by
    rw [hreply, State.ctx_modCtx_self, State.ctx_modCtx_self, State.ctx_modCtx_self, hctx]
    rfl
  obtain ⟨cs, hcs⟩ := hframe
  obtain ⟨hk, hresults, he⟩ := Ctx.landE_keeps { x with results := [] } n v
  refine ⟨cs, (({ x with results := [] } : Ctx).landE n v).tokDown k, hcs, hcs ▸ hmine, ?_, hresults, he⟩
  rw [Ctx.tokCount_tokDown, Ctx.tokCount, hk]
  rfl

/-- A pair of values stands in two successive registers. -/
theorem State.replyPair_only (v w : W64) (hx : x.AwaitsOnly n [.e (n % 64), .e (n % 64 + 1)]) : ∃ cs y,
    s.replyPair c k n v w = { s with ctxs := cs } ∧ State.ctx { s with ctxs := cs } c = some y ∧ y.tokCount k = x.tokCount k - 1 ∧ y.results = [] ∧
    SMap.get 0#64 y.e (n % 64) = v ∧ SMap.get 0#64 y.e (n % 64 + 1) = w := by
  have hreply : s.replyPair c k n v w =
      (((s.modCtx c fun x => { x with results := [] }).modCtx c fun x => { x with e := SMap.set 0#64 x.e (n % 64) v }).modCtx c
        fun x => { x with e := SMap.set 0#64 x.e (n % 64 + 1) w }).modCtx c fun x => x.tokDown k :=
    answerResult_only s c (n / 64) k _ [(.e (n % 64), v), (.e (n % 64 + 1), w)] x hctx hx
  have hframe : ∃ cs, s.replyPair c k n v w = { s with ctxs := cs } := by
    rw [hreply, State.modCtx_eq (State.modCtx _ _ _), State.modCtx_eq (State.modCtx _ _ _), State.modCtx_eq (State.modCtx _ _ _), State.modCtx_eq s]
    exact ⟨_, rfl⟩
  have hmine : (s.replyPair c k n v w).ctx c =
      some (({ x with results := [], e := SMap.set 0#64 (SMap.set 0#64 x.e (n % 64) v) (n % 64 + 1) w } : Ctx).tokDown k) := by
    rw [hreply, State.ctx_modCtx_self, State.ctx_modCtx_self, State.ctx_modCtx_self, State.ctx_modCtx_self, hctx]
    rfl
  obtain ⟨cs, hcs⟩ := hframe
  rw [hcs] at hmine
  refine ⟨cs, _, hcs, hmine, Ctx.tokCount_tokDown _ k, rfl, ?_, ?_⟩
  · exact (SMap.get_set_ne _ _ _ _ _ (by omega)).trans (SMap.get_set_self _ _ _ _)
  · exact SMap.get_set_self _ _ _ _

end answer

/-! ### What a write of pieces leaves in the view (R247, R253) -/

theorem Mem.write_append (m : Mem) (a : Nat) (xs ys : List Byte) :
    Mem.write m a (xs ++ ys) = Mem.write (Mem.write m a xs) (a + xs.length) ys := by
  induction xs generalizing m a with
  | nil => rfl
  | cons x xs ih =>
    refine (ih (m.setByte a x) (a + 1)).trans ?_
    rw [List.length_cons, Nat.add_assoc, Nat.add_comm 1]
    rfl

/-- A write of memory changes only the view of its die, its clock, and the writes on their way. -/
theorem State.view_writeLoc {s : State} {d pa : Nat} {bs : List Byte} (h : pa < hostBase) :
    ((s.writeLoc d (.global pa) bs).die d).view = Mem.write (s.die d).view pa bs := by
  have hhost : isHost pa = false := decide_eq_false (by omega)
  have hglobal : s.writeLoc d (.global pa) bs = s.writeGlobal d pa bs := by
    show s.writePhys d pa bs = _
    rw [State.writePhys, hhost]
    rfl
  rw [hglobal]
  have hdie : (s.writeGlobal d pa bs).die d = { s.die d with
      vc := (s.die d).vc.set d ((s.die d).vc.get d + 1), view := writeParts (s.die d).view pa bs [] } :=
    State.die_modDie_self s d fun x => { x with vc := (s.die d).vc.set d ((s.die d).vc.get d + 1), view := writeParts x.view pa bs [] }
  rw [hdie]
  rfl

/-- Whole words: the view holds the bytes. -/
theorem State.view_writePieces (d : Nat) {m fuel pa : Nat} {bs : List Byte} (s : State) (hlen : bs.length = 8 * m) (hfuel : m < fuel)
    (halign : pa % 8 = 0) (hpa : pa + bs.length ≤ hostBase) :
    ((s.writePieces d fuel (.global pa) bs).die d).view = Mem.write (s.die d).view pa bs := by
  induction m generalizing fuel pa bs s with
  | zero =>
    obtain ⟨fuel, rfl⟩ := Nat.exists_eq_succ_of_ne_zero (by omega : fuel ≠ 0)
    rw [List.eq_nil_of_length_eq_zero hlen]
    rfl
  | succ m ih =>
    obtain ⟨fuel, rfl⟩ := Nat.exists_eq_succ_of_ne_zero (by omega : fuel ≠ 0)
    have hpiece : s.writePieces d (fuel + 1) (.global pa) bs =
        (s.writeLoc d (.global pa) (bs.take 8)).writePieces d fuel (.global (pa + 8)) (bs.drop 8) := by
      cases bs with
      | nil => simp at hlen
      | cons b bs => exact if_pos ⟨halign, by omega⟩
    rw [hpiece, ih _ (by rw [List.length_drop]; omega) (by omega) (by omega) (by rw [List.length_drop]; omega), State.view_writeLoc (by omega)]
    have htake : (bs.take 8).length = 8 := by
      rw [List.length_take]
      omega
    have happend := Mem.write_append (s.die d).view pa (bs.take 8) (bs.drop 8)
    rw [List.take_append_drop, htake] at happend
    exact happend.symm

theorem State.chan_writePieces (d n : Nat) {fuel pa : Nat} {bs : List Byte} (s : State) : (s.writePieces d fuel (.global pa) bs).chan n = s.chan n := by
  have hloc (u : State) (a : Nat) (cs : List Byte) : (u.writeLoc d (.global a) cs).chan n = u.chan n := by
    show (u.writePhys d a cs).chan n = _
    unfold State.writePhys
    split <;> rfl
  induction fuel generalizing pa bs s with
  | zero => rfl
  | succ fuel ih =>
    cases bs with
    | nil => rfl
    | cons b bs =>
      unfold State.writePieces
      dsimp only
      split
      · exact (ih _).trans (hloc s pa _)
      · exact (ih _).trans (hloc s pa _)

theorem State.sameBehindCache_touchRuns (s : State) (write : Bool) (ls : List (Loc × Nat)) : s.SameBehindCache (s.touchRuns write ls) := by
  refine State.SameBehindCache.foldl (fun u (r : Loc × Nat) => ?_) ls s
  unfold State.touchLease
  split
  · split
    · exact .refl u
    · refine State.SameBehindCache.foldl (fun u i => ?_) _ u
      dsimp only
      split
      · exact State.sameBehindCache_llcServe u _ _
      · exact .refl u
  · exact .refl u

theorem State.unpoison_eq (s : State) (runs : List (Loc × Nat)) : ∃ p, s.unpoison runs = { s with poison := p } := by
  unfold State.unpoison
  split
  · exact ⟨s.poison, rfl⟩
  · exact ⟨_, rfl⟩

section link
variable {s : State} {n : Nat} (hn : n < 1536) (hup : (s.port (chanPort n)).up = true)
include hn hup

/-- The port of the channel is there and up. -/
theorem linkGuard : ¬ (1536 ≤ n ∨ (!(s.linkNow.port (chanPort n)).up) = true) := by
  have hup' : (s.linkNow.port (chanPort n)).up = true := hup
  rw [hup']
  simp [hn]

/-! ### Headers -/

theorem header_clause {h : FlitHeader} {k : Nat} (hk : k = (s.chan n).psize.toNat + 1) (hkind : h.kind = 1#4) (hrecv : (s.chan n).state = .recv) :
    ∃ t, exec (.parcelHeaderReceive n h) s = .next t ∧ (t.chan n).seq = h.seq + 1 ∧ (t.chan n).pcount = (s.chan n).pcount + 1 ∧
      (t.chan n).parcels = (s.chan n).parcels ++
        [{ hdr := h, slot := ((s.chan n).pages.drop ((s.chan n).parcelNo h.seq % (s.chan n).nparc.toNat * k)).take k }] := by
  have hflit : s.linkNow.recvFlit n h = s.linkNow.recvHeader n h := by
    unfold State.recvFlit
    rw [hkind]
    rfl
  have hstep : s.linkNow.recvHeader n h = s.linkNow.modChan n fun x => { x with
      parcels := x.parcels ++
        [{ hdr := h, slot := ((s.chan n).pages.drop ((s.chan n).parcelNo h.seq % (s.chan n).nparc.toNat * k)).take k }]
      seq := h.seq + 1, pcount := x.pcount + 1 } := by
    unfold State.recvHeader
    rw [hk]
    exact (if_neg (linkGuard hn hup)).trans (if_neg (fun h => h hrecv))
  refine ⟨_, congrArg Host.Outcome.next (hflit.trans hstep), ?_⟩
  rw [State.chan_modChan_self]
  exact ⟨rfl, rfl, rfl⟩

theorem bad_header_clause {h : FlitHeader} (hbad : h.kind = 1#4 ∧ (s.chan n).state ≠ .recv ∨ h.kind ∉ [1#4, 2#4, 3#4]) :
    ∃ t, exec (.parcelHeaderReceive n h) s = .next t ∧ (t.port (chanPort n)).errors = (s.port (chanPort n)).errors + 1 ∧ t.chans = s.chans := by
  have hstep : s.linkNow.recvFlit n h = s.linkNow.portError (chanPort n) := by
    obtain ⟨hkind, hstate⟩ | hkind := hbad
    · unfold State.recvFlit
      rw [hkind]
      exact (if_neg (linkGuard hn hup)).trans (if_pos hstate)
    · have hne (k : Nat) (hk : k < 16) (hmem : BitVec.ofNat 4 k ∈ [1#4, 2#4, 3#4]) : h.kind.toNat ≠ k := fun heq => by
        have hk' : h.kind = BitVec.ofNat 4 k := BitVec.eq_of_toNat_eq (heq.trans (Nat.mod_eq_of_lt hk).symm)
        rw [hk'] at hkind
        exact hkind hmem
      unfold State.recvFlit
      split
      · next heq => exact absurd heq (hne 1 (by decide) (by decide))
      · next heq => exact absurd heq (hne 2 (by decide) (by decide))
      · next heq => exact absurd heq (hne 3 (by decide) (by decide))
      · exact if_neg (linkGuard hn hup)
  refine ⟨_, congrArg Host.Outcome.next hstep, ?_, rfl⟩
  rw [State.portError, State.port_modPort_self]
  rfl

/-! ### Data -/

theorem data_clause {p : Parcel} {bs : List Byte} {page : Nat} (hparcels : (s.chan n).parcels = [p]) (hlen : bs.length = 32)
    (hgot : p.got < p.hdr.len.toNat) (hdrop : p.dropped = false) (hslot : p.slot[p.got / 128]? = some page) (halign : page % 4096 = 0)
    (hpage : page + 4096 ≤ hostBase) :
    ∃ t, exec (.dataFlitReceive n bs) s = .next t ∧ (t.chan n).parcels = [{ p with got := p.got + 1, clock := (t.die (chanDie n)).vc }] ∧
      Mem.read (t.die (chanDie n)).view (page + p.got % 128 * 32) 32 = bs := by
  obtain ⟨q, hq⟩ := State.unpoison_eq (s.linkNow.writePieces (chanDie n) 33 (.global (page + p.got % 128 * 32)) bs)
    [(.global (page + p.got % 128 * 32), 32)]
  have htouch := State.sameBehindCache_touchRuns ((s.linkNow.writePieces (chanDie n) 33 (.global (page + p.got % 128 * 32)) bs).unpoison
    [(.global (page + p.got % 128 * 32), 32)]) true [(.global (page + p.got % 128 * 32), 32)]
  generalize hu : State.touchRuns (State.unpoison (State.writePieces s.linkNow (chanDie n) 33 (.global (page + p.got % 128 * 32)) bs)
    [(.global (page + p.got % 128 * 32), 32)]) true [(.global (page + p.got % 128 * 32), 32)] = u at htouch
  have hview : (u.die (chanDie n)).view = Mem.write (s.die (chanDie n)).view (page + p.got % 128 * 32) bs := by
    rw [htouch.keeps (fun u => (u.die (chanDie n)).view) fun _ _ _ _ _ => rfl, hq]
    exact State.view_writePieces (chanDie n) s.linkNow (m := 4) hlen (by decide) (by omega) (by omega)
  have hchan : (u.chan n).parcels = [p] := by
    rw [htouch.keeps (fun u => u.chan n) fun _ _ _ _ _ => rfl, hq, ← hparcels]
    exact congrArg Chan.parcels (State.chan_writePieces (chanDie n) n s.linkNow)
  have hexec : exec (.dataFlitReceive n bs) s = .next (u.modChan n fun x => { x with
      parcels := (arriveSector (u.die (chanDie n)).vc x.parcels).filter fun q => !(q.dropped && decide (q.hdr.len.toNat ≤ q.got)) }) := by
    refine congrArg Host.Outcome.next ?_
    have hguard : ¬ (1536 ≤ n ∨ (!(s.linkNow.port (chanPort n)).up) = true ∨ bs.length ≠ 32) := by
      rintro (h | h | h)
      · omega
      · exact linkGuard hn hup (.inr h)
      · exact h hlen
    have hfind : ((s.linkNow.chan n).parcels.find? fun p => decide (p.got < p.hdr.len.toNat)) = some p := by
      have hl : (s.linkNow.chan n).parcels = [p] := hparcels
      rw [hl]
      simp [hgot]
    unfold State.recvData
    rw [if_neg hguard, hfind]
    dsimp only
    rw [hslot]
    dsimp only
    rw [hu]
  refine ⟨_, hexec, ?_, ?_⟩
  · rw [State.chan_modChan_self]
    simp only [hchan, arriveSector, hgot, if_true, List.filter_cons, List.filter_nil, hdrop, Bool.false_and, Bool.not_false]
    rfl
  · have hkeeps : ((u.modChan n fun x => { x with
        parcels := (arriveSector (u.die (chanDie n)).vc x.parcels).filter fun q => !(q.dropped && decide (q.hdr.len.toNat ≤ q.got)) }).die
          (chanDie n)).view = (u.die (chanDie n)).view := rfl
    rw [hkeeps, hview]
    have hread := Mem.read_write bs (s.die (chanDie n)).view (page + p.got % 128 * 32)
    rw [hlen] at hread
    exact hread

/-! ### Credits -/

theorem credit_clause {k : Nat} (hsend : (s.chan n).state = .send) (hmatched : (s.chan n).matched = true) (hwait : (s.chan n).waiters = []) :
    ∃ t, exec (.creditFlitReceive n k) s = .next t ∧ (t.chan n).credits = min ((s.chan n).credits + k) (s.chan n).nparc.toNat := by
  have hchan := State.chan_modChan_self s.linkNow n fun x => { x with credits := min (x.credits + k) x.nparc.toNat }
  have hstep : s.linkNow.recvCredits n k =
      (s.linkNow.modChan n fun x => { x with credits := min (x.credits + k) x.nparc.toNat }).weirSoon (chanDie n) := by
    have hm : (s.linkNow.chan n).matched = true := hmatched
    unfold State.recvCredits
    rw [if_neg (linkGuard hn hup)]
    refine (if_neg fun h => h hsend).trans ?_
    rw [hm, if_neg (by decide), grant_of_none _ _ _ (by rw [hchan]; exact hwait)]
  refine ⟨_, congrArg Host.Outcome.next hstep, ?_⟩
  rw [State.chan_weirSoon, hchan]
  rfl

end link

/-! ### Delivery -/

theorem State.wakeUp_eq (s : State) : ∃ a g w, s.wakeUp = { s with act := a, gated := g, wokeAt := w } := by
  unfold State.wakeUp
  split
  · exact ⟨_, _, _, rfl⟩
  · exact ⟨s.act, s.gated, s.wokeAt, rfl⟩

theorem State.evalSoon_eq (s : State) (d n : Nat) : ∃ a, s.evalSoon d n = { s with agenda := a } := by
  unfold State.evalSoon
  split
  · exact ⟨_, rfl⟩
  · exact ⟨s.agenda, rfl⟩

@[simp] theorem Stage.queue_setQueue (g : Stage) (q : Nat) (l : List QEntry) : (g.setQueue q l).queue q = l := by
  match q with
  | 0 | 1 | 2 | _ + 3 => rfl

theorem State.stage_modStage_self (s : State) (d n : Nat) (f : Stage → Stage) : (s.modStage d n f).stage d n = f (s.stage d n) := by
  unfold State.stage State.modStage
  rw [State.die_modDie_self]
  exact SMap.get_modify_self _ _ _ _

/-- The first word that a CHRECV answers (R89). -/
def FlitHeader.tagWord (h : FlitHeader) : W64 :=
  BitVec.ofNat 64 (h.tag.toNat * 2 ^ 32 + h.seq.toNat * 2 ^ 16 + h.phase.toNat * 2 ^ 12 + h.slot.toNat * 2 ^ 8)

/-- The second word that a CHRECV answers (R89). -/
def FlitHeader.userWord (h : FlitHeader) : W64 := BitVec.ofNat 64 (h.user.toNat * 2 ^ 32 + h.len.toNat)

/-- The entry of a Weir queue that a delivered parcel becomes (R89). -/
def FlitHeader.entry (h : FlitHeader) (n : Nat) : QEntry :=
  { tag := h.tag, phase := h.phase.toNat, chan := BitVec.ofNat 16 n, slot := h.slot.toNat, seq := h.seq, dep := 0#64, depCluster := 0, lt := 0#64 }

section delivery
variable {s : State} {n : Nat} {p : Parcel} (hparcels : (s.chan n).parcels = [p]) (hrecv : (s.chan n).state = .recv) (hheld : p.held = true)
  (hnew : p.delivered = false)
include hparcels hrecv hheld hnew

theorem receive_parcel_clause {r : RecvWait} {x : Ctx} (hsink : (s.chan n).sink = 0#2) (hrecvs : (s.chan n).recvs = [r]) (hctx : s.ctx r.ctx = some x)
    (hawait : x.AwaitsOnly r.ed [.e (r.ed % 64), .e (r.ed % 64 + 1)]) (hcovers : (s.die (ctxDie r.ctx)).vc.covers p.clock = true) :
    ∃ t y, exec (.parcelDelivery n) s = .next t ∧ t.ctx r.ctx = some y ∧ (t.chan n).recvs = [] ∧
      SMap.get 0#64 y.e (r.ed % 64) = FlitHeader.tagWord p.hdr ∧ SMap.get 0#64 y.e (r.ed % 64 + 1) = FlitHeader.userWord p.hdr ∧
      y.tokCount r.token = x.tokCount r.token - 1 ∧ y.results = [] := by
  have hstep : s.deliverParcel n =
      (((s.modChan n fun x => { x with recvs := [] }).markParcel n false).wakeUp).replyPair r.ctx r.token r.ed
        (FlitHeader.tagWord p.hdr) (FlitHeader.userWord p.hdr) := by
    unfold State.deliverParcel
    simp only [hparcels, hrecv, hheld, hsink, hrecvs, hcovers, List.find?_cons, hnew, Bool.not_false, Bool.not_true, ne_eq, not_true_eq_false,
      Bool.false_eq_true, or_self, if_false, if_true]
    rfl
  obtain ⟨a, g, k, hwake⟩ := State.wakeUp_eq ((s.modChan n fun x => { x with recvs := [] }).markParcel n false)
  have hrecvs' : (((s.modChan n fun x => { x with recvs := [] }).markParcel n false).chan n).recvs = [] := by
    rw [State.markParcel, State.chan_modChan_self, State.chan_modChan_self]
  rw [hwake] at hstep
  have hctx' : State.ctx { (s.modChan n fun x => { x with recvs := [] }).markParcel n false with act := a, gated := g, wokeAt := k } r.ctx = some x := hctx
  obtain ⟨cs, y, hreply, hy, htok, hresults, hfirst, hsecond⟩ := State.replyPair_only hctx' (k := r.token) (FlitHeader.tagWord p.hdr) (FlitHeader.userWord p.hdr) hawait
  exact ⟨_, y, congrArg Host.Outcome.next (hstep.trans hreply), hy, hrecvs', hfirst, hsecond, htok, hresults⟩

theorem queue_parcel_clause {q : Nat} {g : Stage} (hsink : (s.chan n).sink.toNat = q + 1) (hq : q < 2)
    (hg : g = s.stage (chanDie n) (s.chan n).stage.toNat) (henable : g.enable = true) (haccepts : queueAccepts q p.hdr.phase.toNat = true)
    (hroom : (g.queue q).length < 256) :
    ∃ t, exec (.parcelDelivery n) s = .next t ∧
      (t.stage (chanDie n) (s.chan n).stage.toNat).queue q = g.queue q ++ [FlitHeader.entry p.hdr n] := by
  have hport : (s.chan n).sink ≠ 0#2 := fun h => by
    rw [h] at hsink
    exact absurd hsink (Nat.succ_ne_zero q).symm
  have hqueue : (if (s.chan n).sink = 1#2 then 0 else 1) = q := by
    split
    · next h =>
      rw [h] at hsink
      exact Nat.succ.inj hsink
    · next h =>
      have : q ≠ 0 := fun h0 => h (BitVec.eq_of_toNat_eq (hsink.trans (by rw [h0]; rfl)))
      omega
  have hstep : s.deliverParcel n = (((s.markParcel n false).modStage (chanDie n) (s.chan n).stage.toNat fun x =>
      x.setQueue q (x.queue q ++ [FlitHeader.entry p.hdr n])).wakeUp).evalSoon (chanDie n) (s.chan n).stage.toNat := by
    unfold State.deliverParcel
    simp only [hparcels, hrecv, hheld, hport, hqueue, ← hg, henable, haccepts, Nat.not_le.mpr hroom, List.find?_cons, hnew, Bool.not_false,
      Bool.not_true, ne_eq, not_true_eq_false, Bool.false_eq_true, or_self, Bool.or_self, if_false]
    rfl
  obtain ⟨a, b, k, hwake⟩ := State.wakeUp_eq ((s.markParcel n false).modStage (chanDie n) (s.chan n).stage.toNat fun x =>
    x.setQueue q (x.queue q ++ [FlitHeader.entry p.hdr n]))
  rw [hwake] at hstep
  obtain ⟨l, hsoon⟩ := State.evalSoon_eq { ((s.markParcel n false).modStage (chanDie n) (s.chan n).stage.toNat fun x =>
    x.setQueue q (x.queue q ++ [FlitHeader.entry p.hdr n])) with act := a, gated := b, wokeAt := k } (chanDie n) (s.chan n).stage.toNat
  have hstage := State.stage_modStage_self (s.markParcel n false) (chanDie n) (s.chan n).stage.toNat fun x => x.setQueue q (x.queue q ++ [FlitHeader.entry p.hdr n])
  have hold : (s.markParcel n false).stage (chanDie n) (s.chan n).stage.toNat = g := hg.symm
  rw [hold] at hstage
  refine ⟨_, congrArg Host.Outcome.next (hstep.trans hsoon), ?_⟩
  exact (congrArg (fun g : Stage => g.queue q) hstage).trans (Stage.queue_setQueue g q _)

end delivery

/-! ### Timed sends -/

/-- Translations that a layout unit takes change its buffer alone (R283). -/
theorem State.foldl_fillLayout_eq (d : Nat) (l : List Nat) (s : State) :
    ∃ b, l.foldl (fun (s : State) va => s.fillLayout d va) s = { s with layoutTlb := b } := by
  induction l generalizing s with
  | nil => exact ⟨s.layoutTlb, rfl⟩
  | cons va l ih =>
    obtain ⟨b, hb⟩ := ih (s.fillLayout d va)
    rw [List.foldl_cons, hb]
    unfold State.fillLayout
    split
    · exact ⟨b, rfl⟩
    · exact ⟨b, rfl⟩

theorem State.sendFills_eq (s : State) (n : Nat) (a : TimedSend) : ∃ l, s.sendFills n a = { s with layoutTlb := l } := by
  unfold State.sendFills
  split
  · exact State.foldl_fillLayout_eq _ _ s
  · exact ⟨s.layoutTlb, rfl⟩

theorem State.out_sendPort {s : State} {p : Nat} (o : Out) (hup : (s.port p).up = true) : s.sendPort p o = { s with linkAt := s.time, out := s.out ++ [o] } :=
  if_pos hup

/-- Several flits leave through a port that is up, in their order. -/
theorem foldl_sendPort {p : Nat} (f : Nat → Out) (l : List Nat) (s : State) (hup : (s.port p).up = true) :
    ∃ a, l.foldl (fun (s : State) i => s.sendPort p (f i)) s = { s with linkAt := a, out := s.out ++ l.map f } := by
  induction l generalizing s with
  | nil => exact ⟨s.linkAt, by rw [List.map_nil, List.append_nil, List.foldl_nil]⟩
  | cons i l ih =>
    obtain ⟨a, ha⟩ := ih (s.sendPort p (f i)) (by rw [State.out_sendPort _ hup]; exact hup)
    refine ⟨a, ?_⟩
    rw [List.foldl_cons, ha, State.out_sendPort _ hup]
    exact congrArg (fun o => { s with linkAt := a, out := o }) (List.append_cons s.out (f i) (l.map f)).symm

/-- The header of a send. -/
def TimedSend.header (a : TimedSend) (now : Nat) : FlitHeader :=
  { tstamp := BitVec.ofNat 64 now, user := (a.desc.getD 2 0#64).extractLsb' 32 32, tag := (a.desc.getD 2 0#64).truncate 32, seq := a.seq
    len := BitVec.ofNat 12 (sendLen a.desc), phase := BitVec.ofNat 4 (sendField a.desc 15 12), slot := BitVec.ofNat 3 (sendField a.desc 18 16)
    kind := 1#4 }

/-- The parcel leaves through a port that is up, its header first. -/
theorem parcelLeaves_of_up {s : State} {n : Nat} {a : TimedSend} (got : List (List Byte)) (status : Nat) (htimed : (s.chan n).timed = [a])
    (hup : (s.port (chanPort n)).up = true) :
    ((s.parcelLeaves n a got status).chan n).timed = [] ∧
      (s.parcelLeaves n a got status).out = s.out ++ [.header n (a.header s.time)] ++
        (List.range (sendLen a.desc)).map fun i => .data n (got.getD i (List.replicate 32 0#8)) := by
  have hchan := State.chan_modChan_self s n fun x => { x with timed := x.timed.drop 1, pcount := if x.state = .send then x.pcount + 1 else x.pcount }
  unfold State.parcelLeaves
  dsimp only
  generalize hu : (s.modChan n fun x => { x with timed := x.timed.drop 1, pcount := if x.state = .send then x.pcount + 1 else x.pcount }) = u at hchan
  have hu' : u.port (chanPort n) = s.port (chanPort n) ∧ u.out = s.out := by
    rw [← hu]
    exact ⟨rfl, rfl⟩
  obtain ⟨hport, hout⟩ := hu'
  have hup' : (u.port (chanPort n)).up = true := by rw [hport]; exact hup
  obtain ⟨k, hdata⟩ := foldl_sendPort (fun i => Out.data n (got.getD i (List.replicate 32 0#8))) (List.range (sendLen a.desc))
    (u.sendPort (chanPort n) (.header n (a.header s.time))) (by rw [State.out_sendPort _ hup']; exact hup')
  refine ⟨?_, ?_⟩
  · refine ((State.sameOutside_answerResult _ _ _ _ _).keeps (fun v => (v.chan n).timed) fun _ _ _ _ => rfl).trans ?_
    refine (congrArg (fun v : State => (v.chan n).timed) hdata).trans ?_
    refine (congrArg Chan.timed (State.chan_sendPort u (chanPort n) _ n)).trans ?_
    rw [hchan, htimed]
    rfl
  · refine ((State.sameOutside_answerResult _ _ _ _ _).keeps State.out fun _ _ _ _ => rfl).trans ?_
    refine (congrArg State.out hdata).trans ?_
    rw [State.out_sendPort _ hup', hout]

section send
variable {s : State} {n : Nat} {a : TimedSend} (htimed : (s.chan n).timed = [a])
include htimed

theorem send_early_clause (hnot : s.timeReached a.lt = false) : exec (.timedSendLaunch n) s = .next s := by
  refine congrArg Host.Outcome.next ?_
  unfold State.trySend
  rw [htimed]
  refine if_pos ?_
  simp only [hnot, Bool.not_false, Bool.or_true, Bool.true_or]

theorem send_leaves_clause {got : List (List Byte)} (hup : (s.port (chanPort n)).up = true) (hrun : a.suspended = false)
    (hreached : s.timeReached a.lt = true) (hgated : s.gatedOff = false)
    (hsend : (s.chan n).state = .send) (hmatched : (s.chan n).matched = true) (hcovers : (s.die (chanDie n)).vc.covers a.clock = true)
    (hwaits : sendSrck a.desc = false → s.engWaits (a.agent n) (a.desc.getD 0 0#64) (32 * sendLen a.desc) = false)
    (hread : s.sendSectors n a (sendLen a.desc - a.read.length) a.read = (got, none)) :
    ∃ t h, exec (.timedSendLaunch n) s = .next t ∧ (t.chan n).timed = [] ∧ .header n h ∈ t.out ∧ h.tstamp = BitVec.ofNat 64 s.time ∧
      h.seq = a.seq ∧ h.len = BitVec.ofNat 12 (sendLen a.desc) ∧ h.tag = (a.desc.getD 2 0#64).truncate 32 ∧
      ∀ i, i < sendLen a.desc → .data n (got.getD i (List.replicate 32 0#8)) ∈ t.out := by
  have hno : (!sendSrck a.desc && s.engWaits (a.agent n) (a.desc.getD 0 0#64) (32 * sendLen a.desc)) = false := by
    cases hsrck : sendSrck a.desc
    · rw [hwaits hsrck]
      rfl
    · rfl
  obtain ⟨l, hfills⟩ := State.sendFills_eq s n a
  have hstep : s.trySend n = ({ s with layoutTlb := l } : State).parcelLeaves n a got 0 := by
    unfold State.trySend
    rw [htimed]
    dsimp only
    have hstate : ((s.chan n).state != .send) = false := by rw [hsend]; rfl
    rw [if_neg (by simp only [hrun, hgated, hstate, hmatched, hreached, hcovers, hno, Bool.not_true, Bool.or_self]; decide), hread]
    exact congrArg (fun u : State => u.parcelLeaves n a got 0) hfills
  obtain ⟨hgone, hout⟩ := parcelLeaves_of_up (s := { s with layoutTlb := l }) got 0 htimed hup
  refine ⟨_, a.header s.time, congrArg Host.Outcome.next hstep, hgone, ?_, rfl, rfl, rfl, rfl, fun i hi => ?_⟩
  · rw [hout]
    exact List.mem_append_left _ (List.mem_append_right _ List.mem_cons_self)
  · rw [hout]
    exact List.mem_append_right _ (List.mem_map.mpr ⟨i, List.mem_range.mpr hi, rfl⟩)

end send

/-- Settles O41, by what each flit does to a channel's end, where a parcel is delivered, and what leaves with a send. -/
theorem parcelsAndCredits : Obligations.ParcelsAndCredits := by
  intro s n hn hup
  refine ⟨fun h k hk => ⟨fun hkind hrecv => header_clause hn hup hk hkind hrecv, fun hbad => bad_header_clause hn hup hbad⟩,
    fun p bs page hparcels hlen hgot hdrop hslot halign hpage => data_clause hn hup hparcels hlen hgot hdrop hslot halign hpage,
    fun p hparcels hrecv hheld hnew =>
      ⟨fun r x hsink hrecvs hctx hawait hcovers => receive_parcel_clause hparcels hrecv hheld hnew hsink hrecvs hctx hawait hcovers,
        fun q g hsink hq hg henable haccepts hroom => queue_parcel_clause hparcels hrecv hheld hnew hsink hq hg henable haccepts hroom⟩,
    fun k hsend hmatched hwait => credit_clause hn hup hsend hmatched hwait,
    fun a got htimed hrun => ⟨fun hnot => send_early_clause htimed hnot,
      fun hreached hgated hsend hmatched hcovers hwaits hread =>
        send_leaves_clause htimed hup hrun hreached hgated hsend hmatched hcovers hwaits hread⟩⟩

end Sys2Proof.Machine

/-! ## Collectives of the ring (R94 to R98) -/

namespace Sys2Proof.Machine

set_option Elab.async false

/-! ### What an engine's write leaves unchanged (R247) -/

/-- The state apart from the memories and their clocks, the contexts, the writes and posted writes on their way, the poisoned sectors, and what the
memory-side cache and its controllers do. -/
def State.apart (s : State) : State :=
  { s with dies := [], clusters := [], cores := [], ctxs := [], writes := [], nextWrite := 0, hostReqs := [], nextId := 0, poison := [], llc := []
           llcLast := [], dram := [], freeCtr := 0 }

theorem State.foldl_apart {β : Type} {step : State → β → State} (h : ∀ u b, (step u b).apart = u.apart) {l : List β} {s : State} :
    (l.foldl step s).apart = s.apart := by
  induction l generalizing s with
  | nil => rfl
  | cons b l ih => exact ih.trans (h s b)

theorem State.apart_of_behindCache {s t : State} (h : s.SameBehindCache t) : t.apart = s.apart := h.keeps State.apart fun _ _ _ _ _ => rfl

theorem State.apart_modCtx (s : State) (c : Nat) (f : Ctx → Ctx) : (s.modCtx c f).apart = s.apart := by
  rw [State.modCtx_eq]
  rfl

theorem State.apart_setAccByte (s : State) (core off : Nat) (b : Byte) : (s.setAccByte core off b).apart = s.apart := by
  unfold State.setAccByte State.modAccTile
  dsimp only
  split <;> rfl

theorem State.apart_writeLoc (s : State) (d : Nat) (l : Loc) (bs : List Byte) : (s.writeLoc d l bs).apart = s.apart := by
  cases l with
  | global pa =>
    show (s.writePhys d pa bs).apart = _
    unfold State.writePhys
    split <;> rfl
  | acc k off =>
    have hbytes : ∀ (bs : List Byte) (u : State) (o : Nat),
        (bs.foldl (fun (p : State × Nat) b => (p.1.setAccByte k p.2 b, p.2 + 1)) (u, o)).1.apart = u.apart := by
      intro bs
      induction bs with
      | nil => exact fun u o => rfl
      | cons b bs ih => exact fun u o => (ih _ _).trans (State.apart_setAccByte u k o b)
    exact hbytes bs s off
  | spad k off => rfl
  | sram k off => rfl
  | host a => rfl
  | mmio off => rfl
  | spill k off => rfl

theorem State.apart_writePieces (d fuel : Nat) (l : Loc) (bs : List Byte) (s : State) : (s.writePieces d fuel l bs).apart = s.apart := by
  induction fuel generalizing l bs s with
  | zero => rfl
  | succ fuel ih =>
    cases bs with
    | nil => rfl
    | cons b bs =>
      unfold State.writePieces
      dsimp only
      split
      · exact (ih _ _ _).trans (State.apart_writeLoc s d l _)
      · exact (ih _ _ _).trans (State.apart_writeLoc s d l _)

/-- An engine's write changes nothing apart from the memories and what follows them. -/
theorem State.apart_engWrite {s u : State} {g : Agent} {a : W64} {bs : List Byte} (h : s.engWrite g a bs = .ok u) : u.apart = s.apart := by
  unfold State.engWrite at h
  split at h
  · cases h
  · next ls _ =>
    obtain rfl := Except.ok.inj h
    have hruns : ∀ (l : List (Loc × Nat)) (v : State) (bs : List Byte), (l.foldl (fun (p : State × List Byte) r =>
        (p.1.writePieces g.die (r.2 + 1) r.1 (p.2.take r.2), p.2.drop r.2)) (v, bs)).1.apart = v.apart := by
      intro l
      induction l with
      | nil => exact fun v bs => rfl
      | cons r l ih => exact fun v bs => (ih _ _).trans (State.apart_writePieces g.die _ r.1 _ v)
    obtain ⟨p, hp⟩ := State.unpoison_eq (ls.foldl (fun (p : State × List Byte) r =>
      (p.1.writePieces g.die (r.2 + 1) r.1 (p.2.take r.2), p.2.drop r.2)) (s, bs)).1 ls
    refine (State.apart_of_behindCache (State.sameBehindCache_touchRuns _ true ls)).trans ?_
    rw [hp]
    exact hruns ls s bs

/-! ### The directions of the ring -/

theorem State.oxDir_modOx (s : State) (west : Bool) (f : OxDir → OxDir) : (s.modOx west f).oxDir west = f (s.oxDir west) := by
  cases west <;> rfl

theorem State.oxStart_of_empty {s : State} {west : Bool} (h : (s.oxDir west).queue = []) : s.oxStart west = s := by
  unfold State.oxStart
  rw [h]

/-- A collective that has started does not start again. -/
theorem State.oxStart_of_started {s : State} {west : Bool} {c : Coll} (h : (s.oxDir west).queue = [c]) (hstarted : c.started = true) :
    s.oxStart west = s := by
  unfold State.oxStart
  rw [h]
  refine if_pos ?_
  rw [hstarted]
  rfl

/-- The only collective of a direction leaves it, and nothing starts. -/
theorem State.oxNext_of_one {s : State} {west : Bool} {c : Coll} (h : (s.oxDir west).queue = [c]) :
    s.oxNext west = s.modOx west (fun o => { o with queue := o.queue.drop 1 }) ∧
      ((s.modOx west fun o => { o with queue := o.queue.drop 1 }).oxDir west).queue = [] := by
  have hempty : ((s.modOx west fun o => { o with queue := o.queue.drop 1 }).oxDir west).queue = [] := by
    rw [State.oxDir_modOx, h]
    rfl
  exact ⟨State.oxStart_of_empty hempty, hempty⟩

/-- A collective that ends short answers at once where nothing waits and all writes have been applied everywhere. -/
theorem State.oxReply_of_everywhere {s : State} {c : Coll} (status : Nat) (hwaits : s.writeWaits = [])
    (hall : ∀ w ∈ s.writes, w.everywhere = true) : s.oxReply c status = s.replyTo c.ctx c.token c.dest (BitVec.ofNat 64 status) := by
  have hids (l : List Nat) (v : List WriteWait) : l.all ({ s with writeWaits := v } : State).reached = true := by
    rw [List.all_eq_true]
    intro i _
    unfold State.reached
    rw [List.all_eq_true]
    intro w hw
    rw [hall w hw, Bool.or_true]
  have hnone : ({ s with writeWaits := [] } : State) = s := by
    rw [← hwaits]
  unfold State.oxReply State.settleWaits
  simp only [hwaits, List.nil_append, List.filter_cons, hids, Bool.not_true, Bool.false_eq_true, if_false, if_true, List.filter_nil, List.foldl_cons,
    List.foldl_nil, hnone]

section ring
variable {s : State} {west : Bool} {c : Coll} (hqueue : (s.oxDir west).queue = [c])
include hqueue

section flit
variable (hstarted : c.started = true) (habsorb : (s.oxDir west).absorb = false) (hfull : c.full = false) (heast : (s.port 6).up = true)
  (hwest : (s.port 7).up = true)
include hstarted habsorb hfull heast hwest

/-- An abort reaches a collective that has started and wants data: it ends with status 3, and the abort goes on. -/
theorem recvOx_abort : s.linkNow.recvOx west .abort = (s.linkNow.sendPort (if west then 7 else 6) (.oxbow west .abort)).oxEnd west c 3 := by
  have hup : (s.linkNow.port (if west then 6 else 7)).up = true := by
    cases west
    · exact hwest
    · exact heast
  have hq : (s.linkNow.oxDir west).queue = [c] := hqueue
  have ha : (s.linkNow.oxDir west).absorb = false := habsorb
  unfold State.recvOx
  simp only [hup, ha, State.oxStart_of_started hq hstarted, hq, hfull, Bool.not_true, Bool.false_eq_true, if_false]

/-- A partial sum for another replica goes on with this replica's part of the shard. -/
theorem recvOx_partialSum {k : Nat} {bs mine : List Byte} (hrun : c.suspended = false) (hlen : bs.length = c.shardLen) (hk : k < c.p)
    (hpos : k ≠ c.pos) (hread : s.linkNow.collRead c.agent (c.shardAddr k) ((c.shardLen - c.mine.length) / 32) c.mine = (mine, none)) :
    s.linkNow.recvOx west (.partialSum c.hdr k bs) =
      ((s.linkNow.modColl west fun c => { c with mine := mine }).modColl west fun c => { c with mine := [] }).sendPort (if west then 7 else 6)
        (.oxbow west (.partialSum c.hdr k (addShards c.fp32 c.shardLen bs mine))) := by
  have hup : (s.linkNow.port (if west then 6 else 7)).up = true := by
    cases west
    · exact hwest
    · exact heast
  have hq : (s.linkNow.oxDir west).queue = [c] := hqueue
  have ha : (s.linkNow.oxDir west).absorb = false := habsorb
  have hlength : (bs.length != c.shardLen) = false := by rw [hlen, bne_self_eq_false]
  unfold State.recvOx
  simp only [hup, ha, State.oxStart_of_started hq hstarted, hq, hfull, hstarted, hrun, hlength, Nat.not_le.mpr hk, State.collShard, hread, hpos,
    Bool.not_true, Bool.false_eq_true, Bool.or_self, decide_false, ne_eq, not_true_eq_false, not_false_eq_true, if_false, if_true]

theorem abort_clause {x : Ctx} (hctx : s.ctx c.ctx = some x) (hawait : x.AwaitsOnly c.dest [eDestOf c.dest]) (hwaits : s.writeWaits = [])
    (hwrites : ∀ w ∈ s.writes, w.everywhere = true) :
    ∃ t y, exec (.oxbowFlitReceive west .abort) s = .next t ∧ .oxbow west .abort ∈ t.out ∧ (t.oxDir west).queue = [] ∧
      t.ctx c.ctx = some y ∧ y.tokCount c.token = x.tokCount c.token - 1 ∧ (c.dest % 64 < 32 → SMap.get 0#64 y.e (c.dest % 64) = 3#64) := by
  have hdown : (s.linkNow.port (if west then 7 else 6)).up = true := by
    cases west
    · exact heast
    · exact hwest
  have hstep := recvOx_abort hqueue hstarted habsorb hfull heast hwest
  rw [State.out_sendPort _ hdown, State.oxEnd] at hstep
  generalize hu : ({ s.linkNow with linkAt := s.linkNow.time, out := s.linkNow.out ++ [.oxbow west .abort] } : State) = u at hstep
  have hkeeps : u.writeWaits = [] ∧ u.writes = s.writes ∧ (u.oxDir west).queue = [c] ∧ u.ctx c.ctx = some x ∧ Out.oxbow west .abort ∈ u.out := by
    rw [← hu]
    exact ⟨hwaits, rfl, hqueue, hctx, List.mem_append_right _ List.mem_cons_self⟩
  obtain ⟨hw, hwr, hq, hc, hout⟩ := hkeeps
  obtain ⟨cs, y, hreply, hy, htok, -, he⟩ := State.replyTo_only hc (k := c.token) 3#64 hawait
  obtain ⟨hnext, hempty⟩ := State.oxNext_of_one (s := { u with ctxs := cs }) (west := west) hq
  rw [State.oxReply_of_everywhere 3 hw (by rw [hwr]; exact hwrites), hreply, hnext] at hstep
  refine ⟨_, y, congrArg Host.Outcome.next hstep, ?_, hempty, ?_, htok, he⟩
  · cases west <;> exact hout
  · cases west <;> exact hy

theorem partial_sum_clause {k : Nat} {bs mine : List Byte} (hrun : c.suspended = false) (hlen : bs.length = c.shardLen) (hk : k < c.p)
    (hpos : k ≠ c.pos) (hread : s.linkNow.collRead c.agent (c.shardAddr k) ((c.shardLen - c.mine.length) / 32) c.mine = (mine, none)) :
    ∃ t, exec (.oxbowFlitReceive west (.partialSum c.hdr k bs)) s = .next t ∧ t.home = s.home ∧
      .oxbow west (.partialSum c.hdr k (addShards c.fp32 c.shardLen bs mine)) ∈ t.out := by
  have hstep := recvOx_partialSum hqueue hstarted habsorb hfull heast hwest hrun hlen hk hpos hread
  generalize hu : ((s.linkNow.modColl west fun c => { c with mine := mine }).modColl west fun c => { c with mine := [] }) = u at hstep
  have hkeeps : u.home = s.home ∧ u.ports = s.ports := by
    rw [← hu]
    cases west <;> exact ⟨rfl, rfl⟩
  obtain ⟨hhome, hports⟩ := hkeeps
  have hdown : (u.port (if west then 7 else 6)).up = true := by
    unfold State.port
    rw [hports]
    cases west
    · exact heast
    · exact hwest
  rw [State.out_sendPort _ hdown] at hstep
  exact ⟨_, congrArg Host.Outcome.next hstep, hhome, List.mem_append_right _ List.mem_cons_self⟩

end flit

theorem flag_clause {k : Nat} {u : State} (hop : c.op = 2) (hbase : c.flagBase ≠ 0) (hplaced : k ∈ c.placed) (hnew : k ∉ c.flagged)
    (hrun : c.suspended = false)
    (hwrite : s.engWrite c.agent (BitVec.ofNat 64 (c.flagBase + 8 * k)) (toBytes 8 c.flagVal.toNat) = .ok u) :
    ∃ t, exec (.oxbowFlagWrite west k) s = .next t ∧ t.home = u.home ∧ t.dies = u.dies ∧
      (t.oxDir west).queue = [{ c with flagged := c.flagged ++ [k], rel := (t.die 3).vc }] := by
  have hstep : s.oxFlag west k = u.modColl west fun c => { c with flagged := c.flagged ++ [k], rel := (u.die 3).vc } := by
    have hin : c.placed.contains k = true := List.contains_iff_mem.mpr hplaced
    unfold State.oxFlag
    simp only [hqueue, hop, hbase, hin, List.contains_iff_mem, hnew, hrun, hwrite, ne_eq, not_true_eq_false, Bool.not_true, Bool.false_eq_true,
      or_self, if_false]
  have hdir : u.oxDir west = s.oxDir west := by
    have hapart := State.apart_engWrite hwrite
    obtain ⟨hwest, heast⟩ : u.oxWest = s.oxWest ∧ u.oxEast = s.oxEast := by
      refine ⟨?_, ?_⟩
      · show u.apart.oxWest = s.apart.oxWest
        rw [hapart]
      · show u.apart.oxEast = s.apart.oxEast
        rw [hapart]
    unfold State.oxDir
    rw [hwest, heast]
  refine ⟨_, congrArg Host.Outcome.next hstep, ?_, ?_, ?_⟩
  · cases west <;> rfl
  · cases west <;> rfl
  · have hdie : ((u.modColl west fun c => { c with flagged := c.flagged ++ [k], rel := (u.die 3).vc }).die 3).vc = (u.die 3).vc := by
      cases west <;> rfl
    rw [hdie]
    unfold State.modColl
    rw [State.oxDir_modOx, hdir, hqueue]

theorem complete_clause {x : Ctx} (hcomplete : c.complete = true) (hdone : c.donek = 0) (hgated : s.gatedOff = false)
    (hcovers : (s.die (ctxDie c.ctx)).vc.covers c.rel = true) (hctx : s.ctx c.ctx = some x) (hawait : x.AwaitsOnly c.dest [eDestOf c.dest]) :
    ∃ t y, exec (.collectiveComplete west) s = .next t ∧ (t.oxDir west).queue = [] ∧ t.ctx c.ctx = some y ∧
      y.tokCount c.token = x.tokCount c.token - 1 ∧ (c.dest % 64 < 32 → SMap.get 0#64 y.e (c.dest % 64) = 0#64) := by
  have hstep : s.oxComplete west = (s.replyTo c.ctx c.token c.dest 0#64).oxNext west := by
    unfold State.oxComplete
    simp only [hqueue, hcomplete, hgated, hcovers, hdone, Bool.not_true, Bool.or_self, Bool.false_eq_true, if_false, if_true]
    rfl
  obtain ⟨cs, y, hreply, hy, htok, -, he⟩ := State.replyTo_only hctx (k := c.token) 0#64 hawait
  obtain ⟨hnext, hempty⟩ := State.oxNext_of_one (s := { s with ctxs := cs }) (west := west) hqueue
  rw [hreply, hnext] at hstep
  refine ⟨_, y, congrArg Host.Outcome.next hstep, hempty, ?_, htok, he⟩
  cases west <;> exact hy

end ring

/-- Settles O42, by the collective at the head of a direction, which an abort or its end takes from it. -/
theorem ringCollectives : Obligations.RingCollectives := by
  intro s west c hqueue habsorb hstarted heast hwest
  refine ⟨fun x hfull hctx hawait hwaits hwrites => abort_clause hqueue hstarted habsorb hfull heast hwest hctx hawait hwaits hwrites,
    fun k bs mine hfull hrun hlen hk hpos hread => partial_sum_clause hqueue hstarted habsorb hfull heast hwest hrun hlen hk hpos hread,
    fun k u hop hbase hplaced hnew hrun hwrite => flag_clause hqueue hop hbase hplaced hnew hrun hwrite,
    fun x hcomplete hdone hgated hcovers hctx hawait => complete_clause hqueue hcomplete hdone hgated hcovers hctx hawait⟩

end Sys2Proof.Machine

/-! ## Stages, arrivals and posts (R130 to R132, R140, R141, R146, R147, R467) -/

namespace Sys2Proof.Machine

set_option Elab.async false

/-! ### Enabling and disabling -/

/-- A walk depends on the poisoned sectors and on the entries that its die reads. -/
theorem walkFrom_congr {s t : State} {d : Nat} (hpoison : t.poison = s.poison) (hread : ∀ a, t.readEntry d a = s.readEntry d a) (va lvl table : Nat) :
    t.walkFrom d va lvl table = s.walkFrom d va lvl table := by
  induction lvl generalizing table with
  | zero => rfl
  | succ lvl ih =>
    have hp (l : Loc) (n : Nat) : t.poisoned l n = s.poisoned l n := by
      unfold State.poisoned
      rw [hpoison]
    unfold State.walkFrom
    simp only [hp, hread, ih]

theorem State.view_modStage (s : State) (d n e : Nat) (f : Stage → Stage) : ((s.modStage d n f).die e).view = (s.die e).view := by
  by_cases h : e = d
  · rw [h, State.modStage, State.die_modDie_self]
  · rw [State.modStage, State.die_modDie_ne _ _ _ _ h]

/-- A write of a stage's registers leaves every translation. -/
theorem State.mapped_modStage (s : State) (d n e va : Nat) (f : Stage → Stage) : (s.modStage d n f).mapped e va = s.mapped e va := by
  have hread (a : Nat) : (s.modStage d n f).readEntry e a = s.readEntry e a := by
    unfold State.readEntry State.readPhys
    rw [State.view_modStage]
    rfl
  have hwalk : (s.modStage d n f).walk e va = s.walk e va := by
    unfold State.walk
    rw [show (s.modStage d n f).ttroot = s.ttroot from rfl, walkFrom_congr (s := s) (t := s.modStage d n f) rfl hread]
  unfold State.mapped
  rw [hwalk]

theorem State.stage_modStage_ne (s : State) {d n k : Nat} (f : Stage → Stage) (h : k ≠ n) : (s.modStage d n f).stage d k = s.stage d k := by
  unfold State.stage State.modStage
  rw [State.die_modDie_self]
  exact SMap.get_modify_ne _ _ _ _ _ h

section stage
variable {s : State} {d n : Nat} {g : Stage} (hd : d < 4) (hn : n < 8) (hg : g = s.stage d n)
include hd hn

theorem stageGuard : ¬ (4 ≤ d ∨ 8 ≤ n) := by omega

include hg

theorem stage_disable_clause (w : Bool) : ∃ t, exec (.stageDisable d n w) s = .next t ∧
    t.stage d n = { g with wsplit := w, enable := false, stalled := false } := by
  refine ⟨_, congrArg Host.Outcome.next (if_neg (stageGuard hd hn)), ?_⟩
  rw [State.stage_modStage_self, ← hg]

omit hd hn in
/-- The write of WSPLIT that comes with an enabling write does not bear on its checks. -/
theorem enableStatus_modStage (w : Bool) : (s.modStage d n fun g => { g with wsplit := w }).enableStatus d n =
    if s.stageOverlaps d n = true then 1 else if g.clusters = [] then 2
    else if g.tmplbase.toNat % 65536 ≠ 0 ∨ g.framebase.toNat % 4096 ≠ 0 then 3
    else if s.mapped d g.tmplbase.toNat = none ∨ s.mapped d g.framebase.toNat = none then 4
    else if g.policy.any (fun kv => policyBad kv.2) = true then 5 else 0 := by
  have hself : (s.modStage d n fun g => { g with wsplit := w }).stage d n = { g with wsplit := w } := by
    rw [State.stage_modStage_self, ← hg]
  have hclusters : ({ g with wsplit := w } : Stage).clusters = g.clusters := rfl
  have hoverlap : (s.modStage d n fun g => { g with wsplit := w }).stageOverlaps d n = s.stageOverlaps d n := by
    unfold State.stageOverlaps
    refine congrArg (List.any (List.range 8)) (funext fun k => ?_)
    by_cases h : k = n
    · rw [h, bne_self_eq_false]
      rfl
    · rw [State.stage_modStage_ne _ _ h, hself, ← hg, hclusters]
  unfold State.enableStatus
  simp only [hself, hoverlap, hclusters, State.mapped_modStage, List.isEmpty_iff, Option.isNone_iff_eq_none]

theorem stage_enable_clause (w : Bool) (hoff : g.enable = false) : ∃ t, exec (.stageEnable d n w) s = .next t ∧ (t.stage d n).wsplit = w ∧
    (t.stage d n).fq = g.fq ∧ t.home = s.home ∧
    (if s.stageOverlaps d n = true then (t.stage d n).estat = 1#4 ∧ (t.stage d n).enable = false
     else if g.clusters = [] then (t.stage d n).estat = 2#4 ∧ (t.stage d n).enable = false
     else if g.tmplbase.toNat % 65536 ≠ 0 ∨ g.framebase.toNat % 4096 ≠ 0 then (t.stage d n).estat = 3#4 ∧ (t.stage d n).enable = false
     else if s.mapped d g.tmplbase.toNat = none ∨ s.mapped d g.framebase.toNat = none then
       (t.stage d n).estat = 4#4 ∧ (t.stage d n).enable = false
     else if g.policy.any (fun kv => policyBad kv.2) = true then (t.stage d n).estat = 5#4 ∧ (t.stage d n).enable = false
     else (t.stage d n).estat = 0#4 ∧ (t.stage d n).enable = true ∧ s.mapped d g.tmplbase.toNat = some (t.stage d n).tmplPa ∧
       s.mapped d g.framebase.toNat = some (t.stage d n).framePa) := by
  have hstatus := enableStatus_modStage hg w
  have hself : (s.modStage d n fun g => { g with wsplit := w }).stage d n = { g with wsplit := w } := by
    rw [State.stage_modStage_self, ← hg]
  have hstep : s.stageEnable d n w = _ := if_neg (stageGuard hd hn)
  simp only [hself, hoff, Bool.false_eq_true, if_false, State.mapped_modStage] at hstep
  generalize he : (s.modStage d n fun g => { g with wsplit := w }).enableStatus d n = e at hstep hstatus
  refine ⟨_, congrArg Host.Outcome.next hstep, ?_⟩
  rw [State.stage_modStage_self, hself]
  refine ⟨rfl, rfl, rfl, ?_⟩
  dsimp only
  clear hstep he hself
  by_cases hover : s.stageOverlaps d n = true
  · rw [if_pos hover] at hstatus ⊢
    subst hstatus
    exact ⟨rfl, rfl⟩
  rw [if_neg hover] at hstatus ⊢
  by_cases hclusters : g.clusters = []
  · rw [if_pos hclusters] at hstatus ⊢
    subst hstatus
    exact ⟨rfl, rfl⟩
  rw [if_neg hclusters] at hstatus ⊢
  by_cases halign : g.tmplbase.toNat % 65536 ≠ 0 ∨ g.framebase.toNat % 4096 ≠ 0
  · rw [if_pos halign] at hstatus ⊢
    subst hstatus
    exact ⟨rfl, rfl⟩
  rw [if_neg halign] at hstatus ⊢
  by_cases hmapped : s.mapped d g.tmplbase.toNat = none ∨ s.mapped d g.framebase.toNat = none
  · rw [if_pos hmapped] at hstatus ⊢
    subst hstatus
    exact ⟨rfl, rfl⟩
  rw [if_neg hmapped] at hstatus ⊢
  by_cases hpolicy : (g.policy.any fun kv => policyBad kv.2) = true
  · rw [if_pos hpolicy] at hstatus ⊢
    subst hstatus
    exact ⟨rfl, rfl⟩
  rw [if_neg hpolicy] at hstatus ⊢
  subst hstatus
  rw [not_or] at hmapped
  obtain ⟨htmpl, hframe⟩ := hmapped
  obtain ⟨a, ha⟩ := Option.ne_none_iff_exists'.mp htmpl
  obtain ⟨b, hb⟩ := Option.ne_none_iff_exists'.mp hframe
  rw [ha, hb]
  exact ⟨rfl, rfl, rfl, rfl⟩

/-! ### Arrivals -/

omit hd hn in
theorem arrival_clause {a : Arrival} {x : Ctx} {status : Nat} (harrivals : (s.die d).arrivals = [a]) (hstage : a.stage = n) (hafter : a.after = [])
    (hcovers : (s.die d).vc.covers a.clock = true) (hctx : s.ctx a.ctx = some x) (hawait : x.AwaitsOnly a.dest [.e (a.dest % 64)])
    (hdest : a.dest % 64 < 32)
    (hstatus : status = if g.enable = false then 3 else if queueAccepts a.queue a.entry.phase = false then 4
      else if a.queue = 3 ∧ a.entry.dep = 0#64 then 2 else if 256 ≤ (g.queue a.queue).length then 1 else 0) :
    ∃ t y, exec (.queueArrival d a.id) s = .next t ∧ (t.die d).arrivals = [] ∧ t.ctx a.ctx = some y ∧
      SMap.get 0#64 y.e (a.dest % 64) = BitVec.ofNat 64 status ∧ y.tokCount a.token = x.tokCount a.token - 1 ∧
      (t.stage d n).queue a.queue = if status = 0 then g.queue a.queue ++ [a.entry] else g.queue a.queue := by
  subst hstage
  have hst : g.arrivalStatus a.queue a.entry = status := by
    rw [hstatus]
    unfold Stage.arrivalStatus
    simp only [Bool.not_eq_true']
  have hfind : ((s.die d).arrivals.find? fun b => b.id == a.id) = some a := by
    rw [harrivals]
    simp
  have hdie := State.die_modDie_self s d fun x => { x with arrivals := x.arrivals.filter fun b => b.id != a.id }
  obtain ⟨b, c, k, hwake⟩ := State.wakeUp_eq (s.modDie d fun x => { x with arrivals := x.arrivals.filter fun b => b.id != a.id })
  have hstep : s.queueArrive d a.id = State.replyTo (if status = 0 then
      ((s.modDie d fun x => { x with arrivals := x.arrivals.filter fun b => b.id != a.id }).wakeUp.modStage d a.stage fun g =>
        g.setQueue a.queue (g.queue a.queue ++ [a.entry])).evalSoon d a.stage
      else (s.modDie d fun x => { x with arrivals := x.arrivals.filter fun b => b.id != a.id }).wakeUp) a.ctx a.token a.dest (BitVec.ofNat 64 status) := by
    unfold State.queueArrive
    simp only [hfind, hafter, hcovers, ← hg, hst, List.any_nil, if_true, Bool.not_true, Bool.or_self, Bool.false_eq_true, if_false]
  have hnone : ((s.die d).arrivals.filter fun b => b.id != a.id) = [] := by
    rw [harrivals]
    simp
  generalize hu : ({ s.modDie d fun x => { x with arrivals := x.arrivals.filter fun b => b.id != a.id } with act := b, gated := c, wokeAt := k } : State)
    = u at hwake
  have hu' : (u.die d).arrivals = [] ∧ u.stage d a.stage = g ∧ u.ctx a.ctx = some x := by
    have hud : u.die d = { s.die d with arrivals := (s.die d).arrivals.filter fun b => b.id != a.id } := by
      rw [← hu]
      exact hdie
    refine ⟨by rw [hud, hnone], ?_, ?_⟩
    · unfold State.stage
      rw [hud]
      exact hg.symm
    · rw [← hu]
      exact hctx
  obtain ⟨harr, hug, huctx⟩ := hu'
  rw [hwake] at hstep
  have hkeeps : ∃ v : State, (if status = 0 then (u.modStage d a.stage fun g => g.setQueue a.queue (g.queue a.queue ++ [a.entry])).evalSoon d a.stage
      else u) = v ∧ (v.die d).arrivals = [] ∧ v.ctx a.ctx = some x ∧
      (v.stage d a.stage).queue a.queue = if status = 0 then g.queue a.queue ++ [a.entry] else g.queue a.queue := by
    refine ⟨_, rfl, ?_⟩
    split
    · obtain ⟨l, hl⟩ := State.evalSoon_eq (u.modStage d a.stage fun g => g.setQueue a.queue (g.queue a.queue ++ [a.entry])) d a.stage
      rw [hl]
      refine ⟨?_, huctx, ?_⟩
      · show ((u.modStage d a.stage _).die d).arrivals = []
        rw [State.modStage, State.die_modDie_self]
        exact harr
      · refine (congrArg (fun g : Stage => g.queue a.queue) (State.stage_modStage_self u d a.stage _)).trans ?_
        rw [hug]
        exact Stage.queue_setQueue g a.queue _
    · rw [hug]
      exact ⟨harr, huctx, rfl⟩
  obtain ⟨v, hv, hvarr, hvctx, hvq⟩ := hkeeps
  have hawait' : x.AwaitsOnly a.dest [eDestOf a.dest] := by
    rw [eDestOf, if_pos hdest]
    exact hawait
  obtain ⟨cs, y, hreply, hy, htok, -, he⟩ := State.replyTo_only hvctx (k := a.token) (BitVec.ofNat 64 status) hawait'
  rw [hv, hreply] at hstep
  exact ⟨_, y, congrArg Host.Outcome.next hstep, hvarr, hy, he hdest, htok, hvq⟩

end stage

/-! ### Posts -/

/-- Outside a running session nothing ends it. -/
theorem State.checkEnd_of_not_running {s : State} (h : s.sess.state ≠ .running) : s.checkEnd = s := by
  unfold State.checkEnd
  exact if_neg fun hr => h hr.1

/-- A write at its home: the newest bytes of memory are those that it writes. -/
theorem State.writeHome_eq {s : State} (hids : ∀ v ∈ s.writes, v.id < s.nextWrite) (d pa : Nat) (bs : List Byte) : ∃ ds ws p,
    s.writeHome d pa bs = { s with
      dies := ds, home := Mem.write s.home pa bs, writes := ws, nextWrite := s.nextWrite + 1, nextPlace := s.nextPlace + 1, poison := p } ∧
    ∀ v ∈ ws, v.id < s.nextWrite + 1 := by
  have hfind : ((s.writeGlobal d pa bs).writes.find? fun v => v.id == s.nextWrite) =
      some ⟨s.nextWrite, d, (s.die d).vc.set d ((s.die d).vc.get d + 1), pa, bs, none, [d], []⟩ := by
    refine List.find?_append.trans ?_
    rw [List.find?_eq_none.mpr]
    · simp
    · intro v hv
      have := hids v hv
      rw [beq_iff_eq]
      omega
  have hplace : (s.writeGlobal d pa bs).placeWrite s.nextWrite = { s.writeGlobal d pa bs with
      home := Mem.write s.home pa bs, nextPlace := s.nextPlace + 1
      writes := mapWhere (fun v => v.id == s.nextWrite) (fun v => { v with place := some s.nextPlace }) (s.writeGlobal d pa bs).writes } := by
    unfold State.placeWrite
    simp only [hfind, Option.isSome_none, Bool.false_eq_true, if_false]
    rfl
  obtain ⟨p, hp⟩ := State.unpoison_eq ((s.writeGlobal d pa bs).placeWrite s.nextWrite) [(.global pa, bs.length)]
  refine ⟨_, _, p, hp.trans (by rw [hplace]; rfl), ?_⟩
  intro v hv
  obtain ⟨w, hw, rfl⟩ := List.mem_map.mp hv
  have hid : w.id < s.nextWrite + 1 := by
    obtain h | h := List.mem_append.mp hw
    · exact Nat.lt_succ_of_lt (hids w h)
    · rw [List.mem_singleton.mp h]
      exact Nat.lt_succ_self _
  split
  · exact hid
  · exact hid

/-- Counting modulo 2^32 does not bear on the four bytes of a count. -/
theorem toBytes_mod (n x : Nat) : toBytes n (x % 256 ^ n) = toBytes n x := by
  induction n generalizing x with
  | zero => rfl
  | succ n ih =>
    have hlow : BitVec.ofNat 8 (x % 256 ^ (n + 1)) = BitVec.ofNat 8 x := by
      apply BitVec.eq_of_toNat_eq
      rw [BitVec.toNat_ofNat, BitVec.toNat_ofNat, Nat.pow_succ]
      exact Nat.mod_mul_left_mod x (256 ^ n) 256
    rw [toBytes, toBytes, hlow, Nat.pow_succ, Nat.mul_comm, Nat.mod_mul_right_div_self, ih]

theorem State.sameOutside_collReplies (s : State) (r : Option (Nat × Nat × Nat)) : s.SameOutside (s.collReplies r) := by
  unfold State.collReplies
  split
  · exact State.sameOutside_answerResult s _ _ _ _
  · exact .refl s

section post
variable {s : State} {p : Post} {pa : Nat} {b : Jcb} (hrun : s.sess.state ≠ .running) (hposts : s.posts = [p]) (hreply : p.reply = none)
  (hafter : p.after = []) (hblock : p.block = .global pa) (hready : s.blockReady p.die p.block p.clock = true)
  (hclean : s.poisonIn (p.block.runs 32) = none) (hwrites : ∀ w ∈ s.writes, w.id < s.nextWrite ∧ (w.die = p.die → w.place ≠ none))
  (hb : b = jcbOf (Mem.read s.home pa 32)) (hopen : b.state = 0)
include hrun hposts hreply hafter hblock hready hclean

/-- A post that is due takes effect on its block, and answers the collective that made it. -/
theorem jcbPost_eq {u : State} (happly : (({ s with posts := [] } : State).applyPost p.die (.global pa)).1 = u) (hkeep : u.sess = s.sess) :
    ∃ t, exec (.jcbPost (.post p.id)) s = .next t ∧ u.SameOutside t := by
  have hstep : s.jcbPost p.id = u.collReplies p.coll := by
    have hclean' : State.poisonIn { s with posts := [] } (p.block.runs 32) = none := hclean
    unfold State.jcbPost
    simp only [hposts, List.find?_cons, BEq.rfl, hafter, List.any_nil, if_true, hready, Bool.not_true, Bool.or_self, Bool.false_eq_true, if_false,
      List.filter_cons, bne_self_eq_false, List.filter_nil, hclean', hreply]
    rw [hblock, happly]
  have hsame := State.sameOutside_collReplies u p.coll
  have hnot : (u.collReplies p.coll).sess.state ≠ .running := by
    rw [hsame.keeps State.sess fun _ _ _ _ => rfl, hkeep]
    exact hrun
  refine ⟨_, congrArg Host.Outcome.next ?_, hsame⟩
  show (s.jcbPost p.id).checkEnd = _
  rw [hstep, State.checkEnd_of_not_running hnot]

include hwrites hb hopen

omit hrun hposts hreply hafter hblock hready hclean hopen in
/-- The block stands at its home as it is: the die has no write to it without a place. -/
theorem blockHome_eq : ({ s with posts := [] } : State).blockHome p.die (.global pa) = (b, { s with posts := [] }) := by
  have hsettle : ({ s with posts := [] } : State).settle p.die pa 32 = { s with posts := [] } := 
    settle_of_placed (s := { s with posts := [] }) (fun w hw => (hwrites w hw).2) 32
  unfold State.blockHome
  simp only [hsettle, hb]

theorem post_counts_clause (hless : b.done + 1 < b.expected) :
    ∃ t, exec (.jcbPost (.post p.id)) s = .next t ∧ t.posts = [] ∧ t.succs = s.succs ∧ t.home = Mem.write s.home (pa + 4) (toBytes 4 (b.done + 1)) := by
  obtain ⟨ds, ws, q, hwrite, -⟩ := State.writeHome_eq (s := { s with posts := [] }) (fun v hv => (hwrites v hv).1) p.die (pa + 4) (toBytes 4 (b.done + 1))
  have happly : (({ s with posts := [] } : State).applyPost p.die (.global pa)).1 =
      ({ s with posts := [] } : State).writeHome p.die (pa + 4) (toBytes 4 (b.done + 1)) := by
    have hmod := toBytes_mod 4 (b.done + 1)
    unfold State.applyPost
    simp only [blockHome_eq hwrites hb, hopen, ne_eq, not_true_eq_false, if_false, hless, if_true]
    rw [show 2 ^ 32 = 256 ^ 4 from rfl, hmod]
    rfl
  obtain ⟨t, ht, hsame⟩ := jcbPost_eq hrun hposts hreply hafter hblock hready hclean happly (by rw [hwrite])
  rw [hwrite] at hsame
  exact ⟨t, ht, hsame.keeps State.posts fun _ _ _ _ => rfl, hsame.keeps State.succs fun _ _ _ _ => rfl, hsame.keeps State.home fun _ _ _ _ => rfl⟩

theorem post_completes_clause (hlast : b.done + 1 = b.expected) (hlow : 1 ≤ b.suckind) (hhigh : b.suckind ≤ 3) :
    ∃ t q, exec (.jcbPost (.post p.id)) s = .next t ∧ t.posts = [] ∧ t.succs = s.succs ++ [q] ∧ q.kind = b.suckind ∧ q.arg = b.succ ∧
      q.block = p.block ∧
      t.home = Mem.write (Mem.write s.home (pa + 4) (toBytes 4 (b.done + 1))) (pa + 8) (toBytes 1 (4 * b.rsv + 1)) := by
  obtain ⟨ds, ws, q, hwrite, hids⟩ := State.writeHome_eq (s := { s with posts := [] }) (fun v hv => (hwrites v hv).1) p.die (pa + 4)
    (toBytes 4 (b.done + 1))
  obtain ⟨ds', ws', q', hwrite', -⟩ := State.writeHome_eq (s := { s with
    posts := [], dies := ds, home := Mem.write s.home (pa + 4) (toBytes 4 (b.done + 1)), writes := ws, nextWrite := s.nextWrite + 1
    nextPlace := s.nextPlace + 1, poison := q }) hids p.die (pa + 8) (toBytes 1 (4 * b.rsv + 1))
  rw [← hwrite] at hwrite'
  obtain ⟨a, hsoon⟩ := State.weirsSoon_eq ((({ s with posts := [] } : State).writeHome p.die (pa + 4) (toBytes 4 (b.done + 1))).writeHome p.die (pa + 8)
    (toBytes 1 (4 * b.rsv + 1)))
  generalize hu : State.weirsSoon ((({ s with posts := [] } : State).writeHome p.die (pa + 4) (toBytes 4 (b.done + 1))).writeHome p.die (pa + 8)
    (toBytes 1 (4 * b.rsv + 1))) = u at hsoon
  have happly : (({ s with posts := [] } : State).applyPost p.die (.global pa)).1 = { u with
      succs := u.succs ++ [{ id := u.nextId, block := .global pa, kind := b.suckind, arg := b.succ, otag := b.owner.extractLsb' 32 32
                             clock := (u.die p.die).vc }]
      nextId := u.nextId + 1 } := by
    have hmod := toBytes_mod 4 (b.done + 1)
    have hsuc : ¬ (b.suckind = 0 ∨ 3 < b.suckind) := by omega
    have hcount : ¬ b.done + 1 < b.expected := by omega
    rw [← hu]
    unfold State.applyPost
    simp only [blockHome_eq hwrites hb, hopen, ne_eq, not_true_eq_false, if_false, if_neg hcount, if_pos hlast, hsuc]
    rw [show 2 ^ 32 = 256 ^ 4 from rfl, hmod]
    rfl
  rw [hwrite'] at hsoon
  obtain ⟨t, ht, hsame⟩ := jcbPost_eq hrun hposts hreply hafter hblock hready hclean happly (by rw [hsoon]; rw [hwrite])
  rw [hsoon, hwrite] at hsame
  exact ⟨t, _, ht, hsame.keeps State.posts fun _ _ _ _ => rfl, hsame.keeps State.succs fun _ _ _ _ => rfl, rfl, rfl, hblock.symm,
    hsame.keeps State.home fun _ _ _ _ => rfl⟩

end post

/-! ### Successors -/

theorem successor_clause {s : State} {q : Succ} {d n k : Nat} {g : Stage} (hrun : s.sess.state ≠ .running) (hsuccs : s.succs = [q]) (hkind : q.kind = 1)
    (hgo : q.suspended = false) (hd : d = bits q.arg 11 10) (hn : n = bits q.arg 9 7) (hk : k = bits q.arg 6 5) (hg : g = s.stage d n)
    (haccepts : queueAccepts k (bits q.arg 3 0) = true) (huq : k ≠ 3) (henable : g.enable = true) (hroom : (g.queue k).length < 256)
    (hcovers : (s.die d).vc.covers q.clock = true) :
    ∃ t, exec (.successorEvent q.block.homeDie q.id) s = .next t ∧ t.succs = [] ∧
      (t.stage d n).queue k = g.queue k ++ [{ tag := q.arg.extractLsb' 32 32, phase := bits q.arg 3 0, chan := 0xFFFF#16, seq := 0#16, dep := 0#64
                                              depCluster := 0, lt := 0#64 }] := by
  generalize he : ({ tag := q.arg.extractLsb' 32 32, phase := bits q.arg 3 0, chan := 0xFFFF#16, seq := 0#16, dep := 0#64, depCluster := 0
                     lt := 0#64 } : QEntry) = e
  have hstep : s.successor q.block.homeDie q.id =
      ((({ s with succs := [] } : State).modStage d n fun g => g.setQueue k (g.queue k ++ [e])).wakeUp).evalSoon d n := by
    unfold State.successor
    simp only [hsuccs, List.find?_cons, BEq.rfl, hgo, ne_eq, not_true_eq_false, Bool.false_eq_true, or_self, if_false, hkind, State.succEnqueue, ← hd,
      ← hn, ← hk, ← hg, haccepts, Bool.not_true, huq, henable, Nat.not_le.mpr hroom, decide_false, hcovers, Bool.or_self, List.filter_cons,
      bne_self_eq_false, List.filter_nil, he]
  obtain ⟨a, b, w, hwake⟩ := State.wakeUp_eq (({ s with succs := [] } : State).modStage d n fun g => g.setQueue k (g.queue k ++ [e]))
  obtain ⟨l, hsoon⟩ := State.evalSoon_eq ({ ({ s with succs := [] } : State).modStage d n fun g => g.setQueue k (g.queue k ++ [e]) with
    act := a, gated := b, wokeAt := w }) d n
  rw [hwake, hsoon] at hstep
  refine ⟨_, congrArg Host.Outcome.next ((congrArg State.checkEnd hstep).trans (State.checkEnd_of_not_running hrun)), rfl, ?_⟩
  refine (congrArg (fun g : Stage => g.queue k) (State.stage_modStage_self { s with succs := [] } d n _)).trans ?_
  refine (Stage.queue_setQueue _ k _).trans ?_
  rw [hg]
  rfl

/-- Settles O43, by the status of an enabling write, the queue that an arrival joins, and what a post leaves in its block. -/
theorem stagesArrivalsAndPosts : Obligations.StagesArrivalsAndPosts := by
  refine ⟨fun s d n g hd hn hg => ⟨fun w hoff => stage_enable_clause hd hn hg w hoff, fun w => stage_disable_clause hd hn hg w,
      fun a x status harrivals hstage hafter hcovers hctx hawait hdest _ hstatus =>
        arrival_clause hg harrivals hstage hafter hcovers hctx hawait hdest hstatus⟩,
    fun s hrun => ⟨fun p pa b hposts hreply hafter hblock hready hclean hwrites hb hopen =>
      ⟨fun hless => post_counts_clause hrun hposts hreply hafter hblock hready hclean hwrites hb hopen hless,
        fun hlast hlow hhigh => post_completes_clause hrun hposts hreply hafter hblock hready hclean hwrites hb hopen hlast hlow hhigh⟩,
      fun q d n k g hsuccs hkind hgo hd hn hk hg haccepts huq henable hroom hcovers =>
        successor_clause hrun hsuccs hkind hgo hd hn hk hg haccepts huq henable hroom hcovers⟩⟩

end Sys2Proof.Machine

/-! ## Steps of stages (R275) -/

namespace Sys2Proof.Machine

set_option Elab.async false

/-- A captured gang whose core image comes, by the number of its tasks, to the accumulator store of core 0. -/
def savedGang (tasks : Nat) : Gang :=
  { id := 0, die := 0, step := some (0, 0), klass := 0, members := [], ntask := tasks, joinwait := 0, win := 0#3, part := 0x1000000#64
    savebase := 0#64, cores := [0], captured := true }

/-- The gang is to be written out, and a context of core 0 has an element in its tile. -/
def savingState (tasks : Nat) : State :=
  { gangs := [savedGang tasks]
    cores := [(0, { part := 0x10000#64 })]
    ctxs := [(0, some { z := [(0, { elems := [(0, 1#32)] })] })] }

/-- The first element of the tile of context 0. -/
def State.firstElem (s : State) : Option W32 := (s.ctx 0).map fun x => SMap.get 0#32 (SMap.get {} x.z 0).elems 0

/-- Core 0 has one tile, and what its first element is. -/
def State.tileShows (s : State) (v : W32 → Prop) : Prop := (s.core 0).part = 0x10000#64 ∧ ∃ w, s.firstElem = some w ∧ v w

/-- The low byte of an element is 0. -/
def lowClear (w : W32) : Prop := w &&& 0xFF#32 = 0#32

/-- A byte 0 written into the tile clears the bits of its place. -/
theorem tileShows_setAccByte {s : State} {v u : W32 → Prop} {o : Nat} (h : s.tileShows v) (ho : o < 65536)
    (hstep : ∀ w, v w → u (if o / 4 = 0 then w &&& ~~~(0xFF#32 <<< (8 * (o % 4))) else w)) : (s.setAccByte 0 o 0#8).tileShows u := by
  obtain ⟨hpart, w, hfirst, hw⟩ := h
  obtain ⟨x, hctx, rfl⟩ := Option.map_eq_some_iff.mp hfirst
  have hnz : partTiles (s.core 0).part = 1 := by
    rw [hpart]
    decide
  have htile : o / 65536 = 0 := Nat.div_eq_of_lt ho
  have hset : s.setAccByte 0 o 0#8 = s.setCtx 0 (some { x with z := SMap.modify {} x.z 0 fun tl => { tl with
      elems := SMap.modify 0#32 tl.elems (o % 65536 / 4) fun w => (w &&& ~~~(0xFF#32 <<< (8 * (o % 4)))) ||| ((0#8).zeroExtend 32 <<< (8 * (o % 4))) } }) := by
    unfold State.setAccByte State.modAccTile
    simp only [hnz, htile, Nat.zero_div, Nat.zero_mul, Nat.add_zero, Nat.zero_mod, hctx]
  have hzero (k : Nat) : (0#8).zeroExtend 32 <<< k = 0#32 := by simp
  rw [hset]
  refine ⟨hpart, _, (congrArg (Option.map _) (State.ctx_setCtx_self s 0 _)).trans rfl, ?_⟩
  dsimp only
  rw [SMap.get_modify_self, Nat.mod_eq_of_lt ho]
  by_cases hlow : o / 4 = 0
  · rw [hlow, SMap.get_modify_self, hzero, BitVec.or_zero]
    have := hstep _ hw
    rwa [if_pos hlow] at this
  · rw [SMap.get_modify_ne _ _ _ _ _ (Ne.symm hlow)]
    have := hstep _ hw
    rwa [if_neg hlow] at this

theorem lowClear_first (w : W32) : lowClear (if 0 / 4 = 0 then w &&& ~~~(0xFF#32 <<< (8 * (0 % 4))) else w) := by
  show (w &&& ~~~(0xFF#32)) &&& 0xFF#32 = 0#32
  rw [BitVec.and_assoc]
  exact BitVec.and_zero

theorem lowClear_keeps (o : Nat) (w : W32) (h : lowClear w) : lowClear (if o / 4 = 0 then w &&& ~~~(0xFF#32 <<< (8 * (o % 4))) else w) := by
  split
  · unfold lowClear at h ⊢
    rw [BitVec.and_assoc, BitVec.and_comm (~~~_), ← BitVec.and_assoc, h, BitVec.zero_and]
  · exact h

/-- Zero bytes at offsets of the tile. -/
theorem lowClear_bytes {bs : List Byte} {o : Nat} {s : State} (h : s.tileShows lowClear) (hzero : ∀ b ∈ bs, b = 0#8) (ho : o + bs.length ≤ 65536) :
    (bs.foldl (fun (p : State × Nat) b => (p.1.setAccByte 0 p.2 b, p.2 + 1)) (s, o)).1.tileShows lowClear := by
  induction bs generalizing s o with
  | nil => exact h
  | cons b bs ih =>
    rw [List.length_cons] at ho
    obtain rfl := hzero b List.mem_cons_self
    exact ih (tileShows_setAccByte h (by omega) (lowClear_keeps o)) (fun c hc => hzero c (List.mem_cons_of_mem _ hc)) (by omega)

/-- The first bytes of the tile are written. -/
theorem lowClear_writeLoc {b : Byte} {bs : List Byte} {s : State} {v : W32 → Prop} (h : s.tileShows v) (hzero : ∀ c ∈ b :: bs, c = 0#8)
    (hlen : bs.length < 65536) : (s.writeLoc 0 (.acc 0 0) (b :: bs)).tileShows lowClear := by
  obtain rfl := hzero b List.mem_cons_self
  exact lowClear_bytes (bs := bs) (o := 1) (tileShows_setAccByte (o := 0) h (by decide) fun w _ => lowClear_first w)
    (fun c hc => hzero c (List.mem_cons_of_mem _ hc)) (by omega)

theorem lowClear_writePieces {fuel o : Nat} {bs : List Byte} {s : State} (h : s.tileShows lowClear) (hzero : ∀ b ∈ bs, b = 0#8)
    (ho : o + bs.length ≤ 65536) : (s.writePieces 0 fuel (.acc 0 o) bs).tileShows lowClear := by
  induction fuel generalizing s o bs with
  | zero => exact h
  | succ fuel ih =>
    cases bs with
    | nil => exact h
    | cons b bs =>
      rw [List.length_cons] at ho
      unfold State.writePieces
      dsimp only
      split
      · next hlong =>
        refine ih (lowClear_bytes h (fun c hc => hzero c (List.mem_of_mem_take hc)) ?_) (fun c hc => hzero c (List.mem_of_mem_drop hc)) ?_
        · rw [List.length_take, List.length_cons]
          omega
        · obtain ⟨-, hlong⟩ := hlong
          rw [List.length_cons] at hlong
          rw [List.length_drop, List.length_cons]
          omega
      · refine ih (lowClear_bytes (bs := [b]) h (fun c hc => hzero c ?_) ?_) (fun c hc => hzero c (List.mem_cons_of_mem _ hc)) ?_
        · rw [List.mem_singleton.mp hc]
          exact List.mem_cons_self
        · rw [List.length_singleton]
          omega
        · omega

theorem lowClear_tile {fuel : Nat} {b : Byte} {bs : List Byte} {s : State} {v : W32 → Prop} (h : s.tileShows v) (hzero : ∀ c ∈ b :: bs, c = 0#8)
    (hlen : bs.length < 65536) : (s.writePieces 0 (fuel + 1) (.acc 0 0) (b :: bs)).tileShows lowClear := by
  unfold State.writePieces
  dsimp only
  split
  · refine lowClear_writePieces (lowClear_writeLoc (bs := bs.take 7) h (fun c hc => hzero c ?_) ?_) (fun c hc => hzero c (List.mem_of_mem_drop hc)) ?_
    · exact List.mem_of_mem_take (i := 8) hc
    · rw [List.length_take]
      omega
    · rw [List.length_drop, List.length_cons]
      omega
  · refine lowClear_writePieces (lowClear_writeLoc (bs := []) h (fun c hc => hzero c ?_) (by decide)) (fun c hc => hzero c (List.mem_cons_of_mem _ hc)) ?_
    · rw [List.mem_singleton.mp hc]
      exact List.mem_cons_self
    · omega

theorem Mem.read_zero (m : Mem) (a : Nat) : Mem.read m a 0 = [] := rfl

theorem Mem.length_read (m : Mem) (a n : Nat) : (Mem.read m a n).length = n := by
  induction n generalizing a with
  | zero => rfl
  | succ n ih => rw [Mem.read, List.length_cons, ih]

/-- Memory that nothing has written reads 0 below the gauge pool. -/
theorem Mem.read_nil_zero {a n : Nat} (h : a + n ≤ gaugeBase) : ∀ b ∈ Mem.read [] a n, b = 0#8 := by
  induction n generalizing a with
  | zero => exact fun b hb => nomatch hb
  | succ n ih =>
    intro b hb
    obtain rfl | hb := List.mem_cons.mp hb
    · show Mem.unwritten a = 0#8
      unfold Mem.unwritten
      rw [if_neg (by omega)]
    · exact ih (by omega) b hb

/-! ### The write-out -/

section write_out
variable (tasks : Nat)

/-- The state in which the save areas are written. -/
def writingState : State := (savingState tasks).modGang 0 fun g => { g with written := true }

omit tasks in
/-- The 64 KiB from the start of space 0xA are the accumulator store of core 0. -/
theorem engRuns_saved {s : State} (hpart : (s.core 0).part = 0x10000#64) : s.engRuns { die := 0, core := 0, cluster := 0, sup := true } .write
    (runsOf (BitVec.ofNat 64 (0xA * 2 ^ 60)) 65536) = .ok [(.acc 0 0, 65536)] := by
  have hruns : runsOf (BitVec.ofNat 64 (0xA * 2 ^ 60)) 65536 = [(0xA * 2 ^ 60, 65536)] := by decide
  have hacc : partAcc (s.core 0).part = 65536 := by
    rw [hpart]
    decide
  have hrun : s.engRun { die := 0, core := 0, cluster := 0, sup := true } .write (0xA * 2 ^ 60) 65536 = .ok (.acc 0 0) := by
    have hspace : 0xA * 2 ^ 60 / 2 ^ 60 = 0xA := by decide
    have hoff : 0xA * 2 ^ 60 % 2 ^ 60 = 0 := by decide
    unfold State.engRun
    simp only [hspace, hoff, hacc, Nat.zero_add, Nat.lt_irrefl, if_false]
  rw [hruns, State.engRuns, hrun]
  rfl

omit tasks in
/-- The gang's save areas take 64 KiB each, and its core image is a spill carve-out of 64 KiB. -/
theorem savedPart : partScratch 0x1000000#64 = 0 ∧ partSpill 0x1000000#64 = 65536 ∧ saveSize 0x1000000#64 = 65536 := by decide

omit tasks in
/-- The write-out of a gang that has no members left writes the image of its core. -/
theorem writeOut_of_core {s : State} {id core : Nat} {g : Gang} (hgang : s.gang id = some g)
    (hgo : (!g.captured || g.written || s.draining g) = false) (hmembers : g.members = []) (hcores : g.cores = [core]) (himages : g.images = []) :
    s.writeOut id = (s.modGang id fun g => { g with written := true }).saveWrite g ((g.ntask + 4) * saveSize g.part)
      (poolBytes (s.core core).spad (partScratch g.part) ++ poolBytes (s.core core).spill (partSpill g.part)) := by
  unfold State.writeOut
  simp only [hgang, hgo, Bool.false_eq_true, if_false, hmembers, List.foldl_nil, hcores, List.zipIdx_cons, List.zipIdx_nil, List.foldl_cons, himages,
    List.find?_nil, List.length_singleton, Nat.mul_one, Nat.zero_mul, Nat.add_zero]
  rfl

theorem writeOut_eq {off : Nat} (hoff : (tasks + 4) * 65536 = off) :
    (savingState tasks).writeOut 0 = (writingState tasks).saveWrite (savedGang tasks) off (poolBytes [] 0 ++ poolBytes [] 65536) := by
  obtain ⟨hscratch, hspill, hsize⟩ := savedPart
  have hstep := writeOut_of_core (s := savingState tasks) (id := 0) (core := 0) (g := savedGang tasks) rfl rfl rfl rfl rfl
  rw [show (savedGang tasks).part = 0x1000000#64 from rfl, hscratch, hspill, hsize, show (savedGang tasks).ntask = tasks from rfl, hoff] at hstep
  exact hstep

theorem saveWrite_clears {bs : List Byte} (hlen : bs.length = 65536) (hzero : ∀ b ∈ bs, b = 0#8) :
    ((writingState tasks).saveWrite (savedGang tasks) (0xA * 2 ^ 60) bs).tileShows lowClear ∧
      ((writingState tasks).saveWrite (savedGang tasks) (0xA * 2 ^ 60) bs).apart = (writingState tasks).apart := by
  have hfirst : (writingState tasks).tileShows fun _ => True := ⟨rfl, _, rfl, trivial⟩
  have haddr : BitVec.ofNat 64 ((savedGang tasks).savebase.toNat % 2 ^ 48 + 0xA * 2 ^ 60) = BitVec.ofNat 64 (0xA * 2 ^ 60) := by
    rw [show (savedGang tasks).savebase.toNat = 0 from rfl, Nat.zero_mod, Nat.zero_add]
  have hcalm : (savedGang tasks).step.isNone = false ∧ (savedGang tasks).die = 0 := ⟨rfl, rfl⟩
  obtain ⟨hstep, hdie⟩ := hcalm
  generalize writingState tasks = s at hfirst
  generalize savedGang tasks = g at haddr hstep hdie
  have ⟨hpart, _⟩ := hfirst
  have hwrite : s.engWrite { die := 0, core := 0, cluster := 0, sup := true } (BitVec.ofNat 64 (0xA * 2 ^ 60)) bs =
      .ok (((s.writePieces 0 65537 (.acc 0 0) bs).unpoison [(.acc 0 0, 65536)]).touchRuns true [(.acc 0 0, 65536)]) := by
    unfold State.engWrite
    rw [hlen, engRuns_saved hpart]
    simp only [List.foldl_cons, List.foldl_nil]
    rw [List.take_of_length_le (by omega)]
  have hsave : s.saveWrite g (0xA * 2 ^ 60) bs =
      ((s.writePieces 0 65537 (.acc 0 0) bs).unpoison [(.acc 0 0, 65536)]).touchRuns true [(.acc 0 0, 65536)] := by
    unfold State.saveWrite
    rw [haddr, hstep, if_neg Bool.false_ne_true, hdie]
    exact congrArg (fun r : Except EngStop State => match r with | .ok t => t | .error _ => s) hwrite
  obtain ⟨p, hp⟩ := State.unpoison_eq (s.writePieces 0 65537 (.acc 0 0) bs) [(.acc 0 0, 65536)]
  rw [hsave]
  refine ⟨?_, State.apart_engWrite hwrite⟩
  rw [hp]
  cases bs with
  | nil => exact absurd hlen (by decide)
  | cons b bs => exact lowClear_tile hfirst hzero (by rw [List.length_cons] at hlen; omega)

theorem writeOut_clears (htasks : (tasks + 4) * 65536 = 0xA * 2 ^ 60) :
    ((savingState tasks).writeOut 0).tileShows lowClear ∧ ((savingState tasks).writeOut 0).apart = (writingState tasks).apart := by
  rw [writeOut_eq tasks htasks, poolBytes, poolBytes, Mem.read_zero, List.nil_append]
  exact saveWrite_clears tasks (Mem.length_read [] 0 65536) (Mem.read_nil_zero (by decide))

end write_out

/-- Outside HOLD the end of a write-out is its whole effect. -/
theorem saveWriteout_eq {s : State} {n : Nat} (h : (s.writeOut n).thermal.state ≠ .hold) :
    exec (.saveWriteoutComplete n) s = .next (s.writeOut n) := congrArg Host.Outcome.next (if_pos (.inr h))

theorem thermal_of_apart {s u : State} (h : u.apart = s.apart) : u.thermal = s.thermal := by
  show u.apart.thermal = s.apart.thermal
  rw [h]

/-- An element that was 1 is no longer where its low byte is clear. -/
theorem ctxs_ne_of_lowClear {s u : State} (hone : s.firstElem = some 1#32) (hclear : u.tileShows lowClear) : u.ctxs ≠ s.ctxs := by
  intro hctxs
  obtain ⟨-, w, hw, hlow⟩ := hclear
  have hsame : u.firstElem = s.firstElem := by rw [State.firstElem, State.ctx, hctxs, State.firstElem, State.ctx]
  rw [hw, hone] at hsame
  obtain rfl := Option.some.inj hsame
  exact absurd (show 1#32 &&& 0xFF#32 = 0#32 from hlow) (by decide)

/-- Refutes O44: with a number of tasks that places the core image of a captured gang in the accumulator store of core 0, its write-out clears the
tile of the context that runs there, where the statement leaves every context as it was. -/
theorem not_stepsOfStages : ¬ Obligations.StepsOfStages := by
  intro h
  obtain ⟨tasks, htasks⟩ : ∃ tasks, (tasks + 4) * 65536 = 0xA * 2 ^ 60 := ⟨0xA * 2 ^ 44 - 4, by decide⟩
  obtain ⟨-, -, -, hwritten, -⟩ := h (savingState tasks) 0 0 _ (by decide) (by decide) rfl
  obtain ⟨t, hexec, -, hctxs⟩ := hwritten (savedGang tasks) rfl rfl rfl rfl TState.noConfusion
  obtain ⟨htile, hapart⟩ := writeOut_clears tasks htasks
  have hthermal : ((savingState tasks).writeOut 0).thermal.state ≠ .hold := by
    rw [thermal_of_apart hapart]
    exact TState.noConfusion
  have ht : (savingState tasks).writeOut 0 = t := Host.Outcome.next.inj ((saveWriteout_eq hthermal).symm.trans hexec)
  rw [← ht] at hctxs
  exact ctxs_ne_of_lowClear rfl htile hctxs

end Sys2Proof.Machine

/-! ## Matrix joins (R234 to R236) -/

namespace Sys2Proof.Machine

set_option Elab.async false

/-! ### What landed elements leave in a tile -/

theorem Tile.put_keeps (t : Tile) (l : Landed) : (t.put l).rows = t.rows ∧ (t.put l).cols = t.cols ∧ (t.put l).i32 = t.i32 := ⟨rfl, rfl, rfl⟩

theorem Tile.foldl_put_keeps (ls : List Landed) (t : Tile) : (ls.foldl Tile.put t).rows = t.rows ∧ (ls.foldl Tile.put t).cols = t.cols := by
  induction ls generalizing t with
  | nil => exact ⟨rfl, rfl⟩
  | cons l ls ih => exact ih (t.put l)

theorem tileKey_inj {r c r' c' : Nat} (hc : c < 128) (hc' : c' < 128) (h : tileKey r c = tileKey r' c') : r = r' ∧ c = c' := by
  unfold tileKey at h
  omega

/-- Elements that land at positions of a list: each position has what lands there, and the others stay. -/
theorem elems_foldl_put {f : Nat × Nat → Option Landed} (hf : ∀ rc l, f rc = some l → l.row = rc.1 ∧ l.col = rc.2) {ps : List (Nat × Nat)}
    (hps : ∀ rc ∈ ps, rc.2 < 128) {row col : Nat} (hcol : col < 128) (t : Tile) :
    SMap.get 0#32 ((ps.filterMap f).foldl Tile.put t).elems (tileKey row col) =
      if (row, col) ∈ ps then ((f (row, col)).map Landed.val).getD (SMap.get 0#32 t.elems (tileKey row col))
      else SMap.get 0#32 t.elems (tileKey row col) := by
  induction ps generalizing t with
  | nil => rfl
  | cons rc ps ih =>
    have ih' := ih fun q hq => hps q (List.mem_cons_of_mem rc hq)
    have hin : (row, col) ∈ rc :: ps ↔ (row, col) = rc ∨ (row, col) ∈ ps := List.mem_cons
    cases hrc : f rc with
    | none =>
      rw [List.filterMap_cons_none hrc, ih']
      by_cases hq : (row, col) = rc
      · subst hq
        simp [hrc]
      · simp [hin, hq]
    | some l =>
      rw [List.filterMap_cons_some hrc, List.foldl_cons, ih']
      obtain ⟨hlrow, hlcol⟩ := hf rc l hrc
      by_cases hq : (row, col) = rc
      · subst hq
        have hput : SMap.get 0#32 (t.put l).elems (tileKey row col) = l.val := by
          rw [← show l.row = row from hlrow, ← show l.col = col from hlcol]
          exact SMap.get_set_self _ _ _ _
        simp [hrc, hput]
      · have hput : SMap.get 0#32 (t.put l).elems (tileKey row col) = SMap.get 0#32 t.elems (tileKey row col) := by
          refine SMap.get_set_ne _ _ _ _ _ fun hkey => hq ?_
          obtain ⟨hrow, hcol'⟩ := tileKey_inj hcol (by rw [hlcol]; exact hps rc List.mem_cons_self) hkey
          rw [hrow, hcol', hlrow, hlcol]
        simp [hin, hq, hput]

theorem Tile.mem_active {t : Tile} {row col : Nat} :
    (row, col) ∈ t.active ↔ row < 128 ∧ row ≤ t.rows.toNat ∧ col < 128 ∧ col ≤ t.cols.toNat := by
  unfold Tile.active
  simp only [List.mem_flatMap, List.mem_map, List.mem_range, Prod.mk.injEq]
  constructor
  · rintro ⟨r, hr, c, hc, rfl, rfl⟩
    omega
  · rintro ⟨hr, hrows, hc, hcols⟩
    exact ⟨row, by omega, col, by omega, rfl, rfl⟩

/-- What lands at a position of a join. -/
def Tile.landsAt (t : Tile) (j : Join) (rows : List (List (Option W32))) (rc : Nat × Nat) : Option Landed :=
  let base := if j.h then 64 else 0
  if rc.1 / 64 * 64 = base then
    match (rows.getD (rc.1 - base) []).getD rc.2 none with
    | none => none
    | some v =>
      let own := t.elem rc.1 rc.2
      if t.i32 then some ⟨rc.1, rc.2, own + v, false, false⟩
      else
        let o := fF32.round .rne false ((fF32.value own.toNat).add false (fF32.value v.toNat))
        some ⟨rc.1, rc.2, BitVec.ofNat 32 o.bits, o.tiny, false⟩
  else none

theorem Tile.joined_eq (t : Tile) (j : Join) (rows : List (List (Option W32))) : t.joined j rows = t.active.filterMap (t.landsAt j rows) := rfl

theorem Tile.landsAt_place (t : Tile) (j : Join) (rows : List (List (Option W32))) (rc : Nat × Nat) (l : Landed) (h : t.landsAt j rows rc = some l) :
    l.row = rc.1 ∧ l.col = rc.2 := by
  unfold Tile.landsAt at h
  dsimp only at h
  generalize (if j.h = true then 64 else 0) = base at h
  split at h
  · split at h
    · cases h
    · split at h
      · obtain rfl := Option.some.inj h
        exact ⟨rfl, rfl⟩
      · obtain rfl := Option.some.inj h
        exact ⟨rfl, rfl⟩
  · cases h

/-- A row of the tile is one that the side keeps. -/
theorem keptRow_iff (j : Join) {row : Nat} : row / 64 * 64 = (if j.h = true then 64 else 0) ↔ row / 64 = if j.h = true then 1 else 0 := by
  cases j.h
  · rw [if_neg Bool.false_ne_true, if_neg Bool.false_ne_true]
    omega
  · rw [if_pos rfl, if_pos rfl]
    omega

/-- The kept rows hold their sum with the half received, and the others are as they were. -/
theorem Tile.elem_joined (t : Tile) (j : Join) (rows : List (List (Option W32))) {row col : Nat} (hrow : row < 128) (hcol : col < 128) :
    ((t.joined j rows).foldl Tile.put t).elem row col =
      if row / 64 = (if j.h then 1 else 0) then t.sumElem j.h rows row col else t.elem row col := by
  obtain ⟨hrows, hcols⟩ := Tile.foldl_put_keeps (t.joined j rows) t
  have hkeeps : ((t.joined j rows).foldl Tile.put t).elem row col =
      if row ≤ t.rows.toNat ∧ col ≤ t.cols.toNat then SMap.get 0#32 ((t.joined j rows).foldl Tile.put t).elems (tileKey row col) else 0#32 := by
    rw [Tile.elem, hrows, hcols]
  by_cases hact : row ≤ t.rows.toNat ∧ col ≤ t.cols.toNat
  · have hin : (row, col) ∈ t.active := Tile.mem_active.mpr ⟨hrow, hact.1, hcol, hact.2⟩
    have hown : t.elem row col = SMap.get 0#32 t.elems (tileKey row col) := if_pos hact
    rw [hkeeps, if_pos hact, Tile.joined_eq, elems_foldl_put (Tile.landsAt_place t j rows) (fun rc hrc => (Tile.mem_active.mp hrc).2.2.1) hcol,
      if_pos hin, ← hown, Tile.landsAt]
    dsimp only
    by_cases hkept : row / 64 = if j.h = true then 1 else 0
    · rw [if_pos hkept, if_pos ((keptRow_iff j).mpr hkept), Tile.sumElem]
      cases (rows.getD (row - if j.h = true then 64 else 0) []).getD col none with
      | none => rfl
      | some v =>
        dsimp only
        rw [if_pos hact]
        split <;> rfl
    · rw [if_neg hkept, if_neg fun h => hkept ((keptRow_iff j).mp h)]
      rfl
  · have hzero : t.elem row col = 0#32 := if_neg hact
    have hsum : t.sumElem j.h rows row col = 0#32 := by
      unfold Tile.sumElem
      generalize (rows.getD (row - if j.h = true then 64 else 0) []).getD col none = v
      cases v with
      | none => exact hzero
      | some v => exact (if_neg hact).trans hzero
    rw [hkeeps, if_neg hact, hzero, hsum, ite_self]

/-! ### The two sides -/

/-- A side that has received its partner's half adds it. -/
theorem joinEnds_finishJoin {x : Ctx} {j : Join} {rows : List (List (Option W32))} (y : Ctx)
    (hy : y = { x with join := some { j with received := some rows } }) : x.JoinEnds y.finishJoin j rows := by
  have hfinish : y.finishJoin =
      { (y.landElems j.z ((SMap.get {} x.z j.z).joined j rows) j.assist j.pc).tokDown j.token with join := none } := by
    rw [hy]
    rfl
  have hland : (y.landElems j.z ((SMap.get {} x.z j.z).joined j rows) j.assist j.pc).z =
        SMap.modify {} x.z j.z (fun t => ((SMap.get {} x.z j.z).joined j rows).foldl Tile.put t) ∧
      (y.landElems j.z ((SMap.get {} x.z j.z).joined j rows) j.assist j.pc).k = x.k := by
    rw [hy]
    unfold Ctx.landElems
    dsimp only
    split <;> exact ⟨rfl, rfl⟩
  obtain ⟨hz, hk⟩ := hland
  rw [hfinish]
  refine ⟨rfl, ?_, fun z hne => ?_, fun row col hrow hcol => ?_⟩
  · refine (Ctx.tokCount_tokDown _ j.token).trans ?_
    rw [Ctx.tokCount, hk]
    rfl
  · show SMap.get {} (y.landElems j.z ((SMap.get {} x.z j.z).joined j rows) j.assist j.pc).z z = _
    rw [hz]
    exact SMap.get_modify_ne _ _ _ _ _ hne
  · show (SMap.get {} (y.landElems j.z ((SMap.get {} x.z j.z).joined j rows) j.assist j.pc).z j.z).elem row col = _
    rw [hz, SMap.get_modify_self]
    exact Tile.elem_joined _ j rows hrow hcol

section events
variable {s : State} {c : Nat} {x : Ctx} {j : Join} (hctx : s.ctx c = some x) (hjoin : x.join = some j) (hopen : j.received = none)
  (hfree : s.isCaptured x = false)
include hctx hjoin hopen hfree

section partner
variable {p : Nat} {y : Ctx} {k : Join} (hpartner : s.joinPartner c = some p) (hne : p ≠ c) (hpctx : s.ctx p = some y) (hpjoin : y.join = some k)
include hpartner hne hpctx hpjoin

omit hne in
/-- A half that arrives in time. -/
theorem joinArrival_eq (htime : s.time < j.deadline) : exec (.joinHalfArrival c) s = .next (
    if k.received.isSome then ((s.modCtx c fun x => { x with join := some { j with received := some k.half } }).modCtx c Ctx.finishJoin).modCtx p
      Ctx.finishJoin
    else s.modCtx c fun x => { x with join := some { j with received := some k.half } }) := by
  refine congrArg Host.Outcome.next ?_
  unfold State.joinArrival
  simp only [hctx, hpartner, hjoin, hpctx, hopen, hpjoin, Nat.not_le.mpr htime, hfree, Bool.false_eq_true, or_self, if_false]

theorem first_half_clause (htime : s.time < j.deadline) (hfirst : k.received = none) :
    ∃ t, exec (.joinHalfArrival c) s = .next t ∧ t.ctx c = some { x with join := some { j with received := some k.half } } ∧ t.ctx p = some y := by
  refine ⟨_, joinArrival_eq hctx hjoin hopen hfree hpartner hpctx hpjoin htime, ?_⟩
  rw [hfirst, if_neg (by decide), State.ctx_modCtx_self, hctx, State.ctx_modCtx_ne _ _ _ _ hne]
  exact ⟨rfl, hpctx⟩

theorem second_half_clause (htime : s.time < j.deadline) (hsecond : k.received ≠ none) :
    ∃ t x' y', exec (.joinHalfArrival c) s = .next t ∧ t.ctx c = some x' ∧ t.ctx p = some y' ∧ x.JoinEnds x' j k.half ∧
      y.JoinEnds y' k (k.received.getD []) := by
  obtain ⟨rows, hrows⟩ := Option.ne_none_iff_exists'.mp hsecond
  refine ⟨_, ({ x with join := some { j with received := some k.half } } : Ctx).finishJoin, y.finishJoin,
    joinArrival_eq hctx hjoin hopen hfree hpartner hpctx hpjoin htime, ?_, ?_, joinEnds_finishJoin _ rfl, ?_⟩
  · rw [hrows, Option.isSome_some, if_pos rfl, State.ctx_modCtx_ne _ _ _ _ (Ne.symm hne), State.ctx_modCtx_self, State.ctx_modCtx_self, hctx]
    rfl
  · rw [hrows, Option.isSome_some, if_pos rfl, State.ctx_modCtx_self, State.ctx_modCtx_ne _ _ _ _ hne, State.ctx_modCtx_ne _ _ _ _ hne, hpctx]
    rfl
  · rw [hrows]
    refine joinEnds_finishJoin y ?_
    rw [Option.getD_some]
    have hk : ({ k with received := some rows } : Join) = k := by rw [← hrows]
    rw [hk, ← hpjoin]

/-- A side whose deadline has passed leaves the join, and its partner waits anew. -/
theorem timeout_partner_clause (hlate : j.deadline ≤ s.time) :
    ∃ t x', exec (.joinTimeout c) s = .next t ∧ t.ctx c = some x' ∧ x'.join = none ∧ x'.z = x.z ∧ x'.due = x.due ++ [⟨0x0C, joinArg j, none⟩] ∧
      t.ctx p = some { y with join := some { k with received := none } } := by
  have hexec : exec (.joinTimeout c) s = .next ((s.modCtx p fun y => { y with join := y.join.map fun (k : Join) => { k with received := none } }).modCtx c
      fun x => { x.dropJoin with due := x.due ++ [(⟨0x0C, joinArg j, none⟩ : DueTrap)] }) := by
    refine congrArg Host.Outcome.next ?_
    unfold State.joinTimeout
    simp only [hctx, hjoin, hopen, hlate, hfree, hpartner, and_self, if_true]
  refine ⟨_, { x.dropJoin with due := x.due ++ [(⟨0x0C, joinArg j, none⟩ : DueTrap)] }, hexec, ?_, ?_, ?_, rfl, ?_⟩
  · rw [State.ctx_modCtx_self, State.ctx_modCtx_ne _ _ _ _ (Ne.symm hne), hctx]
    rfl
  · rw [Ctx.dropJoin, hjoin]
  · rw [Ctx.dropJoin, hjoin]
    rfl
  · rw [State.ctx_modCtx_ne _ _ _ _ hne, State.ctx_modCtx_self, hpctx, Option.map_some, hpjoin]
    rfl

end partner

theorem timeout_alone_clause (hlate : j.deadline ≤ s.time) (hnone : s.joinPartner c = none) :
    ∃ t y, exec (.joinTimeout c) s = .next t ∧ t.ctx c = some y ∧ y.join = none ∧ y.tokCount j.token = x.tokCount j.token - 1 ∧ y.z = x.z ∧
      y.due = x.due ++ [⟨0x0C, joinArg j, none⟩] := by
  have hexec : exec (.joinTimeout c) s = .next (s.modCtx c
      fun x => { x.dropJoin with due := x.due ++ [(⟨0x0C, joinArg j, none⟩ : DueTrap)] }) := by
    refine congrArg Host.Outcome.next ?_
    unfold State.joinTimeout
    simp only [hctx, hjoin, hopen, hlate, hfree, hnone, and_self, if_true]
  refine ⟨_, { x.dropJoin with due := x.due ++ [(⟨0x0C, joinArg j, none⟩ : DueTrap)] }, hexec, ?_, ?_, ?_, ?_, rfl⟩
  · rw [State.ctx_modCtx_self, hctx]
    rfl
  · rw [Ctx.dropJoin, hjoin]
  · rw [Ctx.dropJoin, hjoin]
    exact Ctx.tokCount_tokDown x j.token
  · rw [Ctx.dropJoin, hjoin]
    rfl

end events

/-- Settles O45, by the sum that each side's kept rows hold and by what a time-out leaves. -/
theorem joinEvents : Obligations.JoinEvents := by
  intro s c x j hctx hjoin hopen hfree
  refine ⟨fun p y k htime hpartner hne hpctx hpjoin =>
      ⟨fun hfirst => first_half_clause hctx hjoin hopen hfree hpartner hne hpctx hpjoin htime hfirst,
        fun hsecond => second_half_clause hctx hjoin hopen hfree hpartner hne hpctx hpjoin htime hsecond⟩,
    fun hlate hnone => timeout_alone_clause hctx hjoin hopen hfree hlate hnone,
    fun p y k hlate hpartner hne hpctx hpjoin => timeout_partner_clause hctx hjoin hopen hfree hpartner hne hpctx hpjoin hlate⟩

end Sys2Proof.Machine

/-! ## Sluice jobs (R158, R163 to R166, R285) -/

namespace Sys2Proof.Machine

set_option Elab.async false

/-! ### Jobs and what keeps them -/

/-- A change of the elements that a test finds, after which it still finds them. -/
theorem find?_mapWhere {α : Type} (p : α → Bool) (f : α → α) (hf : ∀ x, p x = true → p (f x) = true) (xs : List α) :
    (mapWhere p f xs).find? p = (xs.find? p).map f := by
  induction xs with
  | nil => rfl
  | cons x xs ih =>
    unfold mapWhere at ih ⊢
    rw [List.map_cons]
    cases hx : p x with
    | true => rw [if_pos rfl, List.find?_cons_of_pos (hf x hx), List.find?_cons_of_pos hx, Option.map_some]
    | false =>
      rw [if_neg Bool.false_ne_true, List.find?_cons_of_neg (by rw [hx]; exact Bool.false_ne_true),
        List.find?_cons_of_neg (by rw [hx]; exact Bool.false_ne_true), ih]

theorem State.job_modJob_self (s : State) (d n : Nat) (f : Job → Job) (hf : ∀ j, j.serial = n → (f j).serial = n) :
    (s.modJob d n f).job d n = (s.job d n).map f := by
  unfold State.job State.modJob
  rw [State.die_modDie_self]
  exact find?_mapWhere (fun j => j.serial == n) f (fun j h => beq_iff_eq.mpr (hf j (eq_of_beq h))) _

theorem State.job_modJob_of {s : State} {d n : Nat} {j : Job} (hjob : s.job d n = some j) (f : Job → Job) (hf : ∀ j, j.serial = n → (f j).serial = n) :
    (s.modJob d n f).job d n = some (f j) := by
  rw [State.job_modJob_self s d n f hf, hjob]
  rfl

theorem State.view_modJob (s : State) (d n e : Nat) (f : Job → Job) : ((s.modJob d n f).die e).view = (s.die e).view := by
  unfold State.modJob
  by_cases h : e = d
  · rw [h, State.die_modDie_self]
  · rw [State.die_modDie_ne _ _ _ _ h]

/-- A session does not end while a job runs. -/
theorem State.checkEnd_of_job {s : State} {d n : Nat} {j : Job} (hjob : s.job d n = some j) (hrun : j.state = .running) : s.checkEnd = s := by
  have hdie : s.die d ≠ {} := fun h => by
    rw [State.job, h] at hjob
    cases hjob
  have hmem : (d, s.die d) ∈ s.dies := SMap.mem_of_get_ne hdie
  have hin : j ∈ (s.die d).jobs := List.mem_of_find?_eq_some hjob
  unfold State.checkEnd
  dsimp only
  refine if_neg ?_
  rintro ⟨-, -, -, hall, -⟩
  rw [List.all_eq_true] at hall
  have hquiet := hall _ hmem
  simp only [Bool.and_eq_true, List.all_eq_true] at hquiet
  obtain ⟨-, hjobs⟩ := hquiet
  have := hjobs j hin
  rw [hrun] at this
  cases this

/-- A session does not end while a context stands. -/
theorem State.checkEnd_of_ctx {s : State} {c : Nat} {x : Ctx} (hctx : s.ctx c = some x) : s.checkEnd = s := by
  unfold State.checkEnd
  dsimp only
  refine if_neg ?_
  rintro ⟨-, hempty, -⟩
  rw [List.isEmpty_iff] at hempty
  rw [State.ctx, hempty] at hctx
  cases hctx

theorem State.insertReady_eq (s : State) (c : Nat) : ∃ cs n, s.insertReady c = { s with ctxs := cs, nextAge := n } := by
  unfold State.insertReady
  rw [State.modCtx_eq]
  exact ⟨_, _, rfl⟩

/-- A context that is re-inserted keeps its tokens, and the others are as they were. -/
theorem State.ctx_insertReady {s : State} {c d : Nat} {x : Ctx} (hctx : s.ctx c = some x) : ∃ y, (s.insertReady d).ctx c = some y ∧ y.k = x.k := by
  show ∃ y, (s.modCtx d fun x => { x with run := .ready, age := s.nextAge }).ctx c = some y ∧ y.k = x.k
  by_cases h : c = d
  · subst h
    rw [State.ctx_modCtx_self, hctx]
    exact ⟨_, rfl, rfl⟩
  · rw [State.ctx_modCtx_ne _ _ _ _ h]
    exact ⟨x, hctx, rfl⟩

theorem State.wakeOldest_eq (s : State) (p : Nat → WaitWhy → Bool) : ∃ cs n, s.wakeOldest p = { s with ctxs := cs, nextAge := n } := by
  unfold State.wakeOldest
  dsimp only
  split
  · exact State.insertReady_eq s _
  · exact ⟨s.ctxs, s.nextAge, rfl⟩

theorem State.ctx_wakeOldest {s : State} {c : Nat} {x : Ctx} (p : Nat → WaitWhy → Bool) (hctx : s.ctx c = some x) :
    ∃ y, (s.wakeOldest p).ctx c = some y ∧ y.k = x.k := by
  unfold State.wakeOldest
  dsimp only
  split
  · exact State.ctx_insertReady hctx
  · exact ⟨x, hctx, rfl⟩

/-- Leaving a Riffle unit's queue changes the unit and wakes a context. -/
theorem State.dropPass_eq (s : State) (cl d n : Nat) : ∃ ks cs a, s.dropPass cl d n = { s with clusters := ks, ctxs := cs, nextAge := a } := by
  unfold State.dropPass
  split
  · exact ⟨s.clusters, s.ctxs, s.nextAge, rfl⟩
  · next u _ _ =>
    obtain ⟨cs, a, h⟩ := State.wakeOldest_eq (s.modRiffle cl u fun r => { r with queue := r.queue.filter fun o => o.job != some (d, n) })
      fun _ w => w == .riffle cl u
    exact ⟨_, cs, a, h⟩

theorem State.ctx_dropPass {s : State} {c cl d n : Nat} {x : Ctx} (hctx : s.ctx c = some x) : ∃ y, (s.dropPass cl d n).ctx c = some y ∧ y.k = x.k := by
  unfold State.dropPass
  split
  · exact ⟨x, hctx, rfl⟩
  · exact State.ctx_wakeOldest _ hctx

/-- A change of elements that a test does not find leaves what it finds. -/
theorem find?_mapWhere_of_not {α : Type} (p q : α → Bool) (f : α → α) (hf : ∀ x, q (f x) = q x) (hpq : ∀ x, p x = true → q x = false) (xs : List α) :
    (mapWhere p f xs).find? q = xs.find? q := by
  induction xs with
  | nil => rfl
  | cons x xs ih =>
    unfold mapWhere at ih ⊢
    rw [List.map_cons]
    cases hx : p x with
    | true =>
      rw [if_pos rfl, List.find?_cons_of_neg (by rw [hf, hpq x hx]; exact Bool.false_ne_true),
        List.find?_cons_of_neg (by rw [hpq x hx]; exact Bool.false_ne_true), ih]
    | false =>
      rw [if_neg Bool.false_ne_true]
      cases hq : q x with
      | true => rw [List.find?_cons_of_pos hq, List.find?_cons_of_pos hq]
      | false =>
        rw [List.find?_cons_of_neg (by rw [hq]; exact Bool.false_ne_true), List.find?_cons_of_neg (by rw [hq]; exact Bool.false_ne_true), ih]

theorem State.job_modJob_ne (s : State) {d m n : Nat} (f : Job → Job) (hf : ∀ j, (f j).serial = j.serial) (h : m ≠ n) :
    (s.modJob d m f).job d n = s.job d n := by
  unfold State.job State.modJob
  rw [State.die_modDie_self]
  refine find?_mapWhere_of_not _ (fun j => j.serial == n) f (fun j => by rw [hf]) (fun j hj => ?_) _
  rw [beq_iff_eq] at hj
  rw [hj]
  exact beq_false_of_ne h

/-- The jobs of a serial number that take a state have it. -/
theorem State.state_of_modJob (s : State) {d n : Nat} {st : JState} {m : Job} (hm : m ∈ ((s.modJob d n fun k => { k with state := st }).die d).jobs)
    (hserial : m.serial = n) : m.state = st := by
  unfold State.modJob at hm
  rw [State.die_modDie_self] at hm
  obtain ⟨i, -, rfl⟩ := List.mem_map.mp hm
  dsimp only at hserial ⊢
  split
  · rfl
  · next hne =>
    rw [if_neg hne] at hserial
    exact absurd (beq_iff_eq.mpr hserial) hne

/-- The oldest job without a place takes one that is free (R167). -/
def State.givePlace (s : State) (d : Nat) : State :=
  match (s.die d).jobs.find? fun (j : Job) => j.state == .queued, (s.die d).freePlace with
  | some j, some p => s.modJob d j.serial fun k => { k with state := .waiting, place := p }
  | _, _ => s

theorem State.placeFreed_eq (s : State) (d : Nat) : s.placeFreed d =
    if ((s.givePlace d).die d).freePlace.isSome then (s.givePlace d).wakeOldest fun c w => ctxDie c == d && w == .scheduler else s.givePlace d := rfl

/-- A job that ends as DONE stays so while its place goes to another. -/
theorem State.job_placeFreed {s : State} {d n : Nat} {j : Job} (hjob : s.job d n = some j)
    (hended : ∀ k ∈ (s.die d).jobs, k.serial = n → k.state ≠ .queued) : (s.placeFreed d).job d n = some j := by
  have hwake (u : State) (p : Nat → WaitWhy → Bool) : (u.wakeOldest p).job d n = u.job d n := by
    obtain ⟨cs, a, h⟩ := State.wakeOldest_eq u p
    rw [h]
    rfl
  have hplace : (s.givePlace d).job d n = some j := by
    unfold State.givePlace
    split
    · next k p hk _ =>
      have hstate : k.state = .queued := eq_of_beq (List.find?_some (p := fun (j : Job) => j.state == .queued) hk)
      have hne : k.serial ≠ n := fun h => hended k (List.mem_of_find?_eq_some hk) h hstate
      exact (State.job_modJob_ne s (fun m => { m with state := .waiting, place := p }) (fun _ => rfl) hne).trans hjob
    · exact hjob
  rw [State.placeFreed_eq]
  split
  · rw [hwake]
    exact hplace
  · exact hplace

theorem State.ctx_placeFreed {s : State} {d c : Nat} {x : Ctx} (hctx : s.ctx c = some x) : ∃ y, (s.placeFreed d).ctx c = some y ∧ y.k = x.k := by
  have hplace : (s.givePlace d).ctx c = some x := by
    unfold State.givePlace
    split
    · exact hctx
    · exact hctx
  rw [State.placeFreed_eq]
  split
  · exact State.ctx_wakeOldest _ hplace
  · exact ⟨x, hplace, rfl⟩

/-! ### What an engine's write leaves of a die -/

/-- What a die keeps while its memory is written: everything but its view and its clock. -/
def Die.registers (x : Die) : Die := { x with view := [], vc := {} }

theorem State.registers_modDie (s : State) {d : Nat} {f : Die → Die} (hf : ∀ x, (f x).registers = x.registers) (k : Nat) :
    ((s.modDie d f).die k).registers = (s.die k).registers := by
  by_cases h : k = d
  · rw [h, State.die_modDie_self, hf]
  · rw [State.die_modDie_ne _ _ _ _ h]

theorem State.registers_writePhys (s : State) (d pa : Nat) (bs : List Byte) (k : Nat) : ((s.writePhys d pa bs).die k).registers = (s.die k).registers := by
  unfold State.writePhys
  split
  · rfl
  · exact State.registers_modDie s (f := fun x => { x with vc := (s.die d).vc.set d ((s.die d).vc.get d + 1), view := writeParts x.view pa bs _ }) (fun _ => rfl) k

theorem State.registers_writeLoc (s : State) (d : Nat) (l : Loc) (bs : List Byte) (k : Nat) : ((s.writeLoc d l bs).die k).registers = (s.die k).registers := by
  cases l with
  | global pa => exact State.registers_writePhys s d pa bs k
  | acc c off =>
    have hbyte (u : State) (o : Nat) (b : Byte) : (u.setAccByte c o b).dies = u.dies := by
      unfold State.setAccByte State.modAccTile
      dsimp only
      split
      · rfl
      · rfl
    have hbytes : ∀ (bs : List Byte) (u : State) (o : Nat),
        (bs.foldl (fun (p : State × Nat) b => (p.1.setAccByte c p.2 b, p.2 + 1)) (u, o)).1.dies = u.dies := by
      intro bs
      induction bs with
      | nil => exact fun u o => rfl
      | cons b bs ih => exact fun u o => (ih _ _).trans (hbyte u o b)
    have hdies : (s.writeLoc d (.acc c off) bs).dies = s.dies := hbytes bs s off
    rw [State.die, hdies, State.die]
  | spad c off => rfl
  | sram c off => rfl
  | host a => rfl
  | mmio off => rfl
  | spill c off => rfl

/-- What each write of a piece leaves, and what the cache and the poison do not touch, an engine's write leaves. -/
theorem State.keeps_engWrite {α : Type} (f : State → α) (hloc : ∀ (v : State) (d : Nat) (l : Loc) (bs : List Byte), f (v.writeLoc d l bs) = f v)
    (hcache : ∀ v w : State, v.SameBehindCache w → f w = f v) (hpoison : ∀ (v : State) (p : List Nat), f { v with poison := p } = f v) {s u : State}
    {g : Agent} {a : W64} {bs : List Byte} (h : s.engWrite g a bs = .ok u) : f u = f s := by
  have hpieces : ∀ (fuel : Nat) (l : Loc) (bs : List Byte) (v : State), f (v.writePieces g.die fuel l bs) = f v := by
    intro fuel
    induction fuel with
    | zero => exact fun _ _ _ => rfl
    | succ fuel ih =>
      intro l bs v
      cases bs with
      | nil => rfl
      | cons b bs =>
        unfold State.writePieces
        dsimp only
        split
        · exact (ih _ _ _).trans (hloc v g.die l _)
        · exact (ih _ _ _).trans (hloc v g.die l _)
  unfold State.engWrite at h
  split at h
  · cases h
  · next ls _ =>
    obtain rfl := Except.ok.inj h
    have hruns : ∀ (l : List (Loc × Nat)) (v : State) (bs : List Byte), f (l.foldl (fun (p : State × List Byte) r =>
        (p.1.writePieces g.die (r.2 + 1) r.1 (p.2.take r.2), p.2.drop r.2)) (v, bs)).1 = f v := by
      intro l
      induction l with
      | nil => exact fun v bs => rfl
      | cons r l ih => exact fun v bs => (ih _ _).trans (hpieces _ r.1 _ v)
    obtain ⟨p, hp⟩ := State.unpoison_eq (ls.foldl (fun (p : State × List Byte) r =>
      (p.1.writePieces g.die (r.2 + 1) r.1 (p.2.take r.2), p.2.drop r.2)) (s, bs)).1 ls
    refine (hcache _ _ (State.sameBehindCache_touchRuns _ true ls)).trans ?_
    rw [hp, hpoison]
    exact hruns ls s bs

theorem State.registers_engWrite {s u : State} {g : Agent} {a : W64} {bs : List Byte} (h : s.engWrite g a bs = .ok u) (k : Nat) :
    (u.die k).registers = (s.die k).registers :=
  State.keeps_engWrite (fun w => (w.die k).registers) (fun v d l bs => State.registers_writeLoc v d l bs k)
    (fun _ _ hbehind => hbehind.keeps (fun w => (w.die k).registers) fun _ _ _ _ _ => rfl) (fun _ _ => rfl) h

/-- An engine's write leaves the jobs. -/
theorem State.job_engWrite {s u : State} {g : Agent} {a : W64} {bs : List Byte} (h : s.engWrite g a bs = .ok u) (d n : Nat) : u.job d n = s.job d n :=
  congrArg (List.find? fun (j : Job) => j.serial == n) (congrArg Die.jobs (State.registers_engWrite h d) :)

/-- The layout units keep the translations of a unit, and nothing else changes. -/
theorem State.touchTiles_eq (s : State) (g : Agent) (j : Job) (c : List W64) (u : Nat) : ∃ b, s.touchTiles g j c u = { s with layoutTlb := b } := by
  have hif (q : Prop) [Decidable q] (l : List Nat) (v : State) :
      ∃ b, (if q then l.foldl (fun (s : State) va => s.fillLayout g.die va) v else v) = { v with layoutTlb := b } := by
    by_cases h : q
    · rw [if_pos h]
      exact State.foldl_fillLayout_eq g.die l v
    · rw [if_neg h]
      exact ⟨v.layoutTlb, rfl⟩
  obtain ⟨b, hb⟩ := hif (cardSrck c = 1) ((cardTile (recOf j.srec) c false).pages (cardOffset c false u).toNat (cardUnit c)) s
  unfold State.touchTiles
  dsimp only
  rw [hb]
  exact hif (cardDstk c = 1) _ { s with layoutTlb := b }

/-- Units land on no barrier where their job names none. -/
theorem State.landTo_of_none (s : State) {d n : Nat} {j : Job} (hbarrier : j.barrier = none) : s.landTo d j n = s := by
  unfold State.landTo
  rw [hbarrier]

/-! ### Units -/

section unit
variable {s : State} {d : Nat} {j : Job} {c : List W64} (hunits : j.units = []) (hdst : cardDstk c = 0) (hck : cardCkmode c = 0)
  (hcodec : cardCodec c = 0) (harray : cardInarray c = false) (hbarrier : j.barrier = none)

section bytes
variable (g : Agent) (u : Nat)
include harray

/-- A unit's bytes pass through the engine, where its job copies no rows. -/
theorem unitBytes_eq : s.unitBytes g j c u = s.unitSource g j c u := by
  unfold State.unitBytes
  rw [Job.inArray, harray, Bool.false_and, Bool.false_and, if_neg Bool.false_ne_true]

include hcodec

omit hcodec in
theorem unitBytes_fill (hop : cardOp c = 1) :
    s.unitBytes g j c u = .ok ((List.range (cardUnit c)).map fun i => (toBytes 4 (cardWord c 1).toNat).getD (i % 4) 0#8) := by
  rw [unitBytes_eq harray, State.unitSource, if_pos hop]

theorem unitBytes_copy (hop : cardOp c = 0) (hsrc : cardSrck c = 0) : s.unitBytes g j c u =
    ((s.engRead g (cardWord c 1 + BitVec.ofInt 64 (cardOffset c false u)) (cardUnit c)).mapError UnitEnd.stop) := by
  have hop' : ¬ cardOp c = 1 := fun h => absurd (hop.symm.trans h) Nat.zero_ne_one
  have hsrc' : ¬ cardSrck c = 1 := fun h => absurd (hsrc.symm.trans h) Nat.zero_ne_one
  have hcodec' : ¬ cardCodec c = 2 := fun h => absurd (hcodec.symm.trans h) (by decide)
  rw [unitBytes_eq harray]
  unfold State.unitSource
  simp only [hop', hsrc', hcodec', if_false]
  cases s.engRead g (cardWord c 1 + BitVec.ofInt 64 (cardOffset c false u)) (cardUnit c) with
  | ok bs => rfl
  | error e => rfl

end bytes

include hunits hdst hck hcodec harray hbarrier

/-- A unit that writes its bytes leaves the job one unit further. -/
theorem performUnit_eq {bs : List Byte} {v : State} (hbytes : s.unitBytes (Agent.ofCtx j.ctx j.sup) j c j.pos = .ok bs)
    (hwrite : s.engWrite (Agent.ofCtx j.ctx j.sup) (cardWord c 2 + BitVec.ofInt 64 (cardOffset c true j.pos)) bs = .ok v) :
    ∃ b, s.performUnit d j c j.pos =
      .ok (({ v with layoutTlb := b } : State).modJob d j.serial fun _ => { j with pos := j.pos + 1, units := [], plain := [] }) := by
  have hcovered : (List.range bs.length).any (j.covered c j.pos) = false := by
    rw [List.any_eq_false]
    intro i _
    rw [Job.covered, hunits]
    exact Bool.false_ne_true
  have hdest : s.unitDest (Agent.ofCtx j.ctx j.sup) j c j.pos bs = .ok (v, j.ovf, j.tail) := by
    have hencoded : s.unitEncoded (Agent.ofCtx j.ctx j.sup) j c bs = .ok (s, bs, j.ovf) := if_neg (by rw [hcodec]; decide)
    have hin : j.inArray c = false := by rw [Job.inArray, harray, Bool.false_and]
    have hfree : s.writeUncovered (Agent.ofCtx j.ctx j.sup) (cardWord c 2 + BitVec.ofInt 64 (cardOffset c true j.pos)) (j.covered c j.pos) bs = .ok v :=
      (if_neg (by rw [hcovered]; exact Bool.false_ne_true)).trans hwrite
    unfold State.unitDest
    rw [hencoded]
    dsimp only
    rw [if_neg (by rw [hdst]; decide), if_neg (by rw [hdst]; decide), hin, if_neg Bool.false_ne_true, hfree]
  obtain ⟨b, htouch⟩ := State.touchTiles_eq v (Agent.ofCtx j.ctx j.sup) j c j.pos
  refine ⟨b, ?_⟩
  have hadvance : Job.advance (([] : List Nat).length + 2) { j with plain := [], units := [j.pos] } = { j with pos := j.pos + 1, units := [], plain := [] } := by
    have hfilter : [j.pos].filter (· != j.pos) = [] := by simp
    have hin : [j.pos].contains j.pos = true := by simp
    show (if [j.pos].contains j.pos then Job.advance 1 { j with plain := [], pos := j.pos + 1, units := [j.pos].filter (· != j.pos) } else _) = _
    rw [if_pos hin, hfilter]
    rfl
  have hblocks (w : State) (g : Agent) (last : Bool) : w.checkBlocks g c last 1 { j with plain := [] } = .ok (w, { j with plain := [] }) :=
    if_pos ⟨(by decide : 0 < 4096), fun h => Bool.false_ne_true h.2⟩
  have hland (w : State) (n : Nat) : w.landTo d { j with pos := j.pos + 1, units := [], plain := [] } n = w :=
    State.landTo_of_none w hbarrier
  have hceil : ceilDiv 0 4096 + 1 = 1 := by decide
  unfold State.performUnit
  dsimp only
  rw [hbytes]
  dsimp only
  rw [hdest]
  dsimp only
  rw [htouch, if_pos hck, List.length_nil, hceil, hblocks]
  dsimp only
  rw [hunits, hadvance, hland]

end unit

theorem State.sluiceUnit_of_card {s : State} {d u : Nat} {j : Job} {c : List W64} {ecc : SramEcc} (hjob : s.job d j.serial = some j)
    (hkind : j.kind = .sluice c) : s.sluiceUnit d j.serial u ecc = if s.unitReady d j c u then s.cardUnitRun d j c u ecc else s := by
  unfold State.sluiceUnit
  rw [hjob]
  dsimp only
  rw [hkind]

/-! ### Faults that enter the queue of a die -/

/-- A fault in the queue of a die: it stands at the tail (R285). -/
def FaultQueue.append (q : FaultQueue) (e : FqEntry) : FaultQueue :=
  { q with tail := q.tail + 1, entries := SMap.set {} q.entries (q.tail.toNat % 64) { e with pend := true } }

/-- A fault that enters the queue: the queue takes it, and the note of the queue may be written. -/
theorem State.fqPush_eq {s : State} {d : Nat} (e : FqEntry) (hroom : (s.die d).fq.room = true) (hwaiting : (s.die d).fq.waiting = []) :
    ∃ u, u = s.modDie d (fun x => { x with fq := (s.die d).fq.append e }) ∧ (s.fqPush d e = u ∨ ∃ pa bs, s.fqPush d e = u.writePhys d pa bs) := by
  refine ⟨_, rfl, ?_⟩
  have hpush : s.fqPush d e = s.fqAppend d e := if_pos (by rw [hroom, hwaiting]; rfl)
  rw [hpush]
  unfold State.fqAppend
  dsimp only
  split
  · exact .inl rfl
  · split
    · exact .inr ⟨_, _, rfl⟩
    · exact .inl rfl

theorem State.registers_fqPush {s : State} {d : Nat} (e : FqEntry) (hroom : (s.die d).fq.room = true) (hwaiting : (s.die d).fq.waiting = []) :
    ((s.fqPush d e).die d).registers = { (s.die d).registers with fq := (s.die d).fq.append e } := by
  obtain ⟨u, hu, h⟩ := State.fqPush_eq e hroom hwaiting
  have hdie : (u.die d).registers = { (s.die d).registers with fq := (s.die d).fq.append e } := by
    rw [hu, State.die_modDie_self]
    rfl
  obtain h | ⟨pa, bs, h⟩ := h
  · rw [h, hdie]
  · rw [h, State.registers_writePhys, hdie]

theorem State.clusters_fqPush {s : State} {d : Nat} (e : FqEntry) (hroom : (s.die d).fq.room = true) (hwaiting : (s.die d).fq.waiting = []) :
    (s.fqPush d e).clusters = s.clusters := by
  obtain ⟨u, hu, h⟩ := State.fqPush_eq e hroom hwaiting
  obtain h | ⟨pa, bs, h⟩ := h
  · rw [h, hu]
    rfl
  · rw [h, hu]
    unfold State.writePhys
    split
    · rfl
    · rfl

/-- A fault that enters the queue stands at its tail, pending (R285). -/
theorem State.queuedFault_fqPush {s : State} {d : Nat} (e : FqEntry) (hroom : (s.die d).fq.room = true) (hwaiting : (s.die d).fq.waiting = []) {cause : Nat}
    (hcause : e.cause = BitVec.ofNat 8 cause) : s.QueuedFault (s.fqPush d e) d cause e.va := by
  have hfq : ((s.fqPush d e).die d).fq = (s.die d).fq.append e := congrArg Die.fq (State.registers_fqPush e hroom hwaiting)
  unfold State.QueuedFault
  rw [hfq]
  have hentry : SMap.get {} ((s.die d).fq.append e).entries ((s.die d).fq.tail.toNat % 64) = { e with pend := true } := SMap.get_set_self _ _ _ _
  refine ⟨?_, rfl⟩
  rw [hentry, ← hcause]

section job
variable {s : State} {d : Nat} {j : Job} {c : List W64} (hjob : s.job d j.serial = some j) (hkind : j.kind = .sluice c) (hgated : s.gatedOff = false)
include hjob hkind hgated

/-! ### Start and end -/

theorem job_start_clause (hwaiting : j.state = .waiting) (hpreds : s.predsDone d j = true) (htime : s.timeReached (cardLt c) = true)
    (harray : cardInarray c = false) {a b : Tile4} (ha : a = cardTile {} c false) (hb : b = cardTile {} c true)
    (hclean : s.poisonIn (s.jobReads d c) = none) :
    ∃ t, exec (.sluiceJobStart d j.serial) s = .next t ∧ t.home = s.home ∧ t.job d j.serial = some
      { j with
        state := .running, fallback := false, srec := if cardSrck c = 1 then s.layoutBytes d (cardHandle c false) a.coord a.shape else []
        drec := if cardDstk c = 1 then s.layoutBytes d (cardHandle c true) b.coord b.shape else [] } := by
  have hstep : s.sluiceStart d j.serial = s.modJob d j.serial fun k =>
      { k with
        state := .running, fallback := false, srec := if cardSrck c = 1 then s.layoutBytes d (cardHandle c false) a.coord a.shape else []
        drec := if cardDstk c = 1 then s.layoutBytes d (cardHandle c true) b.coord b.shape else [] } := by
    rw [ha, hb]
    unfold State.sluiceStart
    simp only [hjob, hwaiting, hpreds, hgated, ne_eq, not_true_eq_false, Bool.not_true, Bool.false_eq_true, or_self, if_false, hkind, htime, if_true,
      harray, Bool.false_and, hclean]
  refine ⟨_, congrArg Host.Outcome.next hstep, rfl, ?_⟩
  exact State.job_modJob_of hjob _ fun _ h => h

theorem job_done_clause {x : Ctx} {k : Nat} (hrun : j.state = .running) (hunits : cardUnits c ≤ j.pos) (hstream : s.streamReady d j c = true)
    (hlanded : ∀ l, j.barrier = some l → s.barWaits.any (fun w => w.loc == l) = false) (htoken : j.token = some k) (hctx : s.ctx j.ctx = some x) :
    ∃ t y, exec (.sluiceJobDone d j.serial) s = .next t ∧ t.job d j.serial = some { j with state := .done } ∧ t.ctx j.ctx = some y ∧
      y.tokCount k = x.tokCount k - 1 := by
  have hland : (match j.barrier with | some l => !s.barWaits.any fun w => w.loc == l | none => true) = true := by
    cases hl : j.barrier with
    | none => rfl
    | some l =>
      dsimp only
      rw [hlanded l hl]
      rfl
  have hend : s.endJob d j.serial .done = (((s.modJob d j.serial fun m => { m with state := .done }).modCtx j.ctx fun x => x.tokDown k).dropPass
      (ctxCluster j.ctx) d j.serial).placeFreed d := by
    have hlive : j.state.ended = false := by rw [hrun]; rfl
    unfold State.endJob State.endOne
    cases hl : j.barrier with
    | none => simp only [hjob, hlive, Bool.false_eq_true, if_false, if_true, htoken, hkind, hl]
    | some l => simp only [hjob, hlive, Bool.false_eq_true, if_false, if_true, htoken, hkind, hl, JState.flags]
  have hstep : s.sluiceDone d j.serial = (s.endJob d j.serial .done).checkEnd := by
    unfold State.sluiceDone
    simp only [hjob, hkind, hrun, hgated, hunits, hstream, Bool.not_false, true_and]
    exact if_pos hland
  generalize hu : ((s.modJob d j.serial fun m => { m with state := .done }).modCtx j.ctx fun x => x.tokDown k) = u at hend
  have huctx : u.ctx j.ctx = some (x.tokDown k) := by
    have hold : (s.modJob d j.serial fun m => { m with state := .done }).ctx j.ctx = some x := hctx
    rw [← hu, State.ctx_modCtx_self, hold]
    rfl
  have hudies : u.dies = (s.modJob d j.serial fun m => { m with state := .done }).dies := by
    rw [← hu, State.modCtx_eq]
  have hujob : u.job d j.serial = some { j with state := .done } := by
    rw [State.job, State.die, hudies]
    exact State.job_modJob_of hjob (fun m => { m with state := .done }) fun _ h => h
  have huended : ∀ m ∈ (u.die d).jobs, m.serial = j.serial → m.state ≠ .queued := by
    intro m hm hserial
    rw [State.die, hudies] at hm
    rw [State.state_of_modJob s hm hserial]
    exact JState.noConfusion
  obtain ⟨y, hy, hyk⟩ := State.ctx_dropPass (cl := ctxCluster j.ctx) (d := d) (n := j.serial) huctx
  obtain ⟨ks, cs, a, hdrop⟩ := State.dropPass_eq u (ctxCluster j.ctx) d j.serial
  obtain ⟨z, hz, hzk⟩ := State.ctx_placeFreed (d := d) hy
  have hfinal : ((u.dropPass (ctxCluster j.ctx) d j.serial).placeFreed d).job d j.serial = some { j with state := .done } := by
    refine State.job_placeFreed ?_ ?_
    · rw [hdrop]
      exact hujob
    · rw [hdrop]
      exact huended
  rw [hend, State.checkEnd_of_ctx hz] at hstep
  refine ⟨_, z, congrArg Host.Outcome.next hstep, hfinal, hz, ?_⟩
  have hcount : z.tokCount k = (x.tokDown k).tokCount k := by rw [Ctx.tokCount, hzk, hyk, Ctx.tokCount]
  rw [hcount, Ctx.tokCount_tokDown]

/-! ### A unit, and a fault of one -/

section unit
variable (hrun : j.state = .running) (hlast : j.pos < cardUnits c) (hunits : j.units = []) (hdst : cardDstk c = 0) (hck : cardCkmode c = 0)
  (hcodec : cardCodec c = 0) (harray : cardInarray c = false)
include hrun hlast hunits hcodec harray

include hdst hck in
/-- A unit that writes its bytes: the job stands one unit further, and memory is as the write leaves it. -/
theorem job_unit_clause (hbarrier : j.barrier = none) (hwaits : s.unitWaits (Agent.ofCtx j.ctx j.sup) c j.pos = false) {bs : List Byte} {v : State}
    (hbytes : s.unitBytes (Agent.ofCtx j.ctx j.sup) j c j.pos = .ok bs)
    (hwrite : s.engWrite (Agent.ofCtx j.ctx j.sup) (cardWord c 2 + BitVec.ofInt 64 (cardOffset c true j.pos)) bs = .ok v) :
    ∃ t, exec (.sluiceUnit d j.serial j.pos .clean) s = .next t ∧ t.home = v.home ∧ t.cores = v.cores ∧ t.clusters = v.clusters ∧
      (∀ k, (t.die k).view = (v.die k).view) ∧ t.job d j.serial = some { j with pos := j.pos + 1, units := [], plain := [] } := by
  obtain ⟨b, hperform⟩ := performUnit_eq hunits hdst hck hcodec harray hbarrier hbytes hwrite
  have hdone : ({ v with layoutTlb := b } : State).job d j.serial = some j := (State.job_engWrite hwrite d j.serial).trans hjob
  generalize hw : ({ v with layoutTlb := b } : State) = w at hperform hdone
  have hjob' : (w.modJob d j.serial fun _ => { j with pos := j.pos + 1, units := [], plain := [] }).job d j.serial =
      some { j with pos := j.pos + 1, units := [], plain := [] } :=
    State.job_modJob_of hdone (fun _ => { j with pos := j.pos + 1, units := [], plain := [] }) fun _ _ => rfl
  have hfresh : j.performed j.pos = false := by
    unfold Job.performed
    rw [hunits, decide_eq_false (Nat.lt_irrefl _)]
    rfl
  have hready : s.unitReady d j c j.pos = true := by
    have hstream : s.streamReady d j c = true := by
      unfold State.streamReady
      rw [hdst]
      rfl
    unfold State.unitReady
    rw [hrun, hgated, decide_eq_true hlast, hfresh, hstream, hwaits, beq_self_eq_true j.pos, Bool.or_true]
    rfl
  have hunit : s.cardUnitRun d j c j.pos .clean = (w.modJob d j.serial fun _ => { j with pos := j.pos + 1, units := [], plain := [] }).checkEnd := by
    have hpass : s.enterPass d j c = (s, true) := if_pos hcodec
    unfold State.cardUnitRun
    rw [hpass]
    dsimp only
    rw [if_pos rfl, if_pos hcodec]
    unfold State.unitEcc
    dsimp only
    rw [hperform]
    rfl
  have hstep : s.sluiceUnit d j.serial j.pos .clean = w.modJob d j.serial fun _ => { j with pos := j.pos + 1, units := [], plain := [] } := by
    rw [State.sluiceUnit_of_card hjob hkind, if_pos hready, hunit]
    exact State.checkEnd_of_job hjob' hrun
  refine ⟨_, congrArg Host.Outcome.next hstep, ?_, ?_, ?_, fun k => (State.view_modJob w d j.serial k _).trans ?_, hjob'⟩
  · rw [← hw]
    rfl
  · rw [← hw]
    rfl
  · rw [← hw]
    rfl
  · rw [← hw]
    rfl

/-- A copy whose read does not translate is suspended. -/
theorem sluiceFault_eq {cause : Nat} {va : W64} {lay : Bool} (hop : cardOp c = 0) (hsrc : cardSrck c = 0)
    (hread : s.engRead (Agent.ofCtx j.ctx j.sup) (cardWord c 1 + BitVec.ofInt 64 (cardOffset c false j.pos)) (cardUnit c) =
      .error (.fault cause va false lay)) : s.sluiceFault d j.serial j.pos = s.suspendJob d j cause va false lay := by
  have hperform : s.performUnit d j c j.pos = .stop (.fault cause va false lay) := by
    unfold State.performUnit
    dsimp only
    rw [unitBytes_copy hcodec harray _ _ hop hsrc, hread]
    rfl
  have hfresh : ¬ j.performed j.pos := by
    unfold Job.performed
    rw [hunits, decide_eq_false (Nat.lt_irrefl _)]
    exact Bool.false_ne_true
  unfold State.sluiceFault
  rw [hjob]
  dsimp only
  split
  · next c' hc =>
    obtain rfl := JobKind.sluice.inj (hkind.symm.trans hc)
    rw [if_pos ⟨hrun, by rw [hgated]; rfl, hlast, hfresh, fun _ => rfl⟩, hperform]
    rfl
  · next hno => exact absurd hkind (hno c)

theorem job_fault_clause {cause : Nat} {va : W64} {lay : Bool} (hop : cardOp c = 0) (hsrc : cardSrck c = 0)
    (hread : s.engRead (Agent.ofCtx j.ctx j.sup) (cardWord c 1 + BitVec.ofInt 64 (cardOffset c false j.pos)) (cardUnit c) =
      .error (.fault cause va false lay)) (hroom : (s.die d).fq.room = true) (hwaiting : (s.die d).fq.waiting = []) :
    ∃ t, exec (.sluiceJobFault d j.serial j.pos) s = .next t ∧ t.job d j.serial = some { j with state := .suspended, units := [] } ∧
      s.QueuedFault t d cause va := by
  have hstep := sluiceFault_eq hjob hkind hgated hrun hlast hunits hcodec harray hop hsrc hread
  obtain ⟨ks, cs, n, hdrop⟩ := State.dropPass_eq (s.modJob d j.serial fun k => { k with state := .suspended, units := [] }) (ctxCluster j.ctx) d j.serial
  obtain ⟨e, hva, hcause, hsuspend⟩ : ∃ e : FqEntry, e.va = va ∧ e.cause = BitVec.ofNat 8 cause ∧ s.suspendJob d j cause va false lay =
      ((s.modJob d j.serial fun k => { k with state := .suspended, units := [] }).dropPass (ctxCluster j.ctx) d j.serial).fqPush d e :=
    ⟨_, rfl, rfl, rfl⟩
  have hjob' := State.job_modJob_of hjob (fun k => { k with state := .suspended, units := [] }) fun _ h => h
  have hfq : ((s.modJob d j.serial fun k => { k with state := .suspended, units := [] }).die d).fq = (s.die d).fq := by
    unfold State.modJob
    rw [State.die_modDie_self]
  rw [hdrop] at hsuspend
  generalize hu : ({ (s.modJob d j.serial fun k => { k with state := .suspended, units := [] }) with clusters := ks, ctxs := cs, nextAge := n } : State) = u
    at hsuspend
  have hudie : (u.die d).fq = (s.die d).fq := by
    rw [← hu]
    exact hfq
  have hujob : u.job d j.serial = some { j with state := .suspended, units := [] } := by
    rw [← hu]
    exact hjob'
  rw [← hudie] at hroom hwaiting
  refine ⟨u.fqPush d e, congrArg Host.Outcome.next (hstep.trans hsuspend), ?_, ?_⟩
  · exact (congrArg (List.find? fun (k : Job) => k.serial == j.serial) (congrArg Die.jobs (State.registers_fqPush e hroom hwaiting) :)).trans hujob
  · have hqueued := State.queuedFault_fqPush e hroom hwaiting hcause
    rw [State.QueuedFault, hudie, hva] at hqueued
    exact hqueued

end unit

end job

/-- A vector that a job has ready enters a buffer with room. -/
theorem stream_arrival_clause {s : State} {x : Ctx} {c d m f n : Nat} {v : Vec} {rest : List (Nat × Vec)} (hgated : s.gatedOff = false)
    (hctx : s.ctx c = some x) (hbound : (SMap.get {} x.f f).bound = some (.job d m)) (hroom : (SMap.get {} x.f f).buf.length < 8)
    (hcoming : (SMap.get {} x.f f).coming = (n, v) :: rest) :
    ∃ t y, exec (.streamVectorArrival c f) s = .next t ∧ t.ctx c = some y ∧
      SMap.get {} y.f f = { SMap.get {} x.f f with buf := (SMap.get {} x.f f).buf ++ [v], coming := rest } := by
  have hstep : s.vectorArrival c f = s.modCtx c fun y =>
      { y with f := SMap.set {} y.f f { SMap.get {} x.f f with buf := (SMap.get {} x.f f).buf ++ [v], coming := rest } } := by
    have hopen : ¬ (8 ≤ (SMap.get {} x.f f).buf.length ∨ s.gatedOff = true) := by
      rw [hgated]
      rintro (h | h)
      · exact absurd hroom (Nat.not_lt.mpr h)
      · cases h
    unfold State.vectorArrival
    rw [hctx]
    dsimp only
    rw [if_neg hopen]
    split
    case h_1 hm => exact absurd (hbound.symm.trans hm) nofun
    case h_2 hm _ =>
      obtain ⟨hv, rfl⟩ := List.cons.inj (hcoming.symm.trans hm)
      obtain ⟨-, rfl⟩ := Prod.mk.inj hv
      rfl
    case h_3 hm => exact absurd (hcoming.symm.trans hm) nofun
    case h_4 hm _ _ => exact absurd (hcoming.symm.trans hm) nofun
  refine ⟨_, { x with f := SMap.set {} x.f f { SMap.get {} x.f f with buf := (SMap.get {} x.f f).buf ++ [v], coming := rest } },
    congrArg Host.Outcome.next hstep, ?_, SMap.get_set_self _ _ _ _⟩
  rw [State.ctx_modCtx_self, hctx]
  rfl

/-- Settles O46: a job starts on the records it reads, moves one unit on with each unit's write, is suspended where one does not translate, and ends with
its token; a ready vector enters its buffer. -/
theorem sluiceJobEvents : Obligations.SluiceJobEvents := by
  unfold Obligations.SluiceJobEvents
  intro s d j c hjob hkind hgated
  refine ⟨fun hwaiting hpreds htime harray a b ha hb hclean => job_start_clause hjob hkind hgated hwaiting hpreds htime harray ha hb hclean,
    fun x k hrun hunits hstream hlanded htoken hctx => job_done_clause hjob hkind hgated hrun hunits hstream hlanded htoken hctx, ?_, ?_⟩
  · intro g u hg hu hrun hlast hunits hdst hck hcodec harray hbarrier hwaits src dst hsrcAt hdstAt
    subst hg hu hsrcAt hdstAt
    refine ⟨fun bs v hfrom hwrite => ?_, fun cause va lay hop hsrc hread hroom hwaiting =>
      job_fault_clause hjob hkind hgated hrun hlast hunits hcodec harray hop hsrc hread hroom hwaiting⟩
    have hbytes : s.unitBytes (Agent.ofCtx j.ctx j.sup) j c j.pos = .ok bs := by
      obtain ⟨hop, rfl⟩ | ⟨hop, hsrc, hread⟩ := hfrom
      · exact unitBytes_fill harray _ _ hop
      · rw [unitBytes_copy hcodec harray _ _ hop hsrc, hread]
        rfl
    exact job_unit_clause hjob hkind hgated hrun hlast hunits hdst hck hcodec harray hbarrier hwaits hbytes hwrite
  · intro x r f n v rest hctx hr hbound hroom hcoming
    subst hr
    exact stream_arrival_clause hgated hctx hbound hroom hcoming

end Sys2Proof.Machine

/-! ## Riffle units (R181 to R196) -/

namespace Sys2Proof.Machine

set_option Elab.async false

/-! ### A unit's queue and what keeps it -/

theorem State.riffle_modRiffle (s : State) (cl u : Nat) (f : Riffle → Riffle) : (s.modRiffle cl u f).riffle cl u = f (s.riffle cl u) := by
  unfold State.riffle State.modRiffle
  rw [State.cluster_modCluster_self]
  exact SMap.get_modify_self _ _ _ _

theorem State.queue_modHead {s : State} {cl u : Nat} {o : ROp} {rest : List ROp} (hqueue : (s.riffle cl u).queue = o :: rest) (f : ROp → ROp) :
    ((s.modHead cl u f).riffle cl u).queue = f o :: rest := by
  unfold State.modHead
  rw [State.riffle_modRiffle]
  dsimp only
  rw [hqueue]

theorem State.riffle_modCluster {s : State} {k : Nat} {f : Cluster → Cluster} (hf : ∀ x, (f x).riffle = x.riffle) (cl u : Nat) :
    (s.modCluster k f).riffle cl u = s.riffle cl u := by
  unfold State.riffle
  by_cases h : cl = k
  · rw [h, State.cluster_modCluster_self, hf]
  · rw [State.cluster_modCluster_ne _ _ _ _ h]

theorem State.riffle_writeLoc (s : State) (d : Nat) (l : Loc) (bs : List Byte) (cl u : Nat) : (s.writeLoc d l bs).riffle cl u = s.riffle cl u := by
  cases l with
  | global pa =>
    show (s.writePhys d pa bs).riffle cl u = _
    unfold State.writePhys
    split <;> rfl
  | acc c off =>
    have hbyte (v : State) (o : Nat) (b : Byte) : (v.setAccByte c o b).clusters = v.clusters := by
      unfold State.setAccByte State.modAccTile
      dsimp only
      split
      · rfl
      · rfl
    have hbytes : ∀ (bs : List Byte) (v : State) (o : Nat),
        (bs.foldl (fun (p : State × Nat) b => (p.1.setAccByte c p.2 b, p.2 + 1)) (v, o)).1.clusters = v.clusters := by
      intro bs
      induction bs with
      | nil => exact fun v o => rfl
      | cons b bs ih => exact fun v o => (ih _ _).trans (hbyte v o b)
    have hclusters : (s.writeLoc d (.acc c off) bs).clusters = s.clusters := hbytes bs s off
    rw [State.riffle, State.cluster, hclusters, State.riffle, State.cluster]
  | sram c off => exact State.riffle_modCluster (f := fun x => { x with sram := Mem.write x.sram off bs }) (fun _ => rfl) cl u
  | spad c off => rfl
  | host a => rfl
  | mmio off => rfl
  | spill c off => rfl

/-- An engine's write leaves the queues of the Riffle units. -/
theorem State.riffle_engWrite {s v : State} {g : Agent} {a : W64} {bs : List Byte} (h : s.engWrite g a bs = .ok v) (cl u : Nat) :
    v.riffle cl u = s.riffle cl u :=
  State.keeps_engWrite (fun w => w.riffle cl u) (fun v d l bs => State.riffle_writeLoc v d l bs cl u)
    (fun _ _ hbehind => hbehind.keeps (fun w => w.riffle cl u) fun _ _ _ _ _ => rfl) (fun _ _ => rfl) h

theorem State.riffle_writeStaged {g : Agent} {ps : List (W64 × List Byte)} {s : State} (cl u : Nat) : (s.writeStaged g ps).1.riffle cl u = s.riffle cl u := by
  induction ps generalizing s with
  | nil => rfl
  | cons p ps ih =>
    obtain ⟨a, bs⟩ := p
    unfold State.writeStaged
    split
    · rfl
    · next v hv => exact ih.trans (State.riffle_engWrite hv cl u)

/-! ### What a chunk writes -/

theorem State.chunkRead_of_engRead {s : State} {g : Agent} {a : W64} {n : Nat} {bs : List Byte} (hread : s.engRead g a n = .ok bs) :
    s.chunkRead g a n = .ok bs := by
  unfold State.chunkRead
  rw [hread]

theorem chunk_decode {s : State} {o : ROp} {bs : List Byte} (hkind : o.kind = .decode)
    (hread : s.readSlot o.agent (o.port 0 + BitVec.ofNat 64 (o.slot * o.pos)) o.slot = .ok (.plain bs)) :
    s.chunk o = .ok [(o.port 1 + BitVec.ofNat 64 (4096 * o.pos), bs)] := by
  unfold State.chunk
  dsimp only
  rw [hkind]
  dsimp only
  rw [hread]

theorem chunk_encode {s : State} {o : ROp} {bs : List Byte} (hkind : o.kind = .encode)
    (hread : s.engRead o.agent (o.port 0 + BitVec.ofNat 64 (4096 * o.pos)) 4096 = .ok bs) (hfits : (encodeBlock bs).length ≤ o.slot) :
    s.chunk o = .ok [(o.port 1 + BitVec.ofNat 64 (o.slot * o.pos), padTo o.slot (encodeBlock bs))] := by
  unfold State.chunk
  dsimp only
  rw [hkind]
  dsimp only
  rw [State.chunkRead, hread]
  exact congrArg Except.ok (if_pos hfits)

theorem chunk_unpack12 {s : State} {o : ROp} {bs : List Byte} (hkind : o.kind = .unpack12)
    (hread : s.engRead o.agent (o.port 0 + BitVec.ofNat 64 (3072 * o.pos)) (ceilDiv (3 * min 2048 (o.count - 2048 * o.pos)) 2) = .ok bs) :
    s.chunk o = .ok [(o.port 1 + BitVec.ofNat 64 (4096 * o.pos), unpackPixels o.lj (min 2048 (o.count - 2048 * o.pos)) bs)] := by
  unfold State.chunk
  dsimp only
  rw [hkind]
  dsimp only
  rw [State.chunkRead, hread]
  rfl

theorem chunk_expand3 {s : State} {o : ROp} {bs : List Byte} (hkind : o.kind = .expand3)
    (hread : s.engRead o.agent (o.port 0 + BitVec.ofNat 64 (768 * o.pos)) (ceilDiv (3 * min 2048 (o.count - 2048 * o.pos)) 8) = .ok bs) :
    s.chunk o = .ok [(o.port 1 + BitVec.ofNat 64 (4096 * o.pos),
      expandIndices ((o.port 4).toNat + 2 ^ 64 * (o.port 5).toNat) (min 2048 (o.count - 2048 * o.pos)) bs)] := by
  unfold State.chunk
  dsimp only
  rw [hkind]
  dsimp only
  rw [State.chunkRead, hread]
  rfl

theorem chunk_fill {s : State} {o : ROp} (hkind : o.kind = .fill) :
    s.chunk o = .ok [(o.port 1 + BitVec.ofNat 64 (4096 * o.pos),
      (List.replicate (min 4096 (o.count - 4096 * o.pos) / 4) (toBytes 4 (o.port 3).toNat)).flatten)] := by
  unfold State.chunk
  dsimp only
  rw [hkind]

section head
variable {s : State} {cl u : Nat} {o : ROp} {rest : List ROp} (hqueue : (s.riffle cl u).queue = o :: rest)
  (hstate : o.state = .queued ∨ o.state = .running) (hjob : o.job = none) (hgated : s.gatedOff = false)
include hqueue hstate hjob hgated

theorem riffleHead_eq : s.riffleHead cl u = some o := by
  unfold State.riffleHead
  rw [hqueue]
  exact if_pos ⟨hstate, by rw [hjob]; rfl, by rw [hgated]; rfl⟩

/-! ### The next chunk -/

/-- A chunk that is read stands in the staging buffer of the head. -/
theorem riffleRun_chunk {k : RKind} {out : List (W64 × List Byte)} (hkind : o.kind = k) (hcrc : k ≠ .crc) (hstaged : o.staged = none)
    (hmore : o.pos < o.chunks) (hwaits : s.chunkWaits o = false) (hchunk : s.chunk { o with state := .running } = .ok out) :
    ∃ q, ((s.riffleRun cl u k).riffle cl u).queue = q :: rest ∧ q.staged = some out ∧ q.state = .running ∧ q.pos = o.pos ∧
      (s.riffleRun cl u k).home = s.home ∧ (s.riffleRun cl u k).dies = s.dies ∧ (s.riffleRun cl u k).cores = s.cores := by
  have hgo : ¬ (o.kind ≠ k ∨ o.staged.isSome ∨ (o.chunks ≤ o.pos ∧ k ≠ .crc) ∨ s.chunkWaits o) := by
    rw [hstaged, hwaits]
    rintro (h | h | ⟨h, -⟩ | h)
    · exact h hkind
    · cases h
    · exact absurd hmore (Nat.not_lt.mpr h)
    · cases h
  unfold State.riffleRun
  rw [riffleHead_eq hqueue hstate hjob hgated]
  dsimp only
  rw [if_neg hgo, if_neg hcrc, hchunk]
  exact ⟨_, State.queue_modHead hqueue _, rfl, rfl, rfl, rfl, rfl, rfl⟩

/-- A checksum takes the whole source in one chunk. -/
theorem riffleRun_crc {bs : List Byte} (hkind : o.kind = .crc) (hstaged : o.staged = none) (hwaits : s.chunkWaits o = false)
    (hread : s.engRead o.agent (o.port 0) o.count = .ok bs) : ∃ q, ((s.riffleRun cl u .crc).riffle cl u).queue = q :: rest ∧ q.staged = some [] ∧
      q.result = (~~~(bs.foldl crcStep (~~~((o.port 3).truncate 32)))).toNat := by
  have hgo : ¬ (o.kind ≠ .crc ∨ o.staged.isSome ∨ (o.chunks ≤ o.pos ∧ RKind.crc ≠ .crc) ∨ s.chunkWaits o) := by
    rw [hstaged, hwaits]
    rintro (h | h | ⟨-, h⟩ | h)
    · exact h hkind
    · cases h
    · exact h rfl
    · cases h
  have hchunk : s.chunkRead ({ o with state := .running } : ROp).agent (({ o with state := .running } : ROp).port 0)
      ({ o with state := .running } : ROp).count = .ok bs := State.chunkRead_of_engRead hread
  unfold State.riffleRun
  rw [riffleHead_eq hqueue hstate hjob hgated]
  dsimp only
  rw [if_neg hgo, if_pos rfl, hchunk]
  exact ⟨_, State.queue_modHead hqueue _, rfl, rfl⟩

/-! ### Write, end and fault -/

/-- A chunk whose pieces are all written: the head goes on with the next one. -/
theorem riffleWrite_all {ps : List (W64 × List Byte)} {v : State} {n : Nat} (hstaged : o.staged = some ps) (hcrc : o.kind ≠ .crc) (htbv : o.tbv = false)
    (hfree : ps.any (fun p => s.engWaits o.agent p.1 p.2.length) = false)
    (hwrite : s.writeStaged o.agent (ps.flatMap fun p => cutPiece p.1 p.2) = (v, n, none)) :
    ∃ q, (s.riffleWrite cl u).home = v.home ∧ (s.riffleWrite cl u).dies = v.dies ∧ (s.riffleWrite cl u).cores = v.cores ∧
      ((s.riffleWrite cl u).riffle cl u).queue = q :: rest ∧ q.staged = none ∧ q.pos = o.pos + 1 ∧ q.result = o.result + n := by
  have hv : (v.riffle cl u).queue = o :: rest := by
    have hkeep := State.riffle_writeStaged (g := o.agent) (ps := ps.flatMap fun p => cutPiece p.1 p.2) (s := s) cl u
    rw [hwrite] at hkeep
    rw [← hqueue]
    exact congrArg Riffle.queue hkeep
  have hgo : ¬ (o.kind = .crc ∨ ps.any (fun p => s.engWaits o.agent p.1 p.2.length)) := by
    rw [hfree]
    rintro (h | h)
    · exact hcrc h
    · cases h
  have hland (w : State) (p : ROp) (hp : p.tbv = false) (a b : Nat) : w.riffleLand p a b = w := by
    unfold State.riffleLand
    rw [hp]
    rfl
  unfold State.riffleWrite
  rw [riffleHead_eq hqueue hstate hjob hgated]
  dsimp only
  rw [hstaged]
  dsimp only
  rw [if_neg hgo, hwrite]
  dsimp only
  rw [hland _ _ htbv]
  exact ⟨_, rfl, rfl, rfl, State.queue_modHead hv _, rfl, rfl, rfl⟩

theorem riffleComplete_clause {x : Ctx} (hend : o.kind ≠ .crc ∧ o.staged = none ∧ o.chunks ≤ o.pos ∨ o.kind = .crc ∧ o.staged = some [])
    (hlast : o.last = true) (hctx : s.ctx o.ctx = some x) (hlanded : o.tbv = false ∨ s.barWaits.any (fun w => w.loc == o.agent.local (o.port 6)) = false) :
    ∃ y, ((s.riffleComplete cl u .clean).riffle cl u).queue = rest ∧
      SMap.get 0#64 ((s.riffleComplete cl u .clean).riffle cl u).status o.ctx = ({ o with state := .done, err := 0#8 } : ROp).status ∧
      SMap.get 0#64 ((s.riffleComplete cl u .clean).riffle cl u).result o.ctx = BitVec.ofNat 64 o.result ∧
      (s.riffleComplete cl u .clean).ctx o.ctx = some y ∧ y.tokCount o.token = x.tokCount o.token - 1 := by
  have hdone : (!o.tbv || !s.barWaits.any fun w => w.loc == o.agent.local (o.port 6)) = true := by
    obtain h | h := hlanded
    · rw [h]
      rfl
    · rw [h]
      exact Bool.or_true _
  have hfinish : s.riffleEnd cl u o .done 0 = ((s.modRiffle cl u fun r => ({ r with queue := r.queue.drop 1 } : Riffle).keep
      { o with state := .done, err := 0#8 }).modCtx o.ctx fun x => x.tokDown o.token).wakeOldest fun _ w => w == .riffle cl u := by
    unfold State.riffleEnd
    dsimp only
    have hnone : (({ o with state := .done, err := 0#8 } : ROp).tbv && RState.done == RState.error) = false := Bool.and_false _
    rw [if_neg (ne_true_of_eq_false hnone)]
  have hstep : s.riffleComplete cl u .clean = (s.riffleEnd cl u o .done 0).checkEnd := by
    unfold State.riffleComplete
    rw [riffleHead_eq hqueue hstate hjob hgated]
    dsimp only
    have hclean : ¬ (SramEcc.clean = .corrected ∧ o.reads = true) := nofun
    rw [if_neg hclean]
    exact if_pos ⟨hend, hdone⟩
  generalize hw : (s.modRiffle cl u fun r => ({ r with queue := r.queue.drop 1 } : Riffle).keep { o with state := .done, err := 0#8 }) = w at hfinish
  have hwunit : w.riffle cl u = ({ s.riffle cl u with queue := rest } : Riffle).keep { o with state := .done, err := 0#8 } := by
    rw [← hw, State.riffle_modRiffle, hqueue]
    rfl
  have hwctx : (w.modCtx o.ctx fun x => x.tokDown o.token).ctx o.ctx = some (x.tokDown o.token) := by
    have hold : w.ctx o.ctx = some x := by
      rw [← hw]
      exact hctx
    rw [State.ctx_modCtx_self, hold]
    rfl
  obtain ⟨y, hy, hyk⟩ := State.ctx_wakeOldest (fun _ w => w == .riffle cl u) hwctx
  obtain ⟨cs, n, hwake⟩ := State.wakeOldest_eq (w.modCtx o.ctx fun x => x.tokDown o.token) fun _ w => w == .riffle cl u
  rw [hfinish, State.checkEnd_of_ctx hy] at hstep
  have hunit : (s.riffleComplete cl u .clean).riffle cl u = ({ s.riffle cl u with queue := rest } : Riffle).keep { o with state := .done, err := 0#8 } := by
    rw [hstep, hwake, ← hwunit, State.modCtx_eq]
    rfl
  have hkeep : ({ s.riffle cl u with queue := rest } : Riffle).keep { o with state := .done, err := 0#8 } =
      { s.riffle cl u with
        queue := rest, status := SMap.set 0#64 (s.riffle cl u).status o.ctx ({ o with state := .done, err := 0#8 } : ROp).status
        result := SMap.set 0#64 (s.riffle cl u).result o.ctx (BitVec.ofNat 64 o.result) } := if_pos hlast
  rw [hunit, hkeep, hstep]
  refine ⟨y, rfl, SMap.get_set_self _ _ _ _, SMap.get_set_self _ _ _ _, hy, ?_⟩
  rw [Ctx.tokCount, hyk]
  exact Ctx.tokCount_tokDown x o.token

theorem riffleFault_clause {cause : Nat} {va : W64} {wr lay : Bool} (hcrc : o.kind ≠ .crc) (hstaged : o.staged = none)
    (hchunk : s.chunk o = .error (.stop (.fault cause va wr lay))) (hwaits : s.chunkWaits o = false) (hroom : (s.die (clusterDie cl)).fq.room = true)
    (hwaiting : (s.die (clusterDie cl)).fq.waiting = []) :
    ((s.riffleFault cl u).riffle cl u).queue = { o with state := .suspended } :: rest ∧ s.QueuedFault (s.riffleFault cl u) (clusterDie cl) cause va := by
  have hstep : s.riffleFault cl u = s.riffleSuspend cl u o cause va wr := by
    unfold State.riffleFault
    rw [riffleHead_eq hqueue hstate hjob hgated]
    dsimp only
    rw [hstaged]
    dsimp only
    rw [if_neg hcrc, hchunk]
    dsimp only
    rw [if_neg (by rw [hwaits]; exact Bool.false_ne_true)]
  obtain ⟨e, hva, hcause, hsuspend⟩ : ∃ e : FqEntry, e.va = va ∧ e.cause = BitVec.ofNat 8 cause ∧
      s.riffleSuspend cl u o cause va wr = (s.modHead cl u fun o => { o with state := .suspended }).fqPush (clusterDie cl) e := ⟨_, rfl, rfl, rfl⟩
  have hhead := State.queue_modHead hqueue fun o => { o with state := .suspended }
  generalize hw : (s.modHead cl u fun o => { o with state := .suspended }) = w at hsuspend hhead
  have hdie : w.die (clusterDie cl) = s.die (clusterDie cl) := by
    rw [← hw]
    rfl
  rw [← hdie] at hroom hwaiting
  have hqueued := State.queuedFault_fqPush e hroom hwaiting hcause
  rw [State.QueuedFault, hdie, hva] at hqueued
  rw [hstep, hsuspend, State.riffle, State.cluster, State.clusters_fqPush e hroom hwaiting]
  exact ⟨hhead, hqueued⟩

end head

/-- Settles O47, by the head of the unit's queue: what its next chunk reads and writes, how it ends, and how it is suspended. -/
theorem riffleEvents : Obligations.RiffleEvents := by
  unfold Obligations.RiffleEvents
  intro s cl u o rest hqueue hstate hjob hgated
  refine ⟨?_, ?_, ?_, ?_, ?_⟩
  · intro hstaged hmore hwaits n hn i out bs hkinds
    subst hn
    obtain ⟨hkind, rfl, hread, rfl⟩ | ⟨hkind, rfl, hread, hfits, rfl⟩ | ⟨hkind, rfl, hread, rfl⟩ | ⟨hkind, rfl, hread, rfl⟩ | ⟨hkind, rfl, rfl⟩ := hkinds
    · obtain ⟨q, h⟩ := riffleRun_chunk hqueue hstate hjob hgated hkind nofun hstaged hmore hwaits (chunk_decode (o := { o with state := .running }) hkind hread)
      exact ⟨_, q, rfl, h⟩
    · obtain ⟨q, h⟩ := riffleRun_chunk hqueue hstate hjob hgated hkind nofun hstaged hmore hwaits
        (chunk_encode (o := { o with state := .running }) hkind hread hfits)
      exact ⟨_, q, rfl, h⟩
    · obtain ⟨q, h⟩ := riffleRun_chunk hqueue hstate hjob hgated hkind nofun hstaged hmore hwaits
        (chunk_unpack12 (o := { o with state := .running }) hkind hread)
      exact ⟨_, q, rfl, h⟩
    · obtain ⟨q, h⟩ := riffleRun_chunk hqueue hstate hjob hgated hkind nofun hstaged hmore hwaits
        (chunk_expand3 (o := { o with state := .running }) hkind hread)
      exact ⟨_, q, rfl, h⟩
    · obtain ⟨q, h⟩ := riffleRun_chunk hqueue hstate hjob hgated hkind nofun hstaged hmore hwaits (chunk_fill (o := { o with state := .running }) hkind)
      exact ⟨_, q, rfl, h⟩
  · intro bs hkind hstaged hwaits hread
    obtain ⟨q, h⟩ := riffleRun_crc hqueue hstate hjob hgated hkind hstaged hwaits hread
    exact ⟨_, q, rfl, h⟩
  · intro ps v n hstaged hcrc htbv hfree hwrite
    obtain ⟨q, h⟩ := riffleWrite_all hqueue hstate hjob hgated hstaged hcrc htbv hfree hwrite
    exact ⟨_, q, rfl, h⟩
  · intro x hend hlast hctx hlanded
    obtain ⟨y, h⟩ := riffleComplete_clause hqueue hstate hjob hgated hend hlast hctx hlanded
    exact ⟨_, y, rfl, h⟩
  · intro cause va wr lay hcrc hstaged hchunk hwaits hroom hwaiting
    exact ⟨_, rfl, riffleFault_clause hqueue hstate hjob hgated hcrc hstaged hchunk hwaits hroom hwaiting⟩

end Sys2Proof.Machine

/-! ## Eddy stores and restores (R199 to R204) -/

namespace Sys2Proof.Machine

set_option Elab.async false

/-! ### What leaves the jobs and the stashes -/

/-- The jobs, the Eddies and the fault queues of the dies and the session stand as they were, and the contexts have not gone. -/
structure State.SameEddies (s t : State) : Prop where
  dies : ∀ k, (t.die k).jobs = (s.die k).jobs ∧ (t.die k).eddy = (s.die k).eddy ∧ (t.die k).fq = (s.die k).fq
  ctxs : s.ctxs ≠ [] → t.ctxs ≠ []
  sess : t.sess = s.sess

theorem State.SameEddies.refl (s : State) : s.SameEddies s := ⟨fun _ => ⟨rfl, rfl, rfl⟩, id, rfl⟩

theorem State.SameEddies.trans {s t u : State} (h : s.SameEddies t) (h' : t.SameEddies u) : s.SameEddies u :=
  ⟨fun k => ⟨(h'.1 k).1.trans (h.1 k).1, (h'.1 k).2.1.trans (h.1 k).2.1, (h'.1 k).2.2.trans (h.1 k).2.2⟩, fun hne => h'.2 (h.2 hne),
    h'.sess.trans h.sess⟩

theorem State.SameEddies.foldl {β : Type} {step : State → β → State} (h : ∀ (u : State) b, u.SameEddies (step u b)) (l : List β) (s : State) :
    s.SameEddies (l.foldl step s) := by
  induction l generalizing s with
  | nil => exact .refl s
  | cons b l ih => exact (h s b).trans (ih _)

theorem State.SameEddies.job {s t : State} (h : s.SameEddies t) (d n : Nat) : t.job d n = s.job d n := by
  rw [State.job, (h.1 d).1, State.job]

theorem State.SameEddies.stash {s t : State} (h : s.SameEddies t) (d key : Nat) : t.stash d key = s.stash d key := by
  rw [State.stash, (h.1 d).2.1, State.stash]

theorem State.sameEddies_of_dies {s t : State} (hdies : t.dies = s.dies) (hctxs : t.ctxs = s.ctxs) (hsess : t.sess = s.sess) :
    s.SameEddies t :=
  ⟨fun k => by rw [State.die, hdies, State.die]; exact ⟨rfl, rfl, rfl⟩, fun h => by rw [hctxs]; exact h, hsess⟩

/-- A map that holds an entry of its own is not empty. -/
theorem SMap.set_ne_nil {α : Type} [DecidableEq α] {z x : α} (h : x ≠ z) (m : SMap α) (i : Nat) : SMap.set z m i x ≠ [] := by
  intro hnil
  have hget : SMap.get z (SMap.set z m i x) i = x := SMap.get_set_self _ _ _ _
  rw [hnil] at hget
  exact h hget.symm

section ops
variable (s : State) (c : Nat)

theorem State.sameEddies_modCtx (f : Ctx → Ctx) : s.SameEddies (s.modCtx c f) := by
  refine ⟨fun k => by rw [State.modCtx_eq]; exact ⟨rfl, rfl, rfl⟩, fun h => ?_, by rw [State.modCtx_eq]⟩
  unfold State.modCtx
  split
  · exact SMap.set_ne_nil (Option.some_ne_none _) _ _
  · exact h

theorem State.sameEddies_insertReady : s.SameEddies (s.insertReady c) :=
  (State.sameEddies_modCtx s c _).trans (State.sameEddies_of_dies rfl rfl rfl)

theorem State.sameEddies_wakeOldest (p : Nat → WaitWhy → Bool) : s.SameEddies (s.wakeOldest p) := by
  unfold State.wakeOldest
  dsimp only
  split
  · exact State.sameEddies_insertReady s _
  · exact .refl s

theorem State.sameEddies_wake (p : Ctx → WaitWhy → Bool) : s.SameEddies (s.wake p) := by
  unfold State.wake
  refine State.SameEddies.foldl (fun u kv => ?_) s.ctxs s
  split
  · split
    · split
      · exact State.sameEddies_insertReady u _
      · exact .refl u
    · exact .refl u
  · exact .refl u

theorem State.sameEddies_of_registers {t : State} (hregs : ∀ k, (t.die k).registers = (s.die k).registers) (hctxs : s.ctxs ≠ [] → t.ctxs ≠ [])
    (hsess : t.sess = s.sess) : s.SameEddies t := ⟨fun k => ⟨(congrArg Die.jobs (hregs k) :), (congrArg Die.eddy (hregs k) :), (congrArg Die.fq (hregs k) :)⟩, hctxs, hsess⟩

theorem State.sameEddies_writeLoc (d : Nat) (l : Loc) (bs : List Byte) : s.SameEddies (s.writeLoc d l bs) := by
  refine State.sameEddies_of_registers s (fun k => State.registers_writeLoc s d l bs k) ?_ (congrArg State.sess (State.apart_writeLoc s d l bs) :)
  cases l with
  | global pa =>
    show s.ctxs ≠ [] → (s.writePhys d pa bs).ctxs ≠ []
    unfold State.writePhys
    split
    · exact id
    · exact id
  | acc c off =>
    have hbyte (u : State) (o : Nat) (b : Byte) : u.ctxs ≠ [] → (u.setAccByte c o b).ctxs ≠ [] := by
      unfold State.setAccByte State.modAccTile
      dsimp only
      split
      · exact fun _ => SMap.set_ne_nil (Option.some_ne_none _) _ _
      · exact id
    have hbytes : ∀ (bs : List Byte) (u : State) (o : Nat), u.ctxs ≠ [] →
        (bs.foldl (fun (p : State × Nat) b => (p.1.setAccByte c p.2 b, p.2 + 1)) (u, o)).1.ctxs ≠ [] := by
      intro bs
      induction bs with
      | nil => exact fun u o h => h
      | cons b bs ih => exact fun u o h => ih _ _ (hbyte u o b h)
    exact hbytes bs s off
  | spad c off => exact id
  | sram c off => exact id
  | host a => exact id
  | mmio off => exact id
  | spill c off => exact id

theorem State.sameEddies_engBar (l : Loc) (a : BarAct) : s.SameEddies (s.engBar l a) := by
  unfold State.engBar
  split
  · exact State.sameEddies_of_dies rfl rfl rfl
  · show s.SameEddies (s.tbarDo l fun b => b.act a)
    unfold State.tbarDo
    dsimp only
    split
    · exact (State.sameEddies_writeLoc s 0 l _).trans (State.sameEddies_wake _ _)
    · exact State.sameEddies_writeLoc s 0 l _

theorem State.sameEddies_evalSoon (d n : Nat) : s.SameEddies (s.evalSoon d n) := by
  obtain ⟨a, h⟩ := State.evalSoon_eq s d n
  rw [h]
  exact State.sameEddies_of_dies rfl rfl rfl

theorem State.sameEddies_of_behindCache {t : State} (h : s.SameBehindCache t) : s.SameEddies t :=
  State.sameEddies_of_dies (h.keeps State.dies fun _ _ _ _ _ => rfl) (h.keeps State.ctxs fun _ _ _ _ _ => rfl)
    (h.keeps State.sess fun _ _ _ _ _ => rfl)

theorem State.sameBehindCache_unpinRun (d : Nat) (r : Nat × Nat) : s.SameBehindCache (s.unpinRun d r) := by
  unfold State.unpinRun
  refine State.SameBehindCache.foldl (fun u n => ?_) _ s
  split
  · exact ⟨_, _, _, _, rfl⟩
  · exact .refl u

theorem State.sameBehindCache_unpinStash (d : Nat) (e : Stash) : s.SameBehindCache (s.unpinStash d e) :=
  State.SameBehindCache.foldl (fun u r => State.sameBehindCache_unpinRun u d r) _ s

theorem State.sameBehindCache_pinRun (d : Nat) (r : Nat × Nat) : s.SameBehindCache (s.pinRun d r) := by
  unfold State.pinRun
  refine State.SameBehindCache.foldl (fun u n => ?_) _ s
  have hserve := State.SameBehindCache.foldl (fun (v : State) k => State.sameBehindCache_llcServe v (4 * n + k) .writeWhole) (List.range 4) u
  unfold State.pinArena
  dsimp only
  split
  · exact hserve
  · exact hserve.trans ⟨_, _, _, _, rfl⟩

theorem State.sameBehindCache_pinStash (d : Nat) (e : Stash) : s.SameBehindCache (s.pinStash d e) := by
  unfold State.pinStash
  split
  · exact State.SameBehindCache.foldl (fun u r => State.sameBehindCache_pinRun u d r) _ s
  · exact .refl s

theorem State.sameEddies_writeSpecial (num : Nat) (v : W64) : s.SameEddies (s.writeSpecial c num v) := by
  unfold State.writeSpecial
  split
  · exact State.sameEddies_modCtx s c _
  · split
    · exact State.sameEddies_modCtx s c _
    · exact State.sameEddies_modCtx s c _
    · refine ⟨fun k => ?_, id, rfl⟩
      by_cases h : k = ctxDie c
      · rw [h, State.die_modDie_self]
        exact ⟨rfl, rfl, rfl⟩
      · rw [State.die_modDie_ne _ _ _ _ h]
        exact ⟨rfl, rfl, rfl⟩
    · exact State.sameEddies_modCtx s c _
    · exact State.sameEddies_modCtx s c _
    · exact .refl s

theorem State.sameEddies_landScalar (d : Dest) (v : W64) : s.SameEddies (s.landScalar c d v) := by
  unfold State.landScalar
  split
  case h_9 num => exact State.sameEddies_writeSpecial s c num v
  case h_11 => exact .refl s
  case h_12 => exact .refl s
  all_goals exact State.sameEddies_modCtx s c _

theorem State.sameEddies_reply (k : Nat) (ws : List (Dest × W64)) : s.SameEddies (s.reply c k ws) :=
  (State.SameEddies.foldl (fun u w => State.sameEddies_landScalar u c w.1 w.2) ws s).trans (State.sameEddies_modCtx _ c _)

theorem State.sameEddies_answerResult (id k : Nat) (ws : List (Dest × W64)) : s.SameEddies (s.answerResult c id k ws) := by
  unfold State.answerResult
  split
  · exact .refl s
  · split
    · exact (State.sameEddies_modCtx s c _).trans (State.SameEddies.foldl (fun u (a : Nat × List (Dest × W64)) => State.sameEddies_reply u c a.1 a.2) _ _)
    · exact State.sameEddies_reply s c k ws

theorem State.sameEddies_msix (v : Nat) : s.SameEddies (s.msix v) := by
  unfold State.msix State.sendHost
  split
  · exact State.sameEddies_of_dies rfl rfl rfl
  · exact State.sameEddies_of_dies rfl rfl rfl

theorem State.sameEddies_logUE (source pa : Nat) : s.SameEddies (s.logUE source pa) := by
  have hlog : s.SameEddies (s.addLog 1 source 0x11 pa) := by
    unfold State.addLog
    dsimp only
    refine State.SameEddies.trans ?_ (State.sameEddies_msix _ 3)
    exact State.sameEddies_of_dies rfl rfl rfl
  have hevt (u : State) (b : Nat) : u.SameEddies (u.setEvt b) := by
    unfold State.setEvt
    dsimp only
    split
    · exact .refl u
    · refine State.SameEddies.trans ?_ (State.sameEddies_msix _ 1)
      exact State.sameEddies_of_dies rfl rfl rfl
  unfold State.logUE
  refine hlog.trans (State.SameEddies.trans ?_ (hevt _ 7))
  exact State.sameEddies_of_dies rfl rfl rfl

end ops

/-! ### Entries of the stash table -/

theorem State.stash_key {s : State} {d key : Nat} {e : Stash} (h : s.stash d key = some e) : e.key = key :=
  eq_of_beq (List.find?_some (p := fun (e : Stash) => e.key == key) h)

theorem State.stash_modStash_of {s : State} {d key : Nat} {e : Stash} (h : s.stash d key = some e) (f : Stash → Stash) (hf : ∀ e, (f e).key = e.key) :
    (s.modStash d key f).stash d key = some (f e) := by
  unfold State.stash State.modStash
  rw [State.die_modDie_self]
  refine (find?_mapWhere (fun (e : Stash) => e.key == key) f (fun x hx => ?_) _).trans (congrArg (Option.map f) h)
  rw [hf]
  exact hx

theorem State.stash_modStash_ne (s : State) {d key other : Nat} (f : Stash → Stash) (hf : ∀ e, (f e).key = e.key) (hne : other ≠ key) :
    (s.modStash d other f).stash d key = s.stash d key := by
  unfold State.stash State.modStash
  rw [State.die_modDie_self]
  refine find?_mapWhere_of_not _ (fun e => e.key == key) f (fun e => by rw [hf]) (fun e he => ?_) _
  rw [eq_of_beq he]
  exact beq_false_of_ne hne

theorem State.jobs_modStash (s : State) (d key : Nat) (f : Stash → Stash) : ((s.modStash d key f).die d).jobs = (s.die d).jobs := by
  unfold State.modStash
  rw [State.die_modDie_self]

theorem State.fq_modStash (s : State) (d key : Nat) (f : Stash → Stash) : ((s.modStash d key f).die d).fq = (s.die d).fq := by
  unfold State.modStash
  rw [State.die_modDie_self]

theorem State.job_modStash (s : State) (d key n : Nat) (f : Stash → Stash) : (s.modStash d key f).job d n = s.job d n := by
  rw [State.job, State.jobs_modStash, State.job]

theorem State.view_modStash (s : State) (d key : Nat) (f : Stash → Stash) : ((s.modStash d key f).die d).view = (s.die d).view := by
  unfold State.modStash
  rw [State.die_modDie_self]

theorem State.stash_modJob (s : State) (d n key : Nat) (f : Job → Job) : (s.modJob d n f).stash d key = s.stash d key := by
  unfold State.stash State.modJob
  rw [State.die_modDie_self]

/-- An entry that no EDFREE waits for is not freed. -/
theorem State.stashFree_of_none {s : State} {d key : Nat} {e : Stash} (h : s.stash d key = some e) (hfrees : e.frees = []) : s.stashFree d key = s := by
  unfold State.stashFree
  rw [h]
  dsimp only
  rw [hfrees]
  exact if_pos rfl

/-- A place that comes free goes to a job, and the stashes are as they were. -/
theorem State.stash_placeFreed (s : State) (d key : Nat) : (s.placeFreed d).stash d key = s.stash d key := by
  have hplace : (s.givePlace d).stash d key = s.stash d key := by
    unfold State.givePlace
    split
    · exact State.stash_modJob s d _ key _
    · rfl
  rw [State.placeFreed_eq]
  split
  · rw [(State.sameEddies_wakeOldest (s.givePlace d) _).stash, hplace]
  · exact hplace

theorem State.placeFreed_memories (s : State) (d : Nat) : (s.placeFreed d).home = s.home ∧ ((s.placeFreed d).die d).view = (s.die d).view := by
  have hplace : (s.givePlace d).home = s.home ∧ ((s.givePlace d).die d).view = (s.die d).view := by
    unfold State.givePlace
    split
    · exact ⟨rfl, State.view_modJob s d _ d _⟩
    · exact ⟨rfl, rfl⟩
  rw [State.placeFreed_eq]
  split
  · obtain ⟨cs, n, h⟩ := State.wakeOldest_eq (s.givePlace d) fun c w => ctxDie c == d && w == .scheduler
    rw [h]
    exact hplace
  · exact hplace

theorem State.jobs_of_registers {s t : State} {d : Nat} (h : (t.die d).registers = (s.die d).registers) (n key : Nat) :
    t.job d n = s.job d n ∧ t.stash d key = s.stash d key :=
  ⟨congrArg (List.find? fun (j : Job) => j.serial == n) (congrArg Die.jobs h :),
    congrArg (List.find? fun (e : Stash) => e.key == key) (congrArg (fun x : Die => x.eddy.stashes) h :)⟩

/-! ### What a store's copy leaves -/

/-- The tokens of a context, where there is one. -/
def State.tokens (s : State) (c : Nat) : Option (SMap Token) := (s.ctx c).map Ctx.k

theorem State.tokens_setAccByte (s : State) (core off : Nat) (b : Byte) (c : Nat) : (s.setAccByte core off b).tokens c = s.tokens c := by
  unfold State.setAccByte State.modAccTile
  dsimp only
  split
  · next x hx =>
    unfold State.tokens
    by_cases h : c = core * 4 + off / 65536 / partTiles (s.core core).part
    · rw [h, hx, State.setCtx, State.ctx, SMap.get_set_self]
      rfl
    · rw [State.setCtx, State.ctx, SMap.get_set_ne _ _ _ _ _ h]
      rfl
  · rfl

theorem State.tokens_writeLoc (s : State) (d : Nat) (l : Loc) (bs : List Byte) (c : Nat) : (s.writeLoc d l bs).tokens c = s.tokens c := by
  cases l with
  | global pa =>
    show (s.writePhys d pa bs).tokens c = _
    unfold State.writePhys
    split <;> rfl
  | acc k off =>
    have hbytes : ∀ (bs : List Byte) (u : State) (o : Nat),
        (bs.foldl (fun (p : State × Nat) b => (p.1.setAccByte k p.2 b, p.2 + 1)) (u, o)).1.tokens c = u.tokens c := by
      intro bs
      induction bs with
      | nil => exact fun u o => rfl
      | cons b bs ih => exact fun u o => (ih _ _).trans (State.tokens_setAccByte u k o b c)
    exact hbytes bs s off
  | spad k off => rfl
  | sram k off => rfl
  | host a => rfl
  | mmio off => rfl
  | spill k off => rfl

theorem State.tokens_engWrite {s u : State} {g : Agent} {a : W64} {bs : List Byte} (h : s.engWrite g a bs = .ok u) (c : Nat) : u.tokens c = s.tokens c :=
  State.keeps_engWrite (fun w => w.tokens c) (fun v d l bs => State.tokens_writeLoc v d l bs c)
    (fun _ _ hbehind => hbehind.keeps (fun w => w.tokens c) fun _ _ _ _ _ => rfl) (fun _ _ => rfl) h

/-- What each step of a fold that may stop leaves, a fold that does not stop leaves. -/
theorem foldl_except_keeps {ε β σ α : Type} (f : σ → α) {step : Except ε (σ × Nat) → β → Except ε (σ × Nat)}
    (hstep : ∀ acc b w m, step acc b = .ok (w, m) → ∃ u k, acc = .ok (u, k) ∧ f w = f u) {l : List β} {acc : Except ε (σ × Nat)} {v : σ} {n : Nat}
    (h : l.foldl step acc = .ok (v, n)) : ∃ u k, acc = .ok (u, k) ∧ f v = f u := by
  induction l generalizing acc with
  | nil => exact ⟨v, n, h, rfl⟩
  | cons b l ih =>
    obtain ⟨w, m, hw, hv⟩ := ih h
    obtain ⟨u, k, hu, hf⟩ := hstep acc b w m hw
    exact ⟨u, k, hu, hv.trans hf⟩

/-- What an engine's write leaves, the writes of a store leave. -/
theorem State.keeps_storeCopy {α : Type} (f : State → α)
    (hf : ∀ {u v : State} {g : Agent} {a : W64} {bs : List Byte}, u.engWrite g a bs = .ok v → f v = f u) {s v : State} {d n : Nat} {e : Stash}
    (h : s.storeCopy d e = .ok (v, n)) : f v = f s := by
  have hmap {u w : State} {g : Agent} {a : W64} {bs : List Byte} {k m : Nat} (hw : (u.engWrite g a bs).map (fun s => (s, k)) = .ok (w, m)) : f w = f u := by
    cases hu : u.engWrite g a bs with
    | error x =>
      rw [hu] at hw
      cases hw
    | ok r =>
      rw [hu] at hw
      obtain ⟨rfl, -⟩ := Prod.mk.inj (Except.ok.inj hw)
      exact hf hu
  unfold State.storeCopy at h
  dsimp only at h
  split at h
  · cases h
  · next bs _ =>
    split at h
    · refine (foldl_except_keeps f (fun acc b w m hstep => ?_) h).elim fun u hu => hu.elim fun k hk => ?_
      · split at hstep
        · cases hstep
        · next u k =>
          refine ⟨u, k, rfl, ?_⟩
          split at hstep
          · exact hmap hstep
          · split at hstep
            · cases hstep
            · next r hr => exact (hmap hstep).trans (hf hr)
      · obtain ⟨hu, hv⟩ := hk
        obtain ⟨rfl, -⟩ := Prod.mk.inj (Except.ok.inj hu)
        exact hv
    · exact hmap h
    · exact hmap h
    · exact hmap h
    · obtain ⟨rfl, -⟩ := Prod.mk.inj (Except.ok.inj h)
      rfl

/-- A job that ends DONE, and its token that falls. -/
def State.finished (s : State) (d : Nat) (j : Job) (k : Nat) : State :=
  (s.modJob d j.serial fun m => { m with state := .done }).modCtx j.ctx fun x => x.tokDown k

/-- A store ends DONE where no EDFREE waits for its entry. -/
theorem State.endJob_store {s : State} {d key k : Nat} {j : Job} {e : Stash} (hjob : s.job d j.serial = some j) (hrun : j.state = .running)
    (hkind : j.kind = .store key) (htoken : j.token = some k) (hstash : s.stash d key = some e) (hfrees : e.frees = []) :
    s.endJob d j.serial .done = (s.finished d j k).placeFreed d := by
  have hlive : j.state.ended = false := by
    rw [hrun]
    rfl
  have hstash' : (s.finished d j k).stash d key = some e := by
    rw [State.finished, (State.sameEddies_modCtx _ j.ctx _).stash, State.stash_modJob]
    exact hstash
  have hfree := State.stashFree_of_none hstash' hfrees
  unfold State.finished at hfree
  unfold State.endJob State.endOne
  cases hl : j.barrier with
  | none => simp only [hjob, hlive, Bool.false_eq_true, if_false, if_true, htoken, hkind, hl, hfree, State.finished]
  | some l => simp only [hjob, hlive, Bool.false_eq_true, if_false, if_true, htoken, hkind, hl, JState.flags, hfree, State.finished]

section job
variable {s : State} {d key : Nat} {j : Job} {e : Stash} (hjob : s.job d j.serial = some j) (hrun : j.state = .running) (hstash : s.stash d key = some e)
  (hfrees : e.frees = []) (hgated : s.gatedOff = false)

include hjob hrun hstash hfrees hgated

theorem eddy_store_clause {v : State} {n k : Nat} {x : Ctx} (hkind : j.kind = .store key) (hcopy : s.storeCopy d e = .ok (v, n)) (htoken : j.token = some k)
    (hctx : s.ctx j.ctx = some x) :
    ∃ t y, exec (.eddyStoreComplete d j.serial) s = .next t ∧ t.home = v.home ∧ (t.die d).view = (v.die d).view ∧
      t.job d j.serial = some { j with state := .done } ∧ t.stash d key = some { e with ovf := n } ∧ t.ctx j.ctx = some y ∧
      y.tokCount k = x.tokCount k - 1 := by
  have hregs : (v.die d).registers = (s.die d).registers := State.keeps_storeCopy (fun w => (w.die d).registers) (fun h => State.registers_engWrite h d) hcopy
  obtain ⟨hvjob, hvstash⟩ := State.jobs_of_registers hregs j.serial key
  have hvctx : ∃ z, v.ctx j.ctx = some z ∧ z.k = x.k := by
    have htokens : v.tokens j.ctx = some x.k := by
      rw [State.keeps_storeCopy (fun w => w.tokens j.ctx) (fun h => State.tokens_engWrite h j.ctx) hcopy, State.tokens, hctx]
      rfl
    exact Option.map_eq_some_iff.mp htokens
  have hpin : v.SameBehindCache (v.pinStash d e) := State.sameBehindCache_pinStash v d e
  have hpinEddies := State.sameEddies_of_behindCache v hpin
  obtain ⟨z, hz, hzk⟩ := hvctx
  generalize hw : (v.pinStash d e).modStash d key (fun e => { e with ovf := n }) = w
  have hwjob : w.job d j.serial = some j := by rw [← hw, State.job_modStash, hpinEddies.job, hvjob, hjob]
  have hwstash : w.stash d key = some { e with ovf := n } := by
    rw [← hw]
    exact State.stash_modStash_of (by rw [hpinEddies.stash, hvstash, hstash]) _ fun _ => rfl
  have hwhome : w.home = v.home := by
    rw [← hw]
    exact hpin.keeps State.home fun _ _ _ _ _ => rfl
  have hwview : (w.die d).view = (v.die d).view := by
    rw [← hw, State.view_modStash]
    exact hpin.keeps (fun u => (u.die d).view) fun _ _ _ _ _ => rfl
  have hwctx : w.ctx j.ctx = some z := by
    rw [← hz, ← hw]
    exact hpin.keeps (fun u => u.ctx j.ctx) fun _ _ _ _ _ => rfl
  have hfinished : (w.finished d j k).ctx j.ctx = some (z.tokDown k) := by
    have hold : (w.modJob d j.serial fun m => { m with state := .done }).ctx j.ctx = some z := hwctx
    rw [State.finished, State.ctx_modCtx_self, hold]
    rfl
  have hsame := State.sameEddies_modCtx (w.modJob d j.serial fun m => { m with state := .done }) j.ctx fun x => x.tokDown k
  obtain ⟨y, hy, hyk⟩ := State.ctx_placeFreed (d := d) hfinished
  obtain ⟨hhome, hview⟩ := State.placeFreed_memories (w.finished d j k) d
  have hstep : s.eddyStored d j.serial = (w.finished d j k).placeFreed d := by
    have hend := State.endJob_store hwjob hrun hkind htoken hwstash hfrees
    unfold State.eddyStored
    rw [hjob]
    dsimp only
    rw [hkind]
    dsimp only
    rw [if_neg (by rw [hrun, hgated]; exact fun h => h.elim (fun h => h rfl) Bool.false_ne_true), hstash]
    dsimp only
    rw [hcopy]
    dsimp only
    rw [hw, hend]
    exact State.checkEnd_of_ctx hy
  refine ⟨_, y, congrArg Host.Outcome.next hstep, ?_, ?_, ?_, ?_, hy, ?_⟩
  · rw [hhome, State.finished, State.modCtx_eq]
    exact hwhome
  · rw [hview, State.finished, State.modCtx_eq]
    exact (State.view_modJob w d j.serial d _).trans hwview
  · refine State.job_placeFreed ?_ fun m hm hserial => ?_
    · rw [State.finished, hsame.job]
      exact State.job_modJob_of hwjob _ fun _ h => h
    · rw [State.finished, (hsame.1 d).1] at hm
      rw [State.state_of_modJob w hm hserial]
      exact JState.noConfusion
  · rw [State.stash_placeFreed, State.finished, hsame.stash, State.stash_modJob, hwstash]
  · rw [Ctx.tokCount, hyk, ← Ctx.tokCount, Ctx.tokCount_tokDown, Ctx.tokCount, hzk, Ctx.tokCount]

omit hfrees in
theorem eddy_block_clause {bs : List Byte} {v : State} {i : Nat} (hkind : j.kind = .restore key) (hmore : e.done < e.len) (hi : i = ceilDiv e.done 128)
    (hblock : s.storedBlock d e i = .ok bs) (hdest : e.rdest ≠ 0#64) (hrec : j.drec = []) (hattach : e.attach = [])
    (hwrite : s.engWrite { Agent.ofCtx e.ctx e.sup with die := d } (BitVec.ofNat 64 (e.rdest.toNat + 4096 * i)) bs = .ok v) :
    ∃ t, exec (.sluiceUnit d j.serial i .clean) s = .next t ∧ t.home = v.home ∧ (t.die d).view = (v.die d).view ∧
      t.job d j.serial = some { j with pos := i + 1 } ∧ t.stash d key = some { e with done := e.done + ceilDiv bs.length 32 } := by
  have hregs : (v.die d).registers = (s.die d).registers := State.registers_engWrite hwrite d
  obtain ⟨hvjob, hvstash⟩ := State.jobs_of_registers hregs j.serial key
  have hkey := State.stash_key hstash
  obtain ⟨w, hwhome, hwdie, hnext⟩ : ∃ w : State, w.home = v.home ∧ w.die d = v.die d ∧
      s.restoreBlock d e j.drec i = .ok (w.restoreLand d e.key (ceilDiv bs.length 32)) := by
    have hagent : s.engWrite
        { die := d, core := (Agent.ofCtx e.ctx true).core, cluster := (Agent.ofCtx e.ctx true).cluster, sup := e.sup
          viaTlb := (Agent.ofCtx e.ctx true).viaTlb, layout := (Agent.ofCtx e.ctx true).layout } (BitVec.ofNat 64 (e.rdest.toNat + 4096 * i)) bs = .ok v := hwrite
    unfold State.restoreBlock
    rw [hblock]
    dsimp only
    rw [if_pos hdest, hagent, hrec]
    refine ⟨_, ?_, ?_, rfl⟩
    · rfl
    · rfl
  have hwjob : w.job d j.serial = some j := by rw [State.job, hwdie, ← State.job, hvjob, hjob]
  have hwstash : w.stash d key = some e := by rw [State.stash, hwdie, ← State.stash, hvstash, hstash]
  have hland : w.restoreLand d key (ceilDiv bs.length 32) = w.modStash d key fun e => { e with done := e.done + ceilDiv bs.length 32 } := by
    unfold State.restoreLand
    rw [hwstash]
    dsimp only
    rw [hattach]
    rfl
  rw [hkey, hland] at hnext
  generalize hu : (w.modStash d key fun e => { e with done := e.done + ceilDiv bs.length 32 }) = u at hnext
  have hujob : u.job d j.serial = some j := by rw [← hu, State.job_modStash, hwjob]
  have hujob' := State.job_modJob_of hujob (fun k => { k with pos := i + 1 }) fun _ h => h
  have hstep : s.sluiceUnit d j.serial i .clean = u.modJob d j.serial fun k => { k with pos := i + 1 } := by
    have hrest : s.restoreNext d j e = (u.modJob d j.serial fun k => { k with pos := i + 1 }, true) := by
      unfold State.restoreNext
      dsimp only
      rw [← hi, hnext]
    unfold State.sluiceUnit
    rw [hjob]
    dsimp only
    rw [hkind]
    dsimp only
    rw [hstash]
    dsimp only
    rw [if_pos ⟨hrun, by rw [hgated]; rfl, hmore, hi⟩, hrest]
    exact State.checkEnd_of_job hujob' hrun
  refine ⟨_, congrArg Host.Outcome.next hstep, ?_, ?_, hujob', ?_⟩
  · rw [← hwhome, ← hu]
    rfl
  · rw [State.view_modJob, ← hu, State.view_modStash, hwdie]
  · rw [State.stash_modJob, ← hu]
    exact State.stash_modStash_of hwstash _ fun _ => rfl

theorem eddy_restore_clause {c k : Nat} {x : Ctx} (hkind : j.kind = .restore key) (hall : e.len ≤ e.done) (hwaiters : e.waiters = [(c, k)])
    (hctx : s.ctx c = some x) :
    ∃ t y, exec (.eddyRestoreComplete d j.serial) s = .next t ∧ t.home = s.home ∧ t.job d j.serial = some { j with state := .done } ∧
      t.stash d key = some { e with state := .restored, near := none, far := none, lp := none, attach := [], waiters := [] } ∧
      t.ctx c = some y ∧ y.tokCount k = x.tokCount k - 1 := by
  have hpins : s.SameBehindCache (e.near.toList.foldl (fun (s : State) r => s.unpinRun d r) s) :=
    State.SameBehindCache.foldl (fun u r => State.sameBehindCache_unpinRun u d r) _ s
  have hrest : s.restoreRest d j key (e.blocks + 1) = (s, true) := by
    unfold State.restoreRest
    rw [hstash]
    exact if_pos hall
  generalize hu : (e.near.toList.foldl (fun (s : State) r => s.unpinRun d r) s).modStash d key (fun e =>
    { e with state := .restored, near := none, far := none, lp := none, attach := [], waiters := [] }) = u
  have hpinEddies := State.sameEddies_of_behindCache s hpins
  have hujob : u.job d j.serial = some j := by rw [← hu, State.job_modStash, hpinEddies.job, hjob]
  have hustash : u.stash d key = some { e with state := .restored, near := none, far := none, lp := none, attach := [], waiters := [] } := by
    rw [← hu]
    exact State.stash_modStash_of (hpinEddies.stash d key ▸ hstash) _ fun _ => rfl
  have huhome : u.home = s.home := by
    rw [← hu]
    exact hpins.keeps State.home fun _ _ _ _ _ => rfl
  have huctx : u.ctx c = some x := by
    rw [← hctx, ← hu]
    exact hpins.keeps (fun v => v.ctx c) fun _ _ _ _ _ => rfl
  obtain ⟨a, heval⟩ := State.evalSoon_eq u d (keyStage key)
  generalize hv : ({ u with agenda := a } : State).modJob d j.serial (fun k => { k with state := .done }) = v
  have hvjob : v.job d j.serial = some { j with state := .done } := by
    have hold : ({ u with agenda := a } : State).job d j.serial = some j := hujob
    rw [← hv]
    exact State.job_modJob_of hold _ fun _ h => h
  have hvstash : v.stash d key = some { e with state := .restored, near := none, far := none, lp := none, attach := [], waiters := [] } := by
    rw [← hv, State.stash_modJob]
    exact hustash
  have hvctx : (v.modCtx c fun x => x.tokDown k).ctx c = some (x.tokDown k) := by
    have hold : v.ctx c = some x := by
      rw [← hv]
      exact huctx
    rw [State.ctx_modCtx_self, hold]
    rfl
  have hsame := State.sameEddies_modCtx v c fun x => x.tokDown k
  have hfree : (v.modCtx c fun x => x.tokDown k).stashFree d key = v.modCtx c fun x => x.tokDown k :=
    State.stashFree_of_none ((hsame.stash d key).trans hvstash) (by exact hfrees)
  obtain ⟨y, hy, hyk⟩ := State.ctx_placeFreed (d := d) hvctx
  have hstep : s.eddyRestored d j.serial = (v.modCtx c fun x => x.tokDown k).placeFreed d := by
    unfold State.eddyRestored
    rw [hjob]
    dsimp only
    rw [hkind]
    dsimp only
    rw [if_neg (by rw [hrun, hgated]; exact fun h => h.elim (fun h => h rfl) Bool.false_ne_true), hstash]
    dsimp only
    rw [hrest, hwaiters]
    dsimp only
    rw [hu, heval, hv, if_neg (by decide)]
    show (((v.modCtx c fun x => x.tokDown k).stashFree d key).placeFreed d).checkEnd = _
    rw [hfree]
    exact State.checkEnd_of_ctx hy
  refine ⟨_, y, congrArg Host.Outcome.next hstep, ?_, ?_, ?_, hy, ?_⟩
  · rw [(State.placeFreed_memories _ d).1, State.modCtx_eq, ← huhome, ← hv]
    rfl
  · refine State.job_placeFreed (by rw [hsame.job, hvjob]) fun m hm hserial => ?_
    rw [(hsame.1 d).1, ← hv] at hm
    rw [State.state_of_modJob _ hm hserial]
    exact JState.noConfusion
  · rw [State.stash_placeFreed, hsame.stash, hvstash]
  · rw [Ctx.tokCount, hyk, ← Ctx.tokCount, Ctx.tokCount_tokDown]

end job

/-! ### A failure, and what it ends -/

/-- An entry is dropped with ERR, and holds no stored copy. -/
def Stash.Dropped (f : Stash) : Prop := f.state = .dropped ∧ f.err = true ∧ f.near = none ∧ f.far = none ∧ f.lp = none

/-- A job has ended in ECC, and the entry of a key is dropped. -/
structure State.Failed (s : State) (d key : Nat) (j : Job) : Prop where
  job : s.job d j.serial = some { j with state := .ecc }
  ended : ∀ m ∈ (s.die d).jobs, m.serial = j.serial → m.state.ended = true
  entry : ∃ f, s.stash d key = some f ∧ f.frees = [] ∧ f.Dropped
  ctxs : s.ctxs ≠ []

theorem State.SameEddies.failed {s t : State} (h : s.SameEddies t) {d key : Nat} {j : Job} (hs : s.Failed d key j) : t.Failed d key j where
  job := (h.job d j.serial).trans hs.job
  ended := fun m hm => hs.ended m ((h.1 d).1 ▸ hm)
  entry := by
    rw [h.stash]
    exact hs.entry
  ctxs := h.2 hs.ctxs

/-- The entries of other keys stay while one is freed, and so does an entry that no EDFREE waits for. -/
theorem State.stashFree_keeps (s : State) (d other : Nat) : ((s.stashFree d other).die d).jobs = (s.die d).jobs ∧
    ((s.stashFree d other).die d).fq = (s.die d).fq ∧ (s.stashFree d other).sess = s.sess ∧ (s.ctxs ≠ [] → (s.stashFree d other).ctxs ≠ []) ∧
    ∀ (key : Nat) (e : Stash), s.stash d key = some e → e.frees = [] → (s.stashFree d other).stash d key = some e := by
  unfold State.stashFree
  split
  · exact ⟨rfl, rfl, rfl, id, fun _ _ h _ => h⟩
  · next e he =>
    split
    · exact ⟨rfl, rfl, rfl, id, fun _ _ h _ => h⟩
    · next hfree =>
      have hpin := State.sameEddies_of_behindCache s (State.sameBehindCache_unpinStash s d e)
      generalize hu : ((s.unpinStash d e).modDie d fun x => { x with eddy := { x.eddy with stashes := x.eddy.stashes.filter fun e => e.key != other } }) = u
      have heval : u.SameEddies (e.frees.foldl (fun (s : State) w => s.replyTo w.1 w.2.1 w.2.2 0#64) (u.evalSoon d (keyStage other))) :=
        (State.sameEddies_evalSoon u d _).trans (State.SameEddies.foldl (fun v w => State.sameEddies_answerResult v _ _ _ _) _ _)
      have hdie : (u.die d).jobs = (s.die d).jobs ∧ (u.die d).fq = (s.die d).fq ∧ (u.die d).eddy.stashes = (s.die d).eddy.stashes.filter fun e => e.key != other := by
        rw [← hu, State.die_modDie_self]
        exact ⟨(hpin.1 d).1, (hpin.1 d).2.2, by rw [← (hpin.1 d).2.1]⟩
      have huctxs : s.ctxs ≠ [] → u.ctxs ≠ [] := by
        rw [← hu]
        exact hpin.2
      have husess : u.sess = s.sess := by
        rw [← hu]
        exact hpin.sess
      refine ⟨(heval.1 d).1.trans hdie.1, (heval.1 d).2.2.trans hdie.2.1, heval.sess.trans husess, fun h => heval.2 (huctxs h), fun key f hf hfrees => ?_⟩
      have hne : key ≠ other := by
        rintro rfl
        obtain rfl := Option.some.inj (he.symm.trans hf)
        rw [hfrees] at hfree
        exact hfree (Bool.true_or _)
      rw [heval.stash, State.stash, hdie.2.2, List.find?_filter, ← hf, State.stash]
      refine congrArg (fun p => List.find? p (s.die d).eddy.stashes) (funext fun x => ?_)
      by_cases hx : x.key = key
      · rw [hx]
        simp [hne]
      · simp [hx]

/-- Dropping the entry of a key leaves the entries of the others. -/
theorem State.dropStash_keeps (s : State) (d other flags : Nat) : ((s.dropStash d other flags).die d).jobs = (s.die d).jobs ∧
    ((s.dropStash d other flags).die d).fq = (s.die d).fq ∧ (s.dropStash d other flags).sess = s.sess ∧ (s.ctxs ≠ [] → (s.dropStash d other flags).ctxs ≠ []) ∧
    ∀ (key : Nat) (e : Stash), s.stash d key = some e → e.frees = [] →
      ∃ f, (s.dropStash d other flags).stash d key = some f ∧ f.frees = [] ∧ (key = other → f.Dropped) ∧ (key ≠ other → f = e) := by
  unfold State.dropStash
  split
  · next hnone =>
    refine ⟨rfl, rfl, rfl, id, fun key e h hfrees => ⟨e, h, hfrees, ?_, fun _ => rfl⟩⟩
    rintro rfl
    rw [hnone] at h
    cases h
  · next e he =>
    dsimp only
    generalize hattach : (if (s.die d).live.any (fun j => j.kind == .restore other) = true then [] else e.attach) = attach
    generalize hwaiters : (if (s.die d).live.any (fun j => j.kind == .restore other) = true then [] else e.waiters) = waiters
    generalize hu : ((attach.foldl (fun (s : State) a => match a with
      | .barrier l => s.engBar l (.flags flags)
      | .stream c f => s.endFeed c d other f) s).unpinStash d e) = u
    have hsu : s.SameEddies u := by
      rw [← hu]
      refine State.SameEddies.trans (State.SameEddies.foldl (fun v a => ?_) attach s) (State.sameEddies_of_behindCache _ (State.sameBehindCache_unpinStash _ d e))
      split
      · exact State.sameEddies_engBar v _ _
      · exact State.sameEddies_modCtx v _ _
    generalize hv : u.modStash d other _ = v
    have hvw : v.SameEddies (waiters.foldl (fun (s : State) w => s.modCtx w.1 fun x => x.tokDown w.2) (v.evalSoon d (keyStage other))) :=
      (State.sameEddies_evalSoon v d _).trans (State.SameEddies.foldl (fun w (p : Nat × Nat) => State.sameEddies_modCtx w p.1 _) _ _)
    generalize (waiters.foldl (fun (s : State) w => s.modCtx w.1 fun x => x.tokDown w.2) (v.evalSoon d (keyStage other))) = w at hvw
    obtain ⟨hjobs, hfq, hsess, hctxs, hentries⟩ := State.stashFree_keeps w d other
    have hvjobs : (v.die d).jobs = (s.die d).jobs := by rw [← hv, State.jobs_modStash, (hsu.1 d).1]
    have hvfq : (v.die d).fq = (s.die d).fq := by
      rw [← hv, State.fq_modStash, (hsu.1 d).2.2]
    have hvsess : v.sess = s.sess := by
      rw [← hv]
      exact hsu.sess
    refine ⟨hjobs.trans ((hvw.1 d).1.trans hvjobs), hfq.trans ((hvw.1 d).2.2.trans hvfq), hsess.trans (hvw.sess.trans hvsess), fun h => hctxs (hvw.2 (by rw [← hv]; exact hsu.2 h)), fun key g hg hfrees => ?_⟩
    have hug : u.stash d key = some g := (hsu.stash d key).trans hg
    by_cases hkey : key = other
    · subst hkey
      obtain ⟨f, hvf, hffrees, hf⟩ : ∃ f, v.stash d key = some f ∧ f.frees = [] ∧ f.Dropped := by
        rw [← hv]
        exact ⟨_, State.stash_modStash_of hug _ fun _ => rfl, hfrees, rfl, rfl, rfl, rfl, rfl⟩
      exact ⟨f, hentries key f ((hvw.stash d key).trans hvf) hffrees, hffrees, fun _ => hf, fun h => absurd rfl h⟩
    · have hvg : v.stash d key = some g := by
        rw [← hv]
        refine (State.stash_modStash_ne u _ ?_ (Ne.symm hkey)).trans hug
        exact fun _ => rfl
      exact ⟨g, hentries key g ((hvw.stash d key).trans hvg) hfrees, hfrees, fun h => absurd h hkey, fun _ => rfl⟩

/-! ### Jobs that end without success -/

theorem State.checkEnd_of_ctxs {s : State} (h : s.ctxs ≠ []) : s.checkEnd = s := by
  unfold State.checkEnd
  dsimp only
  refine if_neg ?_
  rintro ⟨-, hempty, -⟩
  exact h (List.isEmpty_iff.mp hempty)

/-- What the end of a job without success does to its pass or its entry. -/
def State.dropFor (s : State) (d : Nat) (j : Job) (flags : Nat) : State :=
  match j.kind with
  | .sluice _ => s.dropPass (ctxCluster j.ctx) d j.serial
  | .store key => s.dropStash d key flags
  | .restore key => s.dropStash d key flags

/-- A job ends without success: its state, its token and its barrier, then its pass or its entry, then its place. -/
theorem State.endOne_eq (s : State) (d : Nat) (j : Job) {st : JState} (hst : st ≠ .done) :
    ∃ u, (s.modJob d j.serial fun k => { k with state := st }).SameEddies u ∧ s.endOne d j st = (u.dropFor d j st.flags).placeFreed d := by
  have htoken (v : State) : v.SameEddies (match j.token with | some t => v.modCtx j.ctx fun x => x.tokDown t | none => v) := by
    split
    · exact State.sameEddies_modCtx v _ _
    · exact .refl v
  have hbarrier (v : State) : v.SameEddies (match j.barrier with | some l => if st.flags = 0 then v else v.engBar l (.flags st.flags) | none => v) := by
    split
    · split
      · exact .refl v
      · exact State.sameEddies_engBar v _ _
    · exact .refl v
  refine ⟨_, (htoken _).trans (hbarrier _), ?_⟩
  unfold State.endOne State.dropFor
  simp only [hst, if_false] <;> rfl

/-- A place that comes free leaves the jobs of a serial number that have ended. -/
theorem State.ended_placeFreed {s : State} {d n : Nat} (h : ∀ m ∈ (s.die d).jobs, m.serial = n → m.state.ended = true) :
    ∀ m ∈ ((s.placeFreed d).die d).jobs, m.serial = n → m.state.ended = true := by
  have hplace : ∀ m ∈ ((s.givePlace d).die d).jobs, m.serial = n → m.state.ended = true := by
    unfold State.givePlace
    split
    · next k p hk _ =>
      have hstate : k.state = .queued := eq_of_beq (List.find?_some (p := fun (j : Job) => j.state == .queued) hk)
      have hne : k.serial ≠ n := fun hserial => by
        have hended := h k (List.mem_of_find?_eq_some hk) hserial
        rw [hstate] at hended
        cases hended
      intro m hm hserial
      unfold State.modJob at hm
      rw [State.die_modDie_self] at hm
      obtain ⟨i, hi, rfl⟩ := List.mem_map.mp hm
      dsimp only at hserial ⊢
      split
      · next hik =>
        rw [if_pos hik] at hserial
        exact absurd ((eq_of_beq hik).symm.trans hserial) hne
      · next hik =>
        rw [if_neg hik] at hserial
        exact h i hi hserial
    · exact h
  rw [State.placeFreed_eq]
  split
  · intro m hm
    rw [((State.sameEddies_wakeOldest (s.givePlace d) _).1 d).1] at hm
    exact hplace m hm
  · exact hplace

theorem State.ctxs_placeFreed {s : State} {d : Nat} (h : s.ctxs ≠ []) : (s.placeFreed d).ctxs ≠ [] := by
  have hplace : (s.givePlace d).ctxs ≠ [] := by
    unfold State.givePlace
    split
    · exact h
    · exact h
  rw [State.placeFreed_eq]
  split
  · exact (State.sameEddies_wakeOldest (s.givePlace d) _).2 hplace
  · exact hplace

theorem State.Failed.placeFreed {s : State} {d key : Nat} {j : Job} (h : s.Failed d key j) : (s.placeFreed d).Failed d key j where
  job := State.job_placeFreed h.job fun m hm hserial hqueued => by
    have hended := h.ended m hm hserial
    rw [hqueued] at hended
    cases hended
  ended := State.ended_placeFreed h.ended
  entry := by
    rw [State.stash_placeFreed]
    exact h.entry
  ctxs := State.ctxs_placeFreed h.ctxs

theorem State.sameEddies_dropPass (s : State) (cl d n : Nat) : s.SameEddies (s.dropPass cl d n) := by
  unfold State.dropPass
  split
  · exact .refl s
  · refine State.SameEddies.trans ?_ (State.sameEddies_wakeOldest _ _)
    exact State.sameEddies_of_dies rfl rfl rfl

/-- A job that is aborted leaves what has failed. -/
theorem State.Failed.endOne {s : State} {d key : Nat} {j k : Job} (h : s.Failed d key j) (hlive : k ∈ (s.die d).live) :
    (s.endOne d k .aborted).Failed d key j := by
  obtain ⟨hmem, hopen⟩ := List.mem_filter.mp hlive
  have hne : k.serial ≠ j.serial := fun hserial => by
    rw [h.ended k hmem hserial] at hopen
    cases hopen
  have hmod : (s.modJob d k.serial fun m => { m with state := .aborted }).Failed d key j := by
    refine ⟨(State.job_modJob_ne s (fun m => { m with state := .aborted }) (fun _ => rfl) hne).trans h.job, fun m hm hserial => ?_, ?_, h.ctxs⟩
    · unfold State.modJob at hm
      rw [State.die_modDie_self] at hm
      obtain ⟨i, hi, rfl⟩ := List.mem_map.mp hm
      dsimp only at hserial ⊢
      split
      · rfl
      · next hik =>
        rw [if_neg hik] at hserial
        exact h.ended i hi hserial
    · rw [State.stash_modJob]
      exact h.entry
  obtain ⟨u, hsame, heq⟩ := State.endOne_eq s d k (st := .aborted) JState.noConfusion
  have hu := hsame.failed hmod
  have hdrop (other flags : Nat) : (u.dropStash d other flags).Failed d key j := by
    obtain ⟨hjobs, -, -, hctxs, hentries⟩ := State.dropStash_keeps u d other flags
    obtain ⟨e, he, hfrees, hdropped⟩ := hu.entry
    obtain ⟨f, hf, hffrees, hself, hother⟩ := hentries key e he hfrees
    refine ⟨(congrArg (List.find? fun (m : Job) => m.serial == j.serial) hjobs).trans hu.job, fun m hm => hu.ended m (hjobs ▸ hm),
      ⟨f, hf, hffrees, ?_⟩, hctxs hu.ctxs⟩
    by_cases hkey : key = other
    · exact hself hkey
    · rw [hother hkey]
      exact hdropped
  have hfor : (u.dropFor d k JState.aborted.flags).Failed d key j := by
    unfold State.dropFor
    split
    · exact (State.sameEddies_dropPass u _ _ _).failed hu
    · exact hdrop _ _
    · exact hdrop _ _
  rw [heq]
  exact hfor.placeFreed

theorem State.Failed.abortAfter {d key : Nat} {j : Job} (fuel : Nat) {failed : List Nat} {s : State} (h : s.Failed d key j) :
    (s.abortAfter d fuel failed).Failed d key j := by
  induction fuel generalizing failed s with
  | zero => exact h
  | succ fuel ih =>
    unfold State.abortAfter
    split
    · exact h
    · next k hk => exact ih (h.endOne (List.mem_of_find?_eq_some hk))

/-- Uncorrectable data ends a store or a restore in ECC, and its entry with it. -/
theorem eddyFailed_failed {s : State} {d key : Nat} {j : Job} {e : Stash} (hjob : s.job d j.serial = some j) (hrun : j.state = .running)
    (hstash : s.stash d key = some e) (hfrees : e.frees = []) (hgated : s.gatedOff = false) (hkind : j.kind = .store key ∨ j.kind = .restore key)
    (hctxs : s.ctxs ≠ []) (pa : Nat) : (s.eddyFailed d j.serial pa).Failed d key j := by
  have hlog := State.sameEddies_logUE s (logSource 4 0 d) pa
  generalize hw : s.logUE (logSource 4 0 d) pa = w at hlog
  have hwjob : w.job d j.serial = some j := (hlog.job d j.serial).trans hjob
  have hstopped : s.eddyFailed d j.serial pa = (w.endJob d j.serial .ecc).checkEnd := by
    have hgo : (j.state = .running ∧ !s.gatedOff) := ⟨hrun, by rw [hgated]; rfl⟩
    unfold State.eddyFailed
    rw [hjob]
    dsimp only
    obtain h | h := hkind
    · rw [h]
      dsimp only
      rw [if_pos hgo]
      exact congrArg State.checkEnd (congrArg (fun v : State => v.endJob d j.serial .ecc) hw)
    · rw [h]
      dsimp only
      rw [if_pos hgo]
      exact congrArg State.checkEnd (congrArg (fun v : State => v.endJob d j.serial .ecc) hw)
  obtain ⟨u, hsame, heq⟩ := State.endOne_eq w d j (st := .ecc) JState.noConfusion
  have hend : w.endJob d j.serial .ecc = (w.endOne d j .ecc).abortAfter d ((w.endOne d j .ecc).die d).jobs.length [j.serial] := by
    unfold State.endJob
    rw [hwjob]
    dsimp only
    rw [if_neg (by rw [hrun]; exact Bool.false_ne_true), if_neg JState.noConfusion]
  have hfor : u.dropFor d j JState.ecc.flags = u.dropStash d key 1 := by
    unfold State.dropFor
    obtain h | h := hkind
    · rw [h]
      rfl
    · rw [h]
      rfl
  have hone : (w.endOne d j .ecc).Failed d key j := by
    rw [heq, hfor]
    obtain ⟨hjobs, -, -, hkeep, hentries⟩ := State.dropStash_keeps u d key 1
    have hustash : u.stash d key = some e := by rw [hsame.stash, State.stash_modJob, hlog.stash, hstash]
    obtain ⟨f, hf, hffrees, hself, -⟩ := hentries key e hustash hfrees
    refine State.Failed.placeFreed ⟨?_, fun m hm hserial => ?_, ⟨f, hf, hffrees, hself rfl⟩, hkeep (hsame.2 (hlog.2 hctxs))⟩
    · refine (congrArg (List.find? fun (m : Job) => m.serial == j.serial) hjobs).trans ((hsame.job d j.serial).trans ?_)
      exact State.job_modJob_of hwjob (fun m => { m with state := .ecc }) fun _ h => h
    · rw [hjobs, (hsame.1 d).1] at hm
      rw [State.state_of_modJob w hm hserial]
      rfl
  have hall := hone.abortAfter ((w.endOne d j .ecc).die d).jobs.length (failed := [j.serial])
  rw [hstopped, hend, State.checkEnd_of_ctxs hall.ctxs]
  exact hall

/-- Settles O48: a store's copy and a restore's block stand at their place, both end with their tokens, and uncorrectable data drops the entry. -/
theorem eddyJobEvents : Obligations.EddyJobEvents := by
  unfold Obligations.EddyJobEvents
  intro s d key j e hjob hrun hstash hfrees hgated
  refine ⟨fun v n k x hkind hcopy htoken hctx => eddy_store_clause hjob hrun hstash hfrees hgated hkind hcopy htoken hctx,
    fun bs v i hkind hmore hi hblock hdest hrec hattach hwrite =>
      eddy_block_clause hjob hrun hstash hgated hkind hmore hi hblock hdest hrec hattach hwrite,
    fun c k x hkind hall hwaiters hctx => eddy_restore_clause hjob hrun hstash hfrees hgated hkind hall hwaiters hctx, fun pa hkind _ hctxs => ?_⟩
  have hfailed := eddyFailed_failed hjob hrun hstash hfrees hgated hkind hctxs pa
  obtain ⟨f, hf, -, hstate, herr, hnear, hfar, hlp⟩ := hfailed.entry
  exact ⟨_, f, rfl, hfailed.job, hf, hstate, herr, hnear, hfar, hlp⟩

end Sys2Proof.Machine

/-! ## Commands of the mailbox (R17, R102 to R107, R119, R121 to R124) -/

namespace Sys2Proof.Machine

set_option Elab.async false

/-! ### A command completes -/

theorem State.mbox_msix (s : State) (v : Nat) : (s.msix v).mbox = s.mbox := by
  unfold State.msix State.sendHost
  split
  · rfl
  · rfl

theorem State.mbox_releaseStarts (s : State) :
    ∃ b h g, s.releaseStarts.mbox = { s.mbox with starts := b, ahead := h, granted := g } ∧ s.releaseStarts.out = s.out ∧ s.releaseStarts.ports = s.ports := by
  unfold State.releaseStarts
  split
  · exact ⟨s.mbox.starts, s.mbox.ahead, s.mbox.granted, rfl, rfl, rfl⟩
  · exact ⟨_, _, _, rfl, rfl, rfl⟩

/-- The results as a command leaves them in MBRET. -/
def retsPut (m : SMap W64) (rets : List W64) : SMap W64 := (rets.zipIdx).foldl (fun (m : SMap W64) r => SMap.set 0#64 m r.2 r.1) m

theorem foldl_zipIdx_set (rets : List W64) (m : SMap W64) (k n : Nat) :
    SMap.get 0#64 ((rets.zipIdx k).foldl (fun (m : SMap W64) r => SMap.set 0#64 m r.2 r.1) m) n =
      if k ≤ n then rets.getD (n - k) (SMap.get 0#64 m n) else SMap.get 0#64 m n := by
  induction rets generalizing m k with
  | nil => simp
  | cons x rets ih =>
    rw [List.zipIdx_cons, List.foldl_cons, ih]
    by_cases h : n = k
    · subst h
      rw [if_neg (by omega), if_pos (Nat.le_refl n), Nat.sub_self]
      exact SMap.get_set_self _ _ _ _
    · rw [SMap.get_set_ne _ _ _ _ _ h]
      by_cases hle : k ≤ n
      · rw [if_pos hle, if_pos (by omega), show n - k = (n - (k + 1)) + 1 by omega, List.getD_cons_succ]
      · rw [if_neg hle, if_neg (by omega)]

theorem get_retsPut {m : SMap W64} {rets : List W64} {n : Nat} {x : W64} (h : rets[n]? = some x) : SMap.get 0#64 (retsPut m rets) n = x := by
  unfold retsPut
  rw [foldl_zipIdx_set, if_pos (Nat.zero_le n), Nat.sub_zero, List.getD_eq_getElem?_getD, h]
  rfl

section complete
variable {s : State} {op : Nat} {seq : BitVec 16} {args : SMap W64} (hrunning : s.mbox.running = some (op, seq, args))
include hrunning

/-- A command that completes: MBDONE, MBRET and the message of vector 0 (R104). -/
theorem State.complete_completed (status : Nat) (rets : List W64) : (s.complete status rets).Completed seq status ∧
    (s.complete status rets).mbox.rets = retsPut s.mbox.rets rets ∧ (s.complete status rets).mbox.lattol = s.mbox.lattol := by
  obtain ⟨m, hm, heq⟩ : ∃ m : Mailbox, m = { s.mbox with
      rets := retsPut s.mbox.rets rets, seq := seq, busy := false, status := BitVec.ofNat 8 status, running := none, any := true, behind := false
      begun := false, ahead := 0 } ∧ s.complete status rets = (({ s with mbox := m } : State).msix 0).releaseStarts := by
    refine ⟨_, rfl, ?_⟩
    unfold State.complete
    rw [hrunning]
    rfl
  obtain ⟨b, h, g, hmbox, hout, hports⟩ := State.mbox_releaseStarts (({ s with mbox := m } : State).msix 0)
  rw [State.mbox_msix] at hmbox
  have hport (q : Nat) : (((({ s with mbox := m } : State).msix 0).releaseStarts).port q) = (({ s with mbox := m } : State).msix 0).port q := by
    rw [State.port, hports, State.port]
  rw [heq, hmbox, hm]
  refine ⟨⟨?_, ?_, ?_, ?_, ?_, ?_⟩, rfl, rfl⟩
  · rw [← hm, hmbox, hm]
  · rw [← hm, hmbox, hm]
  · rw [← hm, hmbox, hm]
  · rw [← hm, hmbox, hm]
  · rw [← hm, hmbox, hm]
  · rw [← hm, hport, hout]
    cases hup : (({ s with mbox := m } : State).port hostPort).up with
    | true =>
      rw [State.msix_of_up 0 hup]
      show if (({ s with mbox := m } : State).port hostPort).up = true then _ else _
      rw [if_pos hup]
      exact List.mem_append_right _ (List.mem_singleton_self _)
    | false =>
      rw [State.port_msix_of_down 0 hup]
      show if (({ s with mbox := m } : State).port hostPort).up = true then _ else _
      rw [if_neg (by rw [hup]; exact Bool.false_ne_true)]
      exact List.mem_append_right _ (List.mem_singleton_self _)

theorem State.complete_ret (status : Nat) {rets : List W64} {n : Nat} {x : W64} (h : rets[n]? = some x) :
    SMap.get 0#64 (s.complete status rets).mbox.rets n = x := by
  rw [(State.complete_completed hrunning status rets).2.1]
  exact get_retsPut h

/-- A command whose turn it is finds its arguments. -/
theorem State.serve_eq (hturn : s.commandWaits = false) (f : (Nat → W64) → State) : s.serve op f = f fun n => SMap.get 0#64 args n := by
  have hcommand : s.command op = some fun n => SMap.get 0#64 args n := by
    unfold State.command
    rw [hrunning]
    dsimp only
    rw [if_pos ⟨rfl, by rw [hturn]; rfl⟩]
  unfold State.serve
  rw [hcommand]

end complete

/-! ### Reports -/

/-- What a command leaves that only answers: everything but the mailbox, the messages and the turns that follow. -/
theorem State.sameModule_thermal_sess {s t : State} (h : s.SameModule t) :
    t.thermal = s.thermal ∧ t.sess = s.sess ∧ t.hostMem = s.hostMem ∧ t.home = s.home ∧ t.dies = s.dies ∧ t.ctxs = s.ctxs ∧ t.gangs = s.gangs :=
  ⟨h.keeps State.thermal fun _ _ _ _ _ => rfl, h.keeps State.sess fun _ _ _ _ _ => rfl, h.keeps State.hostMem fun _ _ _ _ _ => rfl,
    h.keeps State.home fun _ _ _ _ _ => rfl, h.keeps State.dies fun _ _ _ _ _ => rfl, h.keeps State.ctxs fun _ _ _ _ _ => rfl,
    h.keeps State.gangs fun _ _ _ _ _ => rfl⟩

theorem length_toBytes (n x : Nat) : (toBytes n x).length = n := by
  induction n generalizing x with
  | zero => rfl
  | succ n ih => rw [toBytes, List.length_cons, ih]

theorem length_report (s : State) (a : Nat → W64) : (s.report a).length = 256 := by
  have hpoint (p : Crypto.Point) : (Crypto.encodePoint p).length = 32 := length_toBytes _ _
  have hsign (m : List Byte) : (Crypto.sign identitySeed m).length = 64 := by
    unfold Crypto.sign
    dsimp only
    rw [List.length_append, hpoint, length_toBytes]
  have hbody : (s.reportBody a).length = 192 := by
    unfold State.reportBody
    simp only [List.length_append, length_toBytes, List.length_replicate]
  unfold State.report
  rw [List.length_append, hbody, hsign]

theorem nonce_report (s : State) (a : Nat → W64) : ((s.report a).drop 16).take 32 =
    toBytes 8 (a 0).toNat ++ toBytes 8 (a 1).toNat ++ toBytes 8 (a 2).toNat ++ toBytes 8 (a 3).toNat := by
  have hnonce : (toBytes 8 (a 0).toNat ++ toBytes 8 (a 1).toNat ++ toBytes 8 (a 2).toNat ++ toBytes 8 (a 3).toNat).length = 32 := by
    simp only [List.length_append, length_toBytes]
  have hhead : (toBytes 4 1 ++ toBytes 4 Config.firmwareVersion.toNat ++ toBytes 8 Config.serial.toNat).length = 16 := by
    simp only [List.length_append, length_toBytes]
  have hsplit : ∃ rest, s.report a = (toBytes 4 1 ++ toBytes 4 Config.firmwareVersion.toNat ++ toBytes 8 Config.serial.toNat) ++
      ((toBytes 8 (a 0).toNat ++ toBytes 8 (a 1).toNat ++ toBytes 8 (a 2).toNat ++ toBytes 8 (a 3).toNat) ++ rest) := by
    unfold State.report State.reportBody
    simp only [List.append_assoc]
    exact ⟨_, rfl⟩
  obtain ⟨rest, h⟩ := hsplit
  rw [h, ← hhead, List.drop_left, ← hnonce, List.take_left]

/-- A failed access to host memory: the link is down, or the host says so. -/
theorem State.dmaFails_of_down {s : State} (h : (s.port 8).up = false) : s.dmaFails = true := by
  unfold State.dmaFails State.tryHost
  rw [h]
  rfl

theorem State.tryHost_eq (s : State) : ∃ n, s.tryHost.2 = { s with freeCtr := n } := by
  unfold State.tryHost
  split
  · exact ⟨_, rfl⟩
  · exact ⟨s.freeCtr, rfl⟩

section command
variable {s : State} {op : Nat} {seq : BitVec 16} {args : SMap W64} (hrunning : s.mbox.running = some (op, seq, args)) (hturn : s.commandWaits = false)
include hrunning

/-- A command of host memory that fails answers 9 and writes nothing. -/
theorem tryHost_fails : (s.tryHost.2.complete 9 []).Completed seq 9 ∧ (s.tryHost.2.complete 9 []).hostMem = s.hostMem := by
  obtain ⟨n, h⟩ := State.tryHost_eq s
  rw [h]
  have hmod := State.sameModule_complete ({ s with freeCtr := n } : State) 9 []
  obtain ⟨-, -, hmem, -⟩ := State.sameModule_thermal_sess hmod
  exact ⟨(State.complete_completed (s := { s with freeCtr := n }) hrunning 9 []).1, hmem⟩

/-- A command of host memory that succeeds leaves its bytes there. -/
theorem tryHost_writes (addr : Nat) (bs : List Byte) (rets : List W64) : ((s.tryHost.2.writeHost addr bs).complete 0 rets).Completed seq 0 ∧
    ((s.tryHost.2.writeHost addr bs).complete 0 rets).hostMem = Mem.write s.hostMem (hostBase + addr) bs ∧
    ∀ (n : Nat) (x : W64), rets[n]? = some x → SMap.get 0#64 ((s.tryHost.2.writeHost addr bs).complete 0 rets).mbox.rets n = x := by
  obtain ⟨n, h⟩ := State.tryHost_eq s
  rw [h]
  generalize hu : ({ s with freeCtr := n } : State).writeHost addr bs = u
  have hrun : u.mbox.running = some (op, seq, args) := by
    rw [← hu]
    exact hrunning
  obtain ⟨-, -, hmem, -⟩ := State.sameModule_thermal_sess (State.sameModule_complete u 0 rets)
  refine ⟨(State.complete_completed hrun 0 rets).1, ?_, fun n x hx => State.complete_ret hrun 0 hx⟩
  rw [hmem, ← hu]
  rfl

include hturn

theorem identify_clause (hop : op = 1) : ∃ t, exec .identify s = .next t ∧ t.Completed seq 0 ∧ SMap.get 0#64 t.mbox.rets 0 = 0x7740#64 ∧
    SMap.get 0#64 t.mbox.rets 1 = Config.firmwareVersion.zeroExtend 64 ∧ SMap.get 0#64 t.mbox.rets 2 = Config.serial := by
  subst hop
  refine ⟨_, congrArg Host.Outcome.next (State.serve_eq hrunning hturn _), (State.complete_completed hrunning 0 _).1, ?_, ?_, ?_⟩
  · exact State.complete_ret hrunning 0 rfl
  · exact State.complete_ret hrunning 0 rfl
  · exact State.complete_ret hrunning 0 rfl

theorem attest_clause (hop : op = 2) (halign : (SMap.get 0#64 args 4).toNat % 256 = 0) : ∃ t, exec .attest s = .next t ∧
    if s.dmaFails then t.Completed seq 9 ∧ t.hostMem = s.hostMem
    else t.Completed seq 0 ∧ ∃ report : List Byte, report.length = 256 ∧
      t.hostMem = Mem.write s.hostMem (hostBase + (SMap.get 0#64 args 4).toNat) report ∧ (report.drop 16).take 32 =
        toBytes 8 (SMap.get 0#64 args 0).toNat ++ toBytes 8 (SMap.get 0#64 args 1).toNat ++ toBytes 8 (SMap.get 0#64 args 2).toNat ++
          toBytes 8 (SMap.get 0#64 args 3).toNat := by
  subst hop
  refine ⟨s.attest, rfl, ?_⟩
  unfold State.attest
  rw [State.serve_eq hrunning hturn, if_neg (not_not_intro halign)]
  by_cases hfails : s.dmaFails = true
  · rw [if_pos hfails, if_pos hfails]
    exact tryHost_fails hrunning
  · rw [if_neg hfails, if_neg hfails]
    obtain ⟨hcompleted, hmem, -⟩ := tryHost_writes hrunning (SMap.get 0#64 args 4).toNat (s.report fun n => SMap.get 0#64 args n) []
    exact ⟨hcompleted, _, length_report s _, hmem, nonce_report s _⟩

theorem readLog_clause (hop : op = 13) (hmin : 1 ≤ (SMap.get 0#64 args 1).toNat) (hmax : (SMap.get 0#64 args 1).toNat ≤ 256)
    (halign : (SMap.get 0#64 args 2).toNat % 32 = 0) {first : Nat} {es : List LogEntry}
    (hfirst : first = max (SMap.get 0#64 args 0).toNat (s.logCount - s.log.length))
    (hes : es = (s.log.drop (first - (s.logCount - s.log.length))).take (SMap.get 0#64 args 1).toNat) : ∃ t, exec .readLog s = .next t ∧
    if s.dmaFails then t.Completed seq 9 ∧ t.hostMem = s.hostMem
    else t.Completed seq 0 ∧ t.hostMem = Mem.write s.hostMem (hostBase + (SMap.get 0#64 args 2).toNat) (es.flatMap LogEntry.bytes) ∧
      SMap.get 0#64 t.mbox.rets 0 = BitVec.ofNat 64 es.length ∧ SMap.get 0#64 t.mbox.rets 1 = BitVec.ofNat 64 first := by
  subst hop hfirst hes
  have hgo : ¬ ((SMap.get 0#64 args 1).toNat = 0 ∨ 256 < (SMap.get 0#64 args 1).toNat ∨ (SMap.get 0#64 args 2).toNat % 32 ≠ 0) := by omega
  refine ⟨s.readLog, rfl, ?_⟩
  unfold State.readLog
  rw [State.serve_eq hrunning hturn]
  dsimp only
  rw [if_neg hgo]
  by_cases hfails : s.dmaFails = true
  · rw [if_pos hfails, if_pos hfails]
    exact tryHost_fails hrunning
  · rw [if_neg hfails, if_neg hfails]
    obtain ⟨hcompleted, hmem, hrets⟩ := tryHost_writes hrunning (SMap.get 0#64 args 2).toNat _ _
    exact ⟨hcompleted, hmem, hrets 0 _ rfl, hrets 1 _ rfl⟩

theorem query_clause (hop : op = 10) : ∃ t, exec .query s = .next t ∧ t.Completed seq 0 ∧ SMap.get 0#64 t.mbox.rets 0 = s.thermal.thstat.zeroExtend 64 ∧
    SMap.get 0#64 t.mbox.rets 1 = s.sess.sesstat.zeroExtend 64 ∧ SMap.get 0#64 t.mbox.rets 2 = s.actstat.zeroExtend 64 ∧
    SMap.get 0#64 t.mbox.rets 3 = s.mbox.lattol.zeroExtend 64 ∧ SMap.get 0#64 t.mbox.rets 4 = BitVec.ofNat 64 s.logCount ∧
    SMap.get 0#64 t.mbox.rets 5 = s.sess.num := by
  subst hop
  refine ⟨_, congrArg Host.Outcome.next (State.serve_eq hrunning hturn _), (State.complete_completed hrunning 0 _).1, ?_, ?_, ?_, ?_, ?_, ?_⟩
  · exact State.complete_ret hrunning 0 rfl
  · exact State.complete_ret hrunning 0 rfl
  · exact State.complete_ret hrunning 0 rfl
  · exact State.complete_ret hrunning 0 rfl
  · exact State.complete_ret hrunning 0 rfl
  · exact State.complete_ret hrunning 0 rfl

theorem setLattol_clause (hop : op = 11) (hsmall : (SMap.get 0#64 args 0).toNat < 2 ^ 32) :
    ∃ t, exec .setLattol s = .next t ∧ t.Completed seq 0 ∧ t.mbox.lattol = (SMap.get 0#64 args 0).truncate 32 := by
  subst hop
  generalize hu : ({ s with mbox := { s.mbox with lattol := (SMap.get 0#64 args 0).truncate 32 } } : State) = u
  obtain ⟨v, hv, hvmbox⟩ : ∃ v : State, v = (if (SMap.get 0#64 args 0).toNat < exitLatency u.act then u.wakeUp else u) ∧ v.mbox = u.mbox := by
    refine ⟨_, rfl, ?_⟩
    split
    · obtain ⟨a, g, w, h⟩ := State.wakeUp_eq u
      rw [h]
    · rfl
  have hstep : s.setLattol = v.complete 0 [] := by
    unfold State.setLattol
    rw [State.serve_eq hrunning hturn, if_neg (Nat.not_le.mpr hsmall)]
    rw [hv, ← hu]
  have hrun : v.mbox.running = some (11, seq, args) := by
    rw [hvmbox, ← hu]
    exact hrunning
  obtain ⟨hcompleted, -, hlattol⟩ := State.complete_completed hrun 0 []
  refine ⟨_, congrArg Host.Outcome.next hstep, hcompleted, ?_⟩
  rw [hlattol, hvmbox, ← hu]

theorem resetDie_clause (hop : op = 12) (hready : s.thermal.state = .coldReady) (hsession : s.hasSession = false) {d : Nat}
    (hd : d = (SMap.get 0#64 args 0).toNat) (hdie : d ≤ 3) :
    ∃ t, exec .resetDie s = .next t ∧ t.Completed seq 0 ∧ (t.die d).stages = [] ∧ (t.die d).jobs = [] ∧ (t.die d).tvec = 0#64 ∧
      (t.die d).view = (s.die d).view ∧ t.home = s.home := by
  subst hop
  have hstep : s.resetCommand = (s.resetDie d).complete 0 [] := by
    unfold State.resetCommand
    rw [State.serve_eq hrunning hturn, if_neg (by rw [hready, hsession]; exact fun h => h.elim (fun h => h rfl) Bool.false_ne_true)]
    dsimp only
    rw [← hd, if_neg (Nat.not_lt.mpr hdie)]
  have hrun : (s.resetDie d).mbox.running = some (12, seq, args) := hrunning
  obtain ⟨-, -, -, hhome, hdies, -⟩ := State.sameModule_thermal_sess (State.sameModule_complete (s.resetDie d) 0 [])
  have hreset : (((s.resetDie d).complete 0 []).die d) =
      { (s.die d) with stages := [], arrivals := [], jobs := [], accepted := 0, tvec := 0#64, tlb := [] } := by
    rw [State.die, hdies, ← State.die]
    unfold State.resetDie
    dsimp only
    rw [State.die_modDie_self]
    rfl
  refine ⟨_, congrArg Host.Outcome.next hstep, (State.complete_completed hrun 0 []).1, ?_⟩
  rw [hreset, hhome]
  exact ⟨rfl, rfl, rfl, rfl, rfl⟩

/-! ### Thermal commands -/

omit hrunning hturn in
theorem setTherm_eq (s : State) (t : TState) :
    ∃ e o p, s.setTherm t = { s with thermal := { s.thermal with state := t, evt := e }, out := o, ports := p } := by
  unfold State.setTherm
  split
  · next h =>
    refine ⟨s.thermal.evt, s.out, s.ports, ?_⟩
    rw [← h]
  · unfold State.setEvt
    dsimp only
    split
    · exact ⟨s.thermal.evt, s.out, s.ports, rfl⟩
    · unfold State.msix State.sendHost
      split
      · exact ⟨_, _, _, rfl⟩
      · exact ⟨_, _, _, rfl⟩

/-- A thermal command that only moves the state and the setpoint. -/
theorem thermalCommand_clause {f : (Nat → W64) → State} {t : TState} {n : Nat}
    (hf : (f fun n => SMap.get 0#64 args n) = ((s.setTherm t).setpoint (some n)).completeState) :
    (s.serve op f).Completed seq 0 ∧ (s.serve op f).thermal.state = t ∧ (s.serve op f).thermal.setpoint = some n := by
  obtain ⟨e, o, p, htherm⟩ := setTherm_eq s t
  rw [State.serve_eq hrunning hturn, hf, htherm]
  unfold State.completeState
  generalize hu : ({ s with thermal := { s.thermal with state := t, evt := e }, out := o, ports := p } : State).setpoint (some n) = u
  have hrun : u.mbox.running = some (op, seq, args) := by
    rw [← hu]
    exact hrunning
  obtain ⟨hthermal, -⟩ := State.sameModule_thermal_sess (State.sameModule_complete u 0 [BitVec.ofNat 64 u.thermal.state.code])
  refine ⟨(State.complete_completed hrun 0 _).1, ?_, ?_⟩
  · rw [hthermal, ← hu]
    rfl
  · rw [hthermal, ← hu]
    rfl

/-- A command that its state refuses. -/
theorem refused_clause {f : (Nat → W64) → State} (hf : (f fun n => SMap.get 0#64 args n) = s.complete 3 []) :
    (s.serve op f).Completed seq 3 ∧ (s.serve op f).thermal = s.thermal := by
  rw [State.serve_eq hrunning hturn, hf]
  exact ⟨(State.complete_completed hrunning 3 []).1, (State.sameModule_complete s 3 []).thermal_eq⟩

end command

/-! ### STOP -/

theorem State.apart_applyAtomics (s : State) : s.applyAtomics.apart = s.apart :=
  State.foldl_apart fun u (w : GWrite) => by
    unfold State.applyPlaced
    dsimp only
    split <;> rfl

/-- A session that ends while the module runs leaves it COLD_READY with the image (R119). -/
theorem State.endSession_of_run {s : State} (hrun : s.thermal.state = .run) (cause : Nat) : (s.endSession cause).mbox = s.mbox ∧
    (s.endSession cause).thermal.state = .coldReady ∧ (s.endSession cause).sess.state = .loaded ∧
    (s.endSession cause).sess.endcause = BitVec.ofNat 8 cause ∧ (s.endSession cause).ctxs = [] := by
  have hapart := State.apart_applyAtomics s
  have hmbox : s.applyAtomics.mbox = s.mbox := by
    show s.applyAtomics.apart.mbox = s.apart.mbox
    rw [hapart]
  have hstate : s.applyAtomics.thermal.state = .run := by rw [State.applyAtomics_thermal, hrun]
  unfold State.endSession
  dsimp only
  rw [hstate]
  dsimp only
  have hfinish (w : State) : ((w.setTherm .coldReady).dropHostLines.msix 2).mbox = w.mbox ∧
      ((w.setTherm .coldReady).dropHostLines.msix 2).thermal.state = .coldReady ∧ ((w.setTherm .coldReady).dropHostLines.msix 2).sess = w.sess ∧
      ((w.setTherm .coldReady).dropHostLines.msix 2).ctxs = w.ctxs := by
    obtain ⟨e, o, p, htherm⟩ := setTherm_eq w .coldReady
    obtain ⟨hthermal, hsess, -, -, -, hctxs, -⟩ := State.sameModule_thermal_sess (State.sameModule_msix (w.setTherm .coldReady).dropHostLines 2)
    rw [State.mbox_msix, hthermal, hsess, hctxs, htherm]
    exact ⟨rfl, rfl, rfl, rfl⟩
  refine ⟨(hfinish _).1.trans hmbox, (hfinish _).2.1, ?_, ?_, (hfinish _).2.2.2.trans rfl⟩
  · exact congrArg Session.state (hfinish _).2.2.1
  · exact congrArg Session.endcause (hfinish _).2.2.1

/-! ### HOLD -/

/-- What a gang shows of its capture. -/
def Gang.caught (g : Gang) : Nat × Bool × Bool := (g.id, g.captured, g.byHold && !g.written)

/-- What HOLD makes of what a gang shows, where it captures the gangs of some numbers. -/
def caughtBy (ids : List Nat) (x : Nat × Bool × Bool) : Nat × Bool × Bool := if x.1 ∈ ids ∧ x.2.1 = false then (x.1, true, true) else x

theorem caughtBy_cons (i : Nat) (l : List Nat) (x : Nat × Bool × Bool) : caughtBy l (caughtBy [i] x) = caughtBy (i :: l) x := by
  obtain ⟨n, captured, held⟩ := x
  unfold caughtBy
  cases captured with
  | true => simp
  | false =>
    by_cases hi : n = i
    · simp [hi]
    · simp [hi]

/-- A capture leaves the mailbox and the session, and what the other gangs show. -/
theorem State.captureGang_desk (s : State) (id stamp : Nat) (hids : (s.gangs.map Gang.id).Nodup) :
    (s.captureGang id stamp true).mbox = s.mbox ∧ (s.captureGang id stamp true).sess = s.sess ∧
      (s.captureGang id stamp true).gangs.map Gang.caught = (s.gangs.map Gang.caught).map (caughtBy [id]) := by
  have hfold (cs : List Nat) (u : State) : (cs.foldl (fun (v : State) c => ((v.modCtx c fun x => x.captured v.time).storeTiles c).dropPorts c) u).apart =
      u.apart := by
    refine State.foldl_apart fun v c => ?_
    have htiles (w : State) : (w.storeTiles c).apart = w.apart := by
      unfold State.storeTiles
      split <;> rfl
    have hports (w : State) : (w.dropPorts c).apart = w.apart := rfl
    rw [hports, htiles, State.apart_modCtx]
  have hunique {g h : Gang} (hg : g ∈ s.gangs) (hh : s.gang id = some h) (heq : g.id = id) : g = h :=
    eq_of_nodup_map hids hg (List.mem_of_find?_eq_some hh) (heq.trans (eq_of_beq (List.find?_some (p := fun (x : Gang) => x.id == id) hh)).symm)
  have hsame (hcaught : ∀ h, s.gang id = some h → h.captured = true) : s.gangs.map Gang.caught = (s.gangs.map Gang.caught).map (caughtBy [id]) := by
    rw [List.map_map]
    refine List.map_congr_left fun g hg => ?_
    refine (if_neg ?_ : caughtBy [id] g.caught = g.caught).symm
    rintro ⟨hin, hopen⟩
    have hid : g.id = id := List.mem_singleton.mp hin
    obtain ⟨h, hh⟩ : ∃ h, s.gang id = some h := Option.isSome_iff_exists.mp (List.find?_isSome.mpr ⟨g, hg, beq_iff_eq.mpr hid⟩)
    have hgh := hunique hg hh hid
    subst hgh
    exact Bool.noConfusion (hopen.symm.trans (hcaught _ hh))
  unfold State.captureGang
  split
  · next hnone => exact ⟨rfl, rfl, hsame fun h hh => by rw [hnone] at hh; cases hh⟩
  · next h hh =>
    split
    · next hcaught =>
      refine ⟨rfl, rfl, hsame fun k hk => ?_⟩
      rw [← Option.some.inj (hh.symm.trans hk)]
      exact hcaught
    · next hopen =>
      dsimp only
      have hmid := hfold (h.members.map (·.1)) s
      generalize List.foldl _ s (h.members.map (·.1)) = u at hmid
      have hmbox : u.apart.mbox = s.apart.mbox := by rw [hmid]
      have hsess : u.apart.sess = s.apart.sess := by rw [hmid]
      have hgangs : u.apart.gangs = s.apart.gangs := by rw [hmid]
      refine ⟨hmbox, hsess, ?_⟩
      have hrenumber (w : State) (f : Nat → Nat) : (w.renumber f).gangs.map Gang.caught = w.gangs.map Gang.caught := List.map_map
      rw [hrenumber, State.modGang]
      dsimp only
      rw [show u.gangs = s.gangs from hgangs, mapWhere, List.map_map, List.map_map]
      refine List.map_congr_left fun g hg => ?_
      rw [Function.comp_apply, Function.comp_apply]
      by_cases hid : g.id = id
      · have hgh := hunique hg hh hid
        subst hgh
        rw [if_pos (beq_iff_eq.mpr hid)]
        exact (if_pos ⟨List.mem_singleton.mpr hid, Bool.eq_false_iff.mpr hopen⟩ : caughtBy [id] g.caught = _).symm
      · rw [if_neg (fun h => hid (eq_of_beq h))]
        exact (if_neg fun h => hid (List.mem_singleton.mp h.1) : caughtBy [id] g.caught = _).symm

/-- HOLD captures the gangs of some numbers one after another. -/
theorem State.captureAll_desk (ids : List Nat) (s : State) (hids : (s.gangs.map Gang.id).Nodup) :
    (s.captureAll ids true).mbox = s.mbox ∧ (s.captureAll ids true).sess = s.sess ∧
      (s.captureAll ids true).gangs.map Gang.caught = (s.gangs.map Gang.caught).map (caughtBy ids) := by
  have hfold (stamp : Nat) : ∀ (l : List Nat) (u : State), (u.gangs.map Gang.id).Nodup →
      (l.foldl (fun (t : State) i => t.captureGang i stamp true) u).mbox = u.mbox ∧
      (l.foldl (fun (t : State) i => t.captureGang i stamp true) u).sess = u.sess ∧
      (l.foldl (fun (t : State) i => t.captureGang i stamp true) u).gangs.map Gang.caught = (u.gangs.map Gang.caught).map (caughtBy l) := by
    intro l
    induction l with
    | nil =>
      intro u _
      refine ⟨rfl, rfl, ?_⟩
      have hid : caughtBy [] = id := funext fun x => if_neg fun h => List.not_mem_nil h.1
      rw [hid, List.map_id]
      rfl
    | cons i l ih =>
      intro u hu
      obtain ⟨hmbox, hsess, hgangs⟩ := State.captureGang_desk u i stamp hu
      have hfst : (u.captureGang i stamp true).gangs.map Gang.id = u.gangs.map Gang.id := by
        have hproj (gs : List Gang) : gs.map Gang.id = (gs.map Gang.caught).map Prod.fst := by
          rw [List.map_map]
          rfl
        rw [hproj, hgangs, hproj, List.map_map]
        refine List.map_congr_left fun x _ => ?_
        rw [Function.comp_apply, caughtBy]
        split <;> rfl
      obtain ⟨hmbox', hsess', hgangs'⟩ := ih (u.captureGang i stamp true) (hfst ▸ hu)
      refine ⟨hmbox'.trans hmbox, hsess'.trans hsess, hgangs'.trans ?_⟩
      rw [hgangs, List.map_map]
      refine List.map_congr_left fun x _ => ?_
      exact caughtBy_cons i l x
  exact hfold _ ids { s with nextId := s.nextId + 1 } hids

/-! ### The ports of a module in HOLD -/

theorem State.up_msix (s : State) (v q : Nat) : ((s.msix v).port q).up = (s.port q).up := by
  by_cases h : q = hostPort
  · subst h
    cases hup : (s.port hostPort).up with
    | true =>
      rw [State.msix_of_up v hup]
      exact hup
    | false =>
      rw [State.port_msix_of_down v hup]
      exact hup
  · rw [State.port_msix_ne s v h]

theorem State.up_complete (s : State) (status : Nat) (rets : List W64) (q : Nat) : ((s.complete status rets).port q).up = (s.port q).up := by
  have hrelease (u : State) : (u.releaseStarts.port q).up = (u.port q).up := by
    obtain ⟨b, h, g, -, -, hports⟩ := State.mbox_releaseStarts u
    rw [State.port, hports, ← State.port]
  unfold State.complete
  split
  · rfl
  · exact (hrelease _).trans (State.up_msix _ 0 q)

theorem State.up_portGoesDown (s : State) (p q : Nat) : ((s.portGoesDown p).port q).up = ((s.port q).up && !(q == p && decide (p ≤ 8))) := by
  unfold State.portGoesDown
  dsimp only
  split
  · next h =>
    by_cases hq : q = p
    · subst hq
      obtain h | h := h
      · rw [decide_eq_false (by omega), Bool.and_false, Bool.not_false, Bool.and_true]
      · rw [Bool.not_eq_true'] at h
        rw [h, Bool.false_and]
    · rw [beq_false_of_ne hq, Bool.false_and, Bool.not_false, Bool.and_true]
  · next h =>
    rw [State.port_addLog, State.up_msix, State.up_msix]
    by_cases hq : q = p
    · subst hq
      rw [State.port_modPort_self, beq_self_eq_true, decide_eq_true (by omega), Bool.true_and, Bool.not_true, Bool.and_false]
    · rw [State.port_modPort_ne _ _ hq, beq_false_of_ne hq, Bool.false_and, Bool.not_false, Bool.and_true]

theorem State.portGoesDown_desk (s : State) (p : Nat) :
    (s.portGoesDown p).mbox = s.mbox ∧ (s.portGoesDown p).sess = s.sess ∧ (s.portGoesDown p).gangs = s.gangs ∧ (s.portGoesDown p).thermal = s.thermal := by
  unfold State.portGoesDown
  dsimp only
  split
  · exact ⟨rfl, rfl, rfl, rfl⟩
  · unfold State.addLog
    dsimp only
    obtain ⟨hthermal, hsess, -, -, -, -, hgangs⟩ := State.sameModule_thermal_sess (State.sameModule_msix (s.modPort p fun x => { x with up := false }) 4)
    have hmbox := State.mbox_msix (s.modPort p fun x => { x with up := false }) 4
    generalize (s.modPort p fun x => { x with up := false }).msix 4 = u at hthermal hsess hgangs hmbox
    have hlog (v : State) : (v.msix 3).mbox = v.mbox ∧ (v.msix 3).sess = v.sess ∧ (v.msix 3).gangs = v.gangs ∧ (v.msix 3).thermal = v.thermal := by
      obtain ⟨hthermal, hsess, -, -, -, -, hgangs⟩ := State.sameModule_thermal_sess (State.sameModule_msix v 3)
      exact ⟨State.mbox_msix v 3, hsess, hgangs, hthermal⟩
    exact ⟨(hlog _).1.trans hmbox, (hlog _).2.1.trans hsess, (hlog _).2.2.1.trans hgangs, (hlog _).2.2.2.trans hthermal⟩

theorem State.portsGoDown_desk (l : List Nat) (s : State) :
    (l.foldl State.portGoesDown s).mbox = s.mbox ∧ (l.foldl State.portGoesDown s).sess = s.sess ∧ (l.foldl State.portGoesDown s).gangs = s.gangs ∧
      (l.foldl State.portGoesDown s).thermal = s.thermal ∧ ∀ q ∈ l, q ≤ 8 → ((l.foldl State.portGoesDown s).port q).up = false := by
  have hdown : ∀ (l : List Nat) (u : State) (q : Nat), (u.port q).up = false → ((l.foldl State.portGoesDown u).port q).up = false := by
    intro l
    induction l with
    | nil => exact fun _ _ h => h
    | cons p l ih => exact fun u q h => ih _ q (by rw [State.up_portGoesDown, h, Bool.false_and])
  induction l generalizing s with
  | nil => exact ⟨rfl, rfl, rfl, rfl, fun q hq => absurd hq List.not_mem_nil⟩
  | cons p l ih =>
    obtain ⟨hmbox, hsess, hgangs, hthermal, hports⟩ := ih (s.portGoesDown p)
    obtain ⟨hmbox', hsess', hgangs', hthermal'⟩ := State.portGoesDown_desk s p
    refine ⟨hmbox.trans hmbox', hsess.trans hsess', hgangs.trans hgangs', hthermal.trans hthermal', fun q hq hle => ?_⟩
    obtain rfl | hq := List.mem_cons.mp hq
    · refine hdown l _ q ?_
      rw [State.up_portGoesDown, beq_self_eq_true, decide_eq_true hle, Bool.true_and, Bool.not_true, Bool.and_false]
    · exact hports q hq hle

/-- While a command of the set runs, what waits behind it stays behind it. -/
theorem State.nextTurn_of_command {s : State} {op : Nat} {seq : BitVec 16} {args : SMap W64} (hrunning : s.mbox.running = some (op, seq, args))
    (hop : commandCode op = true) : s.nextTurn.mbox.running = s.mbox.running ∧ s.nextTurn.ports = s.ports := by
  obtain ⟨b, h, g, hmbox, -, hports⟩ := State.mbox_releaseStarts { s with mbox := { s.mbox with behind := s.mbox.behind && s.triggerDue } }
  unfold State.nextTurn
  generalize State.releaseStarts _ = u at hmbox hports
  have hrun : u.mbox.running = s.mbox.running := by rw [hmbox]
  have hserve : u.serveUnknown = u := by
    unfold State.serveUnknown
    rw [hrun, hrunning]
    dsimp only
    rw [hop]
    exact if_pos rfl
  rw [hserve]
  exact ⟨hrun, hports⟩

/-- What HOLD makes of the module while a command runs (R17, R21). -/
structure State.Held (s t : State) : Prop where
  state : t.thermal.state = .hold
  cmdhold : t.thermal.cmdhold = true
  sess : t.sess.state = .suspended
  refrate : t.thermal.refrate = 4#3
  switched : t.thermal.switchAt = none ∧ t.thermal.applyAt = none
  gangs : t.gangs.map Gang.caught = (s.gangs.map Gang.caught).map (caughtBy ((s.gangs.filter fun g => !g.captured).map (·.id)))
  ports : ∀ p, p < 8 → (t.port p).up = false
  mbox : t.mbox.running = s.mbox.running

/-- The last part of the entry into HOLD: the ports go down, and the thermal registers take their values. -/
theorem State.holdPorts {w : State} {op : Nat} {seq : BitVec 16} {args : SMap W64} (hrunning : w.mbox.running = some (op, seq, args))
    (hop : commandCode op = true) {u t : State} {th : Thermal} (hu : (List.range 8).foldl State.portGoesDown w = u)
    (ht : t = ({ u with thermal := th, act := 3#2, gated := 0#9 } : State).nextTurn) :
    t.thermal = th ∧ t.sess = w.sess ∧ t.gangs = w.gangs ∧ t.mbox.running = w.mbox.running ∧ ∀ p, p < 8 → (t.port p).up = false := by
  obtain ⟨hmbox, hsess, hgangs, -, hdown⟩ := State.portsGoDown_desk (List.range 8) w
  rw [hu] at hmbox hsess hgangs hdown
  have hrun : ({ u with thermal := th, act := 3#2, gated := 0#9 } : State).mbox.running = some (op, seq, args) := by
    rw [← hrunning]
    exact congrArg Mailbox.running hmbox
  obtain ⟨hturn, hports⟩ := State.nextTurn_of_command hrun hop
  obtain ⟨hthermal', hsess', -, -, -, -, hgangs'⟩ := State.sameModule_thermal_sess
    (State.sameModule_nextTurn ({ u with thermal := th, act := 3#2, gated := 0#9 } : State))
  rw [ht]
  refine ⟨hthermal', hsess'.trans hsess, hgangs'.trans hgangs, hturn.trans (congrArg Mailbox.running hmbox), fun p hp => ?_⟩
  rw [State.port, hports]
  exact hdown p (List.mem_range.mpr hp) (Nat.le_of_lt hp)

theorem State.held_toHold {s : State} {op : Nat} {seq : BitVec 16} {args : SMap W64} (hrunning : s.mbox.running = some (op, seq, args))
    (hop : commandCode op = true) (hsess : s.sess.state = .running) (hids : (s.gangs.map Gang.id).Nodup) : s.Held (s.toHold true) := by
  obtain ⟨e, o, p, htherm⟩ := setTherm_eq s .hold
  unfold State.toHold
  dsimp only
  rw [htherm]
  generalize hu : ({ s with thermal := { s.thermal with state := .hold, evt := e }, out := o, ports := p } : State) = u
  have hugangs : u.gangs = s.gangs := by rw [← hu]
  obtain ⟨hmbox, hsess', hgangs⟩ := State.captureAll_desk ((u.gangs.filter fun g => !g.captured).map (·.id)) u (by rw [hugangs]; exact hids)
  have hthermal := State.captureAll_thermal u ((u.gangs.filter fun g => !g.captured).map (·.id)) true
  generalize u.captureAll ((u.gangs.filter fun g => !g.captured).map (·.id)) true = v at hmbox hsess' hgangs hthermal
  have hvrun : v.mbox.running = some (op, seq, args) := by
    rw [hmbox, ← hu]
    exact hrunning
  have hvsess : v.sess.state = .running := by
    rw [hsess', ← hu]
    exact hsess
  have hvstate : v.thermal.state = .hold := by
    rw [hthermal, ← hu]
  rw [if_pos hvsess]
  generalize hw : ({ v with sess := { v.sess with state := .suspended }, dies := SMap.mapVals {} Die.suspendJobs v.dies,
                            clusters := SMap.mapVals {} (fun (k : Cluster) => k.mapRiffle Riffle.suspend) v.clusters } : State) = w
  have hwrun : w.mbox.running = some (op, seq, args) := by
    rw [← hw]
    exact hvrun
  have hwstate : ((List.range 8).foldl State.portGoesDown w).thermal.state = .hold := by
    rw [(State.portsGoDown_desk (List.range 8) w).2.2.2.1, ← hw]
    exact hvstate
  generalize hz : (List.range 8).foldl State.portGoesDown w = z at hwstate ⊢
  generalize ht : State.nextTurn _ = t
  obtain ⟨hth, hts, htg, htm, htp⟩ := State.holdPorts hwrun hop hz ht.symm
  refine ⟨?_, ?_, ?_, ?_, ⟨?_, ?_⟩, ?_, htp, ?_⟩
  · exact (congrArg Thermal.state hth).trans hwstate
  · exact congrArg Thermal.cmdhold hth
  · rw [hts, ← hw]
  · exact congrArg Thermal.refrate hth
  · exact congrArg Thermal.switchAt hth
  · exact congrArg Thermal.applyAt hth
  · rw [htg, ← hw]
    exact hgangs.trans (by rw [hugangs])
  · rw [htm, hwrun, hrunning]

section command
variable {s : State} {op : Nat} {seq : BitVec 16} {args : SMap W64} (hrunning : s.mbox.running = some (op, seq, args)) (hturn : s.commandWaits = false)
include hrunning hturn

theorem stop_clause (hop : op = 9) (hrun : s.thermal.state = .run) (hsess : s.sess.state = .running) :
    ∃ t, exec .stop s = .next t ∧ t.Completed seq 0 ∧ t.thermal.state = .coldReady ∧ t.sess.state = .loaded ∧ t.sess.endcause = 2#8 ∧ t.ctxs = [] := by
  subst hop
  have hlive : s.hasSession = true := by
    unfold State.hasSession
    rw [hsess]
    rfl
  have hstep : s.stop = (s.endSession 2).complete 0 [] := by
    unfold State.stop
    rw [State.serve_eq hrunning hturn, if_pos (Or.inl hrun), if_pos hlive]
  obtain ⟨hmbox, hstate, hloaded, hcause, hctxs⟩ := State.endSession_of_run hrun 2
  generalize s.endSession 2 = u at hstep hmbox hstate hloaded hcause hctxs
  have hurun : u.mbox.running = some (9, seq, args) := by rw [hmbox, hrunning]
  obtain ⟨hthermal', hsess', -, -, -, hctxs', -⟩ := State.sameModule_thermal_sess (State.sameModule_complete u 0 [])
  refine ⟨_, congrArg Host.Outcome.next hstep, (State.complete_completed hurun 0 []).1, ?_⟩
  rw [hthermal', hsess', hctxs']
  exact ⟨hstate, hloaded, hcause, hctxs⟩

theorem hold_clause (hop : op = 5) (hrun : s.thermal.state = .run) (hsess : s.sess.state = .running)
    (hids : s.gangs.Pairwise (fun g h => g.id ≠ h.id)) :
    ∃ t, exec .hold s = .next t ∧ t.thermal.state = .hold ∧ t.thermal.cmdhold = true ∧ t.sess.state = .suspended ∧
      t.thermal.refrate = 4#3 ∧ (∀ g ∈ t.gangs, g.captured = true) ∧ (∀ p, p < 8 → (t.port p).up = false) ∧
      (s.gangs = [] → t.Completed seq 0) ∧
      ((∃ g ∈ s.gangs, g.captured = false) → t.mbox.begun = true ∧ t.mbox.running = s.mbox.running) := by
  subst hop
  have hheld := State.held_toHold hrunning rfl hsess (List.pairwise_map.mpr hids)
  have henter : s.enterHold true = s.toHold true := by
    have hkeep : s.preemptCommand false = s := by
      unfold State.preemptCommand
      rw [hrunning]
      rfl
    unfold State.enterHold
    rw [hkeep, ite_self]
  have hstep : s.holdCommand = if (s.toHold true).sequenceRuns then
      { s.toHold true with mbox := { (s.toHold true).mbox with begun := true } } else (s.toHold true).completeState := by
    unfold State.holdCommand
    rw [State.serve_eq hrunning hturn, if_pos (Or.inl hrun), henter]
  generalize s.toHold true = u at hheld hstep
  obtain ⟨hstate, hcmd, hsuspended, hrate, ⟨hswitch, happly⟩, hgangs, hports, hmbox⟩ := hheld
  have hcaught : ∀ g ∈ u.gangs, g.captured = true := by
    intro g hg
    have hmem : g.caught ∈ (s.gangs.map Gang.caught).map (caughtBy ((s.gangs.filter fun g => !g.captured).map (·.id))) :=
      hgangs ▸ List.mem_map_of_mem hg
    obtain ⟨x, hx, hgx⟩ := List.mem_map.mp hmem
    obtain ⟨h, hh, rfl⟩ := List.mem_map.mp hx
    have hcaptured : g.captured = (caughtBy ((s.gangs.filter fun g => !g.captured).map (·.id)) h.caught).2.1 := congrArg (fun x => x.2.1) hgx.symm
    rw [hcaptured]
    cases hcap : h.captured with
    | true =>
      have hkeep : caughtBy ((s.gangs.filter fun g => !g.captured).map (·.id)) h.caught = h.caught :=
        if_neg fun hc => Bool.noConfusion (hcap.symm.trans hc.2)
      rw [hkeep]
      exact hcap
    | false =>
      have hin : h.id ∈ (s.gangs.filter fun g => !g.captured).map (·.id) :=
        List.mem_map.mpr ⟨h, List.mem_filter.mpr ⟨hh, by rw [hcap]; rfl⟩, rfl⟩
      have htake : caughtBy ((s.gangs.filter fun g => !g.captured).map (·.id)) h.caught = (h.id, true, true) := if_pos ⟨hin, hcap⟩
      rw [htake]
  have hsequence : u.sequenceRuns = u.gangs.any fun g => g.byHold && !g.written := by
    unfold State.sequenceRuns
    rw [hswitch, happly, hstate]
    rfl
  have hbegun : (∃ g ∈ s.gangs, g.captured = false) → u.sequenceRuns = true := by
    rintro ⟨h, hh, hcap⟩
    have hin : h.id ∈ (s.gangs.filter fun g => !g.captured).map (·.id) :=
      List.mem_map.mpr ⟨h, List.mem_filter.mpr ⟨hh, by rw [hcap]; rfl⟩, rfl⟩
    have htake : caughtBy ((s.gangs.filter fun g => !g.captured).map (·.id)) h.caught = (h.id, true, true) := if_pos ⟨hin, hcap⟩
    have hmem : (h.id, true, true) ∈ u.gangs.map Gang.caught := by
      rw [hgangs, ← htake]
      exact List.mem_map_of_mem (List.mem_map_of_mem hh)
    obtain ⟨g, hg, hgx⟩ := List.mem_map.mp hmem
    rw [hsequence]
    exact List.any_eq_true.mpr ⟨g, hg, congrArg (fun x => x.2.2) hgx⟩
  have hnone : s.gangs = [] → u.sequenceRuns = false := by
    intro hempty
    have hu : u.gangs = [] := by
      rw [hempty] at hgangs
      exact List.map_eq_nil_iff.mp hgangs
    rw [hsequence, hu]
    rfl
  have hurun : u.mbox.running = some (5, seq, args) := hmbox.trans hrunning
  refine ⟨_, congrArg Host.Outcome.next hstep, ?_⟩
  by_cases hseq : u.sequenceRuns = true
  · rw [if_pos hseq]
    exact ⟨hstate, hcmd, hsuspended, hrate, hcaught, hports, fun h => absurd hseq (by rw [hnone h]; exact Bool.false_ne_true), fun _ => ⟨rfl, hmbox⟩⟩
  · rw [if_neg hseq]
    have hsame := State.sameModule_complete u 0 [BitVec.ofNat 64 u.thermal.state.code]
    obtain ⟨hthermal', hsess', -, -, -, -, hgangs'⟩ := State.sameModule_thermal_sess hsame
    unfold State.completeState
    rw [hthermal', hsess', hgangs']
    refine ⟨hstate, hcmd, hsuspended, hrate, hcaught, fun p hp => ?_, fun _ => (State.complete_completed hurun 0 _).1, fun h => absurd (hbegun h) hseq⟩
    rw [State.up_complete]
    exact hports p hp

end command

/-- Settles O49: a command whose turn it is finds its arguments, has its effect and completes. -/
theorem firmwareCommands : Obligations.FirmwareCommands := by
  unfold Obligations.FirmwareCommands
  intro s op seq args a hrunning hturn ha
  obtain rfl : a = fun n => SMap.get 0#64 args n := funext ha
  refine ⟨fun hop => identify_clause hrunning hturn hop, fun hop halign => attest_clause hrunning hturn hop halign, fun hop hdown halign => ?_,
    fun hop hstate => ?_, fun hop hstate => ?_, fun hop hrun hsess hids => hold_clause hrunning hturn hop hrun hsess hids,
    fun hop hrun hsess => stop_clause hrunning hturn hop hrun hsess, fun hop => query_clause hrunning hturn hop,
    fun hop hsmall => setLattol_clause hrunning hturn hop hsmall,
    fun hop hready hsession hdie => resetDie_clause hrunning hturn hop hready hsession rfl hdie,
    fun hop hmin hmax halign first es hfirst hes => readLog_clause hrunning hturn hop hmin hmax halign hfirst hes,
    fun hop hmin hmax halign hdown => ?_, fun hwarmup => ⟨fun hop => ?_, fun hop => ?_, fun hop => ?_, fun hop => ?_⟩⟩
  · obtain ⟨t, hexec, h⟩ := attest_clause hrunning hturn hop halign
    rw [if_pos (State.dmaFails_of_down hdown)] at h
    exact ⟨t, hexec, h⟩
  · subst hop
    refine ⟨s.cool, rfl, thermalCommand_clause hrunning hturn ?_⟩
    rw [hstate]
  · subst hop
    refine ⟨s.warm, rfl, thermalCommand_clause hrunning hturn ?_⟩
    rw [hstate]
  · obtain ⟨t, hexec, h⟩ := readLog_clause hrunning hturn hop hmin hmax halign rfl rfl
    rw [if_pos (State.dmaFails_of_down hdown)] at h
    exact ⟨t, hexec, h⟩
  · subst hop
    refine ⟨s.cool, rfl, refused_clause hrunning hturn ?_⟩
    rw [hwarmup]
  · subst hop
    refine ⟨s.warm, rfl, refused_clause hrunning hturn ?_⟩
    rw [hwarmup]
  · subst hop
    refine ⟨s.holdCommand, rfl, refused_clause hrunning hturn (if_neg ?_)⟩
    rw [hwarmup]
    rintro (h | h) <;> cases h
  · subst hop
    refine ⟨s.stop, rfl, refused_clause hrunning hturn (if_neg ?_)⟩
    rw [hwarmup]
    rintro (h | h | h) <;> cases h

end Sys2Proof.Machine

/-! ## The staging area, images and sessions (R108 to R118) -/

namespace Sys2Proof.Machine

set_option Elab.async false

/-! ### Staging -/

theorem staging_fits {n : Nat} (h : n ≤ 2 ^ 32) : ¬ stagingSize < n := by
  unfold stagingSize
  omega

/-- Data written to the staging area is what die 0 reads there. -/
theorem staging_clause {s : State} {off : Nat} {data : List Byte} (hsize : off + data.length ≤ 2 ^ 32) (hidle : s.mbox.running = none) :
    ∃ t, exec (.stagingWrite off data) s = .next t ∧ t.readPhys 0 (0x01FF00000000 + off) data.length = data ∧ t.mbox = s.mbox := by
  obtain ⟨a, g, w, hwake⟩ := State.wakeUp_eq s
  obtain ⟨p, hpoison⟩ := State.unpoison_eq (s.wakeUp.writeGlobal 0 (stagingBase + off) data) [(.global (stagingBase + off), data.length)]
  have hstep : s.stage2 off data = { s.wakeUp.writeGlobal 0 (stagingBase + off) data with poison := p } := by
    unfold State.stage2
    rw [if_neg (staging_fits hsize), hidle]
    exact hpoison
  refine ⟨_, congrArg Host.Outcome.next hstep, ?_, ?_⟩
  · have hhost : isHost (0x01FF00000000 + off) = false := decide_eq_false (by unfold hostBase; omega)
    have hview : (({ s.wakeUp.writeGlobal 0 (stagingBase + off) data with poison := p } : State).die 0).view =
        Mem.write (s.wakeUp.die 0).view (stagingBase + off) data := by
      have hwrite : s.wakeUp.writeLoc 0 (.global (stagingBase + off)) data = s.wakeUp.writeGlobal 0 (stagingBase + off) data :=
        if_neg (by rw [show isHost (stagingBase + off) = false from hhost]; exact Bool.false_ne_true)
      rw [← State.view_writeLoc (by unfold stagingBase hostBase; omega), hwrite]
      rfl
    unfold State.readPhys
    rw [if_neg (by rw [hhost]; exact Bool.false_ne_true), hview]
    exact Mem.read_write data _ _
  · rw [hwake]
    rfl

theorem stagelost_clause {s : State} {off : Nat} {data : List Byte} (hsize : off + data.length ≤ 2 ^ 32) {op : Nat} {seq : BitVec 16} {args : SMap W64}
    (hrunning : s.mbox.running = some (op, seq, args)) (hop : op = 6 ∨ op = 7) :
    ∃ t, exec (.stagingWrite off data) s = .next t ∧ t.home = s.home ∧ t.mbox.stagelost = true := by
  have hstep : s.stage2 off data = { s with mbox := { s.mbox with stagelost := true } } := by
    unfold State.stage2
    rw [if_neg (staging_fits hsize), hrunning]
    obtain rfl | rfl := hop
    · rfl
    · rfl
  exact ⟨_, congrArg Host.Outcome.next hstep, rfl, rfl⟩

/-! ### Images -/

theorem State.foldl_mbox {β : Type} {step : State → β → State} (h : ∀ u b, (step u b).mbox = u.mbox) (l : List β) (s : State) :
    (l.foldl step s).mbox = s.mbox := by
  induction l generalizing s with
  | nil => rfl
  | cons b l ih => exact (ih _).trans (h s b)

theorem State.mbox_firmwareTurn (s : State) : s.firmwareTurn.mbox = s.mbox := by
  have hplace (u : State) (id : Nat) : (u.placeWrite id).mbox = u.mbox := by
    unfold State.placeWrite
    split
    · rfl
    · split <;> rfl
  have hdrain : s.drainWrites.mbox = s.mbox := by
    unfold State.drainWrites
    split
    · rfl
    · dsimp only
      refine (State.foldl_mbox ?_ [0, 1, 2, 3] _).trans (State.foldl_mbox hplace (s.writes.map (·.id)) s)
      exact fun _ _ => rfl
  unfold State.firmwareTurn
  dsimp only
  refine (State.foldl_mbox ?_ [0, 1, 2, 3] _).trans hdrain
  exact fun _ _ => rfl

theorem State.mbox_putChunk (s : State) (c : Chunk) : (s.putChunk c).mbox = s.mbox := by
  have hrange (u : State) (pa n : Nat) : (u.unpoisonRange pa n).mbox = u.mbox := rfl
  cases c with
  | put pa bs =>
    rw [State.putChunk, hrange, ← State.mbox_firmwareTurn s]
    unfold State.writeEverywhere
    dsimp only
    refine (State.foldl_mbox ?_ [0, 1, 2, 3] _).trans rfl
    exact fun _ _ => rfl
  | zero pa n =>
    rw [State.putChunk, hrange, ← State.mbox_firmwareTurn s]
    unfold State.zeroEverywhere
    dsimp only
    refine (State.foldl_mbox ?_ [0, 1, 2, 3] _).trans rfl
    exact fun _ _ => rfl

/-- A loaded image: the session registers say so, and the mailbox is as it was. -/
theorem State.loadImage_facts (s : State) (off len : Nat) : (s.loadImage off len).mbox = s.mbox ∧ (s.loadImage off len).sess.state = .loaded ∧
    (s.loadImage off len).sess.digest = BitVec.ofNat 512 (leNat (imgDigest (s.staged off len))) :=
  ⟨State.foldl_mbox State.mbox_putChunk _ s, rfl, rfl⟩

theorem get_digestWords (d : List Byte) {i : Nat} (hi : i < 8) : (digestWords d)[i]? = some (BitVec.ofNat 64 (leNat ((d.drop (8 * i)).take 8))) := by
  unfold digestWords
  rw [List.getElem?_map, List.getElem?_range hi]
  rfl

section command
variable {s : State} {seq : BitVec 16} {args : SMap W64} {off len : Nat} (hturn : s.commandWaits = false) (hoff : off = (SMap.get 0#64 args 0).toNat)
  (hlen : len = (SMap.get 0#64 args 1).toNat)
include hturn hoff hlen

theorem image_load_clause (hrunning : s.mbox.running = some (6, seq, args)) (hready : s.thermal.state = .coldReady) (hsession : s.hasSession = false) :
    (s.imageStatus off len = 0 →
      ∃ t, exec .loadImage s = .next t ∧ t.Completed seq 0 ∧ t.sess.state = .loaded ∧
        t.sess.digest = BitVec.ofNat 512 (leNat (imgDigest (s.staged off len))) ∧
        ∀ i, i < 8 → SMap.get 0#64 t.mbox.rets i = BitVec.ofNat 64 (leNat (((imgDigest (s.staged off len)).drop (8 * i)).take 8))) ∧
    (s.imageStatus off len ≠ 0 →
      ∃ t, exec .loadImage s = .next t ∧ t.Completed seq (s.imageStatus off len) ∧ t.sess = s.sess ∧ t.home = s.home) := by
  have hgo : ¬ (s.thermal.state ≠ .coldReady ∨ s.hasSession) := by
    rw [hready, hsession]
    rintro (h | h)
    · exact h rfl
    · cases h
  have hserve : s.loadCommand = (match s.imageStatus off len with
      | 0 => (s.loadImage off len).complete 0 (digestWords (imgDigest (s.staged off len)))
      | st => s.complete st []) := by
    unfold State.loadCommand
    rw [State.serve_eq hrunning hturn, if_neg hgo, hoff, hlen] <;> rfl
  refine ⟨fun hstatus => ?_, fun hstatus => ?_⟩
  · rw [hstatus] at hserve
    obtain ⟨hmbox, hstate, hdigest⟩ := State.loadImage_facts s off len
    generalize s.loadImage off len = u at hserve hmbox hstate hdigest
    have hurun : u.mbox.running = some (6, seq, args) := by rw [hmbox, hrunning]
    obtain ⟨-, hsess, -⟩ := State.sameModule_thermal_sess (State.sameModule_complete u 0 (digestWords (imgDigest (s.staged off len))))
    refine ⟨_, congrArg Host.Outcome.next hserve, (State.complete_completed hurun 0 _).1, ?_, ?_, fun i hi => State.complete_ret hurun 0 (get_digestWords _ hi)⟩
    · exact (congrArg Session.state hsess).trans hstate
    · exact (congrArg Session.digest hsess).trans hdigest
  · have hrefuse : s.loadCommand = s.complete (s.imageStatus off len) [] := by
      rw [hserve]
      split
      · next h => exact absurd h hstatus
      · rfl
    obtain ⟨-, hsess, -, hhome, -⟩ := State.sameModule_thermal_sess (State.sameModule_complete s (s.imageStatus off len) [])
    exact ⟨_, congrArg Host.Outcome.next hrefuse, (State.complete_completed hrunning _ []).1, hsess, hhome⟩

theorem image_verify_clause (hrunning : s.mbox.running = some (7, seq, args)) :
    ∃ t, exec .verifyImage s = .next t ∧ t.Completed seq (s.imageStatus off len) ∧ t.sess = s.sess ∧ t.home = s.home ∧
      (s.imageStatus off len = 0 →
        ∀ i, i < 8 → SMap.get 0#64 t.mbox.rets i = BitVec.ofNat 64 (leNat (((imgDigest (s.staged off len)).drop (8 * i)).take 8))) := by
  obtain ⟨rets, hserve, hrets⟩ : ∃ rets, s.verifyCommand = s.complete (s.imageStatus off len) rets ∧
      (s.imageStatus off len = 0 → rets = digestWords (imgDigest (s.staged off len))) := by
    unfold State.verifyCommand
    rw [State.serve_eq hrunning hturn]
    dsimp only
    rw [← hoff, ← hlen]
    split
    · next h =>
      rw [h]
      exact ⟨_, rfl, fun _ => rfl⟩
    · next hne => exact ⟨[], rfl, fun h => absurd h hne⟩
  obtain ⟨-, hsess, -, hhome, -⟩ := State.sameModule_thermal_sess (State.sameModule_complete s (s.imageStatus off len) rets)
  refine ⟨_, congrArg Host.Outcome.next hserve, (State.complete_completed hrunning _ rets).1, hsess, hhome, fun hstatus i hi => ?_⟩
  rw [hrets hstatus]
  exact State.complete_ret hrunning _ (get_digestWords _ hi)

end command

/-! ### Sessions -/

/-- A context as a session starts it (R118). -/
def Ctx.StartedBy (y : Ctx) (v : StartVec) : Prop :=
  y.pc = BitVec.ofNat 48 v.entry ∧ SMap.get 0#64 y.e 0 = BitVec.ofNat 64 v.arg ∧ y.sup = true ∧ y.run = .ready

/-- A start context changes its context, its core and the list of gangs. -/
theorem State.startVec_split (s : State) (v : StartVec) : ∃ (g : List Gang) (n : Nat) (k : SMap Core) (x : Ctx),
    s.startVec v = (({ s with gangs := g, nextGang := n, cores := k } : State).setCtx (4 * v.core) (some x)).insertReady (4 * v.core) ∧
      ({ x with run := .ready } : Ctx).StartedBy v :=
  ⟨_, _, _, _, rfl, rfl, SMap.get_set_self _ _ _ _, rfl, rfl⟩

theorem State.startVec_eq (s : State) (v : StartVec) :
    ∃ g n k c a, s.startVec v = { s with gangs := g, nextGang := n, cores := k, ctxs := c, nextAge := a } := by
  obtain ⟨g, n, k, x, h, -⟩ := State.startVec_split s v
  obtain ⟨cs, a, hready⟩ := State.insertReady_eq (({ s with gangs := g, nextGang := n, cores := k } : State).setCtx (4 * v.core) (some x)) (4 * v.core)
  exact ⟨g, n, k, cs, a, h.trans hready⟩

theorem State.ctx_startVec_ne (s : State) (v : StartVec) {c : Nat} (h : c ≠ 4 * v.core) : (s.startVec v).ctx c = s.ctx c := by
  obtain ⟨g, n, k, x, heq, -⟩ := State.startVec_split s v
  rw [heq]
  exact (State.ctx_modCtx_ne _ _ _ _ h).trans (State.ctx_setCtx_ne _ _ _ _ h)

theorem State.ctx_startVec_self (s : State) (v : StartVec) : ∃ y, (s.startVec v).ctx (4 * v.core) = some y ∧ y.StartedBy v := by
  obtain ⟨g, n, k, x, heq, hstarted⟩ := State.startVec_split s v
  rw [heq, State.insertReady]
  refine ⟨{ x with run := .ready, age := s.nextAge }, ?_, hstarted⟩
  show (State.modCtx _ (4 * v.core) fun x => { x with run := .ready, age := s.nextAge }).ctx (4 * v.core) = _
  rw [State.ctx_modCtx_self, State.ctx_setCtx_self]
  rfl

theorem State.startVecs_ctx_ne (vs : List StartVec) (s : State) {c : Nat} (h : ∀ v ∈ vs, c ≠ 4 * v.core) : (vs.foldl State.startVec s).ctx c = s.ctx c := by
  induction vs generalizing s with
  | nil => rfl
  | cons v vs ih =>
    exact (ih _ fun u hu => h u (List.mem_cons_of_mem v hu)).trans (State.ctx_startVec_ne s v (h v List.mem_cons_self))

/-- Each start context of a table whose cores differ stands as its entry says. -/
theorem State.startVecs_ctx (vs : List StartVec) (s : State) (hcores : coresDiffer vs = true) :
    ∀ v ∈ vs, ∃ y, (vs.foldl State.startVec s).ctx (4 * v.core) = some y ∧ y.StartedBy v := by
  induction vs generalizing s with
  | nil => exact fun v hv => absurd hv List.not_mem_nil
  | cons u vs ih =>
    obtain ⟨hfirst, hrest⟩ := (Bool.and_eq_true _ _).mp hcores
    intro v hv
    obtain rfl | hv := List.mem_cons.mp hv
    · obtain ⟨y, hy, hstarted⟩ := State.ctx_startVec_self s v
      refine ⟨y, (State.startVecs_ctx_ne vs (s.startVec v) fun w hw => ?_).trans hy, hstarted⟩
      have hne : w.core ≠ v.core := bne_iff_ne.mp (List.all_eq_true.mp hfirst w hw)
      omega
    · exact ih (s.startVec u) hrest v hv

theorem State.startVecs_desk (vs : List StartVec) (s : State) : (vs.foldl State.startVec s).mbox = s.mbox ∧ (vs.foldl State.startVec s).sess = s.sess ∧
    (vs.foldl State.startVec s).thermal = s.thermal := by
  induction vs generalizing s with
  | nil => exact ⟨rfl, rfl, rfl⟩
  | cons v vs ih =>
    obtain ⟨g, n, k, c, a, h⟩ := State.startVec_eq s v
    obtain ⟨hmbox, hsess, hthermal⟩ := ih (s.startVec v)
    rw [List.foldl_cons, hmbox, hsess, hthermal, h]
    exact ⟨rfl, rfl, rfl⟩

/-- What a started session shows (R118). -/
structure State.Started (s t : State) (vs : List StartVec) : Prop where
  state : t.sess.state = .running
  num : t.sess.num = s.sess.num + 1
  startstat : t.sess.startstat = 0#8
  thermal : t.thermal.state = if s.thermal.band = .retreat then .retreat else .run
  others : ∀ c, (∀ v ∈ vs, c ≠ 4 * v.core) → t.ctx c = s.ctx c
  own : ∀ v ∈ vs, ∃ y, t.ctx (4 * v.core) = some y ∧ y.StartedBy v

/-- The contexts start once the registers of the session have their values. -/
theorem State.startAll {s w : State} {vs : List StartVec} (hcores : coresDiffer vs = true) {band : Band} (hband : band = s.thermal.band)
    (hsess : w.sess = { s.sess with state := .running, num := s.sess.num + 1, startstat := 0#8 }) (hmbox : w.mbox = s.mbox) (hctxs : w.ctxs = s.ctxs) :
    s.Started (vs.foldl State.startVec ((w.setTherm (if band = .retreat then .retreat else .run)).msix 2)) vs ∧
      (vs.foldl State.startVec ((w.setTherm (if band = .retreat then .retreat else .run)).msix 2)).mbox = s.mbox := by
  obtain ⟨e, o, p, htherm⟩ := setTherm_eq w (if band = .retreat then .retreat else .run)
  obtain ⟨hthermal', hsess', -, -, -, hctxs', -⟩ := State.sameModule_thermal_sess
    (State.sameModule_msix (w.setTherm (if band = .retreat then .retreat else .run)) 2)
  have hmbox' := State.mbox_msix (w.setTherm (if band = .retreat then .retreat else .run)) 2
  generalize (w.setTherm (if band = .retreat then .retreat else .run)).msix 2 = u at hthermal' hsess' hctxs' hmbox' ⊢
  rw [htherm] at hthermal' hsess' hctxs' hmbox'
  obtain ⟨hvmbox, hvsess, hvthermal⟩ := State.startVecs_desk vs u
  refine ⟨⟨?_, ?_, ?_, ?_, fun c hc => ?_, State.startVecs_ctx vs u hcores⟩, hvmbox.trans (hmbox'.trans hmbox)⟩
  · rw [hvsess, hsess', hsess]
  · rw [hvsess, hsess', hsess]
  · rw [hvsess, hsess', hsess]
  · rw [hvthermal, hthermal', hband]
  · rw [State.startVecs_ctx_ne vs u hc, State.ctx, hctxs', State.ctx]
    exact congrArg (fun m => SMap.get none m c) hctxs

theorem State.beginSession_started (s : State) {vs : List StartVec} (hcores : coresDiffer vs = true) :
    s.Started (s.beginSession vs) vs ∧ (s.beginSession vs).mbox = s.mbox := by
  unfold State.beginSession
  dsimp only
  exact State.startAll hcores rfl rfl rfl rfl

/-! ### START -/

/-- The cores of a table that passes the checks differ. -/
theorem State.coresDiffer_of_startChecks {s : State} {svt : Nat} {vs : List StartVec} (h : s.startChecks svt = (0, vs)) : coresDiffer vs = true := by
  unfold State.startChecks at h
  split at h
  · cases h
  · split at h
    · cases h
    · split at h
      · cases h
      · split at h
        · cases h
        · dsimp only at h
          split at h
          · cases h
          · split at h
            · cases h
            · split at h
              · cases h
              · next hgood =>
                split at h
                · cases h
                · obtain ⟨-, rfl⟩ := Prod.mk.inj h
                  obtain ⟨-, hdiffer⟩ := not_or.mp fun h => hgood ((Bool.or_eq_true _ _).mpr h)
                  rw [Bool.not_eq_true, Bool.not_eq_false'] at hdiffer
                  exact hdiffer

theorem State.start_eq {s : State} {svt : Nat} {vs : List StartVec} (h : s.startChecks svt = (0, vs)) : s.start svt = (0, s.beginSession vs) := by
  unfold State.start
  rw [h]
  rfl

/-- The checks of a start look at neither the activity state nor the mailbox. -/
theorem State.startChecks_awake (s : State) (a : BitVec 2) (g : BitVec 9) (w : Option Nat) (m : Mailbox) (svt : Nat) :
    ({ s with act := a, gated := g, wokeAt := w, mbox := m } : State).startChecks svt = s.startChecks svt := rfl

theorem state_of_startChecks {s : State} {svt : Nat} {vs : List StartVec} (h : s.startChecks svt = (0, vs)) : s.thermal.state = .coldReady := by
  unfold State.startChecks at h
  split at h
  · cases h
  · next hready => exact Decidable.not_not.mp (not_or.mp hready).1

/-- What a started session shows does not depend on the rest of the state. -/
theorem State.Started.congr {s s' t t' : State} {vs : List StartVec} (h : s.Started t vs) (hsess : s'.sess = s.sess) (hthermal : s'.thermal = s.thermal)
    (hctxs : s'.ctxs = s.ctxs) (htsess : t'.sess = t.sess) (htthermal : t'.thermal = t.thermal) (htctxs : t'.ctxs = t.ctxs) : s'.Started t' vs := by
  obtain ⟨hstate, hnum, hstart, hband, hothers, hown⟩ := h
  have hctx (c : Nat) : t'.ctx c = t.ctx c := congrArg (fun m => SMap.get none m c) htctxs
  refine ⟨?_, ?_, ?_, ?_, fun c hc => ?_, fun v hv => ?_⟩
  · rw [htsess, hstate]
  · rw [htsess, hnum, hsess]
  · rw [htsess, hstart]
  · rw [htthermal, hband, hthermal]
  · rw [hctx, hothers c hc, State.ctx, State.ctx, hctxs]
  · rw [hctx]
    exact hown v hv

/-- The start of a session from the register, by a write whose turn it is. -/
theorem startRegister_started {s : State} {svt : W64} {vs : List StartVec} (hchecks : s.startChecks svt.toNat = (0, vs))
    (hturn : 0 < s.mbox.granted ∨ s.mbox.busy = false ∧ s.sequenceRuns = false ∧ s.triggerDue = false ∧ s.mbox.starts = []) :
    s.Started (s.startRegister 8 svt) vs := by
  have hstate := state_of_startChecks hchecks
  obtain ⟨a, g, w, hwake⟩ := State.wakeUp_eq s
  have hstart (m : Mailbox) : ∃ t, (({ s with act := a, gated := g, wokeAt := w, mbox := m } : State).start svt.toNat).2 = t ∧ s.Started t vs := by
    generalize hu : ({ s with act := a, gated := g, wokeAt := w, mbox := m } : State) = u
    have huchecks : u.startChecks svt.toNat = (0, vs) := by rw [← hu, State.startChecks_awake, hchecks]
    refine ⟨u.beginSession vs, congrArg Prod.snd (State.start_eq huchecks), ?_⟩
    refine (State.beginSession_started u (State.coresDiffer_of_startChecks hchecks)).1.congr ?_ ?_ ?_ rfl rfl rfl
    · rw [← hu]
    · rw [← hu]
    · rw [← hu]
  unfold State.startRegister
  rw [if_neg (by rw [hstate]; exact TState.noConfusion), if_neg (by decide), hwake]
  dsimp only
  by_cases hgranted : 0 < s.mbox.granted
  · obtain ⟨t, ht, hstarted⟩ := hstart { s.mbox with granted := s.mbox.granted - 1 }
    rw [if_pos hgranted, ht]
    obtain ⟨hthermal, hsess, -, -, -, hctxs, -⟩ := State.sameModule_thermal_sess (State.sameModule_serveUnknown t)
    exact hstarted.congr rfl rfl rfl hsess hthermal hctxs
  · obtain ⟨hbusy, hsequence, htrigger, hstarts⟩ := hturn.resolve_left hgranted
    have hfree : (({ s with act := a, gated := g, wokeAt := w } : State).sequenceRuns || s.mbox.busy ||
        ({ s with act := a, gated := g, wokeAt := w } : State).triggerDue || !s.mbox.starts.isEmpty) = false := by
      rw [hbusy, hstarts, show ({ s with act := a, gated := g, wokeAt := w } : State).sequenceRuns = false from hsequence,
        show ({ s with act := a, gated := g, wokeAt := w } : State).triggerDue = false from htrigger]
      rfl
    obtain ⟨t, ht, hstarted⟩ := hstart s.mbox
    rw [if_neg hgranted, if_neg (by rw [hfree]; exact Bool.false_ne_true), ht]
    exact hstarted

/-- The start of a session by the command whose turn it is. -/
theorem startCommand_started {s : State} {svt : W64} {vs : List StartVec} {seq : BitVec 16} {args : SMap W64}
    (hchecks : s.startChecks svt.toNat = (0, vs)) (hturn : s.commandWaits = false) (hrunning : s.mbox.running = some (8, seq, args))
    (harg : SMap.get 0#64 args 0 = svt) :
    s.Started s.startCommand vs ∧ s.startCommand.Completed seq 0 ∧ SMap.get 0#64 s.startCommand.mbox.rets 0 = s.startCommand.sess.num := by
  obtain ⟨hstarted, hmbox⟩ := State.beginSession_started s (State.coresDiffer_of_startChecks hchecks)
  have hstep : s.startCommand = (s.beginSession vs).complete 0 [(s.beginSession vs).sess.num] := by
    unfold State.startCommand
    rw [State.serve_eq hrunning hturn]
    dsimp only
    rw [harg, State.start_eq hchecks]
    rfl
  generalize s.beginSession vs = u at hstarted hmbox hstep
  have hurun : u.mbox.running = some (8, seq, args) := by rw [hmbox, hrunning]
  obtain ⟨hthermal, hsess, -, -, -, hctxs, -⟩ := State.sameModule_thermal_sess (State.sameModule_complete u 0 [u.sess.num])
  rw [hstep]
  refine ⟨hstarted.congr rfl rfl rfl hsess hthermal hctxs, (State.complete_completed hurun 0 _).1, ?_⟩
  rw [hsess]
  exact State.complete_ret hurun 0 rfl

/-- A write of START of another size shows BADARG. -/
theorem startRegister_narrow {s : State} {svt : W64} {size : Nat} (hpower : s.thermal.state ≠ .off) (hsize : size ≠ 8) :
    s.startRegister size svt = { s with sess := { s.sess with startstat := 2#8 } } := by
  unfold State.startRegister
  rw [if_neg hpower, if_pos hsize]

/-- A write of START behind a command waits for its end. -/
theorem startRegister_waits {s : State} {svt : W64} (hpower : s.thermal.state ≠ .off) (hbusy : s.mbox.busy = true) (hgranted : s.mbox.granted = 0) :
    (s.startRegister 8 svt).mbox = { s.mbox with starts := s.mbox.starts ++ [(svt, s.triggerDue)] } ∧ (s.startRegister 8 svt).sess = s.sess := by
  obtain ⟨a, g, w, hwake⟩ := State.wakeUp_eq s
  unfold State.startRegister
  rw [if_neg hpower, if_neg (by decide), hwake]
  dsimp only
  rw [if_neg (by rw [hgranted]; exact Nat.lt_irrefl 0), if_pos (by rw [hbusy, Bool.or_true, Bool.true_or, Bool.true_or])]
  exact ⟨rfl, rfl⟩

/-- Settles O50: the staging area, the two image commands, and the start by command or by register. -/
theorem imagesAndSessions : Obligations.ImagesAndSessions := by
  unfold Obligations.ImagesAndSessions
  intro s
  refine ⟨fun off data hsize => ⟨fun hidle => staging_clause hsize hidle, fun op seq args hrunning hop => stagelost_clause hsize hrunning hop⟩,
    fun op seq args off len hrunning hturn hoff hlen => ⟨fun hop hready hsession => ?_, fun hop => ?_⟩, fun svt vs hchecks i hi => ?_,
    fun svt hpower => ⟨fun size hsize => ?_, fun hbusy hgranted => ?_⟩⟩
  · subst hop
    exact image_load_clause hturn hoff hlen hrunning hready hsession
  · subst hop
    exact image_verify_clause hturn hoff hlen hrunning
  · obtain ⟨rfl, hturn⟩ | ⟨rfl, hturn, seq, args, hrunning, harg⟩ := hi
    · obtain ⟨h1, h2, h3, h4, h5, h6⟩ := startRegister_started hchecks hturn
      exact ⟨_, rfl, h1, h2, h3, h4, h5, h6, fun _ _ h => nomatch h⟩
    · obtain ⟨⟨h1, h2, h3, h4, h5, h6⟩, hcompleted, hret⟩ := startCommand_started hchecks hturn hrunning harg
      refine ⟨_, rfl, h1, h2, h3, h4, h5, h6, fun seq' args' _ hrunning' => ?_⟩
      obtain ⟨-, heq⟩ := Prod.mk.inj (Option.some.inj (hrunning.symm.trans hrunning'))
      obtain ⟨rfl, -⟩ := Prod.mk.inj heq
      exact ⟨hcompleted, hret⟩
  · exact ⟨_, congrArg Host.Outcome.next (startRegister_narrow hpower hsize), rfl⟩
  · exact ⟨_, rfl, startRegister_waits hpower hbusy hgranted⟩

end Sys2Proof.Machine

/-! ## Writes of registers (R24, R28, R82, R92, R103 to R105, R130 to R132, R199, R243, R284 to R286) -/

namespace Sys2Proof.Machine

set_option Elab.async false

/-! ### Fields of what is written -/

theorem bits_truncate (v : W64) {hi lo : Nat} (h : hi < 32) (hle : lo ≤ hi) : bits (v.truncate 32) hi lo = bits v hi lo := by
  unfold bits
  rw [BitVec.toNat_setWidth, Nat.shiftRight_eq_div_pow, Nat.shiftRight_eq_div_pow]
  have hsplit : 2 ^ 32 = 2 ^ lo * 2 ^ (32 - lo) := by rw [← Nat.pow_add]; congr 1; omega
  rw [hsplit, Nat.mod_mul_right_div_self, Nat.mod_mod_of_dvd _ (Nat.pow_dvd_pow 2 (by omega))]

theorem extract_truncate (v : W64) : (v.truncate 32).extractLsb' 16 16 = v.extractLsb' 16 16 := by
  ext i hi
  simp [BitVec.getElem_extractLsb']
  omega

theorem getLsbD_low (i : Nat) : (0xFFFFFFFF#64).getLsbD i = decide (i < 32) := by
  have h : (0xFFFFFFFF#64) = (BitVec.allOnes 32).setWidth 64 := by decide
  rw [h, BitVec.getLsbD_setWidth, BitVec.getLsbD_allOnes]
  by_cases hi : i < 32
  · rw [decide_eq_true hi, decide_eq_true (by omega)]
    rfl
  · rw [decide_eq_false hi, Bool.and_false]

/-- The two halves of an argument make the whole. -/
theorem mergeWrite_halves (o v : W64) {off : Nat} (halign : off % 8 = 0) :
    mergeWrite (mergeWrite o off 4 ((v.truncate 32).zeroExtend 64)) (off + 4) 4 ((v.extractLsb' 32 32).zeroExtend 64) = v := by
  have hmask (x y : W64) : (x &&& 0xFFFFFFFF00000000#64 ||| y &&& 0xFFFFFFFF#64) &&& 0xFFFFFFFF#64 = y &&& 0xFFFFFFFF#64 := by
    rw [BitVec.and_or_distrib_right, BitVec.and_assoc, BitVec.and_assoc, show 0xFFFFFFFF00000000#64 &&& 0xFFFFFFFF#64 = 0#64 by decide, BitVec.and_zero,
      BitVec.zero_or, BitVec.and_self]
  unfold mergeWrite
  rw [if_neg (by decide), if_neg (by omega), if_neg (by decide), if_pos halign, hmask]
  refine BitVec.eq_of_getLsbD_eq fun i hi => ?_
  simp only [BitVec.getLsbD_or, BitVec.getLsbD_and, BitVec.getLsbD_shiftLeft, BitVec.getLsbD_setWidth, BitVec.getLsbD_extractLsb', getLsbD_low]
  by_cases hlow : i < 32
  · simp [hlow, hi]
  · have hback : 32 + (i - 32) = i := by omega
    have hin : i - 32 < 32 := by omega
    simp [hlow, hback, hin, hi]
    omega

/-! ### BAR0 -/

theorem State.bar0Put_arg (s : State) {off : Nat} (h : 0x40 ≤ off ∧ off < 0x80) (v : W32) :
    s.bar0Put off v =
      { s with mbox := { s.mbox with args := SMap.modify 0#64 s.mbox.args ((off - 0x40) / 8) fun o => mergeWrite o off 4 (v.zeroExtend 64) } } :=
  if_pos h

theorem State.bar0Put_other (s : State) {off : Nat} (hargs : off < 0x40 ∨ 0x80 ≤ off) (hcmd : off ≠ 0) (hevt : off ≠ 0x210) (htb : off ≠ 0x400) (v : W32) :
    s.bar0Put off v = s := by
  unfold State.bar0Put
  rw [if_neg (by omega)]
  split
  · exact absurd rfl hcmd
  · exact absurd rfl hevt
  · exact absurd rfl htb
  · rfl

section bar0
variable {s : State} (hon : s.thermal.state ≠ .off)
include hon

theorem bar0_write_four {off : Nat} (halign : off % 4 = 0) (v : W64) :
    exec (.registerWrite (.bar0 off) 4 v) s = .next (s.bar0Put off (v.truncate 32)) := by
  show Host.Outcome.next (if s.thermal.state = .off then s else s.bar0Write off 4 v) = _
  rw [if_neg hon, State.bar0Write, if_neg (by omega)]
  rfl

theorem bar0_write_eight {off : Nat} (halign : off % 8 = 0) (v : W64) :
    exec (.registerWrite (.bar0 off) 8 v) s = .next ((s.bar0Put off (v.truncate 32)).bar0Put (off + 4) (v.extractLsb' 32 32)) := by
  show Host.Outcome.next (if s.thermal.state = .off then s else s.bar0Write off 8 v) = _
  rw [if_neg hon, State.bar0Write, if_neg (by omega)]
  rfl

theorem bar0_arg_clause {n : Nat} (hn : n < 8) (v : W64) :
    ∃ t, exec (.registerWrite (.bar0 (0x40 + 8 * n)) 8 v) s = .next t ∧ SMap.get 0#64 t.mbox.args n = v ∧ t.home = s.home := by
  refine ⟨_, bar0_write_eight hon (by omega) v, ?_⟩
  rw [State.bar0Put_arg s (by omega), State.bar0Put_arg _ (by omega), show (0x40 + 8 * n - 0x40) / 8 = n by omega,
    show (0x40 + 8 * n + 4 - 0x40) / 8 = n by omega]
  refine ⟨?_, rfl⟩
  dsimp only
  rw [SMap.get_modify_self, SMap.get_modify_self]
  exact mergeWrite_halves _ v (by omega)

omit hon in
/-- A write of MBCMD with no command running, and one that is not the SEQ just completed, takes the command up. -/
theorem State.submit_idle {v : W32} (hidle : s.mbox.busy = false) (hseq : s.mbox.any = false ∨ v.extractLsb' 16 16 ≠ s.mbox.seq) :
    ∃ a g w, s.submit v = State.serveUnknown { s with
      act := a, gated := g, wokeAt := w
      mbox := { s.mbox with
        busy := true, overrun := false, stagelost := false, running := some (bits v 7 0, v.extractLsb' 16 16, s.mbox.args)
        behind := s.triggerDue, begun := false, ahead := s.mbox.starts.length } } := by
  obtain ⟨a, g, w, hwake⟩ := State.wakeUp_eq s
  refine ⟨a, g, w, ?_⟩
  unfold State.submit
  dsimp only
  rw [hwake]
  dsimp only
  rw [if_neg (by rw [hidle]; exact Bool.false_ne_true), if_neg]
  · rfl
  · rw [Bool.and_eq_true, beq_iff_eq]
    rintro ⟨hany, heq⟩
    obtain h | h := hseq
    · rw [h] at hany
      cases hany
    · exact h heq

theorem bar0_command_clause {v : W64} (hidle : s.mbox.busy = false) (hseq : s.mbox.any = false ∨ v.extractLsb' 16 16 ≠ s.mbox.seq)
    (hmin : 1 ≤ bits v 7 0) (hmax : bits v 7 0 ≤ 13) :
    ∃ t, exec (.registerWrite (.bar0 0) 4 v) s = .next t ∧ t.mbox.running = some (bits v 7 0, v.extractLsb' 16 16, s.mbox.args) ∧
      t.mbox.busy = true ∧ t.mbox.stagelost = false := by
  obtain ⟨a, g, w, hsubmit⟩ := State.submit_idle (v := v.truncate 32) hidle (by rw [extract_truncate]; exact hseq)
  rw [bits_truncate v (by decide) (by decide), extract_truncate] at hsubmit
  have hcode : commandCode (bits v 7 0) = true := by
    rw [commandCode, decide_eq_true hmin, decide_eq_true hmax]
    rfl
  unfold State.serveUnknown at hsubmit
  dsimp only at hsubmit
  rw [hcode, Bool.true_or, if_pos rfl] at hsubmit
  refine ⟨_, (bar0_write_four hon rfl v).trans (congrArg Host.Outcome.next hsubmit), rfl, rfl, rfl⟩

theorem bar0_unknown_clause {v : W64} (hidle : s.mbox.busy = false) (hseq : s.mbox.any = false ∨ v.extractLsb' 16 16 ≠ s.mbox.seq)
    (hop : bits v 7 0 = 0 ∨ 13 < bits v 7 0) (hnosequence : s.sequenceRuns = false) (hstarts : s.mbox.starts = []) (hgranted : s.mbox.granted = 0)
    (hnotrigger : s.triggerDue = false) :
    ∃ t, exec (.registerWrite (.bar0 0) 4 v) s = .next t ∧ t.Completed (v.extractLsb' 16 16) 1 := by
  obtain ⟨a, g, w, hsubmit⟩ := State.submit_idle (v := v.truncate 32) hidle (by rw [extract_truncate]; exact hseq)
  rw [bits_truncate v (by decide) (by decide), extract_truncate] at hsubmit
  generalize hu : ({ s with act := a, gated := g, wokeAt := w, mbox := _ } : State) = u at hsubmit
  have hrunning : u.mbox.running = some (bits v 7 0, v.extractLsb' 16 16, s.mbox.args) := by rw [← hu]
  have hturn : u.commandWaits = false := by
    have hsequence : u.sequenceRuns = false := by
      rw [← hu]
      exact hnosequence
    unfold State.commandWaits
    rw [hsequence, ← hu]
    dsimp only
    rw [hstarts, hgranted, hnotrigger]
    rfl
  have hcode : commandCode (bits v 7 0) = false := by
    unfold commandCode
    simp
    omega
  have hserve : u.serveUnknown = u.complete 1 [] := by
    unfold State.serveUnknown
    rw [hrunning]
    dsimp only
    rw [hcode, hturn]
    rfl
  exact ⟨_, (bar0_write_four hon rfl v).trans (congrArg Host.Outcome.next (hsubmit.trans hserve)), (State.complete_completed hrunning 1 []).1⟩

theorem bar0_busy_clause (hbusy : s.mbox.busy = true) (v : W64) :
    ∃ t, exec (.registerWrite (.bar0 0) 4 v) s = .next t ∧ t.mbox = { s.mbox with overrun := true } := by
  obtain ⟨a, g, w, hwake⟩ := State.wakeUp_eq s
  have hsubmit : s.submit (v.truncate 32) = { s with act := a, gated := g, wokeAt := w, mbox := { s.mbox with overrun := true } } := by
    unfold State.submit
    dsimp only
    rw [hwake]
    exact if_pos hbusy
  exact ⟨_, (bar0_write_four hon rfl v).trans (congrArg Host.Outcome.next hsubmit), rfl⟩

theorem bar0_tbctl_clause {v : W64} (hrole : bits v 1 0 < 3) (hup : bits v 6 4 < 6) :
    ∃ t, exec (.registerWrite (.bar0 0x400) 4 v) s = .next t ∧ t.tbctl.role.toNat = bits v 1 0 ∧ t.tbctl.upport.toNat = bits v 6 4 ∧
      t.tbctl.locked = s.tbctl.locked := by
  refine ⟨s.writeTbctl (v.truncate 32), bar0_write_four hon rfl v, ?_, ?_, rfl⟩
  · unfold State.writeTbctl
    dsimp only
    rw [bits_truncate v (by decide) (by decide), if_neg (by omega), BitVec.toNat_ofNat, Nat.mod_eq_of_lt (by omega)]
  · unfold State.writeTbctl
    dsimp only
    rw [bits_truncate v (by decide) (by decide), if_pos hup, BitVec.toNat_ofNat, Nat.mod_eq_of_lt (by omega)]

theorem bar0_other_clause {n : Nat} (halign : n % 4 = 0) (hcmd : n ≠ 0) (hevt : n ≠ 0x210) (htb : n ≠ 0x400) (hargs : n < 0x40 ∨ 0x80 ≤ n) (v : W64) :
    exec (.registerWrite (.bar0 n) 4 v) s = .next s := by
  rw [bar0_write_four hon halign, State.bar0Put_other s hargs hcmd hevt htb]

end bar0

theorem badSize_clause {s : State} {r : RegAddr} {size n : Nat} (v : W64) (hr : r = .bar0 n ∨ r = .mmio n) (hbad : size ≠ 4 ∧ size ≠ 8 ∨ n % size ≠ 0) :
    exec (.registerWrite r size v) s = .next s := by
  obtain rfl | rfl := hr
  · show Host.Outcome.next (if s.thermal.state = .off then s else s.bar0Write n size v) = _
    rw [State.bar0Write, if_pos hbad, ite_self]
  · show Host.Outcome.next (s.mmioWrite n size v) = _
    unfold State.mmioWrite
    dsimp only
    rw [if_pos hbad]

theorem thevt_clause (s : State) (v : W32) : ∃ t, exec (.thevtWrite v) s = .next t ∧
    exec (.registerWrite (.mmio 0x200210) 4 (v.zeroExtend 64)) s = .next t ∧ t.thermal = { s.thermal with evt := s.thermal.evt &&& ~~~(v.truncate 8) } := by
  refine ⟨s.clearEvt v, rfl, ?_, rfl⟩
  have hlow : (v.zeroExtend 64).truncate 32 = v := by
    apply BitVec.eq_of_toNat_eq
    simp
  show Host.Outcome.next (s.clearEvt ((v.zeroExtend 64).truncate 32)) = _
  rw [hlow]

/-! ### Space 0xF -/

/-- A stage's 8-byte register. -/
theorem mmio_stage (s : State) {d n r : Nat} (hd : d < 4) (hn : n < 8) (hr : r < 0x800) (halign : r % 8 = 0) (v : W64) :
    exec (.registerWrite (.mmio (0x500000 + 0x10000 * d + 0x800 * n + r)) 8 v) s = .next (s.writeStage d n r 8 v) := by
  show Host.Outcome.next (s.mmioWrite (0x500000 + 0x10000 * d + 0x800 * n + r) 8 v) = _
  have hregion : (0x500000 + 0x10000 * d + 0x800 * n + r) / 0x100000 = 5 := by omega
  unfold State.mmioWrite
  dsimp only
  rw [if_neg (by omega), hregion]
  refine congrArg Host.Outcome.next ((if_pos (by omega)).trans ?_)
  rw [show (0x500000 + 0x10000 * d + 0x800 * n + r) % 0x100000 / 0x10000 = d by omega,
    show (0x500000 + 0x10000 * d + 0x800 * n + r) % 0x100000 % 0x10000 / 0x800 = n by omega,
    show (0x500000 + 0x10000 * d + 0x800 * n + r) % 0x100000 % 0x800 = r by omega]

theorem mmio_chan (s : State) {n r : Nat} (hn : n < 1536) (hr : r < 32) (halign : r % 8 = 0) (v : W64) :
    exec (.registerWrite (.mmio (0x400000 + 32 * n + r)) 8 v) s = .next (s.writeChan n r 8 v) := by
  show Host.Outcome.next (s.mmioWrite (0x400000 + 32 * n + r) 8 v) = _
  have hregion : (0x400000 + 32 * n + r) / 0x100000 = 4 := by omega
  unfold State.mmioWrite
  dsimp only
  rw [if_neg (by omega), hregion]
  refine congrArg Host.Outcome.next ((if_pos (by omega)).trans ?_)
  rw [show (0x400000 + 32 * n + r) % 0x100000 / 32 = n by omega, show (0x400000 + 32 * n + r) % 0x100000 % 32 = r by omega]

theorem mmio_eddy (s : State) {d r : Nat} (hd : d < 4) (hr : r < 0x1000) (halign : r % 8 = 0) (v : W64) :
    exec (.registerWrite (.mmio (0x600000 + 0x1000 * d + r)) 8 v) s = .next (s.writeEddy d r 8 v) := by
  show Host.Outcome.next (s.mmioWrite (0x600000 + 0x1000 * d + r) 8 v) = _
  have hregion : (0x600000 + 0x1000 * d + r) / 0x100000 = 6 := by omega
  unfold State.mmioWrite
  dsimp only
  rw [if_neg (by omega), hregion]
  refine congrArg Host.Outcome.next ((if_pos (by omega)).trans ?_)
  rw [show (0x600000 + 0x1000 * d + r) % 0x100000 / 0x1000 = d by omega,
    show (0x600000 + 0x1000 * d + r) % 0x100000 % 0x1000 = r by omega]

theorem mmio_fq (s : State) {d r : Nat} (hd : d < 4) (hr : r < 0x1000) (halign : r % 8 = 0) (v : W64) :
    exec (.registerWrite (.mmio (0x700000 + 0x1000 * d + r)) 8 v) s = .next (s.writeFq d r 8 v) := by
  show Host.Outcome.next (s.mmioWrite (0x700000 + 0x1000 * d + r) 8 v) = _
  have hregion : (0x700000 + 0x1000 * d + r) / 0x100000 = 7 := by omega
  unfold State.mmioWrite
  dsimp only
  rw [if_neg (by omega), hregion]
  refine congrArg Host.Outcome.next ((if_pos (by omega)).trans ?_)
  rw [show (0x700000 + 0x1000 * d + r) % 0x100000 / 0x1000 = d by omega,
    show (0x700000 + 0x1000 * d + r) % 0x100000 % 0x1000 = r by omega]

/-! ### Stages, channel ends and Eddies -/

theorem mmio_stage_ctl_clause (s : State) {d n : Nat} (hd : d < 4) (hn : n < 8) (v : W64) :
    (bit v 0 = true → exec (.registerWrite (.mmio (0x500000 + 0x10000 * d + 0x800 * n)) 8 v) s = exec (.stageEnable d n (bit v 1)) s) ∧
      (bit v 0 = false → exec (.registerWrite (.mmio (0x500000 + 0x10000 * d + 0x800 * n)) 8 v) s = exec (.stageDisable d n (bit v 1)) s) := by
  have hwrite := mmio_stage s hd hn (r := 0) (by decide) rfl v
  have hctl : s.writeStage d n 0 8 v = if bit v 0 then s.stageEnable d n (bit v 1) else s.stageDisable d n (bit v 1) := rfl
  rw [Nat.add_zero, hctl] at hwrite
  refine ⟨fun h => hwrite.trans ?_, fun h => hwrite.trans ?_⟩
  · rw [if_pos h]
    rfl
  · rw [if_neg (by rw [h]; exact Bool.false_ne_true)]
    rfl

/-- A register of a stage that is not enabled takes what is written. -/
theorem State.stage_setup (s : State) (d n : Nat) (f : Stage → Stage) : ((s.modStage d n f).evalSoon d n).stage d n = f (s.stage d n) := by
  obtain ⟨a, h⟩ := State.evalSoon_eq (s.modStage d n f) d n
  rw [h]
  exact State.stage_modStage_self s d n f

section stage
variable {s : State} {d n : Nat} (hd : d < 4) (hn : n < 8)

section disabled
variable (hoff : (s.stage d n).enable = false)
include hoff

theorem State.writeStage_disabled {r : Nat} (hr : r ≠ 0) (halign : r % 8 = 0) (v : W64) :
    (s.writeStage d n r 8 v).stage d n =
      if r = 0x08 then { s.stage d n with clmask0 := v }
      else if r = 0x10 then { s.stage d n with clmask1 := v.truncate 8 }
      else if r = 0x18 then { s.stage d n with tmplbase := v.truncate 48 }
      else if r = 0x20 then { s.stage d n with framebase := v.truncate 48 }
      else if 0x40 ≤ r ∧ r < 0x80 then
        { s.stage d n with vslots := SMap.modify {} (s.stage d n).vslots ((r - 0x40) / 8) fun y => y.written v }
      else if 0x80 ≤ r ∧ r < 0x100 then { s.stage d n with policy := SMap.set 0#64 (s.stage d n).policy ((r - 0x80) / 8) v }
      else s.stage d n := by
  have hword : r / 8 * 8 = r := by omega
  unfold State.writeStage
  dsimp only
  rw [hword, if_neg hr, if_neg (by rw [hoff]; exact Bool.false_ne_true), State.stage_setup]
  split
  · rfl
  · rfl
  · rfl
  · rfl
  · next h8 h10 h18 h20 => rw [if_neg h8, if_neg h10, if_neg h18, if_neg h20]; rfl

include hd hn

theorem mmio_stage_setup_clause {i : Nat} (hi : i < 16) (v : W64) :
    (∃ t, exec (.registerWrite (.mmio (0x500000 + 0x10000 * d + 0x800 * n + 8)) 8 v) s = .next t ∧ t.stage d n = { s.stage d n with clmask0 := v }) ∧
    (∃ t, exec (.registerWrite (.mmio (0x500000 + 0x10000 * d + 0x800 * n + 0x10)) 8 v) s = .next t ∧
      t.stage d n = { s.stage d n with clmask1 := v.truncate 8 }) ∧
    (∃ t, exec (.registerWrite (.mmio (0x500000 + 0x10000 * d + 0x800 * n + 0x18)) 8 v) s = .next t ∧
      t.stage d n = { s.stage d n with tmplbase := v.truncate 48 }) ∧
    (∃ t, exec (.registerWrite (.mmio (0x500000 + 0x10000 * d + 0x800 * n + 0x20)) 8 v) s = .next t ∧
      t.stage d n = { s.stage d n with framebase := v.truncate 48 }) ∧
    ∃ t, exec (.registerWrite (.mmio (0x500000 + 0x10000 * d + 0x800 * n + 0x80 + 8 * i)) 8 v) s = .next t ∧
      SMap.get 0#64 (t.stage d n).policy i = v := by
  have hpolicy := mmio_stage s hd hn (r := 0x80 + 8 * i) (by omega) (by omega) v
  rw [← Nat.add_assoc] at hpolicy
  refine ⟨⟨_, mmio_stage s hd hn (by decide) rfl v, State.writeStage_disabled hoff (by decide) rfl v⟩,
    ⟨_, mmio_stage s hd hn (by decide) rfl v, State.writeStage_disabled hoff (by decide) rfl v⟩,
    ⟨_, mmio_stage s hd hn (by decide) rfl v, State.writeStage_disabled hoff (by decide) rfl v⟩,
    ⟨_, mmio_stage s hd hn (by decide) rfl v, State.writeStage_disabled hoff (by decide) rfl v⟩,
    ⟨_, hpolicy, ?_⟩⟩
  rw [State.writeStage_disabled hoff (by omega) (by omega), if_neg (by omega), if_neg (by omega), if_neg (by omega), if_neg (by omega),
    if_neg (by omega), if_pos (by omega), show (0x80 + 8 * i - 0x80) / 8 = i by omega]
  exact SMap.get_set_self _ _ _ _

end disabled

theorem mmio_stage_enabled_clause (hd : d < 4) (hn : n < 8) (hon : (s.stage d n).enable = true) (v : W64) :
    exec (.registerWrite (.mmio (0x500000 + 0x10000 * d + 0x800 * n + 8)) 8 v) s = .next s := by
  refine (mmio_stage s hd hn (by decide) rfl v).trans (congrArg Host.Outcome.next ?_)
  unfold State.writeStage
  dsimp only
  rw [if_neg (by decide), if_pos hon]

end stage

theorem mmio_chan_idle_clause {s : State} {n : Nat} (hn : n < 1536) (hidle : (s.chan n).state = .idle) (v : W64) :
    (∃ t, exec (.registerWrite (.mmio (0x400000 + 32 * n)) 8 v) s = .next t ∧ t.chan n = { s.chan n with bufbase := v.truncate 48 }) ∧
      (bits v 1 0 = 1 ∨ bits v 1 0 = 2 → exec (.registerWrite (.mmio (0x400000 + 32 * n + 8)) 8 v) s =
        exec (.channelEnable n ((s.chan n).bufbase.zeroExtend 64) (v.truncate 32)) s) := by
  have hbase : s.writeChan n 0 8 v = s.modChan n fun x => { x with bufbase := v.truncate 48 } := if_pos hidle
  refine ⟨⟨_, (mmio_chan s hn (by decide) rfl v).trans (congrArg Host.Outcome.next hbase), State.chan_modChan_self s n _⟩, fun hrole => ?_⟩
  refine (mmio_chan s hn (by decide) rfl v).trans (congrArg Host.Outcome.next ?_)
  refine (if_pos hidle).trans (if_pos ?_)
  rw [bits_truncate v (by decide) (by decide)]
  exact hrole

theorem mmio_chan_disable_clause {s : State} {n : Nat} (hn : n < 1536) (hbusy : (s.chan n).state ≠ .idle) {v : W64} (hrole : bits v 1 0 = 0) :
    exec (.registerWrite (.mmio (0x400000 + 32 * n + 8)) 8 v) s = exec (.channelDisable n) s := by
  refine (mmio_chan s hn (by decide) rfl v).trans (congrArg Host.Outcome.next ?_)
  refine (if_neg hbusy).trans (if_pos ?_)
  rw [bits_truncate v (by decide) (by decide)]
  exact hrole

theorem mmio_eddy_clause {s : State} {d : Nat} (hd : d < 4) (hoff : ∀ n, n < 8 → (s.stage d n).enable = false) (v : W64) :
    (∃ t, exec (.registerWrite (.mmio (0x600000 + 0x1000 * d)) 8 v) s = .next t ∧ (t.die d).eddy = { (s.die d).eddy with nbase := v.truncate 48 }) ∧
      ∃ t, exec (.registerWrite (.mmio (0x600000 + 0x1000 * d + 8)) 8 v) s = .next t ∧
        (t.die d).eddy = { (s.die d).eddy with nlen := v.truncate 32 } := by
  have hnone : ¬ ((List.range 8).any fun n => (s.stage d n).enable) = true := by
    rw [List.any_eq_true]
    rintro ⟨n, hn, hon⟩
    rw [hoff n (List.mem_range.mp hn)] at hon
    cases hon
  have hnbase : s.writeEddy d 0 8 v = s.modDie d fun x => { x with eddy := { x.eddy with nbase := v.truncate 48 } } := if_neg hnone
  have hnlen : s.writeEddy d 8 8 v = s.modDie d fun x => { x with eddy := { x.eddy with nlen := v.truncate 32 } } := if_neg hnone
  exact ⟨⟨_, (mmio_eddy s hd (by decide) rfl v).trans (congrArg Host.Outcome.next hnbase), congrArg Die.eddy (State.die_modDie_self s d _)⟩,
    _, (mmio_eddy s hd (by decide) rfl v).trans (congrArg Host.Outcome.next hnlen), congrArg Die.eddy (State.die_modDie_self s d _)⟩

/-! ### Fault queues and TLBINV -/

theorem State.fqDrain_of_empty {s : State} {d : Nat} (h : (s.die d).fq.waiting = []) (n : Nat) : s.fqDrain d n = s := by
  cases n with
  | zero => rfl
  | succ n =>
    unfold State.fqDrain
    rw [h]

theorem mmio_fq_clause (s : State) {d : Nat} (hd : d < 4) (v : W64) :
    (bits v 63 62 = 1 → exec (.registerWrite (.mmio (0x700000 + 0x1000 * d + 0x18)) 8 v) s = exec (.fqResume d (bits v 5 0)) s) ∧
    (bits v 63 62 = 2 → exec (.registerWrite (.mmio (0x700000 + 0x1000 * d + 0x18)) 8 v) s = exec (.fqAbandon d (bits v 5 0)) s) ∧
    ((s.die d).fq.waiting = [] → ∃ t, exec (.registerWrite (.mmio (0x700000 + 0x1000 * d)) 8 v) s = .next t ∧
      (t.die d).fq = { (s.die d).fq with head := v.truncate 6 }) := by
  have hact := mmio_fq s hd (r := 0x18) (by decide) rfl v
  refine ⟨fun h => hact.trans (congrArg Host.Outcome.next ?_), fun h => hact.trans (congrArg Host.Outcome.next ?_), fun h => ?_⟩
  · unfold State.writeFq
    dsimp only
    rw [show 0x18 / 8 * 8 = 0x18 from rfl, show mergeWrite 0#64 0x18 8 v = v from rfl, h]
    rfl
  · unfold State.writeFq
    dsimp only
    rw [show 0x18 / 8 * 8 = 0x18 from rfl, show mergeWrite 0#64 0x18 8 v = v from rfl, h]
    rfl
  · refine ⟨_, mmio_fq s hd (r := 0) (by decide) rfl v, ?_⟩
    have hdie := State.die_modDie_self s d fun x => { x with fq := { x.fq with head := v.truncate 6 } }
    have hhead : s.writeFq d 0 8 v = (s.modDie d fun x => { x with fq := { x.fq with head := v.truncate 6 } }).fqDrain d 64 := rfl
    rw [hhead, State.fqDrain_of_empty (by rw [hdie]; exact h), hdie]

theorem mmio_tlbinv_clause (s : State) (v : W64) : exec (.registerWrite (.mmio 0x708010) 8 v) s =
    if bit v 63 then exec .tlbinvAll s else exec (.tlbinvPage (BitVec.ofNat 32 (bits v 47 16))) s :=
  apply_ite Host.Outcome.next _ _ _

/-! ### RESUME and ABANDON of a Sluice job -/

/-- An entry of a fault queue that has been acted on (R286). -/
def State.answered (s : State) (d n : Nat) : State :=
  s.modDie d fun x => { x with fq := { x.fq with entries := SMap.set {} x.fq.entries n { SMap.get {} (s.die d).fq.entries n with pend := false } } }

theorem State.fq_answered (s : State) (d n : Nat) : ((s.answered d n).die d).fq =
    { (s.die d).fq with entries := SMap.set {} (s.die d).fq.entries n { SMap.get {} (s.die d).fq.entries n with pend := false } } := by
  rw [State.answered, State.die_modDie_self]

theorem State.jobs_answered (s : State) (d n : Nat) : ((s.answered d n).die d).jobs = (s.die d).jobs := by
  rw [State.answered, State.die_modDie_self]

/-- The jobs of a serial number have ended. -/
def State.Ended (s : State) (d n : Nat) : Prop := ∀ m ∈ (s.die d).jobs, m.serial = n → m.state.ended = true

/-- A job that has ended, with the fault queue of its die and the session. -/
structure State.Stopped (s : State) (d n : Nat) (j : Job) (q : FaultQueue) (z : Session) : Prop where
  job : s.job d n = some j
  ended : s.Ended d n
  fq : (s.die d).fq = q
  sess : s.sess = z

theorem State.dropFor_keeps (s : State) (d : Nat) (j : Job) (flags : Nat) :
    ((s.dropFor d j flags).die d).jobs = (s.die d).jobs ∧ ((s.dropFor d j flags).die d).fq = (s.die d).fq ∧
      (s.dropFor d j flags).sess = s.sess := by
  have hdrop (key : Nat) := State.dropStash_keeps s d key flags
  have hpass := State.sameEddies_dropPass s (ctxCluster j.ctx) d j.serial
  unfold State.dropFor
  split
  · exact ⟨(hpass.1 d).1, (hpass.1 d).2.2, hpass.sess⟩
  · next key _ => exact ⟨(hdrop key).1, (hdrop key).2.1, (hdrop key).2.2.1⟩
  · next key _ => exact ⟨(hdrop key).1, (hdrop key).2.1, (hdrop key).2.2.1⟩

theorem State.fq_modJob (s : State) (d n : Nat) (f : Job → Job) : ((s.modJob d n f).die d).fq = (s.die d).fq := by
  rw [State.modJob, State.die_modDie_self]

theorem State.fq_placeFreed (s : State) (d : Nat) : ((s.placeFreed d).die d).fq = (s.die d).fq ∧ (s.placeFreed d).sess = s.sess := by
  have hplace : ((s.givePlace d).die d).fq = (s.die d).fq ∧ (s.givePlace d).sess = s.sess := by
    unfold State.givePlace
    split
    · exact ⟨State.fq_modJob s d _ _, rfl⟩
    · exact ⟨rfl, rfl⟩
  rw [State.placeFreed_eq]
  split
  · have hwake := State.sameEddies_wakeOldest (s.givePlace d) fun c w => ctxDie c == d && w == .scheduler
    exact ⟨(hwake.1 d).2.2.trans hplace.1, hwake.sess.trans hplace.2⟩
  · exact hplace

/-- Beside its state, the end of a job without success leaves what has ended. -/
theorem State.Stopped.endOne {s : State} {d n : Nat} {j k : Job} {q : FaultQueue} {z : Session} {st : JState} (hst : st ≠ .done)
    (h : (s.modJob d k.serial fun m => { m with state := st }).Stopped d n j q z) : (s.endOne d k st).Stopped d n j q z := by
  obtain ⟨u, hsame, heq⟩ := State.endOne_eq s d k hst
  obtain ⟨hjobs, hfq, hsess⟩ := State.dropFor_keeps u d k st.flags
  have hjobs' := hjobs.trans (hsame.1 d).1
  have hended : (u.dropFor d k st.flags).Ended d n := fun m hm => h.ended m (hjobs' ▸ hm)
  have hjob : (u.dropFor d k st.flags).job d n = some j := (congrArg (List.find? fun (m : Job) => m.serial == n) hjobs').trans h.job
  rw [heq]
  refine ⟨State.job_placeFreed hjob fun i hi hserial hqueued => ?_, State.ended_placeFreed hended,
    (State.fq_placeFreed _ d).1.trans (hfq.trans ((hsame.1 d).2.2.trans h.fq)),
    (State.fq_placeFreed _ d).2.trans (hsess.trans (hsame.sess.trans h.sess))⟩
  have hstop := hended i hi hserial
  rw [hqueued] at hstop
  cases hstop

/-- Only a job that has not ended is aborted. -/
theorem State.Stopped.modJob {s : State} {d n : Nat} {j k : Job} {q : FaultQueue} {z : Session} (h : s.Stopped d n j q z) (hlive : k ∈ (s.die d).live) :
    (s.modJob d k.serial fun m => { m with state := .aborted }).Stopped d n j q z := by
  obtain ⟨hmem, hopen⟩ := List.mem_filter.mp hlive
  have hne : k.serial ≠ n := fun hserial => by
    rw [h.ended k hmem hserial] at hopen
    cases hopen
  refine ⟨(State.job_modJob_ne s (fun m => { m with state := .aborted }) (fun _ => rfl) hne).trans h.job, fun m hm hserial => ?_,
    (State.fq_modJob s d _ _).trans h.fq, h.sess⟩
  unfold State.modJob at hm
  rw [State.die_modDie_self] at hm
  obtain ⟨i, hi, rfl⟩ := List.mem_map.mp hm
  dsimp only at hserial ⊢
  split
  · rfl
  · next hik =>
    rw [if_neg hik] at hserial
    exact h.ended i hi hserial

theorem State.Stopped.abortAfter {d n : Nat} {j : Job} {q : FaultQueue} {z : Session} (fuel : Nat) {failed : List Nat} {s : State} (h : s.Stopped d n j q z) :
    (s.abortAfter d fuel failed).Stopped d n j q z := by
  induction fuel generalizing failed s with
  | zero => exact h
  | succ fuel ih =>
    unfold State.abortAfter
    split
    · exact h
    · next k hk => exact ih ((h.modJob (List.mem_of_find?_eq_some hk)).endOne JState.noConfusion)

theorem State.endJob_killed {s : State} {d : Nat} {j : Job} (hjob : s.job d j.serial = some j) (hopen : j.state.ended = false) :
    (s.endJob d j.serial .killed).Stopped d j.serial { j with state := .killed } (s.die d).fq s.sess := by
  have hmod : (s.modJob d j.serial fun m => { m with state := .killed }).Stopped d j.serial { j with state := .killed } (s.die d).fq s.sess := by
    refine ⟨State.job_modJob_of hjob (fun m => { m with state := .killed }) fun _ h => h, fun m hm hserial => ?_, State.fq_modJob s d _ _, rfl⟩
    rw [State.state_of_modJob s hm hserial]
    rfl
  have hend : s.endJob d j.serial .killed =
      (s.endOne d j .killed).abortAfter d ((s.endOne d j .killed).die d).jobs.length [j.serial] := by
    unfold State.endJob
    rw [hjob]
    dsimp only
    rw [if_neg (by rw [hopen]; exact Bool.false_ne_true), if_neg JState.noConfusion]
  rw [hend]
  exact (hmod.endOne JState.noConfusion).abortAfter _

section action
variable {s : State} {d n : Nat} {e : FqEntry} {j : Job} (hd : d < 4) (hn : n < 64) (he : e = SMap.get {} (s.die d).fq.entries n)
  (hpend : e.pend = true) (hagent : e.agent = 1#4) (hwaiting : (s.die d).fq.waiting = []) (hfind : s.fqJob d e = some j)
  (hjob : s.job d j.serial = some j)

include hd hn he hpend in
theorem State.fqTake_answered : s.fqTake d n = some (e, s.answered d n) := by
  have hopen : ¬ (4 ≤ d ∨ 64 ≤ n ∨ (SMap.get {} (s.die d).fq.entries n).pend = false) := by
    rw [← he, hpend]
    rintro (h | h | h)
    · omega
    · omega
    · cases h
  rw [he]
  exact if_neg hopen

include hfind in
theorem State.fqJob_answered : (s.answered d n).fqJob d e = some j := by
  rw [State.fqJob, State.jobs_answered, ← State.fqJob]
  exact hfind

include hjob in
theorem State.job_answered : (s.answered d n).job d j.serial = some j := by
  rw [State.job, State.jobs_answered, ← State.job]
  exact hjob

include he in
theorem State.entry_answered : SMap.get {} ((s.answered d n).die d).fq.entries n = { e with pend := false } := by
  rw [State.fq_answered, he]
  exact SMap.get_set_self _ _ _ _

include hwaiting in
theorem State.waiting_answered : ((s.answered d n).die d).fq.waiting = [] := by
  rw [State.fq_answered]
  exact hwaiting

include hd hn he hpend hagent hwaiting hfind hjob

theorem fqResume_clause : ∃ t, exec (.fqResume d n) s = .next t ∧ t.job d j.serial = some { j with state := .running } ∧
    SMap.get {} (t.die d).fq.entries n = { e with pend := false } := by
  have hfq := State.fq_modJob (s.answered d n) d j.serial fun k => { k with state := .running }
  have hstep : s.fqResume d n = (s.answered d n).modJob d j.serial fun k => { k with state := .running } := by
    have hone : e.agent.toNat = 1 := by rw [hagent]; rfl
    unfold State.fqResume
    rw [State.fqTake_answered hd hn he hpend]
    dsimp only
    rw [hone, State.fqJob_answered hfind]
    refine State.fqDrain_of_empty ?_ 64
    exact (congrArg FaultQueue.waiting hfq).trans (State.waiting_answered hwaiting)
  refine ⟨_, congrArg Host.Outcome.next hstep, State.job_modJob_of (State.job_answered hjob) (fun k => { k with state := .running }) fun _ h => h, ?_⟩
  rw [hfq]
  exact State.entry_answered he

theorem fqAbandon_clause (hidle : s.sess.state ≠ .running) :
    ∃ t, exec (.fqAbandon d n) s = .next t ∧ t.job d j.serial = some { j with state := .killed } ∧
      SMap.get {} (t.die d).fq.entries n = { e with pend := false } := by
  have hopen : j.state.ended = false := by
    have h := List.find?_some hfind
    rw [Bool.and_eq_true, beq_iff_eq, beq_iff_eq] at h
    rw [h.2]
    rfl
  have hend := State.endJob_killed (State.job_answered (n := n) hjob) hopen
  generalize hu : (s.answered d n).endJob d j.serial .killed = u at hend
  have hstep : s.fqAbandon d n = u.checkEnd := by
    have hone : e.agent.toNat = 1 := by rw [hagent]; rfl
    unfold State.fqAbandon
    rw [State.fqTake_answered hd hn he hpend]
    dsimp only
    rw [hone, State.fqJob_answered hfind]
    refine congrArg State.checkEnd ?_
    refine (congrArg (fun w : State => w.fqDrain d 64) hu).trans (State.fqDrain_of_empty ?_ 64)
    rw [hend.fq]
    exact State.waiting_answered hwaiting
  have hrun : u.sess.state ≠ .running := by
    rw [hend.sess]
    exact hidle
  refine ⟨u, congrArg Host.Outcome.next (hstep.trans (State.checkEnd_of_not_running hrun)), hend.job, ?_⟩
  rw [hend.fq]
  exact State.entry_answered he

end action

/-! ### TLBINV, activity states and waking -/

theorem State.tlb_dropTlb (s : State) (p : TlbEntry → Bool) :
    (∀ cl, ((s.dropTlb p).cluster cl).tlb = (s.cluster cl).tlb.filter fun e => !p e) ∧
      ∀ d, ((s.dropTlb p).die d).tlb = (s.die d).tlb.filter fun e => !p e :=
  ⟨fun cl => congrArg Cluster.tlb (SMap.get_mapVals ({} : Cluster) (fun (k : Cluster) => { k with tlb := k.tlb.filter fun e => !p e }) rfl s.clusters cl),
    fun d => congrArg Die.tlb (SMap.get_mapVals ({} : Die) (fun (x : Die) => { x with tlb := x.tlb.filter fun e => !p e }) rfl s.dies d)⟩

theorem tlbinvAll_clause (s : State) : ∃ t, exec .tlbinvAll s = .next t ∧ (∀ cl, (t.cluster cl).tlb = []) ∧ ∀ d, (t.die d).tlb = [] := by
  obtain ⟨hcluster, hdie⟩ := State.tlb_dropTlb s fun _ => true
  exact ⟨_, rfl, fun cl => (hcluster cl).trans (List.filter_eq_nil_iff.mpr fun _ _ => Bool.false_ne_true), fun d => (hdie d).trans (List.filter_eq_nil_iff.mpr fun _ _ => Bool.false_ne_true)⟩

theorem tlbinvPage_clause (s : State) (vpn : BitVec 32) : ∃ t, exec (.tlbinvPage vpn) s = .next t ∧
    (∀ cl e, e ∈ (t.cluster cl).tlb ↔ e ∈ (s.cluster cl).tlb ∧ ¬ (e.va < (vpn.toNat + 1) * 65536 ∧ vpn.toNat * 65536 < e.va + e.size)) ∧
    ∀ d e, e ∈ (t.die d).tlb ↔ e ∈ (s.die d).tlb ∧ ¬ (e.va < (vpn.toNat + 1) * 65536 ∧ vpn.toNat * 65536 < e.va + e.size) := by
  obtain ⟨hcluster, hdie⟩ := State.tlb_dropTlb s fun e => decide (e.va < (vpn.toNat + 1) * 65536) && decide (vpn.toNat * 65536 < e.va + e.size)
  have hmem (l : List TlbEntry) (e : TlbEntry) :
      (e ∈ l.filter fun e => !(decide (e.va < (vpn.toNat + 1) * 65536) && decide (vpn.toNat * 65536 < e.va + e.size))) ↔
        e ∈ l ∧ ¬ (e.va < (vpn.toNat + 1) * 65536 ∧ vpn.toNat * 65536 < e.va + e.size) := by
    rw [List.mem_filter, Bool.not_eq_true', ← Bool.not_eq_true, Bool.and_eq_true, decide_eq_true_iff, decide_eq_true_iff]
  refine ⟨_, rfl, fun cl e => ?_, fun d e => ?_⟩
  · exact (congrArg (e ∈ ·) (hcluster cl)).to_iff.trans (hmem _ e)
  · exact (congrArg (e ∈ ·) (hdie d)).to_iff.trans (hmem _ e)

/-- A decision with the latency tolerance of the mailbox (R119 to R122). -/
theorem activity_run_clause {s : State} (hwoke : s.wokeAt ≠ some s.time) (hrun : s.thermal.state = .run) (htol : s.mbox.lattol.toNat < 2) :
    ∃ t, exec .activityDecision s = .next t ∧ t.act = 0#2 ∧ t.gated = 0#9 := by
  have hmay : s.mayChoose = true := by
    unfold State.mayChoose
    rw [hrun]
  have htol' : (s.noteBusy s.time).mbox.lattol.toNat < 2 := by
    obtain ⟨b, i, h⟩ := State.noteBusy_eq s s.time
    rw [h]
    exact htol
  refine ⟨_, rfl, ?_⟩
  unfold State.decideActivity
  dsimp only
  rw [if_neg (by rw [hmay]; exact fun h => h.elim Bool.false_ne_true hwoke), if_neg (by omega), if_neg (by omega), if_neg (by omega)]
  exact ⟨rfl, rfl⟩

theorem activity_coldReady_clause {s : State} (hwoke : s.wokeAt ≠ some s.time) (hready : s.thermal.state = .coldReady) (hsession : s.hasSession = false)
    (htol : 2000 ≤ s.mbox.lattol.toNat) : ∃ t, exec .activityDecision s = .next t ∧ t.act = 3#2 := by
  have hmay : s.mayChoose = true := by
    unfold State.mayChoose
    rw [hready]
  obtain ⟨b, i, hnote⟩ := State.noteBusy_eq s s.time
  have htol' : 2000 ≤ (s.noteBusy s.time).mbox.lattol.toNat := by
    rw [hnote]
    exact htol
  have hsession' : (s.noteBusy s.time).hasSession = false := by
    rw [hnote]
    exact hsession
  refine ⟨_, rfl, ?_⟩
  unfold State.decideActivity
  dsimp only
  rw [if_neg (by rw [hmay]; exact fun h => h.elim Bool.false_ne_true hwoke), if_pos ⟨by rw [hsession']; rfl, htol'⟩]

theorem wakeEvent_clause {s : State} (hrun : s.thermal.state = .run) :
    ∃ t, exec .wakeEvent s = .next t ∧ t = { s with act := 0#2, gated := 0#9, wokeAt := some s.time } := by
  have hmay : s.mayChoose = true := by
    unfold State.mayChoose
    rw [hrun]
  exact ⟨_, rfl, if_pos hmay⟩

/-- Settles O51: clause by clause, the write decoded to its register and the register's effect on the state. -/
theorem registerEvents : Obligations.RegisterEvents := by
  unfold Obligations.RegisterEvents
  refine fun s => ⟨fun n v hon => ⟨fun hn => bar0_arg_clause hon hn v, fun hidle hseq => ⟨fun hmin hmax => bar0_command_clause hon hidle hseq hmin hmax,
      fun hop hsequence hstarts hgranted htrigger => bar0_unknown_clause hon hidle hseq hop hsequence hstarts hgranted htrigger⟩,
      fun hbusy => bar0_busy_clause hon hbusy v, fun hrole hup => bar0_tbctl_clause hon hrole hup,
      fun halign hcmd hevt htb hargs => bar0_other_clause hon halign hcmd hevt htb hargs v⟩,
    fun r size n v hr hbad => badSize_clause v hr hbad, thevt_clause s, ?_, ?_, ?_, ?_, mmio_tlbinv_clause s, ?_,
    tlbinvAll_clause s, tlbinvPage_clause s, activity_run_clause, activity_coldReady_clause, wakeEvent_clause⟩
  · rintro d n i a v hd hn hi rfl
    exact ⟨mmio_stage_ctl_clause s hd hn v, fun hoff => mmio_stage_setup_clause hd hn hoff hi v, fun hon => mmio_stage_enabled_clause hd hn hon v⟩
  · rintro n a v hn rfl
    exact ⟨fun hidle => mmio_chan_idle_clause hn hidle v, fun hbusy hrole => mmio_chan_disable_clause hn hbusy hrole⟩
  · rintro d a v hd rfl hoff
    exact mmio_eddy_clause hd hoff v
  · rintro d a v hd rfl
    exact mmio_fq_clause s hd v
  · rintro d n e j hd hn he hpend hagent hwaiting hfind hjob
    exact ⟨fqResume_clause hd hn he hpend hagent hwaiting hfind hjob, fqAbandon_clause hd hn he hpend hagent hwaiting hfind hjob⟩

end Sys2Proof.Machine

/-! ## What lands with a bundle, and what stays (R214, R227, R353) -/

namespace Sys2Proof.Machine

set_option Elab.async false

/-! ### One context at a time -/

/-- The state `v` differs from `s` in one context, which stands as `y`. -/
def State.Now (s v : State) (c : Nat) (y : Ctx) : Prop := s.OnlyCtx v c ∧ v.ctx c = some y

theorem State.now_self {s : State} {c : Nat} {x : Ctx} (h : s.ctx c = some x) : s.Now s c x := ⟨⟨rfl, fun _ _ => rfl⟩, h⟩

theorem State.Now.modCtx {s v : State} {c : Nat} {y : Ctx} (h : s.Now v c y) (g : Ctx → Ctx) : s.Now (v.modCtx c g) c (g y) := by
  obtain ⟨⟨hrest, hothers⟩, hctx⟩ := h
  refine ⟨⟨?_, fun d hd => ?_⟩, ?_⟩
  · rw [State.modCtx_eq]
    exact congrArg (fun u : State => { u with ctxs := (v.modCtx c g).ctxs }) hrest
  · rw [State.ctx_modCtx_ne _ _ _ _ hd]
    exact hothers d hd
  · rw [State.ctx_modCtx_self, hctx]
    rfl

/-- A result that stands in a register, put there (R227). -/
def Ctx.landed (x : Ctx) : Landing → Ctx
  | .scalar (.a n) v => { x with a := SMap.set 0#64 x.a n v }
  | .scalar (.b n) v => { x with b := SMap.set 0#64 x.b n v }
  | .scalar (.d n) v => x.setD n v
  | .scalar (.e n) v => { x with e := SMap.set 0#64 x.e n v }
  | .scalar (.m n) v => { x with m := SMap.set 0#64 x.m n v }
  | .scalar (.j n) v => { x with j := SMap.set 0#64 x.j n v }
  | .scalar (.latch sl n) v => { x with q := SMap.set 0#64 x.q (8 * sl + n) v }
  | .scalar (.const n) v => { x with c := SMap.set 0#32 x.c n (v.truncate 32) }
  | .vector d v m => x.landVector d v m
  | .predicate n v m => x.setPred n v m
  | .fmt v => { x with fmt := v, srseq0 := 0#32, srseq1 := 0#32 }
  | _ => x

theorem State.land_register (s : State) (c : Nat) {w : Landing} (h : w.isRegister = true) : s.land c w = s.modCtx c fun x => x.landed w := by
  cases w with
  | scalar d v =>
    cases d with
    | special n => cases h
    | pred n => cases h
    | vreg q n => cases h
    | vlatch q n => cases h
    | a n => rfl
    | b n => rfl
    | d n => rfl
    | e n => rfl
    | m n => rfl
    | j n => rfl
    | latch sl n => rfl
    | const n => rfl
  | vector d v m => rfl
  | predicate n v m => rfl
  | fmt v => rfl
  | tileCfg _ _ => cases h
  | tileZero _ => cases h
  | tileRows _ _ _ => cases h
  | tileStat _ _ _ _ _ => cases h
  | macroOp _ => cases h
  | reply _ _ _ => cases h

theorem LoopState.offset_of_no_nest {l : LoopState} (h : l.nest = none) (n : Nat) : l.offset n = 0#64 := by
  unfold LoopState.offset
  rw [h]

/-! ### The end of the count of a bundle (R227, R349, R355) -/

/-- How a context that no transfer and no nest moves goes on from an issue. -/
def Ctx.closed (y : Ctx) (n : Nat) (r : BitVec 4) (next : BitVec 48) : Ctx :=
  { y with f := SMap.mapVals {} (Stream.deliverAll n) y.f, count := n + 1, repLeft := none, loops := y.loops.release r, pc := next }

section issue
variable {s v : State} {c : Nat} {y : Ctx} (hnow : s.Now v c y) (hbars : s.barWaits = [])
include hnow

theorem State.Now.filter {fl : List Flight} {p : Flight → Bool} (h : (y.flight.filter fun f => !p f) = fl) :
    s.Now (v.modCtx c fun x => { x with flight := x.flight.filter fun f => !p f }) c { y with flight := fl } := by
  have hmod := hnow.modCtx fun x => { x with flight := x.flight.filter fun f => !p f }
  rw [h] at hmod
  exact hmod

theorem State.Now.landWhere_none {p : Flight → Bool} {fl : List Flight} (hrest : (y.flight.filter fun f => !p f) = fl) (h : y.flight.filter p = []) :
    s.Now (v.landWhere c p) c { y with flight := fl } := by
  unfold State.landWhere
  rw [hnow.2]
  dsimp only
  rw [h]
  exact hnow.filter hrest

theorem State.Now.landWhere_one {p : Flight → Bool} {fl : List Flight} {a : Nat} {w : Landing} (hw : w.isRegister = true)
    (hrest : (y.flight.filter fun f => !p f) = fl) (h : y.flight.filter p = [⟨a, w⟩]) :
    s.Now (v.landWhere c p) c (Ctx.landed { y with flight := fl } w) := by
  unfold State.landWhere
  rw [hnow.2]
  dsimp only
  rw [h]
  have hland := (hnow.filter hrest).modCtx fun x => x.landed w
  rw [← State.land_register _ _ hw] at hland
  exact hland

/-- After what lands with an issue that neither transfers nor moves a nest. -/
theorem State.Now.afterIssue {n : Nat} {z : Ctx} (b : Shown) (next : BitVec 48) (hbr : y.br = none)
    (hlands : ∀ w, s.Now w c y → s.Now (w.landWhere c fun f => decide (f.land ≤ n)) c z) (hnest : z.loops.nest = none) (hstart : z.loops.starting = none)
    (hbars : s.barWaits = []) :
    s.Now (v.afterIssue c n 0 b next) c (z.closed n b.hdr.release next) := by
  have hdelay : s.Now (v.modCtx c Ctx.countDelay) c y := by
    have hmod := hnow.modCtx Ctx.countDelay
    rw [Ctx.countDelay, hbr] at hmod
    have hsame : ({ y with br := none } : Ctx) = y := by rw [← hbr]
    rw [show ({ y with br := Option.map (fun t : Transfer => { t with left := t.left - 1 }) none } : Ctx) = y from hsame] at hmod
    exact hmod
  unfold State.afterIssue
  dsimp only
  generalize v.modCtx c Ctx.countDelay = w at hdelay
  have hdue : (w.ctx c).bind Ctx.transferDue = none := by
    rw [hdelay.2, Option.bind_some, Ctx.transferDue, hbr]
    rfl
  have hland := hlands w hdelay
  have hquiet : (w.landWhere c fun f => decide (f.land ≤ n)).engBars = w.landWhere c fun f => decide (f.land ≤ n) := by
    obtain ⟨⟨hrest, -⟩, -⟩ := hland
    unfold State.engBars
    rw [hrest]
    dsimp only
    rw [hbars]
    rfl
  have hend := ((hland.modCtx fun x => { x with f := SMap.mapVals {} (Stream.deliverAll n) x.f }).modCtx fun x => { x with count := n + 1 }).modCtx
    fun x => x.goOn b 0 next
  rw [hdue]
  dsimp only
  rw [State.closeCount, State.endCount, hquiet]
  have hgo : Ctx.goOn { z with f := SMap.mapVals {} (Stream.deliverAll n) z.f, count := n + 1 } b 0 next = z.closed n b.hdr.release next := by
    have hadvance : (z.loops.release b.hdr.release).advance next = (z.loops.release b.hdr.release, next) := by
      unfold LoopState.advance LoopState.release
      dsimp only
      rw [hstart, hnest]
    unfold Ctx.goOn
    rw [if_neg (Nat.lt_irrefl 0)]
    dsimp only
    rw [hadvance]
    rfl
  rw [← hgo]
  exact hend

end issue

/-! ### A bundle of one operation -/

section alone
variable {s : State} {x : Ctx} {i : Instr} (hissues : s.Issues x) (hparts : i.parts.isSome = true) (hkind : ∀ f, i ≠ .done f ∧ i ≠ .rft f ∧ i ≠ .yield f)

/-- The loop state of a context after its bundle. -/
def Ctx.loopsAfter (x : Ctx) (s : State) (i : Instr) : LoopState :=
  (x.loops.issued [s.opAlone i (Instr.slotPart i).1 (Instr.slotPart i).2.1]).release (shownAlone s i).hdr.release

include hparts in
theorem shownAlone_words : (shownAlone s i).words = 3 + s.lits.length := by
  obtain ⟨p, hp⟩ := Option.isSome_iff_exists.mp hparts
  unfold shownAlone
  rw [hp]

theorem LoopState.issued_alone (l : LoopState) (s : State) (i : Instr) (sl : Slot) (op : Nat) :
    l.issued [s.opAlone i sl op] = ({ l with arv := none, tw := none } : LoopState).setHeld sl (some ⟨i, 0, s.lits⟩) := rfl

theorem LoopState.setHeld_nest (l : LoopState) (sl : Slot) (k : Option Sticky) :
    (l.setHeld sl k).nest = l.nest ∧ (l.setHeld sl k).starting = l.starting := by
  cases sl with
  | c => exact ⟨rfl, rfl⟩
  | s0 => exact ⟨rfl, rfl⟩
  | s1 => exact ⟨rfl, rfl⟩
  | v0 => exact ⟨rfl, rfl⟩
  | v1 => exact ⟨rfl, rfl⟩
  | m => exact ⟨rfl, rfl⟩
  | l => exact ⟨rfl, rfl⟩
  | e => exact ⟨rfl, rfl⟩

theorem LoopState.setHeld_of_not_sticky (l : LoopState) {sl : Slot} (h : slotSticky sl = false) (k : Option Sticky) : l.setHeld sl k = l := by
  cases sl with
  | c => rfl
  | s0 => rfl
  | s1 => rfl
  | v0 => cases h
  | v1 => cases h
  | m => cases h
  | l => cases h
  | e => rfl

/-- With no sticky operation in a slot there is nothing to release. -/
theorem LoopState.release_of_none {l : LoopState} (hv0 : l.v0 = none) (hv1 : l.v1 = none) (hm : l.m = none) (hl : l.l = none) (harv : l.arv = none)
    (htw : l.tw = none) (r : BitVec 4) : ({ l with arv := none, tw := none } : LoopState).release r = l := by
  obtain ⟨v0, v1, m, k, counts, links, nest, starting, skip, arv, tw⟩ := l
  obtain rfl : v0 = none := hv0
  obtain rfl : v1 = none := hv1
  obtain rfl : m = none := hm
  obtain rfl : k = none := hl
  obtain rfl : arv = none := harv
  obtain rfl : tw = none := htw
  unfold LoopState.release
  dsimp only
  rw [ite_self, ite_self, ite_self, ite_self]

include hissues in
theorem Ctx.loopsAfter_of_not_sticky (h : slotSticky (Instr.slotPart i).1 = false) : x.loopsAfter s i = x.loops := by
  obtain ⟨⟨-, -, -, -, -, hv0, hv1, hm, hl, -⟩, harv, htw⟩ := hissues
  rw [Ctx.loopsAfter, LoopState.issued_alone, LoopState.setHeld_of_not_sticky _ h]
  exact LoopState.release_of_none hv0 hv1 hm hl harv htw _

/-- The context once its bundle counts on a token (R216). -/
def Ctx.counted (x : Ctx) : Option Nat → Ctx
  | some k => x.tokUp k
  | none => x

/-- The state on which the effect of a bundle acts: the token of the issue is counted. -/
def State.counted (s : State) (tok : Option Nat) : State :=
  match tok with
  | some k => (s.modCtx s.cur fun y => { y with arrived := false }).modCtx s.cur fun y => y.tokUp k
  | none => s.modCtx s.cur fun y => { y with arrived := false }

include hissues in
theorem State.now_counted (tok : Option Nat) : s.Now (s.counted tok) s.cur (x.counted tok) := by
  obtain ⟨⟨hctx, -, -, harrived, -⟩, -⟩ := hissues
  have hmod := (State.now_self hctx).modCtx fun y => { y with arrived := false }
  have hsame : ({ x with arrived := false } : Ctx) = x := by rw [← harrived]
  rw [hsame] at hmod
  cases tok with
  | none => exact hmod
  | some k => exact hmod.modCtx fun y => y.tokUp k

include hissues in
theorem State.now_shown : s.Now (s.counted none) s.cur x := State.now_counted hissues none

/-- An operation that is none of DONE, RFT and YIELD. -/
theorem acts_false {p : Instr → Bool} (h : p i = false) (sl : Slot) (op : Nat) : x.acts [s.opAlone i sl op] p = false := by
  unfold Ctx.acts State.opAlone
  rw [List.any_cons, List.any_nil, Bool.or_false]
  dsimp only
  rw [h, Bool.false_and]

include hparts hkind

/-- The bundle of one operation, whose effect leaves a context that no transfer and no nest moves. -/
theorem State.Now.issued {b : State} {tok : Option Nat} {f : State → State} {fl : List Flight} {ks : SMap Token} {z : Ctx} (hbr : x.br = none)
    (hnest : x.loops.nest = none) (hstart : x.loops.starting = none) (hbars : b.barWaits = [])
    (hf : b.Now (f (s.counted tok)) s.cur { x with flight := fl, k := ks })
    (hlands : ∀ w,
      b.Now w s.cur { x with flight := fl, k := ks, loops := x.loops.issued [s.opAlone i (Instr.slotPart i).1 (Instr.slotPart i).2.1] } →
      b.Now (w.landWhere s.cur fun f => decide (f.land ≤ x.count)) s.cur z)
    (hz : z.loops = x.loops.issued [s.opAlone i (Instr.slotPart i).1 (Instr.slotPart i).2.1]) :
    b.Now (s.issued x i tok f) s.cur
      (z.closed x.count (shownAlone s i).hdr.release (x.pc + BitVec.ofNat 48 (4 * (3 + s.lits.length)))) := by
  have hacted := hf.modCtx fun y => { y with loops := y.loops.issued [s.opAlone i (Instr.slotPart i).1 (Instr.slotPart i).2.1] }
  have hloops : z.loops.nest = none ∧ z.loops.starting = none := by
    obtain ⟨hn, hs⟩ := LoopState.setHeld_nest { x.loops with arv := none, tw := none } (Instr.slotPart i).1 (some ⟨i, 0, s.lits⟩)
    rw [hz, LoopState.issued_alone]
    exact ⟨hn.trans hnest, hs.trans hstart⟩
  have hno {p : Instr → Bool} (h : p i = false) :
      ¬ x.acts [s.opAlone i (Instr.slotPart i).1 (Instr.slotPart i).2.1] p = true := by
    rw [acts_false h]
    exact Bool.false_ne_true
  have hlast := hacted.afterIssue (shownAlone s i) (x.pc + BitVec.ofNat 48 (4 * (3 + s.lits.length))) hbr hlands hloops.1 hloops.2 hbars
  unfold State.issued State.issue
  dsimp only
  rw [if_neg (hno ?_), if_neg (hno ?_), if_neg (hno ?_), shownAlone_words hparts]
  · cases tok <;> exact hlast
  · generalize i = j at hkind
    split
    · next f => exact absurd rfl (hkind f).2.2
    · rfl
  · generalize i = j at hkind
    split
    · next f => exact absurd rfl (hkind f).2.1
    · rfl
  · generalize i = j at hkind
    split
    · next f => exact absurd rfl (hkind f).1
    · rfl

end alone

/-! ### A result comes to stand in its register -/

theorem Ctx.landed_keeps (x : Ctx) {w : Landing} (hw : w.isRegister = true) : (x.landed w).f = x.f ∧ (x.landed w).loops = x.loops := by
  cases w with
  | scalar d v =>
    cases d with
    | special n => cases hw
    | pred n => cases hw
    | vreg q n => cases hw
    | vlatch q n => cases hw
    | a n => exact ⟨rfl, rfl⟩
    | b n => exact ⟨rfl, rfl⟩
    | d n => exact ⟨rfl, rfl⟩
    | e n => exact ⟨rfl, rfl⟩
    | m n => exact ⟨rfl, rfl⟩
    | j n => exact ⟨rfl, rfl⟩
    | latch sl n => exact ⟨rfl, rfl⟩
    | const n => exact ⟨rfl, rfl⟩
  | vector d v m =>
    cases d with
    | vreg q n => cases q <;> exact ⟨rfl, rfl⟩
    | vlatch q n => cases q <;> exact ⟨rfl, rfl⟩
    | _ => cases hw
  | predicate n v m =>
    show (x.setPred n v m).f = x.f ∧ (x.setPred n v m).loops = x.loops
    unfold Ctx.setPred
    split
    · exact ⟨rfl, rfl⟩
    · exact ⟨rfl, rfl⟩
  | fmt v => exact ⟨rfl, rfl⟩
  | _ => cases hw

theorem Vec.took_modify {m : SMap Vec} {n : Nat} (v : Vec) (lanes : Mask) :
    Vec.Took (SMap.get Vec.zero m n) (SMap.get Vec.zero (SMap.modify Vec.zero m n (Vec.merge lanes v)) n) v lanes := by
  intro l hl
  rw [SMap.get_modify_self, Vec.merge, Vec.lane_ofLanes hl]

theorem Ctx.dOffset_closed {x : Ctx} (hnest : x.loops.nest = none) (n : Nat) (r : BitVec 4) (next : BitVec 48) (k : Nat) :
    (x.closed n r next).dOffset k = x.dOffset k := by
  unfold Ctx.dOffset
  rw [LoopState.offset_of_no_nest hnest]
  exact congrArg (· + _) (LoopState.offset_of_no_nest hnest k)

/-- A result in a register is there after the bundle, and the other registers are as they were. -/
theorem Ctx.gets_closed {x : Ctx} (hnest : x.loops.nest = none) {w : Landing} (hw : w.isRegister = true) (n : Nat) (r : BitVec 4) (next : BitVec 48) :
    Ctx.Gets (x.closed n r next) ((x.landed w).closed n r next) w := by
  cases w with
  | scalar d v =>
    cases d with
    | special n => cases hw
    | pred n => cases hw
    | vreg q n => cases hw
    | vlatch q n => cases hw
    | a j => exact ⟨rfl, fun k => SMap.get_set 0#64 x.a j k v⟩
    | b j => exact ⟨rfl, fun k => SMap.get_set 0#64 x.b j k v⟩
    | d j =>
      refine ⟨rfl, fun k => ?_⟩
      show SMap.get 0#64 (SMap.set 0#64 x.d j (v - x.dOffset j)) k + (x.closed n r next).dOffset k = if k = j then v else (x.closed n r next).dReg k
      rw [SMap.get_set, Ctx.dOffset_closed hnest]
      by_cases hk : k = j
      · rw [if_pos hk, if_pos hk, hk, BitVec.sub_add_cancel]
      · rw [if_neg hk, if_neg hk]
        show SMap.get 0#64 x.d k + x.dOffset k = SMap.get 0#64 x.d k + (x.closed n r next).dOffset k
        rw [Ctx.dOffset_closed hnest]
    | e j => exact ⟨rfl, fun k => SMap.get_set 0#64 x.e j k v⟩
    | m j => exact ⟨rfl, fun k => SMap.get_set 0#64 x.m j k v⟩
    | j j => exact ⟨rfl, fun k => SMap.get_set 0#64 x.j j k v⟩
    | latch sl j => exact ⟨rfl, fun k => SMap.get_set 0#64 x.q (8 * sl + j) k v⟩
    | const j => exact ⟨rfl, fun k => SMap.get_set 0#32 x.c j k (v.truncate 32)⟩
  | vector d v m =>
    cases d with
    | vreg q j =>
      cases q with
      | true => exact ⟨rfl, Vec.took_modify v m, fun k hk => SMap.get_modify_ne _ _ _ _ _ hk⟩
      | false => exact ⟨rfl, Vec.took_modify v m, fun k hk => SMap.get_modify_ne _ _ _ _ _ hk⟩
    | vlatch q j =>
      cases q with
      | true => exact ⟨rfl, Vec.took_modify v m, fun k hk => SMap.get_modify_ne _ _ _ _ _ hk⟩
      | false => exact ⟨rfl, Vec.took_modify v m, fun k hk => SMap.get_modify_ne _ _ _ _ _ hk⟩
    | _ => cases hw
  | predicate j v m =>
    show Ctx.Gets (x.closed n r next) ((x.setPred j v m).closed n r next) (.predicate j v m)
    unfold Ctx.setPred
    split
    · next hj =>
      refine ⟨rfl, fun k => ?_⟩
      show (if k = 0 then Mask.all else if k < 12 then SMap.get 0#64 (SMap.modify 0#64 x.p j fun o => (o &&& ~~~m) ||| (v &&& m)) k
          else if (x.loops.release r).status k then Mask.all else 0#64) =
        if k = j ∧ 1 ≤ k ∧ k ≤ 11 then ((x.closed n r next).pred k &&& ~~~m) ||| (v &&& m) else (x.closed n r next).pred k
      by_cases hk : k = j
      · rw [if_neg (by omega), if_pos (by omega), if_pos ⟨hk, by omega, by omega⟩, hk, SMap.get_modify_self]
        show _ = ((if j = 0 then Mask.all else if j < 12 then SMap.get 0#64 x.p j else _) &&& ~~~m) ||| (v &&& m)
        rw [if_neg (by omega), if_pos (by omega)]
      · rw [if_neg (c := k = j ∧ 1 ≤ k ∧ k ≤ 11) fun h => hk h.1, SMap.get_modify_ne _ _ _ _ _ hk]
        rfl
    · next hj =>
      refine ⟨rfl, fun k => ?_⟩
      rw [if_neg (by omega)]
  | fmt v => rfl
  | _ => cases hw

/-! ### What the statement says of a bundle -/

/-- Row pairs that do not arrive leave the stream registers as they are read. -/
theorem get_deliverAll {n : Nat} {m : SMap Stream} (h : ∀ k, Stream.deliver n (SMap.get {} m k) = SMap.get {} m k) (k : Nat) :
    SMap.get {} (SMap.mapVals {} (Stream.deliverAll n) m) k = SMap.get {} m k := by
  rw [SMap.get_mapVals ({} : Stream) (Stream.deliverAll n) rfl, Stream.deliverAll, h, h]

section bundle
variable {s : State} {x : Ctx} {i : Instr} (hissues : s.Issues x) (hparts : i.parts.isSome = true)
  (hkind : ∀ f, i ≠ .done f ∧ i ≠ .rft f ∧ i ≠ .yield f)

/-- The context after a bundle in which nothing lands, but for its flights. -/
def Ctx.passed (x : Ctx) (s : State) (i : Instr) (fl : List Flight) : Ctx :=
  { x with
    pc := x.pc + BitVec.ofNat 48 (4 * (3 + s.lits.length)), count := x.count + 1, f := SMap.mapVals {} (Stream.deliverAll x.count) x.f
    loops := x.loopsAfter s i, flight := fl }

include hissues in
theorem Ctx.closed_eq_passed (fl : List Flight) (ks : SMap Token) : Ctx.closed
      { x with flight := fl, k := ks, loops := x.loops.issued [s.opAlone i (Instr.slotPart i).1 (Instr.slotPart i).2.1] } x.count
      (shownAlone s i).hdr.release (x.pc + BitVec.ofNat 48 (4 * (3 + s.lits.length))) = Ctx.passed { x with k := ks } s i fl := by
  obtain ⟨⟨-, -, -, -, hrep, -⟩, -⟩ := hissues
  unfold Ctx.closed Ctx.passed Ctx.loopsAfter
  dsimp only
  rw [hrep]

include hissues hparts hkind

theorem Ctx.passes {b : State} {tok : Option Nat} {f : State → State} {fl : List Flight} {ks : SMap Token} (hbars : b.barWaits = []) (hcalm : x.Calm) (hrest : (fl.filter fun f => !decide (f.land ≤ x.count)) = fl)
    (hf : b.Now (f (s.counted tok)) s.cur { x with flight := fl, k := ks }) :
    b.Now (s.issued x i tok f) s.cur (Ctx.passed { x with k := ks } s i fl) := by
  obtain ⟨-, -, hbr, hnest, hstart, -⟩ := hcalm
  have hnone : fl.filter (fun f => decide (f.land ≤ x.count)) = [] := by
    rw [List.filter_eq_nil_iff]
    intro g hg
    have hlate := List.filter_eq_self.mp hrest g hg
    rw [Bool.not_eq_true'] at hlate
    rw [hlate]
    exact Bool.false_ne_true
  rw [← Ctx.closed_eq_passed hissues fl ks]
  exact State.Now.issued hparts hkind hbr hnest hstart hbars hf (fun w hw => hw.landWhere_none hrest hnone) rfl

theorem Ctx.lands {b : State} {tok : Option Nat} {f : State → State} {fl rest : List Flight} {ks : SMap Token} {a : Nat} {w : Landing}
    (hbars : b.barWaits = []) (hbr : x.br = none) (hnest : x.loops.nest = none)
    (hstart : x.loops.starting = none) (hw : w.isRegister = true) (hrest : (fl.filter fun f => !decide (f.land ≤ x.count)) = rest)
    (hone : fl.filter (fun f => decide (f.land ≤ x.count)) = [⟨a, w⟩])
    (hf : b.Now (f (s.counted tok)) s.cur { x with flight := fl, k := ks }) :
    ∃ y, b.Now (s.issued x i tok f) s.cur y ∧ Ctx.Gets (Ctx.passed { x with k := ks } s i rest) y w ∧ y.f = (x.passed s i rest).f ∧
      y.loops = x.loopsAfter s i := by
  have hkeeps (z : Ctx) := Ctx.landed_keeps z hw
  have hnest' : (x.loops.issued [s.opAlone i (Instr.slotPart i).1 (Instr.slotPart i).2.1]).nest = none :=
    (LoopState.setHeld_nest _ _ _).1.trans hnest
  refine ⟨_, State.Now.issued hparts hkind hbr hnest hstart hbars hf (fun v hv => hv.landWhere_one hw hrest hone) (hkeeps _).2, ?_, ?_, ?_⟩
  · rw [← Ctx.closed_eq_passed hissues rest ks]
    exact Ctx.gets_closed hnest' hw _ _ _
  · exact congrArg (SMap.mapVals {} (Stream.deliverAll x.count)) (hkeeps _).1
  · exact congrArg (LoopState.release · (shownAlone s i).hdr.release) (hkeeps _).2

end bundle

theorem filter_keep {l : List Flight} {n : Nat} (h : ∀ f ∈ l, n < f.land) :
    (l.filter fun f => !decide (f.land ≤ n)) = l ∧ l.filter (fun f => decide (f.land ≤ n)) = [] := by
  refine ⟨List.filter_eq_self.mpr fun f hf => ?_, List.filter_eq_nil_iff.mpr fun f hf => ?_⟩
  · rw [decide_eq_false (by have := h f hf; omega)]
    rfl
  · rw [decide_eq_false (by have := h f hf; omega)]
    exact Bool.false_ne_true

theorem State.Now.addFlight {s : State} {x : Ctx} (lat : Nat) (w : Landing) (u : State) (h : s.Now u s.cur x) :
    s.Now (u.addFlight s.cur lat w) s.cur { x with flight := x.flight ++ [⟨x.count + lat - 1, w⟩] } :=
  h.modCtx fun x => { x with flight := x.flight ++ [⟨x.count + lat - 1, w⟩] }

section clauses
variable {s : State} {x : Ctx} {i : Instr} {w : Landing} (hissues : s.Issues x) (hbars : s.barWaits = []) (hparts : i.parts.isSome = true)
  (hkind : ∀ f, i ≠ .done f ∧ i ≠ .rft f ∧ i ≠ .yield f)
include hissues hbars hparts hkind

/-- A result of latency 2 or more is in flight after its bundle. -/
theorem result_in_flight_clause {lat : Nat} (hcalm : x.Calm) (hlat : 2 ≤ lat) (hyields : s.Yields x i lat w) :
    ∃ t y, exec i s = .next t ∧ s.OnlyCtx t s.cur ∧ t.ctx s.cur = some y ∧
      y = { x with pc := x.pc + BitVec.ofNat 48 (4 * (3 + s.lits.length)), count := x.count + 1, f := y.f, loops := y.loops
                   flight := x.flight ++ [⟨x.count + lat - 1, w⟩] } ∧
      (∀ k, SMap.get {} y.f k = SMap.get {} x.f k) ∧ (slotSticky (Instr.slotPart i).1 = false → y.loops = x.loops) := by
  have hlate : ∀ f ∈ x.flight ++ [⟨x.count + lat - 1, w⟩], x.count < f.land := by
    intro f hf
    obtain hf | hf := List.mem_append.mp hf
    · exact hcalm.1 f hf
    · rw [List.mem_singleton.mp hf]
      show x.count < x.count + lat - 1
      omega
  obtain ⟨honly, hctx⟩ := Ctx.passes (b := s) (tok := none) (f := fun t => t.addFlight s.cur lat w) (ks := x.k) hissues hparts hkind hbars hcalm
    (filter_keep hlate).1 (State.Now.addFlight lat w _ (State.now_shown hissues))
  exact ⟨_, _, hyields, honly, hctx, rfl, get_deliverAll hcalm.2.1, Ctx.loopsAfter_of_not_sticky hissues⟩

/-- A result of latency 1 stands in its register after its bundle. -/
theorem result_lands_clause (hcalm : x.Calm) (hw : w.isRegister = true) (hyields : s.Yields x i 1 w) :
    ∃ t y, exec i s = .next t ∧ s.OnlyCtx t s.cur ∧ t.ctx s.cur = some y ∧
      Ctx.Gets { x with pc := x.pc + BitVec.ofNat 48 (4 * (3 + s.lits.length)), count := x.count + 1, f := y.f, loops := y.loops } y w ∧
      (∀ k, SMap.get {} y.f k = SMap.get {} x.f k) ∧ (slotSticky (Instr.slotPart i).1 = false → y.loops = x.loops) := by
  obtain ⟨hflight, hstreams, hbr, hnest, hstart, -⟩ := hcalm
  obtain ⟨hkeep, hnone⟩ := filter_keep hflight
  have hdue : decide ((⟨x.count + 1 - 1, w⟩ : Flight).land ≤ x.count) = true := decide_eq_true (Nat.le_refl _)
  have hrest : ((x.flight ++ [(⟨x.count + 1 - 1, w⟩ : Flight)]).filter fun f => !decide (f.land ≤ x.count)) = x.flight := by
    rw [List.filter_append, hkeep, filter_one, hdue]
    exact List.append_nil _
  have hone : (x.flight ++ [(⟨x.count + 1 - 1, w⟩ : Flight)]).filter (fun f => decide (f.land ≤ x.count)) = [⟨x.count, w⟩] := by
    rw [List.filter_append, hnone, filter_one, hdue]
    rfl
  obtain ⟨y, ⟨honly, hctx⟩, hgets, hf, hloops⟩ :=
    Ctx.lands (b := s) (tok := none) (f := fun t => t.addFlight s.cur 1 w) (ks := x.k) hissues hparts hkind hbars hbr hnest hstart hw hrest hone
      (State.Now.addFlight 1 w _ (State.now_shown hissues))
  refine ⟨_, y, hyields, honly, hctx, ?_, fun k => ?_, fun h => hloops.trans (Ctx.loopsAfter_of_not_sticky hissues h)⟩
  · rw [hf, hloops]
    exact hgets
  · rw [hf]
    exact get_deliverAll hstreams k

/-- A result in flight for the count of a bundle stands in its register after it. -/
theorem flight_lands_clause {g h : List Flight} (hflight : x.flight = g ++ ⟨x.count, w⟩ :: h) (hcalm : ({ x with flight := g ++ h } : Ctx).Calm)
    (hw : w.isRegister = true) (hcompletes : s.Completes x i none id) :
    ∃ t y, exec i s = .next t ∧ s.OnlyCtx t s.cur ∧ t.ctx s.cur = some y ∧
      Ctx.Gets { x with pc := x.pc + BitVec.ofNat 48 (4 * (3 + s.lits.length)), count := x.count + 1, f := y.f, loops := y.loops, flight := g ++ h } y w ∧
      (∀ k, SMap.get {} y.f k = SMap.get {} x.f k) ∧ (slotSticky (Instr.slotPart i).1 = false → y.loops = x.loops) := by
  obtain ⟨hlate, hstreams, hbr, hnest, hstart, -⟩ := hcalm
  obtain ⟨hg, hg'⟩ := filter_keep (l := g) fun f hf => hlate f (List.mem_append_left h hf)
  obtain ⟨hh, hh'⟩ := filter_keep (l := h) fun f hf => hlate f (List.mem_append_right g hf)
  have hdue : decide ((⟨x.count, w⟩ : Flight).land ≤ x.count) = true := decide_eq_true (Nat.le_refl _)
  have hrest : (x.flight.filter fun f => !decide (f.land ≤ x.count)) = g ++ h := by
    rw [hflight, List.filter_append, hg, List.filter_cons, hdue, hh]
    rfl
  have hone : x.flight.filter (fun f => decide (f.land ≤ x.count)) = [⟨x.count, w⟩] := by
    rw [hflight, List.filter_append, hg', List.filter_cons, hdue, hh']
    rfl
  obtain ⟨y, ⟨honly, hctx⟩, hgets, hf, hloops⟩ := Ctx.lands (b := s) (tok := none) (f := id) (ks := x.k) hissues hparts hkind hbars hbr
    hnest hstart hw hrest hone (State.now_shown hissues)
  refine ⟨_, y, hcompletes, honly, hctx, ?_, fun k => ?_, fun h => hloops.trans (Ctx.loopsAfter_of_not_sticky hissues h)⟩
  · rw [hf, hloops]
    exact hgets
  · rw [hf]
    exact get_deliverAll hstreams k

end clauses

/-- The predicate that VOTE names holds its result after the bundle (R214, R353). -/
theorem vote_lands_clause {s : State} {x : Ctx} {f : CForm} (hissues : s.Issues x) (hcalm : x.Calm) (hbars : s.barWaits = []) (hg : x.Guarded f.g)
    (hj : f.j = 0#2) (himm : f.imm = 0#20) (hx : f.x = 0#8) :
    ∃ t y, exec (.vote f) s = .next t ∧ s.OnlyCtx t s.cur ∧ t.ctx s.cur = some y ∧
      y = { x with pc := x.pc + BitVec.ofNat 48 (4 * (3 + s.lits.length)), count := x.count + 1, f := y.f, loops := y.loops, p := y.p } ∧
      (∀ k, k < 16 → y.pred k =
        if k = f.pd.toNat ∧ 1 ≤ k ∧ k ≤ 11 then (if x.pred f.pe.toNat = 0#64 then 0#64 else BitVec.allOnes 64) else x.pred k) ∧
      x.pred 0 = BitVec.allOnes 64 ∧ y.pred 12 = 0#64 := by
  have hyields := (controlResults.1 s x f hissues hg).2.2.1 hj himm hx
  obtain ⟨t, y, hexec, honly, hctx, ⟨hy, hpred⟩, -, hloops⟩ := result_lands_clause hissues hbars rfl
    (fun _ => ⟨Instr.noConfusion, Instr.noConfusion, Instr.noConfusion⟩) hcalm rfl hyields
  have hold (k : Nat) : Ctx.pred { x with pc := x.pc + BitVec.ofNat 48 (4 * (3 + s.lits.length)), count := x.count + 1, f := y.f, loops := y.loops } k =
      x.pred k := by
    rw [hloops rfl]
    rfl
  have hnest := hcalm.2.2.2.1
  have hnow (k : Nat) : y.pred k = if k = f.pd.toNat ∧ 1 ≤ k ∧ k ≤ 11 then (if x.pred f.pe.toNat = 0#64 then 0#64 else BitVec.allOnes 64) else x.pred k := by
    rw [hpred k, hold]
    split
    · rw [show Mask.all = BitVec.allOnes 64 from rfl, BitVec.not_allOnes, BitVec.and_zero, BitVec.zero_or, BitVec.and_allOnes]
    · rfl
  refine ⟨t, y, hexec, honly, hctx, hy, fun k _ => hnow k, rfl, ?_⟩
  rw [hnow, if_neg (by omega)]
  show (if x.loops.status 12 then Mask.all else 0#64) = 0#64
  rw [LoopState.status, hnest]
  rfl

/-- Settles O52: the bundle changes its own context alone, step by step; what is due at its count lands in its register, and nothing else does. -/
theorem resultsLandAndFrame : Obligations.ResultsLandAndFrame := by
  unfold Obligations.ResultsLandAndFrame
  refine ⟨fun s x i lat hissues hbars hparts hkind => ⟨?_, ?_, ?_⟩, ?_⟩
  · exact fun w hcalm hlat hyields => result_in_flight_clause hissues hbars hparts hkind hcalm hlat hyields
  · exact fun w hcalm hw hyields => result_lands_clause hissues hbars hparts hkind hcalm hw hyields
  · exact fun w g h hflight hcalm hw hcompletes => flight_lands_clause hissues hbars hparts hkind hflight hcalm hw hcompletes
  · exact fun s x f hissues hcalm hbars hg hj himm hx => vote_lands_clause hissues hcalm hbars hg hj himm hx

end Sys2Proof.Machine

/-! ## Trap entry (R265 to R269) -/

namespace Sys2Proof.Machine

set_option Elab.async false

/-! ### TCAUSE -/

section cause
variable (t : TrapReq) (psup : Bool)

/-- TCAUSE of a bundle with no repetition left (R267). -/
def causeNat : Nat :=
  2 ^ 25 + (if psup then 2 ^ 24 else 0) + t.slot.elim (2 ^ 19) (fun n => n % 8 * 2 ^ 16) + t.code % 256

theorem causeNat_eq : ∃ c h b, c = t.code % 256 ∧ h = (if t.slot = none then 8 else t.slot.getD 0 % 8) ∧ b = (if psup then 1 else 0) ∧
    causeNat t psup = 2 ^ 25 + 2 ^ 24 * b + 2 ^ 16 * h + c := by
  refine ⟨_, _, _, rfl, rfl, rfl, ?_⟩
  unfold causeNat
  cases hslot : t.slot with
  | none => cases psup <;> simp
  | some n => cases psup <;> simp [Nat.mul_comm]

theorem toNat_trapCause : (trapCause t 0 psup).toNat = causeNat t psup := by
  obtain ⟨c, h, b, hc, hh, hb, heq⟩ := causeNat_eq t psup
  have hsmall : causeNat t psup < 2 ^ 64 := by
    rw [heq]
    have : h ≤ 8 := by rw [hh]; split <;> omega
    have : b ≤ 1 := by rw [hb]; split <;> omega
    omega
  have hcause : trapCause t 0 psup = BitVec.ofNat 64 (causeNat t psup) := by
    unfold trapCause causeNat
    rw [Nat.zero_mod, Nat.zero_mul, Nat.zero_add]
    cases t.slot with
    | none => rfl
    | some n => rfl
  rw [hcause, BitVec.toNat_ofNat, Nat.mod_eq_of_lt hsmall]

/-- The fields of TCAUSE (R267, R269). -/
theorem trapCause_fields (hcode : t.code < 256) : (trapCause t 0 psup).toNat % 256 = t.code ∧
    (trapCause t 0 psup).toNat / 2 ^ 16 % 8 = t.slot.getD 0 % 8 ∧ ((trapCause t 0 psup).getLsbD 19 = true ↔ t.slot = none) ∧
    (trapCause t 0 psup).getLsbD 24 = psup ∧ (trapCause t 0 psup).getLsbD 25 = true ∧ (trapCause t 0 psup).toNat / 2 ^ 26 = 0 := by
  obtain ⟨c, h, b, hc, hh, hb, heq⟩ := causeNat_eq t psup
  have hcode' : c = t.code := hc.trans (Nat.mod_eq_of_lt hcode)
  have hb1 : b ≤ 1 := by rw [hb]; split <;> omega
  have hh8 : h ≤ 8 := by rw [hh]; split <;> omega
  have hbit (i : Nat) : (trapCause t 0 psup).getLsbD i = decide ((2 ^ 25 + 2 ^ 24 * b + 2 ^ 16 * h + c) / 2 ^ i % 2 = 1) := by
    rw [BitVec.getLsbD, toNat_trapCause, heq, Nat.testBit_eq_decide_div_mod_eq]
  rw [toNat_trapCause, heq, hbit, hbit, hbit]
  refine ⟨by omega, ?_, ?_, ?_, decide_eq_true (by omega), by omega⟩
  · have hfield : (2 ^ 25 + 2 ^ 24 * b + 2 ^ 16 * h + c) / 2 ^ 16 % 8 = h % 8 := by omega
    rw [hfield, hh]
    split
    · next hnone => rw [hnone]; rfl
    · exact Nat.mod_mod _ _
  · rw [decide_eq_true_iff]
    have hfield : (2 ^ 25 + 2 ^ 24 * b + 2 ^ 16 * h + c) / 2 ^ 19 % 2 = 1 ↔ h = 8 := by omega
    rw [hfield, hh]
    split
    · next hnone => exact ⟨fun _ => hnone, fun _ => rfl⟩
    · next hsome =>
      refine ⟨fun height => ?_, fun hnone => absurd hnone hsome⟩
      omega
  · have hfield : (2 ^ 25 + 2 ^ 24 * b + 2 ^ 16 * h + c) / 2 ^ 24 % 2 = 1 ↔ b = 1 := by omega
    have hsup : b = 1 ↔ psup = true := by
      rw [hb]
      split
      · next hp => exact ⟨fun _ => hp, fun _ => rfl⟩
      · next hp => exact ⟨fun h => absurd h Nat.zero_ne_one, fun h => absurd h hp⟩
    exact Bool.eq_iff_iff.mpr (decide_eq_true_iff.trans (hfield.trans hsup))

end cause

/-! ### A trap that is delivered -/

theorem Stream.buf_freeze (n : Nat) (t : Stream) : (t.freeze n).buf = t.buf := by
  unfold Stream.freeze
  split
  · rfl
  · rfl

section trap
variable {s : State} {x : Ctx} {i : Instr} {q : TrapReq} (hissues : s.Issues x) (htraps : s.Traps x i q)
include hissues htraps

theorem trap_delivered_clause (hcode : q.code < 256) {pa : Nat} (hnest : x.tcause.getLsbD 25 = false) (htvec : s.tvec (ctxDie s.cur) ≠ 0#64)
    (htrans : s.translate (ctxCluster s.cur) true .fetch ((s.tvec (ctxDie s.cur)).toNat + 64 * q.code) = .ok pa) (hstart : s.startBit pa = true)
    (hmark : q.mark = none) (hjoin : x.join = none) :
    ∃ t y, exec i s = .next t ∧ s.OnlyCtx t s.cur ∧ t.ctx s.cur = some y ∧
      y = { x with pc := BitVec.ofNat 48 ((s.tvec (ctxDie s.cur)).toNat + 64 * q.code), sup := true, traparg := q.arg, tpc := x.pc.zeroExtend 64
                   txpc := (q.txpc.getD x.pc).zeroExtend 64, tcause := y.tcause, snap := y.snap, flight := y.flight, f := y.f, br := none, loops := {}
                   due := [], repLeft := none, arrived := false } ∧
      (∀ k, (SMap.get {} y.f k).buf = (SMap.get {} x.f k).buf) ∧
      y.tcause.toNat % 256 = q.code ∧ y.tcause.toNat / 2 ^ 16 % 8 = q.slot.getD 0 % 8 ∧ (y.tcause.getLsbD 19 = true ↔ q.slot = none) ∧
      y.tcause.getLsbD 24 = x.sup ∧ y.tcause.getLsbD 25 = true ∧ y.tcause.toNat / 2 ^ 26 = 0 ∧
      ∃ sn, y.snap = some sn ∧ sn.br = x.br ∧ sn.loops = x.loops ∧ sn.q = x.q ∧ sn.qv = x.qv ∧ sn.qw = x.qw ∧
        sn.flights = (x.stopMacros.flight.filter fun g => !g.what.isReply).map fun g => { g with land := g.land - x.count + 1 } := by
  obtain ⟨⟨hctx, -⟩, -⟩ := hissues
  have hdeliver : s.deliverable s.cur x q.code = true := by
    have hhandler : x.inHandler = false := hnest
    unfold State.deliverable State.trapVector
    rw [hhandler, htrans, bne_iff_ne.mpr htvec]
    exact hstart
  have habort : s.abortJoin s.cur = (s, []) := by
    unfold State.abortJoin
    rw [hctx]
    dsimp only
    rw [hjoin]
  have hstep : s.takeTrap s.cur q x.pc 0 [] = s.modCtx s.cur fun x => x.enterTrap q x.pc 0 [] (s.trapVector s.cur q.code) := by
    have hlit : s.takeTrap s.cur q x.pc 0 [] = s.modCtx s.cur fun y => y.enterTrap q x.pc 0 [] (s.trapVector s.cur q.code) := by
      unfold State.takeTrap
      rw [hctx]
      dsimp only
      rw [if_pos hdeliver, habort]
      rfl
    rw [hlit]
    unfold State.modCtx
    rw [hctx]
  obtain ⟨honly, hentered⟩ := (State.now_self hctx).modCtx fun x => x.enterTrap q x.pc 0 [] (s.trapVector s.cur q.code)
  have henter : x.enterTrap q x.pc 0 [] (s.trapVector s.cur q.code) = { x with
      snap := some
        { flights := (x.stopMacros.flight.filter fun f => !f.what.isReply).map fun f => { f with land := f.land - x.count + 1 }
          br := x.br, loops := x.loops, due := [], q := x.q, qv := x.qv, qw := x.qw }
      flight := x.stopMacros.flight.filter fun f => f.what.isReply
      f := SMap.mapVals {} (Stream.freeze x.count) x.f
      br := none, loops := {}, due := [], tpc := x.pc.zeroExtend 64, tcause := trapCause q 0 x.sup, traparg := q.arg
      txpc := (q.txpc.getD x.pc).zeroExtend 64, sup := true, pc := BitVec.ofNat 48 (s.trapVector s.cur q.code), repLeft := none, arrived := false } := by
    unfold Ctx.enterTrap
    rw [hmark]
    rfl
  obtain ⟨hlow, hslot, hnone, hpsup, hset, hhigh⟩ := trapCause_fields q x.sup hcode
  rw [henter] at hentered
  refine ⟨_, _, htraps.trans (congrArg Host.Outcome.next hstep), honly, hentered, rfl, fun k => ?_, hlow, hslot, hnone, hpsup, hset, hhigh,
    _, rfl, rfl, rfl, rfl, rfl, rfl, rfl⟩
  dsimp only
  rw [SMap.get_mapVals ({} : Stream) (Stream.freeze x.count) rfl, Stream.buf_freeze]

end trap

/-! ### A trap that ends the session -/

/-- The end of a session: its state, its cause, its contexts, and the log. -/
theorem State.endSession_ends (s : State) (cause : Nat) : (s.endSession cause).sess.endcause = BitVec.ofNat 8 cause ∧
    (s.endSession cause).sess.state = .loaded ∧ (s.endSession cause).ctxs = [] ∧ (s.endSession cause).logCount = s.logCount ∧
    (s.endSession cause).log = s.log := by
  have hfinish (w u : State) (hu : ∃ e o p, u = { w with thermal := e, out := o, ports := p }) :
      (u.dropHostLines.msix 2).sess = w.sess ∧ (u.dropHostLines.msix 2).ctxs = w.ctxs ∧ (u.dropHostLines.msix 2).logCount = w.logCount ∧
        (u.dropHostLines.msix 2).log = w.log := by
    obtain ⟨e, o, p, rfl⟩ := hu
    unfold State.msix State.sendHost
    split
    · exact ⟨rfl, rfl, rfl, rfl⟩
    · exact ⟨rfl, rfl, rfl, rfl⟩
  have hself (w : State) := hfinish w w ⟨w.thermal, w.out, w.ports, rfl⟩
  have htherm (w : State) : ∃ e o p, w.setTherm .coldReady = { w with thermal := e, out := o, ports := p } := by
    obtain ⟨e, o, p, h⟩ := setTherm_eq w .coldReady
    exact ⟨_, o, p, h⟩
  have hapart := State.apart_applyAtomics s
  have hlog : s.applyAtomics.logCount = s.logCount ∧ s.applyAtomics.log = s.log := ⟨(congrArg State.logCount hapart :), (congrArg State.log hapart :)⟩
  unfold State.endSession
  dsimp only
  split
  · obtain ⟨hsess, hctxs, hcount, hkept⟩ := hfinish _ _ (htherm _)
    exact ⟨congrArg Session.endcause hsess, congrArg Session.state hsess, hctxs, hcount.trans hlog.1, hkept.trans hlog.2⟩
  · obtain ⟨hsess, hctxs, hcount, hkept⟩ := hfinish _ _ (htherm _)
    exact ⟨congrArg Session.endcause hsess, congrArg Session.state hsess, hctxs, hcount.trans hlog.1, hkept.trans hlog.2⟩
  · obtain ⟨hsess, hctxs, hcount, hkept⟩ := hself _
    exact ⟨congrArg Session.endcause hsess, congrArg Session.state hsess, hctxs, hcount.trans hlog.1, hkept.trans hlog.2⟩

/-- A new entry of the log is kept, and counted. -/
theorem State.addLog_logged (s : State) (kind source code addr : Nat) : (s.addLog kind source code addr).logCount = s.logCount + 1 ∧
    ∃ e ∈ (s.addLog kind source code addr).log, e.kind = BitVec.ofNat 16 kind ∧ e.code = BitVec.ofNat 32 code := by
  have hsend (w : State) : (w.msix 3).logCount = w.logCount ∧ (w.msix 3).log = w.log := by
    unfold State.msix State.sendHost
    split
    · exact ⟨rfl, rfl⟩
    · exact ⟨rfl, rfl⟩
  unfold State.addLog
  dsimp only
  rw [(hsend _).1, (hsend _).2]
  refine ⟨rfl, ⟨BitVec.ofNat 64 s.time, BitVec.ofNat 16 kind, BitVec.ofNat 16 source, BitVec.ofNat 32 code, BitVec.ofNat 64 addr⟩, ?_, rfl, rfl⟩
  dsimp only
  rw [List.drop_append_of_le_length (by omega)]
  exact List.mem_append_right _ (List.mem_singleton_self _)

theorem trap_undeliverable_clause {s : State} {x : Ctx} {i : Instr} {q : TrapReq} (hissues : s.Issues x) (htraps : s.Traps x i q)
    (hno : x.tcause.getLsbD 25 = true ∨ s.tvec (ctxDie s.cur) = 0#64) :
    ∃ t, exec i s = .next t ∧ t.sess.endcause = 4#8 ∧ t.sess.state = .loaded ∧ t.ctxs = [] ∧ t.logCount = s.logCount + 1 ∧
      ∃ e ∈ t.log, e.kind = 3#16 ∧ e.code = BitVec.ofNat 32 q.code := by
  obtain ⟨⟨hctx, -⟩, -⟩ := hissues
  have hdeliver : s.deliverable s.cur x q.code = false := by
    unfold State.deliverable
    obtain h | h := hno
    · rw [show x.inHandler = true from h]
      rfl
    · rw [h, bne_self_eq_false, Bool.and_false, Bool.false_and]
  have hstep : s.takeTrap s.cur q x.pc 0 [] = s.undeliverable s.cur q.code := by
    unfold State.takeTrap
    rw [hctx]
    dsimp only
    rw [hdeliver]
    rfl
  unfold State.undeliverable at hstep
  obtain ⟨hcount, e, he, hkind, hcode⟩ := State.addLog_logged s 3 (logSource 1 (ctxCluster s.cur % 72) (ctxDie s.cur)) q.code 0
  generalize s.addLog 3 (logSource 1 (ctxCluster s.cur % 72) (ctxDie s.cur)) q.code 0 = u at hstep hcount he
  obtain ⟨hcause, hstate, hctxs, hkeptCount, hkept⟩ := State.endSession_ends u 4
  exact ⟨_, htraps.trans (congrArg Host.Outcome.next hstep), hcause, hstate, hctxs, hkeptCount.trans hcount, e, hkept ▸ he, hkind, hcode⟩

/-- Settles O53: the fields of the entered context and of TCAUSE, or the session that ends with its entry of the log. -/
theorem trapEntry : Obligations.TrapEntry := by
  unfold Obligations.TrapEntry
  intro s x i q hissues htraps hcode
  refine ⟨fun pa hnest htvec htrans hstart hmark hjoin => ?_, fun hno => ?_⟩
  · exact trap_delivered_clause hissues htraps hcode hnest htvec htrans hstart hmark hjoin
  · exact trap_undeliverable_clause hissues htraps hno

end Sys2Proof.Machine

/-! ## Guards, bad fields, privilege and assists (R263, R264, R300, R314) -/

namespace Sys2Proof.Machine

set_option Elab.async false

section scalar
variable {s : State} {x : Ctx} (hissues : s.Issues x)

/-- A register form of a scalar slot: under its guard it checks its fields, then it acts. -/
structure ScalarForm (s : State) (x : Ctx) (f : SReg) (i : Instr) (k : SlotOut) : Prop where
  under : ActsUnder i f.g
  slot : (Instr.slotPart i).1 = f.slot.slot
  answer : evalInstr i (s.envAlone x i) = (s.envAlone x i).guarded (sregChecks f true true true) k

theorem scalarForm_of_mem (s : State) (x : Ctx) {f : SReg} {i : Instr}
    (h : i ∈ [Instr.add f, .sub f, .mul f, .mulh f, .mulhn f, .div f, .divn f, .rem f, .and f, .or f, .xor f, .andn f, .shl f,
      .shr f, .sar f, .rot f, .min f, .max f, .minn f, .maxn f]) : ∃ k, ScalarForm s x f i k := by
  simp only [List.mem_cons, List.not_mem_nil, or_false] at h
  obtain rfl | rfl | rfl | rfl | rfl | rfl | rfl | rfl | rfl | rfl | rfl | rfl | rfl | rfl | rfl | rfl | rfl | rfl | rfl | rfl := h
  all_goals exact ⟨_, ⟨rfl, rfl, rfl⟩, rfl, rfl⟩

theorem SSlot.num_slot (sl : SSlot) : sl.slot.num = if sl = .s0 then 1 else 2 := by
  cases sl with
  | s0 => rfl
  | s1 => rfl

include hissues

theorem ScalarForm.completes_of_not_guarded {f : SReg} {i : Instr} {k : SlotOut} (hform : ScalarForm s x f i k) (hg : ¬ x.Guarded f.g) :
    s.Completes x i none id := by
  obtain ⟨⟨hencoded, hissue, hguard⟩, -, hanswer⟩ := hform
  refine completes_of_answer hencoded hissues hissue (hanswer.trans (if_neg ?_))
  rw [← hguard] at hg
  exact hg

theorem ScalarForm.traps_of_bad {f : SReg} {i : Instr} {k : SlotOut} {c : Check} (hform : ScalarForm s x f i k) (hg : x.Guarded f.g)
    (hbad : firstBad (sregChecks f true true true) = some c) :
    s.Traps x i { code := 0x02, arg := BitVec.ofNat 64 ((if f.slot = .s0 then 1 else 2) + 16 * c.field + 65536 * (c.value % 512))
                  slot := some (if f.slot = .s0 then 1 else 2) } := by
  obtain ⟨hunder, hslot, hanswer⟩ := hform
  have htrap : s.Traps x i
      { code := 0x02, arg := BitVec.ofNat 64 ((s.envAlone x i).slot.num + 16 * c.field + 65536 * (c.value % 512)), slot := some (s.envAlone x i).slot.num } :=
    traps_of_answer hunder.encoded hissues hunder.atIssue (.inr rfl) (.inl nofun) (hanswer.trans (Env.guarded_bad _ _ k c (envAlone_guarded hunder hg) hbad))
  have hnum : (s.envAlone x i).slot.num = if f.slot = .s0 then 1 else 2 := (congrArg Slot.num hslot).trans (SSlot.num_slot f.slot)
  rw [hnum] at htrap
  exact htrap

/-- An operation that answers PRIV takes it in its slot. -/
theorem traps_priv {i : Instr} {g : Guard} {n num : Nat} (hunder : ActsUnder i g) (hnum : (Instr.slotPart i).1.num = num)
    (hanswer : evalInstr i (s.envAlone x i) = (s.envAlone x i).priv n) : ∃ a, s.Traps x i { code := 0x10, arg := a, slot := some num } := by
  subst hnum
  exact ⟨_, traps_of_answer hunder.encoded hissues hunder.atIssue (.inr rfl) (.inl nofun) hanswer⟩

variable (huser : x.sup = false)
include huser

theorem setwin_priv {f : CForm} (hg : x.Guarded f.g) : ∃ a, s.Traps x (.setwin f) { code := 0x10, arg := a, slot := some 0 } := by
  refine traps_priv hissues (g := f.g) (n := 0) ⟨rfl, rfl, rfl⟩ rfl ((if_pos hg).trans (if_neg ?_))
  rw [show (s.envAlone x (.setwin f)).x.sup = false from huser]
  exact Bool.false_ne_true

theorem rft_priv {f : CForm} (hg : x.Guarded f.g) : ∃ a, s.Traps x (.rft f) { code := 0x10, arg := a, slot := some 0 } := by
  refine traps_priv hissues (g := f.g) (n := 0) ⟨rfl, rfl, rfl⟩ rfl ((if_pos hg).trans (if_pos ?_))
  rw [show (s.envAlone x (.rft f)).x.sup = false from huser]
  rfl

theorem mfs_priv {f : SImm} (hg : x.Guarded f.g) (hsup : specialSup (f.imm.toNat % 4096) = true) :
    ∃ a, s.Traps x (.mfs f) { code := 0x10, arg := a, slot := some (if f.slot = .s0 then 1 else 2) } := by
  refine traps_priv hissues (g := f.g) (n := bits f.imm 11 0) ⟨rfl, rfl, rfl⟩ (SSlot.num_slot f.slot) ((if_pos hg).trans (if_pos ?_))
  rw [show (s.envAlone x (.mfs f)).x.sup = false from huser]
  exact (Bool.and_true _).trans hsup

end scalar

/-- An assist of an addition: the lanes whose result was flushed (R264, R300). -/
theorem vadd_assists {s : State} {x : Ctx} {f : VReg} {r : Nat → Rounded} (hissues : s.Issues x) (hready : s.VReady x (.vadd f) f { types := [0, 1] } [])
    (hnone : vStreams f { types := [0, 1] } = [])
    (hr : ∀ n, r n = roundTo (x.rndEnv (isW f.slot) n) f.ty.toNat
      ((laneValue f.ty.toNat (((s.envAlone x (.vadd f)).vargs f).a.lane n)).add (decide (x.fmt.toNat % 8 = 2))
        (laneValue f.ty.toNat (((s.envAlone x (.vadd f)).vargs f).b.lane n))))
    (hassist : fmtAssist x.fmt = true) (hflush : x.Flushes f.g r) :
    ∃ m : Mask, s.Traps x (.vadd f) { code := 0x0A, arg := m, slot := some (if f.slot = .v0 then 3 else 4) } ∧
      ∀ n, n < 64 → m.getLsbD n = ((x.guard f.g).getLsbD n && (r n).tiny) := by
  obtain ⟨hactive, hgood, -⟩ := hready
  refine ⟨(RVec.of (x.guard f.g) r (holdLane f.ty.toNat)).tiny, ?_, fun n hn => RVec.getLsbD_tiny hn⟩
  have hnum : (s.envAlone x (.vadd f)).slot.num = if f.slot = .v0 then 3 else 4 := by
    show f.slot.slot.num = _
    cases f.slot with
    | v0 => rfl
    | v1 => rfl
  rw [← hnum]
  refine traps_of_answer rfl hissues rfl (.inr rfl) (.inl nofun) ?_
  have hguard : (s.envAlone x (.vadd f)).g = x.guard f.g := rfl
  have hvec : RVec.of (s.envAlone x (.vadd f)).g (fun n => roundTo ((s.envAlone x (.vadd f)).x.rndEnv (isW f.slot) n) f.ty.toNat
      ((laneValue f.ty.toNat (((s.envAlone x (.vadd f)).vargs f).a.lane n)).add (decide (fmtRnd (s.envAlone x (.vadd f)).x.fmt = 2))
        (laneValue f.ty.toNat (((s.envAlone x (.vadd f)).vargs f).b.lane n)))) (holdLane f.ty.toNat) =
      RVec.of (x.guard f.g) r (holdLane f.ty.toNat) := congrArg (fun q => RVec.of (x.guard f.g) q (holdLane f.ty.toNat)) (funext fun n => (hr n).symm)
  have hask : (fmtAssist (s.envAlone x (.vadd f)).x.fmt && (RVec.of (x.guard f.g) r (holdLane f.ty.toNat)).tiny != 0#64) = true := by
    rw [Bool.and_eq_true]
    exact ⟨hassist, RVec.tiny_iff_flushes.mpr hflush⟩
  show evalVadd f (s.envAlone x (.vadd f)) = _
  unfold evalVadd vArith
  dsimp only
  rw [hvec, Env.rounded, if_pos hask, Env.vguarded, hguard, if_neg hactive, Env.checked, show firstBad _ = none from hgood, hnone]
  rfl

/-- Settles O54: the answer of each form where its guard is false, a field is bad, the level is user, or a lane asks for its assist. -/
theorem guardsAndOperandTraps : Obligations.GuardsAndOperandTraps := by
  unfold Obligations.GuardsAndOperandTraps
  refine ⟨fun s x hissues => ⟨fun f i hi => ?_, fun f hg huser => ?_, fun f hg huser hsup _ _ => ?_⟩, ?_⟩
  · obtain ⟨k, hform⟩ := scalarForm_of_mem s x hi
    exact ⟨fun hg => hform.completes_of_not_guarded hissues hg, fun c hg hbad => hform.traps_of_bad hissues hg hbad⟩
  · exact ⟨setwin_priv hissues huser hg, rft_priv hissues huser hg⟩
  · exact mfs_priv hissues huser hg hsup
  · rintro s x f v r hissues hready hnone rfl hr hassist hflush
    exact vadd_assists hissues hready hnone hr hassist hflush

end Sys2Proof.Machine

/-! ## A store that waits for nothing is performed at its issue (R243, R252, R254, R439) -/

namespace Sys2Proof.Machine

set_option Elab.async false

/-! ### Bytes and short runs -/

/-- A byte of a memory after a write: of what was written, or as it was. -/
theorem Mem.byte_write (bs : List Byte) (m : Mem) (a c : Nat) :
    Mem.byte (Mem.write m a bs) c = if a ≤ c ∧ c < a + bs.length then bs.getD (c - a) 0#8 else Mem.byte m c := by
  induction bs generalizing m a with
  | nil =>
    rw [if_neg fun h => by have := h.2; simp only [List.length_nil] at this; omega]
    rfl
  | cons b bs ih =>
    rw [Mem.write, ih, List.length_cons]
    by_cases hc : c = a
    · subst hc
      rw [if_neg (by omega), if_pos ⟨Nat.le_refl c, by omega⟩, Mem.byte_setByte_self, Nat.sub_self]
      rfl
    · rw [Mem.byte_setByte_ne _ _ _ _ hc]
      by_cases hin : a + 1 ≤ c ∧ c < a + 1 + bs.length
      · rw [if_pos hin, if_pos ⟨by omega, by omega⟩, show c - a = (c - (a + 1)) + 1 by omega]
        rfl
      · rw [if_neg hin, if_neg (by omega)]

/-- A run shorter than a sector covers none, so that no sector's poison is lifted (R51). -/
theorem State.unpoison_short (s : State) (l : Loc) {n : Nat} (h : n < 32) : s.unpoison [(l, n)] = s := by
  unfold State.unpoison
  split
  · rfl
  · dsimp only
    have hkeep : (s.poison.filter fun q => !(List.range 32).all fun b =>
        [(l, n)].any fun r => match r.1 with | .global pa => decide (pa ≤ 32 * q + b) && decide (32 * q + b < pa + r.2) | _ => false) = s.poison := by
      refine List.filter_eq_self.mpr fun q _ => ?_
      rw [Bool.not_eq_true', List.all_eq_false]
      cases l with
      | global pa =>
        by_cases hlow : pa ≤ 32 * q
        · refine ⟨31, List.mem_range.mpr (by omega), ?_⟩
          simp only [List.any_cons, List.any_nil, Bool.or_false, Bool.and_eq_true, decide_eq_true_eq]
          omega
        · refine ⟨0, List.mem_range.mpr (by omega), ?_⟩
          simp only [List.any_cons, List.any_nil, Bool.or_false, Bool.and_eq_true, decide_eq_true_eq]
          omega
      | _ => exact ⟨0, List.mem_range.mpr (by omega), Bool.false_ne_true⟩
    exact congrArg (fun p => { s with poison := p }) hkeep

/-- The cores with a run of bytes written in one scratchpad. -/
def spadWritten (m : SMap Core) (k off : Nat) (bs : List Byte) : SMap Core :=
  SMap.modify {} m k fun x => { x with spad := Mem.write x.spad off bs }

theorem get_spad_written (m : SMap Core) (k off : Nat) (bs : List Byte) (j : Nat) :
    SMap.get {} (spadWritten m k off bs) j =
        { SMap.get ({} : Core) m j with spad := (SMap.get {} (spadWritten m k off bs) j).spad } ∧
      ∀ b, Mem.byte (SMap.get {} (spadWritten m k off bs) j).spad b =
        if j = k ∧ off ≤ b ∧ b < off + bs.length then bs.getD (b - off) 0#8 else Mem.byte (SMap.get ({} : Core) m j).spad b := by
  rw [spadWritten, SMap.get_modify]
  by_cases hj : j = k
  · subst hj
    rw [if_pos rfl]
    exact ⟨rfl, fun b => (Mem.byte_write bs _ off b).trans (ite_of_iff ⟨fun h => ⟨rfl, h⟩, fun h => h.2⟩ _ _)⟩
  · rw [if_neg hj]
    exact ⟨rfl, fun b => (if_neg fun h => hj h.1).symm⟩

/-- The clusters with a run of bytes written in one memory. -/
def sramWritten (m : SMap Cluster) (k off : Nat) (bs : List Byte) : SMap Cluster :=
  SMap.modify {} m k fun x => { x with sram := Mem.write x.sram off bs }

theorem get_sram_written (m : SMap Cluster) (k off : Nat) (bs : List Byte) (j : Nat) :
    SMap.get {} (sramWritten m k off bs) j =
        { SMap.get ({} : Cluster) m j with sram := (SMap.get {} (sramWritten m k off bs) j).sram } ∧
      ∀ b, Mem.byte (SMap.get {} (sramWritten m k off bs) j).sram b =
        if j = k ∧ off ≤ b ∧ b < off + bs.length then bs.getD (b - off) 0#8 else Mem.byte (SMap.get ({} : Cluster) m j).sram b := by
  rw [sramWritten, SMap.get_modify]
  by_cases hj : j = k
  · subst hj
    rw [if_pos rfl]
    exact ⟨rfl, fun b => (Mem.byte_write bs _ off b).trans (ite_of_iff ⟨fun h => ⟨rfl, h⟩, fun h => h.2⟩ _ _)⟩
  · rw [if_neg hj]
    exact ⟨rfl, fun b => (if_neg fun h => hj h.1).symm⟩

theorem Cluster.eq_of_sram {x y : Cluster} {m : Mem} (h : x = { y with sram := m }) : x = { y with sram := x.sram, tlb := x.tlb } := by
  subst h
  rfl

theorem Cluster.eq_of_tlb {x y : Cluster} {l : List TlbEntry} (h : x = { y with tlb := l }) : x = { y with sram := x.sram, tlb := x.tlb } := by
  subst h
  rfl

theorem Die.eq_of_tlb {x y : Die} {l : List TlbEntry} (h : x = { y with tlb := l }) : x = { y with view := x.view, vc := x.vc, tlb := x.tlb } := by
  subst h
  rfl

theorem Die.eq_of_written {x y z : Die} {m : Mem} {vc : VClock} {l : List TlbEntry} (h : x = { y with view := m, vc := vc })
    (h' : y = { z with tlb := l }) : x = { z with view := x.view, vc := x.vc, tlb := x.tlb } := by
  subst h
  subst h'
  rfl

/-- The dies with a write of one of them in its clock and its view. -/
def viewWritten (m : SMap Die) (d pa : Nat) (bs : List Byte) (vc : VClock) : SMap Die :=
  SMap.modify {} m d fun x => { x with vc := vc, view := writeParts x.view pa bs [] }

theorem get_view_written (m : SMap Die) (d pa : Nat) (bs : List Byte) (vc : VClock) (j : Nat) :
    SMap.get {} (viewWritten m d pa bs vc) j =
        { SMap.get ({} : Die) m j with
          view := (SMap.get {} (viewWritten m d pa bs vc) j).view
          vc := (SMap.get {} (viewWritten m d pa bs vc) j).vc } ∧
      (SMap.get {} (viewWritten m d pa bs vc) j).vc = (if j = d then vc else (SMap.get ({} : Die) m j).vc) ∧
      ∀ b, Mem.byte (SMap.get {} (viewWritten m d pa bs vc) j).view b =
        if j = d ∧ pa ≤ b ∧ b < pa + bs.length then bs.getD (b - pa) 0#8 else Mem.byte (SMap.get ({} : Die) m j).view b := by
  rw [viewWritten, SMap.get_modify]
  by_cases hj : j = d
  · subst hj
    rw [if_pos rfl, if_pos rfl]
    exact ⟨rfl, rfl, fun b => (Mem.byte_write bs _ pa b).trans (ite_of_iff ⟨fun h => ⟨rfl, h⟩, fun h => h.2⟩ _ _)⟩
  · rw [if_neg hj, if_neg hj]
    exact ⟨rfl, rfl, fun b => (if_neg fun h => hj h.1).symm⟩

/-! ### Where an address leads -/

theorem Env.space_of_resolve {e : Env} {k : Ask} {r : Req} {l : Loc} (h : e.resolve k r = .ok l) :
    (∀ pa, l = .global pa → spaceOf r.addr = 0) ∧ (∀ c off, l = .spad c off → spaceOf r.addr = 8) ∧
      ∀ c off, l = .sram c off → spaceOf r.addr = 9 := by
  unfold Env.resolve at h
  dsimp only at h
  split at h
  · next h0 =>
    refine ⟨fun _ _ => h0, ?_, ?_⟩
    · rintro c off rfl
      repeat' split at h
      all_goals cases h
    · rintro c off rfl
      repeat' split at h
      all_goals cases h
  · next h8 =>
    refine ⟨?_, fun _ _ _ => h8, ?_⟩
    · rintro pa rfl
      repeat' split at h
      all_goals cases h
    · rintro c off rfl
      repeat' split at h
      all_goals cases h
  · next h9 =>
    refine ⟨?_, ?_, fun _ _ _ => h9⟩
    · rintro pa rfl
      repeat' split at h
      all_goals cases h
    · rintro c off rfl
      repeat' split at h
      all_goals cases h
  · refine ⟨?_, ?_, ?_⟩
    all_goals
      intros
      subst_vars
      repeat' split at h
      all_goals cases h
  · split at h
    all_goals cases h

/-! ### What a translation fills (R282) -/

/-- Only translation buffers and the free words drawn differ. -/
def State.Filled (s t : State) : Prop :=
  ∃ ds cs n, t = { s with dies := ds, clusters := cs, freeCtr := n } ∧
    (∀ d, SMap.get {} ds d = { s.die d with tlb := (SMap.get {} ds d).tlb }) ∧ ∀ k, SMap.get {} cs k = { s.cluster k with tlb := (SMap.get {} cs k).tlb }

theorem State.Filled.refl (s : State) : s.Filled s := ⟨s.dies, s.clusters, s.freeCtr, rfl, fun _ => rfl, fun _ => rfl⟩

theorem State.Filled.trans {s t u : State} (h : s.Filled t) (h' : t.Filled u) : s.Filled u := by
  obtain ⟨ds, cs, n, rfl, hds, hcs⟩ := h
  obtain ⟨ds', cs', n', rfl, hds', hcs'⟩ := h'
  refine ⟨ds', cs', n', rfl, fun d => ?_, fun k => ?_⟩
  · exact (hds' d).trans (congrArg (fun y : Die => { y with tlb := (SMap.get ({} : Die) ds' d).tlb }) (hds d))
  · exact (hcs' k).trans (congrArg (fun y : Cluster => { y with tlb := (SMap.get ({} : Cluster) cs' k).tlb }) (hcs k))

theorem State.filled_useShared (s : State) (d : Nat) (e : TlbEntry) : s.Filled (s.useShared d e) := by
  obtain ⟨n, hn⟩ := State.drawFor_eq s sharedWays ((s.die d).tlb.filter fun f => tlbSet f == tlbSet e) e
  unfold State.useShared
  dsimp only
  rw [hn]
  refine ⟨_, s.clusters, n, rfl, fun k => ?_, fun _ => rfl⟩
  by_cases hk : k = d
  · rw [hk, SMap.get_modify_self]
    rfl
  · rw [SMap.get_modify_ne _ _ _ _ _ hk]
    rfl

theorem State.filled_useCluster (s : State) (cl : Nat) (e : TlbEntry) : s.Filled (s.useCluster cl e) := by
  obtain ⟨n, hn⟩ := State.drawFor_eq s tlbSize (s.cluster cl).tlb e
  unfold State.useCluster
  dsimp only
  rw [hn]
  refine ⟨s.dies, _, n, rfl, fun _ => rfl, fun k => ?_⟩
  by_cases hk : k = cl
  · rw [hk, SMap.get_modify_self]
    rfl
  · rw [SMap.get_modify_ne _ _ _ _ _ hk]
    rfl

theorem State.filled_fillTlb (s : State) (cl va : Nat) : s.Filled (s.fillTlb cl va) := by
  unfold State.fillTlb
  split
  · exact State.filled_useCluster s cl _
  · split
    · exact (State.filled_useShared s _ _).trans (State.filled_useCluster _ cl _)
    · exact .refl s

theorem State.filled_fillAll (s : State) (cl : Nat) (r : Req) : s.Filled (s.fillAll cl [r]) := by
  show s.Filled (if bits r.addr 63 60 = 0 then s.fillTlb cl (bits r.addr 47 0) else s)
  split
  · exact State.filled_fillTlb s cl _
  · exact .refl s

theorem State.fillAll_local (s : State) (cl : Nat) {r : Req} (h : spaceOf r.addr ≠ 0) : s.fillAll cl [r] = s := if_neg h

/-! ### The issue of a store that follows nothing -/

/-- The state in which a store is on the list of accesses. -/
def State.listed (s : State) (a : Access) : State :=
  { s with nextAccess := s.nextAccess + 1, accesses := SMap.set none s.accesses s.nextAccess (some a) }

/-- The state with a store performed, but for its place in the list of accesses. -/
def State.storing (s : State) (a : Access) (e : Elem) : State := ((s.listed a).storeElem (ctxDie a.ctx) e).touchElem true e

/-- The state with a store performed, and taken off the list of accesses. -/
def State.stored (s : State) (a : Access) (e : Elem) : State :=
  { s.storing a e with accesses := SMap.set none (s.storing a e).accesses s.nextAccess none }

theorem State.depsOf_of_none_pending {s : State} {c : Nat} (h : s.pending c = []) (a : Access) (rel : List Nat) : s.depsOf c a rel = [] := by
  unfold State.depsOf
  rw [h]
  rfl

theorem State.issueAccess_store {s : State} {a : Access} {e : Elem} (hpending : s.pending a.ctx = []) (hkind : a.kind = .store) (helems : a.elems = [e])
    (hafter : a.after = []) (hupdates : a.updates = []) (hspaces : a.spaces.contains 0xF = false) (hkeep : e.keep = 0#8) (hsize : e.size < 32) :
    s.issueAccess a [] [] = (s.stored a e).modCtx a.ctx fun x => x.tokDown a.token := by
  have hsame : ({ a with after := [] } : Access) = a := by rw [← hafter]
  have hwrites : (a.writes && ([] : List Nat).isEmpty) = true := by
    rw [Access.writes, hkind]
    rfl
  have hgauges (t : State) : ({ t with gaugeQ := t.gaugeQ ++ a.updates } : State) = t := by
    rw [hupdates, List.append_nil]
  unfold State.issueAccess
  dsimp only
  rw [State.depsOf_of_none_pending hpending, hsame, hspaces, if_neg Bool.false_ne_true, if_pos hwrites, State.acquire,
    if_pos (show ([] : List Nat).isEmpty = true from rfl)]
  unfold State.performStore
  rw [SMap.get_set_self]
  dsimp only
  rw [hkind, helems, hgauges]
  dsimp only [List.foldl]
  rw [filter_one, if_pos (beq_iff_eq.mpr hkeep), List.map_cons, List.map_nil, State.unpoison_short _ _ hsize]
  rfl

/-- What a lease makes of a store changes the cache, its requests and the free words drawn alone; with no lease it changes nothing (R48). -/
theorem State.touched (s : State) (e : Elem) : ∃ l a d n, s.touchElem true e = { s with llc := l, llcLast := a, dram := d, freeCtr := n } ∧
    (s.leases = [] → d = s.dram ∧ l = s.llc ∧ a = s.llcLast) := by
  by_cases hleases : s.leases = []
  · refine ⟨s.llc, s.llcLast, s.dram, s.freeCtr, ?_, fun _ => ⟨rfl, rfl, rfl⟩⟩
    have hempty : s.leases.isEmpty = true := List.isEmpty_iff.mpr hleases
    unfold State.touchElem State.touchLease
    split
    · exact if_pos (Or.inl hempty)
    · rfl
  · obtain ⟨l, a, d, n, h⟩ := State.sameBehindCache_touchElem s true e
    exact ⟨l, a, d, n, h, fun h => absurd h hleases⟩

/-! ### What a performed store changes, and what it leaves -/

section effect
variable (s : State) (d z : Nat) (bs : List Byte) (vc : VClock)

/-- The writes on their way after a store at the place: one to global memory is a new one of its die. -/
def Loc.writesAfter : Loc → List GWrite × Nat
  | .global pa => if isHost pa then (s.writes, s.nextWrite) else (s.writes ++ [⟨s.nextWrite, d, vc, pa, bs, none, [d], []⟩], s.nextWrite + 1)
  | _ => (s.writes, s.nextWrite)

/-- The requests on their way to the host after it. -/
def Loc.requestsAfter : Loc → List HostReq × Nat
  | .global pa => if isHost pa then (s.hostReqs ++ [⟨s.nextId, d, pa, bs⟩], s.nextId + 1) else (s.hostReqs, s.nextId)
  | _ => (s.hostReqs, s.nextId)

/-- The clock of a die after it. -/
def Loc.clockAfter (k : Nat) : Loc → VClock
  | .global pa => if ¬ isHost pa ∧ k = d then vc else (s.die k).vc
  | _ => (s.die k).vc

/-- A byte of the view of a die after it. -/
def Loc.viewAfter (k a : Nat) : Loc → Byte
  | .global pa => if ¬ isHost pa ∧ k = d ∧ pa ≤ a ∧ a < pa + z then bs.getD (a - pa) 0#8 else Mem.byte (s.die k).view a
  | _ => Mem.byte (s.die k).view a

/-- A byte of the scratchpad of a core after it. -/
def Loc.spadAfter (k a : Nat) : Loc → Byte
  | .spad j off => if k = j ∧ off ≤ a ∧ a < off + z then bs.getD (a - off) 0#8 else Mem.byte (s.core k).spad a
  | _ => Mem.byte (s.core k).spad a

/-- A byte of the memory of a cluster after it. -/
def Loc.sramAfter (k a : Nat) : Loc → Byte
  | .sram j off => if k = j ∧ off ≤ a ∧ a < off + z then bs.getD (a - off) 0#8 else Mem.byte (s.cluster k).sram a
  | _ => Mem.byte (s.cluster k).sram a

end effect

/-- The frame of a store of the bytes `bs` at `l` on a die, whatever the contexts are. -/
structure State.Stored (s t : State) (d z : Nat) (l : Loc) (bs : List Byte) (vc : VClock) : Prop where
  rest : t = { s with ctxs := t.ctxs, dies := t.dies, clusters := t.clusters, cores := t.cores, accesses := t.accesses,
                      nextAccess := s.nextAccess + 1, writes := t.writes, nextWrite := t.nextWrite, hostReqs := t.hostReqs, nextId := t.nextId,
                      dram := t.dram, llc := t.llc, llcLast := t.llcLast, freeCtr := t.freeCtr }
  uncached : s.leases = [] → t.dram = s.dram ∧ t.llc = s.llc ∧ t.llcLast = s.llcLast
  others : ∀ k, k ≠ s.nextAccess → SMap.get none t.accesses k = SMap.get none s.accesses k
  performed : SMap.get none t.accesses s.nextAccess = none
  sent : (t.writes, t.nextWrite) = l.writesAfter s d bs vc
  posted : (t.hostReqs, t.nextId) = l.requestsAfter s d bs
  dies : ∀ k, t.die k = { s.die k with view := (t.die k).view, vc := (t.die k).vc, tlb := (t.die k).tlb } ∧ (t.die k).vc = l.clockAfter s d vc k
  views : ∀ k a, Mem.byte (t.die k).view a = l.viewAfter s d z bs k a
  cores : ∀ k, t.core k = { s.core k with spad := (t.core k).spad }
  spads : ∀ k a, Mem.byte (t.core k).spad a = l.spadAfter s z bs k a
  clusters : ∀ k, t.cluster k = { s.cluster k with sram := (t.cluster k).sram, tlb := (t.cluster k).tlb }
  srams : ∀ k a, Mem.byte (t.cluster k).sram a = l.sramAfter s z bs k a
  nearby : (∃ k off, l = .spad k off) ∨ (∃ k off, l = .sram k off) → (∀ k, (t.die k).tlb = (s.die k).tlb) ∧
    (∀ k, (t.cluster k).tlb = (s.cluster k).tlb) ∧ t.freeCtr = s.freeCtr ∧ t.llc = s.llc ∧ t.dram = s.dram

/-- The frame says nothing of the contexts. -/
theorem State.Stored.withCtxs {s t : State} {d z : Nat} {l : Loc} {bs : List Byte} {vc : VClock} (h : s.Stored t d z l bs vc) (cs : SMap (Option Ctx)) :
    s.Stored { t with ctxs := cs } d z l bs vc :=
  { rest := congrArg (fun u : State => { u with ctxs := cs }) h.rest
    uncached := h.uncached
    others := h.others
    performed := h.performed
    sent := h.sent
    posted := h.posted
    dies := h.dies
    views := h.views
    cores := h.cores
    spads := h.spads
    clusters := h.clusters
    srams := h.srams
    nearby := h.nearby }

theorem get_performed (m : SMap (Option Access)) (n : Nat) (a : Access) :
    (∀ k, k ≠ n → SMap.get none (SMap.set none (SMap.set none m n (some a)) n none) k = SMap.get none m k) ∧
      SMap.get none (SMap.set none (SMap.set none m n (some a)) n none) n = none :=
  ⟨fun k hk => by rw [SMap.get_set_ne _ _ _ _ _ hk, SMap.get_set_ne _ _ _ _ _ hk], SMap.get_set_self _ _ _ _⟩

section stored
variable {s : State} {a : Access} {e : Elem} {d : Nat} {vc : VClock} (hkeep : e.keep = 0#8)
include hkeep

theorem storing_spad {k off : Nat} (hloc : e.loc = .spad k off) :
    s.storing a e = (s.listed a).modCore k fun x => { x with spad := Mem.write x.spad off (toBytes e.size e.data.toNat) } := by
  unfold State.storing State.storeElem State.touchElem State.touchLease
  rw [hloc]
  exact if_pos hkeep

theorem storing_sram {k off : Nat} (hloc : e.loc = .sram k off) :
    s.storing a e = (s.listed a).modCluster k fun x => { x with sram := Mem.write x.sram off (toBytes e.size e.data.toNat) } := by
  unfold State.storing State.storeElem State.touchElem State.touchLease
  rw [hloc]
  exact if_pos hkeep

theorem storing_global {pa : Nat} (hloc : e.loc = .global pa) :
    s.storing a e = ((s.listed a).writePhys (ctxDie a.ctx) pa (toBytes e.size e.data.toNat)).touchElem true e := by
  unfold State.storing State.storeElem
  rw [hloc]
  exact congrArg (State.touchElem · true e) (if_pos hkeep)

theorem stored_spad {k off : Nat} (hloc : e.loc = .spad k off) :
    s.Stored (s.stored a e) d e.size (.spad k off) (toBytes e.size e.data.toNat) vc := by
  obtain ⟨hothers, hself⟩ := get_performed s.accesses s.nextAccess a
  have hcores := get_spad_written s.cores k off (toBytes e.size e.data.toNat)
  rw [length_toBytes] at hcores
  unfold State.stored
  rw [storing_spad hkeep hloc]
  exact { rest := rfl, uncached := fun _ => ⟨rfl, rfl, rfl⟩, others := hothers, performed := hself, sent := rfl, posted := rfl,
          dies := fun _ => ⟨rfl, rfl⟩, views := fun _ _ => rfl, cores := fun j => (hcores j).1, spads := fun j => (hcores j).2,
          clusters := fun _ => rfl, srams := fun _ _ => rfl, nearby := fun _ => ⟨fun _ => rfl, fun _ => rfl, rfl, rfl, rfl⟩ }

theorem stored_sram {k off : Nat} (hloc : e.loc = .sram k off) :
    s.Stored (s.stored a e) d e.size (.sram k off) (toBytes e.size e.data.toNat) vc := by
  obtain ⟨hothers, hself⟩ := get_performed s.accesses s.nextAccess a
  have hclusters := get_sram_written s.clusters k off (toBytes e.size e.data.toNat)
  rw [length_toBytes] at hclusters
  have htlb (j : Nat) := congrArg Cluster.tlb (hclusters j).1
  unfold State.stored
  rw [storing_sram hkeep hloc]
  exact { rest := rfl, uncached := fun _ => ⟨rfl, rfl, rfl⟩, others := hothers, performed := hself, sent := rfl, posted := rfl,
          dies := fun _ => ⟨rfl, rfl⟩, views := fun _ _ => rfl, cores := fun _ => rfl, spads := fun _ _ => rfl
          clusters := fun j => Cluster.eq_of_sram (hclusters j).1
          srams := fun j => (hclusters j).2, nearby := fun _ => ⟨fun _ => rfl, htlb, rfl, rfl, rfl⟩ }

theorem stored_global {t : State} {pa : Nat} (hfilled : s.Filled t) (hloc : e.loc = .global pa) (hd : d = ctxDie a.ctx)
    (hvc : vc = (s.die d).vc.set d ((s.die d).vc.get d + 1)) :
    s.Stored (t.stored a e) d e.size (.global pa) (toBytes e.size e.data.toNat) vc := by
  obtain ⟨ds, cs, n, rfl, hds, hcs⟩ := hfilled
  obtain ⟨hothers, hself⟩ := get_performed s.accesses s.nextAccess a
  have hclock (k : Nat) : (SMap.get {} ds k).vc = (s.die k).vc := (congrArg Die.vc (hds k)).trans rfl
  have hview (k b : Nat) : Mem.byte (SMap.get {} ds k).view b = Mem.byte (s.die k).view b :=
    (congrArg (fun y : Die => Mem.byte y.view b) (hds k)).trans rfl
  have hsram (k b : Nat) : Mem.byte (SMap.get {} cs k).sram b = Mem.byte (s.cluster k).sram b :=
    (congrArg (fun y : Cluster => Mem.byte y.sram b) (hcs k)).trans rfl
  have hfar {p : Prop} : ((∃ k off, Loc.global pa = .spad k off) ∨ ∃ k off, Loc.global pa = .sram k off) → p := by
    rintro (⟨k, off, h⟩ | ⟨k, off, h⟩)
    · cases h
    · cases h
  unfold State.stored
  rw [storing_global hkeep hloc, State.writePhys, ← hd]
  by_cases hhost : isHost pa = true
  · rw [if_pos hhost]
    obtain ⟨l, b, dr, n', htouched, hcache⟩ := State.touched (State.postHost _ d pa (toBytes e.size e.data.toNat)) e
    rw [htouched]
    exact { rest := rfl, uncached := hcache, others := hothers, performed := hself, sent := (if_pos hhost).symm, posted := (if_pos hhost).symm,
            dies := fun k => ⟨Die.eq_of_tlb (hds k), (hclock k).trans (if_neg fun h => h.1 hhost).symm⟩
            views := fun k b => (hview k b).trans (if_neg fun h => h.1 hhost).symm, cores := fun _ => rfl, spads := fun _ _ => rfl
            clusters := fun k => Cluster.eq_of_tlb (hcs k), srams := hsram, nearby := hfar }
  · obtain rfl : vc = (SMap.get {} ds d).vc.set d ((SMap.get ({} : Die) ds d).vc.get d + 1) := hvc.trans (by rw [hclock])
    have hdies := get_view_written ds d pa (toBytes e.size e.data.toNat) ((SMap.get {} ds d).vc.set d ((SMap.get ({} : Die) ds d).vc.get d + 1))
    rw [length_toBytes] at hdies
    rw [if_neg hhost]
    obtain ⟨l, b, dr, n', htouched, hcache⟩ := State.touched (State.writeGlobal _ d pa (toBytes e.size e.data.toNat)) e
    rw [htouched]
    refine { rest := rfl, uncached := hcache, others := hothers, performed := hself, sent := (if_neg hhost).symm, posted := (if_neg hhost).symm,
             dies := fun k => ⟨Die.eq_of_written (hdies k).1 (hds k), (hdies k).2.1.trans ?_⟩, views := fun k b => ((hdies k).2.2 b).trans ?_
             cores := fun _ => rfl, spads := fun _ _ => rfl, clusters := fun k => Cluster.eq_of_tlb (hcs k), srams := hsram, nearby := hfar }
    · rw [hclock k]
      exact ite_of_iff ⟨fun h => ⟨hhost, h⟩, fun h => h.2⟩ _ _
    · rw [hview]
      exact ite_of_iff ⟨fun h => ⟨hhost, h⟩, fun h => h.2⟩ _ _

end stored

/-! ### The contexts of a store at its issue -/

theorem State.Filled.withCtxs {s t : State} (h : s.Filled t) (cs : SMap (Option Ctx)) : State.Filled { s with ctxs := cs } { t with ctxs := cs } := by
  obtain ⟨ds, ks, n, rfl, hds, hks⟩ := h
  exact ⟨ds, ks, n, rfl, hds, hks⟩

theorem State.Filled.sameCtxs {s t : State} (h : s.Filled t) : t.ctxs = s.ctxs := by
  obtain ⟨ds, ks, n, rfl, -, -⟩ := h
  rfl

/-- The contexts of the state before do not matter either. -/
theorem State.Stored.ofCtxs {s u t : State} {d z : Nat} {l : Loc} {bs : List Byte} {vc : VClock} {cs : SMap (Option Ctx)}
    (h : u.Stored t d z l bs vc) (hu : u = { s with ctxs := cs }) : s.Stored t d z l bs vc := by
  subst hu
  exact
    { rest := h.rest
      uncached := h.uncached
      others := h.others
      performed := h.performed
      sent := h.sent
      posted := h.posted
      dies := h.dies
      views := h.views
      cores := h.cores
      spads := h.spads
      clusters := h.clusters
      srams := h.srams
      nearby := h.nearby }

/-- Memory that an instruction may store to, but for the registers of space 0xF. -/
def Loc.isMemory (l : Loc) : Prop := (∃ pa, l = .global pa) ∨ (∃ k off, l = .spad k off) ∨ ∃ k off, l = .sram k off

theorem stored_ctxs {s : State} {a : Access} {e : Elem} (hkeep : e.keep = 0#8) (hloc : e.loc.isMemory) : (s.stored a e).ctxs = s.ctxs := by
  unfold State.stored
  dsimp only
  obtain ⟨pa, hloc⟩ | ⟨k, off, hloc⟩ | ⟨k, off, hloc⟩ := hloc
  · rw [storing_global hkeep hloc, State.writePhys]
    obtain ⟨l, b, dr, n, htouched, -⟩ := State.touched
      (if isHost pa then (s.listed a).postHost (ctxDie a.ctx) pa (toBytes e.size e.data.toNat) else
        (s.listed a).writeGlobal (ctxDie a.ctx) pa (toBytes e.size e.data.toNat)) e
    rw [htouched]
    dsimp only
    split <;> rfl
  · rw [storing_spad hkeep hloc]
    rfl
  · rw [storing_sram hkeep hloc]
    rfl

/-- The access of a scalar store. -/
def storeAccess (s : State) (f : LGen) (r : Req) (l : Loc) (v : W64) : Access :=
  { ctx := s.cur, token := f.token.toNat, kind := .store, after := [], spaces := [r.addr.toNat / 2 ^ 60]
    elems := [{ lane := 0, loc := l, size := 2 ^ f.size.toNat, data := v }] }

/-- The results in flight after the post-step of a store. -/
def steppedFlight (f : LGen) (x : Ctx) : List Flight :=
  if f.ps = 1#1 then
    x.flight ++ [⟨x.count + 1 - 1, .scalar (.d f.base.toNat) (x.dReg f.base.toNat + BitVec.ofInt 64 (f.off.toInt * (2 ^ f.size.toNat : Nat)))⟩]
  else x.flight

/-- The tokens after an access has been counted up and down. -/
def Ctx.tokensUpDown (x : Ctx) (n : Nat) : SMap Token :=
  SMap.modify {} (SMap.modify {} x.k n fun t => { t with count := t.count + 1 }) n fun t => { t with count := t.count - 1 }

theorem Ctx.count_tokensUpDown (x : Ctx) (n k : Nat) : (SMap.get {} (x.tokensUpDown n) k).count = x.tokCount k := by
  unfold Ctx.tokensUpDown
  by_cases hk : k = n
  · rw [hk, SMap.get_modify_self, SMap.get_modify_self]
    rfl
  · rw [SMap.get_modify_ne _ _ _ _ _ hk, SMap.get_modify_ne _ _ _ _ _ hk]
    rfl

section frame
variable {s : State} {x : Ctx} {f : LGen}

/-- What the effect of a scalar store leaves, from the state that its issue counts. -/
def storeEffect (s : State) (x : Ctx) (f : LGen) (r : Req) (l : Loc) (v : W64) (t : State) : State :=
  ((s.envAlone x (.st f)).postStep f (2 ^ f.size.toNat) f.base.toNat (t.fillAll (ctxCluster s.cur) [r])).issueAccess (storeAccess s f r l v) [] []

theorem State.Now.postStep {t : State} {y : Ctx} (h : t.ctx s.cur = some y) (hflight : y.flight = x.flight) (hcount : y.count = x.count) :
    t.Now ((s.envAlone x (.st f)).postStep f (2 ^ f.size.toNat) f.base.toNat t) s.cur { y with flight := steppedFlight f x } := by
  unfold Env.postStep steppedFlight
  rw [← hflight, ← hcount]
  split
  · exact (State.now_self h).modCtx fun y => { y with flight := y.flight ++ [⟨y.count + 1 - 1, _⟩] }
  · exact State.now_self h

/-- The effect of a store performed at its issue: the frame, and the contexts. -/
theorem storeEffect_frame {r : Req} {l : Loc} {v : W64} (hs : s.Issues x) (hpending : s.pending s.cur = []) (hsize : f.size.toNat < 4)
    (hglobal : ∀ pa, l = .global pa → spaceOf r.addr = 0) (hspad : ∀ k off, l = .spad k off → spaceOf r.addr = 8)
    (hsram : ∀ k off, l = .sram k off → spaceOf r.addr = 9) (hl : l.isMemory) :
    s.Stored (storeEffect s x f r l v (s.counted (some f.token.toNat))) (ctxDie s.cur) (2 ^ f.size.toNat) l (toBytes (2 ^ f.size.toNat) v.toNat)
        ((s.die (ctxDie s.cur)).vc.set (ctxDie s.cur) ((s.die (ctxDie s.cur)).vc.get (ctxDie s.cur) + 1)) ∧
      (storeEffect s x f r l v (s.counted (some f.token.toNat))).ctx s.cur =
        some { x with flight := steppedFlight f x, k := x.tokensUpDown f.token.toNat } ∧
      ∀ c, c ≠ s.cur → (storeEffect s x f r l v (s.counted (some f.token.toNat))).ctx c = s.ctx c := by
  obtain ⟨⟨hcounted, hothers⟩, hctx⟩ := State.now_counted hs (some f.token.toNat)
  have hspaces : (storeAccess s f r l v).spaces.contains 0xF = false := by
    have hspace : spaceOf r.addr ≠ 0xF := by
      obtain ⟨pa, h⟩ | ⟨k, off, h⟩ | ⟨k, off, h⟩ := hl
      · rw [hglobal pa h]
        decide
      · rw [hspad k off h]
        decide
      · rw [hsram k off h]
        decide
    rw [spaceOf_eq] at hspace
    exact Bool.eq_false_iff.mpr fun h => hspace (List.mem_singleton.mp (List.contains_iff_mem.mp h)).symm
  have hshort : 2 ^ f.size.toNat < 32 := by
    have : ∀ n, n < 4 → 2 ^ n < 32 := by decide
    exact this _ hsize
  have hfilled := State.filled_fillAll (s.counted (some f.token.toNat)) (ctxCluster s.cur) r
  have hnear (h : spaceOf r.addr ≠ 0) := State.fillAll_local (s.counted (some f.token.toNat)) (ctxCluster s.cur) h
  have hsame := hfilled.sameCtxs
  have hstepped := State.Now.postStep (s := s) (x := x) (f := f) (t := (s.counted (some f.token.toNat)).fillAll (ctxCluster s.cur) [r])
    ((congrArg (fun m => SMap.get none m s.cur) hsame).trans hctx) rfl rfl
  unfold storeEffect
  generalize s.counted (some f.token.toNat) = u at hcounted hothers hctx hfilled hnear hsame hstepped ⊢
  generalize u.fillAll (ctxCluster s.cur) [r] = w at hfilled hnear hsame hstepped ⊢
  generalize (s.envAlone x (.st f)).postStep f (2 ^ f.size.toNat) f.base.toNat w = p at hstepped ⊢
  obtain ⟨⟨hpost, hothers'⟩, hctx'⟩ := hstepped
  have hbase : State.Filled { s with ctxs := p.ctxs } p := by
    have hcs := hfilled.withCtxs p.ctxs
    rw [← hpost, hcounted] at hcs
    exact hcs
  have hpending' : p.pending s.cur = [] := by
    obtain ⟨ds, cs, n, h, -, -⟩ := hbase
    rw [h]
    exact hpending
  have hissue : p.issueAccess (storeAccess s f r l v) [] [] =
      (p.stored (storeAccess s f r l v) { lane := 0, loc := l, size := 2 ^ f.size.toNat, data := v }).modCtx s.cur fun x => x.tokDown f.token.toNat :=
    State.issueAccess_store hpending' rfl rfl rfl rfl hspaces rfl hshort
  have hctxs := stored_ctxs (s := p) (a := storeAccess s f r l v) (e := { lane := 0, loc := l, size := 2 ^ f.size.toNat, data := v }) rfl hl
  have hstored : s.Stored (p.stored (storeAccess s f r l v) { lane := 0, loc := l, size := 2 ^ f.size.toNat, data := v }) (ctxDie s.cur)
      (2 ^ f.size.toNat) l (toBytes (2 ^ f.size.toNat) v.toNat)
      ((s.die (ctxDie s.cur)).vc.set (ctxDie s.cur) ((s.die (ctxDie s.cur)).vc.get (ctxDie s.cur) + 1)) := by
    have hlocal (h : spaceOf r.addr ≠ 0) : p = { s with ctxs := p.ctxs } := by
      rw [hnear h, hcounted] at hpost
      exact hpost
    obtain ⟨pa, h⟩ | ⟨k, off, h⟩ | ⟨k, off, h⟩ := hl
    · subst h
      exact (stored_global rfl hbase rfl rfl rfl).ofCtxs rfl
    · subst h
      refine State.Stored.ofCtxs (stored_spad rfl rfl) (hlocal ?_)
      rw [hspad k off rfl]
      decide
    · subst h
      refine State.Stored.ofCtxs (stored_sram rfl rfl) (hlocal ?_)
      rw [hsram k off rfl]
      decide
  rw [hissue]
  generalize p.stored (storeAccess s f r l v) { lane := 0, loc := l, size := 2 ^ f.size.toNat, data := v } = q at hctxs hstored
  refine ⟨?_, ?_, fun c hc => ?_⟩
  · rw [State.modCtx_eq]
    exact hstored.withCtxs _
  · rw [State.ctx_modCtx_self, State.ctx, hctxs]
    exact congrArg (Option.map _) hctx'
  · rw [State.ctx_modCtx_ne _ _ _ _ hc, State.ctx, hctxs]
    exact (hothers' c hc).trans ((congrArg (fun m => SMap.get none m c) hsame).trans (hothers c hc))

theorem Ctx.dReg_passed (hs : s.Issues x) (hnest : x.loops.nest = none) (i : Instr) (fl : List Flight) (ks : SMap Token) (k : Nat) :
    (Ctx.passed { x with k := ks } s i fl).dReg k = x.dReg k := by
  have hnest' : (x.loops.issued [s.opAlone i (Instr.slotPart i).1 (Instr.slotPart i).2.1]).nest = none :=
    (LoopState.setHeld_nest _ _ _).1.trans hnest
  rw [← Ctx.closed_eq_passed hs fl ks]
  refine congrArg (SMap.get 0#64 x.d k + ·) ((Ctx.dOffset_closed hnest' _ _ _ k).trans ?_)
  unfold Ctx.dOffset
  rw [LoopState.offset_of_no_nest hnest']
  exact congrArg (· + _) (LoopState.offset_of_no_nest hnest k).symm

/-- The context after a store: what the bundle moves, the token, and the base of the post-step form. -/
theorem store_context {b : State} {g : State → State} (hs : s.Issues x) (hcalm : x.Calm) (hbars : b.barWaits = [])
    (hb : b.ctx s.cur = some { x with flight := steppedFlight f x, k := x.tokensUpDown f.token.toNat })
    (hg : g (s.counted (some f.token.toNat)) = b) :
    ∃ y, b.Now (s.issued x (.st f) (some f.token.toNat) g) s.cur y ∧
      y = { x with pc := x.pc + BitVec.ofNat 48 (4 * (3 + s.lits.length)), count := x.count + 1, f := y.f, loops := y.loops, d := y.d, k := y.k } ∧
      (∀ k, SMap.get {} y.f k = SMap.get {} x.f k) ∧ (∀ k, y.tokCount k = x.tokCount k) ∧
      ∀ k, y.dReg k = if f.ps = 1#1 ∧ k = f.base.toNat then x.dReg f.base.toNat + BitVec.ofInt 64 (f.off.toInt * (2 ^ f.size.toNat : Nat))
        else x.dReg k := by
  have hkind : ∀ h, Instr.st f ≠ .done h ∧ Instr.st f ≠ .rft h ∧ Instr.st f ≠ .yield h :=
    fun _ => ⟨Instr.noConfusion, Instr.noConfusion, Instr.noConfusion⟩
  obtain ⟨hkeep, hnone⟩ := filter_keep hcalm.1
  have hnow := State.now_self hb
  obtain ⟨-, hstreams, hbr, hnest, hstart, -⟩ := id hcalm
  have hf (k : Nat) := get_deliverAll hstreams k
  have heffect {y : Ctx} (h : b.Now b s.cur y) : b.Now (g (s.counted (some f.token.toNat))) s.cur y := by
    rw [hg]
    exact h
  by_cases hps : f.ps = 1#1
  · rw [steppedFlight, if_pos hps] at hnow
    generalize x.dReg f.base.toNat + BitVec.ofInt 64 (f.off.toInt * (2 ^ f.size.toNat : Nat)) = v at hnow ⊢
    have hdue : decide ((⟨x.count + 1 - 1, .scalar (.d f.base.toNat) v⟩ : Flight).land ≤ x.count) = true := decide_eq_true (Nat.le_refl _)
    have hrest : ((x.flight ++ [(⟨x.count + 1 - 1, .scalar (.d f.base.toNat) v⟩ : Flight)]).filter fun f => !decide (f.land ≤ x.count)) = x.flight := by
      rw [List.filter_append, hkeep, filter_one, hdue]
      exact List.append_nil _
    have hone : (x.flight ++ [(⟨x.count + 1 - 1, .scalar (.d f.base.toNat) v⟩ : Flight)]).filter (fun f => decide (f.land ≤ x.count)) =
        [⟨x.count, .scalar (.d f.base.toNat) v⟩] := by
      rw [List.filter_append, hnone, filter_one, hdue]
      rfl
    obtain ⟨y, hy, ⟨hgets, hd⟩, hyf, -⟩ :=
      Ctx.lands (ks := x.tokensUpDown f.token.toNat) hs rfl hkind hbars hbr hnest hstart rfl hrest hone (heffect hnow)
    refine ⟨y, hy, ?_, fun k => ?_, fun k => ?_, fun k => ?_⟩
    · rw [hgets]
      rfl
    · rw [hyf]
      exact hf k
    · rw [hgets]
      exact x.count_tokensUpDown _ k
    · rw [hd k, Ctx.dReg_passed hs hnest]
      exact ite_of_iff ⟨fun h => ⟨hps, h⟩, fun h => h.2⟩ _ _
  · rw [steppedFlight, if_neg hps] at hnow
    refine ⟨_, Ctx.passes (ks := x.tokensUpDown f.token.toNat) hs rfl hkind hbars hcalm hkeep (heffect hnow), rfl, hf, fun k => x.count_tokensUpDown _ k,
      fun k => ?_⟩
    rw [if_neg fun h => hps h.1]
    exact Ctx.dReg_passed hs hnest _ _ _ k

end frame

/-- Settles O20: the effect of the store is worked out on the state that its issue counts, step by step (what a translation fills, the post-step,
the write, the cache), and the bundle then changes its own context alone. -/
theorem storeFrame : Obligations.StoreFrame := by
  rintro s x f z base r l bs hs hcalm hg hpending hbars hlt rfl rfl hr hn hl rfl hkind
  obtain ⟨hglobal, hspad, hsram⟩ := Env.space_of_resolve hl
  have hcompletes := (storesIssue s x f (x.dReg f.base.toNat) hs rfl).1 (2 ^ f.size.toNat) r l hg rfl hlt hr hn hl
  obtain ⟨hstored, hctx, hothers⟩ := storeEffect_frame (v := SMap.get 0#64 (if f.file = 0#2 then x.a else x.b) f.reg.toNat) hs hpending hlt
    hglobal hspad hsram hkind
  have hbars' := (congrArg State.barWaits hstored.rest).trans hbars
  obtain ⟨y, ⟨⟨honly, hrest⟩, hself⟩, hy, hf, htok, hd⟩ := store_context hs hcalm hbars' hctx rfl
  have hframe := hstored.withCtxs (s.issued x (.st f) (some f.token.toNat)
    (storeEffect s x f r l (SMap.get 0#64 (if f.file = 0#2 then x.a else x.b) f.reg.toNat))).ctxs
  rw [← honly] at hframe
  exact ⟨_, y, _, hcompletes, hself, fun c hc => (hrest c hc).trans (hothers c hc), hy, hf, htok, hd, rfl, hframe.rest, hframe.uncached, hframe.others,
    hframe.performed, hframe.sent, hframe.posted, hframe.dies, hframe.views, hframe.cores, hframe.spads, hframe.clusters, hframe.srams, hframe.nearby⟩

end Sys2Proof.Machine
